-- ==== Sys2Proof/Word.lean ====
section
/-! DEFINITION. The words of the model: bytes, 32-bit parameter values and the byte memories of the program. -/

namespace Sys2Proof

/-- One byte. -/
abbrev Byte := BitVec 8

/-- A parameter value, a program value: 32 bits (12 R410, 10 R337). -/
abbrev Word := BitVec 32

/-- A byte string, first byte first. -/
abbrev Bytes := List (BitVec 8)

/-- A byte memory in canonical form: addresses strictly rising, no entry equal to 0, which an unlisted address reads as. -/
abbrev Memory := List (Nat × BitVec 8)

end Sys2Proof
end

