-- ==== Sys2Proof/Machine/Inputs.lean ====
section
/-! DEFINITION. What the commands bring with them from outside the block: host packet headers, the measured quantities
of a 125 µs sample, what a safety tick sees, frames of the train network and of the ring. Plain data. -/

namespace Sys2Proof

/-- The two halls (01 R19). -/
inductive HallId where
  | a
  | b
deriving DecidableEq, Repr

/-- The two receivers of a sense line (04 R117): primary, read by Hall A, and secondary, read by Hall B. -/
inductive RxSide where
  | primary
  | secondary
deriving DecidableEq, Repr

/-- The header of a host packet that has passed checks 1 to 6 of 12 R414. MAGIC, VERSION, OPCODE, LEN, STATUS and the CRC are those of
the command and its payload, so they are not repeated here. -/
structure Hdr where
  /-- arrived over SV; otherwise over UDP -/
  sv : Bool
  /-- source address and port; the one USB stream is 0 -/
  src : BitVec 48
  seq : BitVec 16
  session : BitVec 16
  /-- TARGET: ADDR and HALL -/
  addr : Byte
  hall : Byte
  /-- the MAC, present when FLAGS [1] AUTH is set -/
  mac : Option Bytes
deriving DecidableEq, Repr

/-- A host packet: its header and its payload. -/
structure Pkt where
  hdr : Hdr
  payload : Bytes
deriving DecidableEq, Repr

/-- A transition of a tread's switch node (03 R85): its direction, and the nanoseconds from the turn-off command of the outgoing switch to
the crossing of 90 % of the swing. One that has not crossed when DT_MAX expires has a time above DT_MAX. -/
structure TransIn where
  rising : Bool
  ns : Rat
deriving DecidableEq, Repr

/-- The quantities a 125 µs sample measures (01 R35, 03 R89, 04 R117, 05 R156). A unit that a list does not reach has the
default of its list: 0, false. -/
structure SampleIn where
  /-- front-end voltage, module current, hold-up bank voltage -/
  vin : Rat := 0
  iin : Rat := 0
  vhold : Rat := 0
  /-- baseplate temperature; the power of the logic (15 R507), substrate temperature of the storey dies -/
  baseplate : Rat := 25
  logicPower : Rat := 0
  dieTemp : List Rat := []
  storeyI : List Rat := []
  flightI : List Rat := []
  /-- voltage of the segments: that of the front end where the list does not reach -/
  segmentV : List Rat := []
  /-- tread currents as read, at this sample's current-loop tick, and at the four before it, newest first (03 R88); a tick that a list does
  not reach read what this one does -/
  treadI : List Rat := []
  treadIs : List (List Rat) := []
  /-- both junction temperatures of the treads -/
  tjHi : List Rat := []
  tjLo : List Rat := []
  /-- transitions of each tread's switch node since the last sample, and the rates of its edges in V/ns, oldest first (03 R85, R87) -/
  transitions : List (List TransIn) := []
  edges : List (List Rat) := []
  /-- the voltage (or current) at each receiver of the sense lines -/
  senseP : List Rat := []
  senseQ : List Rat := []
  /-- resistance in ohms of the module presence loop, and of each doorway's: a loop that the list does not reach is open -/
  mpres : Rat := 1000
  presence : List Rat := []
  /-- voltages of LH0 to LH7 -/
  lhPins : List Rat := []
  /-- secondary counts of Hall B's own counter of each port -/
  countB : List Int := []
  hallCode : List Nat := []
  encLimit : List Bool := []
  /-- ports with a used pair below 200 mV (04 R133) -/
  lineBad : List Bool := []
  reedA : List Bool := []
  reedB : List Bool := []
  /-- of windings A and B of each flight's stepper, in turn: for each on-phase of its chopper since the last sample, the nanoseconds from its
  start until the current reaches the set-point (05 R182) -/
  chop : List (List Rat) := []
  /-- core and I/O rail of each hall in volts; its PLL is locked (01 R22, R25) -/
  coreA : Rat := 4 / 5
  ioA : Rat := 33 / 10
  coreB : Rat := 4 / 5
  ioB : Rat := 33 / 10
  pllA : Bool := true
  pllB : Bool := true
deriving DecidableEq, Repr

/-- A transition of a position port's inputs (04 R132, R133, R135): its capture stamp, and whether the secondary receiver saw it too; of a
QUAD port its direction, and whether it is a valid transition; of a HALL port the code of U, V and W, bit 2 the first, and the microseconds
for which it has stood. -/
structure EdgeIn where
  up : Bool
  stamp : Nat
  valid : Bool := true
  secondary : Bool := true
  code : Nat := 0
  held : Rat := 10
deriving DecidableEq, Repr

/-- A hall's rails as its own supply monitor finds them, in volts (01 R22, R25). -/
structure RailsIn where
  hall : HallId
  core : Rat
  io : Rat
deriving DecidableEq, Repr

/-- A tread's switch at a junction temperature in °C (03 R95). -/
structure ThermalIn where
  tread : Nat
  tj : Rat
deriving DecidableEq, Repr

/-- What the boot finds (14 R465 to R467): whether each bank still reads as it was written, the calibration as it reads, the slot digests.
-/
structure BootIn where
  bankA0 : Bool := true
  bankA1 : Bool := true
  bankB0 : Bool := true
  bankB1 : Bool := true
  /-- the factory sector as it reads, Hall A's portion as it arrived, and the trims that each storey die holds after loading: where none
  is given, as written, passed and loaded (01 R33) -/
  calRead : Option (List (Nat × BitVec 32)) := none
  calReadA : Option (List (Nat × BitVec 32)) := none
  trimsRead : List (Option (List (Nat × BitVec 32))) := []
  activeGood : Bool := true
  /-- new firmware accepts the ACTIVE configuration (14 R480) -/
  configOk : Bool := true
  /-- the map of each flight in MRAM passes its check; a flight beyond the list passes -/
  mapsGood : List Bool := []
  /-- the gallery's store passes its checks, and its index does (11 R399, R402) -/
  storeGood : Bool := true
  indexGood : Bool := true
  contacts : BitVec 48 := 0
  /-- the boot follows a power-up; otherwise a commanded or firmware restart -/
  powerUp : Bool := true
deriving DecidableEq, Repr

/-- What a scrub or a program or erase finds of a NAND block (11 R406). -/
structure ScrubIn where
  block : Nat
  /-- largest number of corrected bits in one codeword -/
  bits : Nat
  failed : Bool
deriving DecidableEq, Repr

/-- Whether a word frame of the tick before arrived (08 R285). -/
inductive Delivery where
  | good
  | missing
  | corrupt
deriving DecidableEq, Repr

/-- What one DCL output shows at a tick (08 R273): the larger of the voltages across its two switches, and its current in milliamperes. -/
structure DclIn where
  volts : Rat := 0
  milliamps : Rat := 0
deriving DecidableEq, Repr

/-- What a safety tick sees (08 R261). -/
structure TickIn where
  toA : Delivery := .good
  toB : Delivery := .good
  /-- SE0 and SE1 differ in a result of this tick (08 R289) -/
  seDisagree : Bool := false
  /-- partner ticks measured in own clock periods, and Hall B's clock against the RC reference in percent (01 R36, R37) -/
  clkByA : Nat := 200000
  clkByB : Nat := 200000
  rcDev : Rat := 0
  /-- nanoseconds by which the last tick of each die differed from Hall A's pulse (01 R35) -/
  slips : List Rat := []
  /-- whether the heartbeats that the running halls sent have reached the storey dies (01 R30): one that a list does not reach has -/
  beatsA : List Bool := []
  beatsB : List Bool := []
  /-- the links on N1 and N2 are up (02 R56) -/
  links : List Bool := []
  dclA : DclIn := {}
  dclB : DclIn := {}
deriving DecidableEq, Repr

/-- A VSF frame as carried (09 R302): the 60 or 44 bytes as they arrive. -/
structure VsfIn where
  conn : Nat
  bytes : Bytes
deriving DecidableEq, Repr

/-- A TRDP process data telegram as received: the addresses of its datagram, and its bytes from the header on (09 R319, R321). -/
structure PdIn where
  srcIp : Word
  destIp : Word
  bytes : Bytes
deriving DecidableEq, Repr

/-- A ring frame as it arrives at port `port`: its header and slots, between the start and the end character (13 R449). -/
structure RingIn where
  port : Nat
  bytes : Bytes
  /-- nanoseconds by which its start character is later than this member's ticks expect it (13 R453, R458) -/
  err : Rat
deriving DecidableEq, Repr

/-- A member that discovery finds: address, cycle, declared entries, hop delay to the next, Hall B running (13 R444, R445). -/
structure RingMember where
  addr : Nat
  cycleMs : Nat
  nCh : Nat
  nSf : Nat
  /-- length of the hop from this member to the next on the route, in nanoseconds of cable delay -/
  hopNs : Rat
  /-- channels this member publishes -/
  chs : List Nat
deriving DecidableEq, Repr

/-- What forming discovers (13 R444, R445): whether the route closes, and the members in order: of a closed ring, from the head in the
direction of its E port; of a line, from the end on the side of the head's W port to the other. -/
structure FormIn where
  members : List RingMember
  closed : Bool
  /-- a module on the route announces that it is booting -/
  booting : Bool
  /-- nanoseconds of this member's phase error against the head (13 R454) -/
  phase : Rat
deriving DecidableEq, Repr

end Sys2Proof
end

