-- ==== Sys2Proof/Syntax.lean ====
section
/-! DEFINITION. The commands of the block: one constructor per row of the table of operations and events, in its order.
The operands say which unit the row concerns and what comes from outside; a host command carries its packet. -/

namespace Sys2Proof

inductive Instr where
  /-- SAFETY_TICK (R261) -/
  | safetyTick (i : TickIn)
  /-- BUDGET_STOP (R23) -/
  | budgetStop (lv : Nat)
  /-- HALL_SUPPLY_FAULT (R25) -/
  | hallSupplyFault (r : RailsIn)
  /-- HALL_CLOCK_FAULT (R36) -/
  | hallClockFault (h : HallId)
  /-- OWN_CLOCK_FAULT (R37) -/
  | ownClockFault
  /-- PLL_LOCK_LOSS (R25) -/
  | pllLockLoss (h : HallId)
  /-- ECC_UNCORRECTABLE (R32) -/
  | eccUncorrectable (h : HallId)
  /-- SRAM_SCRUB (R32) -/
  | sramScrub (h : HallId) (corrected : Nat) (setBad : Bool)
  /-- HALL_B_RETURN (R26) -/
  | hallBReturn
  /-- HALL_RESET_ASSERT (R30) -/
  | hallResetAssert (h : HallId)
  /-- HEARTBEAT_LOSS (R30) -/
  | heartbeatLoss (d : Nat) (h : HallId)
  /-- FLIGHT_ENABLE_LOW (R29) -/
  | flightEnableLow (f : Nat) (h : HallId)
  /-- LIMP_HOME_TAKEOVER (R72) -/
  | limpHomeTakeover (d : Nat)
  /-- LIMP_HOME_HANDBACK (R73) -/
  | limpHomeHandback
  /-- STOREY_BREAKER (R24) -/
  | storeyBreaker (u : Nat)
  /-- FLIGHT_PRESENCE_OPEN (R68) -/
  | flightPresenceOpen (f : Nat)
  /-- FLIGHT_PRESENCE_CLOSED (R69) -/
  | flightPresenceClosed (f : Nat)
  /-- MODULE_PRESENCE_OPEN (R67) -/
  | modulePresenceOpen
  /-- MODULE_PRESENCE_CLOSED (R67) -/
  | modulePresenceClosed
  /-- PRECHARGE (R66) -/
  | precharge (frontEnd : Rat) (battery : Rat)
  /-- PRECHARGE_TIMEOUT (R66) -/
  | prechargeTimeout
  /-- SUPPLY_UV (R62) -/
  | supplyUv
  /-- SUPPLY_UV_RESTART (R63) -/
  | supplyUvRestart
  /-- UV_CLEAR (R63) -/
  | uvClear (q : Hdr) (v : Word)
  /-- SUPPLY_OV (R64) -/
  | supplyOv
  /-- SUPPLY_OV_RELEASE (R64) -/
  | supplyOvRelease
  /-- SUPPLY_INTERRUPT (R59) -/
  | supplyInterrupt
  /-- SUPPLY_LOSS (R60) -/
  | supplyLoss
  /-- GROUND_LOSS (R58) -/
  | groundLoss
  /-- LH_PIN_CHANGE (R70) -/
  | lhPinChange (p : Nat)
  /-- TREAD_ILIM (R93) -/
  | treadIlim (t : Nat)
  /-- TREAD_PEAK_CLAMP (R92) -/
  | treadPeakClamp (t : Nat)
  /-- TREAD_THERMAL (R95) -/
  | treadThermal (m : ThermalIn)
  /-- TREAD_WIRE_TRIP (R96) -/
  | treadWireTrip (t : Nat)
  /-- TREAD_REARM (R101) -/
  | treadRearm (t : Nat)
  /-- TREAD_RETRY (R101) -/
  | treadRetry (t : Nat)
  /-- RETRY_COUNT_RESET (R103) -/
  | retryCountReset (t : Nat)
  /-- TREAD_CLEAR (R104) -/
  | treadClear (q : Hdr) (t : Nat) (v : Word)
  /-- TREAD_OPEN_LOAD (R99) -/
  | treadOpenLoad (t : Nat)
  /-- STOREY_RECLOSE (R108) -/
  | storeyReclose (q : Hdr) (u : Nat) (v : Word)
  /-- STOREY_STOP_CLEAR (R109) -/
  | storeyStopClear (q : Hdr) (u : Nat) (v : Word)
  /-- FLIGHT_STOP_CLEAR (R23) -/
  | flightStopClear (q : Hdr) (f : Nat) (v : Word)
  /-- SYS_STOP_CLEAR (R435) -/
  | sysStopClear (q : Hdr) (v : Word)
  /-- DEBOUNCED_CHANGE (R122) -/
  | debouncedChange (l : Nat) (r : RxSide)
  /-- CLEANING_PULSE (R120) -/
  | cleaningPulse (l : Nat)
  /-- CLEANING_PULSE_END (R120) -/
  | cleaningPulseEnd (l : Nat)
  /-- SENSE_TRACK_FENCE (R119) -/
  | senseTrackFence (l : Nat)
  /-- SENSE_RX_MISMATCH (R125) -/
  | senseRxMismatch (l : Nat)
  /-- SENSE_RX_MISMATCH_CLEAR (R125) -/
  | senseRxMismatchClear (l : Nat)
  /-- SENSE_LOOP_FAULT (R124) -/
  | senseLoopFault (l : Nat)
  /-- SENSE_OVER_RANGE (R124) -/
  | senseOverRange (l : Nat)
  /-- BURDEN_RECONNECT (R124) -/
  | burdenReconnect (l : Nat)
  /-- REED_INPUT_CHANGE (R137) -/
  | reedInputChange (p : Nat) (b : Bool)
  /-- PORT_EDGE (R132) -/
  | portEdge (p : Nat) (e : EdgeIn)
  /-- AUX_PULSE_END (R145) -/
  | auxPulseEnd (p : Nat)
  /-- ECHO_EDGE_OUT (R147) -/
  | echoEdgeOut (f : Nat) (stamp : Nat)
  /-- PORT_STANDSTILL (R132) -/
  | portStandstill (p : Nat)
  /-- PORT_LINE_FAULT (R133) -/
  | portLineFault (p : Nat)
  /-- PORT_HALL_INVALID (R135) -/
  | portHallInvalid (p : Nat)
  /-- SSI_FRAME (R136) -/
  | ssiFrame (p : Nat) (raw : Nat)
  /-- INDEX_EVENT (R139) -/
  | indexEvent (p : Nat)
  /-- PORT_RX_MISMATCH (R129) -/
  | portRxMismatch (p : Nat)
  /-- PORT_SUPPLY_FAULT (R138) -/
  | portSupplyFault (p : Nat)
  /-- SUPPLY_CLEAR (R138) -/
  | supplyClear (q : Hdr) (p : Nat) (v : Word)
  /-- PORT_COUNT_WRITE (R134) -/
  | portCountWrite (q : Hdr) (p : Nat) (v : Word)
  /-- PORT_COUNT_READ (R131) -/
  | portCountRead (q : Hdr) (p : Nat)
  /-- CMP_ARM (R143) -/
  | cmpArm (q : Hdr) (p : Nat) (e : Nat) (v : Word)
  /-- CMP_DISARM (R142) -/
  | cmpDisarm (q : Hdr) (p : Nat) (e : Nat) (v : Word)
  /-- CMP_HIT_CLR (R145) -/
  | cmpHitClr (q : Hdr) (p : Nat) (w : Nat) (v : Word)
  /-- MOTION_SAMPLE (R161) -/
  | motionSample (i : SampleIn)
  /-- MOVE_ABS (R166) -/
  | moveAbs (k : Pkt)
  /-- MOVE_REL (R166) -/
  | moveRel (k : Pkt)
  /-- MOVE_VEL (R166) -/
  | moveVel (k : Pkt)
  /-- STOP (R171) -/
  | stop (k : Pkt)
  /-- QUICK_STOP (R171) -/
  | quickStop (k : Pkt)
  /-- RELEASE (R165) -/
  | release (k : Pkt)
  /-- GEAR_ENGAGE (R185) -/
  | gearEngage (k : Pkt)
  /-- GEAR_DISENGAGE (R187) -/
  | gearDisengage (k : Pkt)
  /-- ENERGIZE (R183) -/
  | energize (k : Pkt)
  /-- DEENERGIZE (R183) -/
  | deenergize (k : Pkt)
  /-- COMM_LEARN (R160) -/
  | commLearn (k : Pkt)
  /-- AXIS_DEVIATION (R178) -/
  | axisDeviation (a : Nat)
  /-- AXIS_OVERSPEED (R179) -/
  | axisOverspeed (a : Nat)
  /-- AXIS_DECEL_WRITE (R172) -/
  | axisDecelWrite (q : Hdr) (a : Nat) (v : Word)
  /-- AXIS_POS_SET (R177) -/
  | axisPosSet (q : Hdr) (a : Nat) (v : Word)
  /-- AXIS_HOLD_TIMEOUT (R165) -/
  | axisHoldTimeout (a : Nat)
  /-- ALIGN_COMPLETE (R159) -/
  | alignComplete (a : Nat) (responses : List Rat)
  /-- EXTERNAL_STEP (R180): `at'` numbers the sample on which the line rose -/
  | externalStep (a : Nat) (at' : Nat)
  /-- STEPPER_HOLD_CURRENT (R182) -/
  | stepperHoldCurrent (a : Nat)
  /-- SOLENOID_PULL_END (R183) -/
  | solenoidPullEnd (a : Nat)
  /-- GEAR_MASTER_LOST (R188) -/
  | gearMasterLost (a : Nat)
  /-- PROGRAM_CYCLE_START (R328) -/
  | programCycleStart
  /-- PROGRAM_CYCLE_COMPLETE (R331) -/
  | programCycleComplete (us : Nat)
  /-- PROGRAM_STOP (R335) -/
  | programStop (q : Hdr) (v : Word)
  /-- PROGRAM_RESTART (R336) -/
  | programRestart (q : Hdr) (v : Word)
  /-- FORCE_SET (R363) -/
  | forceSet (k : Pkt)
  /-- FORCE_CLEAR (R363) -/
  | forceClear (k : Pkt)
  /-- FORCE_CLEAR_ALL (R366) -/
  | forceClearAll (q : Hdr) (v : Word)
  /-- PROG_BEGIN (R424) -/
  | progBegin (k : Pkt)
  /-- PROG_DATA (R424) -/
  | progData (k : Pkt)
  /-- PROG_END (R424) -/
  | progEnd (k : Pkt)
  /-- PROGRAM_VERIFIED (R367) -/
  | programVerified
  /-- PROG_SWITCH (R368) -/
  | progSwitch (k : Pkt)
  /-- SWITCH_ABANDONED (R368) -/
  | switchAbandoned
  /-- RPDO_RECEIVE (R359) -/
  | rpdoReceive (p : Nat) (id : Nat) (data : Bytes)
  /-- CAN_HEARTBEAT (R360) -/
  | canHeartbeat (p : Nat) (node : Nat) (nmt : Byte)
  /-- CAN_NODE_LOST (R360) -/
  | canNodeLost (n : Nat)
  /-- CAN_EMCY (R357) -/
  | canEmcy (p : Nat) (node : Nat) (data : Bytes)
  /-- CAN_ERROR_PASSIVE (R361) -/
  | canErrorPassive (p : Nat) (txErr : Nat) (rxErr : Nat)
  /-- CAN_BUS_OFF (R361) -/
  | canBusOff (p : Nat)
  /-- CAN_BUS_RECOVERED (R361) -/
  | canBusRecovered (p : Nat)
  /-- DOOR_OPEN (R201) -/
  | doorOpen (f : Nat)
  /-- DOOR_CLOSE (R201) -/
  | doorClose (f : Nat)
  /-- DOOR_STOP (R201) -/
  | doorStop (f : Nat)
  /-- ISOLATE (R207) -/
  | isolate (f : Nat)
  /-- DEISOLATE (R207) -/
  | deisolate (f : Nat)
  /-- DOOR_REFERENCE (R201) -/
  | doorReference (f : Nat)
  /-- RESET_FAULT (R210) -/
  | resetFault (f : Nat)
  /-- EGRESS (R208) -/
  | egress (f : Nat)
  /-- WARN_TIMEOUT (R203) -/
  | warnTimeout (f : Nat)
  /-- LOCK_NO_RELEASE (R201) -/
  | lockNoRelease (f : Nat)
  /-- LOCK_NOT_ENGAGED (R201) -/
  | lockNotEngaged (f : Nat)
  /-- CLOSED_NOT_CONFIRMED (R201) -/
  | closedNotConfirmed (f : Nat)
  /-- STEP_CONFIRM_TIMEOUT (R212) -/
  | stepConfirmTimeout (f : Nat)
  /-- EXTEND (R212) -/
  | extend (f : Nat)
  /-- RETRACT (R212) -/
  | retract (f : Nat)
  /-- STEP_STOP (R212) -/
  | stepStop (f : Nat)
  /-- STEP_REFERENCE (R215) -/
  | stepReference (f : Nat)
  /-- STEP_RESET (R212) -/
  | stepReset (f : Nat)
  /-- LOCK_RELEASE (R213) -/
  | lockRelease (f : Nat)
  /-- ENGAGE (R213) -/
  | engage (f : Nat)
  /-- LOCK_RESET (R213) -/
  | lockReset (f : Nat)
  /-- REFERENCE_START (R223) -/
  | referenceStart (f : Nat)
  /-- HARDSTOP_FOUND (R216) -/
  | hardstopFound (f : Nat)
  /-- HARDSTOP_RELEASE_END (R216) -/
  | hardstopReleaseEnd (f : Nat)
  /-- OBSTACLE_DETECTED (R247) -/
  | obstacleDetected (f : Nat)
  /-- REVERSAL_START (R248) -/
  | reversalStart (f : Nat)
  /-- RECLOSE_ATTEMPT (R249) -/
  | recloseAttempt (f : Nat)
  /-- START_MARGIN_END (R242) -/
  | startMarginEnd (f : Nat)
  /-- LEARN_UPDATE (R238) -/
  | learnUpdate (f : Nat)
  /-- LEARN_CONFIRM_TIMEOUT (R234) -/
  | learnConfirmTimeout (f : Nat)
  /-- OBSTACLE_COMMISSION (R236) -/
  | obstacleCommission (q : Hdr) (f : Nat) (v : Word)
  /-- COMMISSION_ABORT (R236) -/
  | commissionAbort (q : Hdr) (f : Nat) (v : Word)
  /-- MAP_RESTORE (R239) -/
  | mapRestore (q : Hdr) (f : Nat) (v : Word)
  /-- TEMP_IN_WRITE (R230) -/
  | tempInWrite (q : Hdr) (f : Nat) (v : Word)
  /-- TEMP_IN_TIMEOUT (R230) -/
  | tempInTimeout (f : Nat)
  /-- DISCREPANCY (R264) -/
  | discrepancy (n : Nat)
  /-- DISCREPANCY_CLEARED (R265) -/
  | discrepancyCleared (n : Nat)
  /-- DCL_CONDUCT (R270) -/
  | dclConduct (o : Nat)
  /-- DCL_OFFLINE_TEST (R271) -/
  | dclOfflineTest (o : Nat) (ma1 : Rat) (ma2 : Rat)
  /-- DCL_TEST_PULSE (R272) -/
  | dclTestPulse (o : Nat) (sw : Nat) (ma : Rat)
  /-- DCL_INHIBIT (R274) -/
  | dclInhibit
  /-- PERMISSION_GRANT (R276) -/
  | permissionGrant (f : Nat)
  /-- RESET_EDGE (R280) -/
  | resetEdge
  /-- RESET_HELD (R280) -/
  | resetHeld
  /-- RESET_STUCK_CLEAR (R281) -/
  | resetStuckClear
  /-- SAFETY_RESET_REQ (R279) -/
  | safetyResetReq (q : Hdr) (v : Word)
  /-- WORD_MISMATCH_LIMIT (R285) -/
  | wordMismatchLimit (h : HallId)
  /-- MODE_TRANSITION (R286) -/
  | modeTransition
  /-- SEAL_READ (R55) -/
  | sealRead (contacts : BitVec 48)
  /-- VSF_SEND (R306) -/
  | vsfSend (c : Nat)
  /-- VSF_FRAME_RECEIVE (R308) -/
  | vsfFrameReceive (r : VsfIn)
  /-- SAFELINK_SILENCE_TIMEOUT (R309) -/
  | safelinkSilenceTimeout (c : Nat)
  /-- SAFELINK_EXPIRED (R310) -/
  | safelinkExpired (c : Nat)
  /-- TRDP_PD_RECEIVE (R321) -/
  | trdpPdReceive (r : PdIn)
  /-- TRDP_SUB_TIMEOUT (R321) -/
  | trdpSubTimeout (n : Nat)
  /-- EVENT_INTAKE (R392) -/
  | eventIntake
  /-- RECORD_WINDOW_END (R392) -/
  | recordWindowEnd
  /-- QUEUE_TAKE (R392) -/
  | queueTake
  /-- EVENTS_LOST (R395) -/
  | eventsLost
  /-- PAGE_PROGRAM (R396) -/
  | pageProgram
  /-- COMPACTION_STEP (R396) -/
  | compactionStep
  /-- TRACE_WRITE (R387) -/
  | traceWrite (f : Nat)
  /-- COUNTER_PERSIST (R380) -/
  | counterPersist
  /-- GALLERY_FAILED (R400) -/
  | galleryFailed (cause : Nat) (arg : Nat)
  /-- INDEX_REBUILT (R399) -/
  | indexRebuilt
  /-- NAND_SCRUB (R406) -/
  | nandScrub (r : ScrubIn)
  /-- ALCOVE_CLEAR (R402) -/
  | alcoveClear (q : Hdr) (v : Word)
  /-- OPTIME_READ (R407) -/
  | optimeRead (q : Hdr)
  /-- FLOOD_MODE_WRITE (R393) -/
  | floodModeWrite (q : Hdr) (v : Word)
  /-- HELLO (R417) -/
  | hello (k : Pkt)
  /-- AUTH (R417) -/
  | auth (k : Pkt)
  /-- LOCKOUT_END (R419) -/
  | lockoutEnd (sv : Bool)
  /-- AUTH_TIMEOUT (R417) -/
  | authTimeout (n : BitVec 16)
  /-- CLOSE (R420) -/
  | close (k : Pkt)
  /-- SESSION_TIMEOUT (R420) -/
  | sessionTimeout (n : BitVec 16)
  /-- USB_DETACH (R434) -/
  | usbDetach
  /-- FRAGMENT_TIMEOUT (R413) -/
  | fragmentTimeout (src : BitVec 48) (ident : BitVec 16)
  /-- KEEPALIVE (R422) -/
  | keepalive (k : Pkt)
  /-- IDENTIFY (R422) -/
  | identify (k : Pkt)
  /-- PAR_READ (R425) -/
  | parRead (k : Pkt)
  /-- PAR_WRITE (R427) -/
  | parWrite (k : Pkt)
  /-- PAR_READ_ARRAY (R422) -/
  | parReadArray (k : Pkt)
  /-- PAR_INFO (R422) -/
  | parInfo (k : Pkt)
  /-- GAL_READ (R403) -/
  | galRead (k : Pkt)
  /-- GAL_TRACE_READ (R403) -/
  | galTraceRead (k : Pkt)
  /-- STAGE_BEGIN (R424) -/
  | stageBegin (k : Pkt)
  /-- STAGE_DATA (R424) -/
  | stageData (k : Pkt)
  /-- STAGE_END (R474) -/
  | stageEnd (k : Pkt)
  /-- TRANSFER_ABANDON (R424) -/
  | transferAbandon (kind : Nat)
  /-- ACTIVATE (R475) -/
  | activate (k : Pkt)
  /-- ROLLBACK (R476) -/
  | rollback (k : Pkt)
  /-- ACTIVATION_TICK (R475) -/
  | activationTick
  /-- SLOT_INFO (R422) -/
  | slotInfo (k : Pkt)
  /-- ATTEST_CHALLENGE (R489) -/
  | attestChallenge (k : Pkt)
  /-- ATTEST_SIGNED (R489) -/
  | attestSigned
  /-- ATTEST_CONTINUATION (R489) -/
  | attestContinuation (k : Pkt)
  /-- CERT_READ (R422) -/
  | certRead (k : Pkt)
  /-- HOST_KEY_SET (R421) -/
  | hostKeySet (k : Pkt)
  /-- HOST_KEY_REVOKE (R421) -/
  | hostKeyRevoke (k : Pkt)
  /-- MODE_REQUEST_STANDBY (R471) -/
  | modeRequestStandby (k : Pkt)
  /-- MODE_REQUEST_RUN (R471) -/
  | modeRequestRun (k : Pkt)
  /-- MODE_REQUEST_MAINTENANCE (R471) -/
  | modeRequestMaintenance (k : Pkt)
  /-- MODE_REQUEST_UPDATE (R471) -/
  | modeRequestUpdate (k : Pkt)
  /-- RESTART_HALL_A (R422) -/
  | restartHallA (k : Pkt)
  /-- RESTART_MODULE (R480) -/
  | restartModule (k : Pkt)
  /-- RESTART_BEGIN (R422) -/
  | restartBegin
  /-- CAL_CHECK (R422) -/
  | calCheck (k : Pkt)
  /-- CAL_TRIM_WRITE (R487) -/
  | calTrimWrite (q : Hdr) (pid : Nat) (v : Word)
  /-- CAL_CLEAR_ALL (R495) -/
  | calClearAll (q : Hdr) (v : Word)
  /-- RING_LINK_UP (R441) -/
  | ringLinkUp (p : Nat) (roundTrip : Rat) (eq : Nat)
  /-- RING_TRAINING_RETRY (R441) -/
  | ringTrainingRetry (p : Nat)
  /-- RING_PORT_DOWN (R441) -/
  | ringPortDown (p : Nat) (violations : Nat)
  /-- RING_FORM_TRIGGER (R444) -/
  | ringFormTrigger
  /-- RING_REFORM (R444) -/
  | ringReform (q : Hdr) (v : Word)
  /-- FORM_WAIT_END (R444) -/
  | formWaitEnd (r : FormIn)
  /-- RING_FRAME (R448) -/
  | ringFrame (r : RingIn)
  /-- RING_LOST (R458) -/
  | ringLost (cause : Nat)
  /-- BOOT (R464) -/
  | boot (b : BootIn)
  /-- BOOT_COMPLETE (R469) -/
  | bootComplete (fails : List Nat)
  /-- FW_TRIAL_TIMEOUT (R480) -/
  | fwTrialTimeout
  /-- DOOR_CMD (R196) -/
  | doorCmd (k : Pkt)
  /-- HALL_A_RETURN (R285) -/
  | hallAReturn
  /-- ENGINE_WATCHDOG (R435) -/
  | engineWatchdog (h : HallId)
  /-- GALLERY_FAILED_REPEAT (R400) -/
  | galleryFailedRepeat
  /-- HOST_PACKET_REJECTED (R414) -/
  | hostPacketRejected (sv : Bool) (src : BitVec 48) (raw : Bytes)
  /-- RING_SIGNAL_DETECT (R441) -/
  | ringSignalDetect (p : Nat)
  /-- SWITCH_FRAME_FORWARD (R315) -/
  | switchFrameForward (p : Nat) (frame : Bytes)
  /-- ARP_ICMP_REQUEST (R317) -/
  | arpIcmpRequest (frame : Bytes)
  /-- GROUND_RETURN (R58) -/
  | groundReturn
  /-- L_PD_LOSS (R75) -/
  | lPdLoss (d : Nat)
  /-- L_PD_RESTORED (R98) -/
  | lPdRestored (d : Nat)
deriving DecidableEq, Repr

end Sys2Proof
end

