-- ==== Sys2Proof/Config.lean ====
section
/-! DEFINITION. What the spec leaves open: free values, constants without a body. Nothing in Lean can evaluate them, so
every claim about the machine holds whatever they are. -/

namespace Sys2Proof.Config

/-- Thresholds of the part that 02 R57 and 03 R95 bound and do not fix; the model clamps each to its stated bounds: the overvoltage
trip, the supply-valid thresholds rising and falling, the thermal shutdown and re-arm. DESIGN CHOICE (log 6). -/
opaque ovTrip : Rat
opaque validRise : Rat
opaque validFall : Rat
opaque shutTemp : Rat
opaque rearmTemp : Rat

/-- The dead time of a tread before its first measured transition, which 03 R85 does not give; the model clamps it to DT_MIN and DT_MAX.
DESIGN CHOICE (log 82). -/
opaque firstDead : Nat → Rat

/-- The n-th 32-bit value drawn where the spec leaves a value open. DESIGN CHOICE (log 4). -/
opaque freeWord : Nat → BitVec 32

/-- The n-th choice between two outcomes that the spec leaves open. DESIGN CHOICE (log 4). -/
opaque freeBool : Nat → Bool

/-- The n-th number drawn where the spec bounds a value and does not state it; the model clamps it to the stated bounds.
DESIGN CHOICE (log 12). -/
opaque freeRat : Nat → Rat

/-- Byte k of the n-th random string drawn from KE's DRBG (12 R417). DESIGN CHOICE (log 10). -/
opaque drbg : Nat → Nat → BitVec 8

/-- The CRC of a friction map, whose bytes the spec does not lay out (07 R234, 11 R387). DESIGN CHOICE (log 13). -/
opaque mapCrc : List Rat → BitVec 32

/-- The SHA-256 of the factory calibration sector with given values, whose bytes the spec does not lay out (01 R33, 12 R422). DESIGN CHOICE
(log 99). -/
opaque calSha : List (Nat × BitVec 32) → List (BitVec 8)

/-- The module's Ethernet address, which the spec does not state. DESIGN CHOICE (log 14). -/
opaque macAddr : BitVec 48

/-- The Ethernet address that address resolution finds for a station of the train network, the n-th identification and the TTL of the packets
that LE sends: the spec states none of them. DESIGN CHOICE (log 95). -/
opaque stationMac : BitVec 32 → BitVec 48
opaque ipIdent : Nat → BitVec 16
opaque ipTtl : BitVec 8

/-- The verification of an SLH-DSA signature (FIPS 205): key, message, signature. DESIGN CHOICE (log 11). -/
opaque slhVerify : List (BitVec 8) → List (BitVec 8) → List (BitVec 8) → Bool

/-- The SLH-DSA signature of the module's identity key over a message (14 R488, R490): 17 088 bytes. DESIGN CHOICE (log 11). -/
opaque slhSign : List (BitVec 8) → Nat → BitVec 8

/-- The coefficients of a storey die's loss model, which factory test calibrates (03 R107): the on-resistance at 25 °C in ohms and its
share per kelvin, the forward voltage of a diode, the gate power at 100 kHz in watts. DESIGN CHOICE (log 82). -/
opaque lossRon : Nat → Rat
opaque lossRonTemp : Nat → Rat
opaque lossDiode : Nat → Rat
opaque lossGate : Nat → Rat

/-- The next gate current of a tread (03 R87), from the present one, the rate of the edge before and the target. DESIGN CHOICE (log 82). -/
opaque gateDrive : Rat → Rat → Rat → Rat

/-- What the RUN LED shows in SAFE_HOLD, for which 02 R56 gives no indication. DESIGN CHOICE (log 72). -/
opaque runLedInHold : Nat

/-- TREAD.WIRE_X with the wire model off, a share of a rated current of 0 (03 R97, R110), from x. DESIGN CHOICE (log 15). -/
opaque offShare : Rat → BitVec 32

/-- Bits that the ECC of the gallery's NAND corrects in one codeword, which 11 R406 does not state. DESIGN CHOICE (log 85). -/
opaque eccStrength : Nat

/-- How many frames of a cycle start a CAN bus lets through before the next one (10 R358). DESIGN CHOICE (log 94). -/
opaque canOut : Nat → Nat

/-- The equaliser setting that a ring port has tracked to (13 R441): port, setting at link-up, time. DESIGN CHOICE (log 96). -/
opaque ringEq : Nat → Nat → Nat → Nat

end Sys2Proof.Config
end

