-- ==== Sys2Proof/Machine/Events.lean ====
section
/-! DEFINITION. The event codes of the spec with their fixed severities (11 R389). -/

namespace Sys2Proof.Machine

/-- An event code and its severity: 0 DEBUG, 1 INFO, 2 NOTICE, 3 WARNING, 4 FAULT, 5 SAFETY (11 R389). -/
structure EvCode where
  code : Nat
  sev : Nat
deriving DecidableEq, Repr

namespace Evt

/-- DIE_FOLDBACK (01 R22). -/
def dieFoldback : EvCode := ⟨0x0101, 3⟩
/-- HALL_CLOCK_FAULT (01 R22). -/
def hallClockFault : EvCode := ⟨0x0102, 5⟩
/-- HALL_SUPPLY_FAULT (01 R22). -/
def hallSupplyFault : EvCode := ⟨0x0103, 5⟩
/-- DIE_BUDGET_STOP (03 R109). -/
def dieBudgetStop : EvCode := ⟨0x0104, 4⟩
/-- ECC_UNCORRECTABLE (01 R32). -/
def eccUncorrectable : EvCode := ⟨0x0105, 5⟩
/-- TICK_SLIP (01 R35). -/
def tickSlip : EvCode := ⟨0x0106, 3⟩
/-- MODE_CHANGED (14 R496). -/
def modeChanged : EvCode := ⟨0x0107, 1⟩
/-- BOOT_COMPLETE (14 R496). -/
def bootComplete : EvCode := ⟨0x0108, 1⟩
/-- MODULE_FOLDBACK (01 R22). -/
def moduleFoldback : EvCode := ⟨0x0301, 3⟩
/-- MODULE_THERMAL_FOLDBACK (01 R22). -/
def moduleThermalFoldback : EvCode := ⟨0x0302, 3⟩
/-- MODULE_BUDGET_STOP (01 R22). -/
def moduleBudgetStop : EvCode := ⟨0x0303, 4⟩
/-- SUPPLY_UV (02 R78). -/
def supplyUv : EvCode := ⟨0x0304, 3⟩
/-- SUPPLY_UV_RESTART (02 R78). -/
def supplyUvRestart : EvCode := ⟨0x0305, 2⟩
/-- SUPPLY_OV (02 R78). -/
def supplyOv : EvCode := ⟨0x0306, 3⟩
/-- SUPPLY_INTERRUPT (02 R78). -/
def supplyInterrupt : EvCode := ⟨0x0307, 2⟩
/-- SUPPLY_LOSS (02 R78). -/
def supplyLoss : EvCode := ⟨0x0308, 3⟩
/-- HOLDUP_LOW (02 R78). -/
def holdupLow : EvCode := ⟨0x0309, 3⟩
/-- GROUND_LOSS (02 R78). -/
def groundLoss : EvCode := ⟨0x030A, 4⟩
/-- LIMP_HOME_EPISODE (02 R78). -/
def limpHomeEpisode : EvCode := ⟨0x030B, 3⟩
/-- MODULE_PRESENCE_OPEN (02 R78). -/
def modulePresenceOpen : EvCode := ⟨0x030C, 4⟩
/-- MODULE_THERMAL_STOP (01 R22). -/
def moduleThermalStop : EvCode := ⟨0x030D, 4⟩
/-- TREAD_ILIM (01 R22). -/
def treadIlim : EvCode := ⟨0x1001, 2⟩
/-- TREAD_THERMAL (01 R22). -/
def treadThermal : EvCode := ⟨0x1002, 3⟩
/-- TREAD_WIRE_TRIP (01 R22). -/
def treadWireTrip : EvCode := ⟨0x1003, 3⟩
/-- TREAD_LATCHED_OFF (01 R22). -/
def treadLatchedOff : EvCode := ⟨0x1004, 4⟩
/-- TREAD_PEAK_CLAMP (03 R92). -/
def treadPeakClamp : EvCode := ⟨0x1005, 2⟩
/-- TREAD_RETRY (03 R101). -/
def treadRetry : EvCode := ⟨0x1006, 2⟩
/-- TREAD_CLEARED (03 R104). -/
def treadCleared : EvCode := ⟨0x1007, 1⟩
/-- TREAD_OPEN_LOAD (03 R99). -/
def treadOpenLoad : EvCode := ⟨0x1009, 2⟩
/-- TREAD_SENSE_FAULT (03 R90). -/
def treadSenseFault : EvCode := ⟨0x100A, 4⟩
/-- FLIGHT_FOLDBACK (01 R22). -/
def flightFoldback : EvCode := ⟨0x1101, 3⟩
/-- FLIGHT_PRESENCE_OPEN (01 R22). -/
def flightPresenceOpen : EvCode := ⟨0x1102, 4⟩
/-- FLIGHT_BUDGET_STOP (01 R22). -/
def flightBudgetStop : EvCode := ⟨0x1103, 4⟩
/-- FLIGHT_PRESENCE_CLOSED (02 R69). -/
def flightPresenceClosed : EvCode := ⟨0x1104, 2⟩
/-- DOOR_FAULT (06 R226). -/
def doorFault : EvCode := ⟨0x1105, 4⟩
/-- DOOR_ISOLATED (06 R226). -/
def doorIsolated : EvCode := ⟨0x1106, 2⟩
/-- DOOR_DEISOLATED (06 R226). -/
def doorDeisolated : EvCode := ⟨0x1107, 1⟩
/-- DOOR_EGRESS (06 R226). -/
def doorEgress : EvCode := ⟨0x1108, 3⟩
/-- DOOR_REFERENCED (06 R226). -/
def doorReferenced : EvCode := ⟨0x1109, 1⟩
/-- HOME_LIMIT_CHATTER (06 R226). -/
def homeLimitChatter : EvCode := ⟨0x110A, 4⟩
/-- HOME_NOT_FOUND (06 R226). -/
def homeNotFound : EvCode := ⟨0x110B, 4⟩
/-- HOME_INDEX_MISSING (06 R226). -/
def homeIndexMissing : EvCode := ⟨0x110C, 4⟩
/-- DOOR_GAVE_UP (06 R226). -/
def doorGaveUp : EvCode := ⟨0x110D, 3⟩
/-- STOREY_FOLDBACK (01 R22). -/
def storeyFoldback : EvCode := ⟨0x1201, 3⟩
/-- STOREY_BREAKER (01 R22). -/
def storeyBreaker : EvCode := ⟨0x1202, 4⟩
/-- STOREY_BUDGET_STOP (01 R22). -/
def storeyBudgetStop : EvCode := ⟨0x1203, 4⟩
/-- STOREY_BREAKER_RECLOSED (03 R108). -/
def storeyBreakerReclosed : EvCode := ⟨0x1204, 2⟩
/-- SENSE_RX_MISMATCH (04 R125). -/
def senseRxMismatch : EvCode := ⟨0x1801, 4⟩
/-- SENSE_TRACK_FENCE (04 R119). -/
def senseTrackFence : EvCode := ⟨0x1802, 3⟩
/-- SENSE_LOOP_FAULT (04 R124). -/
def senseLoopFault : EvCode := ⟨0x1803, 3⟩
/-- SENSE_OVER_RANGE (04 R124). -/
def senseOverRange : EvCode := ⟨0x1804, 2⟩
/-- INDEX_SLIP (04 R140). -/
def indexSlip : EvCode := ⟨0x2001, 3⟩
/-- INDEX_RESYNC (04 R140). -/
def indexResync : EvCode := ⟨0x2002, 3⟩
/-- COMPARE_STALE (04 R144). -/
def compareStale : EvCode := ⟨0x2003, 2⟩
/-- COMPARE_LATE (04 R144). -/
def compareLate : EvCode := ⟨0x2004, 2⟩
/-- PORT_QUAD_ERROR (04 R133). -/
def portQuadError : EvCode := ⟨0x2005, 3⟩
/-- PORT_LINE_FAULT (04 R133). -/
def portLineFault : EvCode := ⟨0x2006, 4⟩
/-- PORT_HALL_INVALID (04 R135). -/
def portHallInvalid : EvCode := ⟨0x2007, 3⟩
/-- SSI_FRAME_ERROR (04 R136). -/
def ssiFrameError : EvCode := ⟨0x2008, 3⟩
/-- PORT_RX_MISMATCH (04 R129). -/
def portRxMismatch : EvCode := ⟨0x2009, 4⟩
/-- PORT_SUPPLY_FAULT (04 R138). -/
def portSupplyFault : EvCode := ⟨0x200A, 4⟩
/-- ECHO_OVERRUN (04 R147). -/
def echoOverrun : EvCode := ⟨0x200B, 3⟩
/-- PORT_SSI_FAULT (04 R152). -/
def portSsiFault : EvCode := ⟨0x200C, 4⟩
/-- AXIS_DEVIATION (05 R178). -/
def axisDeviation : EvCode := ⟨0x2101, 4⟩
/-- PROFILE_DECEL_HELD (05 R172). -/
def profileDecelHeld : EvCode := ⟨0x2102, 2⟩
/-- AXIS_FAULT_STOP (05 R173). -/
def axisFaultStop : EvCode := ⟨0x2103, 3⟩
/-- AXIS_POS_UNCERTAIN (05 R191). -/
def axisPosUncertain : EvCode := ⟨0x2104, 3⟩
/-- AXIS_SOFT_LIMIT (05 R179). -/
def axisSoftLimit : EvCode := ⟨0x2105, 3⟩
/-- AXIS_OVERSPEED (05 R179). -/
def axisOverspeed : EvCode := ⟨0x2106, 4⟩
/-- GEAR_MASTER_LOST (05 R188). -/
def gearMasterLost : EvCode := ⟨0x2107, 4⟩
/-- GEAR_RATIO_CHANGED (05 R186). -/
def gearRatioChanged : EvCode := ⟨0x2108, 1⟩
/-- COMM_REFINED (05 R159). -/
def commRefined : EvCode := ⟨0x2109, 1⟩
/-- PROFILE_OVERSHOOT (05 R170). -/
def profileOvershoot : EvCode := ⟨0x210A, 2⟩
/-- AXIS_POS_SET (05 R177). -/
def axisPosSet : EvCode := ⟨0x210B, 1⟩
/-- COMM_FAULT (05 R160). -/
def commFault : EvCode := ⟨0x210C, 4⟩
/-- OBSTACLE_DETECTED (07 R259). -/
def obstacleDetected : EvCode := ⟨0x2801, 2⟩
/-- OBST_MAP_DRIFT (07 R259). -/
def obstMapDrift : EvCode := ⟨0x2802, 3⟩
/-- OBST_COMMISSIONED (07 R259). -/
def obstCommissioned : EvCode := ⟨0x2803, 1⟩
/-- OBST_COMMISSION_FAIL (07 R259). -/
def obstCommissionFail : EvCode := ⟨0x2804, 3⟩
/-- OBST_MAP_INVALID (07 R259). -/
def obstMapInvalid : EvCode := ⟨0x2805, 3⟩
/-- OBST_TEMP_INVALID (07 R259). -/
def obstTempInvalid : EvCode := ⟨0x2806, 2⟩
/-- OBST_EDGE_FAULT (07 R259). -/
def obstEdgeFault : EvCode := ⟨0x2807, 3⟩
/-- OBST_MAP_RESTORED (07 R259). -/
def obstMapRestored : EvCode := ⟨0x2808, 1⟩
/-- OBST_MAP_MATURE (07 R259). -/
def obstMapMature : EvCode := ⟨0x2809, 1⟩
/-- PROGRAM_STARTED (10 R336). -/
def programStarted : EvCode := ⟨0x3001, 1⟩
/-- PROGRAM_OVERRUN (10 R331). -/
def programOverrun : EvCode := ⟨0x3002, 3⟩
/-- PROGRAM_HUNG (10 R332). -/
def programHung : EvCode := ⟨0x3003, 4⟩
/-- PROGRAM_ESCALATED (10 R333). -/
def programEscalated : EvCode := ⟨0x3004, 4⟩
/-- PROGRAM_STOPPED (10 R377). -/
def programStopped : EvCode := ⟨0x3005, 2⟩
/-- PROGRAM_SWITCHED (10 R368). -/
def programSwitched : EvCode := ⟨0x3006, 2⟩
/-- PROGRAM_SWITCH_REFUSED (10 R371). -/
def programSwitchRefused : EvCode := ⟨0x3007, 3⟩
/-- PROGRAM_ARITH_ERROR (10 R342). -/
def programArithError : EvCode := ⟨0x3008, 2⟩
/-- FORCE_SET (10 R365). -/
def forceSet : EvCode := ⟨0x3101, 2⟩
/-- FORCE_CLEARED (10 R365). -/
def forceCleared : EvCode := ⟨0x3102, 2⟩
/-- FORCE_DROPPED (10 R370). -/
def forceDropped : EvCode := ⟨0x3103, 3⟩
/-- FORCE_ALL_CLEARED (10 R366). -/
def forceAllCleared : EvCode := ⟨0x3104, 2⟩
/-- SAFE_HOLD_ENTERED (08 R290). -/
def safeHoldEntered : EvCode := ⟨0x3801, 5⟩
/-- SAFE_HOLD_LEFT (08 R292). -/
def safeHoldLeft : EvCode := ⟨0x3802, 2⟩
/-- DISCREPANCY (08 R264). -/
def discrepancy : EvCode := ⟨0x3803, 5⟩
/-- DISCREPANCY_CLEARED (08 R265). -/
def discrepancyCleared : EvCode := ⟨0x3804, 2⟩
/-- DCL_OPEN_MOVING (08 R275). -/
def dclOpenMoving : EvCode := ⟨0x3805, 3⟩
/-- DCL_TEST_FAULT (08 R271). -/
def dclTestFault : EvCode := ⟨0x3806, 5⟩
/-- DCL_READBACK_FAULT (08 R273). -/
def dclReadbackFault : EvCode := ⟨0x3807, 5⟩
/-- RESET_ACCEPTED (08 R282). -/
def resetAccepted : EvCode := ⟨0x3808, 1⟩
/-- RESET_HELD (08 R280). -/
def resetHeld : EvCode := ⟨0x3809, 3⟩
/-- RESET_STUCK (08 R281). -/
def resetStuck : EvCode := ⟨0x380A, 3⟩
/-- RESET_REFUSED (08 R282). -/
def resetRefused : EvCode := ⟨0x380B, 2⟩
/-- SEAL_MISMATCH (08 R294). -/
def sealMismatch : EvCode := ⟨0x380C, 5⟩
/-- SEAL_CHANGED (08 R294). -/
def sealChanged : EvCode := ⟨0x380D, 2⟩
/-- MON_FAULT (08 R288). -/
def monFault : EvCode := ⟨0x380E, 5⟩
/-- SE_DISAGREE (08 R289). -/
def seDisagree : EvCode := ⟨0x380F, 5⟩
/-- MODE_PROPOSAL_FAILED (08 R286). -/
def modeProposalFailed : EvCode := ⟨0x3810, 2⟩
/-- ENABLE_WITHDRAWN (08 R290). -/
def enableWithdrawn : EvCode := ⟨0x3811, 5⟩
/-- EGRESS_ACTIVE (08 R278). -/
def egressActive : EvCode := ⟨0x3812, 5⟩
/-- EGRESS_ENDED (08 R278). -/
def egressEnded : EvCode := ⟨0x3813, 2⟩
/-- HALL_WORD_MISMATCH (08 R285). -/
def hallWordMismatch : EvCode := ⟨0x3814, 3⟩
/-- SELF_TEST_FAIL (14 R496). -/
def selfTestFail : EvCode := ⟨0x3815, 5⟩
/-- SAFELINK_OPENED (09 R326). -/
def safelinkOpened : EvCode := ⟨0x3901, 1⟩
/-- SAFELINK_EXPIRED (09 R326). -/
def safelinkExpired : EvCode := ⟨0x3902, 3⟩
/-- SAFELINK_RESTART (09 R326). -/
def safelinkRestart : EvCode := ⟨0x3903, 2⟩
/-- SAFELINK_FRAME_ERROR (09 R326). -/
def safelinkFrameError : EvCode := ⟨0x3904, 2⟩
/-- SAFELINK_ID_ERROR (09 R326). -/
def safelinkIdError : EvCode := ⟨0x3905, 3⟩
/-- EVENTS_LOST (11 R409). -/
def eventsLost : EvCode := ⟨0x4001, 3⟩
/-- GALLERY_FAILED (11 R400). -/
def galleryFailed : EvCode := ⟨0x4002, 4⟩
/-- CYCLES_PAUSED (11 R400). -/
def cyclesPaused : EvCode := ⟨0x4003, 3⟩
/-- GALLERY_RECOVERED (11 R402). -/
def galleryRecovered : EvCode := ⟨0x4004, 2⟩
/-- RECORDS_DROPPED (11 R409). -/
def recordsDropped : EvCode := ⟨0x4005, 2⟩
/-- AREA_WRAPPED (11 R409). -/
def areaWrapped : EvCode := ⟨0x4006, 2⟩
/-- INDEX_REBUILT (11 R409). -/
def indexRebuilt : EvCode := ⟨0x4007, 2⟩
/-- BLOCK_RETIRED (11 R409). -/
def blockRetired : EvCode := ⟨0x4008, 1⟩
/-- WEAR_WARNING (11 R409). -/
def wearWarning : EvCode := ⟨0x4009, 3⟩
/-- ALCOVE_CLEARED (11 R409). -/
def alcoveCleared : EvCode := ⟨0x400A, 1⟩
/-- HOST_SESSION_OPENED (12 R439). -/
def hostSessionOpened : EvCode := ⟨0x4801, 1⟩
/-- HOST_SESSION_CLOSED (12 R439). -/
def hostSessionClosed : EvCode := ⟨0x4802, 1⟩
/-- HOST_AUTH_FAIL (12 R439). -/
def hostAuthFail : EvCode := ⟨0x4803, 3⟩
/-- HOST_LOCKOUT (12 R439). -/
def hostLockout : EvCode := ⟨0x4804, 3⟩
/-- HOST_KEY_SET (12 R439). -/
def hostKeySet : EvCode := ⟨0x4805, 2⟩
/-- HOST_KEY_REVOKED (12 R439). -/
def hostKeyRevoked : EvCode := ⟨0x4806, 2⟩
/-- HOST_KEYS_RESET (12 R439). -/
def hostKeysReset : EvCode := ⟨0x4807, 3⟩
/-- TRDP_SUB_TIMEOUT (09 R326). -/
def trdpSubTimeout : EvCode := ⟨0x4901, 2⟩
/-- TRDP_SUB_RESUMED (09 R326). -/
def trdpSubResumed : EvCode := ⟨0x4902, 1⟩
/-- NET_STORM (09 R326). -/
def netStorm : EvCode := ⟨0x4903, 3⟩
/-- CAN_BUS_OFF (10 R361). -/
def canBusOff : EvCode := ⟨0x4A01, 3⟩
/-- CAN_BUS_RECOVERED (10 R361). -/
def canBusRecovered : EvCode := ⟨0x4A02, 1⟩
/-- CAN_ERROR_PASSIVE (10 R361). -/
def canErrorPassive : EvCode := ⟨0x4A03, 2⟩
/-- CAN_NODE_LOST (10 R360). -/
def canNodeLost : EvCode := ⟨0x4A04, 3⟩
/-- CAN_NODE_BACK (10 R360). -/
def canNodeBack : EvCode := ⟨0x4A05, 1⟩
/-- CAN_EMCY (10 R357). -/
def canEmcy : EvCode := ⟨0x4A06, 2⟩
/-- CAN_RPDO_LENGTH (10 R359). -/
def canRpdoLength : EvCode := ⟨0x4A07, 2⟩
/-- RING_LATENCY (01 R22). -/
def ringLatency : EvCode := ⟨0x5001, 4⟩
/-- RING_REFUSED (13 R463). -/
def ringRefused : EvCode := ⟨0x5002, 4⟩
/-- RING_FORMED (13 R463). -/
def ringFormed : EvCode := ⟨0x5003, 2⟩
/-- RING_LOST (13 R463). -/
def ringLost : EvCode := ⟨0x5004, 3⟩
/-- RING_LINK_PENDING (13 R463). -/
def ringLinkPending : EvCode := ⟨0x5005, 2⟩
/-- RING_CH_CONFLICT (13 R463). -/
def ringChConflict : EvCode := ⟨0x5006, 3⟩
/-- RING_PORT_DOWN (13 R463). -/
def ringPortDown : EvCode := ⟨0x5007, 2⟩
/-- RING_TIME_SLIP (13 R463). -/
def ringTimeSlip : EvCode := ⟨0x5008, 3⟩
/-- KEY_ENROLLED (14 R496). -/
def keyEnrolled : EvCode := ⟨0x5801, 2⟩
/-- KEY_REVOKED (14 R496). -/
def keyRevoked : EvCode := ⟨0x5802, 3⟩
/-- FW_STAGED (14 R496). -/
def fwStaged : EvCode := ⟨0x5803, 2⟩
/-- FW_UPDATED (14 R496). -/
def fwUpdated : EvCode := ⟨0x5804, 2⟩
/-- FW_FALLBACK (14 R496). -/
def fwFallback : EvCode := ⟨0x5805, 4⟩
/-- AR_ADVANCED (14 R496). -/
def arAdvanced : EvCode := ⟨0x5806, 2⟩
/-- FW_IMAGE_FAULT (14 R496). -/
def fwImageFault : EvCode := ⟨0x5807, 4⟩
/-- CAL_DIGEST_FAULT (14 R496). -/
def calDigestFault : EvCode := ⟨0x6001, 4⟩
/-- CAL_TRIM_CHANGED (14 R496). -/
def calTrimChanged : EvCode := ⟨0x6101, 1⟩
/-- CONFIG_STAGED (14 R496). -/
def configStaged : EvCode := ⟨0x7001, 1⟩
/-- CONFIG_STAGE_REFUSED (14 R496). -/
def configStageRefused : EvCode := ⟨0x7002, 2⟩
/-- CONFIG_ACTIVATED (14 R496). -/
def configActivated : EvCode := ⟨0x7003, 2⟩
/-- CONFIG_ROLLED_BACK (14 R496). -/
def configRolledBack : EvCode := ⟨0x7004, 2⟩
/-- CONFIG_CORRUPT (14 R496). -/
def configCorrupt : EvCode := ⟨0x7005, 4⟩

end Evt

end Sys2Proof.Machine
end

