-- ==== Sys2Proof/Machine/Operands.lean ====
section
/-! DEFINITION. How operands are read: exact numbers behind REAL32 words, rounding and saturation, bit fields, and the
little-endian fields of payloads and images. -/

namespace Sys2Proof.Machine

/-! ### Numbers -/

def absR (q : Rat) : Rat := if q < 0 then -q else q

def clampR (lo hi q : Rat) : Rat := if q < lo then lo else if hi < q then hi else q

def clampZ (lo hi z : Int) : Int := if z < lo then lo else if hi < z then hi else z

def minR (a b : Rat) : Rat := if a ≤ b then a else b

def maxR (a b : Rat) : Rat := if a ≤ b then b else a

/-- 2 to an integer power. -/
def pow2 (e : Int) : Rat := if 0 ≤ e then ((2 ^ e.toNat : Nat) : Rat) else 1 / ((2 ^ (-e).toNat : Nat) : Rat)

/-- Rounding to the nearest integer, ties to even (10 R344). -/
def roundEven (q : Rat) : Int :=
  let f := q.floor
  let d := q - f
  if d < 1 / 2 then f else if 1 / 2 < d then f + 1 else if f % 2 = 0 then f else f + 1

/-- Truncation toward zero. -/
def truncR (q : Rat) : Int := if q < 0 then -((-q).floor) else q.floor

/-- Whether a REAL32 bit pattern is a finite number. -/
def isFinite32 (w : BitVec 32) : Bool := w.toNat / 0x800000 % 256 ≠ 255

/-- Whether a REAL32 bit pattern is a NaN. -/
def isNaN32 (w : BitVec 32) : Bool := w.toNat / 0x800000 % 256 = 255 && w.toNat % 0x800000 ≠ 0

/-- The exact value of a finite REAL32 bit pattern (00 R13); infinities and NaN read as 0 here. -/
def real32 (w : BitVec 32) : Rat :=
  let n := w.toNat
  let e := n / 0x800000 % 256
  let m := n % 0x800000
  let v : Rat := if e = 0 then (m : Rat) * pow2 (-149)
    else if e = 255 then 0 else ((m + 0x800000 : Nat) : Rat) * pow2 ((e : Int) - 150)
  if n / 0x80000000 = 1 then -v else v

/-- The exponent e with 2^e ≤ q < 2^(e+1), for q above 0. -/
def ilog2 (q : Rat) : Int :=
  let e : Int := (Nat.log2 q.num.natAbs : Int) - (Nat.log2 q.den : Int)
  if q < pow2 e then e - 1 else e

/-- The REAL32 nearest to a rational, ties to even; infinity past the largest. -/
def toReal32 (q : Rat) : BitVec 32 :=
  if q = 0 then 0 else
    let s : Nat := if q < 0 then 0x80000000 else 0
    let a := absR q
    let e := if ilog2 a < -126 then -126 else ilog2 a
    let m := (roundEven (a * pow2 (23 - e))).toNat
    let bits := if m < 0x800000 then m
      else if m = 0x1000000 then ((e + 1 + 127).toNat) * 0x800000
      else ((e + 127).toNat) * 0x800000 + (m - 0x800000)
    BitVec.ofNat 32 (s + if bits < 0x7F800000 then bits else 0x7F800000)

/-- Saturation into n unsigned bits. -/
def satN (bits n : Nat) : Nat := if n < 2 ^ bits then n else 2 ^ bits - 1

/-- Counting up, saturating at all ones. -/
def satInc (w : BitVec 32) : BitVec 32 := if w = BitVec.allOnes 32 then w else w + 1

def bitN (b : Bool) (k : Nat) : Nat := if b then 2 ^ k else 0

/-- Bit k of a word. -/
def wbit (w : BitVec 32) (k : Nat) : Bool := w.toNat.testBit k

/-- The field [hi:lo] of a word as a number. -/
def wfield (w : BitVec 32) (hi lo : Nat) : Nat := w.toNat / 2 ^ lo % 2 ^ (hi - lo + 1)

/-! ### Bytes -/

/-- A little-endian number (00 R13). -/
def leNat : Bytes → Nat
  | [] => 0
  | b :: bs => b.toNat + 256 * leNat bs

/-- The little-endian bytes of a number, `n` of them. -/
def leBytes : Nat → Nat → Bytes
  | 0, _ => []
  | n + 1, v => BitVec.ofNat 8 v :: leBytes n (v / 256)

/-- The big-endian bytes of a number, `n` of them. -/
def beBytes (n v : Nat) : Bytes := (leBytes n v).reverse

def beNat (bs : Bytes) : Nat := leNat bs.reverse

/-- The field of `n` bytes at an offset, little-endian; absent bytes are 0. -/
def fieldAt (bs : Bytes) (ofs n : Nat) : Nat := leNat ((bs.drop ofs).take n)

def word32 (n : Nat) : BitVec 32 := BitVec.ofNat 32 n

def wordZ (z : Int) : BitVec 32 := BitVec.ofInt 32 z

/-! ### Status codes of replies and results (12) -/

def stOK : Nat := 0x00
def stAccepted : Nat := 0x01
def stBadOpcode : Nat := 0x10
def stBadLength : Nat := 0x11
def stBadCrc : Nat := 0x12
def stBadParam : Nat := 0x13
def stRange : Nat := 0x14
def stReadOnly : Nat := 0x15
def stNotPresent : Nat := 0x16
def stAuthRequired : Nat := 0x17
def stAuthFail : Nat := 0x18
def stBusy : Nat := 0x19
def stState : Nat := 0x1A
def stSealed : Nat := 0x1B
def stConflict : Nat := 0x1C
def stSeqStale : Nat := 0x1D
def stOwned : Nat := 0x1E
def stVerifyFail : Nat := 0x20
def stNoPrevious : Nat := 0x21
def stInternal : Nat := 0x30

end Sys2Proof.Machine
end

