-- ==== Sys2Proof/Machine/Params.lean ====
section
/-! DEFINITION. The parameter tables of the spec: one row per table row, with class, first index, array length, type, access,
reset value and the values that R426 step 7 admits. The PID layout and the classes are 12 R425. -/

namespace Sys2Proof.Machine

/-- Types of parameters (12 R422: 1 INT32, 2 UINT32, 3 REAL32). -/
inductive PType where
  | int32
  | uint32
  | real32
deriving DecidableEq, Repr

/-- Access of a parameter (12 R422: 0 RO, 1 RW, 2 RWS, 3 WO). -/
inductive Access where
  | ro
  | rw
  | rws
  | wo
deriving DecidableEq, Repr

/-- The values that a row's Meaning column admits. `real` has a lowest value, a highest value and a step, 0 for none. -/
inductive Legal where
  | any
  | nat (lo hi : Nat)
  | int (lo hi : Int)
  | finite
  | real (lo hi step : Rat)
  | realMin (lo : Rat)
  | zeroOr (lo hi step : Rat)
  | oneOf (vs : List Nat)
  | oneOfReal (vs : List Rat)
  | masked (m : Nat)
  | compare
  | intNonzero (lo hi : Int)
  | canNode
deriving DecidableEq, Repr

/-- A row of a parameter table. `noReset` marks a reset value shown as a dash, factory, OTP, flash or MRAM. -/
structure ParRow where
  cls : Nat
  idx : Nat
  len : Nat := 1
  ty : PType := .uint32
  acc : Access := .ro
  image : Bool := false
  noReset : Bool := false
  reset : BitVec 32 := 0
  legal : Legal := .any
deriving DecidableEq, Repr

/-- The PID of element `j` of a row in instance `i` (12 R425): class, instance, index. -/
def ParRow.pid (r : ParRow) (i j : Nat) : Nat := r.cls * 0x1000000 + i * 0x10000 + r.idx + j

namespace Par

/-- IDENT.UNITS (00 R4). -/
def identUnits : ParRow := { cls := 0x02, idx := 0x10, noReset := true }
/-- CLOCK.STATUS (01 R38). -/
def clockStatus : ParRow := { cls := 0x08, idx := 0x1 }
/-- CLOCK.TICK (01 R38). -/
def clockTick : ParRow := { cls := 0x08, idx := 0x2 }
/-- CLOCK.COUNT_HA (01 R38). -/
def clockCountHa : ParRow := { cls := 0x08, idx := 0x3 }
/-- CLOCK.COUNT_HB (01 R38). -/
def clockCountHb : ParRow := { cls := 0x08, idx := 0x4 }
/-- CLOCK.RC_DEV (01 R38). -/
def clockRcDev : ParRow := { cls := 0x08, idx := 0x5, ty := .real32 }
/-- CLOCK.RC_DEV_MAX (01 R38). -/
def clockRcDevMax : ParRow := { cls := 0x08, idx := 0x6, ty := .real32 }
/-- CLOCK.OUT_OF_RANGE (01 R38). -/
def clockOutOfRange : ParRow := { cls := 0x08, idx := 0x7 }
/-- CLOCK.TICK_SLIPS (01 R38). -/
def clockTickSlips : ParRow := { cls := 0x08, idx := 0x8 }
/-- SUPPLY.VIN (02 R76). -/
def supplyVin : ParRow := { cls := 0x03, idx := 0x1, ty := .real32, noReset := true }
/-- SUPPLY.IIN (02 R76). -/
def supplyIin : ParRow := { cls := 0x03, idx := 0x2, ty := .real32, noReset := true }
/-- SUPPLY.STATUS (02 R76). -/
def supplyStatus : ParRow := { cls := 0x03, idx := 0x3 }
/-- SUPPLY.VHOLD (02 R76). -/
def supplyVhold : ParRow := { cls := 0x03, idx := 0x4, ty := .real32, noReset := true }
/-- SUPPLY.HOLDUP_MS (02 R76). -/
def supplyHoldupMs : ParRow := { cls := 0x03, idx := 0x5, ty := .real32, noReset := true }
/-- SUPPLY.UV_MODE (02 R76). -/
def supplyUvMode : ParRow := { cls := 0x03, idx := 0x11, acc := .rw, legal := .nat 0 1 }
/-- SUPPLY.UV_LEVEL (02 R76). -/
def supplyUvLevel : ParRow :=
  { cls := 0x03, idx := 0x12, ty := .real32, acc := .rw, reset := 0x41666666, legal := .real (72/5) 120 (1/10) }
/-- SUPPLY.UV_HYST (02 R76). -/
def supplyUvHyst : ParRow :=
  { cls := 0x03, idx := 0x13, ty := .real32, acc := .rw, reset := 0x3F800000, legal := .real (1/2) 10 (1/10) }
/-- SUPPLY.UV_CLEAR (02 R76). -/
def supplyUvClear : ParRow := { cls := 0x03, idx := 0x14, acc := .wo, noReset := true, legal := .oneOf [1] }
/-- SUPPLY.UV_COUNT (02 R76). -/
def supplyUvCount : ParRow := { cls := 0x03, idx := 0x15 }
/-- SUPPLY.OV_COUNT (02 R76). -/
def supplyOvCount : ParRow := { cls := 0x03, idx := 0x16 }
/-- SUPPLY.INTERRUPT_COUNT (02 R76). -/
def supplyInterruptCount : ParRow := { cls := 0x03, idx := 0x17 }
/-- SUPPLY.LH_SET[0..23] (02 R76). -/
def supplyLhSet : ParRow := { cls := 0x03, idx := 0x100, len := 24, acc := .rw, image := true }
/-- SUPPLY.LH_ILIM[0..7] (02 R76). -/
def supplyLhIlim : ParRow :=
  { cls := 0x03, idx := 0x120, len := 8, ty := .real32, acc := .rw, image := true, reset := 0x40000000,
      legal := .real (1/5) 6 (1/20) }
/-- SUPPLY.LH_STATE (02 R76). -/
def supplyLhState : ParRow := { cls := 0x03, idx := 0x130 }
/-- SUPPLY.LH_EPISODES (02 R76). -/
def supplyLhEpisodes : ParRow := { cls := 0x03, idx := 0x131 }
/-- SUPPLY.LH_LAST_MS (02 R76). -/
def supplyLhLastMs : ParRow := { cls := 0x03, idx := 0x132 }
/-- TREAD.MODE_CFG (03 R110). -/
def treadModeCfg : ParRow := { cls := 0x10, idx := 0x1, acc := .rw, image := true, legal := .nat 0 3 }
/-- TREAD.MODE (03 R110). -/
def treadMode : ParRow := { cls := 0x10, idx := 0x2 }
/-- TREAD.STATUS (03 R110). -/
def treadStatus : ParRow := { cls := 0x10, idx := 0x3 }
/-- TREAD.I (03 R110). -/
def treadI : ParRow := { cls := 0x10, idx := 0x4, ty := .real32, noReset := true }
/-- TREAD.TJ (03 R110). -/
def treadTj : ParRow := { cls := 0x10, idx := 0x5, ty := .real32, noReset := true }
/-- TREAD.PEAK_E (03 R110). -/
def treadPeakE : ParRow := { cls := 0x10, idx := 0x6, ty := .real32 }
/-- TREAD.WIRE_X (03 R110). -/
def treadWireX : ParRow := { cls := 0x10, idx := 0x7, ty := .real32, reset := 0x42480000 }
/-- TREAD.DT_MEAS (03 R110). -/
def treadDtMeas : ParRow := { cls := 0x10, idx := 0x8, ty := .real32, noReset := true }
/-- TREAD.DVDT_MEAS (03 R110). -/
def treadDvdtMeas : ParRow := { cls := 0x10, idx := 0x9, ty := .real32, noReset := true }
/-- TREAD.HARD_SW_COUNT (03 R110). -/
def treadHardSwCount : ParRow := { cls := 0x10, idx := 0xA }
/-- TREAD.ILIM (03 R110). -/
def treadIlim : ParRow :=
  { cls := 0x10, idx := 0x10, ty := .real32, acc := .rw, reset := 0x40000000, legal := .real (1/5) 15 (1/20) }
/-- TREAD.PWM_PERIOD (03 R110). -/
def treadPwmPeriod : ParRow := { cls := 0x10, idx := 0x11, acc := .rw, image := true, reset := 0x4E20, legal := .nat 4000 25000 }
/-- TREAD.DT_MODE (03 R110). -/
def treadDtMode : ParRow := { cls := 0x10, idx := 0x12, acc := .rw, legal := .nat 0 1 }
/-- TREAD.DT_MIN (03 R110). -/
def treadDtMin : ParRow :=
  { cls := 0x10, idx := 0x13, ty := .real32, acc := .rw, reset := 0x42200000, legal := .real 20 500 (5/2) }
/-- TREAD.DT_MAX (03 R110). -/
def treadDtMax : ParRow :=
  { cls := 0x10, idx := 0x14, ty := .real32, acc := .rw, reset := 0x43960000, legal := .real 20 500 (5/2) }
/-- TREAD.DVDT (03 R110). -/
def treadDvdt : ParRow := { cls := 0x10, idx := 0x15, ty := .real32, acc := .rw, reset := 0x40A00000, legal := .real 1 20 (1/2) }
/-- TREAD.SW_DUTY (03 R110). -/
def treadSwDuty : ParRow :=
  { cls := 0x10, idx := 0x16, ty := .real32, acc := .rw, reset := 0x42C80000, legal := .real 0 100 (1/10) }
/-- TREAD.WIRE_CSA (03 R110). -/
def treadWireCsa : ParRow :=
  { cls := 0x10, idx := 0x20, ty := .real32, acc := .rw, image := true, legal := .oneOfReal [0, 1/4, 1/2, 3/4, 1, 3/2, 5/2] }
/-- TREAD.WIRE_IW (03 R110). -/
def treadWireIw : ParRow := { cls := 0x10, idx := 0x21, ty := .real32, noReset := true }
/-- TREAD.WIRE_TAU (03 R110). -/
def treadWireTau : ParRow :=
  { cls := 0x10, idx := 0x22, ty := .real32, acc := .rw, image := true, reset := 0x41F00000, legal := .real 1 600 (1/10) }
/-- TREAD.OL_THRESH (03 R110). -/
def treadOlThresh : ParRow := { cls := 0x10, idx := 0x23, ty := .real32, acc := .rw, legal := .zeroOr (1/20) 1 (1/100) }
/-- TREAD.RETRY_MAX (03 R110). -/
def treadRetryMax : ParRow := { cls := 0x10, idx := 0x30, acc := .rw, reset := 0x3, legal := .nat 0 15 }
/-- TREAD.RETRY_DELAY (03 R110). -/
def treadRetryDelay : ParRow := { cls := 0x10, idx := 0x31, acc := .rw, reset := 0x3E8, legal := .nat 10 10000 }
/-- TREAD.RETRY_CLEAR (03 R110). -/
def treadRetryClear : ParRow := { cls := 0x10, idx := 0x32, acc := .rw, reset := 0x3C, legal := .nat 1 3600 }
/-- TREAD.RETRY_USED (03 R110). -/
def treadRetryUsed : ParRow := { cls := 0x10, idx := 0x33 }
/-- TREAD.CLEAR (03 R110). -/
def treadClear : ParRow := { cls := 0x10, idx := 0x34, acc := .wo, noReset := true, legal := .oneOf [1] }
/-- TREAD.TRIPS (03 R110). -/
def treadTrips : ParRow := { cls := 0x10, idx := 0x40 }
/-- TREAD.LIMIT_MS (03 R110). -/
def treadLimitMs : ParRow := { cls := 0x10, idx := 0x41 }
/-- STOREY.I (03 R112). -/
def storeyI : ParRow := { cls := 0x12, idx := 0x1, ty := .real32, noReset := true }
/-- STOREY.I_MEAN1S (03 R112). -/
def storeyIMean1s : ParRow := { cls := 0x12, idx := 0x2, ty := .real32, noReset := true }
/-- STOREY.SCALE (03 R112). -/
def storeyScale : ParRow := { cls := 0x12, idx := 0x3, ty := .real32, reset := 0x3F800000 }
/-- STOREY.STATUS (03 R112). -/
def storeyStatus : ParRow := { cls := 0x12, idx := 0x4 }
/-- STOREY.BREAKER_TRIPS (03 R112). -/
def storeyBreakerTrips : ParRow := { cls := 0x12, idx := 0x5 }
/-- STOREY.RECLOSE (03 R112). -/
def storeyReclose : ParRow := { cls := 0x12, idx := 0x6, acc := .wo, noReset := true, legal := .oneOf [1] }
/-- STOREY.STOP_CLEAR (03 R112). -/
def storeyStopClear : ParRow := { cls := 0x12, idx := 0x7, acc := .wo, noReset := true, legal := .oneOf [1] }
/-- STOREY.DIE_P (03 R112). -/
def storeyDieP : ParRow := { cls := 0x12, idx := 0x10, ty := .real32, noReset := true }
/-- STOREY.DIE_P_MEAN1S (03 R112). -/
def storeyDiePMean1s : ParRow := { cls := 0x12, idx := 0x11, ty := .real32, noReset := true }
/-- STOREY.DIE_SCALE (03 R112). -/
def storeyDieScale : ParRow := { cls := 0x12, idx := 0x12, ty := .real32, reset := 0x3F800000 }
/-- STOREY.DIE_TEMP (03 R112). -/
def storeyDieTemp : ParRow := { cls := 0x12, idx := 0x13, ty := .real32, noReset := true }
/-- SENSE.STATE (04 R148). -/
def senseState : ParRow := { cls := 0x18, idx := 0x1 }
/-- SENSE.STATUS (04 R148). -/
def senseStatus : ParRow := { cls := 0x18, idx := 0x2 }
/-- SENSE.VALUE (04 R148). -/
def senseValue : ParRow := { cls := 0x18, idx := 0x3, ty := .real32, noReset := true }
/-- SENSE.VALUE_B (04 R148). -/
def senseValueB : ParRow := { cls := 0x18, idx := 0x4, ty := .real32, noReset := true }
/-- SENSE.THR_EFF (04 R148). -/
def senseThrEff : ParRow := { cls := 0x18, idx := 0x5, ty := .real32, noReset := true }
/-- SENSE.V_ON (04 R148). -/
def senseVOn : ParRow := { cls := 0x18, idx := 0x6, ty := .real32 }
/-- SENSE.V_OFF (04 R148). -/
def senseVOff : ParRow := { cls := 0x18, idx := 0x7, ty := .real32 }
/-- SENSE.CHANGES (04 R148). -/
def senseChanges : ParRow := { cls := 0x18, idx := 0x8 }
/-- SENSE.USE (04 R148). -/
def senseUse : ParRow := { cls := 0x18, idx := 0x10, acc := .rws, legal := .nat 0 2 }
/-- SENSE.MODE (04 R148). -/
def senseMode : ParRow := { cls := 0x18, idx := 0x11, acc := .rws, legal := .nat 0 2 }
/-- SENSE.THRESH (04 R148). -/
def senseThresh : ParRow := { cls := 0x18, idx := 0x12, ty := .real32, acc := .rws, reset := 0x41200000, legal := .real 0 100 0 }
/-- SENSE.HYST (04 R148). -/
def senseHyst : ParRow :=
  { cls := 0x18, idx := 0x13, ty := .real32, acc := .rws, reset := 0x3F800000, legal := .real (1/10) 10 0 }
/-- SENSE.DEBOUNCE (04 R148). -/
def senseDebounce : ParRow :=
  { cls := 0x18, idx := 0x14, ty := .real32, acc := .rws, reset := 0x40400000, legal := .real 0 32 (1/8) }
/-- SENSE.INVERT (04 R148). -/
def senseInvert : ParRow := { cls := 0x18, idx := 0x15, acc := .rws, legal := .nat 0 1 }
/-- SENSE.WET_I (04 R148). -/
def senseWetI : ParRow := { cls := 0x18, idx := 0x16, acc := .rws, reset := 0x5, legal := .nat 1 20 }
/-- SENSE.CLEAN (04 R148). -/
def senseClean : ParRow := { cls := 0x18, idx := 0x17, acc := .rws, reset := 0x1, legal := .nat 0 1 }
/-- SENSE.TRACK (04 R148). -/
def senseTrack : ParRow := { cls := 0x18, idx := 0x18, acc := .rws, legal := .nat 0 1 }
/-- SENSE.TRACK_RATIO (04 R148). -/
def senseTrackRatio : ParRow :=
  { cls := 0x18, idx := 0x19, ty := .real32, acc := .rws, reset := 0x3F000000, legal := .real (3/10) (7/10) (1/100) }
/-- SENSE.FENCE_LO (04 R148). -/
def senseFenceLo : ParRow :=
  { cls := 0x18, idx := 0x1A, ty := .real32, acc := .rws, reset := 0x40000000, legal := .real 2 100 (1/10) }
/-- SENSE.FENCE_HI (04 R148). -/
def senseFenceHi : ParRow :=
  { cls := 0x18, idx := 0x1B, ty := .real32, acc := .rws, reset := 0x42C80000, legal := .real 2 100 (1/10) }
/-- PORT.COUNT (04 R150). -/
def portCount : ParRow := { cls := 0x20, idx := 0x1, ty := .int32, acc := .rw }
/-- PORT.WRAPS (04 R150). -/
def portWraps : ParRow := { cls := 0x20, idx := 0x2, ty := .int32 }
/-- PORT.WRAPS_LATCHED (04 R150). -/
def portWrapsLatched : ParRow := { cls := 0x20, idx := 0x3, ty := .int32 }
/-- PORT.SPEED (04 R150). -/
def portSpeed : ParRow := { cls := 0x20, idx := 0x4, ty := .real32 }
/-- PORT.DIR (04 R150). -/
def portDir : ParRow := { cls := 0x20, idx := 0x5 }
/-- PORT.STATUS (04 R150). -/
def portStatus : ParRow := { cls := 0x20, idx := 0x6, reset := 0x4 }
/-- PORT.COUNT_B (04 R150). -/
def portCountB : ParRow := { cls := 0x20, idx := 0x7, ty := .int32 }
/-- PORT.INDEX_ERR (04 R150). -/
def portIndexErr : ParRow := { cls := 0x20, idx := 0x8, ty := .int32 }
/-- PORT.QUAD_ERRORS (04 R150). -/
def portQuadErrors : ParRow := { cls := 0x20, idx := 0x9 }
/-- PORT.SSI_EXTRA (04 R150). -/
def portSsiExtra : ParRow := { cls := 0x20, idx := 0xA }
/-- PORT.REED_STATE (04 R150). -/
def portReedState : ParRow := { cls := 0x20, idx := 0xB }
/-- PORT.FORMAT (04 R150). -/
def portFormat : ParRow := { cls := 0x20, idx := 0x10, acc := .rws, legal := .nat 0 4 }
/-- PORT.LEVEL (04 R150). -/
def portLevel : ParRow := { cls := 0x20, idx := 0x11, acc := .rws, legal := .nat 0 2 }
/-- PORT.TERM (04 R150). -/
def portTerm : ParRow := { cls := 0x20, idx := 0x12, acc := .rws, reset := 0x1, legal := .nat 0 1 }
/-- PORT.ENC_V (04 R150). -/
def portEncV : ParRow := { cls := 0x20, idx := 0x13, acc := .rws, legal := .nat 0 2 }
/-- PORT.STANDSTILL (04 R150). -/
def portStandstill : ParRow := { cls := 0x20, idx := 0x14, acc := .rw, reset := 0x32, legal := .nat 1 1000 }
/-- PORT.HALL_FILT (04 R150). -/
def portHallFilt : ParRow :=
  { cls := 0x20, idx := 0x15, ty := .real32, acc := .rws, reset := 0x3F800000, legal := .real 0 10 (1/10) }
/-- PORT.REED_DEB (04 R150). -/
def portReedDeb : ParRow :=
  { cls := 0x20, idx := 0x16, ty := .real32, acc := .rws, reset := 0x40400000, legal := .real 0 32 (1/8) }
/-- PORT.SSI_CLK (04 R150). -/
def portSsiClk : ParRow := { cls := 0x20, idx := 0x18, acc := .rws, reset := 0x3E8, legal := .nat 100 4000 }
/-- PORT.SSI_BITS (04 R150). -/
def portSsiBits : ParRow := { cls := 0x20, idx := 0x19, acc := .rws, reset := 0x19, legal := .nat 8 40 }
/-- PORT.SSI_POSBITS (04 R150). -/
def portSsiPosbits : ParRow := { cls := 0x20, idx := 0x1A, acc := .rws, reset := 0x19, legal := .nat 8 32 }
/-- PORT.SSI_CODE (04 R150). -/
def portSsiCode : ParRow := { cls := 0x20, idx := 0x1B, acc := .rws, reset := 0x1, legal := .nat 0 1 }
/-- PORT.SSI_MONO (04 R150). -/
def portSsiMono : ParRow := { cls := 0x20, idx := 0x1C, acc := .rws, reset := 0x14, legal := .nat 1 64 }
/-- PORT.SSI_PERIOD (04 R150). -/
def portSsiPeriod : ParRow := { cls := 0x20, idx := 0x1D, acc := .rws, reset := 0x1, legal := .nat 1 8 }
/-- PORT.SSI_MAXSTEP (04 R150). -/
def portSsiMaxstep : ParRow := { cls := 0x20, idx := 0x1E, acc := .rws, reset := 0x1000, legal := .nat 1 2147483647 }
/-- PORT.INDEX_MODE (04 R150). -/
def portIndexMode : ParRow := { cls := 0x20, idx := 0x20, acc := .rw, legal := .nat 0 2 }
/-- PORT.INDEX_POS (04 R150). -/
def portIndexPos : ParRow := { cls := 0x20, idx := 0x21, ty := .int32, acc := .rw }
/-- PORT.INDEX_PERIOD (04 R150). -/
def portIndexPeriod : ParRow := { cls := 0x20, idx := 0x22, acc := .rw }
/-- PORT.INDEX_TOL (04 R150). -/
def portIndexTol : ParRow := { cls := 0x20, idx := 0x23, acc := .rw, reset := 0x2, legal := .nat 0 65535 }
/-- PORT.SUPPLY_CLEAR (04 R150). -/
def portSupplyClear : ParRow := { cls := 0x20, idx := 0x28, acc := .wo, noReset := true, legal := .oneOf [1] }
/-- PORT.LATE_FIRE (04 R150). -/
def portLateFire : ParRow := { cls := 0x20, idx := 0x30, acc := .rw, legal := .nat 0 1 }
/-- PORT.AUX_OWNER (04 R150). -/
def portAuxOwner : ParRow := { cls := 0x20, idx := 0x31, acc := .rw, image := true, legal := .nat 0 2 }
/-- PORT.AUX_V (04 R150). -/
def portAuxV : ParRow := { cls := 0x20, idx := 0x32, acc := .rw, image := true, reset := 0x1, legal := .nat 0 1 }
/-- PORT.ECHO_EN (04 R150). -/
def portEchoEn : ParRow := { cls := 0x20, idx := 0x38, acc := .rw, image := true, legal := .nat 0 1 }
/-- PORT.ECHO_N (04 R150). -/
def portEchoN : ParRow := { cls := 0x20, idx := 0x39, acc := .rw, image := true, reset := 0x1, legal := .nat 1 65535 }
/-- PORT.ECHO_M (04 R150). -/
def portEchoM : ParRow := { cls := 0x20, idx := 0x3A, acc := .rw, image := true, reset := 0x1, legal := .nat 1 65535 }
/-- PORT.CMP_HIT[0..1] (04 R150). -/
def portCmpHit : ParRow := { cls := 0x20, idx := 0x40, len := 2 }
/-- PORT.CMP_HIT_CLR[0..1] (04 R150). -/
def portCmpHitClr : ParRow := { cls := 0x20, idx := 0x42, len := 2, acc := .wo, noReset := true }
/-- PORT.CMP_STALE[0..1] (04 R150). -/
def portCmpStale : ParRow := { cls := 0x20, idx := 0x44, len := 2 }
/-- PORT.CMP_LATE[0..1] (04 R150). -/
def portCmpLate : ParRow := { cls := 0x20, idx := 0x46, len := 2 }
/-- PORT.CMP_POS[0..63] (04 R150). -/
def portCmpPos : ParRow := { cls := 0x20, idx := 0x100, len := 64, ty := .int32, acc := .rw }
/-- PORT.CMP_CFG[0..63] (04 R150). -/
def portCmpCfg : ParRow := { cls := 0x20, idx := 0x140, len := 64, acc := .rw, legal := .compare }
/-- AXIS.STATE (05 R189). -/
def axisState : ParRow := { cls := 0x21, idx := 0x1 }
/-- AXIS.STATUS (05 R189). -/
def axisStatus : ParRow := { cls := 0x21, idx := 0x2 }
/-- AXIS.POS (05 R189). -/
def axisPos : ParRow := { cls := 0x21, idx := 0x3, ty := .int32 }
/-- AXIS.POS_CMD (05 R189). -/
def axisPosCmd : ParRow := { cls := 0x21, idx := 0x4, ty := .int32 }
/-- AXIS.VEL (05 R189). -/
def axisVel : ParRow := { cls := 0x21, idx := 0x5, ty := .real32 }
/-- AXIS.VEL_CMD (05 R189). -/
def axisVelCmd : ParRow := { cls := 0x21, idx := 0x6, ty := .real32 }
/-- AXIS.DEV (05 R189). -/
def axisDev : ParRow := { cls := 0x21, idx := 0x7, ty := .int32 }
/-- AXIS.IQ (05 R189). -/
def axisIq : ParRow := { cls := 0x21, idx := 0x8, ty := .real32 }
/-- AXIS.ID (05 R189). -/
def axisId : ParRow := { cls := 0x21, idx := 0x9, ty := .real32 }
/-- AXIS.QUEUE (05 R189). -/
def axisQueue : ParRow := { cls := 0x21, idx := 0xA }
/-- AXIS.FAULT_CAUSE (05 R189). -/
def axisFaultCause : ParRow := { cls := 0x21, idx := 0xB }
/-- AXIS.GEAR_STAGE (05 R189). -/
def axisGearStage : ParRow := { cls := 0x21, idx := 0xC }
/-- AXIS.COMM_ERR (05 R189). -/
def axisCommErr : ParRow := { cls := 0x21, idx := 0xD, ty := .real32 }
/-- AXIS.TYPE (05 R189). -/
def axisType : ParRow := { cls := 0x21, idx := 0x10, acc := .rw, image := true, legal := .nat 0 4 }
/-- AXIS.FB_PORT (05 R189). -/
def axisFbPort : ParRow := { cls := 0x21, idx := 0x11, acc := .rw, image := true, legal := .nat 0 2 }
/-- AXIS.SCALE_NUM (05 R189). -/
def axisScaleNum : ParRow := { cls := 0x21, idx := 0x12, acc := .rw, reset := 0x1, legal := .nat 1 65535 }
/-- AXIS.SCALE_DEN (05 R189). -/
def axisScaleDen : ParRow := { cls := 0x21, idx := 0x13, acc := .rw, reset := 0x1, legal := .nat 1 65535 }
/-- AXIS.POLE_PAIRS (05 R189). -/
def axisPolePairs : ParRow := { cls := 0x21, idx := 0x14, acc := .rw, image := true, reset := 0x4, legal := .nat 1 32 }
/-- AXIS.COUNTS_REV (05 R189). -/
def axisCountsRev : ParRow := { cls := 0x21, idx := 0x15, acc := .rw, image := true, reset := 0x1000, legal := .nat 6 16777216 }
/-- AXIS.COMM (05 R189). -/
def axisComm : ParRow := { cls := 0x21, idx := 0x16, acc := .rw, image := true, legal := .nat 0 2 }
/-- AXIS.COMM_OFFSET (05 R189). -/
def axisCommOffset : ParRow :=
  { cls := 0x21, idx := 0x17, ty := .real32, acc := .rw, image := true, legal := .real 0 (3599/10) (1/10) }
/-- AXIS.PHASE_ORDER (05 R189). -/
def axisPhaseOrder : ParRow := { cls := 0x21, idx := 0x18, acc := .rw, image := true, legal := .nat 0 1 }
/-- AXIS.FAULT_REACT (05 R189). -/
def axisFaultReact : ParRow := { cls := 0x21, idx := 0x19, acc := .rw, legal := .nat 0 1 }
/-- AXIS.IDLE_MODE (05 R189). -/
def axisIdleMode : ParRow := { cls := 0x21, idx := 0x1A, acc := .rw, legal := .nat 0 1 }
/-- AXIS.HOLD_TIME (05 R189). -/
def axisHoldTime : ParRow := { cls := 0x21, idx := 0x1B, acc := .rw, legal := .nat 0 600000 }
/-- AXIS.ALIGN_I (05 R189). -/
def axisAlignI : ParRow :=
  { cls := 0x21, idx := 0x1C, ty := .real32, acc := .rw, reset := 0x40000000, legal := .real (1/5) 15 (1/20) }
/-- AXIS.CUR_KP (05 R189). -/
def axisCurKp : ParRow := { cls := 0x21, idx := 0x20, ty := .real32, acc := .rw, reset := 0x40A00000, legal := .real 0 1000 0 }
/-- AXIS.CUR_KI (05 R189). -/
def axisCurKi : ParRow :=
  { cls := 0x21, idx := 0x21, ty := .real32, acc := .rw, reset := 0x44FA0000, legal := .real 0 10000000 0 }
/-- AXIS.I_MAX (05 R189). -/
def axisIMax : ParRow :=
  { cls := 0x21, idx := 0x22, ty := .real32, acc := .rw, reset := 0x3F800000, legal := .real (1/5) 15 (1/20) }
/-- AXIS.VEL_KP (05 R189). -/
def axisVelKp : ParRow := { cls := 0x21, idx := 0x28, ty := .real32, acc := .rw, legal := .realMin 0 }
/-- AXIS.VEL_KI (05 R189). -/
def axisVelKi : ParRow := { cls := 0x21, idx := 0x29, ty := .real32, acc := .rw, legal := .realMin 0 }
/-- AXIS.POS_KP (05 R189). -/
def axisPosKp : ParRow := { cls := 0x21, idx := 0x2A, ty := .real32, acc := .rw, reset := 0x41A00000, legal := .real 0 1000 0 }
/-- AXIS.VEL_FF (05 R189). -/
def axisVelFf : ParRow := { cls := 0x21, idx := 0x2B, ty := .real32, acc := .rw, reset := 0x3F800000, legal := .real 0 1 0 }
/-- AXIS.ACC_FF (05 R189). -/
def axisAccFf : ParRow := { cls := 0x21, idx := 0x2C, ty := .real32, acc := .rw, legal := .realMin 0 }
/-- AXIS.VEL_FILT (05 R189). -/
def axisVelFilt : ParRow :=
  { cls := 0x21, idx := 0x2D, ty := .real32, acc := .rw, reset := 0x3F000000, legal := .real 0 10 (1/8) }
/-- AXIS.PROFILE (05 R189). -/
def axisProfile : ParRow := { cls := 0x21, idx := 0x30, acc := .rw, reset := 0x1, legal := .nat 0 1 }
/-- AXIS.VMAX (05 R189). -/
def axisVmax : ParRow := { cls := 0x21, idx := 0x31, ty := .real32, acc := .rw, reset := 0x447A0000, legal := .real 1 25000000 0 }
/-- AXIS.ACCEL (05 R189). -/
def axisAccel : ParRow :=
  { cls := 0x21, idx := 0x32, ty := .real32, acc := .rw, reset := 0x461C4000, legal := .real 1 1000000000 0 }
/-- AXIS.DECEL (05 R189). -/
def axisDecel : ParRow :=
  { cls := 0x21, idx := 0x33, ty := .real32, acc := .rw, reset := 0x461C4000, legal := .real 1 1000000000 0 }
/-- AXIS.JERK (05 R189). -/
def axisJerk : ParRow :=
  { cls := 0x21, idx := 0x34, ty := .real32, acc := .rw, reset := 0x47C35000, legal := .real 1 100000000000 0 }
/-- AXIS.QSTOP_DECEL (05 R189). -/
def axisQstopDecel : ParRow :=
  { cls := 0x21, idx := 0x35, ty := .real32, acc := .rw, reset := 0x469C4000, legal := .real 1 1000000000 0 }
/-- AXIS.LIMIT_NEG (05 R189). -/
def axisLimitNeg : ParRow := { cls := 0x21, idx := 0x36, ty := .int32, acc := .rw }
/-- AXIS.LIMIT_POS (05 R189). -/
def axisLimitPos : ParRow := { cls := 0x21, idx := 0x37, ty := .int32, acc := .rw }
/-- AXIS.LIMIT_EN (05 R189). -/
def axisLimitEn : ParRow := { cls := 0x21, idx := 0x38, acc := .rw, legal := .nat 0 1 }
/-- AXIS.OVERSPEED (05 R189). -/
def axisOverspeed : ParRow := { cls := 0x21, idx := 0x39, ty := .real32, acc := .rw, reset := 0x449C4000, legal := .realMin 0 }
/-- AXIS.DEV_WINDOW (05 R189). -/
def axisDevWindow : ParRow := { cls := 0x21, idx := 0x40, acc := .rw, reset := 0x64, legal := .nat 0 1000000 }
/-- AXIS.DEV_TIME (05 R189). -/
def axisDevTime : ParRow := { cls := 0x21, idx := 0x41, acc := .rw, reset := 0x8, legal := .nat 1 8000 }
/-- AXIS.INPOS_WIN (05 R189). -/
def axisInposWin : ParRow := { cls := 0x21, idx := 0x42, acc := .rw, reset := 0xA, legal := .nat 0 1000000 }
/-- AXIS.STEP_RES (05 R189). -/
def axisStepRes : ParRow := { cls := 0x21, idx := 0x48, acc := .rw, image := true, reset := 0x1, legal := .nat 0 1 }
/-- AXIS.STEP_SRC (05 R189). -/
def axisStepSrc : ParRow := { cls := 0x21, idx := 0x49, acc := .rw, image := true, legal := .nat 0 1 }
/-- AXIS.EXT_STEP_LINE (05 R189). -/
def axisExtStepLine : ParRow := { cls := 0x21, idx := 0x4A, acc := .rw, image := true, legal := .nat 0 159 }
/-- AXIS.EXT_DIR_LINE (05 R189). -/
def axisExtDirLine : ParRow := { cls := 0x21, idx := 0x4B, acc := .rw, image := true, legal := .nat 0 159 }
/-- AXIS.I_RUN (05 R189). -/
def axisIRun : ParRow :=
  { cls := 0x21, idx := 0x4C, ty := .real32, acc := .rw, reset := 0x3F800000, legal := .real (1/5) 6 (1/20) }
/-- AXIS.I_HOLD (05 R189). -/
def axisIHold : ParRow := { cls := 0x21, idx := 0x4D, ty := .real32, acc := .rw, reset := 0x3F000000, legal := .real 0 6 (1/20) }
/-- AXIS.HOLD_DELAY (05 R189). -/
def axisHoldDelay : ParRow := { cls := 0x21, idx := 0x4E, acc := .rw, reset := 0xC8, legal := .nat 1 60000 }
/-- AXIS.CHOP_TOFF (05 R189). -/
def axisChopToff : ParRow :=
  { cls := 0x21, idx := 0x4F, ty := .real32, acc := .rw, reset := 0x41200000, legal := .real 1 40 (1/10) }
/-- AXIS.CHOP_TBLANK (05 R189). -/
def axisChopTblank : ParRow :=
  { cls := 0x21, idx := 0x50, ty := .real32, acc := .rw, reset := 0x3F800000, legal := .real (1/5) 3 (1/10) }
/-- AXIS.DECAY_MIX (05 R189). -/
def axisDecayMix : ParRow := { cls := 0x21, idx := 0x51, acc := .rw, reset := 0x4, legal := .nat 0 16 }
/-- AXIS.ENC_NUM (05 R189). -/
def axisEncNum : ParRow :=
  { cls := 0x21, idx := 0x52, ty := .int32, acc := .rw, image := true, reset := 0x1, legal := .intNonzero (-32768) 32767 }
/-- AXIS.ENC_DEN (05 R189). -/
def axisEncDen : ParRow := { cls := 0x21, idx := 0x53, acc := .rw, image := true, reset := 0x1, legal := .nat 1 65535 }
/-- AXIS.INTERP_MAX (05 R189). -/
def axisInterpMax : ParRow := { cls := 0x21, idx := 0x54, acc := .rw, reset := 0xA, legal := .nat 1 100 }
/-- AXIS.PULL_DUTY (05 R189). -/
def axisPullDuty : ParRow :=
  { cls := 0x21, idx := 0x58, ty := .real32, acc := .rw, reset := 0x42C80000, legal := .real 0 100 (1/10) }
/-- AXIS.PULL_MS (05 R189). -/
def axisPullMs : ParRow := { cls := 0x21, idx := 0x59, acc := .rw, reset := 0xC8, legal := .nat 0 5000 }
/-- AXIS.HOLD_DUTY (05 R189). -/
def axisHoldDuty : ParRow :=
  { cls := 0x21, idx := 0x5A, ty := .real32, acc := .rw, reset := 0x42200000, legal := .real 0 100 (1/10) }
/-- AXIS.GEAR_SRC (05 R189). -/
def axisGearSrc : ParRow := { cls := 0x21, idx := 0x60, acc := .rw, image := true, legal := .nat 0 2 }
/-- AXIS.GEAR_MASTER (05 R189). -/
def axisGearMaster : ParRow := { cls := 0x21, idx := 0x61, acc := .rw, image := true, legal := .nat 0 63 }
/-- AXIS.GEAR_NUM (05 R189). -/
def axisGearNum : ParRow := { cls := 0x21, idx := 0x62, ty := .int32, acc := .rw, reset := 0x1, legal := .int (-32768) 32767 }
/-- AXIS.GEAR_DEN (05 R189). -/
def axisGearDen : ParRow := { cls := 0x21, idx := 0x63, acc := .rw, reset := 0x1, legal := .nat 1 65535 }
/-- AXIS.GEAR_BLEND (05 R189). -/
def axisGearBlend : ParRow := { cls := 0x21, idx := 0x64, acc := .rw, legal := .nat 0 65535 }
/-- AXIS.GEAR_CHG_POS[0..3] (05 R189). -/
def axisGearChgPos : ParRow := { cls := 0x21, idx := 0x68, len := 4, ty := .int32, acc := .rw }
/-- AXIS.GEAR_CHG_NUM[0..3] (05 R189). -/
def axisGearChgNum : ParRow := { cls := 0x21, idx := 0x6C, len := 4, ty := .int32, acc := .rw, legal := .int (-32768) 32767 }
/-- AXIS.GEAR_CHG_DEN[0..3] (05 R189). -/
def axisGearChgDen : ParRow := { cls := 0x21, idx := 0x70, len := 4, acc := .rw, reset := 0x1, legal := .nat 1 65535 }
/-- AXIS.GEAR_CHG_CFG[0..3] (05 R189). -/
def axisGearChgCfg : ParRow := { cls := 0x21, idx := 0x74, len := 4, acc := .rw, legal := .nat 0 7 }
/-- AXIS.POS_SET (05 R189). -/
def axisPosSet : ParRow := { cls := 0x21, idx := 0x80, ty := .int32, acc := .wo, noReset := true }
/-- FLIGHT.DOOR_STATE (06 R224). -/
def flightDoorState : ParRow := { cls := 0x11, idx := 0x1 }
/-- FLIGHT.STATUS (06 R224). -/
def flightStatus : ParRow := { cls := 0x11, idx := 0x2 }
/-- FLIGHT.FAULT_CAUSE (06 R224). -/
def flightFaultCause : ParRow := { cls := 0x11, idx := 0x3 }
/-- FLIGHT.ISO_CAUSE (06 R224). -/
def flightIsoCause : ParRow := { cls := 0x11, idx := 0x4 }
/-- FLIGHT.STEP_STATE (06 R224). -/
def flightStepState : ParRow := { cls := 0x11, idx := 0x5 }
/-- FLIGHT.LOCK_STATE (06 R224). -/
def flightLockState : ParRow := { cls := 0x11, idx := 0x6 }
/-- FLIGHT.REF_STATE (06 R224). -/
def flightRefState : ParRow := { cls := 0x11, idx := 0x7 }
/-- FLIGHT.LAST_CMD (06 R224). -/
def flightLastCmd : ParRow := { cls := 0x11, idx := 0x8 }
/-- FLIGHT.LATCH_LOST (06 R224). -/
def flightLatchLost : ParRow := { cls := 0x11, idx := 0x9 }
/-- FLIGHT.ATTEMPT (06 R224). -/
def flightAttempt : ParRow := { cls := 0x11, idx := 0xA }
/-- FLIGHT.CYCLES (06 R224). -/
def flightCycles : ParRow := { cls := 0x11, idx := 0xB }
/-- FLIGHT.STEP_SEQ (06 R224). -/
def flightStepSeq : ParRow := { cls := 0x11, idx := 0x10, acc := .rw, image := true, legal := .nat 0 3 }
/-- FLIGHT.LEAF_CLOSED_POS (06 R224). -/
def flightLeafClosedPos : ParRow := { cls := 0x11, idx := 0x11, ty := .int32, acc := .rw }
/-- FLIGHT.OPEN_POS (06 R224). -/
def flightOpenPos : ParRow := { cls := 0x11, idx := 0x12, ty := .int32, acc := .rw }
/-- FLIGHT.OPEN_VMAX (06 R224): a speed, refused below 0. DESIGN CHOICE (log 80). -/
def flightOpenVmax : ParRow := { cls := 0x11, idx := 0x13, ty := .real32, acc := .rw, legal := .realMin 0 }
/-- FLIGHT.OPEN_SLOW_POS (06 R224). -/
def flightOpenSlowPos : ParRow := { cls := 0x11, idx := 0x14, ty := .int32, acc := .rw }
/-- FLIGHT.OPEN_SLOW_V (06 R224): a speed, refused below 0. DESIGN CHOICE (log 80). -/
def flightOpenSlowV : ParRow := { cls := 0x11, idx := 0x15, ty := .real32, acc := .rw, legal := .realMin 0 }
/-- FLIGHT.CLOSE_VMAX (06 R224): a speed, refused below 0. DESIGN CHOICE (log 80). -/
def flightCloseVmax : ParRow := { cls := 0x11, idx := 0x16, ty := .real32, acc := .rw, legal := .realMin 0 }
/-- FLIGHT.CLOSE_SLOW_POS (06 R224). -/
def flightCloseSlowPos : ParRow := { cls := 0x11, idx := 0x17, ty := .int32, acc := .rw }
/-- FLIGHT.CLOSE_SLOW_V (06 R224): a speed, refused below 0. DESIGN CHOICE (log 80). -/
def flightCloseSlowV : ParRow := { cls := 0x11, idx := 0x18, ty := .real32, acc := .rw, legal := .realMin 0 }
/-- FLIGHT.WARN_MS (06 R224). -/
def flightWarnMs : ParRow := { cls := 0x11, idx := 0x19, acc := .rw, reset := 0x7D0, legal := .nat 0 10000 }
/-- FLIGHT.CLOSE_CONFIRM_MS (06 R224). -/
def flightCloseConfirmMs : ParRow := { cls := 0x11, idx := 0x1A, acc := .rw, reset := 0x1F4, legal := .nat 10 5000 }
/-- FLIGHT.PASS_REOPEN (06 R224). -/
def flightPassReopen : ParRow := { cls := 0x11, idx := 0x1B, acc := .rw, reset := 0x1, legal := .nat 0 1 }
/-- FLIGHT.WITHDRAW_CLOSE (06 R224). -/
def flightWithdrawClose : ParRow := { cls := 0x11, idx := 0x1C, acc := .rws, reset := 0x1, legal := .nat 0 1 }
/-- FLIGHT.STEP_EXT_POS (06 R224). -/
def flightStepExtPos : ParRow := { cls := 0x11, idx := 0x20, ty := .int32, acc := .rw }
/-- FLIGHT.STEP_RET_POS (06 R224). -/
def flightStepRetPos : ParRow := { cls := 0x11, idx := 0x21, ty := .int32, acc := .rw }
/-- FLIGHT.STEP_CONFIRM_MS (06 R224). -/
def flightStepConfirmMs : ParRow := { cls := 0x11, idx := 0x22, acc := .rw, reset := 0x12C, legal := .nat 10 5000 }
/-- FLIGHT.STEP_VMAX (06 R224): a speed, refused below 0. DESIGN CHOICE (log 80). -/
def flightStepVmax : ParRow := { cls := 0x11, idx := 0x23, ty := .real32, acc := .rw, legal := .realMin 0 }
/-- FLIGHT.UNLOCK_MS (06 R224). -/
def flightUnlockMs : ParRow := { cls := 0x11, idx := 0x28, acc := .rw, reset := 0x1F4, legal := .nat 50 5000 }
/-- FLIGHT.LOCK_MS (06 R224). -/
def flightLockMs : ParRow := { cls := 0x11, idx := 0x29, acc := .rw, reset := 0x1F4, legal := .nat 50 5000 }
/-- FLIGHT.REF_METHOD (06 R224). -/
def flightRefMethod : ParRow := { cls := 0x11, idx := 0x30, acc := .rw, legal := .nat 0 1 }
/-- FLIGHT.REF_SPEED (06 R224). -/
def flightRefSpeed : ParRow :=
  { cls := 0x11, idx := 0x31, ty := .real32, acc := .rw, reset := 0x447A0000, legal := .real 1 25000000 0 }
/-- FLIGHT.REF_I (06 R224). -/
def flightRefI : ParRow :=
  { cls := 0x11, idx := 0x32, ty := .real32, acc := .rw, reset := 0x3F800000, legal := .real (1/5) 15 (1/20) }
/-- FLIGHT.REF_MAX_TRAVEL (06 R224). -/
def flightRefMaxTravel : ParRow := { cls := 0x11, idx := 0x33, acc := .rw, reset := 0xF4240, legal := .nat 1 2147483647 }
/-- FLIGHT.REF_LIMIT (06 R224). -/
def flightRefLimit : ParRow := { cls := 0x11, idx := 0x34, acc := .rw, image := true }
/-- FLIGHT.REF_CHATTER_MS (06 R224). -/
def flightRefChatterMs : ParRow :=
  { cls := 0x11, idx := 0x35, ty := .real32, acc := .rw, reset := 0x41A00000, legal := .real 1 100 (1/8) }
/-- FLIGHT.REF_INDEX (06 R224). -/
def flightRefIndex : ParRow := { cls := 0x11, idx := 0x36, acc := .rw, legal := .nat 0 1 }
/-- FLIGHT.REF_INDEX_POS (06 R224). -/
def flightRefIndexPos : ParRow := { cls := 0x11, idx := 0x37, ty := .int32, acc := .rw }
/-- FLIGHT.REF_INDEX_WIN (06 R224). -/
def flightRefIndexWin : ParRow := { cls := 0x11, idx := 0x38, acc := .rw, reset := 0x64, legal := .nat 1 1000000 }
/-- FLIGHT.REF_STALL_V (06 R224). -/
def flightRefStallV : ParRow := { cls := 0x11, idx := 0x39, ty := .real32, acc := .rw, reset := 0x42C80000, legal := .realMin 1 }
/-- FLIGHT.REF_STALL_MS (06 R224). -/
def flightRefStallMs : ParRow := { cls := 0x11, idx := 0x3A, acc := .rw, reset := 0x32, legal := .nat 5 1000 }
/-- FLIGHT.REF_HARDSTOP_POS (06 R224). -/
def flightRefHardstopPos : ParRow := { cls := 0x11, idx := 0x3B, ty := .int32, acc := .rw }
/-- FLIGHT.REF_HOME_POS (06 R224). -/
def flightRefHomePos : ParRow := { cls := 0x11, idx := 0x3C, ty := .int32, acc := .rw }
/-- FLIGHT.STEP_REF_SPEED (06 R224). -/
def flightStepRefSpeed : ParRow :=
  { cls := 0x11, idx := 0x3D, ty := .real32, acc := .rw, reset := 0x447A0000, legal := .real 1 25000000 0 }
/-- FLIGHT.STEP_REF_HOME_POS (06 R224). -/
def flightStepRefHomePos : ParRow := { cls := 0x11, idx := 0x3E, ty := .int32, acc := .rw }
/-- FLIGHT.STEP_REF_LIMIT (06 R224). -/
def flightStepRefLimit : ParRow := { cls := 0x11, idx := 0x3F, acc := .rw, image := true }
/-- FLIGHT.STEP_REF_MAX_TRAVEL (06 R224). -/
def flightStepRefMaxTravel : ParRow := { cls := 0x11, idx := 0x40, acc := .rw, reset := 0x186A0, legal := .nat 1 2147483647 }
/-- FLIGHT.CGEAR_NUM (06 R224). -/
def flightCgearNum : ParRow := { cls := 0x11, idx := 0x41, ty := .int32, acc := .rw, reset := 0x1, legal := .int (-32768) 32767 }
/-- FLIGHT.CGEAR_DEN (06 R224). -/
def flightCgearDen : ParRow := { cls := 0x11, idx := 0x42, acc := .rw, reset := 0x1, legal := .nat 1 65535 }
/-- FLIGHT.CGEAR_BLEND (06 R224). -/
def flightCgearBlend : ParRow := { cls := 0x11, idx := 0x43, acc := .rw, legal := .nat 0 65535 }
/-- FLIGHT.CGEAR_CHG_POS[0..3] (06 R224). -/
def flightCgearChgPos : ParRow := { cls := 0x11, idx := 0x44, len := 4, ty := .int32, acc := .rw }
/-- FLIGHT.CGEAR_CHG_NUM[0..3] (06 R224). -/
def flightCgearChgNum : ParRow := { cls := 0x11, idx := 0x48, len := 4, ty := .int32, acc := .rw, legal := .int (-32768) 32767 }
/-- FLIGHT.CGEAR_CHG_DEN[0..3] (06 R224). -/
def flightCgearChgDen : ParRow := { cls := 0x11, idx := 0x4C, len := 4, acc := .rw, reset := 0x1, legal := .nat 1 65535 }
/-- FLIGHT.CGEAR_CHG_CFG[0..3] (06 R224). -/
def flightCgearChgCfg : ParRow := { cls := 0x11, idx := 0x50, len := 4, acc := .rw, legal := .nat 0 7 }
/-- FLIGHT.I (06 R224). -/
def flightI : ParRow := { cls := 0x11, idx := 0x60, ty := .real32, noReset := true }
/-- FLIGHT.I_MEAN1S (06 R224). -/
def flightIMean1s : ParRow := { cls := 0x11, idx := 0x61, ty := .real32, noReset := true }
/-- FLIGHT.SCALE (06 R224). -/
def flightScale : ParRow := { cls := 0x11, idx := 0x62, ty := .real32, reset := 0x3F800000 }
/-- FLIGHT.STOP_CLEAR (06 R224). -/
def flightStopClear : ParRow := { cls := 0x11, idx := 0x63, acc := .wo, noReset := true, legal := .oneOf [1] }
/-- FLIGHT.PRESENCE (06 R224). -/
def flightPresence : ParRow := { cls := 0x11, idx := 0x64 }
/-- OBSTACLE.F (07 R257). -/
def obstacleF : ParRow := { cls := 0x28, idx := 0x1, ty := .real32 }
/-- OBSTACLE.STATUS (07 R257). -/
def obstacleStatus : ParRow := { cls := 0x28, idx := 0x2 }
/-- OBSTACLE.ZONE (07 R257). -/
def obstacleZone : ParRow := { cls := 0x28, idx := 0x3 }
/-- OBSTACLE.THRESH_EFF (07 R257). -/
def obstacleThreshEff : ParRow := { cls := 0x28, idx := 0x4, ty := .real32 }
/-- OBSTACLE.TEMP (07 R257). -/
def obstacleTemp : ParRow := { cls := 0x28, idx := 0x5, ty := .real32, noReset := true }
/-- OBSTACLE.KTEMP (07 R257). -/
def obstacleKtemp : ParRow := { cls := 0x28, idx := 0x6, ty := .real32, reset := 0x3F800000 }
/-- OBSTACLE.LEARN_CYCLES (07 R257). -/
def obstacleLearnCycles : ParRow := { cls := 0x28, idx := 0x7, noReset := true }
/-- OBSTACLE.DETECTIONS (07 R257). -/
def obstacleDetections : ParRow := { cls := 0x28, idx := 0x8 }
/-- OBSTACLE.LAST_TRIG (07 R257). -/
def obstacleLastTrig : ParRow := { cls := 0x28, idx := 0x9 }
/-- OBSTACLE.LAST_POS (07 R257). -/
def obstacleLastPos : ParRow := { cls := 0x28, idx := 0xA, ty := .int32 }
/-- OBSTACLE.LAST_F (07 R257). -/
def obstacleLastF : ParRow := { cls := 0x28, idx := 0xB, ty := .real32 }
/-- OBSTACLE.DRIFT_MAX (07 R257). -/
def obstacleDriftMax : ParRow := { cls := 0x28, idx := 0xC, ty := .real32, noReset := true }
/-- OBSTACLE.F_PEAK (07 R257). -/
def obstacleFPeak : ParRow := { cls := 0x28, idx := 0xD, ty := .real32 }
/-- OBSTACLE.COMM_DONE (07 R257). -/
def obstacleCommDone : ParRow := { cls := 0x28, idx := 0xE }
/-- OBSTACLE.UNCLEAN (07 R257). -/
def obstacleUnclean : ParRow := { cls := 0x28, idx := 0xF }
/-- OBSTACLE.TRIG_EN (07 R257): the three bits that R243 to R246 name. DESIGN CHOICE (log 90). -/
def obstacleTrigEn : ParRow := { cls := 0x28, idx := 0x10, acc := .rw, image := true, reset := 0x5, legal := .nat 0 7 }
/-- OBSTACLE.KT (07 R257). -/
def obstacleKt : ParRow :=
  { cls := 0x28, idx := 0x11, ty := .real32, acc := .rw, image := true, reset := 0x3DCCCCCD, legal := .real (1/1000) 10 0 }
/-- OBSTACLE.ETA (07 R257). -/
def obstacleEta : ParRow :=
  { cls := 0x28, idx := 0x12, ty := .real32, acc := .rw, image := true, reset := 0x3F59999A, legal := .real (3/10) 1 0 }
/-- OBSTACLE.GEAR_G (07 R257). -/
def obstacleGearG : ParRow :=
  { cls := 0x28, idx := 0x13, ty := .real32, acc := .rw, image := true, reset := 0x43FA0000, legal := .real 1 100000 0 }
/-- OBSTACLE.MASS_EQ (07 R257). -/
def obstacleMassEq : ParRow :=
  { cls := 0x28, idx := 0x14, ty := .real32, acc := .rw, image := true, reset := 0x42480000, legal := .real (1/10) 1000 0 }
/-- OBSTACLE.LEAF_MASS (07 R257). -/
def obstacleLeafMass : ParRow := { cls := 0x28, idx := 0x15, ty := .real32, acc := .rw, image := true, legal := .real 0 500 0 }
/-- OBSTACLE.VISC (07 R257). -/
def obstacleVisc : ParRow := { cls := 0x28, idx := 0x16, ty := .real32, acc := .rw, image := true, legal := .real 0 1000 0 }
/-- OBSTACLE.SLOPE_IN (07 R257). -/
def obstacleSlopeIn : ParRow := { cls := 0x28, idx := 0x17, ty := .real32, acc := .rw, legal := .real (-1/5) (1/5) 0 }
/-- OBSTACLE.TEMP_SRC (07 R257). -/
def obstacleTempSrc : ParRow := { cls := 0x28, idx := 0x18, acc := .rw, image := true, legal := .nat 0 2 }
/-- OBSTACLE.TEMP_LINE (07 R257). -/
def obstacleTempLine : ParRow := { cls := 0x28, idx := 0x19, acc := .rw, image := true, legal := .nat 0 159 }
/-- OBSTACLE.TEMP_GAIN (07 R257). -/
def obstacleTempGain : ParRow :=
  { cls := 0x28, idx := 0x1A, ty := .real32, acc := .rw, image := true, reset := 0x41200000, legal := .real (-1000) 1000 0 }
/-- OBSTACLE.TEMP_OFFSET (07 R257). -/
def obstacleTempOffset : ParRow :=
  { cls := 0x28, idx := 0x1B, ty := .real32, acc := .rw, image := true, legal := .real (-1000) 1000 0 }
/-- OBSTACLE.TEMP_IN (07 R257). -/
def obstacleTempIn : ParRow := { cls := 0x28, idx := 0x1C, ty := .real32, acc := .rw, noReset := true, legal := .finite }
/-- OBSTACLE.KT_TABLE[0..5] (07 R257). -/
def obstacleKtTable : ParRow :=
  { cls := 0x28, idx := 0x1D, len := 6, ty := .real32, acc := .rw, image := true, reset := 0x3F800000, legal := .real (1/2) 3 0 }
/-- OBSTACLE.EST_AVG (07 R257). -/
def obstacleEstAvg : ParRow := { cls := 0x28, idx := 0x28, acc := .rw, image := true, reset := 0x2, legal := .nat 1 8 }
/-- OBSTACLE.CONFIRM (07 R257). -/
def obstacleConfirm : ParRow := { cls := 0x28, idx := 0x29, acc := .rw, image := true, reset := 0x5, legal := .nat 1 16 }
/-- OBSTACLE.START_MS (07 R257). -/
def obstacleStartMs : ParRow := { cls := 0x28, idx := 0x2A, acc := .rw, image := true, reset := 0x64, legal := .nat 0 500 }
/-- OBSTACLE.START_MARGIN (07 R257). -/
def obstacleStartMargin : ParRow :=
  { cls := 0x28, idx := 0x2B, ty := .real32, acc := .rw, image := true, reset := 0x42480000, legal := .real 0 200 0 }
/-- OBSTACLE.ZONE_COUNT (07 R257). -/
def obstacleZoneCount : ParRow := { cls := 0x28, idx := 0x30, acc := .rw, image := true, reset := 0x2, legal := .nat 2 8 }
/-- OBSTACLE.ZONE_END[0..7] (07 R257). -/
def obstacleZoneEnd : ParRow := { cls := 0x28, idx := 0x31, len := 8, acc := .rw, image := true }
/-- OBSTACLE.ZONE_THRESH[0..7] (07 R257). -/
def obstacleZoneThresh : ParRow :=
  { cls := 0x28, idx := 0x39, len := 8, ty := .real32, acc := .rw, image := true, reset := 0x43160000, legal := .real 10 1000 0 }
/-- OBSTACLE.OPEN_THRESH (07 R257). -/
def obstacleOpenThresh : ParRow :=
  { cls := 0x28, idx := 0x41, ty := .real32, acc := .rw, image := true, reset := 0x43160000, legal := .real 10 1000 0 }
/-- OBSTACLE.COMM_THRESH (07 R257). -/
def obstacleCommThresh : ParRow :=
  { cls := 0x28, idx := 0x42, ty := .real32, acc := .rw, image := true, reset := 0x437A0000, legal := .real 10 1000 0 }
/-- OBSTACLE.REV_DIST (07 R257). -/
def obstacleRevDist : ParRow := { cls := 0x28, idx := 0x48, acc := .rw, image := true, legal := .nat 0 2147483647 }
/-- OBSTACLE.FINAL_REV_DIST (07 R257). -/
def obstacleFinalRevDist : ParRow := { cls := 0x28, idx := 0x49, acc := .rw, image := true, legal := .nat 0 2147483647 }
/-- OBSTACLE.REV_VMAX (07 R257). -/
def obstacleRevVmax : ParRow := { cls := 0x28, idx := 0x4A, ty := .real32, acc := .rw, image := true, legal := .realMin 0 }
/-- OBSTACLE.REV_PAUSE_MS (07 R257). -/
def obstacleRevPauseMs : ParRow := { cls := 0x28, idx := 0x4B, acc := .rw, image := true, reset := 0x3E8, legal := .nat 0 10000 }
/-- OBSTACLE.ATTEMPTS (07 R257). -/
def obstacleAttempts : ParRow := { cls := 0x28, idx := 0x4C, acc := .rw, image := true, reset := 0x3, legal := .nat 0 5 }
/-- OBSTACLE.RECLOSE_PCT (07 R257). -/
def obstacleReclosePct : ParRow := { cls := 0x28, idx := 0x4D, acc := .rw, image := true, reset := 0x50, legal := .nat 50 100 }
/-- OBSTACLE.RECLOSE_VMAX (07 R257). -/
def obstacleRecloseVmax : ParRow := { cls := 0x28, idx := 0x4E, ty := .real32, acc := .rw, image := true, legal := .realMin 0 }
/-- OBSTACLE.GIVEUP_OPEN (07 R257). -/
def obstacleGiveupOpen : ParRow := { cls := 0x28, idx := 0x4F, acc := .rw, image := true, reset := 0x1, legal := .nat 0 1 }
/-- OBSTACLE.EDGE_MUTE_DIST (07 R257). -/
def obstacleEdgeMuteDist : ParRow := { cls := 0x28, idx := 0x50, acc := .rw, image := true }
/-- OBSTACLE.EDGE_FAULT_REACT (07 R257). -/
def obstacleEdgeFaultReact : ParRow := { cls := 0x28, idx := 0x51, acc := .rw, image := true, legal := .nat 0 1 }
/-- OBSTACLE.SPD_DEV_PCT (07 R257). -/
def obstacleSpdDevPct : ParRow := { cls := 0x28, idx := 0x52, acc := .rw, image := true, reset := 0x28, legal := .nat 10 90 }
/-- OBSTACLE.SPD_DEV_TIME (07 R257). -/
def obstacleSpdDevTime : ParRow := { cls := 0x28, idx := 0x53, acc := .rw, image := true, reset := 0x10, legal := .nat 1 80 }
/-- OBSTACLE.SPD_DEV_VMIN (07 R257). -/
def obstacleSpdDevVmin : ParRow :=
  { cls := 0x28, idx := 0x54, ty := .real32, acc := .rw, image := true, reset := 0x447A0000, legal := .realMin 1 }
/-- OBSTACLE.LEARN_EN (07 R257). -/
def obstacleLearnEn : ParRow := { cls := 0x28, idx := 0x58, acc := .rw, reset := 0x1, legal := .nat 0 1 }
/-- OBSTACLE.LEARN_VIN_LO (07 R257). -/
def obstacleLearnVinLo : ParRow :=
  { cls := 0x28, idx := 0x59, ty := .real32, acc := .rw, reset := 0x41666666, legal := .real (72/5) 154 0 }
/-- OBSTACLE.LEARN_VIN_HI (07 R257). -/
def obstacleLearnVinHi : ParRow :=
  { cls := 0x28, idx := 0x5A, ty := .real32, acc := .rw, reset := 0x431A0000, legal := .real (72/5) 154 0 }
/-- OBSTACLE.DRIFT_LIMIT (07 R257). -/
def obstacleDriftLimit : ParRow :=
  { cls := 0x28, idx := 0x5B, ty := .real32, acc := .rw, image := true, reset := 0x41A00000, legal := .real 5 20 0 }
/-- OBSTACLE.COMM_CYCLES (07 R257). -/
def obstacleCommCycles : ParRow := { cls := 0x28, idx := 0x5C, acc := .rw, reset := 0xA, legal := .nat 5 50 }
/-- OBSTACLE.COMM_SPREAD (07 R257). -/
def obstacleCommSpread : ParRow :=
  { cls := 0x28, idx := 0x5D, ty := .real32, acc := .rw, reset := 0x41200000, legal := .real 1 50 0 }
/-- OBSTACLE.COMMISSION (07 R257). -/
def obstacleCommission : ParRow := { cls := 0x28, idx := 0x60, acc := .wo, noReset := true, legal := .oneOf [0, 1] }
/-- OBSTACLE.MAP_RESTORE (07 R257). -/
def obstacleMapRestore : ParRow := { cls := 0x28, idx := 0x61, acc := .wo, noReset := true, legal := .oneOf [1] }
/-- OBSTACLE.MAP_CLOSE[0..255] (07 R257). -/
def obstacleMapClose : ParRow := { cls := 0x28, idx := 0x100, len := 256, ty := .real32, noReset := true }
/-- OBSTACLE.MAP_OPEN[0..255] (07 R257). -/
def obstacleMapOpen : ParRow := { cls := 0x28, idx := 0x200, len := 256, ty := .real32, noReset := true }
/-- OBSTACLE.SNAP_CLOSE[0..255] (07 R257). -/
def obstacleSnapClose : ParRow := { cls := 0x28, idx := 0x300, len := 256, ty := .real32, noReset := true }
/-- OBSTACLE.SNAP_OPEN[0..255] (07 R257). -/
def obstacleSnapOpen : ParRow := { cls := 0x28, idx := 0x400, len := 256, ty := .real32, noReset := true }
/-- SAFETY.MODE (08 R297). -/
def safetyMode : ParRow := { cls := 0x38, idx := 0x1 }
/-- SAFETY.STATUS (08 R297). -/
def safetyStatus : ParRow := { cls := 0x38, idx := 0x2 }
/-- SAFETY.SH_CAUSE (08 R297). -/
def safetyShCause : ParRow := { cls := 0x38, idx := 0x3 }
/-- SAFETY.SEAL_VALUE (08 R297). -/
def safetySealValue : ParRow := { cls := 0x38, idx := 0x4, noReset := true }
/-- SAFETY.SET_CHECK (08 R297). -/
def safetySetCheck : ParRow := { cls := 0x38, idx := 0x5, noReset := true }
/-- SAFETY.CL_FLIGHTS (08 R297). -/
def safetyClFlights : ParRow := { cls := 0x38, idx := 0x6 }
/-- SAFETY.PERMISSION (08 R297). -/
def safetyPermission : ParRow := { cls := 0x38, idx := 0x7 }
/-- SAFETY.DISC_LATCH[0..1] (08 R297). -/
def safetyDiscLatch : ParRow := { cls := 0x38, idx := 0x8, len := 2 }
/-- SAFETY.MISMATCH_COUNT (08 R297). -/
def safetyMismatchCount : ParRow := { cls := 0x38, idx := 0xA }
/-- SAFETY.RESET_COUNT (08 R297). -/
def safetyResetCount : ParRow := { cls := 0x38, idx := 0xB }
/-- SAFETY.PARTNER_CHARGE (08 R297). -/
def safetyPartnerCharge : ParRow := { cls := 0x38, idx := 0xC }
/-- SAFETY.SEAL_ADDR (08 R297). -/
def safetySealAddr : ParRow := { cls := 0x38, idx := 0x10, acc := .rws, legal := .nat 0 255 }
/-- SAFETY.DCL_MAP (08 R297). -/
def safetyDclMap : ParRow := { cls := 0x38, idx := 0x11, acc := .rws, legal := .nat 0 1 }
/-- SAFETY.FLIGHT_SIDE[0..11] (08 R297). -/
def safetyFlightSide : ParRow := { cls := 0x38, idx := 0x12, len := 12, acc := .rws, reset := 0x2, legal := .nat 0 2 }
/-- SAFETY.CREW_FLIGHTS (08 R297). -/
def safetyCrewFlights : ParRow := { cls := 0x38, idx := 0x20, acc := .rws, legal := .nat 0 4095 }
/-- SAFETY.DISC_CLOSED (08 R297). -/
def safetyDiscClosed : ParRow :=
  { cls := 0x38, idx := 0x21, ty := .real32, acc := .rws, reset := 0x41A00000, legal := .real (1/8) 2000 (1/8) }
/-- SAFETY.DISC_LOCKED (08 R297). -/
def safetyDiscLocked : ParRow :=
  { cls := 0x38, idx := 0x22, ty := .real32, acc := .rws, reset := 0x42480000, legal := .real (1/8) 2000 (1/8) }
/-- SAFETY.DISC_EGRESS (08 R297). -/
def safetyDiscEgress : ParRow :=
  { cls := 0x38, idx := 0x23, ty := .real32, acc := .rws, reset := 0x41A00000, legal := .real (1/8) 2000 (1/8) }
/-- SAFETY.DISC_STEP (08 R297). -/
def safetyDiscStep : ParRow :=
  { cls := 0x38, idx := 0x24, ty := .real32, acc := .rws, reset := 0x42480000, legal := .real (1/8) 2000 (1/8) }
/-- SAFETY.DISC_ZERO (08 R297). -/
def safetyDiscZero : ParRow :=
  { cls := 0x38, idx := 0x25, ty := .real32, acc := .rws, reset := 0x42C80000, legal := .real (1/8) 2000 (1/8) }
/-- SAFETY.DISC_RELEASE (08 R297). -/
def safetyDiscRelease : ParRow :=
  { cls := 0x38, idx := 0x26, ty := .real32, acc := .rws, reset := 0x42C80000, legal := .real (1/8) 2000 (1/8) }
/-- SAFETY.DCL_SETTLE (08 R297). -/
def safetyDclSettle : ParRow := { cls := 0x38, idx := 0x28, acc := .rws, reset := 0x64, legal := .nat 0 5000 }
/-- SAFETY.ZS_SETTLE (08 R297). -/
def safetyZsSettle : ParRow := { cls := 0x38, idx := 0x29, acc := .rws, reset := 0x1F4, legal := .nat 0 10000 }
/-- SAFETY.ZS_SRC (08 R297). -/
def safetyZsSrc : ParRow := { cls := 0x38, idx := 0x2A, acc := .rws, legal := .nat 0 1 }
/-- SAFETY.REL_SRC (08 R297). -/
def safetyRelSrc : ParRow := { cls := 0x38, idx := 0x2B, acc := .rws, legal := .nat 0 1 }
/-- SAFETY.HOST_RESET_EN (08 R297). -/
def safetyHostResetEn : ParRow := { cls := 0x38, idx := 0x2C, acc := .rws, legal := .nat 0 1 }
/-- SAFETY.MON_DIR[0..11] (08 R297). -/
def safetyMonDir : ParRow := { cls := 0x38, idx := 0x30, len := 12, acc := .rws, legal := .nat 0 1 }
/-- SAFETY.MON_OPEN_MAX (08 R297). -/
def safetyMonOpenMax : ParRow := { cls := 0x38, idx := 0x40, acc := .rws, reset := 0x7D0, legal := .nat 1 1000000 }
/-- SAFETY.SH_STILL (08 R297). -/
def safetyShStill : ParRow := { cls := 0x38, idx := 0x41, acc := .rws, reset := 0x8, legal := .nat 1 65535 }
/-- SAFETY.RESET_REQ (08 R297). -/
def safetyResetReq : ParRow := { cls := 0x38, idx := 0x50, acc := .wo, noReset := true, legal := .oneOf [1] }
/-- SAFELINK.OWN_ID (09 R324). -/
def safelinkOwnId : ParRow := { cls := 0x39, idx := 0x1, acc := .rws }
/-- SAFELINK.ZS_CONN (09 R324). -/
def safelinkZsConn : ParRow := { cls := 0x39, idx := 0x2, acc := .rws, legal := .nat 0 7 }
/-- SAFELINK.REL_CONN (09 R324). -/
def safelinkRelConn : ParRow := { cls := 0x39, idx := 0x3, acc := .rws, legal := .nat 0 7 }
/-- SAFELINK.CONN_EN[0..7] (09 R324). -/
def safelinkConnEn : ParRow := { cls := 0x39, idx := 0x10, len := 8, acc := .rws, legal := .nat 0 1 }
/-- SAFELINK.CONN_PEER_ID[0..7] (09 R324). -/
def safelinkConnPeerId : ParRow := { cls := 0x39, idx := 0x18, len := 8, acc := .rws }
/-- SAFELINK.CONN_CARRIER[0..7] (09 R324). -/
def safelinkConnCarrier : ParRow := { cls := 0x39, idx := 0x20, len := 8, acc := .rws, legal := .nat 0 1 }
/-- SAFELINK.CONN_PERIOD[0..7] (09 R324). -/
def safelinkConnPeriod : ParRow := { cls := 0x39, idx := 0x28, len := 8, acc := .rws, reset := 0x14, legal := .nat 10 1000 }
/-- SAFELINK.CONN_TEXP[0..7] (09 R324). -/
def safelinkConnTexp : ParRow := { cls := 0x39, idx := 0x30, len := 8, acc := .rws, reset := 0x46, legal := .nat 10 10000 }
/-- SAFELINK.CONN_SEQ_WIN[0..7] (09 R324). -/
def safelinkConnSeqWin : ParRow := { cls := 0x39, idx := 0x38, len := 8, acc := .rws, reset := 0x8, legal := .nat 1 255 }
/-- SAFELINK.CONN_TX_COMID[0..7] (09 R324). -/
def safelinkConnTxComid : ParRow := { cls := 0x39, idx := 0x40, len := 8, acc := .rw, image := true }
/-- SAFELINK.CONN_RX_COMID[0..7] (09 R324). -/
def safelinkConnRxComid : ParRow := { cls := 0x39, idx := 0x48, len := 8, acc := .rw, image := true }
/-- SAFELINK.CONN_DEST_IP[0..7] (09 R324). -/
def safelinkConnDestIp : ParRow := { cls := 0x39, idx := 0x50, len := 8, acc := .rw, image := true }
/-- SAFELINK.CONN_SRC_IP[0..7] (09 R324). -/
def safelinkConnSrcIp : ParRow := { cls := 0x39, idx := 0x58, len := 8, acc := .rw, image := true }
/-- SAFELINK.CONN_STATE[0..7] (09 R324). -/
def safelinkConnState : ParRow := { cls := 0x39, idx := 0x60, len := 8 }
/-- SAFELINK.CONN_RX_SIG[0..7] (09 R324). -/
def safelinkConnRxSig : ParRow := { cls := 0x39, idx := 0x68, len := 8 }
/-- SAFELINK.CONN_AGE[0..7] (09 R324). -/
def safelinkConnAge : ParRow := { cls := 0x39, idx := 0x70, len := 8 }
/-- SAFELINK.CONN_ACCEPTED[0..7] (09 R324). -/
def safelinkConnAccepted : ParRow := { cls := 0x39, idx := 0x78, len := 8 }
/-- SAFELINK.CONN_ERRORS[0..47] (09 R324). -/
def safelinkConnErrors : ParRow := { cls := 0x39, idx := 0x80, len := 48 }
/-- TRDP.SUB_FRESH (09 R325). -/
def trdpSubFresh : ParRow := { cls := 0x49, idx := 0x1 }
/-- TRDP.RX_DISCARDS (09 R325). -/
def trdpRxDiscards : ParRow := { cls := 0x49, idx := 0x2 }
/-- TRDP.STORM_DROPS (09 R325). -/
def trdpStormDrops : ParRow := { cls := 0x49, idx := 0x3 }
/-- TRDP.PD_DSCP (09 R325). -/
def trdpPdDscp : ParRow := { cls := 0x49, idx := 0x4, acc := .rw, reset := 0x28, legal := .nat 0 63 }
/-- TRDP.PUB_COMID[0..31] (09 R325). -/
def trdpPubComid : ParRow := { cls := 0x49, idx := 0x100, len := 32, acc := .rw, image := true }
/-- TRDP.PUB_DEST_IP[0..31] (09 R325). -/
def trdpPubDestIp : ParRow := { cls := 0x49, idx := 0x120, len := 32, acc := .rw, image := true }
/-- TRDP.PUB_CYCLE[0..31] (09 R325). -/
def trdpPubCycle : ParRow :=
  { cls := 0x49, idx := 0x140, len := 32, acc := .rw, image := true, reset := 0x64, legal := .nat 10 10000 }
/-- TRDP.PUB_OFFSET[0..31] (09 R325). -/
def trdpPubOffset : ParRow := { cls := 0x49, idx := 0x160, len := 32, acc := .rw, image := true, legal := .nat 0 4095 }
/-- TRDP.PUB_LEN[0..31] (09 R325). -/
def trdpPubLen : ParRow := { cls := 0x49, idx := 0x180, len := 32, acc := .rw, image := true, legal := .nat 0 1432 }
/-- TRDP.SUB_COMID[0..31] (09 R325). -/
def trdpSubComid : ParRow := { cls := 0x49, idx := 0x200, len := 32, acc := .rw, image := true }
/-- TRDP.SUB_SRC_IP[0..31] (09 R325). -/
def trdpSubSrcIp : ParRow := { cls := 0x49, idx := 0x220, len := 32, acc := .rw, image := true }
/-- TRDP.SUB_GROUP_IP[0..31] (09 R325). -/
def trdpSubGroupIp : ParRow := { cls := 0x49, idx := 0x240, len := 32, acc := .rw, image := true }
/-- TRDP.SUB_OFFSET[0..31] (09 R325). -/
def trdpSubOffset : ParRow := { cls := 0x49, idx := 0x260, len := 32, acc := .rw, image := true, legal := .nat 0 4095 }
/-- TRDP.SUB_LEN[0..31] (09 R325). -/
def trdpSubLen : ParRow := { cls := 0x49, idx := 0x280, len := 32, acc := .rw, image := true, legal := .nat 0 1432 }
/-- TRDP.SUB_TIMEOUT[0..31] (09 R325). -/
def trdpSubTimeout : ParRow := { cls := 0x49, idx := 0x2A0, len := 32, acc := .rw, reset := 0x12C, legal := .nat 10 60000 }
/-- TRDP.SUB_TO_BEHAV[0..31] (09 R325). -/
def trdpSubToBehav : ParRow := { cls := 0x49, idx := 0x2C0, len := 32, acc := .rw, legal := .nat 0 1 }
/-- PROGRAM.STATE (10 R373). -/
def programState : ParRow := { cls := 0x30, idx := 0x1 }
/-- PROGRAM.STATUS (10 R373). -/
def programStatus : ParRow := { cls := 0x30, idx := 0x2 }
/-- PROGRAM.PROG_ID (10 R373). -/
def programProgId : ParRow := { cls := 0x30, idx := 0x3 }
/-- PROGRAM.PROG_VERSION (10 R373). -/
def programProgVersion : ParRow := { cls := 0x30, idx := 0x4 }
/-- PROGRAM.CYCLE_MS (10 R373). -/
def programCycleMs : ParRow := { cls := 0x30, idx := 0x5 }
/-- PROGRAM.CYCLE_COUNT (10 R373). -/
def programCycleCount : ParRow := { cls := 0x30, idx := 0x6 }
/-- PROGRAM.EXEC_LAST (10 R373). -/
def programExecLast : ParRow := { cls := 0x30, idx := 0x7 }
/-- PROGRAM.EXEC_MAX (10 R373). -/
def programExecMax : ParRow := { cls := 0x30, idx := 0x8 }
/-- PROGRAM.OVERRUNS (10 R373). -/
def programOverruns : ParRow := { cls := 0x30, idx := 0x9 }
/-- PROGRAM.SKIPPED (10 R373). -/
def programSkipped : ParRow := { cls := 0x30, idx := 0xA }
/-- PROGRAM.ARITH_ERRORS (10 R373). -/
def programArithErrors : ParRow := { cls := 0x30, idx := 0xB }
/-- PROGRAM.BLOCKS (10 R373). -/
def programBlocks : ParRow := { cls := 0x30, idx := 0xC }
/-- PROGRAM.MEM_USED (10 R373). -/
def programMemUsed : ParRow := { cls := 0x30, idx := 0xD }
/-- PROGRAM.STOP_CAUSE (10 R373). -/
def programStopCause : ParRow := { cls := 0x30, idx := 0xE }
/-- PROGRAM.OVERRUN_ESC (10 R373). -/
def programOverrunEsc : ParRow := { cls := 0x30, idx := 0x10, acc := .rw, legal := .nat 0 1000 }
/-- PROGRAM.OVERRUN_WIN (10 R373). -/
def programOverrunWin : ParRow := { cls := 0x30, idx := 0x11, acc := .rw, reset := 0x3E8, legal := .nat 1 100000 }
/-- PROGRAM.RESTART (10 R373). -/
def programRestart : ParRow := { cls := 0x30, idx := 0x12, acc := .wo, noReset := true, legal := .oneOf [1] }
/-- PROGRAM.STOP (10 R373). -/
def programStop : ParRow := { cls := 0x30, idx := 0x13, acc := .wo, noReset := true, legal := .oneOf [1] }
/-- PROGRAM.PENDING_STATE (10 R373). -/
def programPendingState : ParRow := { cls := 0x30, idx := 0x20 }
/-- PROGRAM.PENDING_ID (10 R373). -/
def programPendingId : ParRow := { cls := 0x30, idx := 0x21 }
/-- PROGRAM.PENDING_VERSION (10 R373). -/
def programPendingVersion : ParRow := { cls := 0x30, idx := 0x22 }
/-- PROGRAM.SWITCHES (10 R373). -/
def programSwitches : ParRow := { cls := 0x30, idx := 0x23 }
/-- PROGRAM.LAST_SWITCH (10 R373). -/
def programLastSwitch : ParRow := { cls := 0x30, idx := 0x24 }
/-- PROGRAM.OVERRIDE (10 R373). -/
def programOverride : ParRow := { cls := 0x30, idx := 0x25 }
/-- PROGRAM.DIGEST[0..7] (10 R373). -/
def programDigest : ParRow := { cls := 0x30, idx := 0x30, len := 8, noReset := true }
/-- FORCE.COUNT (10 R375). -/
def forceCount : ParRow := { cls := 0x31, idx := 0x1 }
/-- FORCE.STATUS (10 R375). -/
def forceStatus : ParRow := { cls := 0x31, idx := 0x2 }
/-- FORCE.VAR[0..63] (10 R375). -/
def forceVar : ParRow := { cls := 0x31, idx := 0x10, len := 64 }
/-- FORCE.VALUE[0..63] (10 R375). -/
def forceValue : ParRow := { cls := 0x31, idx := 0x50, len := 64 }
/-- FORCE.SESSION[0..63] (10 R375). -/
def forceSession : ParRow := { cls := 0x31, idx := 0x90, len := 64 }
/-- FORCE.CLEAR_ALL (10 R375). -/
def forceClearAll : ParRow := { cls := 0x31, idx := 0xD0, acc := .wo, noReset := true, legal := .oneOf [1] }
/-- CAN.STATE[0..1] (10 R376). -/
def canState : ParRow := { cls := 0x4A, idx := 0x1, len := 2 }
/-- CAN.TEC_REC[0..1] (10 R376). -/
def canTecRec : ParRow := { cls := 0x4A, idx := 0x3, len := 2 }
/-- CAN.BUS_OFFS[0..1] (10 R376). -/
def canBusOffs : ParRow := { cls := 0x4A, idx := 0x5, len := 2 }
/-- CAN.RX_FRESH[0..1] (10 R376). -/
def canRxFresh : ParRow := { cls := 0x4A, idx := 0x7, len := 2 }
/-- CAN.TX_LATE[0..1] (10 R376). -/
def canTxLate : ParRow := { cls := 0x4A, idx := 0x9, len := 2 }
/-- CAN.RX_DISCARDS[0..1] (10 R376). -/
def canRxDiscards : ParRow := { cls := 0x4A, idx := 0xB, len := 2 }
/-- CAN.EMCY_COUNT[0..1] (10 R376). -/
def canEmcyCount : ParRow := { cls := 0x4A, idx := 0xD, len := 2 }
/-- CAN.NODE_STATE[0..31] (10 R376). -/
def canNodeState : ParRow := { cls := 0x4A, idx := 0x20, len := 32 }
/-- CAN.EN[0..1] (10 R376). -/
def canEn : ParRow := { cls := 0x4A, idx := 0x40, len := 2, acc := .rw, image := true, legal := .nat 0 1 }
/-- CAN.NOM_RATE[0..1] (10 R376). -/
def canNomRate : ParRow :=
  { cls := 0x4A, idx := 0x42, len := 2, acc := .rw, image := true, reset := 0x1F4, legal := .oneOf [125, 250, 500, 1000] }
/-- CAN.DATA_RATE[0..1] (10 R376). -/
def canDataRate : ParRow :=
  { cls := 0x4A, idx := 0x44, len := 2, acc := .rw, image := true, reset := 0x7D0, legal := .oneOf [0, 1000, 2000, 4000, 5000] }
/-- CAN.TERM[0..1] (10 R376). -/
def canTerm : ParRow := { cls := 0x4A, idx := 0x46, len := 2, acc := .rw, image := true, reset := 0x1, legal := .nat 0 1 }
/-- CAN.SYNC_EN[0..1] (10 R376). -/
def canSyncEn : ParRow := { cls := 0x4A, idx := 0x48, len := 2, acc := .rw, image := true, reset := 0x1, legal := .nat 0 1 }
/-- CAN.HB_NODE[0..31] (10 R376). -/
def canHbNode : ParRow := { cls := 0x4A, idx := 0x60, len := 32, acc := .rw, image := true, legal := .canNode }
/-- CAN.HB_TIME[0..31] (10 R376). -/
def canHbTime : ParRow := { cls := 0x4A, idx := 0x80, len := 32, acc := .rw, reset := 0x64, legal := .nat 10 10000 }
/-- CAN.RPDO_COBID[0..63] (10 R376). -/
def canRpdoCobid : ParRow := { cls := 0x4A, idx := 0x100, len := 64, acc := .rw, image := true, legal := .nat 0 2047 }
/-- CAN.RPDO_CFG[0..63] (10 R376). -/
def canRpdoCfg : ParRow := { cls := 0x4A, idx := 0x140, len := 64, acc := .rw, image := true, legal := .nat 0 32767 }
/-- CAN.RPDO_OFFSET[0..63] (10 R376). -/
def canRpdoOffset : ParRow := { cls := 0x4A, idx := 0x180, len := 64, acc := .rw, image := true, legal := .nat 0 4095 }
/-- CAN.TPDO_COBID[0..63] (10 R376). -/
def canTpdoCobid : ParRow := { cls := 0x4A, idx := 0x200, len := 64, acc := .rw, image := true, legal := .nat 0 2047 }
/-- CAN.TPDO_CFG[0..63] (10 R376). -/
def canTpdoCfg : ParRow := { cls := 0x4A, idx := 0x240, len := 64, acc := .rw, image := true, legal := .nat 0 255 }
/-- CAN.TPDO_OFFSET[0..63] (10 R376). -/
def canTpdoOffset : ParRow := { cls := 0x4A, idx := 0x280, len := 64, acc := .rw, image := true, legal := .nat 0 4095 }
/-- GALLERY.STATUS (11 R407). -/
def galleryStatus : ParRow := { cls := 0x40, idx := 0x1 }
/-- GALLERY.OPTIME_LO (11 R407). -/
def galleryOptimeLo : ParRow := { cls := 0x40, idx := 0x2, noReset := true }
/-- GALLERY.OPTIME_HI (11 R407). -/
def galleryOptimeHi : ParRow := { cls := 0x40, idx := 0x3, noReset := true }
/-- GALLERY.POWER_CYCLES (11 R407). -/
def galleryPowerCycles : ParRow := { cls := 0x40, idx := 0x4, noReset := true }
/-- GALLERY.AREA_LIVE[0..2] (11 R407). -/
def galleryAreaLive : ParRow := { cls := 0x40, idx := 0x5, len := 3, noReset := true }
/-- GALLERY.AREA_FILL[0..2] (11 R407). -/
def galleryAreaFill : ParRow := { cls := 0x40, idx := 0x8, len := 3, ty := .real32, noReset := true }
/-- GALLERY.AREA_NEXT_SEQ[0..2] (11 R407). -/
def galleryAreaNextSeq : ParRow := { cls := 0x40, idx := 0xB, len := 3, noReset := true }
/-- GALLERY.AREA_DROPPED[0..2] (11 R407). -/
def galleryAreaDropped : ParRow := { cls := 0x40, idx := 0xE, len := 3, noReset := true }
/-- GALLERY.INTAKE_LOST[0..5] (11 R407). -/
def galleryIntakeLost : ParRow := { cls := 0x40, idx := 0x11, len := 6 }
/-- GALLERY.INTAKE_PEAK (11 R407). -/
def galleryIntakePeak : ParRow := { cls := 0x40, idx := 0x17 }
/-- GALLERY.ALCOVE_USED (11 R407). -/
def galleryAlcoveUsed : ParRow := { cls := 0x40, idx := 0x18, noReset := true }
/-- GALLERY.ALCOVE_DROPPED (11 R407). -/
def galleryAlcoveDropped : ParRow := { cls := 0x40, idx := 0x19, noReset := true }
/-- GALLERY.WEAR_MAX (11 R407). -/
def galleryWearMax : ParRow := { cls := 0x40, idx := 0x1A, ty := .real32, noReset := true }
/-- GALLERY.WEAR_MEAN (11 R407). -/
def galleryWearMean : ParRow := { cls := 0x40, idx := 0x1B, ty := .real32, noReset := true }
/-- GALLERY.RESERVE_LEFT (11 R407). -/
def galleryReserveLeft : ParRow := { cls := 0x40, idx := 0x1C, noReset := true }
/-- GALLERY.FLIGHT_CYCLES[0..11] (11 R407). -/
def galleryFlightCycles : ParRow := { cls := 0x40, idx := 0x20, len := 12, noReset := true }
/-- GALLERY.FLOOD_MODE (11 R407). -/
def galleryFloodMode : ParRow := { cls := 0x40, idx := 0x30, acc := .rw, legal := .nat 0 1 }
/-- GALLERY.REPEAT_WIN (11 R407). -/
def galleryRepeatWin : ParRow := { cls := 0x40, idx := 0x31, acc := .rw, reset := 0x2710, legal := .nat 100 600000 }
/-- GALLERY.RATE_N (11 R407). -/
def galleryRateN : ParRow := { cls := 0x40, idx := 0x32, acc := .rw, reset := 0x4, legal := .nat 1 255 }
/-- GALLERY.RATE_WIN (11 R407). -/
def galleryRateWin : ParRow := { cls := 0x40, idx := 0x33, acc := .rw, reset := 0xEA60, legal := .nat 1000 3600000 }
/-- GALLERY.TRACE_MODE (11 R407). -/
def galleryTraceMode : ParRow := { cls := 0x40, idx := 0x34, acc := .rw, reset := 0x2, legal := .nat 0 2 }
/-- GALLERY.TRACE_DECIM (11 R407). -/
def galleryTraceDecim : ParRow := { cls := 0x40, idx := 0x35, acc := .rw, reset := 0x8, legal := .nat 1 64 }
/-- GALLERY.MIN_SEV (11 R407). -/
def galleryMinSev : ParRow := { cls := 0x40, idx := 0x36, acc := .rw, legal := .nat 0 2 }
/-- GALLERY.ALCOVE_MIN_SEV (11 R407). -/
def galleryAlcoveMinSev : ParRow := { cls := 0x40, idx := 0x37, acc := .rw, reset := 0x3, legal := .nat 2 5 }
/-- GALLERY.ALCOVE_CLEAR (11 R407). -/
def galleryAlcoveClear : ParRow := { cls := 0x40, idx := 0x38, acc := .wo, noReset := true, legal := .oneOf [1] }
/-- SYS.MODE (12 R435). -/
def sysMode : ParRow := { cls := 0x01, idx := 0x1, reset := 0x7 }
/-- SYS.STATUS (12 R435). -/
def sysStatus : ParRow := { cls := 0x01, idx := 0x2 }
/-- SYS.RESET_CAUSE[0..1] (12 R435). -/
def sysResetCause : ParRow := { cls := 0x01, idx := 0x3, len := 2, noReset := true }
/-- SYS.UPTIME (12 R435). -/
def sysUptime : ParRow := { cls := 0x01, idx := 0x5 }
/-- SYS.I_MEAN1S (12 R435). -/
def sysIMean1s : ParRow := { cls := 0x01, idx := 0x6, ty := .real32, noReset := true }
/-- SYS.SCALE (12 R435). -/
def sysScale : ParRow := { cls := 0x01, idx := 0x7, ty := .real32, reset := 0x3F800000 }
/-- SYS.P_EST (12 R435). -/
def sysPEst : ParRow := { cls := 0x01, idx := 0x8, ty := .real32, noReset := true }
/-- SYS.P_MEAN1S (12 R435). -/
def sysPMean1s : ParRow := { cls := 0x01, idx := 0x9, ty := .real32, noReset := true }
/-- SYS.BASEPLATE_T (12 R435). -/
def sysBaseplateT : ParRow := { cls := 0x01, idx := 0xA, ty := .real32, noReset := true }
/-- SYS.STOP_CLEAR (12 R435). -/
def sysStopClear : ParRow := { cls := 0x01, idx := 0xB, acc := .wo, noReset := true, legal := .oneOf [1] }
/-- IDENT.PART (12 R437). -/
def identPart : ParRow := { cls := 0x02, idx := 0x1, noReset := true }
/-- IDENT.REV (12 R437). -/
def identRev : ParRow := { cls := 0x02, idx := 0x2, noReset := true }
/-- IDENT.SERIAL (12 R437). -/
def identSerial : ParRow := { cls := 0x02, idx := 0x3, noReset := true }
/-- IDENT.MFG_DATE (12 R437). -/
def identMfgDate : ParRow := { cls := 0x02, idx := 0x4, noReset := true }
/-- IDENT.FW_HA (12 R437). -/
def identFwHa : ParRow := { cls := 0x02, idx := 0x5, noReset := true }
/-- IDENT.FW_HB (12 R437). -/
def identFwHb : ParRow := { cls := 0x02, idx := 0x6, noReset := true }
/-- IDENT.FW_PD (12 R437). -/
def identFwPd : ParRow := { cls := 0x02, idx := 0x7, noReset := true }
/-- IDENT.CONFIG_VERSION (12 R437). -/
def identConfigVersion : ParRow := { cls := 0x02, idx := 0x8 }
/-- IDENT.CERT_LEN (12 R437). -/
def identCertLen : ParRow := { cls := 0x02, idx := 0x9, noReset := true }
/-- IDENT.DIE_REV[0..4] (12 R437). -/
def identDieRev : ParRow := { cls := 0x02, idx := 0x11, len := 5, noReset := true }
/-- HOSTLINK.IP (12 R438). -/
def hostlinkIp : ParRow := { cls := 0x48, idx := 0x1, acc := .rw, image := true }
/-- HOSTLINK.NETMASK (12 R438). -/
def hostlinkNetmask : ParRow := { cls := 0x48, idx := 0x2, acc := .rw, image := true, reset := 0xFFFFFF00 }
/-- HOSTLINK.GATEWAY (12 R438). -/
def hostlinkGateway : ParRow := { cls := 0x48, idx := 0x3, acc := .rw, image := true }
/-- HOSTLINK.SESSION_TIMEOUT (12 R438). -/
def hostlinkSessionTimeout : ParRow := { cls := 0x48, idx := 0x4, acc := .rw, reset := 0x3C, legal := .nat 10 3600 }
/-- HOSTLINK.KEY_RESET (12 R438). -/
def hostlinkKeyReset : ParRow := { cls := 0x48, idx := 0x5, acc := .rw, image := true, legal := .nat 0 1 }
/-- HOSTLINK.SESSIONS (12 R438). -/
def hostlinkSessions : ParRow := { cls := 0x48, idx := 0x6 }
/-- HOSTLINK.RX_DISCARDS (12 R438). -/
def hostlinkRxDiscards : ParRow := { cls := 0x48, idx := 0x7 }
/-- HOSTLINK.AUTH_FAILS (12 R438). -/
def hostlinkAuthFails : ParRow := { cls := 0x48, idx := 0x8 }
/-- HOSTLINK.RX_MISADDR (12 R438). -/
def hostlinkRxMisaddr : ParRow := { cls := 0x48, idx := 0x9 }
/-- HOSTLINK.LOCKOUT (12 R438). -/
def hostlinkLockout : ParRow := { cls := 0x48, idx := 0xA }
/-- HOSTLINK.KEY_STATE[0..7] (12 R438). -/
def hostlinkKeyState : ParRow := { cls := 0x48, idx := 0x10, len := 8, noReset := true }
/-- HOSTLINK.SESSION_INFO[0..15] (12 R438). -/
def hostlinkSessionInfo : ParRow := { cls := 0x48, idx := 0x20, len := 16 }
/-- RING.STATE (13 R461). -/
def ringState : ParRow := { cls := 0x50, idx := 0x1 }
/-- RING.STATUS (13 R461). -/
def ringStatus : ParRow := { cls := 0x50, idx := 0x2 }
/-- RING.HEAD (13 R461). -/
def ringHead : ParRow := { cls := 0x50, idx := 0x3 }
/-- RING.MEMBERS (13 R461). -/
def ringMembers : ParRow := { cls := 0x50, idx := 0x4 }
/-- RING.POSITION (13 R461). -/
def ringPosition : ParRow := { cls := 0x50, idx := 0x5 }
/-- RING.TOPOLOGY (13 R461). -/
def ringTopology : ParRow := { cls := 0x50, idx := 0x6 }
/-- RING.T_RING (13 R461). -/
def ringTRing : ParRow := { cls := 0x50, idx := 0x7, ty := .real32 }
/-- RING.FRAME_LEN (13 R461). -/
def ringFrameLen : ParRow := { cls := 0x50, idx := 0x8 }
/-- RING.FORM_ID (13 R461). -/
def ringFormId : ParRow := { cls := 0x50, idx := 0x9 }
/-- RING.REFUSE_CAUSE (13 R461). -/
def ringRefuseCause : ParRow := { cls := 0x50, idx := 0xA }
/-- RING.TIME_ERR (13 R461). -/
def ringTimeErr : ParRow := { cls := 0x50, idx := 0xB, ty := .real32 }
/-- RING.FRAMES_LOST (13 R461). -/
def ringFramesLost : ParRow := { cls := 0x50, idx := 0xC }
/-- RING.FORMINGS (13 R461). -/
def ringFormings : ParRow := { cls := 0x50, idx := 0xD }
/-- RING.PORT_STATE[0..1] (13 R461). -/
def ringPortState : ParRow := { cls := 0x50, idx := 0x10, len := 2 }
/-- RING.PORT_DELAY[0..1] (13 R461). -/
def ringPortDelay : ParRow := { cls := 0x50, idx := 0x12, len := 2, ty := .real32 }
/-- RING.PORT_EQ[0..1] (13 R461). -/
def ringPortEq : ParRow := { cls := 0x50, idx := 0x14, len := 2 }
/-- RING.PORT_ERRORS[0..1] (13 R461). -/
def ringPortErrors : ParRow := { cls := 0x50, idx := 0x16, len := 2 }
/-- RING.TRAIN (13 R461). -/
def ringTrain : ParRow := { cls := 0x50, idx := 0x18 }
/-- RING.PUB_CH[0..7] (13 R461). -/
def ringPubCh : ParRow := { cls := 0x50, idx := 0x20, len := 8, acc := .rw, image := true, legal := .masked 0x9F3F }
/-- RING.EN (13 R461). -/
def ringEn : ParRow := { cls := 0x50, idx := 0x28, acc := .rw, image := true, legal := .nat 0 1 }
/-- RING.FORM_WAIT (13 R461). -/
def ringFormWait : ParRow := { cls := 0x50, idx := 0x29, acc := .rw, reset := 0x1388, legal := .nat 1000 60000 }
/-- RING.REFORM (13 R461). -/
def ringReform : ParRow := { cls := 0x50, idx := 0x2A, acc := .wo, noReset := true, legal := .oneOf [1] }
/-- RING.SUM_ADDR[0..255] (13 R461). -/
def ringSumAddr : ParRow := { cls := 0x50, idx := 0x100, len := 256 }
/-- CONFIG.SLOTS (14 R491). -/
def configSlots : ParRow := { cls := 0x70, idx := 0x1, noReset := true }
/-- CONFIG.STAGED_VERSION (14 R491). -/
def configStagedVersion : ParRow := { cls := 0x70, idx := 0x2, noReset := true }
/-- CONFIG.ACTIVE_VERSION (14 R491). -/
def configActiveVersion : ParRow := { cls := 0x70, idx := 0x3, noReset := true }
/-- CONFIG.PREVIOUS_VERSION (14 R491). -/
def configPreviousVersion : ParRow := { cls := 0x70, idx := 0x4, noReset := true }
/-- CONFIG.STAGED_CHECK (14 R491). -/
def configStagedCheck : ParRow := { cls := 0x70, idx := 0x5, noReset := true }
/-- CONFIG.ACTIVE_CHECK (14 R491). -/
def configActiveCheck : ParRow := { cls := 0x70, idx := 0x6, noReset := true }
/-- CONFIG.PREVIOUS_CHECK (14 R491). -/
def configPreviousCheck : ParRow := { cls := 0x70, idx := 0x7, noReset := true }
/-- CONFIG.LAST_STAGE (14 R491). -/
def configLastStage : ParRow := { cls := 0x70, idx := 0x8 }
/-- CONFIG.LAST_STAGE_ITEM (14 R491). -/
def configLastStageItem : ParRow := { cls := 0x70, idx := 0x9 }
/-- CONFIG.ACTIVATIONS (14 R491). -/
def configActivations : ParRow := { cls := 0x70, idx := 0xA, noReset := true }
/-- CONFIG.LAST_ACTIVATE (14 R491). -/
def configLastActivate : ParRow := { cls := 0x70, idx := 0xB }
/-- CONFIG.ACTIVE_DIGEST[0..7] (14 R491). -/
def configActiveDigest : ParRow := { cls := 0x70, idx := 0x10, len := 8, noReset := true }
/-- CONFIG.PREVIOUS_DIGEST[0..7] (14 R491). -/
def configPreviousDigest : ParRow := { cls := 0x70, idx := 0x18, len := 8, noReset := true }
/-- CONFIG.STAGED_DIGEST[0..7] (14 R491). -/
def configStagedDigest : ParRow := { cls := 0x70, idx := 0x20, len := 8, noReset := true }
/-- SECURITY.STATUS (14 R492). -/
def securityStatus : ParRow := { cls := 0x58, idx := 0x1, noReset := true }
/-- SECURITY.KEY_STATE[0..3] (14 R492). -/
def securityKeyState : ParRow := { cls := 0x58, idx := 0x2, len := 4, noReset := true }
/-- SECURITY.KEY_ID[0..3] (14 R492). -/
def securityKeyId : ParRow := { cls := 0x58, idx := 0x6, len := 4, noReset := true }
/-- SECURITY.VENDOR_STATE[0..1] (14 R492). -/
def securityVendorState : ParRow := { cls := 0x58, idx := 0xA, len := 2, noReset := true }
/-- SECURITY.AR_HA (14 R492). -/
def securityArHa : ParRow := { cls := 0x58, idx := 0xC, noReset := true }
/-- SECURITY.AR_HB (14 R492). -/
def securityArHb : ParRow := { cls := 0x58, idx := 0xD, noReset := true }
/-- SECURITY.BOOT_BANK (14 R492). -/
def securityBootBank : ParRow := { cls := 0x58, idx := 0xE, noReset := true }
/-- SECURITY.FW_PENDING (14 R492). -/
def securityFwPending : ParRow := { cls := 0x58, idx := 0xF }
/-- SECURITY.ATTESTS (14 R492). -/
def securityAttests : ParRow := { cls := 0x58, idx := 0x10 }
/-- SECURITY.IDENTITY_DIGEST[0..7] (14 R492). -/
def securityIdentityDigest : ParRow := { cls := 0x58, idx := 0x20, len := 8, noReset := true }
/-- CAL_FACTORY.DATE (14 R494). -/
def calFactoryDate : ParRow := { cls := 0x60, idx := 0x1, noReset := true }
/-- CAL_FACTORY.STATION (14 R494). -/
def calFactoryStation : ParRow := { cls := 0x60, idx := 0x2, noReset := true }
/-- CAL_FACTORY.RC_TRIM (14 R494). -/
def calFactoryRcTrim : ParRow := { cls := 0x60, idx := 0x3, noReset := true }
/-- CAL_FACTORY.VIN_GAIN (14 R494). -/
def calFactoryVinGain : ParRow := { cls := 0x60, idx := 0x4, ty := .real32, noReset := true }
/-- CAL_FACTORY.VIN_OFFSET (14 R494). -/
def calFactoryVinOffset : ParRow := { cls := 0x60, idx := 0x5, ty := .real32, noReset := true }
/-- CAL_FACTORY.DIGEST[0..7] (14 R494). -/
def calFactoryDigest : ParRow := { cls := 0x60, idx := 0x8, len := 8, noReset := true }
/-- CAL_FACTORY.TREAD_GAIN[0..95] (14 R494). -/
def calFactoryTreadGain : ParRow := { cls := 0x60, idx := 0x100, len := 96, ty := .real32, noReset := true }
/-- CAL_FACTORY.TREAD_OFFSET[0..95] (14 R494). -/
def calFactoryTreadOffset : ParRow := { cls := 0x60, idx := 0x200, len := 96, ty := .real32, noReset := true }
/-- CAL_FACTORY.SENSE_GAIN_P[0..159] (14 R494). -/
def calFactorySenseGainP : ParRow := { cls := 0x60, idx := 0x300, len := 160, ty := .real32, noReset := true }
/-- CAL_FACTORY.SENSE_OFFSET_P[0..159] (14 R494). -/
def calFactorySenseOffsetP : ParRow := { cls := 0x60, idx := 0x400, len := 160, ty := .real32, noReset := true }
/-- CAL_FACTORY.SENSE_GAIN_S[0..159] (14 R494). -/
def calFactorySenseGainS : ParRow := { cls := 0x60, idx := 0x500, len := 160, ty := .real32, noReset := true }
/-- CAL_FACTORY.SENSE_OFFSET_S[0..159] (14 R494). -/
def calFactorySenseOffsetS : ParRow := { cls := 0x60, idx := 0x600, len := 160, ty := .real32, noReset := true }
/-- CAL_USER.CLEAR_ALL (14 R495). -/
def calUserClearAll : ParRow := { cls := 0x61, idx := 0x1, acc := .wo, noReset := true, legal := .oneOf [1] }
/-- CAL_USER.TREAD_GAIN_TRIM[0..95] (14 R495). -/
def calUserTreadGainTrim : ParRow :=
  { cls := 0x61, idx := 0x100, len := 96, ty := .real32, acc := .rw, legal := .real (-1/200) (1/200) (1/10000) }
/-- CAL_USER.TREAD_OFFSET_TRIM[0..95] (14 R495). -/
def calUserTreadOffsetTrim : ParRow :=
  { cls := 0x61, idx := 0x200, len := 96, ty := .real32, acc := .rw, legal := .real (-20) 20 (1/10) }
/-- CAL_USER.SENSE_GAIN_TRIM[0..159] (14 R495). -/
def calUserSenseGainTrim : ParRow :=
  { cls := 0x61, idx := 0x300, len := 160, ty := .real32, acc := .rw, legal := .real (-1/500) (1/500) (1/10000) }
/-- CAL_USER.SENSE_OFFSET_TRIM[0..159] (14 R495). -/
def calUserSenseOffsetTrim : ParRow :=
  { cls := 0x61, idx := 0x400, len := 160, ty := .real32, acc := .rw, legal := .real (-1/50) (1/50) (1/1000) }

end Par

/-- The rows of a class (12 R425); none for an unknown class. -/
def rowsOf : Nat → List ParRow
  | 0x01 =>
    [Par.sysMode, Par.sysStatus, Par.sysResetCause, Par.sysUptime, Par.sysIMean1s, Par.sysScale, Par.sysPEst, Par.sysPMean1s,
      Par.sysBaseplateT, Par.sysStopClear]
  | 0x02 =>
    [Par.identUnits, Par.identPart, Par.identRev, Par.identSerial, Par.identMfgDate, Par.identFwHa, Par.identFwHb,
      Par.identFwPd, Par.identConfigVersion, Par.identCertLen, Par.identDieRev]
  | 0x03 =>
    [Par.supplyVin, Par.supplyIin, Par.supplyStatus, Par.supplyVhold, Par.supplyHoldupMs, Par.supplyUvMode, Par.supplyUvLevel,
      Par.supplyUvHyst, Par.supplyUvClear, Par.supplyUvCount, Par.supplyOvCount, Par.supplyInterruptCount, Par.supplyLhSet,
      Par.supplyLhIlim, Par.supplyLhState, Par.supplyLhEpisodes, Par.supplyLhLastMs]
  | 0x08 =>
    [Par.clockStatus, Par.clockTick, Par.clockCountHa, Par.clockCountHb, Par.clockRcDev, Par.clockRcDevMax,
      Par.clockOutOfRange, Par.clockTickSlips]
  | 0x10 =>
    [Par.treadModeCfg, Par.treadMode, Par.treadStatus, Par.treadI, Par.treadTj, Par.treadPeakE, Par.treadWireX,
      Par.treadDtMeas, Par.treadDvdtMeas, Par.treadHardSwCount, Par.treadIlim, Par.treadPwmPeriod, Par.treadDtMode,
      Par.treadDtMin, Par.treadDtMax, Par.treadDvdt, Par.treadSwDuty, Par.treadWireCsa, Par.treadWireIw, Par.treadWireTau,
      Par.treadOlThresh, Par.treadRetryMax, Par.treadRetryDelay, Par.treadRetryClear] ++
    [Par.treadRetryUsed, Par.treadClear, Par.treadTrips, Par.treadLimitMs]
  | 0x11 =>
    [Par.flightDoorState, Par.flightStatus, Par.flightFaultCause, Par.flightIsoCause, Par.flightStepState, Par.flightLockState,
      Par.flightRefState, Par.flightLastCmd, Par.flightLatchLost, Par.flightAttempt, Par.flightCycles, Par.flightStepSeq,
      Par.flightLeafClosedPos, Par.flightOpenPos, Par.flightOpenVmax, Par.flightOpenSlowPos, Par.flightOpenSlowV,
      Par.flightCloseVmax, Par.flightCloseSlowPos, Par.flightCloseSlowV, Par.flightWarnMs, Par.flightCloseConfirmMs,
      Par.flightPassReopen, Par.flightWithdrawClose] ++
    [Par.flightStepExtPos, Par.flightStepRetPos, Par.flightStepConfirmMs, Par.flightStepVmax, Par.flightUnlockMs,
      Par.flightLockMs, Par.flightRefMethod, Par.flightRefSpeed, Par.flightRefI, Par.flightRefMaxTravel, Par.flightRefLimit,
      Par.flightRefChatterMs, Par.flightRefIndex, Par.flightRefIndexPos, Par.flightRefIndexWin, Par.flightRefStallV,
      Par.flightRefStallMs, Par.flightRefHardstopPos, Par.flightRefHomePos, Par.flightStepRefSpeed, Par.flightStepRefHomePos,
      Par.flightStepRefLimit, Par.flightStepRefMaxTravel, Par.flightCgearNum] ++
    [Par.flightCgearDen, Par.flightCgearBlend, Par.flightCgearChgPos, Par.flightCgearChgNum, Par.flightCgearChgDen,
      Par.flightCgearChgCfg, Par.flightI, Par.flightIMean1s, Par.flightScale, Par.flightStopClear, Par.flightPresence]
  | 0x12 =>
    [Par.storeyI, Par.storeyIMean1s, Par.storeyScale, Par.storeyStatus, Par.storeyBreakerTrips, Par.storeyReclose,
      Par.storeyStopClear, Par.storeyDieP, Par.storeyDiePMean1s, Par.storeyDieScale, Par.storeyDieTemp]
  | 0x18 =>
    [Par.senseState, Par.senseStatus, Par.senseValue, Par.senseValueB, Par.senseThrEff, Par.senseVOn, Par.senseVOff,
      Par.senseChanges, Par.senseUse, Par.senseMode, Par.senseThresh, Par.senseHyst, Par.senseDebounce, Par.senseInvert,
      Par.senseWetI, Par.senseClean, Par.senseTrack, Par.senseTrackRatio, Par.senseFenceLo, Par.senseFenceHi]
  | 0x20 =>
    [Par.portCount, Par.portWraps, Par.portWrapsLatched, Par.portSpeed, Par.portDir, Par.portStatus, Par.portCountB,
      Par.portIndexErr, Par.portQuadErrors, Par.portSsiExtra, Par.portReedState, Par.portFormat, Par.portLevel, Par.portTerm,
      Par.portEncV, Par.portStandstill, Par.portHallFilt, Par.portReedDeb, Par.portSsiClk, Par.portSsiBits, Par.portSsiPosbits,
      Par.portSsiCode, Par.portSsiMono, Par.portSsiPeriod] ++
    [Par.portSsiMaxstep, Par.portIndexMode, Par.portIndexPos, Par.portIndexPeriod, Par.portIndexTol, Par.portSupplyClear,
      Par.portLateFire, Par.portAuxOwner, Par.portAuxV, Par.portEchoEn, Par.portEchoN, Par.portEchoM, Par.portCmpHit,
      Par.portCmpHitClr, Par.portCmpStale, Par.portCmpLate, Par.portCmpPos, Par.portCmpCfg]
  | 0x21 =>
    [Par.axisState, Par.axisStatus, Par.axisPos, Par.axisPosCmd, Par.axisVel, Par.axisVelCmd, Par.axisDev, Par.axisIq,
      Par.axisId, Par.axisQueue, Par.axisFaultCause, Par.axisGearStage, Par.axisCommErr, Par.axisType, Par.axisFbPort,
      Par.axisScaleNum, Par.axisScaleDen, Par.axisPolePairs, Par.axisCountsRev, Par.axisComm, Par.axisCommOffset,
      Par.axisPhaseOrder, Par.axisFaultReact, Par.axisIdleMode] ++
    [Par.axisHoldTime, Par.axisAlignI, Par.axisCurKp, Par.axisCurKi, Par.axisIMax, Par.axisVelKp, Par.axisVelKi, Par.axisPosKp,
      Par.axisVelFf, Par.axisAccFf, Par.axisVelFilt, Par.axisProfile, Par.axisVmax, Par.axisAccel, Par.axisDecel, Par.axisJerk,
      Par.axisQstopDecel, Par.axisLimitNeg, Par.axisLimitPos, Par.axisLimitEn, Par.axisOverspeed, Par.axisDevWindow,
      Par.axisDevTime, Par.axisInposWin] ++
    [Par.axisStepRes, Par.axisStepSrc, Par.axisExtStepLine, Par.axisExtDirLine, Par.axisIRun, Par.axisIHold, Par.axisHoldDelay,
      Par.axisChopToff, Par.axisChopTblank, Par.axisDecayMix, Par.axisEncNum, Par.axisEncDen, Par.axisInterpMax,
      Par.axisPullDuty, Par.axisPullMs, Par.axisHoldDuty, Par.axisGearSrc, Par.axisGearMaster, Par.axisGearNum,
      Par.axisGearDen, Par.axisGearBlend, Par.axisGearChgPos, Par.axisGearChgNum, Par.axisGearChgDen] ++
    [Par.axisGearChgCfg, Par.axisPosSet]
  | 0x28 =>
    [Par.obstacleF, Par.obstacleStatus, Par.obstacleZone, Par.obstacleThreshEff, Par.obstacleTemp, Par.obstacleKtemp,
      Par.obstacleLearnCycles, Par.obstacleDetections, Par.obstacleLastTrig, Par.obstacleLastPos, Par.obstacleLastF,
      Par.obstacleDriftMax, Par.obstacleFPeak, Par.obstacleCommDone, Par.obstacleUnclean, Par.obstacleTrigEn, Par.obstacleKt,
      Par.obstacleEta, Par.obstacleGearG, Par.obstacleMassEq, Par.obstacleLeafMass, Par.obstacleVisc, Par.obstacleSlopeIn,
      Par.obstacleTempSrc] ++
    [Par.obstacleTempLine, Par.obstacleTempGain, Par.obstacleTempOffset, Par.obstacleTempIn, Par.obstacleKtTable,
      Par.obstacleEstAvg, Par.obstacleConfirm, Par.obstacleStartMs, Par.obstacleStartMargin, Par.obstacleZoneCount,
      Par.obstacleZoneEnd, Par.obstacleZoneThresh, Par.obstacleOpenThresh, Par.obstacleCommThresh, Par.obstacleRevDist,
      Par.obstacleFinalRevDist, Par.obstacleRevVmax, Par.obstacleRevPauseMs, Par.obstacleAttempts, Par.obstacleReclosePct,
      Par.obstacleRecloseVmax, Par.obstacleGiveupOpen, Par.obstacleEdgeMuteDist, Par.obstacleEdgeFaultReact] ++
    [Par.obstacleSpdDevPct, Par.obstacleSpdDevTime, Par.obstacleSpdDevVmin, Par.obstacleLearnEn, Par.obstacleLearnVinLo,
      Par.obstacleLearnVinHi, Par.obstacleDriftLimit, Par.obstacleCommCycles, Par.obstacleCommSpread, Par.obstacleCommission,
      Par.obstacleMapRestore, Par.obstacleMapClose, Par.obstacleMapOpen, Par.obstacleSnapClose, Par.obstacleSnapOpen]
  | 0x30 =>
    [Par.programState, Par.programStatus, Par.programProgId, Par.programProgVersion, Par.programCycleMs, Par.programCycleCount,
      Par.programExecLast, Par.programExecMax, Par.programOverruns, Par.programSkipped, Par.programArithErrors,
      Par.programBlocks, Par.programMemUsed, Par.programStopCause, Par.programOverrunEsc, Par.programOverrunWin,
      Par.programRestart, Par.programStop, Par.programPendingState, Par.programPendingId, Par.programPendingVersion,
      Par.programSwitches, Par.programLastSwitch, Par.programOverride] ++
    [Par.programDigest]
  | 0x31 =>
    [Par.forceCount, Par.forceStatus, Par.forceVar, Par.forceValue, Par.forceSession, Par.forceClearAll]
  | 0x38 =>
    [Par.safetyMode, Par.safetyStatus, Par.safetyShCause, Par.safetySealValue, Par.safetySetCheck, Par.safetyClFlights,
      Par.safetyPermission, Par.safetyDiscLatch, Par.safetyMismatchCount, Par.safetyResetCount, Par.safetyPartnerCharge,
      Par.safetySealAddr, Par.safetyDclMap, Par.safetyFlightSide, Par.safetyCrewFlights, Par.safetyDiscClosed,
      Par.safetyDiscLocked, Par.safetyDiscEgress, Par.safetyDiscStep, Par.safetyDiscZero, Par.safetyDiscRelease,
      Par.safetyDclSettle, Par.safetyZsSettle, Par.safetyZsSrc] ++
    [Par.safetyRelSrc, Par.safetyHostResetEn, Par.safetyMonDir, Par.safetyMonOpenMax, Par.safetyShStill, Par.safetyResetReq]
  | 0x39 =>
    [Par.safelinkOwnId, Par.safelinkZsConn, Par.safelinkRelConn, Par.safelinkConnEn, Par.safelinkConnPeerId,
      Par.safelinkConnCarrier, Par.safelinkConnPeriod, Par.safelinkConnTexp, Par.safelinkConnSeqWin, Par.safelinkConnTxComid,
      Par.safelinkConnRxComid, Par.safelinkConnDestIp, Par.safelinkConnSrcIp, Par.safelinkConnState, Par.safelinkConnRxSig,
      Par.safelinkConnAge, Par.safelinkConnAccepted, Par.safelinkConnErrors]
  | 0x40 =>
    [Par.galleryStatus, Par.galleryOptimeLo, Par.galleryOptimeHi, Par.galleryPowerCycles, Par.galleryAreaLive,
      Par.galleryAreaFill, Par.galleryAreaNextSeq, Par.galleryAreaDropped, Par.galleryIntakeLost, Par.galleryIntakePeak,
      Par.galleryAlcoveUsed, Par.galleryAlcoveDropped, Par.galleryWearMax, Par.galleryWearMean, Par.galleryReserveLeft,
      Par.galleryFlightCycles, Par.galleryFloodMode, Par.galleryRepeatWin, Par.galleryRateN, Par.galleryRateWin,
      Par.galleryTraceMode, Par.galleryTraceDecim, Par.galleryMinSev, Par.galleryAlcoveMinSev] ++
    [Par.galleryAlcoveClear]
  | 0x48 =>
    [Par.hostlinkIp, Par.hostlinkNetmask, Par.hostlinkGateway, Par.hostlinkSessionTimeout, Par.hostlinkKeyReset,
      Par.hostlinkSessions, Par.hostlinkRxDiscards, Par.hostlinkAuthFails, Par.hostlinkRxMisaddr, Par.hostlinkLockout,
      Par.hostlinkKeyState, Par.hostlinkSessionInfo]
  | 0x49 =>
    [Par.trdpSubFresh, Par.trdpRxDiscards, Par.trdpStormDrops, Par.trdpPdDscp, Par.trdpPubComid, Par.trdpPubDestIp,
      Par.trdpPubCycle, Par.trdpPubOffset, Par.trdpPubLen, Par.trdpSubComid, Par.trdpSubSrcIp, Par.trdpSubGroupIp,
      Par.trdpSubOffset, Par.trdpSubLen, Par.trdpSubTimeout, Par.trdpSubToBehav]
  | 0x4A =>
    [Par.canState, Par.canTecRec, Par.canBusOffs, Par.canRxFresh, Par.canTxLate, Par.canRxDiscards, Par.canEmcyCount,
      Par.canNodeState, Par.canEn, Par.canNomRate, Par.canDataRate, Par.canTerm, Par.canSyncEn, Par.canHbNode, Par.canHbTime,
      Par.canRpdoCobid, Par.canRpdoCfg, Par.canRpdoOffset, Par.canTpdoCobid, Par.canTpdoCfg, Par.canTpdoOffset]
  | 0x50 =>
    [Par.ringState, Par.ringStatus, Par.ringHead, Par.ringMembers, Par.ringPosition, Par.ringTopology, Par.ringTRing,
      Par.ringFrameLen, Par.ringFormId, Par.ringRefuseCause, Par.ringTimeErr, Par.ringFramesLost, Par.ringFormings,
      Par.ringPortState, Par.ringPortDelay, Par.ringPortEq, Par.ringPortErrors, Par.ringTrain, Par.ringPubCh, Par.ringEn,
      Par.ringFormWait, Par.ringReform, Par.ringSumAddr]
  | 0x58 =>
    [Par.securityStatus, Par.securityKeyState, Par.securityKeyId, Par.securityVendorState, Par.securityArHa, Par.securityArHb,
      Par.securityBootBank, Par.securityFwPending, Par.securityAttests, Par.securityIdentityDigest]
  | 0x60 =>
    [Par.calFactoryDate, Par.calFactoryStation, Par.calFactoryRcTrim, Par.calFactoryVinGain, Par.calFactoryVinOffset,
      Par.calFactoryDigest, Par.calFactoryTreadGain, Par.calFactoryTreadOffset, Par.calFactorySenseGainP,
      Par.calFactorySenseOffsetP, Par.calFactorySenseGainS, Par.calFactorySenseOffsetS]
  | 0x61 =>
    [Par.calUserClearAll, Par.calUserTreadGainTrim, Par.calUserTreadOffsetTrim, Par.calUserSenseGainTrim,
      Par.calUserSenseOffsetTrim]
  | 0x70 =>
    [Par.configSlots, Par.configStagedVersion, Par.configActiveVersion, Par.configPreviousVersion, Par.configStagedCheck,
      Par.configActiveCheck, Par.configPreviousCheck, Par.configLastStage, Par.configLastStageItem, Par.configActivations,
      Par.configLastActivate, Par.configActiveDigest, Par.configPreviousDigest, Par.configStagedDigest]
  | _ => []


/-- The number of instances of a class (12 R425): 0 for a class without instances. -/
def classInstances : Nat → Nat
  | 0x10 => 96
  | 0x11 => 12
  | 0x12 => 4
  | 0x18 => 160
  | 0x20 => 24
  | 0x21 => 36
  | 0x28 => 12
  | _ => 0

/-- The row of a class that holds an index (12 R425). -/
def findRow (cls idx : Nat) : Option ParRow :=
  (rowsOf cls).find? (fun r => r.idx ≤ idx && idx < r.idx + r.len)

/-- Class, instance and index of a PID. -/
def pidClass (pid : Nat) : Nat := pid / 0x1000000 % 256
def pidInst (pid : Nat) : Nat := pid / 0x10000 % 256
def pidIdx (pid : Nat) : Nat := pid % 0x10000

/-- The row of a PID, whatever its instance. -/
def rowOfPid (pid : Nat) : Option ParRow := findRow (pidClass pid) (pidIdx pid)

/-- The reset value of a PID: 0 where the tables give none (log entry 3). DESIGN CHOICE (log 3). -/
def resetOf (pid : Nat) : BitVec 32 := ((rowOfPid pid).map (·.reset)).getD 0

end Sys2Proof.Machine
end

