-- ==== Sys2Proof/Machine/UnitsPower.lean ====
section
/-! DEFINITION. The supply, the budget levels, the treads, the storeys, the sense lines and the position ports: the
plain data that spec files 01 to 04 give the machine. -/

namespace Sys2Proof.Machine

/-- One budget level of R21: flight, storey, die, module current or module dissipation. -/
structure Budget where
  /-- the last samples of q, newest first, at most 8000 -/
  hist : List Rat
  /-- consecutive samples above cont -/
  run : Nat
  /-- the sample's verdict, over its limit -/
  exceeded : Bool
  /-- the scale s in sixteenths, 4 to 16 -/
  scale : Nat
  /-- recovery ticks counted toward the tenth -/
  tenth : Nat
  /-- ticks for which the over condition has held -/
  hold : Nat
  /-- budget stop active -/
  stopped : Bool
deriving DecidableEq, Repr

def Budget.reset : Budget := ⟨[], 0, false, 16, 0, 0, false⟩

/-- Supply, hold-up and presence of the module (02 R57 to R70). -/
structure Supply where
  vin8 : List Rat
  iin8 : List Rat
  vhold : Rat
  holdupMs : Rat
  holdupLow : Bool
  valid : Bool
  switchClosed : Bool
  /-- sample number of the first invalid sample of an interruption under way -/
  invalidSince : Option Nat
  /-- sample number of the first valid sample after it -/
  validAt : Nat
  uv : Bool
  uvLatched : Bool
  uvRun : Nat
  ov : Bool
  ovRun : Nat
  groundLost : Bool
  groundLossSeen : Bool
  uvCount : BitVec 32
  ovCount : BitVec 32
  interruptCount : BitVec 32
  /-- module presence loop qualified closed (R67) -/
  mpres : Bool
  mpresRun : Nat
  /-- treads allowed again after MPRES qualifies: from this tick -/
  treadsFromTick : Nat
  /-- sample at which PRECHARGE mated (R66), while the series switch has not closed -/
  prechargeAt : Option Nat
  /-- R66 step 3: the switch stays open until the supply is removed -/
  prechargeFailed : Bool
  /-- SUPPLY_LOSS kept in MRAM with the operating time, for the next boot (R60) -/
  lossPending : Option Nat
  /-- debounced limp-home pins, LH0 first (R70), and their run counts -/
  lhPins : List Bool
  lhLevel : List Bool
  lhRun : List Nat
  /-- the baseplate temperature as the last safety tick read it (15 R507) -/
  tbTick : Rat
deriving DecidableEq, Repr

/-- The limp-home path of the storey dies (02 R71 to R73). -/
structure LimpHome where
  /-- the loaded map: LH_SET elements and LH_ILIM elements -/
  map : Option (List (BitVec 32) × List (BitVec 32))
  armed : Bool
  inCharge : Bool
  /-- ticks without either heartbeat -/
  absent : Nat
  startTick : Nat
  pinsUsed : BitVec 8
  episodes : BitVec 32
  lastMs : BitVec 32
  /-- an episode that Hall B has not recorded yet -/
  pendingRecord : Bool
deriving DecidableEq, Repr

/-- Running modes of a tread (03 R80), also used for the commanded mode. -/
inductive TMode where
  | off
  | phase
  | highSide
  | lowSide
  | brake
deriving DecidableEq, Repr

/-- One tread (03). -/
structure Tread where
  mode : TMode
  cmd : TMode
  /-- duty of the on state in percent -/
  duty : Rat
  /-- calibrated currents, newest first, at most 8 -/
  i8 : List Rat
  tjHi : Rat
  tjLo : Rat
  /-- peak allowance E in A2s -/
  e : Rat
  clamp : Bool
  /-- wire model x in A2 -/
  x : Rat
  therm : Bool
  wire : Bool
  used : Nat
  latchedOff : Bool
  lastTrip : Option Nat
  trips : BitVec 32
  /-- the latches have not re-armed since a trip, or since a latch set during a retry delay (R101, R102) -/
  waitRearm : Bool
  /-- tick at which the running retry delay ends -/
  retryAt : Option Nat
  inLimit : Bool
  limitRun : Nat
  clearRun : Nat
  ilimArmed : Bool
  limitSamples : Nat
  openRun : Nat
  openLoad : Bool
  senseFault : Bool
  lhDriven : Bool
  lhTripped : Bool
  /-- sample since which every pin naming the tread has been inactive (R72) -/
  lhIdleSince : Option Nat
  /-- treads stay OFF until this tick (R104, R108) -/
  offUntil : Nat
  /-- the dead time in ns prepared for the next rising and the next falling transition, none before the first one is measured; the
  last 64 dead times and edge rates, newest first; the transitions that ended at DT_MAX (R85, R87) -/
  deadRise : Option Rat
  deadFall : Option Rat
  dt64 : List Rat
  dvdt64 : List Rat
  hardSw : BitVec 32
  /-- the adaptive gate drive (R87): the gate current, in a unit that the spec does not give; the edges since the load current or the
  target last changed, and those two as they stood at the last edge -/
  gate : Rat
  gate2 : Rat
  edgeRun : Nat
  edgeI : Rat
  edgeAim : Rat
  /-- the duty that the switches carry: the one asked for, but for a pulse that is dropped (R86) -/
  pwm : Rat
deriving DecidableEq, Repr

def Tread.reset : Tread :=
  { mode := .off, cmd := .off, duty := 0, i8 := [], tjHi := 0, tjLo := 0, e := 0, clamp := false, x := 0,
    therm := false, wire := false, used := 0, latchedOff := false, lastTrip := none, trips := 0,
    waitRearm := false, retryAt := none, inLimit := false, limitRun := 0, clearRun := 0, ilimArmed := true,
    limitSamples := 0, openRun := 0, openLoad := false, senseFault := false, lhDriven := false,
    lhTripped := false, lhIdleSince := none, offUntil := 0, deadRise := none, deadFall := none, dt64 := [],
    dvdt64 := [], hardSw := 0, gate := 0, gate2 := 0, edgeRun := 0, edgeI := 0, edgeAim := 0, pwm := 0 }

/-- One storey's segment (03 R108, R112). -/
structure Storey where
  i8 : List Rat
  breakerOpen : Bool
  tripTick : Nat
  trips : BitVec 32
deriving DecidableEq, Repr

def Storey.reset : Storey := ⟨[], false, 0, 0⟩

/-- One storey die. -/
structure Die where
  present : Bool
  railUp : Bool
  pllLocked : Bool
  slipPending : Bool
  temp : Rat
  dissip : Rat
  /-- consecutive heartbeats missed from Hall A and Hall B, and enables forced low for it (01 R30) -/
  missA : Nat
  missB : Nat
  lowA : Bool
  lowB : Bool
  /-- the trims in its registers, by PID of class 0x60, strictly rising (01 R31, R33) -/
  trims : List (Nat × BitVec 32)
deriving DecidableEq, Repr

/-- A flight's supply, presence and enables (01 R29, 02 R68, R69). -/
structure FlightPower where
  presence : Bool
  /-- FLIGHT_PRESENCE_OPEN has been recorded, and the loop has not closed since (02 R56, R68) -/
  opened : Bool
  /-- the loop was open while the flight was ISOLATED: its treads stay OFF until it is released (02 R69) -/
  unplugged : Bool
  presRun : Nat
  feedOn : Bool
  enA : Bool
  enB : Bool
  i8 : List Rat
deriving DecidableEq, Repr

def FlightPower.reset : FlightPower := ⟨false, false, false, 0, false, false, false, []⟩

/-- One receiver of a sense line (04 R117, R118, R122, R123). -/
structure Receiver where
  elec : Option Bool
  /-- consecutive samples of the present electrical state -/
  run : Nat
  deb : Bool
  valid : Bool
  /-- the last measured value -/
  v : Rat
  /-- samples held by the analog filter, newest first -/
  filt : List Rat
  teff : Rat
  von : Rat
  voff : Rat
  onCount : Nat
  offCount : Nat
  /-- samples since the last change of the debounced state; 800 while there has been none -/
  sinceChange : Nat
  /-- samples for which the unclamped target has been outside the fence -/
  fenceRun : Nat
  /-- high on this sample after low on the one before (R120) -/
  rose : Bool
deriving DecidableEq, Repr

def Receiver.reset : Receiver := ⟨none, 0, false, false, 0, [], 0, 0, 0, 0, 0, 800, 0, false⟩

/-- One sense line (04). -/
structure Sense where
  p : Receiver
  q : Receiver
  misRun : Nat
  agreeRun : Nat
  mismatch : Bool
  atFence : Bool
  loopFault : Bool
  overRange : Bool
  burdenOff : Option Nat
  changes : BitVec 32
  /-- sample number at which the last cleaning pulse ended -/
  pulseEnd : Option Nat
deriving DecidableEq, Repr

def Sense.reset : Sense := ⟨.reset, .reset, 0, 0, false, false, false, false, none, 0, none⟩

/-- A cleaning-pulse slot: one per flight, one per train line (R120). -/
structure Cleaner where
  /-- the pulsing line and the samples left -/
  running : Option (Nat × Nat)
  /-- sample on which the running pulse was triggered -/
  trig : Nat
  /-- waiting triggers, first first: sample and line -/
  waiting : List (Nat × Nat)
deriving DecidableEq, Repr

/-- A debounced reed input (04 R137). -/
structure Reed where
  level : Bool
  run : Nat
  deb : Bool
  valid : Bool
deriving DecidableEq, Repr

/-- One position port (04). -/
structure Port where
  count : BitVec 32
  wraps : BitVec 32
  wrapsLatched : BitVec 32
  countB : BitVec 32
  /-- primary minus secondary changes not explained by corrections, since the last write -/
  diffBase : Int
  speed : Rat
  /-- counted edges, newest first: direction up and capture stamp; at most 5 -/
  edges : List (Bool × Nat)
  /-- the count at the end of each current-loop tick in which it moved, newest first; at most 8 (05 R158) -/
  tickCounts : List (Nat × Int)
  /-- the 1 ms tick of the last counted edge: the first at or after it (00 R15) -/
  lastEdgeTick : Nat
  revPending : Bool
  moving : Bool
  wrapToggle : Bool
  countInvalid : Bool
  lineFault : Bool
  ssiFault : Bool
  supplyFault : Bool
  supplyFaultTick : Nat
  supplyRun : Nat
  encOn : Bool
  mismatch : Bool
  misRun : Nat
  agreeRun : Nat
  echoOverrun : Bool
  indexErr : BitVec 32
  /-- captured count of the last index, until a reference run asks for the next one -/
  indexAt : Option Int
  quadErrors : BitVec 32
  hallCode : Nat
  /-- the last valid U, V, W code that a transition gave (R135); 0 none -/
  hallState : Nat
  hallBadRun : Nat
  ssiLast : Option (BitVec 32)
  ssiErrors : Nat
  ssiExtra : BitVec 32
  reedA : Reed
  reedB : Reed
  armed : BitVec 64
  hit : BitVec 64
  stale : BitVec 64
  late : BitVec 64
  /-- level of this port's AUX output and the end of its pulse on the capture grid -/
  aux : Bool
  auxEnd : Option Nat
deriving DecidableEq, Repr

def Reed.reset : Reed := ⟨false, 0, false, false⟩

def Port.reset : Port :=
  { count := 0, wraps := 0, wrapsLatched := 0, countB := 0, diffBase := 0, speed := 0, edges := [], tickCounts := [],
    lastEdgeTick := 0, revPending := false, moving := false, wrapToggle := false, countInvalid := true,
    lineFault := false, ssiFault := false, supplyFault := false, supplyFaultTick := 0, supplyRun := 0,
    encOn := false, mismatch := false, misRun := 0, agreeRun := 0, echoOverrun := false, indexErr := 0, indexAt := none,
    quadErrors := 0, hallCode := 0, hallState := 0, hallBadRun := 0, ssiLast := none, ssiErrors := 0, ssiExtra := 0,
    reedA := .reset, reedB := .reset, armed := 0, hit := 0, stale := 0, late := 0, aux := false, auxEnd := none }

/-- Position echo of one flight (04 R147). -/
structure Echo where
  acc : Int
  /-- waiting output edges, oldest first: true for up -/
  queue : List Bool
  /-- number of steps taken modulo 4: AB = 00, 10, 11, 01 -/
  phase : Nat
  lastOut : Option Nat
deriving DecidableEq, Repr

def Echo.reset : Echo := ⟨0, [], 0, none⟩

end Sys2Proof.Machine
end

