-- ==== Sys2Proof/Machine/UnitsMotion.lean ====
section
/-! DEFINITION. The axes (05), the doorways (06) and the obstacle models (07): plain data. -/

namespace Sys2Proof.Machine

/-- AXIS.STATE (05 R165). -/
inductive AxState where
  | disabled
  | idle
  | aligning
  | hold
  | moving
  | stopping
  | faultStop
deriving DecidableEq, Repr

/-- A queued move: a positioned move or a ramp to a velocity (05 R168). `vmax` 0 takes AXIS.VMAX. -/
inductive Move where
  | pos (target : Int) (vmax : Rat)
  | vel (v : Rat)
deriving DecidableEq, Repr

/-- What an axis that is braking is braking for (05 R171). -/
inductive StopKind where
  | stop
  | quick
deriving DecidableEq, Repr

/-- A ratio change under way: from and to ratio, length in master counts and direction of the master (05 R186). It begins at the law's
base. -/
structure Blend where
  old : Rat
  new : Rat
  len : Nat
  dirUp : Bool
deriving DecidableEq, Repr

/-- An enabled entry of a gear schedule as loaded at the engagement (05 R186). -/
structure GearEntry where
  idx : Nat
  pos : Int
  ratio : Rat
  up : Bool
deriving DecidableEq, Repr

/-- Electronic gearing of one axis (05 R184 to R188). Master positions are exact: a ring master's is extrapolated, and a counter's runs on
over its wraps. -/
structure Gear where
  geared : Bool
  /-- 1 a local port, 2 a ring channel; and its number -/
  src : Nat
  master : Nat
  m0 : Rat
  s0 : Rat
  mBase : Rat
  sBase : Rat
  ratio : Rat
  blend : Option Blend
  blendLen : Nat
  /-- the entries not yet fired, in order; the first of them has been reached during a blend and fires at its end -/
  entries : List GearEntry
  waiting : Bool
  stage : BitVec 32
  /-- the master at the last sample, and the corrections and counter writes taken out of dm -/
  lastMaster : Rat
  removed : Int
deriving DecidableEq, Repr

def Gear.reset : Gear := ⟨false, 0, 0, 0, 0, 0, 0, 0, none, 0, [], false, 0, 0, 0⟩

/-- Motion commands (05 R161, R166, 12 R422 AXIS_CMD). -/
inductive AxCmd where
  | moveAbs (target : Int) (vmax : Rat) (append : Bool)
  | moveRel (d : Int) (vmax : Rat) (append : Bool)
  | moveVel (v : Rat) (append : Bool)
  | stop
  | quickStop
  | release
  | gearEngage
  | gearDisengage
  | energize
  | deenergize
  | commLearn
  /-- the GEAR_ENGAGE of the doorway sequencer, which carries its law: port, ratio, blend length, entries (06 R202) -/
  | gearLaw (port : Nat) (ratio : Rat) (blend : Nat) (entries : List GearEntry)
deriving DecidableEq, Repr

/-- A request whose reply is deferred: enough of its header to build the reply (12 R423). -/
structure Pend where
  sv : Bool
  src : BitVec 48
  seq : BitVec 16
  session : BitVec 16
  opcode : BitVec 16
  /-- its session has ended, and the reply is discarded (12 R420) -/
  ended : Bool
deriving DecidableEq, Repr

/-- Who waits for the status of a motion command: a host request, a motion block of the program, a reference run of a flight; nobody. -/
inductive AxFrom where
  | host (p : Pend)
  | block (inst : BitVec 16) (type : BitVec 8)
  | run (f : Nat)
  | nobody
deriving DecidableEq, Repr

/-- A motion command that has arrived since the last sample (05 R161, R167). -/
structure AxReq where
  cmd : AxCmd
  from' : AxFrom
deriving DecidableEq, Repr

/-- The chopper of a stepper winding (05 R182): in its on-phase, and the nanoseconds since the phase began. -/
structure Chop where
  on : Bool
  since : Rat
deriving DecidableEq, Repr

/-- One axis (05). -/
structure Axis where
  st : AxState
  /-- commanded position in counts, a multiple of 2^-32 -/
  posCmd : Rat
  pos : Int
  vel : Rat
  /-- the measured velocity, filtered (R163) -/
  velF : Rat
  /-- the generator's acceleration, and the second derivative of POS_CMD at the last sample (07 R228) -/
  acc : Rat
  accCmd : Rat
  integ : Rat
  /-- current command, and the currents measured -/
  iCmd : Rat
  iq : Rat
  id : Rat
  /-- iq, or the armature current, as its mean over the last sample (07 R229) -/
  iqMean : Rat
  /-- the integrators of the current loop (R162): of id, and of iq or the armature current -/
  intD : Rat
  intQ : Rat
  /-- commands that arrived since the last sample, in order -/
  inbox : List AxReq
  queue : List Move
  stopping : Option StopKind
  /-- DECEL, JERK and PROFILE in use by the running move -/
  decelUse : Rat
  jerkUse : Rat
  scurve : Bool
  decelHeld : Bool
  /-- a write of DECEL awaits its judgement at the next sample -/
  decelDue : Bool
  /-- DECEL has risen while the axis braked: it cruises until its new braking point (05 R172) -/
  cruise : Bool
  overshoot : Bool
  /-- a fault stop was taken since the last sample, whose commands it refuses (05 R167) -/
  stopped : Bool
  /-- it has entered FAULT_STOP since the last freeze (10 R347) -/
  fell : Bool
  faultCause : Nat
  /-- causes seen on the last sample, as codes of R174 -/
  causes : List Nat
  /-- a LEAF in FAULT_STOP that brakes whatever its FAULT_REACT, since an entry to SAFE_HOLD (R175) -/
  holdBrake : Bool
  referenced : Bool
  posUncertain : Bool
  atLimit : Bool
  inFoldback : Bool
  commOk : Bool
  commCoarse : Bool
  countRef : Int
  commErr : Rat
  alignLeft : Nat
  /-- COMM_LEARN under way -/
  learning : Bool
  devRun : Nat
  speedRun : Nat
  holdSince : Nat
  pullSince : Option Nat
  stepStamp : Option Nat
  stepUp : Bool
  stepPeriod : Option Nat
  microDone : Nat
  /-- the electrical angle at the last coarse step, in microsteps (R181) -/
  stepAngle : Int
  stillSince : Nat
  holdCurrent : Bool
  /-- the step line as the last sample saw it, and a rising edge of it not yet issued as a step (R180) -/
  extWas : Bool
  extRise : Bool
  chopA : Chop
  chopB : Chop
  gear : Gear
deriving DecidableEq, Repr

def Axis.reset : Axis :=
  { st := .disabled, posCmd := 0, pos := 0, vel := 0, velF := 0, acc := 0, accCmd := 0, integ := 0, iCmd := 0, iq := 0, id := 0,
    iqMean := 0, intD := 0, intQ := 0, inbox := [], queue := [], stopping := none, decelUse := 0, jerkUse := 0, scurve := false,
    decelHeld := false, decelDue := false, cruise := false, overshoot := false, stopped := false, fell := false, faultCause := 0, causes := [], holdBrake := false,
    referenced := false, posUncertain := false, atLimit := false, inFoldback := false, commOk := false, commCoarse := false, countRef := 0, commErr := 0,
    alignLeft := 0, learning := false, devRun := 0, speedRun := 0, holdSince := 0, pullSince := none,
    stepStamp := none, stepUp := true, stepPeriod := none, microDone := 256, stepAngle := 0,
    stillSince := 0, holdCurrent := false, extWas := false, extRise := false, chopA := ⟨false, 0⟩, chopB := ⟨false, 0⟩,
    gear := .reset }

/-- FLIGHT.DOOR_STATE (06 R200). -/
inductive DoorState where
  | inactive
  | referencing
  | closedLocked
  | unlocking
  | opening
  | open'
  | closing
  | reversing
  | locking
  | isolated
  | egress
  | fault
deriving DecidableEq, Repr

/-- FLIGHT.STEP_STATE (06 R212). -/
inductive StepState where
  | inactive
  | retracted
  | extending
  | extended
  | retracting
  | referencing
  | fault
  | stopped
deriving DecidableEq, Repr

/-- FLIGHT.LOCK_STATE (06 R213). -/
inductive LockState where
  | inactive
  | locked
  | releasing
  | released
  | engaging
  | fault
deriving DecidableEq, Repr

/-- Ranks of the command latch (06 R195), highest first. -/
inductive Rank where
  | safety
  | crew
  | program
  | passenger
deriving DecidableEq, Repr

/-- Door commands (06 R195). -/
inductive DoorCmd where
  | none
  | open'
  | close
  | stop
  | isolate
  | deisolate
  | reference
  | resetFault
  | egress
deriving DecidableEq, Repr

/-- An entry of the latch: command, rank, session number; `reply` is the SEQ of the host request that awaits its reply; its stamp in
samples: one exactly at a cycle start belongs to the cycle that begins there (06 R196). -/
structure LatchEntry where
  cmd : DoorCmd
  rank : Rank
  session : Nat
  reply : Option (BitVec 16)
  stamp : Nat
deriving DecidableEq, Repr

/-- STATE of the REFERENCE block (06 R223). -/
inductive RefState where
  | idle
  | step
  | leafSearch
  | leafIndex
  | leafFinal
  | done
  | aborted
deriving DecidableEq, Repr

/-- Which motion the running part of a reference run makes (06 R215 to R217). -/
inductive RefPhase where
  | start
  | search
  /-- braking at an end-of-travel limit, before the search reverses (06 R218) -/
  | limit
  | brake
  | hardstop
  | release
  | index
  | indexBrake
  | final
deriving DecidableEq, Repr

/-- A reference run (06 R214 to R220, R222). -/
structure RefRun where
  st : RefState
  phase : RefPhase
  /-- the run moves only this axis (R222) -/
  single : Option Nat
  /-- this run was started by the start-of-service evaluation -/
  service : Bool
  lastPos : Int
  travel : Nat
  /-- the run reversed at an end-of-travel limit (R218) -/
  reversed : Bool
  /-- the part under way searches in the reversed direction, and how it searches -/
  revNow : Bool
  back : RefPhase
  limitWas : Bool
  /-- the leaf was closed both at the start of its part -/
  closedStart : Bool
  homeWas : Bool
  /-- stamps (samples) of the home condition's changes, newest first -/
  stamps : List Nat
  /-- position at the home event or at the index -/
  homePos : Int
  stallSince : Option Nat
  releaseAt : Nat
  indexStart : Int
  /-- what the record of the run will say: an axis moved, the method used, the position declared last (R214) -/
  moved : Bool
  method : Nat
  declared : Int
  /-- the stroke that follows a search of an uncertain step: true for opening (R222) -/
  resume : Option Bool
  coarse : Bool
  abort : Nat
  waitPerm : Bool
deriving DecidableEq, Repr

def RefRun.reset : RefRun :=
  { st := .idle, phase := .start, single := none, service := false, lastPos := 0, travel := 0, reversed := false,
    revNow := false, back := .search, limitWas := false, closedStart := false, homeWas := false, stamps := [], homePos := 0,
    stallSince := none, releaseAt := 0, indexStart := 0, moved := false, method := 0, declared := 0, resume := none, coarse := false, abort := 0, waitPerm := false }

/-- Where the obstacle reaction of a doorway in REVERSING stands (07 R248 to R252). -/
inductive Reaction where
  | braking
  /-- braking after a detection during the reversal move (07 R251) -/
  | brakingBack
  | reversal (target : Int)
  | pause (since : Nat)
deriving DecidableEq, Repr

/-- One doorway: the latch, the DOOR, STEP and LOCK sequencers and the reference run (06). -/
structure Door where
  /-- pending slots, at most one per rank -/
  slots : List LatchEntry
  /-- displaced, replaced and losing entries of the cycle, which lose to the command that its end takes -/
  losers : List LatchEntry
  /-- the command taken at the last program cycle start and not yet judged by the sequencer -/
  taken : Option LatchEntry
  /-- the entries that have lost to the command taken, answered once it has been judged (12 R422) -/
  lost : List LatchEntry
  /-- the sample on which the sequencer last took a row of its table: one row on a sample (06 R201) -/
  rowAt : Option Nat
  lastCmd : BitVec 32
  latchLost : BitVec 32
  result : Nat
  st : DoorState
  /-- tick of entry to the present state -/
  since : Nat
  closePendingAt : Option Nat
  warn : Bool
  obstructed : Bool
  gaveUp : Bool
  faultCause : Nat
  isoCommand : Bool
  isoNoBlock : Bool
  attempt : Nat
  cycles : BitVec 32
  /-- tick from which the leaf has been in HOLD at the closed position in CLOSING -/
  closedHoldAt : Option Nat
  reaction : Option Reaction
  /-- the detection that started the reaction was in opening; the reaction gives up; zone of the detection -/
  reactOpening : Bool
  reactGiveUp : Bool
  reactZone : Nat
  /-- the stroke that starts once the leaf and the geared step are at rest: true for opening (R202) -/
  afterRest : Option Bool
  stepSt : StepState
  stepHoldAt : Option Nat
  lockSt : LockState
  /-- tick from which UNLOCK_MS or LOCK_MS of the LOCK block counts (R213) -/
  lockSince : Nat
  /-- UNLOCKING, LOCKING or the LOCK block's wait has met its condition in time (R201, R213) -/
  met : Bool
  /-- LOCK entered FAULT by losing a locked line in LOCKED, which is no DOOR cause of its own (R209) -/
  lockLost : Bool
  /-- the parameters of the running stroke as it found them, by PID (R224) -/
  kept : List (Nat × BitVec 32)
  /-- leaf in FAULT_STOP, STEP in FAULT, LOCK in FAULT, as seen at the last evaluation -/
  leafF : Bool
  stepF : Bool
  lockF : Bool
  ref : RefRun
  refCoarse : Bool
  refReversed : Bool
  /-- standalone commands entered by the program half, taken at the next cycle start (R223) -/
  stepReq : Option Nat
  lockReq : Option Nat
  refReq : Bool
deriving DecidableEq, Repr

def Door.reset : Door :=
  { slots := [], losers := [], taken := none, lost := [], rowAt := none, lastCmd := 0, latchLost := 0, result := 0, st := .inactive, since := 0,
    closePendingAt := none, warn := false, obstructed := false, gaveUp := false, faultCause := 0,
    isoCommand := false, isoNoBlock := false, attempt := 0, cycles := 0, closedHoldAt := none, reaction := none,
    reactOpening := false, reactGiveUp := false, reactZone := 0, afterRest := none, stepSt := .inactive,
    stepHoldAt := none, lockSt := .inactive, lockSince := 0, met := false, lockLost := false, kept := [],
    leafF := false, stepF := false, lockF := false,
    ref := .reset, refCoarse := false, refReversed := false, stepReq := none, lockReq := none,
    refReq := false }

/-- The friction map of one flight with its flags: what MRAM holds (07 R233 to R239). Bins not listed are 0. -/
structure FricMap where
  close : List Rat
  open' : List Rat
  snapClose : List Rat
  snapOpen : List Rat
  valid : Bool
  mature : Bool
  drift : Bool
  cycles : Nat
deriving DecidableEq, Repr

def FricMap.reset : FricMap := ⟨[], [], [], [], false, false, false, 0⟩

/-- Samples collected for one bin of one direction: sum and count. -/
structure BinAcc where
  closing : Bool
  bin : Nat
  sum : Rat
  n : Nat
deriving DecidableEq, Repr

/-- Commissioning accumulation of one bin: number of cycle means, their sum, largest and smallest. -/
structure BinComm where
  closing : Bool
  bin : Nat
  n : Nat
  sum : Rat
  hi : Rat
  lo : Rat
deriving DecidableEq, Repr

/-- The learning parameters that a stroke takes with it (07 R257). -/
structure LearnUse where
  en : Bool
  vinLo : Rat
  vinHi : Rat
  cycles : Nat
  spread : Rat
deriving DecidableEq, Repr

/-- LEARN_EN, LEARN_VIN_LO, LEARN_VIN_HI, COMM_CYCLES and COMM_SPREAD at their reset values (07 R257). -/
def LearnUse.reset : LearnUse := ⟨true, 72 / 5, 154, 10, 10⟩

/-- The obstacle model of one flight (07). -/
structure Obst where
  f : Rat
  watching : Bool
  zone : Nat
  thresh : Rat
  temp : Rat
  kTemp : Rat
  tempInvalid : Bool
  /-- TEMP_IN written since power-up, at this tick; not written for 60 s -/
  tempInAt : Option Nat
  tempTimeout : Bool
  /-- the last leaf currents, newest first, at most 8 -/
  iq8 : List Rat
  confirm : Nat
  speedRun : Nat
  /-- the triggers that fired on the last sample: [0] force, [1] edge, [2] speed -/
  fire : Nat
  closing : Bool
  /-- sample at which the stroke's first move started from rest; none outside a stroke -/
  strokeAt : Option Nat
  /-- a sample of this stroke has been watched -/
  watchedOnce : Bool
  /-- closed both has become active in this closing stroke -/
  closedSeen : Bool
  /-- start margin in force -/
  inStart : Bool
  edgeFault : Bool
  /-- a detection whose stop is taken at step 1 of the next sample, and the current clamp until the leaf rests -/
  stopNext : Bool
  clampIq : Option Rat
  lastTrig : Nat
  lastPos : Int
  lastF : Rat
  detections : BitVec 32
  fPeak : Rat
  /-- the largest F of the closing stroke under way, none before its first watched sample -/
  runPeak : Option Rat
  /-- a detection that the sequencer has not judged: the triggers and the other items of its record (R247) -/
  found : Option (Nat × List (BitVec 32))
  /-- LEARN_EN, LEARN_VIN_LO, LEARN_VIN_HI, COMM_CYCLES and COMM_SPREAD as the stroke found them (R257) -/
  learnUse : LearnUse
  map : FricMap
  /-- the maps, closing and opening, as they stood when the stroke began -/
  strokeClose : List Rat
  strokeOpen : List Rat
  acc : List BinAcc
  /-- reasons found in the cycle under way, and those of the last cycle that ended (R237) -/
  unclean : Nat
  lastUnclean : Nat
  /-- the cycle under way: strokes begun, whether the opening reached its end, whether one stopped or began elsewhere than it should, and
  commands taken (R237) -/
  opens : Nat
  closes : Nat
  openedFull : Bool
  stopped : Bool
  cmdOpens : Nat
  cmdCloses : Nat
  cmdOthers : Nat
  /-- a learning update that awaits the MRAM confirmation: the maps, the tick of the request, the first bin held by the drift
  limit with its value -/
  update : Option (FricMap × Nat × Option (Nat × Rat))
  commissioning : Bool
  commDone : Nat
  comm : List BinComm
  backup : FricMap
deriving DecidableEq, Repr

def Obst.reset : Obst :=
  { f := 0, watching := false, zone := 0, thresh := 0, temp := 0, kTemp := 1, tempInvalid := false, tempInAt := none,
    tempTimeout := false, iq8 := [], confirm := 0, speedRun := 0, fire := 0, closing := false, strokeAt := none,
    watchedOnce := false, closedSeen := false, inStart := false, edgeFault := false, stopNext := false,
    clampIq := none, lastTrig := 0, lastPos := 0, lastF := 0, detections := 0, fPeak := 0, runPeak := none,
    found := none, learnUse := .reset,
    map := .reset, strokeClose := [], strokeOpen := [], acc := [], unclean := 0, lastUnclean := 0, opens := 0,
    closes := 0, openedFull := false, stopped := false, cmdOpens := 0, cmdCloses := 0, cmdOthers := 0,
    update := none, commissioning := false, commDone := 0, comm := [], backup := .reset }

end Sys2Proof.Machine
end

