-- ==== Sys2Proof/Machine/UnitsSafety.lean ====
section
/-! DEFINITION. The halls, Hall B's safety functions (08), the safe connections and the train network (09): plain data. -/

namespace Sys2Proof.Machine

/-- The modes of the word frame (08 R283), with the stages before the first STANDBY. -/
inductive Mode where
  | boot
  | standby
  | run
  | maintenance
  | safeHold
  | update
deriving DecidableEq, Repr

/-- A word frame (08 R283) without its CRC, which is computed where the frame is put on or read from the link. -/
structure WordFrame where
  tick : BitVec 16
  mode : BitVec 8
  propMode : BitVec 8
  propTick : BitVec 16
  ackTick : BitVec 16
  charge : BitVec 32
  cause : BitVec 16
deriving DecidableEq, Repr

/-- One hall: reset state (01 R25, R30, R32) and its side of the mode and charge exchange (08 R283 to R292). -/
structure Hall where
  inReset : Bool
  /-- SYS.RESET_CAUSE of the last reset of this hall -/
  cause : Nat
  pllLocked : Bool
  eccSingle : BitVec 32
  /-- tick of the entry to reset; consecutive samples in reset with both rails inside their windows, 80 for one whose rails have not failed;
  the hall's own clock was good on the last tick (01 R25, R30, R37) -/
  resetTick : Nat
  railRun : Nat
  clockOk : Bool
  /-- halted in its boot ROM, both banks having failed (14 R465) -/
  romHalt : Bool
  /-- an event of R32 to be recorded when both halls run again -/
  deferred : Option Nat
  mode : Mode
  prop : Option (Mode × Nat)
  /-- PROP_TICK of the partner's proposal that this hall accepts -/
  ack : Option Nat
  gotAck : Bool
  /-- partner's last proposal seen, with the tick of the frame that carried it -/
  partnerProp : Option (Mode × Nat × Nat)
  /-- last transition proposed: the two modes and the proposal's tick (R287) -/
  lastTrans : Option (Mode × Mode × Nat)
  misRun : Nat
  misLost : Bool
  matched : Nat
  /-- SH_CAUSE: every cause since entry; and those that are present now (R289) -/
  shCause : BitVec 16
  present : BitVec 16
  /-- a split transition whose failure is recorded when the frames match again (R287): its mode -/
  failNote : Option Mode
deriving DecidableEq, Repr

def Hall.reset : Hall :=
  { inReset := true, cause := 0, pllLocked := false, eccSingle := 0, resetTick := 0, railRun := 80,
    clockOk := true, romHalt := false, deferred := none, mode := .boot, prop := none, ack := none,
    gotAck := false, partnerProp := none, lastTrans := none, misRun := 0, misLost := false,
    matched := 0, shCause := 0, present := 0, failNote := none }

/-- Discrepancy counting of one pair (08 R264, R265). -/
structure Pair where
  disc : Nat
  clear : Nat
  latch : Bool
deriving DecidableEq, Repr

def Pair.reset : Pair := ⟨0, 0, false⟩

/-- One DCL output (08 R270 to R273). -/
structure Dcl where
  on1 : Bool
  on2 : Bool
  openTick : Nat
  settle : Nat
  test : Option Nat
  testPassed : Bool
  fault : Bool
  /-- verdict of the last tick's evaluation, and of the one before: every condition other than the test held -/
  verdict : Bool
  due : Bool
deriving DecidableEq, Repr

def Dcl.reset : Dcl := ⟨false, false, 0, 0, none, false, false, false, false⟩

/-- Hall B's functions for one flight (08 R268, R276, R278, R288, R290). -/
structure FlightSafe where
  closedP : Pair
  lockedP : Pair
  egressP : Pair
  stepP : Pair
  cl : Bool
  clWas : Bool
  permission : Bool
  /-- the last tick's evaluation, and the one before -/
  permEval : Bool
  permDue : Bool
  egress : Bool
  monRef : BitVec 32
  monHit : Bool
  /-- secondary counts of the flight's two ports at the tick 500 ms after the entry to SAFE_HOLD (R290) -/
  stillRef : List (BitVec 32)
deriving DecidableEq, Repr

def FlightSafe.reset : FlightSafe :=
  ⟨.reset, .reset, .reset, .reset, false, false, false, false, false, false, 0, false, []⟩

/-- The seal block as Hall B reads it (02 R55, 08 R294): none is an invalid value. -/
structure Seal where
  value : Option (BitVec 24)
  /-- the last valid value read (13 R443) -/
  lastValid : BitVec 24
  readDone : Bool
  stable : Nat
  ok : Bool
deriving DecidableEq, Repr

/-- Hall B's safety state (08). -/
structure Safety where
  flights : List FlightSafe
  zero : Pair
  relL : Pair
  relR : Pair
  dclA : Dcl
  dclB : Dcl
  inhibit : Bool
  tallyL : Bool
  tallyR : Bool
  zsSettle : Nat
  /-- samples at which the press of S151 under judgement began and ended (R280) -/
  pressAt : Option Nat
  releasedAt : Option Nat
  resetHeld : Bool
  resetStuck : Bool
  idle151 : Nat
  seen151 : Bool
  edge151 : Bool
  edgeHost : Bool
  exitPending : Bool
  resetCount : BitVec 32
  /-- flights whose CL fell at the last evaluation, and whether zero speed was not confirmed then (R275) -/
  fell : Nat
  fellMoving : Bool
  /-- tick of the entry to SAFE_HOLD -/
  shTick : Nat
  /-- tick at which the storey dies check the zero readings of the treads (03 R90) -/
  zeroCheck : Option Nat
  sealRd : Seal
  mismatchCount : BitVec 32
  partnerCharge : BitVec 32
  checkA : BitVec 16
  checkB : BitVec 16
  /-- tick of the first entry to STANDBY since power-up (09 R306) -/
  standbyTick : Nat
  /-- safe frames that have reached SLE since the last tick, in their order: connection and bytes (09 R308) -/
  vsfIn : List (Nat × List (BitVec 8))
deriving DecidableEq, Repr

/-- SAFELINK.CONN_STATE (09 R309). -/
inductive ConnState where
  | disabled
  | starting
  | open'
deriving DecidableEq, Repr

/-- One safe connection (09 R300 to R312). -/
structure Conn where
  st : ConnState
  seq : BitVec 32
  /-- SEQ and send tick of the last 64 frames, newest first -/
  sent : List (BitVec 32 × Nat)
  rxSeq : BitVec 32
  rxTime : BitVec 32
  /-- send tick of the echoed SEQ of the last accepted frame -/
  echoTick : Nat
  /-- tick of the last accepted frame, or of the entry to OPEN -/
  acceptTick : Nat
  /-- SEQ of the last frame that passed checks 1 to 3 since the last entry to STARTING; 0 none -/
  echoSeq : BitVec 32
  sig : BitVec 24
  age : Nat
  accepted : BitVec 32
  errors : List (BitVec 32)
  seqFails : Nat
  /-- values were valid at the last tick -/
  wasValid : Bool
  /-- values are valid at this tick (bit 31 of CONN_RX_SIG) -/
  valid : Bool
deriving DecidableEq, Repr

def Conn.reset : Conn :=
  { st := .disabled, seq := 0, sent := [], rxSeq := 0, rxTime := 0, echoTick := 0, acceptTick := 0, echoSeq := 0,
    sig := 0, age := 0, accepted := 0, errors := List.replicate 6 0, seqFails := 0, wasValid := false,
    valid := false }

/-- One subscribed telegram (09 R321). -/
structure TrdpSub where
  data : List (BitVec 8)
  fresh : Bool
  rxTick : Nat
  everRx : Bool
  timedOut : Bool
deriving DecidableEq, Repr

def TrdpSub.reset : TrdpSub := ⟨[], false, 0, false, false⟩

/-- A learned address of the LD switch: address, port (0 N1, 1 N2), tick (09 R315). -/
structure SwEntry where
  mac : BitVec 48
  port : Nat
  tick : Nat
deriving DecidableEq, Repr

/-- The Ethernet side: switch, storm limit, TRDP (09 R315 to R322). -/
structure Train where
  table : List SwEntry
  subs : List TrdpSub
  pubSeq : List (BitVec 32)
  connTxSeq : List (BitVec 32)
  rxDiscards : BitVec 32
  stormDrops : BitVec 32
  stormTick : Nat
  stormCount : Nat
  /-- the links on N1 and N2 are up, and frames have passed since the last tick (02 R56) -/
  links : List Bool
  traffic : List Bool
deriving DecidableEq, Repr

end Sys2Proof.Machine
end

