-- ==== Sys2Proof/Machine/UnitsProgram.lean ====
section
/-! DEFINITION. The cyclic door program, its container, forces and CAN FD (10): plain data. -/

namespace Sys2Proof.Machine

/-- Types of program variables (10 R337, R351). -/
inductive VType where
  | bool
  | int32
  | uint32
  | real32
  | time
deriving DecidableEq, Repr

/-- Type codes (10 R351). -/
def VType.code : VType → Nat
  | .bool => 0
  | .int32 => 1
  | .uint32 => 2
  | .real32 => 3
  | .time => 4

/-- Areas of the program (10 R338). -/
inductive Area where
  | mem
  | inp
  | out
deriving DecidableEq, Repr

/-- A block's input operand (10 R351). -/
inductive Operand where
  | var (ty : VType) (id : BitVec 16)
  | const (ty : VType) (v : BitVec 32)
deriving DecidableEq, Repr

/-- A block instance of the block table (10 R351). -/
structure Block where
  type : BitVec 8
  inst : BitVec 16
  ins : List Operand
  outs : List (BitVec 16)
deriving DecidableEq, Repr

/-- An entry of the variable table (10 R352). -/
structure Var where
  id : BitVec 16
  ty : VType
  area : Area
  off : Nat
  bindKind : BitVec 16
  bindInst : BitVec 16
  bindItem : BitVec 16
deriving DecidableEq, Repr

/-- A program container (10 R350 to R354), with its bytes. -/
structure Container where
  bytes : List (BitVec 8)
  progId : BitVec 32
  version : BitVec 32
  cycleMs : Nat
  memSize : Nat
  sigOfs : Nat
  blocks : List Block
  vars : List Var
  init : List (BitVec 8)
deriving DecidableEq, Repr

/-- State of one block instance (10 R345 to R348): edge memories `m1`, `m2`; bistable or timer output `q`, for AX_GEAR and AX_SOL the state
copied at the freeze; counter `cv`, for PAR_RD the value read, for DOOR, STEP and LOCK the last CMD input (CMD_CREW), `target` the
last CMD_PROG or the target of a move; timer `running`, `start`, `et`, `startSet`; command `busy`, and `running` once accepted. -/
structure BlockSt where
  inst : BitVec 16
  type : BitVec 8
  first : Bool
  m1 : Bool
  m2 : Bool
  q : Bool
  cv : Int
  running : Bool
  start : Nat
  et : Nat
  startSet : Bool
  busy : Bool
  /-- status of the last command, and the freeze at which it becomes visible -/
  result : Nat
  resultDue : Option (Nat × Nat)
  done : Bool
  err : Bool
  target : Int
  velTarget : Rat
  kind : Nat
deriving DecidableEq, Repr

/-- What a block decided in a cycle and applies at the next output write (10 R328). -/
inductive Action where
  | parWrite (inst : BitVec 16) (pid : BitVec 32) (v : BitVec 32)
  | motion (inst : BitVec 16) (axis : Nat) (c : AxCmd)
  | event (inst : BitVec 16) (code : Nat) (sev : Nat) (args : List (BitVec 32))
  | door (inst : BitVec 16) (flight : Nat) (cmd : DoorCmd) (rank : Rank)
  | stepReq (flight : Nat) (cmd : Nat)
  | lockReq (flight : Nat) (cmd : Nat)
  | refReq (flight : Nat)
deriving DecidableEq, Repr

/-- A force in its slot of 64 (10 R363, R375). -/
structure Force where
  slot : Nat
  var : BitVec 16
  ty : VType
  area : Area
  value : BitVec 32
  session : Nat
deriving DecidableEq, Repr

/-- PROGRAM.PENDING_STATE (10 R367). -/
inductive PendState where
  | empty
  | verifying
  | ready
  | rejected
deriving DecidableEq, Repr

/-- One RPDO entry (10 R359); the last sample before its last frame tells whether that came at a cycle start. -/
structure Rpdo where
  data : List (BitVec 8)
  got : Bool
  fresh : Bool
  gotAt : Nat
deriving DecidableEq, Repr

def Rpdo.reset : Rpdo := ⟨[], false, false, 0⟩

/-- What the sample of a safety tick finds, kept for a freeze on that tick: a state stamped exactly at the tick belongs to the following cycle
(10 R329). The model's own. -/
structure Before where
  tick : Nat
  senses : List Sense
  ports : List Port
  axes : List Axis
  doors : List Door
  treads : List Tread
  budgets : List Budget
  lhPins : List Bool
  subs : List TrdpSub
  rpdos : List Rpdo
deriving DecidableEq, Repr

def Before.reset : Before := ⟨0, [], [], [], [], [], [], [], [], []⟩

/-- The program (10). -/
structure Prog where
  running : Option Container
  run : Bool
  /-- a cold start awaits the next cycle start: 0 start-up, 1 activation, 2 PROGRAM.RESTART (10 R336) -/
  startDue : Option Nat
  stopCause : Nat
  mem : Memory
  inp : Memory
  out : Memory
  insts : List BlockSt
  cycleCount : BitVec 32
  execLast : BitVec 32
  execMax : BitVec 32
  overruns : BitVec 32
  skipped : BitVec 32
  arithErrors : BitVec 32
  arithInCycle : Bool
  arithLast : Bool
  overran : Bool
  /-- a cycle is executing, started at this tick -/
  executing : Option Nat
  /-- actions of the completed cycle, awaiting the next output write -/
  actions : List Action
  written : Bool
  skips : Nat
  /-- cycle starts counted, and the numbers of those that overran, newest first -/
  starts : Nat
  overrunAt : List Nat
  startTick : Nat
  /-- tick of the last cycle start, taken or skipped (13 R454) -/
  lastStart : Option Nat
  /-- the next start keeps T_cyc from the last: the module has slewed (13 R454) -/
  spaced : Bool
  before : Before
  /-- the transmit buffers: the output image as last written (10 R328) -/
  tx : Memory
  pending : Option Container
  pendState : PendState
  pendBytes : List (BitVec 8)
  /-- the status and the item of the finding that rejected the pending container (10 R355, R371) -/
  pendFinding : Nat × Nat
  lastSwitch : BitVec 32
  switchAt : Option Nat
  /-- the PROG_ID and the version that the waiting switch names (10 R368) -/
  switchFor : Nat × Nat
  switches : BitVec 32
  override : Option Container
  forces : List Force
deriving DecidableEq, Repr

/-- CAN.STATE (10 R361). -/
inductive CanState where
  | off
  | active
  | passive
  | busOff
deriving DecidableEq, Repr

/-- One CAN FD port (10 R356 to R361). -/
structure CanPort where
  st : CanState
  txErr : Nat
  rxErr : Nat
  busOffs : BitVec 32
  txLate : BitVec 32
  rxDiscards : BitVec 32
  emcy : BitVec 32
  /-- frames of the last cycle start that do not leave before the next one (10 R358) -/
  waiting : List (BitVec 11 × List (BitVec 8))
deriving DecidableEq, Repr

def CanPort.reset : CanPort := ⟨.off, 0, 0, 0, 0, 0, 0, []⟩

/-- One heartbeat entry (10 R360): 0 UNKNOWN, 1 ALIVE, 2 LOST. -/
structure CanNode where
  st : Nat
  nmt : BitVec 8
  lastTick : Nat
deriving DecidableEq, Repr

/-- CAN FD remote I/O. -/
structure Can where
  ports : List CanPort
  rpdos : List Rpdo
  nodes : List CanNode
deriving DecidableEq, Repr

end Sys2Proof.Machine
end

