-- ==== Sys2Proof/Machine/UnitsGallery.lean ====
section
/-! DEFINITION. The gallery of Hall B (11) and Hall A's buffers for it (01 R26): plain data. -/

namespace Sys2Proof.Machine

/-- An event on its way to the gallery: code, severity, source, arguments, stamp in operating time, flags, and REPEAT as GE accepts it
(11 R384, R393); and the REPEAT_WIN in force when it arrived, not part of the record (11 R407). -/
structure Ev where
  code : Nat
  sev : Nat
  source : Nat
  args : List (BitVec 32)
  optime : Nat
  flags : BitVec 8
  rep : Nat := 1
  win : Nat := 0
deriving DecidableEq, Repr

/-- An event record (11 R384); `win` is its window, not part of the 64 bytes. -/
structure EvRec where
  seq : BitVec 32
  pcyc : Nat
  optime : Nat
  code : Nat
  sev : Nat
  flags : BitVec 8
  source : Nat
  rep : Nat
  last : Nat
  alcSeq : Nat
  args : List (BitVec 32)
  win : Nat
deriving DecidableEq, Repr

/-- A cycle record (11 R386). -/
structure CycRec where
  seq : BitVec 32
  pcyc : Nat
  optime : Nat
  flight : Nat
  sev : Nat
  endState : Nat
  flags : BitVec 8
  cycleNo : BitVec 32
  duration : Nat
  tUnlock : Nat
  tOpen : Nat
  tClose : Nat
  tLock : Nat
  tDwell : Nat
  fPeakOpen : Int
  fPeakClose : Int
  detections : Nat
  trigs : Nat
  attempts : Nat
  ranks : Nat
  iPeak : Nat
  unclean : Nat
  vinMin : Nat
  temp : Int
  drift : Nat
  tStep : Nat
  cause : Nat
  eventLink : BitVec 32
deriving DecidableEq, Repr

/-- A trace sample (11 R387). -/
structure TrSample where
  pos : Int
  f : Int
  thresh : Int
  iq : Int
  vel : Int
  vin : Nat
  flags : BitVec 8
  door : Nat
deriving DecidableEq, Repr

/-- A trace (11 R387). -/
structure Trace where
  seq : BitVec 32
  pcyc : Nat
  optime : Nat
  flight : Nat
  sev : Nat
  kind : Nat
  flags : BitVec 8
  cycleNo : BitVec 32
  decim : Nat
  detect : Option Nat
  scaleNum : Nat
  scaleDen : Nat
  mapCrc : BitVec 32
  kTemp : BitVec 32
  slope : BitVec 32
  samples : List TrSample
deriving DecidableEq, Repr

/-- Trace staging of one flight: the stroke under way, samples newest first. -/
structure Staging where
  active : Bool
  tr : Trace
  total : Nat
  sub : Nat
  fMax : Rat
  /-- a finished trace waits to be written -/
  done : Bool
  /-- the sample at which the trace began; a stroke under way waits for the last trace to be written -/
  first : Nat
  waits : Bool
deriving DecidableEq, Repr

/-- A code of the rate table (11 R393): acceptance times newest first, records suppressed since. -/
structure RateRow where
  code : Nat
  times : List Nat
  suppressed : Nat
deriving DecidableEq, Repr

/-- What the cycle record of a flight collects while the cycle runs (11 R386). -/
structure CycAcc where
  start : Nat
  tUnlock : Nat
  tOpen : Nat
  tClose : Nat
  tLock : Nat
  tDwell : Nat
  fOpen : Option Rat
  fClose : Option Rat
  detections : Nat
  trigs : Nat
  attempts : Nat
  ranks : Nat
  iPeak : Rat
  vinMin : Option Rat
  stepSamples : Nat
  forced : Bool
  gaveUp : Bool
  eventLink : BitVec 32
  traced : Bool
deriving DecidableEq, Repr

/-- One area's bookkeeping: next SEQ, records dropped over life, wrapped once; the space of overwritten records that awaits reclaiming,
in units of 64 bytes (11 R390, R399); the block that the next compaction step erases (11 R406). -/
structure AreaSt where
  nextSeq : BitVec 32
  dropped : BitVec 32
  wrapped : Bool
  reclaim : Nat
  cursor : Nat
deriving DecidableEq, Repr

/-- An alcove slot: record and whether it has been copied to the event log (11 R402). -/
structure AlcRec where
  entry : EvRec
  copied : Bool
  /-- one of the first 32 written after a clear -/
  kept : Bool
deriving DecidableEq, Repr

/-- A rate-limited event's last record: code, source, tick (00 R519). -/
structure LastRec where
  code : Nat
  source : Nat
  tick : Nat
deriving DecidableEq, Repr

/-- The gallery (11). -/
structure Gallery where
  arrivals : List Ev
  queue : List Ev
  cycQueue : List CycRec
  openTab : List EvRec
  spill : List EvRec
  cycSpill : List CycRec
  mirrorEv : List Ev
  mirrorCyc : List CycRec
  /-- records of before a start that it has still to write to the log and to the archive (11 R397, R399, R402) -/
  waitEv : List EvRec
  waitCyc : List CycRec
  archive : List CycRec
  log : List EvRec
  traces : List Trace
  archSt : AreaSt
  logSt : AreaSt
  trSt : AreaSt
  optime : Nat
  optimeMram : Nat
  optimeHi : Nat
  powerCycles : Nat
  flightCycles : List (BitVec 32)
  rate : List RateRow
  lost : List Nat
  rateLost : Nat
  lossFirst : Option Nat
  lossLast : Nat
  intakeLost : List (BitVec 32)
  intakePeak : Nat
  alcove : List AlcRec
  alcSeq : Nat
  alcNextSeq : BitVec 32
  alcWritten : Nat
  alcDropped : BitVec 32
  degraded : Bool
  paused : Bool
  pauseNoted : Bool
  failedSentTick : Nat
  /-- tick at which the index rebuild scan under way began (11 R399) -/
  rebuildFrom : Option Nat
  wearWarn : Bool
  timeEst : Bool
  /-- the NAND is busy before this tick (11 R396) -/
  busyUntil : Nat
  reserve : Nat
  /-- erase counts by block, none listed where 0 (11 R379, R406) -/
  wear : List (Nat × Nat)
  /-- the block table: a failed block and the reserve block in its place (11 R379, R406) -/
  blocks : List (Nat × Nat)
  /-- blocks to refresh by compaction (11 R406) -/
  toRefresh : List Nat
  /-- the read pass under way: the operating time by which it is complete, and the blocks it has read (11 R406, 15 R514) -/
  passEnd : Nat
  passRead : List Nat
  staging : List Staging
  cyc : List CycAcc
  lastRecs : List LastRec
  /-- Hall A's outgoing buffer for Hall B; the events beyond it by severity, with the stamps of the first and the last (01 R26) -/
  hallA : List Ev
  hallALost : List Nat
  hallALossFirst : Option Nat
  hallALossLast : Nat
  hallACyc : List CycRec
  hallACycLost : List Nat
  hallATicks : Nat
deriving DecidableEq, Repr

end Sys2Proof.Machine
end

