-- ==== Sys2Proof/Machine/UnitsHost.lean ====
section
/-! DEFINITION. Host link (12), ring (13), boot, configuration and security (14): plain data. -/

namespace Sys2Proof.Machine

/-- A reply of the host link (12 R412). `payload` holds the bytes after ITEM, `packet` all that is sent: header with its FLAGS and ADDR,
payload, CRC and MAC. -/
structure Reply where
  sv : Bool
  src : BitVec 48
  seq : BitVec 16
  session : BitVec 16
  opcode : BitVec 16
  status : BitVec 8
  item : BitVec 32
  payload : List (BitVec 8)
  mac : Option (List (BitVec 8))
  packet : List (BitVec 8)
deriving DecidableEq, Repr

/-- One of the last 8 accepted requests of a session (12 R418): none while still being served. -/
structure Cached where
  seq : BitVec 16
  crc : BitVec 32
  reply : Option Reply
deriving DecidableEq, Repr

/-- A host session (12 R415 to R420). -/
structure Session where
  num : BitVec 16
  role : Nat
  sv : Bool
  src : BitVec 48
  slot : Nat
  nc : List (BitVec 8)
  nm : List (BitVec 8)
  /-- waiting for AUTH -/
  pending : Bool
  key : Option (List (BitVec 8))
  high : BitVec 16
  cache : List Cached
  fails : Nat
  openTick : Nat
  lastTick : Nat
deriving DecidableEq, Repr

/-- A host key slot (12 R421). -/
structure HostKey where
  key : List (BitVec 8)
  role : Nat
deriving DecidableEq, Repr

/-- Kinds of transferred objects (12 R424). -/
inductive XKind where
  | prog
  | config
  | key
  | firmware
deriving DecidableEq, Repr

/-- An open transfer (12 R424). -/
structure Xfer where
  kind : XKind
  id : Nat
  session : BitVec 16
  length : Nat
  digest : List (BitVec 8)
  data : List (BitVec 8)
  lastTick : Nat
  /-- END is being served -/
  ending : Bool
deriving DecidableEq, Repr

/-- An axis held by a session: the mode in which its command was accepted (12 R432). -/
structure Holder where
  axis : Nat
  session : BitVec 16
  mode : Mode
deriving DecidableEq, Repr

/-- A commanded restart (12 R422, 14 R480): whole module or Hall A, tick at which it begins, trial boot. -/
structure Restart where
  whole : Bool
  at' : Nat
  trial : Bool
deriving DecidableEq, Repr

/-- An incomplete IPv4 datagram (12 R413): source, identification, tick of its first fragment, fragments by
offset, and its length once the last fragment has come. -/
structure Datagram where
  src : BitVec 48
  ident : BitVec 16
  first : Nat
  parts : List (Nat × Bytes)
  total : Option Nat
deriving DecidableEq, Repr

/-- The host link (12). Transport index 0 is SV, 1 is UDP. -/
structure HostLink where
  sessions : List Session
  /-- requests accepted and not yet answered, oldest first -/
  pends : List Pend
  authStamps : List (List Nat)
  /-- tick at which a transport's lockout ends -/
  lockouts : List (Option Nat)
  keys : List (Option HostKey)
  xfers : List Xfer
  nextXfer : Nat
  /-- the one exclusive operation under way (12 R423): its opcode and the request -/
  exclusive : Option Pend
  holders : List Holder
  /-- the MODE_REQUEST under way: its request, the mode asked for and the tick at which it takes effect (08 R286) -/
  modeReq : Option (Pend × Mode × Nat)
  rxDiscards : BitVec 32
  authFails : BitVec 32
  rxMisaddr : BitVec 32
  restart : Option Restart
  frags : List Datagram
deriving DecidableEq, Repr

def HostLink.reset : HostLink :=
  { sessions := [], pends := [], authStamps := [[], []], lockouts := [none, none], keys := List.replicate 8 none,
    xfers := [], nextXfer := 1, exclusive := none, holders := [], modeReq := none, rxDiscards := 0, authFails := 0, rxMisaddr := 0,
    restart := none, frags := [] }

/-- A ring port (13 R441): 0 down, 1 training, 2 up, 3 pending. -/
structure RingPort where
  st : Nat
  trainTick : Nat
  signal : Bool
  delay : Rat
  eq : Nat
  errors : BitVec 32
deriving DecidableEq, Repr

def RingPort.reset : RingPort := ⟨0, 0, false, 0, 0, 0⟩

/-- What a ring master channel last delivered (13 R455). -/
structure RingMaster where
  ch : Nat
  pos : Int
  speed : Rat
  /-- sample number of the stamp -/
  stamp : Nat
  standstill : Bool
  /-- program cycles since the channel was last received with a valid entry -/
  missed : Nat
deriving DecidableEq, Repr

/-- What this member publishes of a port, as of the last safety sample (13 R450, R455). -/
structure RingPub where
  ch : Nat
  good : Bool
  still : Bool
  sample : Nat
  pos : Int
  speed : BitVec 32
deriving DecidableEq, Repr

/-- The ring (13): RING.STATE is 0 ALONE, 1 FORMING, 2 IN_SERVICE; BYPASS is derived (R442). -/
structure Ring where
  st : Nat
  ports : List RingPort
  head : Nat
  members : List Nat
  position : Nat
  /-- 0 none, 1 closed, 2 line -/
  topology : Nat
  tRing : Rat
  frameLen : Nat
  formId : BitVec 16
  refuseCause : Nat
  timeErr : Rat
  errRun : Nat
  framesLost : BitVec 32
  missRun : Nat
  formings : BitVec 32
  /-- tick of the forming trigger, and of the last forming -/
  trigger : Option Nat
  formedAt : Nat
  slewTicks : Nat
  /-- RING.SUM_ADDR as address and value, strictly rising, no 0 -/
  sums : List (Nat × BitVec 32)
  train : BitVec 32
  masters : List RingMaster
  /-- per port: corrections and counter writes since the last forming (13 R455) -/
  corrections : List Int
  /-- channels this member publishes with FLAGS [0] clear because another member keeps them -/
  lostChs : List Nat
  /-- RING_TICK of the frame last passed, and the members whose slots of it have been read -/
  lastFrame : Option (BitVec 32)
  /-- RING_TICK of the last header received in time, and the tick of the cycle start of the frame last passed (13 R453, R458) -/
  heard : Option (BitVec 32)
  cycleTick : Nat
  seen : List Nat
  /-- the same of the frame before it, whose lap 2 may still be under way at the head (13 R452) -/
  lateFrame : Option (BitVec 32)
  lateTick : Nat
  lateSeen : List Nat
  /-- microseconds from the head's cycle start to the first passage (13 R453); to the return of its frame for the head -/
  delayUs : Rat
  /-- the layout: of each slot in its order the address, master channel and safe frame entries (13 R449, R450) -/
  layout : List (Nat × Nat × Nat)
  /-- what the slot takes of the last safety sample and of the last safety tick: entries, FLAGS, SUMMARY (13 R450) -/
  pubs : List RingPub
  flags : BitVec 8
  summary : BitVec 8
  /-- what is announced on the links: 0 booting, 1 not joining, 2 nothing (13 R444) -/
  note : Nat
  /-- the ports that are in the ring -/
  inRing : List Bool
  /-- the safe frames that SLE has built for this cycle's slot (13 R457) -/
  sf : List (Nat × Bytes)
deriving DecidableEq, Repr

def Ring.reset : Ring :=
  { st := 0, ports := [.reset, .reset], head := 0, members := [], position := 0, topology := 0, tRing := 0,
    frameLen := 0, formId := 0, refuseCause := 0, timeErr := 0, errRun := 0, framesLost := 0, missRun := 0,
    formings := 0, trigger := none, formedAt := 0, slewTicks := 0, sums := [], train := 0, masters := [],
    corrections := List.replicate 24 0, lostChs := [], lastFrame := none, heard := none, cycleTick := 0, seen := [],
    lateFrame := none, lateTick := 0, lateSeen := [], delayUs := 0,
    layout := [], pubs := [], flags := 0, summary := 0, note := 2, inRing := [false, false], sf := [] }

/-- A stored configuration image (14 R473, R475, R491): its parameters in canonical form, its container, its marks and its bytes. -/
structure Image where
  version : BitVec 32
  params : List (Nat × BitVec 32)
  prog : Option Container
  check : BitVec 16
  sealAddr : BitVec 8
  digest : Bytes
  raw : Bytes
deriving DecidableEq, Repr

/-- An integrator key slot (14 R483): 0 empty, 1 enrolled, 2 revoked. -/
structure KeySlot where
  st : Nat
  key : Bytes
deriving DecidableEq, Repr

/-- A firmware image as staged (14 R478, R479). -/
structure Firmware where
  fwHa : BitVec 32
  fwHb : BitVec 32
  fwPd : BitVec 32
  secHa : Nat
  secHb : Nat
  vendor : Nat
  revoke : Bool
  ha : Bytes
  hb : Bytes
deriving DecidableEq, Repr

/-- A firmware bank of a hall: the digest of the part it holds, its version, the version of the storey-die logic in it, its security
version (14 R478, R482). -/
structure Bank where
  digest : Bytes
  version : BitVec 32
  pd : BitVec 32
  sec : Nat
  /-- nothing of the bank has been overwritten since its image was verified -/
  whole : Bool
  /-- the vendor slot and the signature kept with the bank, and whether that signature is the slot's over the image that the bank's part
  stood in -/
  vendor : Nat
  sig : Bytes
  signed : Bool
deriving DecidableEq, Repr

/-- An activation or rollback being served (14 R475): the version that was ACTIVE, the tick up to which it waits for axes to rest, and,
once the slot record is written, the tick at which both halls change. -/
structure Activating where
  rollback : Bool
  old : BitVec 32
  deadline : Nat
  at' : Option Nat
deriving DecidableEq, Repr

/-- An attestation being signed (14 R489): the body of its report, and the challenge. -/
structure Attest where
  body : Bytes
  pend : Pend
deriving DecidableEq, Repr

/-- Start-up, configuration slots, keys, calibration and identity (14). -/
structure Security where
  /-- IDENT.UNITS of the variant (00 R4, R5) -/
  units : BitVec 32
  /-- boot stage: the module has reached the end of start-up -/
  booted : Bool
  bootTick : Nat
  /-- the configuration in the ACTIVE slot has been loaded since the module last left reset (14 R464 t4, R467) -/
  configOn : Bool
  /-- the tick at which this start reached t4, and what its self-tests 2 and 3 have found since (14 R464, R468) -/
  loadedAt : Option Nat
  testClock : Bool
  testWords : Bool
  staged : Option Image
  active : Option Image
  previous : Option Image
  /-- Hall A's copies: of STAGED in its SRAM, of ACTIVE and PREVIOUS in its flash (01 R31, 14 R467, R475) -/
  stagedA : Option Image
  activeA : Option Image
  previousA : Option Image
  activeCorrupt : Bool
  /-- the image in the ACTIVE slot when the last start found it corrupt: it is in the slot and not in force -/
  corrupt : Option Image
  lastStage : BitVec 32
  lastStageItem : BitVec 32
  activations : BitVec 32
  lastActivate : BitVec 32
  override : Option Container
  activating : Option Activating
  keys : List KeySlot
  vendorRevoked : List Bool
  vendorKeys : List Bytes
  arHa : Nat
  arHb : Nat
  bootBank : BitVec 32
  /-- the banks that run, as BOOT_BANK names them (14 R465, R480) -/
  runBank : BitVec 32
  fwPending : Nat
  firmware : Option Firmware
  banksA : List Bank
  banksB : List Bank
  /-- tick at which a trial boot fails -/
  trialEnd : Option Nat
  fallback : Bool
  /-- cause of a trial's failure, which the next start records: 1 verification, 2 a hall reset, 3 the time, 4 a configuration that the new
  firmware refuses (14 R480) -/
  fallbackDue : Option Nat
  calFault : Bool
  /-- the digest in HB OTP, and the values of which it is the digest; the values whose digest HA OTP holds a copy of (01 R31, R33) -/
  calDigest : Bytes
  calOtp : List (Nat × BitVec 32)
  calOtpA : List (Nat × BitVec 32)
  /-- the factory sector: the CAL_FACTORY class by PID, strictly rising; and the portion that Hall A was passed -/
  calFactory : List (Nat × BitVec 32)
  calA : List (Nat × BitVec 32)
  serial : BitVec 32
  mfgDate : BitVec 32
  certificate : Bytes
  identityKey : Bytes
  attests : BitVec 32
  attesting : Option Attest
  /-- each hall's own copy of the active configuration, by PID, strictly rising (08 R284, 12 R429) -/
  copyA : List (Nat × BitVec 32)
  copyB : List (Nat × BitVec 32)
  /-- the last signed report, with the session that challenged -/
  report : Option (BitVec 16 × Bytes)
  uptime : Nat
deriving DecidableEq, Repr

/-- Which signal of the LD bridges or links a sent frame took, with its bytes or its content. -/
inductive OutMsg where
  | reply (r : Reply)
  /-- a frame on SV: a packet COBS-encoded, with its 0x00 byte (12 R433) -/
  | sv (bytes : Bytes)
  /-- a CAN frame: port, identifier, data (10 R357, R358) -/
  | can (port : Nat) (id : BitVec 11) (data : Bytes)
  /-- an Ethernet frame of LE, a TRDP telegram or an answer: the ports by which it leaves the LD switch (0 N1, 1 N2), its queue, its
  bytes (09 R315, R317, R320) -/
  | net (ports : List Nat) (queue : Nat) (bytes : Bytes)
  /-- a safe frame handed to its carrier: connection, bytes (09 R306) -/
  | vsf (conn : Nat) (bytes : Bytes)
  /-- an Ethernet frame passed by the LD switch: port out (0 N1, 1 N2, 2 LE), queue, bytes (09 R315) -/
  | eth (port queue : Nat) (bytes : Bytes)
  /-- a ring frame leaving by a port: header and slots, between the start and the end character (13 R448, R449) -/
  | ring (port : Nat) (bytes : Bytes)
  /-- what a module outside the ring announces on a link (13 R444): 0 that it is booting, 1 that it is not joining -/
  | ringNote (port kind : Nat)
  /-- an event sent over every host link (01 R26, 11 R389): code, source, arguments -/
  | event (code source : Nat) (args : List (BitVec 32))
  /-- a pulse level change of an AUX output (04 R145 to R147) -/
  | aux (port : Nat) (high : Bool)
deriving DecidableEq, Repr

/-- Times and clock monitoring (01 R35 to R39). -/
structure Clock where
  /-- safety ticks and 125 µs samples since power-up -/
  tick : Nat
  sample : Nat
  /-- what is added to the tick count to give CLOCK.TICK (13 R454) -/
  base : Nat
  /-- the tick of the last power-up, from which VSF counts its TIME (09 R302) -/
  since : Nat
  countHa : BitVec 32
  countHb : BitVec 32
  rcDev : Rat
  rcDevMax : Rat
  outOfRange : BitVec 32
  tickSlips : BitVec 32
  /-- HALL_CLOCK_FAULT raised by Hall A and by Hall B as measuring hall (R25, R36) -/
  crossA : Bool
  crossB : Bool
  rcWarn : Bool
  crossRunA : Nat
  crossRunB : Nat
  rcRun : Nat
deriving DecidableEq, Repr

def Clock.reset : Clock := ⟨0, 0, 0, 0, 0, 0, 0, 0, 0, 0, false, false, false, 0, 0, 0⟩

end Sys2Proof.Machine
end

