-- ==== Sys2Proof/Machine/State.lean ====
section
/-! DEFINITION. The state of the module: every unit of the spec, the parameter store, the queue of waiting commands, the
frames it has sent, and the state right after reset. Plain data. -/

namespace Sys2Proof.Machine

/-- Why a command stops with a fault. -/
inductive Fault where
  /-- An event names a unit that the machine does not have (a tread 96, a flight absent on the variant): raised by the meaning
  of that event. Safe: no such event can occur on the hardware. -/
  | noSuchUnit
deriving DecidableEq, Repr

/-- Why a command is refused. -/
inductive Refusal where
  /-- No meaning yet for the command of this mnemonic: raised by `exec`. Safe. -/
  | notModelled (mnemonic : String)
deriving DecidableEq, Repr

/-- The parameter values that differ from their reset values, by PID, strictly rising: the direct writes and the
active configuration together (12 R425, 14 R473). -/
abbrev Params := List (Nat × BitVec 32)

/-- Everything the spec gives the module. -/
structure State where
  /-- commands waiting, first in first out -/
  pending : List Instr
  clock : Clock
  params : Params
  -- supply, limp-home and treads (01 to 03)
  supply : Supply
  limp : List LimpHome
  flightBudgets : List Budget
  storeyBudgets : List Budget
  dieBudgets : List Budget
  currentBudget : Budget
  thermalBudget : Budget
  storeys : List Storey
  dies : List Die
  flightPower : List FlightPower
  treads : List Tread
  baseplate : Rat
  dissip : Rat
  -- sense lines and ports (04)
  senses : List Sense
  cleaners : List Cleaner
  ports : List Port
  echos : List Echo
  -- motion, doorways, obstacle models (05 to 07)
  axes : List Axis
  doors : List Door
  obst : List Obst
  -- the halls and the safety functions (08)
  hallA : Hall
  hallB : Hall
  safety : Safety
  -- safe frames and the train network (09)
  conns : List Conn
  firstStandby : Bool
  train : Train
  -- program and CAN (10)
  prog : Prog
  can : Can
  -- gallery (11), host link (12), ring (13), boot and security (14)
  gallery : Gallery
  host : HostLink
  ring : Ring
  sec : Security
  /-- frames and replies sent, newest first -/
  outs : List OutMsg
  /-- the model's own: how many free values have been drawn (Config.freeWord and its kin are applied to it) -/
  draws : Nat
deriving DecidableEq, Repr

def Supply.reset : Supply :=
  { vin8 := [], iin8 := [], vhold := 0, holdupMs := 0, holdupLow := false, valid := true, switchClosed := true,
    invalidSince := none, validAt := 0, uv := false, uvLatched := false, uvRun := 0, ov := false, ovRun := 0, groundLost := false,
    groundLossSeen := false, uvCount := 0, ovCount := 0, interruptCount := 0, mpres := true, mpresRun := 0,
    treadsFromTick := 0, prechargeAt := none, prechargeFailed := false, lossPending := none,
    lhPins := List.replicate 8 false, lhLevel := List.replicate 8 false, lhRun := List.replicate 8 0,
    tbTick := 0 }

def LimpHome.reset : LimpHome :=
  { map := none, armed := false, inCharge := false, absent := 0, startTick := 0, pinsUsed := 0, episodes := 0,
    lastMs := 0, pendingRecord := false }

def Die.reset : Die := ⟨true, false, false, false, 0, 0, 0, 0, false, false, []⟩

def Seal.reset : Seal := ⟨some 0, 0, false, 0, false⟩

def Safety.reset : Safety :=
  { flights := List.replicate 12 .reset, zero := .reset, relL := .reset, relR := .reset, dclA := .reset, dclB := .reset,
    inhibit := true, tallyL := false, tallyR := false, zsSettle := 0, pressAt := none, releasedAt := none, resetHeld := false,
    resetStuck := false, idle151 := 0, seen151 := false, edge151 := false, edgeHost := false, exitPending := false,
    resetCount := 0, fell := 0, fellMoving := false, shTick := 0, zeroCheck := none, sealRd := .reset, mismatchCount := 0, partnerCharge := 0,
    checkA := 0, checkB := 0, standbyTick := 0, vsfIn := [] }

def Train.reset : Train :=
  { table := [], subs := List.replicate 32 .reset, pubSeq := List.replicate 32 0, connTxSeq := List.replicate 8 0,
    rxDiscards := 0, stormDrops := 0, stormTick := 0, stormCount := 0, links := [false, false], traffic := [false, false] }

def Prog.reset : Prog :=
  { running := none, run := false, startDue := none, stopCause := 0, mem := [], inp := [], out := [], insts := [], cycleCount := 0,
    execLast := 0, execMax := 0, overruns := 0, skipped := 0, arithErrors := 0, arithInCycle := false,
    arithLast := false, overran := false, executing := none, actions := [], written := false, skips := 0, starts := 0,
    overrunAt := [], startTick := 0, lastStart := none, spaced := false, before := .reset, tx := [], pending := none, pendState := .empty, pendBytes := [],
    pendFinding := (0, 0), lastSwitch := 0,
    switchAt := none, switchFor := (0, 0), switches := 0, override := none, forces := [] }

def Can.reset : Can :=
  { ports := List.replicate 2 .reset, rpdos := List.replicate 64 .reset, nodes := List.replicate 32 ⟨0, 0, 0⟩ }

def AreaSt.reset : AreaSt := ⟨1, 0, false, 0, 0⟩

def Trace.reset : Trace :=
  { seq := 0, pcyc := 0, optime := 0, flight := 0, sev := 0, kind := 0, flags := 0, cycleNo := 0, decim := 8,
    detect := none, scaleNum := 1, scaleDen := 1, mapCrc := 0, kTemp := 0, slope := 0, samples := [] }

def Staging.reset : Staging := ⟨false, .reset, 0, 0, 0, false, 0, false⟩

def CycAcc.reset : CycAcc :=
  { start := 0, tUnlock := 0, tOpen := 0, tClose := 0, tLock := 0, tDwell := 0, fOpen := none, fClose := none,
    detections := 0, trigs := 0, attempts := 0, ranks := 0, iPeak := 0, vinMin := none, stepSamples := 0,
    forced := false, gaveUp := false, eventLink := 0, traced := false }

def Gallery.reset : Gallery :=
  { arrivals := [], queue := [], cycQueue := [], openTab := [], spill := [], cycSpill := [], mirrorEv := [],
    mirrorCyc := [], waitEv := [], waitCyc := [], archive := [], log := [], traces := [], archSt := .reset, logSt := .reset, trSt := .reset,
    optime := 0, optimeMram := 0, optimeHi := 0, powerCycles := 0, flightCycles := List.replicate 12 0, rate := [],
    lost := List.replicate 6 0, rateLost := 0, lossFirst := none, lossLast := 0, intakeLost := List.replicate 6 0,
    intakePeak := 0, alcove := [], alcSeq := 1, alcNextSeq := 1, alcWritten := 0, alcDropped := 0, degraded := false, paused := false,
    pauseNoted := false, failedSentTick := 0, rebuildFrom := none, wearWarn := false, timeEst := false, busyUntil := 0,
    reserve := 256, wear := [], blocks := [], toRefresh := [], passEnd := 0, passRead := [], staging := List.replicate 12 .reset,
    cyc := List.replicate 12 .reset, lastRecs := [], hallA := [], hallALost := List.replicate 6 0, hallALossFirst := none, hallALossLast := 0, hallACyc := [],
    hallACycLost := List.replicate 12 0, hallATicks := 0 }

def Bank.reset : Bank := ⟨List.replicate 32 0, 0, 0, 0, true, 0, [], true⟩

/-- DESIGN CHOICE (log 3). -/
def Security.reset : Security :=
  { units := 0x3F7, booted := false, bootTick := 0, configOn := false, loadedAt := none, testClock := false, testWords := false,
    staged := none, active := none, previous := none, stagedA := none, activeA := none, previousA := none,
    activeCorrupt := false, corrupt := none, lastStage := 0, lastStageItem := 0, activations := 0, lastActivate := 0, override := none,
    activating := none, keys := List.replicate 4 ⟨0, []⟩, vendorRevoked := [false, false], vendorKeys := [[], []],
    arHa := 0, arHb := 0, bootBank := 0, runBank := 0, fwPending := 0, firmware := none, banksA := [.reset, .reset],
    banksB := [.reset, .reset], trialEnd := none, fallback := false, fallbackDue := none, calFault := false, calDigest := List.replicate 32 0,
    calOtp := [], calOtpA := [], calFactory := [], calA := [], serial := 0, mfgDate := 0,
    certificate := [], identityKey := [], attests := 0, attesting := none, copyA := [], copyB := [], report := none, uptime := 0 }

/-- The module with its supply just valid, both halls and the storey dies held in reset (14 R464 t0): every register at the
value the spec states for reset, or at the one the assumption log names. DESIGN CHOICE (log 3). -/
def State.reset : State :=
  { pending := [], clock := .reset, params := [], supply := .reset, limp := List.replicate 2 .reset,
    flightBudgets := List.replicate 12 .reset, storeyBudgets := List.replicate 4 .reset,
    dieBudgets := List.replicate 2 .reset, currentBudget := .reset, thermalBudget := .reset,
    storeys := List.replicate 4 .reset, dies := List.replicate 2 .reset, flightPower := List.replicate 12 .reset,
    treads := List.replicate 96 .reset, baseplate := 0, dissip := 0, senses := List.replicate 160 .reset,
    cleaners := List.replicate 28 ⟨none, 0, []⟩, ports := List.replicate 24 .reset, echos := List.replicate 12 .reset,
    axes := List.replicate 36 .reset, doors := List.replicate 12 .reset, obst := List.replicate 12 .reset,
    hallA := .reset, hallB := .reset, safety := .reset, conns := List.replicate 8 .reset, firstStandby := false,
    train := .reset, prog := .reset, can := .reset, gallery := .reset, host := .reset, ring := .reset, sec := .reset,
    outs := [], draws := 0 }

end Sys2Proof.Machine
end

