-- ==== Sys2Proof/Machine/Ops.lean ====
section
/-! DEFINITION. The shared operations: canonical sparse stores, parameter reads and writes, access to the units,
recording of events. Every meaning is written over these. -/

namespace Sys2Proof.Machine

/-! ### Canonical sparse stores -/

/-- The value at a key; `d` is what an unlisted key reads as. -/
def sparseGet {α : Type} (d : Nat → α) : List (Nat × α) → Nat → α
  | [], k => d k
  | (j, v) :: l, k => if j = k then v else sparseGet d l k

/-- Remove a key. -/
def sparseErase {α : Type} : List (Nat × α) → Nat → List (Nat × α)
  | [], _ => []
  | (j, v) :: l, k => if j = k then sparseErase l k else (j, v) :: sparseErase l k

/-- Put a value at its place by rising key. -/
def sparseInsert {α : Type} : List (Nat × α) → Nat → α → List (Nat × α)
  | [], k, v => [(k, v)]
  | (j, w) :: l, k, v =>
    if k < j then (k, v) :: (j, w) :: l
    else if k = j then (k, v) :: l
    else (j, w) :: sparseInsert l k v

/-- Write a value, keeping the canonical form. -/
def sparseSet {α : Type} [DecidableEq α] (d : Nat → α) (l : List (Nat × α)) (k : Nat) (v : α) : List (Nat × α) :=
  if v = d k then sparseErase l k else sparseInsert l k v

/-- The canonical form: keys strictly rising, no value equal to what its key reads as unlisted. -/
def sparseWf {α : Type} [DecidableEq α] (d : Nat → α) : List (Nat × α) → Bool
  | [] => true
  | (k, v) :: l => v ≠ d k && l.all (fun e => k < e.1) && sparseWf d l

/-- What an unlisted byte of the program memory and of the images reads as (10 R353): 0. -/
def memDefault (_ : Nat) : BitVec 8 := 0

def Memory.read (m : Memory) (a : Nat) : BitVec 8 := sparseGet memDefault m a

def Memory.write (m : Memory) (a : Nat) (b : BitVec 8) : Memory := sparseSet memDefault m a b

def Memory.wf (m : Memory) : Bool := sparseWf memDefault m

/-- Store bytes from an address upward. -/
def Memory.writeBytes (m : Memory) (a : Nat) : Bytes → Memory
  | [] => m
  | b :: bs => Memory.writeBytes (Memory.write m a b) (a + 1) bs

/-- Read `n` bytes from an address upward. -/
def Memory.readBytes (m : Memory) (a : Nat) : Nat → Bytes
  | 0 => []
  | n + 1 => Memory.read m a :: Memory.readBytes m (a + 1) n

/-! ### Parameters -/

/-- Instance `i`, element `j` of a parameter row, as the bit pattern in force. -/
def State.par (s : State) (r : ParRow) (i j : Nat) : BitVec 32 :=
  match s.params.find? (fun e => e.1 = r.pid i j) with
  | some e => e.2
  | none => r.reset

def State.parN (s : State) (r : ParRow) (i j : Nat) : Nat := (s.par r i j).toNat

def State.parZ (s : State) (r : ParRow) (i j : Nat) : Int := (s.par r i j).toInt

def State.parR (s : State) (r : ParRow) (i j : Nat) : Rat := real32 (s.par r i j)

def State.parB (s : State) (r : ParRow) (i j : Nat) : Bool := s.parN r i j ≠ 0

def Params.set (ps : Params) (pid : Nat) (v : BitVec 32) : Params := sparseSet resetOf ps pid v

def Params.wf (ps : Params) : Bool := sparseWf resetOf ps

/-- Store a parameter value: the one place where the parameter store changes value by value. -/
def State.setPar (s : State) (pid : Nat) (v : BitVec 32) : State := { s with params := Params.set s.params pid v }

/-! ### Variants and fitted units (00 R1, R5) -/

def State.ds9600 (s : State) : Bool := wbit s.sec.units 1

def State.nFlights (s : State) : Nat := if s.ds9600 then 12 else 6

def State.nTreads (s : State) : Nat := if s.ds9600 then 96 else 48

def State.nAxes (s : State) : Nat := if s.ds9600 then 36 else 18

def State.nPorts (s : State) : Nat := if s.ds9600 then 24 else 12

def State.nStoreys (s : State) : Nat := if s.ds9600 then 4 else 2

def State.nDies (s : State) : Nat := if s.ds9600 then 2 else 1

/-- A sense line is fitted: flight lines of fitted flights and the train lines S144 to S159. -/
def State.hasLine (s : State) (l : Nat) : Bool := if l < 144 then l < 12 * s.nFlights else l < 160

def State.hasRing (s : State) : Bool := wbit s.sec.units 2

/-! ### The units by number -/

def State.tread (s : State) (t : Nat) : Tread := s.treads.getD t .reset
def State.storey (s : State) (u : Nat) : Storey := s.storeys.getD u .reset
def State.die (s : State) (d : Nat) : Die := s.dies.getD d .reset
def State.limpOf (s : State) (d : Nat) : LimpHome := s.limp.getD d .reset
def State.fpower (s : State) (f : Nat) : FlightPower := s.flightPower.getD f .reset
def State.sense (s : State) (l : Nat) : Sense := s.senses.getD l .reset
def State.port (s : State) (p : Nat) : Port := s.ports.getD p .reset
def State.echo (s : State) (f : Nat) : Echo := s.echos.getD f .reset
def State.axis (s : State) (a : Nat) : Axis := s.axes.getD a .reset
def State.door (s : State) (f : Nat) : Door := s.doors.getD f .reset
def State.obs (s : State) (f : Nat) : Obst := s.obst.getD f .reset
def State.conn (s : State) (c : Nat) : Conn := s.conns.getD c .reset
def State.fsafe (s : State) (f : Nat) : FlightSafe := s.safety.flights.getD f .reset

def State.modTread (s : State) (t : Nat) (f : Tread → Tread) : State := { s with treads := s.treads.modify t f }
def State.modStorey (s : State) (u : Nat) (f : Storey → Storey) : State := { s with storeys := s.storeys.modify u f }
def State.modDie (s : State) (d : Nat) (f : Die → Die) : State := { s with dies := s.dies.modify d f }
def State.modLimp (s : State) (d : Nat) (f : LimpHome → LimpHome) : State := { s with limp := s.limp.modify d f }
def State.modFpower (s : State) (k : Nat) (f : FlightPower → FlightPower) : State :=
  { s with flightPower := s.flightPower.modify k f }
def State.modSense (s : State) (l : Nat) (f : Sense → Sense) : State := { s with senses := s.senses.modify l f }
def State.modPort (s : State) (p : Nat) (f : Port → Port) : State := { s with ports := s.ports.modify p f }
def State.modEcho (s : State) (k : Nat) (f : Echo → Echo) : State := { s with echos := s.echos.modify k f }
def State.modAxis (s : State) (a : Nat) (f : Axis → Axis) : State := { s with axes := s.axes.modify a f }
def State.modDoor (s : State) (k : Nat) (f : Door → Door) : State := { s with doors := s.doors.modify k f }
def State.modObs (s : State) (k : Nat) (f : Obst → Obst) : State := { s with obst := s.obst.modify k f }
def State.modConn (s : State) (c : Nat) (f : Conn → Conn) : State := { s with conns := s.conns.modify c f }
def State.modFsafe (s : State) (k : Nat) (f : FlightSafe → FlightSafe) : State :=
  { s with safety := { s.safety with flights := s.safety.flights.modify k f } }

/-- Every unit of a kind, by number. -/
def State.mapTreads (s : State) (f : Nat → Tread → Tread) : State := { s with treads := s.treads.mapIdx f }
def State.mapStoreys (s : State) (f : Nat → Storey → Storey) : State := { s with storeys := s.storeys.mapIdx f }
def State.mapDies (s : State) (f : Nat → Die → Die) : State := { s with dies := s.dies.mapIdx f }
def State.mapFpower (s : State) (f : Nat → FlightPower → FlightPower) : State :=
  { s with flightPower := s.flightPower.mapIdx f }
def State.mapLimp (s : State) (f : Nat → LimpHome → LimpHome) : State := { s with limp := s.limp.mapIdx f }
def State.mapSenses (s : State) (f : Nat → Sense → Sense) : State := { s with senses := s.senses.mapIdx f }
def State.mapPorts (s : State) (f : Nat → Port → Port) : State := { s with ports := s.ports.mapIdx f }
def State.mapAxes (s : State) (f : Nat → Axis → Axis) : State := { s with axes := s.axes.mapIdx f }
def State.mapDoors (s : State) (f : Nat → Door → Door) : State := { s with doors := s.doors.mapIdx f }
def State.mapObst (s : State) (f : Nat → Obst → Obst) : State := { s with obst := s.obst.mapIdx f }
def State.mapFsafe (s : State) (f : Nat → FlightSafe → FlightSafe) : State :=
  { s with safety := { s.safety with flights := s.safety.flights.mapIdx f } }
def State.mapConns (s : State) (f : Nat → Conn → Conn) : State := { s with conns := s.conns.mapIdx f }

def State.hall (s : State) : HallId → Hall
  | .a => s.hallA
  | .b => s.hallB

def State.modHall (s : State) (h : HallId) (f : Hall → Hall) : State :=
  match h with
  | .a => { s with hallA := f s.hallA }
  | .b => { s with hallB := f s.hallB }

/-! ### Where the units stand (01 R19, 03 R78, 04 R115, 05 R156) -/

def flightOfTread (t : Nat) : Nat := t / 8
def flightOfAxis (a : Nat) : Nat := a / 3
def flightOfLine (l : Nat) : Nat := l / 12
def flightOfPort (p : Nat) : Nat := p / 2
def storeyOfFlight (f : Nat) : Nat := f / 3
def dieOfStorey (u : Nat) : Nat := u / 2
def dieOfFlight (f : Nat) : Nat := dieOfStorey (storeyOfFlight f)

/-! ### Time -/

def State.tick (s : State) : Nat := s.clock.tick
def State.sample (s : State) : Nat := s.clock.sample
/-- CLOCK.TICK (01 R38). -/
def State.clockTick (s : State) : BitVec 32 := word32 (s.clock.tick + s.clock.base)

/-- T_cyc: CYCLE_MS of the running container; 0 without one (10 R327). -/
def State.tCyc (s : State) : Nat := match s.prog.running with | some c => c.cycleMs | none => 0

/-- The ticks stand on one line (01 R35): eight samples follow each safety tick, and then the next one is due. A sample or a tick that is
not due is none. DESIGN CHOICE (log 2). -/
def State.sampleDue (s : State) : Bool := decide (s.sample < 8 * s.tick + 8)
def State.tickDue (s : State) : Bool := decide (8 * s.tick + 8 ≤ s.sample)

/-- The module's seal address: seal bits [23:16] of the last read (12 R414, 13 R443). -/
def State.sealAddr (s : State) : Nat := (s.safety.sealRd.lastValid.toNat / 65536) % 256

/-- The states as they stood before the sample of this tick, for what a program cycle takes of them (10 R329). -/
def State.asBefore (s : State) : State :=
  let b := s.prog.before
  if b.tick ≠ s.tick then s
  else { s with
      senses := b.senses, ports := b.ports, axes := b.axes, doors := b.doors, treads := b.treads, flightBudgets := b.budgets
      supply := { s.supply with lhPins := b.lhPins }, train := { s.train with subs := b.subs } }

/-- A tick is a multiple of T_cyc, and after a slew T_cyc from the last start (10 R327, 13 R454). -/
def State.startAt (s : State) (t : Nat) : Bool :=
  s.tCyc ≠ 0 && (t + s.clock.base) % s.tCyc = 0 && (!s.prog.spaced || s.prog.lastStart.all (fun u => decide (u + s.tCyc ≤ t)))

/-- A program cycle start falls on this tick (10 R327). -/
def State.atCycleStart (s : State) : Bool := s.tCyc ≠ 0 && (s.tick + s.clock.base) % s.tCyc = 0

/-! ### Halls and modes -/

def State.hallAUp (s : State) : Bool := !s.hallA.inReset
def State.hallBUp (s : State) : Bool := !s.hallB.inReset

/-- The rails of a hall, and of its section of LD with them, are inside their windows (01 R19, R25). -/
def State.railsUp (s : State) (h : HallId) : Bool := !((s.hall h).inReset && (s.hall h).railRun = 0)

/-- Factory calibration (class 0x60, 14 R486): a gain as a share above 1 and an offset in the given unit, as 03 R89
applies the user trims. DESIGN CHOICE (log 70). -/
def State.factory (s : State) (gain offset : ParRow) (unit : Rat) (j : Nat) (raw : Rat) : Rat :=
  let cell (r : ParRow) : Rat := real32 (sparseGet (fun _ => 0) s.sec.calFactory (r.pid 0 j))
  raw * (1 + cell gain) + cell offset * unit

/-- Codes of the modes in word frames and SYS.MODE (08 R283, 12 R435); 7 CONFIG before the first mode. -/
def Mode.code : Mode → Nat
  | .boot => 7
  | .standby => 1
  | .run => 2
  | .maintenance => 3
  | .safeHold => 4
  | .update => 5

/-- The module's mode as Hall A has it (12 R435). -/
def State.mode (s : State) : Mode := s.hallA.mode

/-! ### Events -/

def noSource : Nat := 0xFFFF

/-- The 1 ms grid point at which what happens now is stamped: the first at or after it (00 R15). DEDUCED (log 83). -/
def State.stamp (s : State) : Nat := if 8 * s.tick < s.sample then s.tick + 1 else s.tick

/-- The last 1 ms grid point that has come: the eighth sample after a tick stands on the next one, which that tick follows (01 R35). -/
def State.ms (s : State) : Nat := if 8 * s.tick + 8 ≤ s.sample then s.tick + 1 else s.tick

/-- The operating time of the first 1 ms tick at or after now, with the ticks that Hall A has counted while Hall B is in reset (11 R381,
R382). -/
def State.optimeNow (s : State) : Nat :=
  s.gallery.optime + s.gallery.hallATicks + (s.stamp - s.tick)

/-- Hand an event to the gallery (01 R26): to GE while Hall B runs; to Hall A's buffer of 64 while Hall B is in reset; lost while
both are. While Hall A runs it also goes over every host link. -/
def State.recordAs (s : State) (e : EvCode) (source : Nat) (args : List (BitVec 32)) (flags : BitVec 8) : State :=
  let ev : Ev := { code := e.code, sev := e.sev, source := source, args := args,
                   optime := s.optimeNow, flags := flags }
  let outs := if s.hallAUp then OutMsg.event e.code source args :: s.outs else s.outs
  if s.hallBUp then { s with outs := outs, gallery := { s.gallery with arrivals := s.gallery.arrivals ++ [ev] } }
  else if s.hallAUp then
    if s.gallery.hallA.length < 64 then
      { s with outs := outs, gallery := { s.gallery with hallA := s.gallery.hallA ++ [ev] } }
    else { s with
        outs := outs
        gallery := { s.gallery with
            hallALost := s.gallery.hallALost.modify e.sev (· + 1), hallALossFirst := some (s.gallery.hallALossFirst.getD ev.optime)
            hallALossLast := ev.optime } }
  else s

def State.record (s : State) (e : EvCode) (source : Nat) (args : List (BitVec 32)) : State :=
  s.recordAs e source args 0

/-- The last tick at which a rate-limited event was recorded for a source. -/
def lastRecordTick (l : List LastRec) (code source : Nat) : Option Nat :=
  (l.find? (fun r => r.code = code && r.source = source)).map (·.tick)

/-- An event that is recorded at most once per period of `p` ticks for each source (00 R519). -/
def State.recordLimited (s : State) (e : EvCode) (source : Nat) (args : List (BitVec 32)) (p : Nat) : State :=
  let due := match lastRecordTick s.gallery.lastRecs e.code source with
    | none => true
    | some t => t + p ≤ s.stamp
  if due then
    let s := s.record e source args
    let others := s.gallery.lastRecs.filter (fun r => !(r.code = e.code && r.source = source))
    { s with gallery := { s.gallery with lastRecs := ⟨e.code, source, s.stamp⟩ :: others } }
  else s

/-- Record the same event only when a condition holds. -/
def State.recordIf (s : State) (c : Bool) (e : EvCode) (source : Nat) (args : List (BitVec 32)) : State :=
  if c then s.record e source args else s

def State.send (s : State) (m : OutMsg) : State := { s with outs := m :: s.outs }

/-- The ACTIVE configuration is loaded: start-up that stops at the calibration check or before it loads none (14 R464, R466, R467). -/
def State.configLoaded (s : State) : Bool := s.sec.active.isSome && s.sec.configOn

/-- Number the next free value. DESIGN CHOICE (log 4). -/
def State.draw (s : State) : State := { s with draws := s.draws + 1 }

/-! ### Folding over units -/

/-- Apply a state change for each number below `n`, in order. -/
def State.forEach (s : State) (n : Nat) (f : State → Nat → State) : State := (List.range n).foldl f s

/-- An event about a unit the machine does not have stops; every other goes on. DESIGN CHOICE (log 5). -/
def onUnit (ok : Bool) (s : State) : Host.Outcome State Fault Refusal :=
  if ok then .next s else .fault .noSuchUnit

/-! ### Mean of a list -/

def sumR (l : List Rat) : Rat := l.foldl (· + ·) 0

def meanR (l : List Rat) : Rat := if l.isEmpty then 0 else sumR l / (l.length : Rat)

end Sys2Proof.Machine
end

