-- ==== Sys2Proof/Machine/GalleryOps.lean ====
section
/-! DEFINITION. GE's store (11): areas and the overwrite rule, the alcove, losses, the queues and the open records. -/

namespace Sys2Proof.Machine

/-! ### Areas (11 R378, R383, R390) -/

/-- Capacity of an area in units of 64 bytes: 0 cycle archive, 1 event log, 2 trace area. -/
def State.areaCap (s : State) (a : Nat) : Nat :=
  let full := if a = 0 then 100663296 else 16777216
  if s.ds9600 then full else full / 4

/-- The SEQ that follows. -/
def seqAfter (q : BitVec 32) : BitVec 32 := if q = 0xFFFFFFFE then 1 else q + 1

/-- A trace's LEN in units of 64 bytes (11 R387). DEDUCED (log 52). -/
def Trace.units (t : Trace) : Nat := (64 + 16 * t.samples.length + 63) / 64

/-- The overwrite rule: room is made by overwriting the oldest record of the lowest severity, if no higher than the new one's; a record
for which `excl` holds stays. None: the new record is dropped. DEDUCED (log 52). -/
def placeIn {α : Type} (sev units : α → Nat) (excl : α → Bool) (cap : Nat) (x : α) : Nat → List α → Option (List α)
  | 0, _ => none
  | n + 1, l =>
    if (l.map units).sum + units x ≤ cap then some (l ++ [x])
    else match ((l.filter (fun r => !excl r)).map sev).min? with
      | none => none
      | some m => if m ≤ sev x then placeIn sev units excl cap x n (l.eraseP (fun r => sev r = m && !excl r)) else none

/-- An event that is recorded at most once per period for each key, and names no source (00 R519). -/
def State.recordKeyed (s : State) (e : EvCode) (key : Nat) (args : List (BitVec 32)) (p : Nat) : State :=
  let due := match lastRecordTick s.gallery.lastRecs e.code key with
    | none => true
    | some t => t + p ≤ s.stamp
  if due then
    let s := s.record e noSource args
    let others := s.gallery.lastRecs.filter (fun r => !(r.code = e.code && r.source = key))
    { s with gallery := { s.gallery with lastRecs := ⟨e.code, key, s.stamp⟩ :: others } }
  else s

def Gallery.areaSt (g : Gallery) (a : Nat) : AreaSt := if a = 0 then g.archSt else if a = 1 then g.logSt else g.trSt

def State.modArea (s : State) (a : Nat) (f : AreaSt → AreaSt) : State :=
  let g := s.gallery
  { s with
      gallery := if a = 0 then { g with archSt := f g.archSt } else if a = 1 then { g with logSt := f g.logSt }
        else { g with trSt := f g.trSt } }

/-- Take the next SEQ of an area. -/
def State.takeSeq (s : State) (a : Nat) : BitVec 32 × State :=
  ((s.gallery.areaSt a).nextSeq, s.modArea a (fun x => { x with nextSeq := seqAfter x.nextSeq }))

/-- Records were overwritten in an area: their space awaits reclaiming; the first time is recorded. -/
def State.overwrote (s : State) (a units : Nat) : State :=
  if units = 0 then s
  else
    let first := !(s.gallery.areaSt a).wrapped
    let s := s.modArea a (fun x => { x with wrapped := true, reclaim := x.reclaim + units })
    s.recordIf first Evt.areaWrapped noSource [word32 a]

/-- A record found no room in an area. -/
def State.dropped (s : State) (a : Nat) : State :=
  let s := s.modArea a (fun x => { x with dropped := x.dropped + 1 })
  s.recordKeyed Evt.recordsDropped a [word32 a, (s.gallery.areaSt a).dropped] 10000

/-! ### The alcove (11 R388, R401) -/

/-- The record of an event. DEDUCED (log 50). -/
def Ev.toRec (e : Ev) (seq : BitVec 32) (pcyc : Nat) (timeEst : Bool) : EvRec :=
  { seq := seq, pcyc := pcyc, optime := e.optime, code := e.code, sev := e.sev,
    flags := e.flags ||| BitVec.ofNat 8 (bitN timeEst 6), source := e.source, rep := e.rep,
    last := if e.flags.toNat.testBit 3 then 0 else e.optime, alcSeq := 0, args := e.args,
    win := e.win }

/-- Write a record to the alcove, which numbers its records in a SEQ of its own beside ALC_SEQ (11 R383, R388). DEDUCED (log 50). -/
def State.alcovePut (s : State) (r : EvRec) : State :=
  let g := s.gallery
  let r := { r with seq := g.alcNextSeq, rep := 1, alcSeq := g.alcSeq, flags := r.flags ||| 0x10 }
  let x : AlcRec := ⟨r, false, decide (g.alcWritten < 32)⟩
  match placeIn (fun a => a.entry.sev) (fun _ => 1) (·.kept) 256 x (g.alcove.length + 1) g.alcove with
  | none => { s with gallery := { g with alcDropped := g.alcDropped + 1 } }
  | some l => { s with
      gallery := { g with
      alcove := l, alcSeq := (g.alcSeq + 1) % 16777216, alcNextSeq := seqAfter g.alcNextSeq, alcWritten := g.alcWritten + 1 } }

def State.alcoveEvent (s : State) (e : Ev) : State := s.alcovePut (e.toRec 0 s.gallery.powerCycles s.gallery.timeEst)

/-! ### The areas' records -/

/-- Write an event record to the event log: SAFETY records are not overwritten; one that finds no room goes to the alcove. -/
def State.logPut (s : State) (r : EvRec) : State :=
  let l := s.gallery.log
  match placeIn (·.sev) (fun _ => 1) (fun x => x.sev = 5) (s.areaCap 1) r (l.length + 1) l with
  | some l' => ({ s with gallery := { s.gallery with log := l' } }).overwrote 1 (l.length + 1 - l'.length)
  | none =>
    let s := s.dropped 1
    if r.sev = 5 then s.alcovePut r else s

/-- Write a cycle record to the archive. -/
def State.archivePut (s : State) (r : CycRec) : State :=
  let l := s.gallery.archive
  match placeIn (·.sev) (fun _ => 1) (fun _ => false) (s.areaCap 0) r (l.length + 1) l with
  | some l' => ({ s with gallery := { s.gallery with archive := l' } }).overwrote 0 (l.length + 1 - l'.length)
  | none => s.dropped 0

/-- Write a trace to the trace area. DEDUCED (log 52). -/
def State.tracePut (s : State) (r : Trace) : State :=
  let l := s.gallery.traces
  match placeIn (·.sev) Trace.units (fun _ => false) (s.areaCap 2) r (l.length + 1) l with
  | some l' =>
    ({ s with gallery := { s.gallery with traces := l' } }).overwrote 2
      ((l.map Trace.units).sum + r.units - (l'.map Trace.units).sum)
  | none => s.dropped 2

/-- Records held by an area, and the units of 64 bytes they take. -/
def Gallery.live (g : Gallery) (a : Nat) : Nat :=
  if a = 0 then g.archive.length else if a = 1 then g.log.length else g.traces.length

def Gallery.unitsUsed (g : Gallery) (a : Nat) : Nat := if a = 2 then (g.traces.map Trace.units).sum else g.live a

/-! ### Losses (11 R394, R395) -/

/-- An entry is lost, counted for its severity alone. -/
def State.countDrop (s : State) (sev : Nat) : State :=
  { s with gallery := { s.gallery with intakeLost := s.gallery.intakeLost.modify sev satInc } }

/-- Stamp a loss. -/
def State.stampLoss (s : State) (optime : Nat) : State :=
  { s with gallery := { s.gallery with lossFirst := some (s.gallery.lossFirst.getD optime), lossLast := optime } }

/-- An entry is lost at the intake: counted, and pending for EVENTS_LOST. DEDUCED (log 51). -/
def State.countLoss (s : State) (sev optime : Nat) : State :=
  let s := (s.countDrop sev).stampLoss optime
  { s with gallery := { s.gallery with lost := s.gallery.lost.modify sev (· + 1) } }

def Gallery.lossPending (g : Gallery) : Bool := g.lost.any (· ≠ 0) || g.rateLost ≠ 0

/-! ### Cycle records (11 R386, R391, R400) -/

/-- GE completes a cycle record of a door cycle: power cycle and lifetime cycle number. -/
def State.numberCycle (s : State) (r : CycRec) : CycRec × State :=
  let n := s.gallery.flightCycles.getD r.flight 0 + 1
  ({ r with pcyc := s.gallery.powerCycles, cycleNo := n },
   { s with gallery := { s.gallery with flightCycles := s.gallery.flightCycles.set r.flight n } })

/-- The first cycle to end after the pause is named in CYCLES_PAUSED. -/
def State.notePause (s : State) (r : CycRec) : State :=
  if s.gallery.pauseNoted then s
  else
    let fill (x : AlcRec) : AlcRec :=
      if x.entry.code = Evt.cyclesPaused.code && x.entry.args.length = 1 then
        { x with entry := { x.entry with args := x.entry.args ++ [word32 r.flight, r.cycleNo] } }
      else x
    { s with gallery := { s.gallery with alcove := s.gallery.alcove.map fill, pauseNoted := true } }

/-- A cycle record reaches GE: into the cycle queue of 24; not recorded while cycle recording is paused. DEDUCED (log 51). -/
def State.takeCycle (s : State) (r : CycRec) : State :=
  let (r, s) := s.numberCycle r
  if s.gallery.paused then s.notePause r
  else if s.gallery.cycQueue.length < 24 then
    { s with gallery := { s.gallery with cycQueue := s.gallery.cycQueue ++ [r] } }
  else s.countLoss r.sev r.optime

/-! ### Event intake (11 R392 to R394) -/

/-- The intake refuses an event: one of an EVENT block, whose source is the block's INST_ID, answers BUSY (10 R349). -/
def State.intakeRefused (s : State) (e : Ev) : State :=
  let s := s.countLoss e.sev e.optime
  if e.code < 0x3080 || 0x30FF < e.code then s
  else { s with
      prog := { s.prog with
          insts := s.prog.insts.map (fun (x : BlockSt) =>
            if x.inst.toNat = e.source && x.resultDue.isSome then { x with resultDue := x.resultDue.map (fun r => (stBusy, r.2)) } else x) } }

/-- An event enters the queue of 128, of which 8 are reserved for severity FAULT and above; EVENTS_LOST has a slot of its own. -/
def State.enqueue (s : State) (e : Ev) : State :=
  let push (s : State) : State :=
    { s with
        gallery := { s.gallery with
        queue := s.gallery.queue ++ [e], intakePeak := max s.gallery.intakePeak (s.gallery.queue.length + 1) } }
  let mine := s.gallery.queue.filter (fun x => x.code ≠ Evt.eventsLost.code)
  if mine.length < (if 4 ≤ e.sev then 128 else 120) then push s
  else
    let low := (mine.map (·.sev)).min?.getD 5
    if low < e.sev then
      let isLow (x : Ev) : Bool := x.sev = low && x.code ≠ Evt.eventsLost.code
      let gone := (s.gallery.queue.reverse.find? isLow).getD e
      let s := { s with gallery := { s.gallery with queue := (s.gallery.queue.reverse.eraseP isLow).reverse } }
      push (s.countLoss gone.sev gone.optime)
    else if e.sev = 5 then s.alcoveEvent e
    else s.intakeRefused e

/-- The open record that an arrival merges into: its window is the REPEAT_WIN in force when it arrived (R407). DEDUCED (log 51). -/
def Ev.mergesInto (e : Ev) (r : EvRec) : Bool :=
  r.code = e.code && r.source = e.source && decide (e.optime < r.optime + r.win)

/-- An arrival merges into the first open record that takes it. DEDUCED (log 51). -/
def Ev.merge (e : Ev) : List EvRec → List EvRec
  | [] => []
  | r :: l => if e.mergesInto r then { r with rep := min (r.rep + 1) 65535, last := e.optime } :: l else r :: e.merge l

/-- Native mode: merge into an open record, or queue. -/
def State.nativeIntake (s : State) (e : Ev) : State :=
  if e.sev ≠ 5 && s.gallery.openTab.any e.mergesInto then
    { s with gallery := { s.gallery with openTab := e.merge s.gallery.openTab } }
  else s.enqueue { e with win := s.parN Par.galleryRepeatWin 0 0 }

/-- The widest RATE_WIN, 3 600 000 ms (11 R407): acceptances older than that count in no window. -/
def rateWinMax : Nat := 3600000

/-- DX-12 mode: accept or suppress by the rate of the code, in the RATE_WIN that stands (11 R393). -/
def State.rateIntake (s : State) (e : Ev) : State :=
  let e : Ev := { e with flags := e.flags ||| 0x08 }
  if e.sev = 5 then s.enqueue { e with rep := 0 }
  else
    let row : RateRow := (s.gallery.rate.find? (fun r => r.code = e.code)).getD ⟨e.code, [], 0⟩
    let times : List Nat := row.times.filter (fun t : Nat => decide (e.optime - rateWinMax ≤ t))
    let others := s.gallery.rate.filter (fun r => r.code ≠ e.code)
    let inWin (t : Nat) : Bool := decide (e.optime - s.parN Par.galleryRateWin 0 0 ≤ t) && decide (t < e.optime)
    if (times.filter inWin).length < s.parN Par.galleryRateN 0 0 then
      let rows : List RateRow := ⟨e.code, e.optime :: times, 0⟩ :: others
      let out : Nat := ((rows.drop 256).map (·.suppressed)).sum
      let s := if out = 0 then s else s.stampLoss e.optime
      let s := { s with gallery := { s.gallery with rate := rows.take 256, rateLost := s.gallery.rateLost + out } }
      s.enqueue { e with rep := min row.suppressed 65535 }
    else
      { s with
          gallery := { s.gallery with
          rate := s.gallery.rate.map (fun r => if r.code = e.code then { r with suppressed := r.suppressed + 1 } else r) } }

/-- An event while DEGRADED is set: to the alcove from GALLERY.ALCOVE_MIN_SEV up, else dropped and counted (11 R400). -/
def State.degradedIntake (s : State) (e : Ev) : State :=
  if s.parN Par.galleryAlcoveMinSev 0 0 ≤ e.sev then s.alcoveEvent e else s.countDrop e.sev

/-- An event arrives at GE. -/
def State.intake (s : State) (e : Ev) : State :=
  if e.sev < s.parN Par.galleryMinSev 0 0 then s
  else if s.gallery.degraded then s.degradedIntake e
  else if s.parN Par.galleryFloodMode 0 0 = 1 then s.rateIntake e
  else s.nativeIntake e

/-! ### From the queue to the store (11 R392, R396) -/

/-- Whether a record names a flight (R386 EVENT_LINK): an event of its doorway or its obstacle model, or one of Hall B's that has the
flight as its source. DEDUCED (log 50). -/
def EvRec.names (r : EvRec) (f : Nat) : Bool :=
  r.source = f && (r.code / 256 = 0x11 || r.code / 256 = 0x28 || [0x3803, 0x3804, 0x380E, 0x3811, 0x3812, 0x3813].contains r.code)

/-- An event record is the first that names a cycle's flight in that cycle. -/
def EvRec.fits (r : EvRec) (c : CycRec) : Bool :=
  c.eventLink = 0xFFFFFFFF && r.names c.flight && r.pcyc = c.pcyc && decide (c.optime - c.duration ≤ r.optime) && decide (r.optime ≤ c.optime)

/-- EVENT_LINK of the cycle records that such a record fits. -/
def EvRec.link (r : EvRec) (l : List CycRec) : List CycRec := l.map (fun c => if r.fits c then { c with eventLink := r.seq } else c)

/-- The cycle records that are not yet in the archive. -/
def Gallery.cycWaiting (g : Gallery) : List CycRec := g.cycQueue ++ g.cycSpill ++ g.mirrorCyc ++ g.waitCyc

/-- EVENT_LINK in the cycle records that are not yet in the archive. -/
def State.linkWaiting (s : State) (r : EvRec) : State :=
  let g := s.gallery
  { s with
      gallery := { g with
      cycQueue := r.link g.cycQueue, cycSpill := r.link g.cycSpill, mirrorCyc := r.link g.mirrorCyc, waitCyc := r.link g.waitCyc } }

/-- The first event record that names a flight in a cycle: in the cycle record that waits, or in the cycle under way. -/
def State.linkEvent (s : State) (r : EvRec) : State :=
  if 12 ≤ r.source then s
  else
    if s.gallery.cycWaiting.any r.fits then s.linkWaiting r
    else
      { s with
          gallery := { s.gallery with
          cyc := s.gallery.cyc.mapIdx (fun f c =>
            if r.names f && c.eventLink = 0xFFFFFFFF && decide (s.gallery.optime - (s.tick - c.start) ≤ r.optime) then
              { c with eventLink := r.seq }
            else c) } }

/-- The spill has room; what a start has still to write waits there too (R399). DEDUCED (log 84). -/
def Gallery.spillRoom (g : Gallery) : Bool := decide (g.waitEv.length + g.spill.length < 768)

/-- An open record closes: it moves into the spill. -/
def State.closeRecord (s : State) (r : EvRec) : State :=
  { s with gallery := { s.gallery with openTab := s.gallery.openTab.erase r, spill := s.gallery.spill ++ [r] } }

/-- The open record with the oldest OPTIME. -/
def oldestOpen : List EvRec → Option EvRec
  | [] => none
  | r :: l => match oldestOpen l with
    | none => some r
    | some o => if o.optime < r.optime then some o else some r

/-- The open records whose window has ended. -/
def State.windowEnded (s : State) (r : EvRec) : Bool := decide (r.optime + r.win ≤ s.gallery.optime)

/-- An open record must move into the spill, which has no room for it: no entry is taken (11 R392). -/
def State.spillWaits (s : State) : Bool := !s.gallery.spillRoom && s.gallery.openTab.any s.windowEnded

/-- The queue's first entry is taken: a SAFETY entry, one of DX-12 mode and, while that mode is in force, every one goes to the spill; any
other opens a record. -/
def State.takeEvent (s : State) : State :=
  match s.gallery.queue with
  | [] => s
  | e :: rest =>
    if s.spillWaits then s else
    let take (s : State) : EvRec × State :=
      let (q, s) := s.takeSeq 1
      let r := e.toRec q s.gallery.powerCycles s.gallery.timeEst
      (r, ({ s with gallery := { s.gallery with queue := rest } }).linkEvent r)
    if e.sev = 5 || e.flags.toNat.testBit 3 || s.parN Par.galleryFloodMode 0 0 = 1 then
      if s.gallery.spillRoom then
        let (r, s) := take s
        { s with gallery := { s.gallery with spill := s.gallery.spill ++ [r] } }
      else s
    else if s.gallery.openTab.length < 64 || s.gallery.spillRoom then
      let s := if s.gallery.openTab.length < 64 then s
        else match oldestOpen s.gallery.openTab with
          | none => s
          | some o => s.closeRecord o
      let (r, s) := take s
      { s with gallery := { s.gallery with openTab := s.gallery.openTab ++ [r] } }
    else s

/-- The cycle queue's first record is taken into the cycle spill of 256. -/
def State.takeCycleEntry (s : State) : State :=
  match s.gallery.cycQueue with
  | [] => s
  | r :: rest =>
    if s.gallery.waitCyc.length + s.gallery.cycSpill.length < 256 then
      let (q, s) := s.takeSeq 0
      { s with gallery := { s.gallery with cycQueue := rest, cycSpill := s.gallery.cycSpill ++ [{ r with seq := q }] } }
    else s

/-- Close the open records for which a condition holds, oldest first, while the spill has room. -/
def State.closeWhile (s : State) (p : EvRec → Bool) : State :=
  s.gallery.openTab.foldl (fun s r => if p r && s.gallery.spillRoom then s.closeRecord r else s) s

/-- A change of GALLERY.FLOOD_MODE, however it came, closes every open record and clears the rate table (11 R393): each window ends, and
what the spill has no room for moves as soon as it has. DEDUCED (log 51). -/
def State.floodChanged (s : State) (old : BitVec 32) : State :=
  if s.par Par.galleryFloodMode 0 0 = old then s
  else
    let ended (r : EvRec) : EvRec := { r with win := 0 }
    ({ s with gallery := { s.gallery with openTab := s.gallery.openTab.map ended, rate := [] } }).closeWhile (fun _ => true)

/-- GALLERY.FLOOD_MODE (11 R393). -/
def State.floodWrite (s : State) (v : BitVec 32) : State :=
  (s.setPar (Par.galleryFloodMode.pid 0 0) v).floodChanged (s.par Par.galleryFloodMode 0 0)

/-- GALLERY.ALCOVE_CLEAR (11 R402). -/
def State.alcoveClear (s : State) : State :=
  let gone := (s.gallery.alcove.filter (·.copied)).length
  let s := { s with
      gallery := { s.gallery with
      alcove := s.gallery.alcove.filter (fun r => !r.copied), alcWritten := 0, alcDropped := 0 } }
  s.record Evt.alcoveCleared noSource [word32 gone]

/-! ### Trace staging (11 R387) -/

def State.modStaging (s : State) (f : Nat) (g : Staging → Staging) : State :=
  { s with gallery := { s.gallery with staging := s.gallery.staging.modify f g } }

/-! ### The start (11 R397, R400, R402) -/

/-- A record written at a start (11 R384, R386). -/
def EvRec.replayed (r : EvRec) : EvRec := { r with flags := r.flags ||| 0x20 }
def CycRec.replayed (r : CycRec) : CycRec := { r with flags := r.flags ||| 0x80 }

/-- An event record joins those that a start has still to write. -/
def State.waitEvent (s : State) (r : EvRec) : State := { s with gallery := { s.gallery with waitEv := s.gallery.waitEv ++ [r] } }

/-- The mirrored entries, numbered at the start. -/
def State.takeMirror (s : State) : State :=
  let g := s.gallery
  let s := { s with gallery := { g with mirrorEv := [], mirrorCyc := [] } }
  let s := g.mirrorCyc.foldl (fun s r =>
    let (q, s) := s.takeSeq 0
    { s with gallery := { s.gallery with waitCyc := s.gallery.waitCyc ++ [CycRec.replayed { r with seq := q }] } }) s
  g.mirrorEv.foldl (fun s e =>
    let (q, s) := s.takeSeq 1
    let r := (e.toRec q s.gallery.powerCycles s.gallery.timeEst).replayed
    (s.waitEvent r).linkWaiting r) s

/-- What a start writes before any new record: the mirrored entries, the spilled records and SUPPLY_LOSS, each with REPLAYED, then the
open records as they stand in MRAM (11 R397). -/
def State.gather (s : State) (loss : Option EvRec) : State :=
  let s := s.takeMirror
  let g := s.gallery
  let s := { s with
      gallery := { g with
      waitEv := g.waitEv ++ g.spill.map EvRec.replayed, waitCyc := g.waitCyc ++ g.cycSpill.map CycRec.replayed
      spill := [], cycSpill := [] } }
  let s := match loss with
    | none => s
    | some r =>
      let (q, s) := s.takeSeq 1
      s.waitEvent { r with seq := q, flags := r.flags ||| 0x20 }
  { s with gallery := { s.gallery with waitEv := s.gallery.waitEv ++ s.gallery.openTab, openTab := [] } }

/-- What waits is written. -/
def State.flushWait (s : State) : State :=
  let g := s.gallery
  let s := { s with gallery := { g with waitEv := [], waitCyc := [] } }
  g.waitCyc.foldl State.archivePut (g.waitEv.foldl State.logPut s)

def AlcRec.asCopied (x : AlcRec) : AlcRec := { x with copied := true }

/-- At a start at which the store passes its checks: the alcove's uncopied records are to go to the event log, and recording resumes
(11 R402). -/
def State.recoverStore (s : State) : State :=
  if s.gallery.degraded then
    let s := s.gallery.alcove.foldl (fun s x =>
      if x.copied then s
      else
        let (q, s) := s.takeSeq 1
        s.waitEvent { x.entry with seq := q, alcSeq := 0 }) s
    let s := { s with
        gallery := { s.gallery with
        alcove := s.gallery.alcove.map AlcRec.asCopied, degraded := false, paused := false } }
    s.record Evt.galleryRecovered noSource []
  else s

/-- The counters as rebuilt from the newest readable records after an MRAM failure. -/
def State.rebuildCounters (s : State) : State :=
  let g := s.gallery
  let opt := (g.log.map (·.optime) ++ g.archive.map (·.optime)).foldl max 0
  let pc := (g.log.map (·.pcyc) ++ g.archive.map (·.pcyc)).foldl max 0
  let cyc (f : Nat) : BitVec 32 := word32 (((g.archive.filter (fun r => r.flight = f)).map (·.cycleNo.toNat)).foldl max 0)
  { s with
      gallery := { g with
      optime := opt, powerCycles := pc, flightCycles := (List.range 12).map cyc, timeEst := true } }

end Sys2Proof.Machine
end

