-- ==== Sys2Proof/Machine/TreadOps.lean ====
section
/-! DEFINITION. Driving a tread (03 R80 to R82), budgets and foldback (01 R21 to R23). -/

namespace Sys2Proof.Machine

/-- TREAD.MODE_CFG: 0 UNUSED, 1 PHASE, 2 HIGH_SIDE, 3 LOW_SIDE (03 R81). -/
def State.treadCfg (s : State) (t : Nat) : Nat := s.parN Par.treadModeCfg t 0

/-- The running modes that a configured mode permits (03 R81). -/
def modePermitted (cfg : Nat) : TMode → Bool
  | .off => true
  | .phase => cfg == 1
  | .brake => cfg == 1
  | .highSide => cfg == 2
  | .lowSide => cfg == 3

/-- Both enables of a flight are high at its storey die (01 R29, R30). -/
def State.flightEnabled (s : State) (f : Nat) : Bool :=
  (s.fpower f).enA && (s.fpower f).enB && !(s.die (dieOfFlight f)).lowA && !(s.die (dieOfFlight f)).lowB

/-- SUPPLY_OK high, no overvoltage trip, no ground loss, and no wait for a next safety tick (02 R58, R62 to R64, R67). -/
def State.treadSupplyOk (s : State) : Bool :=
  !s.supply.uv && !s.supply.ov && !s.supply.groundLost && decide (s.supply.treadsFromTick ≤ s.tick)

/-- Every condition of 03 R82 other than the tread's own latches. -/
def State.treadEnabled (s : State) (t : Nat) : Bool :=
  let f := flightOfTread t
  s.flightEnabled f && s.treadSupplyOk && (s.fpower f).presence && s.supply.mpres &&
    !(s.storey (storeyOfFlight f)).breakerOpen && (s.die (dieOfFlight f)).railUp

/-- None of the tread's own reasons to stay OFF holds (03 R82, R90, R101, R102, 02 R73). -/
def Tread.free (x : Tread) (tick : Nat) : Bool :=
  !x.therm && !x.wire && !x.latchedOff && !x.waitRearm && x.retryAt.isNone && !x.senseFault && !x.lhTripped &&
    decide (x.offUntil ≤ tick)

/-- A flight that has been re-plugged stays ISOLATED, with its treads OFF, until a command releases it (02 R69). DEDUCED (log 87). -/
def State.flightHeld (s : State) (f : Nat) : Bool := (s.fpower f).unplugged && (s.door f).st == .isolated

/-- The running mode that a commanded mode gives at present. -/
def State.modeFor (s : State) (t : Nat) (m : TMode) : TMode :=
  if s.treadEnabled t && !s.flightHeld (flightOfTread t) && (s.tread t).free s.tick && modePermitted (s.treadCfg t) m then m else .off

/-- The limp-home path has charge of the tread's die. -/
def State.limpHolds (s : State) (t : Nat) : Bool := (s.limpOf (dieOfFlight (flightOfTread t))).inCharge

/-- Command a tread: its running mode follows as far as 03 R82 lets it. A die that limp-home has charge of is not under hall control (02 R72, R73). -/
def State.driveTread (s : State) (t : Nat) (m : TMode) (duty : Rat) : State :=
  s.modTread t (fun x => if s.limpHolds t then { x with cmd := m } else { x with cmd := m, duty := duty, mode := s.modeFor t m })

def State.driveTreads (s : State) (ts : List Nat) (m : TMode) (duty : Rat) : State :=
  ts.foldl (fun s t => s.driveTread t m duty) s

/-- Turn a tread OFF in hardware: its commanded mode stands, and limp-home drives it no longer (02 R65, R68, 03 R101, R111). -/
def Tread.hardOff (x : Tread) : Tread := { x with mode := .off, lhDriven := false }

/-- Turn OFF every tread that a condition names. -/
def State.treadsOff (s : State) (p : Nat → Bool) : State :=
  { s with treads := s.treads.mapIdx (fun t x => if p t then x.hardOff else x) }

/-- A tread follows its commanded mode again, as far as it may (02 R65, 03 R101, R104). Those of a die that limp-home has
charge of are not under hall control. -/
def State.refreshTread (s : State) (t : Nat) (x : Tread) : Tread :=
  if s.limpHolds t then x else { x with mode := s.modeFor t x.cmd }

def State.refreshTreads (s : State) : State := { s with treads := s.treads.mapIdx (fun t x => s.refreshTread t x) }

/-- Bit t of a set of treads given as 32-bit elements (02 R71). -/
def inTreadSet (els : List (BitVec 32)) (pin t : Nat) : Bool := wbit (els.getD (3 * pin + t / 32) 0) (t % 32)

/-- The active limp-home pins that name a tread, lowest first (02 R72). -/
def State.lhNaming (s : State) (t : Nat) (active : Bool) : List Nat :=
  match (s.limpOf (dieOfFlight (flightOfTread t))).map with
  | none => []
  | some (els, _) => (List.range 8).filter (fun p => inTreadSet els p t && (!active || s.supply.lhPins.getD p false))

/-- What the limp-home path makes of a tread of a die that it has charge of (02 R72). One that the zero-reading check has refused stays OFF
(03 R90). -/
def State.lhTread (s : State) (t : Nat) (x : Tread) : Tread :=
  let f := flightOfTread t
  let on := !(s.lhNaming t true).isEmpty && s.treadCfg t = 2 && !x.therm && !x.wire && !x.lhTripped && !x.senseFault && s.treadSupplyOk &&
    (s.fpower f).presence && s.supply.mpres && !(s.storey (storeyOfFlight f)).breakerOpen && (s.die (dieOfFlight f)).railUp
  { x with mode := if on then .highSide else .off, duty := if on then 100 else x.duty, lhDriven := on }

/-- Drive every tread of the dies whose limp-home path is in charge. -/
def State.lhDrive (s : State) : State :=
  { s with
      treads := s.treads.mapIdx (fun t x =>
      if (s.limpOf (dieOfFlight (flightOfTread t))).inCharge then s.lhTread t x else x) }

/-- Treads are allowed again: those under hall control follow their commanded modes, those of a die that limp-home has charge of their
pins (02 R65, R72). -/
def State.treadsBack (s : State) : State := s.refreshTreads.lhDrive

/-- A limp-home path is in charge somewhere (02 R72). -/
def State.limpInCharge (s : State) : Bool := s.limp.any (·.inCharge)

/-- Iw of a wire cross-section in A (03 R97); 0 for the model off. -/
def wireIw (csa : Rat) : Rat :=
  if csa = 1 / 4 then 3 else if csa = 1 / 2 then 9 / 2 else if csa = 3 / 4 then 6 else if csa = 1 then 15 / 2
  else if csa = 3 / 2 then 10 else if csa = 5 / 2 then 15 else 0

def State.iwOf (s : State) (t : Nat) : Rat := wireIw (s.parR Par.treadWireCsa t 0)

/-- LH_ILIM of the lowest-numbered active pin that names a tread (02 R72). -/
def State.lhLimit (s : State) (t : Nat) : Option Rat :=
  match s.lhNaming t true, (s.limpOf (dieOfFlight (flightOfTread t))).map with
  | p :: _, some (_, ilim) => some (real32 (ilim.getD p 0))
  | _, _ => none

/-- The effective limit of a tread: ILIM, the limp-home limit of a tread that limp-home drives, 6 A while clamped (02 R72, 03 R92). -/
def State.effectiveLimit (s : State) (t : Nat) : Rat :=
  let il := if (s.tread t).lhDriven then (s.lhLimit t).getD 0 else s.parR Par.treadIlim t 0
  if (s.tread t).clamp then minR il 6 else il

/-! ### Budgets -/

/-- The budget levels by number: 0 to 11 flights, 12 to 15 storeys, 16 and 17 storey dies, 18 the module's input current, 19 its
dissipation (01 R22). -/
def State.budget (s : State) (lv : Nat) : Budget :=
  if lv < 12 then s.flightBudgets.getD lv .reset
  else if lv < 16 then s.storeyBudgets.getD (lv - 12) .reset
  else if lv < 18 then s.dieBudgets.getD (lv - 16) .reset
  else if lv = 18 then s.currentBudget else s.thermalBudget

def State.modBudget (s : State) (lv : Nat) (f : Budget → Budget) : State :=
  if lv < 12 then { s with flightBudgets := s.flightBudgets.modify lv f }
  else if lv < 16 then { s with storeyBudgets := s.storeyBudgets.modify (lv - 12) f }
  else if lv < 18 then { s with dieBudgets := s.dieBudgets.modify (lv - 16) f }
  else if lv = 18 then { s with currentBudget := f s.currentBudget }
  else { s with thermalBudget := f s.thermalBudget }

/-- The dissipation budget by baseplate temperature (15 R507). -/
def dissipBudget (tb : Rat) : Rat :=
  if tb ≤ 70 then 90 else if tb < 85 then 90 - 4 * (tb - 70) else 30

/-- The continuous budget of a level (01 R22, 15 R507). -/
def State.budgetCont (s : State) (lv : Nat) : Rat :=
  if lv < 12 then 6 else if lv < 16 then 10 else if lv < 18 then 35 else if lv = 18 then 25 else dissipBudget s.supply.tbTick

/-- The peak budget of a level (01 R22): none for dissipation. -/
def budgetPeak (lv : Nat) : Option Rat :=
  if lv < 12 then some 12 else if lv < 16 then some 20 else if lv = 18 then some 40 else none

/-- The mean of the last 8000 samples; before 8000 samples have been taken, of those there are. -/
def Budget.mean (b : Budget) : Rat := meanR b.hist

/-- One sample of a level (01 R21). -/
def Budget.sampleOf (cont : Rat) (peak : Option Rat) (q : Rat) (b : Budget) : Budget :=
  let hist := (q :: b.hist).take 8000
  let run := if cont < q then b.run + 1 else 0
  let pk := match peak with | some p => decide (p < q) | none => false
  { b with hist := hist, run := run, exceeded := pk || decide (1600 ≤ run) || decide (cont < meanR hist) }

/-- One safety tick of a level (01 R21): the scale in sixteenths, 4 to 16. "Every tenth tick" is every tenth tick of recovery, counted on
over ticks that neither exceed nor recover. DESIGN CHOICE (log 71). -/
def Budget.tickOf (cont : Rat) (b : Budget) : Budget :=
  let q := b.hist.headD 0
  if b.exceeded then { b with scale := if b.scale ≤ 5 then 4 else b.scale - 1, tenth := 0, hold := b.hold + 1 }
  else if b.mean < 9 / 10 * cont ∧ q ≤ cont then
    if b.tenth + 1 = 10 then { b with scale := if 16 ≤ b.scale then 16 else b.scale + 1, tenth := 0, hold := 0 }
    else { b with tenth := b.tenth + 1, hold := 0 }
  else { b with hold := 0 }

/-- The event of a level whose foldback begins, and of its budget stop (01 R22). -/
def foldbackEvt (lv : Nat) : EvCode :=
  if lv < 12 then Evt.flightFoldback else if lv < 16 then Evt.storeyFoldback else if lv < 18 then Evt.dieFoldback
  else if lv = 18 then Evt.moduleFoldback else Evt.moduleThermalFoldback

def stopEvt (lv : Nat) : EvCode :=
  if lv < 12 then Evt.flightBudgetStop else if lv < 16 then Evt.storeyBudgetStop else if lv < 18 then Evt.dieBudgetStop
  else if lv = 18 then Evt.moduleBudgetStop else Evt.moduleThermalStop

/-- The instance number a level's events name: its unit, none for the module. -/
def budgetSource (lv : Nat) : Nat :=
  if lv < 12 then lv else if lv < 16 then lv - 12 else if lv < 18 then lv - 16 else noSource

/-- Whether a flight lies in a level. -/
def levelHasFlight (lv f : Nat) : Bool :=
  if lv < 12 then f == lv else if lv < 16 then storeyOfFlight f == lv - 12
  else if lv < 18 then dieOfFlight f == lv - 16 else true

/-- The levels that contain a flight: its own, its storey, its die and the module's two. -/
def levelsOf (f : Nat) : List Nat := [f, 12 + storeyOfFlight f, 16 + dieOfFlight f, 18, 19]

/-- Every level begins RUN unscaled (01 R21). -/
def State.freshScales (s : State) : State := s.forEach 20 (fun s lv => s.modBudget lv (fun b => { b with scale := 16, tenth := 0 }))

/-- The effective foldback scale of a flight's PHASE treads (01 R23). -/
def State.foldScale (s : State) (f : Nat) : Rat :=
  ((levelsOf f).foldl (fun m lv => min m (s.budget lv).scale) 16 : Nat) / 16

/-- A level is fitted on the variant (00 R1). -/
def State.hasLevel (s : State) (lv : Nat) : Bool :=
  if lv < 12 then lv < s.nFlights else if lv < 16 then lv - 12 < s.nStoreys else if lv < 18 then lv - 16 < s.nDies
  else lv < 20

/-- Whether a stopped level's mean is below 0.9 × cont (01 R23, 03 R109). -/
def State.stopClearable (s : State) (lv : Nat) : Bool :=
  (s.budget lv).stopped && decide ((s.budget lv).mean < 9 / 10 * s.budgetCont lv)

/-- Clear those of the given levels that are stopped and meet their condition: STATE when none does. -/
def State.clearStops (s : State) (lvs : List Nat) : Nat × State :=
  let ok := lvs.filter (fun lv => s.stopClearable lv)
  if ok.isEmpty then (0x1A, s)
  else (0, ok.foldl (fun s lv => s.modBudget lv (fun b => { b with stopped := false, hold := 0 })) s)

end Sys2Proof.Machine
end

