-- ==== Sys2Proof/Machine/AxisOps.lean ====
section
/-! DEFINITION. Axes (05): types and treads, fault stops, the motion commands, the profile generator, gearing, the checks and
the loops of one 125 µs sample. -/

namespace Sys2Proof.Machine

/-! ### Types, treads and feedback (05 R153 to R156) -/

/-- AXIS.TYPE: 0 NONE, 1 PMSM, 2 DC, 3 STEPPER, 4 SOLENOID. -/
def State.axType (s : State) (a : Nat) : Nat := s.parN Par.axisType a 0

/-- The treads an axis claims (05 R153). -/
def State.claimed (s : State) (a : Nat) : List Nat :=
  let k := 8 * flightOfAxis a
  match s.axType a with
  | 1 => [k, k + 1, k + 2]
  | 2 => if a % 3 = 0 then [k, k + 1] else [k + 3, k + 4]
  | 3 => [k + 3, k + 4, k + 5, k + 6]
  | 4 => [k + 7]
  | _ => []

/-- An axis that uses PHASE treads: every type but NONE and SOLENOID. DEDUCED (log 33). -/
def State.isPhase (s : State) (a : Nat) : Bool := s.axType a = 1 || s.axType a = 2 || s.axType a = 3

/-- The feedback port (05 R155). -/
def State.fbPort (s : State) (a : Nat) : Option Nat :=
  match s.parN Par.axisFbPort a 0 with
  | 1 => some (2 * flightOfAxis a)
  | 2 => some (2 * flightOfAxis a + 1)
  | _ => none

/-- The flight's other port than the one given. -/
def otherPort (p : Nat) : Nat := if p % 2 = 0 then p + 1 else p - 1

/-- A port has a flag that stops its axis while it stands (05 R174 code 8). DEDUCED (log 66). -/
def Port.blocked (p : Port) : Bool := p.lineFault || p.ssiFault || p.supplyFault

/-- The flags of code 8 of 05 R174. -/
def Port.faulty (p : Port) : Bool := p.countInvalid || p.blocked

/-- A working encoder (05 R176). -/
def State.workingEncoder (s : State) (a : Nat) : Bool :=
  match s.fbPort a with
  | none => false
  | some p => !(s.port p).faulty

/-- The counter as axis counts: rounded to nearest, ties toward zero for a stepper (05 R156). -/
def roundTieZero (q : Rat) : Int :=
  let f := (absR q).floor
  let r := if 1 / 2 < absR q - f then f + 1 else f
  if q < 0 then -r else r

/-- DESIGN CHOICE (log 31). -/
def State.axisCount (s : State) (a : Nat) : Int :=
  match s.fbPort a with
  | none => (s.axis a).posCmd.floor
  | some p =>
    let c := (s.port p).count.toInt
    if s.axType a = 3 then
      roundTieZero ((c : Rat) * (s.parZ Par.axisEncNum a 0 : Rat) / (s.parN Par.axisEncDen a 0 : Rat))
    else c

/-- The port whose counter an axis follows as its gear master, for a local master. -/
def State.localMaster (s : State) (a : Nat) : Option Nat :=
  if s.parN Par.axisGearSrc a 0 = 1 then some (s.parN Par.axisGearMaster a 0) else none

/-! ### Fault-stop causes (05 R174) -/

/-- A claimed tread that has tripped or is latched off; for a SOLENOID only LATCHED_OFF (05 R183). A thermal latch that set while the
tread was OFF is no trip (03 R95). -/
def State.treadTripped (s : State) (a : Nat) : Bool :=
  (s.claimed a).any (fun t =>
    let x := s.tread t
    x.latchedOff || (s.axType a ≠ 4 && x.waitRearm && (x.therm || x.wire)))

/-- The causes that are active now, by rising code: none before the end of start-up, when no axis is in use. DEDUCED (log 66). -/
def State.activeCauses (s : State) (a : Nat) : List Nat :=
  let f := flightOfAxis a
  let x := s.axis a
  if s.hallA.mode == .boot then [] else
  (if s.treadTripped a then [1] else []) ++
  (if s.isPhase a && (s.supply.uv || s.supply.ov) then [2] else []) ++
  (if s.isPhase a && (levelsOf f).any (fun lv => (s.budget lv).stopped) then [3] else []) ++
  (if (s.storey (storeyOfFlight f)).breakerOpen then [4] else []) ++
  (if !(s.fpower f).presence || !s.supply.mpres then [5] else []) ++
  (if !s.flightEnabled f && x.st != .idle && x.st != .disabled then [6] else []) ++
  (if s.mode == .safeHold then [7] else []) ++
  (match s.fbPort a with | some p => if (s.port p).blocked then [8] else [] | none => [])

/-- The bits of a list of causes, for the event's second argument. -/
def causeBits (cs : List Nat) : Nat := cs.foldl (fun n c => if n.testBit c then n else n + 2 ^ c) 0

/-! ### Fault stops (05 R173, R175, R176) -/

/-- Steps being issued or held: the stepper states in which a fault stop loses its position. -/
def AxState.driven : AxState → Bool
  | .aligning | .hold | .moving | .stopping => true
  | _ => false

/-- The axis is not in motion. -/
def AxState.atRest : AxState → Bool
  | .moving | .stopping | .aligning => false
  | _ => true

/-- An axis at rest, with no command on its way to its engine. -/
def State.atRest (s : State) (a : Nat) : Bool := (s.axis a).st.atRest && (s.axis a).inbox.isEmpty

/-- A stepper without a working encoder (05 R176). -/
def State.blindStepper (s : State) (a : Nat) : Bool := s.axType a = 3 && !s.workingEncoder a

/-- POS_UNCERTAIN sets: AXIS_POS_UNCERTAIN is recorded when it was clear. An axis of type NONE records nothing (05 R176, R191). -/
def State.setUncertain (s : State) (a : Nat) : State :=
  if (s.axis a).posUncertain || s.axType a = 0 then s
  else (s.modAxis a (fun x => { x with posUncertain := true })).record Evt.axisPosUncertain a []

/-- What the treads do in FAULT_STOP (05 R175). -/
def State.reactMode (s : State) (a : Nat) (hold : Bool) : TMode :=
  let brake := s.parN Par.axisFaultReact a 0 = 0
  match s.axType a with
  | 1 | 2 => if brake || hold then .brake else .off
  | 3 => if brake then .phase else .off
  | _ => .off

def State.reactTreads (s : State) (a : Nat) (hold : Bool) : State := s.driveTreads (s.claimed a) (s.reactMode a hold) 0

/-- What the treads do in IDLE (05 R165, R183): as IDLE_MODE has it, but OFF in ISOLATED for leaf and step, and in EGRESS for the leaf (06
R200, R208). -/
def State.idleMode (s : State) (a : Nat) : TMode :=
  let st := (s.door (flightOfAxis a)).st
  let off := (st == .isolated && a % 3 ≠ 2) || (st == .egress && a % 3 = 0)
  if s.axType a = 4 || off || s.parN Par.axisIdleMode a 0 ≠ 1 then .off else .brake

/-- The duty of an energised solenoid (05 R183). -/
def State.holdDuty (s : State) (a : Nat) : Rat :=
  s.parR (if (s.axis a).pullSince.isSome then Par.axisPullDuty else Par.axisHoldDuty) a 0

/-- A write of IDLE_MODE, FAULT_REACT, PULL_DUTY or HOLD_DUTY acts at the next sample on an axis that is in the state they speak of (05
R189). -/
def State.redrive (s : State) (a : Nat) : State :=
  let x := s.axis a
  let differ (m : TMode) : Bool := (s.claimed a).any (fun t => (s.tread t).cmd != m)
  match x.st with
  | .idle => if differ (s.idleMode a) then s.driveTreads (s.claimed a) (s.idleMode a) 0 else s
  | .faultStop => if differ (s.reactMode a x.holdBrake) then s.reactTreads a x.holdBrake else s
  | .hold =>
    if s.axType a = 4 && (s.claimed a).any (fun t => (s.tread t).cmd == .highSide && (s.tread t).duty ≠ s.holdDuty a) then
      s.driveTreads (s.claimed a) .highSide (s.holdDuty a)
    else s
  | _ => s

/-- Microsteps in one electrical period (05 R181). -/
def State.stepPeriodOf (s : State) (a : Nat) : Nat := if s.parN Par.axisStepRes a 0 = 0 then 1024 else 4096

/-- The electrical angle of a stepper in microsteps: that of the last coarse step, less what of it is not out yet (05 R181). -/
def Axis.microAngle (x : Axis) : Int :=
  let left : Int := 256 - (x.microDone : Int)
  if x.stepUp then x.stepAngle - left else x.stepAngle + left

/-- The motion state of an axis after a fault stop; the windings of a stepper stand at the present electrical angle (05 R173, R175). -/
def Axis.faulted (x : Axis) (cause : Nat) (cs : List Nat) (hold : Bool) : Axis :=
  { x with
      st := .faultStop, queue := [], stopping := none, gear := .reset, vel := 0, acc := 0, integ := 0, intD := 0, intQ := 0,
      iCmd := 0, decelHeld := false, alignLeft := 0, learning := false, devRun := 0, speedRun := 0, pullSince := none,
      stepAngle := x.microAngle, microDone := 256, stepStamp := none, stepPeriod := none,
      faultCause := cause, causes := cs, holdBrake := hold, stopped := true, fell := true }

/-- The fault stop of an axis with the causes seen on one sample, lowest code first (05 R173, R174). An axis of type NONE does not
change, and of one already in FAULT_STOP a LEAF only: from an entry to SAFE_HOLD on it brakes whatever its FAULT_REACT (R175). -/
def State.faultStop (s : State) (a : Nat) (cs : List Nat) : State :=
  match cs with
  | [] => s
  | c :: _ =>
    let leafHold := cs.contains 7 && a % 3 = 0
    if s.axType a = 0 || (s.axis a).st == .disabled then s
    else if (s.axis a).st == .faultStop then
      if leafHold && !(s.axis a).holdBrake then (s.modAxis a (fun x => { x with holdBrake := true })).reactTreads a true else s
    else
      let blind := s.blindStepper a && (s.axis a).st.driven
      let s := s.modAxis a (fun x => x.faulted c cs leafHold)
      let s := s.reactTreads a leafHold
      let s := if blind then s.setUncertain a else s
      s.record Evt.axisFaultStop a [word32 c, word32 (causeBits cs)]

/-- The fault stop of every axis that a condition names. -/
def State.faultStopAll (s : State) (p : Nat → Bool) (cause : Nat) : State :=
  s.forEach 36 (fun s a => if p a then s.faultStop a [cause] else s)

/-- Every axis goes to IDLE with its queue empty and gearing disengaged, axes of type NONE to DISABLED (05 R165). FAULT_CAUSE is 0 outside
FAULT_STOP. DESIGN CHOICE (log 76). -/
def State.axisIdle (s : State) (a : Nat) : State :=
  s.modAxis a (fun x => { x with
      st := if s.axType a = 0 then .disabled else .idle
      queue := [], stopping := none, gear := .reset, vel := 0, acc := 0, integ := 0, intD := 0, intQ := 0, iCmd := 0,
      decelHeld := false, alignLeft := 0, learning := false, devRun := 0, speedRun := 0, pullSince := none, faultCause := 0,
      causes := [], holdBrake := false, stopped := false })

/-- Every axis takes the fault stop for the causes that are active on it (05 R173, R174). -/
def State.causeStops (s : State) : State := s.forEach 36 (fun s a => s.faultStop a (s.activeCauses a))

/-- COUNT_INVALID of the feedback port of an axis has set since a state. It is a cause when it sets and not while it stands, since a
search of a reference run moves with it set (05 R174, 06 R214). DEDUCED (log 66). -/
def State.countLost (old s : State) (a : Nat) : Bool :=
  match s.fbPort a with
  | some p => (s.port p).countInvalid && !(old.port p).countInvalid
  | none => false

/-- The fault stops of a command that may have set COUNT_INVALID since the state `old`. -/
def State.causeStopsFrom (s old : State) : State :=
  s.forEach 36 (fun s a =>
    let cs := s.activeCauses a
    s.faultStop a (if State.countLost old s a && !cs.contains 8 then cs ++ [8] else cs))

/-- The axes that a condition names go to IDLE; the commands that wait for their engine are lost with its state. -/
def State.axesIdle (s : State) (p : Nat → Bool) : State :=
  s.forEach 36 (fun s a => if p a then (s.axisIdle a).modAxis a (fun x => { x with inbox := [] }) else s)

/-! ### Braking (05 R169 to R172) -/

/-- Whether an axis with velocity `v` and acceleration `acc`, both in its direction of travel, can come to velocity `vj` within the
distance `dist` at deceleration `d`, of which it uses no more yet; with `sc`, acceleration changes at no more than `j`. The ramp of the
acceleration to zero leads to `v1`; from `v1` the change `u = v1 − vj` takes u/d + d/j, or 2·√(u/j) where `d` is not reached, at the mean
velocity (v1 + vj)/2. An axis that already decelerates is on the ramp that began at `v1`; it has travelled part of it. -/
def brakeWithin (v acc d j : Rat) (sc : Bool) (vj dist : Rat) : Bool :=
  if !sc then
    if v ≤ vj then decide (0 ≤ dist) else decide ((v * v - vj * vj) / (2 * d) ≤ dist)
  else
    let v1 := v + acc * acc / (2 * j)
    if acc < 0 && v ≤ vj then decide (0 ≤ dist)
    else if acc < 0 && v - acc * acc / (2 * j) ≤ vj then decide ((v * v - vj * vj) / (-2 * acc) ≤ dist)
    else
      let shift := if 0 ≤ acc then v * acc / j + acc * acc * acc / (3 * j * j)
        else v1 * acc / j - acc * acc * acc / (6 * j * j)
      let rem := dist - shift
      let u := v1 - vj
      if u ≤ 0 then decide (0 ≤ dist)
      else if d * d / j ≤ u then decide ((v1 + vj) / 2 * (u / d + d / j) ≤ rem)
      else decide (0 ≤ rem) && decide ((v1 + vj) * (v1 + vj) * u / j ≤ rem * rem)

/-- The same for any present acceleration: one that decelerates by `b`, more than `d`, first comes back to `d` at `j`, which takes
(b − d)/j and lowers the velocity by (b² − d²)/(2·j). -/
def brakeFits (v acc d j : Rat) (sc : Bool) (vj dist : Rat) : Bool :=
  let b := -acc
  let t := (b - d) / j
  if sc && decide (d < b) && decide (vj < v - b * b / (2 * j)) then
    brakeWithin (v - (b * b - d * d) / (2 * j)) (-d) d j sc vj (dist - (v * t - b * t * t / 2 + j * t * t * t / 6))
  else brakeWithin v acc d j sc vj dist

/-! ### The profile generator (05 R168, R169) -/

/-- Positions keep a 32-bit fraction (05 R168). -/
def fix32 (q : Rat) : Rat := ((q * 4294967296).floor : Rat) / 4294967296

/-- One 125 µs sample, in seconds. -/
def dt : Rat := 1 / 8000

/-- What the generator needs to know of an axis at a sample: limits after foldback (05 R164, R172). -/
structure Plan where
  vmax : Rat
  accel : Rat
  decel : Rat
  jerk : Rat
  scurve : Bool
  scale : Rat
  limits : Option (Int × Int)
deriving DecidableEq, Repr

def State.planOf (s : State) (a : Nat) (x : Axis) : Plan :=
  let k := s.foldScale (flightOfAxis a)
  { vmax := s.parR Par.axisVmax a 0, accel := s.parR Par.axisAccel a 0 * k, decel := x.decelUse, jerk := x.jerkUse,
    scurve := x.scurve, scale := k
    limits := if s.parB Par.axisLimitEn a 0 && x.referenced then
      some (s.parZ Par.axisLimitNeg a 0, s.parZ Par.axisLimitPos a 0) else none }

/-- The ceiling of a positioned move: its own VMAX, or AXIS.VMAX (05 R168). -/
def Move.ceiling (m : Move) (vmax : Rat) : Rat :=
  match m with
  | .pos _ v => if v = 0 then vmax else v
  | .vel v => absR v

def sgnR (q : Rat) : Rat := if q < 0 then -1 else 1

/-- Where a positioned move comes to rest: at its target, or at the soft limit inside it (05 R179). -/
def Plan.goalOf (p : Plan) (t : Int) : Int :=
  match p.limits with
  | none => t
  | some (lo, hi) => clampZ lo hi t

/-- The velocity at the joint behind a move that ends at `t` in direction `dir` (05 R169 constraint 2). -/
def Plan.jointVel (p : Plan) (t : Int) (dir : Rat) (m : Move) : List Move → Rat
  | [] => 0
  | .vel v :: _ => if v = 0 || sgnR v ≠ dir then 0 else minR (m.ceiling p.vmax) (absR v) * p.scale
  | .pos t' w :: _ =>
    let d := p.goalOf t' - t
    if d = 0 || sgnR (d : Rat) ≠ dir then 0 else minR (m.ceiling p.vmax) (Move.ceiling (.pos t' w) p.vmax) * p.scale

/-- What the rest of the queue asks of the axis at `pos` in direction `dir`: at each distance ahead no more than a velocity (05 R169). The
queue binds it no further than the first joint at rest. -/
def Plan.marks (p : Plan) (pos dir : Rat) : List Move → List (Rat × Rat)
  | [] => []
  | .vel _ :: rest => p.marks pos dir rest
  | .pos t w :: rest =>
    let goal := p.goalOf t
    let dist := dir * ((goal : Rat) - pos)
    if dist < 0 then []
    else
      let vj := p.jointVel goal dir (.pos t w) rest
      (dist, vj) :: (if vj = 0 then [] else p.marks pos dir rest)

/-- Distance to the soft limit in a direction (05 R179). -/
def Plan.limitRem (p : Plan) (pos dir : Rat) : Option Rat :=
  p.limits.map (fun l => if dir < 0 then pos - l.1 else (l.2 : Rat) - pos)

def Plan.limitMark (p : Plan) (pos dir : Rat) : List (Rat × Rat) :=
  match p.limitRem pos dir with
  | none => []
  | some r => [(r, 0)]

/-- The least acceleration of the next sample: DECEL; in SCURVE an acceleration beyond a DECEL that has been lowered comes back to it at
JERK (05 R168, R172). -/
def Plan.accMin (p : Plan) (acc : Rat) : Rat :=
  if p.scurve && decide (acc < -p.decel) then minR (-p.decel) (acc + p.jerk * dt) else -p.decel

/-- The greatest acceleration of the next sample: ACCEL; in SCURVE one beyond an ACCEL that has been lowered, or scaled by the foldback,
comes back to it at JERK (05 R168, R172). -/
def Plan.accMax (p : Plan) (acc : Rat) : Rat :=
  if p.scurve && decide (p.accel < acc) then maxR p.accel (acc - p.jerk * dt) else p.accel

/-- The least velocity of the next sample: DECEL, and in SCURVE the change of acceleration that JERK allows (05 R168). -/
def Plan.low (p : Plan) (u acc : Rat) : Rat :=
  let lo := u + p.accMin acc * dt
  if p.scurve then maxR lo (u + (acc - p.jerk * dt) * dt) else lo

/-- The next velocity of a ramp from velocity `u` and acceleration `acc` to the velocity `goal`: at most ACCEL and DECEL, and in SCURVE
with an acceleration that changes at no more than JERK and can come back to 0 before `goal` is passed (05 R168). -/
def Plan.ramp (p : Plan) (u acc goal : Rat) : Rat :=
  let lo := u + p.accMin acc * dt
  let hi := u + p.accMax acc * dt
  let v := clampR lo hi goal
  if p.scurve then
    let jl := u + (acc - p.jerk * dt) * dt
    let jh := u + (acc + p.jerk * dt) * dt
    let w := clampR jl jh v
    let a := (w - u) / dt
    let back := if absR a ≤ p.jerk * dt then w else w + (if a < 0 then -(a * a) else a * a) / (2 * p.jerk)
    let fits := if a < 0 then decide (goal ≤ back) else decide (back ≤ goal)
    clampR lo hi (if a = 0 || fits then w else clampR jl jh u)
  else v

/-- After a sample at velocity `v` every mark can still be met (05 R169). -/
def Plan.meets (p : Plan) (u : Rat) (ms : List (Rat × Rat)) (v : Rat) : Bool :=
  ms.all (fun m => brakeFits v ((v - u) / dt) p.decel p.jerk p.scurve m.2 (m.1 - v * dt))

/-- The largest velocity between `lo` and `hi` that `ok` admits, to a 65 536th of their distance; `lo` where it admits none. -/
def bisect (ok : Rat → Bool) : Nat → Rat → Rat → Rat
  | 0, lo, _ => lo
  | n + 1, lo, hi =>
    let mid := (lo + hi) / 2
    if ok mid then bisect ok n mid hi else bisect ok n lo mid

/-- The next velocity under the marks: the velocity `v` where it meets them, else the largest below it that does, else as much braking as
`Plan.low` gives (05 R169). DESIGN CHOICE (log 7). -/
def Plan.brakeFor (p : Plan) (v u acc : Rat) (ms : List (Rat × Rat)) : Rat :=
  let low := maxR 0 (minR v (p.low u acc))
  if p.meets u ms v then v else bisect (p.meets u ms) 16 low v

/-- The target is reached within this sample by an axis that can be at rest at its end: DECEL, and in SCURVE JERK, bring it to rest in
the sample; or what is left is below 2^-28 of a count and the sample moves it by less than the last bit of its position (05 R168).
DESIGN CHOICE (log 7). -/
def Plan.arrives (p : Plan) (u acc rem : Rat) : Bool :=
  decide (0 ≤ rem) && ((decide (rem ≤ (u + p.accel * dt) * dt) && decide (rem ≤ p.decel * dt * dt) && decide (u ≤ p.decel * dt) &&
    (!p.scurve || (decide (u ≤ p.jerk * dt * dt) && decide (absR acc ≤ 2 * p.jerk * dt)))) ||
      (decide (rem * 268435456 ≤ 1) && decide (u * dt * 4294967296 ≤ 1)))

/-- The next velocity of a positioned move: up to the ceiling, and braking for the marks (05 R169). An axis that cruises after a rise of
DECEL keeps its velocity until it must brake, with the acceleration brought to 0 at JERK first (R172). -/
def Plan.nextVel (p : Plan) (cruise : Bool) (u acc ceil : Rat) (ms : List (Rat × Rat)) : Rat :=
  p.brakeFor (p.ramp u acc (if cruise then minR u ceil else ceil)) u acc ms

/-- The start of the next move of the queue: DECEL, JERK and PROFILE as they stand, DECEL_HELD cleared (05 R172). -/
def State.startMove (s : State) (a : Nat) (x : Axis) : Axis :=
  { x with
      decelUse := s.parR Par.axisDecel a 0, jerkUse := s.parR Par.axisJerk a 0,
      scurve := s.parB Par.axisProfile a 0, decelHeld := false, cruise := false }

/-- The axis at rest with nothing queued enters HOLD (05 R165). Gearing is over, and GEAR_STAGE reads 0. DESIGN CHOICE (log 76). -/
def Axis.toHold (x : Axis) (tick : Nat) : Axis :=
  { x with st := .hold, queue := [], stopping := none, vel := 0, acc := 0, holdSince := tick, gear := .reset }

/-- A move is complete: the next one starts, or the axis enters HOLD when at rest (05 R165, R168, R179). -/
def State.nextMove (s : State) (a : Nat) (x : Axis) : Axis :=
  match x.queue with
  | _ :: m :: q => s.startMove a { x with queue := m :: q }
  | _ => if x.vel = 0 then x.toHold s.stamp else x

/-- One sample of motion at a velocity. -/
def Axis.moveAt (x : Axis) (v : Rat) : Axis := { x with vel := v, acc := (v - x.vel) / dt, posCmd := fix32 (x.posCmd + v * dt) }

/-- One sample of a positioned move (05 R168, R169). An axis that cannot stop at the target passes it and returns (R170).
DESIGN CHOICE (log 7). -/
def State.stepPos (s : State) (a : Nat) (x : Axis) (t : Int) (m : Move) (rest : List Move) : Axis :=
  let p := s.planOf a x
  let goal := p.goalOf t
  let gap : Rat := (goal : Rat) - x.posCmd
  let dir := if gap = 0 then sgnR x.vel else sgnR gap
  let u := dir * x.vel
  if u < 0 then x.moveAt (-(dir * p.ramp (-u) (-(dir * x.acc)) 0))
  else
    let rem := absR gap
    let vj := p.jointVel goal dir m rest
    let v := p.nextVel x.cruise u (dir * x.acc) (m.ceiling p.vmax * p.scale)
      (p.marks x.posCmd dir (m :: rest) ++ p.limitMark x.posCmd dir)
    if (vj = 0 && p.arrives u (dir * x.acc) rem) || (vj ≠ 0 && decide (rem ≤ v * dt) && decide (u ≤ vj + p.decel * dt)) then
      let w := minR v vj
      s.nextMove a { x with posCmd := goal, vel := dir * w, acc := if w = 0 then 0 else dir * ((w - u) / dt) }
    else x.moveAt (dir * v)

/-- One sample of a ramp to a velocity, which after a rise of DECEL keeps what it has until it must brake (R172); with soft limits, to rest exactly on the limit (05 R169, R179). Where the rest of the queue asks for
braking before the velocity is reached, the joint is lowered: the move ends there (R169 constraint 3). DESIGN CHOICE (log 7). -/
def State.stepVel (s : State) (a : Nat) (x : Axis) (w : Rat) (rest : List Move) : Axis :=
  let p := s.planOf a x
  let w' := w * p.scale
  let same := decide (0 ≤ x.vel * w')
  let dir := if x.vel = 0 then sgnR w' else sgnR x.vel
  let u := absR x.vel
  let v := p.ramp u (dir * x.acc) (if !same then 0 else if x.cruise then minR u (absR w') else absR w')
  let ahead := if same then p.marks x.posCmd dir rest else []
  let stop := p.limitRem x.posCmd dir
  let r := stop.getD 0
  if stop.isSome && p.arrives u (dir * x.acc) r then
    s.nextMove a { x with posCmd := x.posCmd + dir * r, vel := 0, acc := 0, atLimit := true }
  else
    let v' := p.brakeFor v u (dir * x.acc) (ahead ++ p.limitMark x.posCmd dir)
    let x' := x.moveAt (dir * v')
    if x'.vel = w' || !p.meets u ahead v || (stop.isSome && r < 0 && x'.vel = 0) then s.nextMove a x' else x'

/-- One sample of braking to rest (05 R171): with JERK in SCURVE for a STOP, and with unlimited jerk for a QUICK_STOP. -/
def State.stepBrake (s : State) (a : Nat) (x : Axis) (k : StopKind) : Axis :=
  let p := s.planOf a x
  let dir := sgnR x.vel
  let x' := x.moveAt (dir * Plan.ramp { p with scurve := k = .stop && p.scurve } (absR x.vel) (dir * x.acc) 0)
  if x'.vel = 0 then x'.toHold s.stamp else x'

/-! ### Gearing (05 R184 to R188) -/

/-- The program cycle in samples; with no program running, which the spec does not cover, of 1 ms. DESIGN CHOICE (log 89). -/
def State.cycleSamples (s : State) : Nat := 8 * (match s.prog.running with | some c => c.cycleMs | none => 1)

/-- A difference of 32-bit counters, from −2^31 on: a counter's wrap loses no position (04 R130). -/
def wrapDiff (q : Rat) : Rat := q - 4294967296 * (((q + 2147483648) / 4294967296).floor : Rat)

/-- The master's position as its counter or its channel shows it; a ring master is extrapolated over at most two program cycles, and stands
beyond (05 R188). -/
def State.masterRaw (s : State) (g : Gear) : Rat :=
  if g.src = 1 then (s.port g.master).count.toInt
  else match s.ring.masters.find? (fun m => m.ch = g.master) with
    | none => g.lastMaster
    | some m =>
      let age := s.sample - m.stamp
      if 2 * s.cycleSamples < age then g.lastMaster
      else (m.pos : Rat) + m.speed * ((s.sample : Rat) - (m.stamp : Rat)) * dt

/-- The master's position on this sample, run on over the wraps of its counter, with corrections and counter writes taken out. -/
def State.masterPos (s : State) (g : Gear) : Rat :=
  g.lastMaster + wrapDiff (s.masterRaw g - g.removed - g.lastMaster)

/-- The distance through a blend of length `len` when the master has moved `q` counts into it: the ratio moves linearly. -/
def blendDist (b : Blend) (q : Rat) : Rat := b.old * q + (b.new - b.old) * q * q / (2 * (b.len : Rat))

/-- How far into its blend the master has moved. -/
def Gear.into (g : Gear) (b : Blend) (m : Rat) : Rat := if b.dirUp then m - g.mBase else g.mBase - m

/-- The gear law's output for a master position (05 R185, R186): through a blend on its parabola; on either side of it with the new ratio,
since a fired entry does not revert. DESIGN CHOICE (log 76). -/
def Gear.output (g : Gear) (m : Rat) : Rat :=
  match g.blend with
  | none => g.sBase + (m - g.mBase) * g.ratio
  | some b =>
    let q := g.into b m
    let sg : Rat := if b.dirUp then 1 else -1
    let past := if q < 0 then q else if (b.len : Rat) < q then q - b.len else 0
    g.sBase + sg * (blendDist b (clampR 0 (b.len : Rat) q) + past * b.new)

/-- The next entry takes effect at a master position: the law is re-based there, and its blend begins (05 R186). -/
def Gear.fire (g : Gear) (at' : Rat) : Gear × Option Nat :=
  match g.entries with
  | [] => (g, none)
  | e :: es =>
    let still := g.blendLen = 0
    ({ g with
        sBase := g.sBase + (at' - g.mBase) * g.ratio, mBase := at', entries := es, waiting := false, stage := g.stage + 1
        ratio := if still then e.ratio else g.ratio
        blend := if still then none else some ⟨g.ratio, e.ratio, g.blendLen, e.up⟩ }, some e.idx)

/-- The master has reached or passed the next entry, moving in its direction (05 R186). -/
def Gear.reached (g : Gear) (m : Rat) : Bool :=
  match g.entries with
  | [] => false
  | e :: _ =>
    if e.up then decide ((e.pos : Rat) ≤ m) && decide (g.lastMaster < m) else decide (m ≤ e.pos) && decide (m < g.lastMaster)

/-- The blend ends: the law is re-based at its end with the new ratio (05 R186). -/
def Gear.endBlend (g : Gear) (b : Blend) : Gear :=
  let sg : Rat := if b.dirUp then 1 else -1
  { g with mBase := g.mBase + sg * b.len, sBase := g.sBase + sg * blendDist b b.len, ratio := b.new, blend := none }

/-- What becomes of the schedule on a sample: blends that end, entries that fire. An entry reached during a blend waits for its end, and its
own blend is measured from there (05 R186). The count bounds the rounds: four entries, each fired and blended. -/
def Gear.settle (m : Rat) : Nat → Gear → List Nat → Gear × List Nat
  | 0, g, fired => (g, fired)
  | n + 1, g, fired =>
    match g.blend with
    | none => if g.reached m then Gear.settle m n (g.fire m).1 (fired ++ (g.fire m).2.toList) else (g, fired)
    | some b =>
      let g := { g with waiting := g.waiting || g.reached m }
      if g.into b m < (b.len : Rat) then (g, fired)
      else
        let g := g.endBlend b
        if g.waiting then Gear.settle m n (g.fire g.mBase).1 (fired ++ (g.fire g.mBase).2.toList)
        else Gear.settle m n g fired

/-- One sample of a geared axis: schedule, blend and law; the entries that fired. -/
def State.stepGear (s : State) (x : Axis) : Axis × List Nat :=
  let m := s.masterPos x.gear
  let (g, fired) := Gear.settle m 9 x.gear []
  let p := fix32 (g.output m)
  ({ x with gear := { g with lastMaster := m }, posCmd := p, vel := (p - x.posCmd) / dt, acc := 0 }, fired)

/-- The enabled entries of a schedule, from its four parameter rows as `get` reads them (05 R186). -/
def gearEntries (get : ParRow → Nat → BitVec 32) (pos num den cfg : ParRow) : List GearEntry :=
  (List.range 4).filterMap (fun k =>
    let c := get cfg k
    if wbit c 0 then
      some ⟨k, (get pos k).toInt, ((get num k).toInt : Rat) / ((get den k).toNat : Rat), wfield c 2 1 = 1⟩
    else none)

/-- Engage gearing with a ratio, a blend length and a schedule (05 R185). -/
def State.engage (s : State) (a src master : Nat) (ratio : Rat) (blend : Nat) (entries : List GearEntry) : State :=
  s.modAxis a (fun x =>
    let g : Gear := { Gear.reset with src := src, master := master }
    let m := s.masterRaw g
    { x with
        st := .moving, queue := [], vel := 0, acc := 0, overshoot := false, decelUse := 0, gear :=
      { g with
          geared := true, m0 := m, s0 := x.posCmd, mBase := m, sBase := x.posCmd, ratio := ratio,
          blendLen := blend, entries := entries, lastMaster := m } })

/-- The master of an axis is at standstill (05 R185). -/
def State.masterStill (s : State) (a : Nat) : Bool :=
  match s.parN Par.axisGearSrc a 0 with
  | 1 => !(s.port (s.parN Par.axisGearMaster a 0)).moving
  | 2 => match s.ring.masters.find? (fun m => m.ch = s.parN Par.axisGearMaster a 0) with
    | none => false
    | some m => decide (m.speed = 0)
  | _ => false

/-! ### Motion commands (05 R165 to R171, R183, R185, R187) -/

/-- Commutation is established or not needed (05 R159, R165). -/
def State.commReady (s : State) (a : Nat) : Bool :=
  s.axType a ≠ 1 || (s.axis a).commOk || s.parN Par.axisComm a 0 = 2

/-- The reference of an ABSOLUTE commutation: the count at which the encoder's own position is 0 (05 R158, R159). DEDUCED (log 81). -/
def State.absoluteRef (s : State) (a : Nat) : Int :=
  match s.fbPort a with
  | some p => (s.port p).count.toInt - (((s.port p).ssiLast.getD 0).toNat : Int)
  | none => 0

/-- The axis starts to move: ALIGNING first where commutation is not established (05 R165). The treads go to PHASE, except in the ALIGNING of
a HALL axis, which drives none. -/
def State.energise (s : State) (a : Nat) : State :=
  let ready := s.commReady a
  let hall := s.parN Par.axisComm a 0 = 1
  let abs := s.axType a = 1 && s.parN Par.axisComm a 0 = 2
  let s := s.modAxis a (fun x => { x with
      st := if ready then .moving else .aligning
      commOk := x.commOk || abs, countRef := if abs && !x.commOk then s.absoluteRef a else x.countRef
      alignLeft := if ready then 0 else if hall then 1 else 160
      faultCause := 0, causes := [], holdBrake := false, stopping := none
      integ := if x.st = .hold || x.st = .moving then x.integ else 0 })
  s.driveTreads (s.claimed a) (if ready || !hall then .phase else .off) 0

/-- The end of the last queued move; none when it is a velocity move (05 R166). -/
def lastTarget (x : Axis) : Option Int :=
  match x.queue.getLast? with
  | none => some x.posCmd.floor
  | some (.pos t _) => some t
  | some (.vel _) => none

/-- A positioned target or a velocity within the bounds of 05 R166. DEDUCED (log 34). -/
def State.moveInRange (s : State) (a : Nat) (m : Move) : Bool :=
  let ceil := s.parR Par.axisOverspeed a 0
  match m with
  | .pos t v =>
    (!s.parB Par.axisLimitEn a 0 || (decide (s.parZ Par.axisLimitNeg a 0 ≤ t) && decide (t ≤ s.parZ Par.axisLimitPos a 0))) &&
      decide ((t - (s.axis a).posCmd.floor).natAbs ≤ 1073741824) && decide (0 ≤ v) && decide (v ≤ ceil)
  | .vel v => decide (absR v ≤ ceil)

/-- A REPLACE whose target cannot be reached without reversing (05 R170). -/
def State.overshoots (s : State) (a : Nat) (m : Move) : Bool :=
  let x := s.axis a
  match m with
  | .vel _ => false
  | .pos t _ =>
    let gap : Rat := (t : Rat) - x.posCmd
    if x.vel = 0 then false
    else if sgnR x.vel ≠ sgnR gap || gap = 0 then true
    else !brakeFits (absR x.vel) (sgnR x.vel * x.acc) (s.parR Par.axisDecel a 0) (s.parR Par.axisJerk a 0)
      (s.parB Par.axisProfile a 0) 0 (absR gap)

/-- Queue an accepted move (05 R168 to R170). -/
def State.queueMove (s : State) (a : Nat) (m : Move) (append : Bool) : State :=
  let past := !append && s.overshoots a m
  let was := s.axis a
  let s := s.modAxis a (fun x => { x with queue := if append then x.queue ++ [m] else [m], overshoot := past, cruise := false })
  let s := if append && !was.queue.isEmpty then s else s.modAxis a (fun x => s.startMove a x)
  let s := if was.st = .moving then s else s.energise a
  s.recordIf past Evt.profileOvershoot a []

/-- A command is STOP, QUICK_STOP or DEENERGIZE: judged only against NOT_PRESENT and OWNED (05 R166). -/
def AxCmd.isStop : AxCmd → Bool
  | .stop | .quickStop | .deenergize => true
  | _ => false

/-- The command applies to the axis's type (05 R166, R183). -/
def State.applies (s : State) (a : Nat) (c : AxCmd) : Bool :=
  match c with
  | .energize | .deenergize => s.axType a = 4
  | .stop | .quickStop | .release => s.axType a ≠ 0
  | .commLearn => s.axType a = 1
  | _ => s.isPhase a

/-- The slave of a GEAR_ENGAGE is ready: in IDLE or HOLD, its queue empty, its steps its own (05 R180, R185). -/
def State.mayEngage (s : State) (a : Nat) : Bool :=
  let x := s.axis a
  (x.st = .idle || x.st = .hold) && x.queue.isEmpty && !(s.axType a = 3 && s.parN Par.axisStepSrc a 0 = 1)

/-- The state conditions of a command (05 R166): true where it answers STATE. -/
def State.refusesState (s : State) (a : Nat) (sv : Bool) (c : AxCmd) : Bool :=
  let x := s.axis a
  if x.st = .disabled || !s.applies a c then true
  else if c.isStop then false
  else
    let base := x.stopped || !(s.activeCauses a).isEmpty || x.st = .stopping || x.st = .aligning || !s.flightEnabled (flightOfAxis a)
    let ext := s.axType a = 3 && s.parN Par.axisStepSrc a 0 = 1
    let mv := base || x.gear.geared || ext
    let unref := !x.referenced || x.posUncertain
    match c with
    | .moveAbs _ _ _ => mv || unref
    | .moveRel _ _ app => mv || unref || (app && (lastTarget x).isNone)
    | .moveVel _ _ => mv
    | .release => base || x.st = .moving
    | .gearEngage => base || !s.mayEngage a || !s.masterStill a
    | .gearLaw p _ _ _ => base || !s.mayEngage a || (s.port p).moving
    | .gearDisengage => base || ext
    | .energize => base || (a % 3 = 2 && !(s.fsafe (flightOfAxis a)).permission)
    | .commLearn => base || s.mode != .maintenance || !sv
    | _ => false

/-- The move that a move command carries; MOVE_REL counts from the end of the queue or from POS_CMD (05 R166). -/
def Axis.moveOf (x : Axis) : AxCmd → Option (Move × Bool)
  | .moveAbs t v app => some (.pos t v, app)
  | .moveRel d v app => some (.pos ((if app then (lastTarget x).getD 0 else x.posCmd.floor) + d) v, app)
  | .moveVel v app => some (.vel v, app)
  | _ => none

/-- The axis at rest leaves HOLD or FAULT_STOP for IDLE (05 R165). -/
def State.toIdle (s : State) (a : Nat) : State :=
  let s := s.axisIdle a
  s.driveTreads (s.claimed a) (s.idleMode a) 0

/-- STOP and QUICK_STOP on an axis that moves (05 R171, R187). A STOP during a QUICK_STOP is ignored; a solenoid is de-energised. In ALIGNING
they lead to HOLD, they end a COMM_LEARN without an angle, and DECEL_HELD clears with the move that they end. DESIGN CHOICE (log 76). -/
def State.brakeAxis (s : State) (a : Nat) (k : StopKind) : State :=
  let x := s.axis a
  if s.axType a = 4 then if x.st = .hold then s.toIdle a else s
  else match x.st with
    | .moving | .stopping =>
      if k = .stop && x.stopping = some .quick then s
      else
        let d := match k with
          | .stop => maxR (s.parR Par.axisDecel a 0) x.decelUse
          | .quick => s.parR Par.axisQstopDecel a 0
        let x' := { x with
            st := .stopping, queue := [], stopping := some k, decelUse := d, decelHeld := false, learning := false,
            scurve := s.parB Par.axisProfile a 0, jerkUse := s.parR Par.axisJerk a 0,
            gear := { x.gear with entries := [], blend := none } }
        s.modAxis a (fun _ => if x.vel = 0 then x'.toHold s.stamp else x')
    | .aligning => (s.modAxis a (fun x => x.toHold s.stamp))
    | _ => s

/-- Energise a solenoid (05 R183). -/
def State.energizeSol (s : State) (a : Nat) : State :=
  if (s.axis a).st = .hold then s
  else
    let s := s.modAxis a (fun x => { x with
        st := .hold, holdSince := s.stamp, pullSince := some s.stamp, faultCause := 0, causes := [], holdBrake := false })
    s.driveTreads (s.claimed a) .highSide (s.parR Par.axisPullDuty a 0)

/-- OVERSHOOT clears at an accepted command (05 R170). -/
def State.accepted (s : State) (a : Nat) : State := s.modAxis a (fun x => { x with overshoot := false })

/-- A motion command reaches the engine: its status and its effect (05 R166). `owned` says that another source owns the axis.
DEDUCED (log 34). COMM_LEARN goes to MOVING at once and drops what is queued. DESIGN CHOICE (log 76). -/
def State.axisCommand (s : State) (a : Nat) (owned sv : Bool) (c : AxCmd) : Nat × State :=
  if s.nAxes ≤ a then (stNotPresent, s)
  else if owned then (stOwned, s)
  else if s.refusesState a sv c then (stState, s)
  else match c with
    | .stop => (stOK, (s.brakeAxis a .stop).accepted a)
    | .quickStop => (stOK, (s.brakeAxis a .quick).accepted a)
    | .deenergize => (stOK, if (s.axis a).st = .hold then s.toIdle a else s)
    | .release => (stOK, (if (s.axis a).st = .hold || (s.axis a).st = .faultStop then s.toIdle a else s).accepted a)
    | .energize => (stOK, s.energizeSol a)
    | .gearDisengage => (stOK, (if (s.axis a).gear.geared then s.brakeAxis a .stop else s).accepted a)
    | .gearLaw p ratio blend es => (stOK, (s.engage a 1 p ratio blend es).energise a)
    | .gearEngage =>
      let s := s.engage a (s.parN Par.axisGearSrc a 0) (s.parN Par.axisGearMaster a 0)
        ((s.parZ Par.axisGearNum a 0 : Rat) / (s.parN Par.axisGearDen a 0 : Rat))
        (s.parN Par.axisGearBlend a 0)
        (gearEntries (fun r k => s.par r a k) Par.axisGearChgPos Par.axisGearChgNum Par.axisGearChgDen Par.axisGearChgCfg)
      (stOK, s.energise a)
    | .commLearn =>
      let s := s.driveTreads (s.claimed a) .phase 0
      (stOK, s.modAxis a (fun x => { x with
          st := .moving, queue := [], gear := .reset, vel := 0, acc := 0, learning := true, faultCause := 0, causes := []
          holdBrake := false, overshoot := false }))
    | _ =>
      match (s.axis a).moveOf c with
      | none => (stState, s)
      | some (m, app) =>
        if !s.moveInRange a m then (stRange, s)
        else if app && 8 ≤ (s.axis a).queue.length then (stBusy, s)
        else (stOK, s.queueMove a m app)

/-! ### Commands on their way (05 R161, R167) -/

/-- A command arrives: the engine applies it at step 1 of the next sample. -/
def State.post (s : State) (a : Nat) (c : AxCmd) (who : AxFrom) : State :=
  s.modAxis a (fun x => { x with inbox := x.inbox ++ [⟨c, who⟩] })

/-- An axis command of a sequencer, or of what ends a program or a session; its status is not used (06 R192). -/
def State.seqCmd (s : State) (a : Nat) (c : AxCmd) : State := s.post a c .nobody

/-! ### Loops and checks of one sample (05 R161, R163, R164, R178, R179) -/

/-- The rate of an external stepper's coarse steps: while the last step lies no further back than INTERP_MAX (05 R179, R181). -/
def State.extRate (s : State) (a : Nat) (x : Axis) : Rat :=
  match x.stepStamp, x.stepPeriod with
  | some t, some p =>
    if p = 0 || t + 400000 * s.parN Par.axisInterpMax a 0 < s.sample * 50000 then 0
    else (if x.stepUp then 1 else -1) * 400000000 / (p : Rat)
  | _, _ => 0

/-- The speed of an axis in its own counts (05 R179). -/
def State.axisSpeed (s : State) (a : Nat) : Rat :=
  match s.fbPort a with
  | some p =>
    let v := (s.port p).speed
    if s.axType a = 3 then v * (s.parZ Par.axisEncNum a 0 : Rat) / (s.parN Par.axisEncDen a 0 : Rat) else v
  | none => if s.axType a = 3 && s.parN Par.axisStepSrc a 0 = 1 then s.extRate a (s.axis a) else (s.axis a).vel

/-- I_MAX under foldback (01 R23, 05 R164). -/
def State.iScaled (s : State) (a : Nat) : Rat := s.parR Par.axisIMax a 0 * s.foldScale (flightOfAxis a)

/-- The current clamp (05 R164): I_MAX, foldback, half while commutation is coarse. -/
def State.iEff (s : State) (a : Nat) : Rat := if (s.axis a).commCoarse then s.iScaled a / 2 else s.iScaled a

/-- The low-pass filter of the measured speed with the time constant VEL_FILT, as its difference equation on the sample grid (05 R163).
DESIGN CHOICE (log 8). -/
def State.lowPass (s : State) (a : Nat) (y v : Rat) : Rat :=
  let tau := s.parR Par.axisVelFilt a 0 / 1000
  fix32 (y + (v - y) * dt / (tau + dt))

/-- The position and speed loops (05 R163) with the clamp `lim`; AXIS.VEL is the filtered speed in every state (R189). -/
def State.loops (s : State) (a : Nat) (lim : Rat) (x : Axis) : Axis :=
  let x := { x with velF := s.lowPass a x.velF (s.axisSpeed a) }
  if s.axType a = 1 || s.axType a = 2 then
    match x.st with
    | .hold | .moving | .stopping =>
      let vcmd := s.parR Par.axisPosKp a 0 * (x.posCmd - (x.pos : Rat)) + s.parR Par.axisVelFf a 0 * x.vel
      let e := vcmd - x.velF
      let integ := x.integ + s.parR Par.axisVelKi a 0 * e * dt
      let i := s.parR Par.axisVelKp a 0 * e + integ + s.parR Par.axisAccFf a 0 * x.accCmd
      { x with integ := integ, iCmd := clampR (-lim) lim i }
    | _ => { x with iCmd := 0 }
  else x

/-- AXIS.DEV: POS_CMD − POS, in counts (05 R178). -/
def Axis.dev (x : Axis) : Int := x.posCmd.floor - x.pos

/-- The deviation and overspeed counts of one sample (05 R178, R179): they run in every state but IDLE, DISABLED, FAULT_STOP. -/
def State.axisChecks (s : State) (a : Nat) (x : Axis) : Axis :=
  if x.st.driven && s.isPhase a then
    let devRun := if s.workingEncoder a && decide (s.parN Par.axisDevWindow a 0 < x.dev.natAbs) then x.devRun + 1 else 0
    let fast := decide (s.parR Par.axisOverspeed a 0 < absR (s.axisSpeed a))
    { x with devRun := devRun, speedRun := if fast then x.speedRun + 1 else 0 }
  else { x with devRun := 0, speedRun := 0 }

/-- POS_CMD of a geared or externally stepped axis lies past a soft limit (05 R179). -/
def State.pastLimit (s : State) (a : Nat) (x : Axis) : Bool :=
  (x.gear.geared || (s.axType a = 3 && s.parN Par.axisStepSrc a 0 = 1)) && s.parB Par.axisLimitEn a 0 && x.referenced && x.st.driven &&
    (decide (x.posCmd < (s.parZ Par.axisLimitNeg a 0 : Rat)) || decide ((s.parZ Par.axisLimitPos a 0 : Rat) < x.posCmd))

/-- AT_SOFT_LIMIT: POS_CMD equals a limit (05 R179). -/
def State.atLimitNow (s : State) (a : Nat) (x : Axis) : Bool :=
  s.parB Par.axisLimitEn a 0 && x.referenced &&
    (decide (x.posCmd = (s.parZ Par.axisLimitNeg a 0 : Rat)) || decide (x.posCmd = (s.parZ Par.axisLimitPos a 0 : Rat)))

/-- The deviation check of an axis is due (05 R178). -/
def State.devDue (s : State) (a : Nat) : Bool :=
  let x := s.axis a
  x.st.driven && x.devRun ≠ 0 && decide (s.parN Par.axisDevTime a 0 ≤ x.devRun)

/-- The overspeed check of an axis is due (05 R179). -/
def State.fastDue (s : State) (a : Nat) : Bool := (s.axis a).st.driven && decide (8 ≤ (s.axis a).speedRun)

/-- The master of a geared axis is lost (05 R188): a local port with a flag set; a ring channel not received in two program cycles, or
whose extrapolation would pass two cycles. -/
def State.masterLost (s : State) (a : Nat) : Bool :=
  let g := (s.axis a).gear
  g.geared &&
    if g.src = 1 then
      let p := s.port g.master
      p.countInvalid || p.lineFault || p.ssiFault
    else match s.ring.masters.find? (fun m => m.ch = g.master) with
      | none => true
      | some m => decide (2 ≤ m.missed) || decide (2 * s.cycleSamples < s.sample - m.stamp)

/-- The checks of a sample stop an axis: every one that is due is recorded and is a cause of the one fault stop (05 R174, R178, R179,
R188). -/
def State.lateStop (s : State) (a : Nat) : State :=
  let dev := s.devDue a
  let fast := s.fastDue a
  let past := s.pastLimit a (s.axis a)
  let lost := s.masterLost a
  let x := s.axis a
  let t := s.recordIf dev Evt.axisDeviation a [wordZ x.dev]
  let t := t.recordIf fast Evt.axisOverspeed a [toReal32 (absR (s.axisSpeed a))]
  let t := t.recordIf past Evt.axisSoftLimit a []
  let t := t.recordIf lost Evt.gearMasterLost a []
  let t := t.faultStop a ((if dev then [9] else []) ++ (if fast then [10] else []) ++ (if past then [11] else []) ++ (if lost then [12] else []))
  t.modAxis a (fun x => { x with stopped := false })

/-- What the sample has found of an axis stops it: it has taken a fault stop, or one of its checks is due (05 R174, R178, R179, R188). -/
def State.lateDue (s : State) (a : Nat) : Bool :=
  (s.axis a).st == .faultStop || s.devDue a || s.fastDue a || s.masterLost a

/-- The generator or the gear law for one sample; the schedule entries that fired. -/
def State.advance (s : State) (a : Nat) (x : Axis) : Axis × List Nat :=
  match x.st with
  | .moving =>
    if x.gear.geared then s.stepGear x
    else match x.queue with
      | [] => (x, [])
      | .pos t v :: q => (s.stepPos a x t (.pos t v) q, [])
      | .vel w :: q => (s.stepVel a x w q, [])
  | .stopping => (s.stepBrake a x (x.stopping.getD .stop), [])
  | _ => (x, [])

end Sys2Proof.Machine
end

