-- ==== Sys2Proof/Machine/InputOps.lean ====
section
/-! DEFINITION. Sense lines and position ports (04): one sample of a line, what a counted edge does, writes to the counter and to the
compare list. -/

namespace Sys2Proof.Machine

/-! ### Sense lines (04 R116 to R127) -/

def State.lineUse (s : State) (l : Nat) : Nat := s.parN Par.senseUse l 0

def State.lineMode (s : State) (l : Nat) : Nat := s.parN Par.senseMode l 0

/-- A line that is in use, whose events are recorded (04 R126, R152). -/
def State.lineUsed (s : State) (l : Nat) : Bool := s.hasLine l && s.lineUse l ≠ 0

/-- N of 04 R122. -/
def State.debounceN (s : State) (l : Nat) : Nat := (s.parR Par.senseDebounce l 0 * 8).floor.toNat

/-- The effective threshold of a receiver (04 R117, R118). -/
def State.teffOf (s : State) (l : Nat) (r : Receiver) : Rat :=
  if s.parB Par.senseTrack l 0 then r.teff else s.parR Par.senseThresh l 0

/-- One receiver of a line takes the state that it has seen on N + 1 consecutive samples (04 R122, R123). -/
def State.debounced (s : State) (l : Nat) (r : Receiver) : Option Receiver :=
  match r.elec with
  | none => none
  | some el =>
    if s.debounceN l + 1 ≤ r.run && (!r.valid || r.deb != el) then some { r with deb := el, valid := true, sinceChange := 0 }
    else none

/-- A receiver of a DIGITAL line with the state that the last sample has made it take: what reads it on that sample finds the new state,
whether DEBOUNCED_CHANGE has come yet or not (04 R122). DEDUCED (log 26). -/
def State.settled (s : State) (l : Nat) (r : Receiver) : Receiver := if s.lineMode l = 0 then (s.debounced l r).getD r else r

/-- The logical state that a receiver delivers: 0 while not valid or on an UNUSED line (04 R117, R123, R126). -/
def State.logical (s : State) (l : Nat) (r : Receiver) : Bool :=
  let r := s.settled l r
  s.lineUsed l && r.valid && (r.deb != s.parB Par.senseInvert l 0)

/-- The primary logical state of a line: what Hall A, the sequencers and the program see. -/
def State.active (s : State) (l : Nat) : Bool := s.logical l (s.sense l).p

/-- Both primary states are active, and both are inactive (06 R201). -/
def State.both (s : State) (l : Nat) : Bool := s.active l && s.active (l + 1)

def State.neither (s : State) (l : Nat) : Bool := !s.active l && !s.active (l + 1)

/-- The comparison of 04 R117. -/
def compareLevel (teff hyst v : Rat) (was : Option Bool) : Bool :=
  if teff ≤ v then true else if v < teff - hyst then false else was.getD false

/-- The threshold of a receiver moves toward its target once both levels have collected 10 s of samples, 12.5 µV a sample; the time outside
the fence runs from the sample after that (04 R118, R119). `full` says that they had collected them before this sample. -/
def State.moveThreshold (s : State) (l : Nat) (full : Bool) (r : Receiver) : Receiver :=
  if r.onCount < 80000 || r.offCount < 80000 then r
  else
    let raw := r.voff + s.parR Par.senseTrackRatio l 0 * (r.von - r.voff)
    let lo := s.parR Par.senseFenceLo l 0
    let hi := s.parR Par.senseFenceHi l 0
    let d := clampR (-(1 / 80000)) (1 / 80000) (clampR lo hi raw - r.teff)
    { r with teff := r.teff + d, fenceRun := if full && (raw < lo || hi < raw) then r.fenceRun + 1 else 0 }

/-- The sample's value enters the mean of the level that its state names (04 R118). -/
def Receiver.collect (r : Receiver) (el : Bool) (v : Rat) : Receiver :=
  if el then { r with von := if r.onCount = 0 then v else r.von + (v - r.von) / 80000, onCount := r.onCount + 1 }
  else { r with voff := if r.offCount = 0 then v else r.voff + (v - r.voff) / 80000, offCount := r.offCount + 1 }

/-- A receiver of a DIGITAL line on one sample: electrical state, run, tracking levels (04 R117, R118, R121). The debounced state changes
with the command DEBOUNCED_CHANGE, which this sample may make due: the 100 ms begin with it. A receiver that has started again while the
pulse runs, with no state of its own to repeat, repeats low. DEDUCED (log 26). -/
def State.digitalRx (s : State) (l : Nat) (pulsing qualified : Bool) (v : Rat) (r : Receiver) : Receiver :=
  let el := if pulsing then r.elec.getD false else compareLevel (s.teffOf l r) (s.parR Par.senseHyst l 0) v r.elec
  let run := if r.elec = some el then r.run + 1 else 1
  let due := decide (s.debounceN l < run) && (!r.valid || r.deb != el)
  let full := decide (80000 ≤ r.onCount) && decide (80000 ≤ r.offCount)
  let r := { r with elec := some el, run := run, rose := el && r.elec == some false, v := v, sinceChange := r.sinceChange + 1 }
  if !s.parB Par.senseTrack l 0 then r
  else if pulsing || !qualified || due || r.sinceChange < 800 then s.moveThreshold l full r
  else s.moveThreshold l full (r.collect el v)

/-- A receiver of an analog line on one sample (04 R123, R124). -/
def State.analogRx (s : State) (l : Nat) (v : Rat) (r : Receiver) : Receiver :=
  let n := s.debounceN l + 1
  let filt := (v :: r.filt).take n
  let m := meanR filt
  let valid := decide (n ≤ filt.length)
  let el := compareLevel (s.parR Par.senseThresh l 0) (s.parR Par.senseHyst l 0) m r.elec
  if valid then { r with filt := filt, v := m, valid := true, elec := some el, deb := el }
  else { r with filt := filt, v := m }

/-- The slot in which a line's cleaning pulses run: one per flight, one per train line (04 R120). -/
def cleanerOf (l : Nat) : Nat := if l < 144 then flightOfLine l else l - 132

/-- The presence loop that feeds a line is qualified closed; train lines have none. -/
def State.lineQualified (s : State) (l : Nat) : Bool := if l < 144 then (s.fpower (flightOfLine l)).presence else true

/-- The line is pulsing on this sample. -/
def State.pulsing (s : State) (l : Nat) : Bool :=
  match (s.cleaners.getD (cleanerOf l) ⟨none, 0, []⟩).running with
  | some (k, left) => k = l && left ≠ 0
  | none => false

/-- Full scale of an analog mode: 10 V or 24 mA (04 R116). -/
def fullScale (mode : Nat) : Rat := if mode = 1 then 10 else 24

/-- The receivers' measurements disagree on a sample (04 R125). -/
def State.rxDisagree (s : State) (l : Nat) (x : Sense) (vp vq : Rat) : Bool :=
  if s.lineMode l = 0 then decide (s.teffOf l x.p / 100 + 1 / 5 < absR (vp - vq))
  else decide (fullScale (s.lineMode l) / 100 < absR (vp - vq))

/-- The primary receiver's value after the user trims of an analog line (14 R487). -/
def State.senseTrim (s : State) (l : Nat) (v : Rat) : Rat :=
  maxR 0 (v * (1 + s.parR Par.calUserSenseGainTrim 0 l) + s.parR Par.calUserSenseOffsetTrim 0 l)

/-- One sample of a fitted line, used or not: both receivers and their agreement; the flags that clear on a sample clear (04 R115 to R126).
DEDUCED (log 26). -/
def State.sampleLine (s : State) (l : Nat) (vp vq : Rat) (x : Sense) : Sense :=
  if !s.hasLine l then x
  else
    let dis := s.rxDisagree l x vp vq
    let mode := s.lineMode l
    let x := { x with misRun := if dis then x.misRun + 1 else 0, agreeRun := if dis then 0 else x.agreeRun + 1 }
    if mode = 0 then
      let pul := s.pulsing l
      let ql := s.lineQualified l
      let p := s.digitalRx l pul ql vp x.p
      let q := s.digitalRx l pul ql vq x.q
      { x with p := p, q := q, atFence := x.atFence && p.fenceRun ≠ 0, loopFault := false, overRange := false }
    else
      let open' := x.burdenOff.isSome
      let p := s.analogRx l (s.senseTrim l vp) x.p
      let q := s.analogRx l vq x.q
      let lowHigh := decide (p.v < 18 / 5) || decide (21 < p.v)
      { x with
          p := p, q := q
          loopFault := x.loopFault && mode = 2 && lowHigh
          overRange := x.overRange && mode = 1 && decide (21 / 2 < p.v)
          burdenOff := if mode = 2 && !open' && decide (30 < vp) then some s.sample else x.burdenOff }

/-- A receiver starts again: not valid, its debounce count at 0; with `track`, its tracking state too (04 R118, R123). -/
def State.restartRx (s : State) (track : Bool) (l : Nat) (r : Receiver) : Receiver :=
  if track then { Receiver.reset with teff := s.parR Par.senseThresh l 0 }
  else { Receiver.reset with
      teff := r.teff, von := r.von, voff := r.voff, onCount := r.onCount, offCount := r.offCount, fenceRun := r.fenceRun }

/-- Both receivers of a line start again. -/
def State.restartLine (s : State) (track : Bool) (l : Nat) (x : Sense) : Sense :=
  { x with p := s.restartRx track l x.p, q := s.restartRx track l x.q, atFence := x.atFence && !track }

def State.restartLines (s : State) (track : Bool) (p : Nat → Bool) : State :=
  { s with senses := s.senses.mapIdx (fun l x => if p l then s.restartLine track l x else x) }

/-! ### Position ports (04 R128 to R147) -/

def State.portFormat (s : State) (p : Nat) : Nat := s.parN Par.portFormat p 0

/-- A port that is in use, whose events are recorded (04 R152). -/
def State.portUsed (s : State) (p : Nat) : Bool := p < s.nPorts && s.portFormat p ≠ 0

/-- Bit i of a 64-entry list. -/
def bit64 (i : Nat) : BitVec 64 := 1#64 <<< i

/-- PORT.DIR: 0 at standstill, 1 up, 2 down (04 R132). -/
def Port.dir (x : Port) : Nat :=
  if !x.moving then 0 else match x.edges with | (true, _) :: _ => 1 | (false, _) :: _ => 2 | [] => 0

/-- The 64-bit position (04 R130). -/
def Port.pos64 (x : Port) : Int := x.wraps.toInt * 4294967296 + x.count.toInt

/-- The flight's AUX output p drives: never with the configuration unloaded or the presence loop open (04 R146). -/
def State.auxAllowed (s : State) (p : Nat) : Bool :=
  s.configLoaded && (s.fpower (flightOfPort p)).presence && s.hallAUp

/-- Drive an AUX output. -/
def State.setAux (s : State) (p : Nat) (high : Bool) (until' : Option Nat) : State :=
  let was := (s.port p).aux
  let now := high && s.auxAllowed p
  let s := s.modPort p (fun x => { x with aux := now, auxEnd := until' })
  if was = now then s else s.send (.aux p now)

/-- A value that PORT.CMP_CFG admits (04 R142): reserved bits 0, a direction, a width that a pulse has, and something to do when it arms. -/
def cmpLegal (v : BitVec 32) : Bool :=
  wfield v 30 18 = 0 && wfield v 15 14 ≠ 3 && (!wbit v 31 || wbit v 16 || wbit v 17) && wfield v 13 0 ≤ 10000 &&
    (wfield v 13 0 ≠ 0 || !wbit v 16)

/-- Fire an entry of the compare list at a capture stamp: its pulse and its hit bit; it is disarmed (04 R145). -/
def State.fireCmp (s : State) (p i stamp : Nat) : State :=
  let cfg := s.par Par.portCmpCfg p i
  let s := s.modPort p (fun x => { x with
      armed := x.armed &&& ~~~(bit64 i), hit := if wbit cfg 17 then x.hit ||| bit64 i else x.hit })
  if wbit cfg 16 && s.parN Par.portAuxOwner p 0 = 1 then
    s.setAux p true (some (max ((s.port p).auxEnd.getD 0) (stamp + 400 * wfield cfg 13 0)))
  else s

/-- An entry found behind, `d` counts away: consumed, or late-fired under LATE_FIRE (04 R144). -/
def State.behindCmp (s : State) (p i : Nat) (d : Int) (stamp : Nat) : State :=
  if s.parB Par.portLateFire p 0 then
    ((s.fireCmp p i stamp).modPort p (fun x => { x with late := x.late ||| bit64 i })).recordIf (s.portUsed p)
      Evt.compareLate p [word32 i, wordZ d]
  else
    (s.modPort p (fun x => { x with armed := x.armed &&& ~~~(bit64 i), stale := x.stale ||| bit64 i })).recordIf (s.portUsed p)
      Evt.compareStale p [word32 i, wordZ d]

/-- CMP_POS − COUNT as a signed 32-bit difference (04 R143). -/
def State.cmpDist (s : State) (p i : Nat) : Int := (s.par Par.portCmpPos p i - (s.port p).count).toInt

/-- The entry is behind (04 R143). -/
def State.cmpBehind (s : State) (p i : Nat) : Bool :=
  let dir := wfield (s.par Par.portCmpCfg p i) 15 14
  let d := s.cmpDist p i
  match (s.port p).dir with
  | 1 => (dir = 0 || dir = 1) && decide (d ≤ 0)
  | 2 => (dir = 0 || dir = 2) && decide (0 ≤ d)
  | _ => false

/-- Whether a jump from `old` by `j` counts moves past a position, its end included (04 R141). DEDUCED (log 29). -/
def jumpedPast (old pos : BitVec 32) (j : Int) : Bool :=
  let d := (pos - old).toInt
  if 0 < j then decide (0 < d) && decide (d ≤ j) else if j < 0 then decide (j ≤ d) && decide (d < 0) else false

/-- Every armed entry that a jump has moved past is treated as written behind (04 R141). DEDUCED (log 29). -/
def State.jumpCmp (s : State) (p : Nat) (old : BitVec 32) (j : Int) : State :=
  s.forEach 64 (fun s i =>
    if (s.port p).armed.toNat.testBit i && jumpedPast old (s.par Par.portCmpPos p i) j then
      s.behindCmp p i (s.cmpDist p i) (s.sample * 50000)
    else s)

/-- A correction or a write is taken out of every gear law that follows the port, and out of its ring stamps (05 R185, 13 R455).
DEDUCED (log 29). -/
def State.jumpMasters (s : State) (p : Nat) (j : Int) : State :=
  let s := s.forEach 36 (fun s a =>
    let g := (s.axis a).gear
    if g.geared && g.src = 1 && g.master = p then
      s.modAxis a (fun x => { x with gear := { x.gear with removed := x.gear.removed + j } })
    else s)
  { s with ring := { s.ring with corrections := s.ring.corrections.modify p (· + j) } }

/-- The count has moved in current-loop tick `k`, from `old` (05 R158). -/
def Port.noteTick (x : Port) (k : Nat) (old : Int) : Port :=
  let now := (k, x.count.toInt)
  { x with
      tickCounts := match x.tickCounts with
        | [] => [now, (0, old)]
        | (j, c) :: l => if j = k then now :: l else (now :: (j, c) :: l).take 8 }

/-- A correction or a write moves the counts of the ticks with the counter. -/
def Port.shiftTicks (x : Port) (j : Int) : Port := { x with tickCounts := x.tickCounts.map (fun e => (e.1, e.2 + j)) }

/-- An established commutation is kept over a write that moves the counter by `j` (05 R159). -/
def State.keepAngle (s : State) (p : Nat) (j : Int) : State :=
  s.forEach 36 (fun s a =>
    if s.axType a = 1 && s.fbPort a = some p && (s.axis a).commOk then s.modAxis a (fun x => { x with countRef := x.countRef + j }) else s)

/-- The write of PORT.COUNT (04 R134): its status and its effect. -/
def State.writeCount (s : State) (p : Nat) (v : BitVec 32) : Nat × State :=
  let x := s.port p
  if x.lineFault || x.ssiFault || x.supplyFault || s.portFormat p = 0 || s.portFormat p = 4 then (stState, s)
  else
    let j := (v - x.count).toInt
    let d := v.toInt - x.count.toInt
    let s := s.modPort p (fun x => { x.shiftTicks d with
        count := v, wraps := 0, countInvalid := false, diffBase := (v - x.countB).toInt, misRun := 0 })
    (stOK, ((s.keepAngle p d).jumpCmp p x.count j).jumpMasters p j)

/-- The axes that use a port for feedback, or follow it in gear (05 R155, R176). -/
def State.usesPort (s : State) (p a : Nat) : Bool :=
  s.fbPort a = some p || ((s.axis a).gear.geared && (s.axis a).gear.src = 1 && (s.axis a).gear.master = p)

/-- COUNT_INVALID sets: the axes fed by the port lose their reference and their commutation, coarse or not (05 R159, R176). -/
def State.invalidateCount (s : State) (p : Nat) : State :=
  let s := s.modPort p (fun x => { x with countInvalid := true })
  s.forEach 36 (fun s a =>
    if s.fbPort a = some p then s.modAxis a (fun x => { x with referenced := false, commOk := false, commCoarse := false }) else s)

/-- The speed after an edge with the direction and stamp given, and whether a reversal is pending (04 R132). The first edge has none before it:
it keeps the speed and is no reversal. DESIGN CHOICE (log 75). -/
def Port.edgeSpeed (x : Port) (quad up : Bool) (t : Nat) : Rat × Bool :=
  let signed (interval : Rat) : Rat := if interval ≤ 0 then x.speed else (if up then 1 else -1) * 400000000 / interval
  match x.edges with
  | [] => (x.speed, false)
  | (d, t1) :: _ =>
    if d ≠ up then (x.speed, true)
    else if x.revPending then (signed ((t : Rat) - t1), false)
    else match x.edges with
      | [_, _, _, (_, t4)] | [_, _, _, (_, t4), _] =>
        if quad && (x.edges.take 4).all (fun e => e.1 = up) then (signed (((t : Rat) - t4) / 4), false)
        else (signed ((t : Rat) - t1), false)
      | _ => (signed ((t : Rat) - t1), false)

/-- Count by a signed number of counts, with wraps (04 R130). -/
def Port.countBy (x : Port) (z : Int) : Port :=
  let p := x.pos64 + z
  let c := wordZ p
  let w := wordZ ((p - c.toInt) / 4294967296)
  { x with count := c, wraps := w, wrapToggle := x.wrapToggle != (w != x.wraps) }

/-- Echo: one counted edge into the divider (04 R147). -/
def State.echoEdge (s : State) (p : Nat) (up : Bool) : State :=
  let f := flightOfPort p
  if !s.parB Par.portEchoEn p 0 then s
  else
    let n := s.parN Par.portEchoN p 0
    let m := s.parN Par.portEchoM p 0
    let acc := (s.echo f).acc + (if up then (n : Int) else -(n : Int))
    let emit := decide ((m : Int) ≤ acc) || decide (acc ≤ -(m : Int))
    let acc' := if (m : Int) ≤ acc then acc - m else if acc ≤ -(m : Int) then acc + m else acc
    if !emit then s.modEcho f (fun e => { e with acc := acc' })
    else if (s.echo f).queue.length < 255 then
      s.modEcho f (fun e => { e with acc := acc', queue := e.queue ++ [decide (0 < acc)] })
    else
      ((s.modEcho f (fun e => { e with acc := acc' })).modPort p (fun x => { x with echoOverrun := true })).recordLimited
        Evt.echoOverrun p [] 1000

/-- Entries that fire on the edge that makes COUNT equal CMP_POS (04 R145). -/
def State.edgeCmp (s : State) (p : Nat) (up : Bool) (stamp : Nat) : State :=
  s.forEach 64 (fun s i =>
    let dir := wfield (s.par Par.portCmpCfg p i) 15 14
    if (s.port p).armed.toNat.testBit i && s.par Par.portCmpPos p i = (s.port p).count &&
        (dir = 0 || dir = (if up then 1 else 2)) then s.fireCmp p i stamp
    else s)

/-- A QUAD or HALL error: counted, and recorded at most once per second (04 R133, R135). DEDUCED (log 27). -/
def State.quadError (s : State) (p : Nat) : State :=
  let s := s.modPort p (fun x => { x with quadErrors := x.quadErrors + 1 })
  if s.portUsed p then s.recordLimited Evt.portQuadError p [(s.port p).quadErrors] 1000 else s

/-- A counted edge (04 R130, R132, R145, R147). -/
def State.countEdge (s : State) (p : Nat) (e : EdgeIn) : State :=
  let s := s.modPort p (fun x =>
    let (v, pend) := x.edgeSpeed (s.portFormat p = 1) e.up e.stamp
    let x := (x.countBy (if e.up then 1 else -1)).noteTick ((e.stamp + 9999) / 10000) x.count.toInt
    { x with
        speed := v, revPending := pend, edges := ((e.up, e.stamp) :: x.edges).take 5, lastEdgeTick := s.tick + 1,
        moving := true, countB := if e.secondary then x.countB + (if e.up then 1 else -1) else x.countB })
  (s.edgeCmp p e.up e.stamp).echoEdge p e.up

/-- The level comparison of speed on a sample, and the agreement of the two counters (04 R129, R132). -/
def State.samplePort (s : State) (p : Nat) (cb : Option Int) (code : Option Nat) (limit ra rb : Bool) (x : Port) : Port :=
  let x := { x with countB := match cb with | some z => wordZ z | none => x.countB }
  let now := s.sample * 50000
  let last := match x.edges with | (_, t) :: _ => t | [] => 0
  let bound : Rat := if now ≤ last then absR x.speed else 400000000 / ((now : Rat) - last)
  let speed := if s.portFormat p = 3 then x.speed
    else if !x.moving then 0 else (if x.speed < 0 then -1 else 1) * minR (absR x.speed) bound
  let diff := (x.count - x.countB - wordZ x.diffBase).toInt
  let dis := decide (2 < diff.natAbs)
  let bad := match code with | some c => c = 0 || c = 7 | none => false
  let reed (r : Reed) (b : Bool) : Reed := { r with level := b, run := if r.level = b then r.run + 1 else 1 }
  { x with
      speed := speed, misRun := if dis then x.misRun + 1 else 0, agreeRun := if dis then 0 else x.agreeRun + 1
      mismatch := x.mismatch && !(!dis && decide (8000 ≤ x.agreeRun + 1))
      hallCode := code.getD x.hallCode, hallBadRun := if s.portFormat p = 2 && bad then x.hallBadRun + 1 else 0
      supplyRun := if limit && x.encOn then x.supplyRun + 1 else 0
      reedA := reed x.reedA ra, reedB := reed x.reedB rb }

/-- The encoder supply of a port that is allowed to be on (04 R138). -/
def State.encSupplyOn (s : State) (p : Nat) : Bool :=
  (s.fpower (flightOfPort p)).presence && s.configLoaded && s.parN Par.portEncV p 0 ≠ 0 && !(s.port p).supplyFault

/-- The reed inputs of a port start again (04 R137). -/
def Port.restartReeds (x : Port) : Port := { x with reedA := .reset, reedB := .reset }

/-- The levels of the echo outputs at a phase: AB = 00, 10, 11, 01 (04 R147). -/
def echoA (phase : Nat) : Bool := phase % 4 = 1 || phase % 4 = 2
def echoB (phase : Nat) : Bool := phase % 4 = 2 || phase % 4 = 3

/-- The echo drives its outputs by its phase, where it owns them (04 R145, R147). -/
def State.driveEcho (s : State) (f : Nat) : State :=
  let ph := (s.echo f).phase
  if s.parN Par.portAuxOwner (2 * f) 0 = 2 then (s.setAux (2 * f) (echoA ph) none).setAux (2 * f + 1) (echoB ph) none else s

/-- The echo of a flight starts at 0 with its outputs at 00 (04 R147). -/
def State.restartEcho (s : State) (f : Nat) : State := (s.modEcho f (fun _ => .reset)).driveEcho f

/-- The arming write of an entry (04 R142 to R144): its status and its effect. The owner is judged before the state of the counter.
DESIGN CHOICE (log 75). -/
def State.armCmp (s : State) (p i : Nat) (v : BitVec 32) : Nat × State :=
  if !cmpLegal v then (stRange, s)
  else if wbit v 16 && s.parN Par.portAuxOwner p 0 ≠ 1 then (stConflict, s)
  else if (s.port p).countInvalid || s.portFormat p = 4 || s.portFormat p = 0 then (stState, s)
  else
    let s := s.setPar (Par.portCmpCfg.pid p i) (v &&& 0x7FFFFFFF)
    let s := s.modPort p (fun x => { x with
        armed := x.armed ||| bit64 i, stale := x.stale &&& ~~~(bit64 i), late := x.late &&& ~~~(bit64 i) })
    if s.cmpBehind p i then (stOK, s.behindCmp p i (s.cmpDist p i) (s.sample * 50000)) else (stOK, s)

/-- A write that disarms an entry (04 R142); in REED, writes to the compare list answer STATE (R137). -/
def State.disarmCmp (s : State) (p i : Nat) (v : BitVec 32) : Nat × State :=
  if !cmpLegal v then (stRange, s)
  else if s.portFormat p = 4 then (stState, s)
  else (stOK, (s.setPar (Par.portCmpCfg.pid p i) v).modPort p (fun x => { x with armed := x.armed &&& ~~~(bit64 i) }))

/-- A write of PORT.CMP_CFG[i]. -/
def State.writeCmpCfg (s : State) (p i : Nat) (v : BitVec 32) : Nat × State :=
  if wbit v 31 then s.armCmp p i v else s.disarmCmp p i v

/-- A write of PORT.CMP_POS[i] (04 R142). -/
def State.writeCmpPos (s : State) (p i : Nat) (v : BitVec 32) : Nat × State :=
  if (s.port p).armed.toNat.testBit i || s.portFormat p = 4 then (stState, s)
  else (stOK, s.setPar (Par.portCmpPos.pid p i) v)

/-- A write of PORT.CMP_HIT_CLR[w] (04 R145). -/
def State.clearHits (s : State) (p w : Nat) (v : BitVec 32) : Nat × State :=
  (stOK, s.modPort p (fun x => { x with hit := x.hit &&& ~~~((v.setWidth 64) <<< (32 * w)) }))

/-- A write of 1 to PORT.SUPPLY_CLEAR (04 R138). -/
def State.supplyClear (s : State) (p : Nat) (v : BitVec 32) : Nat × State :=
  if v ≠ 1 then (stRange, s)
  else if !(s.port p).supplyFault || s.stamp < (s.port p).supplyFaultTick + 1000 then (stState, s)
  else
    let s := s.modPort p (fun x => { x with supplyFault := false, supplyRun := 0 })
    (stOK, s.modPort p (fun x => { x with encOn := s.encSupplyOn p }))

/-! ### AXIS.POS_SET (05 R177) -/

/-- The encoder count that a stepper's position stands for. -/
def State.stepperCount (s : State) (a : Nat) (v : BitVec 32) : BitVec 32 :=
  wordZ (roundTieZero ((v.toInt : Rat) * (s.parN Par.axisEncDen a 0 : Rat) / (s.parZ Par.axisEncNum a 0 : Rat)))

/-- The axis takes a declared position: POS_CMD stands at it, REFERENCED sets, POS_UNCERTAIN clears. -/
def State.declarePos (s : State) (a : Nat) (v : BitVec 32) : State :=
  let old := wordZ (s.axis a).pos
  (s.modAxis a (fun x => { x with
      posCmd := v.toInt, pos := v.toInt, referenced := true, posUncertain := false })).record Evt.axisPosSet a [old, v]

/-- The write of AXIS.POS_SET (05 R177): its status and its effect. A SOLENOID axis, which the rule gives no position, answers STATE.
DESIGN CHOICE (log 89). -/
def State.posSet (s : State) (a : Nat) (v : BitVec 32) : Nat × State :=
  if (s.axis a).st ≠ .idle && (s.axis a).st ≠ .hold then (stState, s)
  else if !s.isPhase a then (stState, s)
  else match s.fbPort a with
    | none => (stOK, s.declarePos a v)
    | some p =>
      let (st, s) := s.writeCount p (if s.axType a = 3 then s.stepperCount a v else v)
      if st = stOK then (stOK, s.declarePos a v) else (st, s)

end Sys2Proof.Machine
end

