-- ==== Sys2Proof/Machine/ObstacleOps.lean ====
section
/-! DEFINITION. The obstacle model (07): force estimate, friction map, zones and thresholds, triggers, learning and commissioning, and
what the cycle record of the gallery collects (11 R386). -/

namespace Sys2Proof.Machine

/-! ### Composite blocks (06 R192, R193, 10 R346) -/

/-- Type codes of the composite blocks (10 R346). -/
def btDoor : Nat := 0x38
def btStep : Nat := 0x39
def btLock : Nat := 0x3A
def btReference : Nat := 0x3B

/-- The flight that a composite block names in its constant FLT. -/
def Block.flight (b : Block) : Option Nat :=
  match b.ins with
  | .const _ v :: _ => some v.toNat
  | _ => none

def Container.hasComposite (c : Container) (ty f : Nat) : Bool :=
  c.blocks.any (fun b => b.type.toNat = ty && b.flight = some f)

/-- The running program carries a composite block of a type for a flight. -/
def State.hasComposite (s : State) (ty f : Nat) : Bool :=
  match s.prog.running with
  | none => false
  | some c => c.hasComposite ty f

def State.hasDoor (s : State) (f : Nat) : Bool := s.hasComposite btDoor f

/-- A flight with any composite block (06 R226). -/
def State.hasAnyBlock (s : State) (f : Nat) : Bool :=
  s.hasDoor f || s.hasComposite btStep f || s.hasComposite btLock f || s.hasComposite btReference f

def leafOf (f : Nat) : Nat := 3 * f
def stepOf (f : Nat) : Nat := 3 * f + 1
def lockOf (f : Nat) : Nat := 3 * f + 2

/-- A parameter that a stroke uses (06 R202 to R207, R214 to R220). -/
def ParRow.ofStroke (r : ParRow) : Bool :=
  r.cls = 0x11 && ((0x11 ≤ r.idx && r.idx ≤ 0x18) || r.idx = 0x1A || (0x20 ≤ r.idx && r.idx ≤ 0x23) || (0x41 ≤ r.idx && r.idx ≤ 0x53))

/-- The values with which a stroke of a flight begins (06 R224). -/
def State.strokeValues (s : State) (f : Nat) : List (Nat × BitVec 32) :=
  ((rowsOf 0x11).filter (·.ofStroke)).flatMap (fun r => (List.range r.len).map (fun j => (r.pid f j, s.par r f j)))

/-- A parameter of a flight as its sequencer uses it: a stroke keeps the value with which it began until it ends (06
R224). -/
def State.flightPar (s : State) (r : ParRow) (f j : Nat) : BitVec 32 :=
  match (s.door f).kept.find? (fun e => e.1 = r.pid f j) with
  | some e => e.2
  | none => s.par r f j

def State.flightN (s : State) (r : ParRow) (f j : Nat) : Nat := (s.flightPar r f j).toNat

def State.flightZ (s : State) (r : ParRow) (f j : Nat) : Int := (s.flightPar r f j).toInt

def State.flightR (s : State) (r : ParRow) (f j : Nat) : Rat := real32 (s.flightPar r f j)

def State.openPos (s : State) (f : Nat) : Int := s.flightZ Par.flightOpenPos f 0
def State.closedPos (s : State) (f : Nat) : Int := s.flightZ Par.flightLeafClosedPos f 0

/-- The opening direction: the sign of OPEN_POS − LEAF_CLOSED_POS (06 R202). -/
def State.openSign (s : State) (f : Nat) : Int := if s.closedPos f ≤ s.openPos f then 1 else -1

/-- The extending direction of the step (06 R202). -/
def State.extendSign (s : State) (f : Nat) : Int :=
  if s.flightZ Par.flightStepRetPos f 0 ≤ s.flightZ Par.flightStepExtPos f 0 then 1 else -1

/-! ### Force (07 R228 to R233) -/

/-- Distance from closed, and stroke (07 R233). -/
def State.distOf (s : State) (f : Nat) (pos : Int) : Int := (pos - s.closedPos f) * s.openSign f

def State.strokeLen (s : State) (f : Nat) : Nat := (s.openPos f - s.closedPos f).natAbs

def binOf (d : Int) (len : Nat) : Nat :=
  if len = 0 then 0 else (clampZ 0 255 (d * 256 / (len : Int))).toNat

/-- The map between bin centres (07 R233). DESIGN CHOICE (log 13). -/
def mapAt (m : List Rat) (d : Int) (len : Nat) : Rat :=
  if len = 0 then 0
  else
    let u : Rat := (d : Rat) * 256 / (len : Rat) - 1 / 2
    if u ≤ 0 then m.getD 0 0
    else if 255 ≤ u then m.getD 255 0
    else
      let k := u.floor.toNat
      m.getD k 0 + (m.getD (k + 1) 0 - m.getD k 0) * (u - (k : Rat))

/-- k_T at a temperature, linear between the six entries (07 R230). -/
def State.kTempAt (s : State) (f : Nat) (t : Rat) : Rat :=
  let e (k : Nat) : Rat := s.parR Par.obstacleKtTable f k
  if t ≤ -40 then e 0
  else if 60 ≤ t then e 5
  else
    let u := (t + 40) / 20
    let k := u.floor.toNat
    e k + (e (k + 1) - e k) * (u - (k : Rat))

def State.kTempMin (s : State) (f : Nat) : Rat :=
  (List.range 6).foldl (fun m k => minR m (s.parR Par.obstacleKtTable f k)) (s.parR Par.obstacleKtTable f 0)

/-- SENSE.VALUE: that of an ANALOG_V line saturates at 10.0 V (04 R124). -/
def State.shownValue (s : State) (l : Nat) : Rat := if s.lineMode l = 1 then minR 10 (s.sense l).p.v else (s.sense l).p.v

/-- The temperature T, and whether it is invalid (07 R230); with no source T is shown as 0. DESIGN CHOICE (log 90). -/
def State.tempOf (s : State) (f : Nat) : Rat × Bool :=
  let o := s.obs f
  let range (t : Rat) (bad : Bool) : Rat × Bool := (t, bad || decide (t < -60) || decide (100 < t))
  match s.parN Par.obstacleTempSrc f 0 with
  | 1 =>
    let l := s.parN Par.obstacleTempLine f 0
    let x := s.sense l
    range (s.parR Par.obstacleTempGain f 0 * s.shownValue l + s.parR Par.obstacleTempOffset f 0)
      (!x.p.valid || x.loopFault || x.overRange)
  | 2 => range (s.parR Par.obstacleTempIn f 0) (o.tempInAt.isNone || o.tempTimeout)
  | _ => (0, false)

/-- k_T in use (07 R230). -/
def State.kTempOf (s : State) (f : Nat) : Rat :=
  if s.parN Par.obstacleTempSrc f 0 = 0 then 1
  else if (s.tempOf f).2 then s.kTempMin f else s.kTempAt f (s.tempOf f).1

/-- Metres per axis count (05 R157). -/
def State.metres (s : State) (a : Nat) : Rat :=
  (s.parN Par.axisScaleNum a 0 : Rat) / (s.parN Par.axisScaleDen a 0 : Rat) / 1000000

/-- The sign of travel of the present stroke. -/
def State.travelSign (s : State) (f : Nat) (closing : Bool) : Rat :=
  if closing then -((s.openSign f : Int) : Rat) else ((s.openSign f : Int) : Rat)

/-- F_m from a mean current in the direction of travel (07 R228). -/
def State.motorForce (s : State) (f : Nat) (iq : Rat) : Rat :=
  let k := s.parR Par.obstacleKt f 0 * iq * s.parR Par.obstacleGearG f 0
  let eta := s.parR Par.obstacleEta f 0
  if 0 ≤ k then k * eta else k / eta

/-- F without friction: F_m − J·a − F_slope (07 R228). -/
def State.forceNet (s : State) (f : Nat) (closing : Bool) (iq acc : Rat) : Rat :=
  let slope := s.parR Par.obstacleLeafMass f 0 * (981 / 100) * s.parR Par.obstacleSlopeIn f 0
  s.motorForce f iq - s.parR Par.obstacleMassEq f 0 * (acc * s.metres (leafOf f)) - (if closing then slope else -slope)

/-- VISC × |v̂| (07 R228). -/
def State.viscous (s : State) (f : Nat) : Rat :=
  s.parR Par.obstacleVisc f 0 * absR ((s.axis (leafOf f)).velF * s.metres (leafOf f))

/-- The map in use for a direction: zeros while commissioning or not valid (07 R232, R236). -/
def State.mapInUse (s : State) (f : Nat) (closing : Bool) : List Rat :=
  let o := s.obs f
  if o.commissioning || !o.map.valid then [] else if closing then o.strokeClose else o.strokeOpen

/-! ### Zones and thresholds (07 R240 to R242) -/

def State.zoneOf (s : State) (f : Nat) (d : Int) : Nat :=
  let n := s.parN Par.obstacleZoneCount f 0
  ((List.range (n - 1)).find? (fun k => d < (s.parN Par.obstacleZoneEnd f k : Int))).getD (n - 1)

/-- A rational to a natural power. -/
def powR (q : Rat) : Nat → Rat
  | 0 => 1
  | n + 1 => powR q n * q

/-- THRESH_EFF (07 R242). -/
def State.threshOf (s : State) (f : Nat) (closing : Bool) (zone : Nat) (inStart : Bool) : Rat :=
  let base := if (s.obs f).commissioning then s.parR Par.obstacleCommThresh f 0
    else if closing then s.parR Par.obstacleZoneThresh f zone else s.parR Par.obstacleOpenThresh f 0
  let base := if closing then base * powR ((s.parN Par.obstacleReclosePct f 0 : Rat) / 100) (s.door f).attempt else base
  let base := maxR base 10
  if inStart then base + s.parR Par.obstacleStartMargin f 0 else base

/-! ### Watching and triggers (07 R227, R243 to R247) -/

/-- The model watches (07 R227). -/
def State.watches (s : State) (f : Nat) : Bool :=
  let d := s.door f
  let o := s.obs f
  s.hasDoor f && (s.axType (leafOf f) = 1 || s.axType (leafOf f) = 2) && o.strokeAt.isSome &&
    match d.st with
    | .opening => true
    | .closing => !o.closedSeen
    | .reversing => match d.reaction with | some (.reversal _) => true | _ => false
    | _ => false

/-- The flight's edge is faulty, whatever TRIG_EN (07 R245); a line without USE = ROLE is no edge. DEDUCED (log 35). -/
def State.edgeFaulty (s : State) (f : Nat) : Bool :=
  let x := s.sense (12 * f + 7)
  s.lineUse (12 * f + 7) = 1 && (!x.p.valid || x.loopFault || x.overRange)

/-- The edge trigger on a watched sample (07 R244, R245). -/
def State.edgeFires (s : State) (f : Nat) (d : Int) (first : Bool) : Bool :=
  wbit (s.par Par.obstacleTrigEn f 0) 1 && (s.obs f).closing && (s.door f).st == .closing &&
    if s.edgeFaulty f then first && s.parN Par.obstacleEdgeFaultReact f 0 = 1
    else s.active (12 * f + 7) && decide ((s.parN Par.obstacleEdgeMuteDist f 0 : Int) ≤ d)

/-- A sample that meets the conditions of the speed trigger (07 R246). -/
def State.speedShort (s : State) (f : Nat) : Bool :=
  let x := s.axis (leafOf f)
  let keep : Rat := 1 - (s.parN Par.obstacleSpdDevPct f 0 : Rat) / 100
  decide (s.parR Par.obstacleSpdDevVmin f 0 ≤ absR x.vel) &&
    (decide (x.velF * x.vel < 0) || decide (absR x.velF < absR x.vel * keep))

/-- Whether the current command of an axis is at its clamp. -/
def State.atClamp (s : State) (a : Nat) : Bool :=
  let x := s.axis a
  decide (s.iEff a ≤ absR x.iCmd)

/-- Samples of one bin collected for learning (07 R238). -/
def addBin (l : List BinAcc) (closing : Bool) (bin : Nat) (r : Rat) : List BinAcc :=
  match l with
  | [] => [⟨closing, bin, r, 1⟩]
  | b :: l => if b.closing = closing && b.bin = bin then { b with sum := b.sum + r, n := b.n + 1 } :: l
      else b :: addBin l closing bin r

/-- What the record of a detection carries: triggers, zone, d, F, THRESH_EFF, attempt and stroke direction (07 R247). -/
def State.detectArgs (s : State) (f : Nat) (o : Obst) : List (BitVec 32) :=
  [word32 o.fire, word32 o.zone, wordZ (s.distOf f (s.axis (leafOf f)).pos), toReal32 o.f, toReal32 o.thresh,
    word32 (s.door f).attempt, word32 (bitN o.closing 0)]

/-- One sample of the obstacle model of a flight (07 R227 to R246). -/
def State.obstSample (s : State) (f : Nat) (iqRaw : Rat) (o : Obst) : Obst :=
  if !s.hasDoor f then { o with watching := false, fire := 0, found := none }
  else
    let a := leafOf f
    let x := s.axis a
    let (t, bad) := s.tempOf f
    let kt := s.kTempOf f
    let o := { o with
        temp := t, kTemp := kt, tempInvalid := bad, iq8 := (iqRaw :: o.iq8).take 8,
        edgeFault := s.edgeFaulty f, found := none
        unclean := if s.prog.forces.isEmpty then o.unclean else o.unclean ||| 0x80 }
    let sg := s.travelSign f o.closing
    let iq := sg * meanR (o.iq8.take (s.parN Par.obstacleEstAvg f 0))
    let acc := sg * x.accCmd
    let d := s.distOf f x.pos
    let len := s.strokeLen f
    let net := s.forceNet f o.closing iq acc
    let fr := kt * mapAt (s.mapInUse f o.closing) d len + s.viscous f
    let force := net - fr
    let closedSeen := o.closedSeen || ((s.door f).st == .closing && s.both (12 * f))
    let o := { o with f := force, closedSeen := closedSeen, zone := if o.closing then s.zoneOf f d else 0 }
    if !(s.watches f) || closedSeen then { o with watching := false, confirm := 0, speedRun := 0, fire := 0 }
    else
      let th := s.threshOf f o.closing o.zone o.inStart
      let confirm := if th < force then o.confirm + 1 else 0
      let speedRun := if s.speedShort f then o.speedRun + 1 else 0
      let en := s.par Par.obstacleTrigEn f 0
      let fire := bitN (wbit en 0 && decide (s.parN Par.obstacleConfirm f 0 ≤ confirm)) 0
        + bitN (s.edgeFires f d (!o.watchedOnce)) 1
        + bitN (wbit en 2 && decide (s.parN Par.obstacleSpdDevTime f 0 ≤ speedRun)) 2
      let vinBad := match s.supply.vin8 with
        | v :: _ => decide (v < o.learnUse.vinLo) || decide (o.learnUse.vinHi < v)
        | [] => false
      let clean := o.unclean ||| bitN (fire ≠ 0) 0 ||| bitN vinBad 2 ||| bitN (decide (s.foldScale f < 1) || s.atClamp a) 3
        ||| bitN x.commCoarse 4 ||| bitN bad 5 ||| bitN (decide (th / 2 < force)) 9
      let r := (net - s.viscous f) / kt
      let o := { o with
          watching := true, thresh := th, confirm := confirm, speedRun := speedRun, fire := fire, watchedOnce := true,
          unclean := clean, acc := if o.inStart then o.acc else addBin o.acc o.closing (binOf d len) r
          runPeak := if o.closing then some (maxR (o.runPeak.getD force) force) else o.runPeak }
      { o with found := if fire = 0 then none else some (fire, s.detectArgs f o) }

/-! ### Learning and commissioning (07 R236 to R239) -/

/-- The mean of a bin with at least `least` samples. -/
def binMean (l : List BinAcc) (closing : Bool) (least bin : Nat) : Option Rat :=
  match l.find? (fun b => b.closing = closing && b.bin = bin) with
  | none => none
  | some b => if b.n < least || b.n = 0 then none else some (b.sum / (b.n : Rat))

/-- One bin's learning step: its new value and whether the drift limit held it (07 R238). -/
def learnBin (limit old snap : Rat) (r : Option Rat) : Rat × Bool :=
  match r with
  | none => (old, false)
  | some r =>
    let want := old + clampR (-(1 / 2)) (1 / 2) (r - old)
    let new := clampR (-500) 500 (clampR (snap - limit) (snap + limit) want)
    (new, decide (new ≠ want))

/-- One direction's learning. -/
def learnMap (limit : Rat) (old snap : List Rat) (acc : List BinAcc) (closing : Bool) : List (Rat × Bool) :=
  (List.range 256).map (fun k => learnBin limit (old.getD k 0) (snap.getD k 0) (binMean acc closing 8 k))

/-- The updated maps of a clean cycle, with the first bin that drifted and its value (07 R238): the bins of the closing map are numbered from
0, those of the opening map from 256. DESIGN CHOICE (log 78). -/
def State.learnt (s : State) (f : Nat) (o : Obst) : FricMap × Option (Nat × Rat) :=
  let lim := s.parR Par.obstacleDriftLimit f 0
  let c := learnMap lim o.map.close o.map.snapClose o.acc true
  let p := learnMap lim o.map.open' o.map.snapOpen o.acc false
  let bad := (c ++ p).findIdx? (·.2)
  let cycles := o.map.cycles + 1
  ({ o.map with
      close := c.map (·.1), open' := p.map (·.1), drift := o.map.drift || bad.isSome, cycles := cycles,
      mature := o.map.mature || decide (50 ≤ cycles) },
    bad.map (fun k => (k, ((c ++ p).getD k (0, false)).1)))

/-- Learning is held (07 R237 reason [8]). -/
def State.learnHeld (s : State) (f : Nat) : Bool :=
  let o := s.obs f
  !o.learnUse.en || !o.map.valid || o.map.drift || o.commissioning

/-- One cycle's means into the commissioning accumulation (07 R236). -/
def addComm (l : List BinComm) (closing : Bool) (bin : Nat) (m : Rat) : List BinComm :=
  match l with
  | [] => [⟨closing, bin, 1, m, m, m⟩]
  | b :: l => if b.closing = closing && b.bin = bin then
        { b with n := b.n + 1, sum := b.sum + m, hi := maxR b.hi m, lo := minR b.lo m } :: l
      else b :: addComm l closing bin m

def addCommCycle (l : List BinComm) (acc : List BinAcc) : List BinComm :=
  acc.foldl (fun l b => addComm l b.closing b.bin (b.sum / (b.n : Rat))) l

def commMean (l : List BinComm) (closing : Bool) (bin : Nat) : Option Rat :=
  (l.find? (fun b => b.closing = closing && b.bin = bin)).map (fun b => b.sum / (b.n : Rat))

/-- A bin of the commissioned map: its mean, or that of the nearest bin that has one, the lower bin in a tie (07 R236), within the bounds of a
map value (R233). -/
def nearestMean (l : List BinComm) (closing : Bool) (bin : Nat) : Rat :=
  clampR (-500) 500 (((List.range 257).findSome? (fun k =>
    match (if k ≤ bin then commMean l closing (bin - k) else none) with
    | some m => some m
    | none => commMean l closing (bin + k))).getD 0)

/-- The bin whose cycle means differ most, and by how much: the first of those that differ alike, 0 to 255 in either map (07 R236).
DESIGN CHOICE (log 90). -/
def worstSpread (l : List BinComm) : Nat × Rat :=
  l.foldl (fun (k, w) b => if w < b.hi - b.lo then (b.bin, b.hi - b.lo) else (k, w)) (0, 0)

/-- The end of a commissioning, on the clean cycle that completes it (07 R236). -/
def State.finishCommission (s : State) (f : Nat) : State :=
  let o := s.obs f
  let (bin, w) := worstSpread o.comm
  if o.learnUse.spread < w then
    (s.modObs f (fun o => { o with map := o.backup, commissioning := false, comm := [] })).record
      Evt.obstCommissionFail f [word32 bin, toReal32 w]
  else
    let c := (List.range 256).map (nearestMean o.comm true)
    let p := (List.range 256).map (nearestMean o.comm false)
    let m : FricMap := ⟨c, p, c, p, true, false, false, 0⟩
    (s.modObs f (fun o => { o with map := m, commissioning := false, comm := [] })).record Evt.obstCommissioned f [toReal32 w]

/-- The reasons of a cycle that ends (07 R237). A cycle with no command is no reason [6]; it lacks a stroke, which is reason [1]. -/
def State.cycleReasons (s : State) (f : Nat) (closed : Bool) : Nat :=
  let o := s.obs f
  let whole := closed && o.opens = 1 && o.closes = 1 && o.openedFull && !o.stopped
  o.unclean ||| bitN (!whole) 1 ||| bitN (decide (1 < o.cmdOpens) || decide (1 < o.cmdCloses) || o.cmdOthers ≠ 0) 6 ||| bitN (s.learnHeld f) 8

/-- What the model does when a cycle ends: the cycle's reasons, learning, commissioning, and a fresh start (07 R236 to R238). -/
def State.obstCycleEnd (s : State) (f : Nat) (closed : Bool) : State :=
  let why := s.cycleReasons f closed
  let o := s.obs f
  let s := s.modObs f (fun o => { o with
      lastUnclean := why, unclean := 0, opens := 0, closes := 0, openedFull := false, stopped := false, cmdOpens := 0,
      cmdCloses := 0, cmdOthers := 0, acc := [] })
  if why = 0 then s.modObs f (fun x => { x with update := some ((s.learnt f o).1, s.stamp, (s.learnt f o).2) })
  else if o.commissioning && why &&& 0xFCFF = 0 then
    let s := s.modObs f (fun x => { x with commDone := o.commDone + 1, comm := addCommCycle o.comm o.acc })
    if o.learnUse.cycles ≤ (s.obs f).commDone then s.finishCommission f else s
  else s

/-- A map that is no longer valid: all zeros (07 R235). -/
def FricMap.cleared (m : FricMap) : FricMap := { m with valid := false, close := [], open' := [] }

/-- The map of a flight stops being valid, with an update of it that waits and the map that an abort would restore: only commissioning sets
MAP_VALID again (07 R235). -/
def State.mapInvalid (s : State) (f : Nat) : State :=
  (s.modObs f (fun o => { o with map := o.map.cleared, backup := o.backup.cleared, update := none })).record
    Evt.obstMapInvalid f []

/-- The largest distance of a bin from its snapshot (07 R239). -/
def driftMax (m : FricMap) : Rat :=
  (List.range 256).foldl (fun w k =>
    maxR w (maxR (absR (m.close.getD k 0 - m.snapClose.getD k 0)) (absR (m.open'.getD k 0 - m.snapOpen.getD k 0)))) 0

/-- The learning parameters as they stand (07 R257). -/
def State.learnNow (s : State) (f : Nat) : LearnUse :=
  { en := s.parB Par.obstacleLearnEn f 0, vinLo := s.parR Par.obstacleLearnVinLo f 0, vinHi := s.parR Par.obstacleLearnVinHi f 0
    cycles := s.parN Par.obstacleCommCycles f 0, spread := s.parR Par.obstacleCommSpread f 0 }

/-- A stroke begins: the map and the learning parameters as they stand, the start margin, no sample watched yet (07 R234, R242, R257). -/
def State.beginStroke (s : State) (f : Nat) (closing : Bool) : State :=
  s.modObs f (fun o => { o with
      learnUse := s.learnNow f
      closing := closing, strokeAt := some s.sample, watchedOnce := false, closedSeen := false, confirm := 0, speedRun := 0,
      inStart := decide (0 < s.parN Par.obstacleStartMs f 0), strokeClose := o.map.close, strokeOpen := o.map.open',
      runPeak := none })

/-- A stroke ends; a detection of its last sample stays to be recorded (07 R247). -/
def State.endStroke (s : State) (f : Nat) : State :=
  s.modObs f (fun o => { o with strokeAt := none, watching := false, inStart := false, fire := 0 })

/-- A write of OBSTACLE.COMMISSION (07 R236): its status and its effect. A 0 with no commissioning under way answers OK and changes nothing.
DESIGN CHOICE (log 90). -/
def State.commission (s : State) (f : Nat) (v : BitVec 32) : Nat × State :=
  let o := s.obs f
  if v = 1 then
    if s.mode != .run || (s.door f).st != .closedLocked then (stState, s)
    else
      (stOK, s.modObs f (fun o => { o with
          backup := if o.commissioning then o.backup else o.map, commissioning := true, commDone := 0, comm := [] }))
  else if v = 0 then
    if o.commissioning then
      (stOK, s.modObs f (fun o => { o with map := o.backup, commissioning := false, comm := [] }))
    else (stOK, s)
  else (stRange, s)

/-- A write of OBSTACLE.MAP_RESTORE: an update that is still due of the cycle before is dropped with the map it would change (07 R239). -/
def State.mapRestore (s : State) (f : Nat) (v : BitVec 32) : Nat × State :=
  let o := s.obs f
  if v ≠ 1 then (stRange, s)
  else if !o.map.valid || o.commissioning then (stState, s)
  else
    (stOK, (s.modObs f (fun o => { o with
        update := none
        map := { o.map with
            close := o.map.snapClose, open' := o.map.snapOpen, drift := false, mature := false, cycles := 0 } })).record
      Evt.obstMapRestored f [])

/-- A write of OBSTACLE.TEMP_IN (07 R230). -/
def State.tempIn (s : State) (f : Nat) (v : BitVec 32) : Nat × State :=
  (stOK, (s.setPar (Par.obstacleTempIn.pid f 0) v).modObs f (fun o => { o with tempInAt := some s.stamp, tempTimeout := false }))

/-- FLIGHT.ISO_CAUSE (06 R207). -/
def State.isoBits (s : State) (f : Nat) : Nat :=
  bitN (s.active (12 * f + 6) && s.lineUse (12 * f + 6) = 1) 0 + bitN (!(s.fpower f).presence) 1
    + bitN (s.storey (storeyOfFlight f)).breakerOpen 2 + bitN (s.door f).isoCommand 3 + bitN (s.door f).isoNoBlock 4
    + bitN (!s.supply.mpres) 5

/-! ### The cycle record (11 R386) -/

/-- What a cycle record holds of the flight at the end of a cycle. SEQ, PCYC and CYCLE_NO are GE's, and OPTIME counts on over a reset of Hall B
(01 R26, 11 R381, R382). -/
def State.cycRec (s : State) (f endState : Nat) : CycRec :=
  let c := s.gallery.cyc.getD f .reset
  let d := s.door f
  let o := s.obs f
  let uncertain := [leafOf f, stepOf f].any (fun a => s.isPhase a && (!(s.axis a).referenced || (s.axis a).posUncertain))
  let flags := bitN c.forced 0 + bitN (o.lastUnclean = 0 && endState = 2) 1 + bitN c.gaveUp 2 + bitN d.obstructed 3
    + bitN d.refCoarse 4 + bitN uncertain 5 + bitN c.traced 6
  let sev := if endState = 11 then 4 else if c.gaveUp || endState = 10 then 3
    else if c.detections ≠ 0 || c.forced || endState = 9 || uncertain then 2 else 1
  { seq := 0, pcyc := 0, optime := s.optimeNow, flight := f, sev := sev, endState := endState,
    flags := BitVec.ofNat 8 flags, cycleNo := 0, duration := s.stamp - c.start, tUnlock := satN 16 c.tUnlock,
    tOpen := satN 16 c.tOpen, tClose := satN 16 c.tClose, tLock := satN 16 c.tLock, tDwell := c.tDwell,
    fPeakOpen := clampZ (-32768) 32767 (truncR (c.fOpen.getD 0 * 10)), fPeakClose := clampZ (-32768) 32767 (truncR (c.fClose.getD 0 * 10)),
    detections := satN 8 c.detections, trigs := c.trigs, attempts := c.attempts, ranks := c.ranks,
    iPeak := satN 16 (truncR (c.iPeak * 100)).toNat, unclean := o.lastUnclean % 2048,
    vinMin := satN 16 (truncR (c.vinMin.getD 0 * 100)).toNat,
    temp := if o.tempInvalid then -128 else clampZ (-127) 127 (truncR o.temp),
    drift := satN 8 (truncR (driftMax o.map * 10)).toNat, tStep := satN 16 (c.stepSamples / 8),
    cause := if endState = 11 then d.faultCause else if endState = 9 then s.isoBits f else 0, eventLink := c.eventLink }

def CycAcc.fresh (tick : Nat) : CycAcc :=
  { start := tick, tUnlock := 0, tOpen := 0, tClose := 0, tLock := 0, tDwell := 0, fOpen := none, fClose := none,
    detections := 0, trigs := 0, attempts := 0, ranks := 0, iPeak := 0, vinMin := none, stepSamples := 0,
    forced := false, gaveUp := false, eventLink := 0xFFFFFFFF, traced := false }

def State.modCyc (s : State) (f : Nat) (g : CycAcc → CycAcc) : State :=
  { s with gallery := { s.gallery with cyc := s.gallery.cyc.modify f g } }

/-- A cycle record goes to the gallery: to GE while Hall B runs; into Hall A's 24 while it does not; otherwise it is counted
(01 R26, 11 R390). -/
def State.sendCycle (s : State) (r : CycRec) : State :=
  if s.hallBUp then s.takeCycle r
  else if s.gallery.hallACyc.length < 24 then
    { s with gallery := { s.gallery with hallACyc := s.gallery.hallACyc ++ [r] } }
  else { s with gallery := { s.gallery with hallACycLost := s.gallery.hallACycLost.modify r.flight (· + 1) } }

/-- A door cycle ends (06 R226): the model's verdict, the record, and the next cycle begins. -/
def State.endCycle (s : State) (f endState : Nat) : State :=
  let s := s.obstCycleEnd f (endState = 2)
  let s := s.sendCycle (s.cycRec f endState)
  s.modCyc f (fun _ => CycAcc.fresh s.stamp)

/-- A stay in a door state ends after `ms` milliseconds (11 R386). -/
def CycAcc.stay (c : CycAcc) (st : DoorState) (ms : Nat) : CycAcc :=
  match st with
  | .unlocking => { c with tUnlock := c.tUnlock + ms }
  | .opening => { c with tOpen := c.tOpen + ms }
  | .closing | .reversing => { c with tClose := c.tClose + ms }
  | .locking => { c with tLock := c.tLock + ms }
  | .open' => { c with tDwell := c.tDwell + ms }
  | _ => c

/-! ### The end of a trace (11 R387) -/

/-- The kind of the stroke that a stay in a door state is. -/
def strokeKind (st : DoorState) : Option Nat :=
  match st with
  | .opening => some 0
  | .closing => some 1
  | .reversing => some 2
  | .referencing => some 3
  | _ => none

/-- A stroke ends: the trace is kept or not by TRACE_MODE and its severity, WARNING where it is the reversal that gave up. Its OPTIME is that of the first sample kept, and a detection
whose sample has been dropped has no index. DEDUCED (log 51). -/
def State.traceEnd (s : State) (f : Nat) : State :=
  let g := s.gallery.staging.getD f .reset
  let d := s.door f
  let gave := d.st == .open' && g.tr.kind = 2 && d.reactGiveUp
  let sev := if d.st == .fault then 4 else if d.st == .egress || gave then 3 else if g.tr.detect.isSome then 2 else 1
  let mode := s.parN Par.galleryTraceMode 0 0
  let keep := (mode = 2 || (mode = 1 && 2 ≤ sev)) && !g.tr.samples.isEmpty
  let lost := g.total - g.tr.samples.length
  let tr := { g.tr with
      sev := sev, optime := g.tr.optime + ((g.first + lost * g.tr.decim + 7) / 8 - (g.first + 7) / 8)
      detect := g.tr.detect.bind (fun k => if k < lost then none else some (k - lost))
      flags := g.tr.flags ||| BitVec.ofNat 8 (bitN (decide (0 < lost)) 0 + bitN g.tr.detect.isSome 1) }
  let s := s.modStaging f (fun g => { g with active := false, tr := tr, done := keep })
  if keep then s.modCyc f (fun c => { c with traced := true }) else s

/-- A trace under way ends where the doorway is no longer in its stroke. -/
def State.traceOver (s : State) (f : Nat) (kind : Option Nat) : State :=
  let g := s.gallery.staging.getD f .reset
  if g.active && kind ≠ some g.tr.kind then s.traceEnd f else s

end Sys2Proof.Machine
end

