-- ==== Sys2Proof/Machine/Digest.lean ====
section
/-! DEFINITION. The check sums and digests of the spec: CRC-32C (12 R411), the CRC-32 of safe frames (09 R303), the CRC-16 of
word frames and safety sets (08 R283), SHA-256 (FIPS 180-4) and HMAC-SHA-256 (FIPS 198-1). -/

namespace Sys2Proof.Machine

/-- One bit of a reflected CRC. -/
def crcBitR (poly c : BitVec 32) : BitVec 32 := if c.getLsbD 0 then (c >>> 1) ^^^ poly else c >>> 1

def crcByteR (poly : BitVec 32) (c : BitVec 32) (b : BitVec 8) : BitVec 32 :=
  let c := c ^^^ b.setWidth 32
  let f := crcBitR poly
  f (f (f (f (f (f (f (f c)))))))

/-- CRC-32C (12 R411): polynomial 0x1EDC6F41 reflected, initial value and final XOR all ones. -/
def crc32c (bs : Bytes) : BitVec 32 := ~~~ (bs.foldl (crcByteR 0x82F63B78) 0xFFFFFFFF)

def crcBitF32 (poly c : BitVec 32) : BitVec 32 := if c.getLsbD 31 then (c <<< 1) ^^^ poly else c <<< 1

def crcByteF32 (poly c : BitVec 32) (b : BitVec 8) : BitVec 32 :=
  let x : BitVec 32 := b.setWidth 32
  let f := crcBitF32 poly
  f (f (f (f (f (f (f (f (c ^^^ (x <<< 24)))))))))

/-- A CRC-32 that is not reflected. -/
def crc32f (poly init xorOut : BitVec 32) (bs : Bytes) : BitVec 32 := bs.foldl (crcByteF32 poly) init ^^^ xorOut

def crcBitF16 (poly c : BitVec 16) : BitVec 16 := if c.getLsbD 15 then (c <<< 1) ^^^ poly else c <<< 1

def crcByteF16 (poly c : BitVec 16) (b : BitVec 8) : BitVec 16 :=
  let x : BitVec 16 := b.setWidth 16
  let f := crcBitF16 poly
  f (f (f (f (f (f (f (f (c ^^^ (x <<< 8)))))))))

/-- The CRC-16 with polynomial 0x1021, initial value 0xFFFF, not reflected (08 R283). -/
def crc16 (bs : Bytes) : BitVec 16 := bs.foldl (crcByteF16 0x1021) 0xFFFF

/-! ### SHA-256

FIPS 180-4 takes its constants from the first primes: a round constant is the first 32 bits behind the point of a prime's
cube root, a starting word those of its square root. They are computed here, by a root taken bit by bit. -/

def primesTo64 : List Nat :=
  (List.range 312).filter (fun n => 2 ≤ n && (List.range 16).all (fun d => d + 2 = n || n % (d + 2) != 0))

/-- The whole `k`-th root of `n`, below `2 ^ bits`, one bit of it a call, the highest first. -/
def rootBits (k n : Nat) : Nat → Nat → Nat
  | 0, r => r
  | bits + 1, r => rootBits k n bits (if (r + 2 ^ bits) ^ k ≤ n then r + 2 ^ bits else r)

/-- The first 32 bits behind the point of the `k`-th root of `p`. -/
def rootFraction (k p : Nat) : BitVec 32 := BitVec.ofNat 32 (rootBits k (p * 2 ^ (32 * k)) 37 0)

/-- Where a digest stands. Of the eight working words the first four are the newest values of one running sequence, `top`,
and the other four the newest of a second, `low`: a round makes one new value of each. -/
structure ShaState where
  top : List (BitVec 32)
  low : List (BitVec 32)
deriving DecidableEq, Repr

def ShaState.init : ShaState :=
  ⟨(primesTo64.take 4).map (rootFraction 2), ((primesTo64.drop 4).take 4).map (rootFraction 2)⟩

def ShaState.bytes (s : ShaState) : Bytes := (s.top ++ s.low).flatMap (fun w => beBytes 4 w.toNat)

/-- The sum of a word turned right by each of the amounts. -/
def turned (w : BitVec 32) (by_ : List Nat) : BitVec 32 := by_.foldl (fun x r => x ^^^ w.rotateRight r) 0

/-- One round with the constant and the schedule word already added up. -/
def ShaState.round (s : ShaState) (kw : BitVec 32) : ShaState :=
  match s.top, s.low with
  | [p, q, r, o], [x, y, z, v] =>
    let choice := z ^^^ (x &&& (y ^^^ z))
    let majority := (p &&& (q ||| r)) ||| (q &&& r)
    let fresh := v + turned x [6, 11, 25] + choice + kw
    ⟨[fresh + turned p [2, 13, 22] + majority, p, q, r], [o + fresh, x, y, z]⟩
  | _, _ => s

/-- The rounds over the constants `ks`; `ws` is the window of the sixteen schedule words next to use, oldest first. -/
def ShaState.rounds (s : ShaState) : List (BitVec 32) → List (BitVec 32) → ShaState
  | k :: ks, w :: ws =>
    let far := ws.getD 0 0
    let near := ws.getD 13 0
    let next := w + (turned far [7, 18] ^^^ (far >>> 3)) + ws.getD 8 0 + (turned near [17, 19] ^^^ (near >>> 10))
    (s.round (k + w)).rounds ks (ws ++ [next])
  | _, _ => s

def bigEndianWords : Nat → Bytes → List (BitVec 32)
  | 0, _ => []
  | n + 1, bs => BitVec.ofNat 32 (beNat (bs.take 4)) :: bigEndianWords n (bs.drop 4)

/-- The digest over `n` blocks of 64 bytes, `ks` the round constants. -/
def ShaState.absorb (ks : List (BitVec 32)) : Nat → Bytes → ShaState → ShaState
  | 0, _, s => s
  | n + 1, bs, s =>
    let t := s.rounds ks (bigEndianWords 16 bs)
    absorb ks n (bs.drop 64) ⟨List.zipWith (· + ·) s.top t.top, List.zipWith (· + ·) s.low t.low⟩

def sha256 (bs : Bytes) : Bytes :=
  let bits := 8 * bs.length
  let zeros := (119 - bs.length % 64) % 64
  let m := bs ++ 0x80 :: (List.replicate zeros 0 ++ beBytes 8 bits)
  (ShaState.absorb (primesTo64.map (rootFraction 3)) (m.length / 64) m .init).bytes

/-- HMAC-SHA-256 under a key of at most 64 bytes. -/
def hmac (key bs : Bytes) : Bytes :=
  let k := key ++ List.replicate (64 - key.length) 0
  sha256 (k.map (· ^^^ 0x5C) ++ sha256 (k.map (· ^^^ 0x36) ++ bs))

/-- A MAC: the first 16 bytes of HMAC-SHA-256 (12 R411). -/
def mac16 (key bs : Bytes) : Bytes := (hmac key bs).take 16

end Sys2Proof.Machine
end

