-- ==== Sys2Proof/Machine/NetOps.lean ====
section
/-! DEFINITION. What LE sends on the train network (09 R315 to R321, 12 R412, R413): Ethernet, IPv4 and UDP bytes, the fragments of a
datagram, the ports of the switch by which a frame leaves. -/

namespace Sys2Proof.Machine

/-! ### Ethernet and IPv4 bytes -/

/-- The queue of a frame by PCP: untagged frames take the lowest (09 R315). -/
def frameQueue (bs : Bytes) : Nat := if beNat ((bs.drop 12).take 2) = 0x8100 then beNat ((bs.drop 14).take 2) / 8192 / 2 else 0

def groupAddress (mac : Nat) : Bool := mac / 2 ^ 40 % 2 = 1

/-- The ones' complement sum of 16-bit words, big-endian, of a byte string. -/
def onesSum : Bytes → Nat
  | [] => 0
  | [a] => a.toNat * 256
  | a :: b :: bs => (fun n => if n < 65536 then n else n - 65535) (a.toNat * 256 + b.toNat + onesSum bs)

def inetChecksum (bs : Bytes) : Bytes := beBytes 2 (65535 - onesSum bs)

/-- DESIGN CHOICE (log 14). -/
def macBytes : Bytes := beBytes 6 Config.macAddr.toNat

/-- A multicast or broadcast IPv4 address. -/
def groupIp (ip : BitVec 32) : Bool := ip.toNat / 2 ^ 28 = 14 || ip = 0xFFFFFFFF

/-- The station to which a datagram is handed: the destination, or the gateway where there is one and the destination is not of the module's
subnet (12 R438). -/
def State.nextHop (s : State) (dest : BitVec 32) : BitVec 32 :=
  let mask := s.par Par.hostlinkNetmask 0 0
  let gate := s.par Par.hostlinkGateway 0 0
  if gate = 0 || (dest &&& mask) = (s.par Par.hostlinkIp 0 0 &&& mask) then dest else gate

/-- The Ethernet address of a datagram's destination: that of a group is made from the group's, that of a station is what address resolution
finds. PRESUMED (log 92). -/
def State.destMac (s : State) (dest : BitVec 32) : Nat :=
  if dest = 0xFFFFFFFF then 0xFFFFFFFFFFFF
  else if groupIp dest then 0x01005E000000 + dest.toNat % 2 ^ 23
  else (Config.stationMac (s.nextHop dest)).toNat

/-- An IPv4 packet from the module in its Ethernet frame: DSCP, identification, fragment word, TTL, protocol, destination, options, body.
PRESUMED (log 92). -/
def State.ipFrame (s : State) (dscp ident frag ttl proto : Nat) (dest : BitVec 32) (opts body : Bytes) : Bytes :=
  let len := 20 + opts.length
  let head := [BitVec.ofNat 8 (64 + len / 4), BitVec.ofNat 8 (4 * dscp)] ++ beBytes 2 (len + body.length) ++ beBytes 2 ident ++
    beBytes 2 frag ++ [BitVec.ofNat 8 ttl, BitVec.ofNat 8 proto]
  let rest := beBytes 4 (s.parN Par.hostlinkIp 0 0) ++ beBytes 4 dest.toNat ++ opts
  beBytes 6 (s.destMac dest) ++ macBytes ++ beBytes 2 0x800 ++ head ++ inetChecksum (head ++ [0, 0] ++ rest) ++ rest ++ body

/-- A byte string in pieces of `size`, `n` at the most. -/
def pieces (size : Nat) : Nat → Bytes → List Bytes
  | 0, _ => []
  | n + 1, bs => if bs.length ≤ size then [bs] else bs.take size :: pieces size n (bs.drop size)

/-- A UDP datagram with its checksum. -/
def State.udpBytes (s : State) (dest : BitVec 32) (sport dport : Nat) (data : Bytes) : Bytes :=
  let len := beBytes 2 (8 + data.length)
  let ports := beBytes 2 sport ++ beBytes 2 dport
  let sum := inetChecksum (beBytes 4 (s.parN Par.hostlinkIp 0 0) ++ beBytes 4 dest.toNat ++ [0, 17] ++ len ++ ports ++ len ++ [0, 0] ++ data)
  ports ++ len ++ (if beNat sum = 0 then [0xFF, 0xFF] else sum) ++ data

/-- The frames of a datagram: one, or up to four with its IPv4 fragments (12 R413). Identification and TTL are free values. DESIGN CHOICE
(log 95). -/
def State.udpFrames (s : State) (dest : BitVec 32) (sport dport dscp : Nat) (data : Bytes) : List Bytes :=
  let parts := pieces 1480 4 (s.udpBytes dest sport dport data)
  let ident := (Config.ipIdent s.outs.length).toNat
  (parts.zip (List.range parts.length)).map (fun (b, k) =>
    s.ipFrame dscp ident (185 * k + if k + 1 < parts.length then 0x2000 else 0) Config.ipTtl.toNat 17 dest [] b)

/-! ### The switch's third port (09 R315) -/

/-- A learned port that has not aged out. DESIGN CHOICE (log 43). -/
def State.learned (s : State) (mac : Nat) : Option Nat :=
  (s.train.table.find? (fun e => e.mac.toNat = mac && decide (s.tick < e.tick + 300000))).map (·.port)

/-- The ports by which a frame of LE leaves the switch: that of a learned destination, or both (09 R315). -/
def State.lePorts (s : State) (frame : Bytes) : List Nat :=
  let dst := beNat (frame.take 6)
  match if groupAddress dst then none else s.learned dst with
  | some q => [q]
  | none => [0, 1]

/-- LE sends a frame. -/
def State.sendFrame (s : State) (frame : Bytes) : State := s.send (.net (s.lePorts frame) (frameQueue frame) frame)

/-- LE sends a datagram. -/
def State.sendUdp (s : State) (dest : BitVec 32) (sport dport dscp : Nat) (data : Bytes) : State :=
  (s.udpFrames dest sport dport dscp data).foldl State.sendFrame s

end Sys2Proof.Machine
end

