-- ==== Sys2Proof/Machine/Session.lean ====
section
/-! DEFINITION. Host packets (12): their bytes, the checks of R414 from step 2 on, sessions and their end, replies and the reply
cache. -/

namespace Sys2Proof.Machine

/-! ### Bytes of a packet (12 R410) -/

/-- Header, payload and CRC. -/
def packetBytes (flags seq session opcode addr hall status : Nat) (payload : Bytes) : Bytes :=
  let body := leBytes 2 0x4C56 ++ [1, BitVec.ofNat 8 flags] ++ leBytes 2 seq ++ leBytes 2 session ++ leBytes 2 opcode
    ++ leBytes 1 addr ++ leBytes 1 hall ++ leBytes 2 payload.length ++ leBytes 2 status ++ leBytes 4 0 ++ payload
  body ++ leBytes 4 (crc32c body).toNat

/-- The bytes of a request before its MAC. -/
def requestBytes (opcode : Nat) (k : Pkt) : Bytes :=
  packetBytes (bitN k.hdr.mac.isSome 1) k.hdr.seq.toNat k.hdr.session.toNat opcode k.hdr.addr.toNat k.hdr.hall.toNat 0 k.payload

/-- The CRC that a request carries. -/
def requestCrc (opcode : Nat) (k : Pkt) : BitVec 32 :=
  let bs := requestBytes opcode k
  word32 (leNat (bs.drop (bs.length - 4)))

/-! ### Frames on SV (12 R433) -/

/-- COBS: the bytes up to the next zero, in blocks of 254 at the most, each behind its length; `block` is the block begun. -/
def cobs (block : Bytes) : Bytes → Bytes
  | [] => BitVec.ofNat 8 (block.length + 1) :: block
  | b :: bs =>
    if b = 0 then BitVec.ofNat 8 (block.length + 1) :: block ++ cobs [] bs
    else if block.length = 253 then 255 :: block ++ b :: cobs [] bs
    else cobs (block ++ [b]) bs

/-- COBS decoded, with fuel; none where a length runs past the end or a zero stands in the frame. -/
def uncobs : Nat → Bytes → Option Bytes
  | 0, _ => none
  | _, [] => some []
  | n + 1, c :: bs =>
    let k := c.toNat - 1
    let rest := bs.drop k
    if c = 0 || bs.length < k || (bs.take k).contains 0 then none
    else (uncobs n rest).map (fun r => bs.take k ++ (if c ≠ 255 && !rest.isEmpty then [0] else []) ++ r)

/-! ### Sessions -/

def State.session? (s : State) (num : BitVec 16) : Option Session := s.host.sessions.find? (fun x => x.num = num)

def State.modSession (s : State) (num : BitVec 16) (f : Session → Session) : State :=
  { s with host := { s.host with sessions := s.host.sessions.map (fun x => if x.num = num then f x else x) } }

/-- Permissions (12 R415). -/
inductive Perm where
  | read
  | door
  | reset
  | param
  | service
  | config
deriving DecidableEq, Repr

/-- Whether a role holds a permission (12 R415). -/
def roleHas (role : Nat) : Perm → Bool
  | .read => role ≤ 5
  | .door => 1 ≤ role && role ≤ 5
  | .reset => 2 ≤ role && role ≤ 5
  | .param => role == 2 || role == 4 || role == 5
  | .service => role == 4 || role == 5
  | .config => role == 5

/-- The rank of a role's door commands (12 R415). -/
def roleRank (role : Nat) : Rank :=
  match role with
  | 1 => .passenger
  | 2 => .program
  | _ => .crew

def Rank.code : Rank → Nat
  | .safety => 0
  | .crew => 1
  | .program => 2
  | .passenger => 3

/-! ### Replies (12 R412, R414, R423) -/

/-- The request as its reply needs it. -/
def pendOf (opcode : Nat) (h : Hdr) : Pend := ⟨h.sv, h.src, h.seq, h.session, BitVec.ofNat 16 opcode, false⟩

/-- A reply to a request, with a MAC when a key is given. DEDUCED (log 54). -/
def State.buildReply (s : State) (p : Pend) (key : Option Bytes) (status item : Nat) (payload : Bytes) : Reply :=
  let body := leBytes 4 item ++ payload
  let bs := packetBytes (1 + bitN key.isSome 1) p.seq.toNat p.session.toNat p.opcode.toNat s.sealAddr 0 status body
  let mac := key.map (fun k => mac16 k bs)
  { sv := p.sv, src := p.src, seq := p.seq, session := p.session, opcode := p.opcode, status := BitVec.ofNat 8 status,
    item := word32 item, payload := payload, mac := mac, packet := bs ++ mac.getD [] }

/-- The UDP port of host packets (09 R317). -/
def hostPort : Nat := 48960

/-- A reply leaves for the source of its request: on SV in a COBS frame, over UDP in a datagram, fragmented where it is long (12 R412, R413,
R433). -/
def State.sendReply (s : State) (r : Reply) : State :=
  let s := if r.sv then s.send (.sv (cobs [] r.packet ++ [0]))
    else s.sendUdp (BitVec.ofNat 32 (r.src.toNat / 65536)) hostPort (r.src.toNat % 65536) 0 r.packet
  s.send (.reply r)

/-- A reply that is neither cached nor counted against a deferred request. DEDUCED (log 54). -/
def State.replyRaw (s : State) (p : Pend) (key : Option Bytes) (status item : Nat) (payload : Bytes) : State :=
  s.sendReply (s.buildReply p key status item payload)

/-- Keep a reply for retransmission (12 R418). -/
def cacheReply (l : List Cached) (seq : BitVec 16) (r : Reply) : List Cached :=
  l.map (fun c => if c.seq = seq && c.reply.isNone then { c with reply := some r } else c)

/-- The answer to an accepted request: sent, cached, and the request is no longer deferred. The reply of a session that has ended is
discarded (12 R420, R423). DEDUCED (log 54). -/
def State.answer (s : State) (p : Pend) (status item : Nat) (payload : Bytes) : State :=
  let s := { s with host := { s.host with pends := s.host.pends.filter (fun q => q ≠ p) } }
  if p.ended then s
  else if p.session = 0 then s.replyRaw p none status item payload
  else match s.session? p.session with
    | none => s
    | some x =>
      if x.src ≠ p.src || x.sv ≠ p.sv then s
      else
        let r := s.buildReply p x.key status item payload
        (s.modSession p.session (fun x => { x with cache := cacheReply x.cache p.seq r })).sendReply r

/-- The request of the exclusive operation under way is answered (12 R423). -/
def State.answerExclusive (s : State) (status item : Nat) (payload : Bytes) : State :=
  match s.host.exclusive with
  | none => s
  | some p => ({ s with host := { s.host with exclusive := none } }).answer p status item payload

/-- The answer to the deferred request of a session with a sequence number, if it still waits. -/
def State.answerSeq (s : State) (session seq : BitVec 16) (status item : Nat) (payload : Bytes) : State :=
  match s.host.pends.find? (fun p => p.session = session && p.seq = seq) with
  | none => s
  | some p => s.answer p status item payload

/-! ### The end of a session (12 R420) -/

/-- A request whose session ends. -/
def Pend.endOf (p : Pend) (num : BitVec 16) : Pend := if p.session = num then { p with ended := true } else p

/-- A motion command on its way whose session ends: it is judged, and its reply discarded (12 R420). -/
def AxReq.endOf (r : AxReq) (num : BitVec 16) : AxReq :=
  match r.from' with
  | .host p => { r with from' := .host (p.endOf num) }
  | _ => r

/-- Each axis that a session holds, or has a command on its way to, receives STOP behind it. DEDUCED (log 34). -/
def State.dropAxes (s : State) (num : BitVec 16) : State :=
  let s := s.forEach 36 (fun s a =>
    let on := (s.axis a).inbox.any (fun r => match r.from' with | .host p => p.session = num && !p.ended | _ => false)
    let s := s.modAxis a (fun x => { x with inbox := x.inbox.map (·.endOf num) })
    if on || s.host.holders.any (fun h => h.axis = a && h.session = num) then s.seqCmd a .stop else s)
  { s with host := { s.host with holders := s.host.holders.filter (fun h => h.session ≠ num) } }

/-- Its door entries in a latch stand, and their replies are discarded (12 R420). -/
def State.dropDoors (s : State) (num : BitVec 16) : State :=
  let quiet (e : LatchEntry) : LatchEntry := if e.session = num.toNat then { e with reply := none } else e
  s.forEach 12 (fun s f => s.modDoor f (fun d => { d with
    slots := d.slots.map quiet, losers := d.losers.map quiet, taken := d.taken.map quiet, lost := d.lost.map quiet }))

/-- A session ends with a cause: its axes stop, its transfers are abandoned, its deferred replies are discarded; a signed report that it
asked for is no longer given out (14 R489). -/
def State.closeSession (s : State) (num : BitVec 16) (cause : Nat) : State :=
  match s.session? num with
  | none => s
  | some _ =>
    let s := (s.dropAxes num).dropDoors num
    let s := { s with
        host := { s.host with
            sessions := s.host.sessions.filter (fun x => x.num ≠ num), xfers := s.host.xfers.filter (fun x => x.session ≠ num),
            pends := s.host.pends.filter (fun p => p.session ≠ num), exclusive := s.host.exclusive.map (fun (p : Pend) => p.endOf num)
            modeReq := s.host.modeReq.map (fun (r : Pend × Mode × Nat) => (r.1.endOf num, r.2)) }
        sec := { s.sec with
            report := s.sec.report.filter (fun r => r.1 ≠ num)
            attesting := s.sec.attesting.map (fun (x : Attest) => { x with pend := x.pend.endOf num }) } }
    s.record Evt.hostSessionClosed noSource [word32 num.toNat, word32 cause]

/-! ### Failed authentication and lockout (12 R419) -/

def xIdx (sv : Bool) : Nat := if sv then 0 else 1

/-- A lockout of a transport is in force. -/
def State.lockedOut (s : State) (sv : Bool) : Bool :=
  match s.host.lockouts.getD (xIdx sv) none with
  | none => false
  | some t => decide (s.tick < t)

/-- An AUTH_FAIL on a transport: twenty in 60 s lock it out (12 R419). -/
def State.countFail (s : State) (sv : Bool) : State :=
  let i := xIdx sv
  let stamps := s.stamp :: (s.host.authStamps.getD i []).filter (fun t => s.stamp < t + 60000)
  let lock := decide (20 ≤ stamps.length) && !s.lockedOut sv
  let s := { s with
      host := { s.host with
          authStamps := s.host.authStamps.set i (if lock then [] else stamps)
          lockouts := if lock then s.host.lockouts.set i (some (s.stamp + 60000)) else s.host.lockouts } }
  s.recordIf lock Evt.hostLockout noSource [word32 i]

/-- An AUTH_FAIL in a session: five in a row close it (12 R419). -/
def State.failIn (s : State) (x : Session) : State :=
  let s := (s.countFail x.sv).modSession x.num (fun x => { x with fails := x.fails + 1 })
  if 5 ≤ x.fails + 1 then s.closeSession x.num 2 else s

/-- A wrong MAC or a wrong proof in a session: counted, recorded at most once per 10 s, and an AUTH_FAIL (12 R419). -/
def State.authFailed (s : State) (x : Session) : State :=
  let s := { s with host := { s.host with authFails := s.host.authFails + 1 } }
  (s.recordLimited Evt.hostAuthFail noSource [word32 x.num.toNat, word32 x.slot, word32 (x.src.toNat / 65536)] 10000).failIn x

/-! ### The checks of a received packet (12 R414 steps 2 and 7 to 12) -/

/-- What an opcode asks of a request: its code, the permission, whether it is open to a pending session or to SESSION 0, whether its
length fits, whether HALL may name a copy, whether the module state permits it, whether its reply is deferred. -/
structure OpSpec where
  code : Nat
  perm : Perm
  pendingOk : Bool := false
  noSession : Bool := false
  lenOk : Bool
  hallOk : Bool := false
  stateOk : Bool := true
  deferred : Bool := false
  permOk : Bool := true

/-- How a packet passes the checks: it is settled, or it is served for a role in a session (none for SESSION 0). -/
inductive Admit where
  | settled (s : State)
  | served (s : State) (p : Pend) (role : Nat) (session : Option Session)

/-- Steps 10 to 12, and the limit on deferred requests (12 R423). -/
def State.admitLate (s : State) (o : OpSpec) (k : Pkt) (p : Pend) (role : Nat) (x : Option Session) : Admit :=
  if !roleHas role o.perm || !o.permOk then .settled (s.answer p stAuthRequired 0 [])
  else if !o.lenOk then .settled (s.answer p stBadLength 0 [])
  else if k.hdr.hall ≠ 0 && !(o.hallOk && k.hdr.hall.toNat ≤ 2) then .settled (s.answer p stRange 0 [])
  else if !o.stateOk then .settled (s.answer p stState 0 [])
  else if o.deferred then
    if 4 ≤ (s.host.pends.filter (fun q => q.session = p.session)).length then .settled (s.answer p stBusy 0 [])
    else .served { s with host := { s.host with pends := s.host.pends ++ [p] } } p role x
  else .served s p role x

/-- Step 9 (12 R418). -/
def State.admitSeq (s : State) (o : OpSpec) (k : Pkt) (p : Pend) (x : Session) : Admit :=
  let crc := requestCrc o.code k
  match x.cache.find? (fun c => c.seq = k.hdr.seq) with
  | some c =>
    if c.crc ≠ crc then .settled (s.replyRaw p x.key stSeqStale 0 [])
    else match c.reply with
      | some r => .settled (s.sendReply r)
      | none => .settled (s.replyRaw p x.key stAccepted 0 [])
  | none =>
    let d := (k.hdr.seq - x.high).toNat
    if 1 ≤ d ∧ d ≤ 1024 then
      let s := s.modSession x.num (fun x => { x with
          high := k.hdr.seq, lastTick := s.stamp, cache := (⟨k.hdr.seq, crc, none⟩ :: x.cache).take 8 })
      s.admitLate o k p x.role (some x)
    else .settled (s.replyRaw p x.key stSeqStale 0 [])

/-- A transport is up: LE runs with Hall A, and UDP also needs an address (01 R26, 12 R434). -/
def State.linkUp (s : State) (sv : Bool) : Bool := s.hallAUp && (sv || decide (s.parN Par.hostlinkIp 0 0 ≠ 0))

/-- Steps 2, 7 and 8 (12 R414). -/
def State.vet (s : State) (o : OpSpec) (k : Pkt) : Admit :=
  let h := k.hdr
  let p := pendOf o.code h
  if !s.linkUp h.sv then .settled s
  else if h.addr ≠ 0xFF && (s.safety.sealRd.value.isNone || h.addr.toNat ≠ s.sealAddr) then
    .settled { s with host := { s.host with rxMisaddr := s.host.rxMisaddr + 1 } }
  else if h.session = 0 then
    if !o.noSession then .settled (s.replyRaw p none stAuthRequired 0 [])
    else if h.mac.isSome then .settled (s.replyRaw p none stRange 0 [])
    else s.admitLate o k p 0 none
  else match s.session? h.session with
    | none => .settled (s.replyRaw p none stAuthRequired 0 [])
    | some x =>
      if x.sv ≠ h.sv || x.src ≠ h.src || (x.pending && !o.pendingOk) then .settled (s.replyRaw p none stAuthRequired 0 [])
      else match x.key, h.mac with
        | none, some _ => .settled (s.replyRaw p none stRange 0 [])
        | some _, none => .settled (s.replyRaw p none stAuthRequired 0 [])
        | some key, some m =>
          if m = mac16 key (requestBytes o.code k) then
            (s.modSession x.num (fun x => { x with fails := 0 })).admitSeq o k p x
          else .settled ((s.replyRaw p none stAuthFail 0 []).authFailed x)
        | none, none => s.admitSeq o k p x

end Sys2Proof.Machine
end

