-- ==== Sys2Proof/Machine/DoorOps.lean ====
section
/-! DEFINITION. The doorway sequencers (06): command latch, DOOR, STEP and LOCK state machines, reference runs, start of service. -/

namespace Sys2Proof.Machine

/-! ### Conditions -/

def State.permission (s : State) (f : Nat) : Bool := (s.fsafe f).permission

/-- Closed both, locked both, locked both inactive (06 R201). -/
def State.closedBoth (s : State) (f : Nat) : Bool := s.both (12 * f)
def State.lockedBoth (s : State) (f : Nat) : Bool := s.both (12 * f + 2)
def State.lockedNone (s : State) (f : Nat) : Bool := s.neither (12 * f + 2)

/-- The flight's STEP axis is not NONE. -/
def State.stepFitted (s : State) (f : Nat) : Bool := s.axType (stepOf f) ≠ 0

/-- FLIGHT.STEP_SEQ: 0 NONE, 1 BEFORE, 2 PARALLEL, 3 GEARED. -/
def State.stepSeq (s : State) (f : Nat) : Nat := s.parN Par.flightStepSeq f 0

/-- Both step-retracted lines are UNUSED (06 R212). -/
def State.noHomeSwitch (s : State) (f : Nat) : Bool := s.lineUse (12 * f + 10) = 0 && s.lineUse (12 * f + 11) = 0

/-- An axis lies within INPOS_WIN of a position (05 R178). -/
def State.nearPos (s : State) (a : Nat) (pos : Int) : Bool :=
  decide (((s.axis a).pos - pos).natAbs ≤ s.parN Par.axisInposWin a 0)

/-- An axis whose position may not be relied on (06 R209). -/
def State.unsure (s : State) (a : Nat) : Bool := s.isPhase a && (!(s.axis a).referenced || (s.axis a).posUncertain)

/-- Any axis of the flight is unreferenced or uncertain. -/
def State.flightUnsure (s : State) (f : Nat) : Bool := s.unsure (leafOf f) || s.unsure (stepOf f)

/-- Retracted both (06 R201, R212). -/
def State.retractedBoth (s : State) (f : Nat) : Bool :=
  if s.noHomeSwitch f then
    let a := stepOf f
    !s.unsure a && s.nearPos a (s.flightZ Par.flightStepRetPos f 0) && ((s.axis a).st == .hold || (s.axis a).st == .idle)
  else s.both (12 * f + 10)

/-- The leaf is in HOLD within INPOS_WIN of a position, with no command on its way. -/
def State.leafAt (s : State) (f : Nat) (pos : Int) : Bool :=
  (s.axis (leafOf f)).st == .hold && s.atRest (leafOf f) && s.nearPos (leafOf f) pos

def State.setDoor (s : State) (f : Nat) (g : Door → Door) : State := s.modDoor f g

/-- Hold an axis by a positioned move to its present position. -/
def State.holdHere (s : State) (a : Nat) : State := s.seqCmd a (.moveAbs (s.axis a).pos 0 false)

/-- STOP on an axis that moves, or is about to. -/
def State.stopMoving (s : State) (a : Nat) : State := if s.atRest a then s else s.seqCmd a .stop

/-! ### LOCK (06 R213) -/

/-- The LOCK block leaves for a state. -/
def State.enterLock (s : State) (f : Nat) (st : LockState) : State :=
  s.setDoor f (fun d => { d with lockSt := st, lockSince := s.stamp })

/-- ENGAGE: DEENERGIZE, and ENGAGING. A LOCK in FAULT waits for RESET. -/
def State.lockEngage (s : State) (f : Nat) : State :=
  let s := s.seqCmd (lockOf f) .deenergize
  if (s.door f).lockSt == .fault then s else s.enterLock f .engaging

/-- RELEASE in LOCKED or ENGAGING, with the permission. -/
def State.lockRelease (s : State) (f : Nat) : Nat × State :=
  let st := (s.door f).lockSt
  if !s.permission f || !(st == .locked || st == .engaging) then (stState, s)
  else (stOK, (s.seqCmd (lockOf f) .energize).enterLock f .releasing)

/-- RESET in FAULT; a LOCK in FAULT takes no other command. DEDUCED (log 37). -/
def State.lockReset (s : State) (f : Nat) : Nat × State :=
  if (s.door f).lockSt == .fault then (stOK, s.enterLock f .engaging) else (stState, s)

/-- The tick from which the engage timeout counts (06 R213). -/
def State.lockFrom (s : State) (f : Nat) : Nat :=
  let d := s.door f
  if s.hasDoor f && d.st == .locking then max d.lockSince d.since else d.lockSince

/-- A LOCK timeout is due: release or engage (06 R213). What is met at exactly the stated time is too late (R201). A bolt cannot enter the
keeper of an open leaf, so a LOCK driven by DOOR counts from LOCKING. DEDUCED (log 67). -/
def State.lockTimedOut (s : State) (f : Nat) : Bool :=
  let d := s.door f
  match d.lockSt with
  | .releasing => decide (d.lockSince + s.parN Par.flightUnlockMs f 0 ≤ s.ms)
  | .engaging => (!s.hasDoor f || d.st == .locking) && decide (s.lockFrom f + s.parN Par.flightLockMs f 0 ≤ s.ms)
  | _ => false

/-- The LOCK block enters FAULT; `lost` says that a locked line was lost in LOCKED. -/
def State.lockFails (s : State) (f : Nat) (lost : Bool) : State :=
  ((s.seqCmd (lockOf f) .deenergize).enterLock f .fault).setDoor f (fun d => { d with lockLost := lost })

/-- One evaluation of the LOCK block without its timeouts: a locked line lost in LOCKED leads to FAULT in every state of the doorway (06 R213).
DEDUCED (log 67). -/
def State.lockEval (s : State) (f : Nat) : State :=
  match (s.door f).lockSt with
  | .engaging => if s.lockedBoth f && !s.lockTimedOut f then s.enterLock f .locked else s
  | .releasing =>
    if !s.permission f then s.lockEngage f
    else if s.lockedNone f && !s.lockTimedOut f then s.enterLock f .released else s
  | .released => if !s.permission f then s.lockEngage f else s
  | .locked => if s.lockedBoth f then s else s.lockFails f true
  | _ => s

/-! ### Gear laws of a stroke (06 R202) -/

/-- The entries and the starting ratio of a direction's law; on a reversal, the entries whose position the leaf has already reached in
the new direction are left out, and the ratio of the last of them starts the law. -/
def State.lawOf (s : State) (f : Nat) (opening reversal : Bool) : Rat × Nat × List GearEntry :=
  let a := stepOf f
  let own (r : ParRow) (k : Nat) : BitVec 32 := s.flightPar r f k
  let ratio : Rat := if opening then (s.parZ Par.axisGearNum a 0 : Rat) / (s.parN Par.axisGearDen a 0 : Rat)
    else (s.flightZ Par.flightCgearNum f 0 : Rat) / (s.flightN Par.flightCgearDen f 0 : Rat)
  let blend := if opening then s.parN Par.axisGearBlend a 0 else s.flightN Par.flightCgearBlend f 0
  let es := if opening then
      gearEntries (fun r k => s.par r a k) Par.axisGearChgPos Par.axisGearChgNum Par.axisGearChgDen Par.axisGearChgCfg
    else gearEntries own Par.flightCgearChgPos Par.flightCgearChgNum Par.flightCgearChgDen Par.flightCgearChgCfg
  let pos := (s.axis (leafOf f)).pos
  let passed (e : GearEntry) : Bool := if e.up then decide (e.pos ≤ pos) else decide (pos ≤ e.pos)
  if reversal then
    let out := es.filter passed
    let ratio := match out.getLast? with | some e => e.ratio | none => ratio
    (ratio, blend, es.filter (fun e => !passed e))
  else (ratio, blend, es)

/-- Engage the step to the leaf's feedback port: a GEAR_ENGAGE that carries the law of a direction. -/
def State.engageStep (s : State) (f : Nat) (opening reversal : Bool) : State :=
  match s.fbPort (leafOf f) with
  | none => s
  | some p =>
    let (ratio, blend, es) := s.lawOf f opening reversal
    s.seqCmd (stepOf f) (.gearLaw p ratio blend es)

/-! ### STEP (06 R212) -/

def State.enterStep (s : State) (f : Nat) (st : StepState) : State :=
  s.setDoor f (fun d => { d with stepSt := st, stepHoldAt := none })

/-- The step's position at one end. -/
def State.stepEnd (s : State) (f : Nat) (extend : Bool) : Int :=
  if extend then s.flightZ Par.flightStepExtPos f 0 else s.flightZ Par.flightStepRetPos f 0

/-- A positioned move of the step to one end. -/
def State.moveStep (s : State) (f : Nat) (extend : Bool) : State :=
  s.seqCmd (stepOf f) (.moveAbs (s.stepEnd f extend) (s.flightR Par.flightStepVmax f 0) false)

/-- EXTEND, with the permission and the axis referenced. -/
def State.stepExtend (s : State) (f : Nat) : Nat × State :=
  if !s.permission f || s.unsure (stepOf f) || !s.stepFitted f then (stState, s)
  else
    match (s.door f).stepSt with
    | .retracted | .stopped | .retracting => (stOK, (s.enterStep f .extending).moveStep f true)
    | .extending | .extended => (stOK, s)
    | _ => (stState, s)

/-! ### Reference runs (06 R214 to R222) -/

/-- A reference run is under way. -/
def RefRun.active (r : RefRun) : Bool :=
  match r.st with
  | .step | .leafSearch | .leafIndex | .leafFinal => true
  | _ => false

/-- The axis whose part of the run is under way. -/
def RefRun.axisOf (r : RefRun) (f : Nat) : Nat := if r.st == .step then stepOf f else leafOf f

def State.modRef (s : State) (f : Nat) (g : RefRun → RefRun) : State := s.setDoor f (fun d => { d with ref := g d.ref })

/-- The home condition of the part under way. -/
def State.homeNow (s : State) (f : Nat) : Bool :=
  if (s.door f).ref.st == .step then s.both (12 * f + 10) else s.closedBoth f

/-- The end-of-travel limit of the part under way is active (06 R218). -/
def State.limitNow (s : State) (f : Nat) : Bool :=
  let code := if (s.door f).ref.st == .step then s.parN Par.flightStepRefLimit f 0 else s.parN Par.flightRefLimit f 0
  if code / 256 = 1 then s.active (12 * f + code % 256)
  else if code / 256 = 2 then
    let x := s.port (2 * f + code % 256 / 2)
    let r := if code % 2 = 1 then x.reedB else x.reedA
    r.deb && r.valid
  else false

/-- Begin the part of an axis. -/
def State.startPart (s : State) (f : Nat) (step : Bool) : State :=
  let a := if step then stepOf f else leafOf f
  let s := s.modRef f (fun r => { r with
      st := if step then .step else .leafSearch
      phase := .start, lastPos := (s.axis a).pos, travel := 0, stamps := [], stallSince := none, waitPerm := false
      revNow := false, closedStart := s.closedBoth f })
  let s := s.modRef f (fun r => { r with homeWas := s.homeNow f, limitWas := s.limitNow f })
  if step then s.enterStep f .referencing else s

/-- Start a run of both axes, or of one alone (06 R214, R222). -/
def State.startRun (s : State) (f : Nat) (single : Option Nat) (service : Bool) : State :=
  let s := s.modRef f (fun _ => { RefRun.reset with
      single := single, service := service, method := s.parN Par.flightRefMethod f 0 })
  s.startPart f (s.stepFitted f && (single = none || single = some (stepOf f)) && (s.isPhase (stepOf f)))

/-- The value of ABORT of a run's end, with the event of its record (06 R223, R226). -/
def abortEvt (code : Nat) : Option EvCode :=
  match code with
  | 1 => some Evt.homeLimitChatter
  | 2 => some Evt.homeNotFound
  | 3 => some Evt.homeIndexMissing
  | _ => none

/-- A run aborts or is interrupted: the moving axes take QUICK_STOP and the axis of the part stays unreferenced (06 R220). -/
def State.abortRun (s : State) (f : Nat) (code : Nat) : State :=
  let r := (s.door f).ref
  if !r.active then s
  else
    let a := r.axisOf f
    let s := (s.seqCmd (leafOf f) .quickStop).seqCmd (stepOf f) .quickStop
    let s := s.modAxis a (fun x => { x with referenced := false })
    let s := s.modRef f (fun r => { r with st := .aborted, abort := code, waitPerm := false })
    let s := if (s.door f).stepSt == .referencing then s.enterStep f .stopped else s
    match abortEvt code with
    | none => s
    | some e => s.record e f [word32 a]

/-! ### Entry to a DOOR state (06 R200, R226) -/

/-- A state in which the leaf is on a stroke. -/
def DoorState.strokes : DoorState → Bool
  | .opening | .closing | .reversing => true
  | _ => false

/-- Entry to a state: the stay that ends counts into the cycle record, a stroke that ends takes its kept parameters with it, a LOCK that is
released engages where the state turns the solenoid off (06 R200, R213, R224, R226). WARN that stands in REVERSING stays where the door leaves
it for ISOLATED, EGRESS or FAULT. DESIGN CHOICE (log 90). -/
def State.enterDoor (s : State) (f : Nat) (st : DoorState) : State :=
  let d := s.door f
  let s := s.modCyc f (fun c => c.stay d.st (s.stamp - d.since))
  let ends : Bool := match st with
    | .closedLocked => !d.ref.service
    | .fault | .isolated | .egress => d.st != .closedLocked && d.st != .inactive
    | _ => false
  let code := match st with | .closedLocked => 2 | .isolated => 9 | .egress => 10 | _ => 11
  let released := d.lockSt == .releasing || d.lockSt == .released
  let s := if (st == .referencing || st == .locking) && released then s.lockEngage f else s
  let s := if st == .isolated then s.modFpower f (fun x => { x with unplugged := !x.presence }) else s
  let s := s.setDoor f (fun d => { d with
      st := st, rowAt := some s.sample, since := s.stamp, closedHoldAt := none, reaction := none, afterRest := none, met := false
      closePendingAt := if d.st == .open' && st != .open' then none else d.closePendingAt
      warn := d.warn && !(d.st == .open' && st != .open' && st != .closing) && !(d.st == .closing && st != .locking)
      attempt := if st == .locking || st == .open' then 0 else d.attempt
      kept := if !st.strokes then [] else if d.kept.isEmpty then s.strokeValues f else d.kept
      ref := { d.ref with service := d.ref.service && st == .locking }
      cycles := if st == .closedLocked then d.cycles + 1 else d.cycles })
  let s := (if st.strokes then s else s.endStroke f).traceOver f (strokeKind st)
  if ends then s.endCycle f code else s

/-- The causes of R209 that are active now, as bits by code. -/
def State.activeFaults (s : State) (f : Nat) : Nat :=
  bitN (s.flightUnsure f) 1 + bitN (!(s.activeCauses (leafOf f)).isEmpty) 2
    + bitN (s.stepFitted f && !(s.activeCauses (stepOf f)).isEmpty) 3

/-- The step is stopped with its doorway: a STEP that was extending or retracting is STOPPED (06 R212). -/
def State.stepHalt (s : State) (f : Nat) : State :=
  match (s.door f).stepSt with
  | .extending | .retracting => s.enterStep f .stopped
  | _ => s

/-- Entry to FAULT with its first cause; `extra` is a further item of the record, for instance a refused command's status. -/
def State.doorFault (s : State) (f cause : Nat) (extra : Nat) : State :=
  let s := s.abortRun f 4
  let s := (((s.stopMoving (leafOf f)).stopMoving (stepOf f)).stepHalt f).lockEngage f
  let s := s.setDoor f (fun d => { d with faultCause := cause })
  let s := s.enterDoor f .fault
  s.record { Evt.doorFault with sev := if cause = 1 then 2 else 4 } f
    [word32 cause, word32 (s.activeFaults f), word32 extra]

/-- Entry to ISOLATED (06 R201, R207). -/
def State.isolate (s : State) (f : Nat) : State :=
  let s := s.abortRun f 4
  let s := (((s.seqCmd (leafOf f) .quickStop).seqCmd (stepOf f) .quickStop).stepHalt f).lockEngage f
  (s.enterDoor f .isolated).record Evt.doorIsolated f [word32 (s.isoBits f)]

/-- Entry to EGRESS (06 R208). -/
def State.egress (s : State) (f : Nat) : State :=
  let s := s.abortRun f 4
  let s := (((s.seqCmd (leafOf f) .quickStop).seqCmd (stepOf f) .stop).stepHalt f).lockEngage f
  (s.enterDoor f .egress).record Evt.doorEgress f []

/-- In ISOLATED the axes take RELEASE once at rest, in EGRESS the leaf (06 R200, R201, R208). -/
def State.releaseAtRest (s : State) (f : Nat) : State :=
  let off (s : State) (a : Nat) : State :=
    if ((s.axis a).st == .hold || (s.axis a).st == .faultStop) && s.atRest a then s.seqCmd a .release else s
  match (s.door f).st with
  | .isolated => off (off s (leafOf f)) (stepOf f)
  | .egress => off s (leafOf f)
  | _ => s

/-! ### Strokes (06 R202, R203) -/

/-- One move of a stroke, appended; a limit that is not 0 bounds its speed, AXIS.VMAX where that is 0 (07 R249). -/
def State.strokeMove (s : State) (f : Nat) (pos : Int) (v limit : Rat) : State :=
  let v' := if limit = 0 then v else minR (if v = 0 then s.parR Par.axisVmax (leafOf f) 0 else v) limit
  s.seqCmd (leafOf f) (.moveAbs pos v' true)

/-- The leaf's moves of a stroke: to the slow position, and on to the end. -/
def State.strokeMoves (s : State) (f : Nat) (opening : Bool) : State :=
  let slow := if opening then s.flightZ Par.flightOpenSlowPos f 0 else s.flightZ Par.flightCloseSlowPos f 0
  let slowV := if opening then s.flightR Par.flightOpenSlowV f 0 else s.flightR Par.flightCloseSlowV f 0
  let max' := if opening then s.flightR Par.flightOpenVmax f 0 else s.flightR Par.flightCloseVmax f 0
  let limit := if opening || (s.door f).attempt = 0 then 0 else s.parR Par.obstacleRecloseVmax f 0
  let sg := if opening then s.openSign f else -(s.openSign f)
  let beyond := decide (0 ≤ ((s.axis (leafOf f)).pos - slow) * sg)
  let finish := if opening then s.openPos f else s.closedPos f
  if slowV = 0 then s.strokeMove f finish max' limit
  else if opening then
    let s := if beyond then s else s.strokeMove f slow slowV limit
    s.strokeMove f finish max' limit
  else
    let s := if beyond then s else s.strokeMove f slow max' limit
    s.strokeMove f finish slowV limit

/-- STEP is told that it extends or retracts under the gear law. DEDUCED (log 37). -/
def State.gearedStep (s : State) (f : Nat) (opening reversal : Bool) : State :=
  (s.engageStep f opening reversal).enterStep f (if opening then .extending else .retracting)

/-- RETRACT from EXTENDING, EXTENDED or STOPPED; an uncertain step is homed instead (06 R212, R222). -/
def State.stepRetract (s : State) (f : Nat) : Nat × State :=
  if !s.stepFitted f then (stState, s)
  else match (s.door f).stepSt with
    | .extending | .extended | .stopped =>
      if (s.axis (stepOf f)).posUncertain then
        let s := s.startRun f (some (stepOf f)) false
        (stOK, if s.hasDoor f then s.enterDoor f .referencing else s)
      else (stOK, (s.enterStep f .retracting).moveStep f false)
    | .retracting | .retracted => (stOK, s)
    | _ => (stState, s)

/-- A step that would retract by a positioned move to a position that it is not certain of (06 R222). -/
def State.stepLost (s : State) (f : Nat) : Bool :=
  s.stepFitted f && (s.axis (stepOf f)).posUncertain &&
    ((s.door f).stepSt == .extending || (s.door f).stepSt == .extended || (s.door f).stepSt == .stopped)

/-- In PARALLEL mode the step extends on entry to OPENING and retracts on entry to CLOSING (06 R202). -/
def State.parallelStep (s : State) (f : Nat) (opening : Bool) : State :=
  if s.stepSeq f = 2 && s.stepFitted f then
    if opening then (s.stepExtend f).2 else if s.stepLost f then s else (s.stepRetract f).2
  else s

/-- The stroke starts, with the leaf and the step at rest: gear law, leaf moves, PARALLEL step. A leaf with an uncertain position closes
by its own reference search; a PARALLEL step with one retracts by its own, and the leaf closes then (06 R222). DEDUCED (log 37). -/
def State.beginMoves (s : State) (f : Nat) (opening reversal : Bool) : State :=
  let s := s.setDoor f (fun d => { d with afterRest := none })
  if !opening && (s.axis (leafOf f)).posUncertain then (s.enterDoor f .referencing).startRun f (some (leafOf f)) false
  else if !opening && s.stepSeq f = 2 && s.stepLost f then
    ((s.enterDoor f .referencing).startRun f (some (stepOf f)) false).modRef f (fun r => { r with resume := some false })
  else
    let s := if s.stepSeq f = 3 && s.stepFitted f then s.gearedStep f opening reversal else s
    ((s.strokeMoves f opening).beginStroke f (!opening)).parallelStep f opening

/-- The leaf is not at the end from which a stroke starts: the stroke leaves out the entries already passed, whether it reverses another or
follows a stop (06 R202). DESIGN CHOICE (log 79). -/
def State.midway (s : State) (f : Nat) (opening : Bool) : Bool :=
  !s.nearPos (leafOf f) (if opening then s.closedPos f else s.openPos f)

/-- The leaf and the geared step are at rest, and so is the law's master (05 R185, 06 R202). DEDUCED (log 37). -/
def State.turnDone (s : State) (f : Nat) : Bool :=
  s.atRest (leafOf f) &&
    (s.stepSeq f ≠ 3 || !s.stepFitted f ||
      (s.atRest (stepOf f) && match s.fbPort (leafOf f) with | some p => !(s.port p).moving | none => true))

/-- A new direction from wherever the leaf is: it stops first, and the stroke starts once it and a geared step are at rest (06 R202). The
stroke before it has ended (07 R227). DEDUCED (log 37). -/
def State.turnStroke (s : State) (f : Nat) (opening : Bool) : State :=
  if s.turnDone f then s.beginMoves f opening (s.midway f opening)
  else
    let s := (s.endStroke f).stopMoving (leafOf f)
    let s := if s.stepSeq f = 3 && (s.axis (stepOf f)).gear.geared then s.seqCmd (stepOf f) .gearDisengage else s
    (s.setDoor f (fun d => { d with afterRest := some opening })).parallelStep f opening

/-- The geared step is disengaged at the end of a stroke (06 R202). -/
def State.ungear (s : State) (f : Nat) : State :=
  if (s.axis (stepOf f)).gear.geared then s.seqCmd (stepOf f) .gearDisengage else s

/-- The step stops with the leaf, in whatever state it moves (06 R201, R212). -/
def State.stepStop (s : State) (f : Nat) : Nat × State :=
  match (s.door f).stepSt with
  | .extending | .retracting => (stOK, (s.seqCmd (stepOf f) .stop).enterStep f .stopped)
  | _ => (stState, s)

/-! ### STEP evaluation and its commands -/

/-- The STEP block enters FAULT. -/
def State.stepFault (s : State) (f : Nat) : State := s.enterStep f .fault

/-- The door is turning its leaf round, so a geared step that rests is not at the end of its stroke. -/
def State.turning (s : State) (f : Nat) : Bool :=
  (s.door f).afterRest.isSome || (s.door f).st == .reversing

/-- The positioned move of a geared step to the end of its stroke (06 R202). One whose position is uncertain is homed instead once the leaf is
closed, and gets no move toward the extended end (R222). DEDUCED (log 37). -/
def State.stepFinish (s : State) (f : Nat) (extend : Bool) : State :=
  if !s.hasDoor f || s.stepSeq f ≠ 3 then s
  else if !(s.axis (stepOf f)).posUncertain then s.moveStep f extend
  else if extend || (s.door f).st != .locking then s
  else (s.enterDoor f .referencing).startRun f (some (stepOf f)) false

/-- One evaluation of the STEP block without its timeout (06 R212). -/
def State.stepEval (s : State) (f : Nat) : State :=
  let d := s.door f
  let x := s.axis (stepOf f)
  let alone := !s.hasDoor f && !s.permission f
  let held := x.st == .hold && s.atRest (stepOf f) && !s.turning f
  let fails := x.st == .faultStop && (d.stepSt != .referencing || d.ref.phase != .start)
  if d.stepSt == .inactive || d.stepSt == .fault then s
  else if fails then s.stepFault f
  else match d.stepSt with
    | .extending =>
      if alone then (s.stepRetract f).2
      else if !held then s
      else if s.nearPos (stepOf f) (s.stepEnd f true) then s.enterStep f .extended
      else s.stepFinish f true
    | .extended | .stopped => if alone then (s.stepRetract f).2 else s
    | .retracting =>
      if !held then s
      else if s.nearPos (stepOf f) (s.stepEnd f false) then
        let at' := d.stepHoldAt.getD s.stamp
        if s.retractedBoth f && decide (s.ms < at' + s.flightN Par.flightStepConfirmMs f 0) then s.enterStep f .retracted
        else s.setDoor f (fun d => { d with stepHoldAt := some at' })
      else s.stepFinish f false
    | .retracted => if s.retractedBoth f then s else s.stepFault f
    | _ => s

/-- STEP_CONFIRM_MS has elapsed in HOLD at STEP_RET_POS without retracted both (06 R212). -/
def State.stepTimedOut (s : State) (f : Nat) : Bool :=
  let d := s.door f
  d.stepSt == .retracting && match d.stepHoldAt with
    | none => false
    | some t => decide (t + s.flightN Par.flightStepConfirmMs f 0 ≤ s.ms)

/-- RESET of a STEP in FAULT (06 R210, R212): STOPPED is HOLD where the step stands, so it leaves the fault stop as the leaf of R210 does. -/
def State.stepReset (s : State) (f : Nat) : Nat × State :=
  if (s.door f).stepSt != .fault || !(s.activeCauses (stepOf f)).isEmpty then (stState, s)
  else if s.unsure (stepOf f) then (stOK, s.startRun f (some (stepOf f)) false)
  else (stOK, (s.holdHere (stepOf f)).enterStep f .stopped)

/-- STEP_STATE at an entry to RUN, or when a STEP instance is added (06 R212). -/
def State.stepService (s : State) (f : Nat) : State :=
  s.enterStep f (if s.retractedBoth f then .retracted else .stopped)

/-! ### The steps of a reference run -/

/-- A motion command of the run; a refusal aborts the run as INTERRUPTED (06 R220). -/
def State.runCmd (s : State) (f : Nat) (a : Nat) (c : AxCmd) : State := s.post a c (.run f)

/-- The run declares a position: an axis in FAULT_STOP is released first, and one that searches stands in HOLD. -/
def State.runDeclare (s : State) (f : Nat) (a : Nat) (v : Int) : State :=
  let s := if (s.axis a).st == .faultStop then s.toIdle a
    else if (s.axis a).st == .idle || (s.axis a).st == .hold then s
    else s.modAxis a (fun x => x.toHold s.stamp)
  let s := s.modRef f (fun r => { r with declared := v })
  let (st, s') := s.posSet a (wordZ v)
  if st = stOK then s'
  else
    let s := s.abortRun f 4
    if (s.door f).st == .referencing then s.doorFault f 8 st else s

/-- The position of an axis becomes `v` while it moves, with its counter and its commanded position (06 R215). -/
def State.shiftPos (s : State) (a : Nat) (v : Int) : State :=
  let d := v - (s.axis a).pos
  let s := match s.fbPort a with
    | none => s
    | some p => (s.writeCount p (if s.axType a = 3 then s.stepperCount a (wordZ v) else wordZ v)).2
  s.modAxis a (fun x => { x with posCmd := x.posCmd + d, pos := v })

/-- The direction of the search and its speed (06 R215). -/
def State.searchVel (s : State) (f : Nat) (step : Bool) : Rat :=
  if step then ((-(s.extendSign f) : Int) : Rat) * s.parR Par.flightStepRefSpeed f 0
  else ((-(s.openSign f) : Int) : Rat) * s.parR Par.flightRefSpeed f 0

/-- The value that a hard-stop search declares. -/
def State.hardstopPos (s : State) (f : Nat) (step : Bool) : Int :=
  if step then s.parZ Par.flightStepRetPos f 0 else s.parZ Par.flightRefHardstopPos f 0

/-- A DOOR leaves REFERENCING at the end of its run: LOCKING, with the step retracted unless it is (06 R214, R222). -/
def State.runToLocking (s : State) (f : Nat) : State :=
  let s := s.enterDoor f .locking
  if !s.stepFitted f || (s.door f).stepSt == .retracted then s else (s.stepRetract f).2

/-- The run is complete (06 R214): its record, and what follows it in a DOOR. -/
def State.finishRun (s : State) (f : Nat) : State :=
  let r := (s.door f).ref
  let s := s.setDoor f (fun d => { d with
      ref := { r with st := .done, waitPerm := false }
      refCoarse := r.coarse, refReversed := r.reversed })
  let s := s.record Evt.doorReferenced f
    [word32 r.method, word32 (bitN (!r.moved) 0), word32 (bitN r.reversed 0), word32 (bitN r.coarse 0), wordZ r.declared]
  if (s.door f).st != .referencing then s
  else match r.resume with
    | some opening =>
      let s := (s.enterDoor f (if opening then .opening else .closing)).setDoor f (fun d => { d with afterRest := some opening })
      s.modObs f (fun o => if opening then { o with opens := o.opens + 1 } else { o with closes := o.closes + 1 })
    | none => s.runToLocking f

/-- A part is complete: the leaf follows the step, unless the run moves one axis only. OBSTRUCTED clears with the leaf at its closed position
(R206). -/
def State.endPart (s : State) (f : Nat) : State :=
  let r := (s.door f).ref
  if r.st == .step then
    let s := s.enterStep f (if s.retractedBoth f then .retracted else .retracting)
    if r.single.isSome then s.finishRun f else s.startPart f false
  else
    let home := s.nearPos (leafOf f) (s.closedPos f)
    (s.setDoor f (fun d => { d with obstructed := d.obstructed && !home })).finishRun f

/-- The part's motion begins (06 R215, R216). DEDUCED (log 36). -/
def State.beginPart (s : State) (f : Nat) : State :=
  let step := (s.door f).ref.st == .step
  let a := (s.door f).ref.axisOf f
  let search (s : State) (ph : RefPhase) : State :=
    (s.modRef f (fun r => { r with phase := ph, coarse := true, moved := true, method := bitN (ph == .hardstop) 0 })).runCmd f a
      (.moveVel (s.searchVel f step) false)
  let zero (s : State) (v : Int) : State :=
    let s := (s.modRef f (fun r => { r with coarse := true })).runDeclare f a v
    if (s.door f).ref.active then s.endPart f else s
  if step then
    if s.retractedBoth f then zero s (s.stepEnd f false) else search s (if s.noHomeSwitch f then .hardstop else .search)
  else if s.closedBoth f && s.lockedBoth f then zero s (s.closedPos f)
  else search s (if s.closedBoth f || s.parN Par.flightRefMethod f 0 = 1 then .hardstop else .search)

/-- Where a part ends. -/
def State.runGoal (s : State) (f : Nat) : Int := if (s.door f).ref.st == .step then s.stepEnd f false else s.closedPos f

/-- The positioned move that ends a part would run in the opening or extending direction without the permission (06 R214). -/
def State.finalBarred (s : State) (f : Nat) : Bool :=
  let r := (s.door f).ref
  let out := if r.st == .step then s.extendSign f else s.openSign f
  !s.permission f && decide ((s.axis (r.axisOf f)).posCmd * out < (s.runGoal f : Rat) * out)

/-- The positioned move that ends a part (06 R215); one that needs the permission and lacks it waits (R214). -/
def State.finalMove (s : State) (f : Nat) : State :=
  let r := (s.door f).ref
  let s := s.modRef f (fun r => { r with phase := .final, st := if r.st == .step then .step else .leafFinal })
  if s.finalBarred f then s.modRef f (fun r => { r with waitPerm := true })
  else (s.modRef f (fun r => { r with waitPerm := false })).runCmd f (r.axisOf f) (.moveAbs (s.runGoal f) 0 false)

/-- Index refinement is possible on the leaf's port (06 R217). -/
def State.canIndex (s : State) (f : Nat) : Bool :=
  s.parB Par.flightRefIndex f 0 && match s.fbPort (leafOf f) with | some p => s.portFormat p = 1 | none => false

/-- The value that the home event declares. -/
def State.homeValue (s : State) (f : Nat) (step : Bool) : Int :=
  if step then s.parZ Par.flightStepRefHomePos f 0 else s.parZ Par.flightRefHomePos f 0

/-- The home event: the position on this sample is declared, and the axis brakes (06 R215). -/
def State.homeEvent (s : State) (f : Nat) : State :=
  let r := (s.door f).ref
  let a := r.axisOf f
  let v := s.homeValue f (r.st == .step)
  ((s.shiftPos a v).modRef f (fun r => { r with phase := .brake, homePos := v, lastPos := v })).runCmd f a .stop

/-- After the home event, at rest: POS_SET declares the position, which the travel since has moved, and refinement or the final move follows.
DEDUCED (log 36). -/
def State.afterHome (s : State) (f : Nat) : State :=
  let r := (s.door f).ref
  let a := r.axisOf f
  let s := s.runDeclare f a (s.axis a).pos
  if !(s.door f).ref.active then s
  else if r.st != .step && s.canIndex f && s.permission f then
    let s := match s.fbPort a with
      | some p => s.modPort p (fun x => { x with indexAt := none })
      | none => s
    (s.modRef f (fun r => { r with st := .leafIndex, phase := .index, indexStart := (s.axis a).pos })).runCmd f a
      (.moveVel (-(s.searchVel f false)) false)
  else s.finalMove f

/-- The index search of the leaf on one sample (06 R214, R217). DEDUCED (log 36). -/
def State.indexSample (s : State) (f : Nat) : State :=
  let a := leafOf f
  let r := (s.door f).ref
  let abort3 (s : State) : State :=
    let s := s.abortRun f 3
    if (s.door f).st == .referencing then s.doorFault f 8 0 else s
  if !s.permission f then
    if r.waitPerm then s
    else (s.modRef f (fun r => { r with waitPerm := true })).runCmd f a .stop
  else if r.waitPerm then
    if s.atRest a then
      (s.modRef f (fun r => { r with waitPerm := false })).runCmd f a (.moveVel (-(s.searchVel f false)) false)
    else s
  else
    let win := s.parN Par.flightRefIndexWin f 0
    match (match s.fbPort a with | some p => (s.port p).indexAt | none => none) with
    | some c =>
      if (c - s.parZ Par.flightRefIndexPos f 0).natAbs ≤ win then
        (s.modRef f (fun r => { r with phase := .indexBrake, homePos := c })).runCmd f a .stop
      else abort3 s
    | none => if 2 * win < ((s.axis a).pos - r.indexStart).natAbs then abort3 s else s

/-- Bookkeeping of a search on one sample: travel and home stamps (06 R219, R220). -/
def State.trackRun (s : State) (f : Nat) : State :=
  let r := (s.door f).ref
  let pos := (s.axis (r.axisOf f)).pos
  let home := s.homeNow f
  s.modRef f (fun r => { r with
      travel := if r.phase == .search || r.phase == .hardstop || r.phase == .limit then r.travel + (pos - r.lastPos).natAbs else r.travel
      lastPos := pos, homeWas := home, limitWas := s.limitNow f
      stamps := if home = r.homeWas then r.stamps else s.sample :: r.stamps })

/-- The home condition has changed three times within REF_CHATTER_MS, on this sample (06 R219). -/
def State.chatters (s : State) (f : Nat) : Bool :=
  match (s.door f).ref.stamps with
  | t3 :: _ :: t1 :: _ => t3 = s.sample && decide ((t3 : Rat) - t1 < s.parR Par.flightRefChatterMs f 0 * 8)
  | _ => false

/-- The search has gone further than it may (06 R220). -/
def State.tooFar (s : State) (f : Nat) : Bool :=
  let r := (s.door f).ref
  let lim := if r.st == .step then s.parN Par.flightStepRefMaxTravel f 0 else s.parN Par.flightRefMaxTravel f 0
  (r.phase == .search || r.phase == .hardstop) && decide (lim < r.travel)

/-- The conditions of a stop found: slow, with the current at its clamp, or coarse steps commanded (06 R215, R216). -/
def State.stalled (s : State) (f : Nat) : Bool :=
  let r := (s.door f).ref
  let a := r.axisOf f
  let slow := match s.fbPort a with
    | some p => decide (absR (s.port p).speed < s.parR Par.flightRefStallV f 0)
    | none => false
  slow && (s.axis a).st == .moving &&
    (if s.axType a = 3 then decide ((s.axis a).vel ≠ 0)
      else decide (minR (s.iEff a) (s.parR Par.flightRefI f 0) ≤ absR (s.axis a).iCmd))

/-- The search of the part under way starts again in the direction it has; a reversed one needs the permission (06 R214, R218). -/
def State.resumeSearch (s : State) (f : Nat) : State :=
  let r := (s.door f).ref
  if !s.permission f then s.modRef f (fun r => { r with waitPerm := true })
  else
    (s.modRef f (fun r => { r with phase := r.back, waitPerm := false })).runCmd f (r.axisOf f)
      (.moveVel (-(s.searchVel f (r.st == .step))) false)

/-- A search that runs in the opening direction has lost its permission: it holds and waits. -/
def State.pauseSearch (s : State) (f : Nat) : State :=
  let r := (s.door f).ref
  (s.modRef f (fun r => { r with phase := .limit, back := r.phase, waitPerm := true })).runCmd f (r.axisOf f) .stop

/-- The limit has become active on this sample (06 R218). -/
def State.limitTrip (s : State) (f : Nat) (was : Bool) : Bool :=
  let r := (s.door f).ref
  let searching := r.phase == .search || r.phase == .hardstop
  s.limitNow f && !was && (searching || (r.reversed && r.phase != .start && r.phase != .release))

/-- One sample of a reference run (06 R214 to R220). The stop of a hard-stop search is declared by the command HARDSTOP_FOUND. A fault stop of
the axis interrupts its part. -/
def State.refSample (s : State) (f : Nat) : State :=
  let was := (s.door f).ref.limitWas
  let s := s.trackRun f
  let r := (s.door f).ref
  let a := r.axisOf f
  let fail (s : State) (code : Nat) : State :=
    let s := s.abortRun f code
    if (s.door f).st == .referencing then s.doorFault f 8 0 else s
  if (s.axis a).st == .faultStop && r.phase != .start then fail s 4
  else if s.chatters f then fail s 1
  else if s.tooFar f then fail s 2
  else if s.limitTrip f was then
    if r.reversed then fail s 1
    else
      (s.modRef f (fun r => { r with phase := .limit, back := r.phase, reversed := true, revNow := true })).runCmd f a .quickStop
  else match r.phase with
    | .start => s.beginPart f
    | .search =>
      if s.homeNow f then s.homeEvent f
      else if r.revNow && !s.permission f then s.pauseSearch f
      else s
    | .limit => if (s.axis a).st == .hold then s.resumeSearch f else s
    | .brake => if (s.axis a).st == .hold then s.afterHome f else s
    | .hardstop =>
      if r.revNow && !s.permission f then s.pauseSearch f
      else s.modRef f (fun r => { r with stallSince := if s.stalled f then some (r.stallSince.getD s.stamp) else none })
    | .release => s
    | .index => s.indexSample f
    | .indexBrake =>
      if (s.axis a).st == .hold then
        let s := s.runDeclare f a (s.parZ Par.flightRefIndexPos f 0 + ((s.axis a).pos - r.homePos))
        if (s.door f).ref.active then (s.modRef f (fun r => { r with coarse := false })).finalMove f else s
      else s
    | .final =>
      if r.waitPerm then if s.permission f && s.atRest a then s.finalMove f else s
      else if (s.axis a).st == .hold && s.nearPos a (s.runGoal f) then s.endPart f
      else if s.finalBarred f then (s.modRef f (fun r => { r with waitPerm := true })).runCmd f a .stop
      else s

/-- The stop has been found for REF_STALL_MS (06 R216). -/
def State.stallDue (s : State) (f : Nat) : Bool :=
  let r := (s.door f).ref
  r.active && r.phase == .hardstop && match r.stallSince with
    | none => false
    | some t => decide (t + s.parN Par.flightRefStallMs f 0 ≤ s.ms)

/-- The stop is declared, and the current is released over 10 ms (06 R216). -/
def State.foundStop (s : State) (f : Nat) : State :=
  let r := (s.door f).ref
  let s := s.runDeclare f (r.axisOf f) (s.hardstopPos f (r.st == .step))
  if (s.door f).ref.active then s.modRef f (fun r => { r with phase := .release, releaseAt := s.stamp, coarse := true }) else s

/-- The 10 ms are over: the current command is 0, and no integral left from the search brings it back; the leaf that was already closed is
done, any other axis makes its final move (06 R215, R216). -/
def State.stopReleased (s : State) (f : Nat) : State :=
  let r := (s.door f).ref
  let s := s.modAxis (r.axisOf f) (fun x => { x with integ := 0, iCmd := 0 })
  if r.st == .step || r.closedStart then s.endPart f else s.finalMove f

/-- The clamp that a search puts on the current of an axis; none outside a search (06 R214, R216). -/
def State.searchClamp (s : State) (a : Nat) : Option Rat :=
  let f := flightOfAxis a
  let r := (s.door f).ref
  if !r.active || r.axisOf f ≠ a then none
  else match r.phase with
    | .search | .limit | .hardstop | .brake | .index | .indexBrake => some (s.parR Par.flightRefI f 0)
    | .release => some (maxR 0 (s.parR Par.flightRefI f 0 * (10 - ((s.stamp - r.releaseAt : Nat) : Rat)) / 10))
    | _ => none

/-- A hard-stop search holds back POS_CMD so that |dev| stays at or below DEV_WINDOW / 2 (06 R216). -/
def State.holdBack (s : State) (a : Nat) (x : Axis) : Axis :=
  let f := flightOfAxis a
  let r := (s.door f).ref
  if r.active && r.axisOf f = a && r.phase == .hardstop then
    let w : Rat := (s.parN Par.axisDevWindow a 0 : Rat) / 2
    { x with posCmd := clampR ((x.pos : Rat) - w) ((x.pos : Rat) + w) x.posCmd }
  else x

/-! ### The obstacle reaction (07 R247 to R252, 06 R206) -/

/-- The leaf's reversal after a detection, once at rest: its target, none where there is no reversal (07 R248, R250, R251). -/
def State.reversalTarget (s : State) (f : Nat) : Option Int :=
  let d := s.door f
  if d.reactOpening then none
  else
    let dist := if d.reactZone = 0 then s.parN Par.obstacleFinalRevDist f 0 else s.parN Par.obstacleRevDist f 0
    let sg := s.openSign f
    let t := (s.axis (leafOf f)).pos + sg * dist
    let t := if d.reactGiveUp && s.parN Par.obstacleGiveupOpen f 0 = 1 then s.openPos f else t
    some (if 0 < (t - s.openPos f) * sg then s.openPos f else t)

/-- The reversal move starts (07 R248). -/
def State.startReversal (s : State) (f : Nat) (t : Int) : State :=
  let s := s.setDoor f (fun d => { d with reaction := some (.reversal t) })
  let s := if s.stepSeq f = 3 && s.stepFitted f then s.gearedStep f true true else s
  (s.seqCmd (leafOf f) (.moveAbs t (s.parR Par.obstacleRevVmax f 0) false)).beginStroke f false

/-- The reaction of a detection in OPENING, or of one that gives up, is complete: OPEN (06 R206, 07 R250, R252). -/
def State.reactionOpen (s : State) (f : Nat) : State :=
  let d := s.door f
  let away := !s.nearPos (leafOf f) (s.openPos f)
  let n := d.attempt
  let s := (s.ungear f).enterDoor f .open'
  let s := s.setDoor f (fun e => { e with
      gaveUp := e.gaveUp || d.reactGiveUp
      obstructed := d.reactOpening || (away && (e.obstructed || d.reactGiveUp)) })
  let s := if d.reactGiveUp then
      (s.modCyc f (fun c => { c with gaveUp := true })).record Evt.doorGaveUp f [word32 n]
    else s
  s.holdHere (leafOf f)

/-- The reversal is over: the door gives up, or pauses before the next attempt (07 R249, R252). -/
def State.reversalEnd (s : State) (f : Nat) : State :=
  if (s.door f).reactGiveUp then s.reactionOpen f
  else
    let away := !s.nearPos (leafOf f) (s.openPos f)
    (s.ungear f).setDoor f (fun d => { d with
        reaction := some (.pause s.stamp), warn := true, obstructed := d.obstructed && away })

/-- One evaluation of a door in REVERSING; the reversal and the next attempt start by their own commands. A geared step is disengaged once the
leaf rests (06 R202). -/
def State.reactSample (s : State) (f : Nat) : State :=
  let d := s.door f
  match d.reaction with
  | some .braking =>
    if !s.atRest (leafOf f) then s else if d.reactOpening then s.reactionOpen f else s.ungear f
  | some .brakingBack => if s.atRest (leafOf f) then s.reversalEnd f else s
  | some (.reversal t) => if s.leafAt f t then s.reversalEnd f else s
  | _ => s

/-! ### The DOOR transition table (06 R201) -/

/-- The rows that have a command of their own among the block's events. -/
inductive RowTag where
  | plain
  | command
  /-- a command that the state accepts without a change -/
  | accepted
  | warnTimeout
  | noRelease
  | notEngaged
  | notConfirmed
deriving DecidableEq, Repr

/-- A row of the table: what it is, its condition in the present state, its actions. -/
structure Row where
  tag : RowTag
  cond : Bool
  act : State → State

/-- A FAULT cause seen at this evaluation: the leaf has entered FAULT_STOP for a reason other than SAFE_HOLD, STEP or LOCK has entered
FAULT (06 R209). -/
def State.faultEdge (s : State) (f : Nat) : Option Nat :=
  let d := s.door f
  let x := s.axis (leafOf f)
  if x.st == .faultStop && !d.leafF && x.faultCause ≠ 7 then some 2
  else if d.stepSt == .fault && !d.stepF then some 3
  else if d.lockSt == .fault && !d.lockF && d.st == .unlocking then some 4
  else if d.lockSt == .fault && !d.lockF && !d.lockLost && d.st == .locking then some 5
  else none

def State.markFaults (s : State) (f : Nat) : State :=
  s.setDoor f (fun d => { d with
      leafF := (s.axis (leafOf f)).st == .faultStop, stepF := d.stepSt == .fault, lockF := d.lockSt == .fault })

/-- The door enters LOCKING with the leaf held where it is and the step retracted unless it is (06 R200 to R202). -/
def State.lockHere (s : State) (f : Nat) : State := (s.runToLocking f).holdHere (leafOf f)

/-- The door enters OPEN by a reset, with the leaf held where it is. OPEN is entered without UNLOCKING here, so the LOCK gets no RELEASE
(R213) and its solenoid stays off. DESIGN CHOICE (log 90). -/
def State.openHere (s : State) (f : Nat) : State := (s.enterDoor f .open').holdHere (leafOf f)

/-- RESET_FAULT in FAULT (06 R210). -/
def State.resetFault (s : State) (f : Nat) : State :=
  let s := s.setDoor f (fun d => { d with faultCause := 0 })
  let s := (s.lockReset f).2
  if s.flightUnsure f then (s.enterDoor f .referencing).startRun f none false
  else
    let s := (s.stepReset f).2
    if s.closedBoth f then s.lockHere f
    else
      let away := !s.nearPos (leafOf f) (s.openPos f)
      (s.openHere f).setDoor f (fun d => { d with obstructed := d.obstructed || away })

/-- The door leaves for UNLOCKING: lock ENERGIZE, and the leaf holds the closed position. A stroke that does not start from CLOSED_LOCKED is
not the one of a clean cycle (07 R237). -/
def State.unlock (s : State) (f : Nat) : State :=
  let s := s.modObs f (fun o => { o with stopped := o.stopped || (s.door f).st != .closedLocked })
  let s := (s.lockRelease f).2
  let s := if (s.axis (leafOf f)).st == .idle then s.holdHere (leafOf f) else s
  s.enterDoor f .unlocking

/-- Back to LOCKING from UNLOCKING. -/
def State.relock (s : State) (f : Nat) : State :=
  let s := (s.lockEngage f).enterDoor f .locking
  if (s.door f).stepSt == .retracted then s else (s.stepRetract f).2

/-- The leaf has closed: LOCKING (06 R201, R202). -/
def State.lockDoor (s : State) (f : Nat) : State :=
  let s := ((s.ungear f).lockEngage f).enterDoor f .locking
  let s := s.setDoor f (fun d => { d with obstructed := false, warn := false })
  let s := s.modObs f (fun o => { o with fPeak := o.runPeak.getD o.fPeak })
  if !s.stepFitted f || (s.door f).stepSt == .retracted then s else (s.stepRetract f).2

/-- The step has done what the stroke's mode requires before OPEN: in GEARED mode EXTENDED is judged after the move that ends the
stroke (06 R202). -/
def State.stepReady (s : State) (f : Nat) : Bool :=
  !s.stepFitted f || s.stepSeq f = 0 || s.stepSeq f = 3 || (s.door f).stepSt == .extended

/-- WARN and CLOSE_PENDING set; a new CLOSE starts a fresh count of attempts (06 R201, R206). -/
def State.pendClose (s : State) (f : Nat) : State :=
  s.setDoor f (fun d => { d with closePendingAt := some s.stamp, warn := true, attempt := 0 })

/-- Stop the leaf and the step and wait in OPEN; a CLOSE sets CLOSE_PENDING, and WARN with it (06 R201, R203). -/
def State.stopOpen (s : State) (f : Nat) (pending : Bool) : State :=
  let s := s.seqCmd (leafOf f) .stop
  let s := if (s.axis (stepOf f)).gear.geared then s.seqCmd (stepOf f) .gearDisengage else s
  let s := ((s.stepStop f).2).enterDoor f .open'
  let s := s.modObs f (fun o => { o with stopped := true })
  if pending then s.pendClose f else s

/-- Entry to OPENING (06 R202). -/
def State.openDoor (s : State) (f : Nat) : State :=
  let elsewhere := (s.door f).st != .unlocking
  let s := s.enterDoor f .opening
  (s.modObs f (fun o => { o with opens := o.opens + 1, stopped := o.stopped || elsewhere })).turnStroke f true

/-- Entry to CLOSING (06 R203). -/
def State.closeDoor (s : State) (f : Nat) : State :=
  let s := (s.enterDoor f .closing).modObs f (fun o => { o with closes := o.closes + 1 })
  s.turnStroke f false

/-- The command taken is this one. -/
def takes (c : Option LatchEntry) (k : DoorCmd) : Bool :=
  match c with
  | some e => e.cmd == k
  | none => false

/-- OPEN taken, with the permission, and without an uncertain axis (06 R199, R222). -/
def State.takesOpen (s : State) (f : Nat) (c : Option LatchEntry) : Bool :=
  takes c .open' && s.permission f && !(s.axis (leafOf f)).posUncertain && !(s.axis (stepOf f)).posUncertain

/-- OPEN in CLOSING is taken from CREW and PROGRAM, and from PASSENGER with PASS_REOPEN (06 R201). -/
def State.mayReopen (s : State) (f : Nat) (c : Option LatchEntry) : Bool :=
  match c with
  | some e => e.rank == .crew || e.rank == .program || (e.rank == .passenger && s.parN Par.flightPassReopen f 0 = 1)
  | none => false

/-- The rows of every state but INACTIVE that stand above the rest: isolation, egress, fault. -/
def State.upperRows (s : State) (f : Nat) (c : Option LatchEntry) : List Row :=
  let st := (s.door f).st
  let iso := s.isoBits f ≠ 0 || takes c .isolate
  let busy := match st with
    | .referencing | .closedLocked | .unlocking | .opening | .open' | .closing | .reversing | .locking => true
    | _ => false
  [⟨if takes c .isolate then .command else .plain, st != .inactive && st != .isolated && iso, fun s =>
      (if takes c .isolate then s.setDoor f (fun d => { d with isoCommand := true }) else s).isolate f⟩,
   ⟨.command, st != .inactive && st != .isolated && st != .egress && takes c .egress, (·.egress f)⟩,
   ⟨.plain, busy && (s.faultEdge f).isSome, fun s => s.doorFault f ((s.faultEdge f).getD 2) 0⟩]

/-- The rows of a state, in the order of the table. -/
def State.stateRows (s : State) (f : Nat) (c : Option LatchEntry) : List Row :=
  let d := s.door f
  let due (ms : Nat) : Bool := decide (d.since + ms ≤ s.ms)
  let unlockMs := s.parN Par.flightUnlockMs f 0
  let lockMs := s.parN Par.flightLockMs f 0
  let inTime (ms : Nat) : Bool := d.met || !due ms
  let stepOut := s.stepSeq f ≠ 1 || !s.stepFitted f || d.stepSt == .extended
  match d.st with
  | .isolated =>
    [⟨.command, s.isoBits f &&& 0x37 = 0 && takes c .deisolate, fun s =>
        let s := (s.setDoor f (fun d => { d with isoCommand := false })).record Evt.doorDeisolated f []
        (((s.lockReset f).2).enterDoor f .referencing).startRun f none false⟩,
     ⟨.command, takes c .isolate, fun s => s.setDoor f (fun d => { d with isoCommand := true })⟩]
  | .egress =>
    [⟨.command, s.neither (12 * f + 4) && takes c .resetFault, fun s =>
        let s := (s.lockReset f).2
        if s.closedBoth f then s.lockHere f else s.openHere f⟩]
  | .fault =>
    [⟨.command, takes c .resetFault && s.activeFaults f &&& 0xC = 0, (·.resetFault f)⟩,
     ⟨.command, takes c .reference && s.activeFaults f = 0, fun s => (s.enterDoor f .referencing).startRun f none false⟩]
  | .closedLocked =>
    [⟨.command, takes c .reference, fun s => (s.enterDoor f .referencing).startRun f none false⟩,
     ⟨.command, s.takesOpen f c, (·.unlock f)⟩,
     ⟨.plain, !s.closedBoth f || !s.lockedBoth f, (·.doorFault f 7 0)⟩]
  | .unlocking =>
    [⟨.command, takes c .close, (·.relock f)⟩,
     ⟨.plain, !s.permission f, (·.relock f)⟩,
     ⟨.plain, s.lockedNone f && stepOut && inTime unlockMs, (·.openDoor f)⟩,
     ⟨.noRelease, due unlockMs && (!d.met || !s.lockedNone f), (·.doorFault f 4 0)⟩]
  | .opening =>
    [⟨.plain, d.afterRest.isNone && s.leafAt f (s.openPos f) && s.stepReady f, fun s =>
        ((s.ungear f).modObs f (fun o => { o with openedFull := true })).enterDoor f .open'
          |>.setDoor f (fun d => { d with obstructed := false })⟩,
     ⟨.command, takes c .close, (·.stopOpen f true)⟩,
     ⟨.command, takes c .stop, (·.stopOpen f false)⟩]
  | .open' =>
    [⟨.command, takes c .reference, fun s => (s.enterDoor f .referencing).startRun f none false⟩,
     ⟨.command, s.takesOpen f c, fun s =>
        let s := s.setDoor f (fun d => { d with closePendingAt := none, warn := false, gaveUp := false })
        if s.nearPos (leafOf f) (s.openPos f) then s else s.openDoor f⟩,
     ⟨.command, takes c .close && d.closePendingAt.isNone, (·.pendClose f)⟩,
     ⟨.warnTimeout, (match d.closePendingAt with
        | some t => decide (t + s.parN Par.flightWarnMs f 0 ≤ s.ms) | none => false), (·.closeDoor f)⟩]
  | .closing =>
    [⟨.command, takes c .stop, (·.stopOpen f false)⟩,
     ⟨.command, s.takesOpen f c && s.mayReopen f c, (·.openDoor f)⟩,
     ⟨.plain, d.afterRest.isNone && s.leafAt f (s.closedPos f) && s.closedBoth f &&
        (match d.closedHoldAt with
          | some t => decide (s.ms < t + s.flightN Par.flightCloseConfirmMs f 0) | none => true), (·.lockDoor f)⟩,
     ⟨.notConfirmed, s.leafAt f (s.closedPos f) && (match d.closedHoldAt with
        | some t => decide (t + s.flightN Par.flightCloseConfirmMs f 0 ≤ s.ms) | none => false), (·.doorFault f 6 0)⟩]
  | .locking =>
    [⟨.plain, s.lockedBoth f && s.closedBoth f && (!s.stepFitted f || d.stepSt == .retracted) && inTime lockMs, fun s =>
        ((s.seqCmd (leafOf f) .release).seqCmd (stepOf f) .release).enterDoor f .closedLocked⟩,
     ⟨.command, s.takesOpen f c, (·.unlock f)⟩,
     ⟨.notEngaged, due lockMs && (!d.met || !s.lockedBoth f), (·.doorFault f 5 0)⟩]
  | _ => []

/-- A trigger has fired on this sample: the obstacle row stands above every row of the states (06 R201, 07 R253). -/
def State.detecting (s : State) (f : Nat) : Bool :=
  let d := s.door f
  (s.obs f).watching && (s.obs f).fire ≠ 0 && (d.st == .opening || d.st == .closing || d.st == .reversing)

/-- The rows that apply, with the commands that a state accepts without a change last. -/
def State.doorRows (s : State) (f : Nat) (c : Option LatchEntry) : List Row :=
  let st := (s.door f).st
  let still := match st with
    | .closing | .locking | .closedLocked => takes c .close
    | .unlocking | .opening => s.takesOpen f c
    | _ => false
  s.upperRows f c ++ (if s.detecting f then [] else s.stateRows f c ++ [⟨.accepted, still, id⟩])

/-- The first row that matches. -/
def State.doorRow (s : State) (f : Nat) (c : Option LatchEntry) : Option Row := (s.doorRows f c).find? (·.cond)

/-! ### Judging a command (06 R197, R199) -/

def DoorCmd.code : DoorCmd → Nat
  | .none => 0
  | .open' => 1
  | .close => 2
  | .stop => 3
  | .isolate => 4
  | .deisolate => 5
  | .reference => 6
  | .resetFault => 7
  | .egress => 8

def DoorState.code : DoorState → Nat
  | .inactive => 0
  | .referencing => 1
  | .closedLocked => 2
  | .unlocking => 3
  | .opening => 4
  | .open' => 5
  | .closing => 6
  | .reversing => 7
  | .locking => 8
  | .isolated => 9
  | .egress => 10
  | .fault => 11

/-- The reply payload of a DOOR_CMD (12 R423). -/
def doorReply (rank win : Rank) (session : Nat) (st : DoorState) : Bytes :=
  [BitVec.ofNat 8 rank.code, BitVec.ofNat 8 win.code] ++ leBytes 2 session ++ [BitVec.ofNat 8 st.code, 0, 0, 0]

/-- An entry is resolved: the host gets its reply, the program's RESULT its status (06 R197); the entry of a session that has ended has
neither (12 R420). -/
def State.resolve (s : State) (f : Nat) (e win : LatchEntry) (status : Nat) : State :=
  match e.reply with
  | some seq =>
    s.answerSeq (BitVec.ofNat 16 e.session) seq status 0 (doorReply e.rank win.rank win.session (s.door f).st)
  | none => if e.rank == .safety || e.session ≠ 0 then s else s.setDoor f (fun d => { d with result := status })

/-- The clean-cycle rule sees every command taken, refused or not (07 R237). -/
def State.countCmd (s : State) (f : Nat) (e : LatchEntry) : State :=
  s.modObs f (fun o => match e.cmd with
    | .open' => { o with cmdOpens := o.cmdOpens + 1 }
    | .close => { o with cmdCloses := o.cmdCloses + 1 }
    | _ => { o with cmdOthers := o.cmdOthers + 1 })

/-- The cycle record takes the rank of the OPEN and of the CLOSE accepted (11 R386). -/
def State.rankCmd (s : State) (f : Nat) (e : LatchEntry) : State :=
  s.modCyc f (fun c => match e.cmd with
    | .open' => { c with ranks := c.ranks - c.ranks % 4 + e.rank.code }
    | .close => { c with ranks := c.ranks % 4 + 4 * e.rank.code }
    | _ => c)

/-- A row has been taken on this sample, and it takes no other (06 R201). -/
def State.rowTaken (s : State) (f : Nat) : Bool := (s.door f).rowAt = some s.sample

/-- The command that stands above every row that waits for none (06 R201). -/
def LatchEntry.above (e : LatchEntry) : Bool := e.cmd == .isolate || e.cmd == .egress

/-- The sequencer judges the command taken: the first matching row is taken, one on a sample; the command is accepted when that row is its own
(06 R199, R201). The cycle's losers get CONFLICT then, with the state after it (06 R197, 12 R422). DEDUCED (log 97). -/
def State.judge (s : State) (f : Nat) (e : LatchEntry) : State :=
  let lost := (s.door f).lost
  let s := (s.setDoor f (fun d => { d with taken := none, lost := [] })).countCmd f e
  let row := if s.rowTaken f && !e.above then none else s.doorRow f (some e)
  let ok : Bool := match row with | some r => r.tag == RowTag.command || r.tag == RowTag.accepted | none => false
  let s := match row with
    | some r => (r.act s).setDoor f (fun d => { d with rowAt := if r.tag == RowTag.accepted then d.rowAt else some s.sample })
    | none => s
  let s := if ok then (s.rankCmd f e).resolve f e e stOK
    else
      let s := if e.rank == .safety then s else s.setDoor f (fun d => { d with latchLost := satInc d.latchLost })
      s.resolve f e e stState
  lost.foldl (fun s x => s.resolve f x e stConflict) s

/-- The command taken for a flight is of a kind: it is judged (06 R199, R201). -/
def State.judgeTaken (s : State) (f : Nat) (k : DoorCmd) : State :=
  match (s.door f).taken with
  | some e => if e.cmd == k then s.judge f e else s
  | none => s

/-! ### The command latch (06 R195 to R198) -/

/-- The commands that a rank may issue (06 R195). -/
def rankMay (r : Rank) (c : DoorCmd) : Bool :=
  match c, r with
  | .none, _ => false
  | .open', .safety => false
  | .open', _ => true
  | .close, .passenger => false
  | .close, _ => true
  | .egress, .safety => true
  | .egress, _ => false
  | _, .crew => true
  | _, .program => true
  | _, _ => false

/-- Enter a command into its rank's slot (06 R196). The entry that stays, the loser if there is one. -/
def contend (old new : LatchEntry) : LatchEntry × Option LatchEntry :=
  if new.rank == .safety then
    (if old.cmd == .egress then old else new, none)
  else if new.session ≤ old.session then (new, some old) else (old, some new)

/-- The program cycle that an entry of a stamp belongs to: one stamped exactly at a cycle start belongs to the cycle that begins there (06
R196). -/
def State.latchCycle (s : State) (stamp : Nat) : Nat := (stamp + 8 * s.clock.base) / (8 * s.tCyc)

/-- Two entries contend: they are of one rank and one cycle. -/
def State.contends (s : State) (x y : LatchEntry) : Bool := x.rank == y.rank && s.latchCycle x.stamp = s.latchCycle y.stamp

def State.enterLatch (s : State) (f : Nat) (e : LatchEntry) : State :=
  match (s.door f).slots.find? (fun x => s.contends x e) with
  | none => s.setDoor f (fun d => { d with slots := d.slots ++ [e] })
  | some old =>
    let (stay, lost) := contend old e
    let s := s.setDoor f (fun d => { d with slots := d.slots.map (fun x => if s.contends x e then stay else x) })
    match lost with
    | none => s
    | some l => s.setDoor f (fun d => { d with losers := d.losers ++ [l] })

/-- An entry of a DOOR block: it belongs to the program cycle that completes at tick `t` (06 R194 to R196). -/
def State.applyDoor (s : State) (t f : Nat) (cmd : DoorCmd) (rank : Rank) : State :=
  if s.mode != .run then s.setDoor f (fun d => { d with result := stState })
  else if !rankMay rank cmd then s.setDoor f (fun d => { d with result := stRange })
  else s.enterLatch f ⟨cmd, rank, 0, none, 8 * t - 1⟩

/-- The entry of the highest rank, of those stamped before a cycle start at tick `t` (06 R197). -/
def Door.latchPick (d : Door) (t : Nat) : Option LatchEntry :=
  let pick (r : Rank) : Option LatchEntry := d.slots.find? (fun e => decide (e.stamp < 8 * t) && e.rank == r)
  (pick .safety).orElse (fun _ => (pick .crew).orElse (fun _ => (pick .program).orElse (fun _ => pick .passenger)))

/-- The latch takes the highest-ranked entry and empties every slot (06 R197): of the entries of the cycle that ends, and not of those stamped
at this start. The losers are counted, but Hall B's never (R196, R198), and wait for their answer. -/
def State.takeLatch (s : State) (f : Nat) : State :=
  let d := s.door f
  let old (e : LatchEntry) : Bool := decide (e.stamp < 8 * s.tick)
  match d.latchPick s.tick with
  | none => s
  | some w =>
    let lost := d.losers.filter old ++ d.slots.filter (fun e => old e && e.rank != w.rank)
    s.setDoor f (fun d => { d with
        slots := d.slots.filter (fun e => !old e), losers := d.losers.filter (fun e => !old e), taken := some w, lost := lost
        latchLost := (lost.filter (fun e => e.rank != .safety)).foldl (fun n _ => satInc n) d.latchLost
        lastCmd := word32 (w.cmd.code + 256 * w.rank.code + 65536 * w.session) })

/-- A program cycle start comes at the grid point on which this sample stands (00 R15, 10 R327). -/
def State.startComing (s : State) : Bool := s.tickDue && s.startAt (s.tick + 1) && s.hallAUp

/-- The command that the latch of a flight will take at the cycle start that stands on this sample's grid point, with what the program's cycle
that completes there enters: the sequencer judges it at the end of this sample (06 R199). -/
def State.comingCmd (s : State) (f : Nat) : Option LatchEntry :=
  if !s.startComing then none
  else
    let ends := if s.prog.executing.isNone && !s.prog.written && s.prog.run then s.prog.actions else []
    let t := s.tick + 1
    ((ends.foldl (fun s x => match x with
      | .door _ g cmd rank => if g = f then s.applyDoor t g cmd rank else s
      | _ => s) s).door f).latchPick t

/-! ### One sample of the sequencers (06 R192) -/

/-- Rows that are commands of their own, or wait for one, are left to them. -/
def Row.auto (r : Row) : Bool := r.tag == .plain

/-- The locked lines of UNLOCKING and LOCKING are what they wait for, in time (06 R201). -/
def State.meetsLock (s : State) (f : Nat) : Bool :=
  let d := s.door f
  match d.st with
  | .unlocking => s.lockedNone f && decide (s.ms < d.since + s.parN Par.flightUnlockMs f 0)
  | .locking => s.lockedBoth f && decide (s.ms < d.since + s.parN Par.flightLockMs f 0)
  | _ => false

/-- The leaf has reached the end of its stroke: WARN and OBSTRUCTED clear, and the step is disengaged (06 R202, R203, R206). -/
def State.strokeReached (s : State) (f : Nat) : State :=
  let d := s.door f
  if d.afterRest.isSome then s
  else if d.st == .closing && !s.leafAt f (s.closedPos f) then s.setDoor f (fun d => { d with closedHoldAt := none })
  else if d.st == .closing && d.closedHoldAt.isNone then
    (s.ungear f).setDoor f (fun d => { d with closedHoldAt := some s.stamp, warn := false, obstructed := false })
  else if d.st == .opening && s.leafAt f (s.openPos f) then s.setDoor f (fun d => { d with obstructed := false })
  else s

/-- The row of a command that comes with this sample's grid point stands above the rows that wait for none, which are left out for it: the
judgement of the command takes it (06 R199, R201). DEDUCED (log 97). -/
def State.leftToCmd (s : State) (f : Nat) : Bool :=
  match s.comingCmd f with
  | none => false
  | some e => match s.doorRow f (some e) with
    | some r => r.tag == .command
    | none => false

/-- Evaluate the DOOR of a flight at the end of a sample, without a command. -/
def State.doorEval (s : State) (f : Nat) : State :=
  let s := if s.meetsLock f then s.setDoor f (fun d => { d with met := true }) else s
  let s := s.strokeReached f
  let before := (s.door f).st
  let wait := s.leftToCmd f
  let s := match s.doorRow f none with
    | some r => if r.auto && !wait then r.act s else s
    | none => s
  let s := if wait then s else s.markFaults f
  if wait || (s.door f).st != before || s.detecting f then s
  else match (s.door f).st with
    | .reversing => s.reactSample f
    | .referencing => if (s.door f).ref.active then s.refSample f else s
    | .unlocking =>
      let in' := match (s.door f).stepSt with | .retracted | .retracting | .stopped => true | _ => false
      if s.stepSeq f = 1 && s.lockedNone f && in' then (s.stepExtend f).2 else s
    | _ =>
      match (s.door f).afterRest with
      | some o => if s.turnDone f then s.beginMoves f o (s.midway f o) else s
      | none => s

/-- One sample of every sequencer of a flight: LOCK and STEP, then DOOR or a standalone reference run. They run only in RUN (06
R194). -/
def State.seqSample (s : State) (f : Nat) : State :=
  if s.mode != .run then s
  else
    let s := if s.hasComposite btLock f then s.lockEval f else s
    let s := if s.hasComposite btStep f then s.stepEval f else s
    let s := if s.hasDoor f then (if (s.door f).st == .inactive then s else s.doorEval f)
      else if (s.door f).ref.active then s.refSample f else s
    s.releaseAtRest f

/-! ### Start of service and leaving RUN (06 R194, R209, R211) -/

/-- The start-of-service evaluation of a DOOR (06 R211), from whatever state its flight was left in; it ends no cycle (R226). What its axes do
at that moment ends with the states that ask for it (R200, R208, R213). A cause of the LOCK axis has no code of R209 and is not looked at.
DESIGN CHOICE (log 90). -/
def State.startService (s : State) (f : Nat) : State :=
  let s := s.abortRun f 4
  let s := s.setDoor f (fun d => { d with
      st := .inactive, faultCause := 0, since := s.stamp, warn := false, closePendingAt := none, gaveUp := false, attempt := 0, reaction := none,
      afterRest := none, kept := [], met := false, ref := .reset })
  let s := s.modCyc f (fun _ => CycAcc.fresh s.stamp)
  let s := s.modObs f (fun o => { o with
      unclean := 0, opens := 0, closes := 0, openedFull := false, stopped := false, cmdOpens := 0, cmdCloses := 0,
      cmdOthers := 0, acc := [] })
  let s := s.markFaults f
  let leafBad := !(s.activeCauses (leafOf f)).isEmpty
  let stepBad := s.stepFitted f && !(s.activeCauses (stepOf f)).isEmpty
  if s.isoBits f ≠ 0 then s.isolate f
  else if !s.neither (12 * f + 4) then s.egress f
  else if leafBad then s.doorFault f 2 0
  else if stepBad then s.doorFault f 3 0
  else if s.closedBoth f && s.lockedBoth f && (!s.stepFitted f || s.retractedBoth f) then
    (s.enterDoor f .referencing).startRun f none true
  else if s.flightUnsure f then s.doorFault f 1 0
  else s.doorFault f 10 0

/-- Every composite of a flight at an entry to RUN. -/
def State.enterService (s : State) (f : Nat) : State :=
  let s := if s.hasComposite btLock f then s.enterLock f (if s.lockedBoth f then .locked else .engaging) else s
  let s := if s.hasComposite btStep f then s.stepService f else s
  if s.hasDoor f then s.startService f else s

/-- The sequencers leave RUN: STOP on every moving axis of the flight, states INACTIVE, the latch empty; SAFE_HOLD marks the doors that
were in service (06 R194, R209). -/
def State.leaveService (s : State) (f : Nat) (safeHold : Bool) : State :=
  if !s.hasAnyBlock f && (s.door f).st == .inactive then s
  else
    let d := s.door f
    let s := match d.taken with
      | some w => d.lost.foldl (fun (s : State) e => s.resolve f e w stConflict) (s.resolve f w w stState)
      | none => s
    let s := (d.slots ++ d.losers).foldl (fun s e => s.resolve f e e stState) s
    let s := (s.stopMoving (leafOf f)).stopMoving (stepOf f)
    let s := s.seqCmd (lockOf f) .deenergize
    let s := if safeHold && s.hasDoor f && d.st != .inactive then
        (s.setDoor f (fun d => { d with faultCause := 9 })).record Evt.doorFault f [9, word32 (s.activeFaults f), 0]
      else s
    (s.setDoor f (fun d => { d with
        st := .inactive, stepSt := .inactive, lockSt := .inactive, ref := { d.ref with st := .idle }
        slots := [], losers := [], taken := none, lost := [], warn := false, closePendingAt := none, reaction := none, afterRest := none, kept := []
        stepReq := none, lockReq := none, refReq := false })).endStroke f

end Sys2Proof.Machine
end

