-- ==== Sys2Proof/Machine/Flags.lean ====
section
/-! DEFINITION. The status words: every bit field that the spec lays out, computed from the state. Reserved bits read 0. -/

namespace Sys2Proof.Machine

/-- The firmware bank that a hall runs from (14 R465, R480). -/
def State.bankOf (s : State) (h : HallId) : Bank :=
  match h with
  | .a => s.sec.banksA.getD (bitN (wbit s.sec.runBank 0) 0) .reset
  | .b => s.sec.banksB.getD (bitN (wbit s.sec.runBank 1) 0) .reset

/-- A status word from its bits, bit 0 first. DEDUCED (log 18). -/
def flagWord : List Bool → BitVec 32
  | [] => 0
  | b :: bs => (if b then 1 else 0) + 2 * flagWord bs

/-! ### Clocks and supply (01 R39, 02 R77) -/

/-- CLOCK.STATUS. -/
def State.clockStatus (s : State) : BitVec 32 :=
  flagWord [s.hallA.pllLocked, s.hallB.pllLocked, (s.die 0).pllLocked, (s.die 1).pllLocked && s.ds9600,
    s.clock.crossA || s.clock.crossB, s.clock.rcWarn, s.ring.slewTicks ≠ 0]

/-- The halls run from hold-up: supply invalid, series switch open, or BAT− lost (02 R58, R59). -/
def State.onHoldup (s : State) : Bool :=
  s.supply.groundLost || !s.supply.valid || !s.supply.switchClosed || decide (180 < s.supply.vin8.headD 0)

/-- SUPPLY.STATUS. -/
def State.supplyStatus (s : State) : BitVec 32 :=
  flagWord [s.supply.uv, s.supply.uvLatched, s.supply.ov, s.onHoldup, s.supply.holdupLow, s.supply.groundLossSeen, !s.supply.mpres]

/-! ### Treads, storeys, flights (03 R111, R113, 06 R225) -/

/-- TREAD.STATUS. -/
def State.treadStatus (s : State) (t : Nat) : BitVec 32 :=
  let x := s.tread t
  flagWord [x.mode != .off, s.treadEnabled t, x.inLimit, x.clamp, x.therm, x.wire, (x.waitRearm && !x.latchedOff) || x.retryAt.isSome, x.latchedOff,
    x.openLoad, x.senseFault, x.lhDriven]

/-- STOREY.STATUS. -/
def State.storeyStatus (s : State) (u : Nat) : BitVec 32 :=
  let d := s.budget (16 + dieOfStorey u)
  flagWord [decide ((s.budget (12 + u)).scale < 16), (s.budget (12 + u)).stopped, (s.storey u).breakerOpen, decide (d.scale < 16),
    d.stopped]

/-- FLIGHT.STATUS. -/
def State.flightStatus (s : State) (f : Nat) : BitVec 32 :=
  let d := s.door f
  flagWord [d.st == .closedLocked, s.permission f, d.warn, d.closePendingAt.isSome, d.obstructed, d.gaveUp, d.ref.waitPerm,
    d.refCoarse, d.refReversed, decide ((s.budget f).scale < 16), (s.budget f).stopped, s.flightUnsure f]

/-! ### Sense lines and ports (04 R149, R151) -/

/-- A cleaning pulse runs or waits on the line (04 R120). -/
def State.cleaning (s : State) (l : Nat) : Bool :=
  s.pulsing l || (s.cleaners.getD (cleanerOf l) ⟨none, 0, []⟩).waiting.any (fun w => w.2 = l)

/-- The current in milliamperes that a line sinks to BAT− (04 R116, R120, R126): WET_I while a DIGITAL line is in use and its feed is on, up to
50 mA while it pulses. -/
def State.wetting (s : State) (l : Nat) : Rat :=
  let fed := if l < 144 then (s.fpower (flightOfLine l)).feedOn else s.configLoaded
  if !s.lineUsed l || s.lineMode l ≠ 0 || !fed then 0 else if s.pulsing l then 50 else s.parN Par.senseWetI l 0

/-- SENSE.STATUS. -/
def State.senseStatus (s : State) (l : Nat) : BitVec 32 :=
  let x := s.sense l
  flagWord [(s.settled l x.p).valid, (s.settled l x.q).valid, s.logical l x.q, x.mismatch,
    s.parB Par.senseTrack l 0 && decide (x.p.teff ≠ s.parR Par.senseThresh l 0), x.atFence, s.cleaning l, x.loopFault, x.overRange]

/-- PORT.STATUS. -/
def State.portStatus (s : State) (p : Nat) : BitVec 32 :=
  let x := s.port p
  flagWord [x.moving, x.wrapToggle, x.countInvalid, x.lineFault, x.ssiFault, x.supplyFault, x.mismatch, x.echoOverrun]

/-! ### Axes and obstacle models (05 R190, 07 R258) -/

/-- In HOLD with |dev| at most INPOS_WIN (05 R178). -/
def State.inPosition (s : State) (a : Nat) : Bool :=
  let x := s.axis a
  x.st == .hold && decide (x.dev.natAbs ≤ s.parN Par.axisInposWin a 0)

/-- AXIS.STATUS. -/
def State.axisStatus (s : State) (a : Nat) : BitVec 32 :=
  let x := s.axis a
  let braked := s.axType a ≠ 4 && (s.claimed a).any (fun t => (s.tread t).cmd == .brake)
  let enabled := match x.st with
    | .aligning | .hold | .moving | .stopping => true
    | .idle => braked
    | .faultStop => braked || (s.axType a = 3 && s.parN Par.axisFaultReact a 0 = 0)
    | .disabled => false
  flagWord [enabled, x.st == .moving || x.st == .stopping, x.referenced, x.posUncertain, x.commCoarse, x.gear.geared, x.decelHeld,
    x.overshoot, x.atLimit, x.inFoldback, x.st == .faultStop, decide (8 ≤ x.queue.length), s.inPosition a]

/-- OBSTACLE.STATUS. -/
def State.obstStatus (s : State) (f : Nat) : BitVec 32 :=
  let o := s.obs f
  flagWord [o.watching, o.commissioning, o.map.valid, o.map.mature, o.map.drift, o.tempInvalid, o.edgeFault, s.learnHeld f,
    (s.axis (leafOf f)).commCoarse, o.inStart, s.par Par.obstacleTrigEn f 0 = 0]

/-! ### The program (10 R374) -/

/-- PROGRAM.STATE: 0 NONE, 1 RUNNING, 2 STOPPED (10 R373). -/
def State.progState (s : State) : Nat := if s.prog.running.isNone then 0 else if s.prog.run then 1 else 2

/-- PROGRAM.STATUS. -/
def State.progStatus (s : State) : BitVec 32 :=
  flagWord [s.progState = 1, !s.prog.forces.isEmpty, s.prog.overran, s.prog.arithLast, s.prog.pendState == .ready,
    s.prog.override.isSome]

/-! ### Hall B (08 R276, R298) -/

/-- The zero-speed pair has been active for ZS_SETTLE, half-open on the 1 ms grid. -/
def State.zeroSpeed (s : State) : Bool := decide (s.parN Par.safetyZsSettle 0 0 < s.safety.zsSettle)

/-- Both switches of a DCL output are on, and no inhibit is asserted (01 R41). -/
def State.conducting (s : State) (o : Nat) : Bool :=
  let d := if o = 0 then s.safety.dclA else s.safety.dclB
  d.on1 && d.on2 && !s.safety.inhibit

/-- Every pair in the order of SAFETY.DISC_LATCH (08 R297): 4f + p for the flights, 48 zero speed, 49 and 50 release left and right. -/
def State.pair (s : State) (n : Nat) : Pair :=
  if n < 48 then
    let x := s.fsafe (n / 4)
    match n % 4 with
    | 0 => x.closedP
    | 1 => x.lockedP
    | 2 => x.egressP
    | _ => x.stepP
  else if n = 48 then s.safety.zero else if n = 49 then s.safety.relL else s.safety.relR

def State.modPair (s : State) (n : Nat) (g : Pair → Pair) : State :=
  if n < 48 then
    match n % 4 with
    | 0 => s.modFsafe (n / 4) (fun x => { x with closedP := g x.closedP })
    | 1 => s.modFsafe (n / 4) (fun x => { x with lockedP := g x.lockedP })
    | 2 => s.modFsafe (n / 4) (fun x => { x with egressP := g x.egressP })
    | _ => s.modFsafe (n / 4) (fun x => { x with stepP := g x.stepP })
  else if n = 48 then { s with safety := { s.safety with zero := g s.safety.zero } }
  else if n = 49 then { s with safety := { s.safety with relL := g s.safety.relL } }
  else { s with safety := { s.safety with relR := g s.safety.relR } }

/-- The two lines of a pair (04 R126). -/
def pairLine (n : Nat) : Nat :=
  if n < 48 then
    12 * (n / 4) + (match n % 4 with | 0 => 0 | 1 => 2 | 2 => 4 | _ => 10)
  else 144 + 2 * (n - 48)

/-- A pair that acts only when both channels agree that it acts (08 R263). -/
def pairDemanding (n : Nat) : Bool := n < 48 && n % 4 == 2

/-- The restrictive value of a safety line (08 R262). -/
def restrictive (l : Nat) : Bool := l < 144 && (l % 12 == 4 || l % 12 == 5 || l % 12 == 6)

/-- The trusted value of a safety line: its secondary state while that is valid and not in mismatch (08 R262). A line that does not
serve its role reads inactive. -/
def State.trusted (s : State) (l : Nat) : Bool :=
  let x := s.sense l
  if s.lineUse l ≠ 1 then false
  else if (s.settled l x.q).valid && !x.mismatch then s.logical l x.q else restrictive l

/-- A pair is active (08 R263). -/
def State.pairActive (s : State) (n : Nat) : Bool :=
  let a := s.trusted (pairLine n)
  let b := s.trusted (pairLine n + 1)
  if pairDemanding n then (a && b) || (s.pair n).latch else a && b && !(s.pair n).latch

/-- A signal received in a safe frame: active only while the connection's values are valid (08 R277, 09 R310). -/
def State.rxSignal (s : State) (c k : Nat) : Bool := (s.conn c).valid && (s.conn c).sig.toNat.testBit k

/-- The zero-speed and release values in use (08 R276, R277). -/
def State.zeroActive (s : State) : Bool :=
  if s.parN Par.safetyZsSrc 0 0 = 1 then s.rxSignal (s.parN Par.safelinkZsConn 0 0) 3 else s.pairActive 48

def State.releaseL (s : State) : Bool :=
  if s.parN Par.safetyRelSrc 0 0 = 1 then s.rxSignal (s.parN Par.safelinkRelConn 0 0) 4 else s.pairActive 49

def State.releaseR (s : State) : Bool :=
  if s.parN Par.safetyRelSrc 0 0 = 1 then s.rxSignal (s.parN Par.safelinkRelConn 0 0) 5 else s.pairActive 50

/-- The brake-hold of Hall B: SAFE_HOLD with some enable held (08 R290). -/
def State.brakeHolds (s : State) : Bool := s.hallB.mode == .safeHold && s.flightPower.any (·.enB)

/-- SAFETY.STATUS. -/
def State.safetyStatus (s : State) : BitVec 32 :=
  flagWord [s.conducting 0, s.conducting 1, s.safety.inhibit, s.hallB.mode == .safeHold, s.brakeHolds, s.safety.sealRd.ok,
    s.safety.dclA.fault, s.safety.dclB.fault, s.zeroSpeed, s.releaseL, s.releaseR, s.trusted 152,
    (List.range 51).any (fun n => (s.pair n).latch), s.safety.resetHeld, s.safety.resetStuck,
    s.safety.flights.any (·.egress)]

/-! ### System, gallery, ring, security (12 R436, 11 R408, 13 R462, 14 R493) -/

/-- FAULT and SAFETY conditions of the halls, the firmware, the images and the safety functions. -/
def State.hallFault (s : State) : Bool :=
  s.hallA.mode == .safeHold || s.hallB.mode == .safeHold || s.hallA.inReset || s.hallB.inReset || s.clock.crossA || s.clock.crossB ||
    s.safety.dclA.fault || s.safety.dclB.fault || (List.range 51).any (fun n => (s.pair n).latch) || s.safety.flights.any (·.egress) ||
    s.sec.calFault || s.sec.activeCorrupt || s.sec.fallback || (s.sec.booted && s.sec.trialEnd.isNone && s.sec.runBank ≠ s.sec.bootBank)

/-- FAULT conditions of the supply, the storeys, the flights and the treads. -/
def State.powerFault (s : State) : Bool :=
  (List.range 20).any (fun lv => (s.budget lv).stopped) || s.storeys.any (·.breakerOpen) || s.flightPower.any (·.opened) ||
    s.treads.any (fun x => x.latchedOff || x.senseFault) || s.supply.groundLost || !s.supply.mpres

/-- FAULT conditions of the sense lines and the ports whose events are recorded (04 R152). -/
def State.inputFault (s : State) : Bool :=
  (List.range 160).any (fun l => s.lineUsed l && (s.sense l).mismatch) ||
    (List.range 24).any (fun p =>
      let x := s.port p
      s.portUsed p && (x.lineFault || x.ssiFault || x.supplyFault || x.mismatch))

/-- An axis in FAULT_STOP with a cause whose own event is a FAULT (05 R160, R178, R179, R188); AXIS_FAULT_STOP is a WARNING (05 R173). -/
def Axis.faulty (x : Axis) : Bool := x.st == .faultStop && [9, 10, 12, 13].contains x.faultCause

/-- A condition whose event has severity FAULT or SAFETY is active (02 R56). DEDUCED (log 88). -/
def State.faultActive (s : State) : Bool :=
  s.hallFault || s.powerFault || s.inputFault || s.axes.any Axis.faulty || s.doors.any (·.st == .fault) || s.gallery.degraded ||
    (!s.prog.run && (s.prog.stopCause = 1 || s.prog.stopCause = 2)) || (s.ring.st = 0 && s.ring.refuseCause ≠ 0)

/-- What a LED shows. -/
inductive Led where
  | off
  | steady
  | blink1Hz
  | blink2Hz
  | blink4Hz
  | flicker
deriving DecidableEq, Repr

/-- The colour of the SAFE LED. -/
inductive LedColour where
  | green
  | amber
  | red
deriving DecidableEq, Repr

def Led.when (b : Bool) : Led := if b then .steady else .off

/-- RUN, by Hall A. 02 R56 gives SAFE_HOLD no indication: it is a free value. DESIGN CHOICE (log 72). -/
def State.ledRun (s : State) : Led :=
  if !s.hallAUp then .off
  else match s.mode with
    | .boot | .standby => .blink1Hz
    | .run => .steady
    | .maintenance | .update => .blink4Hz
    | .safeHold => [Led.off, .steady, .blink1Hz, .blink2Hz, .blink4Hz, .flicker].getD (Config.runLedInHold % 6) .off

/-- FAULT, by either hall, and by the boot ROM of a Hall B that is halted in it. -/
def State.ledFault (s : State) : Led := Led.when (((s.hallAUp || s.hallBUp) && s.faultActive) || s.hallB.romHalt)

/-- FORCE, by Hall A. -/
def State.ledForce (s : State) : Led := Led.when (s.hallAUp && !s.prog.forces.isEmpty)

/-- SAFE, by Hall B, with its colour. -/
def State.ledSafe (s : State) : Led × LedColour :=
  if !s.hallBUp then (.off, .green)
  else if s.hallB.mode == .safeHold then (.blink2Hz, .red)
  else if s.conducting 0 && s.conducting 1 then (.steady, .green) else (.steady, .amber)

/-- LINK1 and LINK2, by the switch of LD section A. -/
def State.ledLink (s : State) (p : Nat) : Led :=
  if !s.railsUp .a || !s.supply.switchClosed || !s.train.links.getD p false then .off
  else if s.train.traffic.getD p false then .flicker else .steady

/-- RING, by Hall A: no ring on a DS-4800 (02 R46). -/
def State.ledRing (s : State) : Led :=
  if !s.hallAUp || !s.hasRing || s.ring.st = 0 then .off else if s.ring.st = 2 then .steady else .blink1Hz

/-- SYS.STATUS. -/
def State.sysStatus (s : State) : BitVec 32 :=
  flagWord [s.mode == .run, s.mode == .safeHold, s.mode == .maintenance, s.faultActive, !s.prog.forces.isEmpty,
    decide (s.currentBudget.scale < 16) || decide (s.thermalBudget.scale < 16), s.currentBudget.stopped || s.thermalBudget.stopped,
    s.safety.sealRd.ok, s.gallery.degraded, s.prog.override.isSome, s.hallB.inReset, s.progState = 1]

/-- GALLERY.STATUS. -/
def State.galleryStatus (s : State) : BitVec 32 :=
  let g := s.gallery
  flagWord [g.degraded, g.alcove.any (fun r => !r.copied), g.paused, g.lost.any (· ≠ 0) || g.rateLost ≠ 0,
    s.parN Par.galleryFloodMode 0 0 = 1, g.rebuildFrom.isSome, g.wearWarn, g.timeEst]

/-- The module passes ring frames unchanged and writes no slot (13 R442). -/
def State.ringBypass (s : State) : Bool :=
  s.hallA.inReset || s.mode == .boot || s.mode == .update || s.parN Par.ringEn 0 0 = 0 || s.safety.sealRd.value.isNone

/-- RING.STATUS. -/
def State.ringStatus (s : State) : BitVec 32 :=
  let r := s.ring
  let up (p : Nat) : Bool := (r.ports.getD p .reset).st = 2
  flagWord [r.st = 2 && !s.ringBypass, r.st ≠ 0 && r.position = 0 && !r.members.isEmpty, r.ports.any (·.st = 3), r.slewTicks ≠ 0, up 0, up 1]

/-- SECURITY.STATUS. -/
def State.securityStatus (s : State) : BitVec 32 :=
  flagWord [s.sec.keys.any (·.st = 1), s.sec.fwPending ≠ 0, s.sec.fallback, s.sec.calFault]

end Sys2Proof.Machine
end

