-- ==== Sys2Proof/Machine/ProgramOps.lean ====
section
/-! DEFINITION. The program as a whole (10): what it binds and owns, stopping it, CAN transmission. -/

namespace Sys2Proof.Machine

/-! ### CAN transmission (10 R356 to R358) -/

def State.canPort (s : State) (p : Nat) : CanPort := s.can.ports.getD p .reset

def State.modCan (s : State) (p : Nat) (f : CanPort → CanPort) : State :=
  { s with can := { s.can with ports := s.can.ports.modify p f } }

/-- Send a frame on a port that is in use; one queued while the port is bus-off is discarded and counted. DEDUCED (log 49). -/
def State.canSend (s : State) (p : Nat) (id : BitVec 11) (data : Bytes) : State :=
  if s.parN Par.canEn 0 p ≠ 1 then s
  else match (s.canPort p).st with
    | .off => s
    | .busOff => s.modCan p (fun x => { x with txLate := x.txLate + 1 })
    | _ => s.send (.can p id data)

/-- The frames of a cycle start on a port, in their order. Of how many the bus lets through before the next start the spec says nothing:
that number is free, and the others wait. DESIGN CHOICE (log 94). -/
def State.canSendAll (s : State) (p : Nat) (l : List (BitVec 11 × Bytes)) : State :=
  if (s.canPort p).st == .busOff || s.parN Par.canEn 0 p ≠ 1 then l.foldl (fun s x => s.canSend p x.1 x.2) s
  else
    let n := Config.canOut s.draws
    let s := { s with draws := s.draws + 1 }
    ((l.take n).foldl (fun s x => s.canSend p x.1 x.2) s).modCan p (fun x => { x with waiting := l.drop n })

/-- A frame not sent before the next cycle start is discarded and counted (10 R358). -/
def State.canLate (s : State) : State :=
  { s with can := { s.can with ports := s.can.ports.map (fun x => { x with txLate := x.txLate + word32 x.waiting.length, waiting := [] }) } }

/-- NMT to a node of a port; node 0 is all of them (10 R357). -/
def State.nmt (s : State) (p : Nat) (cmd node : BitVec 8) : State := s.canSend p 0 [cmd, node]

def State.nmtAll (s : State) (cmd : BitVec 8) : State := (s.nmt 0 cmd 0).nmt 1 cmd 0

/-- The node and port of a heartbeat entry in use. -/
def State.hbNode (s : State) (k : Nat) : Option (Nat × Nat) :=
  let w := s.par Par.canHbNode 0 k
  if wfield w 6 0 = 0 then none else some (wfield w 6 0, bitN (wbit w 8) 0)

/-- "Start remote node" to each node of CAN.HB_NODE, at a program start (10 R357). -/
def State.nmtStart (s : State) : State :=
  s.forEach 32 (fun s k => match s.hbNode k with
    | none => s
    | some (n, p) => s.nmt p 1 (BitVec.ofNat 8 n))

/-! ### What the program binds and owns (10 R28 of 01, R339, R347, R348) -/

def bindTread : BitVec 16 := 0x8001
def bindAux : BitVec 16 := 0x8002

/-- The variables that carry a binding of a kind. -/
def Container.bound (c : Container) (kind : BitVec 16) : List Var := c.vars.filter (fun v => v.bindKind = kind)

/-- A block's first input, a constant: its axis, flight, PID or code. -/
def Block.constIn (b : Block) : Option (BitVec 32) :=
  match b.ins with
  | .const _ v :: _ => some v
  | _ => none

def Block.isMotion (b : Block) : Bool := 0x40 ≤ b.type.toNat && b.type.toNat ≤ 0x43

/-- The axes that motion blocks use. -/
def Container.motionAxes (c : Container) : List Nat :=
  (c.blocks.filter (·.isMotion)).filterMap (fun b => b.constIn.map (·.toNat))

/-- The parameters that PAR_WR blocks name. -/
def Container.writtenPids (c : Container) : List (BitVec 32) :=
  (c.blocks.filter (fun b => b.type = 0x49)).filterMap (·.constIn)

/-- A parameter that the loaded program owns (10 R348). -/
def State.progOwns (s : State) (pid : Nat) : Bool :=
  match s.prog.running with
  | none => false
  | some c => c.writtenPids.any (fun p => p.toNat = pid)

/-- An axis that the loaded program owns: by a motion block, or by a composite block of its flight (05 R167, 06 R193), whose sequencers have
released it in MAINTENANCE (R194). -/
def State.progOwnsAxis (s : State) (a : Nat) : Bool :=
  match s.prog.running with
  | none => false
  | some c => c.motionAxes.contains a || (s.mode != .maintenance && s.hasAnyBlock (flightOfAxis a))

/-! ### Forces (10 R366) -/

/-- Every force is cleared, with its cause: 0 start-up, 1 activation, 2 PROGRAM.RESTART, 3 program stop, 4 command, 5 Hall A reset. -/
def State.clearForces (s : State) (cause : Nat) : State :=
  ({ s with prog := { s.prog with forces := [] } }).record Evt.forceAllCleared noSource [word32 cause]

/-! ### Stopping (10 R335) -/

/-- Free treads OFF and PROGRAM-owned AUX outputs low. -/
def State.dropOutputs (s : State) (c : Container) : State :=
  let s := (c.bound bindTread).foldl (fun s v => s.driveTread v.bindInst.toNat .off 0) s
  (c.bound bindAux).foldl (fun s v => s.setAux v.bindInst.toNat false none) s

/-- A motion command of the program: only RUN lets it through (10 R334). -/
def State.progCommand (s : State) (a : Nat) (c : AxCmd) : Nat × State :=
  if s.mode != .run then (stState, s) else s.axisCommand a false false c

/-- What stopping does outside PE: outputs, axes and CAN. -/
def State.quietProgram (s : State) : State :=
  match s.prog.running with
  | none => s
  | some c =>
    let s := s.dropOutputs c
    let s := c.motionAxes.foldl (fun s a => s.seqCmd a .stop) s
    s.nmtAll 0x80

/-- The program stops: 0 with the module state UPDATE, 1 HUNG, 2 ESCALATED, 3 COMMAND. -/
def State.stopProgram (s : State) (cause : Nat) : State :=
  if s.prog.running.isNone then s
  else
    let s := s.quietProgram
    let s := { s with
        prog := { s.prog with
        run := false, stopCause := cause, executing := none, actions := [], written := true, skips := 0
        startDue := if cause = 0 then s.prog.startDue else none } }
    s.clearForces 3

/-- The program runs again after UPDATE, unless something else has stopped it (10 R334). -/
def State.resumeProgram (s : State) : State :=
  if s.prog.running.isSome && s.prog.stopCause = 0 && s.prog.startDue.isNone && !s.prog.run then
    ({ s with prog := { s.prog with run := true, executing := none, skips := 0 } }).nmtStart
  else s

/-- PROGRAM.STOP (10 R335). -/
def State.progStopWrite (s : State) (v : BitVec 32) : Nat × State :=
  if v ≠ 1 then (stRange, s)
  else if !(s.mode == .standby || s.mode == .maintenance) then (stState, s)
  else (stOK, (s.stopProgram 3).recordIf s.prog.running.isSome Evt.programStopped noSource [])

/-- PROGRAM.RESTART: a cold start from the running container at the next cycle start (10 R335, R336). -/
def State.progRestartWrite (s : State) (v : BitVec 32) : Nat × State :=
  if v ≠ 1 then (stRange, s)
  else if !(s.mode == .standby || s.mode == .maintenance || s.mode == .run) || s.prog.running.isNone then (stState, s)
  else (stOK, { s with prog := { s.prog with startDue := some 2 } })

/-- FORCE.CLEAR_ALL (10 R366). -/
def State.forceClearWrite (s : State) (v : BitVec 32) : Nat × State :=
  if v ≠ 1 then (stRange, s) else (stOK, s.clearForces 4)

end Sys2Proof.Machine
end

