-- ==== Sys2Proof/Machine/SafeLink.lean ====
section
/-! DEFINITION. The Vuankan safe frame (09): its bytes, sending, the judgement of a received frame, validity. -/

namespace Sys2Proof.Machine

/-! ### The frame (09 R302 to R305) -/

/-- The safety code of a frame: CRC-32 with polynomial 0xF4ACFB13, reflected, initial value and final XOR all ones (09 R305). -/
def crcSafe (bs : Bytes) : BitVec 32 := ~~~ (bs.foldl (crcByteR 0xC8DF352F) 0xFFFFFFFF)

/-- The prefix of the safety code: the two identities as a receiver of the stream expects them. -/
def idPrefix (src dst : Nat) : Bytes := leBytes 4 src ++ leBytes 4 dst

/-- One signal byte (09 R303). -/
def sigByte (b : Bool) : BitVec 8 := if b then 0x96 else 0x69

/-- The car tally (08 R268). -/
def State.carTally (s : State) : Bool := s.safety.tallyL && s.safety.tallyR

/-- The signals of a frame at this tick (09 R304). -/
def State.vsfSignals (s : State) : Bytes :=
  [s.carTally, s.safety.tallyL, s.safety.tallyR, s.zeroSpeed, s.releaseL, s.releaseR, s.trusted 152,
    s.safety.flights.any (·.egress), s.hallB.mode == .safeHold, s.conducting 0, s.conducting 1].map sigByte ++ [0] ++
  (List.range 12).map (fun f => if f < s.nFlights then sigByte (s.fsafe f).cl else 0)

/-- The bytes of a frame before its safety code. -/
def vsfBody (src dst seq time echo : Nat) (signals : Bytes) : Bytes :=
  leBytes 4 src ++ leBytes 4 dst ++ leBytes 4 seq ++ leBytes 4 time ++ leBytes 4 echo ++ [1, 32, 0, 0] ++
    [1, 0] ++ signals ++ List.replicate 6 0

def vsfFrame (src dst seq time echo : Nat) (signals : Bytes) : Bytes :=
  let b := vsfBody src dst seq time echo signals
  b ++ leBytes 4 (crcSafe (idPrefix src dst ++ b)).toNat

/-! ### Connections (09 R300, R309) -/

def State.ownId (s : State) : Nat := s.parN Par.safelinkOwnId 0 0
def State.peerId (s : State) (c : Nat) : Nat := s.parN Par.safelinkConnPeerId 0 c
def State.tExp (s : State) (c : Nat) : Nat := s.parN Par.safelinkConnTexp 0 c
def State.onRing (s : State) (c : Nat) : Bool := s.parN Par.safelinkConnCarrier 0 c = 1

/-- Entry to STARTING: no frame of the peer has passed since. -/
def Conn.starting (x : Conn) : Conn := { x with st := .starting, echoSeq := 0, seqFails := 0 }

/-- A reset of Hall B: nothing of the connection stands but its counters since power-up. -/
def Conn.lost (x : Conn) : Conn := { Conn.reset with accepted := x.accepted, errors := x.errors }

/-- DISABLED by CONN_EN: Hall B goes on counting SEQ from where it is, keeps the ticks of what it has sent (09 R306), and has the end of its
values still to record (R310). CONN_RX_SIG and CONN_AGE go on showing the last accepted frame (R324). -/
def Conn.disabled (x : Conn) : Conn := { x.lost with seq := x.seq, sent := x.sent, wasValid := x.wasValid, age := x.age, sig := x.sig }

/-- The connections follow CONN_EN once the first STANDBY has been entered (09 R309). -/
def State.refreshConns (s : State) : State :=
  s.mapConns (fun c x =>
    if s.parN Par.safelinkConnEn 0 c ≠ 1 then x.disabled
    else if x.st == .disabled && s.firstStandby && s.hallBUp then x.starting else x)

/-- The first entry to STANDBY since power-up (08 R261, 09 R306). -/
def State.firstStandbyEntry (s : State) : State :=
  if s.firstStandby then s
  else ({ s with firstStandby := true, safety := { s.safety with standbyTick := s.tick } }).refreshConns

/-! ### Sending (09 R306) -/

/-- The next sequence number: 0 is skipped, and the first after a start of Hall B is drawn. DESIGN CHOICE (log 10). -/
def nextSeq (draws : Nat) (seq : BitVec 32) : BitVec 32 :=
  if seq = 0 then (let w := Config.freeWord draws; if w = 0 then 1 else w)
  else if seq = 0xFFFFFFFF then 1 else seq + 1

/-- Build the frame of a connection at this tick and keep its send tick. TIME is the module's own count of safety ticks since power-up, on a
ring too (09 R302, R306). -/
def State.buildVsf (s : State) (c : Nat) : Bytes × State :=
  let x := s.conn c
  let seq := nextSeq s.draws x.seq
  let bs := vsfFrame s.ownId (s.peerId c) seq.toNat (word32 (s.tick - s.clock.since)).toNat x.echoSeq.toNat s.vsfSignals
  (bs, (s.modConn c (fun x => { x with seq := seq, sent := ((seq, s.tick) :: x.sent).take 64 })).draw)

/-! ### Judging (09 R308) -/

/-- Check 1. -/
def vsfFormat (bs : Bytes) : Bool :=
  bs.length = 28 + fieldAt bs 21 1 && fieldAt bs 20 1 = 1 && fieldAt bs 22 2 = 0 && fieldAt bs 21 1 = 32 && fieldAt bs 24 1 = 1 &&
    fieldAt bs 25 1 = 0 && fieldAt bs 50 6 = 0 && ((bs.drop 26).take 24).all (fun b => b = 0x96 || b = 0x69 || b = 0)

/-- The signals of a frame that are active. -/
def vsfActive (bs : Bytes) : Nat :=
  (List.range 24).foldl (fun n k => n + bitN (bs.getD (26 + k) 0 == 0x96) k) 0

/-- The send tick of a sequence number among the last 64. -/
def Conn.sendTick (x : Conn) (seq : BitVec 32) : Option Nat :=
  if seq = 0 then none else (x.sent.find? (fun e => e.1 = seq)).map (·.2)

/-- What the six checks say of a frame: the error column that discards it, with the number of the check, or the send tick of its echo. -/
inductive Verdict where
  | discard (k check : Nat)
  | accept (echo : Nat)
deriving DecidableEq, Repr

/-- The source and destination that a received stream carries. -/
def State.idsMatch (s : State) (c : Nat) (bs : Bytes) : Bool := fieldAt bs 0 4 = s.peerId c && fieldAt bs 4 4 = s.ownId

/-- Checks 1 to 3. DEDUCED (log 42). -/
def State.vsfIdentity (s : State) (c : Nat) (bs : Bytes) : Option (Nat × Nat) :=
  if !vsfFormat bs then some (0, 1)
  else if fieldAt bs 56 4 ≠ (crcSafe (idPrefix (s.peerId c) s.ownId ++ bs.take 56)).toNat then
    some (if s.idsMatch c bs then 1 else 2, 2)
  else if !s.idsMatch c bs then some (2, 3)
  else none

/-- Checks 4 to 6 on a frame that has passed the others. DEDUCED (log 42). -/
def State.vsfVerdict (s : State) (c : Nat) (x : Conn) (bs : Bytes) : Verdict :=
  let seq := word32 (fieldAt bs 8 4)
  let time := word32 (fieldAt bs 12 4)
  let dSeq := (seq - x.rxSeq).toNat
  let dTime := (time - x.rxTime).toNat
  let opened := x.st == .open'
  if opened && (dSeq = 0 || decide (s.parN Par.safelinkConnSeqWin 0 c < dSeq)) then .discard 3 4
  else if opened && (dTime = 0 || decide (2147483648 ≤ dTime)) then .discard 4 5
  else match x.sendTick (word32 (fieldAt bs 16 4)) with
    | none => .discard 5 6
    | some t => if s.tExp c ≤ s.tick - t then .discard 5 6 else .accept t

/-- A discarded frame: counted, and recorded at most once per 10 s (09 R308, R326). DEDUCED (log 42). -/
def State.vsfDiscard (s : State) (c k check : Nat) (bs : Bytes) : State :=
  let s := s.modConn c (fun x => { x with errors := x.errors.modify k (· + 1) })
  let s := if check = 3 then s else s.recordLimited Evt.safelinkFrameError c (s.conn c).errors 10000
  if k = 2 then s.recordLimited Evt.safelinkIdError c [word32 (fieldAt bs 0 4), word32 (fieldAt bs 4 4)] 10000 else s

/-- An accepted frame. -/
def State.vsfAccept (s : State) (c echo : Nat) (bs : Bytes) : State :=
  let opens := (s.conn c).st == .starting
  let s := s.modConn c (fun x => { x with
      st := .open', rxSeq := word32 (fieldAt bs 8 4), rxTime := word32 (fieldAt bs 12 4), echoTick := echo, acceptTick := s.tick
      age := s.tick - echo, sig := BitVec.ofNat 24 (vsfActive bs), accepted := x.accepted + 1, seqFails := 0 })
  s.recordIf opens Evt.safelinkOpened c []

/-- A connection returns to STARTING: 0 three sequence failures, 1 silence (09 R309). -/
def State.vsfRestart (s : State) (c cause : Nat) : State :=
  (s.modConn c Conn.starting).record Evt.safelinkRestart c [word32 cause]

/-- The judgement of one frame at this tick (09 R308, R309). -/
def State.judgeVsf (s : State) (c : Nat) (bs : Bytes) : State :=
  if (s.conn c).st == .disabled then s
  else match s.vsfIdentity c bs with
    | some (k, check) => (s.modConn c (fun x => { x with seqFails := 0 })).vsfDiscard c k check bs
    | none =>
      let s := s.modConn c (fun x => { x with echoSeq := word32 (fieldAt bs 8 4) })
      match s.vsfVerdict c (s.conn c) bs with
      | .accept t => s.vsfAccept c t bs
      | .discard k check =>
        let fails := if check = 4 then (s.conn c).seqFails + 1 else 0
        let s := (s.modConn c (fun x => { x with seqFails := fails })).vsfDiscard c k check bs
        if 3 ≤ fails then s.vsfRestart c 0 else s

/-- The received values are valid at this tick (09 R310). -/
def State.vsfValid (s : State) (c : Nat) : Bool :=
  let x := s.conn c
  x.st == .open' && decide (s.tick < x.echoTick + s.tExp c)

/-- Validity at a tick, after the frames that reached SLE since the last one have been judged. -/
def State.refreshValid (s : State) : State := s.mapConns (fun c x => { x with valid := s.vsfValid c, wasValid := x.wasValid || s.vsfValid c })

/-- The safe link at a tick (09 R308, R310). -/
def State.linkTick (s : State) : State :=
  let frames := s.safety.vsfIn
  let s := { s with safety := { s.safety with vsfIn := [] } }
  (frames.foldl (fun s e => s.judgeVsf e.1 e.2) s).refreshValid

/-- A frame reaches SLE: it is judged at the next tick; Hall B in start-up judges none. -/
def State.vsfArrive (s : State) (c : Nat) (bs : Bytes) : State :=
  if s.hallBUp && s.hallB.mode != .boot then { s with safety := { s.safety with vsfIn := s.safety.vsfIn ++ [(c, bs)] } } else s

/-- At the tick of a ring cycle start, SLE builds the frames of the enabled RING connections for this cycle's slot (13 R457). -/
def State.ringVsf (s : State) : State :=
  if s.ring.st = 2 && s.firstStandby && s.atCycleStart then
    (List.range 8).foldl (fun s c =>
      if s.onRing c && (s.conn c).st != .disabled then
        let (bs, s) := s.buildVsf c
        { s with ring := { s.ring with sf := s.ring.sf ++ [(c, bs)] } }
      else s) { s with ring := { s.ring with sf := [] } }
  else s

end Sys2Proof.Machine
end

