-- ==== Sys2Proof/Machine/RingOps.lean ====
section
/-! DEFINITION. The ring (13) as others change it: forming begins, a safety sample and a safety tick of a member, the frame and its slots. -/

namespace Sys2Proof.Machine

def State.ringPort (s : State) (p : Nat) : RingPort := s.ring.ports.getD p .reset

def State.modRingPort (s : State) (p : Nat) (f : RingPort → RingPort) : State :=
  { s with ring := { s.ring with ports := s.ring.ports.modify p f } }

/-- A module takes part in forming: RING.EN, a configuration, and a link (13 R444, R445). -/
def State.ringCanForm (s : State) : Bool :=
  s.hasRing && !s.ringBypass && s.configLoaded && s.ring.ports.any (fun p => decide (2 ≤ p.st))

/-- The ring as it stands outside service. -/
def Ring.alone (r : Ring) : Ring :=
  { r with
      st := 0, head := 0, members := [], position := 0, topology := 0, tRing := 0, frameLen := 0, timeErr := 0, errRun := 0,
      missRun := 0, trigger := none, sums := [], train := 0, lastFrame := none, heard := none, cycleTick := 0, seen := [],
      lateFrame := none, lateTick := 0, lateSeen := [], delayUs := 0
      layout := [], pubs := []
      inRing := [false, false], sf := [], lostChs := [] }

/-- LD section A without its rail: both links are down, and the ring that it held is gone; the counts since power-up stand (13 R442). -/
def Ring.unpowered (r : Ring) : Ring :=
  { r.alone with note := 2, ports := r.ports.map (fun p => { RingPort.reset with errors := p.errors }) }

/-- A forming trigger (13 R444): the module leaves the ring and forms, or is ALONE. -/
def State.ringTrigger (s : State) : State :=
  let r := s.ring.alone
  if s.ringCanForm then { s with ring := { r with st := 1, trigger := some s.stamp } } else { s with ring := r }

/-- The ports that this member publishes, by channel (13 R455). -/
def State.pubChs (s : State) : List (Nat × Nat) :=
  (List.range 8).filterMap (fun k =>
    let w := s.par Par.ringPubCh 0 k
    if wbit w 15 then some (wfield w 5 0, wfield w 12 8) else none)

/-- A safety sample of a member: what its slot takes of the ports that it publishes (13 R450, R455). -/
def State.ringSample (s : State) : State :=
  if s.ring.st ≠ 2 then s
  else
    let pub (e : Nat × Nat) : RingPub :=
      let x := s.port e.2
      { ch := e.1, good := !(x.countInvalid || x.lineFault || x.ssiFault), still := x.dir = 0, sample := s.sample
        pos := x.count.toInt - s.ring.corrections.getD e.2 0, speed := toReal32 (if x.dir = 0 then 0 else x.speed) }
    { s with ring := { s.ring with pubs := s.pubChs.map pub } }

/-- A safety tick of a member: FLAGS and SUMMARY of its slot (13 R450, R456). -/
def State.ringSums (s : State) : State :=
  if s.ring.st ≠ 2 then s
  else
    let flags := 1 + bitN s.hallBUp 1 + bitN (s.mode == .run) 2 + bitN (s.mode == .safeHold) 3 + bitN s.hallBUp 4
    let sum := bitN s.carTally 0 + bitN s.safety.tallyL 1 + bitN s.safety.tallyR 2 + bitN s.zeroSpeed 3 + bitN s.releaseL 4
      + bitN s.releaseR 5 + bitN (s.safety.flights.any (·.egress)) 6 + bitN (s.conducting 0 && s.conducting 1) 7
    { s with ring := { s.ring with flags := BitVec.ofNat 8 flags, summary := BitVec.ofNat 8 sum } }

/-! ### The frame and its slots (13 R448 to R457) -/

/-- The enabled connections that the ring carries. -/
def State.ringConns (s : State) : List Nat :=
  (List.range 8).filter (fun c => s.parN Par.safelinkConnEn 0 c = 1 && s.onRing c)

/-- A master channel entry of 12 bytes. -/
def State.chEntry (s : State) (x : RingPub) : Bytes :=
  leBytes 1 x.ch ++ leBytes 1 (bitN (x.good && !s.ring.lostChs.contains x.ch) 0 + bitN x.still 1)
    ++ leBytes 2 (BitVec.ofInt 16 ((x.sample : Int) - 8 * s.ring.cycleTick)).toNat ++ leBytes 4 (wordZ x.pos).toNat ++ leBytes 4 x.speed.toNat

/-- A safe frame entry of 60 bytes: zero while Hall B is down, or while the connection has no frame. -/
def State.sfEntry (s : State) (c : Nat) : Bytes :=
  match s.ring.sf.find? (fun e => e.1 = c) with
  | some e => if s.hallBUp then e.2 else List.replicate 60 0
  | none => List.replicate 60 0

/-- SEQ of a slot of the frame with a RING_TICK. -/
def State.slotSeq (s : State) (tick : BitVec 32) : Nat := if s.tCyc = 0 then 0 else tick.toNat / s.tCyc % 256

/-- The slot as this member writes it. -/
def State.ownSlot (s : State) (tick : BitVec 32) : Bytes :=
  let body := leBytes 1 s.sealAddr ++ leBytes 1 (s.slotSeq tick) ++ [s.ring.flags, s.ring.summary]
    ++ leBytes 1 s.pubChs.length ++ leBytes 1 s.ringConns.length ++ [0, 0]
    ++ (s.ring.pubs.map s.chEntry).flatten ++ (s.ringConns.map s.sfEntry).flatten
  body ++ leBytes 4 (crc32c body).toNat

/-- The length of a slot. -/
def slotLen (x : Nat × Nat × Nat) : Nat := 12 + 12 * x.2.1 + 60 * x.2.2

/-- The slots of a layout and their bytes, those of the frame after its header. -/
def cutSlots : List (Nat × Nat × Nat) → Bytes → List ((Nat × Nat × Nat) × Bytes)
  | [], _ => []
  | x :: l, bs => (x, bs.take (slotLen x)) :: cutSlots l (bs.drop (slotLen x))

/-- The 16 bytes of a header: RING_TICK, FORM_ID, T_cyc, members, head, FLAGS. -/
def State.ringHeader (s : State) (tick : BitVec 32) : Bytes :=
  let body := leBytes 4 tick.toNat ++ leBytes 2 s.ring.formId.toNat ++ leBytes 1 s.tCyc ++ leBytes 1 (s.ring.members.length - 1)
    ++ leBytes 1 s.ring.head ++ leBytes 1 (bitN (s.ring.topology = 1) 0 + bitN (s.ring.topology = 2) 1) ++ [0, 0]
  body ++ leBytes 4 (crc32c body).toNat

/-- A valid header: its CRC passes, and it is of this ring's frame. DEDUCED (log 59). -/
def State.headerGood (s : State) (bs : Bytes) : Bool :=
  fieldAt bs 12 4 = (crc32c (bs.take 12)).toNat && fieldAt bs 6 1 = s.tCyc && fieldAt bs 7 1 + 1 = s.ring.members.length &&
    fieldAt bs 8 1 = s.ring.head && bs.length = 16 + (s.ring.layout.map slotLen).sum

/-- A frame sent round again as lap 2: FLAGS [2] and the header's CRC (13 R448). -/
def asLap2 (bs : Bytes) : Bytes :=
  let body := bs.take 9 ++ [(bs.getD 9 0) ||| 4#8] ++ (bs.drop 10).take 2
  body ++ leBytes 4 (crc32c body).toNat ++ bs.drop 16

/-- A frame with this member's slot written in its place. -/
def State.writeSlot (s : State) (tick : BitVec 32) (bs : Bytes) : Bytes :=
  bs.take 16 ++ ((cutSlots s.ring.layout (bs.drop 16)).map (fun x => if x.1.1 = s.sealAddr then s.ownSlot tick else x.2)).flatten

/-- The valid slots of a frame: the CRC passes and SEQ is the frame's (13 R450). -/
def State.validSlots (s : State) (tick : BitVec 32) (bs : Bytes) : List ((Nat × Nat × Nat) × Bytes) :=
  (cutSlots s.ring.layout (bs.drop 16)).filter (fun x =>
    let n := slotLen x.1 - 4
    fieldAt x.2 n 4 = (crc32c (x.2.take n)).toNat && fieldAt x.2 1 1 = s.slotSeq tick)

/-- A master channel as received in a frame (13 R455). -/
def State.takeCh (s : State) (e : Bytes) : State :=
  if !(fieldAt e 1 1).testBit 0 then s
  else
    let stamp := 8 * (s.ring.cycleTick : Int) + (BitVec.ofNat 16 (fieldAt e 2 2)).toInt
    let m : RingMaster := { ch := fieldAt e 0 1, pos := (word32 (fieldAt e 4 4)).toInt, speed := real32 (word32 (fieldAt e 8 4))
                            stamp := stamp.toNat, standstill := (fieldAt e 1 1).testBit 1, missed := 0 }
    { s with ring := { s.ring with masters := m :: s.ring.masters.filter (fun x => x.ch ≠ m.ch) } }

/-- The master channels of a slot that has been read. -/
def State.takeChs (s : State) (x : Nat × Nat × Nat) (bs : Bytes) : State :=
  let s := (List.range x.2.1).foldl (fun s k => s.takeCh ((bs.drop (8 + 12 * k)).take 12)) s
  { s with ring := { s.ring with seen := x.1 :: s.ring.seen } }

/-- The port by which a frame goes on: the other one if it is up, else the one it came by (13 R442). -/
def State.ringOut (s : State) (p : Nat) : Nat := if (s.ringPort (1 - p)).st = 2 then 1 - p else p

/-- The head sends out of E, or of W if only W is up, and a lap is complete at W, or at E if only E is up (13 R448). -/
def State.headPort (s : State) : Nat := if (s.ringPort 1).st = 2 then 1 else 0
def State.homePort (s : State) : Nat := if (s.ringPort 0).st = 2 then 0 else 1

/-- The frame last passed and the one before it change places: at the head lap 2 of a frame may come back after the next one has gone out
(13 R452). -/
def Ring.turnFrames (r : Ring) : Ring :=
  { r with
      lastFrame := r.lateFrame, cycleTick := r.lateTick, seen := r.lateSeen
      lateFrame := r.lastFrame, lateTick := r.cycleTick, lateSeen := r.seen }

/-- The head sends a frame at a ring cycle start, its own slot written and read (13 R448). -/
def State.ringSend (s : State) : State :=
  if s.ring.st ≠ 2 || s.ringBypass || s.ring.head ≠ s.sealAddr || !s.atCycleStart then s
  else
    let tick := word32 (s.tick + s.clock.base)
    let s := { s with ring := { s.ring.turnFrames with lastFrame := some tick, cycleTick := s.tick, seen := [] } }
    let empty : Bytes := List.replicate (s.ring.layout.map slotLen).sum 0
    let bs := s.writeSlot tick (s.ringHeader tick ++ empty)
    ((s.validSlots tick bs).foldl (fun s (x, b) => s.takeChs x b) s).send (.ring s.headPort bs)

/-! ### The safety tick -/

/-- What a module in bypass announces: booting until its configuration is loaded, then with RING.EN = 0 that it is not joining (13 R444). -/
def State.ringNote (s : State) : Nat :=
  if !s.ringBypass then 2 else if !s.configLoaded then 0 else if s.parN Par.ringEn 0 0 = 0 then 1 else 2

/-- An announcement that changes goes out on each link that is up. DESIGN CHOICE (log 96). -/
def State.announce (s : State) : State :=
  let n := s.ringNote
  if !s.hasRing || n = s.ring.note then s
  else
    let s := { s with ring := { s.ring with note := n } }
    if n = 2 then s else s.forEach 2 (fun s p => if 2 ≤ (s.ringPort p).st then s.send (.ringNote p n) else s)

/-- A safety tick of a member: the slew; the safe frames of the last cycle; the header that should have passed in the millisecond before.
Before the first header the cycles are counted from the forming (13 R454, R457, R458). -/
def State.ringTick (s : State) : State :=
  let r := s.ring
  let r := { r with slewTicks := r.slewTicks - 1, sf := if s.atCycleStart then [] else r.sf }
  let due := s.tick - 1 - (r.delayUs / 1000).floor.toNat
  let falls := if r.heard.isNone then decide (2 * s.tCyc ≤ s.tick - r.formedAt) && decide ((s.tick - r.formedAt) % s.tCyc = 0)
    else decide ((due + s.clock.base) % s.tCyc = 0) && r.heard ≠ some (word32 (due + s.clock.base))
  if r.st = 2 && s.tCyc ≠ 0 && falls then { s with ring := { r with missRun := r.missRun + 1, framesLost := r.framesLost + 1 } }
  else { s with ring := r }

/-- The end of a safety tick: what the slot takes of it, the head's frame, and the announcement. -/
def State.ringEnd (s : State) : State := s.ringSums.ringSend.announce

end Sys2Proof.Machine
end

