-- ==== Sys2Proof/Machine/SlotOps.lean ====
section
/-! DEFINITION. The configuration slots while an activation is served (14 R475, R476): axes come to rest, then Hall B writes the slot
record. -/

namespace Sys2Proof.Machine

/-- The axes that are not at rest. -/
def State.movingAxes (s : State) : List Nat := (List.range s.nAxes).filter (fun a => !s.atRest a)

/-- The slot record of an activation: PREVIOUS takes the former ACTIVE, ACTIVE takes STAGED; of a rollback: ACTIVE and PREVIOUS change
places. Hall A updates its copies. Both discard the override (10 R372). -/
def Security.exchange (x : Security) (rollback : Bool) : Security :=
  let old := x.active.orElse (fun _ => x.corrupt)
  if rollback then
    { x with active := x.previous, previous := old, corrupt := none, override := none, activeA := x.previousA, previousA := x.activeA }
  else
    { x with
        active := x.staged, previous := old, staged := none, corrupt := none, override := none
        activeA := x.stagedA.orElse (fun _ => x.staged), previousA := x.activeA, stagedA := none }

/-- Step 3: the CHECK values of the shadow copies that both halls load agree. Hall A loads what it holds of the image, and what Hall B
passes it where it holds nothing. DEDUCED (log 64). -/
def Security.shadowsAgree (x : Security) (rollback : Bool) : Bool :=
  let b := if rollback then x.previous else x.staged
  let a := (if rollback then x.previousA else x.stagedA).orElse (fun _ => b)
  a.map (·.check) = b.map (·.check)

/-- Steps 3 and 4: where the shadow copies disagree the request is answered INTERNAL and nothing changes; else the slot record is written in
a single page, and both halls change four ticks later. -/
def State.writeSlots (s : State) : State :=
  match s.sec.activating with
  | none => s
  | some x =>
    if s.sec.shadowsAgree x.rollback then
      { s with sec := { s.sec.exchange x.rollback with activating := some { x with at' := some (s.tick + 4) } } }
    else
      let s := { s with sec := { s.sec with activating := none, lastActivate := word32 stInternal } }
      (s.record Evt.configStageRefused noSource [word32 stInternal, 0]).answerExclusive stInternal 0 []

/-- Step 2 on a tick: the slot record is written once every axis is at rest; at the deadline an axis still moving takes the fault
stop. -/
def State.activationWait (s : State) : State :=
  match s.sec.activating with
  | none => s
  | some x =>
    if x.at'.isSome then s
    else if s.movingAxes.isEmpty then s.writeSlots
    else if x.deadline ≤ s.tick then (s.movingAxes.foldl (fun s a => s.faultStop a [0]) s).writeSlots
    else s

end Sys2Proof.Machine
end

