-- ==== Sys2Proof/Machine/SafetyOps.lean ====
section
/-! DEFINITION. The mode and charge exchange, SAFE_HOLD, and the functions that Hall B evaluates on every safety tick (08). -/

namespace Sys2Proof.Machine

/-! ### Charge words and word frames (08 R283, R284) -/

/-- DCL_AUTH, PERMIT_AUTH and ENABLE_AUTH of a mode, as bits [5:0] of the charge word. -/
def chargeAuth : Mode → Nat
  | .standby => 1
  | .run => 1 + 4 + 16
  | .maintenance => 8 + 16
  | .safeHold => 32
  | .boot => 0
  | .update => 0

def Mode.dclAuth (m : Mode) : Bool := chargeAuth m % 4 == 1
def Mode.permitAuth (m : Mode) : Nat := chargeAuth m / 4 % 4
def Mode.enableAuth (m : Mode) : Nat := chargeAuth m / 16

/-- The charge word of a hall: its mode, and its own copy of the active configuration. -/
def State.charge (s : State) (h : HallId) : BitVec 32 :=
  let check := match h with | .a => s.safety.checkA | .b => s.safety.checkB
  word32 (chargeAuth (s.hall h).mode + 256 * (s.parN Par.safetySealAddr 0 0 % 256) + 65536 * check.toNat)

/-- The bytes 0 to 13 of a word frame. -/
def WordFrame.body (w : WordFrame) : Bytes :=
  leBytes 2 w.tick.toNat ++ [w.mode, w.propMode] ++ leBytes 2 w.propTick.toNat ++ leBytes 2 w.ackTick.toNat
    ++ leBytes 4 w.charge.toNat ++ leBytes 2 w.cause.toNat

/-- CRC-16 with a seed: 0xFFFF on frames from Hall A, 0x0000 on frames from Hall B. -/
def wordCrc (h : HallId) (bs : Bytes) : BitVec 16 :=
  bs.foldl (crcByteF16 0x1021) (match h with | .a => 0xFFFF | .b => 0)

def WordFrame.bytes (h : HallId) (w : WordFrame) : Bytes := w.body ++ leBytes 2 (wordCrc h w.body).toNat

/-- The frame of a tick as a hall builds it; none in reset and before t4 of start-up (14 R464). -/
def State.frameOf (s : State) (h : HallId) : Option WordFrame :=
  let x := s.hall h
  if x.inReset || x.mode == .boot && s.sec.loadedAt.isNone then none
  else some
    { tick := BitVec.ofNat 16 s.tick, mode := BitVec.ofNat 8 x.mode.code
      propMode := match x.prop with | some (m, _) => BitVec.ofNat 8 m.code | none => 0
      propTick := match x.prop with | some (_, t) => BitVec.ofNat 16 t | none => 0
      ackTick := match x.ack with | some t => BitVec.ofNat 16 t | none => 0xFFFF
      charge := s.charge h, cause := if x.mode == .safeHold then x.shCause else 0 }

/-- A frame as the partner takes it from the link: none when it is missing, late, or fails its CRC. -/
def receiveFrame (sender : HallId) (d : Delivery) (w : Option WordFrame) : Option WordFrame :=
  match w with
  | none => none
  | some w =>
    let bs := w.bytes sender
    let got := match d with
      | .good => some bs
      | .missing => none
      | .corrupt => some (bs.set 15 (~~~ (bs.getD 15 0)))
    match got with
    | none => none
    | some g => if leNat (g.drop 14) = (wordCrc sender (g.take 14)).toNat then some w else none

def modeOfCode (c : BitVec 8) : Mode :=
  match c.toNat with
  | 1 => .standby
  | 2 => .run
  | 3 => .maintenance
  | 4 => .safeHold
  | 5 => .update
  | _ => .boot

/-- The tick that a 16-bit tick field stands for, at or after tick `n`. -/
def tickFrom (n : Nat) (t : BitVec 16) : Nat := n + (t - BitVec.ofNat 16 n).toNat

def otherHall : HallId → HallId
  | .a => .b
  | .b => .a

/-! ### Enables and the DCL inhibit (01 R25, R29, 08 R274, R290) -/

/-- An enable line of a flight goes low: every tread of the flight turns OFF (01 R29), but for those of a die whose limp-home path is in
charge, which no enable gates (01 R30, 02 R72). -/
def State.enableLow (s : State) (f : Nat) (h : HallId) : State :=
  let s := s.modFpower f (fun x => match h with
    | .a => { x with enA := false }
    | .b => { x with enB := false })
  s.treadsOff (fun t => flightOfTread t = f && !(s.limpOf (dieOfFlight f)).inCharge)

def State.enablesLow (s : State) (h : HallId) : State := s.forEach 12 (fun s f => s.enableLow f h)

/-- The state of one enable line under a mode: high, low, or as it stands in SAFE_HOLD. -/
def enableUnder (m : Mode) (held : Bool) : Bool :=
  match m.enableAuth with
  | 1 => true
  | 2 => held
  | _ => false

/-- The enables of both halls follow their modes; Hall B's stay low before the first entry to STANDBY (08 R261). -/
def State.applyEnables (s : State) : State :=
  s.forEach s.nFlights (fun s f =>
    let x := s.fpower f
    let a := s.hallAUp && !s.clock.crossA && enableUnder s.hallA.mode x.enA
    let b := s.hallBUp && s.firstStandby && enableUnder s.hallB.mode x.enB
    let s := if x.enA && !a then s.enableLow f .a else s.modFpower f (fun x => { x with enA := a })
    if x.enB && !b then s.enableLow f .b else s.modFpower f (fun x => { x with enB := b }))

/-- An open DCL output (08 R270). -/
def Dcl.opened (d : Dcl) (tick : Nat) : Dcl :=
  if d.on1 || d.on2 then { d with on1 := false, on2 := false, openTick := tick, testPassed := false, test := none } else d

def State.dcl (s : State) (o : Nat) : Dcl := if o = 0 then s.safety.dclA else s.safety.dclB

def State.modDcl (s : State) (o : Nat) (f : Dcl → Dcl) : State :=
  if o = 0 then { s with safety := { s.safety with dclA := f s.safety.dclA } }
  else { s with safety := { s.safety with dclB := f s.safety.dclB } }

def State.openDcl (s : State) (o : Nat) : State := s.modDcl o (fun d => d.opened s.stamp)

def State.openBoth (s : State) : State := (s.openDcl 0).openDcl 1

/-- Hall A's inhibit asserts, and opens the outputs in hardware (01 R41). -/
def State.inhibitOn (s : State) : State := ({ s with safety := { s.safety with inhibit := true } }).openBoth

/-- Hall A asserts its inhibit outside STANDBY and RUN, under R25, and while it is in reset (08 R274). -/
def State.inhibitDue (s : State) : Bool :=
  !s.hallAUp || !(s.hallA.mode == .standby || s.hallA.mode == .run) || s.clock.crossA

def State.applyInhibit (s : State) : State :=
  if s.inhibitDue then s.inhibitOn else { s with safety := { s.safety with inhibit := false } }

def State.applyAuth (s : State) : State := (s.applyEnables).applyInhibit

/-! ### Changes of mode (08 R286 to R292, 14 R472) -/

/-- The MODE_REQUEST under way is answered, and the exclusion of 12 R423 ends. -/
def State.answerMode (s : State) (status item : Nat) : State :=
  match s.host.modeReq with
  | none => s
  | some (p, _, _) =>
    let s := { s with host := { s.host with modeReq := none, exclusive := none } }
    s.answer p status item []

/-- What follows a change of Hall A's mode: the record, the sequencers, the program, the axes held by sessions (06 R194, 10 R334, 12 R432,
14 R481, 03 R90). On entry to RUN the enables go high before the start of service is judged (06 R211). The cause is 0 start-up, 1 request,
with the session, 2 SAFE_HOLD, with its causes (14 R472). DEDUCED (log 40). -/
def State.hallAMode (s : State) (old new : Mode) (cause detail : Nat) : State :=
  if old == new then s
  else
    let s := s.record Evt.modeChanged noSource [word32 old.code, word32 new.code, word32 cause, word32 detail]
    let s := { s with host := { s.host with holders := s.host.holders.filter (fun h => h.mode == new) } }
    let s := if old == .run then s.forEach 12 (fun s f => s.leaveService f (new == .safeHold)) else s
    let s := if new == .run then s.applyAuth.forEach 12 (fun s f => s.enterService f) else s
    let s := if new == .update then (if s.prog.running.isSome && s.prog.stopCause = 0 then s.stopProgram 0 else s.nmtAll 0x80) else s
    let s := if old == .update then
        let s := { s with sec := { s.sec with firmware := none, fwPending := 0 } }
        s.resumeProgram
      else s
    if new == Mode.standby then { s with safety := { s.safety with zeroCheck := some (s.stamp + 2) } } else s

/-- A trial boot has passed: BOOT_BANK changes, the counters rise, the other vendor slot may be revoked (14 R480, R482, R484). -/
def State.passTrial (s : State) : State :=
  let old := s.sec
  let was (bs : List Bank) (k : Nat) : Bank := bs.getD (bitN (wbit old.bootBank k) 0) .reset
  let ha := max old.arHa (s.bankOf .a).sec
  let hb := max old.arHb (s.bankOf .b).sec
  let revoke := match old.firmware with
    | some fw => if fw.revoke && !old.vendorRevoked.getD (1 - fw.vendor) true then some (1 - fw.vendor) else none
    | none => none
  let s := { s with
      sec := { s.sec with
          bootBank := old.runBank, fwPending := 0, firmware := none, trialEnd := none, arHa := ha, arHb := hb
          vendorRevoked := match revoke with | some v => old.vendorRevoked.set v true | none => old.vendorRevoked } }
  let s := s.record Evt.fwUpdated noSource
    [(was old.banksA 0).version, (was old.banksB 1).version, (s.bankOf .a).version, (s.bankOf .b).version]
  let s := s.record Evt.arAdvanced noSource [word32 ha, word32 hb]
  match revoke with
  | some v => s.record Evt.keyRevoked noSource [word32 (4 + v)]
  | none => s

/-- A trial boot whose 10 s from supply valid are not over. -/
def State.trialOpen (s : State) : Bool :=
  s.sec.fwPending = 2 && match s.sec.trialEnd with | some t => decide (s.stamp < t) | none => false

/-- A trial that start-up left in SAFE_HOLD passes when both halls reach STANDBY in time. -/
def State.judgeTrial (s : State) : State :=
  if s.sec.booted && s.trialOpen && s.hallA.mode == .standby && s.hallB.mode == .standby then s.passTrial else s

/-- A hall takes a mode other than SAFE_HOLD. DEDUCED (log 40). -/
def State.takeMode (s : State) (h : HallId) (new : Mode) (cause : Nat) : State :=
  let old := (s.hall h).mode
  let leaving := old == .safeHold
  let held := (s.hall h).shCause.toNat
  let s := s.modHall h (fun x => { x with
      mode := new, prop := none, ack := none, gotAck := false, partnerProp := none, matched := if leaving then 0 else x.matched
      shCause := if leaving then 0 else x.shCause, present := if leaving then 0 else x.present })
  let who := match s.host.modeReq with | some (p, _, _) => p.session.toNat | none => 0
  let s := match h with
    | .a => (if new == Mode.run then s.freshScales else s).hallAMode old new cause (if cause = 1 then who else if cause = 2 then held else 0)
    | .b =>
      let s := if new == Mode.standby then s.firstStandbyEntry else s
      s.recordIf leaving Evt.safeHoldLeft noSource []
  s.judgeTrial.applyAuth

/-- The causes that suspect a hall: WORD_LOST, PARTNER_CLOCK, SE_DISAGREE, MON, SAFETY_DATA, SELF_TEST (08 R289). -/
def suspectCauses : BitVec 16 := 0x00DE

/-- The causes that clear by condition, PARTNER apart; and the latched ones (08 R289, R292). -/
def conditionCauses : BitVec 16 := 0x0027
def latchedCauses : BitVec 16 := 0x00D8

/-- While a cause suspects a hall, every EN_B is low (08 R290). -/
def State.suspectEnables (s : State) : State :=
  if (s.hallA.shCause ||| s.hallB.shCause) &&& suspectCauses ≠ 0 && s.hallB.mode == .safeHold then s.enablesLow .b else s

/-- The port of the leaf's feedback. -/
def State.leafPort (s : State) (f : Nat) : Option Nat := s.fbPort (leafOf f)

/-- The secondary count of the leaf's port (08 R288). -/
def State.leafCountB (s : State) (f : Nat) : BitVec 32 := match s.leafPort f with | some p => (s.port p).countB | none => 0

/-- Hall B at its entry tick: outputs open, permissions withdrawn, each with MON's reference at its withdrawal (08 R288, R290). -/
def State.holdEntryB (s : State) : State :=
  let s := s.openBoth
  let s := s.mapFsafe (fun f x => { x with
      monRef := if x.permission then s.leafCountB f else x.monRef
      permission := false, permEval := false, permDue := false, stillRef := [] })
  { s with safety := { s.safety with shTick := s.stamp } }

/-- A hall enters SAFE_HOLD, or adds a cause to the SAFE_HOLD it is in (08 R289, R290). Before the end of start-up no hall has a mode
to leave. DEDUCED (log 40). -/
def State.enterHold (s : State) (h : HallId) (bit : Nat) : State :=
  let x := s.hall h
  if x.inReset || x.mode == .boot then s
  else
    let b : BitVec 16 := BitVec.ofNat 16 (2 ^ bit)
    let s := s.modHall h (fun x => { x with shCause := x.shCause ||| b, present := x.present ||| b })
    let s := if x.mode == .safeHold then s
      else
        let s := match x.prop with
          | none => s
          | some (m, _) =>
            let s := s.record Evt.modeProposalFailed noSource [word32 m.code, 6]
            if h = HallId.a then s.answerMode stState 6 else s
        let s := s.modHall h (fun x => { x with
            mode := .safeHold, prop := none, ack := none, gotAck := false, partnerProp := none, matched := 0, failNote := none })
        let s := match h with
          | .a => (s.hallAMode x.mode .safeHold 2 (s.hallA.shCause.toNat)).inhibitOn
          | .b => s.holdEntryB
        let first := (s.hall (otherHall h)).mode != .safeHold
        s.recordIf first Evt.safeHoldEntered noSource
          [word32 (s.hallA.shCause ||| s.hallB.shCause).toNat, s.charge .a, s.charge .b]
    s.suspectEnables.applyAuth

/-! ### The exchange of a tick (08 R285 to R287) -/

/-- Restrictiveness, from most to least (08 R287). -/
def Mode.rank : Mode → Nat
  | .safeHold => 0
  | .update => 1
  | .maintenance => 2
  | .standby => 3
  | .run => 4
  | .boot => 5

/-- The seal value equals what the active configuration asks for (08 R294). -/
def State.sealMatches (s : State) (v : Option (BitVec 24)) : Bool :=
  match v with
  | none => false
  | some v => s.sec.active.isSome &&
      v.toNat = 65536 * (s.parN Par.safetySealAddr 0 0 % 256) + s.safety.checkB.toNat

/-- The conditions of the accepting hall on a proposal of its partner (08 R286, R292). -/
def State.acceptsProposal (s : State) (h : HallId) (partner new : Mode) : Bool :=
  match h with
  | .a => new == Mode.standby && partner == .safeHold && s.hallA.mode == .safeHold && s.hallA.present &&& ~~~(0x100 : BitVec 16) = 0
  | .b =>
    s.hallB.mode == partner && partner != .safeHold &&
      match new with
      | .run => s.safety.sealRd.ok
      | .maintenance => s.zeroSpeed
      | .standby => partner != .maintenance || s.safety.sealRd.ok
      | .update => true
      | _ => false

/-- The partner's frame shows SAFE_HOLD: cause PARTNER, in a hall that is in SAFE_HOLD already too (08 R289). A hall that had just left
SAFE_HOLD without its partner re-enters it, and the transition has failed (08 R287). -/
def State.partnerHolds (s : State) (h : HallId) : State :=
  let failed := (s.hall h).lastTrans.filter (fun e =>
    e.1 == .safeHold && (s.hall h).mode == e.2.1 && decide (e.2.2 ≤ s.tick) && decide (s.tick < e.2.2 + 4))
  let s := s.enterHold h 8
  match failed with
  | none => s
  | some (_, new, t) =>
    let s := s.recordIf (h == .b || decide (s.safety.shTick < t)) Evt.safeHoldEntered noSource
      [word32 (s.hallA.shCause ||| s.hallB.shCause).toNat, s.charge .a, s.charge .b]
    s.modHall h (fun x => { x with failNote := some new })

/-- A hall judges its partner's frame of the tick that ends against its own (08 R285 to R287). -/
def State.judgeFrame (s : State) (h : HallId) (own : WordFrame) (got : Option WordFrame) : State :=
  let n := s.tick
  let lost := got.isNone
  let theirs : Mode := match got with | some w => modeOfCode w.mode | none => .boot
  let differs := match got with
    | none => true
    | some w => theirs != .safeHold && (w.mode ≠ own.mode || w.charge ≠ own.charge || w.tick ≠ own.tick)
  let x := s.hall h
  let episode := !differs && decide (0 < x.misRun) && decide (x.misRun < 3)
  let s := s.recordIf episode Evt.hallWordMismatch noSource [match h with | .a => 0 | .b => 1]
  let s := match x.failNote with
    | some m => if differs then s
        else (s.modHall h (fun x => { x with failNote := none })).record Evt.modeProposalFailed noSource [word32 m.code, 4]
    | none => s
  let s := s.modHall h (fun x => { x with
      misRun := if differs then x.misRun + 1 else 0, misLost := differs && (x.misLost || lost)
      matched := if differs then 0 else x.matched + 1
      present := if differs then x.present else x.present &&& ~~~(3 : BitVec 16) })
  let s := if h = HallId.b then { s with
      safety := { s.safety with
      mismatchCount := if differs then s.safety.mismatchCount + 1 else s.safety.mismatchCount
      partnerCharge := match got with | some w => w.charge | none => s.safety.partnerCharge } } else s
  match got with
  | none => s
  | some w =>
    let new := modeOfCode w.propMode
    let at' := tickFrom n w.propTick
    let accepts := w.propMode ≠ 0 && s.acceptsProposal h theirs new
    let s := s.modHall h (fun x => { x with
        gotAck := x.gotAck || (w.ackTick ≠ 0xFFFF && match x.prop with | some (_, t) => w.ackTick = BitVec.ofNat 16 t | none => false)
        partnerProp := if w.propMode ≠ 0 then some (new, at', n) else none
        lastTrans := if w.propMode ≠ 0 then some (theirs, new, at') else x.lastTrans
        ack := if accepts then some at' else none })
    if theirs == .safeHold then s.partnerHolds h
    else if theirs != (s.hall h).mode && (s.hall h).mode != .safeHold then
      match (s.hall h).lastTrans with
      | some (m1, m2, t) =>
        if decide (t ≤ n) && decide (n < t + 4) && (theirs == m1 || theirs == m2) then
          let least := if theirs.rank < (s.hall h).mode.rank then theirs else (s.hall h).mode
          let s := if least == (s.hall h).mode then s else s.takeMode h least 1
          if h = HallId.a then s.modHall h (fun x => { x with failNote := some m2 }) else s
        else s
      | none => s
    else s

/-- The word frames of the tick that ends are compared by both halls. -/
def State.exchange (s : State) (toA toB : Delivery) : State :=
  let fa := s.frameOf .a
  let fb := s.frameOf .b
  let s' := match fa with
    | none => s
    | some own => s.judgeFrame .a own (receiveFrame .b toA fb)
  match fb with
  | none => s'
  | some own => s'.judgeFrame .b own (receiveFrame .a toB fa)

/-! ### Time (01 R30, R35 to R37, 11 R380, R381) -/

/-- One clock measurement: in range, or one more of a run. -/
def clkRun (count run : Nat) : Nat := if 196000 ≤ count ∧ count ≤ 204000 then 0 else run + 1

/-- The clocks at a tick. Both halls measure while both run; Hall B measures itself while it runs. DEDUCED (log 39). -/
def State.clockTicks (s : State) (i : TickIn) : State :=
  let both := s.hallAUp && s.hallBUp
  let ra := if both then clkRun i.clkByA s.clock.crossRunA else s.clock.crossRunA
  let rb := if both then clkRun i.clkByB s.clock.crossRunB else s.clock.crossRunB
  let warn := s.hallBUp && decide (5 / 2 < absR i.rcDev)
  let outs := bitN (both && ra ≠ 0) 0 + bitN (both && rb ≠ 0) 0 + bitN warn 0
  let s := { s with
      clock := { s.clock with
          tick := s.clock.tick + 1, countHa := if both then word32 i.clkByA else s.clock.countHa
          countHb := if both then word32 i.clkByB else s.clock.countHb
          rcDev := if s.hallBUp then i.rcDev else s.clock.rcDev
          rcDevMax := if s.hallBUp then maxR s.clock.rcDevMax (absR i.rcDev) else s.clock.rcDevMax
          outOfRange := s.clock.outOfRange + word32 outs, crossRunA := ra, crossRunB := rb
          crossA := s.clock.crossA && (!both || ra ≠ 0), crossB := s.clock.crossB && (!both || rb ≠ 0)
          rcWarn := warn, rcRun := if warn then s.clock.rcRun + 1 else 0 } }
  let s := s.modHall .b (fun x => { x with clockOk := decide (absR i.rcDev ≤ 5 / 2) })
  if s.clock.crossB then s else s.modHall .b (fun x => { x with present := x.present &&& ~~~(4 : BitVec 16) })

/-- A die can slip: a fitted storey die, 0 or 1, with its rail, and Hall B, 2, while it runs (00 R8). -/
def State.canSlip (s : State) (d : Nat) : Bool := if d < 2 then decide (d < s.nDies) && (s.die d).railUp else s.hallBUp

/-- A die whose tick differs from Hall A's pulse by more than 100 ns realigns (01 R35). DEDUCED (log 39). -/
def State.tickSlips (s : State) (slips : List Rat) : State :=
  s.forEach 3 (fun s d =>
    if decide (100 < absR (slips.getD d 0)) && s.hallAUp && s.canSlip d then
      let s := { s with clock := { s.clock with tickSlips := s.clock.tickSlips + 1 } }
      s.record Evt.tickSlip noSource [word32 d]
    else s)

/-- The heartbeats of a hall that reach a storey die: a hall in reset sends none (01 R30). -/
def State.beat (s : State) (i : TickIn) (h : HallId) (d : Nat) : Bool :=
  match h with
  | .a => s.hallAUp && i.beatsA.getD d true
  | .b => s.hallBUp && i.beatsB.getD d true

/-- Heartbeats at the storey dies: a hall's enables are accepted again at the tick after its heartbeat returned. Limp-home arms with a map
and both heartbeats (01 R30, 02 R72). -/
def State.heartbeats (s : State) (i : TickIn) : State :=
  let s := s.mapDies (fun d x =>
    let a := s.beat i .a d
    let b := s.beat i .b d
    { x with
      missA := if a then 0 else x.missA + 1, missB := if b then 0 else x.missB + 1
      lowA := x.lowA && decide (x.missA ≠ 0), lowB := x.lowB && decide (x.missB ≠ 0) })
  s.mapLimp (fun d l => { l with
      absent := if s.beat i .a d || s.beat i .b d then 0 else l.absent + 1
      armed := l.armed || (l.map.isSome && s.beat i .a d && s.beat i .b d) })

/-- What the tick reads beside: the links of the switch, the baseplate (02 R56, 15 R507). -/
def State.tickReads (s : State) (i : TickIn) : State :=
  { s with
      train := { s.train with links := (List.range 2).map (fun p => i.links.getD p false), traffic := [false, false] }
      supply := { s.supply with tbTick := s.baseplate } }

/-- Operating time and up-time (11 R380, R381, 12 R435). -/
def State.countTime (s : State) : State :=
  { s with
      gallery := { s.gallery with
          optime := if s.hallBUp then s.gallery.optime + 1 else s.gallery.optime
          hallATicks := if !s.hallBUp && s.hallAUp then s.gallery.hallATicks + 1 else s.gallery.hallATicks }
      sec := { s.sec with uptime := if s.hallAUp then satN 32 (s.sec.uptime + 1) else s.sec.uptime } }

/-- One tick of every budget level (01 R21, R22). -/
def State.budgetTicks (s : State) : State :=
  s.forEach 20 (fun s lv =>
    if !s.hasLevel lv then s
    else
      let was := (s.budget lv).scale
      let s := s.modBudget lv (Budget.tickOf (s.budgetCont lv))
      s.recordIf (decide (was = 16) && decide ((s.budget lv).scale < 16)) (foldbackEvt lv) (budgetSource lv) [])

/-! ### Hall B's evaluation -/

/-- SAFETY.FLIGHT_SIDE: 0 LEFT, 1 RIGHT, 2 NONE (08 R267). -/
def State.side (s : State) (f : Nat) : Nat := s.parN Par.safetyFlightSide 0 f

/-- A pair with both lines UNUSED is omitted from the tally (08 R267). -/
def State.pairOmitted (s : State) (n : Nat) : Bool := s.lineUse (pairLine n) = 0 && s.lineUse (pairLine n + 1) = 0

/-- The tally of a flight (08 R268, R278). -/
def State.clOf (s : State) (f : Nat) : Bool :=
  s.pairActive (4 * f) && s.pairActive (4 * f + 1) && (s.pairOmitted (4 * f + 3) || s.pairActive (4 * f + 3)) &&
    !(s.fsafe f).egress && (s.fpower f).presence

/-- The egress episode of a flight at a tick (08 R278). -/
def State.egressTick (s : State) (f : Nat) : State :=
  let on := s.pairActive (4 * f + 2) && !s.pairOmitted (4 * f + 2)
  let off := !s.trusted (pairLine (4 * f + 2)) && !s.trusted (pairLine (4 * f + 2) + 1) && !(s.pair (4 * f + 2)).latch
  if on && !(s.fsafe f).egress then
    (s.modFsafe f (fun x => { x with egress := true })).record Evt.egressActive f []
  else if off && (s.fsafe f).egress then
    (s.modFsafe f (fun x => { x with egress := false })).record Evt.egressEnded f []
  else s

/-- The tally of a side: the AND over its flights (08 R268). -/
def State.sideTally (s : State) (d : Nat) : Bool :=
  (List.range s.nFlights).all (fun f => s.side f ≠ d || (s.fsafe f).cl)

/-- The flights' tallies and the sides' at a tick; which flights fell (08 R268, R275). DEDUCED (log 38). -/
def State.tallyTick (s : State) : State :=
  let s := s.forEach s.nFlights State.egressTick
  let s := s.mapFsafe (fun f x => { x with clWas := x.cl, cl := decide (f < s.nFlights) && s.clOf f })
  let fell := (List.range 12).foldl (fun n f => n + bitN ((s.fsafe f).clWas && !(s.fsafe f).cl) f) 0
  { s with
      safety := { s.safety with
          tallyL := s.sideTally 0, tallyR := s.sideTally 1, fell := fell, fellMoving := !s.zeroSpeed } }

/-- The tally that an output follows (08 R269). -/
def State.outTally (s : State) (o : Nat) : Bool :=
  if s.parN Par.safetyDclMap 0 0 = 1 then (if o = 0 then s.safety.tallyL else s.safety.tallyR)
  else s.safety.tallyL && s.safety.tallyR

/-- A fault of an output latches; the output opens (08 R271 to R273). -/
def State.dclFault (s : State) (o : Nat) (e : EvCode) (detail : Nat) : State :=
  ((s.modDcl o (fun d => { d with fault := true })).openDcl o).record e noSource [word32 o, word32 detail]

/-- The readback of an output on a tick (08 R273); one whose fault is latched already is not checked again. DESIGN CHOICE (log 90). -/
def State.dclReadback (s : State) (o : Nat) (r : DclIn) : State :=
  let d := s.dcl o
  if d.fault then s
  else if d.on1 && d.on2 then
    if 5 < r.milliamps && 3 / 2 ≤ r.volts then s.dclFault o Evt.dclReadbackFault 1 else s
  else if decide (d.openTick + 2 ≤ s.tick) && decide (1 / 2 ≤ r.milliamps) then s.dclFault o Evt.dclReadbackFault 0
  else s

/-- An output at a tick: it opens when the last evaluation found a condition to fail; then the conditions are evaluated again and the
offline test starts or stays (08 R270, R271). DEDUCED (log 38). -/
def State.dclTick (s : State) (o : Nat) : State :=
  let d := s.dcl o
  let s := if (d.on1 || d.on2) && !d.verdict then s.openDcl o else s
  let auth := s.hallB.mode.dclAuth && s.firstStandby && (List.range s.nDies).all (fun d => (s.die d).railUp)
  let settle := if s.outTally o then d.settle + 1 else 0
  s.modDcl o (fun d =>
    let open' := !d.on1 && !d.on2
    { d with
        settle := settle, due := d.verdict
        verdict := auth && decide (s.parN Par.safetyDclSettle 0 0 < settle) && !d.fault && !s.safety.inhibit
        test := if open' && !d.fault && auth && !d.testPassed then some (d.test.getD s.tick) else none })

/-- The outputs at a tick, and DCL_OPEN_MOVING (08 R270, R275). DEDUCED (log 38). -/
def State.dclTicks (s : State) (i : TickIn) : State :=
  let opens (o : Nat) : Bool :=
    let d := s.dcl o
    (d.on1 || d.on2) && !d.verdict && d.settle = 0 && s.safety.fellMoving
  let outs := bitN (opens 0) 0 + bitN (opens 1) 1
  let s := s.recordIf (outs ≠ 0) Evt.dclOpenMoving noSource [word32 s.safety.fell, word32 outs]
  let s := (s.dclReadback 0 i.dclA).dclReadback 1 i.dclB
  s

/-- A ground for the permission of a flight (08 R276). -/
def State.permGround (s : State) (f : Nat) : Bool :=
  let key := s.trusted (12 * f + 6)
  let release := (s.side f = 0 && s.releaseL) || (s.side f = 1 && s.releaseR)
  (release && !key) || (s.trusted 152 && wbit (s.par Par.safetyCrewFlights 0 0) f && !key) ||
    (s.pairActive (4 * f + 2) && !s.pairOmitted (4 * f + 2))

/-- The evaluation of a permission at a tick. -/
def State.permNow (s : State) (f : Nat) : Bool :=
  match s.hallB.mode.permitAuth with
  | 1 => s.zeroSpeed && s.permGround f
  | 2 => s.zeroSpeed
  | _ => false

/-- The permissions at a tick: withdrawn when the last evaluation failed, and evaluated again (08 R276). -/
def State.permTick (s : State) : State :=
  s.mapFsafe (fun f x => { x with
      permission := x.permission && x.permEval, permDue := x.permEval
      permEval := decide (f < s.nFlights) && s.firstStandby && s.permNow f })

/-- Hall B's entries into the command latches (06 R198). -/
def State.safetyEntries (s : State) (f : Nat) : State :=
  if s.mode != .run || !s.hasDoor f then s
  else
    let s := if (s.fsafe f).egress then s.enterLatch f ⟨.egress, .safety, 0, none, 8 * s.tick⟩ else s
    let st := (s.door f).st
    if s.parN Par.flightWithdrawClose f 0 = 1 && !(s.fsafe f).permission && (st == .opening || st == .open') then
      s.enterLatch f ⟨.close, .safety, 0, none, 8 * s.tick⟩
    else s

/-! ### MON (08 R288) -/

def State.leafOff (s : State) (f : Nat) : Bool := (s.claimed (leafOf f)).all (fun t => (s.tread t).mode == .off)

/-- The plausibility check of one flight; `was` says that the permission was granted at the tick before. -/
def State.monFlight (s : State) (f : Nat) (was : Bool) : State :=
  match s.leafPort f with
  | none => s
  | some p =>
    if s.side f = 2 then s
    else
      let now := (s.port p).countB
      let x := s.fsafe f
      if x.permission || was || s.leafOff f then s.modFsafe f (fun x => { x with monRef := now, monHit := false })
      else
        let d := (now - x.monRef).toInt
        let d := if s.parN Par.safetyMonDir 0 f = 1 then -d else d
        if (s.parN Par.safetyMonOpenMax 0 0 : Int) < d && !x.monHit then
          let s := (s.modFsafe f (fun x => { x with monHit := true })).record Evt.monFault f [x.monRef, now]
          s.enterHold .b 4
        else s

/-! ### Brake-hold (08 R290) -/

/-- The secondary counts of a flight's two ports. -/
def State.countsB (s : State) (f : Nat) : List (BitVec 32) := [(s.port (2 * f)).countB, (s.port (2 * f + 1)).countB]

/-- The brake-hold check that a flight fails: 1 the treads, 2 the stillness, 0 none. -/
def State.brakeFails (s : State) (f : Nat) : Nat :=
  let at' := s.tick - s.safety.shTick
  let lock := s.claimed (lockOf f)
  let braked := (s.claimed (leafOf f)).all (fun t => (s.tread t).mode == .brake || (s.tread t).mode == .off) &&
    lock.all (fun t => (s.tread t).mode == .off)
  let moved := ((s.fsafe f).stillRef.zip (s.countsB f)).any (fun (r, c) =>
    decide (s.parN Par.safetyShStill 0 0 < (c - r).toInt.natAbs))
  if 2 ≤ at' && !braked then 1 else if 500 ≤ at' && moved then 2 else 0

def State.brakeTick (s : State) (f : Nat) : State :=
  if !(s.fpower f).enB then s
  else
    let s := if s.tick = s.safety.shTick + 500 then s.modFsafe f (fun x => { x with stillRef := s.countsB f }) else s
    let c := s.brakeFails f
    if c = 0 then s else (s.enableLow f .b).record Evt.enableWithdrawn f [word32 c]

/-! ### Resets and the exit from SAFE_HOLD (08 R282, R292) -/

/-- The exit conditions that fail, as bits: [0] both halls in SAFE_HOLD, [1] frames matched for 1 s, [2] a cause that clears by condition
is present, [3] the seal. -/
def State.exitFails (s : State) : Nat :=
  bitN (!(s.hallA.mode == .safeHold && s.hallB.mode == .safeHold)) 0 + bitN (decide (s.hallB.matched < 1000)) 1
    + bitN ((s.hallA.present ||| s.hallB.present) &&& conditionCauses ≠ 0) 2 + bitN (!s.safety.sealRd.ok) 3

/-- The DCL faults clear; the offline test then runs (08 R282). -/
def State.clearDclFaults (s : State) : State :=
  let clear (d : Dcl) : Dcl := if d.fault then { d with fault := false, testPassed := false, test := none } else d
  (s.modDcl 0 clear).modDcl 1 clear

/-- The accepted reset edges of a tick act as one (08 R282). -/
def State.resetTick (s : State) : State :=
  if !s.safety.edge151 && !s.safety.edgeHost then s
  else
    let src := bitN s.safety.edge151 0 + bitN s.safety.edgeHost 1
    let s := { s with safety := { s.safety with edge151 := false, edgeHost := false, resetCount := s.safety.resetCount + 1 } }
    let dcl := s.safety.dclA.fault || s.safety.dclB.fault
    if s.hallB.mode == .safeHold then
      if s.exitFails ≠ 0 then s.record Evt.resetRefused noSource [word32 s.exitFails]
      else
        let clear (x : Hall) : Hall := { x with present := x.present &&& ~~~ latchedCauses }
        let s := ((s.modHall .a clear).modHall .b clear).clearDclFaults
        let s := { s with safety := { s.safety with exitPending := true } }
        s.record Evt.resetAccepted noSource [word32 src]
    else (s.clearDclFaults).recordIf dcl Evt.resetAccepted noSource [word32 src]

/-- A hall proposes a mode: it is to take effect four ticks later (08 R286). -/
def State.propose (s : State) (h : HallId) (new : Mode) : State :=
  let old := (s.hall h).mode
  s.modHall h (fun x => { x with
      prop := some (new, s.tick + 4), gotAck := false, lastTrans := some (old, new, s.tick + 4) })

/-- The proposal that follows an accepted reset edge, at the tick after it (08 R292). -/
def State.exitTick (s : State) : State :=
  if !s.safety.exitPending then s
  else
    let s := { s with safety := { s.safety with exitPending := false } }
    if s.exitFails = 0 && s.hallB.prop.isNone then s.propose .b .standby else s

/-! ### One safety tick (08 R261) -/

/-- Self-tests 2 and 3 of start-up: no clock measurement out of range, no mismatch of the word frames (14 R468). -/
def State.startTests (s : State) : State :=
  if s.sec.booted || s.sec.loadedAt.isNone then s
  else { s with
      sec := { s.sec with
          testClock := s.sec.testClock || s.clock.crossRunA ≠ 0 || s.clock.crossRunB ≠ 0
          testWords := s.sec.testWords || s.hallA.misRun ≠ 0 || s.hallB.misRun ≠ 0 } }

/-- The zero-reading check, 2 ms after the entry to STANDBY (03 R90): of UNUSED treads too, which are OFF in any case. -/
def State.zeroCheck (s : State) : State :=
  match s.safety.zeroCheck with
  | none => s
  | some t =>
    if s.tick < t then s
    else
      let s := { s with safety := { s.safety with zeroCheck := none } }
      s.forEach s.nTreads (fun s k =>
        let bad := decide (1 / 50 < absR ((s.tread k).i8.headD 0))
        (s.modTread k (fun x => { x with senseFault := bad })).recordIf bad Evt.treadSenseFault k
          [toReal32 ((s.tread k).i8.headD 0)])

/-- Hall B's functions on one tick. -/
def State.hallBTick (s : State) (i : TickIn) : State :=
  let s := if i.seDisagree then (s.record Evt.seDisagree noSource []).enterHold .b 3 else s
  let s := s.linkTick
  let s := s.exitTick.resetTick
  let s := { s with safety := { s.safety with zsSettle := if s.zeroActive then s.safety.zsSettle + 1 else 0 } }
  let s := s.dclTicks i
  let s := s.tallyTick
  let s := (s.dclTick 0).dclTick 1
  let was := s.safety.flights.map (·.permission)
  let s := s.permTick
  let s := s.forEach s.nFlights State.safetyEntries
  let s := s.forEach s.nFlights (fun s f => s.monFlight f (was.getD f false))
  let s := if s.hallB.mode == .safeHold then s.forEach s.nFlights State.brakeTick else s
  s.ringVsf

/-- The MODE_REQUEST under way is answered once the transition's tick is past (08 R287, 12 R422). -/
def State.modeReplies (s : State) : State :=
  match s.host.modeReq with
  | none => s
  | some (_, m, t) =>
    if s.tick ≤ t then s
    else if s.hallA.mode == m && s.hallB.mode == m then s.answerMode stOK 0 else s.answerMode stState 4

/-- A safety tick: the exchange of the tick that ends, time, Hall B's functions, budgets, enables. DEDUCED (log 19). -/
def State.safetyTick (s : State) (i : TickIn) : State :=
  let s := s.exchange i.toA i.toB
  let s := ((((s.clockTicks i).startTests.tickSlips i.slips).heartbeats i).countTime).ringTick
  let s := if s.hallBUp && s.hallB.mode != .boot then s.hallBTick i else s
  let s := (s.budgetTicks.tickReads i).zeroCheck.applyAuth.modeReplies.activationWait
  s.treadsBack.ringEnd

end Sys2Proof.Machine
end

