-- ==== Sys2Proof/Machine/Interlock.lean ====
section
/-! DEFINITION. The events of Hall B's safety functions (08): discrepancy, the DCL outputs, permissions, resets, the mode exchange, the
seal. -/

namespace Sys2Proof.Machine

/-- SAFETY_TICK: the 1 ms safety tick (08 R261), on every eighth sample (01 R35). DESIGN CHOICE (log 2). -/
def execSafetyTick (i : TickIn) (s : State) : Host.Outcome State Fault Refusal := .next (if s.tickDue then s.safetyTick i else s)

/-! ### Discrepancy (08 R264, R265) -/

def nPairs : Nat := 51

/-- A pair that the variant has. -/
def State.hasPair (s : State) (n : Nat) : Bool := decide (n < nPairs) && (decide (48 ≤ n) || decide (n / 4 < s.nFlights))

/-- SAFETY.DISC_ of a pair's kind, in milliseconds. -/
def State.discTime (s : State) (n : Nat) : Rat :=
  if n < 48 then
    match n % 4 with
    | 0 => s.parR Par.safetyDiscClosed 0 0
    | 1 => s.parR Par.safetyDiscLocked 0 0
    | 2 => s.parR Par.safetyDiscEgress 0 0
    | _ => s.parR Par.safetyDiscStep 0 0
  else if n = 48 then s.parR Par.safetyDiscZero 0 0 else s.parR Par.safetyDiscRelease 0 0

/-- N of R264: the discrepancy time in samples, rounded up. -/
def State.discSamples (s : State) (n : Nat) : Nat := (s.discTime n * 8).ceil.toNat

def pairSource (n : Nat) : Nat := if n < 48 then n / 4 else noSource

/-- DISCREPANCY: the N-th consecutive discrepant sample of a pair sets its latch (08 R264). -/
def execDiscrepancy (n : Nat) (s : State) : Host.Outcome State Fault Refusal :=
  onUnit (s.hasPair n)
    (let p := s.pair n
    if !s.hallBUp || p.latch || p.disc = 0 || decide (p.disc < s.discSamples n) then s
    else
      let channel := if s.trusted (pairLine n) then 0 else 1
      (s.modPair n (fun p => { p with latch := true })).record Evt.discrepancy (pairSource n) [word32 n, word32 channel])

/-- DISCREPANCY_CLEARED: the 8th consecutive sample on which both channels show the pair's restrictive value (08 R265). -/
def execDiscrepancyCleared (n : Nat) (s : State) : Host.Outcome State Fault Refusal :=
  onUnit (s.hasPair n)
    (if s.hallBUp && (s.pair n).latch && decide (8 ≤ (s.pair n).clear) then
      (s.modPair n (fun p => { p with latch := false })).record Evt.discrepancyCleared (pairSource n) [word32 n]
    else s)

/-! ### The DCL outputs (08 R270 to R274) -/

/-- The charge word gives DCL authority (08 R270, R271, R261). -/
def State.dclAuthNow (s : State) : Bool := s.hallBUp && s.hallB.mode.dclAuth && s.firstStandby

/-- DCL_CONDUCT: both switches of an output close at the tick after the evaluation that finds every condition met, once the offline test has
passed (08 R270, R271). -/
def execDclConduct (o : Nat) (s : State) : Host.Outcome State Fault Refusal :=
  onUnit (o < 2)
    (let d := s.dcl o
    if d.due && d.verdict && d.testPassed && !d.fault && s.dclAuthNow && !s.safety.inhibit then
      s.modDcl o (fun d => { d with on1 := true, on2 := true })
    else s)

/-- DCL_OFFLINE_TEST: the end of the 2 ms test, with the larger current of each of its steps in milliamperes (08 R271). -/
def execDclOfflineTest (o : Nat) (ma1 ma2 : Rat) (s : State) : Host.Outcome State Fault Refusal :=
  onUnit (o < 2)
    (let d := s.dcl o
    match d.test with
    | none => s
    | some t =>
      if s.tick < t + 2 || d.on1 || d.on2 || d.fault || !s.dclAuthNow then s
      else if ma1 < 1 / 2 && ma2 < 1 / 2 then s.modDcl o (fun d => { d with testPassed := true, test := none })
      else s.dclFault o Evt.dclTestFault 0)

/-- The offset of a switch's pulse in each second of the safety-tick count (08 R272). -/
def pulseOffset (o sw : Nat) : Nat := 250 * o + 500 * sw

/-- DCL_TEST_PULSE: the 300 µs off-pulse of one switch, with the larger of its two current readings (08 R272). -/
def execDclTestPulse (o sw : Nat) (ma : Rat) (s : State) : Host.Outcome State Fault Refusal :=
  onUnit (o < 2 && sw < 2)
    (if s.hallBUp && s.conducting o && s.clockTick.toNat % 1000 = pulseOffset o sw && decide (1 / 2 ≤ ma) then
      s.dclFault o Evt.dclTestFault (1 + sw)
    else s)

/-- DCL_INHIBIT: Hall A asserts its inhibit, which opens the switches at once (08 R274, 01 R41). -/
def execDclInhibit (s : State) : Host.Outcome State Fault Refusal := .next (if s.inhibitDue then s.inhibitOn else s)

/-- PERMISSION_GRANT: the grant takes effect one tick after the evaluation that finds every condition met (08 R276). -/
def execPermissionGrant (f : Nat) (s : State) : Host.Outcome State Fault Refusal :=
  onUnit (f < s.nFlights)
    (let x := s.fsafe f
    if s.hallBUp && x.permDue && x.permEval && !x.permission then s.modFsafe f (fun x => { x with permission := true }) else s)

/-! ### Reset (08 R279 to R282) -/

/-- The press of S151 under judgement, once released: its beginning and its end. -/
def State.press (s : State) : Option (Nat × Nat) :=
  match s.safety.pressAt, s.safety.releasedAt with
  | some p, some r => some (p, r)
  | _, _ => none

/-- RESET_EDGE: a press of 100 ms up to, but not including, 3000 ms ends; Hall B acts on it at the next tick (08 R280, R281). -/
def execResetEdge (s : State) : Host.Outcome State Fault Refusal :=
  match s.press with
  | none => .next s
  | some (p, r) =>
    if !s.hallBUp || decide (p + 24000 ≤ r) then .next s
    else
      let ok := decide (p + 800 ≤ r) && !s.safety.resetStuck
      .next { s with
          safety := { s.safety with pressAt := none, releasedAt := none, edge151 := s.safety.edge151 || ok } }

/-- RESET_HELD: the press of S151 has lasted 3000 ms; a press of exactly 3000 ms counts, and the bit clears at its end (08 R280). -/
def execResetHeld (s : State) : Host.Outcome State Fault Refusal :=
  let x := s.safety
  match x.pressAt with
  | none => .next s
  | some p =>
    if !s.hallBUp || x.resetHeld || s.sample < p + 24000 then .next s
    else match x.releasedAt with
      | none => .next (({ s with safety := { x with resetHeld := true } }).record Evt.resetHeld noSource [])
      | some r =>
        .next (if r = p + 24000 then
            ({ s with safety := { x with pressAt := none, releasedAt := none } }).record Evt.resetHeld noSource []
          else s)

/-- RESET_STUCK_CLEAR: S151 inactive on 4000 consecutive samples (08 R281). -/
def execResetStuckClear (s : State) : Host.Outcome State Fault Refusal :=
  .next (if s.hallBUp && s.safety.resetStuck && decide (4000 ≤ s.safety.idle151) then
    { s with safety := { s.safety with resetStuck := false } } else s)

/-- SAFETY.RESET_REQ: one edge for the next safety tick (08 R279, R282). -/
def State.safetyResetWrite (s : State) (v : BitVec 32) : Nat × State :=
  if v ≠ 1 then (stRange, s)
  else if s.parN Par.safetyHostResetEn 0 0 ≠ 1 then (stState, s)
  else (stOK, { s with safety := { s.safety with edgeHost := true } })

/-! ### The mode and charge exchange (08 R285 to R287) -/

/-- WORD_MISMATCH_LIMIT: the third consecutive mismatch of a hall: SAFE_HOLD, with WORD_LOST if any of the three frames was missing, late
or corrupt (08 R285). -/
def execWordMismatchLimit (h : HallId) (s : State) : Host.Outcome State Fault Refusal :=
  .next (if 3 ≤ (s.hall h).misRun then s.enterHold h (if (s.hall h).misLost then 1 else 0) else s)

/-- The proposer at the proposal's tick: it changes mode with the partner's acknowledgement, and withdraws without it (08 R286). -/
def State.proposerTurn (s : State) (h : HallId) : State :=
  match (s.hall h).prop with
  | none => s
  | some (m, t) =>
    if s.tick < t then s
    else if (s.hall h).gotAck then s.takeMode h m 1
    else
      let s := s.modHall h (fun x => { x with prop := none, gotAck := false })
      let s := s.record Evt.modeProposalFailed noSource [word32 m.code, 3]
      if h = HallId.a then s.answerMode stState 3 else s

/-- The partner at the proposal's tick: it changes mode if it accepts and the proposer's frame of the tick before still carried the proposal
(08 R286, R292). -/
def State.partnerTurn (s : State) (h : HallId) : State :=
  let x := s.hall h
  match x.partnerProp, x.ack with
  | some (m, t, n), some a =>
    if t ≤ s.tick && a = t && t ≤ n + 1 && x.mode != m then s.takeMode h m (if x.mode == .safeHold then 2 else 1) else s
  | _, _ => s

/-- MODE_TRANSITION: the tick of a proposal (08 R286). Each hall judges by what it had before the tick. -/
def execModeTransition (s : State) : Host.Outcome State Fault Refusal :=
  let proposer := if s.hallA.prop.isSome then HallId.a else HallId.b
  .next ((s.partnerTurn (otherHall proposer)).proposerTurn proposer)

/-! ### The seal (02 R55, 08 R294) -/

/-- The seal value of 48 contacts: bits 23 to 0 the true contacts of SW5 to SW0, bits 47 to 24 their complements. It is invalid when a true
and a complement contact agree. DEDUCED (log 41). -/
def sealOf (contacts : BitVec 48) : Option (BitVec 24) :=
  let t := contacts.extractLsb' 0 24
  let c := contacts.extractLsb' 24 24
  if c = ~~~ t then some t else none

/-- A seal value as SAFETY.SEAL_VALUE shows it: bit 31 marks an invalid one. DEDUCED (log 41). -/
def sealWord (v : Option (BitVec 24)) (last : BitVec 24) : BitVec 32 :=
  match v with
  | some v => v.setWidth 32
  | none => last.setWidth 32 ||| 0x80000000

/-- What the seal should read: SEAL_ADDR and the check of the active configuration (08 R294). DEDUCED (log 41). -/
def State.sealWanted (s : State) : BitVec 32 :=
  word32 (65536 * (s.parN Par.safetySealAddr 0 0 % 256) + s.safety.checkB.toNat)

/-- One reading of the contacts. -/
def State.readSeal (s : State) (contacts : BitVec 48) : State :=
  let v := sealOf contacts
  let ok := s.sealMatches v
  let r := s.safety.sealRd
  let stable := if ok then r.stable + 1 else 0
  let s := { s with
      safety := { s.safety with
          sealRd := { value := v, lastValid := v.getD r.lastValid, readDone := true, stable := stable, ok := ok } } }
  if 2 ≤ stable then
    let clear (x : Hall) : Hall := { x with present := x.present &&& ~~~(0x20 : BitVec 16) }
    s.modHall .b clear
  else s

/-- SEAL_READ: the reading of each second, and the reaction of the mode (08 R294). -/
def execSealRead (contacts : BitVec 48) (s : State) : Host.Outcome State Fault Refusal :=
  if !s.hallBUp then .next s
  else
    let old := s.safety.sealRd
    let s := s.readSeal contacts
    let now := s.safety.sealRd
    let changed := old.readDone && old.value ≠ now.value
    let word := sealWord now.value now.lastValid
    if s.hallB.mode == .boot then .next s
    else if s.sec.active.isNone || s.hallB.mode == .maintenance || s.hallB.mode == .update then
      .next (s.recordIf changed Evt.sealChanged noSource [word])
    else if !now.ok || changed then
      .next ((s.record Evt.sealMismatch noSource [word, s.sealWanted]).enterHold .b 5)
    else .next s

end Sys2Proof.Machine
end

