-- ==== Sys2Proof/Machine/Gallery.lean ====
section
/-! DEFINITION. The gallery (11): intake, the queues, the NAND's pages, traces, counters, failure and repair. -/

namespace Sys2Proof.Machine

/-- GE runs while Hall B does (11 R380, R391). -/
def geEvent (s : State) (act : State → State) : Host.Outcome State Fault Refusal := .next (if s.hallBUp then act s else s)

/-- EVENT_INTAKE (11 R392, R393): the first event that has arrived at GE. -/
def execEventIntake (s : State) : Host.Outcome State Fault Refusal :=
  geEvent s (fun s => match s.gallery.arrivals with
    | [] => s
    | e :: rest => ({ s with gallery := { s.gallery with arrivals := rest } }).intake e)

/-- RECORD_WINDOW_END (11 R392). -/
def execRecordWindowEnd (s : State) : Host.Outcome State Fault Refusal := geEvent s (fun s => s.closeWhile s.windowEnded)

/-- QUEUE_TAKE (11 R391, R392): the first entry of the event queue and of the cycle queue. -/
def execQueueTake (s : State) : Host.Outcome State Fault Refusal := geEvent s (fun s => s.takeEvent.takeCycleEntry)

/-- The EVENTS_LOST record of the pending losses: in DX-12 mode with DX12, REPEAT 0 and LAST_OPTIME 0 (11 R384, R395). -/
def State.lossEvent (s : State) : Ev :=
  let g := s.gallery
  let top := (List.range 6).foldl (fun m k => if g.lost.getD k 0 = 0 then m else max m k) 3
  let args := (g.lost.take 5).map word32 ++ [word32 g.rateLost, word32 (g.lossFirst.getD 0), word32 g.lossLast]
  let dx := s.parN Par.galleryFloodMode 0 0 = 1
  { code := Evt.eventsLost.code, sev := top, source := noSource, args := args, optime := s.optimeNow, flags := if dx then 0x08 else 0,
    rep := if dx then 0 else 1, win := s.parN Par.galleryRepeatWin 0 0 }

/-- EVENTS_LOST (11 R395): in its slot of the queue; while DEGRADED is set, to the alcove as every event (R400). -/
def execEventsLost (s : State) : Host.Outcome State Fault Refusal :=
  geEvent s (fun s =>
    if s.gallery.lossPending && decide (s.gallery.queue.length ≤ 64) then
      let e := s.lossEvent
      let s := { s with
          gallery := { s.gallery with lost := List.replicate 6 0, rateLost := 0, lossFirst := none, lossLast := 0 } }
      if s.gallery.degraded then s.degradedIntake e
      else { s with
          gallery := { s.gallery with
          queue := s.gallery.queue ++ [e], intakePeak := max s.gallery.intakePeak (s.gallery.queue.length + 1) } }
    else s)

/-! ### The NAND (11 R396, R398, R406) -/

/-- The NAND is free for an operation: in use, idle, and with nothing left that a start has to write first. -/
def State.nandFree (s : State) : Bool :=
  !s.gallery.degraded && s.gallery.rebuildFrom.isNone && s.gallery.waitEv.isEmpty && s.gallery.waitCyc.isEmpty &&
    decide (s.gallery.busyUntil ≤ s.tick)

/-- The NAND is busy for a time up to `ms`, which the spec bounds only. DESIGN CHOICE (log 12). -/
def State.nandBusy (s : State) (ms : Rat) : State :=
  ({ s with gallery := { s.gallery with busyUntil := s.stamp + (clampR 0 ms (Config.freeRat s.draws)).ceil.toNat } }).draw

/-- PAGE_PROGRAM (11 R396): a page of 256 records of the cycle spill, else of the event spill. -/
def execPageProgram (s : State) : Host.Outcome State Fault Refusal :=
  geEvent s (fun s =>
    let g := s.gallery
    if !s.nandFree then s
    else if 256 ≤ g.cycSpill.length then
      ((g.cycSpill.take 256).foldl State.archivePut { s with gallery := { g with cycSpill := g.cycSpill.drop 256 } }).nandBusy (6 / 10)
    else if 256 ≤ g.spill.length then
      ((g.spill.take 256).foldl State.logPut { s with gallery := { g with spill := g.spill.drop 256 } }).nandBusy (6 / 10)
    else s)

/-- An area's free space is below 4 blocks of 256 KiB. -/
def State.areaLow (s : State) (a : Nat) : Bool := decide (s.areaCap a < s.gallery.unitsUsed a + 4 * 4096)

/-- Blocks of an area, and the first of them. -/
def State.areaBlocks (s : State) (a : Nat) : Nat := s.areaCap a / 4096
def State.areaBase (s : State) (a : Nat) : Nat := ((List.range a).map s.areaBlocks).sum

/-- Erase count of a block. -/
def Gallery.erases (g : Gallery) (b : Nat) : Nat := ((g.wear.find? (fun w => w.1 = b)).map (·.2)).getD 0

/-- The largest erase count of any block, and the mean over the area blocks. -/
def Gallery.wearMax (g : Gallery) : Nat := (g.wear.map (·.2)).foldl max 0
def State.wearMean (s : State) : Rat :=
  (((s.gallery.wear.filter (fun w => decide (w.1 < s.areaBase 3))).map (·.2)).sum : Rat) / ((s.areaBase 3 : Nat) : Rat)

/-- WEAR_MAX and WEAR_MEAN as shares of 30 000 cycles, in percent. -/
def wearShare (n : Rat) : BitVec 32 := toReal32 (n / 300)

/-- The reserve blocks fitted (11 R378). -/
def State.reserveFitted (s : State) : Nat := if s.ds9600 then 256 else 64

/-- WEAR_WARN sets, and its event is recorded once (11 R406). -/
def State.wearCheck (s : State) : State :=
  let warn := decide (24000 ≤ s.gallery.wearMax) || decide (4 * s.gallery.reserve < s.reserveFitted)
  let first := warn && !s.gallery.wearWarn
  let s := { s with gallery := { s.gallery with wearWarn := s.gallery.wearWarn || warn } }
  s.recordIf first Evt.wearWarning noSource [wearShare (s.gallery.wearMax : Rat), word32 s.gallery.reserve]

/-- A block is erased, in a step that keeps the NAND busy for up to 45 ms (11 R396). -/
def State.eraseBlock (s : State) (b : Nat) : State :=
  let g := s.gallery
  let wear := (b, g.erases b + 1) :: g.wear.filter (fun w => w.1 ≠ b)
  (({ s with gallery := { g with wear := wear } }).wearCheck).nandBusy 45

/-- The area that a compaction step serves: overwritten records await reclaiming, or its free space is low. -/
def State.compactArea (s : State) : Option Nat :=
  [0, 1, 2].find? (fun a => decide ((s.gallery.areaSt a).reclaim ≠ 0) || s.areaLow a)

/-- The blocks over which the wear of an area is levelled, its own and the reserve blocks that are left, and the one whose turn it is (11
R378, R406). Reserve block `n` has the number `areaBase 3 + n`. DESIGN CHOICE (log 85). -/
def State.turnBlocks (s : State) (a : Nat) : Nat := s.areaBlocks a + s.gallery.reserve
def State.turnBlock (s : State) (a : Nat) : Nat :=
  let c := (s.gallery.areaSt a).cursor % s.turnBlocks a
  if c < s.areaBlocks a then s.areaBase a + c
  else s.areaBase 3 + (s.reserveFitted - s.gallery.reserve) + (c - s.areaBlocks a)

/-- COMPACTION_STEP (11 R396, R398, R406): a block to refresh, else the next block in turn of an area that needs space; its live records
move, so only the space of overwritten ones changes. DESIGN CHOICE (log 85). -/
def execCompactionStep (s : State) : Host.Outcome State Fault Refusal :=
  geEvent s (fun s =>
    if s.nandFree && !s.onHoldup then
      match s.gallery.toRefresh with
      | b :: rest => ({ s with gallery := { s.gallery with toRefresh := rest } }).eraseBlock b
      | [] => match s.compactArea with
        | none => s
        | some a =>
          let b := s.turnBlock a
          (s.modArea a (fun x => { x with reclaim := x.reclaim - 4096, cursor := (x.cursor + 1) % s.turnBlocks a })).eraseBlock b
    else s)

/-- Pages of 16 KiB that a trace takes. -/
def Trace.pages (t : Trace) : Nat := (t.units + 255) / 256

/-- TRACE_WRITE (11 R387): behind every event and cycle record that waits. -/
def execTraceWrite (f : Nat) (s : State) : Host.Outcome State Fault Refusal :=
  if s.nFlights ≤ f then .fault .noSuchUnit
  else geEvent s (fun s =>
    let g := s.gallery
    let x := g.staging.getD f .reset
    let behind := g.queue.isEmpty && g.cycQueue.isEmpty && decide (g.spill.length < 256) && decide (g.cycSpill.length < 256)
    if !x.done then s
    else if g.paused then s.modStaging f (fun x => { x with done := false })
    else if s.nandFree && behind then
      let (q, s) := s.takeSeq 2
      let s := s.modStaging f (fun x => { x with done := false })
      (s.tracePut { x.tr with
          seq := q, pcyc := g.powerCycles, samples := x.tr.samples.reverse }).nandBusy ((x.tr.pages : Rat) * (6 / 10))
    else s)

/-- COUNTER_PERSIST (11 R380): every 10 ms, while the MRAM holds the counters (R400). -/
def execCounterPersist (s : State) : Host.Outcome State Fault Refusal :=
  geEvent s (fun s =>
    if s.gallery.optimeMram + 10 ≤ s.gallery.optime && !s.gallery.timeEst then
      { s with gallery := { s.gallery with optimeMram := s.gallery.optime } }
    else s)

/-- The blocks of an area that hold records, live or overwritten; they fill from its first block on. DESIGN CHOICE (log 85). -/
def State.programmed (s : State) (a : Nat) : Nat :=
  min (s.areaBlocks a) ((s.gallery.unitsUsed a + (s.gallery.areaSt a).reclaim + 4095) / 4096)

/-- A programmed block has been read in the pass under way; with the last one it is complete, and the next is complete 30 days later (11 R406,
15 R514). DESIGN CHOICE (log 85). -/
def State.passBlock (s : State) (b : Nat) : State :=
  let g := s.gallery
  let read := if g.passRead.contains b then g.passRead else b :: g.passRead
  let all := [0, 1, 2].all (fun a =>
    decide (s.programmed a ≤ (read.filter (fun x => decide (s.areaBase a ≤ x) && decide (x < s.areaBase a + s.programmed a))).length))
  { s with gallery := { g with
      passRead := if all then [] else read, passEnd := if all then g.optime + 30 * 86400000 else g.passEnd } }

/-- NAND_SCRUB (11 R406, 15 R514): what a program, an erase or a read pass finds of a block. A failing one is replaced from the reserve; one
whose corrected bits exceed half the ECC's strength is to be refreshed. DESIGN CHOICE (log 85). -/
def execNandScrub (r : ScrubIn) (s : State) : Host.Outcome State Fault Refusal :=
  geEvent s (fun s =>
    let g := s.gallery
    if g.degraded then s
    else if r.failed then
      if g.reserve = 0 then s
      else
        let n := s.reserveFitted - g.reserve
        let spare := s.areaBase 3 + n
        let others := g.wear.filter (fun w => w.1 ≠ r.block && w.1 ≠ spare)
        let s := { s with
            gallery := { g with
            reserve := g.reserve - 1, wear := if g.erases spare = 0 then others else (r.block, g.erases spare) :: others
            blocks := (r.block, n) :: g.blocks.filter (fun w => w.1 ≠ r.block) } }
        ((s.record Evt.blockRetired noSource [word32 r.block]).wearCheck).passBlock r.block
    else if Config.eccStrength < 2 * r.bits && !g.toRefresh.contains r.block then
      { s with gallery := { g with toRefresh := g.toRefresh ++ [r.block] } }.passBlock r.block
    else s.passBlock r.block)

/-! ### Failure and repair (11 R399 to R402) -/

/-- Send an event over every host link without recording it. -/
def State.tell (s : State) (e : EvCode) (args : List (BitVec 32)) : State :=
  if s.hallAUp then s.send (.event e.code noSource args) else s

/-- An event written straight to the alcove, and sent over every host link. -/
def State.alcoveOnly (s : State) (e : EvCode) (args : List (BitVec 32)) : State :=
  (s.alcoveEvent { code := e.code, sev := e.sev, source := noSource, args := args, optime := s.optimeNow, flags := 0 }).tell e args

/-- GALLERY_FAILED (11 R400): 1 NAND timeout, 2 reserve exhausted, 3 index, 4 MRAM; and the block or region. The reserve is exhausted
only with none left, and the index fails only in a rebuild scan (R399). The cycles that wait in their queue take their SEQs before the
next to end. -/
def execGalleryFailed (cause arg : Nat) (s : State) : Host.Outcome State Fault Refusal :=
  geEvent s (fun s =>
    let possible := cause = 1 || (cause = 2 && s.gallery.reserve = 0) || (cause = 3 && s.gallery.rebuildFrom.isSome) || cause = 4
    if s.gallery.degraded || !possible then s
    else
      let s := s.alcoveOnly Evt.galleryFailed [word32 cause, word32 arg]
      let s := { s with
          gallery := { s.gallery with
          degraded := true, failedSentTick := s.stamp, paused := true, pauseNoted := false, rebuildFrom := none } }
      let next := s.gallery.cycQueue.foldl (fun q _ => seqAfter q) s.gallery.archSt.nextSeq
      let s := s.alcoveOnly Evt.cyclesPaused [next]
      if cause = 4 then s.rebuildCounters else s)

/-- GALLERY_FAILED_REPEAT (11 R400): LE sends the event again every 60 s while DEGRADED is set. -/
def execGalleryFailedRepeat (s : State) : Host.Outcome State Fault Refusal :=
  .next (if s.gallery.degraded && s.hallAUp && decide (s.gallery.failedSentTick + 60000 ≤ s.ms) then
      let args := ((s.gallery.alcove.reverse.find? (fun x => x.entry.code = Evt.galleryFailed.code)).map (·.entry.args)).getD []
      ({ s with gallery := { s.gallery with failedSentTick := s.stamp } }).tell Evt.galleryFailed args
    else s)

/-- INDEX_REBUILT (11 R399): the rebuild scan ends well; what has waited is written; with its duration in milliseconds. -/
def execIndexRebuilt (s : State) : Host.Outcome State Fault Refusal :=
  geEvent s (fun s => match s.gallery.rebuildFrom with
    | none => s
    | some t =>
      ({ s with gallery := { s.gallery with rebuildFrom := none } }).flushWait.record Evt.indexRebuilt noSource [word32 (s.stamp - t)])

end Sys2Proof.Machine
end

