-- ==== Sys2Proof/Machine/Power.lean ====
section
/-! DEFINITION. Supply, presence, limp-home, breakers and treads (01 R21 to R24, 02, 03): one sample of them, and the meanings of their
events. -/

namespace Sys2Proof.Machine

/-! ### Thresholds of the part (02 R57, 03 R95) -/

/-- DESIGN CHOICE (log 6). -/
def ovTrip : Rat := clampR 156 160 Config.ovTrip
/-- DESIGN CHOICE (log 6). -/
def validRise : Rat := clampR (136 / 10) (142 / 10) Config.validRise
/-- DESIGN CHOICE (log 6). -/
def validFall : Rat := clampR (126 / 10) (132 / 10) Config.validFall
/-- The thermal shutdown. DESIGN CHOICE (log 6). -/
def shutTemp : Rat := clampR 170 180 Config.shutTemp
/-- The thermal re-arm, 20 °C below the shutdown at least (03 R95). DESIGN CHOICE (log 6). -/
def rearmTemp : Rat := clampR 145 (minR 155 (shutTemp - 20)) Config.rearmTemp

/-! ### Sampling -/

/-- The last VIN sample. -/
def State.vin (s : State) : Rat := s.supply.vin8.headD 0

/-- The level at which undervoltage restarts (02 R63). -/
def State.uvRestart (s : State) : Rat := s.parR Par.supplyUvLevel 0 0 + s.parR Par.supplyUvHyst 0 0

/-- A presence loop's count on one sample: at 10 Ω or less it advances, at 100 Ω or more it restarts, between it holds (02 R69). -/
def loopRun (ohm : Rat) (run : Nat) : Nat := if ohm ≤ 10 then run + 1 else if 100 ≤ ohm then 0 else run

/-- A limp-home pin's level on one sample (02 R70). -/
def pinLevel (was : Bool) (v : Rat) : Bool := if 10 ≤ v then true else if v ≤ 7 then false else was

/-- The supply on one sample: VIN and its validity, the counts of restarts and of the loops (02 R57 to R70). -/
def State.sampleSupply (s : State) (i : SampleIn) (x : Supply) : Supply :=
  let vin := s.factory Par.calFactoryVinGain Par.calFactoryVinOffset 1 0 i.vin
  let valid := if x.valid then decide (validFall ≤ vin) else decide (validRise ≤ vin)
  let good := valid && decide (vin ≤ 180)
  let levels := (List.range 8).map (fun k => pinLevel (x.lhLevel.getD k false) (i.lhPins.getD k 0))
  { x with
      vin8 := (vin :: x.vin8).take 8, iin8 := (i.iin :: x.iin8).take 8, vhold := i.vhold, valid := valid
      invalidSince := if good then x.invalidSince else some (x.invalidSince.getD s.sample)
      validAt := if good && (!x.valid || x.validAt ≤ x.invalidSince.getD 0) then s.sample else x.validAt
      uvRun := if x.uv && (!x.uvLatched || s.limpInCharge) && decide (s.uvRestart ≤ vin) then x.uvRun + 1 else 0
      ovRun := if x.ov && decide (vin < ovTrip - 5) then x.ovRun + 1 else 0
      mpresRun := loopRun i.mpres x.mpresRun, lhLevel := levels
      lhRun := (List.range 8).map (fun k =>
        if levels.getD k false = x.lhLevel.getD k false then x.lhRun.getD k 0 + 1 else 1) }

/-- The calibrated current of a tread (03 R89). -/
def State.calibrated (s : State) (t : Nat) (raw : Rat) : Rat :=
  s.factory Par.calFactoryTreadGain Par.calFactoryTreadOffset (1 / 1000) t raw * (1 + s.parR Par.calUserTreadGainTrim 0 t) + s.parR Par.calUserTreadOffsetTrim 0 t / 1000

/-- A number rounded up to a multiple of 2.5. -/
def ceilCap (q : Rat) : Rat := (((q * 2 / 5).ceil : Int) : Rat) * 5 / 2

/-- A dead time held between DT_MIN and DT_MAX (03 R85). -/
def State.fitDead (s : State) (t : Nat) (q : Rat) : Rat := minR (maxR q (s.parR Par.treadDtMin t 0)) (s.parR Par.treadDtMax t 0)

/-- The dead time before the tread's next transition in a direction (03 R85). -/
def State.deadNow (s : State) (t : Nat) (rising : Bool) (x : Tread) : Rat :=
  if s.parN Par.treadDtMode t 0 = 1 then s.parR Par.treadDtMin t 0
  else (if rising then x.deadRise else x.deadFall).getD (s.fitDead t (Config.firstDead t))

/-- A transition of a tread (03 R85): its own dead time, and in ADAPTIVE mode the dead time of the next one in the same direction.
DEDUCED (log 69): a transition that has not crossed when DT_MAX expires has DT_MAX as its own dead time. -/
def State.deadTime (s : State) (t : Nat) (x : Tread) (r : TransIn) : Tread :=
  let hi := s.parR Par.treadDtMax t 0
  let next := some (s.fitDead t (ceilCap (r.ns + 10)))
  let own := s.deadNow t r.rising x
  if s.parN Par.treadDtMode t 0 = 1 then { x with dt64 := (own :: x.dt64).take 64 }
  else { x with
      dt64 := ((if hi < r.ns then hi else own) :: x.dt64).take 64, hardSw := if hi < r.ns then x.hardSw + 1 else x.hardSw
      deadRise := if r.rising then next else x.deadRise, deadFall := if r.rising then x.deadFall else next }

/-- An edge of a tread (03 R87): the gate drive sets from it the gate current of the edge one period later, the next but one, rising and
falling edges taking turns. From the ninth edge on at one current of at least 0.5 A and one target, the rate lies within 20 % of the
target. DEDUCED (log 73). -/
def State.edge (s : State) (t : Nat) (cur : Rat) (x : Tread) (rate : Rat) : Tread :=
  let aim := s.parR Par.treadDvdt t 0
  let same := decide (x.edgeI = cur) && decide (x.edgeAim = aim)
  let rate := if same && decide (8 ≤ x.edgeRun) && decide (1 / 2 ≤ absR cur) then clampR (aim * 4 / 5) (aim * 6 / 5) rate else rate
  { x with
      dvdt64 := (rate :: x.dvdt64).take 64, gate := x.gate2, gate2 := Config.gateDrive x.gate rate aim, edgeI := cur, edgeAim := aim
      edgeRun := if same then x.edgeRun + 1 else 1 }

/-- The transitions and the edges of a tread since the last sample (03 R85, R87). -/
def State.sampleEdges (s : State) (t : Nat) (i : SampleIn) (x : Tread) : Tread :=
  let y := (i.transitions.getD t []).foldl (s.deadTime t) x
  (i.edges.getD t []).foldl (s.edge t (y.i8.headD 0)) y

/-- The duty that the switches carry (03 R86): a pulse shorter than the present dead time plus 50 ns is dropped, and the switch stays as it
was. The pulse of the on state begins with a rising edge of the node, of a LOW_SIDE tread with a falling one. DEDUCED (log 73). -/
def State.pwmOut (s : State) (t : Nat) (x : Tread) : Rat :=
  let period : Rat := (s.parN Par.treadPwmPeriod t 0 : Rat) * 5 / 2
  let on := period * x.duty / 100
  let up := x.mode != .lowSide
  if x.mode == .off || x.mode == .brake || decide (x.duty ≤ 0) then 0
  else if 100 ≤ x.duty then 100
  else if on < s.deadNow t up x + 50 then 0
  else if period - on < s.deadNow t (!up) x + 50 then 100
  else x.duty

/-- One sample of a tread: current, peak allowance, wire model, and the counts of its limit and open-load checks (03 R88 to R99). The
clamp ends here; it begins with the command TREAD_PEAK_CLAMP. -/
def State.sampleTread (s : State) (t : Nat) (i : SampleIn) (x : Tread) : Tread :=
  let raw := i.treadI.getD t 0
  let cur := s.calibrated t raw
  let before := (List.range 4).map (fun k => s.calibrated t ((i.treadIs.getD t []).getD k raw))
  let e := maxR 0 (x.e + (cur * cur - 36) / 8000)
  let tau := s.parR Par.treadWireTau t 0
  let w := x.x + (cur * cur - x.x) / 8000 / tau
  let held := x.mode != .off && decide (s.effectiveLimit t ≤ absR cur)
  let ol := s.parR Par.treadOlThresh t 0
  let watched := (x.mode == .highSide || x.mode == .lowSide) && decide (ol ≠ 0)
  let low := watched && decide (absR cur < ol)
  { x with
      i8 := (cur :: (before ++ x.i8)).take 8, pwm := s.pwmOut t x, tjHi := i.tjHi.getD t x.tjHi, tjLo := i.tjLo.getD t x.tjLo, e := e
      clamp := x.clamp && decide (e ≠ 0), x := w, inLimit := held, limitRun := if held then x.limitRun + 1 else 0
      clearRun := if held then 0 else x.clearRun + 1, ilimArmed := x.ilimArmed || (!held && decide (8000 ≤ x.clearRun + 1))
      limitSamples := if held then x.limitSamples + 1 else x.limitSamples, openRun := if low then x.openRun + 1 else 0
      openLoad := x.openLoad && (!watched || low) }

/-- What a tread dissipates, in watts (03 R107): `v` is the segment voltage, the current that of the sample's five current-loop ticks, dead
time and edge rate as TREAD.DT_MEAS and DVDT_MEAS measure them. DEDUCED (log 74). -/
def State.treadLoss (s : State) (t : Nat) (v : Rat) (x : Tread) : Rat :=
  if x.mode == .off then 0
  else
    let d := dieOfFlight (flightOfTread t)
    let now := x.i8.take 5
    let mean := meanR (now.map absR)
    let square := meanR (now.map (fun i => i * i))
    let perNs : Rat := 2 / (5 * (s.parN Par.treadPwmPeriod t 0 : Rat))
    let rate := if x.dvdt64.isEmpty then s.parR Par.treadDvdt t 0 else meanR x.dvdt64
    let ron := Config.lossRon d * (1 + Config.lossRonTemp d * (maxR x.tjHi x.tjLo - 25))
    square * ron + v * mean * (v / rate) * perNs + 2 * Config.lossDiode d * mean * meanR x.dt64 * perNs
      + Config.lossGate d * perNs * 10000

/-- The dissipation estimate of a storey die (03 R107). -/
def State.dieLoss (s : State) (i : SampleIn) (d : Nat) : Rat :=
  let loss (k : Nat) : Rat :=
    let t := 48 * d + k
    s.treadLoss t (i.segmentV.getD (storeyOfFlight (flightOfTread t)) i.vin) (s.tread t)
  if d < s.nDies && (s.die d).railUp then 3 / 2 + sumR ((List.range 48).map loss) else 0

/-- A budget level's quantity on a sample (01 R22, 15 R507). -/
def State.budgetQuantity (s : State) (i : SampleIn) (lv : Nat) : Rat :=
  if lv < 12 then i.flightI.getD lv 0 else if lv < 16 then i.storeyI.getD (lv - 12) 0
  else if lv < 18 then (s.die (lv - 16)).dissip else if lv = 18 then i.iin else s.dissip

/-- A hall's rails are inside their windows: 0.76 to 0.84 V and 3.10 to 3.50 V (01 R22). -/
def railsIn (core io : Rat) : Bool :=
  decide (76 / 100 ≤ core) && decide (core ≤ 84 / 100) && decide (31 / 10 ≤ io) && decide (io ≤ 35 / 10)

/-- A hall in reset on a sample: its rails inside their windows count, its PLL may lock again (01 R25). -/
def Hall.sampled (rails pll : Bool) (x : Hall) : Hall :=
  if x.inReset then { x with railRun := if rails then x.railRun + 1 else 0, pllLocked := x.pllLocked || pll } else x

/-- One sample of the supply, the budgets and the treads. -/
def State.samplePower (s : State) (i : SampleIn) : State :=
  let s := (s.modHall .a (Hall.sampled (railsIn i.coreA i.ioA) i.pllA)).modHall .b (Hall.sampled (railsIn i.coreB i.ioB) i.pllB)
  let s := { s with supply := s.sampleSupply i s.supply, baseplate := i.baseplate }
  let s := s.mapTreads (fun t x => if (s.die (dieOfFlight (flightOfTread t))).railUp then s.sampleEdges t i (s.sampleTread t i x) else x)
  let s := s.mapStoreys (fun u x => { x with i8 := (i.storeyI.getD u 0 :: x.i8).take 8 })
  let s := s.mapDies (fun d x => { x with temp := i.dieTemp.getD d x.temp, dissip := s.dieLoss i d })
  let s := { s with dissip := (s.die 0).dissip + (s.die 1).dissip + i.logicPower }
  let s := s.mapFpower (fun f x => { x with
      i8 := (i.flightI.getD f 0 :: x.i8).take 8, presRun := loopRun (i.presence.getD f 1000) x.presRun })
  s.forEach 20 (fun s lv =>
    if s.hasLevel lv then s.modBudget lv (Budget.sampleOf (s.budgetCont lv) (budgetPeak lv) (s.budgetQuantity i lv)) else s)

/-! ### Budgets (01 R21 to R24) -/

/-- BUDGET_STOP: a level whose scale has stood at 4/16 exceeded for 5000 ticks stops its PHASE axes (01 R21, R23). -/
def execBudgetStop (lv : Nat) (s : State) : Host.Outcome State Fault Refusal :=
  if !s.hasLevel lv then .fault .noSuchUnit
  else
    let b := s.budget lv
    if b.scale = 4 && decide (5000 ≤ b.hold) && !b.stopped then
      let s := (s.modBudget lv (fun b => { b with stopped := true })).record (stopEvt lv) (budgetSource lv) []
      .next s.causeStops
    else .next s

/-- STOREY_BREAKER: the segment breaker opens (01 R22, R24). -/
def execStoreyBreaker (u : Nat) (s : State) : Host.Outcome State Fault Refusal :=
  onUnit (u < s.nStoreys)
    (if (s.storey u).breakerOpen then s
    else
      let s := s.modStorey u (fun x => { x with breakerOpen := true, tripTick := s.stamp, trips := x.trips + 1 })
      ((s.treadsOff (fun t => storeyOfFlight (flightOfTread t) = u)).record Evt.storeyBreaker u []).causeStops)

/-! ### Supply (02 R57 to R67) -/

/-- PRECHARGE: the front end charges; the series switch closes within 5 V of BAT+, in the 50 ms after PRECHARGE mated (02 R66).
DESIGN CHOICE (log 25). -/
def execPrecharge (frontEnd battery : Rat) (s : State) : Host.Outcome State Fault Refusal :=
  let at' := s.supply.prechargeAt.getD s.sample
  let closes := !s.supply.prechargeFailed && decide (absR (battery - frontEnd) ≤ 5) && decide (s.sample < at' + 400)
  .next { s with
      supply := { s.supply with
      prechargeAt := some at', switchClosed := s.supply.switchClosed || closes } }

/-- PRECHARGE_TIMEOUT: the switch stays open until the supply is removed (02 R66). DESIGN CHOICE (log 25). -/
def execPrechargeTimeout (s : State) : Host.Outcome State Fault Refusal :=
  match s.supply.prechargeAt with
  | none => .next s
  | some t =>
    if !s.supply.switchClosed && decide (t + 400 ≤ s.sample) then
      .next { s with supply := { s.supply with prechargeFailed := true } }
    else .next s

/-- A supply trip makes the cycle under way unclean in every flight (07 R237). -/
def State.uncleanSupply (s : State) : State := s.forEach 12 (fun s f => s.modObs f (fun o => { o with unclean := o.unclean ||| 4 }))

/-- SUPPLY_UV: a sample strictly below UV_LEVEL trips undervoltage (02 R62, R63, R65). UV_MODE is taken as it stands at the trip.
DESIGN CHOICE (log 71). -/
def execSupplyUv (s : State) : Host.Outcome State Fault Refusal :=
  if s.supply.uv || s.supply.vin8.isEmpty || decide (s.parR Par.supplyUvLevel 0 0 ≤ s.vin) then .next s
  else
    let latch := s.parN Par.supplyUvMode 0 0 = 0 && !s.limpInCharge
    let s := { s with
        supply := { s.supply with
        uv := true, uvLatched := latch, uvRun := 0, uvCount := s.supply.uvCount + 1 } }
    .next ((s.uncleanSupply.treadsOff (fun _ => true)).record Evt.supplyUv noSource []).causeStops

/-- SUPPLY_UV_RESTART: the 800th consecutive sample at or above UV_LEVEL + UV_HYST (02 R63). While a limp-home path is in charge a latched
trip restarts too (02 R72). -/
def execSupplyUvRestart (s : State) : Host.Outcome State Fault Refusal :=
  if s.supply.uv && (!s.supply.uvLatched || s.limpInCharge) && decide (800 ≤ s.supply.uvRun) then
    let s := { s with supply := { s.supply with uv := false, uvLatched := false, uvRun := 0 } }
    .next (s.treadsBack.record Evt.supplyUvRestart noSource [])
  else .next s

/-- A write of SUPPLY.UV_CLEAR (02 R63). -/
def State.uvClear (s : State) (v : BitVec 32) : Nat × State :=
  if v ≠ 1 then (stRange, s)
  else if !s.supply.uvLatched || decide (s.vin < s.uvRestart) then (stState, s)
  else
    let s := { s with supply := { s.supply with uv := false, uvLatched := false, treadsFromTick := s.tick + 1 } }
    (stOK, s.record Evt.supplyUvRestart noSource [])

/-- SUPPLY_OV: the analog comparators turn every tread OFF (02 R64, R65). -/
def execSupplyOv (s : State) : Host.Outcome State Fault Refusal :=
  if s.supply.ov then .next s
  else
    let s := { s with supply := { s.supply with ov := true, ovRun := 0, ovCount := s.supply.ovCount + 1 } }
    .next ((s.uncleanSupply.treadsOff (fun _ => true)).record Evt.supplyOv noSource []).causeStops

/-- SUPPLY_OV_RELEASE: the 800th consecutive sample below the release value (02 R64). -/
def execSupplyOvRelease (s : State) : Host.Outcome State Fault Refusal :=
  if s.supply.ov && decide (800 ≤ s.supply.ovRun) then
    let s := { s with supply := { s.supply with ov := false, ovRun := 0 } }
    .next s.treadsBack
  else .next s

/-- SUPPLY_INTERRUPT: the supply is valid again and the switch closed; the record gives the milliseconds from the first invalid sample
to the first valid one (02 R59). -/
def execSupplyInterrupt (s : State) : Host.Outcome State Fault Refusal :=
  match s.supply.invalidSince with
  | none => .next s
  | some t =>
    if s.onHoldup then .next s
    else
      let s := { s with
          supply := { s.supply with
          invalidSince := none, interruptCount := s.supply.interruptCount + 1 } }
      .next (s.uncleanSupply.record Evt.supplyInterrupt noSource [toReal32 (((s.supply.validAt - t : Nat) : Rat) / 8)])

/-- GROUND_LOSS: BAT− is lost with BAT+ present, and every tread turns OFF (02 R58). -/
def execGroundLoss (s : State) : Host.Outcome State Fault Refusal :=
  let s := { s with supply := { s.supply with groundLost := true, groundLossSeen := true } }
  .next (s.treadsOff (fun _ => true))

/-- GROUND_RETURN: BAT− returns within the hold-up time (02 R58). The treads follow their commands again at once, and the axes have taken no
fault stop. DESIGN CHOICE (log 71). -/
def execGroundReturn (s : State) : Host.Outcome State Fault Refusal :=
  if !s.supply.groundLost then .next s
  else
    let s := { s with supply := { s.supply with groundLost := false } }
    .next (s.treadsBack.record Evt.groundLoss noSource [])

/-! ### Presence loops (02 R67 to R69) -/

/-- MODULE_PRESENCE_OPEN (02 R67). -/
def execModulePresenceOpen (s : State) : Host.Outcome State Fault Refusal :=
  if !s.supply.mpres then .next { s with supply := { s.supply with mpresRun := 0 } }
  else
    let s := { s with supply := { s.supply with mpres := false, mpresRun := 0 } }
    .next ((s.treadsOff (fun _ => true)).record Evt.modulePresenceOpen noSource []).causeStops

/-- MODULE_PRESENCE_CLOSED: qualified closed by the count of R69; treads are allowed from the next safety tick (02 R67). -/
def execModulePresenceClosed (s : State) : Host.Outcome State Fault Refusal :=
  if !s.supply.mpres && decide (4000 ≤ s.supply.mpresRun) then
    .next { s with supply := { s.supply with mpres := true, treadsFromTick := s.tick + 1 } }
  else .next s

/-- A flight with a tread, port or block in the active configuration (02 R69), once start-up has ended. DEDUCED (log 66). -/
def State.flightUsed (s : State) (f : Nat) : Bool :=
  s.hallB.mode != .boot && (s.hasAnyBlock f || (List.range 8).any (fun k => s.treadCfg (8 * f + k) ≠ 0) ||
    s.portFormat (2 * f) ≠ 0 || s.portFormat (2 * f + 1) ≠ 0)

/-- What the storey die does with a port when its supply goes with the presence loop (02 R68, 04 R134). -/
def State.portUnplugged (s : State) (p : Nat) : State :=
  ((s.setAux p false none).invalidateCount p).modPort p (fun x => { x with encOn := false, armed := 0 })

/-- FLIGHT_PRESENCE_OPEN (02 R68). -/
def execFlightPresenceOpen (f : Nat) (s : State) : Host.Outcome State Fault Refusal :=
  onUnit (f < s.nFlights)
    (if !(s.fpower f).presence then s.modFpower f (fun x => { x with presRun := 0 })
    else
      let u := s.modFpower f (fun x => { x with
          presence := false, opened := s.flightUsed f, unplugged := true, presRun := 0, feedOn := false })
      let u := u.treadsOff (fun t => flightOfTread t = f)
      let u := (u.portUnplugged (2 * f)).portUnplugged (2 * f + 1)
      (u.recordIf (u.flightUsed f) Evt.flightPresenceOpen f []).causeStopsFrom s)

/-- FLIGHT_PRESENCE_CLOSED: the 4000th sample at 10 Ω or less (02 R69, 04 R118, R123, R137, R147, 05 R176); the
flight's discrepancy latches clear (08 R265). -/
def execFlightPresenceClosed (f : Nat) (s : State) : Host.Outcome State Fault Refusal :=
  onUnit (f < s.nFlights)
    (if (s.fpower f).presence || decide ((s.fpower f).presRun < 4000) then s
    else
      let s := s.modFpower f (fun x => { x with presence := true, opened := false, feedOn := s.configLoaded })
      let back (s : State) (p : Nat) : State := s.modPort p (fun x => { x.restartReeds with encOn := s.encSupplyOn p })
      let s := (back (back s (2 * f)) (2 * f + 1)).restartEcho f
      let s := s.restartLines true (fun l => decide (l < 144) && flightOfLine l = f)
      let s := s.forEach 3 (fun s k => s.modAxis (3 * f + k) (fun x => { x with referenced := false }))
      let s := s.forEach 4 (fun s k => s.modPair (4 * f + k) (fun p => { p with latch := false }))
      s.recordIf (s.flightUsed f) Evt.flightPresenceClosed f [])

/-! ### Treads (03 R91 to R109) -/

/-- The calibrated current and the hotter junction, as the tread events carry them (03 R114). -/
def State.treadArgs (s : State) (t : Nat) : List (BitVec 32) :=
  [toReal32 ((s.tread t).i8.headD 0), toReal32 (maxR (s.tread t).tjHi (s.tread t).tjLo)]

/-- TREAD_ILIM: the 8th consecutive sample in limit (03 R93). -/
def execTreadIlim (t : Nat) (s : State) : Host.Outcome State Fault Refusal :=
  onUnit (t < s.nTreads)
    (if decide (8 ≤ (s.tread t).limitRun) && (s.tread t).ilimArmed then
      (s.modTread t (fun x => { x with ilimArmed := false })).record Evt.treadIlim t
        (toReal32 (s.effectiveLimit t) :: s.treadArgs t)
    else s)

/-- The peak allowance in A²·s (03 R92). -/
def peakAllowance : Rat := 378 / 10

/-- TREAD_PEAK_CLAMP: the allowance is spent (03 R92). -/
def execTreadPeakClamp (t : Nat) (s : State) : Host.Outcome State Fault Refusal :=
  onUnit (t < s.nTreads)
    (if decide (peakAllowance ≤ (s.tread t).e) && !(s.tread t).clamp then
      (s.modTread t (fun x => { x with clamp := true })).record Evt.treadPeakClamp t []
    else s)

/-- A trip of a running tread (03 R101, R103); under limp-home it stays OFF instead (02 R72). -/
def State.tripTread (s : State) (t : Nat) : State :=
  let x := s.tread t
  let used := match x.lastTrip with
    | some l => if l + 1000 * s.parN Par.treadRetryClear t 0 ≤ s.stamp then 0 else x.used
    | none => x.used
  if s.limpHolds t then
    s.modTread t (fun x => { x with lhTripped := true, lastTrip := some s.stamp, trips := x.trips + 1, used := used })
  else
    let spent := decide (s.parN Par.treadRetryMax t 0 ≤ used)
    let s := s.modTread t (fun x => { x with
        lastTrip := some s.stamp, trips := x.trips + 1, used := used, waitRearm := true, retryAt := none,
        latchedOff := x.latchedOff || spent })
    s.recordIf spent Evt.treadLatchedOff t (s.treadArgs t)

/-- TREAD_THERMAL: a switch reaches the shutdown threshold (03 R95). A latch set while OFF is no trip; a retry delay that runs then starts
afresh once the latch has re-armed (03 R102). -/
def execTreadThermal (m : ThermalIn) (s : State) : Host.Outcome State Fault Refusal :=
  let t := m.tread
  onUnit (t < s.nTreads)
    (if (s.tread t).therm || decide (m.tj < shutTemp) then s
    else
      let on := (s.tread t).mode != .off
      let s := (s.modTread t (fun x => { x.hardOff with
          therm := true, waitRearm := x.waitRearm || x.retryAt.isSome, retryAt := none })).record Evt.treadThermal t (s.treadArgs t)
      if on then (s.tripTread t).causeStops else s)

/-- TREAD_WIRE_TRIP: x is above Iw² in HIGH_SIDE or LOW_SIDE (03 R96). -/
def execTreadWireTrip (t : Nat) (s : State) : Host.Outcome State Fault Refusal :=
  onUnit (t < s.nTreads)
    (let x := s.tread t
    let iw := s.iwOf t
    if decide (iw ≠ 0) && decide (iw * iw < x.x) && (x.mode == .highSide || x.mode == .lowSide) && !x.wire then
      let s := (s.modTread t (fun x => { x.hardOff with wire := true })).record Evt.treadWireTrip t (s.treadArgs t)
      (s.tripTread t).causeStops
    else s)

/-- TREAD_REARM: the latches whose condition holds re-arm; with both clear the retry delay starts at the next 1 ms tick (03 R95, R96,
R101, R102). Under limp-home there are no retries (02 R72, 03 R106). -/
def execTreadRearm (t : Nat) (s : State) : Host.Outcome State Fault Refusal :=
  onUnit (t < s.nTreads)
    (let iw := s.iwOf t
    s.modTread t (fun x =>
      let therm := x.therm && !(decide (x.tjHi < rearmTemp) && decide (x.tjLo < rearmTemp))
      let wire := x.wire && !decide (x.x ≤ iw * iw / 2)
      let clear := (x.therm || x.wire) && !therm && !wire
      { x with
          therm := therm, wire := wire, waitRearm := x.waitRearm && !clear
          retryAt := if clear && x.waitRearm && !x.latchedOff && !s.limpHolds t then some (s.tick + 1 + s.parN Par.treadRetryDelay t 0)
            else x.retryAt }))

/-- TREAD_RETRY: the delay expires; the tread returns to its commanded mode (03 R101). -/
def execTreadRetry (t : Nat) (s : State) : Host.Outcome State Fault Refusal :=
  onUnit (t < s.nTreads)
    (match (s.tread t).retryAt with
    | none => s
    | some r =>
      if s.tick < r || (s.tread t).therm || (s.tread t).wire then s
      else
        let s := s.modTread t (fun x => { x with retryAt := none, used := x.used + 1 })
        let s := s.modTread t (fun x => s.refreshTread t x)
        s.record Evt.treadRetry t [word32 (s.tread t).used])

/-- RETRY_COUNT_RESET: RETRY_CLEAR seconds have passed since the last trip (03 R103). -/
def execRetryCountReset (t : Nat) (s : State) : Host.Outcome State Fault Refusal :=
  onUnit (t < s.nTreads)
    (match (s.tread t).lastTrip with
    | none => s
    | some l =>
      if l + 1000 * s.parN Par.treadRetryClear t 0 ≤ s.tick then s.modTread t (fun x => { x with used := 0 }) else s)

/-- TREAD_OPEN_LOAD: 800 consecutive samples below OL_THRESH (03 R99). -/
def execTreadOpenLoad (t : Nat) (s : State) : Host.Outcome State Fault Refusal :=
  onUnit (t < s.nTreads)
    (if decide (800 ≤ (s.tread t).openRun) && !(s.tread t).openLoad then
      (s.modTread t (fun x => { x with openLoad := true })).record Evt.treadOpenLoad t []
    else s)

/-- A write of TREAD.CLEAR (03 R104). -/
def State.treadClear (s : State) (t : Nat) (v : BitVec 32) : Nat × State :=
  let x := s.tread t
  if v ≠ 1 then (stRange, s)
  else if !x.latchedOff || x.therm || x.wire then (stState, s)
  else
    (stOK, (s.modTread t (fun x => { x with latchedOff := false, used := 0, offUntil := s.tick + 1 })).record Evt.treadCleared t [])

/-- A write of STOREY.RECLOSE (03 R108). -/
def State.reclose (s : State) (u : Nat) (v : BitVec 32) : Nat × State :=
  let x := s.storey u
  if v ≠ 1 then (stRange, s)
  else if !x.breakerOpen || s.stamp < x.tripTick + 1000 then (stState, s)
  else
    let s := s.modStorey u (fun x => { x with breakerOpen := false })
    let s := s.mapTreads (fun t x =>
        if storeyOfFlight (flightOfTread t) = u then { x with offUntil := s.tick + 1 } else x)
    (stOK, s.record Evt.storeyBreakerReclosed u [])

/-- The stop-clear commands of a storey with its die, of a flight, and of the module (03 R109, 06 R224, 12 R435). -/
def State.stopClear (s : State) (lvs : List Nat) (v : BitVec 32) : Nat × State :=
  if v ≠ 1 then (stRange, s) else s.clearStops lvs

/-! ### Limp-home (02 R70 to R73) -/

/-- LH_PIN_CHANGE: 16 consecutive samples in the new state (02 R70); a tripped limp-home tread is released by an activation after its
latches are clear and 1 s of inactivity (02 R72). Both storey dies see the same pins, whose debounced states outlast a loss of L_PD.
DESIGN CHOICE (log 71). -/
def execLhPinChange (p : Nat) (s : State) : Host.Outcome State Fault Refusal :=
  onUnit (p < 8)
    (let level := s.supply.lhLevel.getD p false
    if level = s.supply.lhPins.getD p false || s.supply.lhRun.getD p 0 < 16 then s
    else
      let u := s
      let s := { s with supply := { s.supply with lhPins := s.supply.lhPins.set p level } }
      let s := s.mapTreads (fun t x =>
          if !(s.lhNaming t false).contains p then x
          else if level then
            let idle := (u.lhNaming t true).isEmpty && (match x.lhIdleSince with | some i => decide (i + 1000 ≤ s.ms) | none => true)
            { x with lhTripped := x.lhTripped && !(!x.therm && !x.wire && idle), lhIdleSince := none }
          else if (s.lhNaming t true).isEmpty then { x with lhIdleSince := some s.stamp } else x)
      let s := s.mapLimp (fun _ l =>
          if l.inCharge && level then { l with pinsUsed := l.pinsUsed ||| BitVec.ofNat 8 (2 ^ p) } else l)
      s.lhDrive)

/-- A tread at the takeover: a retry that waits or runs is over, and one that was tripped before, or latched off, stays OFF as one that trips
under limp-home (02 R72, 03 R106); a latch that set while it was OFF is no trip (R95). DEDUCED (log 24). -/
def Tread.takenOver (x : Tread) : Tread :=
  { x with waitRearm := false, retryAt := none, lhTripped := x.lhTripped || x.waitRearm || x.retryAt.isSome || x.latchedOff }

/-- LIMP_HOME_TAKEOVER: armed, and both heartbeats absent for 20 ms (01 R30, 02 R72). Retries that wait or run are over (03 R106). -/
def execLimpHomeTakeover (d : Nat) (s : State) : Host.Outcome State Fault Refusal :=
  onUnit (d < s.nDies)
    (let l := s.limpOf d
    if !l.armed || l.inCharge || l.absent < 20 then s
    else
      let pins := BitVec.ofNat 8 ((List.range 8).foldl (fun n p => n + bitN (s.supply.lhPins.getD p false) p) 0)
      let s := s.modLimp d (fun l => { l with inCharge := true, startTick := s.stamp, pinsUsed := pins })
      (s.mapTreads (fun t x => if s.limpHolds t then x.takenOver else x)).lhDrive)

/-- A tread that limp-home drove or tripped, at the hand-back (02 R73, 03 R106); one that was latched off before stays so. -/
def State.handBack (s : State) (t : Nat) : State :=
  let x := s.tread t
  if !x.lhDriven && !x.lhTripped then s
  else
    let s := s.modTread t (fun y => { y with
        mode := .off, cmd := .off, lhDriven := false, lhTripped := false
        latchedOff := y.latchedOff || x.lhTripped
        used := if x.lhTripped then s.parN Par.treadRetryMax t 0 else y.used })
    s.recordIf (x.lhTripped && !x.latchedOff) Evt.treadLatchedOff t (s.treadArgs t)

/-- LIMP_HOME_HANDBACK: both heartbeats are present at the die and Hall B has entered STANDBY, so that it is in none of BOOT and SAFE_HOLD (02 R72,
R73). DEDUCED (log 24). -/
def execLimpHomeHandback (s : State) : Host.Outcome State Fault Refusal :=
  if !s.hallAUp || !s.hallBUp || s.hallB.mode == .boot || s.hallB.mode == .safeHold || !s.limpInCharge then .next s
  else
    let had (d : Nat) : Bool := (s.limpOf d).inCharge && (s.die d).missA = 0 && (s.die d).missB = 0
    if !(had 0 || had 1) then .next s
    else
      let l := if had 0 then s.limpOf 0 else s.limpOf 1
      let ms := s.stamp - l.startTick
      let s := s.forEach 96 (fun s t => if had (dieOfFlight (flightOfTread t)) then s.handBack t else s)
      let s := s.mapLimp (fun d l =>
          if had d then { l with inCharge := false, absent := 0, episodes := l.episodes + 1, lastMs := word32 ms } else l)
      .next (s.refreshTreads.record Evt.limpHomeEpisode noSource [word32 l.pinsUsed.toNat, word32 ms])

/-! ### The rail of a storey die (02 R75, 03 R98, R106, 04 R134, 05 R165) -/

/-! ### The portions of the factory calibration (01 R33). DESIGN CHOICE (log 99). -/

/-- The portion of Hall A: the front end, and the receivers that it reads. -/
def hallAPortion (cal : List (Nat × BitVec 32)) : List (Nat × BitVec 32) :=
  cal.filter (fun e => pidIdx e.1 = Par.calFactoryVinGain.idx || pidIdx e.1 = Par.calFactoryVinOffset.idx ||
    decide (Par.calFactorySenseGainP.idx ≤ pidIdx e.1) && decide (pidIdx e.1 < Par.calFactorySenseOffsetP.idx + 160))

/-- The portion of a storey die: the gain and the offset of the current sense of its treads. -/
def diePortion (d : Nat) (cal : List (Nat × BitVec 32)) : List (Nat × BitVec 32) :=
  let mine (k : Nat) : Bool := decide (k < 96) && dieOfFlight (flightOfTread k) = d
  cal.filter (fun e =>
    decide (Par.calFactoryTreadGain.idx ≤ pidIdx e.1) && mine (pidIdx e.1 - Par.calFactoryTreadGain.idx) ||
      decide (Par.calFactoryTreadOffset.idx ≤ pidIdx e.1) && mine (pidIdx e.1 - Par.calFactoryTreadOffset.idx))

/-- The factory sector matches the digest in HB OTP; Hall A's portion matches its copy in HA OTP; the trims of the storey dies read back
equal to the sector. -/
def State.sectorOk (s : State) : Bool := s.sec.calFactory = s.sec.calOtp
def State.portionOk (s : State) : Bool := s.sec.calA = s.sec.calOtpA
def State.trimsOk (s : State) : Bool := (List.range s.nDies).all (fun d => decide ((s.die d).trims = diePortion d s.sec.calFactory))

/-! ### The rail of a storey die (02 R75) -/

/-- Everything that a storey die holds is lost with its rail: the treads are OFF, the counters 0 and invalid, the receivers not valid, the
limp-home map and the trims gone. -/
def State.clearDie (s : State) (d : Nat) : State :=
  let mine (f : Nat) : Bool := dieOfFlight f = d
  let u := { s with
      treads := s.treads.mapIdx (fun t x => if mine (flightOfTread t) then Tread.reset else x)
      ports := s.ports.mapIdx (fun p x => if mine (flightOfPort p) then { Port.reset with countB := 0 } else x)
      senses := s.senses.mapIdx (fun l (x : Sense) =>
        if l < 144 && mine (flightOfLine l) then { x with p := { x.p with valid := false, run := 0 }, q := { x.q with valid := false, run := 0 } }
        else x)
      limp := s.limp.set d .reset, dies := s.dies.modify d (fun x => { x with trims := [] }) }
  u.forEach 24 (fun s p => if mine (flightOfPort p) then s.invalidateCount p else s)

/-- The rail of a storey die comes up: wire models half warm, receivers restarted, axes IDLE. -/
def State.raiseDie (s : State) (d : Nat) : State :=
  let mine (f : Nat) : Bool := dieOfFlight f = d
  let s := s.modDie d (fun x => { x with railUp := true, pllLocked := true })
  let s := s.mapTreads (fun t x => if mine (flightOfTread t) then { x with x := s.iwOf t * s.iwOf t / 2 } else x)
  let s := s.mapSenses (fun l x => if l < 144 && mine (flightOfLine l) then { Sense.reset with changes := x.changes } else x)
  let s := s.restartLines true (fun l => decide (l < 144) && mine (flightOfLine l))
  let s := s.mapPorts (fun p x => if mine (flightOfPort p) then { Port.reset with encOn := s.encSupplyOn p } else x)
  s.axesIdle (fun a => mine (flightOfAxis a))

end Sys2Proof.Machine
end

