-- ==== Sys2Proof/Machine/TrainNet.lean ====
section
/-! DEFINITION. Safe connections as commands, TRDP process data, the Ethernet switch and the module's own interface (09). -/

namespace Sys2Proof.Machine

/-! ### Safe connections (09 R306 to R310) -/

/-- The UDP port of TRDP process data (09 R317). -/
def pdPort : Nat := 17224

/-- The IEEE 802.3 CRC of a telegram's header. PRESUMED (log 92). -/
def headFcs (bs : Bytes) : Nat := (~~~ (bs.foldl (crcByteR 0xEDB88320) (0xFFFFFFFF : BitVec 32))).toNat

/-- A PD telegram: its header of 40 bytes, 'Pd', protocol version 0x0100, both topography counters 0, and its dataset (09 R319). PRESUMED
(log 92). -/
def pdBytes (comId seq : BitVec 32) (data : Bytes) : Bytes :=
  let head := beBytes 4 seq.toNat ++ beBytes 2 0x0100 ++ beBytes 2 0x5064 ++ beBytes 4 comId.toNat ++ beBytes 4 0 ++ beBytes 4 0 ++
    beBytes 4 data.length ++ beBytes 4 0 ++ beBytes 4 0 ++ beBytes 4 0
  head ++ leBytes 4 (headFcs head) ++ data

/-- Send a TRDP telegram; nothing leaves while Hall A is down or without an address (09 R318, 12 R434). -/
def State.sendPd (s : State) (comId dest seq : BitVec 32) (data : Bytes) : State :=
  if s.hallAUp && s.parN Par.hostlinkIp 0 0 ≠ 0 then s.sendUdp dest pdPort pdPort (s.parN Par.trdpPdDscp 0 0) (pdBytes comId seq data) else s

/-- What a received telegram says of itself (09 R319). -/
def pdComId (r : PdIn) : Word := word32 (beNat ((r.bytes.drop 8).take 4))
def pdData (r : PdIn) : Bytes := (r.bytes.drop 40).take (beNat ((r.bytes.drop 20).take 4))
def pdMulticast (r : PdIn) : Bool := groupIp r.destIp

/-- A telegram of the kind that the module takes: a header of protocol version 0x0100 with its FCS right, msgType 'Pd', the dataset whole; its
counters are what they are (09 R319). PRESUMED (log 92). -/
def pdGood (r : PdIn) : Bool :=
  decide (40 + beNat ((r.bytes.drop 20).take 4) ≤ r.bytes.length) && beNat ((r.bytes.drop 4).take 2) = 0x0100 &&
    beNat ((r.bytes.drop 6).take 2) = 0x5064 && leNat ((r.bytes.drop 36).take 4) = headFcs (r.bytes.take 36)

/-- A frame is due for sending: every CONN_PERIOD from the first STANDBY, while Hall B evaluates (08 R261, 09 R306). -/
def State.vsfDue (s : State) (c : Nat) : Bool :=
  let x := s.conn c
  s.hallBUp && s.hallB.mode != .boot && s.firstStandby && x.st != .disabled && !s.onRing c &&
    (s.tick - s.safety.standbyTick) % s.parN Par.safelinkConnPeriod 0 c = 0 &&
    (match x.sent with | (_, t) :: _ => t ≠ s.tick | [] => true)

/-- VSF_SEND: an enabled TRDP connection sends its frame (09 R306, R322). -/
def execVsfSend (c : Nat) (s : State) : Host.Outcome State Fault Refusal :=
  onUnit (c < 8)
    (if !s.vsfDue c then s
    else
      let (bs, s) := s.buildVsf c
      let s := s.send (.vsf c bs)
      let n := s.train.connTxSeq.getD c 0
      let s := s.sendPd (s.par Par.safelinkConnTxComid 0 c) (s.par Par.safelinkConnDestIp 0 c) n bs
      { s with train := { s.train with connTxSeq := s.train.connTxSeq.set c (n + 1) } })

/-- The carrier of a connection delivers: TRDP needs Hall A (09 R318). -/
def State.carries (s : State) (c : Nat) : Bool := s.onRing c || s.hallAUp

/-- VSF_FRAME_RECEIVE: a frame reaches SLE over its carrier, and is judged at the next safety tick (09 R308, R318). -/
def execVsfFrameReceive (r : VsfIn) (s : State) : Host.Outcome State Fault Refusal :=
  onUnit (r.conn < 8) (if s.carries r.conn then s.vsfArrive r.conn r.bytes else s)

/-- SAFELINK_SILENCE_TIMEOUT: no frame accepted for 2 × T_exp in OPEN; without its carrier a connection keeps its state (09 R309, R318). The
silence goes on while Hall A is down. DESIGN CHOICE (log 98). -/
def execSafelinkSilenceTimeout (c : Nat) (s : State) : Host.Outcome State Fault Refusal :=
  onUnit (c < 8)
    (let x := s.conn c
    if s.hallBUp && s.carries c && x.st == .open' && decide (x.acceptTick + 2 * s.tExp c ≤ s.tick) then (s.vsfRestart c 1).refreshValid else s)

/-- SAFELINK_EXPIRED: the first tick of an episode of invalidity, with the round-trip age of the last accepted frame (09 R310, R326). -/
def execSafelinkExpired (c : Nat) (s : State) : Host.Outcome State Fault Refusal :=
  onUnit (c < 8)
    (let x := s.conn c
    if s.hallBUp && x.wasValid && !s.vsfValid c then
      (s.modConn c (fun x => { x with wasValid := false, valid := false })).record Evt.safelinkExpired c
        [word32 x.age]
    else s)

/-! ### TRDP (09 R316, R319 to R322) -/

/-- Broadcast and multicast toward LE: 2000 frames in each second, the excess dropped and counted (09 R316). -/
def State.stormTake (s : State) : Bool × State :=
  let n := if s.train.stormTick + 1000 ≤ s.stamp then 0 else s.train.stormCount
  let t := if s.train.stormTick + 1000 ≤ s.stamp then s.stamp else s.train.stormTick
  if n < 2000 then (true, { s with train := { s.train with stormTick := t, stormCount := n + 1 } })
  else
    let s := { s with train := { s.train with stormDrops := s.train.stormDrops + 1 } }
    (false, s.recordLimited Evt.netStorm noSource [s.train.stormDrops] 10000)

def State.modSub (s : State) (n : Nat) (f : TrdpSub → TrdpSub) : State :=
  { s with train := { s.train with subs := s.train.subs.modify n f } }

def State.sub (s : State) (n : Nat) : TrdpSub := s.train.subs.getD n .reset

/-- The destination of a telegram is the module or a group it has joined (09 R321). -/
def State.reaches (s : State) (dest : BitVec 32) : Bool :=
  dest = s.par Par.hostlinkIp 0 0 ||
    (List.range 32).any (fun n =>
      s.par Par.trdpSubComid 0 n ≠ 0 && s.par Par.trdpSubGroupIp 0 n ≠ 0 && s.par Par.trdpSubGroupIp 0 n = dest)

/-- A subscription takes a telegram (09 R321). -/
def State.subTakes (s : State) (n : Nat) (r : PdIn) : Bool :=
  let src := s.par Par.trdpSubSrcIp 0 n
  pdComId r ≠ 0 && s.par Par.trdpSubComid 0 n = pdComId r && (src = 0 || src = r.srcIp)

/-- A safe connection takes a telegram (09 R322). -/
def State.connTakes (s : State) (c : Nat) (r : PdIn) : Bool :=
  let src := s.par Par.safelinkConnSrcIp 0 c
  s.parN Par.safelinkConnEn 0 c = 1 && !s.onRing c && s.par Par.safelinkConnRxComid 0 c = pdComId r && (src = 0 || src = r.srcIp)

/-- A subscribed telegram is kept for the next freeze, and sets its bit again (09 R321). -/
def State.keepPd (s : State) (n : Nat) (r : PdIn) : State :=
  if (pdData r).length ≠ s.parN Par.trdpSubLen 0 n then
    { s with train := { s.train with rxDiscards := s.train.rxDiscards + 1 } }
  else
    let resumed := (s.sub n).timedOut
    let s := s.modSub n (fun _ => { data := pdData r, fresh := true, rxTick := s.stamp, everRx := true, timedOut := false })
    s.recordIf resumed Evt.trdpSubResumed n []

/-- LE takes a telegram: every safe connection that subscribes it has it, else the subscription (09 R319, R321, R322). -/
def State.takePd (s : State) (r : PdIn) : State :=
  if !s.reaches r.destIp then s
  else if !(pdGood r) then { s with train := { s.train with rxDiscards := s.train.rxDiscards + 1 } }
  else
    let conns := (List.range 8).filter (fun c => s.connTakes c r)
    if !conns.isEmpty then conns.foldl (fun s c => s.vsfArrive c (pdData r)) s
    else match (List.range 32).find? (fun n => s.subTakes n r) with
      | some n => s.keepPd n r
      | none => s

/-- TRDP_PD_RECEIVE: a telegram that reaches LE, within the limit on group frames (09 R316, R319, R321, R322). A frame is one command: one
given as SWITCH_FRAME_FORWARD is taken there. DESIGN CHOICE (log 95). -/
def execTrdpPdReceive (r : PdIn) (s : State) : Host.Outcome State Fault Refusal :=
  if !s.hallAUp || s.parN Par.hostlinkIp 0 0 = 0 then .next s
  else
    let (pass, s) := if pdMulticast r then s.stormTake else (true, s)
    .next (if pass then s.takePd r else s)

/-- TRDP_SUB_TIMEOUT: at a freeze, no telegram for SUB_TIMEOUT; the dataset is zeroed or held (09 R321). -/
def execTrdpSubTimeout (n : Nat) (s : State) : Host.Outcome State Fault Refusal :=
  onUnit (n < 32)
    (let x := s.sub n
    if s.hallAUp && x.fresh && s.atCycleStart && decide (x.rxTick + s.parN Par.trdpSubTimeout 0 n ≤ s.tick) then
      let zero := s.parN Par.trdpSubToBehav 0 n = 0
      let lapsed (x : TrdpSub) : TrdpSub := { x with
          fresh := false, timedOut := true, data := if zero then List.replicate x.data.length 0 else x.data }
      let s := s.modSub n lapsed
      let s := { s with prog := { s.prog with before := { s.prog.before with subs := s.prog.before.subs.modify n lapsed } } }
      s.record Evt.trdpSubTimeout n []
    else s)

/-- The published telegrams that fall on a program cycle start (09 R320). -/
def State.publish (s : State) : State :=
  s.forEach 32 (fun s n =>
    let id := s.par Par.trdpPubComid 0 n
    let cyc := s.parN Par.trdpPubCycle 0 n
    if id = 0 || cyc = 0 || (s.tick + s.clock.base) % cyc ≠ 0 then s
    else
      let data := Memory.readBytes s.prog.tx (s.parN Par.trdpPubOffset 0 n) (s.parN Par.trdpPubLen 0 n)
      let k := s.train.pubSeq.getD n 0
      let s := s.sendPd id (s.par Par.trdpPubDestIp 0 n) k data
      { s with train := { s.train with pubSeq := s.train.pubSeq.set n (k + 1) } })

/-- The subscribed telegrams are copied into the input image at a freeze, as last received before its tick (09 R321, 10 R329). -/
def State.freezeSubs (s : State) : State :=
  s.forEach 32 (fun s n =>
    let x := s.asBefore.sub n
    if s.par Par.trdpSubComid 0 n = 0 || !x.everRx then s
    else { s with prog := { s.prog with inp := Memory.writeBytes s.prog.inp (s.parN Par.trdpSubOffset 0 n) x.data } })

/-! ### The switch (09 R315, R316) -/

/-- The switch forwards while the L_HA rail is inside its window, whatever Hall A does (02 R74). DESIGN CHOICE (log 43). -/
def State.switchPowered (s : State) : Bool := s.railsUp .a

/-- Learn a source address: at most 256 entries, those past the ageing time first to go. DESIGN CHOICE (log 43). -/
def State.learnMac (s : State) (mac port : Nat) : State :=
  if groupAddress mac then s
  else
    let kept := s.train.table.filter (fun e => e.mac.toNat ≠ mac && decide (s.tick < e.tick + 300000))
    if 256 ≤ kept.length then { s with train := { s.train with table := kept } }
    else { s with train := { s.train with table := ⟨BitVec.ofNat 48 mac, port, s.stamp⟩ :: kept } }

/-- The fragments of a datagram, one more: at most four, none twice (12 R413). -/
def Datagram.add (d : Datagram) (ofs : Nat) (last : Bool) (data : Bytes) : Datagram :=
  { d with
      parts := d.parts.filter (fun e => e.1 ≠ ofs) ++ [(ofs, data)]
      total := if last then some (ofs + data.length) else d.total }

/-- A datagram has arrived whole. -/
def Datagram.complete (d : Datagram) : Bool := d.total = some ((d.parts.map (fun e => e.2.length)).sum)

/-- LE reassembles the IPv4 fragments of a request to the module's address: a datagram of more than four fragments is discarded, a whole
one leaves as the packet it is, which is a command of its own (12 R413). -/
def State.takeFragment (s : State) (frame : Bytes) : State :=
  let ipv4 := frame.drop 14
  let hl := 4 * (beNat (ipv4.take 1) % 16)
  let word := beNat ((ipv4.drop 6).take 2)
  let more := word / 0x2000 % 2 = 1
  let ofs := 8 * (word % 0x2000)
  let mine := beNat ((frame.drop 12).take 2) = 0x800 && beNat (ipv4.take 1) / 16 = 4 && ipv4.getD 9 0 = 17 &&
    decide (s.parN Par.hostlinkIp 0 0 ≠ 0) && beNat ((ipv4.drop 16).take 4) = s.parN Par.hostlinkIp 0 0
  if !mine || (!more && ofs = 0) then s
  else
    let src := BitVec.ofNat 48 (65536 * beNat ((ipv4.drop 12).take 4))
    let ident := BitVec.ofNat 16 (beNat ((ipv4.drop 4).take 2))
    let data := (ipv4.take (beNat ((ipv4.drop 2).take 2))).drop hl
    let old := (s.host.frags.find? (fun d => d.src = src && d.ident = ident)).getD ⟨src, ident, s.stamp, [], none⟩
    let d := old.add ofs (!more) data
    let rest := s.host.frags.filter (fun d => !(d.src = src && d.ident = ident))
    { s with
        host := { s.host with frags := if d.complete || decide (4 < d.parts.length) then rest else d :: rest } }

/-! ### ARP, ICMP and IGMP (09 R317) -/

/-- The reply to an ARP request for the module's address (RFC 826). -/
def State.arpReply (s : State) (frame : Bytes) : Option Bytes :=
  let arp := frame.drop 14
  let ip := beBytes 4 (s.parN Par.hostlinkIp 0 0)
  if beNat (arp.take 2) = 1 && beNat ((arp.drop 2).take 2) = 0x800 && beNat ((arp.drop 6).take 2) = 1 && (arp.drop 24).take 4 = ip then
    let sender := (arp.drop 8).take 6
    some (sender ++ macBytes ++ beBytes 2 0x806 ++ arp.take 6 ++ beBytes 2 2 ++ macBytes ++ ip ++ (arp.drop 8).take 10)
  else none

/-- The reply to an ICMP echo request to the module's address (RFC 792). -/
def State.echoReply (s : State) (frame : Bytes) : Option Bytes :=
  let ipv4 := frame.drop 14
  let hl := 4 * (beNat (ipv4.take 1) % 16)
  let len := beNat ((ipv4.drop 2).take 2)
  let icmp := (ipv4.take len).drop hl
  let ip := beBytes 4 (s.parN Par.hostlinkIp 0 0)
  if beNat (ipv4.take 1) / 16 = 4 && 20 ≤ hl && ipv4.getD 9 0 = 1 && (ipv4.drop 16).take 4 = ip && icmp.getD 0 0 = 8 &&
      icmp.getD 1 0 = 0 && onesSum icmp = 65535 then
    let head := ipv4.take 10
    let rest := ip ++ (ipv4.drop 12).take 4 ++ (ipv4.take hl).drop 20
    let body := icmp.drop 4
    some ((frame.drop 6).take 6 ++ macBytes ++ beBytes 2 0x800 ++ head ++ inetChecksum (head ++ [0, 0] ++ rest) ++ rest ++ [0, 0] ++
      inetChecksum ([0, 0, 0, 0] ++ body) ++ body)
  else none

/-- LE answers an ARP request or an ICMP echo request; any other frame has no answer. -/
def State.answerFrame (s : State) (frame : Bytes) : State :=
  let kind := beNat ((frame.drop 12).take 2)
  match if kind = 0x806 then s.arpReply frame else if kind = 0x800 then s.echoReply frame else none with
  | some bs => s.sendFrame bs
  | none => s

/-- ARP_ICMP_REQUEST: the module answers ARP and ICMP echo, within the limit on group frames (09 R316, R317). DESIGN CHOICE (log 95). -/
def execArpIcmpRequest (frame : Bytes) (s : State) : Host.Outcome State Fault Refusal :=
  if !s.hallAUp || s.parN Par.hostlinkIp 0 0 = 0 then .next s
  else
    let (pass, s) := if groupAddress (beNat (frame.take 6)) then s.stormTake else (true, s)
    .next (if pass then s.answerFrame frame else s)

/-- An IGMPv2 membership report for a group, with the router alert option and a TTL of 1. PRESUMED (log 92). -/
def State.joinReport (s : State) (g : BitVec 32) : State :=
  let body := beBytes 4 g.toNat
  s.sendFrame (s.ipFrame 0 (Config.ipIdent s.outs.length).toNat 0 1 2 g [0x94, 4, 0, 0]
    ([0x16, 0] ++ inetChecksum ([0x16, 0, 0, 0] ++ body) ++ body))

/-- The IGMPv2 membership reports for the groups joined, or for one of them; 0 is all (09 R317, R321). -/
def State.reportGroups (s : State) (which : BitVec 32) : State :=
  if s.parN Par.hostlinkIp 0 0 = 0 then s
  else s.forEach 32 (fun s n =>
    let g := s.par Par.trdpSubGroupIp 0 n
    if s.par Par.trdpSubComid 0 n = 0 || g = 0 || (which ≠ 0 && which ≠ g) then s else s.joinReport g)

/-- The groups are joined. -/
def State.joinGroups (s : State) : State := s.reportGroups 0

/-! ### What LE takes of a frame (09 R317) -/

/-- LE takes a frame: ARP, ICMP echo, an IGMP query, process data on its port. A packet on the host port is a command of its own; any other
datagram is discarded (09 R317). -/
def State.leTake (s : State) (frame : Bytes) : State :=
  let ipv4 := frame.drop 14
  let hl := 4 * (beNat (ipv4.take 1) % 16)
  let body := (ipv4.take (beNat ((ipv4.drop 2).take 2))).drop hl
  let whole := beNat ((ipv4.drop 6).take 2) % 0x4000 = 0
  let s := s.takeFragment frame
  if s.parN Par.hostlinkIp 0 0 = 0 then s
  else if beNat ((frame.drop 12).take 2) = 0x800 && beNat (ipv4.take 1) / 16 = 4 && whole && ipv4.getD 9 0 = 17 then
    if beNat ((body.drop 2).take 2) = pdPort then
      s.takePd ⟨word32 (beNat ((ipv4.drop 12).take 4)), word32 (beNat ((ipv4.drop 16).take 4)), body.drop 8⟩
    else s
  else if beNat ((frame.drop 12).take 2) = 0x800 && ipv4.getD 9 0 = 2 && body.getD 0 0 = 0x11 then
    s.reportGroups (word32 (beNat ((body.drop 4).take 4)))
  else s.answerFrame frame

/-- A frame toward LE: lost while Hall A is down; broadcast and multicast are limited. -/
def State.frameToLe (s : State) (group : Bool) (bs : Bytes) : State :=
  if !s.hallAUp then s
  else
    let (pass, s) := if group then s.stormTake else (true, s)
    if pass then (s.send (.eth 2 (frameQueue bs) bs)).leTake bs else s

/-- SWITCH_FRAME_FORWARD: a frame received on N1 (0) or N2 (1) (09 R315). DESIGN CHOICE (log 14). -/
def execSwitchFrameForward (p : Nat) (frame : Bytes) (s : State) : Host.Outcome State Fault Refusal :=
  onUnit (p < 2)
    (if !s.switchPowered || decide (1522 < frame.length) || decide (frame.length < 14) then s
    else
      let dst := beNat (frame.take 6)
      let src := beNat ((frame.drop 6).take 6)
      let s := s.learnMac src p
      let s := { s with train := { s.train with traffic := s.train.traffic.set p true } }
      let group := groupAddress dst
      let out := s.send (.eth (1 - p) (frameQueue frame) frame)
      if group then out.frameToLe true frame
      else if dst = Config.macAddr.toNat then s.frameToLe false frame
      else match s.learned dst with
        | some q => if q = p then s else out
        | none => out.frameToLe false frame)

end Sys2Proof.Machine
end

