-- ==== Sys2Proof/Machine/ParamRead.lean ====
section
/-! DEFINITION. Reading parameters (12 R425): which exist on the variant, which hall owns them, and the value of each. Status and
measurement parameters are computed from the units; every other reads from the parameter store. -/

namespace Sys2Proof.Machine

def real (q : Rat) : BitVec 32 := toReal32 q

/-- A share in percent. -/
def share (part whole : Rat) : BitVec 32 := if whole = 0 then 0 else real (100 * part / whole)

def scaleOf (b : Budget) : BitVec 32 := real ((b.scale : Rat) / 16)

/-- Element `k` of a digest as a little-endian word. -/
def digestWord (d : Bytes) (k : Nat) : BitVec 32 := word32 (fieldAt d (4 * k) 4)

/-! ### Existence (12 R425, 00 R6, R7) -/

/-- An instance fitted on the variant. -/
def State.hasInst (s : State) (cls i : Nat) : Bool :=
  match cls with
  | 0x10 => decide (i < s.nTreads)
  | 0x11 | 0x28 => decide (i < s.nFlights)
  | 0x12 => decide (i < s.nStoreys)
  | 0x18 => s.hasLine i
  | 0x20 => decide (i < s.nPorts)
  | 0x21 => decide (i < s.nAxes)
  | 0x50 => s.hasRing
  | _ => true

/-- Element `j` of a row stands for a unit fitted on the variant (00 R7). -/
def State.hasElem (s : State) (r : ParRow) (j : Nat) : Bool :=
  if r = Par.safetyFlightSide || r = Par.safetyMonDir || r = Par.galleryFlightCycles then decide (j < s.nFlights)
  else if r = Par.supplyLhSet then s.ds9600 || j % 3 ≠ 2
  else if r.cls = 0x60 || r.cls = 0x61 then
    if r.len = 96 then decide (j < s.nTreads) else if r.len = 160 then s.hasLine j else true
  else if r = Par.identDieRev then s.ds9600 || j ≠ 1
  else true

/-- The row, instance and element of a PID, or the status of R425. DEDUCED (log 57). -/
def State.resolvePid (s : State) (pid : Nat) : Nat ⊕ (ParRow × Nat × Nat) :=
  match rowOfPid pid with
  | none => .inl stBadParam
  | some r =>
    let i := pidInst pid
    let j := pidIdx pid - r.idx
    if max 1 (classInstances r.cls) ≤ i then .inl stBadParam
    else if !s.hasInst r.cls i || !s.hasElem r j then .inl stNotPresent
    else .inr (r, i, j)

/-- Owned by Hall B: its own classes, and what only its receivers measure (12 R426, 01 R27). DEDUCED (log 57). -/
def ParRow.ofHallB (r : ParRow) : Bool :=
  [0x38, 0x39, 0x40, 0x58, 0x60, 0x61].contains r.cls || r = Par.senseValueB || r = Par.portCountB

/-! ### Values by class -/

def TMode.code : TMode → Nat
  | .off => 0
  | .phase => 1
  | .highSide => 2
  | .lowSide => 3
  | .brake => 4

/-- TREAD (03 R110). DESIGN CHOICE (log 15). -/
def State.viewTread (s : State) (t idx : Nat) : Option (BitVec 32) :=
  let x := s.tread t
  match idx with
  | 0x02 => some (word32 x.mode.code)
  | 0x03 => some (s.treadStatus t)
  | 0x04 => some (real (meanR x.i8))
  | 0x05 => some (real (maxR x.tjHi x.tjLo))
  | 0x06 => some (share x.e peakAllowance)
  | 0x07 =>
    let iw := s.iwOf t
    some (if iw ≠ 0 then share x.x (iw * iw) else if x.x = 0 then 0x42480000 else Config.offShare x.x)
  | 0x08 => some (real (meanR x.dt64))
  | 0x09 => some (real (meanR x.dvdt64))
  | 0x0A => some x.hardSw
  | 0x21 => some (real (s.iwOf t))
  | 0x33 => some (word32 x.used)
  | 0x40 => some x.trips
  | 0x41 => some (word32 (satN 32 (x.limitSamples / 8)))
  | _ => none

/-- STOREY (03 R112). -/
def State.viewStorey (s : State) (u idx : Nat) : Option (BitVec 32) :=
  let d := dieOfStorey u
  match idx with
  | 0x01 => some (real (meanR (s.storey u).i8))
  | 0x02 => some (real (s.budget (12 + u)).mean)
  | 0x03 => some (scaleOf (s.budget (12 + u)))
  | 0x04 => some (s.storeyStatus u)
  | 0x05 => some (s.storey u).trips
  | 0x10 => some (real (s.die d).dissip)
  | 0x11 => some (real (s.budget (16 + d)).mean)
  | 0x12 => some (scaleOf (s.budget (16 + d)))
  | 0x13 => some (real (s.die d).temp)
  | _ => none

def StepState.code : StepState → Nat
  | .inactive => 0
  | .retracted => 1
  | .extending => 2
  | .extended => 3
  | .retracting => 4
  | .referencing => 5
  | .fault => 6
  | .stopped => 7

def LockState.code : LockState → Nat
  | .inactive => 0
  | .locked => 1
  | .releasing => 2
  | .released => 3
  | .engaging => 4
  | .fault => 5

def RefState.code : RefState → Nat
  | .idle => 0
  | .step => 1
  | .leafSearch => 2
  | .leafIndex => 3
  | .leafFinal => 4
  | .done => 5
  | .aborted => 6

/-- FLIGHT (06 R224). -/
def State.viewFlight (s : State) (f idx : Nat) : Option (BitVec 32) :=
  let d := s.door f
  let x := s.fpower f
  match idx with
  | 0x01 => some (word32 d.st.code)
  | 0x02 => some (s.flightStatus f)
  | 0x03 => some (word32 d.faultCause)
  | 0x04 => some (word32 (s.isoBits f))
  | 0x05 => some (word32 d.stepSt.code)
  | 0x06 => some (word32 d.lockSt.code)
  | 0x07 => some (word32 d.ref.st.code)
  | 0x08 => some d.lastCmd
  | 0x09 => some d.latchLost
  | 0x0A => some (word32 d.attempt)
  | 0x0B => some d.cycles
  | 0x60 => some (real (meanR x.i8))
  | 0x61 => some (real (s.budget f).mean)
  | 0x62 => some (scaleOf (s.budget f))
  | 0x64 => some (if x.presence then 2 else if x.presRun ≠ 0 then 1 else 0)
  | _ => none

/-- SENSE (04 R148). -/
def State.viewSense (s : State) (l idx : Nat) : Option (BitVec 32) :=
  let x := s.sense l
  match idx with
  | 0x01 => some (word32 (bitN (s.active l) 0))
  | 0x02 => some (s.senseStatus l)
  | 0x03 => some (real (s.shownValue l))
  | 0x04 => some (real x.q.v)
  | 0x05 => some (real (s.teffOf l x.p))
  | 0x06 => some (real x.p.von)
  | 0x07 => some (real x.p.voff)
  | 0x08 => some x.changes
  | _ => none

def bits64 (b : BitVec 64) (w : Nat) : BitVec 32 := word32 (b.toNat / 2 ^ (32 * w))

/-- PORT (04 R150). -/
def State.viewPort (s : State) (p idx : Nat) : Option (BitVec 32) :=
  let x := s.port p
  match idx with
  | 0x01 => some x.count
  | 0x02 => some x.wraps
  | 0x03 => some x.wrapsLatched
  | 0x04 => some (real x.speed)
  | 0x05 => some (word32 x.dir)
  | 0x06 => some (s.portStatus p)
  | 0x07 => some x.countB
  | 0x08 => some x.indexErr
  | 0x09 => some x.quadErrors
  | 0x0A => some x.ssiExtra
  | 0x0B => some (word32 (bitN (x.reedA.valid && x.reedA.deb) 0 + bitN (x.reedB.valid && x.reedB.deb) 1
      + bitN x.reedA.valid 2 + bitN x.reedB.valid 3))
  | 0x40 => some (bits64 x.hit 0)
  | 0x41 => some (bits64 x.hit 1)
  | 0x44 => some (bits64 x.stale 0)
  | 0x45 => some (bits64 x.stale 1)
  | 0x46 => some (bits64 x.late 0)
  | 0x47 => some (bits64 x.late 1)
  | _ =>
    if idx < 0x140 || 0x180 ≤ idx then none
    else
      let v := s.par Par.portCmpCfg p (idx - 0x140) &&& 0x7FFFFFFF
      some (if x.armed.toNat.testBit (idx - 0x140) then v ||| 0x80000000 else v)

def AxState.code : AxState → Nat
  | .disabled => 0
  | .idle => 1
  | .aligning => 2
  | .hold => 3
  | .moving => 4
  | .stopping => 5
  | .faultStop => 6

/-- AXIS (05 R189). The integer part of POS_CMD is its floor. DESIGN CHOICE (log 31). -/
def State.viewAxis (s : State) (a idx : Nat) : Option (BitVec 32) :=
  let x := s.axis a
  match idx with
  | 0x01 => some (word32 x.st.code)
  | 0x02 => some (s.axisStatus a)
  | 0x03 => some (wordZ x.pos)
  | 0x04 => some (wordZ x.posCmd.floor)
  | 0x05 => some (real x.velF)
  | 0x06 => some (real x.vel)
  | 0x07 => some (wordZ (x.posCmd.floor - x.pos))
  | 0x08 => some (real x.iq)
  | 0x09 => some (real x.id)
  | 0x0A => some (word32 x.queue.length)
  | 0x0B => some (word32 x.faultCause)
  | 0x0C => some x.gear.stage
  | 0x0D => some (real x.commErr)
  | _ => none

/-- OBSTACLE (07 R257). -/
def State.viewObst (s : State) (f idx : Nat) : Option (BitVec 32) :=
  let o := s.obs f
  if 0x100 ≤ idx then
    let m := if idx < 0x200 then o.map.close else if idx < 0x300 then o.map.open' else if idx < 0x400 then o.map.snapClose
      else o.map.snapOpen
    some (real (m.getD (idx % 256) 0))
  else match idx with
  | 0x01 => some (real ((roundEven (o.f * 100) : Rat) / 100))
  | 0x02 => some (s.obstStatus f)
  | 0x03 => some (word32 o.zone)
  | 0x04 => some (real o.thresh)
  | 0x05 => some (real o.temp)
  | 0x06 => some (real o.kTemp)
  | 0x07 => some (word32 o.map.cycles)
  | 0x08 => some o.detections
  | 0x09 => some (word32 o.lastTrig)
  | 0x0A => some (wordZ o.lastPos)
  | 0x0B => some (real o.lastF)
  | 0x0C => some (real (driftMax o.map))
  | 0x0D => some (real o.fPeak)
  | 0x0E => some (word32 o.commDone)
  | 0x0F => some (word32 o.lastUnclean)
  | _ => none

/-- Bits of the flights that satisfy a condition. -/
def flightBits (p : Nat → Bool) : Nat := ((List.range 12).map (fun f => bitN (p f) f)).sum

/-- SAFETY.DISC_LATCH (08 R297). -/
def State.discLatch (s : State) (e : Nat) : BitVec 32 :=
  word32 (((List.range 32).map (fun k =>
    bitN (decide (32 * e + k < 51) && (s.pair (32 * e + k)).latch) k)).sum)

/-- SAFETY (08 R297). -/
def State.viewSafety (s : State) (idx : Nat) : Option (BitVec 32) :=
  let x := s.safety
  match idx with
  | 0x01 => some (word32 (if s.hallB.mode == .boot || !s.firstStandby then 0 else s.hallB.mode.code))
  | 0x02 => some s.safetyStatus
  | 0x03 => some (word32 s.hallB.shCause.toNat)
  | 0x04 => some (sealWord x.sealRd.value x.sealRd.lastValid)
  | 0x05 => some (word32 x.checkB.toNat)
  | 0x06 => some (word32 (flightBits (fun f => (s.fsafe f).cl) + bitN x.tallyL 12 + bitN x.tallyR 13 + bitN s.carTally 14))
  | 0x07 => some (word32 (flightBits s.permission))
  | 0x08 => some (s.discLatch 0)
  | 0x09 => some (s.discLatch 1)
  | 0x0A => some x.mismatchCount
  | 0x0B => some x.resetCount
  | 0x0C => some x.partnerCharge
  | _ => none

def ConnState.code : ConnState → Nat
  | .disabled => 0
  | .starting => 1
  | .open' => 2

/-- SAFELINK (09 R313). -/
def State.viewSafelink (s : State) (idx : Nat) : Option (BitVec 32) :=
  let x := s.conn (idx % 8)
  if idx < 0x60 then none
  else if idx < 0x68 then some (word32 x.st.code)
  else if idx < 0x70 then some (word32 (x.sig.toNat + bitN x.valid 31))
  else if idx < 0x78 then some (word32 x.age)
  else if idx < 0x80 then some x.accepted
  else some ((s.conn ((idx - 0x80) / 6)).errors.getD ((idx - 0x80) % 6) 0)

/-- TRDP (09 R323). -/
def State.viewTrdp (s : State) (idx : Nat) : Option (BitVec 32) :=
  match idx with
  | 0x01 => some (word32 (((List.range 32).map (fun n => bitN (s.sub n).fresh n)).sum))
  | 0x02 => some s.train.rxDiscards
  | 0x03 => some s.train.stormDrops
  | _ => none

def PendState.code : PendState → Nat
  | .empty => 0
  | .verifying => 1
  | .ready => 2
  | .rejected => 3

/-- The digest of a container: its bytes 0 to SIG_OFS − 1 (10 R373). -/
def Container.digest (c : Container) : Bytes := sha256 (c.bytes.take c.sigOfs)

/-- PROGRAM (10 R373). -/
def State.viewProgram (s : State) (idx : Nat) : Option (BitVec 32) :=
  let p := s.prog
  let run (f : Container → BitVec 32) : Option (BitVec 32) := some ((p.running.map f).getD 0)
  if 0x30 ≤ idx then run (fun c => digestWord c.digest (idx - 0x30))
  else match idx with
  | 0x01 => some (word32 s.progState)
  | 0x02 => some s.progStatus
  | 0x03 => run (·.progId)
  | 0x04 => run (·.version)
  | 0x05 => run (fun c => word32 c.cycleMs)
  | 0x06 => some p.cycleCount
  | 0x07 => some p.execLast
  | 0x08 => some p.execMax
  | 0x09 => some p.overruns
  | 0x0A => some p.skipped
  | 0x0B => some p.arithErrors
  | 0x0C => run (fun c => word32 c.blocks.length)
  | 0x0D => run (fun c => word32 c.memSize)
  | 0x0E => some (word32 p.stopCause)
  | 0x20 => some (word32 p.pendState.code)
  | 0x21 => some (if p.pendState == .empty then 0 else word32 (fieldAt p.pendBytes 8 4))
  | 0x22 => some (if p.pendState == .empty then 0 else word32 (fieldAt p.pendBytes 12 4))
  | 0x23 => some p.switches
  | 0x24 => some p.lastSwitch
  | 0x25 => some (word32 (bitN p.override.isSome 0))
  | _ => none

/-- FORCE (10 R375). -/
def State.viewForce (s : State) (idx : Nat) : Option (BitVec 32) :=
  let slot (base : Nat) (f : Force → BitVec 32) : Option (BitVec 32) :=
    some (((s.prog.forces.find? (fun x => x.slot = idx - base)).map f).getD 0)
  if idx = 0x01 then some (word32 s.prog.forces.length)
  else if idx = 0x02 then some (word32 (bitN (!s.prog.forces.isEmpty) 0))
  else if idx < 0x10 then none
  else if idx < 0x50 then
    slot 0x10 (fun x => word32 (x.var.toNat + 65536 * x.ty.code + bitN (x.area == .out) 24))
  else if idx < 0x90 then slot 0x50 (·.value)
  else if idx < 0xD0 then slot 0x90 (fun x => word32 x.session)
  else none

def CanState.code : CanState → Nat
  | .off => 0
  | .active => 1
  | .passive => 2
  | .busOff => 3

/-- CAN (10 R376). -/
def State.viewCan (s : State) (idx : Nat) : Option (BitVec 32) :=
  let node (k : Nat) : BitVec 32 :=
    let n := s.can.nodes.getD k ⟨0, 0, 0⟩
    word32 (n.st + 256 * n.nmt.toNat)
  let fresh (w : Nat) : BitVec 32 :=
    word32 (((List.range 32).map (fun k => bitN (s.can.rpdos.getD (32 * w + k) .reset).fresh k)).sum)
  if 0x20 ≤ idx then (if idx < 0x40 then some (node (idx - 0x20)) else none)
  else
    let x := s.canPort ((idx + 1) % 2)
    match (idx + 1) / 2 with
    | 1 => some (word32 x.st.code)
    | 2 => some (word32 (satN 8 x.txErr + 256 * satN 8 x.rxErr))
    | 3 => some x.busOffs
    | 4 => some (fresh ((idx + 1) % 2))
    | 5 => some x.txLate
    | 6 => some x.rxDiscards
    | 7 => some x.emcy
    | _ => none

/-- GALLERY (11 R407). -/
def State.viewGallery (s : State) (idx : Nat) : Option (BitVec 32) :=
  let g := s.gallery
  if 0x20 ≤ idx then (if idx < 0x2C then some (g.flightCycles.getD (idx - 0x20) 0) else none)
  else if 0x11 ≤ idx && idx < 0x17 then some (g.intakeLost.getD (idx - 0x11) 0)
  else match idx with
  | 0x01 => some s.galleryStatus
  | 0x02 => some (word32 g.optime)
  | 0x03 => some (word32 (g.optimeHi % 256))
  | 0x04 => some (word32 (satN 24 g.powerCycles))
  | 0x05 => some (word32 (g.live 0))
  | 0x06 => some (word32 (g.live 1))
  | 0x07 => some (word32 (g.live 2))
  | 0x08 => some (share (g.unitsUsed 0 : Rat) (s.areaCap 0 : Rat))
  | 0x09 => some (share (g.unitsUsed 1 : Rat) (s.areaCap 1 : Rat))
  | 0x0A => some (share (g.unitsUsed 2 : Rat) (s.areaCap 2 : Rat))
  | 0x0B => some g.archSt.nextSeq
  | 0x0C => some g.logSt.nextSeq
  | 0x0D => some g.trSt.nextSeq
  | 0x0E => some g.archSt.dropped
  | 0x0F => some g.logSt.dropped
  | 0x10 => some g.trSt.dropped
  | 0x17 => some (word32 g.intakePeak)
  | 0x18 => some (word32 g.alcove.length)
  | 0x19 => some g.alcDropped
  | 0x1A => some (wearShare (g.wearMax : Rat))
  | 0x1B => some (wearShare s.wearMean)
  | 0x1C => some (word32 g.reserve)
  | _ => none

/-- SYS (12 R435). -/
def State.viewSys (s : State) (idx : Nat) : Option (BitVec 32) :=
  match idx with
  | 0x01 => some (word32 s.mode.code)
  | 0x02 => some s.sysStatus
  | 0x03 => some (word32 s.hallA.cause)
  | 0x04 => some (word32 s.hallB.cause)
  | 0x05 => some (word32 (satN 32 s.sec.uptime))
  | 0x06 => some (real s.currentBudget.mean)
  | 0x07 => some (scaleOf (if s.currentBudget.scale ≤ s.thermalBudget.scale then s.currentBudget else s.thermalBudget))
  | 0x08 => some (real s.dissip)
  | 0x09 => some (real s.thermalBudget.mean)
  | 0x0A => some (real s.baseplate)
  | _ => none

/-- IDENT (12 R437). -/
def State.viewIdent (s : State) (idx : Nat) : Option (BitVec 32) :=
  if 0x11 ≤ idx then some 0xA1
  else match idx with
  | 0x01 => some (if s.ds9600 then 0x9600 else 0x4800)
  | 0x02 => some 0xA1
  | 0x03 => some s.sec.serial
  | 0x04 => some s.sec.mfgDate
  | 0x05 => some (s.bankOf .a).version
  | 0x06 => some (s.bankOf .b).version
  | 0x07 => some (s.bankOf .a).pd
  | 0x08 => some ((s.sec.active.map (·.version)).getD 0)
  | 0x09 => some (word32 s.sec.certificate.length)
  | 0x10 => some s.sec.units
  | _ => none

def Clock.left (tick : Nat) (t : Option Nat) : Nat :=
  match t with
  | none => 0
  | some e => (e - tick + 999) / 1000

/-- SESSION_INFO of the session with a number. -/
def State.sessionInfo (s : State) (num : Nat) : BitVec 32 :=
  match s.session? (BitVec.ofNat 16 num) with
  | none => 0
  | some x => word32 (x.num.toNat + 65536 * x.role + bitN x.sv 24 + bitN x.key.isSome 25)

/-- HOSTLINK (12 R438). -/
def State.viewHostlink (s : State) (idx : Nat) : Option (BitVec 32) :=
  let h := s.host
  if 0x20 ≤ idx then
    let k := idx - 0x20
    some (s.sessionInfo (if k < 4 then 1 + k else 12 + k))
  else if 0x10 ≤ idx then
    some (match h.keys.getD (idx - 0x10) none with | none => 0 | some k => word32 (1 + 256 * k.role))
  else match idx with
  | 0x06 => some (word32 (h.sessions.filter (fun x => !x.pending)).length)
  | 0x07 => some h.rxDiscards
  | 0x08 => some h.authFails
  | 0x09 => some h.rxMisaddr
  | 0x0A => some (word32 (Clock.left s.tick (h.lockouts.getD 1 none) + 65536 * Clock.left s.tick (h.lockouts.getD 0 none)))
  | _ => none

/-- RING (13 R461). -/
def State.viewRing (s : State) (idx : Nat) : Option (BitVec 32) :=
  let r := s.ring
  if 0x100 ≤ idx then some (sparseGet (fun _ => 0) r.sums (idx - 0x100))
  else
    let p := r.ports.getD (idx % 2) .reset
    match idx with
    | 0x01 => some (if s.ringBypass then 3 else word32 r.st)
    | 0x02 => some s.ringStatus
    | 0x03 => some (word32 r.head)
    | 0x04 => some (word32 r.members.length)
    | 0x05 => some (word32 r.position)
    | 0x06 => some (word32 r.topology)
    | 0x07 => some (real r.tRing)
    | 0x08 => some (word32 r.frameLen)
    | 0x09 => some (word32 r.formId.toNat)
    | 0x0A => some (word32 r.refuseCause)
    | 0x0B => some (real r.timeErr)
    | 0x0C => some r.framesLost
    | 0x0D => some r.formings
    | 0x10 | 0x11 => some (word32 p.st)
    | 0x12 | 0x13 => some (real p.delay)
    | 0x14 | 0x15 => some (word32 (if p.st < 2 then p.eq else Config.ringEq (idx % 2) p.eq s.stamp % 32))
    | 0x16 | 0x17 => some p.errors
    | 0x18 => some r.train
    | _ => none

def KeySlot.id (k : KeySlot) : BitVec 32 := if k.st = 0 then 0 else digestWord (sha256 k.key) 0

/-- SECURITY (14 R493). -/
def State.viewSecurity (s : State) (idx : Nat) : Option (BitVec 32) :=
  let x := s.sec
  if 0x20 ≤ idx then some (digestWord (sha256 x.identityKey) (idx - 0x20))
  else if idx = 0x01 then some s.securityStatus
  else if idx < 0x06 then some (word32 (x.keys.getD (idx - 0x02) ⟨0, []⟩).st)
  else if idx < 0x0A then some (x.keys.getD (idx - 0x06) ⟨0, []⟩).id
  else match idx with
  | 0x0A => some (if x.vendorRevoked.getD 0 false then 2 else 1)
  | 0x0B => some (if x.vendorRevoked.getD 1 false then 2 else 1)
  | 0x0C => some (word32 x.arHa)
  | 0x0D => some (word32 x.arHb)
  | 0x0E => some x.bootBank
  | 0x0F => some (word32 x.fwPending)
  | 0x10 => some x.attests
  | _ => none

def Image.checkWord (i : Image) : BitVec 32 := word32 (i.check.toNat + 65536 * i.sealAddr.toNat)

/-- CONFIG (14 R491). -/
def State.viewConfig (s : State) (idx : Nat) : Option (BitVec 32) :=
  let x := s.sec
  let of (i : Option Image) (f : Image → BitVec 32) : Option (BitVec 32) := some ((i.map f).getD 0)
  if 0x20 ≤ idx then of x.staged (fun i => digestWord i.digest (idx - 0x20))
  else if 0x18 ≤ idx then of x.previous (fun i => digestWord i.digest (idx - 0x18))
  else if 0x10 ≤ idx then of x.active (fun i => digestWord i.digest (idx - 0x10))
  else match idx with
  | 0x01 => some (word32 (bitN x.staged.isSome 0 + bitN x.active.isSome 1 + bitN x.previous.isSome 2 + bitN x.activeCorrupt 3))
  | 0x02 => of x.staged (·.version)
  | 0x03 => of x.active (·.version)
  | 0x04 => of x.previous (·.version)
  | 0x05 => of x.staged (·.checkWord)
  | 0x06 => of x.active (·.checkWord)
  | 0x07 => of x.previous (·.checkWord)
  | 0x08 => some x.lastStage
  | 0x09 => some x.lastStageItem
  | 0x0A => some x.activations
  | 0x0B => some x.lastActivate
  | _ => none

/-- SUPPLY (02 R76). DEDUCED (log 24). -/
def State.viewSupply (s : State) (idx : Nat) : Option (BitVec 32) :=
  let x := s.supply
  match idx with
  | 0x01 => some (real (meanR x.vin8))
  | 0x02 => some (real (meanR x.iin8))
  | 0x03 => some s.supplyStatus
  | 0x04 => some (real x.vhold)
  | 0x05 => some (real x.holdupMs)
  | 0x15 => some x.uvCount
  | 0x16 => some x.ovCount
  | 0x17 => some x.interruptCount
  | 0x130 => some (word32 (((List.range 8).map (fun k => bitN (x.lhPins.getD k false) k)).sum))
  | 0x131 => some (s.limpOf 0).episodes
  | 0x132 => some (s.limpOf 0).lastMs
  | _ => none

/-- CLOCK (01 R38). DEDUCED (log 39). -/
def State.viewClock (s : State) (idx : Nat) : Option (BitVec 32) :=
  let x := s.clock
  match idx with
  | 0x01 => some s.clockStatus
  | 0x02 => some s.clockTick
  | 0x03 => some x.countHa
  | 0x04 => some x.countHb
  | 0x05 => some (real x.rcDev)
  | 0x06 => some (real x.rcDevMax)
  | 0x07 => some x.outOfRange
  | 0x08 => some x.tickSlips
  | _ => none

/-- CAL_FACTORY (14 R494): the sector of the factory, its digest as held in OTP. -/
def State.viewFactory (s : State) (idx : Nat) : Option (BitVec 32) :=
  if 0x08 ≤ idx && idx < 0x10 then some (digestWord s.sec.calDigest (idx - 0x08))
  else some (sparseGet (fun _ => 0) s.sec.calFactory (Par.calFactoryDate.pid 0 0 - 1 + idx))

/-- A value computed from the units; none for what the parameter store holds. DEDUCED (log 18). -/
def State.viewOf (s : State) (cls i idx : Nat) : Option (BitVec 32) :=
  match cls with
  | 0x01 => s.viewSys idx
  | 0x02 => s.viewIdent idx
  | 0x03 => s.viewSupply idx
  | 0x08 => s.viewClock idx
  | 0x10 => s.viewTread i idx
  | 0x11 => s.viewFlight i idx
  | 0x12 => s.viewStorey i idx
  | 0x18 => s.viewSense i idx
  | 0x20 => s.viewPort i idx
  | 0x21 => s.viewAxis i idx
  | 0x28 => s.viewObst i idx
  | 0x30 => s.viewProgram idx
  | 0x31 => s.viewForce idx
  | 0x38 => s.viewSafety idx
  | 0x39 => s.viewSafelink idx
  | 0x40 => s.viewGallery idx
  | 0x48 => s.viewHostlink idx
  | 0x49 => s.viewTrdp idx
  | 0x4A => s.viewCan idx
  | 0x50 => s.viewRing idx
  | 0x58 => s.viewSecurity idx
  | 0x60 => s.viewFactory idx
  | 0x70 => s.viewConfig idx
  | _ => none

/-- The value of a parameter that exists: a WO parameter reads 0 (12 R422). DEDUCED (log 18). -/
def State.readPar (s : State) (r : ParRow) (i j : Nat) : BitVec 32 :=
  if r.acc = .wo then 0
  else match s.viewOf r.cls i (r.idx + j) with
    | some v => v
    | none => s.par r i j

/-- What a read changes: WRAPS is latched by a read of COUNT (04 R131), OPTIME_HI by one of OPTIME_LO (11 R407). -/
def State.afterRead (s : State) (r : ParRow) (i : Nat) : State :=
  if r = Par.portCount then s.modPort i (fun x => { x with wrapsLatched := x.wraps })
  else if r = Par.galleryOptimeLo then
    { s with gallery := { s.gallery with optimeHi := s.gallery.optime / 4294967296 % 256 } }
  else s

/-- A value in a hall's own copy of the active configuration (12 R429). Of the CONFIG class Hall A shows its own copies of ACTIVE and
PREVIOUS (01 R31). DEDUCED (log 93). -/
def State.readCopy (s : State) (hall : Nat) (r : ParRow) (i j : Nat) : BitVec 32 :=
  if r.cls = 0x70 then
    (if hall = 1 then { s with sec := { s.sec with active := s.sec.activeA, previous := s.sec.previousA } } else s).readPar r i j
  else (((if hall = 2 then s.sec.copyB else s.sec.copyA).find? (fun e => e.1 = r.pid i j)).map (·.2)).getD r.reset

/-- One entry of a read: its status, type code, value, and the state after it. HALL 1 or 2 reads that hall's copy of the active
configuration, RWS parameters and the CONFIG class only (12 R429). -/
def State.readEntry (s : State) (hall pid : Nat) : (Nat × Nat × BitVec 32) × State :=
  match s.resolvePid pid with
  | .inl st => ((st, 0, 0), s)
  | .inr (r, i, j) =>
    let ty := match r.ty with | .int32 => 1 | .uint32 => 2 | .real32 => 3
    if hall ≠ 0 && r.acc ≠ .rws && r.cls ≠ 0x70 then ((stBadParam, 0, 0), s)
    else if s.hallB.inReset && (if hall = 0 then r.ofHallB else hall = 2) then ((stBusy, 0, 0), s)
    else ((stOK, ty, if hall = 0 then s.readPar r i j else s.readCopy hall r i j), s.afterRead r i)

end Sys2Proof.Machine
end

