-- ==== Sys2Proof/Machine/Ring.lean ====
section
/-! DEFINITION. The Nolsyn ring (13): links, forming, frames, loss. -/

namespace Sys2Proof.Machine

/-! ### Links (13 R441, R447) -/

/-- A port of the ring; without its rail LD section A does nothing (13 R442). DESIGN CHOICE (log 5). -/
def ringEvent (p : Nat) (s : State) (act : State → State) : Host.Outcome State Fault Refusal :=
  if s.hasRing && decide (p < 2) then .next (if s.railsUp .a then act s else s) else .fault .noSuchUnit

/-- RING_SIGNAL_DETECT: a port detects signal and trains. -/
def execRingSignalDetect (p : Nat) (s : State) : Host.Outcome State Fault Refusal :=
  ringEvent p s (fun s =>
    if (s.ringPort p).st = 0 then s.modRingPort p (fun x => { x with st := 1, signal := true, trainTick := s.stamp }) else s)

/-- RING_TRAINING_RETRY: training has not succeeded in 50 ms. -/
def execRingTrainingRetry (p : Nat) (s : State) : Host.Outcome State Fault Refusal :=
  ringEvent p s (fun s =>
    let x := s.ringPort p
    if x.st = 1 && decide (x.trainTick + 50 ≤ s.tick) then s.modRingPort p (fun x => { x with trainTick := s.stamp }) else s)

/-- RING_LINK_UP: training succeeds; the round trip, less the partner's turnaround, in nanoseconds. While the ring is in service the
port is held PENDING. -/
def execRingLinkUp (p : Nat) (roundTrip : Rat) (eq : Nat) (s : State) : Host.Outcome State Fault Refusal :=
  ringEvent p s (fun s =>
    if (s.ringPort p).st ≠ 1 then s
    else
      let pend := s.ring.st = 2
      let s := s.modRingPort p (fun x => { x with st := if pend then 3 else 2, delay := roundTrip / 2, eq := eq % 32 })
      let s := s.recordIf pend Evt.ringLinkPending noSource [word32 p]
      if s.ring.note = 2 then s else s.send (.ringNote p s.ring.note))

/-- RING_PORT_DOWN: 0 for a loss of signal, else the code violations of one millisecond, which from 16 on take the link down. A port that
trains without signal is down too, with no link to record (13 R441). A module that forms and is left with no port up is ALONE (R445). -/
def execRingPortDown (p violations : Nat) (s : State) : Host.Outcome State Fault Refusal :=
  ringEvent p s (fun s =>
    let up := 2 ≤ (s.ringPort p).st
    let s := s.modRingPort p (fun x => { x with errors := x.errors + word32 violations })
    if violations ≠ 0 && (!up || decide (violations < 16)) then s
    else
      let s := s.modRingPort p (fun x => { x with st := if violations = 0 then 0 else 1, signal := violations ≠ 0, trainTick := s.stamp })
      let s := s.recordIf up Evt.ringPortDown noSource [word32 p, (s.ringPort p).errors]
      if s.ring.st = 1 && !s.ringCanForm then { s with ring := s.ring.alone } else s)

/-! ### Forming (13 R443 to R446, R451, R455) -/

/-- RING_FORM_TRIGGER: a module that takes part finds a port up, or the trigger of another member reaches it, in service too. -/
def execRingFormTrigger (s : State) : Host.Outcome State Fault Refusal :=
  if !s.hasRing then .fault .noSuchUnit else .next (if s.ring.st ≠ 1 && s.ringCanForm then s.ringTrigger else s)

/-- The ring is closed only for a member with both ports up (13 R445). -/
def State.closes (s : State) (r : FormIn) : FormIn := { r with closed := r.closed && (List.range 2).all (fun p => decide (2 ≤ (s.ringPort p).st)) }

/-- The hops of one lap, each with its cable delay, from the order that discovery found. -/
def lapHops (r : FormIn) : List Rat :=
  if r.closed then r.members.map (·.hopNs)
  else
    let once := (r.members.take (r.members.length - 1)).map (·.hopNs)
    once ++ once

/-- A hop's latency in microseconds (01 R45): 0.8 µs and its cable. -/
def hopUs (ns : Rat) : Rat := 8 / 10 + ns / 1000

/-- T_ring over one lap less its shortest hop (01 R45, 13 R446). -/
def ringLatency (hops : List Rat) : Rat :=
  let us := hops.map hopUs
  match us with
  | [] => 2
  | h :: _ => 2 + sumR us - us.foldl minR h

/-- The members' addresses, and where the one with the lowest stands. DEDUCED (log 59). -/
def formAddrs (r : FormIn) : List Nat := r.members.map (·.addr)

/-- DEDUCED (log 59). -/
def formHead (r : FormIn) : Nat := (formAddrs r).min?.getD 0

/-- Hops from the head to the first passage of the member at place `i`: along a closed ring; on a line first toward the head's E side.
DEDUCED (log 59). -/
def formHops (r : FormIn) (i : Nat) : Nat :=
  let n := r.members.length
  let h := (formAddrs r).idxOf (formHead r)
  if r.closed then (i + n - h) % n
  else if h ≤ i then i - h else 2 * (n - 1 - h) + (h - i)

/-- The cable delays of the hops that the frame crosses before that passage. -/
def formRoute (r : FormIn) (i : Nat) : List Rat :=
  let hop (k : Nat) : Rat := (r.members.map (·.hopNs)).getD k 0
  let n := r.members.length
  let h := (formAddrs r).idxOf (formHead r)
  if r.closed then (List.range (formHops r i)).map (fun k => hop ((h + k) % n))
  else if h ≤ i then (List.range (i - h)).map (fun k => hop (h + k))
  else
    let out := (List.range (n - 1 - h)).map (fun k => hop (h + k))
    out ++ out ++ (List.range (h - i)).map (fun k => hop (i + k))

/-- The frame length in characters (13 R451). -/
def formLen (r : FormIn) : Nat := 18 + (r.members.map (fun m => 12 + 12 * m.nCh + 60 * m.nSf)).sum

/-- The layout checks in their order: 4 address, 3 cycle, 1 latency, 2 capacity; 0 for none. -/
def formRefusal (r : FormIn) (tCyc : Nat) : Nat :=
  if !(formAddrs r).Nodup then 4
  else if r.members.any (fun m => m.cycleMs ≠ tCyc) then 3
  else if ((tCyc * 1000 : Nat) : Rat) - 200 < ringLatency (lapHops r) then 1
  else if 3750 < formLen r then 2
  else 0

/-- The lowest address below this member's that publishes a channel too. -/
def State.chWinner (s : State) (r : FormIn) (ch : Nat) : Option Nat :=
  ((r.members.filter (fun m => decide (m.addr < s.sealAddr) && m.chs.contains ch)).map (·.addr)).min?

/-- Ticks of a slew over a phase error in nanoseconds, taken modulo 1 ms: at most 10 µs in each of at most 50; how many more than those needed
is free (13 R454). DESIGN CHOICE (log 12). -/
def slewFor (err free : Rat) : Nat :=
  let e := absR (err - 1000000 * (((err + 500000) / 1000000).floor : Rat))
  max (min 50 (e / 10000).ceil.toNat) (clampR 0 50 free).ceil.toNat

/-- The ring enters service. DESIGN CHOICE (log 12). -/
def State.ringFormed (s : State) (r : FormIn) : State :=
  let i := (formAddrs r).idxOf s.sealAddr
  let hops := lapHops r
  let head := formHead r
  let isHead := head = s.sealAddr
  let slew := if isHead then 0 else slewFor r.phase (Config.freeRat s.draws)
  let ports := s.ring.ports.map (fun p => if p.st = 3 then { p with st := 2 } else p)
  let g := s.ring.alone
  let g := { g with
      st := 2, ports := ports, head := head, members := formAddrs r, position := formHops r i
      sums := (List.range 256).filterMap (fun a => if (formAddrs r).contains a then some (a, 512#32) else none)
      topology := if r.closed then 1 else 2, tRing := ringLatency hops, frameLen := formLen r, formId := g.formId + 1
      formings := g.formings + 1, refuseCause := 0, slewTicks := slew, formedAt := s.tick
      delayUs := sumR ((if isHead then hops else formRoute r i).map hopUs), layout := r.members.map (fun m => (m.addr, m.nCh, m.nSf))
      corrections := List.replicate 24 0, inRing := ports.map (fun p => decide (p.st = 2))
      lostChs := (s.pubChs.map (·.1)).filter (fun c => (s.chWinner r c).isSome) }
  let s := ({ s with ring := g, prog := { s.prog with spaced := s.prog.spaced || !isHead } }).draw.ringSample.ringSums
  let s := s.record Evt.ringFormed noSource
    [word32 head, word32 r.members.length, word32 g.topology, toReal32 g.tRing, word32 g.frameLen]
  s.pubChs.foldl (fun s e => match s.chWinner r e.1 with
    | none => s
    | some w => s.record Evt.ringChConflict noSource [word32 e.1, word32 w]) s

/-- Forming waits while a module announces that it is booting, for at most RING.FORM_WAIT from the trigger (13 R444). -/
def State.formWaits (s : State) (r : FormIn) : Bool :=
  r.booting && s.ring.trigger.any (fun t => decide (s.tick < t + s.parN Par.ringFormWait 0 0))

/-- FORM_WAIT_END: discovery, the head's checks, alignment and service (13 R444). The slew takes a number of ticks that the spec bounds
(R454). -/
def execFormWaitEnd (r : FormIn) (s : State) : Host.Outcome State Fault Refusal :=
  if !s.hasRing then .fault .noSuchUnit
  else .next (
    if s.ring.st ≠ 1 || !(formAddrs r).contains s.sealAddr || s.formWaits r then s
    else if !s.ringCanForm then { s with ring := s.ring.alone }
    else
      let r := s.closes r
      let c := formRefusal r s.tCyc
      if c = 0 then s.ringFormed r
      else
        let s := { s with ring := { s.ring.alone with refuseCause := c } }
        if c = 1 then s.record Evt.ringLatency noSource [] else s.record Evt.ringRefused noSource [word32 c])

/-- RING.REFORM (13 R444). -/
def State.ringReform (s : State) (v : BitVec 32) : Nat × State :=
  if v ≠ 1 then (stRange, s) else (stOK, s.ringTrigger)

/-! ### A frame passes (13 R442, R448 to R459) -/

/-- A safe frame entry addressed to this module goes to SLE, on the RING connection of its sender; one of no peer's on the lowest RING
connection, whose identity check it fails. DESIGN CHOICE (log 96). -/
def State.takeSf (s : State) (bs : Bytes) : State :=
  if fieldAt bs 4 4 ≠ s.ownId then s
  else match (s.ringConns.find? (fun c => s.peerId c = fieldAt bs 0 4)).orElse (fun _ => s.ringConns.head?) with
    | none => s
    | some c => s.vsfArrive c bs

/-- The safe frame entries of a slot. -/
def slotSfs (x : Nat × Nat × Nat) (bs : Bytes) : List Bytes :=
  (List.range x.2.2).map (fun k => (bs.drop (8 + 12 * x.2.1 + 60 * k)).take 60)

/-- The entries of a slot, once for each frame. -/
def State.takeSlot (s : State) (x : Nat × Nat × Nat) (bs : Bytes) : State :=
  if s.ring.seen.contains x.1 then s else (slotSfs x bs).foldl State.takeSf (s.takeChs x bs)

/-- Every valid slot of a frame is read (13 R448). -/
def State.readSlots (s : State) (tick : BitVec 32) (bs : Bytes) : State :=
  (s.validSlots tick bs).foldl (fun s (x, b) => s.takeSlot x b) s

/-- RING.SUM_ADDR and RING.TRAIN after both laps, from FLAGS and SUMMARY of the valid slots. -/
def State.ringSummary (s : State) (tick : BitVec 32) (bs : Bytes) : State :=
  let r := s.ring
  let slots := s.validSlots tick bs
  let of (a : Nat) : Option Bytes := (slots.find? (fun x => x.1.1 = a)).map (·.2)
  let sums := (List.range 256).filterMap (fun a =>
    if r.members.contains a then
      some (a, match of a with | none => 512#32 | some b => word32 (fieldAt b 3 1 + 256 + 512))
    else none)
  let got := r.members.filterMap of
  let bad := r.members.length - got.length
  let flag (k : Nat) (b : Bytes) : Bool := (fieldAt b 2 1).testBit k
  let sum (k : Nat) (b : Bytes) : Bool := (fieldAt b 3 1).testBit k
  let train := bitN (got.all (fun b => flag 4 b && sum 0 b)) 0 + bitN (got.any (sum 6)) 1 + bitN (got.any (flag 3)) 2 + bitN (bad = 0) 3
    + 256 * satN 8 bad
  { s with ring := { r with sums := sums, train := word32 train } }

/-- The time error of a frame, and the slew after 8 errors above 1 µs; the head has none and does not slew (13 R453, R454). DESIGN CHOICE
(log 12). -/
def State.ringTime (s : State) (err : Rat) : State :=
  let run := if 1000 < absR err then s.ring.errRun + 1 else 0
  if s.ring.head = s.sealAddr then s
  else if 8 ≤ run then
    let slew := slewFor err (Config.freeRat s.draws)
    (({ s with
        ring := { s.ring with timeErr := err, errRun := 0, slewTicks := slew }
        prog := { s.prog with spaced := true } }).draw).record Evt.ringTimeSlip noSource [toReal32 err]
  else { s with ring := { s.ring with timeErr := err, errRun := run } }

/-- The header reaches this member, in time unless it is more than 20 µs late (13 R458). -/
def State.hear (s : State) (tick : BitVec 32) (err : Rat) : State :=
  if 20000 < err then s else { s with ring := { s.ring with heard := some tick, missRun := 0 } }

/-- The first passage: in lap 1 the member finds the head's cycle start, on its own count the tick that its delay reaches back to (13 R453).
A member that was in bypass for lap 1 takes it from RING_TICK, on the time base that it has. DEDUCED (log 59). -/
def State.firstPass (s : State) (tick : BitVec 32) (bs : Bytes) (err : Rat) (lap2 : Bool) : State :=
  let t0 := s.tick - (s.ring.delayUs / 1000).floor.toNat
  let base := (tick - word32 t0).toNat
  let s := { s with ring := { s.ring with lastFrame := some tick, seen := [], formId := BitVec.ofNat 16 (fieldAt bs 4 2) } }
  if lap2 then { s with ring := { s.ring with cycleTick := s.tick - (word32 (s.tick + s.clock.base) - tick).toNat } }
  else
    let s := { s with
        clock := { s.clock with base := base }, ring := { s.ring with cycleTick := t0 }
        prog := { s.prog with spaced := s.prog.spaced || decide (word32 base ≠ word32 s.clock.base) } }
    s.ringTime err

/-- Every slot of a frame is read as one of that frame, which at the head may be the one before the last (13 R448, R452). -/
def State.readFrame (s : State) (tick : BitVec 32) (bs : Bytes) : State :=
  if s.ring.lastFrame = some tick then s.readSlots tick bs
  else if s.ring.lateFrame = some tick then
    let s := { s with ring := s.ring.turnFrames }
    let s := s.readSlots tick bs
    { s with ring := s.ring.turnFrames }
  else s

/-- A frame passes a member in service: it writes its slot at the first passage of lap 1, reads every slot on every passage, and passes the frame
on. At the head a lap that is complete goes out again as lap 2, and lap 2 ends there (13 R448). -/
def State.ringPass (s : State) (r : RingIn) : State :=
  let tick := word32 (fieldAt r.bytes 0 4)
  let lap2 := (fieldAt r.bytes 9 1).testBit 2
  let first := s.ring.head ≠ s.sealAddr && s.ring.lastFrame ≠ some tick
  let s := s.hear tick r.err
  let s := if first then s.firstPass tick r.bytes r.err lap2 else s
  let bs := if first && !lap2 then s.writeSlot tick r.bytes else r.bytes
  let s := s.readFrame tick bs
  let s := if lap2 then s.ringSummary tick bs else s
  if s.ring.head = s.sealAddr && r.port = s.homePort then
    if lap2 then s else s.send (.ring s.headPort (asLap2 bs))
  else s.send (.ring (s.ringOut r.port) bs)

/-- RING_FRAME: a frame arrives at a port that is up. Every module passes it on; a member in service and not in bypass takes part in it, and in
bypass it hears the header all the same (13 R442, R458, R459). -/
def execRingFrame (r : RingIn) (s : State) : Host.Outcome State Fault Refusal :=
  ringEvent r.port s (fun s =>
    let good := s.ring.st = 2 && s.headerGood r.bytes
    if (s.ringPort r.port).st ≠ 2 then s
    else if good && !s.ringBypass then s.ringPass r
    else (if good then s.hear (word32 (fieldAt r.bytes 0 4)) r.err else s).send (.ring (s.ringOut r.port) r.bytes))

/-- RING_LOST (13 R458): 0 two headers missed, 1 a port in the ring down. -/
def execRingLost (cause : Nat) (s : State) : Host.Outcome State Fault Refusal :=
  if !s.hasRing then .fault .noSuchUnit
  else
    let down := (List.range 2).any (fun p => s.ring.inRing.getD p false && (s.ringPort p).st ≠ 2)
    let lost := if cause = 0 then decide (2 ≤ s.ring.missRun) else cause = 1 && down
    .next (if s.ring.st = 2 && lost then (s.record Evt.ringLost noSource [word32 cause]).ringTrigger else s)

end Sys2Proof.Machine
end

