-- ==== Sys2Proof/Machine/ParamWrite.lean ====
section
/-! DEFINITION. Writing parameters (12 R426, R427): legal values, relations between parameters, permissions, each parameter's own
condition and effect, and a PAR_WRITE packet. -/

namespace Sys2Proof.Machine

/-! ### Legal values (12 R426 step 7, 00 R517) -/

/-- A REAL32 value on a grid of steps between two bounds; without a step, between the two bounds as REAL32 shows them. -/
def onGrid (lo hi step : Rat) (v : BitVec 32) : Bool :=
  let q := real32 v
  if step = 0 then decide (real32 (toReal32 lo) ≤ q) && decide (q ≤ real32 (toReal32 hi))
  else
    let g := (roundEven (q / step) : Rat) * step
    decide (lo ≤ g) && decide (g ≤ hi) && decide (q = real32 (toReal32 g))

/-- A value that the row's type, range and step vet. -/
def ParRow.admits (r : ParRow) (v : BitVec 32) : Bool :=
  let fin := r.ty != .real32 || isFinite32 v
  let ok := match r.legal with
    | .any | .finite => true
    | .nat lo hi => decide (lo ≤ v.toNat) && decide (v.toNat ≤ hi)
    | .int lo hi => decide (lo ≤ v.toInt) && decide (v.toInt ≤ hi)
    | .real lo hi step => onGrid lo hi step v
    | .realMin lo => decide (real32 (toReal32 lo) ≤ real32 v)
    | .zeroOr lo hi step => decide (real32 v = 0) || onGrid lo hi step v
    | .oneOf vs => vs.contains v.toNat
    | .oneOfReal vs => vs.any (fun q => decide (real32 v = q))
    | .masked m => decide (v &&& ~~~ (word32 m) = 0)
    | .compare => cmpLegal v
    | .canNode => v = 0 || (wfield v 6 0 ≠ 0 && v &&& 0xFFFFFE80 = 0)
    | .intNonzero lo hi => decide (lo ≤ v.toInt) && decide (v.toInt ≤ hi) && v ≠ 0
  let gear := (r != Par.axisGearChgCfg && r != Par.flightCgearChgCfg) || !wbit v 0 || wfield v 2 1 = 1 || wfield v 2 1 = 2
  fin && ok && gear

/-! ### Relations (00 R518) -/

/-- A relation between parameters: the PID of the one that carries it, the PIDs it names, and whether it holds. -/
structure Relation where
  carrier : Nat
  pids : List Nat
  holds : Bool
deriving DecidableEq, Repr

/-- The relations of an axis (05 R178, R189). -/
def State.axisRelations (s : State) (a : Nat) : List Relation :=
  let pid (r : ParRow) : Nat := r.pid a 0
  let step := s.axType a = 3
  [⟨pid Par.axisLimitPos, [pid Par.axisLimitNeg], decide (s.parZ Par.axisLimitNeg a 0 ≤ s.parZ Par.axisLimitPos a 0)⟩,
   ⟨pid Par.axisOverspeed, [pid Par.axisVmax], decide (s.parR Par.axisVmax a 0 ≤ s.parR Par.axisOverspeed a 0)⟩,
   ⟨pid Par.axisIHold, [pid Par.axisIRun], decide (s.parR Par.axisIHold a 0 ≤ s.parR Par.axisIRun a 0)⟩,
   ⟨pid Par.axisVmax, [pid Par.axisType], !step || decide (s.parR Par.axisVmax a 0 ≤ 200000)⟩,
   ⟨pid Par.axisDevWindow, [pid Par.axisType, pid Par.axisFbPort],
     s.parN Par.axisDevWindow a 0 ≠ 0 || (step && (s.fbPort a).isNone)⟩]

/-- The relations of a flight (06 R202, R224). -/
def State.flightRelations (s : State) (f : Nat) : List Relation :=
  let pid (r : ParRow) : Nat := r.pid f 0
  let vmax (a : Nat) : Nat := Par.axisVmax.pid a 0
  [⟨pid Par.flightOpenPos, [pid Par.flightLeafClosedPos], !s.hasDoor f || s.par Par.flightOpenPos f 0 ≠ s.par Par.flightLeafClosedPos f 0⟩,
   ⟨pid Par.flightStepExtPos, [pid Par.flightStepRetPos, Par.axisType.pid (stepOf f) 0],
     !s.stepFitted f || s.par Par.flightStepExtPos f 0 ≠ s.par Par.flightStepRetPos f 0⟩,
   ⟨pid Par.flightRefSpeed, [vmax (leafOf f)], decide (s.parR Par.flightRefSpeed f 0 ≤ s.parR Par.axisVmax (leafOf f) 0)⟩,
   ⟨pid Par.flightStepRefSpeed, [vmax (stepOf f)],
     decide (s.parR Par.flightStepRefSpeed f 0 ≤ s.parR Par.axisVmax (stepOf f) 0)⟩,
   ⟨Par.obstacleLearnVinHi.pid f 0, [Par.obstacleLearnVinLo.pid f 0],
     decide (s.parR Par.obstacleLearnVinLo f 0 ≤ s.parR Par.obstacleLearnVinHi f 0)⟩]

/-- The relations of the sealed parameters of a line and a port, which only an image sets (04 R148, R150). -/
def State.lineRelations (s : State) (l : Nat) : List Relation :=
  [⟨Par.senseHyst.pid l 0, [Par.senseThresh.pid l 0], decide (s.parR Par.senseHyst l 0 ≤ s.parR Par.senseThresh l 0)⟩]

def State.portRelations (s : State) (p : Nat) : List Relation :=
  [⟨Par.portSsiPosbits.pid p 0, [Par.portSsiBits.pid p 0],
    decide (s.parN Par.portSsiPosbits p 0 ≤ s.parN Par.portSsiBits p 0)⟩]

def Relation.names (r : Relation) (pid : Nat) : Bool := r.carrier = pid || r.pids.contains pid

/-- A write of a parameter breaks a relation, on the values that the whole write leaves. DEDUCED (log 56). -/
def State.breaksRelation (s : State) (pid : Nat) : Bool :=
  let i := pidInst pid
  let rs := match pidClass pid with
    | 0x21 => s.axisRelations i ++ s.flightRelations (flightOfAxis i)
    | 0x11 | 0x28 => s.flightRelations i
    | _ => []
  rs.any (fun r => r.names pid && !r.holds)

/-! ### Permission (12 R415) -/

def resetList : List ParRow :=
  [Par.safetyResetReq, Par.treadClear, Par.storeyReclose, Par.storeyStopClear, Par.flightStopClear, Par.sysStopClear,
   Par.supplyUvClear, Par.portSupplyClear]

def roleMayWrite (role : Nat) (r : ParRow) : Bool :=
  if [0x48, 0x58, 0x70].contains r.cls then roleHas role .config
  else if r.cls = 0x61 || r = Par.galleryAlcoveClear then roleHas role .service
  else roleHas role .param || (resetList.contains r && roleHas role .reset)

/-! ### Own conditions and effects (12 R426 step 8, R427) -/

/-- A user trim: stored, in STANDBY or MAINTENANCE only (14 R487). -/
def State.writeTrim (s : State) (pid : Nat) (v : BitVec 32) : Nat × State :=
  if s.mode != .standby && s.mode != .maintenance then (stState, s)
  else
    let old := match rowOfPid pid with | none => 0 | some r => s.par r 0 (pidIdx pid - r.idx)
    (stOK, (s.setPar pid v).record Evt.calTrimChanged noSource [word32 pid, old, v])

/-- CAL_USER.CLEAR_ALL: every trim 0 (14 R495). -/
def State.clearTrims (s : State) (v : BitVec 32) : Nat × State :=
  if v ≠ 1 then (stRange, s)
  else if s.mode != .standby && s.mode != .maintenance then (stState, s)
  else
    (stOK, ({ s with params := s.params.filter (fun e => pidClass e.1 ≠ 0x61) }).record Evt.calTrimChanged noSource
      [word32 (Par.calUserClearAll.pid 0 0), 0, 1])

/-- GALLERY.ALCOVE_CLEAR (11 R402). -/
def State.writeAlcoveClear (s : State) (v : BitVec 32) : Nat × State :=
  if v ≠ 1 then (stRange, s) else if s.gallery.degraded then (stState, s) else (stOK, s.alcoveClear)

/-- AXIS.DECEL: judged at the next sample against the running move (05 R172). -/
def State.writeDecel (s : State) (a : Nat) (v : BitVec 32) : Nat × State :=
  (stOK, (s.setPar (Par.axisDecel.pid a 0) v).modAxis a (fun x => { x with decelDue := true }))

/-- A parameter of an engaged axis' gear law (05 R189). -/
def ParRow.ofGear (r : ParRow) : Bool := r.cls = 0x21 && 0x60 ≤ r.idx && r.idx < 0x80

/-- The parameter's own condition and what its write does: the status, and the state after it. -/
def State.applyPar (s : State) (r : ParRow) (i j : Nat) (v : BitVec 32) : Nat × State :=
  if r = Par.supplyUvClear then s.uvClear v
  else if r = Par.treadClear then s.treadClear i v
  else if r = Par.storeyReclose then s.reclose i v
  else if r = Par.storeyStopClear then s.stopClear [12 + i, 16 + dieOfStorey i] v
  else if r = Par.flightStopClear then s.stopClear [i] v
  else if r = Par.sysStopClear then s.stopClear [18, 19] v
  else if r = Par.portCount then s.writeCount i v
  else if r = Par.portCmpPos then s.writeCmpPos i j v
  else if r = Par.portCmpCfg then s.writeCmpCfg i j v
  else if r = Par.portCmpHitClr then s.clearHits i j v
  else if r = Par.portSupplyClear then s.supplyClear i v
  else if r = Par.axisDecel then s.writeDecel i v
  else if r = Par.axisPosSet then s.posSet i v
  else if r = Par.obstacleTempIn then s.tempIn i v
  else if r = Par.obstacleCommission then s.commission i v
  else if r = Par.obstacleMapRestore then s.mapRestore i v
  else if r = Par.programRestart then s.progRestartWrite v
  else if r = Par.programStop then s.progStopWrite v
  else if r = Par.forceClearAll then s.forceClearWrite v
  else if r = Par.safetyResetReq then s.safetyResetWrite v
  else if r = Par.galleryFloodMode then (stOK, s.floodWrite v)
  else if r = Par.galleryAlcoveClear then s.writeAlcoveClear v
  else if r = Par.ringReform then s.ringReform v
  else if r = Par.calUserClearAll then s.clearTrims v
  else if r.cls = 0x61 then s.writeTrim (r.pid i j) v
  else if r.ofGear && (s.axis i).gear.geared then (stState, s)
  else (stOK, s.setPar (r.pid i j) v)

/-- Steps 7 to 9 for one entry: `after` holds the values that the whole write would leave. DEDUCED (log 56). -/
def State.judgeValue (s after : State) (r : ParRow) (i j : Nat) (v : BitVec 32) : Nat :=
  if !r.admits v || after.breaksRelation (r.pid i j) then stRange
  else
    let st := (s.applyPar r i j v).1
    if st ≠ stOK then st else if r.ofHallB && s.hallB.inReset then stBusy else stOK

/-- Steps 1 to 9 for one entry of a host write (12 R426). DEDUCED (log 56). -/
def State.judgeEntry (s after : State) (role : Nat) (e : Nat × BitVec 32) : Nat :=
  match s.resolvePid e.1 with
  | .inl st => st
  | .inr (r, i, j) =>
    if !roleMayWrite role r then stAuthRequired
    else if r.acc = .ro then stReadOnly
    else if r.acc = .rws then stSealed
    else if r.image then stState
    else if s.progOwns e.1 then stOwned
    else s.judgeValue after r i j e.2

/-- The values that a list of entries would leave, nothing else changed. -/
def State.withValues (s : State) (es : List (Nat × BitVec 32)) : State :=
  es.foldl (fun s e => s.setPar e.1 e.2) s

/-- The entries applied in their order. -/
def State.applyEntries (s : State) (es : List (Nat × BitVec 32)) : State :=
  es.foldl (fun s e => match s.resolvePid e.1 with
    | .inl _ => s
    | .inr (r, i, j) => (s.applyPar r i j e.2).2) s

/-- The position and the status of the first entry that fails. -/
def firstFailure : Nat → List Nat → Option (Nat × Nat)
  | _, [] => none
  | k, st :: l => if st = stOK then firstFailure (k + 1) l else some (k, st)

/-- A PAR_WR block's write at the output write (10 R348): steps 7 to 9. -/
def State.progParWrite (s : State) (pid : Nat) (v : BitVec 32) : Nat × State :=
  match s.resolvePid pid with
  | .inl st => (st, s)
  | .inr (r, i, j) =>
    let st := s.judgeValue (s.setPar pid v) r i j v
    if st ≠ stOK then (st, s) else (s.applyPar r i j v)

/-! ### The packet (12 R422, R427) -/

/-- The entries of a PAR_WRITE payload. -/
def writeEntries (payload : Bytes) : List (Nat × BitVec 32) :=
  (List.range (fieldAt payload 0 2)).map (fun n => (fieldAt payload (4 + 8 * n) 4, word32 (fieldAt payload (8 + 8 * n) 4)))

/-- INDEX and two bytes of 0. -/
def writeReply (index : Nat) : Bytes := leBytes 2 index ++ [0, 0]

/-- PAR_WRITE is served: all or nothing. -/
def State.serveWrite (s : State) (p : Pend) (role : Nat) (payload : Bytes) : State :=
  let n := fieldAt payload 0 2
  if n = 0 || 64 < n then s.answer p stRange 0 []
  else if s.sec.activating.isSome then s.answer p stBusy 0 (writeReply 0xFFFF)
  else
    let es := writeEntries payload
    match firstFailure 0 (es.map (s.judgeEntry (s.withValues es) role)) with
    | some (k, st) => s.answer p st ((es.getD k (0, 0)).1) (writeReply k)
    | none => (s.applyEntries es).answer p stOK 0 (writeReply 0xFFFF)

def opParWrite : Nat := 0x0011
def opParRead : Nat := 0x0010

/-- A PAR_WRITE packet. Its permission is judged entry by entry. -/
def State.parWrite (s : State) (k : Pkt) : State :=
  let ok := k.payload.length = 4 + 8 * fieldAt k.payload 0 2
  match s.vet { code := opParWrite, perm := .read, lenOk := ok, deferred := true } k with
  | .settled s => s
  | .served s p role _ => s.serveWrite p role k.payload

/-- The PAR_WRITE packet with one entry. -/
def oneEntry (q : Hdr) (pid : Nat) (v : BitVec 32) : Pkt :=
  ⟨q, leBytes 2 1 ++ [0, 0] ++ leBytes 4 pid ++ leBytes 4 v.toNat⟩

/-- The PID of an element of a unit, where an 8-bit instance can name the unit. DEDUCED (log 17). -/
def unitPid (r : ParRow) (i j : Nat) : Nat := if i < 256 && j < r.len then r.pid i j else 0

/-- A write of one parameter by a packet with that entry alone. DEDUCED (log 17). -/
def State.writeOne (s : State) (q : Hdr) (r : ParRow) (i j : Nat) (v : BitVec 32) : State :=
  s.parWrite (oneEntry q (unitPid r i j) v)

/-! ### Reading by packet (12 R422) -/

/-- The PIDs of a PAR_READ payload. -/
def readPids (payload : Bytes) : List Nat := (List.range (fieldAt payload 0 2)).map (fun n => fieldAt payload (4 + 4 * n) 4)

/-- One entry of a PAR_READ reply. -/
def readBytes (e : Nat × Nat × BitVec 32) : Bytes := [BitVec.ofNat 8 e.1, BitVec.ofNat 8 e.2.1, 0, 0] ++ leBytes 4 e.2.2.toNat

/-- The entries read in their order. -/
def State.readAll (s : State) (hall : Nat) : List Nat → Bytes × State
  | [] => ([], s)
  | p :: ps =>
    let (e, s) := s.readEntry hall p
    let (bs, s) := s.readAll hall ps
    (readBytes e ++ bs, s)

/-- PAR_READ is served: OK whenever the request is well formed. -/
def State.serveRead (s : State) (p : Pend) (hall : Nat) (payload : Bytes) : State :=
  let n := fieldAt payload 0 2
  if n = 0 || 64 < n then s.answer p stRange 0 []
  else
    let (bs, s) := s.readAll hall (readPids payload)
    s.answer p stOK 0 (leBytes 2 n ++ [0, 0] ++ bs)

/-- A PAR_READ packet. -/
def State.parRead (s : State) (k : Pkt) : State :=
  let ok := k.payload.length = 4 + 4 * fieldAt k.payload 0 2
  match s.vet { code := opParRead, perm := .read, lenOk := ok, hallOk := true, deferred := true } k with
  | .settled s => s
  | .served s p _ _ => s.serveRead p k.hdr.hall.toNat k.payload

/-- A read of one parameter by a packet with that entry alone. DEDUCED (log 17). -/
def State.readOne (s : State) (q : Hdr) (r : ParRow) (i j : Nat) : State :=
  s.parRead ⟨q, leBytes 2 1 ++ [0, 0] ++ leBytes 4 (unitPid r i j)⟩

end Sys2Proof.Machine
end

