-- ==== Sys2Proof/Machine/Container.lean ====
section
/-! DEFINITION. Program containers (10): their layout (R350 to R354), the block set's operands (R341, R343), and their verification
(R355). -/

namespace Sys2Proof.Machine

/-! ### Reading the bytes (10 R350 to R353) -/

/-- An operand as it stands in the block table: KIND, TYPE, VAR_ID, VALUE. -/
structure RawIn where
  kind : Nat
  ty : Nat
  id : Nat
  value : Nat
deriving DecidableEq, Repr

/-- An entry of the block table, with its index. -/
structure RawBlock where
  index : Nat
  type : Nat
  inst : Nat
  ins : List RawIn
  outs : List Nat
  /-- its reserved bytes and padding are 0 -/
  clean : Bool
deriving DecidableEq, Repr

/-- An entry of the variable table. -/
structure RawVar where
  id : Nat
  ty : Nat
  area : Nat
  off : Nat
  kind : Nat
  inst : Nat
  item : Nat
  clean : Bool
deriving DecidableEq, Repr

/-- A container as read. -/
structure RawContainer where
  progId : Nat
  version : Nat
  cycleMs : Nat
  memSize : Nat
  sigOfs : Nat
  blocks : List RawBlock
  vars : List RawVar
deriving DecidableEq, Repr

def rawIn (bs : Bytes) (ofs : Nat) : RawIn :=
  ⟨fieldAt bs ofs 1, fieldAt bs (ofs + 1) 1, fieldAt bs (ofs + 2) 2, fieldAt bs (ofs + 4) 4⟩

/-- The length of a block entry: 8 + 8 × N_IN + 2 × N_OUT, padded to a multiple of 4. -/
def blockLen (nIn nOut : Nat) : Nat := (8 + 8 * nIn + 2 * nOut + 3) / 4 * 4

def rawBlock (index : Nat) (bs : Bytes) : RawBlock :=
  let n := fieldAt bs 1 1
  let m := fieldAt bs 2 1
  let stop := 8 + 8 * n + 2 * m
  { index := index, type := fieldAt bs 0 1, inst := fieldAt bs 4 2, ins := (List.range n).map (fun k => rawIn bs (8 + 8 * k))
    outs := (List.range m).map (fun k => fieldAt bs (8 + 8 * n + 2 * k) 2)
    clean := fieldAt bs 3 1 = 0 && fieldAt bs 6 2 = 0 && fieldAt bs stop (blockLen n m - stop) = 0 }

/-- The block table: `n` entries that fill the bytes. -/
def rawBlocks : Nat → Nat → Bytes → Option (List RawBlock)
  | 0, _, bs => if bs.isEmpty then some [] else none
  | n + 1, k, bs =>
    let len := blockLen (fieldAt bs 1 1) (fieldAt bs 2 1)
    if bs.length < len then none
    else (rawBlocks n (k + 1) (bs.drop len)).map (fun l => rawBlock k (bs.take len) :: l)

def rawVar (bs : Bytes) (ofs : Nat) : RawVar :=
  { id := fieldAt bs ofs 2, ty := fieldAt bs (ofs + 2) 1, area := fieldAt bs (ofs + 3) 1, off := fieldAt bs (ofs + 4) 4
    kind := fieldAt bs (ofs + 8) 2, inst := fieldAt bs (ofs + 10) 2, item := fieldAt bs (ofs + 12) 2
    clean := fieldAt bs (ofs + 14) 2 = 0 }

/-- The length of an SLH-DSA-SHA2-128s signature. -/
def sigLen : Nat := 7856

/-- The container that a byte string holds; none where it is inconsistent with R350 (R355 order 1). -/
def readContainer (bs : Bytes) : Option RawContainer :=
  let w (ofs n : Nat) : Nat := fieldAt bs ofs n
  let nB := w 18 2
  let nV := w 20 2
  let bLen := w 28 4
  let ok := 64 ≤ bs.length && bs.take 4 = [0x4C, 0x56, 0x50, 0x47] && w 4 2 = 1 && w 6 2 = 0 && w 8 4 ≠ 0 &&
    [1, 2, 4, 8, 16].contains (w 16 2) && 1 ≤ nB && nB ≤ 8192 && w 22 2 = 0 && w 24 4 = 64 && w 32 4 = 64 + bLen &&
    w 36 4 = 16 * nV && w 40 4 = w 32 4 + w 36 4 && w 44 4 = w 52 4 + 4096 && w 48 4 = w 40 4 + w 44 4 && w 52 4 % 4 = 0 &&
    w 52 4 ≤ 262144 && w 56 4 = 0 && w 60 4 = (crc32c (bs.take 60)).toNat && bs.length = w 48 4 + sigLen
  if !ok then none
  else match rawBlocks nB 0 ((bs.drop 64).take bLen) with
    | none => none
    | some l =>
      let vs := (List.range nV).map (fun k => rawVar bs (w 32 4 + 16 * k))
      if l.all (·.clean) && vs.all (·.clean) then
        some { progId := w 8 4, version := w 12 4, cycleMs := w 16 2, memSize := w 52 4, sigOfs := w 48 4, blocks := l, vars := vs }
      else none

/-! ### Types (10 R337, R351) -/

def vtypeOf : Nat → VType
  | 0 => .bool
  | 1 => .int32
  | 3 => .real32
  | 4 => .time
  | _ => .uint32

def vtypeSize (ty : Nat) : Nat := if ty = 0 then 1 else 4

def areaOf : Nat → Area
  | 0 => .mem
  | 1 => .inp
  | _ => .out

def RawIn.operand (o : RawIn) : Operand :=
  if o.kind = 1 then .var (vtypeOf o.ty) (BitVec.ofNat 16 o.id) else .const (vtypeOf o.ty) (word32 o.value)

def RawBlock.block (b : RawBlock) : Block :=
  ⟨BitVec.ofNat 8 b.type, BitVec.ofNat 16 b.inst, b.ins.map RawIn.operand, b.outs.map (BitVec.ofNat 16)⟩

def RawVar.var (v : RawVar) : Var :=
  { id := BitVec.ofNat 16 v.id, ty := vtypeOf v.ty, area := areaOf v.area, off := v.off, bindKind := BitVec.ofNat 16 v.kind
    bindInst := BitVec.ofNat 16 v.inst, bindItem := BitVec.ofNat 16 v.item }

/-- The container as the module keeps it. -/
def RawContainer.container (r : RawContainer) (bs : Bytes) : Container :=
  { bytes := bs, progId := word32 r.progId, version := word32 r.version, cycleMs := r.cycleMs, memSize := r.memSize, sigOfs := r.sigOfs
    blocks := r.blocks.map RawBlock.block, vars := r.vars.map RawVar.var
    init := (bs.drop (r.sigOfs - (r.memSize + 4096))).take (r.memSize + 4096) }

/-! ### The operands of the block set (10 R341, R343) -/

/-- What an operand's type must be: one type; the type that an instance's T, N or "any" operands share; any type; any 4-byte type; the
type of the parameter that the block names. -/
inductive Want where
  | ty (t : VType)
  | t
  | n
  | tb
  | abs
  | any
  | free
  | four
  | par
deriving DecidableEq, Repr

/-- A row of R343: fixed inputs, an input that repeats 2 to 8 times after them, outputs, and whether the first input is const. -/
structure BlockSig where
  ins : List Want
  rep : Option Want := none
  outs : List Want
  const : Bool := false
deriving DecidableEq, Repr

def wB : Want := .ty .bool
def wI : Want := .ty .int32
def wU : Want := .ty .uint32
def wT : Want := .ty .time

/-- The rows of R343 by code. -/
def blockSig : Nat → Option BlockSig
  | 0x01 | 0x02 | 0x03 => some { ins := [], rep := some wB, outs := [wB] }
  | 0x04 => some { ins := [wB], outs := [wB] }
  | 0x05 | 0x06 | 0x07 => some { ins := [], rep := some wU, outs := [wU] }
  | 0x08 => some { ins := [wU, wI], outs := [wU] }
  | 0x10 | 0x11 => some { ins := [.tb, .tb], outs := [wB] }
  | 0x12 | 0x13 | 0x14 | 0x15 => some { ins := [.t, .t], outs := [wB] }
  | 0x18 | 0x1A | 0x23 | 0x24 => some { ins := [], rep := some .t, outs := [.t] }
  | 0x19 | 0x1B => some { ins := [.t, .t], outs := [.t] }
  | 0x1C => some { ins := [.n, .n], outs := [.n] }
  | 0x1D => some { ins := [.abs], outs := [.abs] }
  | 0x1E => some { ins := [.free], outs := [.free] }
  | 0x20 => some { ins := [.any], outs := [.any] }
  | 0x21 => some { ins := [wB, .any, .any], outs := [.any] }
  | 0x22 => some { ins := [wI], rep := some .any, outs := [.any] }
  | 0x25 => some { ins := [.t, .t, .t], outs := [.t] }
  | 0x28 | 0x29 => some { ins := [wB, wB], outs := [wB] }
  | 0x2A | 0x2B => some { ins := [wB], outs := [wB] }
  | 0x2C | 0x2D | 0x2E => some { ins := [wB, wT], outs := [wB, wT] }
  | 0x30 | 0x31 => some { ins := [wB, wB, wI], outs := [wB, wI] }
  | 0x32 => some { ins := [wB, wB, wB, wB, wI], outs := [wB, wB, wI] }
  | 0x38 => some { ins := [wU, wI, wI, wB, wB], outs := [wI, wI, wB, wB, wB, wI], const := true }
  | 0x39 | 0x3A => some { ins := [wU, wI], outs := [wI, wB, wB, wB], const := true }
  | 0x3B => some { ins := [wU, wB], outs := [wI, wB, wB, wI], const := true }
  | 0x40 => some { ins := [wU, wB, wI, wI, .ty .real32, wI], outs := [wB, wB, wB, wI], const := true }
  | 0x41 => some { ins := [wU, wB, wI], outs := [wB, wB, wB, wI], const := true }
  | 0x42 => some { ins := [wU, wB, wB], outs := [wB, wB, wI], const := true }
  | 0x43 => some { ins := [wU, wB], outs := [wB, wB, wI], const := true }
  | 0x48 => some { ins := [wU], outs := [.par, wI], const := true }
  | 0x49 => some { ins := [wU, wB, .par], outs := [wB, wB, wI], const := true }
  | 0x4A => some { ins := [wU, wB, wI, .four, .four, .four], outs := [wI], const := true }
  | _ => none

/-- The wanted types of the inputs of a block with `n` of them; none where the count is outside the range. -/
def BlockSig.inputs (g : BlockSig) (n : Nat) : Option (List Want) :=
  match g.rep with
  | none => if n = g.ins.length then some g.ins else none
  | some w =>
    let k := n - g.ins.length
    if g.ins.length + 2 ≤ n && k ≤ 8 then some (g.ins ++ List.replicate k w) else none

/-- A type meets what is wanted; the sharing of one type and the parameter's type are judged apart. -/
def Want.admits (w : Want) (t : Nat) : Bool :=
  t ≤ 4 && match w with
    | .ty v => t = v.code
    | .t => t ≠ 0
    | .n => t ≠ 0 && t ≠ 3
    | .tb | .any | .free | .par => true
    | .abs => t = 1 || t = 3 || t = 4
    | .four => t ≠ 0

def Want.shared : Want → Bool
  | .t | .n | .tb | .abs | .any => true
  | _ => false

/-! ### Verification (10 R355) -/

def itemContainer : Nat := 0x30000000
def itemBlock (index : Nat) : Nat := 0x30FE0000 + index
def itemVar (id : Nat) : Nat := 0x30FF0000 + id

def RawContainer.var? (r : RawContainer) (id : Nat) : Option RawVar := if id = 0 then none else r.vars.find? (fun v => v.id = id)

/-- The classes of the units that bindings name (10 R339). -/
def bindClass (kind : Nat) : Option Nat :=
  match kind with
  | 0x0101 | 0x0102 | 0x0103 => some 0x18
  | 0x0201 | 0x0202 | 0x0203 | 0x0204 | 0x0205 | 0x0206 | 0x8002 => some 0x20
  | 0x0301 | 0x0302 | 0x0303 => some 0x21
  | 0x0401 | 0x8001 => some 0x10
  | 0x0501 => some 0x11
  | _ => none

/-- The area and the type of a binding kind, and its largest BIND_ITEM; none for an unknown kind (10 R339). -/
def bindRow (kind : Nat) : Option (Nat × Nat × Nat) :=
  match kind with
  | 0x0101 | 0x0102 => some (1, 0, 0)
  | 0x0103 | 0x0203 => some (1, 3, 0)
  | 0x0201 | 0x0202 | 0x0303 => some (1, 1, 0)
  | 0x0204 | 0x0206 | 0x0301 | 0x0302 | 0x0401 | 0x0501 | 0x0601 | 0x0701 | 0x0703 | 0x0704 | 0x0707 => some (1, 2, 0)
  | 0x0205 | 0x0705 => some (1, 2, 1)
  | 0x0702 => some (1, 4, 0)
  | 0x0706 => some (1, 2, 31)
  | 0x8001 | 0x8002 => some (2, 0, 0)
  | _ => none

/-- Variable findings of order 3. -/
def RawContainer.badVar (r : RawContainer) (prev : Nat) (v : RawVar) : Bool :=
  let size := vtypeSize v.ty
  let room := if v.area = 0 then 262144 else 4096
  let placed := v.ty ≤ 4 && v.area ≤ 2 && v.off + size ≤ room && v.off % size = 0
  let clash := r.vars.any (fun o => o != v && o.area = v.area && o.off < v.off + size && v.off < o.off + vtypeSize o.ty)
  let bound := v.kind = 0 || match bindRow v.kind with
    | none => false
    | some (area, ty, item) => v.area = area && v.ty = ty && v.item ≤ item && ((bindClass v.kind).isSome || v.inst = 0)
  v.id ≤ prev || !placed || clash || !bound

def RawContainer.badVars (r : RawContainer) : List Nat :=
  (r.vars.zip (0 :: r.vars.map (·.id))).filterMap (fun (v, prev) => if r.badVar prev v then some (itemVar v.id) else none)

/-- The operand rules of R341, without the parameter types of R348. -/
def RawContainer.badOperands (r : RawContainer) (b : RawBlock) : Bool :=
  match blockSig b.type with
  | none => true
  | some g => match g.inputs b.ins.length with
    | none => true
    | some ws =>
      let inTypes := b.ins.map (fun o => o.ty)
      let outTypes := b.outs.map (fun id => (r.var? id).map (·.ty))
      let shared := ((ws.zip inTypes).filter (fun p => p.1.shared)).map (·.2) ++
        ((g.outs.zip outTypes).filter (fun p => p.1.shared)).filterMap (·.2)
      let inOk := (ws.zip b.ins).all (fun p =>
        p.1.admits p.2.ty && (p.2.kind = 1 || (p.2.kind = 2 && (p.2.ty ≠ 0 || p.2.value ≤ 1))) &&
          (p.2.kind ≠ 1 || match r.var? p.2.id with | none => true | some v => v.ty = p.2.ty))
      let outOk := b.outs.length = g.outs.length && (g.outs.zip outTypes).all (fun p => match p.2 with
        | none => true
        | some t => p.1.admits t)
      let first := b.ins.headD ⟨1, 0, 0, 0⟩
      let constOk := !g.const || first.kind = 2
      let code := b.type ≠ 0x4A || (0x3080 ≤ first.value && first.value ≤ 0x30FF)
      !inOk || !outOk || !constOk || !code || !(shared.all (fun t => t = shared.headD 0))

/-- Block findings of order 4. -/
def RawContainer.badLinks (r : RawContainer) (b : RawBlock) : Bool :=
  let inBad := b.ins.any (fun o => o.kind = 1 && (r.var? o.id).isNone)
  let outBad := b.outs.any (fun id => id ≠ 0 && match r.var? id with | none => true | some v => v.area = 1)
  inBad || outBad || b.inst = 0 || r.blocks.any (fun o => decide (o.index < b.index) && o.inst = b.inst)

def RawBlock.const (b : RawBlock) : Nat := (b.ins.headD ⟨0, 0, 0, 0⟩).value

/-- The PID of an absent instance with index 0xFFFF (00 R9). -/
def absentItem (cls inst : Nat) : Nat := cls * 0x1000000 + inst % 256 * 0x10000 + 0xFFFF

/-- An instance that the variant does not have. -/
def State.absentUnit (s : State) (cls inst : Nat) : Bool := classInstances cls ≤ inst || !s.hasInst cls inst

/-- A PID of a unit or class that the variant lacks. -/
def State.pidAbsent (s : State) (pid : Nat) : Bool :=
  match s.resolvePid pid with
  | .inl st => decide (st = stNotPresent)
  | .inr _ => false

/-- Order 5: references to absent units (00 R9). DEDUCED (log 62) for the item where the class has no instances. -/
def State.absentRefs (s : State) (r : RawContainer) : List Nat :=
  r.vars.filterMap (fun v => match bindClass v.kind with
    | some c => if s.absentUnit c v.inst then some (absentItem c v.inst) else none
    | none => none) ++
  r.blocks.filterMap (fun b =>
    let k := b.const
    if 0x38 ≤ b.type && b.type ≤ 0x3B then (if s.absentUnit 0x11 k then some (absentItem 0x11 k) else none)
    else if 0x40 ≤ b.type && b.type ≤ 0x43 then (if s.absentUnit 0x21 k then some (absentItem 0x21 k) else none)
    else if b.type = 0x48 || b.type = 0x49 then
      (if s.pidAbsent k then some (absentItem (pidClass k) (pidInst k)) else none)
    else none)

/-! ### Ranges of the images (10 R340, 09 R320, R321, 10 R358, R359) -/

/-- The raw ranges of an image: TRDP telegrams and PDOs in use, as carrier PID, offset and length. -/
def State.rawRanges (s : State) (out : Bool) : List (Nat × Nat × Nat) :=
  (List.range 32).filterMap (fun n =>
    if out then
      if s.par Par.trdpPubComid 0 n = 0 then none
      else some (Par.trdpPubOffset.pid 0 n, s.parN Par.trdpPubOffset 0 n, s.parN Par.trdpPubLen 0 n)
    else if s.par Par.trdpSubComid 0 n = 0 then none
    else some (Par.trdpSubOffset.pid 0 n, s.parN Par.trdpSubOffset 0 n, s.parN Par.trdpSubLen 0 n)) ++
  (List.range 64).filterMap (fun n =>
    if out then
      if s.par Par.canTpdoCobid 0 n = 0 then none
      else some (Par.canTpdoOffset.pid 0 n, s.parN Par.canTpdoOffset 0 n, wfield (s.par Par.canTpdoCfg 0 n) 7 1)
    else if s.par Par.canRpdoCobid 0 n = 0 then none
    else some (Par.canRpdoOffset.pid 0 n, s.parN Par.canRpdoOffset 0 n, wfield (s.par Par.canRpdoCfg 0 n) 7 1))

/-- Two ranges share a byte; an empty one shares none. -/
def rangesMeet (o1 n1 o2 n2 : Nat) : Bool := n1 ≠ 0 && n2 ≠ 0 && decide (o1 < o2 + n2) && decide (o2 < o1 + n1)

/-- The type that a block sees in its parameter operand: an input for PAR_WR, an output for PAR_RD; none where it is unconnected. -/
def RawContainer.parType (r : RawContainer) (b : RawBlock) : Option Nat :=
  if b.type = 0x49 then some ((b.ins.getD 2 ⟨0, 0, 0, 0⟩).ty) else (r.var? (b.outs.headD 0)).map (·.ty)

def PType.code : PType → Nat
  | .int32 => 1
  | .uint32 => 2
  | .real32 => 3

/-- PAR_RD and PAR_WR (10 R348): the status of the finding, if there is one. -/
def State.parFinding (s : State) (r : RawContainer) (b : RawBlock) : Option Nat :=
  match s.resolvePid b.const with
  | .inl st => some st
  | .inr (p, _, _) =>
    let wrong := match r.parType b with | none => false | some t => t ≠ p.ty.code
    if b.type = 0x48 then (if p.acc = .wo then some stReadOnly else if wrong then some stRange else none)
    else if p.acc = .ro then some stReadOnly
    else if p.acc = .rws then some stSealed
    else if p.image then some stState
    else if [0x30, 0x31, 0x38, 0x39, 0x58, 0x60, 0x61, 0x70].contains p.cls then some stConflict
    else if wrong then some stRange else none

/-- A composite block of a type for a flight stands in the container. -/
def RawContainer.composites (r : RawContainer) (ty f : Nat) : Nat := (r.blocks.filter (fun b => b.type = ty && b.const = f)).length

/-- R193, for one flight. -/
def State.compositeBad (s : State) (r : RawContainer) (f : Nat) : Bool :=
  let n (ty : Nat) : Nat := r.composites ty f
  1 < n 0x38 || 1 < n 0x39 || 1 < n 0x3A || 1 < n 0x3B ||
    (n 0x38 = 1 && (n 0x3B = 0 || (s.axType (lockOf f) = 4 && n 0x3A = 0) || (s.stepFitted f && n 0x39 = 0) ||
      !(s.axType (leafOf f) = 1 || s.axType (leafOf f) = 2)))

/-- Order 6: the ownership and binding rules: status and item of each finding (10 R339, R347, R348, 06 R193). -/
def State.ownFindings (s : State) (r : RawContainer) : List (Nat × Nat) :=
  let vars := r.vars.filterMap (fun v =>
    let twice := r.vars.any (fun o => o.id ≠ v.id && 0x8000 ≤ v.kind && o.kind = v.kind && o.inst = v.inst)
    let tread := v.kind = 0x8001 &&
      ((List.range 36).any (fun a => (s.claimed a).contains v.inst) || !(s.treadCfg v.inst = 2 || s.treadCfg v.inst = 3))
    let aux := v.kind = 0x8002 && s.parN Par.portAuxOwner v.inst 0 ≠ 0
    let raw := v.kind ≠ 0 && (s.rawRanges (v.area = 2)).any (fun (_, o, n) => rangesMeet v.off (vtypeSize v.ty) o n)
    if twice || tread || aux || raw then some (stConflict, itemVar v.id) else none)
  let blocks := r.blocks.filterMap (fun b =>
    if 0x40 ≤ b.type && b.type ≤ 0x43 then
      let a := b.const
      let f := flightOfAxis a
      let shared := [0x38, 0x39, 0x3A, 0x3B].any (fun ty => r.composites ty f ≠ 0)
      let fits := if b.type = 0x43 then s.axType a = 4 else if b.type = 0x41 then s.axType a ≠ 0 else s.isPhase a
      if shared || !fits then some (stConflict, itemBlock b.index) else none
    else if b.type = 0x48 || b.type = 0x49 then (s.parFinding r b).map (fun st => (st, itemBlock b.index))
    else none)
  let flights := (List.range 12).filterMap (fun f =>
    if s.compositeBad r f then some (stConflict, Par.flightStepSeq.pid f 0)
    else if r.composites 0x38 f ≠ 0 && s.parN Par.safetyFlightSide 0 f = 2 then some (stConflict, Par.safetyFlightSide.pid 0 f)
    else none)
  vars ++ blocks ++ flights

/-- The finding with the lowest item. DEDUCED (log 47). -/
def lowestFinding : List (Nat × Nat) → Option (Nat × Nat)
  | [] => none
  | x :: l => match lowestFinding l with
    | none => some x
    | some y => if x.2 ≤ y.2 then some x else some y

/-- DEDUCED (log 47). -/
def lowestItem (status : Nat) (items : List Nat) : Option (Nat × Nat) := lowestFinding (items.map (fun i => (status, i)))

/-- A signature of an enrolled slot that is not revoked (14 R483, 10 R354). -/
def State.signedBySlot (s : State) (msg sig : Bytes) : Bool :=
  s.sec.keys.any (fun k => k.st = 1 && Config.slhVerify k.key msg sig)

/-- Verification of a container (10 R355): the container, or the status and the item of the first finding. `s` holds the configuration
under which it is judged. DEDUCED (log 47). -/
def State.verifyContainer (s : State) (bs : Bytes) : Container ⊕ (Nat × Nat) :=
  match readContainer bs with
  | none => .inr (stBadLength, itemContainer)
  | some r =>
    if !s.signedBySlot (bs.take r.sigOfs) (bs.drop r.sigOfs) then .inr (stVerifyFail, itemContainer)
    else
      let blocksWith (p : RawBlock → Bool) : List Nat := (r.blocks.filter p).map (fun b => itemBlock b.index)
      let found := (lowestItem stRange (r.badVars ++ blocksWith r.badOperands)).orElse (fun _ =>
        (lowestItem stRange (blocksWith r.badLinks)).orElse (fun _ =>
        (lowestItem stNotPresent (s.absentRefs r)).orElse (fun _ => lowestFinding (s.ownFindings r))))
      match found with
      | some f => .inr f
      | none => .inl (r.container bs)

end Sys2Proof.Machine
end

