-- ==== Sys2Proof/Machine/Blocks.lean ====
section
/-! DEFINITION. The block set of the program (10 R341 to R349): binary32 arithmetic, the pure blocks, and the execution of one instance. -/

namespace Sys2Proof.Machine

/-! ### REAL32 arithmetic (10 R342): IEEE 754 binary32, to nearest, ties to even -/

def isInf32 (w : BitVec 32) : Bool := w &&& 0x7FFFFFFF = 0x7F800000

def sign32 (w : BitVec 32) : Bool := wbit w 31

/-- Zero or infinity with a sign. -/
def zero32 (neg : Bool) : BitVec 32 := if neg then 0x80000000 else 0
def inf32 (neg : Bool) : BitVec 32 := if neg then 0xFF800000 else 0x7F800000

/-- A NaN whose sign and payload the spec leaves open: those of a free word. DEDUCED (log 44). -/
def nan32 (free : BitVec 32) : BitVec 32 := free ||| 0x7FC00000

def finite32 (q : Rat) (neg : Bool) : BitVec 32 := if q = 0 then zero32 neg else toReal32 q

/-- DEDUCED (log 44). -/
def add32 (free a b : BitVec 32) : BitVec 32 :=
  if isNaN32 a || isNaN32 b then nan32 free
  else if isInf32 a && isInf32 b then (if a = b then a else nan32 free)
  else if isInf32 a then a
  else if isInf32 b then b
  else finite32 (real32 a + real32 b) (sign32 a && sign32 b)

def neg32 (a : BitVec 32) : BitVec 32 := a ^^^ 0x80000000

def sub32 (free a b : BitVec 32) : BitVec 32 := if isNaN32 b then nan32 free else add32 free a (neg32 b)

/-- DEDUCED (log 44). -/
def mul32 (free a b : BitVec 32) : BitVec 32 :=
  let neg := sign32 a != sign32 b
  if isNaN32 a || isNaN32 b then nan32 free
  else if isInf32 a || isInf32 b then
    (if (!isInf32 a && real32 a = 0) || (!isInf32 b && real32 b = 0) then nan32 free else inf32 neg)
  else finite32 (real32 a * real32 b) neg

def div32 (free a b : BitVec 32) : BitVec 32 :=
  let neg := sign32 a != sign32 b
  if isNaN32 a || isNaN32 b || (isInf32 a && isInf32 b) then nan32 free
  else if isInf32 a then inf32 neg
  else if isInf32 b then zero32 neg
  else if real32 b = 0 then (if real32 a = 0 then nan32 free else inf32 neg)
  else finite32 (real32 a / real32 b) neg

/-- The order of REAL32 numbers, infinities included. -/
def key32 (a : BitVec 32) : Rat := if isInf32 a then (if sign32 a then -(pow2 200) else pow2 200) else real32 a

/-! ### Values by type -/

/-- A value of an integer type. -/
def intVal (ty : VType) (v : BitVec 32) : Int := if ty = .int32 || ty = .time then v.toInt else v.toNat

/-- a < b and a = b; a comparison with a NaN is false. -/
def ltVal (ty : VType) (a b : BitVec 32) : Bool :=
  if ty = .real32 then !isNaN32 a && !isNaN32 b && decide (key32 a < key32 b) else decide (intVal ty a < intVal ty b)

def eqVal (ty : VType) (a b : BitVec 32) : Bool :=
  if ty = .real32 then !isNaN32 a && !isNaN32 b && decide (key32 a = key32 b) else decide (a = b)

/-- The smaller of two; a NaN is ignored unless both are. -/
def minVal (ty : VType) (a b : BitVec 32) : BitVec 32 :=
  if ty = .real32 && isNaN32 a then b else if ty = .real32 && isNaN32 b then a else if ltVal ty b a then b else a

def maxVal (ty : VType) (a b : BitVec 32) : BitVec 32 :=
  if ty = .real32 && isNaN32 a then b else if ty = .real32 && isNaN32 b then a else if ltVal ty a b then b else a

/-- A result with its arithmetic error. -/
structure Res where
  v : BitVec 32
  err : Bool := false
deriving DecidableEq, Repr

/-- A REAL32 result that is NaN or infinite counts as an error (10 R342). -/
def realRes (ty : VType) (v : BitVec 32) : Res := ⟨v, ty = .real32 && !isFinite32 v⟩

def addVal (ty : VType) (free a b : BitVec 32) : BitVec 32 := if ty = .real32 then add32 free a b else a + b
def subVal (ty : VType) (free a b : BitVec 32) : BitVec 32 := if ty = .real32 then sub32 free a b else a - b
def mulVal (ty : VType) (free a b : BitVec 32) : BitVec 32 := if ty = .real32 then mul32 free a b else a * b

/-- DIV truncates toward zero; by integer zero it gives 0 with an error. -/
def divVal (ty : VType) (free a b : BitVec 32) : Res :=
  if ty = .real32 then realRes ty (div32 free a b)
  else if b = 0 then ⟨0, true⟩ else ⟨wordZ ((intVal ty a).tdiv (intVal ty b)), false⟩

/-- MOD takes the sign of the dividend. -/
def modVal (ty : VType) (a b : BitVec 32) : Res :=
  if b = 0 then ⟨0, true⟩ else ⟨wordZ ((intVal ty a).tmod (intVal ty b)), false⟩

def absVal (ty : VType) (a : BitVec 32) : Res :=
  if ty = .real32 then realRes ty (a &&& 0x7FFFFFFF)
  else if a = 0x80000000 then ⟨a, true⟩ else ⟨wordZ a.toInt.natAbs, false⟩

/-- An integer saturated to a type, an error where it saturates. -/
def satVal (ty : VType) (z : Int) : Res :=
  let lo : Int := if ty = .uint32 then 0 else -2147483648
  let hi : Int := if ty = .uint32 then 4294967295 else 2147483647
  ⟨wordZ (clampZ lo hi z), decide (z < lo) || decide (hi < z)⟩

/-- CONV (10 R344). -/
def convVal (src dst : VType) (a : BitVec 32) : Res :=
  if src = dst then realRes src a
  else match src, dst with
    | .bool, .real32 => ⟨if a = 0 then 0 else 0x3F800000, false⟩
    | .bool, _ => ⟨if a = 0 then 0 else 1, false⟩
    | .real32, .bool => if isNaN32 a then ⟨0, true⟩ else ⟨if key32 a = 0 then 0 else 1, false⟩
    | _, .bool => ⟨if a = 0 then 0 else 1, false⟩
    | .real32, _ =>
      if isNaN32 a then ⟨0, true⟩
      else if isInf32 a then satVal dst (if sign32 a then -4294967296 else 4294967296)
      else satVal dst (roundEven (real32 a))
    | _, .real32 => ⟨toReal32 (intVal src a), false⟩
    | _, _ => satVal dst (intVal src a)

/-- SHIFT: left by N above 0, logically right by −N below 0. -/
def shiftVal (a n : BitVec 32) : BitVec 32 :=
  let z := n.toInt
  if 32 ≤ z.natAbs then 0 else if 0 ≤ z then a <<< z.toNat else a >>> (-z).toNat

def boolVal (b : Bool) : BitVec 32 := if b then 1 else 0

/-- A fold over inputs from the first. -/
def fold1 (f : BitVec 32 → BitVec 32 → BitVec 32) : List (BitVec 32) → BitVec 32
  | [] => 0
  | a :: l => l.foldl f a

/-- A block without state of its own: its result from its inputs, the type they share, and the output's type; none for another block. -/
def pureBlock (code : Nat) (ty outTy : VType) (free : BitVec 32) (v : List (BitVec 32)) : Option Res :=
  let a := v.getD 0 0
  let b := v.getD 1 0
  let ok (w : BitVec 32) : Option Res := some ⟨w, false⟩
  match code with
  | 0x01 => ok (boolVal (v.all (· ≠ 0)))
  | 0x02 => ok (boolVal (v.any (· ≠ 0)))
  | 0x03 => ok (boolVal ((v.filter (· ≠ 0)).length % 2 = 1))
  | 0x04 => ok (boolVal (a = 0))
  | 0x05 => ok (fold1 (· &&& ·) v)
  | 0x06 => ok (fold1 (· ||| ·) v)
  | 0x07 => ok (fold1 (· ^^^ ·) v)
  | 0x08 => ok (shiftVal a b)
  | 0x10 => ok (boolVal (eqVal ty a b))
  | 0x11 => ok (boolVal (!eqVal ty a b))
  | 0x12 => ok (boolVal (ltVal ty b a))
  | 0x13 => ok (boolVal (ltVal ty b a || eqVal ty a b))
  | 0x14 => ok (boolVal (ltVal ty a b))
  | 0x15 => ok (boolVal (ltVal ty a b || eqVal ty a b))
  | 0x18 => some (realRes ty (fold1 (addVal ty free) v))
  | 0x19 => some (realRes ty (subVal ty free a b))
  | 0x1A => some (realRes ty (fold1 (mulVal ty free) v))
  | 0x1B => some (divVal ty free a b)
  | 0x1C => some (modVal ty a b)
  | 0x1D => some (absVal ty a)
  | 0x1E => some (convVal ty outTy a)
  | 0x20 => ok a
  | 0x21 => ok (if a ≠ 0 then v.getD 2 0 else b)
  | 0x22 => ok ((v.drop 1).getD (clampZ 0 ((v.length : Int) - 2) a.toInt).toNat 0)
  | 0x23 => some (realRes ty (fold1 (minVal ty) v))
  | 0x24 => some (realRes ty (fold1 (maxVal ty) v))
  | 0x25 => some (realRes ty (minVal ty (maxVal ty b a) (v.getD 2 0)))
  | _ => none

/-! ### Timers, counters and bistables (10 R345, R346) -/

def BlockSt.init (inst : BitVec 16) (type : BitVec 8) : BlockSt :=
  { inst := inst, type := type, first := true, m1 := false, m2 := false, q := false, cv := 0, running := false, start := 0, et := 0
    startSet := false, busy := false, result := 0, resultDue := none, done := false, err := false, target := 0, velTarget := 0
    kind := 0 }

/-- TON, TOF and TP on `now` in milliseconds. -/
def BlockSt.ton (x : BlockSt) (i : Bool) (pt now : Nat) : BlockSt :=
  if !i then { x with q := false, et := 0, running := false }
  else
    let start := if x.running then x.start else now
    { x with running := true, start := start, et := min (now - start) pt, q := decide (pt ≤ now - start) }

def BlockSt.tof (x : BlockSt) (i : Bool) (pt now : Nat) : BlockSt :=
  if i then { x with q := true, et := 0, running := false }
  else if x.q then
    let start := if x.running then x.start else now
    let out := decide (pt ≤ now - start)
    { x with running := !out, start := start, et := min (now - start) pt, q := !out }
  else x

def BlockSt.tp (x : BlockSt) (i : Bool) (pt now : Nat) : BlockSt :=
  let go := !x.running && !x.q && i && !x.m1
  let start := if go then now else x.start
  let run := x.running || go
  let still := run && decide (now - start < pt)
  let set := if i then x.startSet || go else false
  { x with
      running := still, start := start, startSet := set, m1 := i, q := still
      et := if still then now - start else if i && set then pt else 0 }

def satUp (z : Int) : Int := if z < 2147483647 then z + 1 else z
def satDown (z : Int) : Int := if -2147483648 < z then z - 1 else z

/-- A counter's next value: `m1` and `m2` hold CU and CD. -/
def BlockSt.count (x : BlockSt) (reset load up down : Bool) (pv : Int) : BlockSt :=
  let cv := if reset then 0 else if load then pv else if up && !down then satUp x.cv else if down && !up then satDown x.cv else x.cv
  { x with cv := cv }

/-! ### Variables (10 R337, R338, R364) -/

def Container.var? (c : Container) (id : BitVec 16) : Option Var := c.vars.find? (fun v => v.id = id)

def State.areaMem (s : State) : Area → Memory
  | .mem => s.prog.mem
  | .inp => s.prog.inp
  | .out => s.prog.out

/-- The value of a variable; a BOOL byte of any value but 0 is TRUE. -/
def State.readVar (s : State) (v : Var) : BitVec 32 :=
  let m := s.areaMem v.area
  if v.ty = .bool then boolVal (Memory.read m v.off ≠ 0) else word32 (leNat (Memory.readBytes m v.off 4))

def valueBytes (ty : VType) (w : BitVec 32) : Bytes := if ty = .bool then [if w = 0 then 0 else 1] else leBytes 4 w.toNat

def State.writeVar (s : State) (v : Var) (w : BitVec 32) : State :=
  let bs := valueBytes v.ty w
  match v.area with
  | .mem => { s with prog := { s.prog with mem := Memory.writeBytes s.prog.mem v.off bs } }
  | .inp => { s with prog := { s.prog with inp := Memory.writeBytes s.prog.inp v.off bs } }
  | .out => { s with prog := { s.prog with out := Memory.writeBytes s.prog.out v.off bs } }

def State.forced (s : State) (v : Var) : Bool := s.prog.forces.any (fun f => f.var = v.id && f.area == v.area)

def State.operand (s : State) (c : Container) : Operand → BitVec 32
  | .const _ v => v
  | .var _ id => match c.var? id with | none => 0 | some v => s.readVar v

def Operand.ty : Operand → VType
  | .const t _ => t
  | .var t _ => t

/-- A block writes its k-th output; a write to a forced variable is discarded. -/
def State.put (s : State) (c : Container) (b : Block) (k : Nat) (w : BitVec 32) : State :=
  match c.var? (b.outs.getD k 0) with
  | none => s
  | some v => if s.forced v then s else s.writeVar v w

def State.putB (s : State) (c : Container) (b : Block) (k : Nat) (q : Bool) : State := s.put c b k (boolVal q)

def State.putN (s : State) (c : Container) (b : Block) (k n : Nat) : State := s.put c b k (word32 n)

/-! ### Instances -/

def State.inst (s : State) (b : Block) : BlockSt :=
  (s.prog.insts.find? (fun x => x.inst = b.inst)).getD (BlockSt.init b.inst b.type)

def State.modInst (s : State) (id : BitVec 16) (f : BlockSt → BlockSt) : State :=
  { s with prog := { s.prog with insts := s.prog.insts.map (fun x => if x.inst = id then f x else x) } }

/-- An action for the next output write. -/
def State.act (s : State) (a : Action) : State := { s with prog := { s.prog with actions := s.prog.actions ++ [a] } }

/-- An arithmetic error of an instance (10 R342). -/
def State.arithError (s : State) (b : Block) : State :=
  let s := { s with prog := { s.prog with arithErrors := s.prog.arithErrors + 1, arithInCycle := true } }
  s.recordLimited Evt.programArithError b.inst.toNat [word32 b.inst.toNat] 1000

/-! ### Composite blocks: the program half (06 R192, R223) -/

def doorCmdOf : Int → Option DoorCmd
  | 1 => some .open'
  | 2 => some .close
  | 3 => some .stop
  | 4 => some .isolate
  | 5 => some .deisolate
  | 6 => some .reference
  | 7 => some .resetFault
  | 8 => some .egress
  | _ => none

/-- A command input enters its code in the cycle in which it changes to a non-zero value. -/
def entered (first : Bool) (last now : Int) : Bool := !first && decide (now ≠ last) && decide (now ≠ 0)

/-- An entry of the DOOR block: a code outside R195 is refused like one that its rank may not issue. -/
def doorAction (inst : BitVec 16) (f : Nat) (code : Int) (rank : Rank) : Action :=
  .door inst f ((doorCmdOf code).getD .none) rank

def State.runDoor (s : State) (c : Container) (b : Block) (f : Nat) (v : List (BitVec 32)) : State :=
  let x := s.inst b
  let crew := (v.getD 1 0).toInt
  let prog := (v.getD 2 0).toInt
  let inn := v.getD 3 0 ≠ 0
  let out := v.getD 4 0 ≠ 0
  let s := if entered x.first x.cv crew then s.act (doorAction b.inst f crew .crew) else s
  let s := if entered x.first x.target prog then s.act (doorAction b.inst f prog .program) else s
  let s := if !x.first && inn && !x.m1 then s.act (.door b.inst f .open' .passenger) else s
  let s := if !x.first && out && !x.m2 then s.act (.door b.inst f .open' .passenger) else s
  let s := s.modInst b.inst (fun x => { x with first := false, cv := crew, target := prog, m1 := inn, m2 := out })
  let result := (s.door f).result
  let d := s.asBefore.door f
  let s := (s.putN c b 0 d.st.code).putN c b 1 d.faultCause
  let s := ((s.putB c b 2 (d.st == .closedLocked)).putB c b 3 (d.st == .open')).putB c b 4 d.warn
  s.putN c b 5 result

/-- The CMD input of STEP and LOCK. -/
def State.takeCmd (s : State) (b : Block) (cmd : Int) (a : Nat → Action) : State :=
  let x := s.inst b
  let s := if entered x.first x.cv cmd && decide (0 < cmd) then s.act (a cmd.toNat) else s
  s.modInst b.inst (fun x => { x with first := false, cv := cmd })

def State.runStep (s : State) (c : Container) (b : Block) (f : Nat) (v : List (BitVec 32)) : State :=
  let s := s.takeCmd b (v.getD 1 0).toInt (.stepReq f)
  let st := (s.asBefore.door f).stepSt
  (((s.putN c b 0 st.code).putB c b 1 (st == .retracted)).putB c b 2 (st == .extended)).putB c b 3 (st == .fault)

def State.runLock (s : State) (c : Container) (b : Block) (f : Nat) (v : List (BitVec 32)) : State :=
  let s := s.takeCmd b (v.getD 1 0).toInt (.lockReq f)
  let st := (s.asBefore.door f).lockSt
  (((s.putN c b 0 st.code).putB c b 1 (st == .locked)).putB c b 2 (st == .released)).putB c b 3 (st == .fault)

def State.runReference (s : State) (c : Container) (b : Block) (f : Nat) (v : List (BitVec 32)) : State :=
  let x := s.inst b
  let go := v.getD 1 0 ≠ 0
  let s := if !x.first && go && !x.m1 then s.act (.refReq f) else s
  let s := s.modInst b.inst (fun x => { x with first := false, m1 := go })
  let r := (s.asBefore.door f).ref
  (((s.putN c b 0 r.st.code).putB c b 1 (r.st == .done)).putB c b 2 r.coarse).putN c b 3 r.abort

/-! ### Blocks that act outside the program (10 R347 to R349) -/

/-- The command of AX_MOVE: MODE 0 ABS, 1 REL, 2 VEL; BUF 0 APPEND, 1 REPLACE; none for another MODE or BUF, or a VEL that is no number. -/
def moveCmd (mode pos : Int) (vel : BitVec 32) (buf : Int) : Option AxCmd :=
  if !isFinite32 vel || !(buf = 0 || buf = 1) then none
  else
    let app := decide (buf = 0)
    match mode with
    | 0 => some (.moveAbs pos (real32 vel) app)
    | 1 => some (.moveRel pos (real32 vel) app)
    | 2 => some (.moveVel (real32 vel) app)
    | _ => none

def stopCmd : Int → Option AxCmd
  | 0 => some .stop
  | 1 => some .quickStop
  | 2 => some .release
  | _ => none

/-- A command goes out: BUSY from the edge on. DEDUCED (log 34). -/
def State.issue (s : State) (b : Block) (a : Nat) (cmd : Option AxCmd) (kind : Nat) (target : Int) (vel : Rat) : State :=
  let s := s.modInst b.inst (fun x => { x with
      busy := true, running := false, done := false, err := false, kind := kind, target := target, velTarget := vel, resultDue := none })
  match cmd with
  | some m => s.act (.motion b.inst a m)
  | none => s.modInst b.inst (fun x => { x with resultDue := some (stRange, 1) })

def State.putMotion (s : State) (c : Container) (b : Block) : State :=
  let x := s.inst b
  (((s.putB c b 0 x.busy).putB c b 1 x.done).putB c b 2 x.err).putN c b 3 x.result

/-- The kinds of a command under way: 0 and 1 moves, 2 a velocity, 3 STOP and QUICK_STOP, 4 RELEASE, 5 gearing and solenoids. -/
def State.runMove (s : State) (c : Container) (b : Block) (a : Nat) (v : List (BitVec 32)) : State :=
  let x := s.inst b
  let exec := v.getD 1 0 ≠ 0
  let mode := (v.getD 2 0).toInt
  let cmd := moveCmd mode (v.getD 3 0).toInt (v.getD 4 0) (v.getD 5 0).toInt
  let s := if !x.first && exec && !x.m1 then
      s.issue b a cmd (if mode = 2 then 2 else if mode = 1 then 1 else 0) (v.getD 3 0).toInt (real32 (v.getD 4 0))
    else s
  (s.modInst b.inst (fun x => { x with first := false, m1 := exec })).putMotion c b

def State.runStop (s : State) (c : Container) (b : Block) (a : Nat) (v : List (BitVec 32)) : State :=
  let x := s.inst b
  let exec := v.getD 1 0 ≠ 0
  let kind := (v.getD 2 0).toInt
  let s := if !x.first && exec && !x.m1 then s.issue b a (stopCmd kind) (if kind = 2 then 4 else 3) 0 0 else s
  (s.modInst b.inst (fun x => { x with first := false, m1 := exec })).putMotion c b

/-- AX_GEAR and AX_SOL: the state copied at the freeze, ERR, RESULT. -/
def State.putHeld (s : State) (c : Container) (b : Block) : State :=
  let x := s.inst b
  ((s.putB c b 0 x.q).putB c b 1 x.err).putN c b 2 x.result

def State.runGear (s : State) (c : Container) (b : Block) (a : Nat) (v : List (BitVec 32)) : State :=
  let x := s.inst b
  let eng := v.getD 1 0 ≠ 0
  let dis := v.getD 2 0 ≠ 0
  let s := if !x.first && dis && !x.m2 then s.issue b a (some .gearDisengage) 5 0 0
    else if !x.first && eng && !x.m1 then s.issue b a (some .gearEngage) 5 0 0 else s
  (s.modInst b.inst (fun x => { x with first := false, m1 := eng, m2 := dis })).putHeld c b

def State.runSol (s : State) (c : Container) (b : Block) (a : Nat) (v : List (BitVec 32)) : State :=
  let x := s.inst b
  let on := v.getD 1 0 ≠ 0
  let s := if x.first || on = x.m1 then s
    else s.issue b a (some (if on then .energize else .deenergize)) 5 0 0
  (s.modInst b.inst (fun x => { x with first := false, m1 := on })).putHeld c b

/-- DEDUCED (log 48). -/
def State.runParRd (s : State) (c : Container) (b : Block) : State :=
  let x := s.inst b
  (s.put c b 0 (wordZ x.cv)).putN c b 1 x.result

/-- DEDUCED (log 48). -/
def State.runParWr (s : State) (c : Container) (b : Block) (v : List (BitVec 32)) : State :=
  let x := s.inst b
  let exec := v.getD 1 0 ≠ 0
  let s := if !x.first && exec && !x.m1 then
      (s.modInst b.inst (fun x => { x with done := false, err := false })).act (.parWrite b.inst (v.getD 0 0) (v.getD 2 0))
    else s
  let s := s.modInst b.inst (fun x => { x with first := false, m1 := exec })
  let x := s.inst b
  ((s.putB c b 0 x.done).putB c b 1 x.err).putN c b 2 x.result

/-- EVENT: SEV is taken as 0 DEBUG to 4 FAULT. DEDUCED (log 48). -/
def State.runEvent (s : State) (c : Container) (b : Block) (v : List (BitVec 32)) : State :=
  let x := s.inst b
  let trig := v.getD 1 0 ≠ 0
  let sev := (clampZ 0 4 (v.getD 2 0).toInt).toNat
  let s := if !x.first && trig && !x.m1 then s.act (.event b.inst (v.getD 0 0).toNat sev (v.drop 3)) else s
  let s := s.modInst b.inst (fun x => { x with first := false, m1 := trig })
  s.putN c b 0 (s.inst b).result

/-! ### One instance -/

/-- Bistables, edges, timers and counters. `now` is the cycle start time. -/
def State.runStateful (s : State) (c : Container) (b : Block) (v : List (BitVec 32)) : State :=
  let x := s.inst b
  let i (k : Nat) : Bool := v.getD k 0 ≠ 0
  let m1 := if x.first then i 0 else x.m1
  let m2 := if x.first then i 1 else x.m2
  let up := i 0 && !m1
  let down (k : Nat) (m : Bool) : Bool := i k && !m
  let pt := ((v.getD 1 0).toInt).toNat
  let now := s.tick
  let keep (y : BlockSt) : BlockSt := { y with first := false, m1 := i 0, m2 := i 1 }
  match b.type.toNat with
  | 0x28 =>
    let q := i 0 || (x.q && !i 1)
    (s.modInst b.inst (fun x => { keep x with q := q })).putB c b 0 q
  | 0x29 =>
    let q := !i 1 && (i 0 || x.q)
    (s.modInst b.inst (fun x => { keep x with q := q })).putB c b 0 q
  | 0x2A => (s.modInst b.inst keep).putB c b 0 up
  | 0x2B => (s.modInst b.inst keep).putB c b 0 (!i 0 && m1)
  | 0x2C =>
    let y := keep (x.ton (i 0) pt now)
    ((s.modInst b.inst (fun _ => y)).putB c b 0 y.q).putN c b 1 y.et
  | 0x2D =>
    let y := keep (x.tof (i 0) pt now)
    ((s.modInst b.inst (fun _ => y)).putB c b 0 y.q).putN c b 1 y.et
  | 0x2E =>
    let y := keep ({ x with m1 := m1 }.tp (i 0) pt now)
    ((s.modInst b.inst (fun _ => y)).putB c b 0 y.q).putN c b 1 y.et
  | 0x30 =>
    let y := keep (x.count (i 1) false up false 0)
    ((s.modInst b.inst (fun _ => y)).putB c b 0 (decide ((v.getD 2 0).toInt ≤ y.cv))).put c b 1 (wordZ y.cv)
  | 0x31 =>
    let y := keep (x.count false (i 1) false up (v.getD 2 0).toInt)
    ((s.modInst b.inst (fun _ => y)).putB c b 0 (decide (y.cv ≤ 0))).put c b 1 (wordZ y.cv)
  | 0x32 =>
    let pv := (v.getD 4 0).toInt
    let y := keep (x.count (i 2) (i 3) up (down 1 m2) pv)
    (((s.modInst b.inst (fun _ => y)).putB c b 0 (decide (pv ≤ y.cv))).putB c b 1 (decide (y.cv ≤ 0))).put c b 2 (wordZ y.cv)
  | _ => s

/-- The type that a pure block's inputs share: that of its last input; SEL, MUX and the others end with it. -/
def Block.sharedType (b : Block) : VType := (b.ins.map Operand.ty).getLast?.getD .uint32

/-- The type of an instance's first output; that of its inputs where it is unconnected. -/
def Container.outType (c : Container) (b : Block) : VType :=
  match c.var? (b.outs.headD 0) with
  | some v => v.ty
  | none => b.sharedType

/-- Execute one instance (10 R341). -/
def State.runBlock (s : State) (c : Container) (b : Block) : State :=
  let v := b.ins.map (s.operand c)
  let unit := (v.getD 0 0).toNat
  match pureBlock b.type.toNat b.sharedType (c.outType b) (Config.freeWord s.draws) v with
  | some r =>
    let s := if b.sharedType = .real32 then s.draw else s
    let s := if r.err then s.arithError b else s
    s.put c b 0 r.v
  | none =>
    match b.type.toNat with
    | 0x38 => s.runDoor c b unit v
    | 0x39 => s.runStep c b unit v
    | 0x3A => s.runLock c b unit v
    | 0x3B => s.runReference c b unit v
    | 0x40 => s.runMove c b unit v
    | 0x41 => s.runStop c b unit v
    | 0x42 => s.runGear c b unit v
    | 0x43 => s.runSol c b unit v
    | 0x48 => s.runParRd c b
    | 0x49 => s.runParWr c b v
    | 0x4A => s.runEvent c b v
    | _ => s.runStateful c b v

/-- The block list from its first instance to its last. -/
def State.runBlocks (s : State) (c : Container) : State := c.blocks.foldl (fun s b => s.runBlock c b) s

end Sys2Proof.Machine
end

