-- ==== Sys2Proof/Machine/AxisInbox.lean ====
section
/-! DEFINITION. Step 1 of a motion sample (05 R161, R167): the engine judges the commands that have arrived since the last sample, and answers
who waits for them: a host (12 R422, R431, R432), a motion block (10 R347), a reference run (06 R220). -/

namespace Sys2Proof.Machine

/-! ### Axes held by sessions (12 R431, R432) -/

/-- The session that holds an axis. -/
def State.holderOf (s : State) (a : Nat) : Option (BitVec 16) := (s.host.holders.find? (fun h => h.axis = a)).map (·.session)

/-- A session keeps an axis from its first accepted command until a RELEASE takes the axis to IDLE. -/
def State.holdAxis (s : State) (a : Nat) (session : BitVec 16) (c : AxCmd) : State :=
  let others := s.host.holders.filter (fun (h : Holder) => h.axis ≠ a)
  let gone := c == .release && (s.axis a).st == .idle
  { s with host := { s.host with holders := if gone then others else ⟨a, session, s.mode⟩ :: others } }

/-- A host motion command reached a flight's axis: the cycle under way is not clean (07 R237). -/
def State.markHostMotion (s : State) (a : Nat) : State :=
  s.modObs (flightOfAxis a) (fun o => { o with unclean := o.unclean ||| 0x40 })

/-- A host's command is judged: OWNED names the session that holds the axis; an accepted one answers with AXIS.STATE and the length of the
queue. The command of a session that has ended since is judged like any other, and its axis is held by nobody (12 R420). DEDUCED (log 34). -/
def State.hostMotion (s : State) (a : Nat) (p : Pend) (c : AxCmd) : State :=
  match (s.holderOf a).filter (· ≠ p.session) with
    | some n => s.answer p stOwned n.toNat []
    | none =>
      let owned := s.progOwnsAxis a || (s.mode == .maintenance && !p.sv)
      let (st, s') := s.axisCommand a owned p.sv c
      if st ≠ stOK then s.answer p st 0 []
      else
        let s := if p.ended then s'.markHostMotion a else (s'.markHostMotion a).holdAxis a p.session c
        s.answer p stOK 0 [BitVec.ofNat 8 (s.axis a).st.code, 0, BitVec.ofNat 8 (s.axis a).queue.length, 0]

/-! ### Motion blocks (10 R330, R347) -/

/-- The status of an action comes back at the output write: visible at the freeze of the next cycle start (10 R330). -/
def State.settle (s : State) (id : BitVec 16) (st : Nat) : State := s.modInst id (fun x => { x with resultDue := some (st, 1) })

/-- The instances that command an axis. -/
def Container.onAxis (c : Container) (a : Nat) : List (BitVec 16) :=
  (c.blocks.filter (fun b => b.isMotion && b.constIn = some (word32 a))).map (·.inst)

/-- The instances of the running program that command an axis. -/
def State.onAxis (s : State) (a : Nat) : List (BitVec 16) :=
  match s.prog.running with
  | none => []
  | some c => c.onAxis a

/-- A block's command is judged, in RUN alone (10 R334). An accepted one ends the commands accepted before it on the axis, and not those that come after it, and fixes the target of a
move (R347); the status is visible at the freeze of the next cycle start. An instance of the same ID and another TYPE, which a switch has put in
its place, sees nothing of it (R369). -/
def State.blockMotion (s : State) (a : Nat) (id : BitVec 16) (ty : BitVec 8) (c : AxCmd) : State :=
  let (st, s) := s.progCommand a c
  let s := if st ≠ stOK then s
    else
      let others := (s.onAxis a).filter (· ≠ id)
      let earlier (x : BlockSt) : Bool := others.contains x.inst && (x.running || x.resultDue.any (fun r => r.1 = stOK))
      let s := { s with
          prog := { s.prog with insts := s.prog.insts.map (fun (x : BlockSt) => if earlier x then { x with busy := false } else x) } }
      s.modInst id (fun x => if x.kind ≤ 1 && x.type = ty then { x with target := (lastTarget (s.axis a)).getD x.target } else x)
  s.modInst id (fun x => if x.type = ty then { x with resultDue := some (st, 0) } else x)

/-! ### Reference runs (06 R220) -/

/-- A command of a run: a refusal aborts the run as INTERRUPTED, and the DOOR records its status. -/
def State.runMotion (s : State) (a f : Nat) (c : AxCmd) : State :=
  let (st, s') := s.axisCommand a false false c
  if st = stOK || !(s.door f).ref.active then s'
  else
    let s := s.abortRun f 4
    if (s.door f).st == .referencing then s.doorFault f 8 st else s

/-! ### Step 1 -/

/-- One command, judged. -/
def State.takeReq (s : State) (a : Nat) (r : AxReq) : State :=
  match r.from' with
  | .host p => s.hostMotion a p r.cmd
  | .block id ty => s.blockMotion a id ty r.cmd
  | .run f => s.runMotion a f r.cmd
  | .nobody => (s.axisCommand a false false r.cmd).2

/-- Step 1 of an axis: the commands that arrived since the last sample, in their order. -/
def State.takeInbox (s : State) (a : Nat) : State :=
  let rs := (s.axis a).inbox
  if rs.isEmpty then s else rs.foldl (fun s r => s.takeReq a r) (s.modAxis a (fun x => { x with inbox := [] }))

end Sys2Proof.Machine
end

