-- ==== Sys2Proof/Machine/CurrentLoop.lean ====
section
/-! DEFINITION. What runs between two safety samples on the five current-loop ticks: the electrical angle (05 R158), the current loops of PMSM
and DC axes (05 R162), the choppers of stepper windings (05 R182). -/

namespace Sys2Proof.Machine

/-! ### Trigonometry -/

/-- The cosine of an angle in radians, between −π/2 and π/2, by its series. DESIGN CHOICE (log 77). -/
def cosNear (x : Rat) : Rat :=
  let q := x * x
  1 - q / 2 * (1 - q / 12 * (1 - q / 30 * (1 - q / 56 * (1 - q / 90 * (1 - q / 132)))))

/-- The cosine of an angle in degrees, to 2^-32. -/
def cosDeg (deg : Rat) : Rat :=
  let m := deg - 360 * ((deg / 360).floor : Rat)
  let rad (d : Rat) : Rat := d * (31415926535897932 / 1800000000000000000)
  fix32 (if m ≤ 90 then cosNear (rad m) else if m ≤ 270 then -(cosNear (rad (m - 180))) else cosNear (rad (m - 360)))

def sinDeg (deg : Rat) : Rat := cosDeg (deg - 90)

/-- The square root of 3, to 16 decimals. DESIGN CHOICE (log 77). -/
def sqrt3 : Rat := 17320508075688772 / 10000000000000000

/-! ### The electrical angle of a PMSM (05 R158) -/

/-- Counts in one electrical period. -/
def State.elecCounts (s : State) (a : Nat) : Rat :=
  (s.parN Par.axisCountsRev a 0 : Rat) / (s.parN Par.axisPolePairs a 0 : Rat)

/-- The count that the angle takes, `age` current-loop ticks before the sample: the port's count at that tick; between the edges of a HALL
port it is interpolated from the port's speed, over one count at most. DESIGN CHOICE (log 77). -/
def State.loopCount (s : State) (a age : Nat) : Rat :=
  match s.fbPort a with
  | none => 0
  | some p =>
    let x := s.port p
    let tick := 5 * s.sample - age
    let c : Rat := ((x.tickCounts.find? (fun e => decide (e.1 ≤ tick))).map (·.2)).getD x.count.toInt
    match s.parN Par.portFormat p 0, x.edges.find? (fun e => decide (e.2 ≤ 10000 * tick)) with
    | 2, some (_, t) => c + clampR (-1) 1 (x.speed * ((10000 * tick : Nat) - (t : Rat)) / 400000000)
    | _, _ => c

/-- The electrical angle in degrees. -/
def State.elecAngle (s : State) (a age : Nat) : Rat :=
  let per := s.elecCounts a
  let q := (s.loopCount a age - ((s.axis a).countRef : Rat)) / per
  s.parR Par.axisCommOffset a 0 + 360 * (q - (q.floor : Rat))

/-! ### The current loops (05 R162) -/

/-- A PI controller's next integrator, on the 25 µs tick; held while the voltage is at its limit. -/
def State.loopInteg (s : State) (a : Nat) (held : Bool) (integ err : Rat) : Rat :=
  if held then integ else fix32 (integ + s.parR Par.axisCurKi a 0 * err / 40000)

/-- The duty of a phase voltage `v` in a segment of `vs` volts. -/
def dutyOf (vs v : Rat) : Rat := if vs = 0 then 50 else clampR (5 / 2) (195 / 2) (50 + 100 * v / vs)

/-- The claimed treads of a PMSM as U, V, W: with PHASE_ORDER 1, V and W exchanged. -/
def State.phases (s : State) (a : Nat) : List Nat :=
  match s.claimed a with
  | [u, v, w] => if s.parN Par.axisPhaseOrder a 0 = 1 then [u, w, v] else [u, v, w]
  | l => l

/-- The current of a tread, `age` ticks ago. -/
def State.tickI (s : State) (t age : Nat) : Rat := (s.tread t).i8.getD age 0

/-- The references of the loop: id and iq. COMM_LEARN puts ALIGN_I on the d-axis; the clamp of R164 is on the iq command. -/
def State.loopRefs (s : State) (a : Nat) (x : Axis) : Rat × Rat :=
  if x.learning then (s.parR Par.axisAlignI a 0, 0) else (0, x.iCmd)

/-- One current-loop tick of a PMSM: Clarke and Park, two PI controllers, space-vector duties. A motor whose angle is not known gets no
voltage. DESIGN CHOICE (log 77). -/
def State.focTick (s : State) (a : Nat) (vs : Rat) (x : Axis) (age : Nat) : Axis × List Rat :=
  let th := if x.learning then 0 else s.elecAngle a age
  let c := cosDeg th
  let n := sinDeg th
  let i (k : Nat) : Rat := s.tickI ((s.phases a).getD k 0) age
  let al := (2 * i 0 - i 1 - i 2) / 3
  let be := (i 1 - i 2) / sqrt3
  let id := al * c + be * n
  let iq := be * c - al * n
  if !x.st.driven || !(x.commOk || x.learning) then ({ x with id := id, iq := iq, intD := 0, intQ := 0 }, [50, 50, 50])
  else
    let (rd, rq) := s.loopRefs a x
    let vd := s.parR Par.axisCurKp a 0 * (rd - id) + x.intD
    let vq := s.parR Par.axisCurKp a 0 * (rq - iq) + x.intQ
    let va := vd * c - vq * n
    let vb := vd * n + vq * c
    let ph := [va, (sqrt3 * vb - va) / 2, (-(sqrt3 * vb) - va) / 2]
    let hi := ph.foldl maxR va
    let lo := ph.foldl minR va
    let lim := 19 / 20 * vs
    let held := decide (lim ≤ hi - lo)
    let k := if lim < hi - lo then lim / (hi - lo) else 1
    ({ x with id := id, iq := iq, intD := s.loopInteg a held x.intD (rd - id), intQ := s.loopInteg a held x.intQ (rq - iq) },
      ph.map (fun v => dutyOf vs (k * (v - (hi + lo) / 2))))

/-- One current-loop tick of a DC axis: a PI controller on the current of the + tread sets the duty difference of the two. -/
def State.dcTick (s : State) (a : Nat) (vs : Rat) (x : Axis) (age : Nat) : Axis × List Rat :=
  let i := s.tickI ((s.claimed a).headD 0) age
  if !x.st.driven then ({ x with iq := i, intQ := 0 }, [50, 50])
  else
    let v := s.parR Par.axisCurKp a 0 * (x.iCmd - i) + x.intQ
    let lim := 19 / 20 * vs
    let u := clampR (-lim) lim v
    ({ x with iq := i, intQ := s.loopInteg a (decide (lim ≤ absR v)) x.intQ (x.iCmd - i) }, [dutyOf vs (u / 2), dutyOf vs (-u / 2)])

/-- Duties to the treads that run in PHASE. -/
def State.setDuties (s : State) (ts : List Nat) (ds : List Rat) : State :=
  (ts.zip ds).foldl (fun s td =>
    if (s.tread td.1).cmd == .phase then s.modTread td.1 (fun x => { x with duty := td.2 }) else s) s

/-- The five ticks since the last sample, oldest first, under the current command of that sample; the mean of their iq is what the obstacle
model takes (07 R229). DESIGN CHOICE (log 77). -/
def fiveTicks (tick : Axis → Nat → Axis × List Rat) (x : Axis) : Axis × List Rat :=
  let r := [4, 3, 2, 1, 0].foldl (fun (r : (Axis × List Rat) × Rat) age =>
    let n := tick r.1.1 age
    (n, r.2 + n.1.iq)) ((x, []), 0)
  ({ r.1.1 with iqMean := r.2 / 5 }, r.1.2)

/-! ### The choppers of a stepper (05 R182) -/

/-- A stepper's set-point amplitude (05 R175, R182). -/
def State.setPoint (s : State) (a : Nat) (x : Axis) : Rat :=
  if x.st.driven then s.parR (if x.holdCurrent then Par.axisIHold else Par.axisIRun) a 0
  else if x.st == .faultStop && s.parN Par.axisFaultReact a 0 = 0 then s.parR Par.axisIHold a 0 else 0

/-- The set-points of windings A and B: the amplitude times cosine and sine of the electrical angle, in 256ths of I_RUN. -/
def State.setPoints (s : State) (a : Nat) (x : Axis) : Rat × Rat :=
  let run := s.parR Par.axisIRun a 0
  let th : Rat := 360 * (x.microAngle : Rat) / (s.stepPeriodOf a : Rat)
  let amp := s.setPoint a x
  let grid (q : Rat) : Rat := (roundTieZero (256 * q / run) : Rat) / 256 * run
  (grid (amp * cosDeg th), grid (amp * sinDeg th))

/-- The phases of a chopper, in nanoseconds: the blanking and the longest on-phase, the off-phase and its part of fast decay. -/
structure ChopTimes where
  blank : Rat
  longest : Rat
  off : Rat
  fast : Rat
deriving DecidableEq, Repr

def State.chopTimes (s : State) (a t : Nat) : ChopTimes :=
  let off := s.parR Par.axisChopToff a 0 * 1000
  { blank := s.parR Par.axisChopTblank a 0 * 1000, longest := (s.parN Par.treadPwmPeriod t 0 : Rat) * 5 / 2, off := off
    fast := off * (s.parN Par.axisDecayMix a 0 : Rat) / 16 }

/-- A chopper over `left` nanoseconds. `reach` tells, of each on-phase in turn, when the winding's current reaches the set-point; one that it
does not name does not reach it. The count bounds the phases: none is shorter than 200 ns. DESIGN CHOICE (log 77). -/
def chopRun (k : ChopTimes) : Nat → Rat → List Rat → Chop → Chop
  | 0, _, _, c => c
  | n + 1, left, reach, c =>
    let len := if c.on then minR k.longest (maxR k.blank (reach.headD k.longest)) else k.off
    let rest := maxR 0 (len - c.since)
    if left < rest then { c with since := c.since + left }
    else chopRun k n (left - rest) (if c.on then reach.drop 1 else reach) ⟨!c.on, 0⟩

/-- The duties of a winding's two treads: driven in the set-point's direction, reversed in fast decay, both low in slow decay. -/
def chopDuties (k : ChopTimes) (sp : Rat) (c : Chop) : List Rat :=
  if c.on then if sp < 0 then [0, 100] else [100, 0]
  else if c.since < k.fast then if sp < 0 then [100, 0] else [0, 100]
  else [0, 0]

/-- Both choppers of a stepper over one sample: `reach` of winding A and of winding B. -/
def State.chopSample (s : State) (a : Nat) (ra rb : List Rat) : State :=
  let ts := s.claimed a
  let t := ts.headD 0
  if (s.tread t).cmd != .phase then s
  else
    let x := s.axis a
    let k := s.chopTimes a t
    let (pa, pb) := s.setPoints a x
    let ca := chopRun k 800 125000 ra x.chopA
    let cb := chopRun k 800 125000 rb x.chopB
    (s.modAxis a (fun x => { x with chopA := ca, chopB := cb })).setDuties ts (chopDuties k pa ca ++ chopDuties k pb cb)

/-- What ran for an axis since the last sample: current loops, choppers. -/
def State.currentLoop (s : State) (i : SampleIn) (a : Nat) : State :=
  let vs := i.segmentV.getD (storeyOfFlight (flightOfAxis a)) i.vin
  match s.axType a with
  | 1 =>
    let r := fiveTicks (s.focTick a vs) (s.axis a)
    (s.modAxis a (fun _ => r.1)).setDuties (s.phases a) r.2
  | 2 =>
    let r := fiveTicks (s.dcTick a vs) (s.axis a)
    (s.modAxis a (fun _ => r.1)).setDuties (s.claimed a) r.2
  | 3 =>
    let f := flightOfAxis a
    s.chopSample a (i.chop.getD (2 * f) []) (i.chop.getD (2 * f + 1) [])
  | _ => s

end Sys2Proof.Machine
end

