-- ==== Sys2Proof/Machine/SensePort.lean ====
section
/-! DEFINITION. Sense lines and position ports (04): one sample of them, and the meanings of their events. -/

namespace Sys2Proof.Machine

/-! ### One sample -/

/-- The receiver of a line for a hall has its rail: the storey die's; for a train line that of the hall's bank of LD (04 R115). -/
def State.lineRail (s : State) (l : Nat) (h : HallId) : Bool :=
  if l < 144 then (s.die (dieOfFlight (flightOfLine l))).railUp else s.railsUp h

/-- A bank of LD whose rails are back on this sample (04 R118, R123). -/
def State.bankBack (s : State) (h : HallId) : Bool := (s.hall h).inReset && (s.hall h).railRun = 1

/-- The train receivers of a bank of LD that is back start again. -/
def State.restartBanks (s : State) : State :=
  s.mapSenses (fun l x =>
    if l < 144 then x
    else { x with
        p := if s.bankBack .a then s.restartRx true l x.p else x.p
        q := if s.bankBack .b then s.restartRx true l x.q else x.q })

/-- One sample of a pulse slot: the pulse under way runs on, waiting lines that have gone low are cancelled (04 R120). -/
def State.sampleCleaner (s : State) (c : Cleaner) : Cleaner :=
  { c with
      running := c.running.map (fun (l, n) => (l, n - 1))
      waiting := c.waiting.filter (fun w => (s.sense w.2).p.elec != some false) }

/-- A receiver's voltage or current after the factory calibration (14 R486); below 0 it is taken as 0 (04 R115). -/
def State.senseValue (s : State) (h : HallId) (l : Nat) (raw : Rat) : Rat :=
  maxR 0 (match h with
    | .a => s.factory Par.calFactorySenseGainP Par.calFactorySenseOffsetP 1 l raw
    | .b => s.factory Par.calFactorySenseGainS Par.calFactorySenseOffsetS 1 l raw)

/-- One sample of a line, as far as its receivers have their rails. -/
def State.sampleRails (s : State) (i : SampleIn) (l : Nat) (x : Sense) : Sense :=
  let y := s.sampleLine l (s.senseValue .a l (i.senseP.getD l 0)) (s.senseValue .b l (i.senseQ.getD l 0)) x
  match s.lineRail l .a, s.lineRail l .b with
  | true, true => y
  | true, false => { x with p := y.p }
  | false, true => { x with q := y.q }
  | false, false => x

/-- One sample of every line, pulse slot and port (04 R115 to R138). -/
def State.sampleInputs (s : State) (i : SampleIn) : State :=
  let s := s.restartBanks
  let s := s.mapSenses (s.sampleRails i)
  let s := { s with cleaners := s.cleaners.map s.sampleCleaner }
  s.mapPorts (fun p x =>
    if p < s.nPorts && (s.die (dieOfFlight (flightOfPort p))).railUp then
      let x := s.samplePort p i.countB[p]? i.hallCode[p]? (i.encLimit.getD p false) (i.reedA.getD p false) (i.reedB.getD p false) x
      { x with lineFault := x.lineFault && i.lineBad.getD p false }
    else x)

/-! ### Sense lines -/

/-- The first valid trusted value of S151 after power-up: active, it blocks the reset edges (08 R281). -/
def State.first151 (s : State) : State :=
  let x := s.sense 151
  if !s.hallBUp || s.safety.seen151 || !(s.settled 151 x.q).valid || x.mismatch || s.lineUse 151 ≠ 1 then s
  else
    let stuck := s.trusted 151
    let s := { s with safety := { s.safety with seen151 := true, resetStuck := stuck } }
    s.recordIf stuck Evt.resetStuck noSource []

/-- DEBOUNCED_CHANGE: a receiver's debounced state changes, or becomes valid (04 R122, R123). CHANGES counts the changes of the primary
receiver. A receiver of an UNUSED line takes its state too, though the line delivers 0. DEDUCED (log 26). -/
def execDebouncedChange (l : Nat) (r : RxSide) (s : State) : Host.Outcome State Fault Refusal :=
  onUnit (s.hasLine l)
    (if s.lineMode l ≠ 0 then s
    else
      match r with
      | .primary =>
        match s.debounced l (s.sense l).p with
        | none => s
        | some p => s.modSense l (fun x => { x with p := p, changes := if x.p.valid then satInc x.changes else x.changes })
      | .secondary =>
        match s.debounced l (s.sense l).q with
        | none => s
        | some q => (s.modSense l (fun x => { x with q := q })).first151)

/-- A trigger waits in the order of the samples, on one sample in the order of the lines (04 R120). -/
def queuePulse (w : Nat × Nat) : List (Nat × Nat) → List (Nat × Nat)
  | [] => [w]
  | x :: xs => if x.1 = w.1 && w.2 < x.2 then w :: x :: xs else x :: queuePulse w xs

/-- A line triggered on sample `now` takes a free slot, or waits for it. A pulse triggered on the same sample that has not yet begun to run
yields to a lower line (04 R120). -/
def Cleaner.join (c : Cleaner) (now l : Nat) : Cleaner :=
  match c.running with
  | none => { c with running := some (l, 8), trig := now }
  | some (k, n) =>
    if n = 8 && c.trig = now && l < k then ⟨some (l, 8), now, queuePulse (now, k) c.waiting⟩
    else { c with waiting := queuePulse (now, l) c.waiting }

/-- The next waiting pulse takes the slot, on the next sample (04 R120). -/
def Cleaner.next (c : Cleaner) : Cleaner :=
  match c.waiting with
  | [] => ⟨none, 0, []⟩
  | (t, l) :: ws => ⟨some (l, 8), t, ws⟩

/-- CLEANING_PULSE: the primary receiver is high on this sample after a low one (04 R120). The pulse starts, or waits for the slot. -/
def execCleaningPulse (l : Nat) (s : State) : Host.Outcome State Fault Refusal :=
  onUnit (s.hasLine l)
    (let x := s.sense l
    let k := cleanerOf l
    let rested := match x.pulseEnd with | some e => decide (e + 800 ≤ s.sample) | none => true
    if !s.lineUsed l || s.lineMode l ≠ 0 || !s.parB Par.senseClean l 0 || !s.lineQualified l || !x.p.rose || !rested ||
        s.cleaning l then s
    else { s with cleaners := s.cleaners.set k ((s.cleaners.getD k ⟨none, 0, []⟩).join s.sample l) })

/-- CLEANING_PULSE_END: the 8 samples are over; the next waiting pulse starts on the next sample (04 R120). -/
def execCleaningPulseEnd (l : Nat) (s : State) : Host.Outcome State Fault Refusal :=
  onUnit (s.hasLine l)
    (let k := cleanerOf l
    let c := s.cleaners.getD k ⟨none, 0, []⟩
    if c.running = some (l, 0) then
      { s with cleaners := s.cleaners.set k c.next }.modSense l (fun x => { x with pulseEnd := some s.sample })
    else s)

/-- SENSE_TRACK_FENCE: the target has lain outside the fence for 60 s (04 R119). An UNUSED line sets the flag and records nothing (R126,
R152). DEDUCED (log 26). -/
def execSenseTrackFence (l : Nat) (s : State) : Host.Outcome State Fault Refusal :=
  onUnit (s.hasLine l)
    (let x := s.sense l
    if !s.parB Par.senseTrack l 0 || x.atFence || x.p.fenceRun < 480000 then s
    else (s.modSense l (fun x => { x with atFence := true })).recordIf (s.lineUsed l) Evt.senseTrackFence l
      [toReal32 x.p.von, toReal32 x.p.voff, toReal32 (s.teffOf l x.p)])

/-- SENSE_RX_MISMATCH: the 80th consecutive sample on which the receivers disagree (04 R125); of an UNUSED line the flag alone (R126,
R152). -/
def execSenseRxMismatch (l : Nat) (s : State) : Host.Outcome State Fault Refusal :=
  onUnit (s.hasLine l)
    (let x := s.sense l
    if x.mismatch || x.misRun < 80 then s
    else (s.modSense l (fun x => { x with mismatch := true })).recordIf (s.lineUsed l) Evt.senseRxMismatch l [toReal32 x.p.v, toReal32 x.q.v])

/-- SENSE_RX_MISMATCH_CLEAR: the 8000th consecutive sample in agreement (04 R125). -/
def execSenseRxMismatchClear (l : Nat) (s : State) : Host.Outcome State Fault Refusal :=
  onUnit (s.hasLine l)
    (if (s.sense l).agreeRun < 8000 then s else s.modSense l (fun x => { x with mismatch := false }))

/-- SENSE_LOOP_FAULT: the current is outside 3.6 to 21.0 mA (04 R124); of an UNUSED line the flag alone (R126, R152). DEDUCED (log 26). -/
def execSenseLoopFault (l : Nat) (s : State) : Host.Outcome State Fault Refusal :=
  onUnit (s.hasLine l)
    (let x := s.sense l
    let out := decide (x.p.v < 18 / 5) || decide (21 < x.p.v)
    if s.lineMode l = 2 && x.p.valid && out && !x.loopFault then
      (s.modSense l (fun x => { x with loopFault := true })).recordIf (s.lineUsed l) Evt.senseLoopFault l []
    else s)

/-- SENSE_OVER_RANGE: the voltage is above 10.5 V (04 R124); of an UNUSED line the flag alone (R126, R152). DEDUCED (log 26). -/
def execSenseOverRange (l : Nat) (s : State) : Host.Outcome State Fault Refusal :=
  onUnit (s.hasLine l)
    (let x := s.sense l
    if s.lineMode l = 1 && x.p.valid && decide (21 / 2 < x.p.v) && !x.overRange then
      (s.modSense l (fun x => { x with overRange := true })).recordIf (s.lineUsed l) Evt.senseOverRange l []
    else s)

/-- BURDEN_RECONNECT: 1 s after the burden disconnected (04 R124). -/
def execBurdenReconnect (l : Nat) (s : State) : Host.Outcome State Fault Refusal :=
  onUnit (s.hasLine l)
    (match (s.sense l).burdenOff with
    | none => s
    | some t => if s.sample < t + 8000 then s else s.modSense l (fun x => { x with burdenOff := none }))

/-! ### Ports -/

/-- A reed input that has been in one state on N + 1 consecutive samples takes it (04 R137). -/
def Reed.take (n : Nat) (r : Reed) : Reed := if n + 1 ≤ r.run then { r with deb := r.level, valid := true } else r

/-- REED_INPUT_CHANGE: input A+ or B+ of a REED port (04 R137). -/
def execReedInputChange (p : Nat) (b : Bool) (s : State) : Host.Outcome State Fault Refusal :=
  onUnit (p < s.nPorts)
    (let n := (s.parR Par.portReedDeb p 0 * 8).floor.toNat
    if s.portFormat p ≠ 4 then s
    else s.modPort p (fun x => if b then { x with reedB := x.reedB.take n } else { x with reedA := x.reedA.take n }))

/-- Coarse commutation is refined (05 R159): `countRef` is where the angle is now known, and COMM_ERR takes the correction of the angle in
electrical degrees, from above −180 to 180. -/
def State.refineComm (s : State) (a : Nat) (countRef : Int) : State :=
  let q := (((s.axis a).countRef - countRef : Int) : Rat) / s.elecCounts a
  let turn := q - (q.floor : Rat)
  let e := toReal32 (360 * (if 1 / 2 < turn then turn - 1 else turn))
  let s := s.modAxis a (fun x => { x with commCoarse := false, commErr := real32 e, countRef := countRef })
  s.record Evt.commRefined a [e]

/-- The PMSM axes whose coarse commutation an event at a port refines: an index of the feedback port, or a transition of the Hall port
beside it. DESIGN CHOICE (log 30). -/
def State.refinesAt (s : State) (p : Nat) (hall : Bool) (a : Nat) : Bool :=
  s.axType a = 1 && (s.axis a).commCoarse &&
    if hall then s.parN Par.axisComm a 0 = 1 && s.fbPort a = some (otherPort p)
    else s.parN Par.axisComm a 0 ≠ 2 && s.fbPort a = some p

/-- The place of a code in the HALL sequence (04 R135); none for 000 and 111. -/
def hallPlace (code : Nat) : Option Nat := [1, 3, 2, 6, 4, 5].idxOf? code

/-- A transition of a HALL port (04 R135): a code that has stood for HALL_FILT counts +1 or −1 as the next or the previous state of the last
valid one, and is an error where it skips one. The first valid code counts nothing. DEDUCED (log 27). -/
def State.hallEdge (s : State) (p : Nat) (e : EdgeIn) : Option EdgeIn × State :=
  match hallPlace e.code with
  | none => (none, s)
  | some k =>
    if e.held < s.parR Par.portHallFilt p 0 then (none, s)
    else
      let was := hallPlace (s.port p).hallState
      let s := s.modPort p (fun x => { x with hallState := e.code })
      match was with
      | none => (none, s)
      | some j =>
        if k = j then (none, s)
        else if k = (j + 1) % 6 then (some { e with up := true, valid := true }, s)
        else if j = (k + 1) % 6 then (some { e with up := false, valid := true }, s)
        else (some { e with valid := false }, s)

/-- A transition that the format's rule has judged (04 R132, R133): it counts unless it is invalid, or closer than 40 ns to the last counted
edge. A counted transition of a HALL port refines commutation (05 R159): the count at which its angle is 0 is a free value. DEDUCED (log 27).
DESIGN CHOICE (log 30). -/
def State.takeEdge (s : State) (p : Nat) (e : EdgeIn) : State :=
  let close := match (s.port p).edges with | (_, t) :: _ => decide (e.stamp < t + 16) | [] => false
  if !e.valid || close then s.quadError p
  else
    let s := s.countEdge p e
    if s.portFormat p ≠ 2 then s
    else s.forEach 36 (fun s a =>
      if s.refinesAt p true a then s.draw.refineComm a (Config.freeWord s.draws).toInt else s)

/-- PORT_EDGE: a transition of a QUAD or HALL port (04 R130 to R135, R145, R147). Nothing counts while the presence loop is open or the storey
die has no rail. -/
def execPortEdge (p : Nat) (e : EdgeIn) (s : State) : Host.Outcome State Fault Refusal :=
  onUnit (p < s.nPorts)
    (if !(s.fpower (flightOfPort p)).presence || !(s.die (dieOfFlight (flightOfPort p))).railUp then s
    else if s.portFormat p = 1 then s.takeEdge p e
    else if s.portFormat p = 2 then
      let (counted, s) := s.hallEdge p e
      match counted with
      | none => s
      | some e => s.takeEdge p e
    else s)

/-- AUX_PULSE_END: the end of the pulse on AUX p has come (04 R145). -/
def execAuxPulseEnd (p : Nat) (s : State) : Host.Outcome State Fault Refusal :=
  onUnit (p < s.nPorts)
    (match (s.port p).auxEnd with
    | none => s
    | some t => if t ≤ (s.sample + 1) * 50000 then s.setAux p false none else s)

/-- ECHO_EDGE_OUT: the next waiting edge leaves, at least 250 ns after the last (04 R147). -/
def execEchoEdgeOut (f : Nat) (stamp : Nat) (s : State) : Host.Outcome State Fault Refusal :=
  onUnit (f < s.nFlights)
    (let x := s.echo f
    let free := match x.lastOut with | none => true | some t => decide (t + 100 ≤ stamp)
    match x.queue with
    | [] => s
    | up :: q =>
      if !free then s
      else
        let ph := if up then (x.phase + 1) % 4 else (x.phase + 3) % 4
        (s.modEcho f (fun x => { x with queue := q, phase := ph, lastOut := some stamp })).driveEcho f)

/-- PORT_STANDSTILL: STANDSTILL has passed since the last counted edge (04 R132). -/
def execPortStandstill (p : Nat) (s : State) : Host.Outcome State Fault Refusal :=
  onUnit (p < s.nPorts)
    (let x := s.port p
    if x.moving && decide (x.lastEdgeTick + s.parN Par.portStandstill p 0 ≤ s.tick) then
      s.modPort p (fun x => { x with moving := false, speed := 0 })
    else s)

/-- PORT_LINE_FAULT: a pair of an RS-422 port has been below 200 mV for 1 µs (04 R133). -/
def execPortLineFault (p : Nat) (s : State) : Host.Outcome State Fault Refusal :=
  onUnit (p < s.nPorts)
    (if !s.portUsed p || s.parN Par.portLevel p 0 ≠ 0 || (s.port p).lineFault then s
    else
      let u := (s.modPort p (fun x => { x with lineFault := true })).invalidateCount p
      (u.record Evt.portLineFault p []).causeStopsFrom s)

/-- PORT_HALL_INVALID: code 000 or 111 on the 8th consecutive sample (04 R135). -/
def execPortHallInvalid (p : Nat) (s : State) : Host.Outcome State Fault Refusal :=
  onUnit (p < s.nPorts)
    (if s.portFormat p ≠ 2 || (s.port p).hallBadRun ≠ 8 then s
    else
      let u := (s.modPort p (fun x => { x with hallBadRun := 9 })).invalidateCount p
      (u.record Evt.portHallInvalid p []).causeStopsFrom s)

/-- Binary from Gray code, for up to 40 bits: each bit is the parity of the bits at and above it. -/
def unGray (g : Nat) : Nat := (List.range 40).foldl (fun n k => n ^^^ (g >>> k)) 0

/-- A difference of positions as a signed number of `bits` bits (04 R136). DEDUCED (log 28). -/
def signedDiff (bits a b : Nat) : Int :=
  let m := 2 ^ bits
  let d := (a + m - b % m) % m
  if d < m / 2 then (d : Int) else (d : Int) - (m : Int)

/-- A good SSI frame moves the count by its delta (04 R130, R132, R136). Its tick is the first grid point at or after the frame (00 R15),
and an echo, which divides edges, divides none here (R147). DEDUCED (log 28). -/
def State.ssiMove (s : State) (p : Nat) (d : Int) : State :=
  let period : Rat := (s.parN Par.portSsiPeriod p 0 : Rat) * dt
  let s := s.modPort p (fun x =>
    let x := (x.countBy d).noteTick (5 * s.sample) x.count.toInt
    { x with
        speed := (d : Rat) / period, countB := x.countB + wordZ d
        moving := x.moving || decide (d ≠ 0)
        lastEdgeTick := if d = 0 then x.lastEdgeTick else s.stamp
        edges := if d = 0 then x.edges else [(decide (0 < d), s.sample * 50000)] })
  if d = 0 then s else s.edgeCmp p (decide (0 < d)) (s.sample * 50000)

/-- SSI_FRAME: a frame of an SSI port (04 R136). The first frame only sets the reference position. DEDUCED (log 27). DEDUCED (log 28). -/
def execSsiFrame (p : Nat) (raw : Nat) (s : State) : Host.Outcome State Fault Refusal :=
  onUnit (p < s.nPorts)
    (if s.portFormat p ≠ 3 || !(s.fpower (flightOfPort p)).presence || !(s.die (dieOfFlight (flightOfPort p))).railUp then s
    else
      let bits := s.parN Par.portSsiBits p 0
      let pb := s.parN Par.portSsiPosbits p 0
      let code := raw / 2 ^ (bits - pb) % 2 ^ pb
      let pos := if s.parN Par.portSsiCode p 0 = 1 then unGray code % 2 ^ pb else code
      let good (s : State) : State := s.modPort p (fun x => { x with
          ssiLast := some (word32 pos), ssiErrors := 0, ssiFault := false, ssiExtra := word32 (raw % 2 ^ (bits - pb)) })
      match (s.port p).ssiLast with
      | none => good s
      | some last =>
        let d := signedDiff pb pos last.toNat
        if s.parN Par.portSsiMaxstep p 0 < d.natAbs then
          let s := s.modPort p (fun x => { x with ssiErrors := x.ssiErrors + 1 })
          let s := s.recordLimited Evt.ssiFrameError p [] 1000
          if (s.port p).ssiErrors = 3 then
            let u := (s.modPort p (fun x => { x with ssiFault := true })).invalidateCount p
            (u.record Evt.portSsiFault p []).causeStopsFrom s
          else s
        else (good s).ssiMove p d)

/-- The expected count nearest to a position, ties toward the lower n (04 R139). -/
def nearestIndex (pos base : Int) (period : Nat) : Int :=
  if period = 0 then base
  else
    let q : Rat := ((pos - base : Int) : Rat) / (period : Rat)
    let n := q.floor
    let n := if 1 / 2 < q - (n : Rat) then n + 1 else n
    base + n * (period : Int)

/-- A RESYNC correction of a counter by `j` counts (04 R129, R140, R141, 05 R176, R188). -/
def State.resync (s : State) (p : Nat) (j : Int) : State :=
  let old := (s.port p).count
  let s := s.modPort p (fun x => { (x.countBy j).shiftTicks j with diffBase := x.diffBase + j })
  let s := (s.jumpCmp p old j).jumpMasters p j
  s.forEach 36 (fun s a => if s.usesPort p a then s.setUncertain a else s)

/-- COMM_LEARN ends at an index: the angle found, which the spec does not state, becomes COMM_OFFSET, and the axis holds (05 R160).
DESIGN CHOICE (log 9). -/
def State.learnComm (s : State) (a : Nat) : State :=
  let deg : Rat := ((Config.freeWord s.draws).toNat % 3600 : Nat) / 10
  let s := s.draw.setPar (Par.axisCommOffset.pid a 0) (toReal32 deg)
  s.modAxis a (fun x => { x.toHold s.stamp with learning := false, iCmd := 0 })

/-- INDEX_EVENT: a rising edge of Z of a QUAD port (04 R139 to R141, 05 R159, R160). -/
def execIndexEvent (p : Nat) (s : State) : Host.Outcome State Fault Refusal :=
  onUnit (p < s.nPorts)
    (if s.portFormat p ≠ 1 then s
    else
      let pos := (s.port p).pos64
      let e := pos - nearestIndex pos (s.parZ Par.portIndexPos p 0) (s.parN Par.portIndexPeriod p 0)
      let s := s.modPort p (fun x => { x with indexErr := wordZ e })
      let out := s.parN Par.portIndexTol p 0 < e.natAbs
      let s := match s.parN Par.portIndexMode p 0, decide out with
        | 1, true => s.record Evt.indexSlip p [wordZ e]
        | 2, true => (s.resync p (-e)).record Evt.indexResync p [wordZ e]
        | _, _ => s
      let at' := (s.port p).count.toInt
      let s := s.modPort p (fun x => { x with indexAt := some at' })
      s.forEach 36 (fun s a =>
        if s.fbPort a = some p && (s.axis a).learning then s.learnComm a
        else if s.refinesAt p false a then s.refineComm a at' else s))

/-- PORT_RX_MISMATCH: the 8th consecutive sample with the two counters more than 2 apart; of a port that is OFF the flag alone (04 R129, R152). -/
def execPortRxMismatch (p : Nat) (s : State) : Host.Outcome State Fault Refusal :=
  onUnit (p < s.nPorts)
    (if (s.port p).mismatch || (s.port p).misRun < 8 then s
    else (s.modPort p (fun x => { x with mismatch := true })).recordIf (s.portUsed p) Evt.portRxMismatch p [])

/-- PORT_SUPPLY_FAULT: the encoder supply has been at its limit for 80 consecutive samples (04 R138). -/
def execPortSupplyFault (p : Nat) (s : State) : Host.Outcome State Fault Refusal :=
  onUnit (p < s.nPorts)
    (if (s.port p).supplyFault || (s.port p).supplyRun < 80 then s
    else
      let u := s.modPort p (fun x => { x with encOn := false, supplyFault := true, supplyFaultTick := s.stamp })
      let u := (u.invalidateCount p).recordIf (u.portUsed p) Evt.portSupplyFault p []
      u.causeStopsFrom s)

end Sys2Proof.Machine
end

