-- ==== Sys2Proof/Machine/Motion.lean ====
section
/-! DEFINITION. The 125 µs safety sample (05 R161): everything that is measured, the axes, the obstacle models, the sequencers, the traces;
and the events of the axes. -/

namespace Sys2Proof.Machine

/-! ### Hall B on a sample (08 R264, R265, R280, R281) -/

/-- A pair on one sample: the counts toward its latch and toward its clearing. -/
def State.pairSample (s : State) (n : Nat) (p : Pair) : Pair :=
  let a := s.trusted (pairLine n)
  let b := s.trusted (pairLine n + 1)
  let rest := pairDemanding n
  { p with disc := if a != b then p.disc + 1 else 0, clear := if a == rest && b == rest then p.clear + 1 else 0 }

/-- S151 on one sample: the press under judgement, and the samples for which it has been inactive. -/
def State.sample151 (s : State) : State :=
  let s := s.first151
  let v := s.trusted 151
  let x := s.safety
  let press := v && (x.pressAt.isNone || x.releasedAt.isSome)
  let release := !v && x.pressAt.isSome && x.releasedAt.isNone
  { s with
      safety := { x with
          idle151 := if v then 0 else x.idle151 + 1
          pressAt := if press then some s.sample else x.pressAt
          releasedAt := if press then none else if release then some s.sample else x.releasedAt
          resetHeld := x.resetHeld && v } }

/-- Hall B on one sample. -/
def State.sampleSafety (s : State) : State :=
  if !s.hallBUp then s
  else
    let s := s.mapFsafe (fun f x => { x with
        closedP := s.pairSample (4 * f) x.closedP, lockedP := s.pairSample (4 * f + 1) x.lockedP
        egressP := s.pairSample (4 * f + 2) x.egressP, stepP := s.pairSample (4 * f + 3) x.stepP })
    let s := { s with
        safety := { s.safety with
            zero := s.pairSample 48 s.safety.zero, relL := s.pairSample 49 s.safety.relL, relR := s.pairSample 50 s.safety.relR } }
    s.sample151

/-! ### Axes on a sample (05 R161 to R182) -/

/-- A write of DECEL is judged at the next sample against the running move's end condition: the joint planned for it, a rest behind it or at a
soft limit (05 R172, R179). -/
def State.decelFits (s : State) (a : Nat) (d : Rat) (x : Axis) : Bool :=
  let p := s.planOf a x
  let dir := match x.queue with
    | .pos t _ :: _ => if ((p.goalOf t : Int) : Rat) = x.posCmd then sgnR x.vel else sgnR (((p.goalOf t : Int) : Rat) - x.posCmd)
    | _ => sgnR x.vel
  let u := dir * x.vel
  d = x.decelUse || u ≤ 0 ||
    (p.marks x.posCmd dir x.queue ++ p.limitMark x.posCmd dir).all (fun m =>
      brakeFits u (dir * x.acc) d p.jerk p.scurve m.2 m.1)

/-- The axis moves towards the end of the running move: neither back from a target that it has passed, nor against a velocity move that
turns it round (05 R169, R172). -/
def State.onward (s : State) (a : Nat) (x : Axis) : Bool :=
  match x.queue with
  | .pos t _ :: _ => decide (0 < ((((s.planOf a x).goalOf t : Int) : Rat) - x.posCmd) * x.vel)
  | .vel w :: _ => decide (0 < w * x.vel)
  | [] => false

def State.judgeDecel (s : State) (a : Nat) : State :=
  let x := s.axis a
  if !x.decelDue then s
  else
    let s := s.modAxis a (fun x => { x with decelDue := false })
    if x.st != .moving || x.gear.geared then s
    else
      let d := s.parR Par.axisDecel a 0
      if s.decelFits a d x then
        let stops := decide (x.decelUse < d) && decide (x.vel * x.acc < 0) && s.onward a x
        s.modAxis a (fun x => { x with decelUse := d, decelHeld := false, cruise := x.cruise || stops })
      else
        (s.modAxis a (fun x => { x with decelHeld := true })).record Evt.profileDecelHeld a
          [toReal32 x.decelUse, s.par Par.axisDecel a 0]

/-- Microsteps of the last coarse step that are out by an instant (05 R181): microstep k leaves at tn + round(k·p / 256). -/
def Axis.microsteps (x : Axis) (now : Nat) : Nat :=
  match x.stepStamp, x.stepPeriod with
  | some t, some p => if p = 0 then 256 else min 256 (((2 * (now - t) + 1) * 256 - 1) / (2 * p))
  | _, _ => 256

/-- `n` coarse steps, the last at a stamp of the capture grid (05 R180 to R182): `prev` is the stamp of the step before it. The electrical angle
moves 256 microsteps a step. -/
def Axis.coarseStep (x : Axis) (up : Bool) (n : Nat) (prev : Option Nat) (sameDir : Bool) (stamp limit tick : Nat) : Axis :=
  let period := match prev with
    | some t => if sameDir && decide (stamp - t ≤ limit) then some (stamp - t) else none
    | none => none
  { x with stepStamp := some stamp, stepUp := up, stepPeriod := period, stillSince := tick, holdCurrent := false
           stepAngle := if up then x.stepAngle + 256 * n else x.stepAngle - 256 * n }

/-- INTERP_MAX on the capture grid. DEDUCED (log 32). -/
def State.interpMax (s : State) (a : Nat) : Nat := 400000 * s.parN Par.axisInterpMax a 0

/-- The coarse steps that one sample of the generator issues: one each time the integer part of POS_CMD changes, at the instant at which
the profile, taken as straight within the sample, reaches it. -/
def State.issueSteps (s : State) (a : Nat) (old : Rat) (x : Axis) : Axis :=
  let t0 := (s.sample - 1) * 50000
  let n := x.posCmd.floor - old.floor
  let x := if n = 0 then x
    else
      let up := decide (0 < n)
      let span := x.posCmd - old
      let at' (k : Int) : Nat :=
        let edge : Int := if up then old.floor + k else old.floor - (k - 1)
        t0 + ((((edge : Rat) - old) / span) * 50000).floor.toNat
      let k : Int := (n.natAbs : Int)
      let prev := if 1 < k then some (at' (k - 1)) else x.stepStamp
      x.coarseStep up n.natAbs prev (decide (1 < k) || x.stepUp == up) (at' k) (s.interpMax a) s.stamp
  { x with microDone := x.microsteps (s.sample * 50000) }

/-- The current clamp on a sample (05 R164, 06 R214, R216). -/
def State.clampOf (s : State) (a : Nat) : Rat :=
  match s.searchClamp a with
  | some c => minR (s.iEff a) c
  | none => s.iEff a

/-- Until the leaf is at rest after a detection, its current in the direction of travel stays at or below the detection's (07 R248).
DEDUCED (log 35). -/
def State.obstClamp (s : State) (a : Nat) (x : Axis) : Axis :=
  let f := flightOfAxis a
  if a % 3 ≠ 0 then x
  else match (s.obs f).clampIq with
    | none => x
    | some c =>
      let sg := s.travelSign f (s.obs f).closing
      { x with iCmd := sg * minR (sg * x.iCmd) c }

/-- Steps 3 to 6 of an axis with PHASE treads, after its profile has advanced: position, checks, loops (05 R156, R161, R163, R178). An axis
whose loops are open follows its feedback port. DESIGN CHOICE (log 31). -/
def State.closeLoops (s : State) (a : Nat) : State :=
  let s := s.modAxis a (fun x => { x with pos := s.axisCount a })
  let follows (x : Axis) : Bool := (!x.st.driven || x.learning) && (s.fbPort a).isSome
  let s := s.modAxis a (fun x => s.holdBack a (if follows x then { x with posCmd := x.pos } else x))
  let s := s.modAxis a (fun x => s.axisChecks a x)
  let s := s.modAxis a (fun x =>
    let x := s.obstClamp a (s.loops a (s.clampOf a) x)
    { x with
        iCmd := if x.learning then 0 else x.iCmd, iq := if s.axType a = 3 then s.setPoint a x else x.iq
        atLimit := s.atLimitNow a x
        inFoldback := x.st.driven && decide (s.foldScale (flightOfAxis a) < 1), alignLeft := x.alignLeft - 1 })
  if s.pastLimit a (s.axis a) then s.lateStop a else s

/-- An axis on external steps stands once no step has come for INTERP_MAX: MOVING ends in HOLD (05 R182). DEDUCED (log 32). -/
def State.externalStill (s : State) (a : Nat) : State :=
  let x := s.axis a
  let last := x.stepStamp.getD 0
  if x.st == .moving && decide (last + s.interpMax a < s.sample * 50000) then s.modAxis a (fun x => x.toHold s.stamp) else s

/-- The step line of an axis with external steps, debounced: a rising edge awaits its step (05 R180). -/
def State.watchStepLine (s : State) (a : Nat) (x : Axis) : Axis :=
  if s.axType a = 3 && s.parN Par.axisStepSrc a 0 = 1 then
    let now := s.active (s.parN Par.axisExtStepLine a 0)
    { x with extWas := now, extRise := now && !x.extWas }
  else { x with extWas := false, extRise := false }

/-- Step 2 of an axis: the generator or the gear law, the steps that it issues, and its commanded acceleration (05 R168 to R188, 07 R228); the
schedule entries that fired. -/
def State.profileSample (s : State) (a : Nat) : List Nat × State :=
  let x := s.axis a
  let (y, fired) := s.advance a x
  let y := if s.axType a ≠ 3 || !x.st.driven then y
    else if s.parN Par.axisStepSrc a 0 = 0 then s.issueSteps a x.posCmd y
    else { y with microDone := y.microsteps (s.sample * 50000) }
  (fired, s.modAxis a (fun _ => s.watchStepLine a { y with accCmd := (y.vel - x.vel) / dt }))

/-- One sample of one axis (05 R161 steps 2 to 6; a solenoid loses its drive with the permission, R183). -/
def State.axisSample (s : State) (a : Nat) : State :=
  let s := s.redrive a
  match s.axType a with
  | 0 => s
  | 4 =>
    if (s.axis a).st == .hold && a % 3 = 2 && !s.permission (flightOfAxis a) then s.toIdle a else s
  | _ =>
    let s := s.judgeDecel a
    let (fired, s) := s.profileSample a
    let s := fired.foldl (fun s k => s.record Evt.gearRatioChanged a [word32 k, wordZ (s.axis a).gear.lastMaster.floor]) s
    let s := if s.axType a = 3 && s.parN Par.axisStepSrc a 0 ≠ 0 then s.externalStill a else s
    s.closeLoops a

/-- Step 1 of an axis, then steps 2 to 6 (05 R161). -/
def State.axisSteps (s : State) (a : Nat) : State :=
  ((s.takeInbox a).modAxis a (fun x => { x with stopped := false })).axisSample a

/-- One sample of one axis. A command on whose sample a check stops the axis is refused with STATE (05 R167): where the checks would stop the
axis without it as well. DEDUCED (log 91). -/
def State.axisWhole (s : State) (a : Nat) : State :=
  let t := s.axisSteps a
  if (s.axis a).inbox.isEmpty || (s.axis a).st == .faultStop || !t.lateDue a then t
  else
    let u := (s.modAxis a (fun x => { x with stopped := true })).axisSteps a
    if u.lateDue a then u else t

/-- The stop of a detection is taken at step 1 of the next sample: the generator stands where the leaf is and brakes from there (07
R248). DEDUCED (log 35). -/
def State.obstStop (s : State) (f : Nat) : State :=
  if !(s.obs f).stopNext then s
  else
    let s := s.modObs f (fun o => { o with stopNext := false })
    let s := s.modAxis (leafOf f) (fun x => { x with posCmd := x.pos, vel := x.velF, acc := 0 })
    (s.axisCommand (leafOf f) false false .quickStop).2

/-- The obstacle model of a flight on a sample, with the records of its conditions (07 R230, R245, R248). DEDUCED (log 35). -/
def State.obstStep (s : State) (f : Nat) : State :=
  let o := s.obs f
  let s := s.modObs f (fun o => s.obstSample f (s.axis (leafOf f)).iqMean o)
  let n := s.obs f
  let s := s.recordIf (!o.tempInvalid && n.tempInvalid) Evt.obstTempInvalid f []
  let s := s.recordIf (!o.edgeFault && n.edgeFault) Evt.obstEdgeFault f []
  if n.clampIq.isSome && !n.stopNext && s.atRest (leafOf f) then
    s.modObs f (fun o => { o with clampIq := none })
  else s

/-! ### What the gallery collects of a sample (11 R386, R387) -/

def State.cycSample (s : State) (f : Nat) : State :=
  if s.mode != .run || !s.hasDoor f then s
  else
    let o := s.obs f
    let iq := absR (s.axis (leafOf f)).iq
    let n := (s.door f).attempt
    s.modCyc f (fun c => { c with
        fOpen := if o.watching && !o.closing then some (maxR (c.fOpen.getD o.f) o.f) else c.fOpen
        fClose := if o.watching && o.closing then some (maxR (c.fClose.getD o.f) o.f) else c.fClose
        iPeak := maxR c.iPeak iq, vinMin := some (match c.vinMin with | some v => minR v s.vin | none => s.vin)
        stepSamples := if (s.axis (stepOf f)).st.atRest then c.stepSamples else c.stepSamples + 1
        attempts := max c.attempts n, forced := c.forced || !s.prog.forces.isEmpty })

/-- A number of 16 signed bits, saturating. -/
def sat16 (q : Rat) : Int := clampZ (-32768) 32767 (truncR q)

/-- One sample of a trace. -/
def State.traceSampleOf (s : State) (f : Nat) (fMax : Rat) : TrSample :=
  let o := s.obs f
  let x := s.axis (leafOf f)
  let flags := bitN o.watching 0 + bitN (o.fire ≠ 0) 1 + bitN (s.active (12 * f + 7)) 2
    + bitN (decide (s.foldScale f < 1)) 3 + bitN (s.atClamp (leafOf f)) 4 + bitN (s.axis (stepOf f)).gear.geared 5
  { pos := x.pos, f := sat16 (fMax * 10), thresh := if o.watching then sat16 (o.thresh * 10) else 0, iq := sat16 (x.iq * 1000),
    vel := sat16 (x.velF / 16), vin := satN 16 (truncR (s.vin * 100)).toNat, flags := BitVec.ofNat 8 flags,
    door := (s.door f).st.code }

/-- A stroke begins: its trace, unless tracing is off. DESIGN CHOICE (log 13). -/
def State.traceBegin (s : State) (f kind : Nat) (late : Bool) : State :=
  let o := s.obs f
  let d := s.parN Par.galleryTraceDecim 0 0
  let tr : Trace := { Trace.reset with
      pcyc := s.gallery.powerCycles, optime := s.optimeNow, flight := f, kind := kind
      flags := BitVec.ofNat 8 (bitN (!s.prog.forces.isEmpty) 2 + bitN late 3)
      cycleNo := s.gallery.flightCycles.getD f 0 + 1, decim := d, scaleNum := s.parN Par.axisScaleNum (leafOf f) 0
      scaleDen := s.parN Par.axisScaleDen (leafOf f) 0
      mapCrc := Config.mapCrc (s.mapInUse f o.closing)
      kTemp := toReal32 o.kTemp, slope := s.par Par.obstacleSlopeIn f 0 }
  s.modStaging f (fun _ => { Staging.reset with active := true, tr := tr, first := s.sample })

/-- One safety sample of a trace: a new trace sample every DECIM of them, F the largest of those it covers. DEDUCED (log 51). -/
def State.traceAdd (s : State) (f : Nat) : State :=
  let o := s.obs f
  s.modStaging f (fun g =>
    let fresh := g.sub = 0
    let fm := if fresh then o.f else maxR g.fMax o.f
    let x := s.traceSampleOf f fm
    let total := if fresh then g.total + 1 else g.total
    let tr := { g.tr with
        samples := if fresh then (x :: g.tr.samples).take 8000 else x :: g.tr.samples.drop 1
        detect := if o.fire ≠ 0 then some (g.tr.detect.getD (total - 1)) else g.tr.detect
        flags := g.tr.flags ||| BitVec.ofNat 8 (bitN (!s.prog.forces.isEmpty) 2) }
    { g with tr := tr, total := total, sub := if g.sub + 1 < g.tr.decim then g.sub + 1 else 0, fMax := fm })

/-- The trace of a flight on a sample. A stroke that finds the last trace unwritten is sampled from when it has been (11 R387). -/
def State.traceSample (s : State) (f : Nat) : State :=
  let s := s.traceOver f (strokeKind (s.door f).st)
  let g := s.gallery.staging.getD f .reset
  match strokeKind (s.door f).st with
  | none => s.modStaging f (fun g => { g with waits := false })
  | some k =>
    if g.done then s.modStaging f (fun g => { g with waits := true })
    else if s.parN Par.galleryTraceMode 0 0 = 0 then s
    else (if g.active then s else s.traceBegin f k g.waits).traceAdd f

/-! ### MOTION_SAMPLE -/

/-- The motion engines and their sequencers, while Hall A runs (05 R161, 06 R192). DEDUCED (log 19). -/
def State.engines (s : State) (i : SampleIn) : State :=
  let s := s.forEach 36 (fun s a => s.currentLoop i a)
  let s := s.forEach 12 State.obstStop
  let s := s.forEach 36 State.axisWhole
  let s := s.forEach 12 State.obstStep
  let s := s.forEach 12 State.traceSample
  let s := s.forEach 12 State.cycSample
  s.forEach 12 State.seqSample

/-- The sample of a safety tick on its way: what a freeze on that tick takes is kept first (10 R329). -/
def State.keepBefore (s : State) : State :=
  if s.sample + 1 ≠ 8 * s.tick + 8 then s
  else { s with
      prog := { s.prog with
          before := ⟨s.tick + 1, s.senses, s.ports, s.axes, s.doors, s.treads, s.flightBudgets, s.supply.lhPins, s.train.subs,
            s.can.rpdos⟩ } }

/-- What one 125 µs safety sample does (05 R161). DEDUCED (log 19). -/
def State.motionSample (s : State) (i : SampleIn) : State :=
  let s := s.keepBefore
  let s := { s with clock := { s.clock with sample := s.clock.sample + 1 } }
  let s := ((s.samplePower i).sampleInputs i).sampleSafety
  let s := s.causeStops
  (if s.hallAUp then s.engines i else s).ringSample

/-- MOTION_SAMPLE: the next safety sample, unless a safety tick is due first (01 R35, 05 R161). DESIGN CHOICE (log 2). -/
def execMotionSample (i : SampleIn) (s : State) : Host.Outcome State Fault Refusal := .next (if s.sampleDue then s.motionSample i else s)

/-! ### Events of the axes -/

/-- AXIS_DEVIATION: |dev| above DEV_WINDOW on DEV_TIME consecutive samples (05 R178). -/
def execAxisDeviation (a : Nat) (s : State) : Host.Outcome State Fault Refusal :=
  onUnit (a < s.nAxes) (if s.devDue a then s.lateStop a else s)

/-- AXIS_OVERSPEED: the speed above OVERSPEED on 8 consecutive samples (05 R179). -/
def execAxisOverspeed (a : Nat) (s : State) : Host.Outcome State Fault Refusal :=
  onUnit (a < s.nAxes) (if s.fastDue a then s.lateStop a else s)

/-- AXIS_HOLD_TIMEOUT: HOLD_TIME has elapsed in HOLD (05 R165). DEDUCED (log 33). -/
def execAxisHoldTimeout (a : Nat) (s : State) : Host.Outcome State Fault Refusal :=
  onUnit (a < s.nAxes)
    (let x := s.axis a
    let h := s.parN Par.axisHoldTime a 0
    if x.st == .hold && s.isPhase a && decide (h ≠ 0) && decide (x.holdSince + h ≤ s.ms) then s.toIdle a else s)

/-- INJECT finds no angle in the responses to its six pulses: the largest is below a tenth of I_MAX, or they differ by less than 3 % of it (05
R160). -/
def injectFails (iMax : Rat) (responses : List Rat) : Bool :=
  let hi := responses.foldl maxR 0
  let lo := responses.foldl minR hi
  decide (hi < iMax / 10) || decide (hi - lo < hi * 3 / 100)

/-- The alignment fails (05 R160): INJECT by its responses, HALL on code 000 or 111 of the flight's other port. -/
def State.alignFails (s : State) (a : Nat) (responses : List Rat) : Bool :=
  if s.parN Par.axisComm a 0 = 1 then
    let code := match s.fbPort a with | some p => (s.port (otherPort p)).hallCode | none => 0
    code = 0 || code = 7
  else injectFails (s.parR Par.axisIMax a 0) responses

/-- ALIGN_COMPLETE: the angle is found, coarsely, and the command starts; or it is not, and the axis takes the fault stop (05 R159, R160,
R165). Which angle it is, within the accuracy of the method, is the motor's. DESIGN CHOICE (log 30). -/
def execAlignComplete (a : Nat) (responses : List Rat) (s : State) : Host.Outcome State Fault Refusal :=
  onUnit (a < s.nAxes)
    (let x := s.axis a
    if x.st != .aligning || x.alignLeft ≠ 0 then s
    else if s.alignFails a responses then (s.record Evt.commFault a []).faultStop a [13]
    else
      ((s.modAxis a (fun x => { x with
            st := .moving, commOk := true, commCoarse := true, countRef := (Config.freeWord s.draws).toInt })).driveTreads
          (s.claimed a) .phase 0).draw)

/-- EXTERNAL_STEP: a rising edge of the step line of an axis with external steps on sample `at'`, the last one (05 R180, R181). An axis at rest
is driven from its first step on. DEDUCED (log 32). -/
def execExternalStep (a at' : Nat) (s : State) : Host.Outcome State Fault Refusal :=
  onUnit (a < s.nAxes)
    (let x := s.axis a
    let rest := x.st == .idle || x.st == .hold || x.st == .moving
    if !x.extRise || at' ≠ s.sample then s
    else
      let s := s.modAxis a (fun x => { x with extRise := false })
      if s.axType a ≠ 3 || s.parN Par.axisStepSrc a 0 ≠ 1 || !rest || !(s.activeCauses a).isEmpty ||
          !s.flightEnabled (flightOfAxis a) then s
      else
        let stamp := s.sample * 50000
        let up := s.active (s.parN Par.axisExtDirLine a 0)
        let s := if x.st == .moving then s else s.energise a
        let s := s.modAxis a (fun x =>
          let y := x.coarseStep up 1 x.stepStamp (x.stepUp == up) stamp (s.interpMax a) s.stamp
          { y with posCmd := y.posCmd + (if up then 1 else -1), microDone := y.microsteps stamp })
        if s.pastLimit a (s.axis a) then s.lateStop a else s)

/-- STEPPER_HOLD_CURRENT: HOLD_DELAY has passed at standstill, which is INTERP_MAX without a coarse step (05 R181, R182).
DEDUCED (log 33). -/
def execStepperHoldCurrent (a : Nat) (s : State) : Host.Outcome State Fault Refusal :=
  onUnit (a < s.nAxes)
    (let x := s.axis a
    let since := x.stillSince + s.parN Par.axisInterpMax a 0 + s.parN Par.axisHoldDelay a 0
    if s.axType a = 3 && decide (since ≤ s.ms) then s.modAxis a (fun x => { x with holdCurrent := true }) else s)

/-- SOLENOID_PULL_END: PULL_MS has elapsed; the tread goes to HOLD_DUTY (05 R183). -/
def execSolenoidPullEnd (a : Nat) (s : State) : Host.Outcome State Fault Refusal :=
  onUnit (a < s.nAxes)
    (match (s.axis a).pullSince with
    | none => s
    | some t =>
      if s.axType a = 4 && (s.axis a).st == .hold && decide (t + s.parN Par.axisPullMs a 0 ≤ s.ms) then
        let s := s.modAxis a (fun x => { x with pullSince := none })
        s.driveTreads (s.claimed a) .highSide (s.holdDuty a)
      else s)

/-- GEAR_MASTER_LOST (05 R188). -/
def execGearMasterLost (a : Nat) (s : State) : Host.Outcome State Fault Refusal :=
  onUnit (a < s.nAxes)
    (if s.masterLost a then s.lateStop a else s)

end Sys2Proof.Machine
end

