-- ==== Sys2Proof/Machine/Doorway.lean ====
section
/-! DEFINITION. The events of the doorways (06) and of the obstacle models (07). -/

namespace Sys2Proof.Machine

/-- An event of a flight's sequencers: they run only in RUN (06 R194). -/
def seqEvent (f : Nat) (s : State) (act : State → State) : Host.Outcome State Fault Refusal :=
  onUnit (f < s.nFlights) (if s.mode != .run || !s.hallAUp then s else act s)

/-! ### The command taken (06 R199, R201) -/

/-- DOOR_OPEN: the sequencer takes OPEN. -/
def execDoorOpen (f : Nat) (s : State) : Host.Outcome State Fault Refusal := seqEvent f s (·.judgeTaken f .open')

/-- DOOR_CLOSE: the sequencer takes CLOSE. -/
def execDoorClose (f : Nat) (s : State) : Host.Outcome State Fault Refusal := seqEvent f s (·.judgeTaken f .close)

/-- DOOR_STOP: the sequencer takes STOP. -/
def execDoorStop (f : Nat) (s : State) : Host.Outcome State Fault Refusal := seqEvent f s (·.judgeTaken f .stop)

/-- ISOLATE (06 R207). -/
def execIsolate (f : Nat) (s : State) : Host.Outcome State Fault Refusal := seqEvent f s (·.judgeTaken f .isolate)

/-- DEISOLATE (06 R207). -/
def execDeisolate (f : Nat) (s : State) : Host.Outcome State Fault Refusal := seqEvent f s (·.judgeTaken f .deisolate)

/-- DOOR_REFERENCE: the sequencer takes REFERENCE. -/
def execDoorReference (f : Nat) (s : State) : Host.Outcome State Fault Refusal := seqEvent f s (·.judgeTaken f .reference)

/-- RESET_FAULT (06 R210). -/
def execResetFault (f : Nat) (s : State) : Host.Outcome State Fault Refusal := seqEvent f s (·.judgeTaken f .resetFault)

/-- EGRESS (06 R208). -/
def execEgress (f : Nat) (s : State) : Host.Outcome State Fault Refusal := seqEvent f s (·.judgeTaken f .egress)

/-! ### Timeouts (06 R201, R203, R212, R213) -/

/-- The row of the table that applies is taken when it is one of the given kinds; any other that stands above it is left to the next sample (06
R201). -/
def State.timeoutRow (s : State) (f : Nat) (tags : List RowTag) : State :=
  if !s.hasDoor f || (s.door f).st == .inactive || s.rowTaken f then s
  else
    match s.doorRow f none with
    | some r => if tags.contains r.tag then (r.act s).markFaults f else s
    | none => s

/-- WARN_TIMEOUT: WARN_MS has elapsed since CLOSE_PENDING was set: CLOSING (06 R203). -/
def execWarnTimeout (f : Nat) (s : State) : Host.Outcome State Fault Refusal := seqEvent f s (·.timeoutRow f [.warnTimeout])

/-- The LOCK block enters FAULT when its timeout in a state is due, and the DOOR that is evaluated after it sees that; else the DOOR's own row
may be due (06 R192, R201, R209, R213). -/
def State.lockTimeout (s : State) (f : Nat) (st : LockState) (tag : RowTag) : State :=
  if s.hasComposite btLock f && (s.door f).lockSt == st && s.lockTimedOut f then (s.lockFails f false).timeoutRow f [.plain, tag]
  else s.timeoutRow f [tag]

/-- LOCK_NO_RELEASE: UNLOCK_MS has elapsed and the locked pair is not inactive. -/
def execLockNoRelease (f : Nat) (s : State) : Host.Outcome State Fault Refusal :=
  seqEvent f s (·.lockTimeout f .releasing .noRelease)

/-- LOCK_NOT_ENGAGED: LOCK_MS has elapsed without locked both. -/
def execLockNotEngaged (f : Nat) (s : State) : Host.Outcome State Fault Refusal :=
  seqEvent f s (·.lockTimeout f .engaging .notEngaged)

/-- CLOSED_NOT_CONFIRMED: CLOSE_CONFIRM_MS has elapsed at the closed position without closed both. -/
def execClosedNotConfirmed (f : Nat) (s : State) : Host.Outcome State Fault Refusal := seqEvent f s (·.timeoutRow f [.notConfirmed])

/-- STEP_CONFIRM_TIMEOUT: STEP_CONFIRM_MS has elapsed at the retracted position without retracted both. -/
def execStepConfirmTimeout (f : Nat) (s : State) : Host.Outcome State Fault Refusal :=
  seqEvent f s (fun s => if s.hasComposite btStep f && s.stepTimedOut f then s.stepFault f else s)

/-! ### The commands of standalone blocks (06 R212, R213, R223) -/

/-- A standalone STEP takes the command that its program half has entered: 1 EXTEND, 2 RETRACT, 3 STOP, 4 REFERENCE, 5 RESET. -/
def State.takeStep (s : State) (f cmd : Nat) : State :=
  if (s.door f).stepReq ≠ some cmd || s.hasDoor f || !s.hasComposite btStep f then s
  else
    let s := s.setDoor f (fun d => { d with stepReq := none })
    match cmd with
    | 1 => (s.stepExtend f).2
    | 2 => (s.stepRetract f).2
    | 3 => (s.stepStop f).2
    | 4 => if (s.door f).ref.active || !s.stepFitted f then s else s.startRun f (some (stepOf f)) false
    | 5 => (s.stepReset f).2
    | _ => s

/-- A standalone LOCK takes its command: 1 RELEASE, 2 ENGAGE, 3 RESET. -/
def State.takeLock (s : State) (f cmd : Nat) : State :=
  if (s.door f).lockReq ≠ some cmd || s.hasDoor f || !s.hasComposite btLock f then s
  else
    let s := s.setDoor f (fun d => { d with lockReq := none })
    match cmd with
    | 1 => (s.lockRelease f).2
    | 2 => s.lockEngage f
    | 3 => (s.lockReset f).2
    | _ => s

/-- A standalone REFERENCE starts a run. -/
def State.takeRef (s : State) (f : Nat) : State :=
  if !(s.door f).refReq || s.hasDoor f || !s.hasComposite btReference f then s
  else
    let s := s.setDoor f (fun d => { d with refReq := false })
    if (s.door f).ref.active then s else s.startRun f none false

/-- EXTEND. -/
def execExtend (f : Nat) (s : State) : Host.Outcome State Fault Refusal := seqEvent f s (·.takeStep f 1)

/-- RETRACT. -/
def execRetract (f : Nat) (s : State) : Host.Outcome State Fault Refusal := seqEvent f s (·.takeStep f 2)

/-- STEP_STOP. -/
def execStepStop (f : Nat) (s : State) : Host.Outcome State Fault Refusal := seqEvent f s (·.takeStep f 3)

/-- STEP_REFERENCE. -/
def execStepReference (f : Nat) (s : State) : Host.Outcome State Fault Refusal := seqEvent f s (·.takeStep f 4)

/-- STEP_RESET. -/
def execStepReset (f : Nat) (s : State) : Host.Outcome State Fault Refusal := seqEvent f s (·.takeStep f 5)

/-- LOCK_RELEASE. -/
def execLockRelease (f : Nat) (s : State) : Host.Outcome State Fault Refusal := seqEvent f s (·.takeLock f 1)

/-- ENGAGE. -/
def execEngage (f : Nat) (s : State) : Host.Outcome State Fault Refusal := seqEvent f s (·.takeLock f 2)

/-- LOCK_RESET. -/
def execLockReset (f : Nat) (s : State) : Host.Outcome State Fault Refusal := seqEvent f s (·.takeLock f 3)

/-- REFERENCE_START (06 R223). -/
def execReferenceStart (f : Nat) (s : State) : Host.Outcome State Fault Refusal := seqEvent f s (·.takeRef f)

/-- HARDSTOP_FOUND: the stop has stood for REF_STALL_MS and is declared (06 R216). -/
def execHardstopFound (f : Nat) (s : State) : Host.Outcome State Fault Refusal :=
  seqEvent f s (fun s => if s.stallDue f then s.foundStop f else s)

/-- HARDSTOP_RELEASE_END: the current has been released over 10 ms (06 R216). -/
def execHardstopReleaseEnd (f : Nat) (s : State) : Host.Outcome State Fault Refusal :=
  seqEvent f s (fun s =>
    let r := (s.door f).ref
    if r.active && r.phase == .release && decide (r.releaseAt + 10 ≤ s.ms) then s.stopReleased f else s)

/-! ### The obstacle reaction (07 R247 to R252) -/

/-- The door enters REVERSING; a detection in the reversal move keeps the reaction (06 R206, 07 R248 to R252). -/
def State.enterReaction (s : State) (f : Nat) : State :=
  let d := s.door f
  let s := if s.stepSeq f = 1 || s.stepSeq f = 2 then (s.stepStop f).2 else s
  if d.st == .reversing then s.setDoor f (fun d => { d with reaction := some .brakingBack })
  else
    let opening := d.st == .opening
    let s := s.enterDoor f .reversing
    s.setDoor f (fun d => { d with
        reaction := some .braking, reactOpening := opening
        reactGiveUp := !opening && decide (s.parN Par.obstacleAttempts f 0 ≤ d.attempt), reactZone := (s.obs f).zone })

/-- OBSTACLE_DETECTED: an enabled trigger has fired on the last sample (07 R247). A row of the table that ranks above the obstacle rows and has
matched on that sample has taken the door elsewhere: the detection is kept and recorded, the stop is taken, and there is no reaction (R253). -/
def execObstacleDetected (f : Nat) (s : State) : Host.Outcome State Fault Refusal :=
  seqEvent f s (fun s =>
    match (s.obs f).found with
    | none => s
    | some (fire, args) =>
      let o := s.obs f
      let x := s.axis (leafOf f)
      let s := if s.detecting f then s.enterReaction f else s
      let s := s.modObs f (fun n => { n with
          lastTrig := fire, lastPos := x.pos, lastF := o.f, detections := satInc n.detections, watching := false, fire := 0
          found := none, strokeAt := none, inStart := false, stopNext := true, closing := o.closing, stopped := true
          clampIq := some (s.travelSign f o.closing * x.iCmd) })
      let s := s.modCyc f (fun c => { c with detections := c.detections + 1, trigs := c.trigs ||| fire })
      s.record Evt.obstacleDetected f args)

/-- REVERSAL_START: the leaf is at rest after a detection in closing (07 R248). -/
def execReversalStart (f : Nat) (s : State) : Host.Outcome State Fault Refusal :=
  seqEvent f s (fun s =>
    let d := s.door f
    if d.st == .reversing && d.reaction == some .braking && !(s.obs f).stopNext && s.turnDone f then
      match s.reversalTarget f with
      | some t => s.startReversal f t
      | none => s
    else s)

/-- RECLOSE_ATTEMPT: REV_PAUSE_MS has elapsed (07 R249). -/
def execRecloseAttempt (f : Nat) (s : State) : Host.Outcome State Fault Refusal :=
  seqEvent f s (fun s =>
    let d := s.door f
    match d.reaction with
    | some (.pause t) =>
      if d.st == .reversing && decide (t + s.parN Par.obstacleRevPauseMs f 0 ≤ s.ms) then
        (s.setDoor f (fun d => { d with attempt := d.attempt + 1 })).closeDoor f
      else s
    | _ => s)

/-- START_MARGIN_END: START_MS has elapsed, on the sample grid, since the stroke's first move started (07 R242). DESIGN CHOICE (log 90). -/
def execStartMarginEnd (f : Nat) (s : State) : Host.Outcome State Fault Refusal :=
  seqEvent f s (fun s =>
    match (s.obs f).strokeAt with
    | none => s
    | some t =>
      if t + 8 * s.parN Par.obstacleStartMs f 0 ≤ s.sample then s.modObs f (fun o => { o with inStart := false }) else s)

/-! ### Learning (07 R234, R238) -/

/-- LEARN_UPDATE: GE has confirmed the MRAM write within 100 ms, and the working map takes the update. -/
def execLearnUpdate (f : Nat) (s : State) : Host.Outcome State Fault Refusal :=
  onUnit (f < s.nFlights)
    (match (s.obs f).update with
    | none => s
    | some (m, t, bad) =>
      if !s.hallBUp || !s.hallAUp || t + 100 ≤ s.tick then s
      else
        let was := (s.obs f).map
        let s := s.modObs f (fun o => { o with map := m, update := none })
        let s := match bad with
          | some (bin, v) => s.recordIf (!was.drift) Evt.obstMapDrift f [word32 bin, toReal32 v]
          | none => s
        s.recordIf (!was.mature && m.mature) Evt.obstMapMature f [])

/-- LEARN_CONFIRM_TIMEOUT: no confirmation in 100 ms: the update is discarded, and the cycle counts as unclean. -/
def execLearnConfirmTimeout (f : Nat) (s : State) : Host.Outcome State Fault Refusal :=
  onUnit (f < s.nFlights)
    (match (s.obs f).update with
    | none => s
    | some (_, t, _) =>
      if s.tick < t + 100 then s
      else s.modObs f (fun o => { o with update := none, lastUnclean := o.lastUnclean ||| 0x400 }))

/-- TEMP_IN_TIMEOUT: TEMP_IN has not been written for 60 s (07 R230). -/
def execTempInTimeout (f : Nat) (s : State) : Host.Outcome State Fault Refusal :=
  onUnit (f < s.nFlights)
    (match (s.obs f).tempInAt with
    | none => s
    | some t => if s.tick < t + 60000 then s else s.modObs f (fun o => { o with tempTimeout := true }))

end Sys2Proof.Machine
end

