-- ==== Sys2Proof/Machine/ProgramCycle.lean ====
section
/-! DEFINITION. The program cycle (10 R327 to R336, R364, R368 to R370): output write, latches, CAN and TRDP, input freeze, forces,
execution, overruns, cold starts, the switch. -/

namespace Sys2Proof.Machine

/-! ### Step 1: the output write (10 R328, R334, R339) -/

/-- A bound tread or AUX output takes its variable's value. -/
def State.writeBound (s : State) (v : Var) : State :=
  let on := s.readVar v ≠ 0
  let u := v.bindInst.toNat
  if v.bindKind = bindTread then
    let m : TMode := if !on || s.mode == .standby then .off else if s.treadCfg u = 2 then .highSide else .lowSide
    s.driveTread u m (s.parR Par.treadSwDuty u 0)
  else if v.bindKind = bindAux then s.setAux u on none
  else s

/-- A gallery event of an EVENT block, flagged PROGRAM, whose source is the block's INST_ID: BUSY where Hall A's buffer is full (10 R349, 11 R384). The intake
of the gallery may still refuse it (`State.intakeRefused`). -/
def State.applyEvent (s : State) (id : BitVec 16) (code sev : Nat) (args : List (BitVec 32)) : State :=
  let full := !s.hallBUp && decide (64 ≤ s.gallery.hallA.length)
  (s.recordAs ⟨code, sev⟩ id.toNat args 0x04).settle id (if full then stBusy else stOK)

/-- A composite of a flight in RUN takes a command from its own input: not while the flight has a DOOR (06 R194, R223). -/
def State.standalone (s : State) (f : Nat) : Bool := s.mode == .run && !s.hasDoor f

/-- An action of the completed cycle. A motion command is on its way to the engine, which judges it at the next sample (05 R161, R167). -/
def State.applyAction (s : State) : Action → State
  | .parWrite id pid v => let (st, s) := s.progParWrite pid.toNat v; s.settle id st
  | .motion id a m => s.post a m (.block id ((s.prog.insts.find? (fun x => x.inst = id)).elim 0 (·.type)))
  | .event id code sev args => s.applyEvent id code sev args
  | .door _ f cmd rank => s.applyDoor s.tick f cmd rank
  | .stepReq f cmd => if s.standalone f then s.setDoor f (fun d => { d with stepReq := some cmd }) else s
  | .lockReq f cmd => if s.standalone f then s.setDoor f (fun d => { d with lockReq := some cmd }) else s
  | .refReq f => if s.standalone f then s.setDoor f (fun d => { d with refReq := true }) else s

/-- The order of the output write: writes and motion commands, then events, then entries. -/
def Action.order : Action → Nat
  | .parWrite _ _ _ | .motion _ _ _ => 0
  | .event _ _ _ _ => 1
  | _ => 2

/-- Step 1: the results of the cycle that completed. -/
def State.outputWrite (s : State) (c : Container) : State :=
  if s.prog.written then s
  else
    let s := c.vars.foldl State.writeBound s
    let acts := s.prog.actions
    let s := { s with prog := { s.prog with tx := s.prog.out, actions := [], written := true } }
    [0, 1, 2].foldl (fun s k => (acts.filter (fun a => a.order = k)).foldl State.applyAction s) s

/-! ### Step 2: the latches (06 R197, R223) -/

/-- What was taken at the last cycle start and is not yet judged, is judged now. -/
def State.finishTaken (s : State) (f : Nat) : State :=
  if s.mode != .run then s
  else
    let s := match (s.door f).taken with | some e => s.judge f e | none => s
    let s := match (s.door f).stepReq with | some k => s.takeStep f k | none => s
    let s := match (s.door f).lockReq with | some k => s.takeLock f k | none => s
    s.takeRef f

def State.finishAll (s : State) : State := s.forEach s.nFlights State.finishTaken

/-- Every latch takes its command, in RUN. -/
def State.takeLatches (s : State) : State := if s.mode != .run then s else s.forEach s.nFlights State.takeLatch

/-! ### Step 3: SYNC, TPDOs and TRDP (10 R357, R358, 09 R320) -/

/-- The TPDOs of a port, in ascending index order. -/
def State.tpdos (s : State) (p : Nat) : List (BitVec 11 × Bytes) :=
  (List.range 64).filterMap (fun n =>
    let id := s.par Par.canTpdoCobid 0 n
    let cfg := s.par Par.canTpdoCfg 0 n
    if id = 0 || wfield cfg 0 0 ≠ p then none
    else some (id.setWidth 11, Memory.readBytes s.prog.tx (s.parN Par.canTpdoOffset 0 n) (wfield cfg 7 1)))

/-- SYNC and the TPDOs of each port. DEDUCED (log 49). -/
def State.sendCan (s : State) : State :=
  s.forEach 2 (fun s p => s.canSendAll p ((if s.parN Par.canSyncEn 0 p = 1 then [(0x080, [])] else []) ++ s.tpdos p))

/-- DEDUCED (log 49). -/
def State.sendCyclic (s : State) : State := s.sendCan.publish

/-! ### Step 4: the freeze (10 R329, R330, R339, R347, R348) -/

/-- The value of an input binding. -/
def State.bindValue (s : State) (v : Var) : BitVec 32 :=
  let u := v.bindInst.toNat
  let k := v.bindItem.toNat
  let of (x : Option (BitVec 32)) : BitVec 32 := x.getD 0
  match v.bindKind.toNat with
  | 0x0101 => boolVal (s.active u)
  | 0x0102 => boolVal (s.settled u (s.sense u).p).valid
  | 0x0103 => of (s.viewSense u 3)
  | 0x0201 => of (s.viewPort u 1)
  | 0x0202 => of (s.viewPort u 2)
  | 0x0203 => of (s.viewPort u 4)
  | 0x0204 => of (s.viewPort u 6)
  | 0x0205 => of (s.viewPort u (0x40 + k))
  | 0x0206 => of (s.viewPort u 0x0B)
  | 0x0301 => of (s.viewAxis u 1)
  | 0x0302 => of (s.viewAxis u 2)
  | 0x0303 => of (s.viewAxis u 3)
  | 0x0401 => s.treadStatus u
  | 0x0501 => s.flightStatus u
  | 0x0601 => of (s.viewSupply 0x130)
  | 0x0701 => s.prog.cycleCount
  | 0x0702 => word32 (s.tick - s.prog.startTick)
  | 0x0703 => word32 s.mode.code
  | 0x0704 => of (s.viewTrdp 1)
  | 0x0705 => of (s.viewCan (7 + k))
  | 0x0706 => of (s.viewCan (0x20 + k))
  | 0x0707 => s.safetyStatus
  | _ => 0

/-- An RPDO entry as it stood before the tick (10 R329, R359). -/
def State.rpdoBefore (s : State) (n : Nat) : Rpdo :=
  (if s.prog.before.tick ≠ s.tick then s.can.rpdos else s.prog.before.rpdos).getD n .reset

/-- After a freeze, a frame counts for the next one where it came at this tick (10 R359). -/
def Rpdo.frozen (x : Rpdo) (fresh : Bool) (tick : Nat) : Rpdo := { x with fresh := fresh, got := x.got && decide (8 * tick ≤ x.gotAt) }

def State.canNode (s : State) (k : Nat) : CanNode := s.can.nodes.getD k ⟨0, 0, 0⟩

/-- The RPDOs at a freeze: copied into the image, fresh or not; zero while an associated node is lost and the entry says so (10 R359, R360). -/
def State.freezeRpdos (s : State) : State :=
  s.forEach 64 (fun s n =>
    if s.par Par.canRpdoCobid 0 n = 0 then s
    else
      let cfg := s.par Par.canRpdoCfg 0 n
      let x := s.rpdoBefore n
      let zero := wbit cfg 13 && !wbit cfg 14 && (s.canNode (wfield cfg 12 8)).st = 2
      let data := if zero then List.replicate x.data.length 0 else x.data
      { s with
          can := { s.can with rpdos := s.can.rpdos.modify n (·.frozen x.got s.tick) }
          prog := { s.prog with inp := Memory.writeBytes s.prog.inp (s.parN Par.canRpdoOffset 0 n) data } })

/-- A motion block is finished, judged from the axis (10 R347). -/
def State.motionDone (s : State) (a : Nat) (x : BlockSt) : Bool :=
  let ax := s.axis a
  match x.kind with
  | 0 | 1 => ax.st == .hold && s.inPosition a && decide (ax.posCmd = (x.target : Rat))
  | 2 => decide (ax.vel = x.velTarget)
  | 3 => ax.st == .hold
  | 4 => ax.st == .idle
  | _ => true

/-- A motion instance at a freeze: its command's status when due, then DONE or ERR, a FAULT_STOP entered since it became BUSY; GEARED and
HELD. -/
def State.freezeMotion (s : State) (b : Block) (a : Nat) (x : BlockSt) : BlockSt :=
  let ax := s.axis a
  let x := match x.resultDue with
    | some (st, 0) =>
      { x with
          result := st, resultDue := none, running := x.busy && st = stOK, err := x.err || st ≠ stOK, busy := x.busy && st = stOK }
    | _ => x
  let x := if b.type = 0x42 then { x with q := ax.gear.geared } else if b.type = 0x43 then { x with q := ax.st == .hold } else x
  if x.busy && ax.fell then { x with busy := false, running := false, err := true }
  else if !(x.busy && x.running) then x
  else if s.motionDone a x then { x with busy := false, running := false, done := true }
  else x

/-- An instance at a freeze; a motion instance judges its axis as the freeze takes it. -/
def State.freezeInst (s : State) (b : Block) : State :=
  let x := s.inst b
  let s := if b.isMotion then s.modInst b.inst (fun x => s.asBefore.freezeMotion b ((b.constIn.map (·.toNat)).getD 0) x)
    else match x.resultDue with
      | some (st, 0) => s.modInst b.inst (fun x => { x with result := st, resultDue := none, done := st = stOK, err := st ≠ stOK })
      | _ => s
  let s := if b.type = 0x48 then
      let ((st, _, v), s) := s.readEntry 0 ((b.constIn.map (·.toNat)).getD 0)
      s.modInst b.inst (fun x => { x with cv := v.toInt, result := st })
    else s
  s.modInst b.inst (fun x => match x.resultDue with
    | some (st, k + 1) => { x with resultDue := some (st, k) }
    | _ => x)

/-- Step 4: the input image, and what the blocks see of their commands. -/
def State.freeze (s : State) (c : Container) : State :=
  let s := ({ s with prog := { s.prog with inp := [] } }).freezeSubs.freezeRpdos
  let s := c.vars.foldl (fun s v => if v.area == .inp && v.bindKind ≠ 0 then s.writeVar v (s.asBefore.bindValue v) else s) s
  let seen := s.asBefore
  let s := c.blocks.foldl State.freezeInst s
  { s with axes := s.axes.mapIdx (fun a x => { x with fell := x.fell && !(seen.axis a).fell }) }

/-! ### Steps 5 and 6: forces and execution (10 R364, R328) -/

def State.applyForces (s : State) (c : Container) : State :=
  s.prog.forces.foldl (fun s f => match c.var? f.var with
    | some v => s.writeVar v f.value
    | none => s) s

def State.execute (s : State) (c : Container) : State :=
  let s := { s with
      prog := { s.prog with
          executing := some s.tick, actions := [], written := false, skips := 0, arithInCycle := false
          cycleCount := s.prog.cycleCount + 1 } }
  s.runBlocks c

/-! ### Cold start (10 R336) -/

/-- Bytes as a memory from address 0. -/
def memoryOf (bs : Bytes) : Memory := Memory.writeBytes [] 0 bs

def State.coldStart (s : State) (c : Container) (cause : Nat) : State :=
  let out := memoryOf (c.init.drop c.memSize)
  let s := { s with
      prog := { s.prog with
          run := true, startDue := none, stopCause := 0, mem := memoryOf (c.init.take c.memSize), out := out, tx := out, inp := []
          insts := c.blocks.map (fun (b : Block) => BlockSt.init b.inst b.type), cycleCount := 0, execMax := 0, arithErrors := 0
          arithInCycle := false, arithLast := false, overran := false, executing := none, actions := [], written := true, skips := 0
          startTick := s.tick } }
  let s := s.clearForces cause
  (s.record Evt.programStarted noSource [c.progId, c.version, word32 cause]).nmtStart

/-! ### The switch (10 R368 to R370) -/

/-- The memories of the new program: each variable of the same ID and type keeps its value. DEDUCED (log 46). -/
def State.carryVars (s : State) (old new : Container) : State :=
  let keep := new.vars.filterMap (fun v => match old.var? v.id with
    | some o => if o.ty == v.ty && o.area != .inp && v.area != .inp then some (v, s.readVar o) else none
    | none => none)
  let s := { s with
      prog := { s.prog with
          mem := memoryOf (new.init.take new.memSize), out := memoryOf (new.init.drop new.memSize), inp := [] } }
  keep.foldl (fun s (v, w) => s.writeVar v w) s

/-- The instances of the new program: the state of an instance of the same ID and type. DEDUCED (log 46). -/
def carryInsts (l : List BlockSt) (new : Container) : List BlockSt :=
  new.blocks.map (fun b => match l.find? (fun x => x.inst = b.inst && x.type = b.type) with
    | some x => x
    | none => BlockSt.init b.inst b.type)

/-- A list in pieces of 24, the variable IDs that one FORCE_DROPPED names (10 R370). -/
def pieces24 : Nat → List (BitVec 32) → List (List (BitVec 32))
  | 0, _ => []
  | n + 1, l => if l.isEmpty then [] else l.take 24 :: pieces24 n (l.drop 24)

/-- Forces without a variable of the same ID, type and image area are dropped: how many, and the state (10 R370). An event
names up to 24 of them, of which the eight arguments of its record show the first eight (11 R384, R385). DEDUCED (log 86). -/
def State.carryForces (s : State) (new : Container) : Nat × State :=
  let stays (f : Force) : Bool := match new.var? f.var with
    | some v => v.ty == f.ty && v.area == f.area
    | none => false
  let gone := (s.prog.forces.filter (fun f => !stays f)).map (fun f => word32 f.var.toNat)
  let s := { s with prog := { s.prog with forces := s.prog.forces.filter stays } }
  (gone.length, (pieces24 3 gone).foldl (fun s l => s.record Evt.forceDropped noSource l) s)

/-- The DOOR instance of a flight. -/
def Container.doorInst (c : Container) (f : Nat) : Option (BitVec 16) :=
  (c.blocks.find? (fun b => b.type.toNat = btDoor && b.flight = some f)).map (·.inst)

/-- The DOOR instance of a flight goes: its run is interrupted, its moving axes stop, and it is ISOLATED with cause NO_BLOCK (06 R193). A flight
that keeps no composite records nothing (R226). -/
def State.dropDoor (s : State) (f : Nat) : State :=
  let was := (s.door f).st
  let s := s.abortRun f 4
  let s := (((s.stopMoving (leafOf f)).stopMoving (stepOf f)).stepHalt f).lockEngage f
  let s := s.setDoor f (fun d => { d with isoNoBlock := true })
  if s.mode != .run || was == .isolated then s
  else (s.enterDoor f .isolated).recordIf (s.hasAnyBlock f) Evt.doorIsolated f [word32 (s.isoBits f)]

/-- The composites of a flight over the switch (06 R193): a DOOR instance that is new starts with the start-of-service evaluation; a STEP or a
LOCK that is new is set once (R212, R213). -/
def State.switchDoor (s : State) (old new : Container) (f : Nat) : State :=
  let fresh (ty : Nat) : Bool := s.mode == .run && new.hasComposite ty f && !old.hasComposite ty f
  let s := if old.doorInst f ≠ new.doorInst f && (old.doorInst f).isSome then s.dropDoor f else s
  let s := if fresh btLock then s.enterLock f (if s.lockedBoth f then .locked else .engaging) else s
  let s := if fresh btStep then s.stepService f else s
  if old.doorInst f ≠ new.doorInst f && (new.doorInst f).isSome then
    let s := s.setDoor f (fun d => { d with isoNoBlock := false })
    if s.mode == .run then s.startService f else s
  else s

/-- The outputs that no variable of the new program is bound to, and the axes that none of its motion blocks uses. -/
def State.dropOld (s : State) (old new : Container) : State :=
  let gone (kind : BitVec 16) : List Nat :=
    ((old.bound kind).filter (fun v => !(new.bound kind).any (fun w => w.bindInst = v.bindInst))).map (·.bindInst.toNat)
  let s := (gone bindTread).foldl (fun s t => s.driveTread t .off 0) s
  let s := (gone bindAux).foldl (fun s p => s.setAux p false none) s
  (old.motionAxes.filter (fun a => !new.motionAxes.contains a)).foldl (fun s a => s.seqCmd a .stop) s

/-- The states that take a program load or a switch. -/
def State.progOpen (s : State) : Bool := s.mode == .standby || s.mode == .run || s.mode == .maintenance

/-- The new program is current: state and forces carried over, the override kept, the request answered. DEDUCED (log 46). -/
def State.switchTo (s : State) (old new : Container) : State :=
  let insts := carryInsts s.prog.insts new
  let s := (s.carryVars old new)
  let (dropped, s) := s.carryForces new
  let s := s.dropOld old new
  let s := { s with
      prog := { s.prog with
          running := some new, insts := insts, pending := none, pendState := .empty, pendBytes := [], switchAt := none
          switches := s.prog.switches + 1, lastSwitch := 0, override := some new }
      sec := { s.sec with override := some new } }
  let s := s.forEach 12 (fun s f => s.switchDoor old new f)
  let s := s.record Evt.programSwitched noSource [old.progId, old.version, new.progId, new.version]
  s.answerExclusive stOK 0 (leBytes 4 new.progId.toNat ++ leBytes 4 new.version.toNat ++ leBytes 2 dropped ++ [0, 0])

/-- The conditions of a switch to the pending container, which it names (10 R368). -/
def State.switchable (s : State) (id version : Nat) : Bool :=
  match s.prog.running, s.prog.pending with
  | some old, some new =>
    s.prog.pendState == .ready && s.prog.run && s.progOpen && new.cycleMs = old.cycleMs && new.progId.toNat = id && new.version.toNat = version
  | _, _ => false

/-- A switch is refused: the old program runs on (10 R371). -/
def State.refuseSwitch (s : State) (status item : Nat) : State :=
  let s := { s with prog := { s.prog with switchAt := none, lastSwitch := word32 (status + 65536 * (item % 65536)) } }
  (s.record Evt.programSwitchRefused noSource [word32 status, word32 item]).answerExclusive status item []

/-! ### Overruns (10 R331 to R333) -/

/-- A start at which a cycle is still executing. -/
def State.skippedStart (s : State) (began : Nat) : State :=
  let first := s.prog.skips = 0
  let us := (s.tick - began) * 1000
  let at' := if first then (s.prog.starts :: s.prog.overrunAt).take 1000 else s.prog.overrunAt
  let s := { s with
      prog := { s.prog with
          skips := s.prog.skips + 1, skipped := s.prog.skipped + 1, overran := true, overrunAt := at'
          overruns := if first then s.prog.overruns + 1 else s.prog.overruns } }
  let s := s.recordIf first Evt.programOverrun noSource [word32 us]
  let esc := s.parN Par.programOverrunEsc 0 0
  let recent := (at'.filter (fun k => s.prog.starts < k + s.parN Par.programOverrunWin 0 0)).length
  let s := s.takeLatches
  if 3 ≤ s.prog.skips then (s.record Evt.programHung noSource [word32 us]).stopProgram 1
  else if first && esc ≠ 0 && decide (esc ≤ recent) then (s.record Evt.programEscalated noSource [word32 recent]).stopProgram 2
  else s.sendCyclic

/-! ### A cycle start (10 R328) -/

/-- The switch that waits is judged again at the cycle start (R371): its conditions (R368), which a container loaded since does not meet
unless it bears the same name, and the container itself on the configuration and the ownership as they now stand (R355). While the last
cycle executes it is deferred. DEDUCED (log 58). -/
def State.judgeSwitch (s : State) : State :=
  if s.prog.switchAt.isNone || s.prog.executing.isSome then s
  else if !s.switchable s.prog.switchFor.1 s.prog.switchFor.2 then s.refuseSwitch stState 0
  else match s.verifyContainer s.prog.pendBytes with
    | .inl _ => s
    | .inr (st, item) => s.refuseSwitch st item

/-- Steps 3 to 6. -/
def State.runCycle (s : State) (c : Container) : State := ((s.sendCyclic.freeze c).applyForces c).execute c

/-- A start at which no cycle executes: outputs, latches, the switch if one is due, then the new cycle. -/
def State.normalStart (s : State) (c : Container) : State :=
  let s := (s.outputWrite c).takeLatches.judgeSwitch
  match s.prog.switchAt, s.prog.pending with
  | some _, some new => (s.switchTo c new).runCycle new
  | _, _ => s.runCycle c

/-- A program cycle start of the running container. DEDUCED (log 45). -/
def State.cycleStart (s : State) (c : Container) : State :=
  let s := s.finishAll.canLate
  let masters := s.ring.masters.map (fun m => { m with missed := m.missed + 1 })
  let s := { s with
      prog := { s.prog with lastStart := some s.tick, spaced := false, starts := s.prog.starts + 1 }
      ring := { s.ring with masters := masters } }
  match s.prog.startDue with
  | some cause =>
    if s.mode == .update then s.takeLatches.judgeSwitch
    else ((s.takeLatches).coldStart c cause).runCycle c
  | none =>
    if !s.prog.run then s.takeLatches.judgeSwitch
    else match s.prog.executing with
      | some began => s.skippedStart began
      | none => s.normalStart c

/-- A cycle start is due: on its grid, after a slew T_cyc from the last, and one on a tick (10 R327, 13 R454). -/
def State.startFalls (s : State) : Bool := s.hallAUp && s.startAt s.tick && s.prog.lastStart ≠ some s.tick

/-- PROGRAM_CYCLE_START (10 R327, R328). DESIGN CHOICE (log 2). DEDUCED (log 45). -/
def execProgramCycleStart (s : State) : Host.Outcome State Fault Refusal :=
  match s.prog.running with
  | none => .next s
  | some c => .next (if s.startFalls then s.cycleStart c else s)

/-- PROGRAM_CYCLE_COMPLETE: the last instance has executed, `us` microseconds after the start (10 R328, R331). DEDUCED (log 45). -/
def execProgramCycleComplete (us : Nat) (s : State) : Host.Outcome State Fault Refusal :=
  match s.prog.executing with
  | none => .next s
  | some _ =>
    let t := word32 (satN 32 us)
    .next { s with
        prog := { s.prog with
            executing := none, execLast := t, execMax := if s.prog.execMax.toNat < t.toNat then t else s.prog.execMax
            overran := decide (s.prog.skips ≠ 0), arithLast := s.prog.arithInCycle } }

/-- SWITCH_ABANDONED: a switch not made within 1 s of its acceptance answers BUSY (10 R368). -/
def execSwitchAbandoned (s : State) : Host.Outcome State Fault Refusal :=
  match s.prog.switchAt with
  | none => .next s
  | some t => .next (if s.tick < t + 1000 then s else s.refuseSwitch stBusy 0)

/-! ### Loading beside the running program (10 R367) -/

/-- The deferred request of an opcode, if one waits. -/
def State.pendFor (s : State) (opcode : Nat) : Option Pend := s.host.pends.find? (fun p => p.opcode.toNat = opcode)

/-- The transfers of a kind end. -/
def State.endXfer (s : State) (k : XKind) : State :=
  { s with host := { s.host with xfers := s.host.xfers.filter (fun x => x.kind != k) } }

def opProgEnd : Nat := 0x0032

/-- PROGRAM_VERIFIED: KE has verified the pending container, and the transfer whose END it was is over (10 R355, R367, 12 R424). -/
def execProgramVerified (s : State) : Host.Outcome State Fault Refusal :=
  if s.prog.pendState != .verifying then .next s
  else
    let (st, item, s) := match s.verifyContainer s.prog.pendBytes with
      | .inl c => (stOK, 0, { s with prog := { s.prog with pending := some c, pendState := .ready, lastSwitch := 0 } })
      | .inr (st, item) =>
        (st, item, { s with
            prog := { s.prog with
                pending := none, pendState := .rejected, pendFinding := (st, item), lastSwitch := word32 (st + 65536 * (item % 65536)) } })
    let ending (x : Xfer) : Bool := x.kind == .prog && x.ending
    let s := { s with host := { s.host with xfers := s.host.xfers.filter (fun x => !ending x) } }
    match s.pendFor opProgEnd with
    | some p => .next (s.answer p st item [])
    | none => .next s

/-! ### Forces (10 R363 to R365) -/

/-- A force may be set or cleared now. -/
def State.forceOpen (s : State) : Bool :=
  (s.mode == .standby || s.mode == .run || s.mode == .maintenance) && s.prog.running.isSome && s.prog.run

/-- The lowest free force slot. -/
def State.freeSlot (s : State) : Option Nat := (List.range 64).find? (fun k => !s.prog.forces.any (fun f => f.slot = k))

/-- Set a force: status, item, slot, and the state after it. -/
def State.forceSet (s : State) (session : Nat) (id : BitVec 16) (w : BitVec 32) : (Nat × Nat × Nat) × State :=
  match s.prog.running with
  | none => ((stState, 0, 0), s)
  | some c => match c.var? id with
    | none => ((stBadParam, itemVar id.toNat, 0), s)
    | some v =>
      if v.area == .mem then ((stConflict, 0, 0), s)
      else if v.ty == .bool && 1 < w.toNat then ((stRange, 0, 0), s)
      else
        let slot := match s.prog.forces.find? (fun f => f.var = id) with
          | some f => some f.slot
          | none => s.freeSlot
        match slot with
        | none => ((stBusy, 0, 0), s)
        | some k =>
          let f : Force := { slot := k, var := id, ty := v.ty, area := v.area, value := w, session := session }
          let s := { s with prog := { s.prog with forces := s.prog.forces.filter (fun (f : Force) => f.var ≠ id) ++ [f] } }
          ((stOK, 0, k), s.record Evt.forceSet noSource [word32 id.toNat, w, word32 session])

/-- Clear a force. -/
def State.forceClear (s : State) (session : Nat) (id : BitVec 16) : Nat × State :=
  match s.prog.forces.find? (fun f => f.var = id) with
  | none => (stState, s)
  | some f =>
    let s := { s with prog := { s.prog with forces := s.prog.forces.filter (fun (f : Force) => f.var ≠ id) } }
    (stOK, s.record Evt.forceCleared noSource [word32 id.toNat, f.value, word32 session])

end Sys2Proof.Machine
end

