-- ==== Sys2Proof/Machine/SessionRows.lean ====
section
/-! DEFINITION. Sessions as commands (12 R413 to R420, R434): HELLO, AUTH, closing and timeouts, and the reads that any session may
make. -/

namespace Sys2Proof.Machine

/-! ### Opening a session (12 R416, R417) -/

/-- The session numbers of a transport, lowest first. -/
def sessionRange (sv : Bool) : List Nat := if sv then [1, 2, 3, 4] else (List.range 12).map (· + 16)

/-- The lowest free number of a transport. DEDUCED (log 55). -/
def State.freeSession (s : State) (sv : Bool) : Option Nat :=
  (sessionRange sv).find? (fun n => (s.session? (BitVec.ofNat 16 n)).isNone)

/-- A nonce of 16 bytes from KE's DRBG, and the state after the draw. DESIGN CHOICE (log 10). -/
def State.nonce (s : State) : Bytes × State := ((List.range 16).map (Config.drbg s.draws), s.draw)

/-- The key slot that a HELLO names holds a key for the role it asks for. -/
def State.keyFits (s : State) (slot role : Nat) : Bool :=
  match s.host.keys.getD slot none with
  | none => false
  | some k => decide (role ≤ k.role)

/-- A session opens: at once for OBSERVER, pending for any other role. DEDUCED (log 55). -/
def State.openSession (s : State) (p : Pend) (num role slot : Nat) (nc : Bytes) : State :=
  let (nm, s) := s.nonce
  let x : Session :=
    { num := BitVec.ofNat 16 num, role := role, sv := p.sv, src := p.src, slot := slot, nc := nc, nm := nm, pending := role ≠ 0
      key := none, high := p.seq, cache := [], fails := 0, openTick := s.stamp, lastTick := s.stamp }
  let s := { s with host := { s.host with sessions := s.host.sessions ++ [x] } }
  let s := s.recordIf (role = 0) Evt.hostSessionOpened noSource [word32 num, 0, word32 (xIdx p.sv)]
  s.replyRaw { p with session := x.num } none stOK 0 (leBytes 2 num ++ [BitVec.ofNat 8 role, 0] ++ nm)

/-- HELLO is served (12 R416, R417, R419). DEDUCED (log 55). -/
def State.serveHello (s : State) (p : Pend) (payload : Bytes) : State :=
  let role := fieldAt payload 0 1
  let slot := fieldAt payload 1 1
  if p.session ≠ 0 || 5 < role || (role ≠ 0 && 7 < slot) then s.answer p stRange 0 []
  else if s.hallB.inReset then s.answer p stBusy 0 []
  else if role ≠ 0 && (s.lockedOut p.sv || !s.keyFits slot role) then (s.answer p stAuthFail 0 []).countFail p.sv
  else match s.freeSession p.sv with
    | none => s.answer p stBusy 0 []
    | some n => s.openSession p n role slot ((payload.drop 4).take 16)

/-- HELLO (12 R417). -/
def execHello (k : Pkt) (s : State) : Host.Outcome State Fault Refusal :=
  match s.vet { code := 0x0000, perm := .read, noSession := true, lenOk := k.payload.length = 20 } k with
  | .settled s => .next s
  | .served s p _ _ => .next (s.serveHello p k.payload)

/-! ### Authentication (12 R417, R419) -/

def ascii (cs : List Char) : Bytes := cs.map (fun c => BitVec.ofNat 8 c.toNat)

/-- The proof that a pending session owes: HMAC under its slot's key. -/
def Session.proof (x : Session) (key : Bytes) : Bytes :=
  mac16 key (ascii ['L', 'V', 'A', 'U'] ++ x.nm ++ x.nc ++ leBytes 2 x.num.toNat ++ leBytes 1 x.role)

/-- The session key. -/
def Session.deriveKey (x : Session) (key : Bytes) : Bytes :=
  hmac key (ascii ['L', 'V', 'S', 'K'] ++ x.nc ++ x.nm ++ leBytes 2 x.num.toNat)

/-- AUTH is served: a right proof opens the session, unless its transport is locked out (12 R417, R419). -/
def State.serveAuth (s : State) (p : Pend) (x : Session) (payload : Bytes) : State :=
  match s.host.keys.getD x.slot none with
    | none => (s.answer p stAuthFail 0 []).authFailed x
    | some k =>
      if payload ≠ x.proof k.key then (s.answer p stAuthFail 0 []).authFailed x
      else if s.lockedOut p.sv then (s.answer p stAuthFail 0 []).failIn x
      else
        let ks := x.deriveKey k.key
        let s := s.modSession x.num (fun x => { x with pending := false, key := some ks, fails := 0 })
        let s := s.record Evt.hostSessionOpened noSource [word32 x.num.toNat, word32 x.role, word32 (xIdx x.sv)]
        s.answer p stOK 0 (mac16 ks (ascii ['L', 'V', 'O', 'K'] ++ x.nc))

/-- The session that a packet names waits for AUTH. -/
def State.authPending (s : State) (k : Pkt) : Bool :=
  match s.session? k.hdr.session with
  | none => false
  | some x => x.pending

/-- AUTH: accepted only by a pending session (12 R417, R422). -/
def execAuth (k : Pkt) (s : State) : Host.Outcome State Fault Refusal :=
  match s.vet { code := 0x0001, perm := .read, permOk := s.authPending k, pendingOk := true, lenOk := k.payload.length = 16 } k with
  | .settled s => .next s
  | .served s p _ (some x) => .next (s.serveAuth p x k.payload)
  | .served s _ _ none => .next s

/-- LOCKOUT_END: 60 s after its start (12 R419). -/
def execLockoutEnd (sv : Bool) (s : State) : Host.Outcome State Fault Refusal :=
  match s.host.lockouts.getD (xIdx sv) none with
  | none => .next s
  | some t => .next (if s.tick < t then s
    else { s with host := { s.host with lockouts := s.host.lockouts.set (xIdx sv) none } })

/-! ### The end of a session (12 R417, R420, R434) -/

/-- AUTH_TIMEOUT: a pending session without a right proof for 10 s is closed; it never opened, so nothing is recorded (12 R417). -/
def execAuthTimeout (n : BitVec 16) (s : State) : Host.Outcome State Fault Refusal :=
  match s.session? n with
  | none => .next s
  | some x =>
    if x.pending && decide (x.openTick + 10000 ≤ s.tick) then
      .next { s with
          host := { s.host with
              sessions := s.host.sessions.filter (fun (y : Session) => y.num ≠ n), pends := s.host.pends.filter (fun (q : Pend) => q.session ≠ n) } }
    else .next s

/-- CLOSE: the reply leaves before the session ends (12 R420). -/
def execClose (k : Pkt) (s : State) : Host.Outcome State Fault Refusal :=
  match s.vet { code := 0x0002, perm := .read, pendingOk := true, lenOk := k.payload.length = 0 } k with
  | .settled s => .next s
  | .served s p _ _ => .next ((s.answer p stOK 0 []).closeSession p.session 0)

/-- SESSION_TIMEOUT: no request passed step 9 for HOSTLINK.SESSION_TIMEOUT (12 R420). -/
def execSessionTimeout (n : BitVec 16) (s : State) : Host.Outcome State Fault Refusal :=
  match s.session? n with
  | none => .next s
  | some x =>
    .next (if !x.pending && decide (x.lastTick + 1000 * s.parN Par.hostlinkSessionTimeout 0 0 ≤ s.tick) then s.closeSession n 1 else s)

/-- USB_DETACH: every SV session ends (12 R434). -/
def execUsbDetach (s : State) : Host.Outcome State Fault Refusal :=
  .next ((s.host.sessions.filter (fun (x : Session) => x.sv)).foldl (fun s (x : Session) => s.closeSession x.num 3) s)

/-- FRAGMENT_TIMEOUT: an incomplete datagram is discarded 1 s after its first fragment (12 R413). -/
def execFragmentTimeout (src : BitVec 48) (ident : BitVec 16) (s : State) : Host.Outcome State Fault Refusal :=
  .next { s with
      host := { s.host with
          frags := s.host.frags.filter (fun (d : Datagram) => !(d.src = src && d.ident = ident && decide (d.first + 1000 ≤ s.tick))) } }

/-! ### Reads open to every session (12 R422) -/

/-- KEEPALIVE: mode and status of the module. -/
def execKeepalive (k : Pkt) (s : State) : Host.Outcome State Fault Refusal :=
  match s.vet { code := 0x0003, perm := .read, lenOk := k.payload.length = 0 } k with
  | .settled s => .next s
  | .served s p _ _ => .next (s.answer p stOK 0 (leBytes 4 s.mode.code ++ leBytes 4 s.sysStatus.toNat))

/-- The reply of IDENTIFY. -/
def State.identity (s : State) : Bytes :=
  let word (idx : Nat) : Bytes := leBytes 4 ((s.viewIdent idx).getD 0).toNat
  leBytes 2 ((s.viewIdent 1).getD 0).toNat ++ [0xA1, BitVec.ofNat 8 s.sealAddr] ++ word 3 ++ word 0x10 ++ word 5 ++ word 6 ++ word 8
    ++ leBytes 2 s.safety.checkB.toNat ++ [BitVec.ofNat 8 s.mode.code]
    ++ leBytes 1 (bitN s.safety.sealRd.value.isNone 0 + bitN s.gallery.degraded 1 + bitN (!s.prog.forces.isEmpty) 2)

/-- IDENTIFY: with or without a session. -/
def execIdentify (k : Pkt) (s : State) : Host.Outcome State Fault Refusal :=
  match s.vet { code := 0x0004, perm := .read, noSession := true, lenOk := k.payload.length = 0 } k with
  | .settled s => .next s
  | .served s p _ _ => .next (s.answer p stOK 0 s.identity)

/-- PAR_READ (12 R422). -/
def execParRead (k : Pkt) (s : State) : Host.Outcome State Fault Refusal := .next (s.parRead k)

/-- PAR_WRITE (12 R426, R427). -/
def execParWrite (k : Pkt) (s : State) : Host.Outcome State Fault Refusal := .next (s.parWrite k)

/-- PAR_READ_ARRAY is served: every element belongs to one row, and every one is read (12 R422, R429). -/
def State.serveReadArray (s : State) (p : Pend) (hall : Nat) (payload : Bytes) : State :=
  let pid := fieldAt payload 0 4
  let n := fieldAt payload 4 2
  if n = 0 || 1024 < n then s.answer p stRange 0 []
  else match s.resolvePid pid with
    | .inl st => s.answer p st pid []
    | .inr (r, _, j) =>
      if r.len < j + n then s.answer p stBadParam (pid + (r.len - j)) []
      else
        let pids := (List.range n).map (pid + ·)
        match pids.find? (fun q => (s.readEntry hall q).1.1 ≠ stOK) with
        | some q => s.answer p (s.readEntry hall q).1.1 q []
        | none =>
          let (e, s') := s.readEntry hall pid
          let vals := pids.flatMap (fun q => leBytes 4 (s.readEntry hall q).1.2.2.toNat)
          s'.answer p stOK 0 ([BitVec.ofNat 8 e.2.1, 0] ++ leBytes 2 n ++ vals)

/-- PAR_READ_ARRAY (12 R422). -/
def execParReadArray (k : Pkt) (s : State) : Host.Outcome State Fault Refusal :=
  match s.vet { code := 0x0012, perm := .read, lenOk := k.payload.length = 8, hallOk := true, deferred := true } k with
  | .settled s => .next s
  | .served s p _ _ => .next (s.serveReadArray p k.hdr.hall.toNat k.payload)

/-- Lowest value, highest value and step of a row, as bit patterns of its type (12 R422). DEDUCED (log 57). -/
def ParRow.span (r : ParRow) : BitVec 32 × BitVec 32 × BitVec 32 :=
  let maxReal : BitVec 32 := 0x7F7FFFFF
  let real3 (lo hi step : Rat) : BitVec 32 × BitVec 32 × BitVec 32 := (toReal32 lo, toReal32 hi, toReal32 step)
  match r.legal with
  | .any | .finite | .compare => match r.ty with
    | .int32 => (0x80000000, 0x7FFFFFFF, 1)
    | .uint32 => (0, 0xFFFFFFFF, 1)
    | .real32 => (0xFF7FFFFF, maxReal, 0)
  | .nat lo hi => (word32 lo, word32 hi, 1)
  | .int lo hi | .intNonzero lo hi => (wordZ lo, wordZ hi, 1)
  | .real lo hi step => real3 lo hi step
  | .realMin lo => (toReal32 lo, maxReal, 0)
  | .zeroOr _ hi _ => real3 0 hi 0
  | .oneOf vs => (word32 (vs.foldl min (vs.headD 0)), word32 (vs.foldl max 0), 0)
  | .oneOfReal vs => real3 (vs.foldl minR (vs.headD 0)) (vs.foldl maxR (vs.headD 0)) 0
  | .masked m => (0, word32 m, 0)
  | .canNode => (0, 383, 0)

/-- The reply of PAR_INFO. -/
def State.infoBytes (s : State) (r : ParRow) (pid : Nat) : Bytes :=
  let ty := match r.ty with | .int32 => 1 | .uint32 => 2 | .real32 => 3
  let acc := match r.acc with | .ro => 0 | .rw => 1 | .rws => 2 | .wo => 3
  let (lo, hi, step) := r.span
  [BitVec.ofNat 8 ty, BitVec.ofNat 8 acc]
    ++ leBytes 2 (bitN r.image 0 + bitN (s.progOwns pid) 1 + bitN (decide (1 < r.len)) 2)
    ++ leBytes 4 lo.toNat ++ leBytes 4 hi.toNat ++ leBytes 4 step.toNat
    ++ leBytes 4 (if r.noReset then 0xFFFFFFFF else r.reset.toNat) ++ leBytes 2 r.len ++ [0, 0]

/-- PAR_INFO (12 R422). -/
def execParInfo (k : Pkt) (s : State) : Host.Outcome State Fault Refusal :=
  match s.vet { code := 0x0013, perm := .read, lenOk := k.payload.length = 4 } k with
  | .settled s => .next s
  | .served s p _ _ =>
    let pid := fieldAt k.payload 0 4
    match s.resolvePid pid with
    | .inl st => .next (s.answer p st pid [])
    | .inr (r, _, _) => .next (s.answer p stOK 0 (s.infoBytes r pid))

end Sys2Proof.Machine
end

