-- ==== Sys2Proof/Machine/HostCommands.lean ====
section
/-! DEFINITION. The host's door, axis, program, force and mode commands (12 R422 to R432), and packets that fail a check before they are
served (12 R414). -/

namespace Sys2Proof.Machine

/-! ### DOOR_CMD (12 R422, 06 R194 to R197) -/

/-- A command reaches a flight's latch under the rank of its role; its reply follows the latch. -/
def State.serveDoor (s : State) (p : Pend) (role : Nat) (payload : Bytes) : State :=
  let f := fieldAt payload 0 1
  if s.sec.activating.isSome then s.answer p stBusy 0 []
  else if s.nFlights ≤ f then s.answer p stNotPresent 0 []
  else if !s.hasDoor f then s.answer p stState 0 []
  else match doorCmdOf (fieldAt payload 1 1 : Nat) with
    | none => s.answer p stRange 0 []
    | some c =>
      if !rankMay (roleRank role) c then s.answer p stRange 0 []
      else s.enterLatch f ⟨c, roleRank role, p.session.toNat, some p.seq, s.sample + 1⟩

/-- DOOR_CMD. -/
def execDoorCmd (k : Pkt) (s : State) : Host.Outcome State Fault Refusal :=
  match s.vet { code := 0x0020, perm := .door, lenOk := k.payload.length = 4, stateOk := s.mode == .run, deferred := true } k with
  | .settled s => .next s
  | .served s p role _ => .next (s.serveDoor p role k.payload)

/-! ### AXIS_CMD (12 R422, R431, R432) -/

def opAxisCmd : Nat := 0x0021

/-- A host's command is on its way to the engine, which judges it at the next sample (05 R161, R167). -/
def State.serveAxis (s : State) (p : Pend) (a : Nat) (c : AxCmd) : State :=
  if s.sec.activating.isSome then s.answer p stBusy 0 []
  else if s.nAxes ≤ a then s.answer p stNotPresent 0 []
  else s.post a c (.host p)

/-- An AXIS_CMD packet whose CMD names the command `c` makes of POS, VEL and BUF; none where a field is out of range. DEDUCED (log 16). -/
def State.axisPacket (s : State) (k : Pkt) (c : Int → Rat → Bool → AxCmd) : State :=
  let open' := s.mode == .run || s.mode == .maintenance
  match s.vet { code := opAxisCmd, perm := .service, lenOk := k.payload.length = 12, stateOk := open', deferred := true } k with
  | .settled s => s
  | .served s p _ _ =>
    let vel := word32 (fieldAt k.payload 8 4)
    if 1 < fieldAt k.payload 2 1 || !isFinite32 vel then s.answer p stRange 0 []
    else s.serveAxis p (fieldAt k.payload 0 1) (c (word32 (fieldAt k.payload 4 4)).toInt (real32 vel) (fieldAt k.payload 2 1 = 0))

/-- MOVE_ABS (05 R166). -/
def execMoveAbs (k : Pkt) (s : State) : Host.Outcome State Fault Refusal := .next (s.axisPacket k (fun t v app => .moveAbs t v app))

/-- MOVE_REL (05 R166). -/
def execMoveRel (k : Pkt) (s : State) : Host.Outcome State Fault Refusal := .next (s.axisPacket k (fun t v app => .moveRel t v app))

/-- MOVE_VEL (05 R166). -/
def execMoveVel (k : Pkt) (s : State) : Host.Outcome State Fault Refusal := .next (s.axisPacket k (fun _ v app => .moveVel v app))

/-- STOP (05 R171). -/
def execStop (k : Pkt) (s : State) : Host.Outcome State Fault Refusal := .next (s.axisPacket k (fun _ _ _ => .stop))

/-- QUICK_STOP (05 R171). -/
def execQuickStop (k : Pkt) (s : State) : Host.Outcome State Fault Refusal := .next (s.axisPacket k (fun _ _ _ => .quickStop))

/-- RELEASE (05 R165). -/
def execRelease (k : Pkt) (s : State) : Host.Outcome State Fault Refusal := .next (s.axisPacket k (fun _ _ _ => .release))

/-- GEAR_ENGAGE (05 R184). -/
def execGearEngage (k : Pkt) (s : State) : Host.Outcome State Fault Refusal := .next (s.axisPacket k (fun _ _ _ => .gearEngage))

/-- GEAR_DISENGAGE (05 R187). -/
def execGearDisengage (k : Pkt) (s : State) : Host.Outcome State Fault Refusal := .next (s.axisPacket k (fun _ _ _ => .gearDisengage))

/-- ENERGIZE (05 R183). -/
def execEnergize (k : Pkt) (s : State) : Host.Outcome State Fault Refusal := .next (s.axisPacket k (fun _ _ _ => .energize))

/-- DEENERGIZE (05 R183). -/
def execDeenergize (k : Pkt) (s : State) : Host.Outcome State Fault Refusal := .next (s.axisPacket k (fun _ _ _ => .deenergize))

/-- COMM_LEARN (05 R160). -/
def execCommLearn (k : Pkt) (s : State) : Host.Outcome State Fault Refusal := .next (s.axisPacket k (fun _ _ _ => .commLearn))

/-! ### Forces (10 R363, 12 R424) -/

/-- FORCE_SET. -/
def execForceSet (k : Pkt) (s : State) : Host.Outcome State Fault Refusal :=
  match s.vet { code := 0x0034, perm := .service, lenOk := k.payload.length = 8, stateOk := s.forceOpen } k with
  | .settled s => .next s
  | .served s p _ _ =>
    let ((st, item, slot), s) := s.forceSet p.session.toNat (BitVec.ofNat 16 (fieldAt k.payload 0 2)) (word32 (fieldAt k.payload 4 4))
    .next (s.answer p st item (if st = stOK then [BitVec.ofNat 8 slot, 0, 0, 0] else []))

/-- FORCE_CLEAR. -/
def execForceClear (k : Pkt) (s : State) : Host.Outcome State Fault Refusal :=
  match s.vet { code := 0x0035, perm := .service, lenOk := k.payload.length = 4, stateOk := s.forceOpen } k with
  | .settled s => .next s
  | .served s p _ _ =>
    let (st, s) := s.forceClear p.session.toNat (BitVec.ofNat 16 (fieldAt k.payload 0 2))
    .next (s.answer p st 0 [])

/-! ### Transfers (12 R424) -/

/-- The open transfer of a kind, or of one of the three staged kinds. -/
def State.xferOf (s : State) (stage : Bool) (id : Nat) (session : BitVec 16) : Option Xfer :=
  s.host.xfers.find? (fun x => (x.kind != .prog) == stage && x.id = id && x.session = session)

/-- A BEGIN is served: one transfer of a kind at a time. -/
def State.beginXfer (s : State) (p : Pend) (kind : XKind) (lo hi : Nat) (payload : Bytes) : State :=
  let len := fieldAt payload 4 4
  if len < lo || hi < len then s.answer p stRange 0 []
  else if s.host.xfers.any (fun x => x.kind == kind) then s.answer p stBusy 0 []
  else
    let id := s.host.nextXfer
    let x : Xfer :=
      { kind := kind, id := id, session := p.session, length := len, digest := (payload.drop 8).take 32, data := [],
        lastTick := s.stamp, ending := false }
    let s := { s with host := { s.host with xfers := s.host.xfers ++ [x], nextXfer := if id = 65535 then 1 else id + 1 } }
    s.answer p stOK 0 (leBytes 2 id ++ leBytes 2 4096)

/-- A transfer changes. -/
def State.modXfer (s : State) (k : XKind) (f : Xfer → Xfer) : State :=
  { s with host := { s.host with xfers := s.host.xfers.map (fun x => if x.kind == k then f x else x) } }

/-- A DATA is served: the pieces arrive in their order. -/
def State.dataXfer (s : State) (p : Pend) (stage : Bool) (payload : Bytes) : State :=
  match s.xferOf stage (fieldAt payload 0 2) p.session with
  | none => s.answer p stState 0 []
  | some x =>
    let data := payload.drop 8
    if x.ending then s.answer p stBusy 0 []
    else if fieldAt payload 4 4 ≠ x.data.length || x.length < x.data.length + data.length then s.answer p stRange x.data.length []
    else
      let s := s.modXfer x.kind (fun x => { x with data := x.data ++ data, lastTick := s.stamp })
      s.answer p stOK 0 (leBytes 4 (x.data.length + data.length))

/-- The length of a DATA payload. -/
def dataLenOk (payload : Bytes) : Bool := decide (9 ≤ payload.length) && decide (payload.length ≤ 8 + 4096)

/-- Everything has arrived and the digest agrees. -/
def Xfer.whole (x : Xfer) : Bool := x.data.length = x.length && sha256 x.data = x.digest

/-- TRANSFER_ABANDON: no DATA for 10 s: 0 program, 1 configuration, 2 key object, 3 firmware (12 R424). -/
def execTransferAbandon (kind : Nat) (s : State) : Host.Outcome State Fault Refusal :=
  let k : XKind := match kind with
    | 0 => .prog
    | 1 => .config
    | 2 => .key
    | _ => .firmware
  .next { s with
      host := { s.host with
          xfers := s.host.xfers.filter (fun (x : Xfer) => !(x.kind == k && !x.ending && decide (x.lastTick + 10000 ≤ s.tick))) } }

/-! ### Loading and switching the program (10 R367, R368, R371) -/

/-- PROG_BEGIN. -/
def execProgBegin (k : Pkt) (s : State) : Host.Outcome State Fault Refusal :=
  match s.vet { code := 0x0030, perm := .service, lenOk := k.payload.length = 40, stateOk := s.progOpen } k with
  | .settled s => .next s
  | .served s p _ _ =>
    .next (if fieldAt k.payload 0 1 ≠ 0 then s.answer p stRange 0 [] else s.beginXfer p .prog 1 1048576 k.payload)

/-- PROG_DATA. -/
def execProgData (k : Pkt) (s : State) : Host.Outcome State Fault Refusal :=
  match s.vet { code := 0x0031, perm := .service, lenOk := dataLenOk k.payload, stateOk := s.progOpen } k with
  | .settled s => .next s
  | .served s p _ _ => .next (s.dataXfer p false k.payload)

/-- PROG_END is served: the container takes the pending slot and its verification begins (10 R367). -/
def State.endProg (s : State) (p : Pend) (x : Xfer) : State :=
  if s.hallB.inReset then s.answer p stBusy 0 []
  else if !x.whole then (s.endXfer .prog).answer p stVerifyFail 0 []
  else
    let s := s.modXfer .prog (fun x => { x with ending := true })
    { s with prog := { s.prog with pending := none, pendState := .verifying, pendBytes := x.data } }

/-- PROG_END. Its reply waits for the verification. A new load replaces whatever is pending, a container that a switch waits for too
(10 R367). -/
def execProgEnd (k : Pkt) (s : State) : Host.Outcome State Fault Refusal :=
  match s.vet { code := opProgEnd, perm := .service, lenOk := k.payload.length = 4, stateOk := s.progOpen, deferred := true } k with
  | .settled s => .next s
  | .served s p _ _ =>
    match s.xferOf false (fieldAt k.payload 0 2) p.session with
    | none => .next (s.answer p stState 0 [])
    | some x => .next (if x.ending then s.answer p stBusy 0 [] else s.endProg p x)

/-- One of the operations that exclude one another is being served (12 R423). DEDUCED (log 58). -/
def State.excluded (s : State) : Bool := s.host.exclusive.isSome || s.host.restart.isSome

/-- An operation that excludes the others begins to be served. DEDUCED (log 58). -/
def State.beginExclusive (s : State) (p : Pend) : State := { s with host := { s.host with exclusive := some p } }

/-- Status and item of a switch refused at acceptance: of a REJECTED container the finding that rejected it (10 R371). DEDUCED (log 58). -/
def State.switchFinding (s : State) : Nat × Nat := if s.prog.pendState == .rejected then s.prog.pendFinding else (stState, 0)

/-- PROG_SWITCH. An accepted switch is made at a cycle start and answered then (10 R368, R371). DEDUCED (log 58). -/
def execProgSwitch (k : Pkt) (s : State) : Host.Outcome State Fault Refusal :=
  match s.vet { code := 0x0033, perm := .service, lenOk := k.payload.length = 8, deferred := true } k with
  | .settled s => .next s
  | .served s p _ _ =>
    if s.excluded then .next (s.answer p stBusy 0 [])
    else
      let s := s.beginExclusive p
      let named := (fieldAt k.payload 0 4, fieldAt k.payload 4 4)
      if s.switchable named.1 named.2 then .next { s with prog := { s.prog with switchAt := some s.stamp, switchFor := named } }
      else .next (s.refuseSwitch s.switchFinding.1 s.switchFinding.2)

/-! ### MODE_REQUEST and RESTART (12 R422, 08 R286, 14 R471) -/

/-- Zero speed is confirmed (SAFETY.STATUS [8]). -/
def State.zeroConfirmed (s : State) : Bool := wbit s.safetyStatus 8

/-- The ITEM that refuses a requested change before it is proposed; none where Hall A proposes it (14 R471). -/
def State.modeRefusal (s : State) (new : Mode) : Option Nat :=
  let config := if s.sec.active.isNone then some 5 else if !s.safety.sealRd.ok then some 1 else none
  match s.mode, new with
  | .standby, .run => config
  | .run, .standby => none
  | .standby, .maintenance | .run, .maintenance | .update, .maintenance => if s.zeroConfirmed then none else some 2
  | .maintenance, .standby | .update, .standby => config
  | .standby, .update | .maintenance, .update =>
    if !s.zeroConfirmed then some 2
    else if s.host.xfers.any (fun x => x.kind == .config || x.kind == .prog) then some 5 else none
  | _, _ => some 5

/-- A MODE_REQUEST packet for a mode: TCMS and CREW may ask for STANDBY and RUN, SERVICE for every mode (12 R415). DEDUCED (log 16). -/
def State.modeRequest (s : State) (k : Pkt) (new : Mode) : State :=
  let role := match s.session? k.hdr.session with | some x => x.role | none => 0
  let may := roleHas role .service || ((role = 2 || role = 3) && (new == .standby || new == .run))
  match s.vet { code := 0x0070, perm := .read, permOk := may, lenOk := k.payload.length = 4, deferred := true } k with
  | .settled s => s
  | .served s p _ _ =>
    if s.excluded || s.hallB.inReset then s.answer p stBusy 0 []
    else match s.modeRefusal new with
      | some item => s.answer p stState item []
      | none =>
        let s := s.beginExclusive p
        ({ s with host := { s.host with modeReq := some (p, new, s.tick + 4) } }).propose .a new

/-- MODE_REQUEST for STANDBY. -/
def execModeRequestStandby (k : Pkt) (s : State) : Host.Outcome State Fault Refusal := .next (s.modeRequest k .standby)

/-- MODE_REQUEST for RUN. -/
def execModeRequestRun (k : Pkt) (s : State) : Host.Outcome State Fault Refusal := .next (s.modeRequest k .run)

/-- MODE_REQUEST for MAINTENANCE. -/
def execModeRequestMaintenance (k : Pkt) (s : State) : Host.Outcome State Fault Refusal := .next (s.modeRequest k .maintenance)

/-- MODE_REQUEST for UPDATE. -/
def execModeRequestUpdate (k : Pkt) (s : State) : Host.Outcome State Fault Refusal := .next (s.modeRequest k .update)

/-- The states that take a RESTART. -/
def State.restartOpen (s : State) : Bool :=
  s.mode == .standby || s.mode == .maintenance || s.mode == .safeHold || s.mode == .update

/-- What RESTART asks of a packet. -/
def restartSpec (s : State) (k : Pkt) : OpSpec :=
  { code := 0x0071, perm := .service, lenOk := k.payload.length = 4, stateOk := s.restartOpen }

/-- A RESTART packet: the reply leaves first, and the restart begins 100 ms later (12 R422). A module restart with firmware pending is the
trial boot of that firmware (14 R480). DEDUCED (log 16). -/
def State.restart (s : State) (k : Pkt) (whole : Bool) : State :=
  match s.vet (restartSpec s k) k with
  | .settled s => s
  | .served s p _ _ =>
    if s.excluded then s.answer p stBusy 0 []
    else
      let s := s.answer p stOK 0 []
      { s with host := { s.host with restart := some ⟨whole, s.stamp + 100, whole && s.sec.fwPending ≠ 0⟩ } }

/-- RESTART of Hall A. -/
def execRestartHallA (k : Pkt) (s : State) : Host.Outcome State Fault Refusal := .next (s.restart k false)

/-- RESTART of the module. -/
def execRestartModule (k : Pkt) (s : State) : Host.Outcome State Fault Refusal := .next (s.restart k true)

/-! ### Packets that fail a check (12 R414 steps 1 to 6, R433) -/

/-- The opcodes of R422. -/
def opcodes : List Nat :=
  [0x00, 0x01, 0x02, 0x03, 0x04, 0x10, 0x11, 0x12, 0x13, 0x20, 0x21, 0x30, 0x31, 0x32, 0x33, 0x34, 0x35, 0x40, 0x41, 0x50, 0x51, 0x52,
   0x53, 0x54, 0x55, 0x60, 0x61, 0x62, 0x63, 0x70, 0x71, 0x72]

/-- The packet that a transport delivers: an SV frame, without its 0x00 byte, is COBS-decoded, and one that does not decode or is too long is
none (12 R433). -/
def rawPacket (sv : Bool) (raw : Bytes) : Option Bytes :=
  if sv then (uncobs (raw.length + 1) raw).filter (fun bs => decide (bs.length ≤ 4648)) else some raw

/-- Check 1: length, MAGIC, VERSION, REPLY (12 R414). -/
def rawDiscarded (raw : Bytes) : Bool :=
  decide (raw.length < 24) || fieldAt raw 0 2 ≠ 0x4C56 || fieldAt raw 2 1 ≠ 1 || (fieldAt raw 3 1).testBit 0

/-- Checks 3 to 6: the status of the first that fails. -/
def rawStatus (raw : Bytes) : Option Nat :=
  let len := fieldAt raw 12 2
  let flags := fieldAt raw 3 1
  let auth := flags.testBit 1
  if 4608 < len || raw.length ≠ 24 + len + 16 * bitN auth 0 then some stBadLength
  else if fieldAt raw (20 + len) 4 ≠ (crc32c (raw.take (20 + len))).toNat then some stBadCrc
  else if fieldAt raw 14 2 ≠ 0 || fieldAt raw 16 4 ≠ 0 || 4 ≤ flags then some stRange
  else if !opcodes.contains (fieldAt raw 8 2) then some stBadOpcode
  else none

/-- The packet that bytes passing checks 1 to 6 carry. -/
def rawPkt (sv : Bool) (src : BitVec 48) (raw : Bytes) : Pkt :=
  let len := fieldAt raw 12 2
  { hdr := { sv := sv, src := src, seq := BitVec.ofNat 16 (fieldAt raw 4 2), session := BitVec.ofNat 16 (fieldAt raw 6 2),
             addr := BitVec.ofNat 8 (fieldAt raw 10 1), hall := BitVec.ofNat 8 (fieldAt raw 11 1),
             mac := if (fieldAt raw 3 1).testBit 1 then some (raw.drop (24 + len)) else none },
    payload := (raw.drop 20).take len }

/-- A packet whose selecting byte names no command of its opcode: it passes the later checks and is out of range. -/
def State.badSelector (s : State) (o : OpSpec) (k : Pkt) : State :=
  match s.vet o k with
  | .settled s => s
  | .served s p _ _ => s.answer p stRange 0 []

/-- AXIS_CMD with CMD outside 1 to 11, MODE_REQUEST for no mode that can be requested, RESTART of no scope. -/
def State.rejectSelector (s : State) (op : Nat) (k : Pkt) : State :=
  let sel := fieldAt k.payload 0 1
  let role := match s.session? k.hdr.session with | some x => x.role | none => 0
  if op = opAxisCmd && !(1 ≤ fieldAt k.payload 1 1 && fieldAt k.payload 1 1 ≤ 11) then
    s.badSelector { code := op, perm := .service, lenOk := k.payload.length = 12,
                    stateOk := s.mode == .run || s.mode == .maintenance, deferred := true } k
  else if op = 0x0070 && !(sel = 1 || sel = 2 || sel = 3 || sel = 5) then
    s.badSelector { code := op, perm := .read, permOk := roleHas role .service, lenOk := k.payload.length = 4, deferred := true } k
  else if op = 0x0071 && 1 < sel then s.badSelector (restartSpec s k) k
  else s

/-- HOST_PACKET_REJECTED: a packet that fails a check of steps 1 to 6, or names no command of its opcode; on SV in the frame that carries it
(12 R414, R433). -/
def execHostPacketRejected (sv : Bool) (src : BitVec 48) (frame : Bytes) (s : State) : Host.Outcome State Fault Refusal :=
  if !s.linkUp sv then .next s
  else match (rawPacket sv frame).filter (fun raw => !rawDiscarded raw) with
  | none => .next { s with host := { s.host with rxDiscards := s.host.rxDiscards + 1 } }
  | some raw =>
    let k := rawPkt sv src raw
    let op := fieldAt raw 8 2
    if k.hdr.addr ≠ 0xFF && (s.safety.sealRd.value.isNone || k.hdr.addr.toNat ≠ s.sealAddr) then
      .next { s with host := { s.host with rxMisaddr := s.host.rxMisaddr + 1 } }
    else match rawStatus raw with
      | some st => .next (s.replyRaw (pendOf op k.hdr) none st 0 [])
      | none => .next (s.rejectSelector op k)

end Sys2Proof.Machine
end

