-- ==== Sys2Proof/Machine/Image.lean ====
section
/-! DEFINITION. Configuration images (14 R473, R474): their layout, the safety-set check, and every staging rule. A rule is judged over the
state as the image would leave it: its parameters, and its program in place. -/

namespace Sys2Proof.Machine

/-! ### Layout (14 R473) -/

/-- An image as laid out: version, parameter entries, program bytes, header check and seal address. -/
structure RawImage where
  version : Nat
  entries : List (Nat × BitVec 32)
  prog : Option Bytes
  check : Nat
  sealAddr : Nat
  sigOfs : Nat
deriving DecidableEq, Repr

/-- Strictly rising. -/
def rising : List Nat → Bool
  | a :: b :: l => decide (a < b) && rising (b :: l)
  | _ => true

/-- The layout of an image, where it is sound. -/
def readImage (bs : Bytes) : Option RawImage :=
  let n := fieldAt bs 12 4
  let progOfs := fieldAt bs 20 4
  let progLen := fieldAt bs 24 4
  let sigOfs := fieldAt bs 28 4
  let table := (bs.drop 64).take (8 * n)
  let entries := (List.range n).map (fun k => (fieldAt table (8 * k) 4, word32 (fieldAt table (8 * k + 4) 4)))
  let sound := decide (64 ≤ bs.length) && bs.take 4 = [0x4C, 0x56, 0x43, 0x46] && fieldAt bs 4 2 = 1 && fieldAt bs 6 2 = 0 &&
    decide (fieldAt bs 8 4 ≠ 0) && decide (n ≤ 16384) && fieldAt bs 16 4 = 64 &&
    (if progOfs = 0 then progLen = 0 else progOfs = 64 + 8 * n && progLen ≠ 0) && sigOfs = 64 + 8 * n + progLen &&
    bs.length = sigOfs + 7856 && fieldAt bs 35 25 = 0 && fieldAt bs 60 4 = (crc32c (bs.take 60)).toNat
  if sound && rising (entries.map (·.1)) then
    some { version := fieldAt bs 8 4, entries := entries, prog := if progOfs = 0 then none else some ((bs.drop progOfs).take progLen),
           check := fieldAt bs 32 2, sealAddr := fieldAt bs 34 1, sigOfs := sigOfs }
  else none

/-! ### The safety set (08 R293) -/

/-- The RWS parameters of a class, by instance and index. -/
def State.sealedOf (s : State) (cls : Nat) : List (ParRow × Nat × Nat) :=
  (List.range (max 1 (classInstances cls))).flatMap (fun i =>
    if s.hasInst cls i then
      ((rowsOf cls).filter (fun r => r.acc == .rws)).flatMap (fun r =>
        (List.range r.len).filterMap (fun j => if s.hasElem r j then some (r, i, j) else none))
    else [])

/-- The bytes of the safety set: the present RWS parameters by rising PID. -/
def State.safetyBytes (s : State) : Bytes :=
  ([0x11, 0x18, 0x20, 0x38, 0x39].flatMap s.sealedOf).flatMap (fun (r, i, j) =>
    leBytes 4 (r.pid i j) ++ leBytes 4 (s.par r i j).toNat)

/-- The safety-set check of the values in force. -/
def State.safetyCheck (s : State) : BitVec 16 := crc16 s.safetyBytes

/-! ### Findings -/

/-- A finding: status and item, where a condition holds. -/
def bad (c : Bool) (st item : Nat) : List (Nat × Nat) := if c then [(st, item)] else []

/-- The findings of each number below `n`. -/
def each (n : Nat) (f : Nat → List (Nat × Nat)) : List (Nat × Nat) := (List.range n).flatMap f

/-- The first of two later members of a list below `n` that agree under `same`: every member that agrees with an earlier one. -/
def laterTwins (n : Nat) (same : Nat → Nat → Bool) : List Nat :=
  (List.range n).filter (fun b => (List.range b).any (fun a => same a b))

/-- Step 7: references to absent units by parameter values (00 R9, 09 R301, 13 R455). GEAR_MASTER names a port only where GEAR_SRC is 1; a line is named whether or not the axis or the
obstacle model uses it, and a line number of 160 or more, a line of no variant, is absent as well; a port that no variant has is left to
step 10 (05 R184). DEDUCED (log 62). -/
def State.absentValues (s : State) : List Nat :=
  let lh := (List.range 24).filter (fun k =>
    (List.range 32).any (fun b => wbit (s.par Par.supplyLhSet 0 k) b && decide (s.nTreads ≤ 32 * (k % 3) + b)))
  let crew := (List.range 12).any (fun f => wbit (s.par Par.safetyCrewFlights 0 0) f && decide (s.nFlights ≤ f))
  let gear := (List.range s.nAxes).filter (fun a => s.parN Par.axisGearSrc a 0 = 2 && !s.hasRing)
  let master := (List.range s.nAxes).filter (fun a =>
    s.parN Par.axisGearSrc a 0 = 1 && decide (s.nPorts ≤ s.parN Par.axisGearMaster a 0) && decide (s.parN Par.axisGearMaster a 0 < 24))
  let ext (r : ParRow) := (List.range s.nAxes).filter (fun a => !s.hasLine (s.parN r a 0))
  let temp := (List.range s.nFlights).filter (fun f => !s.hasLine (s.parN Par.obstacleTempLine f 0))
  let anyConn := (List.range 8).any (fun c => s.parN Par.safelinkConnEn 0 c = 1)
  let carrier := (List.range 8).filter (fun c => anyConn && s.onRing c && !s.hasRing)
  let pub := (List.range 8).filter (fun k =>
    let w := s.par Par.ringPubCh 0 k
    s.hasRing && wbit w 15 && decide (s.nPorts ≤ wfield w 12 8))
  lh.map (Par.supplyLhSet.pid 0) ++ (if crew then [Par.safetyCrewFlights.pid 0 0] else []) ++ gear.map (Par.axisGearSrc.pid · 0) ++
    master.map (Par.axisGearMaster.pid · 0) ++ (ext Par.axisExtStepLine).map (Par.axisExtStepLine.pid · 0) ++
    (ext Par.axisExtDirLine).map (Par.axisExtDirLine.pid · 0) ++
    temp.map (Par.obstacleTempLine.pid · 0) ++ carrier.map (Par.safelinkConnCarrier.pid 0) ++ pub.map (Par.ringPubCh.pid 0)

/-- THRESH and HYST in the range of the line's mode (04 R117, R148). -/
def State.threshBad (s : State) (l : Nat) : Bool :=
  let v := s.par Par.senseThresh l 0
  !(match s.lineMode l with
    | 0 => onGrid 2 100 (1 / 10) v
    | 1 => onGrid 0 10 0 v
    | _ => onGrid 0 24 0 v)

/-- Step 8: values outside their ranges, and relations broken, by their PIDs (14 R474, 00 R518). DEDUCED (log 62). -/
def State.valueFindings (s : State) (es : List (Nat × BitVec 32)) : List Nat :=
  es.filterMap (fun e => match s.resolvePid e.1 with
    | .inl _ => none
    | .inr (r, _, _) => if r.admits e.2 then none else some e.1) ++
  ((List.range 160).filter (fun l => s.hasLine l && s.threshBad l)).map (Par.senseThresh.pid · 0) ++
  (((List.range s.nAxes).flatMap s.axisRelations ++ (List.range s.nFlights).flatMap s.flightRelations ++
    ((List.range 160).filter s.hasLine).flatMap s.lineRelations ++ (List.range s.nPorts).flatMap s.portRelations).filter
      (fun r => !r.holds)).map (·.carrier)

/-! ### Step 10: the other staging rules -/

/-- Treads and the limp-home map (02 R71, 03 R81, R84, R85, 05 R153, R154). -/
def State.treadRules (s : State) : List (Nat × Nat) :=
  let claimed := (List.range s.nAxes).flatMap s.claimed
  let wants := (List.range s.nAxes).flatMap (fun a => (s.claimed a).map (fun t => (t, if s.axType a = 4 then 2 else 1)))
  let uneven := (List.range s.nAxes).filterMap (fun a =>
    let ts := if s.isPhase a then s.claimed a else []
    ts.find? (fun t => s.par Par.treadPwmPeriod t 0 ≠ s.par Par.treadPwmPeriod (ts.headD 0) 0))
  each s.nTreads (fun t =>
    let cfg := s.treadCfg t
    bad (wants.any (fun w => w.1 = t && w.2 ≠ cfg) || ((cfg = 2 || cfg = 3) && s.parR Par.treadWireCsa t 0 = 0) ||
      (cfg = 1 && !claimed.contains t)) stConflict (Par.treadModeCfg.pid t 0) ++
    bad (decide (s.parR Par.treadDtMax t 0 < s.parR Par.treadDtMin t 0)) stRange (Par.treadDtMin.pid t 0)) ++
  uneven.map (fun t => (stConflict, Par.treadPwmPeriod.pid t 0)) ++
  each 24 (fun k => bad ((List.range 32).any (fun b =>
    wbit (s.par Par.supplyLhSet 0 k) b && s.treadCfg (32 * (k % 3) + b) ≠ 2)) stConflict (Par.supplyLhSet.pid 0 k))

/-- A safety line (04 R126). -/
def safetyLine (l : Nat) : Bool := if l < 144 then l % 12 ≤ 6 || 10 ≤ l % 12 else l ≤ 149 || l = 151 || l = 152

/-- Sense lines (04 R117, R119, R126). -/
def State.lineRules (s : State) (l : Nat) : List (Nat × Nat) :=
  let track := s.parN Par.senseTrack l 0 = 1
  let th := s.parR Par.senseThresh l 0
  bad (track && s.lineMode l ≠ 0) stConflict (Par.senseTrack.pid l 0) ++
  bad (track && decide (th < s.parR Par.senseFenceLo l 0)) stRange (Par.senseFenceLo.pid l 0) ++
  bad (track && decide (s.parR Par.senseFenceHi l 0 < th)) stRange (Par.senseFenceHi.pid l 0) ++
  bad ((safetyLine l && s.lineUse l = 2) || (decide (153 ≤ l) && s.lineUse l = 1)) stConflict (Par.senseUse.pid l 0)

/-- Formats and levels that go together (04 R128). -/
def formatLevel (format level : Nat) : Bool :=
  match format with
  | 0 | 1 => true
  | 3 => level = 0
  | _ => level ≠ 0

/-- An SSI frame fits its period: microseconds (04 R136). -/
def State.ssiFits (s : State) (p : Nat) : Bool :=
  decide ((s.parN Par.portSsiBits p 0 : Rat) * 1000 / (s.parN Par.portSsiClk p 0 : Rat) + (s.parN Par.portSsiMono p 0 : Rat) + 5
    ≤ (s.parN Par.portSsiPeriod p 0 : Rat) * 125)

/-- Position ports (04 R128, R136, R147). -/
def State.portRules (s : State) (p : Nat) : List (Nat × Nat) :=
  let f := 2 * (p / 2)
  let en (q : Nat) : Bool := s.parN Par.portEchoEn q 0 = 1
  let own (q : Nat) : Bool := s.parN Par.portAuxOwner q 0 = 2
  let echo := en f || en (f + 1) || own f || own (f + 1)
  bad (!formatLevel (s.portFormat p) (s.parN Par.portLevel p 0)) stConflict (Par.portFormat.pid p 0) ++
  bad (s.portFormat p ≠ 1 && s.parN Par.portIndexMode p 0 ≠ 0) stConflict (Par.portIndexMode.pid p 0) ++
  bad (s.portFormat p = 3 && !s.ssiFits p) stConflict (Par.portSsiPeriod.pid p 0) ++
  bad (p = f && echo && !(en f != en (f + 1) && own f && own (f + 1))) stConflict (Par.portEchoEn.pid p 0) ++
  bad (decide (s.parN Par.portEchoM p 0 < s.parN Par.portEchoN p 0)) stRange (Par.portEchoN.pid p 0)

/-- A type permitted for the axis' place in its flight (05 R153). -/
def axisTypeOk (a ty : Nat) : Bool :=
  match a % 3 with
  | 0 => ty ≤ 2
  | 1 => ty = 0 || ty = 2 || ty = 3
  | _ => ty = 0 || ty = 4

/-- The feedback port of an axis (05 R155). -/
def State.feedbackOk (s : State) (a : Nat) : Bool :=
  let fmt := (s.fbPort a).map s.portFormat
  let twin := (List.range 3).any (fun k =>
    let b := 3 * flightOfAxis a + k
    b < a && (s.fbPort a).isSome && s.fbPort b = s.fbPort a)
  !twin && match s.axType a with
    | 1 | 2 => (match fmt with | some x => x = 1 || x = 2 || x = 3 | none => false)
    | 3 => (match fmt with | some x => x = 1 || x = 3 | none => true)
    | 4 => fmt.isNone
    | _ => true

/-- A line that may give external steps to an axis (05 R180). -/
def State.extLineOk (s : State) (a l : Nat) : Bool :=
  ((12 * flightOfAxis a + 7 ≤ l && l ≤ 12 * flightOfAxis a + 9) || (153 ≤ l && l ≤ 159)) && s.lineMode l = 0 && s.lineUse l = 2

/-- The flight's other port gives HALL commutation: its format is HALL, and it feeds no axis (05 R159). -/
def State.hallTwinOk (s : State) (a : Nat) : Bool :=
  match s.fbPort a with
  | none => false
  | some p =>
    s.portFormat (otherPort p) = 2 &&
      (List.range 3).all (fun k => s.fbPort (3 * flightOfAxis a + k) ≠ some (otherPort p))

/-- Axes (05 R153, R155, R158, R159, R180, R184). An image whose HALL method has no port to read is refused with CONFLICT.
DESIGN CHOICE (log 80). -/
def State.axisRules (s : State) (a : Nat) : List (Nat × Nat) :=
  let ty := s.axType a
  let poles := s.parN Par.axisPolePairs a 0
  let counts := s.parN Par.axisCountsRev a 0
  let hallFb := (s.fbPort a).map s.portFormat = some 2
  let ext := ty = 3 && s.parN Par.axisStepSrc a 0 = 1
  let master := s.parN Par.axisGearMaster a 0
  let counting := decide (master < s.nPorts) && (s.portFormat master = 1 || s.portFormat master = 2 || s.portFormat master = 3)
  bad (!axisTypeOk a ty) stConflict (Par.axisType.pid a 0) ++
  bad (!s.feedbackOk a) stConflict (Par.axisFbPort.pid a 0) ++
  bad (ty = 1 && s.parN Par.axisComm a 0 = 1 && !s.hallTwinOk a) stConflict (Par.axisComm.pid a 0) ++
  bad (ty = 1 && (counts % poles ≠ 0 || (hallFb && counts ≠ 6 * poles))) stRange (Par.axisCountsRev.pid a 0) ++
  bad (ty = 3 && decide (200000 < s.parR Par.axisOverspeed a 0)) stRange (Par.axisOverspeed.pid a 0) ++
  bad (ext && !s.extLineOk a (s.parN Par.axisExtStepLine a 0)) stConflict (Par.axisExtStepLine.pid a 0) ++
  bad (ext && !s.extLineOk a (s.parN Par.axisExtDirLine a 0)) stConflict (Par.axisExtDirLine.pid a 0) ++
  bad (s.parN Par.axisGearSrc a 0 = 1 && (!counting || s.fbPort a = some master)) stConflict (Par.axisGearMaster.pid a 0)

/-- A value of REF_LIMIT (06 R218). -/
def State.refLimitOk (s : State) (f v : Nat) : Bool :=
  if v = 0 then true
  else if v / 256 = 1 then
    let n := v % 256
    7 ≤ n && n ≤ 9 && s.lineMode (12 * f + n) = 0 && s.lineUse (12 * f + n) = 2
  else v / 256 = 2 && v % 256 ≤ 3 && s.portFormat (2 * f + v % 256 / 2) = 4

/-- The used zone ends of a flight that do not rise from above 0 (07 R240). -/
def State.zoneBad (s : State) (f : Nat) : List Nat :=
  let e (k : Nat) : Nat := s.parN Par.obstacleZoneEnd f k
  (List.range (s.parN Par.obstacleZoneCount f 0 - 1)).filter (fun k => if k = 0 then e 0 = 0 else e k ≤ e (k - 1))

/-- A flight whose step can be homed by nothing: no retracted lines, and no feedback port (06 R215). -/
def State.stepUnhomed (s : State) (f : Nat) : Bool :=
  (s.hasDoor f || s.hasComposite btReference f) && s.axType (stepOf f) ≠ 0 && s.noHomeSwitch f &&
    (s.fbPort (stepOf f)).isNone

/-- Flights and obstacle models (06 R215, R218, 07 R230, R240, R244, R256). -/
def State.flightRules (s : State) (f : Nat) : List (Nat × Nat) :=
  let trig := s.par Par.obstacleTrigEn f 0
  let line := s.parN Par.obstacleTempLine f 0
  bad (s.stepUnhomed f) stConflict (Par.axisFbPort.pid (stepOf f) 0) ++
  bad (!s.refLimitOk f (s.parN Par.flightRefLimit f 0)) stConflict (Par.flightRefLimit.pid f 0) ++
  bad (!s.refLimitOk f (s.parN Par.flightStepRefLimit f 0)) stConflict (Par.flightStepRefLimit.pid f 0) ++
  bad (decide (s.parR Par.obstacleKtTable f 3 ≠ 1)) stRange (Par.obstacleKtTable.pid f 3) ++
  bad (s.parN Par.obstacleTempSrc f 0 = 1 && !((s.lineMode line = 1 || s.lineMode line = 2) && s.lineUse line = 2)) stConflict
    (Par.obstacleTempLine.pid f 0) ++
  (s.zoneBad f).map (fun k => (stRange, Par.obstacleZoneEnd.pid f k)) ++
  bad ((wbit trig 1 && s.lineUse (12 * f + 7) ≠ 1) || (trig ≠ 0 && !s.hasDoor f)) stConflict (Par.obstacleTrigEn.pid f 0)

/-- A flight is in the tally (08 R267). -/
def State.inTally (s : State) (f : Nat) : Bool := s.parN Par.safetyFlightSide 0 f ≠ 2

/-- One line of a pair UNUSED and the other in use: the unused one is at fault (08 R267). -/
def State.halfPair (s : State) (l : Nat) : List (Nat × Nat) :=
  bad (s.lineUse l = 0 && s.lineUse (l + 1) ≠ 0) stConflict (Par.senseUse.pid l 0) ++
    bad (s.lineUse (l + 1) = 0 && s.lineUse l ≠ 0) stConflict (Par.senseUse.pid (l + 1) 0)

/-- The pairs of a flight, those that a tallied flight must have, and its monitored direction (08 R267, R288). -/
def State.tallyRules (s : State) (f : Nat) : List (Nat × Nat) :=
  let role (n : Nat) : List (Nat × Nat) := bad (s.lineUse (12 * f + n) ≠ 1) stConflict (Par.senseUse.pid (12 * f + n) 0)
  let opening := s.parZ Par.flightOpenPos f 0
  let closed := s.parZ Par.flightLeafClosedPos f 0
  let want := if opening < closed then 1 else 0
  [0, 2, 4, 10].flatMap (fun n => s.halfPair (12 * f + n)) ++
  if !s.inTally f then []
  else
    [0, 1, 2, 3].flatMap role ++
    bad ((s.fbPort (3 * f)).isSome && decide (opening ≠ closed) && s.parN Par.safetyMonDir 0 f ≠ want) stConflict
      (Par.safetyMonDir.pid 0 f)

/-- A connection that is enabled. -/
def State.connOn (s : State) (c : Nat) : Bool := s.parN Par.safelinkConnEn 0 c = 1

/-- An enabled connection over TRDP. -/
def State.connTrdp (s : State) (c : Nat) : Bool := s.connOn c && !s.onRing c

/-- Safe connections and received values (08 R277, 09 R301, R310, R311). -/
def State.connRules (s : State) : List (Nat × Nat) :=
  let own := s.par Par.safelinkOwnId 0 0
  let peer (c : Nat) : BitVec 32 := s.par Par.safelinkConnPeerId 0 c
  let none32 (w : BitVec 32) : Bool := w = 0 || w = 0xFFFFFFFF
  let any := (List.range 8).any s.connOn
  let zs := s.parN Par.safetyZsSrc 0 0 = 1
  let rel := s.parN Par.safetyRelSrc 0 0 = 1
  bad (any && none32 own) stRange (Par.safelinkOwnId.pid 0 0) ++
  each 8 (fun c => bad (any && peer c = own) stConflict (Par.safelinkConnPeerId.pid 0 c)) ++
  each 8 (fun c => if !s.connOn c then []
    else
      let least := if s.onRing c then 2 * s.tCyc + 2 else 2 * s.parN Par.safelinkConnPeriod 0 c + 2
      bad (none32 (peer c)) stRange (Par.safelinkConnPeerId.pid 0 c) ++
      bad (decide (s.tExp c < least)) stRange (Par.safelinkConnTexp.pid 0 c)) ++
  (laterTwins 8 (fun a b => s.connOn a && s.connOn b && peer a = peer b && s.onRing a == s.onRing b)).map (fun c =>
    (stConflict, Par.safelinkConnPeerId.pid 0 c)) ++
  bad (zs && !s.connOn (s.parN Par.safelinkZsConn 0 0)) stConflict (Par.safelinkZsConn.pid 0 0) ++
  bad (rel && !s.connOn (s.parN Par.safelinkRelConn 0 0)) stConflict (Par.safelinkRelConn.pid 0 0) ++
  each 6 (fun k => bad ((if k < 2 then zs else rel) && s.lineUse (144 + k) ≠ 0) stConflict (Par.senseUse.pid (144 + k) 0))

/-- Process data (09 R323). A telegram and a connection share a ComId where both publish it, or both receive it. DEDUCED (log 62). -/
def State.trdpRules (s : State) : List (Nat × Nat) :=
  let pub (n : Nat) : Nat := s.parN Par.trdpPubComid 0 n
  let sub (n : Nat) : Nat := s.parN Par.trdpSubComid 0 n
  let conns := (List.range 8).filter s.connTrdp
  let used (f : Nat → Nat) : Nat := ((List.range 32).filter (fun n => f n ≠ 0)).length
  let shared (f : Nat → Nat) (r : ParRow) : List Nat :=
    (List.range 32).filter (fun n => f n ≠ 0 &&
      ((List.range n).any (fun m => f m = f n) || conns.any (fun c => s.parN r 0 c = f n)))
  bad (32 < used pub + conns.length) stConflict (Par.trdpPubComid.pid 0 0) ++
  bad (32 < used sub + conns.length) stConflict (Par.trdpSubComid.pid 0 0) ++
  (shared pub Par.safelinkConnTxComid).map (fun n => (stConflict, Par.trdpPubComid.pid 0 n)) ++
  (shared sub Par.safelinkConnRxComid).map (fun n => (stConflict, Par.trdpSubComid.pid 0 n)) ++
  each 32 (fun n =>
    bad (pub n ≠ 0 && s.tCyc ≠ 0 && s.parN Par.trdpPubCycle 0 n % s.tCyc ≠ 0) stConflict (Par.trdpPubCycle.pid 0 n))

/-- Raw ranges that meet another of the same image, or reach beyond 4096 bytes (09 R323, 10 R340, R362). -/
def State.rangeRules (s : State) (out : Bool) : List (Nat × Nat) :=
  let l := s.rawRanges out
  l.flatMap (fun (p, o, n) =>
    bad (4096 < o + n) stRange p ++
    bad (l.any (fun (q, o', n') => q < p && rangesMeet o n o' n')) stConflict p)

/-- A PDO identifier that CANopen keeps for itself (10 R362). -/
def cobBad (id : Nat) : Bool := (0x080 ≤ id && id ≤ 0x0FF) || (0x700 ≤ id && id ≤ 0x77F)

/-- One PDO: its identifier, its length, and an identifier it shares with an earlier one of its port. -/
def State.pdoRules (s : State) (tx : Bool) (n : Nat) : List (Nat × Nat) :=
  let idOf (t : Bool) (k : Nat) : Nat := s.parN (if t then Par.canTpdoCobid else Par.canRpdoCobid) 0 k
  let cfgOf (t : Bool) (k : Nat) : BitVec 32 := s.par (if t then Par.canTpdoCfg else Par.canRpdoCfg) 0 k
  let id := idOf tx n
  let port := wfield (cfgOf tx n) 0 0
  let len := wfield (cfgOf tx n) 7 1
  let same (t : Bool) (k : Nat) : Bool := idOf t k = id && wfield (cfgOf t k) 0 0 = port
  let cob := (if tx then Par.canTpdoCobid else Par.canRpdoCobid).pid 0 n
  let cfg := (if tx then Par.canTpdoCfg else Par.canRpdoCfg).pid 0 n
  if id = 0 then []
  else
    bad (cobBad id || (List.range n).any (same tx) || (tx && (List.range 64).any (same false))) stConflict cob ++
    bad (!([1, 2, 3, 4, 5, 6, 7, 8, 12, 16, 20, 24, 32, 48, 64] : List Nat).contains len || (8 < len && s.parN Par.canDataRate 0 port = 0))
      stRange cfg ++
    bad (!tx && wbit (cfgOf tx n) 13 && s.par Par.canHbNode 0 (wfield (cfgOf tx n) 12 8) = 0) stConflict cfg

/-- Ring master channels (13 R455). -/
def State.ringRules (s : State) : List (Nat × Nat) :=
  let w (k : Nat) : BitVec 32 := s.par Par.ringPubCh 0 k
  (laterTwins 8 (fun a b => wbit (w a) 15 && wbit (w b) 15 && wfield (w a) 5 0 = wfield (w b) 5 0)).map (fun k =>
    (stConflict, Par.ringPubCh.pid 0 k)) ++
  each 8 (fun k =>
    let fmt := s.portFormat (wfield (w k) 12 8)
    bad (wbit (w k) 15 && !(fmt = 1 || fmt = 2 || fmt = 3)) stConflict (Par.ringPubCh.pid 0 k))

/-- Every finding of step 10. -/
def State.stagingRules (s : State) : List (Nat × Nat) :=
  s.treadRules ++ each 160 (fun l => if s.hasLine l then s.lineRules l else []) ++ each s.nPorts s.portRules ++
    each s.nAxes s.axisRules ++ each s.nFlights s.flightRules ++ each s.nFlights s.tallyRules ++
    [144, 146, 148].flatMap s.halfPair ++ s.connRules ++ s.trdpRules ++
    s.rangeRules false ++ s.rangeRules true ++ each 64 (s.pdoRules false) ++ each 64 (s.pdoRules true) ++
    (if s.hasRing then s.ringRules else [])

/-! ### The ten steps (14 R474) -/

/-- The parameters of an image, over the user trims, which no image carries (14 R487). -/
def State.imageParams (s : State) (es : List (Nat × BitVec 32)) : Params :=
  es.foldl (fun ps e => Params.set ps e.1 e.2) (s.params.filter (fun e => pidClass e.1 = 0x61))

/-- Item of the image as a whole. -/
def itemImage : Nat := 0x70000000

/-- Steps 4 to 7 over the PIDs and the values. `h` holds the image's values. DEDUCED (log 62). -/
def State.pidFindings (h : State) (r : RawImage) : Option (Nat × Nat × Nat) :=
  let pids := r.entries.map (·.1)
  let undefined := pids.filter (fun p => match h.resolvePid p with | .inl st => st = stBadParam | .inr _ => false)
  let fixed := pids.filter (fun p => match rowOfPid p with | some x => x.acc == .ro || x.acc == .wo | none => false)
  let foreign := pids.filter (fun p => [0x02, 0x58, 0x60, 0x61].contains (pidClass p))
  let gone := pids.filter h.pidAbsent ++ h.absentValues ++
    (match r.prog.bind readContainer with | some c => h.absentRefs c | none => [])
  let step (n st : Nat) (l : List Nat) : Option (Nat × Nat × Nat) := (lowestItem st l).map (fun f => (n, f))
  (step 4 stBadParam undefined).orElse (fun _ => (step 5 stReadOnly fixed).orElse (fun _ =>
    (step 6 stConflict foreign).orElse (fun _ => step 7 stNotPresent gone)))

/-- Steps 8 to 10: the step, status and item of the first finding, or the container. -/
def State.ruleFindings (h : State) (r : RawImage) : (Option Container) ⊕ (Nat × Nat × Nat) :=
  let peek := (r.prog.bind readContainer).map (fun c => c.container (r.prog.getD []))
  let hp := { h with prog := { h.prog with running := peek } }
  match lowestItem stRange (hp.valueFindings r.entries) with
  | some f => .inr (8, f)
  | none =>
    let judged : (Option Container) ⊕ (Nat × Nat) := match r.prog with
      | none => .inl none
      | some bs => match h.verifyContainer bs with
        | .inl c => .inl (some c)
        | .inr f => .inr f
    match judged with
    | .inr f => .inr (9, f)
    | .inl c => match lowestFinding ({ h with prog := { h.prog with running := c } }).stagingRules with
      | some f => .inr (10, f)
      | none => .inl c

/-- STAGE_END of a configuration image: the image, or the step, the status and the item of its refusal (14 R474). DEDUCED (log 62). -/
def State.judgeImage (s : State) (bs : Bytes) : Image ⊕ (Nat × Nat × Nat) :=
  match readImage bs with
  | none => .inr (1, stBadLength, itemImage)
  | some r =>
    let h := { s with params := s.imageParams r.entries }
    if !s.signedBySlot (bs.take r.sigOfs) (bs.drop r.sigOfs) then .inr (2, stVerifyFail, itemImage)
    else if r.check ≠ h.safetyCheck.toNat || r.sealAddr ≠ h.parN Par.safetySealAddr 0 0 then
      .inr (3, stVerifyFail, Par.safetySetCheck.pid 0 0)
    else match h.pidFindings r with
      | some f => .inr f
      | none => match h.ruleFindings r with
        | .inr f => .inr f
        | .inl c => .inl
          { version := word32 r.version, params := h.params.filter (fun e => pidClass e.1 ≠ 0x61), prog := c,
            check := BitVec.ofNat 16 r.check, sealAddr := BitVec.ofNat 8 r.sealAddr, digest := sha256 bs,
            raw := bs }

end Sys2Proof.Machine
end

