-- ==== Sys2Proof/Machine/LoadOps.lean ====
section
/-! DEFINITION. Loading a configuration (14 R467, R475): its values, the limp-home map, the supplies, the connections, the CAN ports; and
every effect of activation. -/

namespace Sys2Proof.Machine

/-! ### What an activation changes -/

/-- The PIDs whose values differ between two parameter stores. -/
def changedPids (old new : Params) : List Nat :=
  ((old ++ new).map (·.1)).filter (fun p => sparseGet resetOf old p ≠ sparseGet resetOf new p)

/-- One of the PIDs belongs to an instance of a class, with an index that a condition names. -/
def touches (pids : List Nat) (cls inst : Nat) (p : Nat → Bool) : Bool :=
  pids.any (fun x => pidClass x = cls && pidInst x = inst && p (pidIdx x))

/-- One of the PIDs is an element of a row of an instance. -/
def touchesRow (pids : List Nat) (r : ParRow) (inst : Nat) : Bool :=
  touches pids r.cls inst (fun i => decide (r.idx ≤ i) && decide (i < r.idx + r.len))

/-! ### Values, checks, storey dies -/

/-- The values of an image, or the reset values where there is none, over the user trims; each hall's copy and its check of them (08 R284,
R293, 12 R429). A CMP_CFG value with ARM is loaded as a value and arms nothing: arming is a write (04 R142, R143). DESIGN CHOICE (log 75). -/
def State.loadValues (s : State) (img : Option Image) : State :=
  let s := { s with params := s.imageParams (match img with | some x => x.params | none => []) }
  let c := if img.isSome then s.safetyCheck else 0
  { s with
      safety := { s.safety with checkA := c, checkB := c }
      sec := { s.sec with copyA := s.params, copyB := s.params, configOn := img.isSome } }

/-- Hall A loads the limp-home map into the storey dies; with no configuration they hold none (02 R71, R76, 14 R467). DEDUCED (log 24). -/
def State.loadLimp (s : State) : State :=
  let map := ((List.range 24).map (s.par Par.supplyLhSet 0), (List.range 8).map (s.par Par.supplyLhIlim 0))
  s.mapLimp (fun d l =>
    if !s.configLoaded then { l with map := none, armed := false }
    else if (s.die d).railUp then { l with map := some map, episodes := 0 }
    else l)

/-- Encoder supplies, SFEED and wetting follow the configuration (02 R75, 04 R138). -/
def State.loadFeeds (s : State) : State :=
  let s := s.mapFpower (fun _ x => { x with feedOn := x.presence && s.configLoaded })
  s.mapPorts (fun p x => { x with encOn := s.encSupplyOn p })

/-- The CAN ports follow CAN.EN; nothing has been received, and the timeouts count from now (10 R356, R359, R360). -/
def State.loadCan (s : State) : State :=
  let port (p : Nat) (x : CanPort) : CanPort :=
    if s.parN Par.canEn 0 p ≠ 1 then { x with st := .off }
    else if x.st == .off then { x with st := .active, txErr := 0, rxErr := 0 }
    else x
  { s with
      can := { ports := s.can.ports.mapIdx port, rpdos := List.replicate 64 .reset,
               nodes := List.replicate 32 ⟨0, 0, s.stamp⟩ } }

/-- The train network as a configuration finds it: the sequence counters at 0, nothing received, groups joined (09 R319 to R321). -/
def State.loadTrain (s : State) : State :=
  ({ s with
      train := { s.train with
          subs := List.replicate 32 .reset, pubSeq := List.replicate 32 0, connTxSeq := List.replicate 8 0 } }).joinGroups

/-- The program of a configuration awaits its cold start: 0 start-up, 1 activation (10 R334, R336). -/
def State.loadProgram (s : State) (c : Option Container) (cause : Nat) : State :=
  { s with
      prog := { s.prog with
          running := c, run := false, startDue := if c.isSome then some cause else none, stopCause := 0, executing := none
          actions := [], written := true, skips := 0, tx := [], out := [], inp := [], mem := [], insts := [], switchAt := none, override := none } }

/-! ### The effects of activation (14 R475 step 6) -/

/-- Treads (03 R98, R106). -/
def State.activateTreads (s : State) (pids : List Nat) : State :=
  s.mapTreads (fun t x =>
    let warm := touchesRow pids Par.treadWireCsa t || touchesRow pids Par.treadWireTau t
    { x with
        x := if warm then s.iwOf t * s.iwOf t / 2 else x.x, used := 0, latchedOff := false, cmd := .off, mode := .off })

/-- Sense lines and their pairs: receivers start again; a changed RWS parameter restarts the tracking, a changed SENSE parameter clears the
pair's latch (04 R118, R123, 08 R265). -/
def State.activateLines (s : State) (pids : List Nat) : State :=
  let rws (l : Nat) : Bool := touches pids 0x18 l (fun i => match findRow 0x18 i with | some r => r.acc == .rws | none => false)
  let any' (l : Nat) : Bool := touches pids 0x18 l (fun _ => true)
  let s := (s.restartLines false (fun l => !rws l)).restartLines true rws
  s.forEach 51 (fun s n =>
    if any' (pairLine n) || any' (pairLine n + 1) then s.modPair n (fun p => { p with latch := false }) else s)

/-- The entries of a port's compare list whose position or configuration an activation has changed. -/
def cmpTouched (pids : List Nat) (p : Nat) : BitVec 64 :=
  (List.range 64).foldl (fun m i =>
    if pids.contains (Par.portCmpPos.pid p i) || pids.contains (Par.portCmpCfg.pid p i) then m ||| bit64 i else m) 0

/-- A port at an activation: reed inputs start again, a REED port's counter is 0 and agrees with the second one, and an entry of the
compare list that changes is disarmed (04 R123, R128, R129, R137, R142, R152). DESIGN CHOICE (log 75). -/
def State.activatePort (s : State) (pids : List Nat) (p : Nat) (x : Port) : Port :=
  let held := s.portFormat p = 4
  { x.restartReeds with
      echoOverrun := false, armed := x.armed &&& ~~~(cmpTouched pids p), count := if held then 0 else x.count
      wraps := if held then 0 else x.wraps, diffBase := if held then (0 - x.countB).toInt else x.diffBase
      misRun := if held then 0 else x.misRun, tickCounts := if held then [] else x.tickCounts
      hallState := if touchesRow pids Par.portFormat p then 0 else x.hallState }

/-- Ports: each starts again, echoes too, and an AUX output with a new owner starts low (04 R123, R137, R147, R152). -/
def State.activatePorts (s : State) (pids : List Nat) : State :=
  let s := s.mapPorts (s.activatePort pids)
  let s := s.forEach 12 State.restartEcho
  s.forEach 24 (fun s p => if touchesRow pids Par.portAuxOwner p then s.setAux p false none else s)

/-- The commutation parameters of an axis (05 R157 to R159). -/
def commRows : List ParRow := [Par.axisFbPort, Par.axisPolePairs, Par.axisCountsRev, Par.axisComm, Par.axisCommOffset, Par.axisPhaseOrder]

/-- TYPE, FB_PORT, and the ENC and STEP parameters (05 R176). -/
def refRows : List ParRow := [Par.axisType, Par.axisFbPort, Par.axisEncNum, Par.axisEncDen, Par.axisStepRes, Par.axisStepSrc]

/-- Axes: IDLE; commutation and reference are lost where their parameters changed (05 R159, R165, R176). -/
def State.activateAxes (s : State) (pids : List Nat) : State :=
  let s := s.forEach s.nAxes State.toIdle
  s.mapAxes (fun a x => { x with
      commOk := x.commOk && !commRows.any (fun r => touchesRow pids r a)
      commCoarse := x.commCoarse && !commRows.any (fun r => touchesRow pids r a)
      referenced := x.referenced && !refRows.any (fun r => touchesRow pids r a) })

/-- The parameters of a flight whose change makes its friction map invalid (07 R235). -/
def mapTouched (pids : List Nat) (f : Nat) : Bool :=
  [Par.obstacleKt, Par.obstacleEta, Par.obstacleGearG, Par.obstacleMassEq, Par.obstacleVisc, Par.obstacleKtTable, Par.flightLeafClosedPos,
   Par.flightOpenPos].any (fun r => touchesRow pids r f) ||
  [Par.axisType, Par.axisScaleNum, Par.axisScaleDen].any (fun r => touchesRow pids r (leafOf f))

/-- Friction maps (07 R235). -/
def State.activateMaps (s : State) (pids : List Nat) : State :=
  s.forEach s.nFlights (fun s f => if mapTouched pids f then s.mapInvalid f else s)

/-- HOSTLINK.KEY_RESET empties every host key slot (12 R421). -/
def State.activateKeys (s : State) : State :=
  if s.parN Par.hostlinkKeyReset 0 0 ≠ 1 then s
  else ({ s with host := { s.host with keys := List.replicate 8 none } }).record Evt.hostKeysReset noSource []

/-- The number of enabled RING connections (13 R444). -/
def State.ringConnCount (s : State) : Nat :=
  ((List.range 8).filter (fun c => s.parN Par.safelinkConnEn 0 c = 1 && s.onRing c)).length

/-- A forming is triggered by a change of a RING parameter, of CYCLE_MS, or of the number of enabled RING connections (13 R444). -/
def State.activateRing (old s : State) (pids : List Nat) : State :=
  if touches pids 0x50 0 (fun _ => true) || old.tCyc ≠ s.tCyc || old.ringConnCount ≠ s.ringConnCount then s.ringTrigger else s

/-- Every effect of the activation of the image that the slot record names. -/
def State.activateAll (s : State) (img : Image) : State :=
  let old := s
  let s := { s with sec := { s.sec with override := none } }
  let s := ((s.loadValues (some img)).floodChanged (old.par Par.galleryFloodMode 0 0)).loadProgram img.prog 1
  let s := if s.prog.forces.isEmpty || img.prog.isSome then s else s.clearForces 1
  let pids := changedPids old.params s.params
  let s := { s with safety := { s.safety with sealRd := { s.safety.sealRd with ok := s.sealMatches s.safety.sealRd.value } } }
  let s := (((s.loadLimp).loadFeeds).activateTreads pids).activateLines pids
  let s := ((s.activatePorts pids).activateAxes pids).activateMaps pids
  let s := ((s.refreshConns).loadTrain).loadCan
  old.activateRing s.activateKeys pids

end Sys2Proof.Machine
end

