-- ==== Sys2Proof/Machine/Slots.lean ====
section
/-! DEFINITION. Staged objects: configuration images, key objects, firmware images (14 R473 to R485, 12 R424); activation and rollback
(14 R475, R476). -/

namespace Sys2Proof.Machine

/-! ### Transfers of staged objects (12 R422, R424, 14 R479, R485) -/

/-- Firmware is staged in UPDATE only, every other object in the states outside it. -/
def State.stageOpen (s : State) (k : XKind) : Bool :=
  match k with
  | .firmware => s.mode == .update
  | _ => s.mode == .standby || s.mode == .run || s.mode == .maintenance || s.mode == .safeHold

/-- The kind that a transfer of a session has. -/
def State.stageKind (s : State) (k : Pkt) : Option XKind := (s.xferOf true (fieldAt k.payload 0 2) k.hdr.session).map (·.kind)

/-- The module state permits a STAGE opcode for a kind; where none is named, in any state that stages something. -/
def State.stageState (s : State) (k : Option XKind) : Bool :=
  match k with
  | some x => s.stageOpen x
  | none => s.stageOpen .config || s.stageOpen .firmware

/-- The kind that STAGE_BEGIN names, with the least and the greatest length. -/
def stageKindOf : Nat → Option (XKind × Nat × Nat)
  | 0 => some (.config, 1, 1048576)
  | 1 => some (.key, 7912, 7912)
  | 2 => some (.firmware, 1, 8388336)
  | _ => none

/-- STAGE_BEGIN. -/
def execStageBegin (k : Pkt) (s : State) : Host.Outcome State Fault Refusal :=
  let kind := stageKindOf (fieldAt k.payload 0 1)
  let o : OpSpec :=
    { code := 0x0050, perm := .config, lenOk := k.payload.length = 40, stateOk := s.stageState (kind.map (·.1)) }
  match s.vet o k with
  | .settled s => .next s
  | .served s p _ _ =>
    match kind with
    | none => .next (s.answer p stRange 0 [])
    | some (x, lo, hi) => .next (if s.hallB.inReset then s.answer p stBusy 0 [] else s.beginXfer p x lo hi k.payload)

/-- The bank of each hall that does not run (14 R465, R479). -/
def Security.idleA (x : Security) : Nat := 1 - bitN (wbit x.runBank 0) 0
def Security.idleB (x : Security) : Nat := 1 - bitN (wbit x.runBank 1) 0

/-- Firmware data are written into the inactive banks as they arrive: Hall A's part after the header, Hall B's after it. -/
def State.wipeBanks (s : State) (data : Bytes) : State :=
  let gone : Bank := { Bank.reset with whole := false }
  let hb := 64 + fieldAt data 28 4
  { s with
      sec := { s.sec with
          banksA := if 64 < data.length then s.sec.banksA.set s.sec.idleA gone else s.sec.banksA
          banksB := if 64 < data.length && decide (hb < data.length) then s.sec.banksB.set s.sec.idleB gone else s.sec.banksB } }

/-- STAGE_DATA. -/
def execStageData (k : Pkt) (s : State) : Host.Outcome State Fault Refusal :=
  let o : OpSpec :=
    { code := 0x0051, perm := .config, lenOk := dataLenOk k.payload, stateOk := s.stageState (s.stageKind k) }
  match s.vet o k with
  | .settled s => .next s
  | .served s p _ _ =>
    if s.hallB.inReset then .next (s.answer p stBusy 0 [])
    else
      let s := s.dataXfer p true k.payload
      match s.host.xfers.find? (fun (x : Xfer) => x.kind == .firmware) with
      | none => .next s
      | some x => .next (s.wipeBanks x.data)

/-! ### STAGE_END of a configuration image (14 R474) -/

/-- A STAGE_END is answered; CONFIG.LAST_STAGE keeps its status and step, CONFIG.LAST_STAGE_ITEM the item of a refusal (14 R491). -/
def State.stageDone (s : State) (p : Pend) (status step item : Nat) : State :=
  let s := { s with
      sec := { s.sec with
          lastStage := word32 (status + 256 * step), lastStageItem := if status = stOK then s.sec.lastStageItem else word32 item } }
  s.answer p status item []

/-- A configuration image is judged: it replaces STAGED, or leaves STAGED empty. -/
def State.stageConfig (s : State) (p : Pend) (bs : Bytes) : State :=
  match s.judgeImage bs with
  | .inl x =>
    let s := { s with sec := { s.sec with staged := some x, stagedA := some x } }
    (s.record Evt.configStaged noSource [x.version, x.check.setWidth 32]).stageDone p stOK 0 0
  | .inr (step, status, item) =>
    let s := { s with sec := { s.sec with staged := none, stagedA := none } }
    (s.record Evt.configStageRefused noSource [word32 status, word32 item]).stageDone p status step item

/-! ### STAGE_END of a key object (14 R485) -/

/-- Item of a key object or of a firmware layout. -/
def itemSecurity : Nat := 0x58000000

/-- A key object that is laid out as it must be. -/
def keyObjectSound (bs : Bytes) (serial : BitVec 32) : Bool :=
  let revoke := fieldAt bs 6 1 = 2
  let signer := fieldAt bs 48 1
  bs.length = 7912 && bs.take 4 = [0x4C, 0x56, 0x4B, 0x4F] && fieldAt bs 4 2 = 1 && (fieldAt bs 6 1 = 1 || revoke) &&
    decide (fieldAt bs 7 1 ≤ 3) && (fieldAt bs 8 4 = 0 || fieldAt bs 8 4 = serial.toNat) && fieldAt bs 12 4 = 0 &&
    (!revoke || fieldAt bs 16 32 = 0) && (decide (signer ≤ 3) || signer = 0xFF) && fieldAt bs 49 7 = 0 &&
    (signer ≠ 0xFF || (bs.drop 56).all (fun b => b = 0))

def Security.key (x : Security) (n : Nat) : KeySlot := x.keys.getD n ⟨0, []⟩

/-- The signature of a key object under the key of a slot. -/
def Security.keySigned (x : Security) (n : Nat) (bs : Bytes) : Bool :=
  Config.slhVerify (x.key n).key (bs.take 56) (bs.drop 56)

/-- The status of a sound key object: OK, STATE for a slot in the wrong state, VERIFY_FAIL otherwise. -/
def Security.judgeKey (x : Security) (sv : Bool) (bs : Bytes) : Nat :=
  let slot := fieldAt bs 7 1
  let signer := fieldAt bs 48 1
  let want := if fieldAt bs 6 1 = 1 then 0 else 1
  if (x.key slot).st ≠ want then stState
  else if signer = 0xFF then
    if want = 0 && sv && x.keys.all (fun k => k.st = 0) then stOK else stVerifyFail
  else if signer = slot then stVerifyFail
  else if (x.key signer).st ≠ 1 then stState
  else if x.keySigned signer bs then stOK else stVerifyFail

/-- A key object takes effect at once. DEDUCED (log 63). -/
def State.stageKey (s : State) (p : Pend) (bs : Bytes) : State :=
  let st := if keyObjectSound bs s.sec.serial then s.sec.judgeKey p.sv bs else stVerifyFail
  let slot := fieldAt bs 7 1
  if st ≠ stOK then s.stageDone p st 0 (if st = stVerifyFail then itemSecurity else 0)
  else if fieldAt bs 6 1 = 1 then
    let key := (bs.drop 16).take 32
    let s := { s with sec := { s.sec with keys := s.sec.keys.set slot ⟨1, key⟩ } }
    (s.record Evt.keyEnrolled noSource [word32 slot, (s.sec.key slot).id]).stageDone p stOK 0 0
  else
    let s := { s with sec := { s.sec with keys := s.sec.keys.modify slot (fun k => { k with st := 2 }) } }
    (s.record Evt.keyRevoked noSource [word32 slot]).stageDone p stOK 0 0

/-! ### STAGE_END of a firmware image (14 R478, R479) -/

/-- The longest part of a hall. -/
def maxPart : Nat := 4190208

/-- A firmware image whose layout is right. -/
def readFirmware (bs : Bytes) : Option Firmware :=
  let haLen := fieldAt bs 28 4
  let hbLen := fieldAt bs 36 4
  let sigOfs := 64 + haLen + hbLen
  let sound := bs.take 4 = [0x4C, 0x56, 0x46, 0x57] && fieldAt bs 4 2 = 1 && decide (fieldAt bs 6 2 ≤ 1) &&
    decide (fieldAt bs 20 1 ≤ 63) && decide (fieldAt bs 21 1 ≤ 63) && decide (fieldAt bs 22 1 ≤ 1) && fieldAt bs 23 1 = 0 &&
    fieldAt bs 24 4 = 64 && decide (1 ≤ haLen) && decide (haLen ≤ maxPart) && fieldAt bs 32 4 = 64 + haLen && decide (1 ≤ hbLen) &&
    decide (hbLen ≤ maxPart) && fieldAt bs 40 4 = sigOfs && fieldAt bs 44 16 = 0 &&
    fieldAt bs 60 4 = (crc32c (bs.take 60)).toNat && bs.length = sigOfs + 7856
  if sound then
    some { fwHa := word32 (fieldAt bs 8 4), fwHb := word32 (fieldAt bs 12 4), fwPd := word32 (fieldAt bs 16 4), secHa := fieldAt bs 20 1,
           secHb := fieldAt bs 21 1, vendor := fieldAt bs 22 1, revoke := fieldAt bs 6 2 = 1, ha := (bs.drop 64).take haLen,
           hb := (bs.drop (64 + haLen)).take hbLen }
  else none

/-- The signature of a firmware image under its vendor slot, which is not revoked. -/
def Security.firmwareSigned (x : Security) (fw : Firmware) (bs : Bytes) : Bool :=
  let sigOfs := 64 + fw.ha.length + fw.hb.length
  !x.vendorRevoked.getD fw.vendor true && Config.slhVerify (x.vendorKeys.getD fw.vendor []) (bs.take sigOfs) (bs.drop sigOfs)

/-- A passing firmware image stands in the inactive banks with its signature, and a restart of the module tries it. -/
def State.keepFirmware (s : State) (fw : Firmware) (sig : Bytes) : State :=
  let s := { s with
      sec := { s.sec with
          firmware := some fw, fwPending := 1
          banksA := s.sec.banksA.set s.sec.idleA ⟨sha256 fw.ha, fw.fwHa, fw.fwPd, fw.secHa, true, fw.vendor, sig, true⟩
          banksB := s.sec.banksB.set s.sec.idleB ⟨sha256 fw.hb, fw.fwHb, 0, fw.secHb, true, fw.vendor, sig, true⟩ } }
  s.record Evt.fwStaged noSource [fw.fwHa, fw.fwHb, fw.fwPd]

/-- A firmware image is judged. -/
def State.stageFirmware (s : State) (p : Pend) (bs : Bytes) : State :=
  match readFirmware bs with
  | none => s.stageDone p stBadLength 0 itemSecurity
  | some fw =>
    if !s.sec.firmwareSigned fw bs then s.stageDone p stVerifyFail 0 1
    else if fw.secHa < s.sec.arHa || fw.secHb < s.sec.arHb then s.stageDone p stVerifyFail 0 2
    else (s.keepFirmware fw (bs.drop (64 + fw.ha.length + fw.hb.length))).stageDone p stOK 0 0

/-- The whole object of a transfer is handled, and the transfer is over. DEDUCED (log 63). -/
def State.endStage (s : State) (p : Pend) (x : Xfer) : State :=
  let s := s.endXfer x.kind
  if !x.whole then s.stageDone p stVerifyFail 0 0
  else match x.kind with
    | .config => s.stageConfig p x.data
    | .key => s.stageKey p x.data
    | .firmware => s.stageFirmware p x.data
    | .prog => s.stageDone p stState 0 0

/-- STAGE_END. DEDUCED (log 63). -/
def execStageEnd (k : Pkt) (s : State) : Host.Outcome State Fault Refusal :=
  let o : OpSpec :=
    { code := 0x0052, perm := .config, lenOk := k.payload.length = 4, stateOk := s.stageState (s.stageKind k), deferred := true }
  match s.vet o k with
  | .settled s => .next s
  | .served s p _ _ =>
    if s.hallB.inReset then .next (s.stageDone p stBusy 0 0)
    else match s.xferOf true (fieldAt k.payload 0 2) p.session with
      | none => .next (s.stageDone p stState 0 0)
      | some x => .next (s.endStage p x)

/-! ### ACTIVATE and ROLLBACK (12 R422, 14 R475, R476) -/

/-- The present seal value is that of an image's safety set (08 R295). -/
def State.sealFits (s : State) (x : Image) : Bool :=
  match s.safety.sealRd.value with
  | none => false
  | some v => v.toNat = 65536 * x.sealAddr.toNat + x.check.toNat

/-- The image that an ACTIVATE or a ROLLBACK makes ACTIVE, or the status that refuses it. -/
def State.activationOf (s : State) (rollback : Bool) (version : Nat) : Image ⊕ Nat :=
  match if rollback then s.sec.previous else s.sec.staged with
  | none => .inr (if rollback then stNoPrevious else stState)
  | some x => if x.version.toNat ≠ version then .inr stState else if !s.sealFits x then .inr stSealed else .inl x

/-- A refusal; CONFIG.LAST_ACTIVATE keeps it. -/
def State.refuseActivation (s : State) (p : Pend) (status : Nat) : State :=
  ({ s with sec := { s.sec with lastActivate := word32 status } }).answer p status 0 []

/-- An accepted request: moving axes receive STOP, and once all rest the slot record is written. DEDUCED (log 64). -/
def State.beginActivation (s : State) (p : Pend) (rollback : Bool) : State :=
  let old := (s.sec.active.map (·.version)).getD 0
  let s := s.beginExclusive p
  let s := { s with sec := { s.sec with activating := some ⟨rollback, old, s.stamp + 1000, none⟩ } }
  let s := s.movingAxes.foldl (fun s a => s.seqCmd a .stop) s
  if s.movingAxes.isEmpty then s.writeSlots else s

/-- An ACTIVATE or ROLLBACK that has passed the checks of its packet. DEDUCED (log 64). -/
def State.serveActivation (s : State) (p : Pend) (rollback : Bool) (payload : Bytes) : State :=
  if !(s.mode == .standby || s.mode == .maintenance) then s.refuseActivation p stState
  else if s.hallB.inReset || s.excluded then s.refuseActivation p stBusy
  else match s.activationOf rollback (fieldAt payload 0 4) with
    | .inr st => s.refuseActivation p st
    | .inl _ => s.beginActivation p rollback

/-- ACTIVATE. -/
def execActivate (k : Pkt) (s : State) : Host.Outcome State Fault Refusal :=
  match s.vet { code := 0x0053, perm := .config, lenOk := k.payload.length = 4, deferred := true } k with
  | .settled s => .next s
  | .served s p _ _ => .next (s.serveActivation p false k.payload)

/-- ROLLBACK. -/
def execRollback (k : Pkt) (s : State) : Host.Outcome State Fault Refusal :=
  match s.vet { code := 0x0054, perm := .config, lenOk := k.payload.length = 4, deferred := true } k with
  | .settled s => .next s
  | .served s p _ _ => .next (s.serveActivation p true k.payload)

/-- Both halls change to the image in the ACTIVE slot, and the request is answered. DEDUCED (log 64). -/
def State.finishActivation (s : State) (x : Activating) (img : Image) : State :=
  let s := { s with
      sec := { s.sec with activating := none, activations := s.sec.activations + 1, lastActivate := 0 } }
  let s := s.activateAll img
  let s := s.record (if x.rollback then Evt.configRolledBack else Evt.configActivated) noSource [x.old, img.version]
  s.answerExclusive stOK 0 (leBytes 4 img.version.toNat)

/-- ACTIVATION_TICK: four ticks after the slot record was written. -/
def execActivationTick (s : State) : Host.Outcome State Fault Refusal :=
  match s.sec.activating, s.sec.active with
  | some x, some img =>
    match x.at' with
    | none => .next s
    | some t => .next (if s.tick < t then s else s.finishActivation x img)
  | _, _ => .next s

/-- An entry of SLOT_INFO. -/
def slotEntry (x : Option Image) : Bytes :=
  match x with
  | none => List.replicate 8 0
  | some i => leBytes 4 i.version.toNat ++ leBytes 2 i.check.toNat ++ [i.sealAddr, 1]

/-- SLOT_INFO (12 R422). -/
def execSlotInfo (k : Pkt) (s : State) : Host.Outcome State Fault Refusal :=
  match s.vet { code := 0x0055, perm := .read, lenOk := k.payload.length = 0 } k with
  | .settled s => .next s
  | .served s p _ _ =>
    let held := match s.prog.override with | some c => c.progId.toNat | none => 0
    .next (s.answer p stOK 0
      (slotEntry s.sec.staged ++ slotEntry s.sec.active ++ slotEntry s.sec.previous ++ leBytes 4 held))

end Sys2Proof.Machine
end

