-- ==== Sys2Proof/Machine/Attestation.lean ====
section
/-! DEFINITION. Attestation and the identity certificate (14 R488 to R490), host keys (12 R421), the calibration check (14 R466, 12
R422). -/

namespace Sys2Proof.Machine

/-! ### Attestation (14 R489, R490) -/

/-- The 256 bytes of a report body. DEDUCED (log 65). -/
def State.reportBody (s : State) (nonce : Bytes) : Bytes :=
  let word (w : BitVec 32) : Bytes := leBytes 4 w.toNat
  let ident (idx : Nat) : Bytes := word ((s.viewIdent idx).getD 0)
  let zeros (n : Nat) : Bytes := List.replicate n 0
  let digest (c : Option Bytes) : Bytes := c.getD (zeros 32)
  let keyBits := ((List.range 4).map (fun k => bitN ((s.sec.key k).st = 1) k + bitN ((s.sec.key k).st = 2) (k + 4))).sum
  let vendor := bitN (s.sec.vendorRevoked.getD 0 false) 0 + bitN (s.sec.vendorRevoked.getD 1 false) 1
  [0x4C, 0x56, 0x41, 0x54] ++ leBytes 2 1 ++ leBytes 2 256 ++ nonce ++ ident 3 ++ ident 1 ++ ident 5 ++ ident 6 ++ ident 7 ++ ident 8
    ++ word (sealWord s.safety.sealRd.value s.safety.sealRd.lastValid) ++ leBytes 2 s.safety.checkB.toNat
    ++ [BitVec.ofNat 8 s.mode.code]
    ++ leBytes 1 (bitN (!s.prog.forces.isEmpty) 0 + bitN s.prog.override.isSome 1 + bitN s.sec.fallback 2)
    ++ (s.bankOf .a).digest ++ (s.bankOf .b).digest ++ digest (s.sec.active.map (·.digest))
    ++ digest ((s.sec.active.bind (·.prog)).map (·.digest)) ++ digest (s.prog.override.map (·.digest))
    ++ leBytes 3 s.gallery.powerCycles ++ [0] ++ leBytes 5 s.gallery.optime ++ zeros 3 ++ leBytes 1 s.sec.arHa ++ leBytes 1 s.sec.arHb
    ++ leBytes 1 keyBits ++ leBytes 1 vendor ++ zeros 8

/-- A signed report. DESIGN CHOICE (log 11). -/
def signedReport (body : Bytes) : Bytes := body ++ (List.range 17088).map (Config.slhSign body)

/-- The reply that carries a piece of a signed report. -/
def reportPiece (report : Bytes) (ofs : Nat) : Bytes :=
  let piece := (report.drop ofs).take 4096
  leBytes 4 report.length ++ leBytes 4 ofs ++ leBytes 2 piece.length ++ [0, 0] ++ piece

/-- A nonce whose bytes 0 to 27 are 0 asks for a continuation. -/
def isContinuation (payload : Bytes) : Bool := (payload.take 28).all (fun b => b = 0)

/-- A challenge: the body is built and KE signs it; one at a time. DEDUCED (log 65). -/
def State.challenge (s : State) (p : Pend) (nonce : Bytes) : State :=
  if s.hallB.inReset || s.sec.attesting.isSome then s.answer p stBusy 0 []
  else { s with sec := { s.sec with attesting := some ⟨s.reportBody nonce, p⟩ } }

/-- A continuation of the last report, for the session that challenged. DEDUCED (log 65). -/
def State.continueReport (s : State) (p : Pend) (ofs : Nat) : State :=
  if s.hallB.inReset then s.answer p stBusy 0 []
  else match s.sec.report with
    | some (n, r) => if n = p.session then s.answer p stOK 0 (reportPiece r ofs) else s.answer p stState 0 []
    | none => s.answer p stState 0 []

/-- An ATTEST packet; only a challenge is deferred. -/
def State.attest (s : State) (k : Pkt) : State :=
  let more := isContinuation k.payload
  match s.vet { code := 0x0060, perm := .read, lenOk := k.payload.length = 32, deferred := !more } k with
  | .settled s => s
  | .served s p _ _ => if more then s.continueReport p (fieldAt k.payload 28 4) else s.challenge p k.payload

/-- ATTEST_CHALLENGE. -/
def execAttestChallenge (k : Pkt) (s : State) : Host.Outcome State Fault Refusal := .next (s.attest k)

/-- ATTEST_CONTINUATION. -/
def execAttestContinuation (k : Pkt) (s : State) : Host.Outcome State Fault Refusal := .next (s.attest k)

/-- ATTEST_SIGNED: KE has signed; the report is kept while the challenging session lives, and its first piece is returned. -/
def execAttestSigned (s : State) : Host.Outcome State Fault Refusal :=
  match s.sec.attesting with
  | none => .next s
  | some x =>
    if s.hallB.inReset then .next s
    else
      let r := signedReport x.body
      let alive := !x.pend.ended && (s.session? x.pend.session).isSome
      let s := { s with
          sec := { s.sec with
              attesting := none, attests := s.sec.attests + 1, report := if alive then some (x.pend.session, r) else none } }
      .next (s.answer x.pend stOK 0 (reportPiece r 0))

/-- CERT_READ. -/
def execCertRead (k : Pkt) (s : State) : Host.Outcome State Fault Refusal :=
  match s.vet { code := 0x0061, perm := .read, lenOk := k.payload.length = 8 } k with
  | .settled s => .next s
  | .served s p _ _ =>
    let n := fieldAt k.payload 4 2
    let piece := (s.sec.certificate.drop (fieldAt k.payload 0 4)).take n
    if n = 0 || 4096 < n then .next (s.answer p stRange 0 [])
    else if s.hallB.inReset then .next (s.answer p stBusy 0 [])
    else .next (s.answer p stOK 0 (leBytes 4 s.sec.certificate.length ++ leBytes 2 piece.length ++ [0, 0] ++ piece))

/-! ### Host keys (12 R421) -/

/-- HOST_KEY_SET: over SV, by an INTEGRATOR, or by an OBSERVER who writes the first key of an empty module. -/
def execHostKeySet (k : Pkt) (s : State) : Host.Outcome State Fault Refusal :=
  let slot := fieldAt k.payload 0 1
  let role := fieldAt k.payload 1 1
  let who := match s.session? k.hdr.session with | some x => x.role | none => 0
  let first := who = 0 && s.host.keys.all Option.isNone && slot = 0 && role = 5
  let o : OpSpec :=
    { code := 0x0062, perm := .read, permOk := who = 5 || first, lenOk := k.payload.length = 36, stateOk := k.hdr.sv }
  match s.vet o k with
  | .settled s => .next s
  | .served s p _ _ =>
    if 7 < slot || role = 0 || 5 < role then .next (s.answer p stRange 0 [])
    else if (s.host.keys.getD slot none).isSome then .next (s.answer p stState 0 [])
    else
      let s := { s with host := { s.host with keys := s.host.keys.set slot (some ⟨(k.payload.drop 4).take 32, role⟩) } }
      .next ((s.record Evt.hostKeySet noSource [word32 slot, word32 role]).answer p stOK 0 [])

/-- A host key slot is emptied, and every session opened with it ends. -/
def State.revokeHostKey (s : State) (slot : Nat) : State :=
  let s := { s with host := { s.host with keys := s.host.keys.set slot none } }
  let mine := s.host.sessions.filter (fun (x : Session) => x.role ≠ 0 && x.slot = slot)
  let s := s.record Evt.hostKeyRevoked noSource [word32 slot]
  mine.foldl (fun s x => s.closeSession x.num 4) s

/-- HOST_KEY_REVOKE. -/
def execHostKeyRevoke (k : Pkt) (s : State) : Host.Outcome State Fault Refusal :=
  match s.vet { code := 0x0063, perm := .config, lenOk := k.payload.length = 4 } k with
  | .settled s => .next s
  | .served s p _ _ =>
    let slot := fieldAt k.payload 0 1
    .next (if 7 < slot then s.answer p stRange 0 [] else (s.answer p stOK 0 []).revokeHostKey slot)

/-! ### CAL_CHECK (14 R466) -/

/-- The SHA-256 of the factory sector: the one in OTP where the sector is the one that it was taken of. DESIGN CHOICE (log 99). -/
def State.sectorDigest (s : State) : Bytes := if s.sectorOk then s.sec.calDigest else Config.calSha s.sec.calFactory

/-- CAL_CHECK: the digest of the factory sector, and the three comparisons of 01 R33. -/
def execCalCheck (k : Pkt) (s : State) : Host.Outcome State Fault Refusal :=
  match s.vet { code := 0x0072, perm := .read, lenOk := k.payload.length = 0, deferred := true } k with
  | .settled s => .next s
  | .served s p _ _ =>
    if s.hallB.inReset then .next (s.answer p stBusy 0 [])
    else
      let result := bitN s.sectorOk 0 + bitN s.portionOk 1 + bitN s.trimsOk 2
      .next (s.answer p stOK 0 (leBytes 1 result ++ [0, 0, 0] ++ s.sectorDigest))

end Sys2Proof.Machine
end

