-- ==== Sys2Proof/Machine/HallOps.lean ====
section
/-! DEFINITION. Resets of the halls (01 R25 to R32, 02 R74): what each hall loses and what stands, and its return (08 R285, 01 R26). -/

namespace Sys2Proof.Machine

/-! ### Hall A -/

/-- An axis whose hall has reset: IDLE; what the storey die holds stands where an encoder works (05 R165, R176). DEDUCED (log 21). -/
def State.axisAfterReset (s : State) (a : Nat) (x : Axis) : Axis :=
  let kept := s.workingEncoder a
  { Axis.reset with
      st := if s.axType a = 0 then .disabled else .idle, referenced := x.referenced && kept, posUncertain := x.posUncertain && kept
      pos := if kept then x.pos else 0, holdSince := s.stamp, stillSince := s.stamp }

/-- A doorway whose hall has reset: its sequencers wait for RUN; its counts stand. -/
def doorAfterReset (d : Door) : Door := { Door.reset with cycles := d.cycles, latchLost := d.latchLost, lastCmd := d.lastCmd }

/-- An obstacle model whose hall has reset: the maps, which MRAM holds, and the counts stand (07 R234). -/
def obstAfterReset (o : Obst) : Obst :=
  { Obst.reset with
      map := o.map, backup := o.backup, detections := o.detections, lastTrig := o.lastTrig, lastPos := o.lastPos, lastF := o.lastF
      fPeak := o.fPeak, tempInAt := o.tempInAt, tempTimeout := o.tempTimeout, lastUnclean := o.lastUnclean }

/-- The host link after a reset: every session has ended; keys and counts stand (12 R420, R421). -/
def HostLink.afterReset (h : HostLink) : HostLink :=
  { HostLink.reset with keys := h.keys, rxDiscards := h.rxDiscards, authFails := h.authFails, rxMisaddr := h.rxMisaddr, nextXfer := h.nextXfer }

/-- The CAN ports are recessive (02 R74). -/
def Can.afterReset (c : Can) : Can :=
  { Can.reset with ports := c.ports.map (fun p => { p with st := .off, txErr := 0, rxErr := 0 }) }

/-- The program after a reset: nothing runs; its counts since power-up stand. -/
def Prog.afterReset (p : Prog) : Prog :=
  { Prog.reset with overruns := p.overruns, skipped := p.skipped, switches := p.switches, lastSwitch := p.lastSwitch }

/-- What Hall A held for GE is lost with it. -/
def Gallery.dropHallA (g : Gallery) : Gallery :=
  { g with
      hallA := [], hallALost := List.replicate 6 0, hallALossFirst := none, hallALossLast := 0, hallACyc := []
      hallACycLost := List.replicate 12 0, hallATicks := 0, cyc := g.cyc.map (fun _ => CycAcc.fresh 0) }

/-- Hall A's working state is lost. DEDUCED (log 21). -/
def State.loseHallA (s : State) : State :=
  let s := s.mapAxes s.axisAfterReset
  let s := (s.mapDoors (fun _ d => doorAfterReset d)).mapObst (fun _ o => obstAfterReset o)
  { s with
      host := s.host.afterReset, can := s.can.afterReset, prog := s.prog.afterReset, gallery := s.gallery.dropHallA
      train := { s.train with subs := List.replicate 32 .reset, pubSeq := List.replicate 32 0, connTxSeq := List.replicate 8 0 }
      ring := { s.ring with masters := [], sf := [] }
      clock := { s.clock with crossA := false, crossRunA := 0 }
      sec := { s.sec with
          uptime := 0, report := none, stagedA := none, activating := s.sec.activating.filter (fun x => x.at'.isSome) } }

/-- Hall A enters reset: every tread turns OFF, AUX outputs go low, the DCL inhibit asserts, the working state is lost. DEDUCED (log 21). -/
def State.resetHallA (s : State) (cause : Nat) : State :=
  let left := s.mode
  let s := (s.enablesLow .a).treadsOff (fun _ => true)
  let s := s.forEach 24 (fun s p => s.setAux p false none)
  let s := s.modHall .a (fun x => { Hall.reset with
      cause := cause, resetTick := s.stamp, railRun := if cause = 2 then 0 else 80, pllLocked := x.pllLocked, eccSingle := x.eccSingle, deferred := x.deferred })
  -- a hall that leaves UPDATE so discards the firmware that has not been booted (14 R481)
  let s := if left == .update then { s with sec := { s.sec with firmware := none, fwPending := 0 } } else s
  s.inhibitOn.loseHallA

/-! ### Hall B -/

/-- A pair whose latch MRAM keeps (08 R265). -/
def Pair.kept (p : Pair) : Pair := { Pair.reset with latch := p.latch }

def FlightSafe.kept (x : FlightSafe) : FlightSafe :=
  { FlightSafe.reset with closedP := x.closedP.kept, lockedP := x.lockedP.kept, egressP := x.egressP.kept, stepP := x.stepP.kept }

/-- An open output after a reset of Hall B; a latched fault clears only by an accepted reset (08 R273). -/
def Dcl.afterReset (d : Dcl) (tick : Nat) : Dcl :=
  { Dcl.reset with openTick := if d.on1 || d.on2 then tick else d.openTick, fault := d.fault }

/-- Hall B's safety state after a reset with the supply present. What S151 showed first after power-up stands (08 R281).
DEDUCED (log 22). -/
def Safety.afterReset (x : Safety) (tick : Nat) : Safety :=
  { Safety.reset with
      flights := x.flights.map FlightSafe.kept, zero := x.zero.kept, relL := x.relL.kept, relR := x.relR.kept
      dclA := x.dclA.afterReset tick, dclB := x.dclB.afterReset tick, inhibit := x.inhibit, resetCount := x.resetCount
      zeroCheck := x.zeroCheck, sealRd := { x.sealRd with readDone := false, stable := 0 }, mismatchCount := x.mismatchCount
      checkA := x.checkA, checkB := x.checkB, standbyTick := x.standbyTick
      resetStuck := x.resetStuck, idle151 := x.idle151, seen151 := x.seen151 }

/-- What GE held in Hall B's SRAM is lost; MRAM and NAND stand (01 R31, 11 R397). -/
def Gallery.dropHallB (g : Gallery) : Gallery :=
  { g with
      arrivals := [], queue := [], cycQueue := [], lost := List.replicate 6 0, rateLost := 0, lossFirst := none, lossLast := 0
      staging := List.replicate 12 .reset }

/-- Hall B's working state is lost: the operations that it was serving for a host are answered BUSY (12 R423). DEDUCED (log 22). -/
def State.loseHallB (s : State) : State :=
  let s := match s.sec.attesting with
    | none => s
    | some x => s.answer x.pend stBusy 0 []
  let waiting := match s.sec.activating with
    | some x => x.at'.isNone
    | none => false
  let s := if waiting then
      ({ s with sec := { s.sec with activating := none, lastActivate := word32 stBusy } }).answerExclusive stBusy 0 []
    else s
  let s := s.mapConns (fun _ x => x.lost)
  { s with
      safety := s.safety.afterReset s.tick, gallery := s.gallery.dropHallB
      clock := { s.clock with crossB := false, crossRunB := 0, rcWarn := false, rcRun := 0 }
      sec := { s.sec with attesting := none, report := none } }

/-- Hall B enters reset: every tread turns OFF, both outputs open, the working state is lost. DEDUCED (log 22). -/
def State.resetHallB (s : State) (cause : Nat) : State :=
  let s := (s.enablesLow .b).treadsOff (fun _ => true)
  let s := s.modHall .b (fun x => { Hall.reset with
      cause := cause, resetTick := s.stamp, railRun := if cause = 2 then 0 else 80, clockOk := cause ≠ 4, pllLocked := x.pllLocked, eccSingle := x.eccSingle, deferred := x.deferred })
  s.openBoth.loseHallB

/-- A hall enters reset; one that is in reset already takes the new cause. DESIGN CHOICE (log 20). -/
def State.resetHall (s : State) (h : HallId) (cause : Nat) : State :=
  if (s.hall h).inReset then
    s.modHall h (fun x => { x with cause := cause, railRun := if cause = 2 then 0 else x.railRun, clockOk := x.clockOk && cause ≠ 4 })
  else match h with
    | .a => s.resetHallA cause
    | .b => s.resetHallB cause

/-- Both halls reset, and the module is to start again. -/
def State.resetModule (s : State) (cause : Nat) : State :=
  let s := (s.resetHall .b cause).resetHall .a cause
  { s with sec := { s.sec with booted := false, loadedAt := none, activating := none } }

/-! ### A trial boot that fails (14 R480) -/

/-- The trial fails: the module restarts from the former banks, and that start records the cause. -/
def State.failTrial (s : State) (cause : Nat) : State :=
  let s := s.resetModule 8
  { s with sec := { s.sec with fwPending := 0, firmware := none, trialEnd := none, fallbackDue := some cause } }

/-- A hall enters reset on its own account; during a trial boot that ends the trial. -/
def State.hallFails (s : State) (h : HallId) (cause : Nat) : State :=
  let s := s.resetHall h cause
  if s.sec.fwPending = 2 then s.failTrial 2 else s

/-! ### Return of a hall (01 R26, R32, 08 R285) -/

def hallNo : HallId → Nat
  | .a => 0
  | .b => 1

/-- An event of a hall's own reset is recorded once both halls run again (01 R32). -/
def State.recordDeferred (s : State) (h : HallId) : State :=
  match (s.hall h).deferred with
  | none => s
  | some c =>
    let s := s.modHall h (fun x => { x with deferred := none })
    let e := if c = 2 then Evt.hallSupplyFault else if c = 4 then Evt.hallClockFault else Evt.eccUncorrectable
    s.record e noSource [word32 (hallNo h)]

def State.recordBothUp (s : State) : State :=
  if s.hallAUp && s.hallBUp then (s.recordDeferred .a).recordDeferred .b else s

/-- The classes whose direct writes Hall B holds. -/
def hallBClasses : List Nat := [0x38, 0x39, 0x40, 0x58, 0x60, 0x61]

/-- A parameter of a compare entry that is armed: the storey die holds it, and it does not change (04 R142, R143). -/
def State.armedEntry (s : State) (pid : Nat) : Bool :=
  let p := pidInst pid
  (List.range 64).any (fun k => (s.port p).armed.toNat.testBit k && (Par.portCmpPos.pid p k = pid || Par.portCmpCfg.pid p k = pid))

/-- A hall takes the values of its classes from the ACTIVE configuration: direct writes are lost with the hall, but for those of armed
compare entries. A change of FLOOD_MODE by it is one (11 R393). -/
def State.reload (s : State) (h : HallId) : State :=
  let mine (p : Nat) : Bool := hallBClasses.contains (pidClass p) == (h == HallId.b) && !s.armedEntry p
  let img := if s.configLoaded then (match s.sec.active with | some x => x.params | none => []) else []
  let ps := s.params.filter (fun e => !mine e.1 || pidClass e.1 = 0x61)
  let ps := (img.filter (fun e => mine e.1)).foldl (fun ps e => Params.set ps e.1 e.2) ps
  let copy := s.imageParams img
  let sec := match h with | .a => { s.sec with copyA := copy } | .b => { s.sec with copyB := copy }
  ({ s with params := ps, sec := sec }).floodChanged (s.par Par.galleryFloodMode 0 0)

/-- A hall may leave reset: three ticks after it entered reset at the earliest, with its PLL locked, 10 ms of rails in their windows
after a supply fault, after a fault of its own clock a tick with a good one (01 R25, R30). DESIGN CHOICE (log 20). -/
def State.mayReturn (s : State) (h : HallId) : Bool :=
  let x := s.hall h
  x.inReset && s.sec.booted && decide (x.resetTick + 3 ≤ s.tick) && x.pllLocked && x.clockOk && decide (80 ≤ x.railRun)

/-- A returning hall starts in SAFE_HOLD with cause WORD_LOST. -/
def State.hallStarts (s : State) (h : HallId) : State :=
  s.modHall h (fun x => { x with inReset := false, mode := .safeHold, shCause := 2, present := 2 })

/-- The program that starts with the ACTIVE configuration: its own, or the override of the same PROG_ID (10 R372). -/
def State.startProgram (s : State) : State :=
  let own := if s.configLoaded then s.sec.active.bind (·.prog) else none
  match own, s.sec.override with
  | some c, some o =>
    if c.progId = o.progId then
      let s := s.loadProgram (some o) 0
      { s with prog := { s.prog with override := some o } }
    else ({ s with sec := { s.sec with override := none } }).loadProgram own 0
  | _, _ => s.loadProgram own 0

/-- Hall A loads the configuration: its values, CAN, the train network, the program. -/
def State.startHallA (s : State) : State := ((s.reload .a).loadFeeds.loadCan.loadTrain).startProgram

/-- Encoderless steppers are uncertain of their position (05 R176). -/
def State.uncertainSteppers (s : State) : State :=
  s.forEach s.nAxes (fun s a => if s.blindStepper a then s.setUncertain a else s)

/-- HALL_A_RETURN (08 R285, 05 R165, R176, 10 R336, R366). -/
def execHallAReturn (s : State) : Host.Outcome State Fault Refusal :=
  if !s.mayReturn .a then .next s
  else
    let s := (s.hallStarts .a).startHallA.forEach 12 State.driveEcho
    let s := (s.axesIdle (fun _ => true)).uncertainSteppers
    let s := s.clearForces 5
    let s := s.hallAMode .boot .safeHold 2 s.hallA.shCause.toNat
    .next s.recordBothUp.applyAuth

/-- FLAGS of a record that Hall A relays, and of a cycle record written late (11 R381, R384, R386). -/
def flagRelayed : BitVec 8 := 0x02
def flagCycReplayed : BitVec 8 := 0x80

/-- Hall A's losses reach GE as one EVENTS_LOST record (11 R395). -/
def State.relayLosses (s : State) : State :=
  let g := s.gallery
  if g.hallALost.all (fun n => n = 0) then s
  else
    let top := (List.range 6).foldl (fun m k => if g.hallALost.getD k 0 = 0 then m else max m k) 3
    let args := (g.hallALost.take 5).map word32 ++ [0, word32 (g.hallALossFirst.getD 0), word32 g.hallALossLast]
    let e : Ev :=
      { code := Evt.eventsLost.code, sev := top, source := noSource, args := args,
        optime := g.optime + (s.stamp - s.tick), flags := flagRelayed }
    { s with gallery := { g with arrivals := g.arrivals ++ [e] } }

/-- GE takes in what Hall A held: the operating time advances by the ticks that Hall A counted, the events and cycle records follow, and
the cycles beyond them are counted. -/
def State.takeRelayed (s : State) : State :=
  let g := s.gallery
  let relay (e : Ev) : Ev := { e with flags := e.flags ||| flagRelayed }
  let s := { s with gallery := { g with optime := g.optime + g.hallATicks, arrivals := g.arrivals ++ g.hallA.map relay } }
  let s := s.relayLosses
  let s := g.hallACyc.foldl (fun s r => s.takeCycle { r with flags := r.flags ||| flagCycReplayed }) s
  let more (f : Nat) (n : BitVec 32) : BitVec 32 := n + word32 (g.hallACycLost.getD f 0)
  { s with
      gallery := { s.gallery with
          flightCycles := s.gallery.flightCycles.mapIdx more, hallA := [], hallALost := List.replicate 6 0, hallALossFirst := none
          hallALossLast := 0, hallACyc := [], hallACycLost := List.replicate 12 0, hallATicks := 0 } }

/-- HALL_B_RETURN (01 R26, 08 R285, 09 R306, R309, 11 R381). -/
def execHallBReturn (s : State) : Host.Outcome State Fault Refusal :=
  if !s.mayReturn .b then .next s
  else
    let s := (s.hallStarts .b).takeRelayed
    let s := (s.reload .b).refreshConns
    .next s.recordBothUp.applyAuth

/-! ### What resets a hall -/

/-- A hall holds itself in reset, and its event is recorded when both halls run again. -/
def State.deferredReset (s : State) (h : HallId) (cause : Nat) : State :=
  (s.modHall h (fun x => { x with deferred := some cause })).hallFails h cause

/-- HALL_SUPPLY_FAULT: a rail leaves its window; with Hall A's rail LD section A loses the table of its switch and
the links of the ring (01 R22, R25, 02 R74, R75, 13 R442). -/
def execHallSupplyFault (r : RailsIn) (s : State) : Host.Outcome State Fault Refusal :=
  if railsIn r.core r.io then .next s
  else
    let s := s.deferredReset r.hall 2
    match r.hall with
    | .a => .next { s with train := { s.train with table := [] }, ring := s.ring.unpowered }
    | .b => .next s

/-- HALL_CLOCK_FAULT: the second out-of-range measurement by a hall of its partner's tick (01 R25, R36). DESIGN CHOICE (log 20). -/
def execHallClockFault (h : HallId) (s : State) : Host.Outcome State Fault Refusal :=
  match h with
  | .a =>
    if s.clock.crossA || s.clock.crossRunA < 2 then .next s
    else
      let s := { s with clock := { s.clock with crossA := true } }
      .next (((s.record Evt.hallClockFault noSource [1]).enablesLow .a).inhibitOn)
  | .b =>
    if s.clock.crossB || s.clock.crossRunB < 2 then .next s
    else
      let s := { s with clock := { s.clock with crossB := true } }
      .next (((s.record Evt.hallClockFault noSource [0]).enterHold .b 2).enablesLow .b)

/-- OWN_CLOCK_FAULT: Hall B's own clock is beyond ±2.5 % on two consecutive ticks (01 R25, R37). -/
def execOwnClockFault (s : State) : Host.Outcome State Fault Refusal :=
  if s.hallB.inReset || s.clock.rcRun < 2 then .next s else .next (s.deferredReset .b 4)

/-- PLL_LOCK_LOSS: the hall is in reset until its PLL relocks (01 R25). -/
def execPllLockLoss (h : HallId) (s : State) : Host.Outcome State Fault Refusal :=
  .next ((s.hallFails h 3).modHall h (fun x => { x with pllLocked := false }))

/-- ECC_UNCORRECTABLE (01 R32). -/
def execEccUncorrectable (h : HallId) (s : State) : Host.Outcome State Fault Refusal := .next (s.deferredReset h 5)

/-- SRAM_SCRUB: corrected errors are counted; a bad copy of the safety set enters SAFE_HOLD (01 R32, 08 R289). -/
def execSramScrub (h : HallId) (corrected : Nat) (setBad : Bool) (s : State) : Host.Outcome State Fault Refusal :=
  if (s.hall h).inReset then .next s
  else
    let s := s.modHall h (fun x => { x with eccSingle := x.eccSingle + word32 corrected })
    .next (if setBad && h == HallId.b then s.enterHold .b 6 else s)

/-- HALL_RESET_ASSERT: the reset line of a hall asserts: the storey dies turn every tread OFF (01 R29, R30). DESIGN CHOICE (log 20). -/
def execHallResetAssert (h : HallId) (s : State) : Host.Outcome State Fault Refusal := .next (s.hallFails h (s.hall h).cause)

/-- ENGINE_WATCHDOG (12 R435). -/
def execEngineWatchdog (h : HallId) (s : State) : Host.Outcome State Fault Refusal := .next (s.hallFails h 6)

/-- HEARTBEAT_LOSS: three consecutive heartbeats of a hall missed: the die forces that hall's enables low (01 R29, R30),
which gate no tread of a die whose limp-home path is in charge (02 R72). -/
def execHeartbeatLoss (d : Nat) (h : HallId) (s : State) : Host.Outcome State Fault Refusal :=
  onUnit (d < s.nDies)
    (let miss := match h with
      | .a => (s.die d).missA
      | .b => (s.die d).missB
    if miss < 3 then s
    else
      let s := s.modDie d (fun x => match h with
        | .a => { x with lowA := true }
        | .b => { x with lowB := true })
      s.treadsOff (fun t => dieOfFlight (flightOfTread t) = d && !(s.limpOf d).inCharge))

/-- FLIGHT_ENABLE_LOW (01 R29). -/
def execFlightEnableLow (f : Nat) (h : HallId) (s : State) : Host.Outcome State Fault Refusal :=
  onUnit (f < s.nFlights) (s.enableLow f h)

end Sys2Proof.Machine
end

