-- ==== Sys2Proof/Machine/Boot.lean ====
section
/-! DEFINITION. Start-up of the module (14 R464 to R469), trial boots (14 R480 to R482), the commanded restart (12 R422). -/

namespace Sys2Proof.Machine

/-! ### The logic rails (02 R75) -/

/-- Both DCL outputs open, and what the last evaluation found is void (02 R75). -/
def State.dropDcls (s : State) : State :=
  let s := s.openBoth
  let void (d : Dcl) : Dcl := { d with verdict := false, due := false }
  (s.modDcl 0 void).modDcl 1 void

/-- L_PD_LOSS: the logic rail of a storey die is lost: every tread OFF, both DCL outputs open, and everything that the die holds is lost.
DESIGN CHOICE (log 23). -/
def execLPdLoss (d : Nat) (s : State) : Host.Outcome State Fault Refusal :=
  onUnit (d < s.nDies)
    (let u := s.modDie d (fun x => { x with railUp := false, pllLocked := false })
    ((u.clearDie d).dropDcls).causeStopsFrom s)

/-- L_PD_RESTORED: the rail is back: wire models half warm, counters at 0 and invalid, receivers restarted, axes IDLE; Hall B loads the trims.
DESIGN CHOICE (log 23). -/
def execLPdRestored (d : Nat) (s : State) : Host.Outcome State Fault Refusal :=
  onUnit (d < s.nDies)
    (if (s.die d).railUp then s
    else (s.raiseDie d).modDie d (fun x => { x with trims := if s.hallBUp then diePortion d s.sec.calFactory else [] }))

/-! ### The loss of the supply (02 R60) -/

/-- GE's last writes to MRAM: the queues, the operating time, SUPPLY_LOSS (02 R60, 11 R380, R397). -/
def State.lastWrites (s : State) : State :=
  if s.hallB.inReset then s
  else { s with
      gallery := { s.gallery with
          mirrorEv := (s.gallery.mirrorEv ++ s.gallery.queue).take 128, mirrorCyc := (s.gallery.mirrorCyc ++ s.gallery.cycQueue).take 24
          optimeMram := s.gallery.optime }
      supply := { s.supply with lossPending := some s.optimeNow } }

/-- With the supply go the rails of the halls, and the ring's ports with that of LD section A, the rails of the storey dies and all that they
hold, SFEED and the encoder supplies, and a boot ROM's halt (02 R75, 13 R442). -/
def State.unpowered (s : State) : State :=
  let s := { s with ring := s.ring.unpowered }
  let s := (s.modHall .a (fun x => { x with railRun := 0 })).modHall .b (fun x => { x with railRun := 0 })
  let s := s.forEach 2 (fun s d => (s.modDie d (fun x => { x with railUp := false, pllLocked := false })).clearDie d)
  (s.mapFpower (fun _ _ => .reset)).modHall .b (fun x => { x with romHalt := false })

/-- The halls and the storey dies at the end of the supply. -/
def State.supplyGone (s : State) : State := ((s.lastWrites.openBoth).resetModule 1).unpowered

/-- SUPPLY_LOSS: the hold-up bank is spent (02 R60); a trial boot under way has failed (14 R480). -/
def execSupplyLoss (s : State) : Host.Outcome State Fault Refusal :=
  let s := s.supplyGone
  .next { s with
      supply := { s.supply with valid := false, switchClosed := false, prechargeAt := none, prechargeFailed := false }
      firstStandby := false
      sec := { s.sec with
          fallbackDue := if s.sec.fwPending = 2 then some 2 else s.sec.fallbackDue, trialEnd := none, fwPending := 0 } }

/-! ### What a start from an unpowered state finds (11 R380, 08 R265) -/

/-- The clocks since power-up. DEDUCED (log 61). -/
def Clock.powerUp (c : Clock) : Clock :=
  { Clock.reset with tick := c.tick, sample := c.sample, base := 4294967296 - c.tick % 4294967296, since := c.tick }

/-- The supply's trips and counts start again; what LD measures stands. -/
def Supply.powerUp (x : Supply) : Supply :=
  { Supply.reset with
      vin8 := x.vin8, iin8 := x.iin8, vhold := x.vhold, valid := x.valid, switchClosed := x.switchClosed, validAt := x.validAt
      mpres := x.mpres, mpresRun := x.mpresRun, lossPending := x.lossPending, lhPins := x.lhPins, lhLevel := x.lhLevel, lhRun := x.lhRun }

/-- The gallery after a power-up: the operating time as MRAM holds it, one power cycle more, the SRAM counters at 0. -/
def Gallery.powerUp (g : Gallery) : Gallery :=
  { g with
      optime := g.optimeMram, powerCycles := satN 24 (g.powerCycles + 1), intakeLost := List.replicate 6 0, intakePeak := 0
      lastRecs := [] }

/-- Fields of the start-up file that stand at their reset values after a power-up. -/
def Security.powerUp (x : Security) : Security :=
  { x with lastStage := 0, lastStageItem := 0, lastActivate := 0, fwPending := 0, trialEnd := none, attests := 0, uptime := 0 }

/-- The budgets, the lines, the echo outputs and the flights' supplies start from nothing. -/
def State.unitsPowerUp (s : State) : State :=
  let s := s.forEach 20 (fun s lv => s.modBudget lv (fun _ => .reset))
  let s := (s.mapStoreys (fun _ x => { x with trips := 0 })).mapSenses (fun _ _ => .reset)
  (s.forEach 12 (fun s f => s.modEcho f (fun _ => .reset))).mapFpower (fun _ _ => .reset)

/-- Everything that counts since power-up starts again; the discrepancy latches clear. DESIGN CHOICE (log 23). DEDUCED (log 61). -/
def State.powerUp (s : State) : State :=
  let s := s.unitsPowerUp
  { s with
      clock := s.clock.powerUp, supply := s.supply.powerUp, conns := List.replicate 8 .reset, firstStandby := false
      train := Train.reset, can := Can.reset, prog := Prog.reset, ring := Ring.reset, gallery := s.gallery.powerUp, sec := s.sec.powerUp
      safety := { Safety.reset with sealRd := { Seal.reset with lastValid := s.safety.sealRd.lastValid } }
      host := { HostLink.reset with keys := s.host.keys }
      doors := s.doors.map (fun d => { Door.reset with cycles := d.cycles })
      obst := s.obst.map (fun o => { Obst.reset with map := o.map, backup := o.backup })
      hallA := { Hall.reset with cause := s.hallA.cause, deferred := s.hallA.deferred }
      hallB := { Hall.reset with cause := s.hallB.cause, deferred := s.hallB.deferred } }

/-! ### Firmware banks (14 R465, R480, R482) -/

/-- A bank boots: it reads as it was written, nothing has overwritten it, the signature kept with it is its vendor slot's, its security
version is not below the counter. DEDUCED (log 61). -/
def bankBoots (good : Bool) (b : Bank) (counter : Nat) : Bool := good && b.whole && b.signed && decide (counter ≤ b.sec)

def bankGood (b : BootIn) (h : HallId) (i : Nat) : Bool :=
  match h with
  | .a => if i = 0 then b.bankA0 else b.bankA1
  | .b => if i = 0 then b.bankB0 else b.bankB1

/-- Whether a hall boots from a bank. -/
def Security.boots (x : Security) (b : BootIn) (h : HallId) (i : Nat) : Bool :=
  match h with
  | .a => bankBoots (bankGood b .a i) (x.banksA.getD i .reset) x.arHa
  | .b => bankBoots (bankGood b .b i) (x.banksB.getD i .reset) x.arHb

/-- The bank that BOOT_BANK names for a hall. -/
def Security.bootBankOf (x : Security) (h : HallId) : Nat := bitN (wbit x.bootBank (hallNo h)) 0

/-- The bank from which a hall starts: the one named, or the other; none where both fail. -/
def Security.startBank (x : Security) (b : BootIn) (h : HallId) : Option Nat :=
  let i := x.bootBankOf h
  if x.boots b h i then some i else if x.boots b h (1 - i) then some (1 - i) else none

/-- A word whose bit of one hall is set as given. -/
def bankWord (a b : Nat) : BitVec 32 := word32 (a + 2 * b)

/-- The banks of a normal start: BOOT_BANK follows a bank that had to be replaced, and the start counts as a fall back. -/
def State.pickBanks (s : State) (b : BootIn) : State :=
  let pick (h : HallId) : Nat := (s.sec.startBank b h).getD (s.sec.bootBankOf h)
  let w := bankWord (pick .a) (pick .b)
  { s with
      sec := { s.sec with
          bootBank := w, runBank := w, fallback := decide (w ≠ bankWord (s.sec.bootBankOf .a) (s.sec.bootBankOf .b)) } }

/-- The banks of a trial boot are the other ones; a bank that fails ends the trial, and the former banks start. -/
def State.trialBanks (s : State) (b : BootIn) : State :=
  let i := 1 - s.sec.bootBankOf .a
  let j := 1 - s.sec.bootBankOf .b
  if s.sec.boots b .a i && s.sec.boots b .b j then
    { s with sec := { s.sec with runBank := bankWord i j, trialEnd := some (s.stamp + 10000), fallback := false } }
  else
    ({ s with
        sec := { s.sec with fwPending := 0, firmware := none, fallbackDue := some 1, trialEnd := none } }).pickBanks b

/-- FW_IMAGE_FAULT for each bank named at first that failed: hall and bank. DEDUCED (log 60). -/
def State.recordImageFaults (s : State) (x : Security) (b : BootIn) : State :=
  [HallId.a, HallId.b].foldl (fun s h =>
    let i := x.bootBankOf h
    if s.sec.fwPending = 2 || x.boots b h i then s
    else s.record Evt.fwImageFault noSource [word32 (hallNo h), word32 i]) s

/-- A trial that failed is recorded by the start that follows it. DEDUCED (log 60). -/
def State.recordFallback (s : State) : State :=
  match s.sec.fallbackDue with
  | none => s
  | some c =>
    let s := { s with sec := { s.sec with fallbackDue := none, fallback := true } }
    s.record Evt.fwFallback noSource [word32 c]

/-! ### Hall B starts -/

/-- The hold-up estimate (02 R61), a measured time. -/
def State.estimateHoldup (s : State) : State :=
  let ms := clampR 0 1000 (Config.freeRat s.draws)
  let s := s.draw
  let s := { s with supply := { s.supply with holdupMs := ms, holdupLow := decide (ms < 10) } }
  s.recordIf s.supply.holdupLow Evt.holdupLow noSource [toReal32 ms]

/-- The record of a SUPPLY_LOSS that MRAM holds. -/
def State.lossRecord (s : State) : Option EvRec :=
  s.supply.lossPending.map (fun t =>
    let e : Ev := { code := Evt.supplyLoss.code, sev := Evt.supplyLoss.sev, source := noSource, args := [], optime := t, flags := 0 }
    e.toRec 0 s.gallery.powerCycles s.gallery.timeEst)

/-- A read pass that begins with a start is complete within 24 h of operating time (15 R514). -/
def readPass : Nat := 86400000

/-- GE starts: what MRAM holds is to be written before any new record (11 R397), and a read pass begins (15 R514). -/
def State.startGallery (s : State) (b : BootIn) : State :=
  let s := s.gather s.lossRecord
  { s with
      supply := { s.supply with lossPending := none }
      gallery := { s.gallery with
          timeEst := false, rebuildFrom := if b.indexGood then none else some s.stamp, busyUntil := s.stamp
          passEnd := s.gallery.optime + readPass, passRead := [] } }

/-- The store is in use again where it passes its checks, and what waits is written unless the index must be rebuilt first
(11 R399, R402). -/
def State.openStore (s : State) (b : BootIn) : State :=
  if b.storeGood then
    let s := s.recoverStore
    if b.indexGood then s.flushWait else s
  else s

/-- A map instance whose CRC fails is not valid, whatever it was before (07 R234, R235). -/
def State.startMaps (s : State) (b : BootIn) : State :=
  s.forEach s.nFlights (fun s f => if b.mapsGood.getD f true then s else s.mapInvalid f)

/-! ### Calibration and configuration (01 R33, 14 R466, R467) -/

/-- Hall A and the storey dies are passed their portions; a die without its rail takes none. -/
def State.distribute (s : State) (b : BootIn) : State :=
  let cal := s.sec.calFactory
  let s := { s with sec := { s.sec with calA := b.calReadA.getD (hallAPortion cal) } }
  s.mapDies (fun d x =>
    if x.railUp || b.powerUp then { x with trims := (b.trimsRead.getD d none).getD (diePortion d cal) } else { x with trims := [] })

/-- The calibration check of t3. The sector is checked first, and distributed where it passes; what fails is recorded: 0 the sector, 1 Hall
A's portion, 2 the trims of the storey dies. DESIGN CHOICE (log 99). -/
def State.checkCal (s : State) (b : BootIn) : State :=
  let s := { s with sec := { s.sec with calFactory := b.calRead.getD s.sec.calFactory } }
  if !s.sectorOk then ({ s with sec := { s.sec with calFault := true } }).record Evt.calDigestFault noSource [0]
  else
    let s := s.distribute b
    let s := { s with sec := { s.sec with calFault := !(s.portionOk && s.trimsOk) } }
    let s := s.recordIf (!s.portionOk) Evt.calDigestFault noSource [1]
    s.recordIf (!s.trimsOk) Evt.calDigestFault noSource [2]

/-- An image verifies against a key that is enrolled and not revoked (14 R485). -/
def State.imageSigned (s : State) (x : Image) : Bool :=
  match readImage x.raw with
  | none => false
  | some r => s.signedBySlot (x.raw.take r.sigOfs) (x.raw.drop r.sigOfs)

/-- The ACTIVE slot as this start finds it: in force, with Hall A's copy of it, or corrupt. DEDUCED (log 60). -/
def State.findActive (s : State) (good : Bool) : State :=
  match s.sec.active.orElse (fun _ => s.sec.corrupt) with
  | none => { s with sec := { s.sec with activeCorrupt := false } }
  | some x =>
    if good && s.imageSigned x then
      { s with sec := { s.sec with active := some x, activeA := some x, corrupt := none, activeCorrupt := false } }
    else
      let s := { s with sec := { s.sec with active := none, corrupt := some x, activeCorrupt := true } }
      s.record Evt.configCorrupt noSource [1]

/-- Both halls load a configuration, or the reset values. With the supply the rails of the storey dies come up, and their wire models start
from the values loaded (03 R98, 04 R134). DESIGN CHOICE (log 23). -/
def State.loadActive (s : State) (img : Option Image) (up : Bool) : State :=
  let s := s.loadValues img
  let s := if up then (s.forEach s.nDies State.raiseDie).restartLines true (fun l => decide (144 ≤ l)) else s
  ((s.loadLimp.loadFeeds).loadCan.loadTrain).loadProgram none 0

/-- The steps t3 and t4, once both halls run: start-up goes no further than a calibration check that fails. -/
def State.startBoth (s : State) (b : BootIn) : State :=
  let s := s.checkCal b
  if s.sec.calFault then s.loadActive none b.powerUp
  else
    let s := s.findActive b.activeGood
    let s := (s.loadActive s.sec.active b.powerUp).startMaps b
    { s with sec := { s.sec with loadedAt := some s.stamp, testClock := false, testWords := false } }

/-! ### BOOT (14 R464 to R467) -/

/-- A hall leaves reset and holds no mode until start-up ends. -/
def State.release (s : State) (h : HallId) : State :=
  s.modHall h (fun x => { x with inReset := false, pllLocked := true, romHalt := false, railRun := 80, mode := .boot })

/-- Start-up from the release of Hall B on, until a step does not pass. `x` holds the firmware state before the banks were chosen. New
firmware that refuses the ACTIVE configuration ends its trial (14 R480). DEDUCED (log 61). -/
def State.startModule (s : State) (x : Security) (b : BootIn) : State :=
  let s := s.release .b
  let s := (s.startGallery b)
  let s := if b.powerUp then (s.powerUp.release .b).forEach 2 State.clearDie else s
  let s := (s.openStore b).loadValues none
  let s := ((s.estimateHoldup).recordImageFaults x b).recordFallback
  let s := if (x.startBank b .a).isSome then (s.release .a).startBoth b else s.loadActive none b.powerUp
  let s := (s.refreshConns.readSeal b.contacts).recordBothUp
  if s.sec.fwPending = 2 && s.configLoaded && !b.configOk then s.failTrial 4 else s

/-- BOOT: the supply is valid and the series switch closed, or a commanded restart has reset both halls. A module whose precharge has
failed does not start; with both banks of Hall B failed it stays halted in the boot ROM. DESIGN CHOICE (log 25). -/
def execBoot (b : BootIn) (s : State) : Host.Outcome State Fault Refusal :=
  if !s.hallA.inReset || !s.hallB.inReset || s.supply.prechargeFailed then .next s
  else
    let s := { s with
        supply := { s.supply with valid := true, switchClosed := true }
        sec := { s.sec with booted := false, loadedAt := none, bootTick := s.stamp, fwPending := if b.powerUp then 0 else s.sec.fwPending } }
    let x := s.sec
    if (x.startBank b .b).isNone then .next (s.modHall .b (fun x => { x with romHalt := true }))
    else .next ((if s.sec.fwPending = 2 then s.trialBanks b else s.pickBanks b).startModule x b)

/-! ### BOOT_COMPLETE (14 R467 to R469, R480 to R484) -/

/-- Start-up ends in SAFE_HOLD with the causes that a word gives Hall B; Hall A follows its partner (08 R289). -/
def State.bootIntoHold (s : State) (causes : BitVec 16) : State :=
  let s := s.modHall .b (fun x => { x with mode := .safeHold, shCause := causes, present := causes })
  let s := s.modHall .a (fun x => { x with mode := .safeHold, shCause := 0x100, present := 0x100 })
  let s := (s.holdEntryB).hallAMode .boot .safeHold 0 causes.toNat
  let s := s.record Evt.safeHoldEntered noSource [word32 (causes ||| 0x100).toNat, s.charge .a, s.charge .b]
  (s.inhibitOn).suspectEnables.applyAuth

/-- The mode in which start-up ends. -/
def State.bootMode (s : State) (fails : List Nat) : Mode :=
  if !fails.isEmpty then .safeHold else if !s.configLoaded then .maintenance
  else if !s.safety.sealRd.ok then .safeHold else .standby

/-- Both halls take the mode; the program of the configuration is to start. -/
def State.endStartUp (s : State) (fails : List Nat) : State :=
  let m := s.bootMode fails
  let sealBad := s.configLoaded && !s.safety.sealRd.ok
  let s := if m == Mode.safeHold then s.bootIntoHold (BitVec.ofNat 16 (bitN sealBad 5 + bitN (!fails.isEmpty) 7))
    else (s.takeMode .b m 0).takeMode .a m 0
  let s := { s with sec := { s.sec with booted := true } }
  let s := s.startProgram
  let s := if s.trialOpen && m != .safeHold then s.passTrial else s
  s.record Evt.bootComplete noSource [toReal32 ((s.stamp - s.sec.bootTick : Nat) : Rat), s.sec.runBank]

/-- The self-tests that have failed: of 1, 4 and 5 their own results, of 2 and 3 what the ticks since t4 showed, of 6 the receivers. -/
def State.failedTests (s : State) (fails : List Nat) : List Nat :=
  [1, 2, 3, 4, 5, 6].filter (fun n => match n with
    | 2 => s.sec.testClock
    | 3 => s.sec.testWords
    | 6 => (List.range 160).any (fun l => safetyLine l && s.hasLine l && s.lineUse l = 1 && (s.sense l).mismatch)
    | _ => fails.contains n)

/-- The self-tests have run for the 100 ticks that they take. -/
def State.testsRun (s : State) : Bool := match s.sec.loadedAt with | some t => decide (t + 100 ≤ s.tick) | none => false

/-- BOOT_COMPLETE: the self-tests end; of those that the halls run on themselves, 1, 4 and 5, the command names the ones that failed. A trial
that is out of time fails (14 R480). DEDUCED (log 61). -/
def execBootComplete (fails : List Nat) (s : State) : Host.Outcome State Fault Refusal :=
  if s.sec.booted || !s.hallAUp || !s.hallBUp || !s.testsRun then .next s
  else if s.sec.fwPending = 2 && !s.trialOpen then .next (s.failTrial 3)
  else
    let fails := s.failedTests fails
    let s := s.recordIf (!fails.isEmpty) Evt.selfTestFail noSource (fails.map word32)
    .next (s.endStartUp fails)

/-- FW_TRIAL_TIMEOUT: neither STANDBY nor MAINTENANCE within 10 s of supply valid (14 R480). -/
def execFwTrialTimeout (s : State) : Host.Outcome State Fault Refusal :=
  match s.sec.trialEnd with
  | none => .next s
  | some t => .next (if s.sec.fwPending = 2 && decide (t ≤ s.tick) then s.failTrial 3 else s)

/-- RESTART_BEGIN: 100 ms after its reply a RESTART begins (12 R422, 14 R480). -/
def execRestartBegin (s : State) : Host.Outcome State Fault Refusal :=
  match s.host.restart with
  | none => .next s
  | some r =>
    if s.tick < r.at' then .next s
    else if !r.whole then .next (s.resetHall .a 7)
    else
      let fw := s.sec.firmware
      let s := s.resetModule (if r.trial then 8 else 7)
      .next { s with sec := { s.sec with fwPending := if r.trial then 2 else 0, firmware := if r.trial then fw else s.sec.firmware } }

end Sys2Proof.Machine
end

