-- ==== Sys2Proof/Machine/Can.lean ====
section
/-! DEFINITION. CAN FD remote I/O (10 R356 to R361): what arrives on a port and how its error state changes. An event names its port as its
source. -/

namespace Sys2Proof.Machine

/-- A port takes part in the bus: in use, Hall A running, not bus-off (10 R356, R361). -/
def State.canListens (s : State) (p : Nat) : Bool :=
  s.hallAUp && s.parN Par.canEn 0 p = 1 && ((s.canPort p).st == .active || (s.canPort p).st == .passive)

/-- The RPDO entries of a port with an identifier (10 R359). -/
def State.rpdoEntries (s : State) (p id : Nat) : List Nat :=
  (List.range 64).filter (fun n =>
    s.parN Par.canRpdoCobid 0 n = id && decide (id ≠ 0) && wfield (s.par Par.canRpdoCfg 0 n) 0 0 = p)

/-- One entry takes a frame: stored when its length is the entry's, discarded and counted otherwise. -/
def State.rpdoTake (s : State) (p id : Nat) (data : Bytes) (n : Nat) : State :=
  if data.length = wfield (s.par Par.canRpdoCfg 0 n) 7 1 then
    { s with can := { s.can with rpdos := s.can.rpdos.modify n (fun x => { x with data := data, got := true, gotAt := s.sample }) } }
  else
    (s.modCan p (fun x => { x with rxDiscards := x.rxDiscards + 1 })).recordLimited Evt.canRpdoLength p [word32 id] 10000

/-- RPDO_RECEIVE: a data frame with an 11-bit identifier (10 R359). -/
def execRpdoReceive (p id : Nat) (data : Bytes) (s : State) : Host.Outcome State Fault Refusal :=
  onUnit (p < 2)
    (if s.canListens p then (s.rpdoEntries p id).foldl (fun s n => s.rpdoTake p id data n) s else s)

/-- One heartbeat entry takes a heartbeat: a lost node is back, and is started again when it is not operational (10 R357, R360). -/
def State.heartbeatTake (s : State) (p node : Nat) (nmt : Byte) (k : Nat) : State :=
  let lost := decide ((s.canNode k).st = 2)
  let s := { s with
      can := { s.can with nodes := s.can.nodes.modify k (fun x => { x with st := 1, nmt := nmt, lastTick := s.stamp }) } }
  let s := s.recordIf lost Evt.canNodeBack p [word32 k]
  if lost && decide (nmt ≠ 5) && s.prog.run then s.nmt p 1 (BitVec.ofNat 8 node) else s

/-- CAN_HEARTBEAT: identifier 0x700 + node (10 R360). -/
def execCanHeartbeat (p node : Nat) (nmt : Byte) (s : State) : Host.Outcome State Fault Refusal :=
  onUnit (p < 2)
    (if s.canListens p then
      ((List.range 32).filter (fun k => s.hbNode k = some (node, p))).foldl (fun s k => s.heartbeatTake p node nmt k) s
    else s)

/-- CAN_NODE_LOST: no heartbeat for HB_TIME, half-open (10 R360). -/
def execCanNodeLost (n : Nat) (s : State) : Host.Outcome State Fault Refusal :=
  onUnit (n < 32)
    (match s.hbNode n with
    | none => s
    | some (_, p) =>
      let x := s.canNode n
      if s.hallAUp && s.parN Par.canEn 0 p = 1 && decide (x.st ≠ 2) && decide (x.lastTick + s.parN Par.canHbTime 0 n ≤ s.tick) then
        let s := { s with can := { s.can with nodes := s.can.nodes.modify n (fun x => { x with st := 2 }) } }
        s.record Evt.canNodeLost p [word32 n]
      else s)

/-- CAN_EMCY: identifier 0x080 + node, recorded with its 8 bytes (10 R357). -/
def execCanEmcy (p node : Nat) (data : Bytes) (s : State) : Host.Outcome State Fault Refusal :=
  onUnit (p < 2)
    (if s.canListens p then
      (s.modCan p (fun x => { x with emcy := x.emcy + 1 })).record Evt.canEmcy p
        [word32 (0x080 + node), word32 (fieldAt data 0 4), word32 (fieldAt data 4 4)]
    else s)

/-- CAN_ERROR_PASSIVE: the error counts of a port as they now stand; at 128 either makes it error passive, and below that both make it error
active again (10 R361 with ISO 11898-1). -/
def execCanErrorPassive (p txErr rxErr : Nat) (s : State) : Host.Outcome State Fault Refusal :=
  onUnit (p < 2)
    (if s.canListens p then
      let passive := decide (128 ≤ txErr) || decide (128 ≤ rxErr)
      let was := (s.canPort p).st == .passive
      let s := s.modCan p (fun x => { x with
          st := if passive then .passive else .active, txErr := min txErr 255, rxErr := min rxErr 255 })
      s.recordIf (passive && !was) Evt.canErrorPassive p []
    else s)

/-- CAN_BUS_OFF (10 R361). -/
def execCanBusOff (p : Nat) (s : State) : Host.Outcome State Fault Refusal :=
  onUnit (p < 2)
    (if s.canListens p then
      (s.modCan p (fun x => { x with st := .busOff, txErr := 255, busOffs := x.busOffs + 1 })).record Evt.canBusOff p []
    else s)

/-- CAN_BUS_RECOVERED: 128 occurrences of 11 recessive bits have been seen (10 R361). -/
def execCanBusRecovered (p : Nat) (s : State) : Host.Outcome State Fault Refusal :=
  onUnit (p < 2)
    (if s.hallAUp && (s.canPort p).st == .busOff then
      (s.modCan p (fun x => { x with st := .active, txErr := 0, rxErr := 0 })).record Evt.canBusRecovered p []
    else s)

end Sys2Proof.Machine
end

