-- ==== Sys2Proof/Machine/GalleryRead.lean ====
section
/-! DEFINITION. Reading the gallery over the host link (11 R384 to R388, R403, R404, 12 R422): the bytes of its records, and the two
opcodes. -/

namespace Sys2Proof.Machine

/-! ### Records as bytes -/

/-- Little-endian bytes of a signed number. -/
def leInt (n : Nat) (z : Int) : Bytes := leBytes n (z % ((256 ^ n : Nat) : Int)).toNat

/-- A record of 60 bytes with its CRC. -/
def sealRecord (bs : Bytes) : Bytes := bs ++ leBytes 4 (crc32c bs).toNat

/-- An event record; `ext` adds OPEN for a record read from the open table (11 R384, R388). -/
def EvRec.bytes (r : EvRec) (isOpen : Bool) : Bytes :=
  sealRecord (leBytes 4 r.seq.toNat ++ leBytes 3 r.pcyc ++ leBytes 5 r.optime ++ leBytes 2 r.code ++ leBytes 1 r.sev
    ++ leBytes 1 (r.flags.toNat / 2 * 2 + bitN isOpen 0) ++ leBytes 2 r.source ++ leBytes 2 r.rep ++ leBytes 5 r.last
    ++ leBytes 3 r.alcSeq ++ (List.range 8).flatMap (fun k => leBytes 4 (r.args.getD k 0).toNat))

/-- LEVEL of the DX-12 view (11 R404). -/
def dxLevel (sev : Nat) : Nat := if sev ≤ 1 then 0 else if sev ≤ 3 then sev - 1 else 3

/-- The DX-12 view of an event record (11 R404). -/
def EvRec.dxBytes (r : EvRec) : Bytes :=
  let count := if r.flags.toNat.testBit 3 then r.rep else r.rep - 1
  let t := r.optime % 1099511627776
  let bs := leBytes 4 (t / 1000) ++ leBytes 2 (t % 1000) ++ leBytes 2 r.code ++ leBytes 1 (dxLevel r.sev)
    ++ leBytes 1 r.source ++ leBytes 2 count ++ (List.range 4).flatMap (fun k => leBytes 4 (r.args.getD k 0).toNat)
    ++ leBytes 2 r.pcyc
  bs ++ leBytes 2 (crc16 bs).toNat

/-- A cycle record (11 R386). -/
def CycRec.bytes (r : CycRec) : Bytes :=
  sealRecord (leBytes 4 r.seq.toNat ++ leBytes 3 r.pcyc ++ leBytes 5 r.optime ++ leBytes 1 r.flight ++ leBytes 1 r.sev
    ++ leBytes 1 r.endState ++ [r.flags] ++ leBytes 4 r.cycleNo.toNat ++ leBytes 4 r.duration ++ leBytes 2 r.tUnlock
    ++ leBytes 2 r.tOpen ++ leBytes 2 r.tClose ++ leBytes 2 r.tLock ++ leBytes 4 r.tDwell ++ leInt 2 r.fPeakOpen
    ++ leInt 2 r.fPeakClose ++ leBytes 1 r.detections ++ leBytes 1 r.trigs ++ leBytes 1 r.attempts ++ leBytes 1 r.ranks
    ++ leBytes 2 r.iPeak ++ leBytes 2 r.unclean ++ leBytes 2 r.vinMin ++ leInt 1 r.temp ++ leBytes 1 r.drift
    ++ leBytes 2 r.tStep ++ leBytes 2 r.cause ++ leBytes 4 r.eventLink.toNat)

/-- A trace sample (11 R387). -/
def TrSample.bytes (x : TrSample) : Bytes :=
  leInt 4 x.pos ++ leInt 2 x.f ++ leInt 2 x.thresh ++ leInt 2 x.iq ++ leInt 2 x.vel ++ leBytes 2 x.vin ++ [x.flags]
    ++ leBytes 1 x.door

/-- The samples of a trace. -/
def Trace.data (r : Trace) : Bytes := r.samples.flatMap TrSample.bytes

/-- A trace header (11 R387). -/
def Trace.bytes (r : Trace) : Bytes :=
  sealRecord (leBytes 4 r.seq.toNat ++ leBytes 3 r.pcyc ++ leBytes 5 r.optime ++ leBytes 1 r.flight ++ leBytes 1 r.sev
    ++ leBytes 1 r.kind ++ [r.flags] ++ leBytes 4 r.cycleNo.toNat ++ leBytes 2 r.decim ++ leBytes 2 16
    ++ leBytes 4 r.samples.length ++ leBytes 4 (r.detect.getD 0xFFFFFFFF) ++ leBytes 2 r.scaleNum ++ leBytes 2 r.scaleDen
    ++ leBytes 4 r.mapCrc.toNat ++ leBytes 4 r.kTemp.toNat ++ leBytes 4 r.slope.toNat ++ leBytes 4 (64 * r.units)
    ++ leBytes 4 (crc32c r.data).toNat ++ leBytes 4 0)

/-! ### What an area holds, as a read sees it -/

/-- A record of any area with what the filters ask about. -/
structure Shown where
  seq : Nat
  /-- its place in the order of its area: SEQ, carried on over the wrap -/
  place : Nat
  pcyc : Nat
  optime : Nat
  sev : Nat
  flight : Nat
  code : Nat
  source : Nat
  bytes : Bytes
deriving DecidableEq, Repr

/-- DEDUCED (log 50). -/
def EvRec.shown (r : EvRec) (dx isOpen : Bool) : Shown :=
  ⟨r.seq.toNat, r.seq.toNat, r.pcyc, r.optime, r.sev, 0, r.code, r.source, if dx then r.dxBytes else r.bytes isOpen⟩

def CycRec.shown (r : CycRec) : Shown := ⟨r.seq.toNat, r.seq.toNat, r.pcyc, r.optime, r.sev, r.flight, 0, 0, r.bytes⟩

def Trace.shown (r : Trace) : Shown := ⟨r.seq.toNat, r.seq.toNat, r.pcyc, r.optime, r.sev, r.flight, 0, 0, r.bytes⟩

/-- Insertion by place. -/
def Shown.insert (x : Shown) : List Shown → List Shown
  | [] => [x]
  | y :: l => if x.place < y.place then x :: y :: l else y :: Shown.insert x l

/-- The SEQ that the next record of an area takes. -/
def State.areaNext (s : State) (area : Nat) : Nat :=
  if area = 3 then s.gallery.alcNextSeq.toNat else (s.gallery.areaSt area).nextSeq.toNat

/-- The place of a SEQ in an area whose next record takes `next`: SEQ itself, or, once the series has wrapped, carried on over the wrap. -/
def placeOf (wrapped : Bool) (next q : Nat) : Nat := if wrapped && decide (q < next) then q + 4294967294 else q

/-- The records of an area: 0 archive, 1 event log with the records not yet in it, 2 traces, 3 alcove (11 R403). -/
def State.inArea (s : State) (area : Nat) (dx : Bool) : List Shown :=
  let g := s.gallery
  match area with
  | 0 => (g.archive ++ g.waitCyc ++ g.cycSpill).map CycRec.shown
  | 1 =>
    (g.log ++ g.waitEv ++ g.spill).map (fun (r : EvRec) => r.shown dx false) ++ g.openTab.map (fun (r : EvRec) => r.shown dx true)
  | 2 => g.traces.map Trace.shown
  | _ => g.alcove.map (fun (r : AlcRec) => r.entry.shown false false)

/-- An area's series has wrapped: it holds a SEQ that its next record has yet to reach. -/
def State.seqWrapped (s : State) (area : Nat) : Bool := (s.inArea area false).any (fun x => decide (s.areaNext area ≤ x.seq))

/-- The place of a SEQ in an area as it stands. -/
def State.seqPlace (s : State) (area q : Nat) : Nat := placeOf (s.seqWrapped area) (s.areaNext area) q

/-- The records of an area in their order. -/
def State.shownArea (s : State) (area : Nat) (dx : Bool) : List Shown :=
  (s.inArea area dx).foldl (fun acc x => Shown.insert { x with place := s.seqPlace area x.seq } acc) []

/-! ### GAL_READ (12 R422) -/

/-- The fields of a GAL_READ request. -/
structure GalReq where
  area : Nat
  older : Bool
  max : Nat
  byTime : Bool
  dx : Bool
  continued : Bool
  start : Nat
  pcyc : Nat
  optime : Nat
  minSev : Nat
  flight : Nat
  code : Nat
  source : Nat
deriving DecidableEq, Repr

/-- DEDUCED (log 53). -/
def galReq (p : Bytes) : GalReq :=
  let opts := fieldAt p 3 1
  { area := fieldAt p 0 1, older := fieldAt p 1 1 = 1, max := fieldAt p 2 1, byTime := opts.testBit 0, dx := opts.testBit 1,
    continued := opts.testBit 2, start := fieldAt p 4 4, pcyc := fieldAt p 8 3, optime := fieldAt p 12 5,
    minSev := fieldAt p 20 1, flight := fieldAt p 21 1, code := fieldAt p 22 2, source := fieldAt p 24 2 }

/-- The fields are in range, and each filter applies to the area. DEDUCED (log 53). -/
def galReqOk (p : Bytes) : Bool :=
  let r := galReq p
  let events := r.area = 1 || r.area = 3
  decide (r.area ≤ 3) && decide (fieldAt p 1 1 ≤ 1) && decide (1 ≤ r.max) && decide (r.max ≤ 64) && decide (r.minSev ≤ 5) &&
    (!r.dx || r.area = 1) && (r.flight = 0xFF || !events) && (r.code = 0 || events) && (r.source = 0xFFFF || events)

/-- A record lies before the place where a read begins, in the read's direction; `start` is the place of the read's SEQ. -/
def GalReq.before (r : GalReq) (start : Nat) (x : Shown) : Bool :=
  let lt (a b c d : Nat) : Bool := decide (a < c) || (a = c && decide (b < d))
  if r.continued then (if r.older then decide (start ≤ x.place) else decide (x.place ≤ start))
  else if r.byTime then (if r.older then lt r.pcyc r.optime x.pcyc x.optime else lt x.pcyc x.optime r.pcyc r.optime)
  else if r.older then decide (start < x.place) else decide (x.place < start)

/-- A record passes the filters. -/
def GalReq.passes (r : GalReq) (x : Shown) : Bool :=
  decide (r.minSev ≤ x.sev) && (r.flight = 0xFF || r.flight = x.flight) && (r.code = 0 || r.code = x.code) &&
    (r.source = 0xFFFF || r.source = x.source)

/-- Between the cursor of the read before and the end of this one's reply, both places, a record is missing that was written once:
`l` are the places of the area's records. -/
def GalReq.gap (r : GalReq) (start stop newest : Nat) (l : List Nat) : Bool :=
  let lo := if r.older then stop else start + 1
  let hi := if r.older then start - 1 else min stop newest
  r.continued && decide ((l.filter (fun p => decide (lo ≤ p) && decide (p ≤ hi))).length < hi + 1 - lo)

/-- The gallery answers after at most 50 ms (11 R403), and not while its index is rebuilt (11 R399) or Hall B is in reset. -/
def State.galBusy (s : State) : Bool :=
  s.hallB.inReset || s.gallery.rebuildFrom.isSome || decide (s.tick + 50 < s.gallery.busyUntil)

/-- GAL_READ is served. DEDUCED (log 53). -/
def State.serveGalRead (s : State) (p : Pend) (payload : Bytes) : State :=
  if !galReqOk payload then s.answer p stRange 0 []
  else if s.galBusy then s.answer p stBusy 0 []
  else
    let r := galReq payload
    let all := s.shownArea r.area r.dx
    let start := s.seqPlace r.area r.start
    let from' := (if r.older then all.reverse else all).dropWhile (r.before start)
    let hits := from'.filter r.passes
    let shown := hits.take r.max
    let more := decide (r.max < hits.length)
    let cursor := if more then (shown.getLast?.map (·.seq)).getD r.start else (from'.getLast?.map (·.seq)).getD r.start
    let stop := if r.older && !more then max 1 (min ((all.head?.map (·.place)).getD start) (start - 1)) else s.seqPlace r.area cursor
    let newest := placeOf (s.seqWrapped r.area) (s.areaNext r.area) (s.areaNext r.area - 1)
    let gap := r.gap start stop newest (all.map (·.place))
    s.answer p stOK 0 (leBytes 1 shown.length ++ leBytes 1 (bitN gap 0 + bitN (!more) 1)
      ++ leBytes 2 (if r.dx then 32 else 64) ++ leBytes 4 cursor ++ shown.flatMap (·.bytes))

/-- GAL_READ (12 R422). -/
def execGalRead (k : Pkt) (s : State) : Host.Outcome State Fault Refusal :=
  match s.vet { code := 0x0040, perm := .read, lenOk := k.payload.length = 28, deferred := true } k with
  | .settled s => .next s
  | .served s p _ _ => .next (s.serveGalRead p k.payload)

/-- GAL_TRACE_READ is served: samples of a trace from an offset. -/
def State.serveTraceRead (s : State) (p : Pend) (payload : Bytes) : State :=
  let n := fieldAt payload 8 2
  if n = 0 || 1024 < n then s.answer p stRange 0 []
  else if s.galBusy then s.answer p stBusy 0 []
  else match s.gallery.traces.find? (fun t => t.seq.toNat = fieldAt payload 0 4) with
    | none => s.answer p stState (fieldAt payload 0 4) []
    | some t =>
      let bs := (t.data.drop (fieldAt payload 4 4)).take n
      s.answer p stOK 0 (leBytes 2 bs.length ++ [0, 0] ++ bs)

/-- GAL_TRACE_READ (12 R422). -/
def execGalTraceRead (k : Pkt) (s : State) : Host.Outcome State Fault Refusal :=
  match s.vet { code := 0x0041, perm := .read, lenOk := k.payload.length = 12, deferred := true } k with
  | .settled s => .next s
  | .served s p _ _ => .next (s.serveTraceRead p k.payload)

end Sys2Proof.Machine
end

