-- ==== Sys2Proof/Machine/ParamCommands.lean ====
section
/-! DEFINITION. The parameter commands with a row of their own: each is a PAR_WRITE (or PAR_READ) packet whose one entry is that
parameter (12 R422, R427). Their effects are those of `State.applyPar`. -/

namespace Sys2Proof.Machine

/-- SUPPLY_CLEAR: PORT.SUPPLY_CLEAR (04 R138). -/
def execSupplyClear (q : Hdr) (p : Nat) (v : Word) (s : State) : Host.Outcome State Fault Refusal :=
  .next (s.writeOne q Par.portSupplyClear p 0 v)

/-- PORT_COUNT_WRITE: PORT.COUNT (04 R134). -/
def execPortCountWrite (q : Hdr) (p : Nat) (v : Word) (s : State) : Host.Outcome State Fault Refusal :=
  .next (s.writeOne q Par.portCount p 0 v)

/-- PORT_COUNT_READ: a read of PORT.COUNT latches WRAPS (04 R131). -/
def execPortCountRead (q : Hdr) (p : Nat) (s : State) : Host.Outcome State Fault Refusal :=
  .next (s.readOne q Par.portCount p 0)

/-- CMP_ARM: a write of PORT.CMP_CFG with ARM set (04 R142, R143). -/
def execCmpArm (q : Hdr) (p e : Nat) (v : Word) (s : State) : Host.Outcome State Fault Refusal :=
  .next (s.writeOne q Par.portCmpCfg p e (v ||| 0x80000000))

/-- CMP_DISARM: a write of PORT.CMP_CFG with ARM clear (04 R142). -/
def execCmpDisarm (q : Hdr) (p e : Nat) (v : Word) (s : State) : Host.Outcome State Fault Refusal :=
  .next (s.writeOne q Par.portCmpCfg p e (v &&& 0x7FFFFFFF))

/-- CMP_HIT_CLR: PORT.CMP_HIT_CLR (04 R145). -/
def execCmpHitClr (q : Hdr) (p w : Nat) (v : Word) (s : State) : Host.Outcome State Fault Refusal :=
  .next (s.writeOne q Par.portCmpHitClr p w v)

/-- UV_CLEAR: SUPPLY.UV_CLEAR (02 R63). -/
def execUvClear (q : Hdr) (v : Word) (s : State) : Host.Outcome State Fault Refusal := .next (s.writeOne q Par.supplyUvClear 0 0 v)

/-- TREAD_CLEAR: TREAD.CLEAR (03 R104). -/
def execTreadClear (q : Hdr) (t : Nat) (v : Word) (s : State) : Host.Outcome State Fault Refusal :=
  .next (s.writeOne q Par.treadClear t 0 v)

/-- STOREY_RECLOSE: STOREY.RECLOSE (03 R108). -/
def execStoreyReclose (q : Hdr) (u : Nat) (v : Word) (s : State) : Host.Outcome State Fault Refusal :=
  .next (s.writeOne q Par.storeyReclose u 0 v)

/-- STOREY_STOP_CLEAR: STOREY.STOP_CLEAR (03 R109). -/
def execStoreyStopClear (q : Hdr) (u : Nat) (v : Word) (s : State) : Host.Outcome State Fault Refusal :=
  .next (s.writeOne q Par.storeyStopClear u 0 v)

/-- FLIGHT_STOP_CLEAR: FLIGHT.STOP_CLEAR (06 R224). -/
def execFlightStopClear (q : Hdr) (f : Nat) (v : Word) (s : State) : Host.Outcome State Fault Refusal :=
  .next (s.writeOne q Par.flightStopClear f 0 v)

/-- SYS_STOP_CLEAR: SYS.STOP_CLEAR (12 R435). -/
def execSysStopClear (q : Hdr) (v : Word) (s : State) : Host.Outcome State Fault Refusal := .next (s.writeOne q Par.sysStopClear 0 0 v)

/-- AXIS_DECEL_WRITE: AXIS.DECEL (05 R172). -/
def execAxisDecelWrite (q : Hdr) (a : Nat) (v : Word) (s : State) : Host.Outcome State Fault Refusal :=
  .next (s.writeOne q Par.axisDecel a 0 v)

/-- AXIS_POS_SET: AXIS.POS_SET (05 R177). -/
def execAxisPosSet (q : Hdr) (a : Nat) (v : Word) (s : State) : Host.Outcome State Fault Refusal :=
  .next (s.writeOne q Par.axisPosSet a 0 v)

/-- PROGRAM_STOP: PROGRAM.STOP (10 R335). -/
def execProgramStop (q : Hdr) (v : Word) (s : State) : Host.Outcome State Fault Refusal := .next (s.writeOne q Par.programStop 0 0 v)

/-- PROGRAM_RESTART: PROGRAM.RESTART (10 R335, R336). -/
def execProgramRestart (q : Hdr) (v : Word) (s : State) : Host.Outcome State Fault Refusal :=
  .next (s.writeOne q Par.programRestart 0 0 v)

/-- FORCE_CLEAR_ALL: FORCE.CLEAR_ALL (10 R366). -/
def execForceClearAll (q : Hdr) (v : Word) (s : State) : Host.Outcome State Fault Refusal :=
  .next (s.writeOne q Par.forceClearAll 0 0 v)

/-- OBSTACLE_COMMISSION: a write of 1 to OBSTACLE.COMMISSION (07 R236). -/
def execObstacleCommission (q : Hdr) (f : Nat) (v : Word) (s : State) : Host.Outcome State Fault Refusal :=
  .next (s.writeOne q Par.obstacleCommission f 0 v)

/-- COMMISSION_ABORT: a write of 0 to OBSTACLE.COMMISSION (07 R236). -/
def execCommissionAbort (q : Hdr) (f : Nat) (v : Word) (s : State) : Host.Outcome State Fault Refusal :=
  .next (s.writeOne q Par.obstacleCommission f 0 v)

/-- MAP_RESTORE: OBSTACLE.MAP_RESTORE (07 R239). -/
def execMapRestore (q : Hdr) (f : Nat) (v : Word) (s : State) : Host.Outcome State Fault Refusal :=
  .next (s.writeOne q Par.obstacleMapRestore f 0 v)

/-- TEMP_IN_WRITE: OBSTACLE.TEMP_IN (07 R230). -/
def execTempInWrite (q : Hdr) (f : Nat) (v : Word) (s : State) : Host.Outcome State Fault Refusal :=
  .next (s.writeOne q Par.obstacleTempIn f 0 v)

/-- SAFETY_RESET_REQ: SAFETY.RESET_REQ (08 R279). -/
def execSafetyResetReq (q : Hdr) (v : Word) (s : State) : Host.Outcome State Fault Refusal :=
  .next (s.writeOne q Par.safetyResetReq 0 0 v)

/-- ALCOVE_CLEAR: GALLERY.ALCOVE_CLEAR (11 R402). -/
def execAlcoveClear (q : Hdr) (v : Word) (s : State) : Host.Outcome State Fault Refusal :=
  .next (s.writeOne q Par.galleryAlcoveClear 0 0 v)

/-- OPTIME_READ: a read of GALLERY.OPTIME_LO latches OPTIME_HI (11 R407). -/
def execOptimeRead (q : Hdr) (s : State) : Host.Outcome State Fault Refusal := .next (s.readOne q Par.galleryOptimeLo 0 0)

/-- FLOOD_MODE_WRITE: GALLERY.FLOOD_MODE (11 R393). -/
def execFloodModeWrite (q : Hdr) (v : Word) (s : State) : Host.Outcome State Fault Refusal :=
  .next (s.writeOne q Par.galleryFloodMode 0 0 v)

/-- CAL_TRIM_WRITE: a user trim of class CAL_USER (14 R487). A PID of another class is no trim: the packet writes that parameter. -/
def execCalTrimWrite (q : Hdr) (pid : Nat) (v : Word) (s : State) : Host.Outcome State Fault Refusal :=
  .next (s.parWrite (oneEntry q pid v))

/-- CAL_CLEAR_ALL: CAL_USER.CLEAR_ALL (14 R495). -/
def execCalClearAll (q : Hdr) (v : Word) (s : State) : Host.Outcome State Fault Refusal :=
  .next (s.writeOne q Par.calUserClearAll 0 0 v)

/-- RING_REFORM: RING.REFORM (13 R444). -/
def execRingReform (q : Hdr) (v : Word) (s : State) : Host.Outcome State Fault Refusal := .next (s.writeOne q Par.ringReform 0 0 v)

end Sys2Proof.Machine
end

