-- ==== Sys2Proof/Machine/Dispatch.lean ====
section
/-! DEFINITION. The meaning of every command, one arm per constructor. -/

namespace Sys2Proof.Machine

def exec (i : Instr) (s : State) : Host.Outcome State Fault Refusal :=
  match i with
  | .safetyTick inp => Sys2Proof.Machine.execSafetyTick inp s
  | .budgetStop lv => Sys2Proof.Machine.execBudgetStop lv s
  | .hallSupplyFault r => Sys2Proof.Machine.execHallSupplyFault r s
  | .hallClockFault h => Sys2Proof.Machine.execHallClockFault h s
  | .ownClockFault => Sys2Proof.Machine.execOwnClockFault s
  | .pllLockLoss h => Sys2Proof.Machine.execPllLockLoss h s
  | .eccUncorrectable h => Sys2Proof.Machine.execEccUncorrectable h s
  | .sramScrub h corrected setBad => Sys2Proof.Machine.execSramScrub h corrected setBad s
  | .hallBReturn => Sys2Proof.Machine.execHallBReturn s
  | .hallResetAssert h => Sys2Proof.Machine.execHallResetAssert h s
  | .heartbeatLoss d h => Sys2Proof.Machine.execHeartbeatLoss d h s
  | .flightEnableLow f h => Sys2Proof.Machine.execFlightEnableLow f h s
  | .limpHomeTakeover d => Sys2Proof.Machine.execLimpHomeTakeover d s
  | .limpHomeHandback => Sys2Proof.Machine.execLimpHomeHandback s
  | .storeyBreaker u => Sys2Proof.Machine.execStoreyBreaker u s
  | .flightPresenceOpen f => Sys2Proof.Machine.execFlightPresenceOpen f s
  | .flightPresenceClosed f => Sys2Proof.Machine.execFlightPresenceClosed f s
  | .modulePresenceOpen => Sys2Proof.Machine.execModulePresenceOpen s
  | .modulePresenceClosed => Sys2Proof.Machine.execModulePresenceClosed s
  | .precharge frontEnd battery => Sys2Proof.Machine.execPrecharge frontEnd battery s
  | .prechargeTimeout => Sys2Proof.Machine.execPrechargeTimeout s
  | .supplyUv => Sys2Proof.Machine.execSupplyUv s
  | .supplyUvRestart => Sys2Proof.Machine.execSupplyUvRestart s
  | .uvClear q v => Sys2Proof.Machine.execUvClear q v s
  | .supplyOv => Sys2Proof.Machine.execSupplyOv s
  | .supplyOvRelease => Sys2Proof.Machine.execSupplyOvRelease s
  | .supplyInterrupt => Sys2Proof.Machine.execSupplyInterrupt s
  | .supplyLoss => Sys2Proof.Machine.execSupplyLoss s
  | .groundLoss => Sys2Proof.Machine.execGroundLoss s
  | .lhPinChange p => Sys2Proof.Machine.execLhPinChange p s
  | .treadIlim t => Sys2Proof.Machine.execTreadIlim t s
  | .treadPeakClamp t => Sys2Proof.Machine.execTreadPeakClamp t s
  | .treadThermal m => Sys2Proof.Machine.execTreadThermal m s
  | .treadWireTrip t => Sys2Proof.Machine.execTreadWireTrip t s
  | .treadRearm t => Sys2Proof.Machine.execTreadRearm t s
  | .treadRetry t => Sys2Proof.Machine.execTreadRetry t s
  | .retryCountReset t => Sys2Proof.Machine.execRetryCountReset t s
  | .treadClear q t v => Sys2Proof.Machine.execTreadClear q t v s
  | .treadOpenLoad t => Sys2Proof.Machine.execTreadOpenLoad t s
  | .storeyReclose q u v => Sys2Proof.Machine.execStoreyReclose q u v s
  | .storeyStopClear q u v => Sys2Proof.Machine.execStoreyStopClear q u v s
  | .flightStopClear q f v => Sys2Proof.Machine.execFlightStopClear q f v s
  | .sysStopClear q v => Sys2Proof.Machine.execSysStopClear q v s
  | .debouncedChange l r => Sys2Proof.Machine.execDebouncedChange l r s
  | .cleaningPulse l => Sys2Proof.Machine.execCleaningPulse l s
  | .cleaningPulseEnd l => Sys2Proof.Machine.execCleaningPulseEnd l s
  | .senseTrackFence l => Sys2Proof.Machine.execSenseTrackFence l s
  | .senseRxMismatch l => Sys2Proof.Machine.execSenseRxMismatch l s
  | .senseRxMismatchClear l => Sys2Proof.Machine.execSenseRxMismatchClear l s
  | .senseLoopFault l => Sys2Proof.Machine.execSenseLoopFault l s
  | .senseOverRange l => Sys2Proof.Machine.execSenseOverRange l s
  | .burdenReconnect l => Sys2Proof.Machine.execBurdenReconnect l s
  | .reedInputChange p b => Sys2Proof.Machine.execReedInputChange p b s
  | .portEdge p e => Sys2Proof.Machine.execPortEdge p e s
  | .auxPulseEnd p => Sys2Proof.Machine.execAuxPulseEnd p s
  | .echoEdgeOut f stamp => Sys2Proof.Machine.execEchoEdgeOut f stamp s
  | .portStandstill p => Sys2Proof.Machine.execPortStandstill p s
  | .portLineFault p => Sys2Proof.Machine.execPortLineFault p s
  | .portHallInvalid p => Sys2Proof.Machine.execPortHallInvalid p s
  | .ssiFrame p raw => Sys2Proof.Machine.execSsiFrame p raw s
  | .indexEvent p => Sys2Proof.Machine.execIndexEvent p s
  | .portRxMismatch p => Sys2Proof.Machine.execPortRxMismatch p s
  | .portSupplyFault p => Sys2Proof.Machine.execPortSupplyFault p s
  | .supplyClear q p v => Sys2Proof.Machine.execSupplyClear q p v s
  | .portCountWrite q p v => Sys2Proof.Machine.execPortCountWrite q p v s
  | .portCountRead q p => Sys2Proof.Machine.execPortCountRead q p s
  | .cmpArm q p e v => Sys2Proof.Machine.execCmpArm q p e v s
  | .cmpDisarm q p e v => Sys2Proof.Machine.execCmpDisarm q p e v s
  | .cmpHitClr q p w v => Sys2Proof.Machine.execCmpHitClr q p w v s
  | .motionSample inp => Sys2Proof.Machine.execMotionSample inp s
  | .moveAbs k => Sys2Proof.Machine.execMoveAbs k s
  | .moveRel k => Sys2Proof.Machine.execMoveRel k s
  | .moveVel k => Sys2Proof.Machine.execMoveVel k s
  | .stop k => Sys2Proof.Machine.execStop k s
  | .quickStop k => Sys2Proof.Machine.execQuickStop k s
  | .release k => Sys2Proof.Machine.execRelease k s
  | .gearEngage k => Sys2Proof.Machine.execGearEngage k s
  | .gearDisengage k => Sys2Proof.Machine.execGearDisengage k s
  | .energize k => Sys2Proof.Machine.execEnergize k s
  | .deenergize k => Sys2Proof.Machine.execDeenergize k s
  | .commLearn k => Sys2Proof.Machine.execCommLearn k s
  | .axisDeviation a => Sys2Proof.Machine.execAxisDeviation a s
  | .axisOverspeed a => Sys2Proof.Machine.execAxisOverspeed a s
  | .axisDecelWrite q a v => Sys2Proof.Machine.execAxisDecelWrite q a v s
  | .axisPosSet q a v => Sys2Proof.Machine.execAxisPosSet q a v s
  | .axisHoldTimeout a => Sys2Proof.Machine.execAxisHoldTimeout a s
  | .alignComplete a responses => Sys2Proof.Machine.execAlignComplete a responses s
  | .externalStep a at' => Sys2Proof.Machine.execExternalStep a at' s
  | .stepperHoldCurrent a => Sys2Proof.Machine.execStepperHoldCurrent a s
  | .solenoidPullEnd a => Sys2Proof.Machine.execSolenoidPullEnd a s
  | .gearMasterLost a => Sys2Proof.Machine.execGearMasterLost a s
  | .programCycleStart => Sys2Proof.Machine.execProgramCycleStart s
  | .programCycleComplete us => Sys2Proof.Machine.execProgramCycleComplete us s
  | .programStop q v => Sys2Proof.Machine.execProgramStop q v s
  | .programRestart q v => Sys2Proof.Machine.execProgramRestart q v s
  | .forceSet k => Sys2Proof.Machine.execForceSet k s
  | .forceClear k => Sys2Proof.Machine.execForceClear k s
  | .forceClearAll q v => Sys2Proof.Machine.execForceClearAll q v s
  | .progBegin k => Sys2Proof.Machine.execProgBegin k s
  | .progData k => Sys2Proof.Machine.execProgData k s
  | .progEnd k => Sys2Proof.Machine.execProgEnd k s
  | .programVerified => Sys2Proof.Machine.execProgramVerified s
  | .progSwitch k => Sys2Proof.Machine.execProgSwitch k s
  | .switchAbandoned => Sys2Proof.Machine.execSwitchAbandoned s
  | .rpdoReceive p id data => Sys2Proof.Machine.execRpdoReceive p id data s
  | .canHeartbeat p node nmt => Sys2Proof.Machine.execCanHeartbeat p node nmt s
  | .canNodeLost n => Sys2Proof.Machine.execCanNodeLost n s
  | .canEmcy p node data => Sys2Proof.Machine.execCanEmcy p node data s
  | .canErrorPassive p txErr rxErr => Sys2Proof.Machine.execCanErrorPassive p txErr rxErr s
  | .canBusOff p => Sys2Proof.Machine.execCanBusOff p s
  | .canBusRecovered p => Sys2Proof.Machine.execCanBusRecovered p s
  | .doorOpen f => Sys2Proof.Machine.execDoorOpen f s
  | .doorClose f => Sys2Proof.Machine.execDoorClose f s
  | .doorStop f => Sys2Proof.Machine.execDoorStop f s
  | .isolate f => Sys2Proof.Machine.execIsolate f s
  | .deisolate f => Sys2Proof.Machine.execDeisolate f s
  | .doorReference f => Sys2Proof.Machine.execDoorReference f s
  | .resetFault f => Sys2Proof.Machine.execResetFault f s
  | .egress f => Sys2Proof.Machine.execEgress f s
  | .warnTimeout f => Sys2Proof.Machine.execWarnTimeout f s
  | .lockNoRelease f => Sys2Proof.Machine.execLockNoRelease f s
  | .lockNotEngaged f => Sys2Proof.Machine.execLockNotEngaged f s
  | .closedNotConfirmed f => Sys2Proof.Machine.execClosedNotConfirmed f s
  | .stepConfirmTimeout f => Sys2Proof.Machine.execStepConfirmTimeout f s
  | .extend f => Sys2Proof.Machine.execExtend f s
  | .retract f => Sys2Proof.Machine.execRetract f s
  | .stepStop f => Sys2Proof.Machine.execStepStop f s
  | .stepReference f => Sys2Proof.Machine.execStepReference f s
  | .stepReset f => Sys2Proof.Machine.execStepReset f s
  | .lockRelease f => Sys2Proof.Machine.execLockRelease f s
  | .engage f => Sys2Proof.Machine.execEngage f s
  | .lockReset f => Sys2Proof.Machine.execLockReset f s
  | .referenceStart f => Sys2Proof.Machine.execReferenceStart f s
  | .hardstopFound f => Sys2Proof.Machine.execHardstopFound f s
  | .hardstopReleaseEnd f => Sys2Proof.Machine.execHardstopReleaseEnd f s
  | .obstacleDetected f => Sys2Proof.Machine.execObstacleDetected f s
  | .reversalStart f => Sys2Proof.Machine.execReversalStart f s
  | .recloseAttempt f => Sys2Proof.Machine.execRecloseAttempt f s
  | .startMarginEnd f => Sys2Proof.Machine.execStartMarginEnd f s
  | .learnUpdate f => Sys2Proof.Machine.execLearnUpdate f s
  | .learnConfirmTimeout f => Sys2Proof.Machine.execLearnConfirmTimeout f s
  | .obstacleCommission q f v => Sys2Proof.Machine.execObstacleCommission q f v s
  | .commissionAbort q f v => Sys2Proof.Machine.execCommissionAbort q f v s
  | .mapRestore q f v => Sys2Proof.Machine.execMapRestore q f v s
  | .tempInWrite q f v => Sys2Proof.Machine.execTempInWrite q f v s
  | .tempInTimeout f => Sys2Proof.Machine.execTempInTimeout f s
  | .discrepancy n => Sys2Proof.Machine.execDiscrepancy n s
  | .discrepancyCleared n => Sys2Proof.Machine.execDiscrepancyCleared n s
  | .dclConduct o => Sys2Proof.Machine.execDclConduct o s
  | .dclOfflineTest o ma1 ma2 => Sys2Proof.Machine.execDclOfflineTest o ma1 ma2 s
  | .dclTestPulse o sw ma => Sys2Proof.Machine.execDclTestPulse o sw ma s
  | .dclInhibit => Sys2Proof.Machine.execDclInhibit s
  | .permissionGrant f => Sys2Proof.Machine.execPermissionGrant f s
  | .resetEdge => Sys2Proof.Machine.execResetEdge s
  | .resetHeld => Sys2Proof.Machine.execResetHeld s
  | .resetStuckClear => Sys2Proof.Machine.execResetStuckClear s
  | .safetyResetReq q v => Sys2Proof.Machine.execSafetyResetReq q v s
  | .wordMismatchLimit h => Sys2Proof.Machine.execWordMismatchLimit h s
  | .modeTransition => Sys2Proof.Machine.execModeTransition s
  | .sealRead contacts => Sys2Proof.Machine.execSealRead contacts s
  | .vsfSend c => Sys2Proof.Machine.execVsfSend c s
  | .vsfFrameReceive r => Sys2Proof.Machine.execVsfFrameReceive r s
  | .safelinkSilenceTimeout c => Sys2Proof.Machine.execSafelinkSilenceTimeout c s
  | .safelinkExpired c => Sys2Proof.Machine.execSafelinkExpired c s
  | .trdpPdReceive r => Sys2Proof.Machine.execTrdpPdReceive r s
  | .trdpSubTimeout n => Sys2Proof.Machine.execTrdpSubTimeout n s
  | .eventIntake => Sys2Proof.Machine.execEventIntake s
  | .recordWindowEnd => Sys2Proof.Machine.execRecordWindowEnd s
  | .queueTake => Sys2Proof.Machine.execQueueTake s
  | .eventsLost => Sys2Proof.Machine.execEventsLost s
  | .pageProgram => Sys2Proof.Machine.execPageProgram s
  | .compactionStep => Sys2Proof.Machine.execCompactionStep s
  | .traceWrite f => Sys2Proof.Machine.execTraceWrite f s
  | .counterPersist => Sys2Proof.Machine.execCounterPersist s
  | .galleryFailed cause arg => Sys2Proof.Machine.execGalleryFailed cause arg s
  | .indexRebuilt => Sys2Proof.Machine.execIndexRebuilt s
  | .nandScrub r => Sys2Proof.Machine.execNandScrub r s
  | .alcoveClear q v => Sys2Proof.Machine.execAlcoveClear q v s
  | .optimeRead q => Sys2Proof.Machine.execOptimeRead q s
  | .floodModeWrite q v => Sys2Proof.Machine.execFloodModeWrite q v s
  | .hello k => Sys2Proof.Machine.execHello k s
  | .auth k => Sys2Proof.Machine.execAuth k s
  | .lockoutEnd sv => Sys2Proof.Machine.execLockoutEnd sv s
  | .authTimeout n => Sys2Proof.Machine.execAuthTimeout n s
  | .close k => Sys2Proof.Machine.execClose k s
  | .sessionTimeout n => Sys2Proof.Machine.execSessionTimeout n s
  | .usbDetach => Sys2Proof.Machine.execUsbDetach s
  | .fragmentTimeout src ident => Sys2Proof.Machine.execFragmentTimeout src ident s
  | .keepalive k => Sys2Proof.Machine.execKeepalive k s
  | .identify k => Sys2Proof.Machine.execIdentify k s
  | .parRead k => Sys2Proof.Machine.execParRead k s
  | .parWrite k => Sys2Proof.Machine.execParWrite k s
  | .parReadArray k => Sys2Proof.Machine.execParReadArray k s
  | .parInfo k => Sys2Proof.Machine.execParInfo k s
  | .galRead k => Sys2Proof.Machine.execGalRead k s
  | .galTraceRead k => Sys2Proof.Machine.execGalTraceRead k s
  | .stageBegin k => Sys2Proof.Machine.execStageBegin k s
  | .stageData k => Sys2Proof.Machine.execStageData k s
  | .stageEnd k => Sys2Proof.Machine.execStageEnd k s
  | .transferAbandon kind => Sys2Proof.Machine.execTransferAbandon kind s
  | .activate k => Sys2Proof.Machine.execActivate k s
  | .rollback k => Sys2Proof.Machine.execRollback k s
  | .activationTick => Sys2Proof.Machine.execActivationTick s
  | .slotInfo k => Sys2Proof.Machine.execSlotInfo k s
  | .attestChallenge k => Sys2Proof.Machine.execAttestChallenge k s
  | .attestSigned => Sys2Proof.Machine.execAttestSigned s
  | .attestContinuation k => Sys2Proof.Machine.execAttestContinuation k s
  | .certRead k => Sys2Proof.Machine.execCertRead k s
  | .hostKeySet k => Sys2Proof.Machine.execHostKeySet k s
  | .hostKeyRevoke k => Sys2Proof.Machine.execHostKeyRevoke k s
  | .modeRequestStandby k => Sys2Proof.Machine.execModeRequestStandby k s
  | .modeRequestRun k => Sys2Proof.Machine.execModeRequestRun k s
  | .modeRequestMaintenance k => Sys2Proof.Machine.execModeRequestMaintenance k s
  | .modeRequestUpdate k => Sys2Proof.Machine.execModeRequestUpdate k s
  | .restartHallA k => Sys2Proof.Machine.execRestartHallA k s
  | .restartModule k => Sys2Proof.Machine.execRestartModule k s
  | .restartBegin => Sys2Proof.Machine.execRestartBegin s
  | .calCheck k => Sys2Proof.Machine.execCalCheck k s
  | .calTrimWrite q pid v => Sys2Proof.Machine.execCalTrimWrite q pid v s
  | .calClearAll q v => Sys2Proof.Machine.execCalClearAll q v s
  | .ringLinkUp p roundTrip eq => Sys2Proof.Machine.execRingLinkUp p roundTrip eq s
  | .ringTrainingRetry p => Sys2Proof.Machine.execRingTrainingRetry p s
  | .ringPortDown p violations => Sys2Proof.Machine.execRingPortDown p violations s
  | .ringFormTrigger => Sys2Proof.Machine.execRingFormTrigger s
  | .ringReform q v => Sys2Proof.Machine.execRingReform q v s
  | .formWaitEnd r => Sys2Proof.Machine.execFormWaitEnd r s
  | .ringFrame r => Sys2Proof.Machine.execRingFrame r s
  | .ringLost cause => Sys2Proof.Machine.execRingLost cause s
  | .boot b => Sys2Proof.Machine.execBoot b s
  | .bootComplete fails => Sys2Proof.Machine.execBootComplete fails s
  | .fwTrialTimeout => Sys2Proof.Machine.execFwTrialTimeout s
  | .doorCmd k => Sys2Proof.Machine.execDoorCmd k s
  | .hallAReturn => Sys2Proof.Machine.execHallAReturn s
  | .engineWatchdog h => Sys2Proof.Machine.execEngineWatchdog h s
  | .galleryFailedRepeat => Sys2Proof.Machine.execGalleryFailedRepeat s
  | .hostPacketRejected sv src raw => Sys2Proof.Machine.execHostPacketRejected sv src raw s
  | .ringSignalDetect p => Sys2Proof.Machine.execRingSignalDetect p s
  | .switchFrameForward p frame => Sys2Proof.Machine.execSwitchFrameForward p frame s
  | .arpIcmpRequest frame => Sys2Proof.Machine.execArpIcmpRequest frame s
  | .groundReturn => Sys2Proof.Machine.execGroundReturn s
  | .lPdLoss d => Sys2Proof.Machine.execLPdLoss d s
  | .lPdRestored d => Sys2Proof.Machine.execLPdRestored d s

end Sys2Proof.Machine
end

