-- ==== Sys2Proof/Frames.lean ====
section
/-! DEFINITION. The frame of every command: which parts of the state it may change, and which unit it concerns. The parts are the fields
of State; each list is read off the rules of spec/ that the command's docstring names, with what those rules record and send. -/

namespace Sys2Proof.Machine

/-- The parts of the state, one for each field. -/
inductive Part where
  | pending
  | clock
  | params
  | supply
  | limp
  | flightBudgets
  | storeyBudgets
  | dieBudgets
  | currentBudget
  | thermalBudget
  | storeys
  | dies
  | flightPower
  | treads
  | baseplate
  | dissip
  | senses
  | cleaners
  | ports
  | echos
  | axes
  | doors
  | obst
  | hallA
  | hallB
  | safety
  | conns
  | firstStandby
  | train
  | prog
  | can
  | gallery
  | host
  | ring
  | sec
  | outs
  | draws
deriving DecidableEq, Repr

/-- A part has the same content in two states. -/
def State.same (s t : State) : Part → Prop
  | .pending => t.pending = s.pending
  | .clock => t.clock = s.clock
  | .params => t.params = s.params
  | .supply => t.supply = s.supply
  | .limp => t.limp = s.limp
  | .flightBudgets => t.flightBudgets = s.flightBudgets
  | .storeyBudgets => t.storeyBudgets = s.storeyBudgets
  | .dieBudgets => t.dieBudgets = s.dieBudgets
  | .currentBudget => t.currentBudget = s.currentBudget
  | .thermalBudget => t.thermalBudget = s.thermalBudget
  | .storeys => t.storeys = s.storeys
  | .dies => t.dies = s.dies
  | .flightPower => t.flightPower = s.flightPower
  | .treads => t.treads = s.treads
  | .baseplate => t.baseplate = s.baseplate
  | .dissip => t.dissip = s.dissip
  | .senses => t.senses = s.senses
  | .cleaners => t.cleaners = s.cleaners
  | .ports => t.ports = s.ports
  | .echos => t.echos = s.echos
  | .axes => t.axes = s.axes
  | .doors => t.doors = s.doors
  | .obst => t.obst = s.obst
  | .hallA => t.hallA = s.hallA
  | .hallB => t.hallB = s.hallB
  | .safety => t.safety = s.safety
  | .conns => t.conns = s.conns
  | .firstStandby => t.firstStandby = s.firstStandby
  | .train => t.train = s.train
  | .prog => t.prog = s.prog
  | .can => t.can = s.can
  | .gallery => t.gallery = s.gallery
  | .host => t.host = s.host
  | .ring => t.ring = s.ring
  | .sec => t.sec = s.sec
  | .outs => t.outs = s.outs
  | .draws => t.draws = s.draws

/-- Every part. -/
def Part.all : List Part :=
  [.pending, .clock, .params, .supply, .limp, .flightBudgets, .storeyBudgets, .dieBudgets, .currentBudget, .thermalBudget,
   .storeys, .dies, .flightPower, .treads, .baseplate, .dissip, .senses, .cleaners, .ports, .echos, .axes, .doors, .obst,
   .hallA, .hallB, .safety, .conns, .firstStandby, .train, .prog, .can, .gallery, .host, .ring, .sec, .outs, .draws]

/-- Every part but some. -/
def Part.allBut (ps : List Part) : List Part := Part.all.filter (fun p => !ps.contains p)

/-- Between two states only the listed parts differ. -/
def State.OnlyChanges (s : State) (ps : List Part) (t : State) : Prop := ∀ p, p ∉ ps → s.same t p

/-- What a packet may change by its checks alone: the session, and what the end of a session stops or drops (its axes, its
commands that wait at a doorway) (12 R414, R419, R420). -/
def sessionParts : List Part := [.axes, .doors, .gallery, .host, .sec, .outs]

/-- What a PAR_WRITE packet may change, whatever its entries name (12 R427). -/
def writeParts : List Part := Part.allBut [.pending, .clock, .limp, .dies, .flightPower, .baseplate, .dissip, .senses,
  .cleaners, .echos, .hallA, .hallB, .conns, .firstStandby, .train, .draws]

/-- What the reset of a hall may change (01 R26 to R30). -/
def resetParts : List Part := Part.allBut [.pending, .params, .supply, .limp, .flightBudgets, .storeyBudgets, .dieBudgets,
  .currentBudget, .thermalBudget, .storeys, .dies, .baseplate, .dissip, .senses, .cleaners, .echos, .firstStandby, .draws]

/-- What the commands of the supply, the presence loops, the treads and the rails (Machine/Power.lean) may change. -/
def supplyParts : Instr → Option (List Part)
  | .budgetStop _ => some [.flightBudgets, .storeyBudgets, .dieBudgets, .currentBudget, .thermalBudget, .treads, .axes, .gallery,
      .outs]
  | .limpHomeTakeover _ => some [.limp, .treads]
  | .limpHomeHandback => some [.limp, .treads, .gallery, .outs]
  | .storeyBreaker _ => some [.storeys, .treads, .axes, .gallery, .outs]
  | .flightPresenceOpen _ => some [.flightPower, .treads, .ports, .axes, .gallery, .outs]
  | .flightPresenceClosed _ => some [.flightPower, .senses, .ports, .echos, .axes, .safety, .gallery, .outs]
  | .modulePresenceOpen => some [.supply, .treads, .axes, .gallery, .outs]
  | .modulePresenceClosed => some [.supply]
  | .precharge _ _ => some [.supply]
  | .prechargeTimeout => some [.supply]
  | .supplyUv => some [.supply, .treads, .axes, .obst, .gallery, .outs]
  | .supplyUvRestart => some [.supply, .treads, .gallery, .outs]
  | .supplyOv => some [.supply, .treads, .axes, .obst, .gallery, .outs]
  | .supplyOvRelease => some [.supply, .treads]
  | .supplyInterrupt => some [.supply, .obst, .gallery, .outs]
  | .groundLoss => some [.supply, .treads]
  | .lhPinChange _ => some [.supply, .limp, .treads]
  | .treadIlim _ => some [.treads, .gallery, .outs]
  | .treadPeakClamp _ => some [.treads, .gallery, .outs]
  | .treadThermal _ => some [.treads, .axes, .gallery, .outs]
  | .treadWireTrip _ => some [.treads, .axes, .gallery, .outs]
  | .treadRearm _ => some [.treads]
  | .treadRetry _ => some [.treads, .gallery, .outs]
  | .retryCountReset _ => some [.treads]
  | .treadOpenLoad _ => some [.treads, .gallery, .outs]
  | .groundReturn => some [.supply, .treads, .gallery, .outs]
  | .lPdLoss _ => some [.limp, .dies, .treads, .senses, .ports, .axes, .safety, .gallery, .outs]
  | .lPdRestored _ => some [.dies, .treads, .senses, .ports, .axes]
  | _ => none

/-- What the commands of the sense lines and the position ports (Machine/SensePort.lean) may change. -/
def inputParts : Instr → Option (List Part)
  | .debouncedChange _ _ => some [.senses, .safety, .gallery, .outs]
  | .cleaningPulse _ => some [.cleaners]
  | .cleaningPulseEnd _ => some [.senses, .cleaners]
  | .senseTrackFence _ => some [.senses, .gallery, .outs]
  | .senseRxMismatch _ => some [.senses, .gallery, .outs]
  | .senseRxMismatchClear _ => some [.senses]
  | .senseLoopFault _ => some [.senses, .gallery, .outs]
  | .senseOverRange _ => some [.senses, .gallery, .outs]
  | .burdenReconnect _ => some [.senses]
  | .reedInputChange _ _ => some [.ports]
  | .portEdge _ _ => some [.ports, .echos, .axes, .gallery, .outs, .draws]
  | .auxPulseEnd _ => some [.ports, .outs]
  | .echoEdgeOut _ _ => some [.ports, .echos, .outs]
  | .portStandstill _ => some [.ports]
  | .portLineFault _ => some [.treads, .ports, .axes, .gallery, .outs]
  | .portHallInvalid _ => some [.treads, .ports, .axes, .gallery, .outs]
  | .ssiFrame _ _ => some [.treads, .ports, .axes, .gallery, .outs]
  | .indexEvent _ => some [.params, .ports, .axes, .gallery, .ring, .outs, .draws]
  | .portRxMismatch _ => some [.ports, .gallery, .outs]
  | .portSupplyFault _ => some [.treads, .ports, .axes, .gallery, .outs]
  | _ => none

/-- What the commands of the axes and the doorways (Machine/Motion.lean, Machine/Doorway.lean) may change. -/
def motionParts : Instr → Option (List Part)
  | .motionSample _ => some (Part.allBut [.pending, .params, .limp, .echos, .conns, .firstStandby, .train, .can, .sec, .draws])
  | .axisDeviation _ => some [.treads, .axes, .gallery, .outs]
  | .axisOverspeed _ => some [.treads, .axes, .gallery, .outs]
  | .axisHoldTimeout _ => some [.treads, .axes]
  | .alignComplete _ _ => some [.treads, .axes, .gallery, .outs, .draws]
  | .externalStep _ _ => some [.treads, .axes, .gallery, .outs]
  | .stepperHoldCurrent _ => some [.axes]
  | .solenoidPullEnd _ => some [.treads, .axes]
  | .gearMasterLost _ => some [.treads, .axes, .gallery, .outs]
  | .doorOpen _ => some [.flightPower, .axes, .doors, .obst, .gallery, .host, .outs]
  | .doorClose _ => some [.flightPower, .axes, .doors, .obst, .gallery, .host, .outs]
  | .doorStop _ => some [.flightPower, .axes, .doors, .obst, .gallery, .host, .outs]
  | .isolate _ => some [.flightPower, .axes, .doors, .obst, .gallery, .host, .outs]
  | .deisolate _ => some [.flightPower, .axes, .doors, .obst, .gallery, .host, .outs]
  | .doorReference _ => some [.flightPower, .axes, .doors, .obst, .gallery, .host, .outs]
  | .resetFault _ => some [.flightPower, .axes, .doors, .obst, .gallery, .host, .outs]
  | .egress _ => some [.flightPower, .axes, .doors, .obst, .gallery, .host, .outs]
  | .warnTimeout _ => some [.flightPower, .axes, .doors, .obst, .gallery, .outs]
  | .lockNoRelease _ => some [.flightPower, .axes, .doors, .obst, .gallery, .outs]
  | .lockNotEngaged _ => some [.flightPower, .axes, .doors, .obst, .gallery, .outs]
  | .closedNotConfirmed _ => some [.flightPower, .axes, .doors, .obst, .gallery, .outs]
  | .stepConfirmTimeout _ => some [.doors]
  | .extend _ => some [.flightPower, .axes, .doors, .obst, .gallery, .outs]
  | .retract _ => some [.flightPower, .axes, .doors, .obst, .gallery, .outs]
  | .stepStop _ => some [.flightPower, .axes, .doors, .obst, .gallery, .outs]
  | .stepReference _ => some [.flightPower, .axes, .doors, .obst, .gallery, .outs]
  | .stepReset _ => some [.flightPower, .axes, .doors, .obst, .gallery, .outs]
  | .lockRelease _ => some [.axes, .doors]
  | .engage _ => some [.axes, .doors]
  | .lockReset _ => some [.axes, .doors]
  | .referenceStart _ => some [.doors]
  | .hardstopFound _ => some [.flightPower, .treads, .ports, .axes, .doors, .obst, .gallery, .ring, .outs]
  | .hardstopReleaseEnd _ => some [.flightPower, .axes, .doors, .obst, .gallery, .outs]
  | .obstacleDetected _ => some [.flightPower, .axes, .doors, .obst, .gallery, .outs]
  | .reversalStart _ => some [.axes, .doors, .obst]
  | .recloseAttempt _ => some [.flightPower, .axes, .doors, .obst, .gallery, .outs]
  | .startMarginEnd _ => some [.obst]
  | .learnUpdate _ => some [.obst, .gallery, .outs]
  | .learnConfirmTimeout _ => some [.obst]
  | .tempInTimeout _ => some [.obst]
  | _ => none

/-- What the commands of the safety functions, the resets and start-up (Machine/Interlock.lean, Machine/HallOps.lean,
Machine/Boot.lean) may change. -/
def hallParts : Instr → Option (List Part)
  | .safetyTick _ => some (Part.allBut [.pending, .params, .storeys, .baseplate, .dissip, .senses, .cleaners, .echos])
  | .hallSupplyFault _ => some resetParts
  | .hallClockFault _ => some [.clock, .flightPower, .treads, .ports, .axes, .doors, .obst, .hallA, .hallB, .safety, .prog, .can,
      .gallery, .host, .sec, .outs]
  | .ownClockFault => some resetParts
  | .pllLockLoss _ => some resetParts
  | .eccUncorrectable _ => some resetParts
  | .sramScrub _ _ _ => some [.flightPower, .treads, .ports, .axes, .doors, .obst, .hallA, .hallB, .safety, .prog, .can,
      .gallery, .host, .sec, .outs]
  | .hallBReturn => some [.params, .flightPower, .treads, .hallA, .hallB, .safety, .conns, .gallery, .sec, .outs]
  | .hallResetAssert _ => some resetParts
  | .heartbeatLoss _ _ => some [.dies, .treads]
  | .flightEnableLow _ _ => some [.flightPower, .treads]
  | .supplyLoss => some (Part.allBut [.pending, .params, .flightBudgets, .storeyBudgets, .dieBudgets, .currentBudget,
      .thermalBudget, .storeys, .baseplate, .dissip, .cleaners, .echos, .draws])
  | .discrepancy _ => some [.safety, .gallery, .outs]
  | .discrepancyCleared _ => some [.safety, .gallery, .outs]
  | .dclConduct _ => some [.safety]
  | .dclOfflineTest _ _ _ => some [.safety, .gallery, .outs]
  | .dclTestPulse _ _ _ => some [.safety, .gallery, .outs]
  | .dclInhibit => some [.safety]
  | .permissionGrant _ => some [.safety]
  | .resetEdge => some [.safety]
  | .resetHeld => some [.safety, .gallery, .outs]
  | .resetStuckClear => some [.safety]
  | .wordMismatchLimit _ => some [.flightPower, .treads, .ports, .axes, .doors, .obst, .hallA, .hallB, .safety, .prog, .can,
      .gallery, .host, .sec, .outs]
  | .modeTransition => some [.flightBudgets, .storeyBudgets, .dieBudgets, .currentBudget, .thermalBudget, .flightPower, .treads,
      .ports, .axes, .doors, .obst, .hallA, .hallB, .safety, .conns, .firstStandby, .prog, .can, .gallery, .host, .sec, .outs]
  | .sealRead _ => some [.flightPower, .treads, .ports, .axes, .doors, .obst, .hallA, .hallB, .safety, .prog, .can, .gallery,
      .host, .sec, .outs]
  | .restartBegin => some resetParts
  | .boot _ => some (Part.allBut [.pending, .baseplate, .dissip, .cleaners])
  | .bootComplete _ => some [.clock, .flightBudgets, .storeyBudgets, .dieBudgets, .currentBudget, .thermalBudget, .flightPower,
      .treads, .ports, .axes, .doors, .obst, .hallA, .hallB, .safety, .conns, .firstStandby, .train, .prog, .can, .gallery,
      .host, .ring, .sec, .outs]
  | .fwTrialTimeout => some resetParts
  | .hallAReturn => some [.params, .limp, .flightPower, .treads, .ports, .axes, .doors, .obst, .hallA, .hallB, .safety, .train,
      .prog, .can, .gallery, .host, .sec, .outs]
  | .engineWatchdog _ => some (Part.allBut [.pending, .params, .supply, .limp, .flightBudgets, .storeyBudgets, .dieBudgets,
      .currentBudget, .thermalBudget, .storeys, .dies, .baseplate, .dissip, .senses, .cleaners, .echos, .firstStandby, .draws])
  | _ => none

/-- What the commands of the remote I/O, the train network, the program cycle, the gallery and the ring (Machine/Can.lean,
Machine/TrainNet.lean, Machine/ProgramCycle.lean, Machine/Gallery.lean, Machine/Ring.lean) may change. -/
def networkParts : Instr → Option (List Part)
  | .programCycleStart => some (Part.allBut [.pending, .clock, .limp, .dies, .baseplate, .dissip, .senses, .cleaners, .echos,
      .hallA, .hallB, .conns, .firstStandby])
  | .programCycleComplete _ => some [.prog]
  | .programVerified => some [.prog, .host, .outs]
  | .switchAbandoned => some [.prog, .gallery, .host, .outs]
  | .rpdoReceive _ _ _ => some [.can, .gallery, .outs]
  | .canHeartbeat _ _ _ => some [.can, .gallery, .outs]
  | .canNodeLost _ => some [.can, .gallery, .outs]
  | .canEmcy _ _ _ => some [.can, .gallery, .outs]
  | .canErrorPassive _ _ _ => some [.can, .gallery, .outs]
  | .canBusOff _ => some [.can, .gallery, .outs]
  | .canBusRecovered _ => some [.can, .gallery, .outs]
  | .vsfSend _ => some [.conns, .train, .outs, .draws]
  | .vsfFrameReceive _ => some [.safety]
  | .safelinkSilenceTimeout _ => some [.conns, .gallery, .outs]
  | .safelinkExpired _ => some [.conns, .gallery, .outs]
  | .trdpPdReceive _ => some [.safety, .train, .gallery, .outs]
  | .trdpSubTimeout _ => some [.train, .prog, .gallery, .outs]
  | .eventIntake => some [.prog, .gallery]
  | .recordWindowEnd => some [.gallery]
  | .queueTake => some [.gallery]
  | .eventsLost => some [.gallery]
  | .pageProgram => some [.gallery, .outs, .draws]
  | .compactionStep => some [.gallery, .outs, .draws]
  | .traceWrite _ => some [.gallery, .outs, .draws]
  | .counterPersist => some [.gallery]
  | .galleryFailed _ _ => some [.gallery, .outs]
  | .indexRebuilt => some [.gallery, .outs]
  | .nandScrub _ => some [.gallery, .outs]
  | .ringLinkUp _ _ _ => some [.gallery, .ring, .outs]
  | .ringTrainingRetry _ => some [.ring]
  | .ringPortDown _ _ => some [.gallery, .ring, .outs]
  | .ringFormTrigger => some [.ring]
  | .formWaitEnd _ => some [.prog, .gallery, .ring, .outs, .draws]
  | .ringFrame _ => some [.clock, .safety, .prog, .gallery, .ring, .outs, .draws]
  | .ringLost _ => some [.gallery, .ring, .outs]
  | .galleryFailedRepeat => some [.gallery, .outs]
  | .ringSignalDetect _ => some [.ring]
  | .switchFrameForward _ _ => some [.safety, .train, .gallery, .host, .outs]
  | .arpIcmpRequest _ => some [.train, .gallery, .outs]
  | _ => none

/-- What the commands of the host link (Machine/HostCommands.lean, Machine/ParamCommands.lean, Machine/SessionRows.lean, Machine/Slots.lean,
Machine/Attestation.lean, Machine/GalleryRead.lean) may change. -/
def hostParts : Instr → Option (List Part)
  | .uvClear _ _ => some (Part.allBut [.pending, .clock, .limp, .dies, .flightPower, .baseplate, .dissip, .senses, .cleaners,
      .echos, .hallA, .hallB, .conns, .firstStandby, .train, .draws])
  | .treadClear _ _ _ => some writeParts
  | .storeyReclose _ _ _ => some writeParts
  | .storeyStopClear _ _ _ => some writeParts
  | .flightStopClear _ _ _ => some writeParts
  | .sysStopClear _ _ => some writeParts
  | .supplyClear _ _ _ => some writeParts
  | .portCountWrite _ _ _ => some writeParts
  | .portCountRead _ _ => some [.ports, .axes, .doors, .gallery, .host, .sec, .outs]
  | .cmpArm _ _ _ _ => some writeParts
  | .cmpDisarm _ _ _ _ => some writeParts
  | .cmpHitClr _ _ _ _ => some writeParts
  | .moveAbs _ => some [.axes, .doors, .gallery, .host, .sec, .outs]
  | .moveRel _ => some [.axes, .doors, .gallery, .host, .sec, .outs]
  | .moveVel _ => some [.axes, .doors, .gallery, .host, .sec, .outs]
  | .stop _ => some [.axes, .doors, .gallery, .host, .sec, .outs]
  | .quickStop _ => some [.axes, .doors, .gallery, .host, .sec, .outs]
  | .release _ => some [.axes, .doors, .gallery, .host, .sec, .outs]
  | .gearEngage _ => some [.axes, .doors, .gallery, .host, .sec, .outs]
  | .gearDisengage _ => some [.axes, .doors, .gallery, .host, .sec, .outs]
  | .energize _ => some [.axes, .doors, .gallery, .host, .sec, .outs]
  | .deenergize _ => some [.axes, .doors, .gallery, .host, .sec, .outs]
  | .commLearn _ => some [.axes, .doors, .gallery, .host, .sec, .outs]
  | .axisDecelWrite _ _ _ => some writeParts
  | .axisPosSet _ _ _ => some writeParts
  | .programStop _ _ => some writeParts
  | .programRestart _ _ => some writeParts
  | .forceSet _ => some [.axes, .doors, .prog, .gallery, .host, .sec, .outs]
  | .forceClear _ => some [.axes, .doors, .prog, .gallery, .host, .sec, .outs]
  | .forceClearAll _ _ => some writeParts
  | .progBegin _ => some sessionParts
  | .progData _ => some sessionParts
  | .progEnd _ => some [.axes, .doors, .prog, .gallery, .host, .sec, .outs]
  | .progSwitch _ => some [.axes, .doors, .prog, .gallery, .host, .sec, .outs]
  | .obstacleCommission _ _ _ => some writeParts
  | .commissionAbort _ _ _ => some writeParts
  | .mapRestore _ _ _ => some writeParts
  | .tempInWrite _ _ _ => some writeParts
  | .safetyResetReq _ _ => some writeParts
  | .alcoveClear _ _ => some writeParts
  | .optimeRead _ => some [.ports, .axes, .doors, .gallery, .host, .sec, .outs]
  | .floodModeWrite _ _ => some writeParts
  | .hello _ => some [.axes, .doors, .gallery, .host, .sec, .outs, .draws]
  | .auth _ => some sessionParts
  | .lockoutEnd _ => some [.host]
  | .authTimeout _ => some [.host]
  | .close _ => some sessionParts
  | .sessionTimeout _ => some sessionParts
  | .usbDetach => some sessionParts
  | .fragmentTimeout _ _ => some [.host]
  | .keepalive _ => some [.axes, .doors, .gallery, .host, .sec, .outs]
  | .identify _ => some sessionParts
  | .parRead _ => some [.ports, .axes, .doors, .gallery, .host, .sec, .outs]
  | .parWrite _ => some writeParts
  | .parReadArray _ => some [.ports, .axes, .doors, .gallery, .host, .sec, .outs]
  | .parInfo _ => some sessionParts
  | .galRead _ => some sessionParts
  | .galTraceRead _ => some sessionParts
  | .stageBegin _ => some sessionParts
  | .stageData _ => some sessionParts
  | .stageEnd _ => some sessionParts
  | .transferAbandon _ => some [.host]
  | .activate _ => some sessionParts
  | .rollback _ => some sessionParts
  | .activationTick => some (Part.allBut [.pending, .clock, .supply, .flightBudgets, .storeyBudgets, .dieBudgets, .currentBudget,
      .thermalBudget, .storeys, .dies, .baseplate, .dissip, .cleaners, .doors, .hallA, .hallB, .firstStandby, .draws])
  | .slotInfo _ => some sessionParts
  | .attestChallenge _ => some sessionParts
  | .attestSigned => some [.host, .sec, .outs]
  | .attestContinuation _ => some sessionParts
  | .certRead _ => some sessionParts
  | .hostKeySet _ => some sessionParts
  | .hostKeyRevoke _ => some sessionParts
  | .modeRequestStandby _ => some [.axes, .doors, .hallA, .hallB, .gallery, .host, .sec, .outs]
  | .modeRequestRun _ => some [.axes, .doors, .hallA, .hallB, .gallery, .host, .sec, .outs]
  | .modeRequestMaintenance _ => some [.axes, .doors, .hallA, .hallB, .gallery, .host, .sec, .outs]
  | .modeRequestUpdate _ => some [.axes, .doors, .hallA, .hallB, .gallery, .host, .sec, .outs]
  | .restartHallA _ => some sessionParts
  | .restartModule _ => some sessionParts
  | .calCheck _ => some sessionParts
  | .calTrimWrite _ _ _ => some writeParts
  | .calClearAll _ _ => some writeParts
  | .ringReform _ _ => some writeParts
  | .doorCmd _ => some [.axes, .doors, .gallery, .host, .sec, .outs]
  | .hostPacketRejected _ _ _ => some sessionParts
  | _ => none

/-- The unit that a command concerns is one of the module's: a unit row of a size that the variant does not have names an absent one
(00 R1, R8). Host commands name their units in their packets and are answered (00 R6); they concern none. -/
def Instr.unitPresent (s : State) : Instr → Bool
  | .budgetStop lv => s.hasLevel lv
  | .heartbeatLoss d _ => decide (d < s.nDies)
  | .flightEnableLow f _ => decide (f < s.nFlights)
  | .limpHomeTakeover d => decide (d < s.nDies)
  | .storeyBreaker u => decide (u < s.nStoreys)
  | .flightPresenceOpen f => decide (f < s.nFlights)
  | .flightPresenceClosed f => decide (f < s.nFlights)
  | .lhPinChange p => decide (p < 8)
  | .treadIlim t => decide (t < s.nTreads)
  | .treadPeakClamp t => decide (t < s.nTreads)
  | .treadThermal m => decide (m.tread < s.nTreads)
  | .treadWireTrip t => decide (t < s.nTreads)
  | .treadRearm t => decide (t < s.nTreads)
  | .treadRetry t => decide (t < s.nTreads)
  | .retryCountReset t => decide (t < s.nTreads)
  | .treadOpenLoad t => decide (t < s.nTreads)
  | .debouncedChange l _ => s.hasLine l
  | .cleaningPulse l => s.hasLine l
  | .cleaningPulseEnd l => s.hasLine l
  | .senseTrackFence l => s.hasLine l
  | .senseRxMismatch l => s.hasLine l
  | .senseRxMismatchClear l => s.hasLine l
  | .senseLoopFault l => s.hasLine l
  | .senseOverRange l => s.hasLine l
  | .burdenReconnect l => s.hasLine l
  | .reedInputChange p _ => decide (p < s.nPorts)
  | .portEdge p _ => decide (p < s.nPorts)
  | .auxPulseEnd p => decide (p < s.nPorts)
  | .echoEdgeOut f _ => decide (f < s.nFlights)
  | .portStandstill p => decide (p < s.nPorts)
  | .portLineFault p => decide (p < s.nPorts)
  | .portHallInvalid p => decide (p < s.nPorts)
  | .ssiFrame p _ => decide (p < s.nPorts)
  | .indexEvent p => decide (p < s.nPorts)
  | .portRxMismatch p => decide (p < s.nPorts)
  | .portSupplyFault p => decide (p < s.nPorts)
  | .axisDeviation a => decide (a < s.nAxes)
  | .axisOverspeed a => decide (a < s.nAxes)
  | .axisHoldTimeout a => decide (a < s.nAxes)
  | .alignComplete a _ => decide (a < s.nAxes)
  | .externalStep a _ => decide (a < s.nAxes)
  | .stepperHoldCurrent a => decide (a < s.nAxes)
  | .solenoidPullEnd a => decide (a < s.nAxes)
  | .gearMasterLost a => decide (a < s.nAxes)
  | .rpdoReceive p _ _ => decide (p < 2)
  | .canHeartbeat p _ _ => decide (p < 2)
  | .canNodeLost n => decide (n < 32)
  | .canEmcy p _ _ => decide (p < 2)
  | .canErrorPassive p _ _ => decide (p < 2)
  | .canBusOff p => decide (p < 2)
  | .canBusRecovered p => decide (p < 2)
  | .doorOpen f => decide (f < s.nFlights)
  | .doorClose f => decide (f < s.nFlights)
  | .doorStop f => decide (f < s.nFlights)
  | .isolate f => decide (f < s.nFlights)
  | .deisolate f => decide (f < s.nFlights)
  | .doorReference f => decide (f < s.nFlights)
  | .resetFault f => decide (f < s.nFlights)
  | .egress f => decide (f < s.nFlights)
  | .warnTimeout f => decide (f < s.nFlights)
  | .lockNoRelease f => decide (f < s.nFlights)
  | .lockNotEngaged f => decide (f < s.nFlights)
  | .closedNotConfirmed f => decide (f < s.nFlights)
  | .stepConfirmTimeout f => decide (f < s.nFlights)
  | .extend f => decide (f < s.nFlights)
  | .retract f => decide (f < s.nFlights)
  | .stepStop f => decide (f < s.nFlights)
  | .stepReference f => decide (f < s.nFlights)
  | .stepReset f => decide (f < s.nFlights)
  | .lockRelease f => decide (f < s.nFlights)
  | .engage f => decide (f < s.nFlights)
  | .lockReset f => decide (f < s.nFlights)
  | .referenceStart f => decide (f < s.nFlights)
  | .hardstopFound f => decide (f < s.nFlights)
  | .hardstopReleaseEnd f => decide (f < s.nFlights)
  | .obstacleDetected f => decide (f < s.nFlights)
  | .reversalStart f => decide (f < s.nFlights)
  | .recloseAttempt f => decide (f < s.nFlights)
  | .startMarginEnd f => decide (f < s.nFlights)
  | .learnUpdate f => decide (f < s.nFlights)
  | .learnConfirmTimeout f => decide (f < s.nFlights)
  | .tempInTimeout f => decide (f < s.nFlights)
  | .discrepancy n => s.hasPair n
  | .discrepancyCleared n => s.hasPair n
  | .dclConduct o => decide (o < 2)
  | .dclOfflineTest o _ _ => decide (o < 2)
  | .dclTestPulse o sw _ => decide (o < 2) && decide (sw < 2)
  | .permissionGrant f => decide (f < s.nFlights)
  | .vsfSend c => decide (c < 8)
  | .vsfFrameReceive r => decide (r.conn < 8)
  | .safelinkSilenceTimeout c => decide (c < 8)
  | .safelinkExpired c => decide (c < 8)
  | .trdpSubTimeout n => decide (n < 32)
  | .traceWrite f => decide (f < s.nFlights)
  | .ringLinkUp p _ _ => s.hasRing && decide (p < 2)
  | .ringTrainingRetry p => s.hasRing && decide (p < 2)
  | .ringPortDown p _ => s.hasRing && decide (p < 2)
  | .ringFormTrigger => s.hasRing
  | .formWaitEnd _ => s.hasRing
  | .ringFrame r => s.hasRing && decide (r.port < 2)
  | .ringLost _ => s.hasRing
  | .ringSignalDetect p => s.hasRing && decide (p < 2)
  | .switchFrameForward p _ => decide (p < 2)
  | .lPdLoss d => decide (d < s.nDies)
  | .lPdRestored d => decide (d < s.nDies)
  | _ => true

/-! ### Commands that change one unit of their kind (03 R93 to R104, 04 R118 to R140, 05 R180 to R183, 07 R228 to R238, 09 R309) -/

/-- The tread that is the only one a command may change. -/
def Instr.oneTread : Instr → Option Nat
  | .treadIlim t | .treadPeakClamp t | .treadRearm t | .treadRetry t | .retryCountReset t | .treadOpenLoad t => some t
  | _ => none

/-- The sense line that is the only one a command may change. -/
def Instr.oneLine : Instr → Option Nat
  | .senseTrackFence l | .senseRxMismatch l | .senseRxMismatchClear l | .senseLoopFault l | .senseOverRange l | .burdenReconnect l =>
    some l
  | .debouncedChange l _ => some l
  | _ => none

/-- The position port that is the only one a command may change. -/
def Instr.onePort : Instr → Option Nat
  | .auxPulseEnd p | .portStandstill p | .portRxMismatch p => some p
  | .reedInputChange p _ => some p
  | _ => none

/-- The axis that is the only one a command may change. -/
def Instr.oneAxis : Instr → Option Nat
  | .axisHoldTimeout a | .stepperHoldCurrent a | .solenoidPullEnd a => some a
  | _ => none

/-- The flight whose obstacle model is the only one a command may change. -/
def Instr.oneModel : Instr → Option Nat
  | .startMarginEnd f | .learnUpdate f | .learnConfirmTimeout f | .tempInTimeout f => some f
  | _ => none

/-- The safe connection that is the only one a command may change. -/
def Instr.oneConn : Instr → Option Nat
  | .safelinkExpired c | .safelinkSilenceTimeout c => some c
  | _ => none

end Sys2Proof.Machine
end

