-- ==== Sys2Proof/Safety.lean ====
section
/-! DEFINITION. What counts as a safe run: a step that goes on; and what counts as a sound state: one that keeps the counts of
the units, the canonical stores and the bounds that the spec gives, which every step keeps. -/

namespace Sys2Proof.Machine

/-- A step from this state neither stops with a fault nor refuses. -/
def State.goesOn (s : State) : Prop := ∃ t, step s = .next t

/-- A budget level's scale is one of the sixteenths 4 to 16 (01 R21). -/
def Budget.Legal (b : Budget) : Prop := 4 ≤ b.scale ∧ b.scale ≤ 16

/-- The program's memories are in canonical form. -/
structure Prog.Canonical (p : Prog) : Prop where
  mem : Memory.wf p.mem = true
  inp : Memory.wf p.inp = true
  out : Memory.wf p.out = true

/-- The open record table holds at most 64 records (11 R392) and Hall A's buffer at most 64 events (01 R26); one staging buffer and one
lifetime count for each flight. -/
structure Gallery.Bounded (g : Gallery) : Prop where
  openTab : g.openTab.length ≤ 64
  hallA : g.hallA.length ≤ 64
  staging : g.staging.length = 12
  flightCycles : g.flightCycles.length = 12

/-- A state that keeps what the spec says of every state: the parameter store and the program's memories in canonical form, one record
for each unit the module has (00 R1, 04 R115, 05 R156, 09 R299), every budget scale in 4/16 to 16/16 (01 R21), the gallery's bounds. -/
structure State.Sound (s : State) : Prop where
  params : Params.wf s.params = true
  prog : s.prog.Canonical
  gallery : s.gallery.Bounded
  flightBudgets : s.flightBudgets.length = 12 ∧ ∀ b ∈ s.flightBudgets, b.Legal
  storeyBudgets : s.storeyBudgets.length = 4 ∧ ∀ b ∈ s.storeyBudgets, b.Legal
  dieBudgets : s.dieBudgets.length = 2 ∧ ∀ b ∈ s.dieBudgets, b.Legal
  currentBudget : s.currentBudget.Legal
  thermalBudget : s.thermalBudget.Legal
  limp : s.limp.length = 2
  storeys : s.storeys.length = 4
  dies : s.dies.length = 2
  flightPower : s.flightPower.length = 12
  treads : s.treads.length = 96
  senses : s.senses.length = 160
  cleaners : s.cleaners.length = 28
  ports : s.ports.length = 24
  echos : s.echos.length = 12
  axes : s.axes.length = 36
  doors : s.doors.length = 12
  obst : s.obst.length = 12
  conns : s.conns.length = 8
  safety : s.safety.flights.length = 12

/-- What never loosens (14 R482 to R484): the security version counters never fall; an integrator key slot moves only from empty to enrolled
to revoked; a vendor slot that is revoked stays so. -/
structure Security.Ratchet (a b : Security) : Prop where
  arHa : a.arHa ≤ b.arHa
  arHb : a.arHb ≤ b.arHb
  keys : ∀ n, (a.keys.getD n ⟨0, []⟩).st ≤ (b.keys.getD n ⟨0, []⟩).st
  vendors : ∀ n, a.vendorRevoked.getD n true = true → b.vendorRevoked.getD n true = true

/-! ### Events -/

/-- While Hall A runs, an event goes over every host link: in `t` it is the first thing sent after what `s` had sent (01 R26, 11 R389). -/
def State.Announces (s : State) (e : EvCode) (source : Nat) (args : List (BitVec 32)) (t : State) : Prop :=
  s.hallAUp = true → (OutMsg.event e.code source args :: s.outs) <:+ t.outs

/-- While Hall A runs, events of one source go over every host link, in this order: in `t` they are the first things sent after what `s` had
sent. -/
def State.AnnouncesEach (s : State) (source : Nat) (es : List (EvCode × List (BitVec 32))) (t : State) : Prop :=
  s.hallAUp = true → ((es.map (fun e => OutMsg.event e.1.code source e.2)).reverse ++ s.outs) <:+ t.outs

/-- The causes that the checks of a sample find in an axis, in the order of their codes, each with its event (05 R174, R178, R179, R188). -/
def State.lateCauses (s : State) (a : Nat) : List (Nat × EvCode × List (BitVec 32)) :=
  (if s.devDue a then [(9, Evt.axisDeviation, [wordZ ((s.axis a).posCmd.floor - (s.axis a).pos)])] else []) ++
    (if s.fastDue a then [(10, Evt.axisOverspeed, [toReal32 (absR (s.axisSpeed a))])] else []) ++
    (if s.pastLimit a (s.axis a) then [(11, Evt.axisSoftLimit, [])] else []) ++
    (if s.masterLost a then [(12, Evt.gearMasterLost, [])] else [])

/-! ### Ports and halls -/

/-- A position port receives: its flight's presence loop is closed and its die has L_PD (02 R69, R75). -/
def State.portPowered (s : State) (p : Nat) : Bool :=
  (s.fpower (flightOfPort p)).presence && (s.die (dieOfFlight (flightOfPort p))).railUp

/-- What lets a hall leave reset (01 R25, R30; which tick and sample each clause counts from is the model's choice, log 20). -/
structure State.MayLeaveReset (s : State) (x : Hall) : Prop where
  held : x.inReset = true
  booted : s.sec.booted = true
  spaced : x.resetTick + 3 ≤ s.tick
  locked : x.pllLocked = true
  clocked : x.clockOk = true
  railed : 80 ≤ x.railRun

/-! ### Axes and doorways -/

/-- An axis has taken its fault stop for a cause: its queue is empty, gearing is disengaged, and it does not move (05 R173 to R175). -/
structure Axis.FaultStopped (x : Axis) (cause : Nat) : Prop where
  st : x.st = .faultStop
  cause : x.faultCause = cause
  queue : x.queue = []
  gear : x.gear = Gear.reset
  rest : x.vel = 0

/-- The sequencers of a flight run (06 R194). -/
structure State.Sequenced (s : State) (f : Nat) : Prop where
  fitted : f < s.nFlights
  run : s.mode = .run
  up : s.hallAUp = true

/-- A command has been taken for a door, which nothing isolates, no new fault stops and no detection turns round, and whose table has given
no other row on this sample (06 R199, R201; what counts as one sample is log 97). -/
structure State.Takes (s : State) (f : Nat) (k : DoorCmd) : Prop where
  sequenced : s.Sequenced f
  taken : ∃ e, (s.door f).taken = some e ∧ e.cmd = k
  free : s.isoBits f = 0
  sound : s.faultEdge f = none
  clear : s.detecting f = false
  turn : s.rowTaken f = false

/-- A door that is in service and waits for a timeout, which nothing isolates, no new fault stops and no detection turns round, and whose
table has given no other row on this sample. -/
structure State.Waits (s : State) (f : Nat) : Prop where
  sequenced : s.Sequenced f
  door : s.hasDoor f = true
  free : s.isoBits f = 0
  sound : s.faultEdge f = none
  clear : s.detecting f = false
  turn : s.rowTaken f = false

/-- A flight whose block stands alone, without a DOOR (06 R212, R213, R223). -/
structure State.Alone (s : State) (f ty : Nat) : Prop where
  sequenced : s.Sequenced f
  noDoor : s.hasDoor f = false
  block : s.hasComposite ty f = true

/-! ### Host packets that pass the checks of 12 R414 -/

/-- The MAC of a request is the one its session asks for: none in a session without a key, else that of the session key (12 R411, R414). -/
def Session.macRight (x : Session) (o : OpSpec) (k : Pkt) : Prop :=
  match x.key with
  | none => k.hdr.mac = none
  | some key => k.hdr.mac = some (mac16 key (requestBytes o.code k))

/-- A packet passes the checks of 12 R414 steps 2 and 7 to 12 in its open session: it is for this module, of the session's transport and
source, with the right MAC, of a fresh sequence number, of a permitted opcode, length, HALL and module state; and where its reply is
deferred, fewer than four of its session wait (12 R423). -/
structure State.Passes (s : State) (o : OpSpec) (k : Pkt) (x : Session) : Prop where
  link : s.linkUp k.hdr.sv = true
  addr : k.hdr.addr = 0xFF ∨ (s.safety.sealRd.value.isSome = true ∧ k.hdr.addr.toNat = s.sealAddr)
  numbered : k.hdr.session ≠ 0
  session : s.session? k.hdr.session = some x
  transport : x.sv = k.hdr.sv
  source : x.src = k.hdr.src
  ready : x.pending = true → o.pendingOk = true
  mac : x.macRight o k
  fresh : x.cache.find? (fun c => c.seq = k.hdr.seq) = none
  ahead : 1 ≤ (k.hdr.seq - x.high).toNat
  window : (k.hdr.seq - x.high).toNat ≤ 1024
  role : roleHas x.role o.perm = true
  allowed : o.permOk = true
  length : o.lenOk = true
  hall : k.hdr.hall = 0 ∨ (o.hallOk = true ∧ k.hdr.hall.toNat ≤ 2)
  state : o.stateOk = true
  room : o.deferred = true → (s.host.pends.filter (fun q => q.session = k.hdr.session)).length < 4

/-- The session after an accepted request: its sequence number and cache, its last tick, and no failed MAC in a row (12 R418 to R420). -/
def Session.accept (x : Session) (tick : Nat) (seq : BitVec 16) (crc : BitVec 32) (checked : Bool) : Session :=
  { x with
      high := seq, lastTick := tick, cache := (⟨seq, crc, none⟩ :: x.cache).take 8, fails := if checked then 0 else x.fails }

/-- The state after the checks of a packet that passes them: its session has accepted it, and a request whose reply is deferred waits. -/
def State.afterChecks (s : State) (o : OpSpec) (k : Pkt) : State :=
  let s := s.modSession k.hdr.session (fun x => x.accept s.stamp k.hdr.seq (requestCrc o.code k) k.hdr.mac.isSome)
  if o.deferred then { s with host := { s.host with pends := s.host.pends ++ [pendOf o.code k.hdr] } } else s

/-- The last thing sent is the reply to a request, with this status, ITEM and payload (12 R412). -/
def State.Replied (t : State) (p : Pend) (status item : Nat) (payload : Bytes) : Prop :=
  ∃ r, t.outs.head? = some (.reply r) ∧ r.sv = p.sv ∧ r.src = p.src ∧ r.seq = p.seq ∧ r.session = p.session ∧ r.opcode = p.opcode ∧
    r.status = BitVec.ofNat 8 status ∧ r.item = word32 item ∧ r.payload = payload

/-- What PAR_WRITE asks of a packet with one entry (12 R422). -/
def writeSpec : OpSpec := { code := 0x0011, perm := .read, lenOk := true, deferred := true }

/-- A write of one parameter passes all but that parameter's own condition: the packet the checks of 12 R414, its entry steps 1 to 7 and 9 of
12 R426, and no activation runs (12 R427). -/
structure State.Writes (s : State) (q : Hdr) (r : ParRow) (i j : Nat) (v : Word) (x : Session) : Prop where
  passes : s.Passes writeSpec (oneEntry q (r.pid i j) v) x
  idle : s.sec.activating = none
  unit : i < 256
  element : j < r.len
  word : r.pid i j < 4294967296
  row : s.resolvePid (r.pid i j) = .inr (r, i, j)
  may : roleMayWrite x.role r = true
  writable : r.acc = .rw ∨ r.acc = .wo
  live : r.image = false
  free : s.progOwns (r.pid i j) = false
  value : r.admits v = true
  relation : (s.setPar (r.pid i j) v).breaksRelation (r.pid i j) = false
  held : (r.ofHallB && s.hallB.inReset) = false

/-- The write of a packet with one entry is answered OK (12 R422, R427). -/
def State.Written (t : State) (q : Hdr) : Prop := t.Replied (pendOf 0x0011 q) 0 0 (writeReply 0xFFFF)

/-- What PAR_READ asks of a packet with one entry (12 R422). -/
def readSpec : OpSpec := { code := 0x0010, perm := .read, lenOk := true, hallOk := true, deferred := true }

/-- The PAR_READ packet with one entry. -/
def oneRead (q : Hdr) (pid : Nat) : Pkt := ⟨q, leBytes 2 1 ++ [0, 0] ++ leBytes 4 pid⟩
/-- What AXIS_CMD asks of a packet of 12 bytes in RUN or MAINTENANCE (12 R422). -/
def axisSpec : OpSpec := { code := 0x0021, perm := .service, lenOk := true, deferred := true }

/-- The velocity of an AXIS_CMD packet, and whether it appends. -/
def axisVel (k : Pkt) : Rat := real32 (word32 (fieldAt k.payload 8 4))
def axisAppends (k : Pkt) : Bool := fieldAt k.payload 2 1 = 0
def axisTarget (k : Pkt) : Int := (word32 (fieldAt k.payload 4 4)).toInt

/-- The commands of AXIS_CMD with what the engine gets of each (12 R422). -/
def axisCommands (k : Pkt) : List (Instr × AxCmd) :=
  [(.moveAbs k, .moveAbs (axisTarget k) (axisVel k) (axisAppends k)), (.moveRel k, .moveRel (axisTarget k) (axisVel k) (axisAppends k)),
   (.moveVel k, .moveVel (axisVel k) (axisAppends k)), (.stop k, .stop), (.quickStop k, .quickStop), (.release k, .release),
   (.gearEngage k, .gearEngage), (.gearDisengage k, .gearDisengage), (.energize k, .energize), (.deenergize k, .deenergize),
   (.commLearn k, .commLearn)]

/-- An AXIS_CMD packet reaches the engine of an axis: it passes the checks of 12 R414 and has its length, its fields are in range, and no
activation runs (12 R422, R427). -/
structure State.Reaches (s : State) (k : Pkt) (x : Session) (a : Nat) : Prop where
  passes : s.Passes axisSpec k x
  length : k.payload.length = 12
  unit : fieldAt k.payload 0 1 = a
  buffered : fieldAt k.payload 2 1 ≤ 1
  finite : isFinite32 (word32 (fieldAt k.payload 8 4)) = true
  mode : s.mode = .run ∨ s.mode = .maintenance
  idle : s.sec.activating = none
  fitted : a < s.nAxes

/-- The engine of an axis judges a host's command at step 1 of a sample: it is the one that has arrived, its session waits for the reply, no
other session, program or host port has the axis (05 R167, 12 R431, R432), and the axis state permits it (05 R166). -/
structure State.Judges (s : State) (p : Pend) (a : Nat) (c : AxCmd) : Prop where
  arrived : (s.axis a).inbox = [⟨c, .host p⟩]
  live : p.ended = false
  numbered : p.session ≠ 0
  session : ∃ x, s.session? p.session = some x ∧ x.src = p.src ∧ x.sv = p.sv
  fitted : a < s.nAxes
  held : ∀ h ∈ s.host.holders, h.axis = a → h.session = p.session
  program : s.progOwnsAxis a = false
  port : s.mode = .maintenance → p.sv = true
  free : s.refusesState a p.sv c = false

/-- An accepted motion command: answered OK, its session has the axis, and nothing more waits for the engine (12 R422, R432). -/
structure State.Commanded (t : State) (p : Pend) (a : Nat) : Prop where
  replied : t.Replied p 0 0 [BitVec.ofNat 8 (t.axis a).st.code, 0, BitVec.ofNat 8 (t.axis a).queue.length, 0]
  held : t.holderOf a = some p.session
  taken : (t.axis a).inbox = []

end Sys2Proof.Machine
end

