-- ==== Sys2Proof/Certificates/Slice0/Obligations.lean ====
section
/-! DEFINITION. The statements for the provers: reset and the invariants, the frames, and for every family of commands what a command does
where the rules of spec/ have it act. -/

open Sys2Proof Sys2Proof.Machine

/-- A step takes the command at the front of the queue and runs it with the rest; with nothing waiting the block idles (the idling is
the model's choice, log 1). -/
def Obligations.StepRunsTheFrontCommand : Prop :=
  (∀ (c : Instr) (rest : List Instr) (s : State), s.pending = c :: rest → step s = exec c { s with pending := rest }) ∧
  (∀ s : State, s.pending = [] → step s = .next s)

/-- The state after reset is sound: one record for each unit, canonical stores, every budget scale at 16/16. The counts of the units
are the spec's; the values that the spec does not give are the model's (log 3). -/
def Obligations.ResetIsSound : Prop := State.reset.Sound ∧ State.reset.pending = []

/-- Every step keeps a sound state sound (00 R1, 01 R21, R26, 11 R392; the canonical form of the stores is the model's). -/
def Obligations.StepKeepsSound : Prop := ∀ s t : State, s.Sound → step s = .next t → t.Sound

/-- No step makes a security counter fall, empties or re-enrols a key slot, or takes a vendor slot's revocation back (14 R482 to
R484). -/
def Obligations.SecurityNeverLoosens : Prop := ∀ s t : State, step s = .next t → s.sec.Ratchet t.sec

/-- What the module has sent stays sent, whatever the command. -/
def Obligations.NothingSentIsWithdrawn : Prop := ∀ (c : Instr) (s t : State), exec c s = .next t → s.outs <:+ t.outs

/-- A command answers a next state exactly where the unit it names is one of the variant's; else it stops as naming an absent unit (00
R1, R8; the stop is the model's, log 5). None is refused. -/
def Obligations.CommandsAnswer : Prop :=
  ∀ (c : Instr) (s : State),
    (Instr.unitPresent s c = true → ∃ t, exec c s = .next t) ∧ (Instr.unitPresent s c = false → exec c s = .fault .noSuchUnit)

/-- The frames of the commands of the supply, the presence loops, the treads, the rails, the sense lines and the position ports: every
part of the state outside the command's list is unchanged. -/
def Obligations.SupplyTreadAndInputFrames : Prop :=
  ∀ (c : Instr) (ps : List Part), supplyParts c = some ps ∨ inputParts c = some ps → ∀ s t, exec c s = .next t → s.OnlyChanges ps t

/-- The frames of the commands of the axes, the doorways, the obstacle models, the safety functions, the halls and start-up. -/
def Obligations.MotionDoorwayAndHallFrames : Prop :=
  ∀ (c : Instr) (ps : List Part), motionParts c = some ps ∨ hallParts c = some ps → ∀ s t, exec c s = .next t → s.OnlyChanges ps t

/-- The frames of the commands of the remote I/O, the train network, the program cycle, the gallery, the ring and the host link. -/
def Obligations.NetworkProgramGalleryAndHostFrames : Prop :=
  ∀ (c : Instr) (ps : List Part), networkParts c = some ps ∨ hostParts c = some ps → ∀ s t, exec c s = .next t → s.OnlyChanges ps t

/-- Every command has a frame, and no frame lets a command touch the queue. Of the units of its kind, a command that concerns one
tread, sense line, position port, axis, obstacle model or safe connection leaves every other one as it is. -/
def Obligations.FramesCoverEveryCommandAndUnit : Prop :=
  (∀ c : Instr, ∃ ps, (supplyParts c = some ps ∨ inputParts c = some ps ∨ motionParts c = some ps ∨ hallParts c = some ps ∨
    networkParts c = some ps ∨ hostParts c = some ps) ∧ Part.pending ∉ ps) ∧
  (∀ (c : Instr) (s t : State), exec c s = .next t →
    (∀ n m, Instr.oneTread c = some n → m ≠ n → t.tread m = s.tread m) ∧ (∀ n m, Instr.oneLine c = some n → m ≠ n → t.sense m = s.sense m) ∧
    (∀ n m, Instr.onePort c = some n → m ≠ n → t.port m = s.port m) ∧ (∀ n m, Instr.oneAxis c = some n → m ≠ n → t.axis m = s.axis m) ∧
    (∀ n m, Instr.oneModel c = some n → m ≠ n → t.obs m = s.obs m) ∧ (∀ n m, Instr.oneConn c = some n → m ≠ n → t.conn m = s.conn m))

/-- A parameter of an absent instance or class answers NOT_PRESENT (0x16) to a read and to a write, of the host and of the program,
and neither has an effect; on a DS-4800 these are the instances that the rule lists, and SENSE 144 to 159 stay present (00 R6). -/
def Obligations.AbsentInstancesAnswerNotPresent : Prop :=
  (∀ (s : State) (pid : Nat), s.resolvePid pid = .inl 0x16 →
    (∀ hall, s.readEntry hall pid = ((0x16, 0, 0), s)) ∧ (∀ after role v, s.judgeEntry after role (pid, v) = 0x16) ∧
    (∀ v, s.progParWrite pid v = (0x16, s))) ∧
  (∀ (s : State) (pid : Nat) (r : ParRow), s.ds9600 = false → s.hasRing = false → rowOfPid pid = some r →
    (r.cls = 0x10 ∧ 48 ≤ pidInst pid ∧ pidInst pid ≤ 95 ∨ r.cls = 0x11 ∧ 6 ≤ pidInst pid ∧ pidInst pid ≤ 11 ∨
      r.cls = 0x12 ∧ 2 ≤ pidInst pid ∧ pidInst pid ≤ 3 ∨ r.cls = 0x18 ∧ 72 ≤ pidInst pid ∧ pidInst pid ≤ 143 ∨
      r.cls = 0x20 ∧ 12 ≤ pidInst pid ∧ pidInst pid ≤ 23 ∨ r.cls = 0x21 ∧ 18 ≤ pidInst pid ∧ pidInst pid ≤ 35 ∨
      r.cls = 0x28 ∧ 6 ≤ pidInst pid ∧ pidInst pid ≤ 11 ∨ r.cls = 0x50 ∧ pidInst pid = 0) →
    s.resolvePid pid = .inl 0x16) ∧
  (∀ (s : State) (pid : Nat) (r : ParRow), rowOfPid pid = some r → r.cls = 0x18 → 144 ≤ pidInst pid → pidInst pid ≤ 159 →
    s.resolvePid pid = .inr (r, pidInst pid, pidIdx pid - r.idx))

/-- A configuration image that STAGE_END refuses leaves the STAGED slot empty, and ACTIVE and PREVIOUS as they were (00 R10). -/
def Obligations.RefusedImagesLeaveStagedEmpty : Prop :=
  ∀ (s : State) (k : Pkt) (x : Session) (y : Xfer) (step status item : Nat),
    s.Passes { code := 0x0052, perm := .config, lenOk := true, deferred := true } k x → k.payload.length = 4 →
    s.hallB.inReset = false → s.xferOf true (fieldAt k.payload 0 2) k.hdr.session = some y → y.kind = .config →
    s.stageOpen .config = true → y.whole = true →
    ((s.afterChecks { code := 0x0052, perm := .config, lenOk := true, deferred := true } k).endXfer .config).judgeImage y.data =
      .inr (step, status, item) →
    ∃ t, exec (.stageEnd k) s = .next t ∧ t.sec.staged = none ∧ t.sec.active = s.sec.active ∧ t.sec.previous = s.sec.previous ∧
      s.Announces Evt.configStageRefused noSource [word32 status, word32 item] t

/-- A PAR_WRITE is all or nothing: where an entry fails, nothing is written, and the reply names the first that fails with its status
and its place; where all pass, they are applied in order and the reply follows (12 R427). -/
def Obligations.ParameterWritesAreAllOrNothing : Prop :=
  ∀ (s u : State) (k : Pkt) (x : Session) (es : List (Nat × Word)), s.Passes writeSpec k x →
    k.payload.length = 4 + 8 * fieldAt k.payload 0 2 → 1 ≤ fieldAt k.payload 0 2 → fieldAt k.payload 0 2 ≤ 64 →
    s.sec.activating = none → u = s.afterChecks writeSpec k → es = writeEntries k.payload →
    (∀ (n : Nat) (e : Nat × Word), es[n]? = some e → u.judgeEntry (u.withValues es) x.role e ≠ 0 →
      (∀ m f, m < n → es[m]? = some f → u.judgeEntry (u.withValues es) x.role f = 0) →
      ∃ t, exec (.parWrite k) s = .next t ∧
        t.Replied (pendOf 0x0011 k.hdr) (u.judgeEntry (u.withValues es) x.role e) e.1 (writeReply n) ∧
        s.OnlyChanges [.host, .outs] t) ∧
    ((∀ e ∈ es, u.judgeEntry (u.withValues es) x.role e = 0) →
      exec (.parWrite k) s = .next ((u.applyEntries es).answer (pendOf 0x0011 k.hdr) 0 0 (writeReply 0xFFFF)))

/-- SUPPLY_UV, SUPPLY_UV_RESTART, SUPPLY_OV and SUPPLY_OV_RELEASE (02 R62 to R65). -/
def Obligations.SupplyTripsTurnEveryTreadOff : Prop :=
  (∀ s : State, s.Sound → s.supply.uv = false → s.supply.vin8 ≠ [] → s.vin < s.parR Par.supplyUvLevel 0 0 →
    ∃ t, exec .supplyUv s = .next t ∧ t.supply.uv = true ∧ t.supply.uvCount = s.supply.uvCount + 1 ∧
      t.supply.uvLatched = (decide (s.parN Par.supplyUvMode 0 0 = 0) && !s.limpInCharge) ∧
      (∀ n, n < 96 → (t.tread n).mode = .off) ∧ s.Announces Evt.supplyUv noSource [] t) ∧
  (∀ s : State, s.supply.uv = true → s.supply.uvLatched = false → 800 ≤ s.supply.uvRun →
    ∃ t, exec .supplyUvRestart s = .next t ∧ t.supply.uv = false ∧ t.supply.uvRun = 0 ∧
      s.Announces Evt.supplyUvRestart noSource [] t) ∧
  (∀ s : State, s.Sound → s.supply.ov = false →
    ∃ t, exec .supplyOv s = .next t ∧ t.supply.ov = true ∧ t.supply.ovCount = s.supply.ovCount + 1 ∧
      (∀ n, n < 96 → (t.tread n).mode = .off) ∧ s.Announces Evt.supplyOv noSource [] t) ∧
  (∀ s : State, s.supply.ov = true → 800 ≤ s.supply.ovRun →
    ∃ t, exec .supplyOvRelease s = .next t ∧ t.supply.ov = false ∧ t.supply.ovRun = 0)

/-- PRECHARGE, PRECHARGE_TIMEOUT, SUPPLY_INTERRUPT, GROUND_LOSS and GROUND_RETURN (02 R58, R59, R66). -/
def Obligations.PrechargeInterruptionsAndGround : Prop :=
  (∀ (s : State) (front bank : Rat), s.supply.prechargeFailed = false → s.supply.prechargeAt = none → absR (bank - front) ≤ 5 →
    ∃ t, exec (.precharge front bank) s = .next t ∧ t.supply.switchClosed = true ∧ t.supply.prechargeAt = some s.sample) ∧
  (∀ (s : State) (at' : Nat), s.supply.prechargeAt = some at' → s.supply.switchClosed = false → at' + 400 ≤ s.sample →
    ∃ t, exec .prechargeTimeout s = .next t ∧ t.supply.prechargeFailed = true ∧ t.supply.switchClosed = false) ∧
  (∀ (s : State) (at' : Nat), s.supply.invalidSince = some at' → s.onHoldup = false →
    ∃ t, exec .supplyInterrupt s = .next t ∧ t.supply.invalidSince = none ∧
      t.supply.interruptCount = s.supply.interruptCount + 1 ∧
      s.Announces Evt.supplyInterrupt noSource [toReal32 (((s.supply.validAt - at' : Nat) : Rat) / 8)] t) ∧
  (∀ s : State, s.Sound →
    ∃ t, exec .groundLoss s = .next t ∧ t.supply.groundLost = true ∧ ∀ n, n < 96 → (t.tread n).mode = .off) ∧
  (∀ s : State, s.supply.groundLost = true →
    ∃ t, exec .groundReturn s = .next t ∧ t.supply.groundLost = false ∧ s.Announces Evt.groundLoss noSource [] t)

/-- MODULE_PRESENCE_OPEN, MODULE_PRESENCE_CLOSED, FLIGHT_PRESENCE_OPEN and FLIGHT_PRESENCE_CLOSED (02 R67 to R69). -/
def Obligations.PresenceLoopsGateTheTreads : Prop :=
  (∀ s : State, s.Sound → s.supply.mpres = true →
    ∃ t, exec .modulePresenceOpen s = .next t ∧ t.supply.mpres = false ∧ t.supply.mpresRun = 0 ∧
      (∀ n, n < 96 → (t.tread n).mode = .off) ∧ s.Announces Evt.modulePresenceOpen noSource [] t) ∧
  (∀ s : State, s.supply.mpres = false → 4000 ≤ s.supply.mpresRun →
    ∃ t, exec .modulePresenceClosed s = .next t ∧ t.supply.mpres = true ∧ t.supply.treadsFromTick = s.tick + 1) ∧
  (∀ (s : State) (f : Nat), s.Sound → f < s.nFlights → (s.fpower f).presence = true →
    ∃ t, exec (.flightPresenceOpen f) s = .next t ∧ (t.fpower f).presence = false ∧ (t.fpower f).feedOn = false ∧
      ∀ n, n < 96 → flightOfTread n = f → (t.tread n).mode = .off) ∧
  (∀ (s : State) (f : Nat), s.Sound → f < s.nFlights → (s.fpower f).presence = false → 4000 ≤ (s.fpower f).presRun →
    ∃ t, exec (.flightPresenceClosed f) s = .next t ∧ (t.fpower f).presence = true ∧ (t.fpower f).feedOn = s.configLoaded)

/-- TREAD_THERMAL and TREAD_WIRE_TRIP (01 R22, 03 R95, R96, R100): a switch latches at its shutdown threshold, and below it does nothing (the
threshold of a part is `shutTemp`, log 6). -/
def Obligations.TreadTripsLatchAndTurnOff : Prop :=
  (∀ (s : State) (n : Nat) (tj : Rat), s.Sound → n < s.nTreads → (s.tread n).therm = false →
    (shutTemp ≤ tj →
      ∃ t, exec (.treadThermal ⟨n, tj⟩) s = .next t ∧ (t.tread n).therm = true ∧ (t.tread n).mode = .off ∧
        s.Announces Evt.treadThermal n (s.treadArgs n) t) ∧
    (tj < shutTemp → exec (.treadThermal ⟨n, tj⟩) s = .next s)) ∧
  (∀ (s : State) (n : Nat), s.Sound → n < s.nTreads → (s.tread n).wire = false → s.iwOf n ≠ 0 →
    s.iwOf n * s.iwOf n < (s.tread n).x → (s.tread n).mode = .highSide ∨ (s.tread n).mode = .lowSide →
    ∃ t, exec (.treadWireTrip n) s = .next t ∧ (t.tread n).wire = true ∧ (t.tread n).mode = .off ∧
      s.Announces Evt.treadWireTrip n (s.treadArgs n) t)

/-- TREAD_ILIM, TREAD_PEAK_CLAMP and TREAD_OPEN_LOAD (03 R92, R93, R99): the tread goes on. TREAD_REARM, TREAD_RETRY and
RETRY_COUNT_RESET (03 R101, R103). -/
def Obligations.TreadsStayOnRearmAndRetry : Prop :=
  (∀ (s : State) (n : Nat), s.Sound → n < s.nTreads → 8 ≤ (s.tread n).limitRun → (s.tread n).ilimArmed = true →
    ∃ t, exec (.treadIlim n) s = .next t ∧ t.tread n = { s.tread n with ilimArmed := false } ∧
      s.Announces Evt.treadIlim n (toReal32 (s.effectiveLimit n) :: s.treadArgs n) t) ∧
  (∀ (s : State) (n : Nat), s.Sound → n < s.nTreads → peakAllowance ≤ (s.tread n).e → (s.tread n).clamp = false →
    ∃ t, exec (.treadPeakClamp n) s = .next t ∧ t.tread n = { s.tread n with clamp := true } ∧
      s.Announces Evt.treadPeakClamp n [] t) ∧
  (∀ (s : State) (n : Nat), s.Sound → n < s.nTreads → 800 ≤ (s.tread n).openRun → (s.tread n).openLoad = false →
    ∃ t, exec (.treadOpenLoad n) s = .next t ∧ t.tread n = { s.tread n with openLoad := true } ∧
      s.Announces Evt.treadOpenLoad n [] t) ∧
  (∀ (s : State) (n : Nat), s.Sound → n < s.nTreads → (s.tread n).therm = true → (s.tread n).wire = false →
    (s.tread n).waitRearm = true → (s.tread n).latchedOff = false → (s.tread n).tjHi < rearmTemp → (s.tread n).tjLo < rearmTemp →
    ∃ t, exec (.treadRearm n) s = .next t ∧ (t.tread n).therm = false ∧ (t.tread n).waitRearm = false ∧
      (t.tread n).retryAt =
        if s.limpHolds n then (s.tread n).retryAt else some (s.tick + 1 + s.parN Par.treadRetryDelay n 0)) ∧
  (∀ (s : State) (n at' : Nat), s.Sound → n < s.nTreads → (s.tread n).retryAt = some at' → at' ≤ s.tick → (s.tread n).therm = false →
    (s.tread n).wire = false →
    ∃ t, exec (.treadRetry n) s = .next t ∧ (t.tread n).retryAt = none ∧ (t.tread n).used = (s.tread n).used + 1 ∧
      s.Announces Evt.treadRetry n [word32 ((s.tread n).used + 1)] t) ∧
  (∀ (s : State) (n last : Nat), s.Sound → n < s.nTreads → (s.tread n).lastTrip = some last →
    ∃ t, exec (.retryCountReset n) s = .next t ∧
      (t.tread n).used = if last + 1000 * s.parN Par.treadRetryClear n 0 ≤ s.tick then 0 else (s.tread n).used)

/-- BUDGET_STOP and STOREY_BREAKER (01 R23, R24, 03 R108). -/
def Obligations.BudgetStopsAndBreakers : Prop :=
  (∀ (s : State) (lv : Nat), s.Sound → s.hasLevel lv = true → (s.budget lv).scale = 4 → 5000 ≤ (s.budget lv).hold →
    (s.budget lv).stopped = false →
    ∃ t, exec (.budgetStop lv) s = .next t ∧ (t.budget lv).stopped = true ∧ s.Announces (stopEvt lv) (budgetSource lv) [] t) ∧
  (∀ (s : State) (u : Nat), s.Sound → u < s.nStoreys → (s.storey u).breakerOpen = false →
    ∃ t, exec (.storeyBreaker u) s = .next t ∧ (t.storey u).breakerOpen = true ∧ (t.storey u).tripTick = s.stamp ∧
      (t.storey u).trips = (s.storey u).trips + 1 ∧
      (∀ n, n < 96 → storeyOfFlight (flightOfTread n) = u → (t.tread n).mode = .off) ∧ s.Announces Evt.storeyBreaker u [] t)

/-- LH_PIN_CHANGE, LIMP_HOME_TAKEOVER and LIMP_HOME_HANDBACK (01 R30, 02 R70 to R73). L_PD_LOSS and L_PD_RESTORED (02 R75, 03 R98, 04
R134). Which dies hand back at once, the others staying as they are, and one LIMP_HOME_EPISODE for each hand-back are the model's choice (log
24). -/
def Obligations.LimpHomeAndRailLoss : Prop :=
  (∀ (s : State) (p : Nat), p < 8 → p < s.supply.lhPins.length → s.supply.lhLevel.getD p false ≠ s.supply.lhPins.getD p false →
    16 ≤ s.supply.lhRun.getD p 0 →
    ∃ t, exec (.lhPinChange p) s = .next t ∧ t.supply.lhPins.getD p false = s.supply.lhLevel.getD p false ∧
      t.supply.lhPins.length = s.supply.lhPins.length) ∧
  (∀ (s : State) (d : Nat), s.Sound → d < s.nDies → (s.limpOf d).armed = true → (s.limpOf d).inCharge = false →
    20 ≤ (s.limpOf d).absent →
    ∃ t, exec (.limpHomeTakeover d) s = .next t ∧ (t.limpOf d).inCharge = true ∧ (t.limpOf d).startTick = s.stamp ∧
      ∀ n, n < 96 → dieOfFlight (flightOfTread n) = d →
        (t.tread n).mode = .off ∨
          ((t.tread n).mode = .highSide ∧ (t.tread n).duty = 100 ∧ (s.tread n).therm = false ∧ (s.tread n).wire = false ∧
            s.treadCfg n = 2 ∧ s.supply.mpres = true)) ∧
  (∀ (s : State) (d : Nat), s.Sound → s.hallAUp = true → s.hallBUp = true → s.hallB.mode ≠ .boot →
    s.hallB.mode ≠ .safeHold → (s.limpOf d).inCharge = true → (s.die d).missA = 0 → (s.die d).missB = 0 →
    ∃ t, exec .limpHomeHandback s = .next t ∧ (t.limpOf d).inCharge = false ∧
      (t.limpOf d).episodes = (s.limpOf d).episodes + 1 ∧
      (∀ n, n < 96 → dieOfFlight (flightOfTread n) = d → (s.tread n).lhDriven = true →
        (t.tread n).mode = .off ∧ (t.tread n).lhDriven = false) ∧
      (∀ e, (s.die e).missA ≠ 0 ∨ (s.die e).missB ≠ 0 → t.limpOf e = s.limpOf e) ∧
      ∃ pins ms, t.outs.head? = some (.event Evt.limpHomeEpisode.code noSource [pins, ms])) ∧
  (∀ (s : State) (d : Nat), s.Sound → d < s.nDies →
    ∃ t, exec (.lPdLoss d) s = .next t ∧ (t.die d).railUp = false ∧ t.limpOf d = LimpHome.reset ∧
      ∀ n, n < 96 → dieOfFlight (flightOfTread n) = d → (t.tread n).mode = .off) ∧
  (∀ (s : State) (d : Nat), s.Sound → d < s.nDies → (s.die d).railUp = false →
    ∃ t, exec (.lPdRestored d) s = .next t ∧ (t.die d).railUp = true ∧
      ∀ n, n < 96 → dieOfFlight (flightOfTread n) = d → (t.tread n).x = s.iwOf n * s.iwOf n / 2)

/-- DEBOUNCED_CHANGE, CLEANING_PULSE and CLEANING_PULSE_END (04 R120, R122, R123). SENSE_TRACK_FENCE, SENSE_RX_MISMATCH,
SENSE_RX_MISMATCH_CLEAR, SENSE_LOOP_FAULT, SENSE_OVER_RANGE and BURDEN_RECONNECT (04 R119, R124, R125): each changes one flag of
its line; an UNUSED line does all this too, but delivers 0 and records nothing (R126, R152: the reading of log 26). -/
def Obligations.SenseLinesDebounceCleanAndReport : Prop :=
  (∀ (s : State) (l : Nat) (el : Bool), s.Sound → s.hasLine l = true → s.lineMode l = 0 → (s.sense l).p.elec = some el →
    s.debounceN l + 1 ≤ (s.sense l).p.run → ((s.sense l).p.valid = false ∨ (s.sense l).p.deb ≠ el) →
    ∃ t, exec (.debouncedChange l .primary) s = .next t ∧ (t.sense l).p.deb = el ∧ (t.sense l).p.valid = true ∧
      (t.sense l).changes = (if (s.sense l).p.valid then satInc (s.sense l).changes else (s.sense l).changes) ∧
      t.active l = (s.lineUsed l && (el != s.parB Par.senseInvert l 0))) ∧
  (∀ (s : State) (l : Nat) (el : Bool), s.Sound → s.hasLine l = true → s.lineMode l = 0 → (s.sense l).q.elec = some el →
    s.debounceN l + 1 ≤ (s.sense l).q.run → ((s.sense l).q.valid = false ∨ (s.sense l).q.deb ≠ el) →
    ∃ t, exec (.debouncedChange l .secondary) s = .next t ∧ (t.sense l).q.deb = el ∧ (t.sense l).q.valid = true ∧
      (t.sense l).p = (s.sense l).p) ∧
  (∀ (s : State) (l : Nat) (c : Cleaner), s.lineUsed l = true → s.lineMode l = 0 → s.parB Par.senseClean l 0 = true →
    s.lineQualified l = true → (s.sense l).p.rose = true →
    (∀ e, (s.sense l).pulseEnd = some e → e + 800 ≤ s.sample) → s.cleaning l = false → s.cleaners[cleanerOf l]? = some c →
    ∃ t, exec (.cleaningPulse l) s = .next t ∧
      (c.running = none → t.cleaners[cleanerOf l]? = some ⟨some (l, 8), s.sample, c.waiting⟩) ∧
      (∀ k n, c.running = some (k, n) → n < 8 ∨ c.trig < s.sample ∨ k < l → (∀ w ∈ c.waiting, w.1 = s.sample → w.2 < l) →
        t.cleaners[cleanerOf l]? = some { c with waiting := c.waiting ++ [(s.sample, l)] }) ∧
      (∀ k, c.running = some (k, 8) → c.trig = s.sample → l < k →
        ∃ ws, t.cleaners[cleanerOf l]? = some ⟨some (l, 8), s.sample, ws⟩ ∧ (s.sample, k) ∈ ws ∧ ∀ w ∈ c.waiting, w ∈ ws)) ∧
  (∀ (s : State) (l : Nat) (c : Cleaner), s.Sound → s.hasLine l = true → s.cleaners[cleanerOf l]? = some c →
    c.running = some (l, 0) →
    ∃ t, exec (.cleaningPulseEnd l) s = .next t ∧ (t.sense l).pulseEnd = some s.sample ∧ t.cleaners[cleanerOf l]? =
      some (match c.waiting with | [] => ⟨none, 0, []⟩ | (since, k) :: ws => ⟨some (k, 8), since, ws⟩)) ∧
  (∀ (s : State) (l : Nat), s.Sound → s.hasLine l = true → s.parB Par.senseTrack l 0 = true → (s.sense l).atFence = false →
    480000 ≤ (s.sense l).p.fenceRun →
    ∃ t, exec (.senseTrackFence l) s = .next t ∧ t.sense l = { s.sense l with atFence := true } ∧
      (s.lineUsed l = true → s.Announces Evt.senseTrackFence l
        [toReal32 (s.sense l).p.von, toReal32 (s.sense l).p.voff, toReal32 (s.sense l).p.teff] t)) ∧
  (∀ (s : State) (l : Nat), s.Sound → s.hasLine l = true → (s.sense l).mismatch = false → 80 ≤ (s.sense l).misRun →
    ∃ t, exec (.senseRxMismatch l) s = .next t ∧ t.sense l = { s.sense l with mismatch := true } ∧
      (s.lineUsed l = true → s.Announces Evt.senseRxMismatch l [toReal32 (s.sense l).p.v, toReal32 (s.sense l).q.v] t)) ∧
  (∀ (s : State) (l : Nat), s.Sound → s.hasLine l = true → 8000 ≤ (s.sense l).agreeRun →
    ∃ t, exec (.senseRxMismatchClear l) s = .next t ∧ t.sense l = { s.sense l with mismatch := false }) ∧
  (∀ (s : State) (l : Nat), s.Sound → s.hasLine l = true → s.lineMode l = 2 → (s.sense l).p.valid = true →
    (s.sense l).p.v < 18 / 5 ∨ 21 < (s.sense l).p.v → (s.sense l).loopFault = false →
    ∃ t, exec (.senseLoopFault l) s = .next t ∧ t.sense l = { s.sense l with loopFault := true } ∧
      (s.lineUsed l = true → s.Announces Evt.senseLoopFault l [] t)) ∧
  (∀ (s : State) (l : Nat), s.Sound → s.hasLine l = true → s.lineMode l = 1 → (s.sense l).p.valid = true →
    21 / 2 < (s.sense l).p.v → (s.sense l).overRange = false →
    ∃ t, exec (.senseOverRange l) s = .next t ∧ t.sense l = { s.sense l with overRange := true } ∧
      (s.lineUsed l = true → s.Announces Evt.senseOverRange l [] t)) ∧
  (∀ (s : State) (l since : Nat), s.Sound → s.hasLine l = true → (s.sense l).burdenOff = some since → since + 8000 ≤ s.sample →
    ∃ t, exec (.burdenReconnect l) s = .next t ∧ t.sense l = { s.sense l with burdenOff := none })

/-- PORT_EDGE (04 R130, R132, R133, R135): a valid edge counts by one in its direction; a bad one is an error and counts nothing. In HALL the code
that follows the last valid one in the sequence 001, 011, 010, 110, 100, 101 counts up, the one before it down, and a skipped one is an error. That 40 ns count from the last
edge counted, that a port without rail or closed loop counts nothing, and that a HALL code of all equal bits or younger than HALL_FILT changes
nothing are the model's choices (log 27), and so is the tick at which an edge stands (log 83).
INDEX_EVENT (04 R139 to R141): the index error is kept; under RESYNC an error outside the tolerance is taken out of the count. -/
def Obligations.PortEdgesAndIndexMoveTheCount : Prop :=
  (∀ (s : State) (p : Nat) (e : EdgeIn), s.Sound → p < s.nPorts → s.portFormat p = 1 → s.portPowered p = true →
    e.valid = true → (∀ d u l, (s.port p).edges = (d, u) :: l → u + 16 ≤ e.stamp) →
    ∃ t, exec (.portEdge p e) s = .next t ∧
      (t.port p).count = (if e.up then (s.port p).count + 1 else (s.port p).count - 1) ∧ (t.port p).moving = true ∧
      (t.port p).lastEdgeTick = s.tick + 1 ∧ (t.port p).quadErrors = (s.port p).quadErrors) ∧
  (∀ (s : State) (p : Nat) (e : EdgeIn), s.Sound → p < s.nPorts → s.portFormat p = 1 → s.portPowered p = true →
    e.valid = false ∨ (∃ d u l, (s.port p).edges = (d, u) :: l ∧ e.stamp < u + 16) →
    ∃ t, exec (.portEdge p e) s = .next t ∧ t.port p = { s.port p with quadErrors := (s.port p).quadErrors + 1 }) ∧
  (∀ (s : State) (p : Nat) (e : EdgeIn) (j k : Nat), s.Sound → p < s.nPorts → s.portFormat p = 2 → s.portPowered p = true →
    hallPlace (s.port p).hallState = some j → hallPlace e.code = some k → s.parR Par.portHallFilt p 0 ≤ e.held →
    (∀ d u l, (s.port p).edges = (d, u) :: l → u + 16 ≤ e.stamp) →
    ∃ t, exec (.portEdge p e) s = .next t ∧ (t.port p).hallState = e.code ∧
      (k = (j + 1) % 6 → (t.port p).count = (s.port p).count + 1 ∧ (t.port p).quadErrors = (s.port p).quadErrors) ∧
      (j = (k + 1) % 6 → (t.port p).count = (s.port p).count - 1 ∧ (t.port p).quadErrors = (s.port p).quadErrors) ∧
      (k ≠ j → k ≠ (j + 1) % 6 → j ≠ (k + 1) % 6 →
        (t.port p).count = (s.port p).count ∧ (t.port p).quadErrors = (s.port p).quadErrors + 1)) ∧
  (∀ (s : State) (p : Nat) (e : EdgeIn), p < s.nPorts →
    s.portPowered p = false ∨ (s.portFormat p = 2 ∧ (e.held < s.parR Par.portHallFilt p 0 ∨ hallPlace e.code = none)) →
    exec (.portEdge p e) s = .next s) ∧
  (∀ (s : State) (p : Nat), s.Sound → p < s.nPorts → s.portFormat p = 1 →
    let pos := (s.port p).pos64
    let e := pos - nearestIndex pos (s.parZ Par.portIndexPos p 0) (s.parN Par.portIndexPeriod p 0)
    let slips := s.parN Par.portIndexMode p 0 = 2 ∧ s.parN Par.portIndexTol p 0 < e.natAbs
    ∃ t, exec (.indexEvent p) s = .next t ∧ (t.port p).indexErr = BitVec.ofInt 32 e ∧
      (t.port p).count = (if slips then (s.port p).count - BitVec.ofInt 32 e else (s.port p).count) ∧
      (t.port p).indexAt = some (t.port p).count.toInt)

/-- SSI_FRAME (04 R130, R136): a good frame moves the count by its signed difference; a bad one is an error and moves nothing.
PORT_LINE_FAULT, PORT_HALL_INVALID, PORT_RX_MISMATCH, PORT_SUPPLY_FAULT and PORT_STANDSTILL (04 R129, R132, R133, R135, R138, R152): a port
that is OFF has the flag of R129 too, but no record of it. -/
def Obligations.SsiFramesAndPortFaults : Prop :=
  (∀ (s : State) (p raw : Nat) (last : BitVec 32), s.Sound → p < s.nPorts → s.portFormat p = 3 →
    s.portPowered p = true → (s.port p).ssiLast = some last →
    let bits := s.parN Par.portSsiBits p 0
    let pb := s.parN Par.portSsiPosbits p 0
    let code := raw / 2 ^ (bits - pb) % 2 ^ pb
    let pos := if s.parN Par.portSsiCode p 0 = 1 then unGray code % 2 ^ pb else code
    let d := signedDiff pb pos last.toNat
    (d.natAbs ≤ s.parN Par.portSsiMaxstep p 0 →
      ∃ t, exec (.ssiFrame p raw) s = .next t ∧ (t.port p).count = (s.port p).count + BitVec.ofInt 32 d ∧
        (t.port p).ssiLast = some (word32 pos) ∧ (t.port p).ssiErrors = 0 ∧ (t.port p).ssiFault = false ∧
        (t.port p).ssiExtra = word32 (raw % 2 ^ (bits - pb))) ∧
    (s.parN Par.portSsiMaxstep p 0 < d.natAbs →
      ∃ t, exec (.ssiFrame p raw) s = .next t ∧ (t.port p).count = (s.port p).count ∧ (t.port p).ssiLast = some last ∧
        (t.port p).ssiErrors = (s.port p).ssiErrors + 1 ∧
        ((s.port p).ssiErrors + 1 = 3 → (t.port p).ssiFault = true ∧ (t.port p).countInvalid = true))) ∧
  (∀ (s : State) (p : Nat), s.Sound → s.portUsed p = true → s.parN Par.portLevel p 0 = 0 → (s.port p).lineFault = false →
    ∃ t, exec (.portLineFault p) s = .next t ∧ t.port p = { s.port p with lineFault := true, countInvalid := true } ∧
      s.Announces Evt.portLineFault p [] t) ∧
  (∀ (s : State) (p : Nat), s.Sound → p < s.nPorts → s.portFormat p = 2 → (s.port p).hallBadRun = 8 →
    ∃ t, exec (.portHallInvalid p) s = .next t ∧ t.port p = { s.port p with hallBadRun := 9, countInvalid := true } ∧
      s.Announces Evt.portHallInvalid p [] t) ∧
  (∀ (s : State) (p : Nat), s.Sound → p < s.nPorts → (s.port p).mismatch = false → 8 ≤ (s.port p).misRun →
    ∃ t, exec (.portRxMismatch p) s = .next t ∧ t.port p = { s.port p with mismatch := true } ∧
      (s.portUsed p = true → s.Announces Evt.portRxMismatch p [] t) ∧ (s.portUsed p = false → t.outs = s.outs)) ∧
  (∀ (s : State) (p : Nat), s.Sound → s.portUsed p = true → (s.port p).supplyFault = false → 80 ≤ (s.port p).supplyRun →
    ∃ t, exec (.portSupplyFault p) s = .next t ∧
      t.port p = { s.port p with encOn := false, supplyFault := true, supplyFaultTick := s.stamp, countInvalid := true } ∧
      s.Announces Evt.portSupplyFault p [] t) ∧
  (∀ (s : State) (p : Nat), s.Sound → p < s.nPorts → (s.port p).moving = true →
    (s.port p).lastEdgeTick + s.parN Par.portStandstill p 0 ≤ s.tick →
    ∃ t, exec (.portStandstill p) s = .next t ∧ t.port p = { s.port p with moving := false, speed := 0 })

/-- REED_INPUT_CHANGE, AUX_PULSE_END and ECHO_EDGE_OUT (04 R137, R145, R147): an edge that leaves steps the phase, and the outputs that the
echo owns stand at it. -/
def Obligations.ReedsPulsesAndEcho : Prop :=
  (∀ (s : State) (p : Nat) (b : Bool), s.Sound → p < s.nPorts → s.portFormat p = 4 →
    let reed (x : Port) : Reed := if b then x.reedB else x.reedA
    (s.parR Par.portReedDeb p 0 * 8).floor.toNat + 1 ≤ (reed (s.port p)).run →
    ∃ t, exec (.reedInputChange p b) s = .next t ∧ (reed (t.port p)).deb = (reed (s.port p)).level ∧
      (reed (t.port p)).valid = true) ∧
  (∀ (s : State) (p at' : Nat), s.Sound → p < s.nPorts → (s.port p).auxEnd = some at' → at' ≤ (s.sample + 1) * 50000 →
    ∃ t, exec (.auxPulseEnd p) s = .next t ∧ t.port p = { s.port p with aux := false, auxEnd := none }) ∧
  (∀ (s : State) (f stamp : Nat) (up : Bool) (q : List Bool), s.Sound → f < s.nFlights → (s.echo f).queue = up :: q →
    (∀ last, (s.echo f).lastOut = some last → last + 100 ≤ stamp) →
    ∃ t, exec (.echoEdgeOut f stamp) s = .next t ∧ (t.echo f).queue = q ∧ (t.echo f).lastOut = some stamp ∧
      (t.echo f).phase = ((s.echo f).phase + (if up then 1 else 3)) % 4 ∧
      (s.parN Par.portAuxOwner (2 * f) 0 = 2 →
        (t.port (2 * f)).aux = (echoA (t.echo f).phase && s.auxAllowed (2 * f)) ∧
        (t.port (2 * f + 1)).aux = (echoB (t.echo f).phase && s.auxAllowed (2 * f + 1))))

/-- AXIS_DEVIATION, AXIS_OVERSPEED, GEAR_MASTER_LOST and a failed ALIGN_COMPLETE (05 R159, R160, R173 to R175, R178, R179, R188): every event
that is due is announced, and the axis takes one fault stop, with the lowest of the causes that are due at once. The order of the records of
one sample, by the codes of their causes, is the model's choice (log 19). -/
def Obligations.AxisFaultsStopTheAxis : Prop :=
  (∀ (s : State) (a : Nat), s.Sound → a < s.nAxes → s.axType a ≠ 0 → (s.axis a).st.driven = true → (s.axis a).devRun ≠ 0 →
    s.parN Par.axisDevTime a 0 ≤ (s.axis a).devRun →
    ∃ t, exec (.axisDeviation a) s = .next t ∧ (t.axis a).FaultStopped 9 ∧
      s.Announces Evt.axisDeviation a [wordZ ((s.axis a).posCmd.floor - (s.axis a).pos)] t ∧
      s.AnnouncesEach a ((s.lateCauses a).map (·.2)) t) ∧
  (∀ (s : State) (a cause : Nat), s.Sound → a < s.nAxes → s.axType a ≠ 0 → (s.axis a).st.driven = true → 8 ≤ (s.axis a).speedRun →
    (s.lateCauses a).head?.map (·.1) = some cause →
    ∃ t, exec (.axisOverspeed a) s = .next t ∧ (t.axis a).FaultStopped cause ∧ s.AnnouncesEach a ((s.lateCauses a).map (·.2)) t) ∧
  (∀ (s : State) (a cause : Nat), s.Sound → a < s.nAxes → s.axType a ≠ 0 → (s.axis a).st.driven = true → s.masterLost a = true →
    (s.lateCauses a).head?.map (·.1) = some cause →
    ∃ t, exec (.gearMasterLost a) s = .next t ∧ (t.axis a).FaultStopped cause ∧ s.AnnouncesEach a ((s.lateCauses a).map (·.2)) t) ∧
  (∀ (s : State) (a : Nat) (rs : List Rat), s.Sound → a < s.nAxes → s.axType a ≠ 0 → (s.axis a).st = .aligning →
    (s.axis a).alignLeft = 0 → s.parN Par.axisComm a 0 ≠ 1 →
    (0 < s.parR Par.axisIMax a 0 ∧ ∀ r ∈ rs, r < s.parR Par.axisIMax a 0 / 10) ∨
      (∃ hi ∈ rs, 0 < hi ∧ ∀ r ∈ rs, r ≤ hi ∧ hi * 97 / 100 < r) →
    ∃ t, exec (.alignComplete a rs) s = .next t ∧ (t.axis a).FaultStopped 13 ∧ s.Announces Evt.commFault a [] t) ∧
  (∀ (s : State) (a : Nat) (rs : List Rat), s.Sound → a < s.nAxes → s.axType a ≠ 0 → (s.axis a).st = .aligning →
    (s.axis a).alignLeft = 0 → s.parN Par.axisComm a 0 = 1 →
    (∀ p, s.fbPort a = some p → (s.port (otherPort p)).hallCode = 0 ∨ (s.port (otherPort p)).hallCode = 7) →
    ∃ t, exec (.alignComplete a rs) s = .next t ∧ (t.axis a).FaultStopped 13 ∧ s.Announces Evt.commFault a [] t)

/-- AXIS_HOLD_TIMEOUT, ALIGN_COMPLETE, EXTERNAL_STEP, STEPPER_HOLD_CURRENT and SOLENOID_PULL_END (05 R159, R160, R165, R180 to R183). That an
external step acts in IDLE, HOLD and MOVING, and that its operand is the sample at which it is read, are the model's choices (log 32). -/
def Obligations.AxesAlignStepAndRest : Prop :=
  (∀ (s : State) (a : Nat), s.Sound → a < s.nAxes → (s.axis a).st = .hold → s.isPhase a = true → s.parN Par.axisHoldTime a 0 ≠ 0 →
    (s.axis a).holdSince + s.parN Par.axisHoldTime a 0 ≤ s.tick →
    ∃ t, exec (.axisHoldTimeout a) s = .next t ∧ (t.axis a).st = .idle ∧ (t.axis a).queue = []) ∧
  (∀ (s : State) (a : Nat) (rs : List Rat) (hi lo : Rat), s.Sound → a < s.nAxes → (s.axis a).st = .aligning → (s.axis a).alignLeft = 0 →
    s.parN Par.axisComm a 0 ≠ 1 → hi ∈ rs → lo ∈ rs → s.parR Par.axisIMax a 0 / 10 ≤ hi → lo ≤ hi * 97 / 100 →
    ∃ t, exec (.alignComplete a rs) s = .next t ∧ (t.axis a).st = .moving ∧ (t.axis a).commOk = true ∧
      (t.axis a).commCoarse = true) ∧
  (∀ (s : State) (a p : Nat) (rs : List Rat), s.Sound → a < s.nAxes → (s.axis a).st = .aligning → (s.axis a).alignLeft = 0 →
    s.parN Par.axisComm a 0 = 1 → s.fbPort a = some p → (s.port (otherPort p)).hallCode ≠ 0 → (s.port (otherPort p)).hallCode ≠ 7 →
    ∃ t, exec (.alignComplete a rs) s = .next t ∧ (t.axis a).st = .moving ∧ (t.axis a).commOk = true ∧
      (t.axis a).commCoarse = true) ∧
  (∀ (s : State) (a : Nat), s.Sound → a < s.nAxes → s.axType a = 3 → s.parN Par.axisStepSrc a 0 = 1 →
    (s.axis a).st = .idle ∨ (s.axis a).st = .hold ∨ (s.axis a).st = .moving → (s.axis a).extRise = true → s.activeCauses a = [] →
    s.flightEnabled (flightOfAxis a) = true →
    ∃ t, exec (.externalStep a s.sample) s = .next t ∧ (t.axis a).extRise = false ∧ (t.axis a).posCmd =
      (s.axis a).posCmd + (if s.active (s.parN Par.axisExtDirLine a 0) then 1 else -1)) ∧
  (∀ (s : State) (a : Nat), s.Sound → a < s.nAxes → s.axType a = 3 →
    (s.axis a).stillSince + s.parN Par.axisInterpMax a 0 + s.parN Par.axisHoldDelay a 0 ≤ s.tick →
    ∃ t, exec (.stepperHoldCurrent a) s = .next t ∧ t.axis a = { s.axis a with holdCurrent := true }) ∧
  (∀ (s : State) (a since : Nat), s.Sound → a < s.nAxes → s.axType a = 4 → (s.axis a).st = .hold →
    (s.axis a).pullSince = some since → since + s.parN Par.axisPullMs a 0 ≤ s.tick →
    ∃ t, exec (.solenoidPullEnd a) s = .next t ∧ t.axis a = { s.axis a with pullSince := none } ∧
      (t.tread (8 * flightOfAxis a + 7)).cmd = .highSide ∧
      (t.tread (8 * flightOfAxis a + 7)).duty =
        if s.limpHolds (8 * flightOfAxis a + 7) then (s.tread (8 * flightOfAxis a + 7)).duty else s.parR Par.axisHoldDuty a 0)

/-- MOTION_SAMPLE (01 R22, R35, 02 R57, R62, 05 R161): eight samples follow each safety tick. One sample passes; VIN is sampled through the factory
calibration, and is valid with the hysteresis of the validity thresholds; the module's dissipation is that of the storey dies and of the logic,
and a die without its rail dissipates nothing. That, and that the logic's power comes with the sample, are the model's choices (log 74), and
the formula of the factory calibration is too (log 70). A sample that is not due is none (log 2). -/
def Obligations.MotionSamplesAdvanceTheClock : Prop :=
  (∀ (s : State) (i : SampleIn) (vin : Rat), s.sample < 8 * s.tick + 8 →
    vin = s.factory Par.calFactoryVinGain Par.calFactoryVinOffset 1 0 i.vin →
    ∃ t, exec (.motionSample i) s = .next t ∧ t.clock = { s.clock with sample := s.clock.sample + 1 } ∧
      t.supply.vin8 = (vin :: s.supply.vin8).take 8 ∧
      t.supply.valid = (if s.supply.valid then decide (validFall ≤ vin) else decide (validRise ≤ vin)) ∧
      t.dissip = (t.die 0).dissip + (t.die 1).dissip + i.logicPower ∧ t.baseplate = i.baseplate ∧
      ∀ d, d < s.dies.length → (s.die d).railUp = false → (t.die d).dissip = 0) ∧
  (∀ (s : State) (i : SampleIn), 8 * s.tick + 8 ≤ s.sample → exec (.motionSample i) s = .next s)

/-- ISOLATE, EGRESS, DEISOLATE and RESET_FAULT (06 R201, R207, R208, R210): the door enters the state that the table gives. -/
def Obligations.DoorsIsolateEscapeAndReset : Prop :=
  (∀ (s : State) (f : Nat), s.Sound → s.Sequenced f → (∃ e, (s.door f).taken = some e ∧ e.cmd = .isolate) →
    (s.door f).st ≠ .inactive → (s.door f).st ≠ .isolated →
    ∃ t, exec (.isolate f) s = .next t ∧ (t.door f).st = .isolated ∧ (t.door f).isoCommand = true ∧ (t.door f).taken = none) ∧
  (∀ (s : State) (f : Nat), s.Sound → s.Takes f .egress → (s.door f).st ≠ .inactive → (s.door f).st ≠ .isolated →
    (s.door f).st ≠ .egress →
    ∃ t, exec (.egress f) s = .next t ∧ (t.door f).st = .egress ∧ (t.door f).taken = none) ∧
  (∀ (s : State) (f : Nat), s.Sound → s.Sequenced f → (∃ e, (s.door f).taken = some e ∧ e.cmd = .deisolate) →
    (s.door f).st = .isolated → s.isoBits f &&& 0x37 = 0 → s.rowTaken f = false →
    ∃ t, exec (.deisolate f) s = .next t ∧ (t.door f).st = .referencing ∧ (t.door f).isoCommand = false ∧
      (t.door f).ref.active = true) ∧
  (∀ (s : State) (f : Nat), s.Sound → s.Takes f .resetFault → (s.door f).st = .fault → s.activeFaults f &&& 0xC = 0 →
    ∃ t, exec (.resetFault f) s = .next t ∧ (t.door f).faultCause = 0 ∧ (t.door f).st =
      (if s.flightUnsure f then .referencing else if s.closedBoth f then .locking else .open'))

/-- DOOR_OPEN, DOOR_CLOSE, DOOR_STOP and DOOR_REFERENCE (06 R199, R201): the commands that move a door. -/
def Obligations.DoorsOpenCloseStopAndReference : Prop :=
  (∀ (s : State) (f : Nat), s.Sound → s.Takes f .open' → (s.door f).st = .closedLocked → s.permission f = true →
    (s.axis (leafOf f)).posUncertain = false → (s.axis (stepOf f)).posUncertain = false → (s.door f).lockSt = .locked →
    ∃ t, exec (.doorOpen f) s = .next t ∧ (t.door f).st = .unlocking ∧ (t.door f).lockSt = .releasing ∧
      (t.door f).since = s.stamp) ∧
  (∀ (s : State) (f : Nat), s.Sound → s.Takes f .open' → (s.door f).st = .closedLocked → s.permission f = false →
    s.closedBoth f = true → s.lockedBoth f = true →
    ∃ t, exec (.doorOpen f) s = .next t ∧ (t.door f).st = .closedLocked) ∧
  (∀ (s : State) (f : Nat), s.Sound → s.Takes f .close → (s.door f).st = .open' → (s.door f).closePendingAt = none →
    ∃ t, exec (.doorClose f) s = .next t ∧ (t.door f).st = .open' ∧ (t.door f).closePendingAt = some s.stamp ∧
      (t.door f).warn = true) ∧
  (∀ (s : State) (f : Nat), s.Sound → s.Takes f .stop → (s.door f).st = .closing →
    ∃ t, exec (.doorStop f) s = .next t ∧ (t.door f).st = .open' ∧ (t.obs f).stopped = true) ∧
  (∀ (s : State) (f : Nat), s.Sound → s.Takes f .reference → (s.door f).st = .closedLocked ∨ (s.door f).st = .open' →
    ∃ t, exec (.doorReference f) s = .next t ∧ (t.door f).st = .referencing ∧ (t.door f).ref.active = true)

/-- WARN_TIMEOUT, LOCK_NO_RELEASE, LOCK_NOT_ENGAGED, CLOSED_NOT_CONFIRMED and STEP_CONFIRM_TIMEOUT (06 R201, R203, R209, R212, R213). -/
def Obligations.DoorTimeouts : Prop :=
  (∀ (s : State) (f since : Nat), s.Sound → s.Waits f → (s.door f).st = .open' → (s.door f).closePendingAt = some since →
    since + s.parN Par.flightWarnMs f 0 ≤ s.tick → (s.axis (leafOf f)).posUncertain = false →
    (s.axis (stepOf f)).posUncertain = false →
    ∃ t, exec (.warnTimeout f) s = .next t ∧ (t.door f).st = .closing ∧ (t.door f).since = s.stamp) ∧
  (∀ (s : State) (f : Nat), s.Sound → s.Waits f → (s.door f).st = .unlocking → s.permission f = true →
    s.lockedNone f = false →
    (s.door f).since + s.parN Par.flightUnlockMs f 0 ≤ s.tick →
    ∃ t, exec (.lockNoRelease f) s = .next t ∧ (t.door f).st = .fault ∧ (t.door f).faultCause = 4) ∧
  (∀ (s : State) (f : Nat), s.Sound → s.Alone f btLock → (s.door f).lockSt = .releasing → s.lockTimedOut f = true →
    ∃ t, exec (.lockNoRelease f) s = .next t ∧ (t.door f).lockSt = .fault) ∧
  (∀ (s : State) (f : Nat), s.Sound → s.Waits f → (s.door f).st = .locking →
    s.lockedBoth f = false →
    (s.door f).since + s.parN Par.flightLockMs f 0 ≤ s.tick →
    ∃ t, exec (.lockNotEngaged f) s = .next t ∧ (t.door f).st = .fault ∧ (t.door f).faultCause = 5) ∧
  (∀ (s : State) (f : Nat), s.Sound → s.Alone f btLock → (s.door f).lockSt = .engaging → s.lockTimedOut f = true →
    ∃ t, exec (.lockNotEngaged f) s = .next t ∧ (t.door f).lockSt = .fault) ∧
  (∀ (s : State) (f since : Nat), s.Sound → s.Waits f → (s.door f).st = .closing → s.leafAt f (s.closedPos f) = true →
    (s.door f).closedHoldAt = some since → since + s.flightN Par.flightCloseConfirmMs f 0 ≤ s.tick →
    ∃ t, exec (.closedNotConfirmed f) s = .next t ∧ (t.door f).st = .fault ∧ (t.door f).faultCause = 6) ∧
  (∀ (s : State) (f : Nat), s.Sound → s.Sequenced f → s.hasComposite btStep f = true → s.stepTimedOut f = true →
    ∃ t, exec (.stepConfirmTimeout f) s = .next t ∧ (t.door f).stepSt = .fault)

/-- EXTEND, RETRACT, STEP_STOP, STEP_REFERENCE and STEP_RESET of a standalone STEP (06 R212). LOCK_RELEASE, ENGAGE and LOCK_RESET of a
standalone LOCK, and REFERENCE_START (06 R213, R223). That a LOCK in FAULT takes no ENGAGE is the model's choice (log 37). -/
def Obligations.StandaloneBlocksFollowTheirCommands : Prop :=
  (∀ (s : State) (f : Nat), s.Sound → s.Alone f btStep → (s.door f).stepReq = some 1 → s.permission f = true →
    s.unsure (stepOf f) = false → s.stepFitted f = true →
    (s.door f).stepSt = .retracted ∨ (s.door f).stepSt = .stopped ∨ (s.door f).stepSt = .retracting →
    ∃ t, exec (.extend f) s = .next t ∧ (t.door f).stepSt = .extending ∧ (t.door f).stepReq = none) ∧
  (∀ (s : State) (f : Nat), s.Sound → s.Alone f btStep → (s.door f).stepReq = some 1 → s.permission f = false →
    ∃ t, exec (.extend f) s = .next t ∧ (t.door f).stepSt = (s.door f).stepSt ∧ (t.door f).stepReq = none) ∧
  (∀ (s : State) (f : Nat), s.Sound → s.Alone f btStep → (s.door f).stepReq = some 2 → s.stepFitted f = true →
    (s.axis (stepOf f)).posUncertain = false →
    (s.door f).stepSt = .extending ∨ (s.door f).stepSt = .extended ∨ (s.door f).stepSt = .stopped →
    ∃ t, exec (.retract f) s = .next t ∧ (t.door f).stepSt = .retracting ∧ (t.door f).stepReq = none) ∧
  (∀ (s : State) (f : Nat), s.Sound → s.Alone f btStep → (s.door f).stepReq = some 3 →
    (s.door f).stepSt = .extending ∨ (s.door f).stepSt = .retracting →
    ∃ t, exec (.stepStop f) s = .next t ∧ (t.door f).stepSt = .stopped ∧ (t.door f).stepReq = none) ∧
  (∀ (s : State) (f : Nat), s.Sound → s.Alone f btStep → (s.door f).stepReq = some 4 → s.stepFitted f = true →
    s.isPhase (stepOf f) = true → (s.door f).ref.active = false →
    ∃ t, exec (.stepReference f) s = .next t ∧ (t.door f).stepSt = .referencing ∧ (t.door f).ref.st = .step) ∧
  (∀ (s : State) (f : Nat), s.Sound → s.Alone f btStep → (s.door f).stepReq = some 5 → (s.door f).stepSt = .fault →
    s.activeCauses (stepOf f) = [] → s.unsure (stepOf f) = false →
    ∃ t, exec (.stepReset f) s = .next t ∧ (t.door f).stepSt = .stopped ∧ (t.door f).stepReq = none) ∧
  (∀ (s : State) (f : Nat), s.Sound → s.Alone f btLock → (s.door f).lockReq = some 1 →
    (s.door f).lockSt = .locked ∨ (s.door f).lockSt = .engaging →
    ∃ t, exec (.lockRelease f) s = .next t ∧ (t.door f).lockReq = none ∧
      (t.door f).lockSt = (if s.permission f then .releasing else (s.door f).lockSt)) ∧
  (∀ (s : State) (f : Nat), s.Sound → s.Alone f btLock → (s.door f).lockReq = some 2 →
    ∃ t, exec (.engage f) s = .next t ∧ (t.door f).lockReq = none ∧
      (t.door f).lockSt = (if (s.door f).lockSt = .fault then .fault else .engaging)) ∧
  (∀ (s : State) (f : Nat), s.Sound → s.Alone f btLock → (s.door f).lockReq = some 3 →
    ∃ t, exec (.lockReset f) s = .next t ∧ (t.door f).lockReq = none ∧
      (t.door f).lockSt = (if (s.door f).lockSt = .fault then .engaging else (s.door f).lockSt)) ∧
  (∀ (s : State) (f : Nat), s.Sound → s.Alone f btReference → (s.door f).refReq = true → (s.door f).ref.active = false →
    ∃ t, exec (.referenceStart f) s = .next t ∧ (t.door f).refReq = false ∧ (t.door f).ref.active = true)

/-- HARDSTOP_FOUND and HARDSTOP_RELEASE_END (06 R214, R216). -/
def Obligations.HardstopSearchesDeclareThePosition : Prop :=
  (∀ (s : State) (f p : Nat), s.Sound → s.Sequenced f → s.stallDue f = true → (s.door f).ref.st = .leafSearch →
    s.fbPort (leafOf f) = some p → s.axType (leafOf f) = 1 ∨ s.axType (leafOf f) = 2 → (s.port p).blocked = false →
    s.portFormat p = 1 ∨ s.portFormat p = 2 ∨ s.portFormat p = 3 → (s.axis (leafOf f)).st = .moving →
    ∃ t, exec (.hardstopFound f) s = .next t ∧ (t.axis (leafOf f)).referenced = true ∧
      (t.axis (leafOf f)).pos = s.parZ Par.flightRefHardstopPos f 0 ∧ (t.door f).ref.phase = .release ∧
      (t.door f).ref.releaseAt = s.stamp) ∧
  (∀ (s : State) (f : Nat), s.Sound → s.Sequenced f → (s.door f).ref.st = .leafSearch → (s.door f).ref.phase = .release →
    (s.door f).ref.closedStart = true → (s.door f).ref.releaseAt + 10 ≤ s.tick → (s.axis (stepOf f)).posUncertain = false →
    ∃ t, exec (.hardstopReleaseEnd f) s = .next t ∧ (t.door f).ref.st = .done ∧
      (t.door f).st = (if (s.door f).st ≠ .referencing then (s.door f).st else
        match (s.door f).ref.resume with | some true => .opening | some false => .closing | none => .locking))

/-- OBSTACLE_DETECTED, REVERSAL_START and RECLOSE_ATTEMPT (06 R206, 07 R247 to R249): a detection is recorded whatever the sequencer does on its
sample, and reverses the leaf where no upper row of the table acts. -/
def Obligations.DetectionsReverseTheLeaf : Prop :=
  (∀ (s : State) (f fire : Nat) (args : List Word), s.Sound → s.Sequenced f → (s.obs f).found = some (fire, args) →
    ∃ t, exec (.obstacleDetected f) s = .next t ∧ (t.door f).st = (if s.detecting f then .reversing else (s.door f).st) ∧
      (t.obs f).detections = satInc (s.obs f).detections ∧ (t.obs f).lastTrig = fire ∧
      (t.obs f).lastPos = (s.axis (leafOf f)).pos ∧ (t.obs f).lastF = (s.obs f).f ∧ (t.obs f).watching = false ∧
      (t.obs f).stopNext = true ∧ (t.obs f).found = none ∧
      t.outs.head? = some (.event Evt.obstacleDetected.code f args)) ∧
  (∀ (s : State) (f : Nat) (goal : Int), s.Sound → s.Sequenced f → (s.door f).st = .reversing →
    (s.door f).reaction = some .braking → (s.obs f).stopNext = false → s.turnDone f = true →
    s.reversalTarget f = some goal →
    ∃ t, exec (.reversalStart f) s = .next t ∧ (t.door f).reaction = some (.reversal goal) ∧ (t.door f).st = .reversing) ∧
  (∀ (s : State) (f since : Nat), s.Sound → s.Sequenced f → (s.door f).st = .reversing →
    (s.door f).reaction = some (.pause since) → since + s.parN Par.obstacleRevPauseMs f 0 ≤ s.tick →
    (s.axis (leafOf f)).posUncertain = false → (s.axis (stepOf f)).posUncertain = false →
    ∃ t, exec (.recloseAttempt f) s = .next t ∧ (t.door f).st = .closing ∧ (t.door f).attempt = (s.door f).attempt + 1)

/-- START_MARGIN_END, LEARN_UPDATE, LEARN_CONFIRM_TIMEOUT and TEMP_IN_TIMEOUT (07 R230, R234, R238, R242). -/
def Obligations.ObstacleModelsLearnAndExpire : Prop :=
  (∀ (s : State) (f at' : Nat), s.Sound → s.Sequenced f → (s.obs f).strokeAt = some at' →
    at' + 8 * s.parN Par.obstacleStartMs f 0 ≤ s.sample →
    ∃ t, exec (.startMarginEnd f) s = .next t ∧ t.obs f = { s.obs f with inStart := false }) ∧
  (∀ (s : State) (f : Nat) (m : FricMap) (at' : Nat) (bad : Option (Nat × Rat)), s.Sound → f < s.nFlights →
    (s.obs f).update = some (m, at', bad) → s.hallAUp = true → s.hallBUp = true → s.tick < at' + 100 →
    ∃ t, exec (.learnUpdate f) s = .next t ∧ t.obs f = { s.obs f with map := m, update := none }) ∧
  (∀ (s : State) (f : Nat) (m : FricMap) (at' : Nat) (bad : Option (Nat × Rat)), s.Sound → f < s.nFlights →
    (s.obs f).update = some (m, at', bad) → at' + 100 ≤ s.tick →
    ∃ t, exec (.learnConfirmTimeout f) s = .next t ∧ (t.obs f).update = none ∧ (t.obs f).map = (s.obs f).map) ∧
  (∀ (s : State) (f at' : Nat), s.Sound → f < s.nFlights → (s.obs f).tempInAt = some at' → at' + 60000 ≤ s.tick →
    ∃ t, exec (.tempInTimeout f) s = .next t ∧ t.obs f = { s.obs f with tempTimeout := true })

/-- DCL_CONDUCT, DCL_OFFLINE_TEST, DCL_TEST_PULSE, DCL_INHIBIT and PERMISSION_GRANT (08 R270 to R276). The arguments of DCL_TEST_FAULT, the
output, and 0 for the offline test or 1 and the switch pulsed, are the model's choice (log 60). -/
def Obligations.SafetyOutputsConductAndOpen : Prop :=
  (∀ (s : State) (o : Nat), o < 2 → (s.dcl o).due = true → (s.dcl o).verdict = true → (s.dcl o).testPassed = true →
    (s.dcl o).fault = false → s.dclAuthNow = true → s.safety.inhibit = false →
    ∃ t, exec (.dclConduct o) s = .next t ∧ t.conducting o = true) ∧
  (∀ (s : State) (o since : Nat) (ma1 ma2 : Rat), o < 2 → (s.dcl o).test = some since → since + 2 ≤ s.tick →
    (s.dcl o).on1 = false → (s.dcl o).on2 = false → (s.dcl o).fault = false → s.dclAuthNow = true →
    (ma1 < 1 / 2 → ma2 < 1 / 2 →
      ∃ t, exec (.dclOfflineTest o ma1 ma2) s = .next t ∧ (t.dcl o).testPassed = true ∧ (t.dcl o).test = none) ∧
    (1 / 2 ≤ ma1 ∨ 1 / 2 ≤ ma2 →
      ∃ t, exec (.dclOfflineTest o ma1 ma2) s = .next t ∧ (t.dcl o).fault = true ∧ t.conducting o = false ∧
        s.Announces Evt.dclTestFault noSource [word32 o, word32 0] t)) ∧
  (∀ (s : State) (o sw : Nat) (ma : Rat), o < 2 → sw < 2 → s.hallBUp = true → s.conducting o = true →
    s.clockTick.toNat % 1000 = pulseOffset o sw → 1 / 2 ≤ ma →
    ∃ t, exec (.dclTestPulse o sw ma) s = .next t ∧ (t.dcl o).fault = true ∧ t.conducting o = false ∧
      s.Announces Evt.dclTestFault noSource [word32 o, word32 (1 + sw)] t) ∧
  (∀ s : State, s.inhibitDue = true →
    ∃ t, exec .dclInhibit s = .next t ∧ t.safety.inhibit = true ∧
      ∀ o, o < 2 → (t.dcl o).on1 = false ∧ (t.dcl o).on2 = false) ∧
  (∀ (s : State) (f : Nat), s.Sound → f < s.nFlights → s.hallBUp = true → (s.fsafe f).permDue = true →
    (s.fsafe f).permEval = true →
    ∃ t, exec (.permissionGrant f) s = .next t ∧ t.permission f = true)

/-- DISCREPANCY, DISCREPANCY_CLEARED, RESET_EDGE, RESET_HELD and RESET_STUCK_CLEAR (08 R264, R265, R280, R281): a press below 3000 ms ends
in an edge or in nothing, one of 3000 ms or more is held and its release ignored. -/
def Obligations.DiscrepanciesLatchAndResetsAreJudged : Prop :=
  (∀ (s : State) (n : Nat), s.Sound → s.hasPair n = true → s.hallBUp = true → (s.pair n).latch = false → (s.pair n).disc ≠ 0 →
    s.discSamples n ≤ (s.pair n).disc →
    ∃ t, exec (.discrepancy n) s = .next t ∧ (t.pair n).latch = true ∧
      s.Announces Evt.discrepancy (pairSource n) [word32 n, word32 (if s.trusted (pairLine n) then 0 else 1)] t) ∧
  (∀ (s : State) (n : Nat), s.Sound → s.hasPair n = true → s.hallBUp = true → (s.pair n).latch = true → 8 ≤ (s.pair n).clear →
    ∃ t, exec (.discrepancyCleared n) s = .next t ∧ (t.pair n).latch = false ∧
      s.Announces Evt.discrepancyCleared (pairSource n) [word32 n] t) ∧
  (∀ (s : State) (p r : Nat), s.safety.pressAt = some p → s.safety.releasedAt = some r → s.hallBUp = true → r < p + 24000 →
    ∃ t, exec .resetEdge s = .next t ∧ t.safety.pressAt = none ∧ t.safety.releasedAt = none ∧ t.safety.edge151 =
      (s.safety.edge151 || (decide (p + 800 ≤ r) && !s.safety.resetStuck))) ∧
  (∀ (s : State) (p r : Nat), s.safety.pressAt = some p → s.safety.releasedAt = some r → p + 24000 ≤ r →
    exec .resetEdge s = .next s) ∧
  (∀ (s : State) (p : Nat), s.safety.pressAt = some p → s.safety.releasedAt = none → s.hallBUp = true →
    s.safety.resetHeld = false → p + 24000 ≤ s.sample →
    ∃ t, exec .resetHeld s = .next t ∧ t.safety.resetHeld = true ∧ s.Announces Evt.resetHeld noSource [] t) ∧
  (∀ (s : State) (p : Nat), s.safety.pressAt = some p → s.safety.releasedAt = some (p + 24000) → s.hallBUp = true →
    s.safety.resetHeld = false → p + 24000 ≤ s.sample →
    ∃ t, exec .resetHeld s = .next t ∧ t.safety.resetHeld = false ∧ t.safety.pressAt = none ∧
      s.Announces Evt.resetHeld noSource [] t) ∧
  (∀ s : State, s.hallBUp = true → s.safety.resetStuck = true → 4000 ≤ s.safety.idle151 →
    ∃ t, exec .resetStuckClear s = .next t ∧ t.safety.resetStuck = false)

/-- SAFETY_TICK, WORD_MISMATCH_LIMIT, MODE_TRANSITION and SEAL_READ (01 R35, 08 R261, R285, R286, R294, 11 R380). A tick that is not due is
none (log 2). -/
def Obligations.HallsTickAgreeAndFallBack : Prop :=
  (∀ (s : State) (i : TickIn), 8 * s.tick + 8 ≤ s.sample →
    ∃ t, exec (.safetyTick i) s = .next t ∧ t.tick = s.tick + 1 ∧ t.sample = s.sample ∧ t.supply.tbTick = s.baseplate) ∧
  (∀ (s : State) (i : TickIn), s.sample < 8 * s.tick + 8 → exec (.safetyTick i) s = .next s) ∧
  (∀ (s : State) (h : HallId), 3 ≤ (s.hall h).misRun → (s.hall h).inReset = false → (s.hall h).mode ≠ .boot →
    ∃ t, exec (.wordMismatchLimit h) s = .next t ∧ (t.hall h).mode = .safeHold ∧
      (t.hall h).shCause &&& (if (s.hall h).misLost then 2 else 1) ≠ 0) ∧
  (∀ (s : State) (m : Mode) (at' : Nat), s.hallA.prop = some (m, at') → at' ≤ s.tick →
    ∃ t, exec .modeTransition s = .next t ∧ t.hallA.prop = none ∧
      t.hallA.mode = (if s.hallA.gotAck then m else s.hallA.mode)) ∧
  (∀ (s : State) (m : Mode) (at' seen : Nat), s.hallA.prop.isSome = true → s.hallB.partnerProp = some (m, at', seen) →
    s.hallB.ack = some at' → at' ≤ s.tick → at' ≤ seen + 1 → s.hallB.mode ≠ m →
    ∃ t, exec .modeTransition s = .next t ∧ t.hallB.mode = m) ∧
  (∀ (s : State) (c : BitVec 48), s.hallBUp = true →
    ∃ t, exec (.sealRead c) s = .next t ∧ t.safety.sealRd.value = sealOf c ∧ t.safety.sealRd.readDone = true) ∧
  (∀ (s : State) (c : BitVec 48), s.hallBUp = true → s.hallB.mode = .standby ∨ s.hallB.mode = .run → s.sec.active.isSome = true →
    s.sealMatches (sealOf c) = false →
    ∃ t, exec (.sealRead c) s = .next t ∧ t.hallB.mode = .safeHold ∧ t.hallB.shCause &&& 0x20 ≠ 0)

/-- HALL_SUPPLY_FAULT, OWN_CLOCK_FAULT, PLL_LOCK_LOSS, ECC_UNCORRECTABLE, HALL_RESET_ASSERT and ENGINE_WATCHDOG (01 R25, R29, R32,
R37): the hall is in reset, and with it every tread is OFF. Rails inside their windows are no supply fault (01 R22). -/
def Obligations.HallFailuresTurnEveryTreadOff : Prop :=
  ∀ (s : State) (h : HallId), s.Sound → (s.hall h).inReset = false →
    let off (t : State) : Prop := (t.hall h).inReset = true ∧ ∀ n, n < 96 → (t.tread n).mode = .off
    (∀ core io : Rat,
      (core < 76 / 100 ∨ 84 / 100 < core ∨ io < 31 / 10 ∨ 35 / 10 < io →
        ∃ t, exec (.hallSupplyFault ⟨h, core, io⟩) s = .next t ∧ off t ∧ (s.sec.fwPending ≠ 2 → (t.hall h).cause = 2) ∧
          (t.hall h).deferred = some 2) ∧
      (76 / 100 ≤ core → core ≤ 84 / 100 → 31 / 10 ≤ io → io ≤ 35 / 10 → exec (.hallSupplyFault ⟨h, core, io⟩) s = .next s)) ∧
    (∃ t, exec (.pllLockLoss h) s = .next t ∧ off t ∧ (t.hall h).pllLocked = false ∧
      (s.sec.fwPending ≠ 2 → (t.hall h).cause = 3)) ∧
    (∃ t, exec (.eccUncorrectable h) s = .next t ∧ off t ∧ (s.sec.fwPending ≠ 2 → (t.hall h).cause = 5) ∧
      (t.hall h).deferred = some 5) ∧
    (∃ t, exec (.hallResetAssert h) s = .next t ∧ off t) ∧
    (∃ t, exec (.engineWatchdog h) s = .next t ∧ off t ∧ (s.sec.fwPending ≠ 2 → (t.hall h).cause = 6)) ∧
    (h = .b → 2 ≤ s.clock.rcRun →
      ∃ t, exec .ownClockFault s = .next t ∧ off t ∧ (s.sec.fwPending ≠ 2 → (t.hall h).cause = 4))

/-- HALL_CLOCK_FAULT, SRAM_SCRUB, HEARTBEAT_LOSS, FLIGHT_ENABLE_LOW and SUPPLY_LOSS (01 R25, R29, R30, R32, R36, 02 R60). -/
def Obligations.ClockFaultsHeartbeatsAndSupplyLoss : Prop :=
  (∀ s : State, s.Sound → s.clock.crossA = false → 2 ≤ s.clock.crossRunA →
    ∃ t, exec (.hallClockFault .a) s = .next t ∧ t.clock.crossA = true ∧ t.safety.inhibit = true ∧
      (∀ f, f < 12 → (t.fpower f).enA = false) ∧ (s.limpInCharge = false → ∀ n, n < 96 → (t.tread n).mode = .off)) ∧
  (∀ s : State, s.Sound → s.clock.crossB = false → 2 ≤ s.clock.crossRunB → s.hallB.inReset = false → s.hallB.mode ≠ .boot →
    ∃ t, exec (.hallClockFault .b) s = .next t ∧ t.clock.crossB = true ∧ t.hallB.mode = .safeHold ∧
      (∀ f, f < 12 → (t.fpower f).enB = false) ∧ (s.limpInCharge = false → ∀ n, n < 96 → (t.tread n).mode = .off)) ∧
  (∀ (s : State) (h : HallId) (n : Nat), (s.hall h).inReset = false →
    ∃ t, exec (.sramScrub h n false) s = .next t ∧ (t.hall h).eccSingle = (s.hall h).eccSingle + word32 n) ∧
  (∀ (s : State) (n : Nat), s.hallB.inReset = false → s.hallB.mode ≠ .boot →
    ∃ t, exec (.sramScrub .b n true) s = .next t ∧ t.hallB.mode = .safeHold ∧ t.hallB.shCause &&& 0x40 ≠ 0) ∧
  (∀ (s : State) (d : Nat) (h : HallId), s.Sound → d < s.nDies →
    3 ≤ (match h with | .a => (s.die d).missA | .b => (s.die d).missB) →
    ∃ t, exec (.heartbeatLoss d h) s = .next t ∧ (match h with | .a => (t.die d).lowA | .b => (t.die d).lowB) = true ∧
      ((s.limpOf d).inCharge = false → ∀ n, n < 96 → dieOfFlight (flightOfTread n) = d → (t.tread n).mode = .off)) ∧
  (∀ (s : State) (f : Nat) (h : HallId), s.Sound → f < s.nFlights →
    ∃ t, exec (.flightEnableLow f h) s = .next t ∧ (match h with | .a => (t.fpower f).enA | .b => (t.fpower f).enB) = false ∧
      ((s.limpOf (dieOfFlight f)).inCharge = false → ∀ n, n < 96 → flightOfTread n = f → (t.tread n).mode = .off)) ∧
  (∀ s : State, s.Sound →
    ∃ t, exec .supplyLoss s = .next t ∧ t.hallAUp = false ∧ t.hallBUp = false ∧ t.sec.booted = false ∧
      t.supply.switchClosed = false ∧ t.firstStandby = false ∧ (∀ n, n < 96 → (t.tread n).mode = .off) ∧
      ∀ f, f < 12 → (t.fpower f).feedOn = false)

/-- HALL_A_RETURN and HALL_B_RETURN (01 R25, R26, R30, 08 R285): a hall whose release conditions hold returns in SAFE_HOLD with cause
WORD_LOST; one whose conditions do not hold stays in reset (from where they count is the model's choice, log 20). RESTART_BEGIN, BOOT,
BOOT_COMPLETE and FW_TRIAL_TIMEOUT (12 R422, 14 R464 to R469, R480): a power-up whose calibration is as in OTP loads the ACTIVE configuration
where it is whole and signed, and none where it is corrupt; start-up ends, once its self-tests have run, in the mode that they, the configuration and the seal ask for. What BOOT
is given is log 25, the cause numbers of FW_FALLBACK are log 60, and how a trial ends is log 61: the model's choices. -/
def Obligations.HallsReturnAndRestart : Prop :=
  (∀ s : State, s.MayLeaveReset s.hallA →
    ∃ t, exec .hallAReturn s = .next t ∧ t.hallAUp = true ∧ t.hallA.mode = .safeHold ∧ t.hallA.shCause = 2) ∧
  (∀ s : State, s.MayLeaveReset s.hallB →
    ∃ t, exec .hallBReturn s = .next t ∧ t.hallBUp = true ∧ t.hallB.mode = .safeHold ∧ t.hallB.shCause = 2) ∧
  (∀ s : State, s.tick < s.hallA.resetTick + 3 ∨ s.hallA.pllLocked = false ∨ s.hallA.railRun < 80 →
    exec .hallAReturn s = .next s) ∧
  (∀ s : State, s.tick < s.hallB.resetTick + 3 ∨ s.hallB.pllLocked = false ∨ s.hallB.clockOk = false ∨
    s.hallB.railRun < 80 → exec .hallBReturn s = .next s) ∧
  (∀ (s : State) (r : Restart), s.host.restart = some r → r.at' ≤ s.tick →
    ∃ t, exec .restartBegin s = .next t ∧ t.hallAUp = false ∧ (r.whole = true → t.hallBUp = false ∧ t.sec.booted = false ∧
      t.sec.fwPending = if r.trial then 2 else 0)) ∧
  (∀ (s : State) (b : BootIn), s.hallA.inReset = true → s.hallB.inReset = true → s.supply.prechargeFailed = false →
    (s.sec.startBank b .a).isSome = true → (s.sec.startBank b .b).isSome = true → s.sec.fwPending ≠ 2 ∨ b.configOk = true →
    ∃ t, exec (.boot b) s = .next t ∧ t.hallAUp = true ∧ t.hallBUp = true ∧ t.sec.booted = false ∧ t.hallA.mode = .boot ∧
      t.hallB.mode = .boot) ∧
  (∀ (s : State) (b : BootIn) (img : Image), s.Sound → s.hallA.inReset = true → s.hallB.inReset = true →
    s.supply.prechargeFailed = false → (s.sec.startBank b .a).isSome = true → (s.sec.startBank b .b).isSome = true →
    b.powerUp = true → b.calRead = none → b.calReadA = none → b.trimsRead = [] → s.sec.calFactory = s.sec.calOtp →
    hallAPortion s.sec.calFactory = s.sec.calOtpA → s.sec.active = some img →
    ∃ t, exec (.boot b) s = .next t ∧ t.sec.calFault = false ∧
      if b.activeGood && s.imageSigned img then
        t.configLoaded = true ∧ t.sec.active = some img ∧ t.params = s.imageParams img.params
      else t.configLoaded = false ∧ t.sec.active = none ∧ t.sec.corrupt = some img ∧ t.params = s.imageParams []) ∧
  (∀ (s : State) (fails : List Nat), s.sec.booted = false → s.hallAUp = true → s.hallBUp = true → s.testsRun = true →
    s.failedTests fails = [] → s.sec.fwPending ≠ 2 ∨ s.trialOpen = true →
    ∃ t, exec (.bootComplete fails) s = .next t ∧ t.sec.booted = true ∧ t.hallA.mode = t.hallB.mode ∧ t.hallA.mode =
      (if s.configLoaded = false then .maintenance else if s.safety.sealRd.ok then .standby else .safeHold)) ∧
  (∀ (s : State) (fails : List Nat), s.sec.booted = false → s.hallAUp = true → s.hallBUp = true → s.testsRun = true →
    s.failedTests fails ≠ [] → s.sec.fwPending ≠ 2 ∨ s.trialOpen = true →
    ∃ t, exec (.bootComplete fails) s = .next t ∧ t.hallA.mode = .safeHold ∧ t.hallB.mode = .safeHold ∧
      t.hallB.shCause &&& 0x80 ≠ 0 ∧ s.Announces Evt.selfTestFail noSource ((s.failedTests fails).map word32) t) ∧
  (∀ (s : State) (fails : List Nat), s.testsRun = false → exec (.bootComplete fails) s = .next s) ∧
  (∀ (s : State) (at' : Nat), s.sec.trialEnd = some at' → at' ≤ s.tick → s.sec.fwPending = 2 →
    ∃ t, exec .fwTrialTimeout s = .next t ∧ t.hallAUp = false ∧ t.hallBUp = false ∧ t.sec.fwPending = 0 ∧
      t.sec.fallbackDue = some 3)

/-- RPDO_RECEIVE, CAN_HEARTBEAT, CAN_NODE_LOST, CAN_EMCY, CAN_ERROR_PASSIVE, CAN_BUS_OFF and CAN_BUS_RECOVERED (10 R357, R359 to
R361). That CAN_ERROR_PASSIVE with both counters below 128 brings the port back to ACTIVE, and that a node not heard of since the configuration
was loaded times out too, are the model's choices (log 49). -/
def Obligations.RemoteIoPortsReceiveAndRecover : Prop :=
  (∀ (s : State) (p id n : Nat) (data : Bytes) (x : Rpdo), p < 2 → s.canListens p = true → s.rpdoEntries p id = [n] →
    s.can.rpdos[n]? = some x → data.length = wfield (s.par Par.canRpdoCfg 0 n) 7 1 →
    ∃ t, exec (.rpdoReceive p id data) s = .next t ∧ t.can.rpdos[n]? = some { x with data := data, got := true, gotAt := s.sample }) ∧
  (∀ (s : State) (p node k : Nat) (nmt : Byte), p < 2 → s.canListens p = true → k < 32 → k < s.can.nodes.length →
    s.hbNode k = some (node, p) → (∀ j, j < 32 → j ≠ k → s.hbNode j ≠ some (node, p)) →
    ∃ t, exec (.canHeartbeat p node nmt) s = .next t ∧ (t.canNode k).st = 1 ∧ (t.canNode k).nmt = nmt ∧
      (t.canNode k).lastTick = s.stamp) ∧
  (∀ (s : State) (n node p : Nat), n < 32 → n < s.can.nodes.length → s.hbNode n = some (node, p) → s.hallAUp = true →
    s.parN Par.canEn 0 p = 1 → (s.canNode n).st ≠ 2 → (s.canNode n).lastTick + s.parN Par.canHbTime 0 n ≤ s.tick →
    ∃ t, exec (.canNodeLost n) s = .next t ∧ (t.canNode n).st = 2 ∧ s.Announces Evt.canNodeLost p [word32 n] t) ∧
  (∀ (s : State) (p node : Nat) (data : Bytes), p < 2 → p < s.can.ports.length → s.canListens p = true →
    ∃ t, exec (.canEmcy p node data) s = .next t ∧ (t.canPort p).emcy = (s.canPort p).emcy + 1 ∧
      s.Announces Evt.canEmcy p [word32 (0x080 + node), word32 (fieldAt data 0 4), word32 (fieldAt data 4 4)] t) ∧
  (∀ (s : State) (p txErr rxErr : Nat), p < 2 → p < s.can.ports.length → s.canListens p = true →
    ∃ t, exec (.canErrorPassive p txErr rxErr) s = .next t ∧
      (t.canPort p).st = (if 128 ≤ txErr ∨ 128 ≤ rxErr then .passive else .active)) ∧
  (∀ (s : State) (p : Nat), p < 2 → p < s.can.ports.length → s.canListens p = true →
    ∃ t, exec (.canBusOff p) s = .next t ∧ (t.canPort p).st = .busOff ∧ (t.canPort p).busOffs = (s.canPort p).busOffs + 1 ∧
      t.canListens p = false ∧ s.Announces Evt.canBusOff p [] t) ∧
  (∀ (s : State) (p : Nat), p < 2 → p < s.can.ports.length → s.hallAUp = true → (s.canPort p).st = .busOff →
    ∃ t, exec (.canBusRecovered p) s = .next t ∧ (t.canPort p).st = .active ∧ (t.canPort p).txErr = 0 ∧
      (t.canPort p).rxErr = 0 ∧ s.Announces Evt.canBusRecovered p [] t)

/-- VSF_SEND, VSF_FRAME_RECEIVE, SAFELINK_SILENCE_TIMEOUT and SAFELINK_EXPIRED (09 R306 to R310, R318, R326): after its silence a connection is
STARTING again. The cause number 1 of SAFELINK_RESTART is the model's choice (log 40), and so is where the silence counts from (log 98). -/
def Obligations.SafeConnectionsSendReceiveAndExpire : Prop :=
  (∀ (s : State) (c : Nat), s.Sound → c < 8 → s.vsfDue c = true →
    ∃ t, exec (.vsfSend c) s = .next t ∧ t.conns = (s.buildVsf c).2.conns ∧
      (OutMsg.vsf c (s.buildVsf c).1 :: s.outs) <:+ t.outs) ∧
  (∀ (s : State) (r : VsfIn), r.conn < 8 → s.hallBUp = true → s.hallB.mode ≠ .boot → s.carries r.conn = true →
    ∃ t, exec (.vsfFrameReceive r) s = .next t ∧ t.safety.vsfIn = s.safety.vsfIn ++ [(r.conn, r.bytes)]) ∧
  (∀ (s : State) (r : VsfIn), r.conn < 8 → s.hallBUp = false ∨ s.hallB.mode = .boot ∨ s.carries r.conn = false →
    exec (.vsfFrameReceive r) s = .next s) ∧
  (∀ (s : State) (c : Nat), s.Sound → c < 8 → s.hallBUp = true → s.carries c = true → (s.conn c).st = .open' →
    (s.conn c).acceptTick + 2 * s.tExp c ≤ s.tick →
    ∃ t, exec (.safelinkSilenceTimeout c) s = .next t ∧ (t.conn c).st = .starting ∧
      s.Announces Evt.safelinkRestart c [word32 1] t) ∧
  (∀ (s : State) (c : Nat), s.Sound → c < 8 → s.hallBUp = true → (s.conn c).wasValid = true → s.vsfValid c = false →
    ∃ t, exec (.safelinkExpired c) s = .next t ∧ t.conn c = { s.conn c with wasValid := false, valid := false } ∧
      s.Announces Evt.safelinkExpired c [word32 (s.conn c).age] t)

/-- TRDP_PD_RECEIVE, TRDP_SUB_TIMEOUT, SWITCH_FRAME_FORWARD and ARP_ICMP_REQUEST (09 R315, R317, R319, R321). The ethertypes, the header of a
TRDP telegram and the form of the ARP and echo replies are those of the public protocols, presumed by the model (logs 92 and 95). -/
def Obligations.TrainNetworkTelegramsAndFrames : Prop :=
  (∀ (s : State) (r : PdIn) (n : Nat), s.hallAUp = true → s.parN Par.hostlinkIp 0 0 ≠ 0 →
    pdMulticast r = false ∨ s.stormTake.1 = true → pdGood r = true → s.reaches r.destIp = true → (∀ c, c < 8 → s.connTakes c r = false) → n < 32 → n < s.train.subs.length →
    s.subTakes n r = true → (∀ k, k < n → s.subTakes k r = false) → (pdData r).length = s.parN Par.trdpSubLen 0 n →
    ∃ t, exec (.trdpPdReceive r) s = .next t ∧
      t.sub n = { data := pdData r, fresh := true, rxTick := s.stamp, everRx := true, timedOut := false }) ∧
  (∀ (s : State) (n : Nat), n < 32 → n < s.train.subs.length → s.hallAUp = true → (s.sub n).fresh = true →
    s.atCycleStart = true → (s.sub n).rxTick + s.parN Par.trdpSubTimeout 0 n ≤ s.tick →
    ∃ t, exec (.trdpSubTimeout n) s = .next t ∧ (t.sub n).fresh = false ∧ (t.sub n).timedOut = true ∧
      (t.sub n).data =
        (if s.parN Par.trdpSubToBehav 0 n = 0 then List.replicate (s.sub n).data.length 0 else (s.sub n).data) ∧
      s.Announces Evt.trdpSubTimeout n [] t) ∧
  (∀ (s : State) (p : Nat) (frame : Bytes), p < 2 → s.switchPowered = true → 14 ≤ frame.length → frame.length ≤ 1522 →
    groupAddress (beNat (frame.take 6)) = true →
    ∃ t, exec (.switchFrameForward p frame) s = .next t ∧
      (OutMsg.eth (1 - p) (frameQueue frame) frame :: s.outs) <:+ t.outs) ∧
  (∀ (s : State) (frame reply : Bytes), s.hallAUp = true → s.parN Par.hostlinkIp 0 0 ≠ 0 →
    groupAddress (beNat (frame.take 6)) = false ∨ s.stormTake.1 = true → beNat ((frame.drop 12).take 2) = 0x806 → s.arpReply frame = some reply →
    ∃ t, exec (.arpIcmpRequest frame) s = .next t ∧ t.outs = .net (s.lePorts reply) (frameQueue reply) reply :: s.outs) ∧
  (∀ (s : State) (frame reply : Bytes), s.hallAUp = true → s.parN Par.hostlinkIp 0 0 ≠ 0 →
    groupAddress (beNat (frame.take 6)) = false ∨ s.stormTake.1 = true → beNat ((frame.drop 12).take 2) = 0x800 → s.echoReply frame = some reply →
    ∃ t, exec (.arpIcmpRequest frame) s = .next t ∧ t.outs = .net (s.lePorts reply) (frameQueue reply) reply :: s.outs)

/-- PROGRAM_CYCLE_START (10 R327, R331, R332): a start on its grid begins a cycle; a start at which a cycle still executes is skipped,
and the third in a row stops the program. -/
def Obligations.ProgramCyclesStartSkipAndStop : Prop :=
  (∀ (s : State) (c : Container), s.prog.running = some c → s.startFalls = true → s.prog.startDue = none → s.prog.run = true →
    s.prog.executing = none →
    ∃ t, exec .programCycleStart s = .next t ∧ t.prog.executing = some s.tick) ∧
  (∀ (s : State) (c : Container) (began : Nat), s.prog.running = some c → s.startFalls = true → s.prog.startDue = none →
    s.prog.run = true → s.prog.executing = some began → s.mode ≠ .run →
    (s.prog.skips < 2 → s.parN Par.programOverrunEsc 0 0 = 0 →
      ∃ t, exec .programCycleStart s = .next t ∧ t.prog.skips = s.prog.skips + 1 ∧ t.prog.skipped = s.prog.skipped + 1 ∧
        t.prog.executing = some began) ∧
    (2 ≤ s.prog.skips →
      ∃ t, exec .programCycleStart s = .next t ∧ t.prog.run = false ∧ t.prog.stopCause = 1))

/-- PROGRAM_CYCLE_COMPLETE, PROGRAM_VERIFIED and SWITCH_ABANDONED (10 R328, R331, R367, R368, R371): the execution time is kept; a
switch not made within 1 s answers BUSY. That an abandoned switch records PROGRAM_SWITCH_REFUSED with BUSY and 0 is the model's choice (log
58). -/
def Obligations.ProgramsCompleteVerifyAndAbandon : Prop :=
  (∀ (s : State) (us began : Nat), s.prog.executing = some began → us < 4294967296 →
    ∃ t, exec (.programCycleComplete us) s = .next t ∧ t.prog.executing = none ∧ t.prog.execLast = word32 us ∧
      t.prog.execMax.toNat = max s.prog.execMax.toNat us) ∧
  (∀ s : State, s.prog.pendState = .verifying →
    ∃ t, exec .programVerified s = .next t ∧
      match s.verifyContainer s.prog.pendBytes with
      | .inl c => t.prog.pending = some c ∧ t.prog.pendState = .ready ∧ t.prog.lastSwitch = 0
      | .inr (st, item) => t.prog.pending = none ∧ t.prog.pendState = .rejected ∧
          t.prog.lastSwitch = word32 (st + 65536 * (item % 65536))) ∧
  (∀ (s : State) (at' : Nat), s.prog.switchAt = some at' → at' + 1000 ≤ s.tick →
    ∃ t, exec .switchAbandoned s = .next t ∧ t.prog.switchAt = none ∧ t.prog.lastSwitch = word32 stBusy ∧
      t.prog.running = s.prog.running ∧ s.Announces Evt.programSwitchRefused noSource [word32 stBusy, 0] t)

/-- EVENT_INTAKE, RECORD_WINDOW_END, QUEUE_TAKE and EVENTS_LOST (11 R391 to R393, R395): an open record that must move and finds the spill full
holds the queue. -/
def Obligations.EventsEnterTheGallery : Prop :=
  (∀ (s : State) (e : Ev) (rest : List Ev), s.hallBUp = true → s.gallery.arrivals = e :: rest →
    s.parN Par.galleryMinSev 0 0 ≤ e.sev → s.gallery.degraded = false → s.parN Par.galleryFloodMode 0 0 = 0 →
    e.sev = 5 ∨ s.gallery.openTab.any e.mergesInto = false →
    (s.gallery.queue.filter (fun x => x.code ≠ Evt.eventsLost.code)).length < (if 4 ≤ e.sev then 128 else 120) →
    ∃ t, exec .eventIntake s = .next t ∧ t.gallery.arrivals = rest ∧ t.gallery.queue = s.gallery.queue ++ [{ e with win := s.parN Par.galleryRepeatWin 0 0 }]) ∧
  (∀ (s : State) (r : EvRec), s.hallBUp = true → s.gallery.openTab = [r] → s.windowEnded r = true → s.gallery.spillRoom = true →
    ∃ t, exec .recordWindowEnd s = .next t ∧ t.gallery.openTab = [] ∧ t.gallery.spill = s.gallery.spill ++ [r]) ∧
  (∀ (s : State) (e : Ev) (rest : List Ev), s.hallBUp = true → s.gallery.queue = e :: rest → e.sev ≠ 5 →
    e.flags.toNat.testBit 3 = false → s.parN Par.galleryFloodMode 0 0 = 0 → s.gallery.openTab.length < 64 → s.spillWaits = false →
    ∃ t, exec .queueTake s = .next t ∧ t.gallery.queue = rest ∧ t.gallery.openTab = s.gallery.openTab ++
        [e.toRec s.gallery.logSt.nextSeq s.gallery.powerCycles s.gallery.timeEst]) ∧
  (∀ (s : State) (e : Ev) (rest : List Ev), s.hallBUp = true → s.gallery.queue = e :: rest →
    e.sev = 5 ∨ e.flags.toNat.testBit 3 = true ∨ s.parN Par.galleryFloodMode 0 0 = 1 → s.gallery.spillRoom = true →
    ∃ t, exec .queueTake s = .next t ∧ t.gallery.queue = rest ∧ t.gallery.openTab = s.gallery.openTab ∧ t.gallery.spill =
      s.gallery.spill ++ [e.toRec s.gallery.logSt.nextSeq s.gallery.powerCycles s.gallery.timeEst]) ∧
  (∀ s : State, s.spillWaits = true →
    ∃ t, exec .queueTake s = .next t ∧ t.gallery.queue = s.gallery.queue ∧ t.gallery.openTab = s.gallery.openTab ∧
      t.gallery.spill = s.gallery.spill) ∧
  (∀ s : State, s.hallBUp = true → s.gallery.degraded = false → s.gallery.lossPending = true → s.gallery.queue.length ≤ 64 →
    ∃ t, exec .eventsLost s = .next t ∧ t.gallery.lossPending = false ∧
      t.gallery.queue.length = s.gallery.queue.length + 1 ∧ (t.gallery.queue.getLast?.map (·.code)) = some Evt.eventsLost.code)

/-- PAGE_PROGRAM, COMPACTION_STEP, TRACE_WRITE, COUNTER_PERSIST and NAND_SCRUB (11 R380, R387, R396, R398, R406; which block a compaction
step takes and what a block is, log 85). GALLERY_FAILED, GALLERY_FAILED_REPEAT and INDEX_REBUILT (11 R399, R400): a failed gallery writes its
own failure and every event that follows to the alcove, while the alcove has room. BOOT with a store that passes its checks ends that and, where
the index is still to be rebuilt, leaves the alcove's records copied among those that wait to be written (11 R402).
While Hall B is down GE does none of them. -/
def Obligations.RecordsReachTheNandOrTheAlcove : Prop :=
  (∀ s : State, s.hallBUp = true → s.nandFree = true → 256 ≤ s.gallery.cycSpill.length →
    ∃ t, exec .pageProgram s = .next t ∧ t.gallery.cycSpill = s.gallery.cycSpill.drop 256 ∧ t.gallery.spill = s.gallery.spill ∧
      t.gallery.log = s.gallery.log ∧
      (s.gallery.archive.length + 256 ≤ s.areaCap 0 → t.gallery.archive = s.gallery.archive ++ s.gallery.cycSpill.take 256)) ∧
  (∀ s : State, s.hallBUp = true → s.nandFree = true → s.gallery.cycSpill.length < 256 → 256 ≤ s.gallery.spill.length →
    ∃ t, exec .pageProgram s = .next t ∧ t.gallery.spill = s.gallery.spill.drop 256 ∧ t.gallery.cycSpill = s.gallery.cycSpill ∧
      t.gallery.archive = s.gallery.archive ∧
      (s.gallery.log.length + 256 ≤ s.areaCap 1 → t.gallery.log = s.gallery.log ++ s.gallery.spill.take 256)) ∧
  (∀ (s : State) (b : Nat) (rest : List Nat), s.hallBUp = true → s.nandFree = true → s.onHoldup = false →
    s.gallery.toRefresh = b :: rest →
    ∃ t, exec .compactionStep s = .next t ∧ t.gallery.toRefresh = rest ∧ t.gallery.erases b = s.gallery.erases b + 1 ∧
      t.gallery.log = s.gallery.log ∧ t.gallery.archive = s.gallery.archive ∧ t.gallery.traces = s.gallery.traces) ∧
  (∀ (s : State) (a b : Nat), s.hallBUp = true → s.nandFree = true → s.onHoldup = false → s.gallery.toRefresh = [] →
    s.compactArea = some a → b = s.turnBlock a →
    ∃ t, exec .compactionStep s = .next t ∧ (t.gallery.areaSt a).reclaim = (s.gallery.areaSt a).reclaim - 4096 ∧
      t.gallery.erases b = s.gallery.erases b + 1 ∧
      t.gallery.log = s.gallery.log ∧ t.gallery.archive = s.gallery.archive ∧ t.gallery.traces = s.gallery.traces) ∧
  (∀ (s : State) (f : Nat) (x : Staging) (tr : Trace), s.Sound → f < s.nFlights → s.hallBUp = true →
    x = s.gallery.staging.getD f .reset → x.done = true → s.gallery.paused = false → s.nandFree = true → s.gallery.queue = [] →
    s.gallery.cycQueue = [] → s.gallery.spill.length < 256 → s.gallery.cycSpill.length < 256 →
    tr = { x.tr with seq := s.gallery.trSt.nextSeq, pcyc := s.gallery.powerCycles, samples := x.tr.samples.reverse } →
    ∃ t, exec (.traceWrite f) s = .next t ∧ (t.gallery.staging.getD f .reset).done = false ∧
      t.gallery.trSt.nextSeq = seqAfter s.gallery.trSt.nextSeq ∧
      ((s.gallery.traces.map Trace.units).sum + tr.units ≤ s.areaCap 2 → t.gallery.traces = s.gallery.traces ++ [tr])) ∧
  (∀ s : State, s.hallBUp = true → s.gallery.optimeMram + 10 ≤ s.gallery.optime → s.gallery.timeEst = false →
    ∃ t, exec .counterPersist s = .next t ∧ t.gallery = { s.gallery with optimeMram := s.gallery.optime }) ∧
  (∀ (s : State) (r : ScrubIn), s.hallBUp = true → s.gallery.degraded = false → r.failed = true → s.gallery.reserve ≠ 0 →
    ∃ t, exec (.nandScrub r) s = .next t ∧ t.gallery.reserve = s.gallery.reserve - 1 ∧
      t.gallery.blocks.head? = some (r.block, s.reserveFitted - s.gallery.reserve) ∧
      s.Announces Evt.blockRetired noSource [word32 r.block] t) ∧
  (∀ (s : State) (r : ScrubIn), s.hallBUp = true → s.gallery.degraded = false → r.failed = false →
    ∃ t, exec (.nandScrub r) s = .next t ∧ t.gallery.toRefresh =
      (if Config.eccStrength < 2 * r.bits ∧ r.block ∉ s.gallery.toRefresh then s.gallery.toRefresh ++ [r.block]
      else s.gallery.toRefresh)) ∧
  (∀ (s : State) (cause arg : Nat), s.hallBUp = true → s.gallery.degraded = false →
    cause = 1 ∨ (cause = 2 ∧ s.gallery.reserve = 0) ∨ (cause = 3 ∧ s.gallery.rebuildFrom.isSome = true) ∨ cause = 4 →
    ∃ t, exec (.galleryFailed cause arg) s = .next t ∧ t.gallery.degraded = true ∧ t.gallery.paused = true ∧
      (s.gallery.alcove.length + 2 ≤ 256 →
        t.gallery.alcove.map (fun y => (y.entry.code, y.copied)) = s.gallery.alcove.map (fun y => (y.entry.code, y.copied)) ++
          [(Evt.galleryFailed.code, false), (Evt.cyclesPaused.code, false)]) ∧
      s.AnnouncesEach noSource [(Evt.galleryFailed, [word32 cause, word32 arg]),
        (Evt.cyclesPaused, [s.gallery.cycQueue.foldl (fun q _ => seqAfter q) s.gallery.archSt.nextSeq])] t) ∧
  (∀ (s : State) (e : Ev) (rest : List Ev), s.hallBUp = true → s.gallery.degraded = true → s.gallery.arrivals = e :: rest →
    s.parN Par.galleryMinSev 0 0 ≤ e.sev → s.parN Par.galleryAlcoveMinSev 0 0 ≤ e.sev → s.gallery.alcove.length < 256 →
    ∃ t, exec .eventIntake s = .next t ∧ t.gallery.arrivals = rest ∧ t.gallery.queue = s.gallery.queue ∧
      t.gallery.alcove.map (fun y => (y.entry.code, y.entry.args, y.copied)) =
        s.gallery.alcove.map (fun y => (y.entry.code, y.entry.args, y.copied)) ++ [(e.code, e.args, false)]) ∧
  (∀ (s : State) (b : BootIn), s.hallA.inReset = true → s.hallB.inReset = true → s.supply.prechargeFailed = false →
    (s.sec.startBank b .b).isSome = true → s.sec.fwPending ≠ 2 ∨ b.configOk = true → b.storeGood = true → s.gallery.degraded = true →
    ∃ t, exec (.boot b) s = .next t ∧ t.gallery.degraded = false ∧ t.gallery.paused = false ∧
      (b.indexGood = false → t.gallery.alcove = s.gallery.alcove.map AlcRec.asCopied ∧
        ∀ y ∈ s.gallery.alcove, y.copied = false →
          ∃ r ∈ t.gallery.waitEv, r.code = y.entry.code ∧ r.args = y.entry.args ∧ r.flags = y.entry.flags)) ∧
  (∀ (s : State) (x : AlcRec), s.gallery.degraded = true → s.hallAUp = true → s.gallery.failedSentTick + 60000 ≤ s.ms →
    s.gallery.alcove.reverse.find? (fun y => y.entry.code = Evt.galleryFailed.code) = some x →
    ∃ t, exec .galleryFailedRepeat s = .next t ∧ t.gallery.failedSentTick = s.stamp ∧
      t.outs = .event Evt.galleryFailed.code noSource x.entry.args :: s.outs) ∧
  (∀ (s : State) (since : Nat), s.hallBUp = true → s.gallery.rebuildFrom = some since →
    ∃ t, exec .indexRebuilt s = .next t ∧ t.gallery.rebuildFrom = none ∧ t.gallery.waitEv = [] ∧ t.gallery.waitCyc = [] ∧
      (s.hallAUp = true → t.outs.head? = some (.event Evt.indexRebuilt.code noSource [word32 (s.stamp - since)]))) ∧
  (∀ (s : State) (c : Instr), s.hallBUp = false →
    c = .pageProgram ∨ c = .compactionStep ∨ c = .counterPersist ∨ c = .indexRebuilt ∨ (∃ r, c = .nandScrub r) ∨
      (∃ cause arg, c = .galleryFailed cause arg) ∨ (∃ f, f < s.nFlights ∧ c = .traceWrite f) →
    exec c s = .next s)

/-- RING_SIGNAL_DETECT, RING_TRAINING_RETRY, RING_LINK_UP, RING_PORT_DOWN and RING_LOST (13 R441, R445, R447, R458). RING_FORM_TRIGGER,
FORM_WAIT_END and RING_FRAME (13 R442 to R446, R448 to R454, R458): a frame that arrives at a port that is up goes on by the other port if it
is up, else back; a member in service takes part in it; with the rail of LD section A lost its ports do nothing (02 R75). That a member takes
its time base from each lap 1, what makes a header good, and what a frame of a tick already seen does are the model's choices (log 59); so is
the cause number 0 of RING_LOST (log 40). -/
def Obligations.RingsTrainFormAndPassFrames : Prop :=
  (∀ (s : State) (p : Nat), s.hasRing = true → s.railsUp .a = true → p < 2 → p < s.ring.ports.length → (s.ringPort p).st = 0 →
    ∃ t, exec (.ringSignalDetect p) s = .next t ∧
      t.ringPort p = { s.ringPort p with st := 1, signal := true, trainTick := s.stamp }) ∧
  (∀ (s : State) (p : Nat), s.hasRing = true → s.railsUp .a = true → p < 2 → p < s.ring.ports.length → (s.ringPort p).st = 1 →
    (s.ringPort p).trainTick + 50 ≤ s.tick →
    ∃ t, exec (.ringTrainingRetry p) s = .next t ∧ t.ringPort p = { s.ringPort p with trainTick := s.stamp }) ∧
  (∀ (s : State) (p eq : Nat) (trip : Rat), s.hasRing = true → s.railsUp .a = true → p < 2 → p < s.ring.ports.length → (s.ringPort p).st = 1 →
    ∃ t, exec (.ringLinkUp p trip eq) s = .next t ∧ (t.ringPort p).st = (if s.ring.st = 2 then 3 else 2) ∧
      (t.ringPort p).delay = trip / 2) ∧
  (∀ (s : State) (p n : Nat), s.hasRing = true → s.railsUp .a = true → p < 2 → p < s.ring.ports.length → 2 ≤ (s.ringPort p).st → n = 0 ∨ 16 ≤ n →
    ∃ t, exec (.ringPortDown p n) s = .next t ∧ (t.ringPort p).st = (if n = 0 then 0 else 1) ∧
      (t.ringPort p).errors = (s.ringPort p).errors + word32 n ∧ (s.ring.st = 1 → t.ringCanForm = false → t.ring.st = 0) ∧
      s.Announces Evt.ringPortDown noSource [word32 p, (s.ringPort p).errors + word32 n] t) ∧
  (∀ (s : State) (p : Nat), s.hasRing = true → s.railsUp .a = true → p < 2 → p < s.ring.ports.length → (s.ringPort p).st < 2 →
    ∃ t, exec (.ringPortDown p 0) s = .next t ∧ (t.ringPort p).st = 0 ∧ t.outs = s.outs) ∧
  (∀ (s : State) (p n : Nat), s.hasRing = true → s.railsUp .a = true → p < 2 → p < s.ring.ports.length → n ≠ 0 → n < 16 ∨ (s.ringPort p).st < 2 →
    ∃ t, exec (.ringPortDown p n) s = .next t ∧ t.ringPort p = { s.ringPort p with errors := (s.ringPort p).errors + word32 n } ∧
      t.outs = s.outs) ∧
  (∀ s : State, s.hasRing = true → s.ring.st = 2 → 2 ≤ s.ring.missRun →
    ∃ t, exec (.ringLost 0) s = .next t ∧ t.ring.st = (if s.ringCanForm then 1 else 0) ∧ t.ring.members = [] ∧
      s.Announces Evt.ringLost noSource [0] t) ∧
  (∀ s : State, s.hasRing = true → s.ring.st ≠ 1 → s.ringCanForm = true →
    ∃ t, exec .ringFormTrigger s = .next t ∧ t.ring.st = 1 ∧ t.ring.members = [] ∧ t.ring.trigger = some s.stamp) ∧
  (∀ (s : State) (r : FormIn), s.hasRing = true → s.ring.st = 1 → (formAddrs r).contains s.sealAddr = true → s.ringCanForm = true →
    s.formWaits r = false → formRefusal (s.closes r) s.tCyc = 0 →
    ∃ t, exec (.formWaitEnd r) s = .next t ∧ t.ring.st = 2 ∧ t.ring.members = formAddrs r ∧
      (formAddrs r).min? = some t.ring.head ∧ t.ring.frameLen = formLen r ∧ t.ring.formings = s.ring.formings + 1 ∧
      t.ring.topology = (if (s.closes r).closed then 1 else 2)) ∧
  (∀ (s : State) (r : FormIn), s.hasRing = true → s.ring.st = 1 → (formAddrs r).contains s.sealAddr = true → s.ringCanForm = true →
    s.formWaits r = false → formRefusal (s.closes r) s.tCyc ≠ 0 →
    ∃ t, exec (.formWaitEnd r) s = .next t ∧ t.ring.st = 0 ∧ t.ring.refuseCause = formRefusal (s.closes r) s.tCyc) ∧
  (∀ (s : State) (r : FormIn), s.hasRing = true → s.formWaits r = true → exec (.formWaitEnd r) s = .next s) ∧
  (∀ (s : State) (r : RingIn) (tick : Word), s.hasRing = true → s.railsUp .a = true → r.port < 2 → (s.ringPort r.port).st = 2 → s.ring.st = 2 →
    s.headerGood r.bytes = true → s.ringBypass = false → tick = word32 (fieldAt r.bytes 0 4) →
    ∃ t, exec (.ringFrame r) s = .next t ∧ (r.err ≤ 20000 → t.ring.heard = some tick ∧ t.ring.missRun = 0) ∧
      (s.ring.head ≠ s.sealAddr → t.ring.lastFrame = some tick ∧
        (s.ring.lastFrame ≠ some tick → (fieldAt r.bytes 9 1).testBit 2 = false →
          t.clock.base = (tick - word32 (s.tick - (s.ring.delayUs / 1000).floor.toNat)).toNat) ∧
        ∃ bs, t.outs.head? = some (.ring (s.ringOut r.port) bs) ∧ bs.take 16 = r.bytes.take 16 ∧
          (s.ring.lastFrame = some tick → bs = r.bytes)) ∧
      (s.ring.head = s.sealAddr → r.port = s.homePort → (fieldAt r.bytes 9 1).testBit 2 = false →
        t.outs.head? = some (.ring s.headPort (asLap2 r.bytes)))) ∧
  (∀ (s : State) (r : RingIn), s.hasRing = true → s.railsUp .a = true → r.port < 2 → (s.ringPort r.port).st = 2 →
    s.ring.st ≠ 2 ∨ s.headerGood r.bytes = false ∨ (s.ringBypass = true ∧ 20000 < r.err) →
    exec (.ringFrame r) s = .next (s.send (.ring (s.ringOut r.port) r.bytes))) ∧
  (∀ (s : State) (r : RingIn), s.hasRing = true → s.railsUp .a = true → r.port < 2 → (s.ringPort r.port).st = 2 → s.ring.st = 2 →
    s.headerGood r.bytes = true → s.ringBypass = true → r.err ≤ 20000 →
    ∃ t, exec (.ringFrame r) s = .next t ∧ t.outs = .ring (s.ringOut r.port) r.bytes :: s.outs ∧
      t.ring = { s.ring with heard := some (word32 (fieldAt r.bytes 0 4)), missRun := 0 }) ∧
  (∀ (s : State) (r : RingIn), s.hasRing = true → r.port < 2 → (s.ringPort r.port).st ≠ 2 → exec (.ringFrame r) s = .next s) ∧
  (∀ (s : State) (c : Instr) (p : Nat), s.hasRing = true → s.railsUp .a = false → p < 2 →
    c = .ringSignalDetect p ∨ c = .ringTrainingRetry p ∨ (∃ trip eq, c = .ringLinkUp p trip eq) ∨ (∃ n, c = .ringPortDown p n) ∨
      (∃ r, r.port = p ∧ c = .ringFrame r) →
    exec c s = .next s)

/-- UV_CLEAR, TREAD_CLEAR, STOREY_RECLOSE, SUPPLY_CLEAR, STOREY_STOP_CLEAR, FLIGHT_STOP_CLEAR and SYS_STOP_CLEAR (02 R63, 03 R104,
R108, R109, 04 R138, 06 R224, 12 R435): a write of 1 clears what its condition allows. -/
def Obligations.ClearingWritesClear : Prop :=
  (∀ (s : State) (q : Hdr) (x : Session), s.Writes q Par.supplyUvClear 0 0 1 x → s.supply.uvLatched = true → s.uvRestart ≤ s.vin →
    ∃ t, exec (.uvClear q 1) s = .next t ∧ t.Written q ∧ t.supply.uv = false ∧ t.supply.uvLatched = false ∧
      t.supply.treadsFromTick = s.tick + 1 ∧ s.Announces Evt.supplyUvRestart noSource [] t) ∧
  (∀ (s : State) (q : Hdr) (x : Session) (n : Nat), s.Sound → n < s.nTreads → s.Writes q Par.treadClear n 0 1 x →
    (s.tread n).latchedOff = true → (s.tread n).therm = false → (s.tread n).wire = false →
    ∃ t, exec (.treadClear q n 1) s = .next t ∧ t.Written q ∧ (t.tread n).latchedOff = false ∧ (t.tread n).used = 0 ∧
      (t.tread n).offUntil = s.tick + 1 ∧ s.Announces Evt.treadCleared n [] t) ∧
  (∀ (s : State) (q : Hdr) (x : Session) (u : Nat), s.Sound → u < s.nStoreys → s.Writes q Par.storeyReclose u 0 1 x →
    (s.storey u).breakerOpen = true → (s.storey u).tripTick + 1000 ≤ s.stamp →
    ∃ t, exec (.storeyReclose q u 1) s = .next t ∧ t.Written q ∧ (t.storey u).breakerOpen = false ∧
      s.Announces Evt.storeyBreakerReclosed u [] t) ∧
  (∀ (s : State) (q : Hdr) (x : Session) (p : Nat), s.Sound → p < s.nPorts → s.Writes q Par.portSupplyClear p 0 1 x →
    (s.port p).supplyFault = true → (s.port p).supplyFaultTick + 1000 ≤ s.stamp →
    ∃ t, exec (.supplyClear q p 1) s = .next t ∧ t.Written q ∧ (t.port p).supplyFault = false) ∧
  (∀ (s : State) (q : Hdr) (x : Session) (u lv : Nat), s.Sound → u < s.nStoreys → s.Writes q Par.storeyStopClear u 0 1 x →
    lv = 12 + u ∨ lv = 16 + dieOfStorey u → s.stopClearable lv = true →
    ∃ t, exec (.storeyStopClear q u 1) s = .next t ∧ t.Written q ∧ (t.budget lv).stopped = false) ∧
  (∀ (s : State) (q : Hdr) (x : Session) (f : Nat), s.Sound → f < s.nFlights → s.Writes q Par.flightStopClear f 0 1 x →
    s.stopClearable f = true →
    ∃ t, exec (.flightStopClear q f 1) s = .next t ∧ t.Written q ∧ (t.budget f).stopped = false) ∧
  (∀ (s : State) (q : Hdr) (x : Session) (lv : Nat), s.Writes q Par.sysStopClear 0 0 1 x → lv = 18 ∨ lv = 19 →
    s.stopClearable lv = true →
    ∃ t, exec (.sysStopClear q 1) s = .next t ∧ t.Written q ∧ (t.budget lv).stopped = false)

/-- PORT_COUNT_WRITE, PORT_COUNT_READ, CMP_ARM, CMP_DISARM, CMP_HIT_CLR, AXIS_DECEL_WRITE and AXIS_POS_SET (04 R131, R134, R142 to
R145, 05 R172, R177). -/
def Obligations.PortAndAxisWritesTakeEffect : Prop :=
  (∀ (s : State) (q : Hdr) (x : Session) (p : Nat) (v : Word), s.Sound → p < s.nPorts → s.Writes q Par.portCount p 0 v x →
    (s.port p).lineFault = false → (s.port p).ssiFault = false → (s.port p).supplyFault = false → s.portFormat p ≠ 0 →
    s.portFormat p ≠ 4 →
    ∃ t, exec (.portCountWrite q p v) s = .next t ∧ t.Written q ∧ (t.port p).count = v ∧ (t.port p).wraps = 0 ∧
      (t.port p).countInvalid = false) ∧
  (∀ (s : State) (q : Hdr) (x : Session) (p : Nat), s.Sound → p < s.nPorts → q.hall = 0 →
    s.Passes readSpec (oneRead q (Par.portCount.pid p 0)) x →
    ∃ t, exec (.portCountRead q p) s = .next t ∧ (t.port p).wrapsLatched = (s.port p).wraps ∧
      t.Replied (pendOf 0x0010 q) 0 0 (leBytes 2 1 ++ [0, 0] ++ [0, 1, 0, 0] ++ leBytes 4 (s.port p).count.toNat)) ∧
  (∀ (s : State) (q : Hdr) (x : Session) (p e : Nat) (v w : Word), s.Sound → p < s.nPorts → w = v ||| 0x80000000 →
    s.Writes q Par.portCmpCfg p e w x → wfield w 30 18 = 0 → wfield w 15 14 ≠ 3 → wbit w 17 = true → wbit w 16 = false →
    wfield w 13 0 ≤ 10000 → (s.port p).countInvalid = false → s.portFormat p ≠ 4 → s.portFormat p ≠ 0 → (s.port p).dir = 0 →
    ∃ t, exec (.cmpArm q p e v) s = .next t ∧ t.Written q ∧ (t.port p).armed = (s.port p).armed ||| bit64 e ∧
      t.par Par.portCmpCfg p e = w &&& 0x7FFFFFFF) ∧
  (∀ (s : State) (q : Hdr) (x : Session) (p e : Nat) (v w : Word), s.Sound → p < s.nPorts → w = v &&& 0x7FFFFFFF →
    s.Writes q Par.portCmpCfg p e w x → wfield w 30 18 = 0 → wfield w 15 14 ≠ 3 → wbit w 16 = false → wfield w 13 0 ≤ 10000 →
    s.portFormat p ≠ 4 →
    ∃ t, exec (.cmpDisarm q p e v) s = .next t ∧ t.Written q ∧ (t.port p).armed = (s.port p).armed &&& ~~~(bit64 e) ∧
      t.par Par.portCmpCfg p e = w) ∧
  (∀ (s : State) (q : Hdr) (x : Session) (p w : Nat) (v : Word), s.Sound → p < s.nPorts → s.Writes q Par.portCmpHitClr p w v x →
    ∃ t, exec (.cmpHitClr q p w v) s = .next t ∧ t.Written q ∧
      (t.port p).hit = (s.port p).hit &&& ~~~((v.setWidth 64) <<< (32 * w))) ∧
  (∀ (s : State) (q : Hdr) (x : Session) (a : Nat) (v : Word), s.Sound → a < s.nAxes → s.Writes q Par.axisDecel a 0 v x →
    ∃ t, exec (.axisDecelWrite q a v) s = .next t ∧ t.Written q ∧ t.par Par.axisDecel a 0 = v ∧ (t.axis a).decelDue = true) ∧
  (∀ (s : State) (q : Hdr) (x : Session) (a : Nat) (v : Word), s.Sound → a < s.nAxes → s.Writes q Par.axisPosSet a 0 v x →
    ((s.axis a).st = .idle ∨ (s.axis a).st = .hold) → s.isPhase a = true → s.fbPort a = none →
    ∃ t, exec (.axisPosSet q a v) s = .next t ∧ t.Written q ∧ (t.axis a).pos = v.toInt ∧ (t.axis a).referenced = true ∧
      (t.axis a).posUncertain = false ∧ s.Announces Evt.axisPosSet a [wordZ (s.axis a).pos, v] t)

/-- TEMP_IN_WRITE, OBSTACLE_COMMISSION, COMMISSION_ABORT, MAP_RESTORE, CAL_TRIM_WRITE and CAL_CLEAR_ALL (07 R230, R236, R239, 14 R487,
R495). -/
def Obligations.ObstacleAndTrimWritesTakeEffect : Prop :=
  (∀ (s : State) (q : Hdr) (x : Session) (f : Nat) (v : Word), s.Sound → f < s.nFlights → s.Writes q Par.obstacleTempIn f 0 v x →
    ∃ t, exec (.tempInWrite q f v) s = .next t ∧ t.Written q ∧ t.par Par.obstacleTempIn f 0 = v ∧
      (t.obs f).tempInAt = some s.stamp ∧ (t.obs f).tempTimeout = false) ∧
  (∀ (s : State) (q : Hdr) (x : Session) (f : Nat), s.Sound → f < s.nFlights → s.Writes q Par.obstacleCommission f 0 1 x →
    s.mode = .run → (s.door f).st = .closedLocked → (s.obs f).commissioning = false →
    ∃ t, exec (.obstacleCommission q f 1) s = .next t ∧ t.Written q ∧ (t.obs f).commissioning = true ∧ (t.obs f).comm = [] ∧
      (t.obs f).backup = (s.obs f).map) ∧
  (∀ (s : State) (q : Hdr) (x : Session) (f : Nat), s.Sound → f < s.nFlights → s.Writes q Par.obstacleCommission f 0 0 x →
    (s.obs f).commissioning = true →
    ∃ t, exec (.commissionAbort q f 0) s = .next t ∧ t.Written q ∧ (t.obs f).commissioning = false ∧
      (t.obs f).map = (s.obs f).backup) ∧
  (∀ (s : State) (q : Hdr) (x : Session) (f : Nat), s.Sound → f < s.nFlights → s.Writes q Par.obstacleMapRestore f 0 1 x →
    (s.obs f).map.valid = true → (s.obs f).commissioning = false →
    ∃ t, exec (.mapRestore q f 1) s = .next t ∧ t.Written q ∧ (t.obs f).map.close = (s.obs f).map.snapClose ∧
      (t.obs f).map.open' = (s.obs f).map.snapOpen ∧ (t.obs f).map.drift = false ∧ s.Announces Evt.obstMapRestored f [] t) ∧
  (∀ (s : State) (q : Hdr) (x : Session) (r : ParRow) (j : Nat) (v : Word), s.Sound → r.cls = 0x61 → r ≠ Par.calUserClearAll →
    s.Writes q r 0 j v x → s.mode = .standby ∨ s.mode = .maintenance →
    ∃ t, exec (.calTrimWrite q (r.pid 0 j) v) s = .next t ∧ t.Written q ∧ t.par r 0 j = v) ∧
  (∀ (s : State) (q : Hdr) (x : Session), s.Writes q Par.calUserClearAll 0 0 1 x → s.mode = .standby ∨ s.mode = .maintenance →
    ∃ t, exec (.calClearAll q 1) s = .next t ∧ t.Written q ∧ (∀ e ∈ t.params, pidClass e.1 ≠ 0x61) ∧
      ∀ e ∈ s.params, pidClass e.1 ≠ 0x61 → e ∈ t.params)

/-- PROGRAM_STOP, PROGRAM_RESTART, FORCE_CLEAR_ALL, SAFETY_RESET_REQ, ALCOVE_CLEAR, OPTIME_READ, FLOOD_MODE_WRITE and RING_REFORM (08
R279, 10 R335, R336, R366, 11 R393, R402, R407, 13 R444). The cause number 4 of FORCE_ALL_CLEARED and the number 2 of a start due are the
model's choices (log 40), and how a change of FLOOD_MODE closes the open records is log 51. -/
def Obligations.ServiceWritesTakeEffect : Prop :=
  (∀ (s : State) (q : Hdr) (x : Session), s.Writes q Par.programStop 0 0 1 x → s.mode = .standby ∨ s.mode = .maintenance →
    s.prog.running.isSome = true →
    ∃ t, exec (.programStop q 1) s = .next t ∧ t.Written q ∧ t.prog.run = false ∧ t.prog.stopCause = 3 ∧ t.prog.forces = []) ∧
  (∀ (s : State) (q : Hdr) (x : Session), s.Writes q Par.programRestart 0 0 1 x →
    s.mode = .standby ∨ s.mode = .maintenance ∨ s.mode = .run → s.prog.running.isSome = true →
    ∃ t, exec (.programRestart q 1) s = .next t ∧ t.Written q ∧ t.prog.startDue = some 2) ∧
  (∀ (s : State) (q : Hdr) (x : Session), s.Writes q Par.forceClearAll 0 0 1 x →
    ∃ t, exec (.forceClearAll q 1) s = .next t ∧ t.Written q ∧ t.prog.forces = [] ∧
      s.Announces Evt.forceAllCleared noSource [4] t) ∧
  (∀ (s : State) (q : Hdr) (x : Session), s.Writes q Par.safetyResetReq 0 0 1 x → s.parN Par.safetyHostResetEn 0 0 = 1 →
    ∃ t, exec (.safetyResetReq q 1) s = .next t ∧ t.Written q ∧ t.safety.edgeHost = true) ∧
  (∀ (s : State) (q : Hdr) (x : Session), s.Writes q Par.galleryAlcoveClear 0 0 1 x → s.gallery.degraded = false →
    ∃ t, exec (.alcoveClear q 1) s = .next t ∧ t.Written q ∧ t.gallery.alcove = s.gallery.alcove.filter (fun r => !r.copied) ∧
      t.gallery.alcWritten = 0 ∧ t.gallery.alcDropped = 0 ∧
      s.Announces Evt.alcoveCleared noSource [word32 (s.gallery.alcove.filter (·.copied)).length] t) ∧
  (∀ (s : State) (q : Hdr) (x : Session), q.hall = 0 → s.hallB.inReset = false →
    s.Passes readSpec (oneRead q (Par.galleryOptimeLo.pid 0 0)) x →
    ∃ t, exec (.optimeRead q) s = .next t ∧ t.gallery.optimeHi = s.gallery.optime / 4294967296 % 256 ∧
      t.Replied (pendOf 0x0010 q) 0 0 (leBytes 2 1 ++ [0, 0] ++ [0, 2, 0, 0] ++ leBytes 4 (word32 s.gallery.optime).toNat)) ∧
  (∀ (s : State) (q : Hdr) (x : Session) (v : Word), s.Writes q Par.galleryFloodMode 0 0 v x → s.par Par.galleryFloodMode 0 0 ≠ v →
    ∃ t, exec (.floodModeWrite q v) s = .next t ∧ t.Written q ∧ t.par Par.galleryFloodMode 0 0 = v ∧ t.gallery.rate = [] ∧
      (∀ r ∈ t.gallery.openTab, r.win = 0) ∧
      (s.gallery.waitEv.length + s.gallery.spill.length + s.gallery.openTab.length ≤ 768 →
        t.gallery.openTab = [] ∧ t.gallery.spill = s.gallery.spill ++ s.gallery.openTab.map (fun r => { r with win := 0 }))) ∧
  (∀ (s : State) (q : Hdr) (x : Session), s.Writes q Par.ringReform 0 0 1 x → s.ringCanForm = true →
    ∃ t, exec (.ringReform q 1) s = .next t ∧ t.Written q ∧ t.ring.st = 1 ∧ t.ring.trigger = some s.stamp)

/-- The commands of AXIS_CMD (12 R422) wait for the engine, which judges them at step 1 of the next sample (05 R161, R167), with the results of
MOVE_ABS, MOVE_REL, MOVE_VEL, STOP, QUICK_STOP and RELEASE there (05 R165, R166, R171, 12 R422, R432). -/
def Obligations.HostMovesAreQueuedAndStopped : Prop :=
  (∀ (s : State) (k : Pkt) (x : Session) (a : Nat) (c : Instr) (m : AxCmd), s.Sound → s.Reaches k x a → (c, m) ∈ axisCommands k →
    ∃ t, exec c s = .next t ∧ t.axis a = { s.axis a with inbox := (s.axis a).inbox ++ [⟨m, .host (pendOf 0x0021 k.hdr)⟩] } ∧
      (∀ b, b ≠ a → t.axis b = s.axis b) ∧ pendOf 0x0021 k.hdr ∈ t.host.pends) ∧
  (∀ (s : State) (p : Pend) (a : Nat) (target : Int) (v : Rat) (app : Bool), s.Sound → s.Judges p a (.moveAbs target v app) →
    s.moveInRange a (.pos target v) = true → (app = true → (s.axis a).queue.length < 8) →
    let t := s.takeInbox a
    t.Commanded p a ∧ (t.axis a).queue = (if app then (s.axis a).queue else []) ++ [.pos target v] ∧
      ((t.axis a).st = .moving ∨ (t.axis a).st = .aligning)) ∧
  (∀ (s : State) (p : Pend) (a : Nat) (d target : Int) (v : Rat) (app : Bool), s.Sound → s.Judges p a (.moveRel d v app) →
    target = (if app then (lastTarget (s.axis a)).getD 0 else (s.axis a).posCmd.floor) + d →
    s.moveInRange a (.pos target v) = true → (app = true → (s.axis a).queue.length < 8) →
    let t := s.takeInbox a
    t.Commanded p a ∧ (t.axis a).queue = (if app then (s.axis a).queue else []) ++ [.pos target v] ∧
      ((t.axis a).st = .moving ∨ (t.axis a).st = .aligning)) ∧
  (∀ (s : State) (p : Pend) (a : Nat) (v : Rat) (app : Bool), s.Sound → s.Judges p a (.moveVel v app) →
    s.moveInRange a (.vel v) = true → (app = true → (s.axis a).queue.length < 8) →
    let t := s.takeInbox a
    t.Commanded p a ∧ (t.axis a).queue = (if app then (s.axis a).queue else []) ++ [.vel v] ∧
      ((t.axis a).st = .moving ∨ (t.axis a).st = .aligning)) ∧
  (∀ (s : State) (p : Pend) (a : Nat), s.Sound → s.Judges p a .stop → s.axType a ≠ 4 → (s.axis a).st = .moving →
    (s.axis a).stopping = none →
    let t := s.takeInbox a
    t.Commanded p a ∧ (t.axis a).queue = [] ∧ (t.axis a).st = if (s.axis a).vel = 0 then .hold else .stopping) ∧
  (∀ (s : State) (p : Pend) (a : Nat), s.Sound → s.Judges p a .quickStop → s.axType a ≠ 4 → (s.axis a).st = .moving →
    (s.axis a).vel ≠ 0 →
    let t := s.takeInbox a
    t.Commanded p a ∧ (t.axis a).queue = [] ∧ (t.axis a).st = .stopping ∧ (t.axis a).decelUse = s.parR Par.axisQstopDecel a 0) ∧
  (∀ (s : State) (p : Pend) (a : Nat), s.Sound → s.Judges p a .release → (s.axis a).st = .hold →
    let t := s.takeInbox a
    t.Replied p 0 0 [BitVec.ofNat 8 AxState.idle.code, 0, 0, 0] ∧ (t.axis a).st = .idle ∧ t.holderOf a = none) ∧
  (∀ (s : State) (p : Pend) (a : Nat) (c : AxCmd) (n : BitVec 16), s.Sound → (s.axis a).inbox = [⟨c, .host p⟩] → p.ended = false →
    p.session ≠ 0 → (∃ x, s.session? p.session = some x ∧ x.src = p.src ∧ x.sv = p.sv) → s.holderOf a = some n → n ≠ p.session →
    let t := s.takeInbox a
    t.Replied p stOwned n.toNat [] ∧ t.axis a = { s.axis a with inbox := [] })

/-- GEAR_ENGAGE, GEAR_DISENGAGE, ENERGIZE, DEENERGIZE and COMM_LEARN as the engine judges them (05 R160, R183, R184, R187), and DOOR_CMD (06
R194 to R196). That a COMM_LEARN goes straight to MOVING, in a PMSM without commutation and from MOVING too, is the model's choice (log 76). -/
def Obligations.HostGearingSolenoidsAndDoors : Prop :=
  (∀ (s : State) (p : Pend) (a : Nat), s.Sound → s.Judges p a .gearEngage →
    let t := s.takeInbox a
    t.Commanded p a ∧ (t.axis a).gear.geared = true ∧ (t.axis a).gear.src = s.parN Par.axisGearSrc a 0 ∧
      (t.axis a).gear.s0 = (s.axis a).posCmd) ∧
  (∀ (s : State) (p : Pend) (a : Nat), s.Sound → s.Judges p a .gearDisengage → (s.axis a).gear.geared = true → (s.axis a).st = .moving →
    (s.axis a).stopping = none →
    let t := s.takeInbox a
    t.Commanded p a ∧
      ((s.axis a).vel = 0 → (t.axis a).gear.geared = false ∧ (t.axis a).st = .hold) ∧
      ((s.axis a).vel ≠ 0 → (t.axis a).gear.entries = [] ∧ (t.axis a).st = .stopping)) ∧
  (∀ (s : State) (p : Pend) (a : Nat), s.Sound → s.Judges p a .energize → (s.axis a).st ≠ .hold →
    let t := s.takeInbox a
    t.Commanded p a ∧ (t.axis a).st = .hold ∧ (t.axis a).pullSince = some s.stamp) ∧
  (∀ (s : State) (p : Pend) (a : Nat), s.Sound → s.Judges p a .deenergize → (s.axis a).st = .hold →
    let t := s.takeInbox a
    t.Commanded p a ∧ (t.axis a).st = .idle ∧ (t.axis a).pullSince = none) ∧
  (∀ (s : State) (p : Pend) (a : Nat), s.Sound → s.Judges p a .commLearn →
    let t := s.takeInbox a
    t.Commanded p a ∧ (t.axis a).learning = true ∧ (t.axis a).st = .moving) ∧
  (∀ (s : State) (k : Pkt) (x : Session) (f : Nat) (c : DoorCmd), s.Sound → s.mode = .run →
    s.Passes { code := 0x0020, perm := .door, lenOk := true, deferred := true } k x → k.payload.length = 4 →
    s.sec.activating = none → fieldAt k.payload 0 1 = f → f < s.nFlights → s.hasDoor f = true →
    doorCmdOf (fieldAt k.payload 1 1 : Nat) = some c → rankMay (roleRank x.role) c = true →
    (∀ e ∈ (s.door f).slots, e.rank = roleRank x.role → s.latchCycle e.stamp ≠ s.latchCycle (s.sample + 1)) →
    ∃ t, exec (.doorCmd k) s = .next t ∧
      (t.door f).slots = (s.door f).slots ++ [⟨c, roleRank x.role, k.hdr.session.toNat, some k.hdr.seq, s.sample + 1⟩] ∧
      pendOf 0x0020 k.hdr ∈ t.host.pends)

/-- FORCE_SET, FORCE_CLEAR, PROG_BEGIN, PROG_DATA, PROG_END, PROG_SWITCH and TRANSFER_ABANDON (10 R363 to R371, 12 R422, R424). -/
def Obligations.ForcesAndProgramLoads : Prop :=
  (∀ (s : State) (k : Pkt) (x : Session) (c : Container) (v : Var) (id : BitVec 16) (w : Word) (n : Nat),
    s.Passes { code := 0x0034, perm := .service, lenOk := true } k x → k.payload.length = 8 → s.forceOpen = true →
    s.prog.running = some c → id = BitVec.ofNat 16 (fieldAt k.payload 0 2) → w = word32 (fieldAt k.payload 4 4) →
    c.var? id = some v → v.area ≠ .mem → (v.ty = .bool → w.toNat ≤ 1) →
    s.prog.forces.find? (fun f => f.var = id) = none → s.freeSlot = some n →
    ∃ t, exec (.forceSet k) s = .next t ∧ t.Replied (pendOf 0x0034 k.hdr) 0 0 [BitVec.ofNat 8 n, 0, 0, 0] ∧
      (⟨n, id, v.ty, v.area, w, k.hdr.session.toNat⟩ : Force) ∈ t.prog.forces ∧
      s.Announces Evt.forceSet noSource [word32 id.toNat, w, word32 k.hdr.session.toNat] t) ∧
  (∀ (s : State) (k : Pkt) (x : Session) (f : Force) (id : BitVec 16),
    s.Passes { code := 0x0035, perm := .service, lenOk := true } k x → k.payload.length = 4 → s.forceOpen = true →
    id = BitVec.ofNat 16 (fieldAt k.payload 0 2) → s.prog.forces.find? (fun f => f.var = id) = some f →
    ∃ t, exec (.forceClear k) s = .next t ∧ t.Replied (pendOf 0x0035 k.hdr) 0 0 [] ∧ (∀ g ∈ t.prog.forces, g.var ≠ id) ∧
      s.Announces Evt.forceCleared noSource [word32 id.toNat, f.value, word32 k.hdr.session.toNat] t) ∧
  (∀ (s : State) (k : Pkt) (x : Session), s.Passes { code := 0x0030, perm := .service, lenOk := true } k x →
    k.payload.length = 40 → s.progOpen = true → fieldAt k.payload 0 1 = 0 → 1 ≤ fieldAt k.payload 4 4 →
    fieldAt k.payload 4 4 ≤ 1048576 → (∀ y ∈ s.host.xfers, y.kind ≠ .prog) →
    ∃ t, exec (.progBegin k) s = .next t ∧
      t.Replied (pendOf 0x0030 k.hdr) 0 0 (leBytes 2 s.host.nextXfer ++ leBytes 2 4096) ∧
      t.host.xfers = s.host.xfers ++ [⟨.prog, s.host.nextXfer, k.hdr.session, fieldAt k.payload 4 4, (k.payload.drop 8).take 32, [],
        s.stamp, false⟩]) ∧
  (∀ (s : State) (k : Pkt) (x : Session) (y : Xfer), s.Passes { code := 0x0031, perm := .service, lenOk := true } k x →
    9 ≤ k.payload.length → k.payload.length ≤ 4104 → s.progOpen = true →
    s.xferOf false (fieldAt k.payload 0 2) k.hdr.session = some y → y.ending = false →
    fieldAt k.payload 4 4 = y.data.length → y.data.length + (k.payload.length - 8) ≤ y.length →
    ∃ t, exec (.progData k) s = .next t ∧
      t.Replied (pendOf 0x0031 k.hdr) 0 0 (leBytes 4 (y.data.length + (k.payload.length - 8))) ∧
      t.xferOf false (fieldAt k.payload 0 2) k.hdr.session = some { y with data := y.data ++ k.payload.drop 8, lastTick := s.stamp }) ∧
  (∀ (s : State) (k : Pkt) (x : Session) (y : Xfer),
    s.Passes { code := 0x0032, perm := .service, lenOk := true, deferred := true } k x → k.payload.length = 4 →
    s.progOpen = true → s.xferOf false (fieldAt k.payload 0 2) k.hdr.session = some y → y.ending = false →
    s.hallB.inReset = false → y.whole = true →
    ∃ t, exec (.progEnd k) s = .next t ∧ t.prog.pendState = .verifying ∧ t.prog.pendBytes = y.data ∧ t.prog.pending = none) ∧
  (∀ (s : State) (k : Pkt) (x : Session),
    s.Passes { code := 0x0033, perm := .service, lenOk := true, deferred := true } k x → k.payload.length = 8 →
    s.excluded = false → s.switchable (fieldAt k.payload 0 4) (fieldAt k.payload 4 4) = true →
    ∃ t, exec (.progSwitch k) s = .next t ∧ t.prog.switchAt = some s.stamp ∧ t.prog.running = s.prog.running ∧
      t.host.exclusive = some (pendOf 0x0033 k.hdr)) ∧
  (∀ (s : State) (y : Xfer), y ∈ s.host.xfers → y.ending = false → y.lastTick + 10000 ≤ s.tick →
    ∃ t, exec (.transferAbandon (match y.kind with | .prog => 0 | .config => 1 | .key => 2 | .firmware => 3)) s = .next t ∧
      y ∉ t.host.xfers ∧ ∀ z ∈ s.host.xfers, z.kind ≠ y.kind → z ∈ t.host.xfers)

/-- MODE_REQUEST for each mode and RESTART of Hall A and of the module (08 R286, 12 R422, 14 R471): an allowed request is proposed to
Hall B, to take effect four ticks later; an accepted restart begins 100 ms after its reply. -/
def Obligations.ModeRequestsAndRestarts : Prop :=
  (∀ (s : State) (k : Pkt) (x : Session) (c : Instr) (new : Mode),
    (c = .modeRequestStandby k ∧ new = .standby) ∨ (c = .modeRequestRun k ∧ new = .run) ∨
      (c = .modeRequestMaintenance k ∧ new = .maintenance) ∨ (c = .modeRequestUpdate k ∧ new = .update) →
    s.Passes { code := 0x0070, perm := .read, lenOk := true, deferred := true } k x → k.payload.length = 4 →
    (roleHas x.role .service = true ∨ ((x.role = 2 ∨ x.role = 3) ∧ (new = .standby ∨ new = .run))) →
    s.excluded = false → s.hallB.inReset = false → s.modeRefusal new = none →
    ∃ t, exec c s = .next t ∧ t.hallA.prop = some (new, s.tick + 4) ∧ t.host.modeReq = some (pendOf 0x0070 k.hdr, new, s.tick + 4) ∧
      t.mode = s.mode) ∧
  (∀ (s : State) (k : Pkt) (x : Session), s.Passes { code := 0x0071, perm := .service, lenOk := true } k x →
    k.payload.length = 4 → s.restartOpen = true → s.excluded = false →
    (∃ t, exec (.restartHallA k) s = .next t ∧ t.Replied (pendOf 0x0071 k.hdr) 0 0 [] ∧
      t.host.restart = some ⟨false, s.stamp + 100, false⟩) ∧
    (∃ t, exec (.restartModule k) s = .next t ∧ t.Replied (pendOf 0x0071 k.hdr) 0 0 [] ∧
      t.host.restart = some ⟨true, s.stamp + 100, decide (s.sec.fwPending ≠ 0)⟩))

/-- HELLO, AUTH, LOCKOUT_END, AUTH_TIMEOUT, CLOSE, SESSION_TIMEOUT, USB_DETACH and FRAGMENT_TIMEOUT (12 R413, R416, R417, R419, R420,
R434). That a pending session which times out leaves no record is the model's choice (log 55), and so are the numbers of the transport in
HOST_SESSION_OPENED, 0 for SV and 1 for the Ethernet links (log 60). -/
def Obligations.SessionsOpenAndEnd : Prop :=
  (∀ (s : State) (k : Pkt) (role slot n : Nat), s.linkUp k.hdr.sv = true → k.hdr.addr = 0xFF → k.hdr.hall = 0 → k.hdr.session = 0 →
    k.hdr.mac = none → k.payload.length = 20 → role = fieldAt k.payload 0 1 → slot = fieldAt k.payload 1 1 → role ≤ 5 →
    s.hallB.inReset = false → (role ≠ 0 → slot ≤ 7 ∧ s.lockedOut k.hdr.sv = false ∧ s.keyFits slot role = true) →
    s.freeSession k.hdr.sv = some n →
    ∃ t x, exec (.hello k) s = .next t ∧ t.session? (BitVec.ofNat 16 n) = some x ∧ x.role = role ∧ x.sv = k.hdr.sv ∧
      x.src = k.hdr.src ∧ x.pending = decide (role ≠ 0) ∧ x.nc = (k.payload.drop 4).take 16 ∧ x.nm = s.nonce.1 ∧ x.high = k.hdr.seq ∧
      t.Replied { pendOf 0x0000 k.hdr with session := BitVec.ofNat 16 n } 0 0 (leBytes 2 n ++ [BitVec.ofNat 8 role, 0] ++ x.nm)) ∧
  (∀ (s : State) (k : Pkt) (x : Session) (key : HostKey), s.Passes { code := 0x0001, perm := .read, pendingOk := true, lenOk := true } k x →
    k.payload.length = 16 → x.pending = true → s.lockedOut k.hdr.sv = false → s.host.keys.getD x.slot none = some key →
    k.payload = x.proof key.key →
    ∃ t y, exec (.auth k) s = .next t ∧ t.session? k.hdr.session = some y ∧ y.pending = false ∧ y.key = some (x.deriveKey key.key) ∧
      y.role = x.role ∧
      t.Replied (pendOf 0x0001 k.hdr) 0 0 (mac16 (x.deriveKey key.key) (ascii ['L', 'V', 'O', 'K'] ++ x.nc)) ∧
      s.Announces Evt.hostSessionOpened noSource [word32 x.num.toNat, word32 x.role, word32 (xIdx x.sv)] t) ∧
  (∀ (s : State) (sv : Bool) (t0 : Nat), s.host.lockouts.getD (xIdx sv) none = some t0 → t0 ≤ s.tick →
    ∃ t, exec (.lockoutEnd sv) s = .next t ∧ t.lockedOut sv = false ∧ t.host.lockouts = s.host.lockouts.set (xIdx sv) none) ∧
  (∀ (s : State) (n : BitVec 16) (x : Session), s.session? n = some x → x.pending = true → x.openTick + 10000 ≤ s.tick →
    ∃ t, exec (.authTimeout n) s = .next t ∧ t.session? n = none ∧ t.outs = s.outs) ∧
  (∀ (s : State) (k : Pkt) (x : Session), s.Passes { code := 0x0002, perm := .read, pendingOk := true, lenOk := true } k x →
    k.payload = [] →
    ∃ t, exec (.close k) s = .next t ∧ t.session? k.hdr.session = none ∧ (∀ h ∈ t.host.holders, h.session ≠ k.hdr.session) ∧
      t.outs.head? = some (.event Evt.hostSessionClosed.code noSource [word32 k.hdr.session.toNat, 0]) ∧
      ∃ (r : Reply) (sent : List OutMsg), t.outs = sent ++ s.outs ∧ OutMsg.reply r ∈ sent ∧ r.sv = k.hdr.sv ∧ r.src = k.hdr.src ∧ r.seq = k.hdr.seq ∧
        r.session = k.hdr.session ∧ r.opcode = 0x0002 ∧ r.status = 0 ∧ r.item = 0 ∧ r.payload = []) ∧
  (∀ (s : State) (n : BitVec 16) (x : Session), s.session? n = some x → x.pending = false →
    x.lastTick + 1000 * s.parN Par.hostlinkSessionTimeout 0 0 ≤ s.tick →
    ∃ t, exec (.sessionTimeout n) s = .next t ∧ t.session? n = none ∧ (∀ h ∈ t.host.holders, h.session ≠ n) ∧
      s.Announces Evt.hostSessionClosed noSource [word32 n.toNat, 1] t) ∧
  (∀ s : State, ∃ t, exec .usbDetach s = .next t ∧ ∀ x ∈ t.host.sessions, x.sv = false) ∧
  (∀ (s : State) (src : BitVec 48) (ident : BitVec 16) (d : Datagram), d ∈ s.host.frags → d.src = src → d.ident = ident →
    d.first + 1000 ≤ s.tick →
    ∃ t, exec (.fragmentTimeout src ident) s = .next t ∧ d ∉ t.host.frags)

/-- KEEPALIVE, IDENTIFY, PAR_READ, PAR_WRITE, PAR_READ_ARRAY, PAR_INFO, SLOT_INFO, GAL_READ and GAL_TRACE_READ (11 R403, 12 R422, R426
to R429). That a gallery read starts with its START or its time included, shows the records of the spill and the open ones, and what its cursor
and its GAP flag are in the cases that the rules leave open, is the model's choice (log 53). -/
def Obligations.ReadsAndWritesAreAnswered : Prop :=
  (∀ (s : State) (k : Pkt) (x : Session), s.Passes { code := 0x0003, perm := .read, lenOk := true } k x → k.payload = [] →
    ∃ t, exec (.keepalive k) s = .next t ∧
      t.Replied (pendOf 0x0003 k.hdr) 0 0 (leBytes 4 s.mode.code ++ leBytes 4 s.sysStatus.toNat)) ∧
  (∀ (s : State) (k : Pkt) (x : Session), s.Passes { code := 0x0004, perm := .read, noSession := true, lenOk := true } k x →
    k.payload = [] →
    ∃ t, exec (.identify k) s = .next t ∧ t.Replied (pendOf 0x0004 k.hdr) 0 0 s.identity) ∧
  (∀ (s : State) (q : Hdr) (x : Session) (r : ParRow) (i j : Nat), q.hall = 0 → r.pid i j < 4294967296 →
    s.resolvePid (r.pid i j) = .inr (r, i, j) → (r.ofHallB && s.hallB.inReset) = false → s.Passes readSpec (oneRead q (r.pid i j)) x →
    ∃ t, exec (.parRead (oneRead q (r.pid i j))) s = .next t ∧
      t.Replied (pendOf 0x0010 q) 0 0 (leBytes 2 1 ++ [0, 0] ++
        [0, match r.ty with | .int32 => 1 | .uint32 => 2 | .real32 => 3, 0, 0] ++
        leBytes 4 ((s.afterChecks readSpec (oneRead q (r.pid i j))).readPar r i j).toNat)) ∧
  (∀ (s : State) (q : Hdr) (x : Session) (r : ParRow) (i j : Nat) (v : Word), s.Sound → s.Writes q r i j v x → r.cls = 0x11 →
    r.acc = .rw →
    ∃ t, exec (.parWrite (oneEntry q (r.pid i j) v)) s = .next t ∧ t.Written q ∧ t.par r i j = v) ∧
  (∀ (s u : State) (k : Pkt) (x : Session) (r : ParRow) (i j n : Nat),
    s.Passes { code := 0x0012, perm := .read, lenOk := true, hallOk := true, deferred := true } k x →
    u = s.afterChecks { code := 0x0012, perm := .read, lenOk := true, hallOk := true, deferred := true } k →
    k.payload.length = 8 → k.hdr.hall = 0 → s.hallB.inReset = false → s.resolvePid (fieldAt k.payload 0 4) = .inr (r, i, j) → n = fieldAt k.payload 4 2 →
    1 ≤ n → n ≤ 1024 → j + n ≤ r.len → (∀ m, m < n → s.resolvePid (fieldAt k.payload 0 4 + m) = .inr (r, i, j + m)) →
    ∃ t, exec (.parReadArray k) s = .next t ∧
      t.Replied (pendOf 0x0012 k.hdr) 0 0 ([match r.ty with | .int32 => 1 | .uint32 => 2 | .real32 => 3, 0] ++ leBytes 2 n ++
        (List.range n).flatMap (fun m => leBytes 4 (u.readPar r i (j + m)).toNat))) ∧
  (∀ (s : State) (k : Pkt) (x : Session) (r : ParRow) (i j : Nat), s.Passes { code := 0x0013, perm := .read, lenOk := true } k x →
    k.payload.length = 4 → s.resolvePid (fieldAt k.payload 0 4) = .inr (r, i, j) →
    ∃ t, exec (.parInfo k) s = .next t ∧ t.Replied (pendOf 0x0013 k.hdr) 0 0 (s.infoBytes r (fieldAt k.payload 0 4))) ∧
  (∀ (s : State) (k : Pkt) (x : Session), s.Passes { code := 0x0055, perm := .read, lenOk := true } k x → k.payload = [] →
    ∃ t, exec (.slotInfo k) s = .next t ∧
      t.Replied (pendOf 0x0055 k.hdr) 0 0 (slotEntry s.sec.staged ++ slotEntry s.sec.active ++ slotEntry s.sec.previous ++
        leBytes 4 (match s.prog.override with | some c => c.progId.toNat | none => 0))) ∧
  (∀ (s : State) (k : Pkt) (x : Session) (r : GalReq) (all from' hits : List Shown) (start cursor stop : Nat) (more : Bool),
    s.Passes { code := 0x0040, perm := .read, lenOk := true, deferred := true } k x →
    k.payload.length = 28 → galReqOk k.payload = true → s.galBusy = false → r = galReq k.payload →
    all = s.shownArea r.area r.dx → start = s.seqPlace r.area r.start →
    from' = (if r.older then all.reverse else all).dropWhile (r.before start) → hits = from'.filter r.passes →
    more = decide (r.max < hits.length) →
    cursor = ((if more then (hits.take r.max).getLast? else from'.getLast?).map (·.seq)).getD r.start →
    stop = (if r.older && !more then max 1 (min ((all.head?.map (·.place)).getD start) (start - 1)) else s.seqPlace r.area cursor) →
    ∃ t gap, exec (.galRead k) s = .next t ∧
      t.Replied (pendOf 0x0040 k.hdr) 0 0 (leBytes 1 (hits.take r.max).length ++ leBytes 1 (bitN gap 0 + bitN (!more) 1) ++
        leBytes 2 (if r.dx then 32 else 64) ++ leBytes 4 cursor ++ (hits.take r.max).flatMap (·.bytes)) ∧
      (r.continued = false → gap = false) ∧
      gap = r.gap start stop (placeOf (s.seqWrapped r.area) (s.areaNext r.area) (s.areaNext r.area - 1)) (all.map (·.place))) ∧
  (∀ (s : State) (k : Pkt) (x : Session) (tr : Trace) (bs : Bytes),
    s.Passes { code := 0x0041, perm := .read, lenOk := true, deferred := true } k x → k.payload.length = 12 →
    1 ≤ fieldAt k.payload 8 2 → fieldAt k.payload 8 2 ≤ 1024 → s.galBusy = false →
    s.gallery.traces.find? (fun t => t.seq.toNat = fieldAt k.payload 0 4) = some tr →
    bs = (tr.data.drop (fieldAt k.payload 4 4)).take (fieldAt k.payload 8 2) →
    ∃ t, exec (.galTraceRead k) s = .next t ∧ t.Replied (pendOf 0x0041 k.hdr) 0 0 (leBytes 2 bs.length ++ [0, 0] ++ bs))

/-- STAGE_BEGIN, STAGE_DATA, STAGE_END, ACTIVATE, ROLLBACK and ACTIVATION_TICK (12 R422, R424, 14 R474 to R476): where the shadow copies of the
halls disagree, the request answers INTERNAL, records CONFIG_STAGE_REFUSED and changes no slot. That a corrupt ACTIVE image stays in its slot and
becomes PREVIOUS is log 61, and that the slots are exchanged with the slot record, four ticks before the halls change, is log 64: the model's
choices. -/
def Obligations.ImagesAreStagedAndActivated : Prop :=
  (∀ (s : State) (k : Pkt) (x : Session) (kind : XKind) (lo hi : Nat), s.Passes { code := 0x0050, perm := .config, lenOk := true } k x →
    k.payload.length = 40 → stageKindOf (fieldAt k.payload 0 1) = some (kind, lo, hi) → s.stageOpen kind = true →
    s.hallB.inReset = false → lo ≤ fieldAt k.payload 4 4 → fieldAt k.payload 4 4 ≤ hi → (∀ y ∈ s.host.xfers, y.kind ≠ kind) →
    ∃ t, exec (.stageBegin k) s = .next t ∧
      t.Replied (pendOf 0x0050 k.hdr) 0 0 (leBytes 2 s.host.nextXfer ++ leBytes 2 4096) ∧
      t.host.xfers = s.host.xfers ++ [⟨kind, s.host.nextXfer, k.hdr.session, fieldAt k.payload 4 4, (k.payload.drop 8).take 32, [],
        s.stamp, false⟩]) ∧
  (∀ (s : State) (k : Pkt) (x : Session) (y : Xfer), s.Passes { code := 0x0051, perm := .config, lenOk := true } k x →
    9 ≤ k.payload.length → k.payload.length ≤ 4104 → s.hallB.inReset = false →
    s.xferOf true (fieldAt k.payload 0 2) k.hdr.session = some y → s.stageOpen y.kind = true → y.ending = false →
    fieldAt k.payload 4 4 = y.data.length → y.data.length + (k.payload.length - 8) ≤ y.length →
    ∃ t, exec (.stageData k) s = .next t ∧
      t.Replied (pendOf 0x0051 k.hdr) 0 0 (leBytes 4 (y.data.length + (k.payload.length - 8))) ∧
      t.xferOf true (fieldAt k.payload 0 2) k.hdr.session = some { y with data := y.data ++ k.payload.drop 8, lastTick := s.stamp }) ∧
  (∀ (s : State) (k : Pkt) (x : Session) (y : Xfer),
    s.Passes { code := 0x0052, perm := .config, lenOk := true, deferred := true } k x → k.payload.length = 4 →
    s.hallB.inReset = false → s.xferOf true (fieldAt k.payload 0 2) k.hdr.session = some y → y.kind = .config →
    s.stageOpen .config = true → y.whole = true →
    ∃ t, exec (.stageEnd k) s = .next t ∧
      match ((s.afterChecks { code := 0x0052, perm := .config, lenOk := true, deferred := true } k).endXfer .config).judgeImage y.data with
      | .inl img => t.sec.staged = some img ∧ t.sec.lastStage = 0 ∧ t.Replied (pendOf 0x0052 k.hdr) 0 0 [] ∧
          s.Announces Evt.configStaged noSource [img.version, img.check.setWidth 32] t
      | .inr (step, status, item) => t.sec.staged = none ∧ t.sec.lastStage = word32 (status + 256 * step) ∧
          t.Replied (pendOf 0x0052 k.hdr) status item []) ∧
  (∀ (s : State) (k : Pkt) (x : Session) (img : Image),
    s.Passes { code := 0x0053, perm := .config, lenOk := true, deferred := true } k x → k.payload.length = 4 →
    s.mode = .standby ∨ s.mode = .maintenance → s.hallB.inReset = false → s.excluded = false → s.sec.staged = some img →
    img.version.toNat = fieldAt k.payload 0 4 → s.sealFits img = true → s.movingAxes = [] → s.sec.shadowsAgree false = true →
    ∃ t, exec (.activate k) s = .next t ∧ t.sec.active = some img ∧
      t.sec.previous = s.sec.active.orElse (fun _ => s.sec.corrupt) ∧ t.sec.staged = none ∧
      (t.sec.activating.bind (·.at')) = some (s.tick + 4)) ∧
  (∀ (s : State) (k : Pkt) (x : Session) (img : Image),
    s.Passes { code := 0x0054, perm := .config, lenOk := true, deferred := true } k x → k.payload.length = 4 →
    s.mode = .standby ∨ s.mode = .maintenance → s.hallB.inReset = false → s.excluded = false → s.sec.previous = some img →
    img.version.toNat = fieldAt k.payload 0 4 → s.sealFits img = true → s.movingAxes = [] → s.sec.shadowsAgree true = true →
    ∃ t, exec (.rollback k) s = .next t ∧ t.sec.active = some img ∧ (t.sec.activating.bind (·.at')) = some (s.tick + 4)) ∧
  (∀ (s : State) (k : Pkt) (x : Session) (img : Image) (c : Instr) (rollback : Bool) (code : Nat),
    (c = .activate k ∧ rollback = false ∧ code = 0x0053 ∧ s.sec.staged = some img) ∨
      (c = .rollback k ∧ rollback = true ∧ code = 0x0054 ∧ s.sec.previous = some img) →
    s.Passes { code := code, perm := .config, lenOk := true, deferred := true } k x → k.payload.length = 4 →
    s.mode = .standby ∨ s.mode = .maintenance → s.hallB.inReset = false → s.excluded = false →
    img.version.toNat = fieldAt k.payload 0 4 → s.sealFits img = true → s.movingAxes = [] → s.sec.shadowsAgree rollback = false →
    ∃ t, exec c s = .next t ∧ t.sec.active = s.sec.active ∧ t.sec.staged = s.sec.staged ∧ t.sec.previous = s.sec.previous ∧
      t.sec.activating = none ∧ t.params = s.params ∧ t.Replied (pendOf code k.hdr) 0x30 0 [] ∧
      s.Announces Evt.configStageRefused noSource [0x30, 0] t) ∧
  (∀ (s : State) (x : Activating) (img : Image) (at' : Nat), s.sec.activating = some x → x.at' = some at' → at' ≤ s.tick →
    s.sec.active = some img →
    ∃ t, exec .activationTick s = .next t ∧ t.sec.activating = none ∧ t.sec.activations = s.sec.activations + 1 ∧
      t.sec.active = some img ∧ t.prog.override = none ∧ t.host.exclusive = none)

/-- ATTEST_CHALLENGE, ATTEST_SIGNED, ATTEST_CONTINUATION, CERT_READ, HOST_KEY_SET, HOST_KEY_REVOKE, CAL_CHECK and HOST_PACKET_REJECTED
(12 R414, R421, R422, 14 R466, R488 to R490). That the revocation of an empty slot has the same effect and record, and that a read of the
certificate or the report past its end answers OK with N = 0, are the model's choices (log 65), and the digest of a sector that is not the one in
OTP is log 99. -/
def Obligations.AttestationKeysAndRejectedPackets : Prop :=
  (∀ (s : State) (k : Pkt) (x : Session), s.Passes { code := 0x0060, perm := .read, lenOk := true, deferred := true } k x →
    k.payload.length = 32 → isContinuation k.payload = false → s.hallB.inReset = false → s.sec.attesting = none →
    ∃ t, exec (.attestChallenge k) s = .next t ∧ t.sec.attesting = some ⟨s.reportBody k.payload, pendOf 0x0060 k.hdr⟩) ∧
  (∀ (s : State) (x : Attest) (y : Session), s.sec.attesting = some x → s.hallB.inReset = false → x.pend.ended = false → x.pend.session ≠ 0 →
    s.session? x.pend.session = some y → y.src = x.pend.src → y.sv = x.pend.sv →
    ∃ t, exec .attestSigned s = .next t ∧ t.sec.attesting = none ∧ t.sec.attests = s.sec.attests + 1 ∧
      t.sec.report = some (x.pend.session, signedReport x.body) ∧ t.Replied x.pend 0 0 (reportPiece (signedReport x.body) 0)) ∧
  (∀ (s : State) (k : Pkt) (x : Session) (r : Bytes), s.Passes { code := 0x0060, perm := .read, lenOk := true } k x →
    k.payload.length = 32 → isContinuation k.payload = true → s.hallB.inReset = false →
    s.sec.report = some (k.hdr.session, r) →
    ∃ t, exec (.attestContinuation k) s = .next t ∧
      t.Replied (pendOf 0x0060 k.hdr) 0 0 (reportPiece r (fieldAt k.payload 28 4))) ∧
  (∀ (s : State) (k : Pkt) (x : Session) (bs : Bytes), s.Passes { code := 0x0061, perm := .read, lenOk := true } k x →
    k.payload.length = 8 → 1 ≤ fieldAt k.payload 4 2 → fieldAt k.payload 4 2 ≤ 4096 → s.hallB.inReset = false →
    bs = (s.sec.certificate.drop (fieldAt k.payload 0 4)).take (fieldAt k.payload 4 2) →
    ∃ t, exec (.certRead k) s = .next t ∧
      t.Replied (pendOf 0x0061 k.hdr) 0 0 (leBytes 4 s.sec.certificate.length ++ leBytes 2 bs.length ++ [0, 0] ++ bs)) ∧
  (∀ (s : State) (k : Pkt) (x : Session) (slot role : Nat), s.Passes { code := 0x0062, perm := .read, lenOk := true } k x →
    k.payload.length = 36 → k.hdr.sv = true → x.role = 5 ∨ (x.role = 0 ∧ (∀ y ∈ s.host.keys, y = none) ∧ slot = 0 ∧ role = 5) →
    slot = fieldAt k.payload 0 1 → role = fieldAt k.payload 1 1 → slot ≤ 7 → 1 ≤ role → role ≤ 5 →
    s.host.keys.getD slot none = none →
    ∃ t, exec (.hostKeySet k) s = .next t ∧ t.host.keys = s.host.keys.set slot (some ⟨(k.payload.drop 4).take 32, role⟩) ∧
      t.Replied (pendOf 0x0062 k.hdr) 0 0 [] ∧ s.Announces Evt.hostKeySet noSource [word32 slot, word32 role] t) ∧
  (∀ (s : State) (k : Pkt) (x : Session) (slot : Nat), s.Passes { code := 0x0063, perm := .config, lenOk := true } k x →
    k.payload.length = 4 → slot = fieldAt k.payload 0 1 → slot ≤ 7 →
    ∃ t, exec (.hostKeyRevoke k) s = .next t ∧ t.host.keys = s.host.keys.set slot none ∧
      (∀ y ∈ t.host.sessions, y.role = 0 ∨ y.slot ≠ slot) ∧
      OutMsg.event Evt.hostKeyRevoked.code noSource [word32 slot] ∈ t.outs) ∧
  (∀ (s : State) (k : Pkt) (x : Session), s.Passes { code := 0x0072, perm := .read, lenOk := true, deferred := true } k x →
    k.payload = [] → s.hallB.inReset = false →
    ∃ t, exec (.calCheck k) s = .next t ∧
      t.Replied (pendOf 0x0072 k.hdr) 0 0 (leBytes 1 (bitN s.sectorOk 0 + bitN s.portionOk 1 + bitN s.trimsOk 2) ++
        [0, 0, 0] ++ s.sectorDigest)) ∧
  (∀ (s : State) (sv : Bool) (src : BitVec 48) (frame : Bytes), s.linkUp sv = true →
    ((∀ raw, rawPacket sv frame = some raw → rawDiscarded raw = true) →
      exec (.hostPacketRejected sv src frame) s = .next { s with host := { s.host with rxDiscards := s.host.rxDiscards + 1 } }) ∧
    (∀ raw st, rawPacket sv frame = some raw → rawDiscarded raw = false → (rawPkt sv src raw).hdr.addr = 0xFF → rawStatus raw = some st →
      ∃ t, exec (.hostPacketRejected sv src frame) s = .next t ∧
        t.Replied (pendOf (fieldAt raw 8 2) (rawPkt sv src raw).hdr) st 0 []))
end

