-- ==== Sys2Proof/Laws/State.lean ====
section
/-! SUPPORT. The updates of State, field by field: what each leaves alone, and what it gives the field that it changes; and a unit read
after it was changed. -/

namespace Sys2Proof.Machine

variable {s : State}

@[simp] theorem State.modTread_pending {n : Nat} {f : Tread → Tread} : (s.modTread n f).pending = s.pending := rfl
@[simp] theorem State.modTread_clock {n : Nat} {f : Tread → Tread} : (s.modTread n f).clock = s.clock := rfl
@[simp] theorem State.modTread_params {n : Nat} {f : Tread → Tread} : (s.modTread n f).params = s.params := rfl
@[simp] theorem State.modTread_supply {n : Nat} {f : Tread → Tread} : (s.modTread n f).supply = s.supply := rfl
@[simp] theorem State.modTread_limp {n : Nat} {f : Tread → Tread} : (s.modTread n f).limp = s.limp := rfl
@[simp] theorem State.modTread_flightBudgets {n : Nat} {f : Tread → Tread} : (s.modTread n f).flightBudgets = s.flightBudgets := rfl
@[simp] theorem State.modTread_storeyBudgets {n : Nat} {f : Tread → Tread} : (s.modTread n f).storeyBudgets = s.storeyBudgets := rfl
@[simp] theorem State.modTread_dieBudgets {n : Nat} {f : Tread → Tread} : (s.modTread n f).dieBudgets = s.dieBudgets := rfl
@[simp] theorem State.modTread_currentBudget {n : Nat} {f : Tread → Tread} : (s.modTread n f).currentBudget = s.currentBudget := rfl
@[simp] theorem State.modTread_thermalBudget {n : Nat} {f : Tread → Tread} : (s.modTread n f).thermalBudget = s.thermalBudget := rfl
@[simp] theorem State.modTread_storeys {n : Nat} {f : Tread → Tread} : (s.modTread n f).storeys = s.storeys := rfl
@[simp] theorem State.modTread_dies {n : Nat} {f : Tread → Tread} : (s.modTread n f).dies = s.dies := rfl
@[simp] theorem State.modTread_flightPower {n : Nat} {f : Tread → Tread} : (s.modTread n f).flightPower = s.flightPower := rfl
@[simp] theorem State.modTread_baseplate {n : Nat} {f : Tread → Tread} : (s.modTread n f).baseplate = s.baseplate := rfl
@[simp] theorem State.modTread_dissip {n : Nat} {f : Tread → Tread} : (s.modTread n f).dissip = s.dissip := rfl
@[simp] theorem State.modTread_senses {n : Nat} {f : Tread → Tread} : (s.modTread n f).senses = s.senses := rfl
@[simp] theorem State.modTread_cleaners {n : Nat} {f : Tread → Tread} : (s.modTread n f).cleaners = s.cleaners := rfl
@[simp] theorem State.modTread_ports {n : Nat} {f : Tread → Tread} : (s.modTread n f).ports = s.ports := rfl
@[simp] theorem State.modTread_echos {n : Nat} {f : Tread → Tread} : (s.modTread n f).echos = s.echos := rfl
@[simp] theorem State.modTread_axes {n : Nat} {f : Tread → Tread} : (s.modTread n f).axes = s.axes := rfl
@[simp] theorem State.modTread_doors {n : Nat} {f : Tread → Tread} : (s.modTread n f).doors = s.doors := rfl
@[simp] theorem State.modTread_obst {n : Nat} {f : Tread → Tread} : (s.modTread n f).obst = s.obst := rfl
@[simp] theorem State.modTread_hallA {n : Nat} {f : Tread → Tread} : (s.modTread n f).hallA = s.hallA := rfl
@[simp] theorem State.modTread_hallB {n : Nat} {f : Tread → Tread} : (s.modTread n f).hallB = s.hallB := rfl
@[simp] theorem State.modTread_safety {n : Nat} {f : Tread → Tread} : (s.modTread n f).safety = s.safety := rfl
@[simp] theorem State.modTread_conns {n : Nat} {f : Tread → Tread} : (s.modTread n f).conns = s.conns := rfl
@[simp] theorem State.modTread_firstStandby {n : Nat} {f : Tread → Tread} : (s.modTread n f).firstStandby = s.firstStandby := rfl
@[simp] theorem State.modTread_train {n : Nat} {f : Tread → Tread} : (s.modTread n f).train = s.train := rfl
@[simp] theorem State.modTread_prog {n : Nat} {f : Tread → Tread} : (s.modTread n f).prog = s.prog := rfl
@[simp] theorem State.modTread_can {n : Nat} {f : Tread → Tread} : (s.modTread n f).can = s.can := rfl
@[simp] theorem State.modTread_gallery {n : Nat} {f : Tread → Tread} : (s.modTread n f).gallery = s.gallery := rfl
@[simp] theorem State.modTread_host {n : Nat} {f : Tread → Tread} : (s.modTread n f).host = s.host := rfl
@[simp] theorem State.modTread_ring {n : Nat} {f : Tread → Tread} : (s.modTread n f).ring = s.ring := rfl
@[simp] theorem State.modTread_sec {n : Nat} {f : Tread → Tread} : (s.modTread n f).sec = s.sec := rfl
@[simp] theorem State.modTread_outs {n : Nat} {f : Tread → Tread} : (s.modTread n f).outs = s.outs := rfl
@[simp] theorem State.modTread_draws {n : Nat} {f : Tread → Tread} : (s.modTread n f).draws = s.draws := rfl
@[simp] theorem State.modTread_treads {n : Nat} {f : Tread → Tread} : (s.modTread n f).treads = s.treads.modify n f := rfl
theorem State.tread_modTread {n : Nat} {f : Tread → Tread} (h : n < s.treads.length) : (s.modTread n f).tread n = f (s.tread n) := by
  simp [State.tread, State.modTread, h]
theorem State.tread_modTread_ne {n : Nat} {f : Tread → Tread} {m : Nat} (h : n ≠ m) : (s.modTread n f).tread m = s.tread m := by
  simp [State.tread, State.modTread, h]

@[simp] theorem State.modStorey_pending {n : Nat} {f : Storey → Storey} : (s.modStorey n f).pending = s.pending := rfl
@[simp] theorem State.modStorey_clock {n : Nat} {f : Storey → Storey} : (s.modStorey n f).clock = s.clock := rfl
@[simp] theorem State.modStorey_params {n : Nat} {f : Storey → Storey} : (s.modStorey n f).params = s.params := rfl
@[simp] theorem State.modStorey_supply {n : Nat} {f : Storey → Storey} : (s.modStorey n f).supply = s.supply := rfl
@[simp] theorem State.modStorey_limp {n : Nat} {f : Storey → Storey} : (s.modStorey n f).limp = s.limp := rfl
@[simp] theorem State.modStorey_flightBudgets {n : Nat} {f : Storey → Storey} : (s.modStorey n f).flightBudgets = s.flightBudgets := rfl
@[simp] theorem State.modStorey_storeyBudgets {n : Nat} {f : Storey → Storey} : (s.modStorey n f).storeyBudgets = s.storeyBudgets := rfl
@[simp] theorem State.modStorey_dieBudgets {n : Nat} {f : Storey → Storey} : (s.modStorey n f).dieBudgets = s.dieBudgets := rfl
@[simp] theorem State.modStorey_currentBudget {n : Nat} {f : Storey → Storey} : (s.modStorey n f).currentBudget = s.currentBudget := rfl
@[simp] theorem State.modStorey_thermalBudget {n : Nat} {f : Storey → Storey} : (s.modStorey n f).thermalBudget = s.thermalBudget := rfl
@[simp] theorem State.modStorey_dies {n : Nat} {f : Storey → Storey} : (s.modStorey n f).dies = s.dies := rfl
@[simp] theorem State.modStorey_flightPower {n : Nat} {f : Storey → Storey} : (s.modStorey n f).flightPower = s.flightPower := rfl
@[simp] theorem State.modStorey_treads {n : Nat} {f : Storey → Storey} : (s.modStorey n f).treads = s.treads := rfl
@[simp] theorem State.modStorey_baseplate {n : Nat} {f : Storey → Storey} : (s.modStorey n f).baseplate = s.baseplate := rfl
@[simp] theorem State.modStorey_dissip {n : Nat} {f : Storey → Storey} : (s.modStorey n f).dissip = s.dissip := rfl
@[simp] theorem State.modStorey_senses {n : Nat} {f : Storey → Storey} : (s.modStorey n f).senses = s.senses := rfl
@[simp] theorem State.modStorey_cleaners {n : Nat} {f : Storey → Storey} : (s.modStorey n f).cleaners = s.cleaners := rfl
@[simp] theorem State.modStorey_ports {n : Nat} {f : Storey → Storey} : (s.modStorey n f).ports = s.ports := rfl
@[simp] theorem State.modStorey_echos {n : Nat} {f : Storey → Storey} : (s.modStorey n f).echos = s.echos := rfl
@[simp] theorem State.modStorey_axes {n : Nat} {f : Storey → Storey} : (s.modStorey n f).axes = s.axes := rfl
@[simp] theorem State.modStorey_doors {n : Nat} {f : Storey → Storey} : (s.modStorey n f).doors = s.doors := rfl
@[simp] theorem State.modStorey_obst {n : Nat} {f : Storey → Storey} : (s.modStorey n f).obst = s.obst := rfl
@[simp] theorem State.modStorey_hallA {n : Nat} {f : Storey → Storey} : (s.modStorey n f).hallA = s.hallA := rfl
@[simp] theorem State.modStorey_hallB {n : Nat} {f : Storey → Storey} : (s.modStorey n f).hallB = s.hallB := rfl
@[simp] theorem State.modStorey_safety {n : Nat} {f : Storey → Storey} : (s.modStorey n f).safety = s.safety := rfl
@[simp] theorem State.modStorey_conns {n : Nat} {f : Storey → Storey} : (s.modStorey n f).conns = s.conns := rfl
@[simp] theorem State.modStorey_firstStandby {n : Nat} {f : Storey → Storey} : (s.modStorey n f).firstStandby = s.firstStandby := rfl
@[simp] theorem State.modStorey_train {n : Nat} {f : Storey → Storey} : (s.modStorey n f).train = s.train := rfl
@[simp] theorem State.modStorey_prog {n : Nat} {f : Storey → Storey} : (s.modStorey n f).prog = s.prog := rfl
@[simp] theorem State.modStorey_can {n : Nat} {f : Storey → Storey} : (s.modStorey n f).can = s.can := rfl
@[simp] theorem State.modStorey_gallery {n : Nat} {f : Storey → Storey} : (s.modStorey n f).gallery = s.gallery := rfl
@[simp] theorem State.modStorey_host {n : Nat} {f : Storey → Storey} : (s.modStorey n f).host = s.host := rfl
@[simp] theorem State.modStorey_ring {n : Nat} {f : Storey → Storey} : (s.modStorey n f).ring = s.ring := rfl
@[simp] theorem State.modStorey_sec {n : Nat} {f : Storey → Storey} : (s.modStorey n f).sec = s.sec := rfl
@[simp] theorem State.modStorey_outs {n : Nat} {f : Storey → Storey} : (s.modStorey n f).outs = s.outs := rfl
@[simp] theorem State.modStorey_draws {n : Nat} {f : Storey → Storey} : (s.modStorey n f).draws = s.draws := rfl
@[simp] theorem State.modStorey_storeys {n : Nat} {f : Storey → Storey} : (s.modStorey n f).storeys = s.storeys.modify n f := rfl
theorem State.storey_modStorey {n : Nat} {f : Storey → Storey} (h : n < s.storeys.length) : (s.modStorey n f).storey n = f (s.storey n) := by
  simp [State.storey, State.modStorey, h]
theorem State.storey_modStorey_ne {n : Nat} {f : Storey → Storey} {m : Nat} (h : n ≠ m) : (s.modStorey n f).storey m = s.storey m := by
  simp [State.storey, State.modStorey, h]

@[simp] theorem State.modDie_pending {n : Nat} {f : Die → Die} : (s.modDie n f).pending = s.pending := rfl
@[simp] theorem State.modDie_clock {n : Nat} {f : Die → Die} : (s.modDie n f).clock = s.clock := rfl
@[simp] theorem State.modDie_params {n : Nat} {f : Die → Die} : (s.modDie n f).params = s.params := rfl
@[simp] theorem State.modDie_supply {n : Nat} {f : Die → Die} : (s.modDie n f).supply = s.supply := rfl
@[simp] theorem State.modDie_limp {n : Nat} {f : Die → Die} : (s.modDie n f).limp = s.limp := rfl
@[simp] theorem State.modDie_flightBudgets {n : Nat} {f : Die → Die} : (s.modDie n f).flightBudgets = s.flightBudgets := rfl
@[simp] theorem State.modDie_storeyBudgets {n : Nat} {f : Die → Die} : (s.modDie n f).storeyBudgets = s.storeyBudgets := rfl
@[simp] theorem State.modDie_dieBudgets {n : Nat} {f : Die → Die} : (s.modDie n f).dieBudgets = s.dieBudgets := rfl
@[simp] theorem State.modDie_currentBudget {n : Nat} {f : Die → Die} : (s.modDie n f).currentBudget = s.currentBudget := rfl
@[simp] theorem State.modDie_thermalBudget {n : Nat} {f : Die → Die} : (s.modDie n f).thermalBudget = s.thermalBudget := rfl
@[simp] theorem State.modDie_storeys {n : Nat} {f : Die → Die} : (s.modDie n f).storeys = s.storeys := rfl
@[simp] theorem State.modDie_flightPower {n : Nat} {f : Die → Die} : (s.modDie n f).flightPower = s.flightPower := rfl
@[simp] theorem State.modDie_treads {n : Nat} {f : Die → Die} : (s.modDie n f).treads = s.treads := rfl
@[simp] theorem State.modDie_baseplate {n : Nat} {f : Die → Die} : (s.modDie n f).baseplate = s.baseplate := rfl
@[simp] theorem State.modDie_dissip {n : Nat} {f : Die → Die} : (s.modDie n f).dissip = s.dissip := rfl
@[simp] theorem State.modDie_senses {n : Nat} {f : Die → Die} : (s.modDie n f).senses = s.senses := rfl
@[simp] theorem State.modDie_cleaners {n : Nat} {f : Die → Die} : (s.modDie n f).cleaners = s.cleaners := rfl
@[simp] theorem State.modDie_ports {n : Nat} {f : Die → Die} : (s.modDie n f).ports = s.ports := rfl
@[simp] theorem State.modDie_echos {n : Nat} {f : Die → Die} : (s.modDie n f).echos = s.echos := rfl
@[simp] theorem State.modDie_axes {n : Nat} {f : Die → Die} : (s.modDie n f).axes = s.axes := rfl
@[simp] theorem State.modDie_doors {n : Nat} {f : Die → Die} : (s.modDie n f).doors = s.doors := rfl
@[simp] theorem State.modDie_obst {n : Nat} {f : Die → Die} : (s.modDie n f).obst = s.obst := rfl
@[simp] theorem State.modDie_hallA {n : Nat} {f : Die → Die} : (s.modDie n f).hallA = s.hallA := rfl
@[simp] theorem State.modDie_hallB {n : Nat} {f : Die → Die} : (s.modDie n f).hallB = s.hallB := rfl
@[simp] theorem State.modDie_safety {n : Nat} {f : Die → Die} : (s.modDie n f).safety = s.safety := rfl
@[simp] theorem State.modDie_conns {n : Nat} {f : Die → Die} : (s.modDie n f).conns = s.conns := rfl
@[simp] theorem State.modDie_firstStandby {n : Nat} {f : Die → Die} : (s.modDie n f).firstStandby = s.firstStandby := rfl
@[simp] theorem State.modDie_train {n : Nat} {f : Die → Die} : (s.modDie n f).train = s.train := rfl
@[simp] theorem State.modDie_prog {n : Nat} {f : Die → Die} : (s.modDie n f).prog = s.prog := rfl
@[simp] theorem State.modDie_can {n : Nat} {f : Die → Die} : (s.modDie n f).can = s.can := rfl
@[simp] theorem State.modDie_gallery {n : Nat} {f : Die → Die} : (s.modDie n f).gallery = s.gallery := rfl
@[simp] theorem State.modDie_host {n : Nat} {f : Die → Die} : (s.modDie n f).host = s.host := rfl
@[simp] theorem State.modDie_ring {n : Nat} {f : Die → Die} : (s.modDie n f).ring = s.ring := rfl
@[simp] theorem State.modDie_sec {n : Nat} {f : Die → Die} : (s.modDie n f).sec = s.sec := rfl
@[simp] theorem State.modDie_outs {n : Nat} {f : Die → Die} : (s.modDie n f).outs = s.outs := rfl
@[simp] theorem State.modDie_draws {n : Nat} {f : Die → Die} : (s.modDie n f).draws = s.draws := rfl
@[simp] theorem State.modDie_dies {n : Nat} {f : Die → Die} : (s.modDie n f).dies = s.dies.modify n f := rfl
theorem State.die_modDie {n : Nat} {f : Die → Die} (h : n < s.dies.length) : (s.modDie n f).die n = f (s.die n) := by
  simp [State.die, State.modDie, h]
theorem State.die_modDie_ne {n : Nat} {f : Die → Die} {m : Nat} (h : n ≠ m) : (s.modDie n f).die m = s.die m := by
  simp [State.die, State.modDie, h]

@[simp] theorem State.modLimp_pending {n : Nat} {f : LimpHome → LimpHome} : (s.modLimp n f).pending = s.pending := rfl
@[simp] theorem State.modLimp_clock {n : Nat} {f : LimpHome → LimpHome} : (s.modLimp n f).clock = s.clock := rfl
@[simp] theorem State.modLimp_params {n : Nat} {f : LimpHome → LimpHome} : (s.modLimp n f).params = s.params := rfl
@[simp] theorem State.modLimp_supply {n : Nat} {f : LimpHome → LimpHome} : (s.modLimp n f).supply = s.supply := rfl
@[simp] theorem State.modLimp_flightBudgets {n : Nat} {f : LimpHome → LimpHome} : (s.modLimp n f).flightBudgets = s.flightBudgets := rfl
@[simp] theorem State.modLimp_storeyBudgets {n : Nat} {f : LimpHome → LimpHome} : (s.modLimp n f).storeyBudgets = s.storeyBudgets := rfl
@[simp] theorem State.modLimp_dieBudgets {n : Nat} {f : LimpHome → LimpHome} : (s.modLimp n f).dieBudgets = s.dieBudgets := rfl
@[simp] theorem State.modLimp_currentBudget {n : Nat} {f : LimpHome → LimpHome} : (s.modLimp n f).currentBudget = s.currentBudget := rfl
@[simp] theorem State.modLimp_thermalBudget {n : Nat} {f : LimpHome → LimpHome} : (s.modLimp n f).thermalBudget = s.thermalBudget := rfl
@[simp] theorem State.modLimp_storeys {n : Nat} {f : LimpHome → LimpHome} : (s.modLimp n f).storeys = s.storeys := rfl
@[simp] theorem State.modLimp_dies {n : Nat} {f : LimpHome → LimpHome} : (s.modLimp n f).dies = s.dies := rfl
@[simp] theorem State.modLimp_flightPower {n : Nat} {f : LimpHome → LimpHome} : (s.modLimp n f).flightPower = s.flightPower := rfl
@[simp] theorem State.modLimp_treads {n : Nat} {f : LimpHome → LimpHome} : (s.modLimp n f).treads = s.treads := rfl
@[simp] theorem State.modLimp_baseplate {n : Nat} {f : LimpHome → LimpHome} : (s.modLimp n f).baseplate = s.baseplate := rfl
@[simp] theorem State.modLimp_dissip {n : Nat} {f : LimpHome → LimpHome} : (s.modLimp n f).dissip = s.dissip := rfl
@[simp] theorem State.modLimp_senses {n : Nat} {f : LimpHome → LimpHome} : (s.modLimp n f).senses = s.senses := rfl
@[simp] theorem State.modLimp_cleaners {n : Nat} {f : LimpHome → LimpHome} : (s.modLimp n f).cleaners = s.cleaners := rfl
@[simp] theorem State.modLimp_ports {n : Nat} {f : LimpHome → LimpHome} : (s.modLimp n f).ports = s.ports := rfl
@[simp] theorem State.modLimp_echos {n : Nat} {f : LimpHome → LimpHome} : (s.modLimp n f).echos = s.echos := rfl
@[simp] theorem State.modLimp_axes {n : Nat} {f : LimpHome → LimpHome} : (s.modLimp n f).axes = s.axes := rfl
@[simp] theorem State.modLimp_doors {n : Nat} {f : LimpHome → LimpHome} : (s.modLimp n f).doors = s.doors := rfl
@[simp] theorem State.modLimp_obst {n : Nat} {f : LimpHome → LimpHome} : (s.modLimp n f).obst = s.obst := rfl
@[simp] theorem State.modLimp_hallA {n : Nat} {f : LimpHome → LimpHome} : (s.modLimp n f).hallA = s.hallA := rfl
@[simp] theorem State.modLimp_hallB {n : Nat} {f : LimpHome → LimpHome} : (s.modLimp n f).hallB = s.hallB := rfl
@[simp] theorem State.modLimp_safety {n : Nat} {f : LimpHome → LimpHome} : (s.modLimp n f).safety = s.safety := rfl
@[simp] theorem State.modLimp_conns {n : Nat} {f : LimpHome → LimpHome} : (s.modLimp n f).conns = s.conns := rfl
@[simp] theorem State.modLimp_firstStandby {n : Nat} {f : LimpHome → LimpHome} : (s.modLimp n f).firstStandby = s.firstStandby := rfl
@[simp] theorem State.modLimp_train {n : Nat} {f : LimpHome → LimpHome} : (s.modLimp n f).train = s.train := rfl
@[simp] theorem State.modLimp_prog {n : Nat} {f : LimpHome → LimpHome} : (s.modLimp n f).prog = s.prog := rfl
@[simp] theorem State.modLimp_can {n : Nat} {f : LimpHome → LimpHome} : (s.modLimp n f).can = s.can := rfl
@[simp] theorem State.modLimp_gallery {n : Nat} {f : LimpHome → LimpHome} : (s.modLimp n f).gallery = s.gallery := rfl
@[simp] theorem State.modLimp_host {n : Nat} {f : LimpHome → LimpHome} : (s.modLimp n f).host = s.host := rfl
@[simp] theorem State.modLimp_ring {n : Nat} {f : LimpHome → LimpHome} : (s.modLimp n f).ring = s.ring := rfl
@[simp] theorem State.modLimp_sec {n : Nat} {f : LimpHome → LimpHome} : (s.modLimp n f).sec = s.sec := rfl
@[simp] theorem State.modLimp_outs {n : Nat} {f : LimpHome → LimpHome} : (s.modLimp n f).outs = s.outs := rfl
@[simp] theorem State.modLimp_draws {n : Nat} {f : LimpHome → LimpHome} : (s.modLimp n f).draws = s.draws := rfl
@[simp] theorem State.modLimp_limp {n : Nat} {f : LimpHome → LimpHome} : (s.modLimp n f).limp = s.limp.modify n f := rfl
theorem State.limpOf_modLimp {n : Nat} {f : LimpHome → LimpHome} (h : n < s.limp.length) : (s.modLimp n f).limpOf n = f (s.limpOf n) := by
  simp [State.limpOf, State.modLimp, h]
theorem State.limpOf_modLimp_ne {n : Nat} {f : LimpHome → LimpHome} {m : Nat} (h : n ≠ m) : (s.modLimp n f).limpOf m = s.limpOf m := by
  simp [State.limpOf, State.modLimp, h]

@[simp] theorem State.modFpower_pending {n : Nat} {f : FlightPower → FlightPower} : (s.modFpower n f).pending = s.pending := rfl
@[simp] theorem State.modFpower_clock {n : Nat} {f : FlightPower → FlightPower} : (s.modFpower n f).clock = s.clock := rfl
@[simp] theorem State.modFpower_params {n : Nat} {f : FlightPower → FlightPower} : (s.modFpower n f).params = s.params := rfl
@[simp] theorem State.modFpower_supply {n : Nat} {f : FlightPower → FlightPower} : (s.modFpower n f).supply = s.supply := rfl
@[simp] theorem State.modFpower_limp {n : Nat} {f : FlightPower → FlightPower} : (s.modFpower n f).limp = s.limp := rfl
@[simp] theorem State.modFpower_flightBudgets {n : Nat} {f : FlightPower → FlightPower} : (s.modFpower n f).flightBudgets = s.flightBudgets := rfl
@[simp] theorem State.modFpower_storeyBudgets {n : Nat} {f : FlightPower → FlightPower} : (s.modFpower n f).storeyBudgets = s.storeyBudgets := rfl
@[simp] theorem State.modFpower_dieBudgets {n : Nat} {f : FlightPower → FlightPower} : (s.modFpower n f).dieBudgets = s.dieBudgets := rfl
@[simp] theorem State.modFpower_currentBudget {n : Nat} {f : FlightPower → FlightPower} : (s.modFpower n f).currentBudget = s.currentBudget := rfl
@[simp] theorem State.modFpower_thermalBudget {n : Nat} {f : FlightPower → FlightPower} : (s.modFpower n f).thermalBudget = s.thermalBudget := rfl
@[simp] theorem State.modFpower_storeys {n : Nat} {f : FlightPower → FlightPower} : (s.modFpower n f).storeys = s.storeys := rfl
@[simp] theorem State.modFpower_dies {n : Nat} {f : FlightPower → FlightPower} : (s.modFpower n f).dies = s.dies := rfl
@[simp] theorem State.modFpower_treads {n : Nat} {f : FlightPower → FlightPower} : (s.modFpower n f).treads = s.treads := rfl
@[simp] theorem State.modFpower_baseplate {n : Nat} {f : FlightPower → FlightPower} : (s.modFpower n f).baseplate = s.baseplate := rfl
@[simp] theorem State.modFpower_dissip {n : Nat} {f : FlightPower → FlightPower} : (s.modFpower n f).dissip = s.dissip := rfl
@[simp] theorem State.modFpower_senses {n : Nat} {f : FlightPower → FlightPower} : (s.modFpower n f).senses = s.senses := rfl
@[simp] theorem State.modFpower_cleaners {n : Nat} {f : FlightPower → FlightPower} : (s.modFpower n f).cleaners = s.cleaners := rfl
@[simp] theorem State.modFpower_ports {n : Nat} {f : FlightPower → FlightPower} : (s.modFpower n f).ports = s.ports := rfl
@[simp] theorem State.modFpower_echos {n : Nat} {f : FlightPower → FlightPower} : (s.modFpower n f).echos = s.echos := rfl
@[simp] theorem State.modFpower_axes {n : Nat} {f : FlightPower → FlightPower} : (s.modFpower n f).axes = s.axes := rfl
@[simp] theorem State.modFpower_doors {n : Nat} {f : FlightPower → FlightPower} : (s.modFpower n f).doors = s.doors := rfl
@[simp] theorem State.modFpower_obst {n : Nat} {f : FlightPower → FlightPower} : (s.modFpower n f).obst = s.obst := rfl
@[simp] theorem State.modFpower_hallA {n : Nat} {f : FlightPower → FlightPower} : (s.modFpower n f).hallA = s.hallA := rfl
@[simp] theorem State.modFpower_hallB {n : Nat} {f : FlightPower → FlightPower} : (s.modFpower n f).hallB = s.hallB := rfl
@[simp] theorem State.modFpower_safety {n : Nat} {f : FlightPower → FlightPower} : (s.modFpower n f).safety = s.safety := rfl
@[simp] theorem State.modFpower_conns {n : Nat} {f : FlightPower → FlightPower} : (s.modFpower n f).conns = s.conns := rfl
@[simp] theorem State.modFpower_firstStandby {n : Nat} {f : FlightPower → FlightPower} : (s.modFpower n f).firstStandby = s.firstStandby := rfl
@[simp] theorem State.modFpower_train {n : Nat} {f : FlightPower → FlightPower} : (s.modFpower n f).train = s.train := rfl
@[simp] theorem State.modFpower_prog {n : Nat} {f : FlightPower → FlightPower} : (s.modFpower n f).prog = s.prog := rfl
@[simp] theorem State.modFpower_can {n : Nat} {f : FlightPower → FlightPower} : (s.modFpower n f).can = s.can := rfl
@[simp] theorem State.modFpower_gallery {n : Nat} {f : FlightPower → FlightPower} : (s.modFpower n f).gallery = s.gallery := rfl
@[simp] theorem State.modFpower_host {n : Nat} {f : FlightPower → FlightPower} : (s.modFpower n f).host = s.host := rfl
@[simp] theorem State.modFpower_ring {n : Nat} {f : FlightPower → FlightPower} : (s.modFpower n f).ring = s.ring := rfl
@[simp] theorem State.modFpower_sec {n : Nat} {f : FlightPower → FlightPower} : (s.modFpower n f).sec = s.sec := rfl
@[simp] theorem State.modFpower_outs {n : Nat} {f : FlightPower → FlightPower} : (s.modFpower n f).outs = s.outs := rfl
@[simp] theorem State.modFpower_draws {n : Nat} {f : FlightPower → FlightPower} : (s.modFpower n f).draws = s.draws := rfl
@[simp] theorem State.modFpower_flightPower {n : Nat} {f : FlightPower → FlightPower} : (s.modFpower n f).flightPower = s.flightPower.modify n f := rfl
theorem State.fpower_modFpower {n : Nat} {f : FlightPower → FlightPower} (h : n < s.flightPower.length) : (s.modFpower n f).fpower n = f (s.fpower n) := by
  simp [State.fpower, State.modFpower, h]
theorem State.fpower_modFpower_ne {n : Nat} {f : FlightPower → FlightPower} {m : Nat} (h : n ≠ m) : (s.modFpower n f).fpower m = s.fpower m := by
  simp [State.fpower, State.modFpower, h]

@[simp] theorem State.modSense_pending {n : Nat} {f : Sense → Sense} : (s.modSense n f).pending = s.pending := rfl
@[simp] theorem State.modSense_clock {n : Nat} {f : Sense → Sense} : (s.modSense n f).clock = s.clock := rfl
@[simp] theorem State.modSense_params {n : Nat} {f : Sense → Sense} : (s.modSense n f).params = s.params := rfl
@[simp] theorem State.modSense_supply {n : Nat} {f : Sense → Sense} : (s.modSense n f).supply = s.supply := rfl
@[simp] theorem State.modSense_limp {n : Nat} {f : Sense → Sense} : (s.modSense n f).limp = s.limp := rfl
@[simp] theorem State.modSense_flightBudgets {n : Nat} {f : Sense → Sense} : (s.modSense n f).flightBudgets = s.flightBudgets := rfl
@[simp] theorem State.modSense_storeyBudgets {n : Nat} {f : Sense → Sense} : (s.modSense n f).storeyBudgets = s.storeyBudgets := rfl
@[simp] theorem State.modSense_dieBudgets {n : Nat} {f : Sense → Sense} : (s.modSense n f).dieBudgets = s.dieBudgets := rfl
@[simp] theorem State.modSense_currentBudget {n : Nat} {f : Sense → Sense} : (s.modSense n f).currentBudget = s.currentBudget := rfl
@[simp] theorem State.modSense_thermalBudget {n : Nat} {f : Sense → Sense} : (s.modSense n f).thermalBudget = s.thermalBudget := rfl
@[simp] theorem State.modSense_storeys {n : Nat} {f : Sense → Sense} : (s.modSense n f).storeys = s.storeys := rfl
@[simp] theorem State.modSense_dies {n : Nat} {f : Sense → Sense} : (s.modSense n f).dies = s.dies := rfl
@[simp] theorem State.modSense_flightPower {n : Nat} {f : Sense → Sense} : (s.modSense n f).flightPower = s.flightPower := rfl
@[simp] theorem State.modSense_treads {n : Nat} {f : Sense → Sense} : (s.modSense n f).treads = s.treads := rfl
@[simp] theorem State.modSense_baseplate {n : Nat} {f : Sense → Sense} : (s.modSense n f).baseplate = s.baseplate := rfl
@[simp] theorem State.modSense_dissip {n : Nat} {f : Sense → Sense} : (s.modSense n f).dissip = s.dissip := rfl
@[simp] theorem State.modSense_cleaners {n : Nat} {f : Sense → Sense} : (s.modSense n f).cleaners = s.cleaners := rfl
@[simp] theorem State.modSense_ports {n : Nat} {f : Sense → Sense} : (s.modSense n f).ports = s.ports := rfl
@[simp] theorem State.modSense_echos {n : Nat} {f : Sense → Sense} : (s.modSense n f).echos = s.echos := rfl
@[simp] theorem State.modSense_axes {n : Nat} {f : Sense → Sense} : (s.modSense n f).axes = s.axes := rfl
@[simp] theorem State.modSense_doors {n : Nat} {f : Sense → Sense} : (s.modSense n f).doors = s.doors := rfl
@[simp] theorem State.modSense_obst {n : Nat} {f : Sense → Sense} : (s.modSense n f).obst = s.obst := rfl
@[simp] theorem State.modSense_hallA {n : Nat} {f : Sense → Sense} : (s.modSense n f).hallA = s.hallA := rfl
@[simp] theorem State.modSense_hallB {n : Nat} {f : Sense → Sense} : (s.modSense n f).hallB = s.hallB := rfl
@[simp] theorem State.modSense_safety {n : Nat} {f : Sense → Sense} : (s.modSense n f).safety = s.safety := rfl
@[simp] theorem State.modSense_conns {n : Nat} {f : Sense → Sense} : (s.modSense n f).conns = s.conns := rfl
@[simp] theorem State.modSense_firstStandby {n : Nat} {f : Sense → Sense} : (s.modSense n f).firstStandby = s.firstStandby := rfl
@[simp] theorem State.modSense_train {n : Nat} {f : Sense → Sense} : (s.modSense n f).train = s.train := rfl
@[simp] theorem State.modSense_prog {n : Nat} {f : Sense → Sense} : (s.modSense n f).prog = s.prog := rfl
@[simp] theorem State.modSense_can {n : Nat} {f : Sense → Sense} : (s.modSense n f).can = s.can := rfl
@[simp] theorem State.modSense_gallery {n : Nat} {f : Sense → Sense} : (s.modSense n f).gallery = s.gallery := rfl
@[simp] theorem State.modSense_host {n : Nat} {f : Sense → Sense} : (s.modSense n f).host = s.host := rfl
@[simp] theorem State.modSense_ring {n : Nat} {f : Sense → Sense} : (s.modSense n f).ring = s.ring := rfl
@[simp] theorem State.modSense_sec {n : Nat} {f : Sense → Sense} : (s.modSense n f).sec = s.sec := rfl
@[simp] theorem State.modSense_outs {n : Nat} {f : Sense → Sense} : (s.modSense n f).outs = s.outs := rfl
@[simp] theorem State.modSense_draws {n : Nat} {f : Sense → Sense} : (s.modSense n f).draws = s.draws := rfl
@[simp] theorem State.modSense_senses {n : Nat} {f : Sense → Sense} : (s.modSense n f).senses = s.senses.modify n f := rfl
theorem State.sense_modSense {n : Nat} {f : Sense → Sense} (h : n < s.senses.length) : (s.modSense n f).sense n = f (s.sense n) := by
  simp [State.sense, State.modSense, h]
theorem State.sense_modSense_ne {n : Nat} {f : Sense → Sense} {m : Nat} (h : n ≠ m) : (s.modSense n f).sense m = s.sense m := by
  simp [State.sense, State.modSense, h]

@[simp] theorem State.modPort_pending {n : Nat} {f : Port → Port} : (s.modPort n f).pending = s.pending := rfl
@[simp] theorem State.modPort_clock {n : Nat} {f : Port → Port} : (s.modPort n f).clock = s.clock := rfl
@[simp] theorem State.modPort_params {n : Nat} {f : Port → Port} : (s.modPort n f).params = s.params := rfl
@[simp] theorem State.modPort_supply {n : Nat} {f : Port → Port} : (s.modPort n f).supply = s.supply := rfl
@[simp] theorem State.modPort_limp {n : Nat} {f : Port → Port} : (s.modPort n f).limp = s.limp := rfl
@[simp] theorem State.modPort_flightBudgets {n : Nat} {f : Port → Port} : (s.modPort n f).flightBudgets = s.flightBudgets := rfl
@[simp] theorem State.modPort_storeyBudgets {n : Nat} {f : Port → Port} : (s.modPort n f).storeyBudgets = s.storeyBudgets := rfl
@[simp] theorem State.modPort_dieBudgets {n : Nat} {f : Port → Port} : (s.modPort n f).dieBudgets = s.dieBudgets := rfl
@[simp] theorem State.modPort_currentBudget {n : Nat} {f : Port → Port} : (s.modPort n f).currentBudget = s.currentBudget := rfl
@[simp] theorem State.modPort_thermalBudget {n : Nat} {f : Port → Port} : (s.modPort n f).thermalBudget = s.thermalBudget := rfl
@[simp] theorem State.modPort_storeys {n : Nat} {f : Port → Port} : (s.modPort n f).storeys = s.storeys := rfl
@[simp] theorem State.modPort_dies {n : Nat} {f : Port → Port} : (s.modPort n f).dies = s.dies := rfl
@[simp] theorem State.modPort_flightPower {n : Nat} {f : Port → Port} : (s.modPort n f).flightPower = s.flightPower := rfl
@[simp] theorem State.modPort_treads {n : Nat} {f : Port → Port} : (s.modPort n f).treads = s.treads := rfl
@[simp] theorem State.modPort_baseplate {n : Nat} {f : Port → Port} : (s.modPort n f).baseplate = s.baseplate := rfl
@[simp] theorem State.modPort_dissip {n : Nat} {f : Port → Port} : (s.modPort n f).dissip = s.dissip := rfl
@[simp] theorem State.modPort_senses {n : Nat} {f : Port → Port} : (s.modPort n f).senses = s.senses := rfl
@[simp] theorem State.modPort_cleaners {n : Nat} {f : Port → Port} : (s.modPort n f).cleaners = s.cleaners := rfl
@[simp] theorem State.modPort_echos {n : Nat} {f : Port → Port} : (s.modPort n f).echos = s.echos := rfl
@[simp] theorem State.modPort_axes {n : Nat} {f : Port → Port} : (s.modPort n f).axes = s.axes := rfl
@[simp] theorem State.modPort_doors {n : Nat} {f : Port → Port} : (s.modPort n f).doors = s.doors := rfl
@[simp] theorem State.modPort_obst {n : Nat} {f : Port → Port} : (s.modPort n f).obst = s.obst := rfl
@[simp] theorem State.modPort_hallA {n : Nat} {f : Port → Port} : (s.modPort n f).hallA = s.hallA := rfl
@[simp] theorem State.modPort_hallB {n : Nat} {f : Port → Port} : (s.modPort n f).hallB = s.hallB := rfl
@[simp] theorem State.modPort_safety {n : Nat} {f : Port → Port} : (s.modPort n f).safety = s.safety := rfl
@[simp] theorem State.modPort_conns {n : Nat} {f : Port → Port} : (s.modPort n f).conns = s.conns := rfl
@[simp] theorem State.modPort_firstStandby {n : Nat} {f : Port → Port} : (s.modPort n f).firstStandby = s.firstStandby := rfl
@[simp] theorem State.modPort_train {n : Nat} {f : Port → Port} : (s.modPort n f).train = s.train := rfl
@[simp] theorem State.modPort_prog {n : Nat} {f : Port → Port} : (s.modPort n f).prog = s.prog := rfl
@[simp] theorem State.modPort_can {n : Nat} {f : Port → Port} : (s.modPort n f).can = s.can := rfl
@[simp] theorem State.modPort_gallery {n : Nat} {f : Port → Port} : (s.modPort n f).gallery = s.gallery := rfl
@[simp] theorem State.modPort_host {n : Nat} {f : Port → Port} : (s.modPort n f).host = s.host := rfl
@[simp] theorem State.modPort_ring {n : Nat} {f : Port → Port} : (s.modPort n f).ring = s.ring := rfl
@[simp] theorem State.modPort_sec {n : Nat} {f : Port → Port} : (s.modPort n f).sec = s.sec := rfl
@[simp] theorem State.modPort_outs {n : Nat} {f : Port → Port} : (s.modPort n f).outs = s.outs := rfl
@[simp] theorem State.modPort_draws {n : Nat} {f : Port → Port} : (s.modPort n f).draws = s.draws := rfl
@[simp] theorem State.modPort_ports {n : Nat} {f : Port → Port} : (s.modPort n f).ports = s.ports.modify n f := rfl
theorem State.port_modPort {n : Nat} {f : Port → Port} (h : n < s.ports.length) : (s.modPort n f).port n = f (s.port n) := by
  simp [State.port, State.modPort, h]
theorem State.port_modPort_ne {n : Nat} {f : Port → Port} {m : Nat} (h : n ≠ m) : (s.modPort n f).port m = s.port m := by
  simp [State.port, State.modPort, h]

@[simp] theorem State.modEcho_pending {n : Nat} {f : Echo → Echo} : (s.modEcho n f).pending = s.pending := rfl
@[simp] theorem State.modEcho_clock {n : Nat} {f : Echo → Echo} : (s.modEcho n f).clock = s.clock := rfl
@[simp] theorem State.modEcho_params {n : Nat} {f : Echo → Echo} : (s.modEcho n f).params = s.params := rfl
@[simp] theorem State.modEcho_supply {n : Nat} {f : Echo → Echo} : (s.modEcho n f).supply = s.supply := rfl
@[simp] theorem State.modEcho_limp {n : Nat} {f : Echo → Echo} : (s.modEcho n f).limp = s.limp := rfl
@[simp] theorem State.modEcho_flightBudgets {n : Nat} {f : Echo → Echo} : (s.modEcho n f).flightBudgets = s.flightBudgets := rfl
@[simp] theorem State.modEcho_storeyBudgets {n : Nat} {f : Echo → Echo} : (s.modEcho n f).storeyBudgets = s.storeyBudgets := rfl
@[simp] theorem State.modEcho_dieBudgets {n : Nat} {f : Echo → Echo} : (s.modEcho n f).dieBudgets = s.dieBudgets := rfl
@[simp] theorem State.modEcho_currentBudget {n : Nat} {f : Echo → Echo} : (s.modEcho n f).currentBudget = s.currentBudget := rfl
@[simp] theorem State.modEcho_thermalBudget {n : Nat} {f : Echo → Echo} : (s.modEcho n f).thermalBudget = s.thermalBudget := rfl
@[simp] theorem State.modEcho_storeys {n : Nat} {f : Echo → Echo} : (s.modEcho n f).storeys = s.storeys := rfl
@[simp] theorem State.modEcho_dies {n : Nat} {f : Echo → Echo} : (s.modEcho n f).dies = s.dies := rfl
@[simp] theorem State.modEcho_flightPower {n : Nat} {f : Echo → Echo} : (s.modEcho n f).flightPower = s.flightPower := rfl
@[simp] theorem State.modEcho_treads {n : Nat} {f : Echo → Echo} : (s.modEcho n f).treads = s.treads := rfl
@[simp] theorem State.modEcho_baseplate {n : Nat} {f : Echo → Echo} : (s.modEcho n f).baseplate = s.baseplate := rfl
@[simp] theorem State.modEcho_dissip {n : Nat} {f : Echo → Echo} : (s.modEcho n f).dissip = s.dissip := rfl
@[simp] theorem State.modEcho_senses {n : Nat} {f : Echo → Echo} : (s.modEcho n f).senses = s.senses := rfl
@[simp] theorem State.modEcho_cleaners {n : Nat} {f : Echo → Echo} : (s.modEcho n f).cleaners = s.cleaners := rfl
@[simp] theorem State.modEcho_ports {n : Nat} {f : Echo → Echo} : (s.modEcho n f).ports = s.ports := rfl
@[simp] theorem State.modEcho_axes {n : Nat} {f : Echo → Echo} : (s.modEcho n f).axes = s.axes := rfl
@[simp] theorem State.modEcho_doors {n : Nat} {f : Echo → Echo} : (s.modEcho n f).doors = s.doors := rfl
@[simp] theorem State.modEcho_obst {n : Nat} {f : Echo → Echo} : (s.modEcho n f).obst = s.obst := rfl
@[simp] theorem State.modEcho_hallA {n : Nat} {f : Echo → Echo} : (s.modEcho n f).hallA = s.hallA := rfl
@[simp] theorem State.modEcho_hallB {n : Nat} {f : Echo → Echo} : (s.modEcho n f).hallB = s.hallB := rfl
@[simp] theorem State.modEcho_safety {n : Nat} {f : Echo → Echo} : (s.modEcho n f).safety = s.safety := rfl
@[simp] theorem State.modEcho_conns {n : Nat} {f : Echo → Echo} : (s.modEcho n f).conns = s.conns := rfl
@[simp] theorem State.modEcho_firstStandby {n : Nat} {f : Echo → Echo} : (s.modEcho n f).firstStandby = s.firstStandby := rfl
@[simp] theorem State.modEcho_train {n : Nat} {f : Echo → Echo} : (s.modEcho n f).train = s.train := rfl
@[simp] theorem State.modEcho_prog {n : Nat} {f : Echo → Echo} : (s.modEcho n f).prog = s.prog := rfl
@[simp] theorem State.modEcho_can {n : Nat} {f : Echo → Echo} : (s.modEcho n f).can = s.can := rfl
@[simp] theorem State.modEcho_gallery {n : Nat} {f : Echo → Echo} : (s.modEcho n f).gallery = s.gallery := rfl
@[simp] theorem State.modEcho_host {n : Nat} {f : Echo → Echo} : (s.modEcho n f).host = s.host := rfl
@[simp] theorem State.modEcho_ring {n : Nat} {f : Echo → Echo} : (s.modEcho n f).ring = s.ring := rfl
@[simp] theorem State.modEcho_sec {n : Nat} {f : Echo → Echo} : (s.modEcho n f).sec = s.sec := rfl
@[simp] theorem State.modEcho_outs {n : Nat} {f : Echo → Echo} : (s.modEcho n f).outs = s.outs := rfl
@[simp] theorem State.modEcho_draws {n : Nat} {f : Echo → Echo} : (s.modEcho n f).draws = s.draws := rfl
@[simp] theorem State.modEcho_echos {n : Nat} {f : Echo → Echo} : (s.modEcho n f).echos = s.echos.modify n f := rfl
theorem State.echo_modEcho {n : Nat} {f : Echo → Echo} (h : n < s.echos.length) : (s.modEcho n f).echo n = f (s.echo n) := by
  simp [State.echo, State.modEcho, h]
theorem State.echo_modEcho_ne {n : Nat} {f : Echo → Echo} {m : Nat} (h : n ≠ m) : (s.modEcho n f).echo m = s.echo m := by
  simp [State.echo, State.modEcho, h]

@[simp] theorem State.modAxis_pending {n : Nat} {f : Axis → Axis} : (s.modAxis n f).pending = s.pending := rfl
@[simp] theorem State.modAxis_clock {n : Nat} {f : Axis → Axis} : (s.modAxis n f).clock = s.clock := rfl
@[simp] theorem State.modAxis_params {n : Nat} {f : Axis → Axis} : (s.modAxis n f).params = s.params := rfl
@[simp] theorem State.modAxis_supply {n : Nat} {f : Axis → Axis} : (s.modAxis n f).supply = s.supply := rfl
@[simp] theorem State.modAxis_limp {n : Nat} {f : Axis → Axis} : (s.modAxis n f).limp = s.limp := rfl
@[simp] theorem State.modAxis_flightBudgets {n : Nat} {f : Axis → Axis} : (s.modAxis n f).flightBudgets = s.flightBudgets := rfl
@[simp] theorem State.modAxis_storeyBudgets {n : Nat} {f : Axis → Axis} : (s.modAxis n f).storeyBudgets = s.storeyBudgets := rfl
@[simp] theorem State.modAxis_dieBudgets {n : Nat} {f : Axis → Axis} : (s.modAxis n f).dieBudgets = s.dieBudgets := rfl
@[simp] theorem State.modAxis_currentBudget {n : Nat} {f : Axis → Axis} : (s.modAxis n f).currentBudget = s.currentBudget := rfl
@[simp] theorem State.modAxis_thermalBudget {n : Nat} {f : Axis → Axis} : (s.modAxis n f).thermalBudget = s.thermalBudget := rfl
@[simp] theorem State.modAxis_storeys {n : Nat} {f : Axis → Axis} : (s.modAxis n f).storeys = s.storeys := rfl
@[simp] theorem State.modAxis_dies {n : Nat} {f : Axis → Axis} : (s.modAxis n f).dies = s.dies := rfl
@[simp] theorem State.modAxis_flightPower {n : Nat} {f : Axis → Axis} : (s.modAxis n f).flightPower = s.flightPower := rfl
@[simp] theorem State.modAxis_treads {n : Nat} {f : Axis → Axis} : (s.modAxis n f).treads = s.treads := rfl
@[simp] theorem State.modAxis_baseplate {n : Nat} {f : Axis → Axis} : (s.modAxis n f).baseplate = s.baseplate := rfl
@[simp] theorem State.modAxis_dissip {n : Nat} {f : Axis → Axis} : (s.modAxis n f).dissip = s.dissip := rfl
@[simp] theorem State.modAxis_senses {n : Nat} {f : Axis → Axis} : (s.modAxis n f).senses = s.senses := rfl
@[simp] theorem State.modAxis_cleaners {n : Nat} {f : Axis → Axis} : (s.modAxis n f).cleaners = s.cleaners := rfl
@[simp] theorem State.modAxis_ports {n : Nat} {f : Axis → Axis} : (s.modAxis n f).ports = s.ports := rfl
@[simp] theorem State.modAxis_echos {n : Nat} {f : Axis → Axis} : (s.modAxis n f).echos = s.echos := rfl
@[simp] theorem State.modAxis_doors {n : Nat} {f : Axis → Axis} : (s.modAxis n f).doors = s.doors := rfl
@[simp] theorem State.modAxis_obst {n : Nat} {f : Axis → Axis} : (s.modAxis n f).obst = s.obst := rfl
@[simp] theorem State.modAxis_hallA {n : Nat} {f : Axis → Axis} : (s.modAxis n f).hallA = s.hallA := rfl
@[simp] theorem State.modAxis_hallB {n : Nat} {f : Axis → Axis} : (s.modAxis n f).hallB = s.hallB := rfl
@[simp] theorem State.modAxis_safety {n : Nat} {f : Axis → Axis} : (s.modAxis n f).safety = s.safety := rfl
@[simp] theorem State.modAxis_conns {n : Nat} {f : Axis → Axis} : (s.modAxis n f).conns = s.conns := rfl
@[simp] theorem State.modAxis_firstStandby {n : Nat} {f : Axis → Axis} : (s.modAxis n f).firstStandby = s.firstStandby := rfl
@[simp] theorem State.modAxis_train {n : Nat} {f : Axis → Axis} : (s.modAxis n f).train = s.train := rfl
@[simp] theorem State.modAxis_prog {n : Nat} {f : Axis → Axis} : (s.modAxis n f).prog = s.prog := rfl
@[simp] theorem State.modAxis_can {n : Nat} {f : Axis → Axis} : (s.modAxis n f).can = s.can := rfl
@[simp] theorem State.modAxis_gallery {n : Nat} {f : Axis → Axis} : (s.modAxis n f).gallery = s.gallery := rfl
@[simp] theorem State.modAxis_host {n : Nat} {f : Axis → Axis} : (s.modAxis n f).host = s.host := rfl
@[simp] theorem State.modAxis_ring {n : Nat} {f : Axis → Axis} : (s.modAxis n f).ring = s.ring := rfl
@[simp] theorem State.modAxis_sec {n : Nat} {f : Axis → Axis} : (s.modAxis n f).sec = s.sec := rfl
@[simp] theorem State.modAxis_outs {n : Nat} {f : Axis → Axis} : (s.modAxis n f).outs = s.outs := rfl
@[simp] theorem State.modAxis_draws {n : Nat} {f : Axis → Axis} : (s.modAxis n f).draws = s.draws := rfl
@[simp] theorem State.modAxis_axes {n : Nat} {f : Axis → Axis} : (s.modAxis n f).axes = s.axes.modify n f := rfl
theorem State.axis_modAxis {n : Nat} {f : Axis → Axis} (h : n < s.axes.length) : (s.modAxis n f).axis n = f (s.axis n) := by
  simp [State.axis, State.modAxis, h]
theorem State.axis_modAxis_ne {n : Nat} {f : Axis → Axis} {m : Nat} (h : n ≠ m) : (s.modAxis n f).axis m = s.axis m := by
  simp [State.axis, State.modAxis, h]

@[simp] theorem State.modDoor_pending {n : Nat} {f : Door → Door} : (s.modDoor n f).pending = s.pending := rfl
@[simp] theorem State.modDoor_clock {n : Nat} {f : Door → Door} : (s.modDoor n f).clock = s.clock := rfl
@[simp] theorem State.modDoor_params {n : Nat} {f : Door → Door} : (s.modDoor n f).params = s.params := rfl
@[simp] theorem State.modDoor_supply {n : Nat} {f : Door → Door} : (s.modDoor n f).supply = s.supply := rfl
@[simp] theorem State.modDoor_limp {n : Nat} {f : Door → Door} : (s.modDoor n f).limp = s.limp := rfl
@[simp] theorem State.modDoor_flightBudgets {n : Nat} {f : Door → Door} : (s.modDoor n f).flightBudgets = s.flightBudgets := rfl
@[simp] theorem State.modDoor_storeyBudgets {n : Nat} {f : Door → Door} : (s.modDoor n f).storeyBudgets = s.storeyBudgets := rfl
@[simp] theorem State.modDoor_dieBudgets {n : Nat} {f : Door → Door} : (s.modDoor n f).dieBudgets = s.dieBudgets := rfl
@[simp] theorem State.modDoor_currentBudget {n : Nat} {f : Door → Door} : (s.modDoor n f).currentBudget = s.currentBudget := rfl
@[simp] theorem State.modDoor_thermalBudget {n : Nat} {f : Door → Door} : (s.modDoor n f).thermalBudget = s.thermalBudget := rfl
@[simp] theorem State.modDoor_storeys {n : Nat} {f : Door → Door} : (s.modDoor n f).storeys = s.storeys := rfl
@[simp] theorem State.modDoor_dies {n : Nat} {f : Door → Door} : (s.modDoor n f).dies = s.dies := rfl
@[simp] theorem State.modDoor_flightPower {n : Nat} {f : Door → Door} : (s.modDoor n f).flightPower = s.flightPower := rfl
@[simp] theorem State.modDoor_treads {n : Nat} {f : Door → Door} : (s.modDoor n f).treads = s.treads := rfl
@[simp] theorem State.modDoor_baseplate {n : Nat} {f : Door → Door} : (s.modDoor n f).baseplate = s.baseplate := rfl
@[simp] theorem State.modDoor_dissip {n : Nat} {f : Door → Door} : (s.modDoor n f).dissip = s.dissip := rfl
@[simp] theorem State.modDoor_senses {n : Nat} {f : Door → Door} : (s.modDoor n f).senses = s.senses := rfl
@[simp] theorem State.modDoor_cleaners {n : Nat} {f : Door → Door} : (s.modDoor n f).cleaners = s.cleaners := rfl
@[simp] theorem State.modDoor_ports {n : Nat} {f : Door → Door} : (s.modDoor n f).ports = s.ports := rfl
@[simp] theorem State.modDoor_echos {n : Nat} {f : Door → Door} : (s.modDoor n f).echos = s.echos := rfl
@[simp] theorem State.modDoor_axes {n : Nat} {f : Door → Door} : (s.modDoor n f).axes = s.axes := rfl
@[simp] theorem State.modDoor_obst {n : Nat} {f : Door → Door} : (s.modDoor n f).obst = s.obst := rfl
@[simp] theorem State.modDoor_hallA {n : Nat} {f : Door → Door} : (s.modDoor n f).hallA = s.hallA := rfl
@[simp] theorem State.modDoor_hallB {n : Nat} {f : Door → Door} : (s.modDoor n f).hallB = s.hallB := rfl
@[simp] theorem State.modDoor_safety {n : Nat} {f : Door → Door} : (s.modDoor n f).safety = s.safety := rfl
@[simp] theorem State.modDoor_conns {n : Nat} {f : Door → Door} : (s.modDoor n f).conns = s.conns := rfl
@[simp] theorem State.modDoor_firstStandby {n : Nat} {f : Door → Door} : (s.modDoor n f).firstStandby = s.firstStandby := rfl
@[simp] theorem State.modDoor_train {n : Nat} {f : Door → Door} : (s.modDoor n f).train = s.train := rfl
@[simp] theorem State.modDoor_prog {n : Nat} {f : Door → Door} : (s.modDoor n f).prog = s.prog := rfl
@[simp] theorem State.modDoor_can {n : Nat} {f : Door → Door} : (s.modDoor n f).can = s.can := rfl
@[simp] theorem State.modDoor_gallery {n : Nat} {f : Door → Door} : (s.modDoor n f).gallery = s.gallery := rfl
@[simp] theorem State.modDoor_host {n : Nat} {f : Door → Door} : (s.modDoor n f).host = s.host := rfl
@[simp] theorem State.modDoor_ring {n : Nat} {f : Door → Door} : (s.modDoor n f).ring = s.ring := rfl
@[simp] theorem State.modDoor_sec {n : Nat} {f : Door → Door} : (s.modDoor n f).sec = s.sec := rfl
@[simp] theorem State.modDoor_outs {n : Nat} {f : Door → Door} : (s.modDoor n f).outs = s.outs := rfl
@[simp] theorem State.modDoor_draws {n : Nat} {f : Door → Door} : (s.modDoor n f).draws = s.draws := rfl
@[simp] theorem State.modDoor_doors {n : Nat} {f : Door → Door} : (s.modDoor n f).doors = s.doors.modify n f := rfl
theorem State.door_modDoor {n : Nat} {f : Door → Door} (h : n < s.doors.length) : (s.modDoor n f).door n = f (s.door n) := by
  simp [State.door, State.modDoor, h]
theorem State.door_modDoor_ne {n : Nat} {f : Door → Door} {m : Nat} (h : n ≠ m) : (s.modDoor n f).door m = s.door m := by
  simp [State.door, State.modDoor, h]

@[simp] theorem State.modObs_pending {n : Nat} {f : Obst → Obst} : (s.modObs n f).pending = s.pending := rfl
@[simp] theorem State.modObs_clock {n : Nat} {f : Obst → Obst} : (s.modObs n f).clock = s.clock := rfl
@[simp] theorem State.modObs_params {n : Nat} {f : Obst → Obst} : (s.modObs n f).params = s.params := rfl
@[simp] theorem State.modObs_supply {n : Nat} {f : Obst → Obst} : (s.modObs n f).supply = s.supply := rfl
@[simp] theorem State.modObs_limp {n : Nat} {f : Obst → Obst} : (s.modObs n f).limp = s.limp := rfl
@[simp] theorem State.modObs_flightBudgets {n : Nat} {f : Obst → Obst} : (s.modObs n f).flightBudgets = s.flightBudgets := rfl
@[simp] theorem State.modObs_storeyBudgets {n : Nat} {f : Obst → Obst} : (s.modObs n f).storeyBudgets = s.storeyBudgets := rfl
@[simp] theorem State.modObs_dieBudgets {n : Nat} {f : Obst → Obst} : (s.modObs n f).dieBudgets = s.dieBudgets := rfl
@[simp] theorem State.modObs_currentBudget {n : Nat} {f : Obst → Obst} : (s.modObs n f).currentBudget = s.currentBudget := rfl
@[simp] theorem State.modObs_thermalBudget {n : Nat} {f : Obst → Obst} : (s.modObs n f).thermalBudget = s.thermalBudget := rfl
@[simp] theorem State.modObs_storeys {n : Nat} {f : Obst → Obst} : (s.modObs n f).storeys = s.storeys := rfl
@[simp] theorem State.modObs_dies {n : Nat} {f : Obst → Obst} : (s.modObs n f).dies = s.dies := rfl
@[simp] theorem State.modObs_flightPower {n : Nat} {f : Obst → Obst} : (s.modObs n f).flightPower = s.flightPower := rfl
@[simp] theorem State.modObs_treads {n : Nat} {f : Obst → Obst} : (s.modObs n f).treads = s.treads := rfl
@[simp] theorem State.modObs_baseplate {n : Nat} {f : Obst → Obst} : (s.modObs n f).baseplate = s.baseplate := rfl
@[simp] theorem State.modObs_dissip {n : Nat} {f : Obst → Obst} : (s.modObs n f).dissip = s.dissip := rfl
@[simp] theorem State.modObs_senses {n : Nat} {f : Obst → Obst} : (s.modObs n f).senses = s.senses := rfl
@[simp] theorem State.modObs_cleaners {n : Nat} {f : Obst → Obst} : (s.modObs n f).cleaners = s.cleaners := rfl
@[simp] theorem State.modObs_ports {n : Nat} {f : Obst → Obst} : (s.modObs n f).ports = s.ports := rfl
@[simp] theorem State.modObs_echos {n : Nat} {f : Obst → Obst} : (s.modObs n f).echos = s.echos := rfl
@[simp] theorem State.modObs_axes {n : Nat} {f : Obst → Obst} : (s.modObs n f).axes = s.axes := rfl
@[simp] theorem State.modObs_doors {n : Nat} {f : Obst → Obst} : (s.modObs n f).doors = s.doors := rfl
@[simp] theorem State.modObs_hallA {n : Nat} {f : Obst → Obst} : (s.modObs n f).hallA = s.hallA := rfl
@[simp] theorem State.modObs_hallB {n : Nat} {f : Obst → Obst} : (s.modObs n f).hallB = s.hallB := rfl
@[simp] theorem State.modObs_safety {n : Nat} {f : Obst → Obst} : (s.modObs n f).safety = s.safety := rfl
@[simp] theorem State.modObs_conns {n : Nat} {f : Obst → Obst} : (s.modObs n f).conns = s.conns := rfl
@[simp] theorem State.modObs_firstStandby {n : Nat} {f : Obst → Obst} : (s.modObs n f).firstStandby = s.firstStandby := rfl
@[simp] theorem State.modObs_train {n : Nat} {f : Obst → Obst} : (s.modObs n f).train = s.train := rfl
@[simp] theorem State.modObs_prog {n : Nat} {f : Obst → Obst} : (s.modObs n f).prog = s.prog := rfl
@[simp] theorem State.modObs_can {n : Nat} {f : Obst → Obst} : (s.modObs n f).can = s.can := rfl
@[simp] theorem State.modObs_gallery {n : Nat} {f : Obst → Obst} : (s.modObs n f).gallery = s.gallery := rfl
@[simp] theorem State.modObs_host {n : Nat} {f : Obst → Obst} : (s.modObs n f).host = s.host := rfl
@[simp] theorem State.modObs_ring {n : Nat} {f : Obst → Obst} : (s.modObs n f).ring = s.ring := rfl
@[simp] theorem State.modObs_sec {n : Nat} {f : Obst → Obst} : (s.modObs n f).sec = s.sec := rfl
@[simp] theorem State.modObs_outs {n : Nat} {f : Obst → Obst} : (s.modObs n f).outs = s.outs := rfl
@[simp] theorem State.modObs_draws {n : Nat} {f : Obst → Obst} : (s.modObs n f).draws = s.draws := rfl
@[simp] theorem State.modObs_obst {n : Nat} {f : Obst → Obst} : (s.modObs n f).obst = s.obst.modify n f := rfl
theorem State.obs_modObs {n : Nat} {f : Obst → Obst} (h : n < s.obst.length) : (s.modObs n f).obs n = f (s.obs n) := by
  simp [State.obs, State.modObs, h]
theorem State.obs_modObs_ne {n : Nat} {f : Obst → Obst} {m : Nat} (h : n ≠ m) : (s.modObs n f).obs m = s.obs m := by
  simp [State.obs, State.modObs, h]

@[simp] theorem State.modConn_pending {n : Nat} {f : Conn → Conn} : (s.modConn n f).pending = s.pending := rfl
@[simp] theorem State.modConn_clock {n : Nat} {f : Conn → Conn} : (s.modConn n f).clock = s.clock := rfl
@[simp] theorem State.modConn_params {n : Nat} {f : Conn → Conn} : (s.modConn n f).params = s.params := rfl
@[simp] theorem State.modConn_supply {n : Nat} {f : Conn → Conn} : (s.modConn n f).supply = s.supply := rfl
@[simp] theorem State.modConn_limp {n : Nat} {f : Conn → Conn} : (s.modConn n f).limp = s.limp := rfl
@[simp] theorem State.modConn_flightBudgets {n : Nat} {f : Conn → Conn} : (s.modConn n f).flightBudgets = s.flightBudgets := rfl
@[simp] theorem State.modConn_storeyBudgets {n : Nat} {f : Conn → Conn} : (s.modConn n f).storeyBudgets = s.storeyBudgets := rfl
@[simp] theorem State.modConn_dieBudgets {n : Nat} {f : Conn → Conn} : (s.modConn n f).dieBudgets = s.dieBudgets := rfl
@[simp] theorem State.modConn_currentBudget {n : Nat} {f : Conn → Conn} : (s.modConn n f).currentBudget = s.currentBudget := rfl
@[simp] theorem State.modConn_thermalBudget {n : Nat} {f : Conn → Conn} : (s.modConn n f).thermalBudget = s.thermalBudget := rfl
@[simp] theorem State.modConn_storeys {n : Nat} {f : Conn → Conn} : (s.modConn n f).storeys = s.storeys := rfl
@[simp] theorem State.modConn_dies {n : Nat} {f : Conn → Conn} : (s.modConn n f).dies = s.dies := rfl
@[simp] theorem State.modConn_flightPower {n : Nat} {f : Conn → Conn} : (s.modConn n f).flightPower = s.flightPower := rfl
@[simp] theorem State.modConn_treads {n : Nat} {f : Conn → Conn} : (s.modConn n f).treads = s.treads := rfl
@[simp] theorem State.modConn_baseplate {n : Nat} {f : Conn → Conn} : (s.modConn n f).baseplate = s.baseplate := rfl
@[simp] theorem State.modConn_dissip {n : Nat} {f : Conn → Conn} : (s.modConn n f).dissip = s.dissip := rfl
@[simp] theorem State.modConn_senses {n : Nat} {f : Conn → Conn} : (s.modConn n f).senses = s.senses := rfl
@[simp] theorem State.modConn_cleaners {n : Nat} {f : Conn → Conn} : (s.modConn n f).cleaners = s.cleaners := rfl
@[simp] theorem State.modConn_ports {n : Nat} {f : Conn → Conn} : (s.modConn n f).ports = s.ports := rfl
@[simp] theorem State.modConn_echos {n : Nat} {f : Conn → Conn} : (s.modConn n f).echos = s.echos := rfl
@[simp] theorem State.modConn_axes {n : Nat} {f : Conn → Conn} : (s.modConn n f).axes = s.axes := rfl
@[simp] theorem State.modConn_doors {n : Nat} {f : Conn → Conn} : (s.modConn n f).doors = s.doors := rfl
@[simp] theorem State.modConn_obst {n : Nat} {f : Conn → Conn} : (s.modConn n f).obst = s.obst := rfl
@[simp] theorem State.modConn_hallA {n : Nat} {f : Conn → Conn} : (s.modConn n f).hallA = s.hallA := rfl
@[simp] theorem State.modConn_hallB {n : Nat} {f : Conn → Conn} : (s.modConn n f).hallB = s.hallB := rfl
@[simp] theorem State.modConn_safety {n : Nat} {f : Conn → Conn} : (s.modConn n f).safety = s.safety := rfl
@[simp] theorem State.modConn_firstStandby {n : Nat} {f : Conn → Conn} : (s.modConn n f).firstStandby = s.firstStandby := rfl
@[simp] theorem State.modConn_train {n : Nat} {f : Conn → Conn} : (s.modConn n f).train = s.train := rfl
@[simp] theorem State.modConn_prog {n : Nat} {f : Conn → Conn} : (s.modConn n f).prog = s.prog := rfl
@[simp] theorem State.modConn_can {n : Nat} {f : Conn → Conn} : (s.modConn n f).can = s.can := rfl
@[simp] theorem State.modConn_gallery {n : Nat} {f : Conn → Conn} : (s.modConn n f).gallery = s.gallery := rfl
@[simp] theorem State.modConn_host {n : Nat} {f : Conn → Conn} : (s.modConn n f).host = s.host := rfl
@[simp] theorem State.modConn_ring {n : Nat} {f : Conn → Conn} : (s.modConn n f).ring = s.ring := rfl
@[simp] theorem State.modConn_sec {n : Nat} {f : Conn → Conn} : (s.modConn n f).sec = s.sec := rfl
@[simp] theorem State.modConn_outs {n : Nat} {f : Conn → Conn} : (s.modConn n f).outs = s.outs := rfl
@[simp] theorem State.modConn_draws {n : Nat} {f : Conn → Conn} : (s.modConn n f).draws = s.draws := rfl
@[simp] theorem State.modConn_conns {n : Nat} {f : Conn → Conn} : (s.modConn n f).conns = s.conns.modify n f := rfl
theorem State.conn_modConn {n : Nat} {f : Conn → Conn} (h : n < s.conns.length) : (s.modConn n f).conn n = f (s.conn n) := by
  simp [State.conn, State.modConn, h]
theorem State.conn_modConn_ne {n : Nat} {f : Conn → Conn} {m : Nat} (h : n ≠ m) : (s.modConn n f).conn m = s.conn m := by
  simp [State.conn, State.modConn, h]

@[simp] theorem State.mapTreads_pending {f : Nat → Tread → Tread} : (s.mapTreads f).pending = s.pending := rfl
@[simp] theorem State.mapTreads_clock {f : Nat → Tread → Tread} : (s.mapTreads f).clock = s.clock := rfl
@[simp] theorem State.mapTreads_params {f : Nat → Tread → Tread} : (s.mapTreads f).params = s.params := rfl
@[simp] theorem State.mapTreads_supply {f : Nat → Tread → Tread} : (s.mapTreads f).supply = s.supply := rfl
@[simp] theorem State.mapTreads_limp {f : Nat → Tread → Tread} : (s.mapTreads f).limp = s.limp := rfl
@[simp] theorem State.mapTreads_flightBudgets {f : Nat → Tread → Tread} : (s.mapTreads f).flightBudgets = s.flightBudgets := rfl
@[simp] theorem State.mapTreads_storeyBudgets {f : Nat → Tread → Tread} : (s.mapTreads f).storeyBudgets = s.storeyBudgets := rfl
@[simp] theorem State.mapTreads_dieBudgets {f : Nat → Tread → Tread} : (s.mapTreads f).dieBudgets = s.dieBudgets := rfl
@[simp] theorem State.mapTreads_currentBudget {f : Nat → Tread → Tread} : (s.mapTreads f).currentBudget = s.currentBudget := rfl
@[simp] theorem State.mapTreads_thermalBudget {f : Nat → Tread → Tread} : (s.mapTreads f).thermalBudget = s.thermalBudget := rfl
@[simp] theorem State.mapTreads_storeys {f : Nat → Tread → Tread} : (s.mapTreads f).storeys = s.storeys := rfl
@[simp] theorem State.mapTreads_dies {f : Nat → Tread → Tread} : (s.mapTreads f).dies = s.dies := rfl
@[simp] theorem State.mapTreads_flightPower {f : Nat → Tread → Tread} : (s.mapTreads f).flightPower = s.flightPower := rfl
@[simp] theorem State.mapTreads_baseplate {f : Nat → Tread → Tread} : (s.mapTreads f).baseplate = s.baseplate := rfl
@[simp] theorem State.mapTreads_dissip {f : Nat → Tread → Tread} : (s.mapTreads f).dissip = s.dissip := rfl
@[simp] theorem State.mapTreads_senses {f : Nat → Tread → Tread} : (s.mapTreads f).senses = s.senses := rfl
@[simp] theorem State.mapTreads_cleaners {f : Nat → Tread → Tread} : (s.mapTreads f).cleaners = s.cleaners := rfl
@[simp] theorem State.mapTreads_ports {f : Nat → Tread → Tread} : (s.mapTreads f).ports = s.ports := rfl
@[simp] theorem State.mapTreads_echos {f : Nat → Tread → Tread} : (s.mapTreads f).echos = s.echos := rfl
@[simp] theorem State.mapTreads_axes {f : Nat → Tread → Tread} : (s.mapTreads f).axes = s.axes := rfl
@[simp] theorem State.mapTreads_doors {f : Nat → Tread → Tread} : (s.mapTreads f).doors = s.doors := rfl
@[simp] theorem State.mapTreads_obst {f : Nat → Tread → Tread} : (s.mapTreads f).obst = s.obst := rfl
@[simp] theorem State.mapTreads_hallA {f : Nat → Tread → Tread} : (s.mapTreads f).hallA = s.hallA := rfl
@[simp] theorem State.mapTreads_hallB {f : Nat → Tread → Tread} : (s.mapTreads f).hallB = s.hallB := rfl
@[simp] theorem State.mapTreads_safety {f : Nat → Tread → Tread} : (s.mapTreads f).safety = s.safety := rfl
@[simp] theorem State.mapTreads_conns {f : Nat → Tread → Tread} : (s.mapTreads f).conns = s.conns := rfl
@[simp] theorem State.mapTreads_firstStandby {f : Nat → Tread → Tread} : (s.mapTreads f).firstStandby = s.firstStandby := rfl
@[simp] theorem State.mapTreads_train {f : Nat → Tread → Tread} : (s.mapTreads f).train = s.train := rfl
@[simp] theorem State.mapTreads_prog {f : Nat → Tread → Tread} : (s.mapTreads f).prog = s.prog := rfl
@[simp] theorem State.mapTreads_can {f : Nat → Tread → Tread} : (s.mapTreads f).can = s.can := rfl
@[simp] theorem State.mapTreads_gallery {f : Nat → Tread → Tread} : (s.mapTreads f).gallery = s.gallery := rfl
@[simp] theorem State.mapTreads_host {f : Nat → Tread → Tread} : (s.mapTreads f).host = s.host := rfl
@[simp] theorem State.mapTreads_ring {f : Nat → Tread → Tread} : (s.mapTreads f).ring = s.ring := rfl
@[simp] theorem State.mapTreads_sec {f : Nat → Tread → Tread} : (s.mapTreads f).sec = s.sec := rfl
@[simp] theorem State.mapTreads_outs {f : Nat → Tread → Tread} : (s.mapTreads f).outs = s.outs := rfl
@[simp] theorem State.mapTreads_draws {f : Nat → Tread → Tread} : (s.mapTreads f).draws = s.draws := rfl
@[simp] theorem State.mapTreads_treads {f : Nat → Tread → Tread} : (s.mapTreads f).treads = s.treads.mapIdx f := rfl
theorem State.tread_mapTreads {f : Nat → Tread → Tread} {n : Nat} (h : n < s.treads.length) : (s.mapTreads f).tread n = f n (s.tread n) := by
  simp [State.tread, State.mapTreads, h]

@[simp] theorem State.mapStoreys_pending {f : Nat → Storey → Storey} : (s.mapStoreys f).pending = s.pending := rfl
@[simp] theorem State.mapStoreys_clock {f : Nat → Storey → Storey} : (s.mapStoreys f).clock = s.clock := rfl
@[simp] theorem State.mapStoreys_params {f : Nat → Storey → Storey} : (s.mapStoreys f).params = s.params := rfl
@[simp] theorem State.mapStoreys_supply {f : Nat → Storey → Storey} : (s.mapStoreys f).supply = s.supply := rfl
@[simp] theorem State.mapStoreys_limp {f : Nat → Storey → Storey} : (s.mapStoreys f).limp = s.limp := rfl
@[simp] theorem State.mapStoreys_flightBudgets {f : Nat → Storey → Storey} : (s.mapStoreys f).flightBudgets = s.flightBudgets := rfl
@[simp] theorem State.mapStoreys_storeyBudgets {f : Nat → Storey → Storey} : (s.mapStoreys f).storeyBudgets = s.storeyBudgets := rfl
@[simp] theorem State.mapStoreys_dieBudgets {f : Nat → Storey → Storey} : (s.mapStoreys f).dieBudgets = s.dieBudgets := rfl
@[simp] theorem State.mapStoreys_currentBudget {f : Nat → Storey → Storey} : (s.mapStoreys f).currentBudget = s.currentBudget := rfl
@[simp] theorem State.mapStoreys_thermalBudget {f : Nat → Storey → Storey} : (s.mapStoreys f).thermalBudget = s.thermalBudget := rfl
@[simp] theorem State.mapStoreys_dies {f : Nat → Storey → Storey} : (s.mapStoreys f).dies = s.dies := rfl
@[simp] theorem State.mapStoreys_flightPower {f : Nat → Storey → Storey} : (s.mapStoreys f).flightPower = s.flightPower := rfl
@[simp] theorem State.mapStoreys_treads {f : Nat → Storey → Storey} : (s.mapStoreys f).treads = s.treads := rfl
@[simp] theorem State.mapStoreys_baseplate {f : Nat → Storey → Storey} : (s.mapStoreys f).baseplate = s.baseplate := rfl
@[simp] theorem State.mapStoreys_dissip {f : Nat → Storey → Storey} : (s.mapStoreys f).dissip = s.dissip := rfl
@[simp] theorem State.mapStoreys_senses {f : Nat → Storey → Storey} : (s.mapStoreys f).senses = s.senses := rfl
@[simp] theorem State.mapStoreys_cleaners {f : Nat → Storey → Storey} : (s.mapStoreys f).cleaners = s.cleaners := rfl
@[simp] theorem State.mapStoreys_ports {f : Nat → Storey → Storey} : (s.mapStoreys f).ports = s.ports := rfl
@[simp] theorem State.mapStoreys_echos {f : Nat → Storey → Storey} : (s.mapStoreys f).echos = s.echos := rfl
@[simp] theorem State.mapStoreys_axes {f : Nat → Storey → Storey} : (s.mapStoreys f).axes = s.axes := rfl
@[simp] theorem State.mapStoreys_doors {f : Nat → Storey → Storey} : (s.mapStoreys f).doors = s.doors := rfl
@[simp] theorem State.mapStoreys_obst {f : Nat → Storey → Storey} : (s.mapStoreys f).obst = s.obst := rfl
@[simp] theorem State.mapStoreys_hallA {f : Nat → Storey → Storey} : (s.mapStoreys f).hallA = s.hallA := rfl
@[simp] theorem State.mapStoreys_hallB {f : Nat → Storey → Storey} : (s.mapStoreys f).hallB = s.hallB := rfl
@[simp] theorem State.mapStoreys_safety {f : Nat → Storey → Storey} : (s.mapStoreys f).safety = s.safety := rfl
@[simp] theorem State.mapStoreys_conns {f : Nat → Storey → Storey} : (s.mapStoreys f).conns = s.conns := rfl
@[simp] theorem State.mapStoreys_firstStandby {f : Nat → Storey → Storey} : (s.mapStoreys f).firstStandby = s.firstStandby := rfl
@[simp] theorem State.mapStoreys_train {f : Nat → Storey → Storey} : (s.mapStoreys f).train = s.train := rfl
@[simp] theorem State.mapStoreys_prog {f : Nat → Storey → Storey} : (s.mapStoreys f).prog = s.prog := rfl
@[simp] theorem State.mapStoreys_can {f : Nat → Storey → Storey} : (s.mapStoreys f).can = s.can := rfl
@[simp] theorem State.mapStoreys_gallery {f : Nat → Storey → Storey} : (s.mapStoreys f).gallery = s.gallery := rfl
@[simp] theorem State.mapStoreys_host {f : Nat → Storey → Storey} : (s.mapStoreys f).host = s.host := rfl
@[simp] theorem State.mapStoreys_ring {f : Nat → Storey → Storey} : (s.mapStoreys f).ring = s.ring := rfl
@[simp] theorem State.mapStoreys_sec {f : Nat → Storey → Storey} : (s.mapStoreys f).sec = s.sec := rfl
@[simp] theorem State.mapStoreys_outs {f : Nat → Storey → Storey} : (s.mapStoreys f).outs = s.outs := rfl
@[simp] theorem State.mapStoreys_draws {f : Nat → Storey → Storey} : (s.mapStoreys f).draws = s.draws := rfl
@[simp] theorem State.mapStoreys_storeys {f : Nat → Storey → Storey} : (s.mapStoreys f).storeys = s.storeys.mapIdx f := rfl
theorem State.storey_mapStoreys {f : Nat → Storey → Storey} {n : Nat} (h : n < s.storeys.length) : (s.mapStoreys f).storey n = f n (s.storey n) := by
  simp [State.storey, State.mapStoreys, h]

@[simp] theorem State.mapDies_pending {f : Nat → Die → Die} : (s.mapDies f).pending = s.pending := rfl
@[simp] theorem State.mapDies_clock {f : Nat → Die → Die} : (s.mapDies f).clock = s.clock := rfl
@[simp] theorem State.mapDies_params {f : Nat → Die → Die} : (s.mapDies f).params = s.params := rfl
@[simp] theorem State.mapDies_supply {f : Nat → Die → Die} : (s.mapDies f).supply = s.supply := rfl
@[simp] theorem State.mapDies_limp {f : Nat → Die → Die} : (s.mapDies f).limp = s.limp := rfl
@[simp] theorem State.mapDies_flightBudgets {f : Nat → Die → Die} : (s.mapDies f).flightBudgets = s.flightBudgets := rfl
@[simp] theorem State.mapDies_storeyBudgets {f : Nat → Die → Die} : (s.mapDies f).storeyBudgets = s.storeyBudgets := rfl
@[simp] theorem State.mapDies_dieBudgets {f : Nat → Die → Die} : (s.mapDies f).dieBudgets = s.dieBudgets := rfl
@[simp] theorem State.mapDies_currentBudget {f : Nat → Die → Die} : (s.mapDies f).currentBudget = s.currentBudget := rfl
@[simp] theorem State.mapDies_thermalBudget {f : Nat → Die → Die} : (s.mapDies f).thermalBudget = s.thermalBudget := rfl
@[simp] theorem State.mapDies_storeys {f : Nat → Die → Die} : (s.mapDies f).storeys = s.storeys := rfl
@[simp] theorem State.mapDies_flightPower {f : Nat → Die → Die} : (s.mapDies f).flightPower = s.flightPower := rfl
@[simp] theorem State.mapDies_treads {f : Nat → Die → Die} : (s.mapDies f).treads = s.treads := rfl
@[simp] theorem State.mapDies_baseplate {f : Nat → Die → Die} : (s.mapDies f).baseplate = s.baseplate := rfl
@[simp] theorem State.mapDies_dissip {f : Nat → Die → Die} : (s.mapDies f).dissip = s.dissip := rfl
@[simp] theorem State.mapDies_senses {f : Nat → Die → Die} : (s.mapDies f).senses = s.senses := rfl
@[simp] theorem State.mapDies_cleaners {f : Nat → Die → Die} : (s.mapDies f).cleaners = s.cleaners := rfl
@[simp] theorem State.mapDies_ports {f : Nat → Die → Die} : (s.mapDies f).ports = s.ports := rfl
@[simp] theorem State.mapDies_echos {f : Nat → Die → Die} : (s.mapDies f).echos = s.echos := rfl
@[simp] theorem State.mapDies_axes {f : Nat → Die → Die} : (s.mapDies f).axes = s.axes := rfl
@[simp] theorem State.mapDies_doors {f : Nat → Die → Die} : (s.mapDies f).doors = s.doors := rfl
@[simp] theorem State.mapDies_obst {f : Nat → Die → Die} : (s.mapDies f).obst = s.obst := rfl
@[simp] theorem State.mapDies_hallA {f : Nat → Die → Die} : (s.mapDies f).hallA = s.hallA := rfl
@[simp] theorem State.mapDies_hallB {f : Nat → Die → Die} : (s.mapDies f).hallB = s.hallB := rfl
@[simp] theorem State.mapDies_safety {f : Nat → Die → Die} : (s.mapDies f).safety = s.safety := rfl
@[simp] theorem State.mapDies_conns {f : Nat → Die → Die} : (s.mapDies f).conns = s.conns := rfl
@[simp] theorem State.mapDies_firstStandby {f : Nat → Die → Die} : (s.mapDies f).firstStandby = s.firstStandby := rfl
@[simp] theorem State.mapDies_train {f : Nat → Die → Die} : (s.mapDies f).train = s.train := rfl
@[simp] theorem State.mapDies_prog {f : Nat → Die → Die} : (s.mapDies f).prog = s.prog := rfl
@[simp] theorem State.mapDies_can {f : Nat → Die → Die} : (s.mapDies f).can = s.can := rfl
@[simp] theorem State.mapDies_gallery {f : Nat → Die → Die} : (s.mapDies f).gallery = s.gallery := rfl
@[simp] theorem State.mapDies_host {f : Nat → Die → Die} : (s.mapDies f).host = s.host := rfl
@[simp] theorem State.mapDies_ring {f : Nat → Die → Die} : (s.mapDies f).ring = s.ring := rfl
@[simp] theorem State.mapDies_sec {f : Nat → Die → Die} : (s.mapDies f).sec = s.sec := rfl
@[simp] theorem State.mapDies_outs {f : Nat → Die → Die} : (s.mapDies f).outs = s.outs := rfl
@[simp] theorem State.mapDies_draws {f : Nat → Die → Die} : (s.mapDies f).draws = s.draws := rfl
@[simp] theorem State.mapDies_dies {f : Nat → Die → Die} : (s.mapDies f).dies = s.dies.mapIdx f := rfl
theorem State.die_mapDies {f : Nat → Die → Die} {n : Nat} (h : n < s.dies.length) : (s.mapDies f).die n = f n (s.die n) := by
  simp [State.die, State.mapDies, h]

@[simp] theorem State.mapLimp_pending {f : Nat → LimpHome → LimpHome} : (s.mapLimp f).pending = s.pending := rfl
@[simp] theorem State.mapLimp_clock {f : Nat → LimpHome → LimpHome} : (s.mapLimp f).clock = s.clock := rfl
@[simp] theorem State.mapLimp_params {f : Nat → LimpHome → LimpHome} : (s.mapLimp f).params = s.params := rfl
@[simp] theorem State.mapLimp_supply {f : Nat → LimpHome → LimpHome} : (s.mapLimp f).supply = s.supply := rfl
@[simp] theorem State.mapLimp_flightBudgets {f : Nat → LimpHome → LimpHome} : (s.mapLimp f).flightBudgets = s.flightBudgets := rfl
@[simp] theorem State.mapLimp_storeyBudgets {f : Nat → LimpHome → LimpHome} : (s.mapLimp f).storeyBudgets = s.storeyBudgets := rfl
@[simp] theorem State.mapLimp_dieBudgets {f : Nat → LimpHome → LimpHome} : (s.mapLimp f).dieBudgets = s.dieBudgets := rfl
@[simp] theorem State.mapLimp_currentBudget {f : Nat → LimpHome → LimpHome} : (s.mapLimp f).currentBudget = s.currentBudget := rfl
@[simp] theorem State.mapLimp_thermalBudget {f : Nat → LimpHome → LimpHome} : (s.mapLimp f).thermalBudget = s.thermalBudget := rfl
@[simp] theorem State.mapLimp_storeys {f : Nat → LimpHome → LimpHome} : (s.mapLimp f).storeys = s.storeys := rfl
@[simp] theorem State.mapLimp_dies {f : Nat → LimpHome → LimpHome} : (s.mapLimp f).dies = s.dies := rfl
@[simp] theorem State.mapLimp_flightPower {f : Nat → LimpHome → LimpHome} : (s.mapLimp f).flightPower = s.flightPower := rfl
@[simp] theorem State.mapLimp_treads {f : Nat → LimpHome → LimpHome} : (s.mapLimp f).treads = s.treads := rfl
@[simp] theorem State.mapLimp_baseplate {f : Nat → LimpHome → LimpHome} : (s.mapLimp f).baseplate = s.baseplate := rfl
@[simp] theorem State.mapLimp_dissip {f : Nat → LimpHome → LimpHome} : (s.mapLimp f).dissip = s.dissip := rfl
@[simp] theorem State.mapLimp_senses {f : Nat → LimpHome → LimpHome} : (s.mapLimp f).senses = s.senses := rfl
@[simp] theorem State.mapLimp_cleaners {f : Nat → LimpHome → LimpHome} : (s.mapLimp f).cleaners = s.cleaners := rfl
@[simp] theorem State.mapLimp_ports {f : Nat → LimpHome → LimpHome} : (s.mapLimp f).ports = s.ports := rfl
@[simp] theorem State.mapLimp_echos {f : Nat → LimpHome → LimpHome} : (s.mapLimp f).echos = s.echos := rfl
@[simp] theorem State.mapLimp_axes {f : Nat → LimpHome → LimpHome} : (s.mapLimp f).axes = s.axes := rfl
@[simp] theorem State.mapLimp_doors {f : Nat → LimpHome → LimpHome} : (s.mapLimp f).doors = s.doors := rfl
@[simp] theorem State.mapLimp_obst {f : Nat → LimpHome → LimpHome} : (s.mapLimp f).obst = s.obst := rfl
@[simp] theorem State.mapLimp_hallA {f : Nat → LimpHome → LimpHome} : (s.mapLimp f).hallA = s.hallA := rfl
@[simp] theorem State.mapLimp_hallB {f : Nat → LimpHome → LimpHome} : (s.mapLimp f).hallB = s.hallB := rfl
@[simp] theorem State.mapLimp_safety {f : Nat → LimpHome → LimpHome} : (s.mapLimp f).safety = s.safety := rfl
@[simp] theorem State.mapLimp_conns {f : Nat → LimpHome → LimpHome} : (s.mapLimp f).conns = s.conns := rfl
@[simp] theorem State.mapLimp_firstStandby {f : Nat → LimpHome → LimpHome} : (s.mapLimp f).firstStandby = s.firstStandby := rfl
@[simp] theorem State.mapLimp_train {f : Nat → LimpHome → LimpHome} : (s.mapLimp f).train = s.train := rfl
@[simp] theorem State.mapLimp_prog {f : Nat → LimpHome → LimpHome} : (s.mapLimp f).prog = s.prog := rfl
@[simp] theorem State.mapLimp_can {f : Nat → LimpHome → LimpHome} : (s.mapLimp f).can = s.can := rfl
@[simp] theorem State.mapLimp_gallery {f : Nat → LimpHome → LimpHome} : (s.mapLimp f).gallery = s.gallery := rfl
@[simp] theorem State.mapLimp_host {f : Nat → LimpHome → LimpHome} : (s.mapLimp f).host = s.host := rfl
@[simp] theorem State.mapLimp_ring {f : Nat → LimpHome → LimpHome} : (s.mapLimp f).ring = s.ring := rfl
@[simp] theorem State.mapLimp_sec {f : Nat → LimpHome → LimpHome} : (s.mapLimp f).sec = s.sec := rfl
@[simp] theorem State.mapLimp_outs {f : Nat → LimpHome → LimpHome} : (s.mapLimp f).outs = s.outs := rfl
@[simp] theorem State.mapLimp_draws {f : Nat → LimpHome → LimpHome} : (s.mapLimp f).draws = s.draws := rfl
@[simp] theorem State.mapLimp_limp {f : Nat → LimpHome → LimpHome} : (s.mapLimp f).limp = s.limp.mapIdx f := rfl
theorem State.limpOf_mapLimp {f : Nat → LimpHome → LimpHome} {n : Nat} (h : n < s.limp.length) : (s.mapLimp f).limpOf n = f n (s.limpOf n) := by
  simp [State.limpOf, State.mapLimp, h]

@[simp] theorem State.mapFpower_pending {f : Nat → FlightPower → FlightPower} : (s.mapFpower f).pending = s.pending := rfl
@[simp] theorem State.mapFpower_clock {f : Nat → FlightPower → FlightPower} : (s.mapFpower f).clock = s.clock := rfl
@[simp] theorem State.mapFpower_params {f : Nat → FlightPower → FlightPower} : (s.mapFpower f).params = s.params := rfl
@[simp] theorem State.mapFpower_supply {f : Nat → FlightPower → FlightPower} : (s.mapFpower f).supply = s.supply := rfl
@[simp] theorem State.mapFpower_limp {f : Nat → FlightPower → FlightPower} : (s.mapFpower f).limp = s.limp := rfl
@[simp] theorem State.mapFpower_flightBudgets {f : Nat → FlightPower → FlightPower} : (s.mapFpower f).flightBudgets = s.flightBudgets := rfl
@[simp] theorem State.mapFpower_storeyBudgets {f : Nat → FlightPower → FlightPower} : (s.mapFpower f).storeyBudgets = s.storeyBudgets := rfl
@[simp] theorem State.mapFpower_dieBudgets {f : Nat → FlightPower → FlightPower} : (s.mapFpower f).dieBudgets = s.dieBudgets := rfl
@[simp] theorem State.mapFpower_currentBudget {f : Nat → FlightPower → FlightPower} : (s.mapFpower f).currentBudget = s.currentBudget := rfl
@[simp] theorem State.mapFpower_thermalBudget {f : Nat → FlightPower → FlightPower} : (s.mapFpower f).thermalBudget = s.thermalBudget := rfl
@[simp] theorem State.mapFpower_storeys {f : Nat → FlightPower → FlightPower} : (s.mapFpower f).storeys = s.storeys := rfl
@[simp] theorem State.mapFpower_dies {f : Nat → FlightPower → FlightPower} : (s.mapFpower f).dies = s.dies := rfl
@[simp] theorem State.mapFpower_treads {f : Nat → FlightPower → FlightPower} : (s.mapFpower f).treads = s.treads := rfl
@[simp] theorem State.mapFpower_baseplate {f : Nat → FlightPower → FlightPower} : (s.mapFpower f).baseplate = s.baseplate := rfl
@[simp] theorem State.mapFpower_dissip {f : Nat → FlightPower → FlightPower} : (s.mapFpower f).dissip = s.dissip := rfl
@[simp] theorem State.mapFpower_senses {f : Nat → FlightPower → FlightPower} : (s.mapFpower f).senses = s.senses := rfl
@[simp] theorem State.mapFpower_cleaners {f : Nat → FlightPower → FlightPower} : (s.mapFpower f).cleaners = s.cleaners := rfl
@[simp] theorem State.mapFpower_ports {f : Nat → FlightPower → FlightPower} : (s.mapFpower f).ports = s.ports := rfl
@[simp] theorem State.mapFpower_echos {f : Nat → FlightPower → FlightPower} : (s.mapFpower f).echos = s.echos := rfl
@[simp] theorem State.mapFpower_axes {f : Nat → FlightPower → FlightPower} : (s.mapFpower f).axes = s.axes := rfl
@[simp] theorem State.mapFpower_doors {f : Nat → FlightPower → FlightPower} : (s.mapFpower f).doors = s.doors := rfl
@[simp] theorem State.mapFpower_obst {f : Nat → FlightPower → FlightPower} : (s.mapFpower f).obst = s.obst := rfl
@[simp] theorem State.mapFpower_hallA {f : Nat → FlightPower → FlightPower} : (s.mapFpower f).hallA = s.hallA := rfl
@[simp] theorem State.mapFpower_hallB {f : Nat → FlightPower → FlightPower} : (s.mapFpower f).hallB = s.hallB := rfl
@[simp] theorem State.mapFpower_safety {f : Nat → FlightPower → FlightPower} : (s.mapFpower f).safety = s.safety := rfl
@[simp] theorem State.mapFpower_conns {f : Nat → FlightPower → FlightPower} : (s.mapFpower f).conns = s.conns := rfl
@[simp] theorem State.mapFpower_firstStandby {f : Nat → FlightPower → FlightPower} : (s.mapFpower f).firstStandby = s.firstStandby := rfl
@[simp] theorem State.mapFpower_train {f : Nat → FlightPower → FlightPower} : (s.mapFpower f).train = s.train := rfl
@[simp] theorem State.mapFpower_prog {f : Nat → FlightPower → FlightPower} : (s.mapFpower f).prog = s.prog := rfl
@[simp] theorem State.mapFpower_can {f : Nat → FlightPower → FlightPower} : (s.mapFpower f).can = s.can := rfl
@[simp] theorem State.mapFpower_gallery {f : Nat → FlightPower → FlightPower} : (s.mapFpower f).gallery = s.gallery := rfl
@[simp] theorem State.mapFpower_host {f : Nat → FlightPower → FlightPower} : (s.mapFpower f).host = s.host := rfl
@[simp] theorem State.mapFpower_ring {f : Nat → FlightPower → FlightPower} : (s.mapFpower f).ring = s.ring := rfl
@[simp] theorem State.mapFpower_sec {f : Nat → FlightPower → FlightPower} : (s.mapFpower f).sec = s.sec := rfl
@[simp] theorem State.mapFpower_outs {f : Nat → FlightPower → FlightPower} : (s.mapFpower f).outs = s.outs := rfl
@[simp] theorem State.mapFpower_draws {f : Nat → FlightPower → FlightPower} : (s.mapFpower f).draws = s.draws := rfl
@[simp] theorem State.mapFpower_flightPower {f : Nat → FlightPower → FlightPower} : (s.mapFpower f).flightPower = s.flightPower.mapIdx f := rfl
theorem State.fpower_mapFpower {f : Nat → FlightPower → FlightPower} {n : Nat} (h : n < s.flightPower.length) : (s.mapFpower f).fpower n = f n (s.fpower n) := by
  simp [State.fpower, State.mapFpower, h]

@[simp] theorem State.mapSenses_pending {f : Nat → Sense → Sense} : (s.mapSenses f).pending = s.pending := rfl
@[simp] theorem State.mapSenses_clock {f : Nat → Sense → Sense} : (s.mapSenses f).clock = s.clock := rfl
@[simp] theorem State.mapSenses_params {f : Nat → Sense → Sense} : (s.mapSenses f).params = s.params := rfl
@[simp] theorem State.mapSenses_supply {f : Nat → Sense → Sense} : (s.mapSenses f).supply = s.supply := rfl
@[simp] theorem State.mapSenses_limp {f : Nat → Sense → Sense} : (s.mapSenses f).limp = s.limp := rfl
@[simp] theorem State.mapSenses_flightBudgets {f : Nat → Sense → Sense} : (s.mapSenses f).flightBudgets = s.flightBudgets := rfl
@[simp] theorem State.mapSenses_storeyBudgets {f : Nat → Sense → Sense} : (s.mapSenses f).storeyBudgets = s.storeyBudgets := rfl
@[simp] theorem State.mapSenses_dieBudgets {f : Nat → Sense → Sense} : (s.mapSenses f).dieBudgets = s.dieBudgets := rfl
@[simp] theorem State.mapSenses_currentBudget {f : Nat → Sense → Sense} : (s.mapSenses f).currentBudget = s.currentBudget := rfl
@[simp] theorem State.mapSenses_thermalBudget {f : Nat → Sense → Sense} : (s.mapSenses f).thermalBudget = s.thermalBudget := rfl
@[simp] theorem State.mapSenses_storeys {f : Nat → Sense → Sense} : (s.mapSenses f).storeys = s.storeys := rfl
@[simp] theorem State.mapSenses_dies {f : Nat → Sense → Sense} : (s.mapSenses f).dies = s.dies := rfl
@[simp] theorem State.mapSenses_flightPower {f : Nat → Sense → Sense} : (s.mapSenses f).flightPower = s.flightPower := rfl
@[simp] theorem State.mapSenses_treads {f : Nat → Sense → Sense} : (s.mapSenses f).treads = s.treads := rfl
@[simp] theorem State.mapSenses_baseplate {f : Nat → Sense → Sense} : (s.mapSenses f).baseplate = s.baseplate := rfl
@[simp] theorem State.mapSenses_dissip {f : Nat → Sense → Sense} : (s.mapSenses f).dissip = s.dissip := rfl
@[simp] theorem State.mapSenses_cleaners {f : Nat → Sense → Sense} : (s.mapSenses f).cleaners = s.cleaners := rfl
@[simp] theorem State.mapSenses_ports {f : Nat → Sense → Sense} : (s.mapSenses f).ports = s.ports := rfl
@[simp] theorem State.mapSenses_echos {f : Nat → Sense → Sense} : (s.mapSenses f).echos = s.echos := rfl
@[simp] theorem State.mapSenses_axes {f : Nat → Sense → Sense} : (s.mapSenses f).axes = s.axes := rfl
@[simp] theorem State.mapSenses_doors {f : Nat → Sense → Sense} : (s.mapSenses f).doors = s.doors := rfl
@[simp] theorem State.mapSenses_obst {f : Nat → Sense → Sense} : (s.mapSenses f).obst = s.obst := rfl
@[simp] theorem State.mapSenses_hallA {f : Nat → Sense → Sense} : (s.mapSenses f).hallA = s.hallA := rfl
@[simp] theorem State.mapSenses_hallB {f : Nat → Sense → Sense} : (s.mapSenses f).hallB = s.hallB := rfl
@[simp] theorem State.mapSenses_safety {f : Nat → Sense → Sense} : (s.mapSenses f).safety = s.safety := rfl
@[simp] theorem State.mapSenses_conns {f : Nat → Sense → Sense} : (s.mapSenses f).conns = s.conns := rfl
@[simp] theorem State.mapSenses_firstStandby {f : Nat → Sense → Sense} : (s.mapSenses f).firstStandby = s.firstStandby := rfl
@[simp] theorem State.mapSenses_train {f : Nat → Sense → Sense} : (s.mapSenses f).train = s.train := rfl
@[simp] theorem State.mapSenses_prog {f : Nat → Sense → Sense} : (s.mapSenses f).prog = s.prog := rfl
@[simp] theorem State.mapSenses_can {f : Nat → Sense → Sense} : (s.mapSenses f).can = s.can := rfl
@[simp] theorem State.mapSenses_gallery {f : Nat → Sense → Sense} : (s.mapSenses f).gallery = s.gallery := rfl
@[simp] theorem State.mapSenses_host {f : Nat → Sense → Sense} : (s.mapSenses f).host = s.host := rfl
@[simp] theorem State.mapSenses_ring {f : Nat → Sense → Sense} : (s.mapSenses f).ring = s.ring := rfl
@[simp] theorem State.mapSenses_sec {f : Nat → Sense → Sense} : (s.mapSenses f).sec = s.sec := rfl
@[simp] theorem State.mapSenses_outs {f : Nat → Sense → Sense} : (s.mapSenses f).outs = s.outs := rfl
@[simp] theorem State.mapSenses_draws {f : Nat → Sense → Sense} : (s.mapSenses f).draws = s.draws := rfl
@[simp] theorem State.mapSenses_senses {f : Nat → Sense → Sense} : (s.mapSenses f).senses = s.senses.mapIdx f := rfl
theorem State.sense_mapSenses {f : Nat → Sense → Sense} {n : Nat} (h : n < s.senses.length) : (s.mapSenses f).sense n = f n (s.sense n) := by
  simp [State.sense, State.mapSenses, h]

@[simp] theorem State.mapPorts_pending {f : Nat → Port → Port} : (s.mapPorts f).pending = s.pending := rfl
@[simp] theorem State.mapPorts_clock {f : Nat → Port → Port} : (s.mapPorts f).clock = s.clock := rfl
@[simp] theorem State.mapPorts_params {f : Nat → Port → Port} : (s.mapPorts f).params = s.params := rfl
@[simp] theorem State.mapPorts_supply {f : Nat → Port → Port} : (s.mapPorts f).supply = s.supply := rfl
@[simp] theorem State.mapPorts_limp {f : Nat → Port → Port} : (s.mapPorts f).limp = s.limp := rfl
@[simp] theorem State.mapPorts_flightBudgets {f : Nat → Port → Port} : (s.mapPorts f).flightBudgets = s.flightBudgets := rfl
@[simp] theorem State.mapPorts_storeyBudgets {f : Nat → Port → Port} : (s.mapPorts f).storeyBudgets = s.storeyBudgets := rfl
@[simp] theorem State.mapPorts_dieBudgets {f : Nat → Port → Port} : (s.mapPorts f).dieBudgets = s.dieBudgets := rfl
@[simp] theorem State.mapPorts_currentBudget {f : Nat → Port → Port} : (s.mapPorts f).currentBudget = s.currentBudget := rfl
@[simp] theorem State.mapPorts_thermalBudget {f : Nat → Port → Port} : (s.mapPorts f).thermalBudget = s.thermalBudget := rfl
@[simp] theorem State.mapPorts_storeys {f : Nat → Port → Port} : (s.mapPorts f).storeys = s.storeys := rfl
@[simp] theorem State.mapPorts_dies {f : Nat → Port → Port} : (s.mapPorts f).dies = s.dies := rfl
@[simp] theorem State.mapPorts_flightPower {f : Nat → Port → Port} : (s.mapPorts f).flightPower = s.flightPower := rfl
@[simp] theorem State.mapPorts_treads {f : Nat → Port → Port} : (s.mapPorts f).treads = s.treads := rfl
@[simp] theorem State.mapPorts_baseplate {f : Nat → Port → Port} : (s.mapPorts f).baseplate = s.baseplate := rfl
@[simp] theorem State.mapPorts_dissip {f : Nat → Port → Port} : (s.mapPorts f).dissip = s.dissip := rfl
@[simp] theorem State.mapPorts_senses {f : Nat → Port → Port} : (s.mapPorts f).senses = s.senses := rfl
@[simp] theorem State.mapPorts_cleaners {f : Nat → Port → Port} : (s.mapPorts f).cleaners = s.cleaners := rfl
@[simp] theorem State.mapPorts_echos {f : Nat → Port → Port} : (s.mapPorts f).echos = s.echos := rfl
@[simp] theorem State.mapPorts_axes {f : Nat → Port → Port} : (s.mapPorts f).axes = s.axes := rfl
@[simp] theorem State.mapPorts_doors {f : Nat → Port → Port} : (s.mapPorts f).doors = s.doors := rfl
@[simp] theorem State.mapPorts_obst {f : Nat → Port → Port} : (s.mapPorts f).obst = s.obst := rfl
@[simp] theorem State.mapPorts_hallA {f : Nat → Port → Port} : (s.mapPorts f).hallA = s.hallA := rfl
@[simp] theorem State.mapPorts_hallB {f : Nat → Port → Port} : (s.mapPorts f).hallB = s.hallB := rfl
@[simp] theorem State.mapPorts_safety {f : Nat → Port → Port} : (s.mapPorts f).safety = s.safety := rfl
@[simp] theorem State.mapPorts_conns {f : Nat → Port → Port} : (s.mapPorts f).conns = s.conns := rfl
@[simp] theorem State.mapPorts_firstStandby {f : Nat → Port → Port} : (s.mapPorts f).firstStandby = s.firstStandby := rfl
@[simp] theorem State.mapPorts_train {f : Nat → Port → Port} : (s.mapPorts f).train = s.train := rfl
@[simp] theorem State.mapPorts_prog {f : Nat → Port → Port} : (s.mapPorts f).prog = s.prog := rfl
@[simp] theorem State.mapPorts_can {f : Nat → Port → Port} : (s.mapPorts f).can = s.can := rfl
@[simp] theorem State.mapPorts_gallery {f : Nat → Port → Port} : (s.mapPorts f).gallery = s.gallery := rfl
@[simp] theorem State.mapPorts_host {f : Nat → Port → Port} : (s.mapPorts f).host = s.host := rfl
@[simp] theorem State.mapPorts_ring {f : Nat → Port → Port} : (s.mapPorts f).ring = s.ring := rfl
@[simp] theorem State.mapPorts_sec {f : Nat → Port → Port} : (s.mapPorts f).sec = s.sec := rfl
@[simp] theorem State.mapPorts_outs {f : Nat → Port → Port} : (s.mapPorts f).outs = s.outs := rfl
@[simp] theorem State.mapPorts_draws {f : Nat → Port → Port} : (s.mapPorts f).draws = s.draws := rfl
@[simp] theorem State.mapPorts_ports {f : Nat → Port → Port} : (s.mapPorts f).ports = s.ports.mapIdx f := rfl
theorem State.port_mapPorts {f : Nat → Port → Port} {n : Nat} (h : n < s.ports.length) : (s.mapPorts f).port n = f n (s.port n) := by
  simp [State.port, State.mapPorts, h]

@[simp] theorem State.mapAxes_pending {f : Nat → Axis → Axis} : (s.mapAxes f).pending = s.pending := rfl
@[simp] theorem State.mapAxes_clock {f : Nat → Axis → Axis} : (s.mapAxes f).clock = s.clock := rfl
@[simp] theorem State.mapAxes_params {f : Nat → Axis → Axis} : (s.mapAxes f).params = s.params := rfl
@[simp] theorem State.mapAxes_supply {f : Nat → Axis → Axis} : (s.mapAxes f).supply = s.supply := rfl
@[simp] theorem State.mapAxes_limp {f : Nat → Axis → Axis} : (s.mapAxes f).limp = s.limp := rfl
@[simp] theorem State.mapAxes_flightBudgets {f : Nat → Axis → Axis} : (s.mapAxes f).flightBudgets = s.flightBudgets := rfl
@[simp] theorem State.mapAxes_storeyBudgets {f : Nat → Axis → Axis} : (s.mapAxes f).storeyBudgets = s.storeyBudgets := rfl
@[simp] theorem State.mapAxes_dieBudgets {f : Nat → Axis → Axis} : (s.mapAxes f).dieBudgets = s.dieBudgets := rfl
@[simp] theorem State.mapAxes_currentBudget {f : Nat → Axis → Axis} : (s.mapAxes f).currentBudget = s.currentBudget := rfl
@[simp] theorem State.mapAxes_thermalBudget {f : Nat → Axis → Axis} : (s.mapAxes f).thermalBudget = s.thermalBudget := rfl
@[simp] theorem State.mapAxes_storeys {f : Nat → Axis → Axis} : (s.mapAxes f).storeys = s.storeys := rfl
@[simp] theorem State.mapAxes_dies {f : Nat → Axis → Axis} : (s.mapAxes f).dies = s.dies := rfl
@[simp] theorem State.mapAxes_flightPower {f : Nat → Axis → Axis} : (s.mapAxes f).flightPower = s.flightPower := rfl
@[simp] theorem State.mapAxes_treads {f : Nat → Axis → Axis} : (s.mapAxes f).treads = s.treads := rfl
@[simp] theorem State.mapAxes_baseplate {f : Nat → Axis → Axis} : (s.mapAxes f).baseplate = s.baseplate := rfl
@[simp] theorem State.mapAxes_dissip {f : Nat → Axis → Axis} : (s.mapAxes f).dissip = s.dissip := rfl
@[simp] theorem State.mapAxes_senses {f : Nat → Axis → Axis} : (s.mapAxes f).senses = s.senses := rfl
@[simp] theorem State.mapAxes_cleaners {f : Nat → Axis → Axis} : (s.mapAxes f).cleaners = s.cleaners := rfl
@[simp] theorem State.mapAxes_ports {f : Nat → Axis → Axis} : (s.mapAxes f).ports = s.ports := rfl
@[simp] theorem State.mapAxes_echos {f : Nat → Axis → Axis} : (s.mapAxes f).echos = s.echos := rfl
@[simp] theorem State.mapAxes_doors {f : Nat → Axis → Axis} : (s.mapAxes f).doors = s.doors := rfl
@[simp] theorem State.mapAxes_obst {f : Nat → Axis → Axis} : (s.mapAxes f).obst = s.obst := rfl
@[simp] theorem State.mapAxes_hallA {f : Nat → Axis → Axis} : (s.mapAxes f).hallA = s.hallA := rfl
@[simp] theorem State.mapAxes_hallB {f : Nat → Axis → Axis} : (s.mapAxes f).hallB = s.hallB := rfl
@[simp] theorem State.mapAxes_safety {f : Nat → Axis → Axis} : (s.mapAxes f).safety = s.safety := rfl
@[simp] theorem State.mapAxes_conns {f : Nat → Axis → Axis} : (s.mapAxes f).conns = s.conns := rfl
@[simp] theorem State.mapAxes_firstStandby {f : Nat → Axis → Axis} : (s.mapAxes f).firstStandby = s.firstStandby := rfl
@[simp] theorem State.mapAxes_train {f : Nat → Axis → Axis} : (s.mapAxes f).train = s.train := rfl
@[simp] theorem State.mapAxes_prog {f : Nat → Axis → Axis} : (s.mapAxes f).prog = s.prog := rfl
@[simp] theorem State.mapAxes_can {f : Nat → Axis → Axis} : (s.mapAxes f).can = s.can := rfl
@[simp] theorem State.mapAxes_gallery {f : Nat → Axis → Axis} : (s.mapAxes f).gallery = s.gallery := rfl
@[simp] theorem State.mapAxes_host {f : Nat → Axis → Axis} : (s.mapAxes f).host = s.host := rfl
@[simp] theorem State.mapAxes_ring {f : Nat → Axis → Axis} : (s.mapAxes f).ring = s.ring := rfl
@[simp] theorem State.mapAxes_sec {f : Nat → Axis → Axis} : (s.mapAxes f).sec = s.sec := rfl
@[simp] theorem State.mapAxes_outs {f : Nat → Axis → Axis} : (s.mapAxes f).outs = s.outs := rfl
@[simp] theorem State.mapAxes_draws {f : Nat → Axis → Axis} : (s.mapAxes f).draws = s.draws := rfl
@[simp] theorem State.mapAxes_axes {f : Nat → Axis → Axis} : (s.mapAxes f).axes = s.axes.mapIdx f := rfl
theorem State.axis_mapAxes {f : Nat → Axis → Axis} {n : Nat} (h : n < s.axes.length) : (s.mapAxes f).axis n = f n (s.axis n) := by
  simp [State.axis, State.mapAxes, h]

@[simp] theorem State.mapDoors_pending {f : Nat → Door → Door} : (s.mapDoors f).pending = s.pending := rfl
@[simp] theorem State.mapDoors_clock {f : Nat → Door → Door} : (s.mapDoors f).clock = s.clock := rfl
@[simp] theorem State.mapDoors_params {f : Nat → Door → Door} : (s.mapDoors f).params = s.params := rfl
@[simp] theorem State.mapDoors_supply {f : Nat → Door → Door} : (s.mapDoors f).supply = s.supply := rfl
@[simp] theorem State.mapDoors_limp {f : Nat → Door → Door} : (s.mapDoors f).limp = s.limp := rfl
@[simp] theorem State.mapDoors_flightBudgets {f : Nat → Door → Door} : (s.mapDoors f).flightBudgets = s.flightBudgets := rfl
@[simp] theorem State.mapDoors_storeyBudgets {f : Nat → Door → Door} : (s.mapDoors f).storeyBudgets = s.storeyBudgets := rfl
@[simp] theorem State.mapDoors_dieBudgets {f : Nat → Door → Door} : (s.mapDoors f).dieBudgets = s.dieBudgets := rfl
@[simp] theorem State.mapDoors_currentBudget {f : Nat → Door → Door} : (s.mapDoors f).currentBudget = s.currentBudget := rfl
@[simp] theorem State.mapDoors_thermalBudget {f : Nat → Door → Door} : (s.mapDoors f).thermalBudget = s.thermalBudget := rfl
@[simp] theorem State.mapDoors_storeys {f : Nat → Door → Door} : (s.mapDoors f).storeys = s.storeys := rfl
@[simp] theorem State.mapDoors_dies {f : Nat → Door → Door} : (s.mapDoors f).dies = s.dies := rfl
@[simp] theorem State.mapDoors_flightPower {f : Nat → Door → Door} : (s.mapDoors f).flightPower = s.flightPower := rfl
@[simp] theorem State.mapDoors_treads {f : Nat → Door → Door} : (s.mapDoors f).treads = s.treads := rfl
@[simp] theorem State.mapDoors_baseplate {f : Nat → Door → Door} : (s.mapDoors f).baseplate = s.baseplate := rfl
@[simp] theorem State.mapDoors_dissip {f : Nat → Door → Door} : (s.mapDoors f).dissip = s.dissip := rfl
@[simp] theorem State.mapDoors_senses {f : Nat → Door → Door} : (s.mapDoors f).senses = s.senses := rfl
@[simp] theorem State.mapDoors_cleaners {f : Nat → Door → Door} : (s.mapDoors f).cleaners = s.cleaners := rfl
@[simp] theorem State.mapDoors_ports {f : Nat → Door → Door} : (s.mapDoors f).ports = s.ports := rfl
@[simp] theorem State.mapDoors_echos {f : Nat → Door → Door} : (s.mapDoors f).echos = s.echos := rfl
@[simp] theorem State.mapDoors_axes {f : Nat → Door → Door} : (s.mapDoors f).axes = s.axes := rfl
@[simp] theorem State.mapDoors_obst {f : Nat → Door → Door} : (s.mapDoors f).obst = s.obst := rfl
@[simp] theorem State.mapDoors_hallA {f : Nat → Door → Door} : (s.mapDoors f).hallA = s.hallA := rfl
@[simp] theorem State.mapDoors_hallB {f : Nat → Door → Door} : (s.mapDoors f).hallB = s.hallB := rfl
@[simp] theorem State.mapDoors_safety {f : Nat → Door → Door} : (s.mapDoors f).safety = s.safety := rfl
@[simp] theorem State.mapDoors_conns {f : Nat → Door → Door} : (s.mapDoors f).conns = s.conns := rfl
@[simp] theorem State.mapDoors_firstStandby {f : Nat → Door → Door} : (s.mapDoors f).firstStandby = s.firstStandby := rfl
@[simp] theorem State.mapDoors_train {f : Nat → Door → Door} : (s.mapDoors f).train = s.train := rfl
@[simp] theorem State.mapDoors_prog {f : Nat → Door → Door} : (s.mapDoors f).prog = s.prog := rfl
@[simp] theorem State.mapDoors_can {f : Nat → Door → Door} : (s.mapDoors f).can = s.can := rfl
@[simp] theorem State.mapDoors_gallery {f : Nat → Door → Door} : (s.mapDoors f).gallery = s.gallery := rfl
@[simp] theorem State.mapDoors_host {f : Nat → Door → Door} : (s.mapDoors f).host = s.host := rfl
@[simp] theorem State.mapDoors_ring {f : Nat → Door → Door} : (s.mapDoors f).ring = s.ring := rfl
@[simp] theorem State.mapDoors_sec {f : Nat → Door → Door} : (s.mapDoors f).sec = s.sec := rfl
@[simp] theorem State.mapDoors_outs {f : Nat → Door → Door} : (s.mapDoors f).outs = s.outs := rfl
@[simp] theorem State.mapDoors_draws {f : Nat → Door → Door} : (s.mapDoors f).draws = s.draws := rfl
@[simp] theorem State.mapDoors_doors {f : Nat → Door → Door} : (s.mapDoors f).doors = s.doors.mapIdx f := rfl
theorem State.door_mapDoors {f : Nat → Door → Door} {n : Nat} (h : n < s.doors.length) : (s.mapDoors f).door n = f n (s.door n) := by
  simp [State.door, State.mapDoors, h]

@[simp] theorem State.mapObst_pending {f : Nat → Obst → Obst} : (s.mapObst f).pending = s.pending := rfl
@[simp] theorem State.mapObst_clock {f : Nat → Obst → Obst} : (s.mapObst f).clock = s.clock := rfl
@[simp] theorem State.mapObst_params {f : Nat → Obst → Obst} : (s.mapObst f).params = s.params := rfl
@[simp] theorem State.mapObst_supply {f : Nat → Obst → Obst} : (s.mapObst f).supply = s.supply := rfl
@[simp] theorem State.mapObst_limp {f : Nat → Obst → Obst} : (s.mapObst f).limp = s.limp := rfl
@[simp] theorem State.mapObst_flightBudgets {f : Nat → Obst → Obst} : (s.mapObst f).flightBudgets = s.flightBudgets := rfl
@[simp] theorem State.mapObst_storeyBudgets {f : Nat → Obst → Obst} : (s.mapObst f).storeyBudgets = s.storeyBudgets := rfl
@[simp] theorem State.mapObst_dieBudgets {f : Nat → Obst → Obst} : (s.mapObst f).dieBudgets = s.dieBudgets := rfl
@[simp] theorem State.mapObst_currentBudget {f : Nat → Obst → Obst} : (s.mapObst f).currentBudget = s.currentBudget := rfl
@[simp] theorem State.mapObst_thermalBudget {f : Nat → Obst → Obst} : (s.mapObst f).thermalBudget = s.thermalBudget := rfl
@[simp] theorem State.mapObst_storeys {f : Nat → Obst → Obst} : (s.mapObst f).storeys = s.storeys := rfl
@[simp] theorem State.mapObst_dies {f : Nat → Obst → Obst} : (s.mapObst f).dies = s.dies := rfl
@[simp] theorem State.mapObst_flightPower {f : Nat → Obst → Obst} : (s.mapObst f).flightPower = s.flightPower := rfl
@[simp] theorem State.mapObst_treads {f : Nat → Obst → Obst} : (s.mapObst f).treads = s.treads := rfl
@[simp] theorem State.mapObst_baseplate {f : Nat → Obst → Obst} : (s.mapObst f).baseplate = s.baseplate := rfl
@[simp] theorem State.mapObst_dissip {f : Nat → Obst → Obst} : (s.mapObst f).dissip = s.dissip := rfl
@[simp] theorem State.mapObst_senses {f : Nat → Obst → Obst} : (s.mapObst f).senses = s.senses := rfl
@[simp] theorem State.mapObst_cleaners {f : Nat → Obst → Obst} : (s.mapObst f).cleaners = s.cleaners := rfl
@[simp] theorem State.mapObst_ports {f : Nat → Obst → Obst} : (s.mapObst f).ports = s.ports := rfl
@[simp] theorem State.mapObst_echos {f : Nat → Obst → Obst} : (s.mapObst f).echos = s.echos := rfl
@[simp] theorem State.mapObst_axes {f : Nat → Obst → Obst} : (s.mapObst f).axes = s.axes := rfl
@[simp] theorem State.mapObst_doors {f : Nat → Obst → Obst} : (s.mapObst f).doors = s.doors := rfl
@[simp] theorem State.mapObst_hallA {f : Nat → Obst → Obst} : (s.mapObst f).hallA = s.hallA := rfl
@[simp] theorem State.mapObst_hallB {f : Nat → Obst → Obst} : (s.mapObst f).hallB = s.hallB := rfl
@[simp] theorem State.mapObst_safety {f : Nat → Obst → Obst} : (s.mapObst f).safety = s.safety := rfl
@[simp] theorem State.mapObst_conns {f : Nat → Obst → Obst} : (s.mapObst f).conns = s.conns := rfl
@[simp] theorem State.mapObst_firstStandby {f : Nat → Obst → Obst} : (s.mapObst f).firstStandby = s.firstStandby := rfl
@[simp] theorem State.mapObst_train {f : Nat → Obst → Obst} : (s.mapObst f).train = s.train := rfl
@[simp] theorem State.mapObst_prog {f : Nat → Obst → Obst} : (s.mapObst f).prog = s.prog := rfl
@[simp] theorem State.mapObst_can {f : Nat → Obst → Obst} : (s.mapObst f).can = s.can := rfl
@[simp] theorem State.mapObst_gallery {f : Nat → Obst → Obst} : (s.mapObst f).gallery = s.gallery := rfl
@[simp] theorem State.mapObst_host {f : Nat → Obst → Obst} : (s.mapObst f).host = s.host := rfl
@[simp] theorem State.mapObst_ring {f : Nat → Obst → Obst} : (s.mapObst f).ring = s.ring := rfl
@[simp] theorem State.mapObst_sec {f : Nat → Obst → Obst} : (s.mapObst f).sec = s.sec := rfl
@[simp] theorem State.mapObst_outs {f : Nat → Obst → Obst} : (s.mapObst f).outs = s.outs := rfl
@[simp] theorem State.mapObst_draws {f : Nat → Obst → Obst} : (s.mapObst f).draws = s.draws := rfl
@[simp] theorem State.mapObst_obst {f : Nat → Obst → Obst} : (s.mapObst f).obst = s.obst.mapIdx f := rfl
theorem State.obs_mapObst {f : Nat → Obst → Obst} {n : Nat} (h : n < s.obst.length) : (s.mapObst f).obs n = f n (s.obs n) := by
  simp [State.obs, State.mapObst, h]

@[simp] theorem State.mapConns_pending {f : Nat → Conn → Conn} : (s.mapConns f).pending = s.pending := rfl
@[simp] theorem State.mapConns_clock {f : Nat → Conn → Conn} : (s.mapConns f).clock = s.clock := rfl
@[simp] theorem State.mapConns_params {f : Nat → Conn → Conn} : (s.mapConns f).params = s.params := rfl
@[simp] theorem State.mapConns_supply {f : Nat → Conn → Conn} : (s.mapConns f).supply = s.supply := rfl
@[simp] theorem State.mapConns_limp {f : Nat → Conn → Conn} : (s.mapConns f).limp = s.limp := rfl
@[simp] theorem State.mapConns_flightBudgets {f : Nat → Conn → Conn} : (s.mapConns f).flightBudgets = s.flightBudgets := rfl
@[simp] theorem State.mapConns_storeyBudgets {f : Nat → Conn → Conn} : (s.mapConns f).storeyBudgets = s.storeyBudgets := rfl
@[simp] theorem State.mapConns_dieBudgets {f : Nat → Conn → Conn} : (s.mapConns f).dieBudgets = s.dieBudgets := rfl
@[simp] theorem State.mapConns_currentBudget {f : Nat → Conn → Conn} : (s.mapConns f).currentBudget = s.currentBudget := rfl
@[simp] theorem State.mapConns_thermalBudget {f : Nat → Conn → Conn} : (s.mapConns f).thermalBudget = s.thermalBudget := rfl
@[simp] theorem State.mapConns_storeys {f : Nat → Conn → Conn} : (s.mapConns f).storeys = s.storeys := rfl
@[simp] theorem State.mapConns_dies {f : Nat → Conn → Conn} : (s.mapConns f).dies = s.dies := rfl
@[simp] theorem State.mapConns_flightPower {f : Nat → Conn → Conn} : (s.mapConns f).flightPower = s.flightPower := rfl
@[simp] theorem State.mapConns_treads {f : Nat → Conn → Conn} : (s.mapConns f).treads = s.treads := rfl
@[simp] theorem State.mapConns_baseplate {f : Nat → Conn → Conn} : (s.mapConns f).baseplate = s.baseplate := rfl
@[simp] theorem State.mapConns_dissip {f : Nat → Conn → Conn} : (s.mapConns f).dissip = s.dissip := rfl
@[simp] theorem State.mapConns_senses {f : Nat → Conn → Conn} : (s.mapConns f).senses = s.senses := rfl
@[simp] theorem State.mapConns_cleaners {f : Nat → Conn → Conn} : (s.mapConns f).cleaners = s.cleaners := rfl
@[simp] theorem State.mapConns_ports {f : Nat → Conn → Conn} : (s.mapConns f).ports = s.ports := rfl
@[simp] theorem State.mapConns_echos {f : Nat → Conn → Conn} : (s.mapConns f).echos = s.echos := rfl
@[simp] theorem State.mapConns_axes {f : Nat → Conn → Conn} : (s.mapConns f).axes = s.axes := rfl
@[simp] theorem State.mapConns_doors {f : Nat → Conn → Conn} : (s.mapConns f).doors = s.doors := rfl
@[simp] theorem State.mapConns_obst {f : Nat → Conn → Conn} : (s.mapConns f).obst = s.obst := rfl
@[simp] theorem State.mapConns_hallA {f : Nat → Conn → Conn} : (s.mapConns f).hallA = s.hallA := rfl
@[simp] theorem State.mapConns_hallB {f : Nat → Conn → Conn} : (s.mapConns f).hallB = s.hallB := rfl
@[simp] theorem State.mapConns_safety {f : Nat → Conn → Conn} : (s.mapConns f).safety = s.safety := rfl
@[simp] theorem State.mapConns_firstStandby {f : Nat → Conn → Conn} : (s.mapConns f).firstStandby = s.firstStandby := rfl
@[simp] theorem State.mapConns_train {f : Nat → Conn → Conn} : (s.mapConns f).train = s.train := rfl
@[simp] theorem State.mapConns_prog {f : Nat → Conn → Conn} : (s.mapConns f).prog = s.prog := rfl
@[simp] theorem State.mapConns_can {f : Nat → Conn → Conn} : (s.mapConns f).can = s.can := rfl
@[simp] theorem State.mapConns_gallery {f : Nat → Conn → Conn} : (s.mapConns f).gallery = s.gallery := rfl
@[simp] theorem State.mapConns_host {f : Nat → Conn → Conn} : (s.mapConns f).host = s.host := rfl
@[simp] theorem State.mapConns_ring {f : Nat → Conn → Conn} : (s.mapConns f).ring = s.ring := rfl
@[simp] theorem State.mapConns_sec {f : Nat → Conn → Conn} : (s.mapConns f).sec = s.sec := rfl
@[simp] theorem State.mapConns_outs {f : Nat → Conn → Conn} : (s.mapConns f).outs = s.outs := rfl
@[simp] theorem State.mapConns_draws {f : Nat → Conn → Conn} : (s.mapConns f).draws = s.draws := rfl
@[simp] theorem State.mapConns_conns {f : Nat → Conn → Conn} : (s.mapConns f).conns = s.conns.mapIdx f := rfl
theorem State.conn_mapConns {f : Nat → Conn → Conn} {n : Nat} (h : n < s.conns.length) : (s.mapConns f).conn n = f n (s.conn n) := by
  simp [State.conn, State.mapConns, h]

@[simp] theorem State.modFsafe_pending {n : Nat} {f : FlightSafe → FlightSafe} : (s.modFsafe n f).pending = s.pending := rfl
@[simp] theorem State.modFsafe_clock {n : Nat} {f : FlightSafe → FlightSafe} : (s.modFsafe n f).clock = s.clock := rfl
@[simp] theorem State.modFsafe_params {n : Nat} {f : FlightSafe → FlightSafe} : (s.modFsafe n f).params = s.params := rfl
@[simp] theorem State.modFsafe_supply {n : Nat} {f : FlightSafe → FlightSafe} : (s.modFsafe n f).supply = s.supply := rfl
@[simp] theorem State.modFsafe_limp {n : Nat} {f : FlightSafe → FlightSafe} : (s.modFsafe n f).limp = s.limp := rfl
@[simp] theorem State.modFsafe_flightBudgets {n : Nat} {f : FlightSafe → FlightSafe} : (s.modFsafe n f).flightBudgets = s.flightBudgets := rfl
@[simp] theorem State.modFsafe_storeyBudgets {n : Nat} {f : FlightSafe → FlightSafe} : (s.modFsafe n f).storeyBudgets = s.storeyBudgets := rfl
@[simp] theorem State.modFsafe_dieBudgets {n : Nat} {f : FlightSafe → FlightSafe} : (s.modFsafe n f).dieBudgets = s.dieBudgets := rfl
@[simp] theorem State.modFsafe_currentBudget {n : Nat} {f : FlightSafe → FlightSafe} : (s.modFsafe n f).currentBudget = s.currentBudget := rfl
@[simp] theorem State.modFsafe_thermalBudget {n : Nat} {f : FlightSafe → FlightSafe} : (s.modFsafe n f).thermalBudget = s.thermalBudget := rfl
@[simp] theorem State.modFsafe_storeys {n : Nat} {f : FlightSafe → FlightSafe} : (s.modFsafe n f).storeys = s.storeys := rfl
@[simp] theorem State.modFsafe_dies {n : Nat} {f : FlightSafe → FlightSafe} : (s.modFsafe n f).dies = s.dies := rfl
@[simp] theorem State.modFsafe_flightPower {n : Nat} {f : FlightSafe → FlightSafe} : (s.modFsafe n f).flightPower = s.flightPower := rfl
@[simp] theorem State.modFsafe_treads {n : Nat} {f : FlightSafe → FlightSafe} : (s.modFsafe n f).treads = s.treads := rfl
@[simp] theorem State.modFsafe_baseplate {n : Nat} {f : FlightSafe → FlightSafe} : (s.modFsafe n f).baseplate = s.baseplate := rfl
@[simp] theorem State.modFsafe_dissip {n : Nat} {f : FlightSafe → FlightSafe} : (s.modFsafe n f).dissip = s.dissip := rfl
@[simp] theorem State.modFsafe_senses {n : Nat} {f : FlightSafe → FlightSafe} : (s.modFsafe n f).senses = s.senses := rfl
@[simp] theorem State.modFsafe_cleaners {n : Nat} {f : FlightSafe → FlightSafe} : (s.modFsafe n f).cleaners = s.cleaners := rfl
@[simp] theorem State.modFsafe_ports {n : Nat} {f : FlightSafe → FlightSafe} : (s.modFsafe n f).ports = s.ports := rfl
@[simp] theorem State.modFsafe_echos {n : Nat} {f : FlightSafe → FlightSafe} : (s.modFsafe n f).echos = s.echos := rfl
@[simp] theorem State.modFsafe_axes {n : Nat} {f : FlightSafe → FlightSafe} : (s.modFsafe n f).axes = s.axes := rfl
@[simp] theorem State.modFsafe_doors {n : Nat} {f : FlightSafe → FlightSafe} : (s.modFsafe n f).doors = s.doors := rfl
@[simp] theorem State.modFsafe_obst {n : Nat} {f : FlightSafe → FlightSafe} : (s.modFsafe n f).obst = s.obst := rfl
@[simp] theorem State.modFsafe_hallA {n : Nat} {f : FlightSafe → FlightSafe} : (s.modFsafe n f).hallA = s.hallA := rfl
@[simp] theorem State.modFsafe_hallB {n : Nat} {f : FlightSafe → FlightSafe} : (s.modFsafe n f).hallB = s.hallB := rfl
@[simp] theorem State.modFsafe_conns {n : Nat} {f : FlightSafe → FlightSafe} : (s.modFsafe n f).conns = s.conns := rfl
@[simp] theorem State.modFsafe_firstStandby {n : Nat} {f : FlightSafe → FlightSafe} : (s.modFsafe n f).firstStandby = s.firstStandby := rfl
@[simp] theorem State.modFsafe_train {n : Nat} {f : FlightSafe → FlightSafe} : (s.modFsafe n f).train = s.train := rfl
@[simp] theorem State.modFsafe_prog {n : Nat} {f : FlightSafe → FlightSafe} : (s.modFsafe n f).prog = s.prog := rfl
@[simp] theorem State.modFsafe_can {n : Nat} {f : FlightSafe → FlightSafe} : (s.modFsafe n f).can = s.can := rfl
@[simp] theorem State.modFsafe_gallery {n : Nat} {f : FlightSafe → FlightSafe} : (s.modFsafe n f).gallery = s.gallery := rfl
@[simp] theorem State.modFsafe_host {n : Nat} {f : FlightSafe → FlightSafe} : (s.modFsafe n f).host = s.host := rfl
@[simp] theorem State.modFsafe_ring {n : Nat} {f : FlightSafe → FlightSafe} : (s.modFsafe n f).ring = s.ring := rfl
@[simp] theorem State.modFsafe_sec {n : Nat} {f : FlightSafe → FlightSafe} : (s.modFsafe n f).sec = s.sec := rfl
@[simp] theorem State.modFsafe_outs {n : Nat} {f : FlightSafe → FlightSafe} : (s.modFsafe n f).outs = s.outs := rfl
@[simp] theorem State.modFsafe_draws {n : Nat} {f : FlightSafe → FlightSafe} : (s.modFsafe n f).draws = s.draws := rfl
theorem State.fsafe_modFsafe {n : Nat} {f : FlightSafe → FlightSafe} (h : n < s.safety.flights.length) : (s.modFsafe n f).fsafe n = f (s.fsafe n) := by
  simp [State.fsafe, State.modFsafe, h]

@[simp] theorem State.send_pending {m : OutMsg} : (s.send m).pending = s.pending := rfl
@[simp] theorem State.send_clock {m : OutMsg} : (s.send m).clock = s.clock := rfl
@[simp] theorem State.send_params {m : OutMsg} : (s.send m).params = s.params := rfl
@[simp] theorem State.send_supply {m : OutMsg} : (s.send m).supply = s.supply := rfl
@[simp] theorem State.send_limp {m : OutMsg} : (s.send m).limp = s.limp := rfl
@[simp] theorem State.send_flightBudgets {m : OutMsg} : (s.send m).flightBudgets = s.flightBudgets := rfl
@[simp] theorem State.send_storeyBudgets {m : OutMsg} : (s.send m).storeyBudgets = s.storeyBudgets := rfl
@[simp] theorem State.send_dieBudgets {m : OutMsg} : (s.send m).dieBudgets = s.dieBudgets := rfl
@[simp] theorem State.send_currentBudget {m : OutMsg} : (s.send m).currentBudget = s.currentBudget := rfl
@[simp] theorem State.send_thermalBudget {m : OutMsg} : (s.send m).thermalBudget = s.thermalBudget := rfl
@[simp] theorem State.send_storeys {m : OutMsg} : (s.send m).storeys = s.storeys := rfl
@[simp] theorem State.send_dies {m : OutMsg} : (s.send m).dies = s.dies := rfl
@[simp] theorem State.send_flightPower {m : OutMsg} : (s.send m).flightPower = s.flightPower := rfl
@[simp] theorem State.send_treads {m : OutMsg} : (s.send m).treads = s.treads := rfl
@[simp] theorem State.send_baseplate {m : OutMsg} : (s.send m).baseplate = s.baseplate := rfl
@[simp] theorem State.send_dissip {m : OutMsg} : (s.send m).dissip = s.dissip := rfl
@[simp] theorem State.send_senses {m : OutMsg} : (s.send m).senses = s.senses := rfl
@[simp] theorem State.send_cleaners {m : OutMsg} : (s.send m).cleaners = s.cleaners := rfl
@[simp] theorem State.send_ports {m : OutMsg} : (s.send m).ports = s.ports := rfl
@[simp] theorem State.send_echos {m : OutMsg} : (s.send m).echos = s.echos := rfl
@[simp] theorem State.send_axes {m : OutMsg} : (s.send m).axes = s.axes := rfl
@[simp] theorem State.send_doors {m : OutMsg} : (s.send m).doors = s.doors := rfl
@[simp] theorem State.send_obst {m : OutMsg} : (s.send m).obst = s.obst := rfl
@[simp] theorem State.send_hallA {m : OutMsg} : (s.send m).hallA = s.hallA := rfl
@[simp] theorem State.send_hallB {m : OutMsg} : (s.send m).hallB = s.hallB := rfl
@[simp] theorem State.send_safety {m : OutMsg} : (s.send m).safety = s.safety := rfl
@[simp] theorem State.send_conns {m : OutMsg} : (s.send m).conns = s.conns := rfl
@[simp] theorem State.send_firstStandby {m : OutMsg} : (s.send m).firstStandby = s.firstStandby := rfl
@[simp] theorem State.send_train {m : OutMsg} : (s.send m).train = s.train := rfl
@[simp] theorem State.send_prog {m : OutMsg} : (s.send m).prog = s.prog := rfl
@[simp] theorem State.send_can {m : OutMsg} : (s.send m).can = s.can := rfl
@[simp] theorem State.send_gallery {m : OutMsg} : (s.send m).gallery = s.gallery := rfl
@[simp] theorem State.send_host {m : OutMsg} : (s.send m).host = s.host := rfl
@[simp] theorem State.send_ring {m : OutMsg} : (s.send m).ring = s.ring := rfl
@[simp] theorem State.send_sec {m : OutMsg} : (s.send m).sec = s.sec := rfl
@[simp] theorem State.send_draws {m : OutMsg} : (s.send m).draws = s.draws := rfl
@[simp] theorem State.send_outs {m : OutMsg} : (s.send m).outs = m :: s.outs := rfl

@[simp] theorem State.draw_pending : (s.draw).pending = s.pending := rfl
@[simp] theorem State.draw_clock : (s.draw).clock = s.clock := rfl
@[simp] theorem State.draw_params : (s.draw).params = s.params := rfl
@[simp] theorem State.draw_supply : (s.draw).supply = s.supply := rfl
@[simp] theorem State.draw_limp : (s.draw).limp = s.limp := rfl
@[simp] theorem State.draw_flightBudgets : (s.draw).flightBudgets = s.flightBudgets := rfl
@[simp] theorem State.draw_storeyBudgets : (s.draw).storeyBudgets = s.storeyBudgets := rfl
@[simp] theorem State.draw_dieBudgets : (s.draw).dieBudgets = s.dieBudgets := rfl
@[simp] theorem State.draw_currentBudget : (s.draw).currentBudget = s.currentBudget := rfl
@[simp] theorem State.draw_thermalBudget : (s.draw).thermalBudget = s.thermalBudget := rfl
@[simp] theorem State.draw_storeys : (s.draw).storeys = s.storeys := rfl
@[simp] theorem State.draw_dies : (s.draw).dies = s.dies := rfl
@[simp] theorem State.draw_flightPower : (s.draw).flightPower = s.flightPower := rfl
@[simp] theorem State.draw_treads : (s.draw).treads = s.treads := rfl
@[simp] theorem State.draw_baseplate : (s.draw).baseplate = s.baseplate := rfl
@[simp] theorem State.draw_dissip : (s.draw).dissip = s.dissip := rfl
@[simp] theorem State.draw_senses : (s.draw).senses = s.senses := rfl
@[simp] theorem State.draw_cleaners : (s.draw).cleaners = s.cleaners := rfl
@[simp] theorem State.draw_ports : (s.draw).ports = s.ports := rfl
@[simp] theorem State.draw_echos : (s.draw).echos = s.echos := rfl
@[simp] theorem State.draw_axes : (s.draw).axes = s.axes := rfl
@[simp] theorem State.draw_doors : (s.draw).doors = s.doors := rfl
@[simp] theorem State.draw_obst : (s.draw).obst = s.obst := rfl
@[simp] theorem State.draw_hallA : (s.draw).hallA = s.hallA := rfl
@[simp] theorem State.draw_hallB : (s.draw).hallB = s.hallB := rfl
@[simp] theorem State.draw_safety : (s.draw).safety = s.safety := rfl
@[simp] theorem State.draw_conns : (s.draw).conns = s.conns := rfl
@[simp] theorem State.draw_firstStandby : (s.draw).firstStandby = s.firstStandby := rfl
@[simp] theorem State.draw_train : (s.draw).train = s.train := rfl
@[simp] theorem State.draw_prog : (s.draw).prog = s.prog := rfl
@[simp] theorem State.draw_can : (s.draw).can = s.can := rfl
@[simp] theorem State.draw_gallery : (s.draw).gallery = s.gallery := rfl
@[simp] theorem State.draw_host : (s.draw).host = s.host := rfl
@[simp] theorem State.draw_ring : (s.draw).ring = s.ring := rfl
@[simp] theorem State.draw_sec : (s.draw).sec = s.sec := rfl
@[simp] theorem State.draw_outs : (s.draw).outs = s.outs := rfl
@[simp] theorem State.draw_draws : s.draw.draws = s.draws + 1 := rfl

@[simp] theorem State.setPar_pending {pid : Nat} {v : BitVec 32} : (s.setPar pid v).pending = s.pending := rfl
@[simp] theorem State.setPar_clock {pid : Nat} {v : BitVec 32} : (s.setPar pid v).clock = s.clock := rfl
@[simp] theorem State.setPar_supply {pid : Nat} {v : BitVec 32} : (s.setPar pid v).supply = s.supply := rfl
@[simp] theorem State.setPar_limp {pid : Nat} {v : BitVec 32} : (s.setPar pid v).limp = s.limp := rfl
@[simp] theorem State.setPar_flightBudgets {pid : Nat} {v : BitVec 32} : (s.setPar pid v).flightBudgets = s.flightBudgets := rfl
@[simp] theorem State.setPar_storeyBudgets {pid : Nat} {v : BitVec 32} : (s.setPar pid v).storeyBudgets = s.storeyBudgets := rfl
@[simp] theorem State.setPar_dieBudgets {pid : Nat} {v : BitVec 32} : (s.setPar pid v).dieBudgets = s.dieBudgets := rfl
@[simp] theorem State.setPar_currentBudget {pid : Nat} {v : BitVec 32} : (s.setPar pid v).currentBudget = s.currentBudget := rfl
@[simp] theorem State.setPar_thermalBudget {pid : Nat} {v : BitVec 32} : (s.setPar pid v).thermalBudget = s.thermalBudget := rfl
@[simp] theorem State.setPar_storeys {pid : Nat} {v : BitVec 32} : (s.setPar pid v).storeys = s.storeys := rfl
@[simp] theorem State.setPar_dies {pid : Nat} {v : BitVec 32} : (s.setPar pid v).dies = s.dies := rfl
@[simp] theorem State.setPar_flightPower {pid : Nat} {v : BitVec 32} : (s.setPar pid v).flightPower = s.flightPower := rfl
@[simp] theorem State.setPar_treads {pid : Nat} {v : BitVec 32} : (s.setPar pid v).treads = s.treads := rfl
@[simp] theorem State.setPar_baseplate {pid : Nat} {v : BitVec 32} : (s.setPar pid v).baseplate = s.baseplate := rfl
@[simp] theorem State.setPar_dissip {pid : Nat} {v : BitVec 32} : (s.setPar pid v).dissip = s.dissip := rfl
@[simp] theorem State.setPar_senses {pid : Nat} {v : BitVec 32} : (s.setPar pid v).senses = s.senses := rfl
@[simp] theorem State.setPar_cleaners {pid : Nat} {v : BitVec 32} : (s.setPar pid v).cleaners = s.cleaners := rfl
@[simp] theorem State.setPar_ports {pid : Nat} {v : BitVec 32} : (s.setPar pid v).ports = s.ports := rfl
@[simp] theorem State.setPar_echos {pid : Nat} {v : BitVec 32} : (s.setPar pid v).echos = s.echos := rfl
@[simp] theorem State.setPar_axes {pid : Nat} {v : BitVec 32} : (s.setPar pid v).axes = s.axes := rfl
@[simp] theorem State.setPar_doors {pid : Nat} {v : BitVec 32} : (s.setPar pid v).doors = s.doors := rfl
@[simp] theorem State.setPar_obst {pid : Nat} {v : BitVec 32} : (s.setPar pid v).obst = s.obst := rfl
@[simp] theorem State.setPar_hallA {pid : Nat} {v : BitVec 32} : (s.setPar pid v).hallA = s.hallA := rfl
@[simp] theorem State.setPar_hallB {pid : Nat} {v : BitVec 32} : (s.setPar pid v).hallB = s.hallB := rfl
@[simp] theorem State.setPar_safety {pid : Nat} {v : BitVec 32} : (s.setPar pid v).safety = s.safety := rfl
@[simp] theorem State.setPar_conns {pid : Nat} {v : BitVec 32} : (s.setPar pid v).conns = s.conns := rfl
@[simp] theorem State.setPar_firstStandby {pid : Nat} {v : BitVec 32} : (s.setPar pid v).firstStandby = s.firstStandby := rfl
@[simp] theorem State.setPar_train {pid : Nat} {v : BitVec 32} : (s.setPar pid v).train = s.train := rfl
@[simp] theorem State.setPar_prog {pid : Nat} {v : BitVec 32} : (s.setPar pid v).prog = s.prog := rfl
@[simp] theorem State.setPar_can {pid : Nat} {v : BitVec 32} : (s.setPar pid v).can = s.can := rfl
@[simp] theorem State.setPar_gallery {pid : Nat} {v : BitVec 32} : (s.setPar pid v).gallery = s.gallery := rfl
@[simp] theorem State.setPar_host {pid : Nat} {v : BitVec 32} : (s.setPar pid v).host = s.host := rfl
@[simp] theorem State.setPar_ring {pid : Nat} {v : BitVec 32} : (s.setPar pid v).ring = s.ring := rfl
@[simp] theorem State.setPar_sec {pid : Nat} {v : BitVec 32} : (s.setPar pid v).sec = s.sec := rfl
@[simp] theorem State.setPar_outs {pid : Nat} {v : BitVec 32} : (s.setPar pid v).outs = s.outs := rfl
@[simp] theorem State.setPar_draws {pid : Nat} {v : BitVec 32} : (s.setPar pid v).draws = s.draws := rfl
@[simp] theorem State.setPar_params {pid : Nat} {v : BitVec 32} : (s.setPar pid v).params = Params.set s.params pid v := rfl

/-! ### Events -/

@[simp] theorem State.record_pending {e : EvCode} {n : Nat} {args : List (BitVec 32)} : (s.record e n args).pending = s.pending := by
  unfold State.record State.recordAs
  simp only
  split <;> try rfl
  split <;> try rfl
  split <;> rfl
@[simp] theorem State.record_clock {e : EvCode} {n : Nat} {args : List (BitVec 32)} : (s.record e n args).clock = s.clock := by
  unfold State.record State.recordAs
  simp only
  split <;> try rfl
  split <;> try rfl
  split <;> rfl
@[simp] theorem State.record_params {e : EvCode} {n : Nat} {args : List (BitVec 32)} : (s.record e n args).params = s.params := by
  unfold State.record State.recordAs
  simp only
  split <;> try rfl
  split <;> try rfl
  split <;> rfl
@[simp] theorem State.record_supply {e : EvCode} {n : Nat} {args : List (BitVec 32)} : (s.record e n args).supply = s.supply := by
  unfold State.record State.recordAs
  simp only
  split <;> try rfl
  split <;> try rfl
  split <;> rfl
@[simp] theorem State.record_limp {e : EvCode} {n : Nat} {args : List (BitVec 32)} : (s.record e n args).limp = s.limp := by
  unfold State.record State.recordAs
  simp only
  split <;> try rfl
  split <;> try rfl
  split <;> rfl
@[simp] theorem State.record_flightBudgets {e : EvCode} {n : Nat} {args : List (BitVec 32)} : (s.record e n args).flightBudgets = s.flightBudgets := by
  unfold State.record State.recordAs
  simp only
  split <;> try rfl
  split <;> try rfl
  split <;> rfl
@[simp] theorem State.record_storeyBudgets {e : EvCode} {n : Nat} {args : List (BitVec 32)} : (s.record e n args).storeyBudgets = s.storeyBudgets := by
  unfold State.record State.recordAs
  simp only
  split <;> try rfl
  split <;> try rfl
  split <;> rfl
@[simp] theorem State.record_dieBudgets {e : EvCode} {n : Nat} {args : List (BitVec 32)} : (s.record e n args).dieBudgets = s.dieBudgets := by
  unfold State.record State.recordAs
  simp only
  split <;> try rfl
  split <;> try rfl
  split <;> rfl
@[simp] theorem State.record_currentBudget {e : EvCode} {n : Nat} {args : List (BitVec 32)} : (s.record e n args).currentBudget = s.currentBudget := by
  unfold State.record State.recordAs
  simp only
  split <;> try rfl
  split <;> try rfl
  split <;> rfl
@[simp] theorem State.record_thermalBudget {e : EvCode} {n : Nat} {args : List (BitVec 32)} : (s.record e n args).thermalBudget = s.thermalBudget := by
  unfold State.record State.recordAs
  simp only
  split <;> try rfl
  split <;> try rfl
  split <;> rfl
@[simp] theorem State.record_storeys {e : EvCode} {n : Nat} {args : List (BitVec 32)} : (s.record e n args).storeys = s.storeys := by
  unfold State.record State.recordAs
  simp only
  split <;> try rfl
  split <;> try rfl
  split <;> rfl
@[simp] theorem State.record_dies {e : EvCode} {n : Nat} {args : List (BitVec 32)} : (s.record e n args).dies = s.dies := by
  unfold State.record State.recordAs
  simp only
  split <;> try rfl
  split <;> try rfl
  split <;> rfl
@[simp] theorem State.record_flightPower {e : EvCode} {n : Nat} {args : List (BitVec 32)} : (s.record e n args).flightPower = s.flightPower := by
  unfold State.record State.recordAs
  simp only
  split <;> try rfl
  split <;> try rfl
  split <;> rfl
@[simp] theorem State.record_treads {e : EvCode} {n : Nat} {args : List (BitVec 32)} : (s.record e n args).treads = s.treads := by
  unfold State.record State.recordAs
  simp only
  split <;> try rfl
  split <;> try rfl
  split <;> rfl
@[simp] theorem State.record_baseplate {e : EvCode} {n : Nat} {args : List (BitVec 32)} : (s.record e n args).baseplate = s.baseplate := by
  unfold State.record State.recordAs
  simp only
  split <;> try rfl
  split <;> try rfl
  split <;> rfl
@[simp] theorem State.record_dissip {e : EvCode} {n : Nat} {args : List (BitVec 32)} : (s.record e n args).dissip = s.dissip := by
  unfold State.record State.recordAs
  simp only
  split <;> try rfl
  split <;> try rfl
  split <;> rfl
@[simp] theorem State.record_senses {e : EvCode} {n : Nat} {args : List (BitVec 32)} : (s.record e n args).senses = s.senses := by
  unfold State.record State.recordAs
  simp only
  split <;> try rfl
  split <;> try rfl
  split <;> rfl
@[simp] theorem State.record_cleaners {e : EvCode} {n : Nat} {args : List (BitVec 32)} : (s.record e n args).cleaners = s.cleaners := by
  unfold State.record State.recordAs
  simp only
  split <;> try rfl
  split <;> try rfl
  split <;> rfl
@[simp] theorem State.record_ports {e : EvCode} {n : Nat} {args : List (BitVec 32)} : (s.record e n args).ports = s.ports := by
  unfold State.record State.recordAs
  simp only
  split <;> try rfl
  split <;> try rfl
  split <;> rfl
@[simp] theorem State.record_echos {e : EvCode} {n : Nat} {args : List (BitVec 32)} : (s.record e n args).echos = s.echos := by
  unfold State.record State.recordAs
  simp only
  split <;> try rfl
  split <;> try rfl
  split <;> rfl
@[simp] theorem State.record_axes {e : EvCode} {n : Nat} {args : List (BitVec 32)} : (s.record e n args).axes = s.axes := by
  unfold State.record State.recordAs
  simp only
  split <;> try rfl
  split <;> try rfl
  split <;> rfl
@[simp] theorem State.record_doors {e : EvCode} {n : Nat} {args : List (BitVec 32)} : (s.record e n args).doors = s.doors := by
  unfold State.record State.recordAs
  simp only
  split <;> try rfl
  split <;> try rfl
  split <;> rfl
@[simp] theorem State.record_obst {e : EvCode} {n : Nat} {args : List (BitVec 32)} : (s.record e n args).obst = s.obst := by
  unfold State.record State.recordAs
  simp only
  split <;> try rfl
  split <;> try rfl
  split <;> rfl
@[simp] theorem State.record_hallA {e : EvCode} {n : Nat} {args : List (BitVec 32)} : (s.record e n args).hallA = s.hallA := by
  unfold State.record State.recordAs
  simp only
  split <;> try rfl
  split <;> try rfl
  split <;> rfl
@[simp] theorem State.record_hallB {e : EvCode} {n : Nat} {args : List (BitVec 32)} : (s.record e n args).hallB = s.hallB := by
  unfold State.record State.recordAs
  simp only
  split <;> try rfl
  split <;> try rfl
  split <;> rfl
@[simp] theorem State.record_safety {e : EvCode} {n : Nat} {args : List (BitVec 32)} : (s.record e n args).safety = s.safety := by
  unfold State.record State.recordAs
  simp only
  split <;> try rfl
  split <;> try rfl
  split <;> rfl
@[simp] theorem State.record_conns {e : EvCode} {n : Nat} {args : List (BitVec 32)} : (s.record e n args).conns = s.conns := by
  unfold State.record State.recordAs
  simp only
  split <;> try rfl
  split <;> try rfl
  split <;> rfl
@[simp] theorem State.record_firstStandby {e : EvCode} {n : Nat} {args : List (BitVec 32)} : (s.record e n args).firstStandby = s.firstStandby := by
  unfold State.record State.recordAs
  simp only
  split <;> try rfl
  split <;> try rfl
  split <;> rfl
@[simp] theorem State.record_train {e : EvCode} {n : Nat} {args : List (BitVec 32)} : (s.record e n args).train = s.train := by
  unfold State.record State.recordAs
  simp only
  split <;> try rfl
  split <;> try rfl
  split <;> rfl
@[simp] theorem State.record_prog {e : EvCode} {n : Nat} {args : List (BitVec 32)} : (s.record e n args).prog = s.prog := by
  unfold State.record State.recordAs
  simp only
  split <;> try rfl
  split <;> try rfl
  split <;> rfl
@[simp] theorem State.record_can {e : EvCode} {n : Nat} {args : List (BitVec 32)} : (s.record e n args).can = s.can := by
  unfold State.record State.recordAs
  simp only
  split <;> try rfl
  split <;> try rfl
  split <;> rfl
@[simp] theorem State.record_host {e : EvCode} {n : Nat} {args : List (BitVec 32)} : (s.record e n args).host = s.host := by
  unfold State.record State.recordAs
  simp only
  split <;> try rfl
  split <;> try rfl
  split <;> rfl
@[simp] theorem State.record_ring {e : EvCode} {n : Nat} {args : List (BitVec 32)} : (s.record e n args).ring = s.ring := by
  unfold State.record State.recordAs
  simp only
  split <;> try rfl
  split <;> try rfl
  split <;> rfl
@[simp] theorem State.record_sec {e : EvCode} {n : Nat} {args : List (BitVec 32)} : (s.record e n args).sec = s.sec := by
  unfold State.record State.recordAs
  simp only
  split <;> try rfl
  split <;> try rfl
  split <;> rfl
@[simp] theorem State.record_draws {e : EvCode} {n : Nat} {args : List (BitVec 32)} : (s.record e n args).draws = s.draws := by
  unfold State.record State.recordAs
  simp only
  split <;> try rfl
  split <;> try rfl
  split <;> rfl

/-- While Hall A runs, an event is the next thing sent. -/
theorem State.record_outs {e : EvCode} {n : Nat} {args : List (BitVec 32)} (h : s.hallAUp = true) : (s.record e n args).outs = .event e.code n args :: s.outs := by
  unfold State.record State.recordAs
  simp only [h, if_true]
  split <;> try rfl
  split <;> rfl

end Sys2Proof.Machine
end

