-- ==== Sys2Proof/Laws/Axis.lean ====
section
/-! SUPPORT. Commands on their way to the engine of an axis: what posting one changes, and what step 1 of a sample makes of what has arrived
(05 R161, R167). -/

namespace Sys2Proof.Machine

variable {s : State}

/-- Posting a command changes the inbox of its axis, and nothing else. -/
@[simp] theorem State.post_eq {a : Nat} {c : AxCmd} {who : AxFrom} :
    s.post a c who = s.modAxis a (fun x => { x with inbox := x.inbox ++ [⟨c, who⟩] }) := rfl

theorem State.axis_post {a : Nat} {c : AxCmd} {who : AxFrom} (h : a < s.axes.length) :
    (s.post a c who).axis a = { s.axis a with inbox := (s.axis a).inbox ++ [⟨c, who⟩] } := State.axis_modAxis h

theorem State.axis_post_ne {a b : Nat} {c : AxCmd} {who : AxFrom} (h : a ≠ b) : (s.post a c who).axis b = s.axis b :=
  State.axis_modAxis_ne h

/-- With nothing arrived, step 1 does nothing. -/
theorem State.takeInbox_nil {a : Nat} (h : (s.axis a).inbox = []) : s.takeInbox a = s := by simp [State.takeInbox, h]

/-- One command arrived: the inbox is emptied and the command judged. -/
theorem State.takeInbox_one {a : Nat} {r : AxReq} (h : (s.axis a).inbox = [r]) :
    s.takeInbox a = (s.modAxis a (fun x => { x with inbox := [] })).takeReq a r := by simp [State.takeInbox, h]

/-- Everything that the judgement of a host's command can do: turn it away with a status, or carry it out, keep the axis for the session unless
that has ended, and answer OK. -/
theorem State.hostMotion_cases (a : Nat) (p : Pend) (c : AxCmd) :
    (∃ n, s.holderOf a = some n ∧ n ≠ p.session ∧ s.hostMotion a p c = s.answer p stOwned n.toNat []) ∨
    (∃ st s', s.axisCommand a (s.progOwnsAxis a || (s.mode == .maintenance && !p.sv)) p.sv c = (st, s') ∧ st ≠ stOK ∧
      s.hostMotion a p c = s.answer p st 0 []) ∨
    (∃ s' u, s.axisCommand a (s.progOwnsAxis a || (s.mode == .maintenance && !p.sv)) p.sv c = (stOK, s') ∧
      u = (if p.ended then s'.markHostMotion a else (s'.markHostMotion a).holdAxis a p.session c) ∧
      s.hostMotion a p c = u.answer p stOK 0 [BitVec.ofNat 8 (u.axis a).st.code, 0, BitVec.ofNat 8 (u.axis a).queue.length, 0]) := by
  unfold State.hostMotion
  dsimp only
  split
  · rename_i n e
    obtain ⟨h, k⟩ := Option.filter_eq_some_iff.mp e
    exact .inl ⟨n, h, by simpa using k, rfl⟩
  · generalize s.axisCommand a (s.progOwnsAxis a || (s.mode == .maintenance && !p.sv)) p.sv c = r
    obtain ⟨st, s'⟩ := r
    by_cases k : st = stOK
    · subst k
      exact .inr (.inr ⟨s', _, rfl, rfl, by simp⟩)
    · exact .inr (.inl ⟨st, s', rfl, k, by simp [k]⟩)

end Sys2Proof.Machine
end

