-- ==== Sys2Proof/Laws/Reach.lean ====
section
/-! SUPPORT. How a state may differ from an earlier one: `Reach T s t` says that `t` differs from `s` only in the fields whose bit is
set in the mask `T` (bit 0 pending, bit 1 clock, and so on in the order of State), that `t` is sound when `s` is, that nothing sent is taken
back, and that the security state has not loosened. Each operation has one lemma of this form; the lemmas compose by their heads. -/

namespace Sys2Proof.Machine

/-- The mask `T` has every bit of the mask `m`. -/
def Sub (m T : Nat) : Prop := ∀ i, m.testBit i = true → T.testBit i = true

theorem Sub.refl (m : Nat) : Sub m m := fun _ h => h

theorem Sub.trans {a b c : Nat} (h : Sub a b) (k : Sub b c) : Sub a c := fun i hi => k i (h i hi)

theorem Sub.of_or {m T : Nat} (h : m ||| T = T) : Sub m T := by
  intro i hi
  rw [← h, Nat.testBit_or, hi, Bool.true_or]

theorem Sub.sub {a m T : Nat} (h : Sub m T) (k : a ||| m = m) : Sub a T := (Sub.of_or k).trans h

/-- `t` differs from `s` only in the fields of the mask, and is sound when `s` is. -/
structure Reach (T : Nat) (s t : State) : Prop where
  sound : s.Sound → t.Sound
  ratchet : s.sec.Ratchet t.sec
  grow : s.outs <:+ t.outs
  pending : T.testBit 0 = false → t.pending = s.pending
  clock : T.testBit 1 = false → t.clock = s.clock
  params : T.testBit 2 = false → t.params = s.params
  supply : T.testBit 3 = false → t.supply = s.supply
  limp : T.testBit 4 = false → t.limp = s.limp
  flightBudgets : T.testBit 5 = false → t.flightBudgets = s.flightBudgets
  storeyBudgets : T.testBit 6 = false → t.storeyBudgets = s.storeyBudgets
  dieBudgets : T.testBit 7 = false → t.dieBudgets = s.dieBudgets
  currentBudget : T.testBit 8 = false → t.currentBudget = s.currentBudget
  thermalBudget : T.testBit 9 = false → t.thermalBudget = s.thermalBudget
  storeys : T.testBit 10 = false → t.storeys = s.storeys
  dies : T.testBit 11 = false → t.dies = s.dies
  flightPower : T.testBit 12 = false → t.flightPower = s.flightPower
  treads : T.testBit 13 = false → t.treads = s.treads
  baseplate : T.testBit 14 = false → t.baseplate = s.baseplate
  dissip : T.testBit 15 = false → t.dissip = s.dissip
  senses : T.testBit 16 = false → t.senses = s.senses
  cleaners : T.testBit 17 = false → t.cleaners = s.cleaners
  ports : T.testBit 18 = false → t.ports = s.ports
  echos : T.testBit 19 = false → t.echos = s.echos
  axes : T.testBit 20 = false → t.axes = s.axes
  doors : T.testBit 21 = false → t.doors = s.doors
  obst : T.testBit 22 = false → t.obst = s.obst
  hallA : T.testBit 23 = false → t.hallA = s.hallA
  hallB : T.testBit 24 = false → t.hallB = s.hallB
  safety : T.testBit 25 = false → t.safety = s.safety
  conns : T.testBit 26 = false → t.conns = s.conns
  firstStandby : T.testBit 27 = false → t.firstStandby = s.firstStandby
  train : T.testBit 28 = false → t.train = s.train
  prog : T.testBit 29 = false → t.prog = s.prog
  can : T.testBit 30 = false → t.can = s.can
  gallery : T.testBit 31 = false → t.gallery = s.gallery
  host : T.testBit 32 = false → t.host = s.host
  ring : T.testBit 33 = false → t.ring = s.ring
  sec : T.testBit 34 = false → t.sec = s.sec
  outs : T.testBit 35 = false → t.outs = s.outs
  draws : T.testBit 36 = false → t.draws = s.draws

theorem Security.Ratchet.refl (a : Security) : a.Ratchet a := ⟨Nat.le_refl _, Nat.le_refl _, fun _ => Nat.le_refl _, fun _ h => h⟩

theorem Security.Ratchet.same {a b : Security} (ha : b.arHa = a.arHa) (hb : b.arHb = a.arHb) (hk : b.keys = a.keys)
    (hv : b.vendorRevoked = a.vendorRevoked) : a.Ratchet b :=
  ⟨Nat.le_of_eq ha.symm, Nat.le_of_eq hb.symm, fun _ => Nat.le_of_eq (by rw [hk]), fun _ h => by rw [hv]; exact h⟩

theorem Security.Ratchet.pass {x y : Security} (a : x.arHa ≤ y.arHa) (b : x.arHb ≤ y.arHb) (k : y.keys = x.keys)
    (r : Option Nat)
    (v : y.vendorRevoked = match r with | some n => x.vendorRevoked.set n true | none => x.vendorRevoked) : x.Ratchet y := by
  refine ⟨a, b, fun _ => Nat.le_of_eq (by rw [k]), fun n h => ?_⟩
  rw [v]
  cases r with
  | none => exact h
  | some m =>
    show (x.vendorRevoked.set m true).getD n true = true
    rw [List.getD_eq_getElem?_getD, List.getElem?_set]
    rw [List.getD_eq_getElem?_getD] at h
    split
    · split <;> rfl
    · exact h

theorem Security.Ratchet.trans {a b c : Security} (h : a.Ratchet b) (k : b.Ratchet c) : a.Ratchet c :=
  ⟨Nat.le_trans h.arHa k.arHa, Nat.le_trans h.arHb k.arHb, fun n => Nat.le_trans (h.keys n) (k.keys n), fun n e => k.vendors n (h.vendors n e)⟩

theorem Reach.refl (T : Nat) (s : State) : Reach T s s := by
  constructor <;> intros <;> first | assumption | rfl | exact Security.Ratchet.refl _ | exact List.suffix_refl _

theorem Reach.trans {T : Nat} {s t u : State} (h : Reach T s t) (k : Reach T t u) : Reach T s u where
  sound := fun x => k.sound (h.sound x)
  ratchet := h.ratchet.trans k.ratchet
  grow := h.grow.trans k.grow
  pending := fun b => (k.pending b).trans (h.pending b)
  clock := fun b => (k.clock b).trans (h.clock b)
  params := fun b => (k.params b).trans (h.params b)
  supply := fun b => (k.supply b).trans (h.supply b)
  limp := fun b => (k.limp b).trans (h.limp b)
  flightBudgets := fun b => (k.flightBudgets b).trans (h.flightBudgets b)
  storeyBudgets := fun b => (k.storeyBudgets b).trans (h.storeyBudgets b)
  dieBudgets := fun b => (k.dieBudgets b).trans (h.dieBudgets b)
  currentBudget := fun b => (k.currentBudget b).trans (h.currentBudget b)
  thermalBudget := fun b => (k.thermalBudget b).trans (h.thermalBudget b)
  storeys := fun b => (k.storeys b).trans (h.storeys b)
  dies := fun b => (k.dies b).trans (h.dies b)
  flightPower := fun b => (k.flightPower b).trans (h.flightPower b)
  treads := fun b => (k.treads b).trans (h.treads b)
  baseplate := fun b => (k.baseplate b).trans (h.baseplate b)
  dissip := fun b => (k.dissip b).trans (h.dissip b)
  senses := fun b => (k.senses b).trans (h.senses b)
  cleaners := fun b => (k.cleaners b).trans (h.cleaners b)
  ports := fun b => (k.ports b).trans (h.ports b)
  echos := fun b => (k.echos b).trans (h.echos b)
  axes := fun b => (k.axes b).trans (h.axes b)
  doors := fun b => (k.doors b).trans (h.doors b)
  obst := fun b => (k.obst b).trans (h.obst b)
  hallA := fun b => (k.hallA b).trans (h.hallA b)
  hallB := fun b => (k.hallB b).trans (h.hallB b)
  safety := fun b => (k.safety b).trans (h.safety b)
  conns := fun b => (k.conns b).trans (h.conns b)
  firstStandby := fun b => (k.firstStandby b).trans (h.firstStandby b)
  train := fun b => (k.train b).trans (h.train b)
  prog := fun b => (k.prog b).trans (h.prog b)
  can := fun b => (k.can b).trans (h.can b)
  gallery := fun b => (k.gallery b).trans (h.gallery b)
  host := fun b => (k.host b).trans (h.host b)
  ring := fun b => (k.ring b).trans (h.ring b)
  sec := fun b => (k.sec b).trans (h.sec b)
  outs := fun b => (k.outs b).trans (h.outs b)
  draws := fun b => (k.draws b).trans (h.draws b)

theorem Reach.mono {a b : Nat} {s t : State} (hs : Sub a b) (h : Reach a s t) : Reach b s t where
  sound := h.sound
  ratchet := h.ratchet
  grow := h.grow
  pending := fun e => h.pending (by cases k : a.testBit 0 <;> simp_all [hs 0])
  clock := fun e => h.clock (by cases k : a.testBit 1 <;> simp_all [hs 1])
  params := fun e => h.params (by cases k : a.testBit 2 <;> simp_all [hs 2])
  supply := fun e => h.supply (by cases k : a.testBit 3 <;> simp_all [hs 3])
  limp := fun e => h.limp (by cases k : a.testBit 4 <;> simp_all [hs 4])
  flightBudgets := fun e => h.flightBudgets (by cases k : a.testBit 5 <;> simp_all [hs 5])
  storeyBudgets := fun e => h.storeyBudgets (by cases k : a.testBit 6 <;> simp_all [hs 6])
  dieBudgets := fun e => h.dieBudgets (by cases k : a.testBit 7 <;> simp_all [hs 7])
  currentBudget := fun e => h.currentBudget (by cases k : a.testBit 8 <;> simp_all [hs 8])
  thermalBudget := fun e => h.thermalBudget (by cases k : a.testBit 9 <;> simp_all [hs 9])
  storeys := fun e => h.storeys (by cases k : a.testBit 10 <;> simp_all [hs 10])
  dies := fun e => h.dies (by cases k : a.testBit 11 <;> simp_all [hs 11])
  flightPower := fun e => h.flightPower (by cases k : a.testBit 12 <;> simp_all [hs 12])
  treads := fun e => h.treads (by cases k : a.testBit 13 <;> simp_all [hs 13])
  baseplate := fun e => h.baseplate (by cases k : a.testBit 14 <;> simp_all [hs 14])
  dissip := fun e => h.dissip (by cases k : a.testBit 15 <;> simp_all [hs 15])
  senses := fun e => h.senses (by cases k : a.testBit 16 <;> simp_all [hs 16])
  cleaners := fun e => h.cleaners (by cases k : a.testBit 17 <;> simp_all [hs 17])
  ports := fun e => h.ports (by cases k : a.testBit 18 <;> simp_all [hs 18])
  echos := fun e => h.echos (by cases k : a.testBit 19 <;> simp_all [hs 19])
  axes := fun e => h.axes (by cases k : a.testBit 20 <;> simp_all [hs 20])
  doors := fun e => h.doors (by cases k : a.testBit 21 <;> simp_all [hs 21])
  obst := fun e => h.obst (by cases k : a.testBit 22 <;> simp_all [hs 22])
  hallA := fun e => h.hallA (by cases k : a.testBit 23 <;> simp_all [hs 23])
  hallB := fun e => h.hallB (by cases k : a.testBit 24 <;> simp_all [hs 24])
  safety := fun e => h.safety (by cases k : a.testBit 25 <;> simp_all [hs 25])
  conns := fun e => h.conns (by cases k : a.testBit 26 <;> simp_all [hs 26])
  firstStandby := fun e => h.firstStandby (by cases k : a.testBit 27 <;> simp_all [hs 27])
  train := fun e => h.train (by cases k : a.testBit 28 <;> simp_all [hs 28])
  prog := fun e => h.prog (by cases k : a.testBit 29 <;> simp_all [hs 29])
  can := fun e => h.can (by cases k : a.testBit 30 <;> simp_all [hs 30])
  gallery := fun e => h.gallery (by cases k : a.testBit 31 <;> simp_all [hs 31])
  host := fun e => h.host (by cases k : a.testBit 32 <;> simp_all [hs 32])
  ring := fun e => h.ring (by cases k : a.testBit 33 <;> simp_all [hs 33])
  sec := fun e => h.sec (by cases k : a.testBit 34 <;> simp_all [hs 34])
  outs := fun e => h.outs (by cases k : a.testBit 35 <;> simp_all [hs 35])
  draws := fun e => h.draws (by cases k : a.testBit 36 <;> simp_all [hs 36])

theorem Reach.set_pending {T : Nat} {s t : State} (hT : Sub 1 T) (h : Reach T s t)
    {x : List Instr}
     :
    Reach T s { t with pending := x } where
  sound := fun k => { h.sound k with }
  ratchet := h.ratchet
  grow := h.grow
  pending := fun e => absurd (hT 0 (by decide)) (by rw [e]; decide)
  clock := h.clock
  params := h.params
  supply := h.supply
  limp := h.limp
  flightBudgets := h.flightBudgets
  storeyBudgets := h.storeyBudgets
  dieBudgets := h.dieBudgets
  currentBudget := h.currentBudget
  thermalBudget := h.thermalBudget
  storeys := h.storeys
  dies := h.dies
  flightPower := h.flightPower
  treads := h.treads
  baseplate := h.baseplate
  dissip := h.dissip
  senses := h.senses
  cleaners := h.cleaners
  ports := h.ports
  echos := h.echos
  axes := h.axes
  doors := h.doors
  obst := h.obst
  hallA := h.hallA
  hallB := h.hallB
  safety := h.safety
  conns := h.conns
  firstStandby := h.firstStandby
  train := h.train
  prog := h.prog
  can := h.can
  gallery := h.gallery
  host := h.host
  ring := h.ring
  sec := h.sec
  outs := h.outs
  draws := h.draws

theorem Reach.set_clock {T : Nat} {s t : State} (hT : Sub 2 T) (h : Reach T s t)
    {x : Clock}
     :
    Reach T s { t with clock := x } where
  sound := fun k => { h.sound k with }
  ratchet := h.ratchet
  grow := h.grow
  pending := h.pending
  clock := fun e => absurd (hT 1 (by decide)) (by rw [e]; decide)
  params := h.params
  supply := h.supply
  limp := h.limp
  flightBudgets := h.flightBudgets
  storeyBudgets := h.storeyBudgets
  dieBudgets := h.dieBudgets
  currentBudget := h.currentBudget
  thermalBudget := h.thermalBudget
  storeys := h.storeys
  dies := h.dies
  flightPower := h.flightPower
  treads := h.treads
  baseplate := h.baseplate
  dissip := h.dissip
  senses := h.senses
  cleaners := h.cleaners
  ports := h.ports
  echos := h.echos
  axes := h.axes
  doors := h.doors
  obst := h.obst
  hallA := h.hallA
  hallB := h.hallB
  safety := h.safety
  conns := h.conns
  firstStandby := h.firstStandby
  train := h.train
  prog := h.prog
  can := h.can
  gallery := h.gallery
  host := h.host
  ring := h.ring
  sec := h.sec
  outs := h.outs
  draws := h.draws

theorem Reach.set_params {T : Nat} {s t : State} (hT : Sub 4 T) (h : Reach T s t)
    {x : Params}
    (i_params : Params.wf t.params = true → Params.wf x = true) :
    Reach T s { t with params := x } where
  sound := fun k => { h.sound k with params := i_params (h.sound k).params }
  ratchet := h.ratchet
  grow := h.grow
  pending := h.pending
  clock := h.clock
  params := fun e => absurd (hT 2 (by decide)) (by rw [e]; decide)
  supply := h.supply
  limp := h.limp
  flightBudgets := h.flightBudgets
  storeyBudgets := h.storeyBudgets
  dieBudgets := h.dieBudgets
  currentBudget := h.currentBudget
  thermalBudget := h.thermalBudget
  storeys := h.storeys
  dies := h.dies
  flightPower := h.flightPower
  treads := h.treads
  baseplate := h.baseplate
  dissip := h.dissip
  senses := h.senses
  cleaners := h.cleaners
  ports := h.ports
  echos := h.echos
  axes := h.axes
  doors := h.doors
  obst := h.obst
  hallA := h.hallA
  hallB := h.hallB
  safety := h.safety
  conns := h.conns
  firstStandby := h.firstStandby
  train := h.train
  prog := h.prog
  can := h.can
  gallery := h.gallery
  host := h.host
  ring := h.ring
  sec := h.sec
  outs := h.outs
  draws := h.draws

theorem Reach.set_supply {T : Nat} {s t : State} (hT : Sub 8 T) (h : Reach T s t)
    {x : Supply}
     :
    Reach T s { t with supply := x } where
  sound := fun k => { h.sound k with }
  ratchet := h.ratchet
  grow := h.grow
  pending := h.pending
  clock := h.clock
  params := h.params
  supply := fun e => absurd (hT 3 (by decide)) (by rw [e]; decide)
  limp := h.limp
  flightBudgets := h.flightBudgets
  storeyBudgets := h.storeyBudgets
  dieBudgets := h.dieBudgets
  currentBudget := h.currentBudget
  thermalBudget := h.thermalBudget
  storeys := h.storeys
  dies := h.dies
  flightPower := h.flightPower
  treads := h.treads
  baseplate := h.baseplate
  dissip := h.dissip
  senses := h.senses
  cleaners := h.cleaners
  ports := h.ports
  echos := h.echos
  axes := h.axes
  doors := h.doors
  obst := h.obst
  hallA := h.hallA
  hallB := h.hallB
  safety := h.safety
  conns := h.conns
  firstStandby := h.firstStandby
  train := h.train
  prog := h.prog
  can := h.can
  gallery := h.gallery
  host := h.host
  ring := h.ring
  sec := h.sec
  outs := h.outs
  draws := h.draws

theorem Reach.set_limp {T : Nat} {s t : State} (hT : Sub 16 T) (h : Reach T s t)
    {x : List LimpHome}
    (i_limp : x.length = t.limp.length) :
    Reach T s { t with limp := x } where
  sound := fun k => { h.sound k with limp := i_limp.trans (h.sound k).limp }
  ratchet := h.ratchet
  grow := h.grow
  pending := h.pending
  clock := h.clock
  params := h.params
  supply := h.supply
  limp := fun e => absurd (hT 4 (by decide)) (by rw [e]; decide)
  flightBudgets := h.flightBudgets
  storeyBudgets := h.storeyBudgets
  dieBudgets := h.dieBudgets
  currentBudget := h.currentBudget
  thermalBudget := h.thermalBudget
  storeys := h.storeys
  dies := h.dies
  flightPower := h.flightPower
  treads := h.treads
  baseplate := h.baseplate
  dissip := h.dissip
  senses := h.senses
  cleaners := h.cleaners
  ports := h.ports
  echos := h.echos
  axes := h.axes
  doors := h.doors
  obst := h.obst
  hallA := h.hallA
  hallB := h.hallB
  safety := h.safety
  conns := h.conns
  firstStandby := h.firstStandby
  train := h.train
  prog := h.prog
  can := h.can
  gallery := h.gallery
  host := h.host
  ring := h.ring
  sec := h.sec
  outs := h.outs
  draws := h.draws

theorem Reach.set_flightBudgets {T : Nat} {s t : State} (hT : Sub 32 T) (h : Reach T s t)
    {x : List Budget}
    (i_flightBudgets : (t.flightBudgets.length = 12 ∧ ∀ b ∈ t.flightBudgets, b.Legal) → x.length = 12 ∧ ∀ b ∈ x, b.Legal) :
    Reach T s { t with flightBudgets := x } where
  sound := fun k => { h.sound k with flightBudgets := i_flightBudgets (h.sound k).flightBudgets }
  ratchet := h.ratchet
  grow := h.grow
  pending := h.pending
  clock := h.clock
  params := h.params
  supply := h.supply
  limp := h.limp
  flightBudgets := fun e => absurd (hT 5 (by decide)) (by rw [e]; decide)
  storeyBudgets := h.storeyBudgets
  dieBudgets := h.dieBudgets
  currentBudget := h.currentBudget
  thermalBudget := h.thermalBudget
  storeys := h.storeys
  dies := h.dies
  flightPower := h.flightPower
  treads := h.treads
  baseplate := h.baseplate
  dissip := h.dissip
  senses := h.senses
  cleaners := h.cleaners
  ports := h.ports
  echos := h.echos
  axes := h.axes
  doors := h.doors
  obst := h.obst
  hallA := h.hallA
  hallB := h.hallB
  safety := h.safety
  conns := h.conns
  firstStandby := h.firstStandby
  train := h.train
  prog := h.prog
  can := h.can
  gallery := h.gallery
  host := h.host
  ring := h.ring
  sec := h.sec
  outs := h.outs
  draws := h.draws

theorem Reach.set_storeyBudgets {T : Nat} {s t : State} (hT : Sub 64 T) (h : Reach T s t)
    {x : List Budget}
    (i_storeyBudgets : (t.storeyBudgets.length = 4 ∧ ∀ b ∈ t.storeyBudgets, b.Legal) → x.length = 4 ∧ ∀ b ∈ x, b.Legal) :
    Reach T s { t with storeyBudgets := x } where
  sound := fun k => { h.sound k with storeyBudgets := i_storeyBudgets (h.sound k).storeyBudgets }
  ratchet := h.ratchet
  grow := h.grow
  pending := h.pending
  clock := h.clock
  params := h.params
  supply := h.supply
  limp := h.limp
  flightBudgets := h.flightBudgets
  storeyBudgets := fun e => absurd (hT 6 (by decide)) (by rw [e]; decide)
  dieBudgets := h.dieBudgets
  currentBudget := h.currentBudget
  thermalBudget := h.thermalBudget
  storeys := h.storeys
  dies := h.dies
  flightPower := h.flightPower
  treads := h.treads
  baseplate := h.baseplate
  dissip := h.dissip
  senses := h.senses
  cleaners := h.cleaners
  ports := h.ports
  echos := h.echos
  axes := h.axes
  doors := h.doors
  obst := h.obst
  hallA := h.hallA
  hallB := h.hallB
  safety := h.safety
  conns := h.conns
  firstStandby := h.firstStandby
  train := h.train
  prog := h.prog
  can := h.can
  gallery := h.gallery
  host := h.host
  ring := h.ring
  sec := h.sec
  outs := h.outs
  draws := h.draws

theorem Reach.set_dieBudgets {T : Nat} {s t : State} (hT : Sub 128 T) (h : Reach T s t)
    {x : List Budget}
    (i_dieBudgets : (t.dieBudgets.length = 2 ∧ ∀ b ∈ t.dieBudgets, b.Legal) → x.length = 2 ∧ ∀ b ∈ x, b.Legal) :
    Reach T s { t with dieBudgets := x } where
  sound := fun k => { h.sound k with dieBudgets := i_dieBudgets (h.sound k).dieBudgets }
  ratchet := h.ratchet
  grow := h.grow
  pending := h.pending
  clock := h.clock
  params := h.params
  supply := h.supply
  limp := h.limp
  flightBudgets := h.flightBudgets
  storeyBudgets := h.storeyBudgets
  dieBudgets := fun e => absurd (hT 7 (by decide)) (by rw [e]; decide)
  currentBudget := h.currentBudget
  thermalBudget := h.thermalBudget
  storeys := h.storeys
  dies := h.dies
  flightPower := h.flightPower
  treads := h.treads
  baseplate := h.baseplate
  dissip := h.dissip
  senses := h.senses
  cleaners := h.cleaners
  ports := h.ports
  echos := h.echos
  axes := h.axes
  doors := h.doors
  obst := h.obst
  hallA := h.hallA
  hallB := h.hallB
  safety := h.safety
  conns := h.conns
  firstStandby := h.firstStandby
  train := h.train
  prog := h.prog
  can := h.can
  gallery := h.gallery
  host := h.host
  ring := h.ring
  sec := h.sec
  outs := h.outs
  draws := h.draws

theorem Reach.set_currentBudget {T : Nat} {s t : State} (hT : Sub 256 T) (h : Reach T s t)
    {x : Budget}
    (i_currentBudget : t.currentBudget.Legal → x.Legal) :
    Reach T s { t with currentBudget := x } where
  sound := fun k => { h.sound k with currentBudget := i_currentBudget (h.sound k).currentBudget }
  ratchet := h.ratchet
  grow := h.grow
  pending := h.pending
  clock := h.clock
  params := h.params
  supply := h.supply
  limp := h.limp
  flightBudgets := h.flightBudgets
  storeyBudgets := h.storeyBudgets
  dieBudgets := h.dieBudgets
  currentBudget := fun e => absurd (hT 8 (by decide)) (by rw [e]; decide)
  thermalBudget := h.thermalBudget
  storeys := h.storeys
  dies := h.dies
  flightPower := h.flightPower
  treads := h.treads
  baseplate := h.baseplate
  dissip := h.dissip
  senses := h.senses
  cleaners := h.cleaners
  ports := h.ports
  echos := h.echos
  axes := h.axes
  doors := h.doors
  obst := h.obst
  hallA := h.hallA
  hallB := h.hallB
  safety := h.safety
  conns := h.conns
  firstStandby := h.firstStandby
  train := h.train
  prog := h.prog
  can := h.can
  gallery := h.gallery
  host := h.host
  ring := h.ring
  sec := h.sec
  outs := h.outs
  draws := h.draws

theorem Reach.set_thermalBudget {T : Nat} {s t : State} (hT : Sub 512 T) (h : Reach T s t)
    {x : Budget}
    (i_thermalBudget : t.thermalBudget.Legal → x.Legal) :
    Reach T s { t with thermalBudget := x } where
  sound := fun k => { h.sound k with thermalBudget := i_thermalBudget (h.sound k).thermalBudget }
  ratchet := h.ratchet
  grow := h.grow
  pending := h.pending
  clock := h.clock
  params := h.params
  supply := h.supply
  limp := h.limp
  flightBudgets := h.flightBudgets
  storeyBudgets := h.storeyBudgets
  dieBudgets := h.dieBudgets
  currentBudget := h.currentBudget
  thermalBudget := fun e => absurd (hT 9 (by decide)) (by rw [e]; decide)
  storeys := h.storeys
  dies := h.dies
  flightPower := h.flightPower
  treads := h.treads
  baseplate := h.baseplate
  dissip := h.dissip
  senses := h.senses
  cleaners := h.cleaners
  ports := h.ports
  echos := h.echos
  axes := h.axes
  doors := h.doors
  obst := h.obst
  hallA := h.hallA
  hallB := h.hallB
  safety := h.safety
  conns := h.conns
  firstStandby := h.firstStandby
  train := h.train
  prog := h.prog
  can := h.can
  gallery := h.gallery
  host := h.host
  ring := h.ring
  sec := h.sec
  outs := h.outs
  draws := h.draws

theorem Reach.set_storeys {T : Nat} {s t : State} (hT : Sub 1024 T) (h : Reach T s t)
    {x : List Storey}
    (i_storeys : x.length = t.storeys.length) :
    Reach T s { t with storeys := x } where
  sound := fun k => { h.sound k with storeys := i_storeys.trans (h.sound k).storeys }
  ratchet := h.ratchet
  grow := h.grow
  pending := h.pending
  clock := h.clock
  params := h.params
  supply := h.supply
  limp := h.limp
  flightBudgets := h.flightBudgets
  storeyBudgets := h.storeyBudgets
  dieBudgets := h.dieBudgets
  currentBudget := h.currentBudget
  thermalBudget := h.thermalBudget
  storeys := fun e => absurd (hT 10 (by decide)) (by rw [e]; decide)
  dies := h.dies
  flightPower := h.flightPower
  treads := h.treads
  baseplate := h.baseplate
  dissip := h.dissip
  senses := h.senses
  cleaners := h.cleaners
  ports := h.ports
  echos := h.echos
  axes := h.axes
  doors := h.doors
  obst := h.obst
  hallA := h.hallA
  hallB := h.hallB
  safety := h.safety
  conns := h.conns
  firstStandby := h.firstStandby
  train := h.train
  prog := h.prog
  can := h.can
  gallery := h.gallery
  host := h.host
  ring := h.ring
  sec := h.sec
  outs := h.outs
  draws := h.draws

theorem Reach.set_dies {T : Nat} {s t : State} (hT : Sub 2048 T) (h : Reach T s t)
    {x : List Die}
    (i_dies : x.length = t.dies.length) :
    Reach T s { t with dies := x } where
  sound := fun k => { h.sound k with dies := i_dies.trans (h.sound k).dies }
  ratchet := h.ratchet
  grow := h.grow
  pending := h.pending
  clock := h.clock
  params := h.params
  supply := h.supply
  limp := h.limp
  flightBudgets := h.flightBudgets
  storeyBudgets := h.storeyBudgets
  dieBudgets := h.dieBudgets
  currentBudget := h.currentBudget
  thermalBudget := h.thermalBudget
  storeys := h.storeys
  dies := fun e => absurd (hT 11 (by decide)) (by rw [e]; decide)
  flightPower := h.flightPower
  treads := h.treads
  baseplate := h.baseplate
  dissip := h.dissip
  senses := h.senses
  cleaners := h.cleaners
  ports := h.ports
  echos := h.echos
  axes := h.axes
  doors := h.doors
  obst := h.obst
  hallA := h.hallA
  hallB := h.hallB
  safety := h.safety
  conns := h.conns
  firstStandby := h.firstStandby
  train := h.train
  prog := h.prog
  can := h.can
  gallery := h.gallery
  host := h.host
  ring := h.ring
  sec := h.sec
  outs := h.outs
  draws := h.draws

theorem Reach.set_flightPower {T : Nat} {s t : State} (hT : Sub 4096 T) (h : Reach T s t)
    {x : List FlightPower}
    (i_flightPower : x.length = t.flightPower.length) :
    Reach T s { t with flightPower := x } where
  sound := fun k => { h.sound k with flightPower := i_flightPower.trans (h.sound k).flightPower }
  ratchet := h.ratchet
  grow := h.grow
  pending := h.pending
  clock := h.clock
  params := h.params
  supply := h.supply
  limp := h.limp
  flightBudgets := h.flightBudgets
  storeyBudgets := h.storeyBudgets
  dieBudgets := h.dieBudgets
  currentBudget := h.currentBudget
  thermalBudget := h.thermalBudget
  storeys := h.storeys
  dies := h.dies
  flightPower := fun e => absurd (hT 12 (by decide)) (by rw [e]; decide)
  treads := h.treads
  baseplate := h.baseplate
  dissip := h.dissip
  senses := h.senses
  cleaners := h.cleaners
  ports := h.ports
  echos := h.echos
  axes := h.axes
  doors := h.doors
  obst := h.obst
  hallA := h.hallA
  hallB := h.hallB
  safety := h.safety
  conns := h.conns
  firstStandby := h.firstStandby
  train := h.train
  prog := h.prog
  can := h.can
  gallery := h.gallery
  host := h.host
  ring := h.ring
  sec := h.sec
  outs := h.outs
  draws := h.draws

theorem Reach.set_treads {T : Nat} {s t : State} (hT : Sub 8192 T) (h : Reach T s t)
    {x : List Tread}
    (i_treads : x.length = t.treads.length) :
    Reach T s { t with treads := x } where
  sound := fun k => { h.sound k with treads := i_treads.trans (h.sound k).treads }
  ratchet := h.ratchet
  grow := h.grow
  pending := h.pending
  clock := h.clock
  params := h.params
  supply := h.supply
  limp := h.limp
  flightBudgets := h.flightBudgets
  storeyBudgets := h.storeyBudgets
  dieBudgets := h.dieBudgets
  currentBudget := h.currentBudget
  thermalBudget := h.thermalBudget
  storeys := h.storeys
  dies := h.dies
  flightPower := h.flightPower
  treads := fun e => absurd (hT 13 (by decide)) (by rw [e]; decide)
  baseplate := h.baseplate
  dissip := h.dissip
  senses := h.senses
  cleaners := h.cleaners
  ports := h.ports
  echos := h.echos
  axes := h.axes
  doors := h.doors
  obst := h.obst
  hallA := h.hallA
  hallB := h.hallB
  safety := h.safety
  conns := h.conns
  firstStandby := h.firstStandby
  train := h.train
  prog := h.prog
  can := h.can
  gallery := h.gallery
  host := h.host
  ring := h.ring
  sec := h.sec
  outs := h.outs
  draws := h.draws

theorem Reach.set_dissip {T : Nat} {s t : State} (hT : Sub 32768 T) (h : Reach T s t)
    {x : Rat}
     :
    Reach T s { t with dissip := x } where
  sound := fun k => { h.sound k with }
  ratchet := h.ratchet
  grow := h.grow
  pending := h.pending
  clock := h.clock
  params := h.params
  supply := h.supply
  limp := h.limp
  flightBudgets := h.flightBudgets
  storeyBudgets := h.storeyBudgets
  dieBudgets := h.dieBudgets
  currentBudget := h.currentBudget
  thermalBudget := h.thermalBudget
  storeys := h.storeys
  dies := h.dies
  flightPower := h.flightPower
  treads := h.treads
  baseplate := h.baseplate
  dissip := fun e => absurd (hT 15 (by decide)) (by rw [e]; decide)
  senses := h.senses
  cleaners := h.cleaners
  ports := h.ports
  echos := h.echos
  axes := h.axes
  doors := h.doors
  obst := h.obst
  hallA := h.hallA
  hallB := h.hallB
  safety := h.safety
  conns := h.conns
  firstStandby := h.firstStandby
  train := h.train
  prog := h.prog
  can := h.can
  gallery := h.gallery
  host := h.host
  ring := h.ring
  sec := h.sec
  outs := h.outs
  draws := h.draws

theorem Reach.set_senses {T : Nat} {s t : State} (hT : Sub 65536 T) (h : Reach T s t)
    {x : List Sense}
    (i_senses : x.length = t.senses.length) :
    Reach T s { t with senses := x } where
  sound := fun k => { h.sound k with senses := i_senses.trans (h.sound k).senses }
  ratchet := h.ratchet
  grow := h.grow
  pending := h.pending
  clock := h.clock
  params := h.params
  supply := h.supply
  limp := h.limp
  flightBudgets := h.flightBudgets
  storeyBudgets := h.storeyBudgets
  dieBudgets := h.dieBudgets
  currentBudget := h.currentBudget
  thermalBudget := h.thermalBudget
  storeys := h.storeys
  dies := h.dies
  flightPower := h.flightPower
  treads := h.treads
  baseplate := h.baseplate
  dissip := h.dissip
  senses := fun e => absurd (hT 16 (by decide)) (by rw [e]; decide)
  cleaners := h.cleaners
  ports := h.ports
  echos := h.echos
  axes := h.axes
  doors := h.doors
  obst := h.obst
  hallA := h.hallA
  hallB := h.hallB
  safety := h.safety
  conns := h.conns
  firstStandby := h.firstStandby
  train := h.train
  prog := h.prog
  can := h.can
  gallery := h.gallery
  host := h.host
  ring := h.ring
  sec := h.sec
  outs := h.outs
  draws := h.draws

theorem Reach.set_cleaners {T : Nat} {s t : State} (hT : Sub 131072 T) (h : Reach T s t)
    {x : List Cleaner}
    (i_cleaners : x.length = t.cleaners.length) :
    Reach T s { t with cleaners := x } where
  sound := fun k => { h.sound k with cleaners := i_cleaners.trans (h.sound k).cleaners }
  ratchet := h.ratchet
  grow := h.grow
  pending := h.pending
  clock := h.clock
  params := h.params
  supply := h.supply
  limp := h.limp
  flightBudgets := h.flightBudgets
  storeyBudgets := h.storeyBudgets
  dieBudgets := h.dieBudgets
  currentBudget := h.currentBudget
  thermalBudget := h.thermalBudget
  storeys := h.storeys
  dies := h.dies
  flightPower := h.flightPower
  treads := h.treads
  baseplate := h.baseplate
  dissip := h.dissip
  senses := h.senses
  cleaners := fun e => absurd (hT 17 (by decide)) (by rw [e]; decide)
  ports := h.ports
  echos := h.echos
  axes := h.axes
  doors := h.doors
  obst := h.obst
  hallA := h.hallA
  hallB := h.hallB
  safety := h.safety
  conns := h.conns
  firstStandby := h.firstStandby
  train := h.train
  prog := h.prog
  can := h.can
  gallery := h.gallery
  host := h.host
  ring := h.ring
  sec := h.sec
  outs := h.outs
  draws := h.draws

theorem Reach.set_ports {T : Nat} {s t : State} (hT : Sub 262144 T) (h : Reach T s t)
    {x : List Port}
    (i_ports : x.length = t.ports.length) :
    Reach T s { t with ports := x } where
  sound := fun k => { h.sound k with ports := i_ports.trans (h.sound k).ports }
  ratchet := h.ratchet
  grow := h.grow
  pending := h.pending
  clock := h.clock
  params := h.params
  supply := h.supply
  limp := h.limp
  flightBudgets := h.flightBudgets
  storeyBudgets := h.storeyBudgets
  dieBudgets := h.dieBudgets
  currentBudget := h.currentBudget
  thermalBudget := h.thermalBudget
  storeys := h.storeys
  dies := h.dies
  flightPower := h.flightPower
  treads := h.treads
  baseplate := h.baseplate
  dissip := h.dissip
  senses := h.senses
  cleaners := h.cleaners
  ports := fun e => absurd (hT 18 (by decide)) (by rw [e]; decide)
  echos := h.echos
  axes := h.axes
  doors := h.doors
  obst := h.obst
  hallA := h.hallA
  hallB := h.hallB
  safety := h.safety
  conns := h.conns
  firstStandby := h.firstStandby
  train := h.train
  prog := h.prog
  can := h.can
  gallery := h.gallery
  host := h.host
  ring := h.ring
  sec := h.sec
  outs := h.outs
  draws := h.draws

theorem Reach.set_echos {T : Nat} {s t : State} (hT : Sub 524288 T) (h : Reach T s t)
    {x : List Echo}
    (i_echos : x.length = t.echos.length) :
    Reach T s { t with echos := x } where
  sound := fun k => { h.sound k with echos := i_echos.trans (h.sound k).echos }
  ratchet := h.ratchet
  grow := h.grow
  pending := h.pending
  clock := h.clock
  params := h.params
  supply := h.supply
  limp := h.limp
  flightBudgets := h.flightBudgets
  storeyBudgets := h.storeyBudgets
  dieBudgets := h.dieBudgets
  currentBudget := h.currentBudget
  thermalBudget := h.thermalBudget
  storeys := h.storeys
  dies := h.dies
  flightPower := h.flightPower
  treads := h.treads
  baseplate := h.baseplate
  dissip := h.dissip
  senses := h.senses
  cleaners := h.cleaners
  ports := h.ports
  echos := fun e => absurd (hT 19 (by decide)) (by rw [e]; decide)
  axes := h.axes
  doors := h.doors
  obst := h.obst
  hallA := h.hallA
  hallB := h.hallB
  safety := h.safety
  conns := h.conns
  firstStandby := h.firstStandby
  train := h.train
  prog := h.prog
  can := h.can
  gallery := h.gallery
  host := h.host
  ring := h.ring
  sec := h.sec
  outs := h.outs
  draws := h.draws

theorem Reach.set_axes {T : Nat} {s t : State} (hT : Sub 1048576 T) (h : Reach T s t)
    {x : List Axis}
    (i_axes : x.length = t.axes.length) :
    Reach T s { t with axes := x } where
  sound := fun k => { h.sound k with axes := i_axes.trans (h.sound k).axes }
  ratchet := h.ratchet
  grow := h.grow
  pending := h.pending
  clock := h.clock
  params := h.params
  supply := h.supply
  limp := h.limp
  flightBudgets := h.flightBudgets
  storeyBudgets := h.storeyBudgets
  dieBudgets := h.dieBudgets
  currentBudget := h.currentBudget
  thermalBudget := h.thermalBudget
  storeys := h.storeys
  dies := h.dies
  flightPower := h.flightPower
  treads := h.treads
  baseplate := h.baseplate
  dissip := h.dissip
  senses := h.senses
  cleaners := h.cleaners
  ports := h.ports
  echos := h.echos
  axes := fun e => absurd (hT 20 (by decide)) (by rw [e]; decide)
  doors := h.doors
  obst := h.obst
  hallA := h.hallA
  hallB := h.hallB
  safety := h.safety
  conns := h.conns
  firstStandby := h.firstStandby
  train := h.train
  prog := h.prog
  can := h.can
  gallery := h.gallery
  host := h.host
  ring := h.ring
  sec := h.sec
  outs := h.outs
  draws := h.draws

theorem Reach.set_doors {T : Nat} {s t : State} (hT : Sub 2097152 T) (h : Reach T s t)
    {x : List Door}
    (i_doors : x.length = t.doors.length) :
    Reach T s { t with doors := x } where
  sound := fun k => { h.sound k with doors := i_doors.trans (h.sound k).doors }
  ratchet := h.ratchet
  grow := h.grow
  pending := h.pending
  clock := h.clock
  params := h.params
  supply := h.supply
  limp := h.limp
  flightBudgets := h.flightBudgets
  storeyBudgets := h.storeyBudgets
  dieBudgets := h.dieBudgets
  currentBudget := h.currentBudget
  thermalBudget := h.thermalBudget
  storeys := h.storeys
  dies := h.dies
  flightPower := h.flightPower
  treads := h.treads
  baseplate := h.baseplate
  dissip := h.dissip
  senses := h.senses
  cleaners := h.cleaners
  ports := h.ports
  echos := h.echos
  axes := h.axes
  doors := fun e => absurd (hT 21 (by decide)) (by rw [e]; decide)
  obst := h.obst
  hallA := h.hallA
  hallB := h.hallB
  safety := h.safety
  conns := h.conns
  firstStandby := h.firstStandby
  train := h.train
  prog := h.prog
  can := h.can
  gallery := h.gallery
  host := h.host
  ring := h.ring
  sec := h.sec
  outs := h.outs
  draws := h.draws

theorem Reach.set_obst {T : Nat} {s t : State} (hT : Sub 4194304 T) (h : Reach T s t)
    {x : List Obst}
    (i_obst : x.length = t.obst.length) :
    Reach T s { t with obst := x } where
  sound := fun k => { h.sound k with obst := i_obst.trans (h.sound k).obst }
  ratchet := h.ratchet
  grow := h.grow
  pending := h.pending
  clock := h.clock
  params := h.params
  supply := h.supply
  limp := h.limp
  flightBudgets := h.flightBudgets
  storeyBudgets := h.storeyBudgets
  dieBudgets := h.dieBudgets
  currentBudget := h.currentBudget
  thermalBudget := h.thermalBudget
  storeys := h.storeys
  dies := h.dies
  flightPower := h.flightPower
  treads := h.treads
  baseplate := h.baseplate
  dissip := h.dissip
  senses := h.senses
  cleaners := h.cleaners
  ports := h.ports
  echos := h.echos
  axes := h.axes
  doors := h.doors
  obst := fun e => absurd (hT 22 (by decide)) (by rw [e]; decide)
  hallA := h.hallA
  hallB := h.hallB
  safety := h.safety
  conns := h.conns
  firstStandby := h.firstStandby
  train := h.train
  prog := h.prog
  can := h.can
  gallery := h.gallery
  host := h.host
  ring := h.ring
  sec := h.sec
  outs := h.outs
  draws := h.draws

theorem Reach.set_hallA {T : Nat} {s t : State} (hT : Sub 8388608 T) (h : Reach T s t)
    {x : Hall}
     :
    Reach T s { t with hallA := x } where
  sound := fun k => { h.sound k with }
  ratchet := h.ratchet
  grow := h.grow
  pending := h.pending
  clock := h.clock
  params := h.params
  supply := h.supply
  limp := h.limp
  flightBudgets := h.flightBudgets
  storeyBudgets := h.storeyBudgets
  dieBudgets := h.dieBudgets
  currentBudget := h.currentBudget
  thermalBudget := h.thermalBudget
  storeys := h.storeys
  dies := h.dies
  flightPower := h.flightPower
  treads := h.treads
  baseplate := h.baseplate
  dissip := h.dissip
  senses := h.senses
  cleaners := h.cleaners
  ports := h.ports
  echos := h.echos
  axes := h.axes
  doors := h.doors
  obst := h.obst
  hallA := fun e => absurd (hT 23 (by decide)) (by rw [e]; decide)
  hallB := h.hallB
  safety := h.safety
  conns := h.conns
  firstStandby := h.firstStandby
  train := h.train
  prog := h.prog
  can := h.can
  gallery := h.gallery
  host := h.host
  ring := h.ring
  sec := h.sec
  outs := h.outs
  draws := h.draws

theorem Reach.set_hallB {T : Nat} {s t : State} (hT : Sub 16777216 T) (h : Reach T s t)
    {x : Hall}
     :
    Reach T s { t with hallB := x } where
  sound := fun k => { h.sound k with }
  ratchet := h.ratchet
  grow := h.grow
  pending := h.pending
  clock := h.clock
  params := h.params
  supply := h.supply
  limp := h.limp
  flightBudgets := h.flightBudgets
  storeyBudgets := h.storeyBudgets
  dieBudgets := h.dieBudgets
  currentBudget := h.currentBudget
  thermalBudget := h.thermalBudget
  storeys := h.storeys
  dies := h.dies
  flightPower := h.flightPower
  treads := h.treads
  baseplate := h.baseplate
  dissip := h.dissip
  senses := h.senses
  cleaners := h.cleaners
  ports := h.ports
  echos := h.echos
  axes := h.axes
  doors := h.doors
  obst := h.obst
  hallA := h.hallA
  hallB := fun e => absurd (hT 24 (by decide)) (by rw [e]; decide)
  safety := h.safety
  conns := h.conns
  firstStandby := h.firstStandby
  train := h.train
  prog := h.prog
  can := h.can
  gallery := h.gallery
  host := h.host
  ring := h.ring
  sec := h.sec
  outs := h.outs
  draws := h.draws

theorem Reach.set_safety {T : Nat} {s t : State} (hT : Sub 33554432 T) (h : Reach T s t)
    {x : Safety}
    (i_safety : x.flights.length = t.safety.flights.length) :
    Reach T s { t with safety := x } where
  sound := fun k => { h.sound k with safety := i_safety.trans (h.sound k).safety }
  ratchet := h.ratchet
  grow := h.grow
  pending := h.pending
  clock := h.clock
  params := h.params
  supply := h.supply
  limp := h.limp
  flightBudgets := h.flightBudgets
  storeyBudgets := h.storeyBudgets
  dieBudgets := h.dieBudgets
  currentBudget := h.currentBudget
  thermalBudget := h.thermalBudget
  storeys := h.storeys
  dies := h.dies
  flightPower := h.flightPower
  treads := h.treads
  baseplate := h.baseplate
  dissip := h.dissip
  senses := h.senses
  cleaners := h.cleaners
  ports := h.ports
  echos := h.echos
  axes := h.axes
  doors := h.doors
  obst := h.obst
  hallA := h.hallA
  hallB := h.hallB
  safety := fun e => absurd (hT 25 (by decide)) (by rw [e]; decide)
  conns := h.conns
  firstStandby := h.firstStandby
  train := h.train
  prog := h.prog
  can := h.can
  gallery := h.gallery
  host := h.host
  ring := h.ring
  sec := h.sec
  outs := h.outs
  draws := h.draws

theorem Reach.set_conns {T : Nat} {s t : State} (hT : Sub 67108864 T) (h : Reach T s t)
    {x : List Conn}
    (i_conns : x.length = t.conns.length) :
    Reach T s { t with conns := x } where
  sound := fun k => { h.sound k with conns := i_conns.trans (h.sound k).conns }
  ratchet := h.ratchet
  grow := h.grow
  pending := h.pending
  clock := h.clock
  params := h.params
  supply := h.supply
  limp := h.limp
  flightBudgets := h.flightBudgets
  storeyBudgets := h.storeyBudgets
  dieBudgets := h.dieBudgets
  currentBudget := h.currentBudget
  thermalBudget := h.thermalBudget
  storeys := h.storeys
  dies := h.dies
  flightPower := h.flightPower
  treads := h.treads
  baseplate := h.baseplate
  dissip := h.dissip
  senses := h.senses
  cleaners := h.cleaners
  ports := h.ports
  echos := h.echos
  axes := h.axes
  doors := h.doors
  obst := h.obst
  hallA := h.hallA
  hallB := h.hallB
  safety := h.safety
  conns := fun e => absurd (hT 26 (by decide)) (by rw [e]; decide)
  firstStandby := h.firstStandby
  train := h.train
  prog := h.prog
  can := h.can
  gallery := h.gallery
  host := h.host
  ring := h.ring
  sec := h.sec
  outs := h.outs
  draws := h.draws

theorem Reach.set_train {T : Nat} {s t : State} (hT : Sub 268435456 T) (h : Reach T s t)
    {x : Train}
     :
    Reach T s { t with train := x } where
  sound := fun k => { h.sound k with }
  ratchet := h.ratchet
  grow := h.grow
  pending := h.pending
  clock := h.clock
  params := h.params
  supply := h.supply
  limp := h.limp
  flightBudgets := h.flightBudgets
  storeyBudgets := h.storeyBudgets
  dieBudgets := h.dieBudgets
  currentBudget := h.currentBudget
  thermalBudget := h.thermalBudget
  storeys := h.storeys
  dies := h.dies
  flightPower := h.flightPower
  treads := h.treads
  baseplate := h.baseplate
  dissip := h.dissip
  senses := h.senses
  cleaners := h.cleaners
  ports := h.ports
  echos := h.echos
  axes := h.axes
  doors := h.doors
  obst := h.obst
  hallA := h.hallA
  hallB := h.hallB
  safety := h.safety
  conns := h.conns
  firstStandby := h.firstStandby
  train := fun e => absurd (hT 28 (by decide)) (by rw [e]; decide)
  prog := h.prog
  can := h.can
  gallery := h.gallery
  host := h.host
  ring := h.ring
  sec := h.sec
  outs := h.outs
  draws := h.draws

theorem Reach.set_prog {T : Nat} {s t : State} (hT : Sub 536870912 T) (h : Reach T s t)
    {x : Prog}
    (i_prog : t.prog.Canonical → x.Canonical) :
    Reach T s { t with prog := x } where
  sound := fun k => { h.sound k with prog := i_prog (h.sound k).prog }
  ratchet := h.ratchet
  grow := h.grow
  pending := h.pending
  clock := h.clock
  params := h.params
  supply := h.supply
  limp := h.limp
  flightBudgets := h.flightBudgets
  storeyBudgets := h.storeyBudgets
  dieBudgets := h.dieBudgets
  currentBudget := h.currentBudget
  thermalBudget := h.thermalBudget
  storeys := h.storeys
  dies := h.dies
  flightPower := h.flightPower
  treads := h.treads
  baseplate := h.baseplate
  dissip := h.dissip
  senses := h.senses
  cleaners := h.cleaners
  ports := h.ports
  echos := h.echos
  axes := h.axes
  doors := h.doors
  obst := h.obst
  hallA := h.hallA
  hallB := h.hallB
  safety := h.safety
  conns := h.conns
  firstStandby := h.firstStandby
  train := h.train
  prog := fun e => absurd (hT 29 (by decide)) (by rw [e]; decide)
  can := h.can
  gallery := h.gallery
  host := h.host
  ring := h.ring
  sec := h.sec
  outs := h.outs
  draws := h.draws

theorem Reach.set_can {T : Nat} {s t : State} (hT : Sub 1073741824 T) (h : Reach T s t)
    {x : Can}
     :
    Reach T s { t with can := x } where
  sound := fun k => { h.sound k with }
  ratchet := h.ratchet
  grow := h.grow
  pending := h.pending
  clock := h.clock
  params := h.params
  supply := h.supply
  limp := h.limp
  flightBudgets := h.flightBudgets
  storeyBudgets := h.storeyBudgets
  dieBudgets := h.dieBudgets
  currentBudget := h.currentBudget
  thermalBudget := h.thermalBudget
  storeys := h.storeys
  dies := h.dies
  flightPower := h.flightPower
  treads := h.treads
  baseplate := h.baseplate
  dissip := h.dissip
  senses := h.senses
  cleaners := h.cleaners
  ports := h.ports
  echos := h.echos
  axes := h.axes
  doors := h.doors
  obst := h.obst
  hallA := h.hallA
  hallB := h.hallB
  safety := h.safety
  conns := h.conns
  firstStandby := h.firstStandby
  train := h.train
  prog := h.prog
  can := fun e => absurd (hT 30 (by decide)) (by rw [e]; decide)
  gallery := h.gallery
  host := h.host
  ring := h.ring
  sec := h.sec
  outs := h.outs
  draws := h.draws

theorem Reach.set_gallery {T : Nat} {s t : State} (hT : Sub 2147483648 T) (h : Reach T s t)
    {x : Gallery}
    (i_gallery : t.gallery.Bounded → x.Bounded) :
    Reach T s { t with gallery := x } where
  sound := fun k => { h.sound k with gallery := i_gallery (h.sound k).gallery }
  ratchet := h.ratchet
  grow := h.grow
  pending := h.pending
  clock := h.clock
  params := h.params
  supply := h.supply
  limp := h.limp
  flightBudgets := h.flightBudgets
  storeyBudgets := h.storeyBudgets
  dieBudgets := h.dieBudgets
  currentBudget := h.currentBudget
  thermalBudget := h.thermalBudget
  storeys := h.storeys
  dies := h.dies
  flightPower := h.flightPower
  treads := h.treads
  baseplate := h.baseplate
  dissip := h.dissip
  senses := h.senses
  cleaners := h.cleaners
  ports := h.ports
  echos := h.echos
  axes := h.axes
  doors := h.doors
  obst := h.obst
  hallA := h.hallA
  hallB := h.hallB
  safety := h.safety
  conns := h.conns
  firstStandby := h.firstStandby
  train := h.train
  prog := h.prog
  can := h.can
  gallery := fun e => absurd (hT 31 (by decide)) (by rw [e]; decide)
  host := h.host
  ring := h.ring
  sec := h.sec
  outs := h.outs
  draws := h.draws

theorem Reach.set_host {T : Nat} {s t : State} (hT : Sub 4294967296 T) (h : Reach T s t)
    {x : HostLink}
     :
    Reach T s { t with host := x } where
  sound := fun k => { h.sound k with }
  ratchet := h.ratchet
  grow := h.grow
  pending := h.pending
  clock := h.clock
  params := h.params
  supply := h.supply
  limp := h.limp
  flightBudgets := h.flightBudgets
  storeyBudgets := h.storeyBudgets
  dieBudgets := h.dieBudgets
  currentBudget := h.currentBudget
  thermalBudget := h.thermalBudget
  storeys := h.storeys
  dies := h.dies
  flightPower := h.flightPower
  treads := h.treads
  baseplate := h.baseplate
  dissip := h.dissip
  senses := h.senses
  cleaners := h.cleaners
  ports := h.ports
  echos := h.echos
  axes := h.axes
  doors := h.doors
  obst := h.obst
  hallA := h.hallA
  hallB := h.hallB
  safety := h.safety
  conns := h.conns
  firstStandby := h.firstStandby
  train := h.train
  prog := h.prog
  can := h.can
  gallery := h.gallery
  host := fun e => absurd (hT 32 (by decide)) (by rw [e]; decide)
  ring := h.ring
  sec := h.sec
  outs := h.outs
  draws := h.draws

theorem Reach.set_ring {T : Nat} {s t : State} (hT : Sub 8589934592 T) (h : Reach T s t)
    {x : Ring}
     :
    Reach T s { t with ring := x } where
  sound := fun k => { h.sound k with }
  ratchet := h.ratchet
  grow := h.grow
  pending := h.pending
  clock := h.clock
  params := h.params
  supply := h.supply
  limp := h.limp
  flightBudgets := h.flightBudgets
  storeyBudgets := h.storeyBudgets
  dieBudgets := h.dieBudgets
  currentBudget := h.currentBudget
  thermalBudget := h.thermalBudget
  storeys := h.storeys
  dies := h.dies
  flightPower := h.flightPower
  treads := h.treads
  baseplate := h.baseplate
  dissip := h.dissip
  senses := h.senses
  cleaners := h.cleaners
  ports := h.ports
  echos := h.echos
  axes := h.axes
  doors := h.doors
  obst := h.obst
  hallA := h.hallA
  hallB := h.hallB
  safety := h.safety
  conns := h.conns
  firstStandby := h.firstStandby
  train := h.train
  prog := h.prog
  can := h.can
  gallery := h.gallery
  host := h.host
  ring := fun e => absurd (hT 33 (by decide)) (by rw [e]; decide)
  sec := h.sec
  outs := h.outs
  draws := h.draws

theorem Reach.set_sec {T : Nat} {s t : State} (hT : Sub 17179869184 T) (h : Reach T s t)
    {x : Security}
    (i_sec : t.sec.Ratchet x := by exact ⟨Nat.le_refl _, Nat.le_refl _, fun _ => Nat.le_refl _, fun _ h => h⟩) :
    Reach T s { t with sec := x } where
  sound := fun k => { h.sound k with }
  ratchet := h.ratchet.trans i_sec
  grow := h.grow
  pending := h.pending
  clock := h.clock
  params := h.params
  supply := h.supply
  limp := h.limp
  flightBudgets := h.flightBudgets
  storeyBudgets := h.storeyBudgets
  dieBudgets := h.dieBudgets
  currentBudget := h.currentBudget
  thermalBudget := h.thermalBudget
  storeys := h.storeys
  dies := h.dies
  flightPower := h.flightPower
  treads := h.treads
  baseplate := h.baseplate
  dissip := h.dissip
  senses := h.senses
  cleaners := h.cleaners
  ports := h.ports
  echos := h.echos
  axes := h.axes
  doors := h.doors
  obst := h.obst
  hallA := h.hallA
  hallB := h.hallB
  safety := h.safety
  conns := h.conns
  firstStandby := h.firstStandby
  train := h.train
  prog := h.prog
  can := h.can
  gallery := h.gallery
  host := h.host
  ring := h.ring
  sec := fun e => absurd (hT 34 (by decide)) (by rw [e]; decide)
  outs := h.outs
  draws := h.draws

theorem Reach.set_outs {T : Nat} {s t : State} (hT : Sub 34359738368 T) (h : Reach T s t)
    {x : List OutMsg}
    (i_outs : t.outs <:+ x := by first | assumption | exact List.suffix_cons _ _) :
    Reach T s { t with outs := x } where
  sound := fun k => { h.sound k with }
  ratchet := h.ratchet
  grow := h.grow.trans i_outs
  pending := h.pending
  clock := h.clock
  params := h.params
  supply := h.supply
  limp := h.limp
  flightBudgets := h.flightBudgets
  storeyBudgets := h.storeyBudgets
  dieBudgets := h.dieBudgets
  currentBudget := h.currentBudget
  thermalBudget := h.thermalBudget
  storeys := h.storeys
  dies := h.dies
  flightPower := h.flightPower
  treads := h.treads
  baseplate := h.baseplate
  dissip := h.dissip
  senses := h.senses
  cleaners := h.cleaners
  ports := h.ports
  echos := h.echos
  axes := h.axes
  doors := h.doors
  obst := h.obst
  hallA := h.hallA
  hallB := h.hallB
  safety := h.safety
  conns := h.conns
  firstStandby := h.firstStandby
  train := h.train
  prog := h.prog
  can := h.can
  gallery := h.gallery
  host := h.host
  ring := h.ring
  sec := h.sec
  outs := fun e => absurd (hT 35 (by decide)) (by rw [e]; decide)
  draws := h.draws

theorem Reach.set_draws {T : Nat} {s t : State} (hT : Sub 68719476736 T) (h : Reach T s t)
    {x : Nat}
     :
    Reach T s { t with draws := x } where
  sound := fun k => { h.sound k with }
  ratchet := h.ratchet
  grow := h.grow
  pending := h.pending
  clock := h.clock
  params := h.params
  supply := h.supply
  limp := h.limp
  flightBudgets := h.flightBudgets
  storeyBudgets := h.storeyBudgets
  dieBudgets := h.dieBudgets
  currentBudget := h.currentBudget
  thermalBudget := h.thermalBudget
  storeys := h.storeys
  dies := h.dies
  flightPower := h.flightPower
  treads := h.treads
  baseplate := h.baseplate
  dissip := h.dissip
  senses := h.senses
  cleaners := h.cleaners
  ports := h.ports
  echos := h.echos
  axes := h.axes
  doors := h.doors
  obst := h.obst
  hallA := h.hallA
  hallB := h.hallB
  safety := h.safety
  conns := h.conns
  firstStandby := h.firstStandby
  train := h.train
  prog := h.prog
  can := h.can
  gallery := h.gallery
  host := h.host
  ring := h.ring
  sec := h.sec
  outs := h.outs
  draws := fun e => absurd (hT 36 (by decide)) (by rw [e]; decide)

theorem Reach.set_supply_gallery {T : Nat} {s t : State} (hT : Sub 2147483656 T) (h : Reach T s t)
    {x_supply : Supply} {x_gallery : Gallery}
    (i_gallery : t.gallery.Bounded → x_gallery.Bounded) :
    Reach T s { t with supply := x_supply, gallery := x_gallery } where
  sound := fun k => { h.sound k with gallery := i_gallery (h.sound k).gallery }
  ratchet := h.ratchet
  grow := h.grow
  pending := h.pending
  clock := h.clock
  params := h.params
  supply := fun e => absurd (hT 3 (by decide)) (by rw [e]; decide)
  limp := h.limp
  flightBudgets := h.flightBudgets
  storeyBudgets := h.storeyBudgets
  dieBudgets := h.dieBudgets
  currentBudget := h.currentBudget
  thermalBudget := h.thermalBudget
  storeys := h.storeys
  dies := h.dies
  flightPower := h.flightPower
  treads := h.treads
  baseplate := h.baseplate
  dissip := h.dissip
  senses := h.senses
  cleaners := h.cleaners
  ports := h.ports
  echos := h.echos
  axes := h.axes
  doors := h.doors
  obst := h.obst
  hallA := h.hallA
  hallB := h.hallB
  safety := h.safety
  conns := h.conns
  firstStandby := h.firstStandby
  train := h.train
  prog := h.prog
  can := h.can
  gallery := fun e => absurd (hT 31 (by decide)) (by rw [e]; decide)
  host := h.host
  ring := h.ring
  sec := h.sec
  outs := h.outs
  draws := h.draws

theorem Reach.set_supply_sec {T : Nat} {s t : State} (hT : Sub 17179869192 T) (h : Reach T s t)
    {x_supply : Supply} {x_sec : Security}
    (i_sec : t.sec.Ratchet x_sec := by exact ⟨Nat.le_refl _, Nat.le_refl _, fun _ => Nat.le_refl _, fun _ h => h⟩) :
    Reach T s { t with supply := x_supply, sec := x_sec } where
  sound := fun k => { h.sound k with }
  ratchet := h.ratchet.trans i_sec
  grow := h.grow
  pending := h.pending
  clock := h.clock
  params := h.params
  supply := fun e => absurd (hT 3 (by decide)) (by rw [e]; decide)
  limp := h.limp
  flightBudgets := h.flightBudgets
  storeyBudgets := h.storeyBudgets
  dieBudgets := h.dieBudgets
  currentBudget := h.currentBudget
  thermalBudget := h.thermalBudget
  storeys := h.storeys
  dies := h.dies
  flightPower := h.flightPower
  treads := h.treads
  baseplate := h.baseplate
  dissip := h.dissip
  senses := h.senses
  cleaners := h.cleaners
  ports := h.ports
  echos := h.echos
  axes := h.axes
  doors := h.doors
  obst := h.obst
  hallA := h.hallA
  hallB := h.hallB
  safety := h.safety
  conns := h.conns
  firstStandby := h.firstStandby
  train := h.train
  prog := h.prog
  can := h.can
  gallery := h.gallery
  host := h.host
  ring := h.ring
  sec := fun e => absurd (hT 34 (by decide)) (by rw [e]; decide)
  outs := h.outs
  draws := h.draws

theorem Reach.set_safety_firstStandby {T : Nat} {s t : State} (hT : Sub 167772160 T) (h : Reach T s t)
    {x_safety : Safety} {x_firstStandby : Bool}
    (i_safety : x_safety.flights.length = t.safety.flights.length) :
    Reach T s { t with safety := x_safety, firstStandby := x_firstStandby } where
  sound := fun k => { h.sound k with safety := i_safety.trans (h.sound k).safety }
  ratchet := h.ratchet
  grow := h.grow
  pending := h.pending
  clock := h.clock
  params := h.params
  supply := h.supply
  limp := h.limp
  flightBudgets := h.flightBudgets
  storeyBudgets := h.storeyBudgets
  dieBudgets := h.dieBudgets
  currentBudget := h.currentBudget
  thermalBudget := h.thermalBudget
  storeys := h.storeys
  dies := h.dies
  flightPower := h.flightPower
  treads := h.treads
  baseplate := h.baseplate
  dissip := h.dissip
  senses := h.senses
  cleaners := h.cleaners
  ports := h.ports
  echos := h.echos
  axes := h.axes
  doors := h.doors
  obst := h.obst
  hallA := h.hallA
  hallB := h.hallB
  safety := fun e => absurd (hT 25 (by decide)) (by rw [e]; decide)
  conns := h.conns
  firstStandby := fun e => absurd (hT 27 (by decide)) (by rw [e]; decide)
  train := h.train
  prog := h.prog
  can := h.can
  gallery := h.gallery
  host := h.host
  ring := h.ring
  sec := h.sec
  outs := h.outs
  draws := h.draws

theorem Reach.set_prog_can {T : Nat} {s t : State} (hT : Sub 1610612736 T) (h : Reach T s t)
    {x_prog : Prog} {x_can : Can}
    (i_prog : t.prog.Canonical → x_prog.Canonical) :
    Reach T s { t with prog := x_prog, can := x_can } where
  sound := fun k => { h.sound k with prog := i_prog (h.sound k).prog }
  ratchet := h.ratchet
  grow := h.grow
  pending := h.pending
  clock := h.clock
  params := h.params
  supply := h.supply
  limp := h.limp
  flightBudgets := h.flightBudgets
  storeyBudgets := h.storeyBudgets
  dieBudgets := h.dieBudgets
  currentBudget := h.currentBudget
  thermalBudget := h.thermalBudget
  storeys := h.storeys
  dies := h.dies
  flightPower := h.flightPower
  treads := h.treads
  baseplate := h.baseplate
  dissip := h.dissip
  senses := h.senses
  cleaners := h.cleaners
  ports := h.ports
  echos := h.echos
  axes := h.axes
  doors := h.doors
  obst := h.obst
  hallA := h.hallA
  hallB := h.hallB
  safety := h.safety
  conns := h.conns
  firstStandby := h.firstStandby
  train := h.train
  prog := fun e => absurd (hT 29 (by decide)) (by rw [e]; decide)
  can := fun e => absurd (hT 30 (by decide)) (by rw [e]; decide)
  gallery := h.gallery
  host := h.host
  ring := h.ring
  sec := h.sec
  outs := h.outs
  draws := h.draws

theorem Reach.set_prog_ring {T : Nat} {s t : State} (hT : Sub 9126805504 T) (h : Reach T s t)
    {x_prog : Prog} {x_ring : Ring}
    (i_prog : t.prog.Canonical → x_prog.Canonical) :
    Reach T s { t with prog := x_prog, ring := x_ring } where
  sound := fun k => { h.sound k with prog := i_prog (h.sound k).prog }
  ratchet := h.ratchet
  grow := h.grow
  pending := h.pending
  clock := h.clock
  params := h.params
  supply := h.supply
  limp := h.limp
  flightBudgets := h.flightBudgets
  storeyBudgets := h.storeyBudgets
  dieBudgets := h.dieBudgets
  currentBudget := h.currentBudget
  thermalBudget := h.thermalBudget
  storeys := h.storeys
  dies := h.dies
  flightPower := h.flightPower
  treads := h.treads
  baseplate := h.baseplate
  dissip := h.dissip
  senses := h.senses
  cleaners := h.cleaners
  ports := h.ports
  echos := h.echos
  axes := h.axes
  doors := h.doors
  obst := h.obst
  hallA := h.hallA
  hallB := h.hallB
  safety := h.safety
  conns := h.conns
  firstStandby := h.firstStandby
  train := h.train
  prog := fun e => absurd (hT 29 (by decide)) (by rw [e]; decide)
  can := h.can
  gallery := h.gallery
  host := h.host
  ring := fun e => absurd (hT 33 (by decide)) (by rw [e]; decide)
  sec := h.sec
  outs := h.outs
  draws := h.draws

theorem Reach.set_prog_sec {T : Nat} {s t : State} (hT : Sub 17716740096 T) (h : Reach T s t)
    {x_prog : Prog} {x_sec : Security}
    (i_prog : t.prog.Canonical → x_prog.Canonical) (i_sec : t.sec.Ratchet x_sec := by exact ⟨Nat.le_refl _, Nat.le_refl _, fun _ => Nat.le_refl _, fun _ h => h⟩) :
    Reach T s { t with prog := x_prog, sec := x_sec } where
  sound := fun k => { h.sound k with prog := i_prog (h.sound k).prog }
  ratchet := h.ratchet.trans i_sec
  grow := h.grow
  pending := h.pending
  clock := h.clock
  params := h.params
  supply := h.supply
  limp := h.limp
  flightBudgets := h.flightBudgets
  storeyBudgets := h.storeyBudgets
  dieBudgets := h.dieBudgets
  currentBudget := h.currentBudget
  thermalBudget := h.thermalBudget
  storeys := h.storeys
  dies := h.dies
  flightPower := h.flightPower
  treads := h.treads
  baseplate := h.baseplate
  dissip := h.dissip
  senses := h.senses
  cleaners := h.cleaners
  ports := h.ports
  echos := h.echos
  axes := h.axes
  doors := h.doors
  obst := h.obst
  hallA := h.hallA
  hallB := h.hallB
  safety := h.safety
  conns := h.conns
  firstStandby := h.firstStandby
  train := h.train
  prog := fun e => absurd (hT 29 (by decide)) (by rw [e]; decide)
  can := h.can
  gallery := h.gallery
  host := h.host
  ring := h.ring
  sec := fun e => absurd (hT 34 (by decide)) (by rw [e]; decide)
  outs := h.outs
  draws := h.draws

theorem Reach.set_gallery_sec {T : Nat} {s t : State} (hT : Sub 19327352832 T) (h : Reach T s t)
    {x_gallery : Gallery} {x_sec : Security}
    (i_gallery : t.gallery.Bounded → x_gallery.Bounded) (i_sec : t.sec.Ratchet x_sec := by exact ⟨Nat.le_refl _, Nat.le_refl _, fun _ => Nat.le_refl _, fun _ h => h⟩) :
    Reach T s { t with gallery := x_gallery, sec := x_sec } where
  sound := fun k => { h.sound k with gallery := i_gallery (h.sound k).gallery }
  ratchet := h.ratchet.trans i_sec
  grow := h.grow
  pending := h.pending
  clock := h.clock
  params := h.params
  supply := h.supply
  limp := h.limp
  flightBudgets := h.flightBudgets
  storeyBudgets := h.storeyBudgets
  dieBudgets := h.dieBudgets
  currentBudget := h.currentBudget
  thermalBudget := h.thermalBudget
  storeys := h.storeys
  dies := h.dies
  flightPower := h.flightPower
  treads := h.treads
  baseplate := h.baseplate
  dissip := h.dissip
  senses := h.senses
  cleaners := h.cleaners
  ports := h.ports
  echos := h.echos
  axes := h.axes
  doors := h.doors
  obst := h.obst
  hallA := h.hallA
  hallB := h.hallB
  safety := h.safety
  conns := h.conns
  firstStandby := h.firstStandby
  train := h.train
  prog := h.prog
  can := h.can
  gallery := fun e => absurd (hT 31 (by decide)) (by rw [e]; decide)
  host := h.host
  ring := h.ring
  sec := fun e => absurd (hT 34 (by decide)) (by rw [e]; decide)
  outs := h.outs
  draws := h.draws

theorem Reach.set_gallery_outs {T : Nat} {s t : State} (hT : Sub 36507222016 T) (h : Reach T s t)
    {x_gallery : Gallery} {x_outs : List OutMsg}
    (i_gallery : t.gallery.Bounded → x_gallery.Bounded) (i_outs : t.outs <:+ x_outs := by first | assumption | exact List.suffix_cons _ _) :
    Reach T s { t with gallery := x_gallery, outs := x_outs } where
  sound := fun k => { h.sound k with gallery := i_gallery (h.sound k).gallery }
  ratchet := h.ratchet
  grow := h.grow.trans i_outs
  pending := h.pending
  clock := h.clock
  params := h.params
  supply := h.supply
  limp := h.limp
  flightBudgets := h.flightBudgets
  storeyBudgets := h.storeyBudgets
  dieBudgets := h.dieBudgets
  currentBudget := h.currentBudget
  thermalBudget := h.thermalBudget
  storeys := h.storeys
  dies := h.dies
  flightPower := h.flightPower
  treads := h.treads
  baseplate := h.baseplate
  dissip := h.dissip
  senses := h.senses
  cleaners := h.cleaners
  ports := h.ports
  echos := h.echos
  axes := h.axes
  doors := h.doors
  obst := h.obst
  hallA := h.hallA
  hallB := h.hallB
  safety := h.safety
  conns := h.conns
  firstStandby := h.firstStandby
  train := h.train
  prog := h.prog
  can := h.can
  gallery := fun e => absurd (hT 31 (by decide)) (by rw [e]; decide)
  host := h.host
  ring := h.ring
  sec := h.sec
  outs := fun e => absurd (hT 35 (by decide)) (by rw [e]; decide)
  draws := h.draws

theorem Reach.set_host_sec {T : Nat} {s t : State} (hT : Sub 21474836480 T) (h : Reach T s t)
    {x_host : HostLink} {x_sec : Security}
    (i_sec : t.sec.Ratchet x_sec := by exact ⟨Nat.le_refl _, Nat.le_refl _, fun _ => Nat.le_refl _, fun _ h => h⟩) :
    Reach T s { t with host := x_host, sec := x_sec } where
  sound := fun k => { h.sound k with }
  ratchet := h.ratchet.trans i_sec
  grow := h.grow
  pending := h.pending
  clock := h.clock
  params := h.params
  supply := h.supply
  limp := h.limp
  flightBudgets := h.flightBudgets
  storeyBudgets := h.storeyBudgets
  dieBudgets := h.dieBudgets
  currentBudget := h.currentBudget
  thermalBudget := h.thermalBudget
  storeys := h.storeys
  dies := h.dies
  flightPower := h.flightPower
  treads := h.treads
  baseplate := h.baseplate
  dissip := h.dissip
  senses := h.senses
  cleaners := h.cleaners
  ports := h.ports
  echos := h.echos
  axes := h.axes
  doors := h.doors
  obst := h.obst
  hallA := h.hallA
  hallB := h.hallB
  safety := h.safety
  conns := h.conns
  firstStandby := h.firstStandby
  train := h.train
  prog := h.prog
  can := h.can
  gallery := h.gallery
  host := fun e => absurd (hT 32 (by decide)) (by rw [e]; decide)
  ring := h.ring
  sec := fun e => absurd (hT 34 (by decide)) (by rw [e]; decide)
  outs := h.outs
  draws := h.draws

theorem Reach.set_supply_baseplate {T : Nat} {s t : State} (hT : Sub 16392 T) (h : Reach T s t)
    {x_supply : Supply} {x_baseplate : Rat} :
    Reach T s { t with supply := x_supply, baseplate := x_baseplate } where
  sound := fun k => { h.sound k with }
  ratchet := h.ratchet
  grow := h.grow
  pending := h.pending
  clock := h.clock
  params := h.params
  supply := fun e => absurd (hT 3 (by decide)) (by rw [e]; decide)
  limp := h.limp
  flightBudgets := h.flightBudgets
  storeyBudgets := h.storeyBudgets
  dieBudgets := h.dieBudgets
  currentBudget := h.currentBudget
  thermalBudget := h.thermalBudget
  storeys := h.storeys
  dies := h.dies
  flightPower := h.flightPower
  treads := h.treads
  baseplate := fun e => absurd (hT 14 (by decide)) (by rw [e]; decide)
  dissip := h.dissip
  senses := h.senses
  cleaners := h.cleaners
  ports := h.ports
  echos := h.echos
  axes := h.axes
  doors := h.doors
  obst := h.obst
  hallA := h.hallA
  hallB := h.hallB
  safety := h.safety
  conns := h.conns
  firstStandby := h.firstStandby
  train := h.train
  prog := h.prog
  can := h.can
  gallery := h.gallery
  host := h.host
  ring := h.ring
  sec := h.sec
  outs := h.outs
  draws := h.draws

theorem Reach.set_supply_train {T : Nat} {s t : State} (hT : Sub 268435464 T) (h : Reach T s t)
    {x_supply : Supply} {x_train : Train} :
    Reach T s { t with supply := x_supply, train := x_train } where
  sound := fun k => { h.sound k with }
  ratchet := h.ratchet
  grow := h.grow
  pending := h.pending
  clock := h.clock
  params := h.params
  supply := fun e => absurd (hT 3 (by decide)) (by rw [e]; decide)
  limp := h.limp
  flightBudgets := h.flightBudgets
  storeyBudgets := h.storeyBudgets
  dieBudgets := h.dieBudgets
  currentBudget := h.currentBudget
  thermalBudget := h.thermalBudget
  storeys := h.storeys
  dies := h.dies
  flightPower := h.flightPower
  treads := h.treads
  baseplate := h.baseplate
  dissip := h.dissip
  senses := h.senses
  cleaners := h.cleaners
  ports := h.ports
  echos := h.echos
  axes := h.axes
  doors := h.doors
  obst := h.obst
  hallA := h.hallA
  hallB := h.hallB
  safety := h.safety
  conns := h.conns
  firstStandby := h.firstStandby
  train := fun e => absurd (hT 28 (by decide)) (by rw [e]; decide)
  prog := h.prog
  can := h.can
  gallery := h.gallery
  host := h.host
  ring := h.ring
  sec := h.sec
  outs := h.outs
  draws := h.draws

theorem Reach.set_supply_firstStandby_sec {T : Nat} {s t : State} (hT : Sub 17314086920 T) (h : Reach T s t)
    {x_supply : Supply} {x_firstStandby : Bool} {x_sec : Security}
    (i_sec : t.sec.Ratchet x_sec := by exact ⟨Nat.le_refl _, Nat.le_refl _, fun _ => Nat.le_refl _, fun _ h => h⟩) :
    Reach T s { t with supply := x_supply, firstStandby := x_firstStandby, sec := x_sec } where
  sound := fun k => { h.sound k with }
  ratchet := h.ratchet.trans i_sec
  grow := h.grow
  pending := h.pending
  clock := h.clock
  params := h.params
  supply := fun e => absurd (hT 3 (by decide)) (by rw [e]; decide)
  limp := h.limp
  flightBudgets := h.flightBudgets
  storeyBudgets := h.storeyBudgets
  dieBudgets := h.dieBudgets
  currentBudget := h.currentBudget
  thermalBudget := h.thermalBudget
  storeys := h.storeys
  dies := h.dies
  flightPower := h.flightPower
  treads := h.treads
  baseplate := h.baseplate
  dissip := h.dissip
  senses := h.senses
  cleaners := h.cleaners
  ports := h.ports
  echos := h.echos
  axes := h.axes
  doors := h.doors
  obst := h.obst
  hallA := h.hallA
  hallB := h.hallB
  safety := h.safety
  conns := h.conns
  firstStandby := fun e => absurd (hT 27 (by decide)) (by rw [e]; decide)
  train := h.train
  prog := h.prog
  can := h.can
  gallery := h.gallery
  host := h.host
  ring := h.ring
  sec := fun e => absurd (hT 34 (by decide)) (by rw [e]; decide)
  outs := h.outs
  draws := h.draws

theorem Reach.set_clock_safety_gallery_sec {T : Nat} {s t : State} (hT : Sub 19360907266 T) (h : Reach T s t)
    {x_clock : Clock} {x_safety : Safety} {x_gallery : Gallery} {x_sec : Security}
    (i_safety : x_safety.flights.length = t.safety.flights.length) (i_gallery : t.gallery.Bounded → x_gallery.Bounded) (i_sec : t.sec.Ratchet x_sec := by exact ⟨Nat.le_refl _, Nat.le_refl _, fun _ => Nat.le_refl _, fun _ h => h⟩) :
    Reach T s { t with clock := x_clock, safety := x_safety, gallery := x_gallery, sec := x_sec } where
  sound := fun k => { h.sound k with safety := i_safety.trans (h.sound k).safety, gallery := i_gallery (h.sound k).gallery }
  ratchet := h.ratchet.trans i_sec
  grow := h.grow
  pending := h.pending
  clock := fun e => absurd (hT 1 (by decide)) (by rw [e]; decide)
  params := h.params
  supply := h.supply
  limp := h.limp
  flightBudgets := h.flightBudgets
  storeyBudgets := h.storeyBudgets
  dieBudgets := h.dieBudgets
  currentBudget := h.currentBudget
  thermalBudget := h.thermalBudget
  storeys := h.storeys
  dies := h.dies
  flightPower := h.flightPower
  treads := h.treads
  baseplate := h.baseplate
  dissip := h.dissip
  senses := h.senses
  cleaners := h.cleaners
  ports := h.ports
  echos := h.echos
  axes := h.axes
  doors := h.doors
  obst := h.obst
  hallA := h.hallA
  hallB := h.hallB
  safety := fun e => absurd (hT 25 (by decide)) (by rw [e]; decide)
  conns := h.conns
  firstStandby := h.firstStandby
  train := h.train
  prog := h.prog
  can := h.can
  gallery := fun e => absurd (hT 31 (by decide)) (by rw [e]; decide)
  host := h.host
  ring := h.ring
  sec := fun e => absurd (hT 34 (by decide)) (by rw [e]; decide)
  outs := h.outs
  draws := h.draws

theorem Reach.set_clock_train_prog_can_gallery_host_ring_sec {T : Nat} {s t : State} (hT : Sub 34091302914 T) (h : Reach T s t)
    {x_clock : Clock} {x_train : Train} {x_prog : Prog} {x_can : Can} {x_gallery : Gallery} {x_host : HostLink} {x_ring : Ring} {x_sec : Security}
    (i_prog : t.prog.Canonical → x_prog.Canonical) (i_gallery : t.gallery.Bounded → x_gallery.Bounded) (i_sec : t.sec.Ratchet x_sec := by exact ⟨Nat.le_refl _, Nat.le_refl _, fun _ => Nat.le_refl _, fun _ h => h⟩) :
    Reach T s { t with clock := x_clock, train := x_train, prog := x_prog, can := x_can, gallery := x_gallery, host := x_host, ring := x_ring, sec := x_sec } where
  sound := fun k => { h.sound k with prog := i_prog (h.sound k).prog, gallery := i_gallery (h.sound k).gallery }
  ratchet := h.ratchet.trans i_sec
  grow := h.grow
  pending := h.pending
  clock := fun e => absurd (hT 1 (by decide)) (by rw [e]; decide)
  params := h.params
  supply := h.supply
  limp := h.limp
  flightBudgets := h.flightBudgets
  storeyBudgets := h.storeyBudgets
  dieBudgets := h.dieBudgets
  currentBudget := h.currentBudget
  thermalBudget := h.thermalBudget
  storeys := h.storeys
  dies := h.dies
  flightPower := h.flightPower
  treads := h.treads
  baseplate := h.baseplate
  dissip := h.dissip
  senses := h.senses
  cleaners := h.cleaners
  ports := h.ports
  echos := h.echos
  axes := h.axes
  doors := h.doors
  obst := h.obst
  hallA := h.hallA
  hallB := h.hallB
  safety := h.safety
  conns := h.conns
  firstStandby := h.firstStandby
  train := fun e => absurd (hT 28 (by decide)) (by rw [e]; decide)
  prog := fun e => absurd (hT 29 (by decide)) (by rw [e]; decide)
  can := fun e => absurd (hT 30 (by decide)) (by rw [e]; decide)
  gallery := fun e => absurd (hT 31 (by decide)) (by rw [e]; decide)
  host := fun e => absurd (hT 32 (by decide)) (by rw [e]; decide)
  ring := fun e => absurd (hT 33 (by decide)) (by rw [e]; decide)
  sec := fun e => absurd (hT 34 (by decide)) (by rw [e]; decide)
  outs := h.outs
  draws := h.draws

theorem Reach.set_limp_treads_senses_ports {T : Nat} {s t : State} (hT : Sub 335888 T) (h : Reach T s t)
    {x_limp : List LimpHome} {x_treads : List Tread} {x_senses : List Sense} {x_ports : List Port}
    (i_limp : x_limp.length = t.limp.length) (i_treads : x_treads.length = t.treads.length) (i_senses : x_senses.length = t.senses.length) (i_ports : x_ports.length = t.ports.length) :
    Reach T s { t with limp := x_limp, treads := x_treads, senses := x_senses, ports := x_ports } where
  sound := fun k => { h.sound k with limp := i_limp.trans (h.sound k).limp, treads := i_treads.trans (h.sound k).treads, senses := i_senses.trans (h.sound k).senses, ports := i_ports.trans (h.sound k).ports }
  ratchet := h.ratchet
  grow := h.grow
  pending := h.pending
  clock := h.clock
  params := h.params
  supply := h.supply
  limp := fun e => absurd (hT 4 (by decide)) (by rw [e]; decide)
  flightBudgets := h.flightBudgets
  storeyBudgets := h.storeyBudgets
  dieBudgets := h.dieBudgets
  currentBudget := h.currentBudget
  thermalBudget := h.thermalBudget
  storeys := h.storeys
  dies := h.dies
  flightPower := h.flightPower
  treads := fun e => absurd (hT 13 (by decide)) (by rw [e]; decide)
  baseplate := h.baseplate
  dissip := h.dissip
  senses := fun e => absurd (hT 16 (by decide)) (by rw [e]; decide)
  cleaners := h.cleaners
  ports := fun e => absurd (hT 18 (by decide)) (by rw [e]; decide)
  echos := h.echos
  axes := h.axes
  doors := h.doors
  obst := h.obst
  hallA := h.hallA
  hallB := h.hallB
  safety := h.safety
  conns := h.conns
  firstStandby := h.firstStandby
  train := h.train
  prog := h.prog
  can := h.can
  gallery := h.gallery
  host := h.host
  ring := h.ring
  sec := h.sec
  outs := h.outs
  draws := h.draws

theorem Reach.set_safety_sec {T : Nat} {s t : State} (hT : Sub 17213423616 T) (h : Reach T s t)
    {x_safety : Safety} {x_sec : Security}
    (i_safety : x_safety.flights.length = t.safety.flights.length) (i_sec : t.sec.Ratchet x_sec := by exact ⟨Nat.le_refl _, Nat.le_refl _, fun _ => Nat.le_refl _, fun _ h => h⟩) :
    Reach T s { t with safety := x_safety, sec := x_sec } where
  sound := fun k => { h.sound k with safety := i_safety.trans (h.sound k).safety }
  ratchet := h.ratchet.trans i_sec
  grow := h.grow
  pending := h.pending
  clock := h.clock
  params := h.params
  supply := h.supply
  limp := h.limp
  flightBudgets := h.flightBudgets
  storeyBudgets := h.storeyBudgets
  dieBudgets := h.dieBudgets
  currentBudget := h.currentBudget
  thermalBudget := h.thermalBudget
  storeys := h.storeys
  dies := h.dies
  flightPower := h.flightPower
  treads := h.treads
  baseplate := h.baseplate
  dissip := h.dissip
  senses := h.senses
  cleaners := h.cleaners
  ports := h.ports
  echos := h.echos
  axes := h.axes
  doors := h.doors
  obst := h.obst
  hallA := h.hallA
  hallB := h.hallB
  safety := fun e => absurd (hT 25 (by decide)) (by rw [e]; decide)
  conns := h.conns
  firstStandby := h.firstStandby
  train := h.train
  prog := h.prog
  can := h.can
  gallery := h.gallery
  host := h.host
  ring := h.ring
  sec := fun e => absurd (hT 34 (by decide)) (by rw [e]; decide)
  outs := h.outs
  draws := h.draws

theorem Reach.set_params_sec {T : Nat} {s t : State} (hT : Sub 17179869188 T) (h : Reach T s t)
    {x_params : Params} {x_sec : Security}
    (i_params : Params.wf t.params = true → Params.wf x_params = true) (i_sec : t.sec.Ratchet x_sec := by exact ⟨Nat.le_refl _, Nat.le_refl _, fun _ => Nat.le_refl _, fun _ h => h⟩) :
    Reach T s { t with params := x_params, sec := x_sec } where
  sound := fun k => { h.sound k with params := i_params (h.sound k).params }
  ratchet := h.ratchet.trans i_sec
  grow := h.grow
  pending := h.pending
  clock := h.clock
  params := fun e => absurd (hT 2 (by decide)) (by rw [e]; decide)
  supply := h.supply
  limp := h.limp
  flightBudgets := h.flightBudgets
  storeyBudgets := h.storeyBudgets
  dieBudgets := h.dieBudgets
  currentBudget := h.currentBudget
  thermalBudget := h.thermalBudget
  storeys := h.storeys
  dies := h.dies
  flightPower := h.flightPower
  treads := h.treads
  baseplate := h.baseplate
  dissip := h.dissip
  senses := h.senses
  cleaners := h.cleaners
  ports := h.ports
  echos := h.echos
  axes := h.axes
  doors := h.doors
  obst := h.obst
  hallA := h.hallA
  hallB := h.hallB
  safety := h.safety
  conns := h.conns
  firstStandby := h.firstStandby
  train := h.train
  prog := h.prog
  can := h.can
  gallery := h.gallery
  host := h.host
  ring := h.ring
  sec := fun e => absurd (hT 34 (by decide)) (by rw [e]; decide)
  outs := h.outs
  draws := h.draws

theorem Reach.set_clock_prog_ring {T : Nat} {s t : State} (hT : Sub 9126805506 T) (h : Reach T s t)
    {x_clock : Clock} {x_prog : Prog} {x_ring : Ring}
    (i_prog : t.prog.Canonical → x_prog.Canonical) :
    Reach T s { t with clock := x_clock, prog := x_prog, ring := x_ring } where
  sound := fun k => { h.sound k with prog := i_prog (h.sound k).prog }
  ratchet := h.ratchet
  grow := h.grow
  pending := h.pending
  clock := fun e => absurd (hT 1 (by decide)) (by rw [e]; decide)
  params := h.params
  supply := h.supply
  limp := h.limp
  flightBudgets := h.flightBudgets
  storeyBudgets := h.storeyBudgets
  dieBudgets := h.dieBudgets
  currentBudget := h.currentBudget
  thermalBudget := h.thermalBudget
  storeys := h.storeys
  dies := h.dies
  flightPower := h.flightPower
  treads := h.treads
  baseplate := h.baseplate
  dissip := h.dissip
  senses := h.senses
  cleaners := h.cleaners
  ports := h.ports
  echos := h.echos
  axes := h.axes
  doors := h.doors
  obst := h.obst
  hallA := h.hallA
  hallB := h.hallB
  safety := h.safety
  conns := h.conns
  firstStandby := h.firstStandby
  train := h.train
  prog := fun e => absurd (hT 29 (by decide)) (by rw [e]; decide)
  can := h.can
  gallery := h.gallery
  host := h.host
  ring := fun e => absurd (hT 33 (by decide)) (by rw [e]; decide)
  sec := h.sec
  outs := h.outs
  draws := h.draws

theorem Reach.set_limp_dies_treads_senses_ports {T : Nat} {s t : State} (hT : Sub 337936 T) (h : Reach T s t)
    {x_limp : List LimpHome} {x_dies : List Die} {x_treads : List Tread} {x_senses : List Sense} {x_ports : List Port}
    (i_limp : x_limp.length = t.limp.length) (i_dies : x_dies.length = t.dies.length) (i_treads : x_treads.length = t.treads.length) (i_senses : x_senses.length = t.senses.length) (i_ports : x_ports.length = t.ports.length) :
    Reach T s { t with limp := x_limp, dies := x_dies, treads := x_treads, senses := x_senses, ports := x_ports } where
  sound := fun k => { h.sound k with limp := i_limp.trans (h.sound k).limp, dies := i_dies.trans (h.sound k).dies, treads := i_treads.trans (h.sound k).treads, senses := i_senses.trans (h.sound k).senses, ports := i_ports.trans (h.sound k).ports }
  ratchet := h.ratchet
  grow := h.grow
  pending := h.pending
  clock := h.clock
  params := h.params
  supply := h.supply
  limp := fun e => absurd (hT 4 (by decide)) (by rw [e]; decide)
  flightBudgets := h.flightBudgets
  storeyBudgets := h.storeyBudgets
  dieBudgets := h.dieBudgets
  currentBudget := h.currentBudget
  thermalBudget := h.thermalBudget
  storeys := h.storeys
  dies := fun e => absurd (hT 11 (by decide)) (by rw [e]; decide)
  flightPower := h.flightPower
  treads := fun e => absurd (hT 13 (by decide)) (by rw [e]; decide)
  baseplate := h.baseplate
  dissip := h.dissip
  senses := fun e => absurd (hT 16 (by decide)) (by rw [e]; decide)
  cleaners := h.cleaners
  ports := fun e => absurd (hT 18 (by decide)) (by rw [e]; decide)
  echos := h.echos
  axes := h.axes
  doors := h.doors
  obst := h.obst
  hallA := h.hallA
  hallB := h.hallB
  safety := h.safety
  conns := h.conns
  firstStandby := h.firstStandby
  train := h.train
  prog := h.prog
  can := h.can
  gallery := h.gallery
  host := h.host
  ring := h.ring
  sec := h.sec
  outs := h.outs
  draws := h.draws

theorem Reach.set_train_ring {T : Nat} {s t : State} (hT : Sub 8858370048 T) (h : Reach T s t)
    {x_train : Train} {x_ring : Ring}
     :
    Reach T s { t with train := x_train, ring := x_ring } where
  sound := fun k => { h.sound k with  }
  ratchet := h.ratchet
  grow := h.grow
  pending := h.pending
  clock := h.clock
  params := h.params
  supply := h.supply
  limp := h.limp
  flightBudgets := h.flightBudgets
  storeyBudgets := h.storeyBudgets
  dieBudgets := h.dieBudgets
  currentBudget := h.currentBudget
  thermalBudget := h.thermalBudget
  storeys := h.storeys
  dies := h.dies
  flightPower := h.flightPower
  treads := h.treads
  baseplate := h.baseplate
  dissip := h.dissip
  senses := h.senses
  cleaners := h.cleaners
  ports := h.ports
  echos := h.echos
  axes := h.axes
  doors := h.doors
  obst := h.obst
  hallA := h.hallA
  hallB := h.hallB
  safety := h.safety
  conns := h.conns
  firstStandby := h.firstStandby
  train := fun e => absurd (hT 28 (by decide)) (by rw [e]; decide)
  prog := h.prog
  can := h.can
  gallery := h.gallery
  host := h.host
  ring := fun e => absurd (hT 33 (by decide)) (by rw [e]; decide)
  sec := h.sec
  outs := h.outs
  draws := h.draws

/-- A new gallery, bounded whenever the first state is sound. -/
theorem Reach.put_gallery {T : Nat} {s t : State} (hT : Sub 2147483648 T) (h : Reach T s t) {x : Gallery}
    (hx : s.Sound → x.Bounded) : Reach T s { t with gallery := x } where
  sound := fun k => { h.sound k with gallery := hx k }
  ratchet := h.ratchet
  grow := h.grow
  pending := h.pending
  clock := h.clock
  params := h.params
  supply := h.supply
  limp := h.limp
  flightBudgets := h.flightBudgets
  storeyBudgets := h.storeyBudgets
  dieBudgets := h.dieBudgets
  currentBudget := h.currentBudget
  thermalBudget := h.thermalBudget
  storeys := h.storeys
  dies := h.dies
  flightPower := h.flightPower
  treads := h.treads
  baseplate := h.baseplate
  dissip := h.dissip
  senses := h.senses
  cleaners := h.cleaners
  ports := h.ports
  echos := h.echos
  axes := h.axes
  doors := h.doors
  obst := h.obst
  hallA := h.hallA
  hallB := h.hallB
  safety := h.safety
  conns := h.conns
  firstStandby := h.firstStandby
  train := h.train
  prog := h.prog
  can := h.can
  gallery := fun e => absurd (hT 31 (by decide)) (by rw [e]; decide)
  host := h.host
  ring := h.ring
  sec := h.sec
  outs := h.outs
  draws := h.draws

/-- Folding keeps what every step keeps. -/
theorem Reach.foldl {α : Type} {T : Nat} {s : State} {f : State → α → State} (l : List α) {t : State} (h : Reach T s t)
    (hf : ∀ u x, Reach T s u → Reach T s (f u x)) : Reach T s (l.foldl f t) := by
  induction l generalizing t with
  | nil => exact h
  | cons x l ih => exact ih (hf t x h)

theorem Reach.forEach {T : Nat} {s : State} {f : State → Nat → State} (n : Nat) {t : State} (h : Reach T s t)
    (hf : ∀ u x, Reach T s u → Reach T s (f u x)) : Reach T s (t.forEach n f) := Reach.foldl _ h hf

theorem Reach.ite {T : Nat} {s t u : State} {c : Prop} [Decidable c] (ht : c → Reach T s t) (hu : ¬c → Reach T s u) :
    Reach T s (if c then t else u) := by
  by_cases k : c
  · rw [if_pos k]; exact ht k
  · rw [if_neg k]; exact hu k

theorem Reach.dite {T : Nat} {s : State} {c : Prop} [Decidable c] {t : c → State} {u : ¬c → State} (ht : ∀ k, Reach T s (t k))
    (hu : ∀ k, Reach T s (u k)) : Reach T s (if k : c then t k else u k) := by
  by_cases k : c
  · rw [dif_pos k]; exact ht k
  · rw [dif_neg k]; exact hu k

theorem Reach.pair {α : Type} {T : Nat} {s : State} {k : α → State → State} {p : α × State} :
    Reach T s p.2 → (∀ a t, Reach T s t → Reach T s (k a t)) → Reach T s (match p with | (a, t) => k a t) :=
  fun hp hk => hk p.1 p.2 hp

theorem Reach.of_eq {α : Type} {T : Nat} {s t : State} {a : α} {p : α × State} (e : p = (a, t)) (h : Reach T s p.2) :
    Reach T s t := by
  subst e
  exact h

theorem Reach.mk2 {α : Type} {T : Nat} {s t : State} {a : α} (h : Reach T s t) : Reach T s (a, t).2 := h

theorem Reach.ite2 {α : Type} {T : Nat} {s : State} {t u : α × State} {c : Prop} [Decidable c] (ht : c → Reach T s t.2)
    (hu : ¬c → Reach T s u.2) : Reach T s (if c then t else u).2 := by
  by_cases k : c
  · rw [if_pos k]; exact ht k
  · rw [if_neg k]; exact hu k

theorem Reach.pair2 {α β : Type} {T : Nat} {s : State} {k : α → State → β × State} {p : α × State} :
    Reach T s p.2 → (∀ a t, Reach T s t → Reach T s (k a t).2) → Reach T s (match p with | (a, t) => k a t).2 :=
  fun hp hk => hk p.1 p.2 hp

/-- What a command may answer: any stop, or a next state within the mask. -/
def Within (T : Nat) (s : State) (o : Host.Outcome State Fault Refusal) : Prop := ∀ t, o = .next t → Reach T s t

theorem Within.next {T : Nat} {s t : State} (h : Reach T s t) : Within T s (.next t) := by
  intro u e
  cases e
  exact h

theorem Within.fault {T : Nat} {s : State} (r : Fault) : Within T s (.fault r) := by
  intro u e
  cases e

theorem Within.ite {T : Nat} {s : State} {c : Prop} [Decidable c] {a b : Host.Outcome State Fault Refusal} (ha : c → Within T s a)
    (hb : ¬c → Within T s b) : Within T s (if c then a else b) := by
  by_cases k : c
  · rw [if_pos k]; exact ha k
  · rw [if_neg k]; exact hb k

theorem Within.pair {α : Type} {T : Nat} {s : State} {k : α → State → Host.Outcome State Fault Refusal} {p : α × State} :
    Reach T s p.2 → (∀ a t, Reach T s t → Within T s (k a t)) → Within T s (match p with | (a, t) => k a t) :=
  fun hp hk => hk p.1 p.2 hp

theorem Within.onUnit {T : Nat} {s t : State} {ok : Bool} (h : Reach T s t) : Within T s (onUnit ok t) := by
  unfold Sys2Proof.Machine.onUnit
  exact Within.ite (fun _ => Within.next h) (fun _ => Within.fault _)

end Sys2Proof.Machine
end

