-- ==== Sys2Proof/Laws/Store.lean ====
section
/-! SUPPORT. The canonical stores: what a write leaves at its own key and at every other, and that every operation keeps the
canonical form, for any store, for the byte memories and for the parameter store. -/

namespace Sys2Proof.Machine

variable {α : Type} [DecidableEq α] {d : Nat → α}

theorem sparseWf_cons {k : Nat} {v : α} {l : List (Nat × α)} :
    sparseWf d ((k, v) :: l) = true ↔ v ≠ d k ∧ (∀ e ∈ l, k < e.1) ∧ sparseWf d l = true := by
  simp [sparseWf, and_assoc]

omit [DecidableEq α] in
theorem mem_sparseErase {l : List (Nat × α)} {k : Nat} {e : Nat × α} (h : e ∈ sparseErase l k) : e ∈ l := by
  induction l with
  | nil => exact h
  | cons x l ih =>
    obtain ⟨j, w⟩ := x
    simp only [sparseErase] at h
    split at h
    · exact List.mem_cons_of_mem _ (ih h)
    · rcases List.mem_cons.1 h with rfl | h
      · exact List.mem_cons_self
      · exact List.mem_cons_of_mem _ (ih h)

omit [DecidableEq α] in
theorem mem_sparseInsert {l : List (Nat × α)} {k : Nat} {v : α} {e : Nat × α} (h : e ∈ sparseInsert l k v) :
    e = (k, v) ∨ e ∈ l := by
  induction l with
  | nil => exact Or.inl (List.mem_singleton.1 h)
  | cons x l ih =>
    obtain ⟨j, w⟩ := x
    simp only [sparseInsert] at h
    split at h
    · exact List.mem_cons.1 h
    · split at h
      · rcases List.mem_cons.1 h with rfl | h
        · exact Or.inl rfl
        · exact Or.inr (List.mem_cons_of_mem _ h)
      · rcases List.mem_cons.1 h with rfl | h
        · exact Or.inr List.mem_cons_self
        · exact (ih h).imp id (List.mem_cons_of_mem _)

theorem sparseErase_wf {l : List (Nat × α)} (k : Nat) (h : sparseWf d l = true) : sparseWf d (sparseErase l k) = true := by
  induction l with
  | nil => exact h
  | cons x l ih =>
    obtain ⟨j, w⟩ := x
    obtain ⟨hv, hl, hw⟩ := sparseWf_cons.1 h
    simp only [sparseErase]
    split
    · exact ih hw
    · exact sparseWf_cons.2 ⟨hv, fun e he => hl e (mem_sparseErase he), ih hw⟩

theorem sparseInsert_wf {l : List (Nat × α)} {k : Nat} {v : α} (hv : v ≠ d k) (h : sparseWf d l = true) :
    sparseWf d (sparseInsert l k v) = true := by
  induction l with
  | nil => exact sparseWf_cons.2 ⟨hv, by simp, rfl⟩
  | cons x l ih =>
    obtain ⟨j, w⟩ := x
    obtain ⟨hj, hl, hw⟩ := sparseWf_cons.1 h
    simp only [sparseInsert]
    split
    · rename_i hk
      exact sparseWf_cons.2 ⟨hv, fun e he => (List.mem_cons.1 he).elim (fun q => q ▸ hk) (fun q => Nat.lt_trans hk (hl e q)), h⟩
    · rename_i hk
      split
      · rename_i hj'
        exact sparseWf_cons.2 ⟨hv, hj' ▸ hl, hw⟩
      · rename_i hj'
        refine sparseWf_cons.2 ⟨hj, fun e he => ?_, ih hw⟩
        rcases mem_sparseInsert he with rfl | he
        · show j < k
          omega
        · exact hl e he

/-- Writing keeps the canonical form. -/
theorem sparseSet_wf {l : List (Nat × α)} (k : Nat) (v : α) (h : sparseWf d l = true) : sparseWf d (sparseSet d l k v) = true := by
  unfold sparseSet
  split
  · exact sparseErase_wf k h
  · rename_i hv
    exact sparseInsert_wf hv h

/-- Dropping entries keeps the canonical form. -/
theorem sparseFilter_wf {l : List (Nat × α)} (p : Nat × α → Bool) (h : sparseWf d l = true) :
    sparseWf d (l.filter p) = true := by
  induction l with
  | nil => exact h
  | cons x l ih =>
    obtain ⟨j, w⟩ := x
    obtain ⟨hv, hl, hw⟩ := sparseWf_cons.1 h
    rw [List.filter_cons]
    split
    · exact sparseWf_cons.2 ⟨hv, fun e he => hl e (List.mem_filter.1 he).1, ih hw⟩
    · exact ih hw

omit [DecidableEq α] in
theorem sparseGet_erase_same (l : List (Nat × α)) (k : Nat) : sparseGet d (sparseErase l k) k = d k := by
  induction l with
  | nil => rfl
  | cons x l ih =>
    obtain ⟨j, w⟩ := x
    simp only [sparseErase]
    split
    · exact ih
    · rename_i h
      simp [sparseGet, h, ih]

omit [DecidableEq α] in
theorem sparseGet_erase_other (l : List (Nat × α)) {k j : Nat} (hj : j ≠ k) :
    sparseGet d (sparseErase l k) j = sparseGet d l j := by
  induction l with
  | nil => rfl
  | cons x l ih =>
    obtain ⟨i, w⟩ := x
    simp only [sparseErase]
    split
    · rename_i h
      simp [sparseGet, ih, h, Ne.symm hj]
    · simp [sparseGet, ih]

omit [DecidableEq α] in
theorem sparseGet_insert_same (l : List (Nat × α)) (k : Nat) (v : α) : sparseGet d (sparseInsert l k v) k = v := by
  induction l with
  | nil => simp [sparseInsert, sparseGet]
  | cons x l ih =>
    obtain ⟨j, w⟩ := x
    simp only [sparseInsert]
    split
    · simp [sparseGet]
    · split
      · simp [sparseGet]
      · rename_i h
        simp [sparseGet, ih, Ne.symm h]

omit [DecidableEq α] in
theorem sparseGet_insert_other (l : List (Nat × α)) {k j : Nat} (v : α) (hj : j ≠ k) :
    sparseGet d (sparseInsert l k v) j = sparseGet d l j := by
  induction l with
  | nil => simp [sparseInsert, sparseGet, Ne.symm hj]
  | cons x l ih =>
    obtain ⟨i, w⟩ := x
    simp only [sparseInsert]
    split
    · simp [sparseGet, Ne.symm hj]
    · split
      · rename_i h
        simp [sparseGet, ← h, Ne.symm hj]
      · simp [sparseGet, ih]

/-- A read after a write to the same key gives the value written. -/
theorem sparseGet_set_same (l : List (Nat × α)) (k : Nat) (v : α) : sparseGet d (sparseSet d l k v) k = v := by
  unfold sparseSet
  split
  · rename_i h
    rw [sparseGet_erase_same, h]
  · exact sparseGet_insert_same l k v

/-- A write leaves every other key alone. -/
theorem sparseGet_set_other (l : List (Nat × α)) {k j : Nat} (v : α) (hj : j ≠ k) :
    sparseGet d (sparseSet d l k v) j = sparseGet d l j := by
  unfold sparseSet
  split
  · exact sparseGet_erase_other l hj
  · exact sparseGet_insert_other l v hj

/-! ### The byte memories -/

theorem Memory.write_wf {m : Memory} (a : Nat) (b : BitVec 8) (h : Memory.wf m = true) : Memory.wf (Memory.write m a b) = true :=
  sparseSet_wf a b h

theorem Memory.writeBytes_wf {m : Memory} (a : Nat) (bs : Bytes) (h : Memory.wf m = true) :
    Memory.wf (Memory.writeBytes m a bs) = true := by
  induction bs generalizing m a with
  | nil => exact h
  | cons b bs ih => exact ih (a + 1) (Memory.write_wf a b h)

theorem Memory.read_write_same (m : Memory) (a : Nat) (b : BitVec 8) : Memory.read (Memory.write m a b) a = b :=
  sparseGet_set_same m a b

theorem Memory.read_write_other (m : Memory) {a x : Nat} (b : BitVec 8) (hx : x ≠ a) :
    Memory.read (Memory.write m a b) x = Memory.read m x := sparseGet_set_other m b hx

/-- Outside the bytes stored, memory reads as before. -/
theorem Memory.read_writeBytes_outside (m : Memory) (a : Nat) (bs : Bytes) {x : Nat} (hx : x < a ∨ a + bs.length ≤ x) :
    Memory.read (Memory.writeBytes m a bs) x = Memory.read m x := by
  induction bs generalizing m a with
  | nil => rfl
  | cons b bs ih =>
    simp only [List.length_cons] at hx
    rw [Memory.writeBytes, ih _ _ (by omega), Memory.read_write_other _ _ (by omega)]

/-- The bytes stored read back. -/
theorem Memory.read_writeBytes_inside (m : Memory) (a : Nat) (bs : Bytes) {k : Nat} (hk : k < bs.length) :
    Memory.read (Memory.writeBytes m a bs) (a + k) = bs[k] := by
  induction bs generalizing m a k with
  | nil => simp at hk
  | cons b bs ih =>
    cases k with
    | zero =>
      rw [Memory.writeBytes, Memory.read_writeBytes_outside _ _ _ (by omega), Nat.add_zero, Memory.read_write_same]
      rfl
    | succ k =>
      have := ih (Memory.write m a b) (a + 1) (k := k) (by simpa using hk)
      rw [Memory.writeBytes, show a + (k + 1) = a + 1 + k from by omega, this]
      rfl

/-! ### The parameter store -/

theorem Params.set_wf {ps : Params} (pid : Nat) (v : BitVec 32) (h : Params.wf ps = true) : Params.wf (Params.set ps pid v) = true :=
  sparseSet_wf pid v h

theorem Params.filter_wf {ps : Params} (p : Nat × BitVec 32 → Bool) (h : Params.wf ps = true) : Params.wf (ps.filter p) = true :=
  sparseFilter_wf p h

theorem Params.fold_wf {es : List (Nat × BitVec 32)} {ps : Params} (h : Params.wf ps = true) :
    Params.wf (es.foldl (fun ps e => Params.set ps e.1 e.2) ps) = true := by
  induction es generalizing ps with
  | nil => exact h
  | cons e es ih => exact ih (Params.set_wf e.1 e.2 h)

end Sys2Proof.Machine
end

