-- ==== Sys2Proof/Laws/Frame/Ops.lean ====
section
/-! SUPPORT. What the operations of Machine/Ops.lean may change: one lemma for each, whose mask names the fields. -/

set_option Elab.async false

namespace Sys2Proof.Machine

theorem State.setPar_reach {T : Nat} {s₀ s : State} {pid : Nat} {v : BitVec 32} (sub_ : Sub 4 T) (reach_ : Reach T s₀ s) :
    Reach T s₀ (State.setPar s pid v) := by
  unfold State.setPar
  exact Reach.set_params (sub_.sub (by decide)) reach_ (Params.set_wf _ _)

theorem State.modTread_reach {T : Nat} {s₀ s : State} {t : Nat} {f : Tread → Tread} (sub_ : Sub 8192 T)
    (reach_ : Reach T s₀ s) :
    Reach T s₀ (State.modTread s t f) := by
  unfold State.modTread
  exact Reach.set_treads (sub_.sub (by decide)) reach_ (List.length_modify ..)

theorem State.modStorey_reach {T : Nat} {s₀ s : State} {u : Nat} {f : Storey → Storey} (sub_ : Sub 1024 T)
    (reach_ : Reach T s₀
    s) :
    Reach T s₀ (State.modStorey s u f) := by
  unfold State.modStorey
  exact Reach.set_storeys (sub_.sub (by decide)) reach_ (List.length_modify ..)

theorem State.modDie_reach {T : Nat} {s₀ s : State} {d : Nat} {f : Die → Die} (sub_ : Sub 2048 T) (reach_ : Reach T s₀ s) :
    Reach T s₀ (State.modDie s d f) := by
  unfold State.modDie
  exact Reach.set_dies (sub_.sub (by decide)) reach_ (List.length_modify ..)

theorem State.modLimp_reach {T : Nat} {s₀ s : State} {d : Nat} {f : LimpHome → LimpHome} (sub_ : Sub 16 T)
    (reach_ : Reach T s₀
    s) :
    Reach T s₀ (State.modLimp s d f) := by
  unfold State.modLimp
  exact Reach.set_limp (sub_.sub (by decide)) reach_ (List.length_modify ..)

theorem State.modFpower_reach {T : Nat} {s₀ s : State} {k : Nat} {f : FlightPower → FlightPower} (sub_ : Sub 4096 T)
    (reach_ :
    Reach T s₀ s) :
    Reach T s₀ (State.modFpower s k f) := by
  unfold State.modFpower
  exact Reach.set_flightPower (sub_.sub (by decide)) reach_ (List.length_modify ..)

theorem State.modSense_reach {T : Nat} {s₀ s : State} {l : Nat} {f : Sense → Sense} (sub_ : Sub 65536 T)
    (reach_ : Reach T s₀ s) :
    Reach T s₀ (State.modSense s l f) := by
  unfold State.modSense
  exact Reach.set_senses (sub_.sub (by decide)) reach_ (List.length_modify ..)

theorem State.modPort_reach {T : Nat} {s₀ s : State} {p : Nat} {f : Port → Port} (sub_ : Sub 262144 T)
    (reach_ : Reach T s₀ s) :
    Reach T s₀ (State.modPort s p f) := by
  unfold State.modPort
  exact Reach.set_ports (sub_.sub (by decide)) reach_ (List.length_modify ..)

theorem State.modEcho_reach {T : Nat} {s₀ s : State} {k : Nat} {f : Echo → Echo} (sub_ : Sub 524288 T)
    (reach_ : Reach T s₀ s) :
    Reach T s₀ (State.modEcho s k f) := by
  unfold State.modEcho
  exact Reach.set_echos (sub_.sub (by decide)) reach_ (List.length_modify ..)

theorem State.modAxis_reach {T : Nat} {s₀ s : State} {a : Nat} {f : Axis → Axis} (sub_ : Sub 1048576 T)
    (reach_ : Reach T s₀ s) :
    Reach T s₀ (State.modAxis s a f) := by
  unfold State.modAxis
  exact Reach.set_axes (sub_.sub (by decide)) reach_ (List.length_modify ..)

theorem State.modDoor_reach {T : Nat} {s₀ s : State} {k : Nat} {f : Door → Door} (sub_ : Sub 2097152 T)
    (reach_ : Reach T s₀ s) :
    Reach T s₀ (State.modDoor s k f) := by
  unfold State.modDoor
  exact Reach.set_doors (sub_.sub (by decide)) reach_ (List.length_modify ..)

theorem State.modObs_reach {T : Nat} {s₀ s : State} {k : Nat} {f : Obst → Obst} (sub_ : Sub 4194304 T)
    (reach_ : Reach T s₀ s) :
    Reach T s₀ (State.modObs s k f) := by
  unfold State.modObs
  exact Reach.set_obst (sub_.sub (by decide)) reach_ (List.length_modify ..)

theorem State.modConn_reach {T : Nat} {s₀ s : State} {c : Nat} {f : Conn → Conn} (sub_ : Sub 67108864 T)
    (reach_ : Reach T s₀ s) :
    Reach T s₀ (State.modConn s c f) := by
  unfold State.modConn
  exact Reach.set_conns (sub_.sub (by decide)) reach_ (List.length_modify ..)

theorem State.modFsafe_reach {T : Nat} {s₀ s : State} {k : Nat} {f : FlightSafe → FlightSafe} (sub_ : Sub 33554432 T)
    (reach_ :
    Reach T s₀ s) :
    Reach T s₀ (State.modFsafe s k f) := by
  unfold State.modFsafe
  exact Reach.set_safety (sub_.sub (by decide)) reach_ (List.length_modify ..)

theorem State.mapTreads_reach {T : Nat} {s₀ s : State} {f : Nat → Tread → Tread} (sub_ : Sub 8192 T)
    (reach_ : Reach T s₀ s) :
    Reach T s₀ (State.mapTreads s f) := by
  unfold State.mapTreads
  exact Reach.set_treads (sub_.sub (by decide)) reach_ List.length_mapIdx

theorem State.mapStoreys_reach {T : Nat} {s₀ s : State} {f : Nat → Storey → Storey} (sub_ : Sub 1024 T)
    (reach_ : Reach T s₀ s) :
    Reach T s₀ (State.mapStoreys s f) := by
  unfold State.mapStoreys
  exact Reach.set_storeys (sub_.sub (by decide)) reach_ List.length_mapIdx

theorem State.mapDies_reach {T : Nat} {s₀ s : State} {f : Nat → Die → Die} (sub_ : Sub 2048 T) (reach_ : Reach T s₀ s) :
    Reach T s₀ (State.mapDies s f) := by
  unfold State.mapDies
  exact Reach.set_dies (sub_.sub (by decide)) reach_ List.length_mapIdx

theorem State.mapFpower_reach {T : Nat} {s₀ s : State} {f : Nat → FlightPower → FlightPower} (sub_ : Sub 4096 T) (reach_ :
    Reach T s₀ s) :
    Reach T s₀ (State.mapFpower s f) := by
  unfold State.mapFpower
  exact Reach.set_flightPower (sub_.sub (by decide)) reach_ List.length_mapIdx

theorem State.mapLimp_reach {T : Nat} {s₀ s : State} {f : Nat → LimpHome → LimpHome} (sub_ : Sub 16 T)
    (reach_ : Reach T s₀ s) :
    Reach T s₀ (State.mapLimp s f) := by
  unfold State.mapLimp
  exact Reach.set_limp (sub_.sub (by decide)) reach_ List.length_mapIdx

theorem State.mapSenses_reach {T : Nat} {s₀ s : State} {f : Nat → Sense → Sense} (sub_ : Sub 65536 T)
    (reach_ : Reach T s₀ s) :
    Reach T s₀ (State.mapSenses s f) := by
  unfold State.mapSenses
  exact Reach.set_senses (sub_.sub (by decide)) reach_ List.length_mapIdx

theorem State.mapPorts_reach {T : Nat} {s₀ s : State} {f : Nat → Port → Port} (sub_ : Sub 262144 T) (reach_ : Reach T s₀ s) :
    Reach T s₀ (State.mapPorts s f) := by
  unfold State.mapPorts
  exact Reach.set_ports (sub_.sub (by decide)) reach_ List.length_mapIdx

theorem State.mapAxes_reach {T : Nat} {s₀ s : State} {f : Nat → Axis → Axis} (sub_ : Sub 1048576 T) (reach_ : Reach T s₀ s) :
    Reach T s₀ (State.mapAxes s f) := by
  unfold State.mapAxes
  exact Reach.set_axes (sub_.sub (by decide)) reach_ List.length_mapIdx

theorem State.mapDoors_reach {T : Nat} {s₀ s : State} {f : Nat → Door → Door} (sub_ : Sub 2097152 T)
    (reach_ : Reach T s₀ s) :
    Reach T s₀ (State.mapDoors s f) := by
  unfold State.mapDoors
  exact Reach.set_doors (sub_.sub (by decide)) reach_ List.length_mapIdx

theorem State.mapObst_reach {T : Nat} {s₀ s : State} {f : Nat → Obst → Obst} (sub_ : Sub 4194304 T) (reach_ : Reach T s₀ s) :
    Reach T s₀ (State.mapObst s f) := by
  unfold State.mapObst
  exact Reach.set_obst (sub_.sub (by decide)) reach_ List.length_mapIdx

theorem State.mapFsafe_reach {T : Nat} {s₀ s : State} {f : Nat → FlightSafe → FlightSafe} (sub_ : Sub 33554432 T) (reach_ :
    Reach T s₀ s) :
    Reach T s₀ (State.mapFsafe s f) := by
  unfold State.mapFsafe
  exact Reach.set_safety (sub_.sub (by decide)) reach_ List.length_mapIdx

theorem State.mapConns_reach {T : Nat} {s₀ s : State} {f : Nat → Conn → Conn} (sub_ : Sub 67108864 T)
    (reach_ : Reach T s₀ s) :
    Reach T s₀ (State.mapConns s f) := by
  unfold State.mapConns
  exact Reach.set_conns (sub_.sub (by decide)) reach_ List.length_mapIdx

theorem State.modHall_reach {T : Nat} {s₀ s : State} {h : HallId} {f : Hall → Hall} (sub_ : Sub 25165824 T) (reach_ : Reach T
    s₀ s) :
    Reach T s₀ (State.modHall s h f) := by
  unfold State.modHall
  split
  · exact (Reach.set_hallA (sub_.sub (by decide)) reach_)
  · exact (Reach.set_hallB (sub_.sub (by decide)) reach_)

theorem State.recordAs_reach {T : Nat} {s₀ s : State} {e : EvCode} {source : Nat} {args : List (BitVec 32)}
    {flags : BitVec 8}
    (sub_ : Sub 36507222016 T) (reach_ : Reach T s₀ s) :
    Reach T s₀ (State.recordAs s e source args flags) := by
  unfold State.recordAs
  extract_lets +onlyGivenNames -merge -useContext v1 v2
  have grow_ : s.outs <:+ v2 := by
    show _ <:+ (if _ then _ else _)
    split
    · exact List.suffix_cons _ _
    · exact List.suffix_refl _
  exact (Reach.ite (fun _ => (Reach.set_gallery_outs (sub_.sub (by decide)) reach_ (fun k => ⟨k.1, k.2, k.3, k.4⟩))) (fun _ => (Reach.ite (fun _ => (Reach.ite (fun room => (Reach.set_gallery_outs (sub_.sub (by decide)) reach_ (fun k => ⟨k.1, (List.length_append ..).symm ▸ Nat.succ_le_of_lt room, k.3, k.4⟩))) (fun _ => (Reach.set_gallery_outs (sub_.sub (by decide)) reach_ (fun k => ⟨k.1, k.2, k.3, k.4⟩))))) (fun _ => reach_))))

theorem State.record_reach {T : Nat} {s₀ s : State} {e : EvCode} {source : Nat} {args : List (BitVec 32)}
    (sub_ : Sub 36507222016 T) (reach_ : Reach T s₀ s) :
    Reach T s₀ (State.record s e source args) := by
  unfold State.record
  exact State.recordAs_reach (sub_.sub (by decide)) reach_

theorem State.recordLimited_reach {T : Nat} {s₀ s : State} {e : EvCode} {source : Nat} {args : List (BitVec 32)} {p : Nat}
    (sub_ : Sub 36507222016 T) (reach_ : Reach T s₀ s) :
    Reach T s₀ (State.recordLimited s e source args p) := by
  unfold State.recordLimited
  extract_lets +onlyGivenNames -merge -useContext v1
  exact (Reach.ite (fun _ => (by
  extract_lets +onlyGivenNames -merge -useContext u2
  have hu2 : Reach T s₀ u2 := (State.record_reach (sub_.sub (by decide)) reach_)
  clear_value u2
  extract_lets +onlyGivenNames -merge -useContext v3
  exact (Reach.set_gallery (sub_.sub (by decide)) hu2 (fun k => ⟨k.1, k.2, k.3, k.4⟩)))) (fun _ => reach_))

theorem State.recordIf_reach {T : Nat} {s₀ s : State} {c : Bool} {e : EvCode} {source : Nat} {args : List (BitVec 32)}
    (sub_ : Sub 36507222016 T) (reach_ : Reach T s₀ s) :
    Reach T s₀ (State.recordIf s c e source args) := by
  unfold State.recordIf
  exact Reach.ite (fun _ => (State.record_reach (sub_.sub (by decide)) reach_)) (fun _ => reach_)

theorem State.send_reach {T : Nat} {s₀ s : State} {m : OutMsg} (sub_ : Sub 34359738368 T) (reach_ : Reach T s₀ s) :
    Reach T s₀ (State.send s m) := by
  unfold State.send
  exact Reach.set_outs (sub_.sub (by decide)) reach_

theorem State.draw_reach {T : Nat} {s₀ s : State} (sub_ : Sub 68719476736 T) (reach_ : Reach T s₀ s) :
    Reach T s₀ (State.draw s) := by
  unfold State.draw
  exact Reach.set_draws (sub_.sub (by decide)) reach_

theorem onUnit_reach {T : Nat} {s₀ : State} {ok : Bool} {s : State} (sub_ : Sub 0 T) (reach_ : Reach T s₀ s) :
    Within T s₀ (onUnit ok s) := by
  unfold onUnit
  exact (Within.ite (fun _ => (Within.next reach_)) (fun _ => (Within.fault _)))

end Sys2Proof.Machine
end

