-- ==== Sys2Proof/Laws/Frame/TreadOps.lean ====
section
/-! SUPPORT. What the operations of Machine/TreadOps.lean may change: one lemma for each, whose mask names the fields. -/

set_option Elab.async false

namespace Sys2Proof.Machine

theorem State.driveTread_reach {T : Nat} {s₀ s : State} {t : Nat} {m : TMode} {duty : Rat} (sub_ : Sub 8192 T)
    (reach_ : Reach
    T s₀ s) :
    Reach T s₀ (State.driveTread s t m duty) := by
  unfold State.driveTread
  exact State.modTread_reach (sub_.sub (by decide)) reach_

theorem State.driveTreads_reach {T : Nat} {s₀ s : State} {ts : List Nat} {m : TMode} {duty : Rat} (sub_ : Sub 8192 T)
    (reach_ :
    Reach T s₀ s) :
    Reach T s₀ (State.driveTreads s ts m duty) := by
  unfold State.driveTreads
  exact Reach.foldl _ reach_ (fun u1 _ hu1 => (State.driveTread_reach (sub_.sub (by decide)) hu1))

theorem State.treadsOff_reach {T : Nat} {s₀ s : State} {p : Nat → Bool} (sub_ : Sub 8192 T) (reach_ : Reach T s₀ s) :
    Reach T s₀ (State.treadsOff s p) := by
  unfold State.treadsOff
  exact Reach.set_treads (sub_.sub (by decide)) reach_ List.length_mapIdx

theorem State.refreshTreads_reach {T : Nat} {s₀ s : State} (sub_ : Sub 8192 T) (reach_ : Reach T s₀ s) :
    Reach T s₀ (State.refreshTreads s) := by
  unfold State.refreshTreads
  exact Reach.set_treads (sub_.sub (by decide)) reach_ List.length_mapIdx

theorem State.lhDrive_reach {T : Nat} {s₀ s : State} (sub_ : Sub 8192 T) (reach_ : Reach T s₀ s) :
    Reach T s₀ (State.lhDrive s) := by
  unfold State.lhDrive
  exact Reach.set_treads (sub_.sub (by decide)) reach_ List.length_mapIdx

theorem State.treadsBack_reach {T : Nat} {s₀ s : State} (sub_ : Sub 8192 T) (reach_ : Reach T s₀ s) :
    Reach T s₀ (State.treadsBack s) := by
  unfold State.treadsBack
  exact (State.lhDrive_reach (sub_.sub (by decide)) (State.refreshTreads_reach (sub_.sub (by decide)) reach_))

theorem mem_modify_legal {f : Budget → Budget} (hf : ∀ b, b.Legal → (f b).Legal) {l : List Budget} {i : Nat}
    (h : ∀ b ∈ l, b.Legal) :
    ∀ b ∈ l.modify i f, b.Legal := by
  intro b hb
  obtain ⟨k, hk, rfl⟩ := List.getElem_of_mem hb
  rw [List.getElem_modify]
  split
  · exact hf _ (h _ (List.getElem_mem _))
  · exact h _ (List.getElem_mem _)

theorem State.modBudget_reach {T : Nat} {s₀ s : State} {lv : Nat} {f : Budget → Budget} (sub_ : Sub 992 T)
    (reach_ : Reach T s₀ s) (legal_ : ∀ b, b.Legal → (f b).Legal) : Reach T s₀ (State.modBudget s lv f) := by
  unfold State.modBudget
  exact Reach.ite
    (fun _ => Reach.set_flightBudgets (sub_.sub (by decide)) reach_
      (fun k => ⟨by rw [List.length_modify]; exact k.1, mem_modify_legal legal_ k.2⟩))
    (fun _ => Reach.ite
      (fun _ => Reach.set_storeyBudgets (sub_.sub (by decide)) reach_
        (fun k => ⟨by rw [List.length_modify]; exact k.1, mem_modify_legal legal_ k.2⟩))
      (fun _ => Reach.ite
        (fun _ => Reach.set_dieBudgets (sub_.sub (by decide)) reach_
          (fun k => ⟨by rw [List.length_modify]; exact k.1, mem_modify_legal legal_ k.2⟩))
        (fun _ => Reach.ite
          (fun _ => Reach.set_currentBudget (sub_.sub (by decide)) reach_ (legal_ _))
          (fun _ => Reach.set_thermalBudget (sub_.sub (by decide)) reach_ (legal_ _)))))

theorem State.freshScales_reach {T : Nat} {s₀ s : State} (sub_ : Sub 992 T) (reach_ : Reach T s₀ s) :
    Reach T s₀ (State.freshScales s) := by
  unfold State.freshScales
  exact Reach.forEach _ reach_ (fun _ _ hu => State.modBudget_reach (sub_.sub (by decide)) hu (fun _ _ => ⟨by show 4 ≤ 16; omega, by show 16 ≤ 16; omega⟩))

theorem State.clearStops_reach {T : Nat} {s₀ s : State} {lvs : List Nat} (sub_ : Sub 992 T) (reach_ : Reach T s₀ s) :
    Reach T s₀ (State.clearStops s lvs).2 := by
  unfold State.clearStops
  extract_lets +onlyGivenNames -merge -useContext v1
  exact (Reach.ite2 (fun _ => (Reach.mk2 reach_)) (fun _ => (Reach.mk2 (Reach.foldl _ reach_ (fun u2 _ hu2 => (State.modBudget_reach (sub_.sub (by decide)) hu2 (fun _ k => k)))))))

end Sys2Proof.Machine
end

