-- ==== Sys2Proof/Laws/Frame/AxisOps.lean ====
section
/-! SUPPORT. What the operations of Machine/AxisOps.lean may change: one lemma for each, whose mask names the fields. -/

set_option Elab.async false

namespace Sys2Proof.Machine

theorem State.setUncertain_reach {T : Nat} {s₀ s : State} {a : Nat} (sub_ : Sub 36508270592 T) (reach_ : Reach T s₀ s) :
    Reach T s₀ (State.setUncertain s a) := by
  unfold State.setUncertain
  exact Reach.ite (fun _ => reach_) (fun _ => (State.record_reach (sub_.sub (by decide)) (State.modAxis_reach (sub_.sub (by decide)) reach_)))

theorem State.reactTreads_reach {T : Nat} {s₀ s : State} {a : Nat} {hold : Bool} (sub_ : Sub 8192 T)
    (reach_ : Reach T s₀ s) :
    Reach T s₀ (State.reactTreads s a hold) := by
  unfold State.reactTreads
  exact (State.driveTreads_reach (sub_.sub (by decide)) reach_)

theorem State.redrive_reach {T : Nat} {s₀ s : State} {a : Nat} (sub_ : Sub 8192 T) (reach_ : Reach T s₀ s) :
    Reach T s₀ (State.redrive s a) := by
  unfold State.redrive
  extract_lets +onlyGivenNames -merge -useContext v1
  extract_lets +onlyGivenNames -merge -useContext v2
  split
  · exact (Reach.ite (fun _ => (State.driveTreads_reach (sub_.sub (by decide)) reach_)) (fun _ => reach_))
  · exact (Reach.ite (fun _ => (State.reactTreads_reach (sub_.sub (by decide)) reach_)) (fun _ => reach_))
  · exact (Reach.ite (fun _ => (State.driveTreads_reach (sub_.sub (by decide)) reach_)) (fun _ => reach_))
  · exact reach_

theorem State.faultStop_reach {T : Nat} {s₀ s : State} {a : Nat} {cs : List Nat} (sub_ : Sub 36508278784 T)
    (reach_ : Reach T s₀ s) :
    Reach T s₀ (State.faultStop s a cs) := by
  unfold State.faultStop
  split
  · exact reach_
  · extract_lets +onlyGivenNames -merge -useContext v1
    exact (Reach.ite (fun _ => reach_) (fun _ => (Reach.ite (fun _ => (Reach.ite (fun _ => (State.reactTreads_reach (sub_.sub (by decide)) (State.modAxis_reach (sub_.sub (by decide)) reach_))) (fun _ => reach_))) (fun _ => (by
      extract_lets +onlyGivenNames -merge -useContext v2
      extract_lets +onlyGivenNames -merge -useContext v3
      have hv3 : Reach T s₀ v3 := (State.modAxis_reach (sub_.sub (by decide)) reach_)
      clear_value v3
      extract_lets +onlyGivenNames -merge -useContext v4
      have hv4 : Reach T s₀ v4 := (State.reactTreads_reach (sub_.sub (by decide)) hv3)
      clear_value v4
      extract_lets +onlyGivenNames -merge -useContext v5
      have hv5 : Reach T s₀ v5 := (Reach.ite (fun _ => (State.setUncertain_reach (sub_.sub (by decide)) hv4)) (fun _ => hv4))
      clear_value v5
      exact (State.record_reach (sub_.sub (by decide)) hv5))))))

theorem State.faultStopAll_reach {T : Nat} {s₀ s : State} {p : Nat → Bool} {cause : Nat} (sub_ : Sub 36508278784 T) (reach_ :
    Reach T s₀ s) :
    Reach T s₀ (State.faultStopAll s p cause) := by
  unfold State.faultStopAll
  exact Reach.forEach _ reach_ (fun u1 _ hu1 => (Reach.ite (fun _ => (State.faultStop_reach (sub_.sub (by decide)) hu1)) (fun _ => hu1)))

theorem State.axisIdle_reach {T : Nat} {s₀ s : State} {a : Nat} (sub_ : Sub 1048576 T) (reach_ : Reach T s₀ s) :
    Reach T s₀ (State.axisIdle s a) := by
  unfold State.axisIdle
  exact State.modAxis_reach (sub_.sub (by decide)) reach_

theorem State.causeStops_reach {T : Nat} {s₀ s : State} (sub_ : Sub 36508278784 T) (reach_ : Reach T s₀ s) :
    Reach T s₀ (State.causeStops s) := by
  unfold State.causeStops
  exact Reach.forEach _ reach_ (fun u1 _ hu1 => (State.faultStop_reach (sub_.sub (by decide)) hu1))

theorem State.causeStopsFrom_reach {T : Nat} {s₀ s old : State} (sub_ : Sub 36508278784 T) (reach_ : Reach T s₀ s) :
    Reach T s₀ (State.causeStopsFrom s old) := by
  unfold State.causeStopsFrom
  exact Reach.forEach _ reach_ (fun u1 _ hu1 => (State.faultStop_reach (sub_.sub (by decide)) hu1))

theorem State.axesIdle_reach {T : Nat} {s₀ s : State} {p : Nat → Bool} (sub_ : Sub 1048576 T) (reach_ : Reach T s₀ s) :
    Reach T s₀ (State.axesIdle s p) := by
  unfold State.axesIdle
  exact (Reach.forEach _ reach_ (fun u1 _ hu3 => (Reach.ite (fun _ => (State.modAxis_reach (sub_.sub (by decide)) (State.axisIdle_reach (sub_.sub (by decide)) hu3))) (fun _ => hu3))))

theorem State.engage_reach {T : Nat} {s₀ s : State} {a src master : Nat} {ratio : Rat} {blend : Nat}
    {entries : List GearEntry}
    (sub_ : Sub 1048576 T) (reach_ : Reach T s₀ s) :
    Reach T s₀ (State.engage s a src master ratio blend entries) := by
  unfold State.engage
  exact State.modAxis_reach (sub_.sub (by decide)) reach_

theorem State.energise_reach {T : Nat} {s₀ s : State} {a : Nat} (sub_ : Sub 1056768 T) (reach_ : Reach T s₀ s) :
    Reach T s₀ (State.energise s a) := by
  unfold State.energise
  extract_lets +onlyGivenNames -merge -useContext v1
  extract_lets +onlyGivenNames -merge -useContext v2
  extract_lets +onlyGivenNames -merge -useContext v3
  extract_lets +onlyGivenNames -merge -useContext v4
  have hv4 : Reach T s₀ v4 := (State.modAxis_reach (sub_.sub (by decide)) reach_)
  clear_value v4
  exact (State.driveTreads_reach (sub_.sub (by decide)) hv4)

theorem State.queueMove_reach {T : Nat} {s₀ s : State} {a : Nat} {m : Move} {append : Bool} (sub_ : Sub 36508278784 T)
    (reach_
    : Reach T s₀ s) :
    Reach T s₀ (State.queueMove s a m append) := by
  unfold State.queueMove
  extract_lets +onlyGivenNames -merge -useContext v1
  extract_lets +onlyGivenNames -merge -useContext v2
  extract_lets +onlyGivenNames -merge -useContext u3
  have hu3 : Reach T s₀ u3 := (State.modAxis_reach (sub_.sub (by decide)) reach_)
  clear_value u3
  extract_lets +onlyGivenNames -merge -useContext u4
  have hu4 : Reach T s₀ u4 := (Reach.ite (fun _ => hu3) (fun _ => (State.modAxis_reach (sub_.sub (by decide)) hu3)))
  clear_value u4
  extract_lets +onlyGivenNames -merge -useContext u5
  have hu5 : Reach T s₀ u5 := (Reach.ite (fun _ => hu4) (fun _ => (State.energise_reach (sub_.sub (by decide)) hu4)))
  clear_value u5
  exact (State.recordIf_reach (sub_.sub (by decide)) hu5)

theorem State.toIdle_reach {T : Nat} {s₀ s : State} {a : Nat} (sub_ : Sub 1056768 T) (reach_ : Reach T s₀ s) :
    Reach T s₀ (State.toIdle s a) := by
  unfold State.toIdle
  extract_lets +onlyGivenNames -merge -useContext v1
  have hv1 : Reach T s₀ v1 := (State.axisIdle_reach (sub_.sub (by decide)) reach_)
  clear_value v1
  exact (State.driveTreads_reach (sub_.sub (by decide)) hv1)

theorem State.brakeAxis_reach {T : Nat} {s₀ s : State} {a : Nat} {k : StopKind} (sub_ : Sub 1056768 T)
    (reach_ : Reach T s₀ s) :
    Reach T s₀ (State.brakeAxis s a k) := by
  unfold State.brakeAxis
  extract_lets +onlyGivenNames -merge -useContext v1
  exact (Reach.ite (fun _ => (Reach.ite (fun _ => (State.toIdle_reach (sub_.sub (by decide)) reach_)) (fun _ => reach_))) (fun _ => (by
    split
    · exact (Reach.ite (fun _ => reach_) (fun _ => (by
        extract_lets +onlyGivenNames -merge -useContext v2
        extract_lets +onlyGivenNames -merge -useContext v3
        extract_lets +onlyGivenNames -merge -useContext v4
        exact (State.modAxis_reach (sub_.sub (by decide)) reach_))))
    · exact (Reach.ite (fun _ => reach_) (fun _ => (by
        extract_lets +onlyGivenNames -merge -useContext v5
        extract_lets +onlyGivenNames -merge -useContext v6
        extract_lets +onlyGivenNames -merge -useContext v7
        exact (State.modAxis_reach (sub_.sub (by decide)) reach_))))
    · exact (State.modAxis_reach (sub_.sub (by decide)) reach_)
    · exact reach_)))

theorem State.energizeSol_reach {T : Nat} {s₀ s : State} {a : Nat} (sub_ : Sub 1056768 T) (reach_ : Reach T s₀ s) :
    Reach T s₀ (State.energizeSol s a) := by
  unfold State.energizeSol
  exact Reach.ite (fun _ => reach_) (fun _ => (by
    extract_lets +onlyGivenNames -merge -useContext u1
    have hu1 : Reach T s₀ u1 := (State.modAxis_reach (sub_.sub (by decide)) reach_)
    clear_value u1
    exact (State.driveTreads_reach (sub_.sub (by decide)) hu1)))

theorem State.accepted_reach {T : Nat} {s₀ s : State} {a : Nat} (sub_ : Sub 1048576 T) (reach_ : Reach T s₀ s) :
    Reach T s₀ (State.accepted s a) := by
  unfold State.accepted
  exact State.modAxis_reach (sub_.sub (by decide)) reach_

theorem State.axisCommand_reach {T : Nat} {s₀ s : State} {a : Nat} {owned sv : Bool} {c : AxCmd} (sub_ : Sub 36508278784 T)
    (reach_ : Reach T s₀ s) :
    Reach T s₀ (State.axisCommand s a owned sv c).2 := by
  unfold State.axisCommand
  exact (Reach.ite2 (fun _ => (Reach.mk2 reach_)) (fun _ => (Reach.ite2 (fun _ => (Reach.mk2 reach_)) (fun _ => (Reach.ite2 (fun _ => (Reach.mk2 reach_)) (fun _ => (by
    split
    · exact (Reach.mk2 (State.accepted_reach (sub_.sub (by decide)) (State.brakeAxis_reach (sub_.sub (by decide)) reach_)))
    · exact (Reach.mk2 (State.accepted_reach (sub_.sub (by decide)) (State.brakeAxis_reach (sub_.sub (by decide)) reach_)))
    · exact (Reach.mk2 (Reach.ite (fun _ => (State.toIdle_reach (sub_.sub (by decide)) reach_)) (fun _ => reach_)))
    · exact (Reach.mk2 (State.accepted_reach (sub_.sub (by decide)) (Reach.ite (fun _ => (State.toIdle_reach (sub_.sub (by decide)) reach_)) (fun _ => reach_))))
    · exact (Reach.mk2 (State.energizeSol_reach (sub_.sub (by decide)) reach_))
    · exact (Reach.mk2 (State.accepted_reach (sub_.sub (by decide)) (Reach.ite (fun _ => (State.brakeAxis_reach (sub_.sub (by decide)) reach_)) (fun _ => reach_))))
    · exact (Reach.mk2 (State.energise_reach (sub_.sub (by decide)) (State.engage_reach (sub_.sub (by decide)) reach_)))
    · extract_lets +onlyGivenNames -merge -useContext v1
      have hv1 : Reach T s₀ v1 := (State.engage_reach (sub_.sub (by decide)) reach_)
      clear_value v1
      exact (Reach.mk2 (State.energise_reach (sub_.sub (by decide)) hv1))
    · extract_lets +onlyGivenNames -merge -useContext v2
      have hv2 : Reach T s₀ v2 := (State.driveTreads_reach (sub_.sub (by decide)) reach_)
      clear_value v2
      exact (Reach.mk2 (State.modAxis_reach (sub_.sub (by decide)) hv2))
    · split
      · exact (Reach.mk2 reach_)
      · exact (Reach.ite2 (fun _ => (Reach.mk2 reach_)) (fun _ => (Reach.ite2 (fun _ => (Reach.mk2 reach_)) (fun _ => (Reach.mk2 (State.queueMove_reach (sub_.sub (by decide)) reach_)))))))))))))

theorem State.post_reach {T : Nat} {s₀ s : State} {a : Nat} {c : AxCmd} {who : AxFrom} (sub_ : Sub 1048576 T)
    (reach_ : Reach T s₀ s) :
    Reach T s₀ (State.post s a c who) := by
  unfold State.post
  exact (State.modAxis_reach (sub_.sub (by decide)) reach_)

theorem State.seqCmd_reach {T : Nat} {s₀ s : State} {a : Nat} {c : AxCmd} (sub_ : Sub 1048576 T) (reach_ : Reach T s₀ s) :
    Reach T s₀ (State.seqCmd s a c) := by
  unfold State.seqCmd
  exact (State.post_reach (sub_.sub (by decide)) reach_)

theorem State.lateStop_reach {T : Nat} {s₀ s : State} {a : Nat} (sub_ : Sub 36508278784 T) (reach_ : Reach T s₀ s) :
    Reach T s₀ (State.lateStop s a) := by
  unfold State.lateStop
  extract_lets +onlyGivenNames -merge -useContext v1
  extract_lets +onlyGivenNames -merge -useContext v2
  extract_lets +onlyGivenNames -merge -useContext v3
  extract_lets +onlyGivenNames -merge -useContext v4
  extract_lets +onlyGivenNames -merge -useContext v5
  extract_lets +onlyGivenNames -merge -useContext v6
  have hv6 : Reach T s₀ v6 := (State.recordIf_reach (sub_.sub (by decide)) reach_)
  clear_value v6
  extract_lets +onlyGivenNames -merge -useContext v7
  have hv7 : Reach T s₀ v7 := (State.recordIf_reach (sub_.sub (by decide)) hv6)
  clear_value v7
  extract_lets +onlyGivenNames -merge -useContext v8
  have hv8 : Reach T s₀ v8 := (State.recordIf_reach (sub_.sub (by decide)) hv7)
  clear_value v8
  extract_lets +onlyGivenNames -merge -useContext v9
  have hv9 : Reach T s₀ v9 := (State.recordIf_reach (sub_.sub (by decide)) hv8)
  clear_value v9
  extract_lets +onlyGivenNames -merge -useContext v10
  have hv10 : Reach T s₀ v10 := (State.faultStop_reach (sub_.sub (by decide)) hv9)
  clear_value v10
  exact (State.modAxis_reach (sub_.sub (by decide)) hv10)

end Sys2Proof.Machine
end

