-- ==== Sys2Proof/Laws/Frame/NetOps.lean ====
section
/-! SUPPORT. What the operations of Machine/NetOps.lean may change: one lemma for each, whose mask names the fields. -/

set_option Elab.async false

namespace Sys2Proof.Machine

theorem State.sendFrame_reach {T : Nat} {s₀ s : State} {frame : Bytes} (sub_ : Sub 34359738368 T) (reach_ : Reach T s₀ s) :
    Reach T s₀ (State.sendFrame s frame) := by
  unfold State.sendFrame
  exact (State.send_reach (sub_.sub (by decide)) reach_)

theorem State.sendUdp_reach {T : Nat} {s₀ s : State} {dest : BitVec 32} {sport dport dscp : Nat} {data : Bytes}
    (sub_ : Sub 34359738368 T) (reach_ : Reach T s₀ s) :
    Reach T s₀ (State.sendUdp s dest sport dport dscp data) := by
  unfold State.sendUdp
  exact (Reach.foldl _ reach_ (fun u1 _ hu3 => (State.sendFrame_reach (sub_.sub (by decide)) hu3)))

end Sys2Proof.Machine
end

