-- ==== Sys2Proof/Laws/Frame/Session.lean ====
section
/-! SUPPORT. What the operations of Machine/Session.lean may change: one lemma for each, whose mask names the fields. -/

set_option Elab.async false

namespace Sys2Proof.Machine

/-- A packet's passing of the checks stays within the mask, settled or served. -/
def Admit.Ok (T : Nat) (s : State) : Admit → Prop
  | .settled t => Reach T s t
  | .served t _ _ _ => Reach T s t

theorem Admit.Ok.ite {T : Nat} {s : State} {a b : Admit} {c : Prop} [Decidable c] (ha : c → a.Ok T s) (hb : ¬c → b.Ok T s) :
    (if c then a else b).Ok T s := by
  by_cases k : c
  · rw [if_pos k]; exact ha k
  · rw [if_neg k]; exact hb k

theorem Reach.vet {T : Nat} {s : State} {a : Admit} {f : State → State} {g : State → Pend → Nat → Option Session → State}
    (h : a.Ok T s) (hf : ∀ t, Reach T s t → Reach T s (f t)) (hg : ∀ t p r x, Reach T s t → Reach T s (g t p r x)) :
    Reach T s (match (generalizing := false) a with | .settled t => f t | .served t p r x => g t p r x) := by
  cases a with
  | settled t => exact hf t h
  | served t p r x => exact hg t p r x h

theorem Within.vet {T : Nat} {s : State} {a : Admit} {f : State → Host.Outcome State Fault Refusal}
    {g : State → Pend → Nat → Option Session → Host.Outcome State Fault Refusal} (h : a.Ok T s)
    (hf : ∀ t, Reach T s t → Within T s (f t)) (hg : ∀ t p r x, Reach T s t → Within T s (g t p r x)) :
    Within T s (match (generalizing := false) a with | .settled t => f t | .served t p r x => g t p r x) := by
  cases a with
  | settled t => exact hf t h
  | served t p r x => exact hg t p r x h

theorem State.modSession_reach {T : Nat} {s₀ s : State} {num : BitVec 16} {f : Session → Session} (sub_ : Sub 4294967296 T)
    (reach_ : Reach T s₀ s) :
    Reach T s₀ (State.modSession s num f) := by
  unfold State.modSession
  exact Reach.set_host (sub_.sub (by decide)) reach_

theorem State.sendReply_reach {T : Nat} {s₀ s : State} {r : Reply} (sub_ : Sub 34359738368 T) (reach_ : Reach T s₀ s) :
    Reach T s₀ (State.sendReply s r) := by
  unfold State.sendReply
  extract_lets +onlyGivenNames -merge -useContext v1
  have hv1 : Reach T s₀ v1 := (Reach.ite (fun _ => (State.send_reach (sub_.sub (by decide)) reach_)) (fun _ => (State.sendUdp_reach (sub_.sub (by decide)) reach_)))
  clear_value v1
  exact (State.send_reach (sub_.sub (by decide)) hv1)

theorem State.replyRaw_reach {T : Nat} {s₀ s : State} {p : Pend} {key : Option Bytes} {status item : Nat} {payload : Bytes}
    (sub_ : Sub 34359738368 T) (reach_ : Reach T s₀ s) :
    Reach T s₀ (State.replyRaw s p key status item payload) := by
  unfold State.replyRaw
  exact (State.sendReply_reach (sub_.sub (by decide)) reach_)

theorem State.answer_reach {T : Nat} {s₀ s : State} {p : Pend} {status item : Nat} {payload : Bytes}
    (sub_ : Sub 38654705664 T) (reach_ : Reach T s₀ s) :
    Reach T s₀ (State.answer s p status item payload) := by
  unfold State.answer
  extract_lets +onlyGivenNames -merge -useContext v1
  extract_lets +onlyGivenNames -merge -useContext v2
  have hv2 : Reach T s₀ v2 := (Reach.set_host (sub_.sub (by decide)) reach_)
  clear_value v2
  exact (Reach.ite (fun _ => hv2) (fun _ => (Reach.ite (fun _ => (State.replyRaw_reach (sub_.sub (by decide)) hv2)) (fun _ => (by
    split
    · exact hv2
    · exact (Reach.ite (fun _ => hv2) (fun _ => (by
        extract_lets +onlyGivenNames -merge -useContext v3
        exact (State.sendReply_reach (sub_.sub (by decide)) (State.modSession_reach (sub_.sub (by decide)) hv2))))))))))

theorem State.answerExclusive_reach {T : Nat} {s₀ s : State} {status item : Nat} {payload : Bytes} (sub_ : Sub 38654705664 T)
    (reach_ : Reach T s₀ s) :
    Reach T s₀ (State.answerExclusive s status item payload) := by
  unfold State.answerExclusive
  split
  · exact reach_
  · exact (State.answer_reach (sub_.sub (by decide)) (Reach.set_host (sub_.sub (by decide)) reach_))

theorem State.answerSeq_reach {T : Nat} {s₀ s : State} {session seq : BitVec 16} {status item : Nat} {payload : Bytes}
    (sub_ : Sub 38654705664 T) (reach_ : Reach T s₀ s) :
    Reach T s₀ (State.answerSeq s session seq status item payload) := by
  unfold State.answerSeq
  split
  · exact reach_
  · exact (State.answer_reach (sub_.sub (by decide)) reach_)

theorem State.dropAxes_reach {T : Nat} {s₀ s : State} {num : BitVec 16} (sub_ : Sub 4296015872 T) (reach_ : Reach T s₀ s) :
    Reach T s₀ (State.dropAxes s num) := by
  unfold State.dropAxes
  extract_lets +onlyGivenNames -merge -useContext v1
  have hv1 : Reach T s₀ v1 := (Reach.forEach _ reach_ (fun u2 _ hu4 => (by
    extract_lets +onlyGivenNames -merge -useContext v5
    extract_lets +onlyGivenNames -merge -useContext v6
    have hv6 : Reach T s₀ v6 := (State.modAxis_reach (sub_.sub (by decide)) hu4)
    clear_value v6
    exact (Reach.ite (fun _ => (State.seqCmd_reach (sub_.sub (by decide)) hv6)) (fun _ => hv6)))))
  clear_value v1
  exact (Reach.set_host (sub_.sub (by decide)) hv1)

theorem State.dropDoors_reach {T : Nat} {s₀ s : State} {num : BitVec 16} (sub_ : Sub 2097152 T) (reach_ : Reach T s₀ s) :
    Reach T s₀ (State.dropDoors s num) := by
  unfold State.dropDoors
  extract_lets +onlyGivenNames -merge -useContext v1
  exact (Reach.forEach _ reach_ (fun u2 _ hu4 => (State.modDoor_reach (sub_.sub (by decide)) hu4)))

theorem State.closeSession_reach {T : Nat} {s₀ s : State} {num : BitVec 16} {cause : Nat} (sub_ : Sub 57985204224 T)
    (reach_ : Reach T s₀ s) :
    Reach T s₀ (State.closeSession s num cause) := by
  unfold State.closeSession
  split
  · exact reach_
  · extract_lets +onlyGivenNames -merge -useContext v1
    have hv1 : Reach T s₀ v1 := (State.dropDoors_reach (sub_.sub (by decide)) (State.dropAxes_reach (sub_.sub (by decide)) reach_))
    clear_value v1
    extract_lets +onlyGivenNames -merge -useContext v2
    extract_lets +onlyGivenNames -merge -useContext v3
    extract_lets +onlyGivenNames -merge -useContext v4
    have hv4 : Reach T s₀ v4 := (Reach.set_host_sec (sub_.sub (by decide)) hv1)
    clear_value v4
    exact (State.record_reach (sub_.sub (by decide)) hv4)

theorem State.countFail_reach {T : Nat} {s₀ s : State} {sv : Bool} (sub_ : Sub 40802189312 T) (reach_ : Reach T s₀ s) :
    Reach T s₀ (State.countFail s sv) := by
  unfold State.countFail
  extract_lets +onlyGivenNames -merge -useContext v1
  extract_lets +onlyGivenNames -merge -useContext v2
  extract_lets +onlyGivenNames -merge -useContext v3
  extract_lets +onlyGivenNames -merge -useContext v4
  extract_lets +onlyGivenNames -merge -useContext v5
  have hv5 : Reach T s₀ v5 := (Reach.set_host (sub_.sub (by decide)) reach_)
  clear_value v5
  exact (State.recordIf_reach (sub_.sub (by decide)) hv5)

theorem State.failIn_reach {T : Nat} {s₀ s : State} {x : Session} (sub_ : Sub 57985204224 T) (reach_ : Reach T s₀ s) :
    Reach T s₀ (State.failIn s x) := by
  unfold State.failIn
  extract_lets +onlyGivenNames -merge -useContext v1
  have hv1 : Reach T s₀ v1 := (State.modSession_reach (sub_.sub (by decide)) (State.countFail_reach (sub_.sub (by decide)) reach_))
  clear_value v1
  exact (Reach.ite (fun _ => (State.closeSession_reach (sub_.sub (by decide)) hv1)) (fun _ => hv1))

theorem State.authFailed_reach {T : Nat} {s₀ s : State} {x : Session} (sub_ : Sub 57985204224 T) (reach_ : Reach T s₀ s) :
    Reach T s₀ (State.authFailed s x) := by
  unfold State.authFailed
  extract_lets +onlyGivenNames -merge -useContext v1
  extract_lets +onlyGivenNames -merge -useContext v2
  have hv2 : Reach T s₀ v2 := (Reach.set_host (sub_.sub (by decide)) reach_)
  clear_value v2
  exact (State.failIn_reach (sub_.sub (by decide)) (State.recordLimited_reach (sub_.sub (by decide)) hv2))

theorem State.admitLate_ok {T : Nat} {s₀ s : State} {o : OpSpec} {k : Pkt} {p : Pend} {role : Nat} {x : Option Session}
    (sub_ : Sub 38654705664 T) (reach_ : Reach T s₀ s) : (s.admitLate o k p role x).Ok T s₀ := by
  have settled {st : Nat} : Reach T s₀ (s.answer p st 0 []) := State.answer_reach (sub_.sub (by decide)) reach_
  unfold State.admitLate
  refine Admit.Ok.ite (fun _ => settled) (fun _ => Admit.Ok.ite (fun _ => settled) (fun _ => Admit.Ok.ite (fun _ => settled)
    (fun _ => Admit.Ok.ite (fun _ => settled) (fun _ => Admit.Ok.ite (fun _ => ?_) (fun _ => reach_)))))
  refine Admit.Ok.ite (fun _ => settled) (fun _ => ?_)
  exact Reach.set_host (t := s) (sub_.sub (by decide)) reach_

theorem State.admitSeq_ok {T : Nat} {s₀ s : State} {o : OpSpec} {k : Pkt} {p : Pend} {x : Session}
    (sub_ : Sub 38654705664 T) (reach_ : Reach T s₀ s) : (s.admitSeq o k p x).Ok T s₀ := by
  unfold State.admitSeq
  dsimp only
  split
  · refine Admit.Ok.ite (fun _ => State.replyRaw_reach (sub_.sub (by decide)) reach_) (fun _ => ?_)
    split
    · exact State.sendReply_reach (sub_.sub (by decide)) reach_
    · exact State.replyRaw_reach (sub_.sub (by decide)) reach_
  · exact Admit.Ok.ite
      (fun _ => State.admitLate_ok (sub_.sub (by decide)) (State.modSession_reach (sub_.sub (by decide)) reach_))
      (fun _ => State.replyRaw_reach (sub_.sub (by decide)) reach_)

theorem State.vet_ok {T : Nat} {s₀ s : State} {o : OpSpec} {k : Pkt} (sub_ : Sub 57985204224 T) (reach_ : Reach T s₀ s) :
    (s.vet o k).Ok T s₀ := by
  have raw {q : Pend} {st : Nat} : Reach T s₀ (s.replyRaw q none st 0 []) := State.replyRaw_reach (sub_.sub (by decide)) reach_
  unfold State.vet
  dsimp only
  refine Admit.Ok.ite (fun _ => reach_) (fun _ => Admit.Ok.ite (fun _ => Reach.set_host (t := s) (sub_.sub (by decide)) reach_)
    (fun _ => Admit.Ok.ite
      (fun _ => Admit.Ok.ite (fun _ => raw) (fun _ => Admit.Ok.ite (fun _ => raw)
        (fun _ => State.admitLate_ok (sub_.sub (by decide)) reach_)))
      (fun _ => ?_)))
  split
  · exact raw
  · refine Admit.Ok.ite (fun _ => raw) (fun _ => ?_)
    split
    · exact raw
    · exact raw
    · exact Admit.Ok.ite
        (fun _ => State.admitSeq_ok (sub_.sub (by decide)) (State.modSession_reach (sub_.sub (by decide)) reach_))
        (fun _ => State.authFailed_reach (sub_.sub (by decide)) raw)
    · exact State.admitSeq_ok (sub_.sub (by decide)) reach_

end Sys2Proof.Machine
end

