-- ==== Sys2Proof/Laws/Frame/Attestation.lean ====
section
/-! SUPPORT. What the operations of Machine/Attestation.lean may change: one lemma for each, whose mask names the fields. -/

set_option Elab.async false

namespace Sys2Proof.Machine

theorem State.challenge_reach {T : Nat} {s₀ s : State} {p : Pend} {nonce : Bytes} (sub_ : Sub 55834574848 T)
    (reach_ : Reach T
    s₀ s) :
    Reach T s₀ (State.challenge s p nonce) := by
  unfold State.challenge
  exact Reach.ite (fun _ => (State.answer_reach (sub_.sub (by decide)) reach_)) (fun _ => (Reach.set_sec (sub_.sub (by decide)) reach_))

theorem State.continueReport_reach {T : Nat} {s₀ s : State} {p : Pend} {ofs : Nat} (sub_ : Sub 38654705664 T)
    (reach_ : Reach T
    s₀ s) :
    Reach T s₀ (State.continueReport s p ofs) := by
  unfold State.continueReport
  exact Reach.ite (fun _ => (State.answer_reach (sub_.sub (by decide)) reach_)) (fun _ => (by
    split
    · exact (Reach.ite (fun _ => (State.answer_reach (sub_.sub (by decide)) reach_)) (fun _ => (State.answer_reach (sub_.sub (by decide)) reach_)))
    · exact (State.answer_reach (sub_.sub (by decide)) reach_)))

theorem State.attest_reach {T : Nat} {s₀ s : State} {k : Pkt} (sub_ : Sub 57985204224 T) (reach_ : Reach T s₀ s) :
    Reach T s₀ (State.attest s k) := by
  unfold State.attest
  extract_lets +onlyGivenNames -merge -useContext v1
  exact (Reach.vet (State.vet_ok (sub_.sub (by decide)) reach_) (fun u2 hu2 => hu2) (fun u2 _ _ _ hu2 => (Reach.ite (fun _ => (State.continueReport_reach (sub_.sub (by decide)) hu2)) (fun _ => (State.challenge_reach (sub_.sub (by decide)) hu2)))))

theorem execAttestChallenge_reach {T : Nat} {s₀ s : State} {k : Pkt} (sub_ : Sub 57985204224 T) (reach_ : Reach T s₀ s) :
    Within T s₀ (execAttestChallenge k s) := by
  unfold execAttestChallenge
  exact Within.next (State.attest_reach (sub_.sub (by decide)) reach_)

theorem execAttestContinuation_reach {T : Nat} {s₀ s : State} {k : Pkt} (sub_ : Sub 57985204224 T) (reach_ : Reach T s₀ s) :
    Within T s₀ (execAttestContinuation k s) := by
  unfold execAttestContinuation
  exact Within.next (State.attest_reach (sub_.sub (by decide)) reach_)

theorem execAttestSigned_reach {T : Nat} {s₀ s : State} (sub_ : Sub 55834574848 T) (reach_ : Reach T s₀ s) :
    Within T s₀ (execAttestSigned s) := by
  unfold execAttestSigned
  split
  · exact (Within.next reach_)
  · exact (Within.ite (fun _ => (Within.next reach_)) (fun _ => (by
      extract_lets +onlyGivenNames -merge -useContext v1
      extract_lets +onlyGivenNames -merge -useContext v2
      extract_lets +onlyGivenNames -merge -useContext w_ u3
      have hu3 : Reach T s₀ u3 := (Reach.set_sec (sub_.sub (by decide)) reach_)
      clear_value u3
      exact (Within.next (State.answer_reach (sub_.sub (by decide)) hu3)))))

theorem execCertRead_reach {T : Nat} {s₀ s : State} {k : Pkt} (sub_ : Sub 57985204224 T) (reach_ : Reach T s₀ s) :
    Within T s₀ (execCertRead k s) := by
  unfold execCertRead
  exact Within.vet (State.vet_ok (sub_.sub (by decide)) reach_) (fun u1 hu1 => (Within.next hu1)) (fun u1 _ _ _ hu1 => (by
    extract_lets +onlyGivenNames -merge -useContext v2
    extract_lets +onlyGivenNames -merge -useContext v3
    exact (Within.ite (fun _ => (Within.next (State.answer_reach (sub_.sub (by decide)) hu1))) (fun _ => (Within.ite (fun _ => (Within.next (State.answer_reach (sub_.sub (by decide)) hu1))) (fun _ => (Within.next (State.answer_reach (sub_.sub (by decide)) hu1))))))))

theorem execHostKeySet_reach {T : Nat} {s₀ s : State} {k : Pkt} (sub_ : Sub 57985204224 T) (reach_ : Reach T s₀ s) :
    Within T s₀ (execHostKeySet k s) := by
  unfold execHostKeySet
  extract_lets +onlyGivenNames -merge -useContext v1
  extract_lets +onlyGivenNames -merge -useContext v2
  extract_lets +onlyGivenNames -merge -useContext v3
  extract_lets +onlyGivenNames -merge -useContext v4
  extract_lets +onlyGivenNames -merge -useContext v5
  exact (Within.vet (State.vet_ok (sub_.sub (by decide)) reach_) (fun u6 hu6 => (Within.next hu6)) (fun u6 _ _ _ hu6 => (Within.ite (fun _ => (Within.next (State.answer_reach (sub_.sub (by decide)) hu6))) (fun _ => (Within.ite (fun _ => (Within.next (State.answer_reach (sub_.sub (by decide)) hu6))) (fun _ => (by
  extract_lets +onlyGivenNames -merge -useContext w_ u7
  have hu7 : Reach T s₀ u7 := (Reach.set_host (sub_.sub (by decide)) hu6)
  clear_value u7
  exact (Within.next (State.answer_reach (sub_.sub (by decide)) (State.record_reach (sub_.sub (by decide)) hu7))))))))))

theorem State.revokeHostKey_reach {T : Nat} {s₀ s : State} {slot : Nat} (sub_ : Sub 57985204224 T) (reach_ : Reach T s₀ s) :
    Reach T s₀ (State.revokeHostKey s slot) := by
  unfold State.revokeHostKey
  extract_lets +onlyGivenNames -merge -useContext w_ u1
  have hu1 : Reach T s₀ u1 := (Reach.set_host (sub_.sub (by decide)) reach_)
  clear_value u1
  extract_lets +onlyGivenNames -merge -useContext v2
  extract_lets +onlyGivenNames -merge -useContext u3
  have hu3 : Reach T s₀ u3 := (State.record_reach (sub_.sub (by decide)) hu1)
  clear_value u3
  exact (Reach.foldl _ hu3 (fun u4 _ hu4 => (State.closeSession_reach (sub_.sub (by decide)) hu4)))

theorem execHostKeyRevoke_reach {T : Nat} {s₀ s : State} {k : Pkt} (sub_ : Sub 57985204224 T) (reach_ : Reach T s₀ s) :
    Within T s₀ (execHostKeyRevoke k s) := by
  unfold execHostKeyRevoke
  exact Within.vet (State.vet_ok (sub_.sub (by decide)) reach_) (fun u1 hu1 => (Within.next hu1)) (fun u1 _ _ _ hu1 => (by
    extract_lets +onlyGivenNames -merge -useContext v2
    exact (Within.next (Reach.ite (fun _ => (State.answer_reach (sub_.sub (by decide)) hu1)) (fun _ => (State.revokeHostKey_reach (sub_.sub (by decide)) (State.answer_reach (sub_.sub (by decide)) hu1)))))))

theorem execCalCheck_reach {T : Nat} {s₀ s : State} {k : Pkt} (sub_ : Sub 57985204224 T) (reach_ : Reach T s₀ s) :
    Within T s₀ (execCalCheck k s) := by
  unfold execCalCheck
  exact Within.vet (State.vet_ok (sub_.sub (by decide)) reach_) (fun u1 hu1 => (Within.next hu1)) (fun u1 _ _ _ hu1 =>
    (Within.ite (fun _ => (Within.next (State.answer_reach (sub_.sub (by decide)) hu1))) (fun _ => (by
    extract_lets +onlyGivenNames -merge -useContext v3
    exact (Within.next (State.answer_reach (sub_.sub (by decide)) hu1))))))

end Sys2Proof.Machine
end

