-- ==== Sys2Proof/Laws/Frame/Blocks.lean ====
section
/-! SUPPORT. What the operations of Machine/Blocks.lean may change: one lemma for each, whose mask names the fields. -/

set_option Elab.async false

namespace Sys2Proof.Machine

theorem State.writeVar_reach {T : Nat} {s₀ s : State} {v : Var} {w : BitVec 32} (sub_ : Sub 536870912 T)
    (reach_ : Reach T s₀ s) :
    Reach T s₀ (State.writeVar s v w) := by
  unfold State.writeVar
  extract_lets +onlyGivenNames -merge -useContext v1
  split
  · exact (Reach.set_prog (sub_.sub (by decide)) reach_ (fun k => ⟨Memory.writeBytes_wf _ _ k.1, k.2, k.3⟩))
  · exact (Reach.set_prog (sub_.sub (by decide)) reach_ (fun k => ⟨k.1, Memory.writeBytes_wf _ _ k.2, k.3⟩))
  · exact (Reach.set_prog (sub_.sub (by decide)) reach_ (fun k => ⟨k.1, k.2, Memory.writeBytes_wf _ _ k.3⟩))

theorem State.put_reach {T : Nat} {s₀ s : State} {c : Container} {b : Block} {k : Nat} {w : BitVec 32}
    (sub_ : Sub 536870912 T)
    (reach_ : Reach T s₀ s) :
    Reach T s₀ (State.put s c b k w) := by
  unfold State.put
  split
  · exact reach_
  · exact (Reach.ite (fun _ => reach_) (fun _ => (State.writeVar_reach (sub_.sub (by decide)) reach_)))

theorem State.putB_reach {T : Nat} {s₀ s : State} {c : Container} {b : Block} {k : Nat} {q : Bool} (sub_ : Sub 536870912 T)
    (reach_ : Reach T s₀ s) :
    Reach T s₀ (State.putB s c b k q) := by
  unfold State.putB
  exact State.put_reach (sub_.sub (by decide)) reach_

theorem State.putN_reach {T : Nat} {s₀ s : State} {c : Container} {b : Block} {k n : Nat} (sub_ : Sub 536870912 T) (reach_ :
    Reach T s₀ s) :
    Reach T s₀ (State.putN s c b k n) := by
  unfold State.putN
  exact State.put_reach (sub_.sub (by decide)) reach_

theorem State.modInst_reach {T : Nat} {s₀ s : State} {id : BitVec 16} {f : BlockSt → BlockSt} (sub_ : Sub 536870912 T)
    (reach_
    : Reach T s₀ s) :
    Reach T s₀ (State.modInst s id f) := by
  unfold State.modInst
  exact Reach.set_prog (sub_.sub (by decide)) reach_ (fun k => ⟨k.1, k.2, k.3⟩)

theorem State.act_reach {T : Nat} {s₀ s : State} {a : Action} (sub_ : Sub 536870912 T) (reach_ : Reach T s₀ s) :
    Reach T s₀ (State.act s a) := by
  unfold State.act
  exact Reach.set_prog (sub_.sub (by decide)) reach_ (fun k => ⟨k.1, k.2, k.3⟩)

theorem State.arithError_reach {T : Nat} {s₀ s : State} {b : Block} (sub_ : Sub 37044092928 T) (reach_ : Reach T s₀ s) :
    Reach T s₀ (State.arithError s b) := by
  unfold State.arithError
  extract_lets +onlyGivenNames -merge -useContext w_ u1
  have hu1 : Reach T s₀ u1 := (Reach.set_prog (sub_.sub (by decide)) reach_ (fun k => ⟨k.1, k.2, k.3⟩))
  clear_value u1
  exact (State.recordLimited_reach (sub_.sub (by decide)) hu1)

theorem State.runDoor_reach {T : Nat} {s₀ s : State} {c : Container} {b : Block} {f : Nat} {v : List (BitVec 32)}
    (sub_ : Sub 536870912 T) (reach_ : Reach T s₀ s) :
    Reach T s₀ (State.runDoor s c b f v) := by
  unfold State.runDoor
  extract_lets +onlyGivenNames -merge -useContext v1
  extract_lets +onlyGivenNames -merge -useContext v2
  extract_lets +onlyGivenNames -merge -useContext v3
  extract_lets +onlyGivenNames -merge -useContext v4
  extract_lets +onlyGivenNames -merge -useContext v5
  extract_lets +onlyGivenNames -merge -useContext v6
  have hv6 : Reach T s₀ v6 := (Reach.ite (fun _ => (State.act_reach (sub_.sub (by decide)) reach_)) (fun _ => reach_))
  clear_value v6
  extract_lets +onlyGivenNames -merge -useContext v7
  have hv7 : Reach T s₀ v7 := (Reach.ite (fun _ => (State.act_reach (sub_.sub (by decide)) hv6)) (fun _ => hv6))
  clear_value v7
  extract_lets +onlyGivenNames -merge -useContext v8
  have hv8 : Reach T s₀ v8 := (Reach.ite (fun _ => (State.act_reach (sub_.sub (by decide)) hv7)) (fun _ => hv7))
  clear_value v8
  extract_lets +onlyGivenNames -merge -useContext v9
  have hv9 : Reach T s₀ v9 := (Reach.ite (fun _ => (State.act_reach (sub_.sub (by decide)) hv8)) (fun _ => hv8))
  clear_value v9
  extract_lets +onlyGivenNames -merge -useContext v10
  have hv10 : Reach T s₀ v10 := (State.modInst_reach (sub_.sub (by decide)) hv9)
  clear_value v10
  extract_lets +onlyGivenNames -merge -useContext v11
  extract_lets +onlyGivenNames -merge -useContext v12
  extract_lets +onlyGivenNames -merge -useContext v13
  have hv13 : Reach T s₀ v13 := (State.putN_reach (sub_.sub (by decide)) (State.putN_reach (sub_.sub (by decide)) hv10))
  clear_value v13
  extract_lets +onlyGivenNames -merge -useContext v14
  have hv14 : Reach T s₀ v14 := (State.putB_reach (sub_.sub (by decide)) (State.putB_reach (sub_.sub (by decide)) (State.putB_reach (sub_.sub (by decide)) hv13)))
  clear_value v14
  exact (State.putN_reach (sub_.sub (by decide)) hv14)

theorem State.takeCmd_reach {T : Nat} {s₀ s : State} {b : Block} {cmd : Int} {a : Nat → Action} (sub_ : Sub 536870912 T)
    (reach_ : Reach T s₀ s) :
    Reach T s₀ (State.takeCmd s b cmd a) := by
  unfold State.takeCmd
  extract_lets +onlyGivenNames -merge -useContext v1
  extract_lets +onlyGivenNames -merge -useContext u2
  have hu2 : Reach T s₀ u2 := (Reach.ite (fun _ => (State.act_reach (sub_.sub (by decide)) reach_)) (fun _ => reach_))
  clear_value u2
  exact (State.modInst_reach (sub_.sub (by decide)) hu2)

theorem State.runStep_reach {T : Nat} {s₀ s : State} {c : Container} {b : Block} {f : Nat} {v : List (BitVec 32)}
    (sub_ : Sub 536870912 T) (reach_ : Reach T s₀ s) :
    Reach T s₀ (State.runStep s c b f v) := by
  unfold State.runStep
  extract_lets +onlyGivenNames -merge -useContext u1
  have hu1 : Reach T s₀ u1 := (State.takeCmd_reach (sub_.sub (by decide)) reach_)
  clear_value u1
  extract_lets +onlyGivenNames -merge -useContext v2
  exact (State.putB_reach (sub_.sub (by decide)) (State.putB_reach (sub_.sub (by decide)) (State.putB_reach (sub_.sub (by decide)) (State.putN_reach (sub_.sub (by decide)) hu1))))

theorem State.runLock_reach {T : Nat} {s₀ s : State} {c : Container} {b : Block} {f : Nat} {v : List (BitVec 32)}
    (sub_ : Sub 536870912 T) (reach_ : Reach T s₀ s) :
    Reach T s₀ (State.runLock s c b f v) := by
  unfold State.runLock
  extract_lets +onlyGivenNames -merge -useContext u1
  have hu1 : Reach T s₀ u1 := (State.takeCmd_reach (sub_.sub (by decide)) reach_)
  clear_value u1
  extract_lets +onlyGivenNames -merge -useContext v2
  exact (State.putB_reach (sub_.sub (by decide)) (State.putB_reach (sub_.sub (by decide)) (State.putB_reach (sub_.sub (by decide)) (State.putN_reach (sub_.sub (by decide)) hu1))))

theorem State.runReference_reach {T : Nat} {s₀ s : State} {c : Container} {b : Block} {f : Nat} {v : List (BitVec 32)}
    (sub_ : Sub 536870912 T) (reach_ : Reach T s₀ s) :
    Reach T s₀ (State.runReference s c b f v) := by
  unfold State.runReference
  extract_lets +onlyGivenNames -merge -useContext v1
  extract_lets +onlyGivenNames -merge -useContext v2
  extract_lets +onlyGivenNames -merge -useContext u3
  have hu3 : Reach T s₀ u3 := (Reach.ite (fun _ => (State.act_reach (sub_.sub (by decide)) reach_)) (fun _ => reach_))
  clear_value u3
  extract_lets +onlyGivenNames -merge -useContext u4
  have hu4 : Reach T s₀ u4 := (State.modInst_reach (sub_.sub (by decide)) hu3)
  clear_value u4
  extract_lets +onlyGivenNames -merge -useContext v5
  exact (State.putN_reach (sub_.sub (by decide)) (State.putB_reach (sub_.sub (by decide)) (State.putB_reach (sub_.sub (by decide)) (State.putN_reach (sub_.sub (by decide)) hu4))))

theorem State.issue_reach {T : Nat} {s₀ s : State} {b : Block} {a : Nat} {cmd : Option AxCmd} {kind : Nat} {target : Int}
    {vel
    : Rat} (sub_ : Sub 536870912 T) (reach_ : Reach T s₀ s) :
    Reach T s₀ (State.issue s b a cmd kind target vel) := by
  unfold State.issue
  extract_lets +onlyGivenNames -merge -useContext u1
  have hu1 : Reach T s₀ u1 := (State.modInst_reach (sub_.sub (by decide)) reach_)
  clear_value u1
  split
  · exact (State.act_reach (sub_.sub (by decide)) hu1)
  · exact (State.modInst_reach (sub_.sub (by decide)) hu1)

theorem State.putMotion_reach {T : Nat} {s₀ s : State} {c : Container} {b : Block} (sub_ : Sub 536870912 T) (reach_ : Reach T
    s₀ s) :
    Reach T s₀ (State.putMotion s c b) := by
  unfold State.putMotion
  extract_lets +onlyGivenNames -merge -useContext v1
  exact (State.putN_reach (sub_.sub (by decide)) (State.putB_reach (sub_.sub (by decide)) (State.putB_reach (sub_.sub (by decide)) (State.putB_reach (sub_.sub (by decide)) reach_))))

theorem State.runMove_reach {T : Nat} {s₀ s : State} {c : Container} {b : Block} {a : Nat} {v : List (BitVec 32)}
    (sub_ : Sub 536870912 T) (reach_ : Reach T s₀ s) :
    Reach T s₀ (State.runMove s c b a v) := by
  unfold State.runMove
  extract_lets +onlyGivenNames -merge -useContext v1
  extract_lets +onlyGivenNames -merge -useContext v2
  extract_lets +onlyGivenNames -merge -useContext v3
  extract_lets +onlyGivenNames -merge -useContext v4
  extract_lets +onlyGivenNames -merge -useContext u5
  have hu5 : Reach T s₀ u5 := (Reach.ite (fun _ => (State.issue_reach (sub_.sub (by decide)) reach_)) (fun _ => reach_))
  clear_value u5
  exact (State.putMotion_reach (sub_.sub (by decide)) (State.modInst_reach (sub_.sub (by decide)) hu5))

theorem State.runStop_reach {T : Nat} {s₀ s : State} {c : Container} {b : Block} {a : Nat} {v : List (BitVec 32)}
    (sub_ : Sub 536870912 T) (reach_ : Reach T s₀ s) :
    Reach T s₀ (State.runStop s c b a v) := by
  unfold State.runStop
  extract_lets +onlyGivenNames -merge -useContext v1
  extract_lets +onlyGivenNames -merge -useContext v2
  extract_lets +onlyGivenNames -merge -useContext v3
  extract_lets +onlyGivenNames -merge -useContext u4
  have hu4 : Reach T s₀ u4 := (Reach.ite (fun _ => (State.issue_reach (sub_.sub (by decide)) reach_)) (fun _ => reach_))
  clear_value u4
  exact (State.putMotion_reach (sub_.sub (by decide)) (State.modInst_reach (sub_.sub (by decide)) hu4))

theorem State.putHeld_reach {T : Nat} {s₀ s : State} {c : Container} {b : Block} (sub_ : Sub 536870912 T)
    (reach_ : Reach T s₀
    s) :
    Reach T s₀ (State.putHeld s c b) := by
  unfold State.putHeld
  extract_lets +onlyGivenNames -merge -useContext v1
  exact (State.putN_reach (sub_.sub (by decide)) (State.putB_reach (sub_.sub (by decide)) (State.putB_reach (sub_.sub (by decide)) reach_)))

theorem State.runGear_reach {T : Nat} {s₀ s : State} {c : Container} {b : Block} {a : Nat} {v : List (BitVec 32)}
    (sub_ : Sub 536870912 T) (reach_ : Reach T s₀ s) :
    Reach T s₀ (State.runGear s c b a v) := by
  unfold State.runGear
  extract_lets +onlyGivenNames -merge -useContext v1
  extract_lets +onlyGivenNames -merge -useContext v2
  extract_lets +onlyGivenNames -merge -useContext v3
  extract_lets +onlyGivenNames -merge -useContext u4
  have hu4 : Reach T s₀ u4 := (Reach.ite (fun _ => (State.issue_reach (sub_.sub (by decide)) reach_)) (fun _ => (Reach.ite (fun _ => (State.issue_reach (sub_.sub (by decide)) reach_)) (fun _ => reach_))))
  clear_value u4
  exact (State.putHeld_reach (sub_.sub (by decide)) (State.modInst_reach (sub_.sub (by decide)) hu4))

theorem State.runSol_reach {T : Nat} {s₀ s : State} {c : Container} {b : Block} {a : Nat} {v : List (BitVec 32)}
    (sub_ : Sub 536870912 T) (reach_ : Reach T s₀ s) :
    Reach T s₀ (State.runSol s c b a v) := by
  unfold State.runSol
  extract_lets +onlyGivenNames -merge -useContext v1
  extract_lets +onlyGivenNames -merge -useContext v2
  extract_lets +onlyGivenNames -merge -useContext u3
  have hu3 : Reach T s₀ u3 := (Reach.ite (fun _ => reach_) (fun _ => (State.issue_reach (sub_.sub (by decide)) reach_)))
  clear_value u3
  exact (State.putHeld_reach (sub_.sub (by decide)) (State.modInst_reach (sub_.sub (by decide)) hu3))

theorem State.runParRd_reach {T : Nat} {s₀ s : State} {c : Container} {b : Block} (sub_ : Sub 536870912 T)
    (reach_ : Reach T s₀
    s) :
    Reach T s₀ (State.runParRd s c b) := by
  unfold State.runParRd
  extract_lets +onlyGivenNames -merge -useContext v1
  exact (State.putN_reach (sub_.sub (by decide)) (State.put_reach (sub_.sub (by decide)) reach_))

theorem State.runParWr_reach {T : Nat} {s₀ s : State} {c : Container} {b : Block} {v : List (BitVec 32)}
    (sub_ : Sub 536870912 T) (reach_ : Reach T s₀ s) :
    Reach T s₀ (State.runParWr s c b v) := by
  unfold State.runParWr
  extract_lets +onlyGivenNames -merge -useContext v1
  extract_lets +onlyGivenNames -merge -useContext v2
  extract_lets +onlyGivenNames -merge -useContext u3
  have hu3 : Reach T s₀ u3 := (Reach.ite (fun _ => (State.act_reach (sub_.sub (by decide)) (State.modInst_reach (sub_.sub (by decide)) reach_))) (fun _ => reach_))
  clear_value u3
  extract_lets +onlyGivenNames -merge -useContext u4
  have hu4 : Reach T s₀ u4 := (State.modInst_reach (sub_.sub (by decide)) hu3)
  clear_value u4
  extract_lets +onlyGivenNames -merge -useContext v5
  exact (State.putN_reach (sub_.sub (by decide)) (State.putB_reach (sub_.sub (by decide)) (State.putB_reach (sub_.sub (by decide)) hu4)))

theorem State.runEvent_reach {T : Nat} {s₀ s : State} {c : Container} {b : Block} {v : List (BitVec 32)}
    (sub_ : Sub 536870912 T) (reach_ : Reach T s₀ s) :
    Reach T s₀ (State.runEvent s c b v) := by
  unfold State.runEvent
  extract_lets +onlyGivenNames -merge -useContext v1
  extract_lets +onlyGivenNames -merge -useContext v2
  extract_lets +onlyGivenNames -merge -useContext v3
  extract_lets +onlyGivenNames -merge -useContext u4
  have hu4 : Reach T s₀ u4 := (Reach.ite (fun _ => (State.act_reach (sub_.sub (by decide)) reach_)) (fun _ => reach_))
  clear_value u4
  extract_lets +onlyGivenNames -merge -useContext u5
  have hu5 : Reach T s₀ u5 := (State.modInst_reach (sub_.sub (by decide)) hu4)
  clear_value u5
  exact (State.putN_reach (sub_.sub (by decide)) hu5)

theorem State.runStateful_reach {T : Nat} {s₀ s : State} {c : Container} {b : Block} {v : List (BitVec 32)}
    (sub_ : Sub 536870912 T) (reach_ : Reach T s₀ s) :
    Reach T s₀ (State.runStateful s c b v) := by
  unfold State.runStateful
  extract_lets +onlyGivenNames -merge -useContext v1
  extract_lets +onlyGivenNames -merge -useContext v2
  extract_lets +onlyGivenNames -merge -useContext v3
  extract_lets +onlyGivenNames -merge -useContext v4
  extract_lets +onlyGivenNames -merge -useContext v5
  extract_lets +onlyGivenNames -merge -useContext v6
  extract_lets +onlyGivenNames -merge -useContext v7
  extract_lets +onlyGivenNames -merge -useContext v8
  extract_lets +onlyGivenNames -merge -useContext v9
  split
  · exact (by
      extract_lets +onlyGivenNames -merge -useContext v10
      exact (State.putB_reach (sub_.sub (by decide)) (State.modInst_reach (sub_.sub (by decide)) reach_)))
  · exact (by
      extract_lets +onlyGivenNames -merge -useContext v11
      exact (State.putB_reach (sub_.sub (by decide)) (State.modInst_reach (sub_.sub (by decide)) reach_)))
  · exact (State.putB_reach (sub_.sub (by decide)) (State.modInst_reach (sub_.sub (by decide)) reach_))
  · exact (State.putB_reach (sub_.sub (by decide)) (State.modInst_reach (sub_.sub (by decide)) reach_))
  · exact (by
      extract_lets +onlyGivenNames -merge -useContext v12
      exact (State.putN_reach (sub_.sub (by decide)) (State.putB_reach (sub_.sub (by decide)) (State.modInst_reach (sub_.sub (by decide)) reach_))))
  · exact (by
      extract_lets +onlyGivenNames -merge -useContext v13
      exact (State.putN_reach (sub_.sub (by decide)) (State.putB_reach (sub_.sub (by decide)) (State.modInst_reach (sub_.sub (by decide)) reach_))))
  · exact (by
      extract_lets +onlyGivenNames -merge -useContext v14
      exact (State.putN_reach (sub_.sub (by decide)) (State.putB_reach (sub_.sub (by decide)) (State.modInst_reach (sub_.sub (by decide)) reach_))))
  · exact (by
      extract_lets +onlyGivenNames -merge -useContext v15
      exact (State.put_reach (sub_.sub (by decide)) (State.putB_reach (sub_.sub (by decide)) (State.modInst_reach (sub_.sub (by decide)) reach_))))
  · exact (by
      extract_lets +onlyGivenNames -merge -useContext v16
      exact (State.put_reach (sub_.sub (by decide)) (State.putB_reach (sub_.sub (by decide)) (State.modInst_reach (sub_.sub (by decide)) reach_))))
  · exact (by
      extract_lets +onlyGivenNames -merge -useContext v17
      extract_lets +onlyGivenNames -merge -useContext v18
      exact (State.put_reach (sub_.sub (by decide)) (State.putB_reach (sub_.sub (by decide)) (State.putB_reach (sub_.sub (by decide)) (State.modInst_reach (sub_.sub (by decide)) reach_)))))
  · exact reach_

theorem State.runBlock_reach {T : Nat} {s₀ s : State} {c : Container} {b : Block} (sub_ : Sub 105763569664 T)
    (reach_ : Reach T
    s₀ s) :
    Reach T s₀ (State.runBlock s c b) := by
  unfold State.runBlock
  extract_lets +onlyGivenNames -merge -useContext v1
  extract_lets +onlyGivenNames -merge -useContext v2
  split
  · exact (by
      extract_lets +onlyGivenNames -merge -useContext u3
      have hu3 : Reach T s₀ u3 := (Reach.ite (fun _ => (State.draw_reach (sub_.sub (by decide)) reach_)) (fun _ => reach_))
      clear_value u3
      extract_lets +onlyGivenNames -merge -useContext u4
      have hu4 : Reach T s₀ u4 := (Reach.ite (fun _ => (State.arithError_reach (sub_.sub (by decide)) hu3)) (fun _ => hu3))
      clear_value u4
      exact (State.put_reach (sub_.sub (by decide)) hu4))
  · exact (by
      split
      · exact (State.runDoor_reach (sub_.sub (by decide)) reach_)
      · exact (State.runStep_reach (sub_.sub (by decide)) reach_)
      · exact (State.runLock_reach (sub_.sub (by decide)) reach_)
      · exact (State.runReference_reach (sub_.sub (by decide)) reach_)
      · exact (State.runMove_reach (sub_.sub (by decide)) reach_)
      · exact (State.runStop_reach (sub_.sub (by decide)) reach_)
      · exact (State.runGear_reach (sub_.sub (by decide)) reach_)
      · exact (State.runSol_reach (sub_.sub (by decide)) reach_)
      · exact (State.runParRd_reach (sub_.sub (by decide)) reach_)
      · exact (State.runParWr_reach (sub_.sub (by decide)) reach_)
      · exact (State.runEvent_reach (sub_.sub (by decide)) reach_)
      · exact (State.runStateful_reach (sub_.sub (by decide)) reach_))

theorem State.runBlocks_reach {T : Nat} {s₀ s : State} {c : Container} (sub_ : Sub 105763569664 T) (reach_ : Reach T s₀ s) :
    Reach T s₀ (State.runBlocks s c) := by
  unfold State.runBlocks
  exact Reach.foldl _ reach_ (fun u1 _ hu1 => (State.runBlock_reach (sub_.sub (by decide)) hu1))

end Sys2Proof.Machine
end

