-- ==== Sys2Proof/Laws/Frame/InputOps.lean ====
section
/-! SUPPORT. What the operations of Machine/InputOps.lean may change: one lemma for each, whose mask names the fields. -/

set_option Elab.async false

namespace Sys2Proof.Machine

theorem State.restartLines_reach {T : Nat} {s₀ s : State} {track : Bool} {p : Nat → Bool} (sub_ : Sub 65536 T)
    (reach_ : Reach
    T s₀ s) :
    Reach T s₀ (State.restartLines s track p) := by
  unfold State.restartLines
  exact Reach.set_senses (sub_.sub (by decide)) reach_ List.length_mapIdx

theorem State.setAux_reach {T : Nat} {s₀ s : State} {p : Nat} {high : Bool} {until' : Option Nat} (sub_ : Sub 34360000512 T)
    (reach_ : Reach T s₀ s) :
    Reach T s₀ (State.setAux s p high until') := by
  unfold State.setAux
  extract_lets +onlyGivenNames -merge -useContext v1
  extract_lets +onlyGivenNames -merge -useContext v2
  extract_lets +onlyGivenNames -merge -useContext u3
  have hu3 : Reach T s₀ u3 := (State.modPort_reach (sub_.sub (by decide)) reach_)
  clear_value u3
  exact (Reach.ite (fun _ => hu3) (fun _ => (State.send_reach (sub_.sub (by decide)) hu3)))

theorem State.fireCmp_reach {T : Nat} {s₀ s : State} {p i stamp : Nat} (sub_ : Sub 34360000512 T) (reach_ : Reach T s₀ s) :
    Reach T s₀ (State.fireCmp s p i stamp) := by
  unfold State.fireCmp
  extract_lets +onlyGivenNames -merge -useContext v1
  extract_lets +onlyGivenNames -merge -useContext u2
  have hu2 : Reach T s₀ u2 := (State.modPort_reach (sub_.sub (by decide)) reach_)
  clear_value u2
  exact (Reach.ite (fun _ => (State.setAux_reach (sub_.sub (by decide)) hu2)) (fun _ => hu2))

theorem State.behindCmp_reach {T : Nat} {s₀ s : State} {p i : Nat} {d : Int} {stamp : Nat} (sub_ : Sub 36507484160 T)
    (reach_ :
    Reach T s₀ s) :
    Reach T s₀ (State.behindCmp s p i d stamp) := by
  unfold State.behindCmp
  exact Reach.ite (fun _ => (State.recordIf_reach (sub_.sub (by decide)) (State.modPort_reach (sub_.sub (by decide)) (State.fireCmp_reach (sub_.sub (by decide)) reach_)))) (fun _ => (State.recordIf_reach (sub_.sub (by decide)) (State.modPort_reach (sub_.sub (by decide)) reach_)))

theorem State.jumpCmp_reach {T : Nat} {s₀ s : State} {p : Nat} {old : BitVec 32} {j : Int} (sub_ : Sub 36507484160 T)
    (reach_ :
    Reach T s₀ s) :
    Reach T s₀ (State.jumpCmp s p old j) := by
  unfold State.jumpCmp
  exact Reach.forEach _ reach_ (fun u1 _ hu1 => (Reach.ite (fun _ => (State.behindCmp_reach (sub_.sub (by decide)) hu1)) (fun _ => hu1)))

theorem State.jumpMasters_reach {T : Nat} {s₀ s : State} {p : Nat} {j : Int} (sub_ : Sub 8590983168 T)
    (reach_ : Reach T s₀ s) :
    Reach T s₀ (State.jumpMasters s p j) := by
  unfold State.jumpMasters
  extract_lets +onlyGivenNames -merge -useContext u3
  have hu3 : Reach T s₀ u3 := (Reach.forEach _ reach_ (fun u1 _ hu1 => (by
      extract_lets +onlyGivenNames -merge -useContext v2
      exact (Reach.ite (fun _ => (State.modAxis_reach (sub_.sub (by decide)) hu1)) (fun _ => hu1)))))
  clear_value u3
  exact (Reach.set_ring (sub_.sub (by decide)) hu3)

theorem State.keepAngle_reach {T : Nat} {s₀ s : State} {p : Nat} {j : Int} (sub_ : Sub 1048576 T) (reach_ : Reach T s₀ s) :
    Reach T s₀ (State.keepAngle s p j) := by
  unfold State.keepAngle
  exact (Reach.forEach _ reach_ (fun u1 _ hu3 => (Reach.ite (fun _ => (State.modAxis_reach (sub_.sub (by decide)) hu3)) (fun _ => hu3))))

theorem State.writeCount_reach {T : Nat} {s₀ s : State} {p : Nat} {v : BitVec 32} (sub_ : Sub 45098467328 T)
    (reach_ : Reach T s₀ s) :
    Reach T s₀ (State.writeCount s p v).2 := by
  unfold State.writeCount
  extract_lets +onlyGivenNames -merge -useContext v1
  exact (Reach.ite2 (fun _ => (Reach.mk2 reach_)) (fun _ => (by
    extract_lets +onlyGivenNames -merge -useContext v2
    extract_lets +onlyGivenNames -merge -useContext v3
    extract_lets +onlyGivenNames -merge -useContext v4
    have hv4 : Reach T s₀ v4 := (State.modPort_reach (sub_.sub (by decide)) reach_)
    clear_value v4
    exact (Reach.mk2 (State.jumpMasters_reach (sub_.sub (by decide)) (State.jumpCmp_reach (sub_.sub (by decide)) (State.keepAngle_reach (sub_.sub (by decide)) hv4)))))))

theorem State.invalidateCount_reach {T : Nat} {s₀ s : State} {p : Nat} (sub_ : Sub 1310720 T) (reach_ : Reach T s₀ s) :
    Reach T s₀ (State.invalidateCount s p) := by
  unfold State.invalidateCount
  extract_lets +onlyGivenNames -merge -useContext u1
  have hu1 : Reach T s₀ u1 := (State.modPort_reach (sub_.sub (by decide)) reach_)
  clear_value u1
  exact (Reach.forEach _ hu1 (fun u2 _ hu2 => (Reach.ite (fun _ => (State.modAxis_reach (sub_.sub (by decide)) hu2)) (fun _ => hu2))))

theorem State.echoEdge_reach {T : Nat} {s₀ s : State} {p : Nat} {up : Bool} (sub_ : Sub 36508008448 T)
    (reach_ : Reach T s₀ s) :
    Reach T s₀ (State.echoEdge s p up) := by
  unfold State.echoEdge
  extract_lets +onlyGivenNames -merge -useContext v1
  exact (Reach.ite (fun _ => reach_) (fun _ => (by
  extract_lets +onlyGivenNames -merge -useContext v2
  extract_lets +onlyGivenNames -merge -useContext v3
  extract_lets +onlyGivenNames -merge -useContext v4
  extract_lets +onlyGivenNames -merge -useContext v5
  extract_lets +onlyGivenNames -merge -useContext v6
  exact (Reach.ite (fun _ => (State.modEcho_reach (sub_.sub (by decide)) reach_)) (fun _ => (Reach.ite (fun _ => (State.modEcho_reach (sub_.sub (by decide)) reach_)) (fun _ => (State.recordLimited_reach (sub_.sub (by decide)) (State.modPort_reach (sub_.sub (by decide)) (State.modEcho_reach (sub_.sub (by decide)) reach_))))))))))

theorem State.edgeCmp_reach {T : Nat} {s₀ s : State} {p : Nat} {up : Bool} {stamp : Nat} (sub_ : Sub 34360000512 T) (reach_ :
    Reach T s₀ s) :
    Reach T s₀ (State.edgeCmp s p up stamp) := by
  unfold State.edgeCmp
  exact Reach.forEach _ reach_ (fun u1 _ hu1 => (by
    extract_lets +onlyGivenNames -merge -useContext v2
    exact (Reach.ite (fun _ => (State.fireCmp_reach (sub_.sub (by decide)) hu1)) (fun _ => hu1))))

theorem State.quadError_reach {T : Nat} {s₀ s : State} {p : Nat} (sub_ : Sub 36507484160 T) (reach_ : Reach T s₀ s) :
    Reach T s₀ (State.quadError s p) := by
  unfold State.quadError
  extract_lets +onlyGivenNames -merge -useContext u1
  have hu1 : Reach T s₀ u1 := (State.modPort_reach (sub_.sub (by decide)) reach_)
  clear_value u1
  exact (Reach.ite (fun _ => (State.recordLimited_reach (sub_.sub (by decide)) hu1)) (fun _ => hu1))

theorem State.countEdge_reach {T : Nat} {s₀ s : State} {p : Nat} {e : EdgeIn} (sub_ : Sub 36508008448 T)
    (reach_ : Reach T s₀ s) :
    Reach T s₀ (State.countEdge s p e) := by
  unfold State.countEdge
  extract_lets +onlyGivenNames -merge -useContext u1
  have hu1 : Reach T s₀ u1 := (State.modPort_reach (sub_.sub (by decide)) reach_)
  clear_value u1
  exact (State.echoEdge_reach (sub_.sub (by decide)) (State.edgeCmp_reach (sub_.sub (by decide)) hu1))

theorem State.driveEcho_reach {T : Nat} {s₀ s : State} {f : Nat} (sub_ : Sub 34360000512 T) (reach_ : Reach T s₀ s) :
    Reach T s₀ (State.driveEcho s f) := by
  unfold State.driveEcho
  extract_lets +onlyGivenNames -merge -useContext v1
  exact (Reach.ite (fun _ => (State.setAux_reach (sub_.sub (by decide)) (State.setAux_reach (sub_.sub (by decide)) reach_))) (fun _ => reach_))

theorem State.restartEcho_reach {T : Nat} {s₀ s : State} {f : Nat} (sub_ : Sub 34360524800 T) (reach_ : Reach T s₀ s) :
    Reach T s₀ (State.restartEcho s f) := by
  unfold State.restartEcho
  exact (State.driveEcho_reach (sub_.sub (by decide)) (State.modEcho_reach (sub_.sub (by decide)) reach_))

theorem State.armCmp_reach {T : Nat} {s₀ s : State} {p i : Nat} {v : BitVec 32} (sub_ : Sub 36507484164 T)
    (reach_ : Reach T s₀ s) :
    Reach T s₀ (State.armCmp s p i v).2 := by
  unfold State.armCmp
  exact (Reach.ite2 (fun _ => (Reach.mk2 reach_)) (fun _ => (Reach.ite2 (fun _ => (Reach.mk2 reach_)) (fun _ => (Reach.ite2 (fun _ => (Reach.mk2 reach_)) (fun _ => (by
    extract_lets +onlyGivenNames -merge -useContext v1
    have hv1 : Reach T s₀ v1 := (State.setPar_reach (sub_.sub (by decide)) reach_)
    clear_value v1
    extract_lets +onlyGivenNames -merge -useContext v2
    have hv2 : Reach T s₀ v2 := (State.modPort_reach (sub_.sub (by decide)) hv1)
    clear_value v2
    exact (Reach.ite2 (fun _ => (Reach.mk2 (State.behindCmp_reach (sub_.sub (by decide)) hv2))) (fun _ => (Reach.mk2 hv2))))))))))

theorem State.disarmCmp_reach {T : Nat} {s₀ s : State} {p i : Nat} {v : BitVec 32} (sub_ : Sub 262148 T)
    (reach_ : Reach T s₀ s) :
    Reach T s₀ (State.disarmCmp s p i v).2 := by
  unfold State.disarmCmp
  exact (Reach.ite2 (fun _ => (Reach.mk2 reach_)) (fun _ => (Reach.ite2 (fun _ => (Reach.mk2 reach_)) (fun _ => (Reach.mk2 (State.modPort_reach (sub_.sub (by decide)) (State.setPar_reach (sub_.sub (by decide)) reach_)))))))

theorem State.writeCmpCfg_reach {T : Nat} {s₀ s : State} {p i : Nat} {v : BitVec 32} (sub_ : Sub 36507484164 T)
    (reach_ : Reach
    T s₀ s) :
    Reach T s₀ (State.writeCmpCfg s p i v).2 := by
  unfold State.writeCmpCfg
  exact Reach.ite2 (fun _ => (State.armCmp_reach (sub_.sub (by decide)) reach_)) (fun _ => (State.disarmCmp_reach (sub_.sub (by decide)) reach_))

theorem State.writeCmpPos_reach {T : Nat} {s₀ s : State} {p i : Nat} {v : BitVec 32} (sub_ : Sub 4 T)
    (reach_ : Reach T s₀ s) :
    Reach T s₀ (State.writeCmpPos s p i v).2 := by
  unfold State.writeCmpPos
  exact Reach.ite2 (fun _ => (Reach.mk2 reach_)) (fun _ => (Reach.mk2 (State.setPar_reach (sub_.sub (by decide)) reach_)))

theorem State.clearHits_reach {T : Nat} {s₀ s : State} {p w : Nat} {v : BitVec 32} (sub_ : Sub 262144 T)
    (reach_ : Reach T s₀ s) :
    Reach T s₀ (State.clearHits s p w v).2 := by
  unfold State.clearHits
  exact Reach.mk2 (State.modPort_reach (sub_.sub (by decide)) reach_)

theorem State.supplyClear_reach {T : Nat} {s₀ s : State} {p : Nat} {v : BitVec 32} (sub_ : Sub 262144 T)
    (reach_ : Reach T s₀ s) :
    Reach T s₀ (State.supplyClear s p v).2 := by
  unfold State.supplyClear
  exact Reach.ite2 (fun _ => (Reach.mk2 reach_)) (fun _ => (Reach.ite2 (fun _ => (Reach.mk2 reach_)) (fun _ => (by
    extract_lets +onlyGivenNames -merge -useContext u1
    have hu1 : Reach T s₀ u1 := (State.modPort_reach (sub_.sub (by decide)) reach_)
    clear_value u1
    exact (Reach.mk2 (State.modPort_reach (sub_.sub (by decide)) hu1))))))

theorem State.declarePos_reach {T : Nat} {s₀ s : State} {a : Nat} {v : BitVec 32} (sub_ : Sub 36508270592 T)
    (reach_ : Reach T
    s₀ s) :
    Reach T s₀ (State.declarePos s a v) := by
  unfold State.declarePos
  extract_lets +onlyGivenNames -merge -useContext v1
  exact (State.record_reach (sub_.sub (by decide)) (State.modAxis_reach (sub_.sub (by decide)) reach_))

theorem State.posSet_reach {T : Nat} {s₀ s : State} {a : Nat} {v : BitVec 32} (sub_ : Sub 45098467328 T)
    (reach_ : Reach T s₀ s) :
    Reach T s₀ (State.posSet s a v).2 := by
  unfold State.posSet
  exact Reach.ite2 (fun _ => (Reach.mk2 reach_)) (fun _ => (Reach.ite2 (fun _ => (Reach.mk2 reach_)) (fun _ => (by
    split
    · exact (Reach.mk2 (State.declarePos_reach (sub_.sub (by decide)) reach_))
    · exact (by
        split
        rename_i u1 eu1
        have hu1 : Reach T s₀ u1 := Reach.of_eq eu1 (State.writeCount_reach (sub_.sub (by decide)) reach_)
        exact (Reach.ite2 (fun _ => (Reach.mk2 (State.declarePos_reach (sub_.sub (by decide)) hu1))) (fun _ => (Reach.mk2 hu1))))))))

end Sys2Proof.Machine
end

