-- ==== Sys2Proof/Laws/Frame/GalleryOps.lean ====
section
/-! SUPPORT. What the operations of Machine/GalleryOps.lean may change: one lemma for each, whose mask names the fields. -/

set_option Elab.async false

namespace Sys2Proof.Machine

theorem State.recordKeyed_reach {T : Nat} {s₀ s : State} {e : EvCode} {key : Nat} {args : List (BitVec 32)} {p : Nat}
    (sub_ : Sub 36507222016 T) (reach_ : Reach T s₀ s) :
    Reach T s₀ (State.recordKeyed s e key args p) := by
  unfold State.recordKeyed
  extract_lets +onlyGivenNames -merge -useContext v1
  exact (Reach.ite (fun _ => (by
  extract_lets +onlyGivenNames -merge -useContext u2
  have hu2 : Reach T s₀ u2 := (State.record_reach (sub_.sub (by decide)) reach_)
  clear_value u2
  extract_lets +onlyGivenNames -merge -useContext v3
  exact (Reach.set_gallery (sub_.sub (by decide)) hu2 (fun k => ⟨k.1, k.2, k.3, k.4⟩)))) (fun _ => reach_))

theorem State.modArea_reach {T : Nat} {s₀ s : State} {a : Nat} {f : AreaSt → AreaSt} (sub_ : Sub 2147483648 T)
    (reach_ : Reach
    T s₀ s) :
    Reach T s₀ (State.modArea s a f) := by
  unfold State.modArea
  extract_lets +onlyGivenNames -merge -useContext v1
  exact (Reach.set_gallery (sub_.sub (by decide)) reach_ (fun k => by
  split
  · exact ⟨k.1, k.2, k.3, k.4⟩
  · split <;> exact ⟨k.1, k.2, k.3, k.4⟩))

theorem State.takeSeq_reach {T : Nat} {s₀ s : State} {a : Nat} (sub_ : Sub 2147483648 T) (reach_ : Reach T s₀ s) :
    Reach T s₀ (State.takeSeq s a).2 := by
  unfold State.takeSeq
  exact Reach.mk2 (State.modArea_reach (sub_.sub (by decide)) reach_)

theorem State.overwrote_reach {T : Nat} {s₀ s : State} {a units : Nat} (sub_ : Sub 36507222016 T) (reach_ : Reach T s₀ s) :
    Reach T s₀ (State.overwrote s a units) := by
  unfold State.overwrote
  exact (Reach.ite (fun _ => reach_) (fun _ => (by
    extract_lets +onlyGivenNames -merge -useContext v1
    extract_lets +onlyGivenNames -merge -useContext v2
    have hv2 : Reach T s₀ v2 := (State.modArea_reach (sub_.sub (by decide)) reach_)
    clear_value v2
    exact (State.recordIf_reach (sub_.sub (by decide)) hv2))))

theorem State.dropped_reach {T : Nat} {s₀ s : State} {a : Nat} (sub_ : Sub 36507222016 T) (reach_ : Reach T s₀ s) :
    Reach T s₀ (State.dropped s a) := by
  unfold State.dropped
  extract_lets +onlyGivenNames -merge -useContext u1
  have hu1 : Reach T s₀ u1 := (State.modArea_reach (sub_.sub (by decide)) reach_)
  clear_value u1
  exact (State.recordKeyed_reach (sub_.sub (by decide)) hu1)

theorem State.alcovePut_reach {T : Nat} {s₀ s : State} {r : EvRec} (sub_ : Sub 2147483648 T) (reach_ : Reach T s₀ s) :
    Reach T s₀ (State.alcovePut s r) := by
  unfold State.alcovePut
  extract_lets +onlyGivenNames -merge -useContext v1
  extract_lets +onlyGivenNames -merge -useContext v2
  extract_lets +onlyGivenNames -merge -useContext v3
  split
  · exact (Reach.set_gallery (sub_.sub (by decide)) reach_ (fun k => ⟨k.1, k.2, k.3, k.4⟩))
  · exact (Reach.set_gallery (sub_.sub (by decide)) reach_ (fun k => ⟨k.1, k.2, k.3, k.4⟩))

theorem State.alcoveEvent_reach {T : Nat} {s₀ s : State} {e : Ev} (sub_ : Sub 2147483648 T) (reach_ : Reach T s₀ s) :
    Reach T s₀ (State.alcoveEvent s e) := by
  unfold State.alcoveEvent
  exact State.alcovePut_reach (sub_.sub (by decide)) reach_

theorem State.logPut_reach {T : Nat} {s₀ s : State} {r : EvRec} (sub_ : Sub 36507222016 T) (reach_ : Reach T s₀ s) :
    Reach T s₀ (State.logPut s r) := by
  unfold State.logPut
  extract_lets +onlyGivenNames -merge -useContext v1
  split
  · exact (State.overwrote_reach (sub_.sub (by decide)) (Reach.set_gallery (sub_.sub (by decide)) reach_ (fun k => ⟨k.1, k.2, k.3, k.4⟩)))
  · exact (by
      extract_lets +onlyGivenNames -merge -useContext u2
      have hu2 : Reach T s₀ u2 := (State.dropped_reach (sub_.sub (by decide)) reach_)
      clear_value u2
      exact (Reach.ite (fun _ => (State.alcovePut_reach (sub_.sub (by decide)) hu2)) (fun _ => hu2)))

theorem State.archivePut_reach {T : Nat} {s₀ s : State} {r : CycRec} (sub_ : Sub 36507222016 T) (reach_ : Reach T s₀ s) :
    Reach T s₀ (State.archivePut s r) := by
  unfold State.archivePut
  extract_lets +onlyGivenNames -merge -useContext v1
  split
  · exact (State.overwrote_reach (sub_.sub (by decide)) (Reach.set_gallery (sub_.sub (by decide)) reach_ (fun k => ⟨k.1, k.2, k.3, k.4⟩)))
  · exact (State.dropped_reach (sub_.sub (by decide)) reach_)

theorem State.tracePut_reach {T : Nat} {s₀ s : State} {r : Trace} (sub_ : Sub 36507222016 T) (reach_ : Reach T s₀ s) :
    Reach T s₀ (State.tracePut s r) := by
  unfold State.tracePut
  extract_lets +onlyGivenNames -merge -useContext v1
  split
  · exact (State.overwrote_reach (sub_.sub (by decide)) (Reach.set_gallery (sub_.sub (by decide)) reach_ (fun k => ⟨k.1, k.2, k.3, k.4⟩)))
  · exact (State.dropped_reach (sub_.sub (by decide)) reach_)

theorem State.countDrop_reach {T : Nat} {s₀ s : State} {sev : Nat} (sub_ : Sub 2147483648 T) (reach_ : Reach T s₀ s) :
    Reach T s₀ (State.countDrop s sev) := by
  unfold State.countDrop
  exact Reach.set_gallery (sub_.sub (by decide)) reach_ (fun k => ⟨k.1, k.2, k.3, k.4⟩)

theorem State.stampLoss_reach {T : Nat} {s₀ s : State} {optime : Nat} (sub_ : Sub 2147483648 T) (reach_ : Reach T s₀ s) :
    Reach T s₀ (State.stampLoss s optime) := by
  unfold State.stampLoss
  exact Reach.set_gallery (sub_.sub (by decide)) reach_ (fun k => ⟨k.1, k.2, k.3, k.4⟩)

theorem State.countLoss_reach {T : Nat} {s₀ s : State} {sev optime : Nat} (sub_ : Sub 2147483648 T) (reach_ : Reach T s₀ s) :
    Reach T s₀ (State.countLoss s sev optime) := by
  unfold State.countLoss
  extract_lets +onlyGivenNames -merge -useContext u1
  have hu1 : Reach T s₀ u1 := (State.stampLoss_reach (sub_.sub (by decide)) (State.countDrop_reach (sub_.sub (by decide)) reach_))
  clear_value u1
  exact (Reach.set_gallery (sub_.sub (by decide)) hu1 (fun k => ⟨k.1, k.2, k.3, k.4⟩))

theorem State.numberCycle_reach {T : Nat} {s₀ s : State} {r : CycRec} (sub_ : Sub 2147483648 T) (reach_ : Reach T s₀ s) :
    Reach T s₀ (State.numberCycle s r).2 := by
  unfold State.numberCycle
  extract_lets +onlyGivenNames -merge -useContext v1
  exact (Reach.mk2 (Reach.set_gallery (sub_.sub (by decide)) reach_ (fun k => ⟨k.1, k.2, k.3, (List.length_set ..).trans k.4⟩)))

theorem State.notePause_reach {T : Nat} {s₀ s : State} {r : CycRec} (sub_ : Sub 2147483648 T) (reach_ : Reach T s₀ s) :
    Reach T s₀ (State.notePause s r) := by
  unfold State.notePause
  exact Reach.ite (fun _ => reach_) (fun _ => (by
    extract_lets +onlyGivenNames -merge -useContext v1
    exact (Reach.set_gallery (sub_.sub (by decide)) reach_ (fun k => ⟨k.1, k.2, k.3, k.4⟩))))

theorem State.takeCycle_reach {T : Nat} {s₀ s : State} {r : CycRec} (sub_ : Sub 2147483648 T) (reach_ : Reach T s₀ s) :
    Reach T s₀ (State.takeCycle s r) := by
  unfold State.takeCycle
  split
  rename_i u1 eu1
  have hu1 : Reach T s₀ u1 := Reach.of_eq eu1 (State.numberCycle_reach (sub_.sub (by decide)) reach_)
  exact (Reach.ite (fun _ => (State.notePause_reach (sub_.sub (by decide)) hu1)) (fun _ => (Reach.ite (fun _ => (Reach.set_gallery (sub_.sub (by decide)) hu1 (fun k => ⟨k.1, k.2, k.3, k.4⟩))) (fun _ => (State.countLoss_reach (sub_.sub (by decide)) hu1)))))

theorem State.intakeRefused_reach {T : Nat} {s₀ s : State} {e : Ev} (sub_ : Sub 2684354560 T) (reach_ : Reach T s₀ s) :
    Reach T s₀ (State.intakeRefused s e) := by
  unfold State.intakeRefused
  extract_lets +onlyGivenNames -merge -useContext v1
  have hv1 : Reach T s₀ v1 := (State.countLoss_reach (sub_.sub (by decide)) reach_)
  clear_value v1
  exact (Reach.ite (fun _ => hv1) (fun _ => (Reach.set_prog (sub_.sub (by decide)) hv1 (fun k => { k with }))))

theorem State.enqueue_reach {T : Nat} {s₀ s : State} {e : Ev} (sub_ : Sub 2684354560 T) (reach_ : Reach T s₀ s) :
    Reach T s₀ (State.enqueue s e) := by
  unfold State.enqueue
  extract_lets +onlyGivenNames -merge -useContext v1
  extract_lets +onlyGivenNames -merge -useContext v2
  exact (Reach.ite (fun _ => (by
    simp only [v1]
    exact (Reach.set_gallery (sub_.sub (by decide)) reach_ (fun k => ⟨k.1, k.2, k.3, k.4⟩)))) (fun _ => (by
    extract_lets +onlyGivenNames -merge -useContext v3
    exact (Reach.ite (fun _ => (by
      extract_lets +onlyGivenNames -merge -useContext v4
      extract_lets +onlyGivenNames -merge -useContext v5
      extract_lets +onlyGivenNames -merge -useContext v6
      extract_lets +onlyGivenNames -merge -useContext v7
      have hv7 : Reach T s₀ v7 := (Reach.set_gallery (sub_.sub (by decide)) reach_ (fun k => ⟨k.1, k.2, k.3, k.4⟩))
      clear_value v7
      simp only [v1]
      exact (Reach.set_gallery (sub_.sub (by decide)) (State.countLoss_reach (sub_.sub (by decide)) hv7) (fun k => ⟨k.1, k.2, k.3, k.4⟩)))) (fun _ => (Reach.ite (fun _ => (State.alcoveEvent_reach (sub_.sub (by decide)) reach_)) (fun _ => (State.intakeRefused_reach (sub_.sub (by decide)) reach_))))))))

theorem Ev.merge_length (e : Ev) (l : List EvRec) : (e.merge l).length = l.length := by
  induction l with
  | nil => rfl
  | cons r l ih =>
    unfold Ev.merge
    split
    · rfl
    · exact congrArg (· + 1) ih

theorem State.nativeIntake_reach {T : Nat} {s₀ s : State} {e : Ev} (sub_ : Sub 2684354560 T) (reach_ : Reach T s₀ s) :
    Reach T s₀ (State.nativeIntake s e) := by
  unfold State.nativeIntake
  exact Reach.ite (fun _ => (Reach.set_gallery (sub_.sub (by decide)) reach_ (fun k => ⟨Nat.le_trans (Nat.le_of_eq (Ev.merge_length ..)) k.1, k.2, k.3, k.4⟩))) (fun _ => (State.enqueue_reach (sub_.sub (by decide)) reach_))

theorem State.rateIntake_reach {T : Nat} {s₀ s : State} {e : Ev} (sub_ : Sub 2684354560 T) (reach_ : Reach T s₀ s) :
    Reach T s₀ (State.rateIntake s e) := by
  unfold State.rateIntake
  extract_lets +onlyGivenNames -merge -useContext v1
  exact (Reach.ite (fun _ => (State.enqueue_reach (sub_.sub (by decide)) reach_)) (fun _ => (by
  extract_lets +onlyGivenNames -merge -useContext v2
  extract_lets +onlyGivenNames -merge -useContext v3
  extract_lets +onlyGivenNames -merge -useContext v4
  exact (Reach.ite (fun _ => (by
  extract_lets +onlyGivenNames -merge -useContext v5
  extract_lets +onlyGivenNames -merge -useContext v6
  extract_lets +onlyGivenNames -merge -useContext u7
  have hu7 : Reach T s₀ u7 := (Reach.ite (fun _ => reach_) (fun _ => (State.stampLoss_reach (sub_.sub (by decide)) reach_)))
  clear_value u7
  extract_lets +onlyGivenNames -merge -useContext w_ u8
  have hu8 : Reach T s₀ u8 := (Reach.set_gallery (sub_.sub (by decide)) hu7 (fun k => ⟨k.1, k.2, k.3, k.4⟩))
  clear_value u8
  exact (State.enqueue_reach (sub_.sub (by decide)) hu8))) (fun _ => (Reach.set_gallery (sub_.sub (by decide)) reach_ (fun k => ⟨k.1, k.2, k.3, k.4⟩)))))))

theorem State.degradedIntake_reach {T : Nat} {s₀ s : State} {e : Ev} (sub_ : Sub 2147483648 T) (reach_ : Reach T s₀ s) :
    Reach T s₀ (State.degradedIntake s e) := by
  unfold State.degradedIntake
  exact (Reach.ite (fun _ => (State.alcoveEvent_reach (sub_.sub (by decide)) reach_)) (fun _ => (State.countDrop_reach (sub_.sub (by decide)) reach_)))

theorem State.intake_reach {T : Nat} {s₀ s : State} {e : Ev} (sub_ : Sub 2684354560 T) (reach_ : Reach T s₀ s) :
    Reach T s₀ (State.intake s e) := by
  unfold State.intake
  exact Reach.ite (fun _ => reach_) (fun _ => (Reach.ite (fun _ => (Reach.ite (fun _ => (State.alcoveEvent_reach (sub_.sub (by decide)) reach_)) (fun _ => (State.countDrop_reach (sub_.sub (by decide)) reach_)))) (fun _ => (Reach.ite (fun _ => (State.rateIntake_reach (sub_.sub (by decide)) reach_)) (fun _ => (State.nativeIntake_reach (sub_.sub (by decide)) reach_))))))

theorem State.linkWaiting_reach {T : Nat} {s₀ s : State} {r : EvRec} (sub_ : Sub 2147483648 T) (reach_ : Reach T s₀ s) :
    Reach T s₀ (State.linkWaiting s r) := by
  unfold State.linkWaiting
  extract_lets +onlyGivenNames -merge -useContext v1
  exact (Reach.set_gallery (sub_.sub (by decide)) reach_ (fun k => ⟨k.1, k.2, k.3, k.4⟩))

theorem State.linkEvent_reach {T : Nat} {s₀ s : State} {r : EvRec} (sub_ : Sub 2147483648 T) (reach_ : Reach T s₀ s) :
    Reach T s₀ (State.linkEvent s r) := by
  unfold State.linkEvent
  exact Reach.ite (fun _ => reach_) (fun _ => (by
    extract_lets +onlyGivenNames -merge -useContext v1
    exact (Reach.ite (fun _ => (Reach.set_gallery (sub_.sub (by decide)) reach_ (fun k => ⟨k.1, k.2, k.3, k.4⟩))) (fun _ => (Reach.set_gallery (sub_.sub (by decide)) reach_ (fun k => ⟨k.1, k.2, k.3, k.4⟩))))))

theorem State.closeRecord_reach {T : Nat} {s₀ s : State} {r : EvRec} (sub_ : Sub 2147483648 T) (reach_ : Reach T s₀ s) :
    Reach T s₀ (State.closeRecord s r) := by
  unfold State.closeRecord
  exact Reach.set_gallery (sub_.sub (by decide)) reach_ (fun k => ⟨Nat.le_trans List.length_erase_le k.1, k.2, k.3, k.4⟩)

theorem oldestOpen_mem {l : List EvRec} {r : EvRec} (h : oldestOpen l = some r) : r ∈ l := by
  induction l generalizing r with
  | nil => simp [oldestOpen] at h
  | cons x l ih =>
    simp only [oldestOpen] at h
    split at h
    · cases h
      exact List.mem_cons_self
    · split at h
      · cases h
        exact List.mem_cons_of_mem _ (ih ‹_›)
      · cases h
        exact List.mem_cons_self

theorem oldestOpen_none {l : List EvRec} (h : oldestOpen l = none) : l = [] := by
  cases l with
  | nil => rfl
  | cons x l =>
    simp only [oldestOpen] at h
    split at h
    · cases h
    · split at h <;> cases h

theorem State.linkEvent_openTab (s : State) (r : EvRec) : (s.linkEvent r).gallery.openTab = s.gallery.openTab := by
  unfold State.linkEvent
  split
  · rfl
  · extract_lets
    split <;> rfl

theorem State.modArea_openTab (s : State) (a : Nat) (f : AreaSt → AreaSt) :
    (s.modArea a f).gallery.openTab = s.gallery.openTab := by
  unfold State.modArea
  dsimp only
  split
  · rfl
  · split <;> rfl

theorem State.takeEvent_reach {T : Nat} {s₀ s : State} (sub_ : Sub 2147483648 T) (reach_ : Reach T s₀ s) :
    Reach T s₀ (State.takeEvent s) := by
  unfold State.takeEvent
  split
  · exact reach_
  · rename_i e rest _
    have key : ∀ u, Reach T s₀ u → Reach T s₀
        (({ (u.takeSeq 1).2 with gallery := { (u.takeSeq 1).2.gallery with queue := rest } }).linkEvent
          (e.toRec (u.takeSeq 1).1 (u.takeSeq 1).2.gallery.powerCycles (u.takeSeq 1).2.gallery.timeEst)) := fun u hu =>
      State.linkEvent_reach (sub_.sub (by decide)) (Reach.set_gallery (sub_.sub (by decide))
        (State.takeSeq_reach (sub_.sub (by decide)) hu) (fun k => ⟨k.1, k.2, k.3, k.4⟩))
    refine Reach.ite (fun _ => reach_) (fun _ => ?_)
    dsimp only
    refine Reach.ite (fun _ => Reach.ite (fun _ => ?_) (fun _ => reach_)) (fun _ => Reach.ite (fun room => ?_) (fun _ => reach_))
    · exact Reach.set_gallery (sub_.sub (by decide)) (key s reach_) (fun k => ⟨k.1, k.2, k.3, k.4⟩)
    · have closed : Reach T s₀ (if s.gallery.openTab.length < 64 then s else match oldestOpen s.gallery.openTab with
          | none => s
          | some o => s.closeRecord o) := by
        refine Reach.ite (fun _ => reach_) (fun _ => ?_)
        split
        · exact reach_
        · exact State.closeRecord_reach (sub_.sub (by decide)) reach_
      have short : s₀.Sound → (if s.gallery.openTab.length < 64 then s else match oldestOpen s.gallery.openTab with
          | none => s
          | some o => s.closeRecord o).gallery.openTab.length < 64 := by
        intro sound
        split
        · assumption
        · split
          · rename_i none
            rw [oldestOpen_none none]
            decide
          · rename_i r some
            show (s.gallery.openTab.erase r).length < 64
            have full := (reach_.sound sound).gallery.openTab
            have less := List.length_erase_of_mem (oldestOpen_mem some)
            have pos := List.length_pos_of_mem (oldestOpen_mem some)
            omega
      revert closed short
      generalize (if s.gallery.openTab.length < 64 then s else match oldestOpen s.gallery.openTab with
          | none => s
          | some o => s.closeRecord o) = u
      intro closed short
      have hk := key u closed
      refine Reach.put_gallery (sub_.sub (by decide)) hk (fun k => ?_)
      have b := (hk.sound k).gallery
      refine ⟨?_, b.2, b.3, b.4⟩
      rw [List.length_append, State.linkEvent_openTab]
      have e : (u.takeSeq 1).2.gallery.openTab = u.gallery.openTab := State.modArea_openTab ..
      show (u.takeSeq 1).2.gallery.openTab.length + 1 ≤ 64
      rw [e]
      exact short k

theorem State.takeCycleEntry_reach {T : Nat} {s₀ s : State} (sub_ : Sub 2147483648 T) (reach_ : Reach T s₀ s) :
    Reach T s₀ (State.takeCycleEntry s) := by
  unfold State.takeCycleEntry
  split
  · exact reach_
  · exact (Reach.ite (fun _ => (by
      split
      rename_i u1 eu1
      have hu1 : Reach T s₀ u1 := Reach.of_eq eu1 (State.takeSeq_reach (sub_.sub (by decide)) reach_)
      exact (Reach.set_gallery (sub_.sub (by decide)) hu1 (fun k => ⟨k.1, k.2, k.3, k.4⟩)))) (fun _ => reach_))

theorem State.closeWhile_reach {T : Nat} {s₀ s : State} {p : EvRec → Bool} (sub_ : Sub 2147483648 T)
    (reach_ : Reach T s₀ s) :
    Reach T s₀ (State.closeWhile s p) := by
  unfold State.closeWhile
  exact Reach.foldl _ reach_ (fun u1 _ hu1 => (Reach.ite (fun _ => (State.closeRecord_reach (sub_.sub (by decide)) hu1)) (fun _ => hu1)))

theorem State.floodChanged_reach {T : Nat} {s₀ s : State} {old : BitVec 32} (sub_ : Sub 2147483648 T)
    (reach_ : Reach T s₀ s) :
    Reach T s₀ (State.floodChanged s old) := by
  unfold State.floodChanged
  exact (Reach.ite (fun _ => reach_) (fun _ => (by
    extract_lets +onlyGivenNames -merge -useContext v1
    exact (State.closeWhile_reach (sub_.sub (by decide)) (Reach.set_gallery (sub_.sub (by decide)) reach_ (fun k => ⟨Nat.le_trans (Nat.le_of_eq (List.length_map ..)) k.1, k.2, k.3, k.4⟩))))))

theorem State.floodWrite_reach {T : Nat} {s₀ s : State} {v : BitVec 32} (sub_ : Sub 2147483652 T) (reach_ : Reach T s₀ s) :
    Reach T s₀ (State.floodWrite s v) := by
  unfold State.floodWrite
  exact (State.floodChanged_reach (sub_.sub (by decide)) (State.setPar_reach (sub_.sub (by decide)) reach_))

theorem State.alcoveClear_reach {T : Nat} {s₀ s : State} (sub_ : Sub 36507222016 T) (reach_ : Reach T s₀ s) :
    Reach T s₀ (State.alcoveClear s) := by
  unfold State.alcoveClear
  extract_lets +onlyGivenNames -merge -useContext v1
  extract_lets +onlyGivenNames -merge -useContext w_ u2
  have hu2 : Reach T s₀ u2 := (Reach.set_gallery (sub_.sub (by decide)) reach_ (fun k => ⟨k.1, k.2, k.3, k.4⟩))
  clear_value u2
  exact (State.record_reach (sub_.sub (by decide)) hu2)

theorem State.modStaging_reach {T : Nat} {s₀ s : State} {f : Nat} {g : Staging → Staging} (sub_ : Sub 2147483648 T) (reach_ :
    Reach T s₀ s) :
    Reach T s₀ (State.modStaging s f g) := by
  unfold State.modStaging
  exact Reach.set_gallery (sub_.sub (by decide)) reach_ (fun k => ⟨k.1, k.2, (List.length_modify ..).trans k.3, k.4⟩)

theorem State.waitEvent_reach {T : Nat} {s₀ s : State} {r : EvRec} (sub_ : Sub 2147483648 T) (reach_ : Reach T s₀ s) :
    Reach T s₀ (State.waitEvent s r) := by
  unfold State.waitEvent
  exact (Reach.set_gallery (sub_.sub (by decide)) reach_ (fun k => ⟨k.1, k.2, k.3, k.4⟩))

theorem State.takeMirror_reach {T : Nat} {s₀ s : State} (sub_ : Sub 2147483648 T) (reach_ : Reach T s₀ s) :
    Reach T s₀ (State.takeMirror s) := by
  unfold State.takeMirror
  extract_lets +onlyGivenNames -merge -useContext v1
  extract_lets +onlyGivenNames -merge -useContext v2
  have hv2 : Reach T s₀ v2 := (Reach.set_gallery (sub_.sub (by decide)) reach_ (fun k => ⟨k.1, k.2, k.3, k.4⟩))
  clear_value v2
  extract_lets +onlyGivenNames -merge -useContext v3
  have hv3 : Reach T s₀ v3 := (Reach.foldl _ hv2 (fun u4 _ hu6 => (by
    split
    rename_i a7 t7 e7
    have ht7 : Reach T s₀ t7 := Reach.of_eq e7 (State.takeSeq_reach (sub_.sub (by decide)) hu6)
    exact (Reach.set_gallery (sub_.sub (by decide)) ht7 (fun k => ⟨k.1, k.2, k.3, k.4⟩)))))
  clear_value v3
  exact (Reach.foldl _ hv3 (fun u8 _ hu10 => (by
    split
    rename_i a11 t11 e11
    have ht11 : Reach T s₀ t11 := Reach.of_eq e11 (State.takeSeq_reach (sub_.sub (by decide)) hu10)
    extract_lets +onlyGivenNames -merge -useContext v12
    exact (State.linkWaiting_reach (sub_.sub (by decide)) (State.waitEvent_reach (sub_.sub (by decide)) ht11)))))

theorem State.gather_reach {T : Nat} {s₀ s : State} {loss : Option EvRec} (sub_ : Sub 2147483648 T) (reach_ : Reach T s₀ s) :
    Reach T s₀ (State.gather s loss) := by
  unfold State.gather
  extract_lets +onlyGivenNames -merge -useContext v1
  have hv1 : Reach T s₀ v1 := (State.takeMirror_reach (sub_.sub (by decide)) reach_)
  clear_value v1
  extract_lets +onlyGivenNames -merge -useContext v2
  extract_lets +onlyGivenNames -merge -useContext v3
  have hv3 : Reach T s₀ v3 := (Reach.set_gallery (sub_.sub (by decide)) hv1 (fun k => ⟨k.1, k.2, k.3, k.4⟩))
  clear_value v3
  extract_lets +onlyGivenNames -merge -useContext v4
  have hv4 : Reach T s₀ v4 := (by
    unfold v4
    split
    · exact hv3
    · split
      rename_i a5 t5 e5
      have ht5 : Reach T s₀ t5 := Reach.of_eq e5 (State.takeSeq_reach (sub_.sub (by decide)) hv3)
      exact (State.waitEvent_reach (sub_.sub (by decide)) ht5))
  clear_value v4
  exact (Reach.set_gallery (sub_.sub (by decide)) hv4 (fun k => ⟨Nat.zero_le _, k.2, k.3, k.4⟩))

theorem State.flushWait_reach {T : Nat} {s₀ s : State} (sub_ : Sub 36507222016 T) (reach_ : Reach T s₀ s) :
    Reach T s₀ (State.flushWait s) := by
  unfold State.flushWait
  extract_lets +onlyGivenNames -merge -useContext v1
  extract_lets +onlyGivenNames -merge -useContext v2
  have hv2 : Reach T s₀ v2 := (Reach.set_gallery (sub_.sub (by decide)) reach_ (fun k => ⟨k.1, k.2, k.3, k.4⟩))
  clear_value v2
  exact (Reach.foldl _ (Reach.foldl _ hv2 (fun u3 _ hu5 => (State.logPut_reach (sub_.sub (by decide)) hu5))) (fun u6 _ hu8 => (State.archivePut_reach (sub_.sub (by decide)) hu8)))

theorem State.recoverStore_reach {T : Nat} {s₀ s : State} (sub_ : Sub 36507222016 T) (reach_ : Reach T s₀ s) :
    Reach T s₀ (State.recoverStore s) := by
  unfold State.recoverStore
  exact (Reach.ite (fun _ => (by
    extract_lets +onlyGivenNames -merge -useContext v1
    have hv1 : Reach T s₀ v1 := (Reach.foldl _ reach_ (fun u2 _ hu4 => (Reach.ite (fun _ => hu4) (fun _ => (by
      split
      rename_i a5 t5 e5
      have ht5 : Reach T s₀ t5 := Reach.of_eq e5 (State.takeSeq_reach (sub_.sub (by decide)) hu4)
      exact (State.waitEvent_reach (sub_.sub (by decide)) ht5))))))
    clear_value v1
    extract_lets +onlyGivenNames -merge -useContext v6
    extract_lets +onlyGivenNames -merge -useContext v7
    have hv7 : Reach T s₀ v7 := (Reach.set_gallery (sub_.sub (by decide)) hv1 (fun k => ⟨k.1, k.2, k.3, k.4⟩))
    clear_value v7
    exact (State.record_reach (sub_.sub (by decide)) hv7))) (fun _ => reach_))

theorem State.rebuildCounters_reach {T : Nat} {s₀ s : State} (sub_ : Sub 2147483648 T) (reach_ : Reach T s₀ s) :
    Reach T s₀ (State.rebuildCounters s) := by
  unfold State.rebuildCounters
  extract_lets +onlyGivenNames -merge -useContext v1
  extract_lets +onlyGivenNames -merge -useContext v2
  extract_lets +onlyGivenNames -merge -useContext v3
  extract_lets +onlyGivenNames -merge -useContext v4
  exact (Reach.set_gallery (sub_.sub (by decide)) reach_ (fun k => ⟨k.1, k.2, k.3, rfl⟩))

end Sys2Proof.Machine
end

