-- ==== Sys2Proof/Laws/Frame/ObstacleOps.lean ====
section
/-! SUPPORT. What the operations of Machine/ObstacleOps.lean may change: one lemma for each, whose mask names the fields. -/

set_option Elab.async false

namespace Sys2Proof.Machine

theorem State.finishCommission_reach {T : Nat} {s₀ s : State} {f : Nat} (sub_ : Sub 36511416320 T) (reach_ : Reach T s₀ s) :
    Reach T s₀ (State.finishCommission s f) := by
  unfold State.finishCommission
  extract_lets +onlyGivenNames -merge -useContext v1
  split
  · exact (Reach.ite (fun _ => (State.record_reach (sub_.sub (by decide)) (State.modObs_reach (sub_.sub (by decide)) reach_))) (fun _ => (by
      extract_lets +onlyGivenNames -merge -useContext v2
      extract_lets +onlyGivenNames -merge -useContext v3
      extract_lets +onlyGivenNames -merge -useContext v4
      exact (State.record_reach (sub_.sub (by decide)) (State.modObs_reach (sub_.sub (by decide)) reach_)))))

theorem State.obstCycleEnd_reach {T : Nat} {s₀ s : State} {f : Nat} {closed : Bool} (sub_ : Sub 36511416320 T)
    (reach_ : Reach
    T s₀ s) :
    Reach T s₀ (State.obstCycleEnd s f closed) := by
  unfold State.obstCycleEnd
  extract_lets +onlyGivenNames -merge -useContext v1
  extract_lets +onlyGivenNames -merge -useContext v2
  extract_lets +onlyGivenNames -merge -useContext u3
  have hu3 : Reach T s₀ u3 := (State.modObs_reach (sub_.sub (by decide)) reach_)
  clear_value u3
  exact (Reach.ite (fun _ => (State.modObs_reach (sub_.sub (by decide)) hu3)) (fun _ => (Reach.ite (fun _ => (by
  extract_lets +onlyGivenNames -merge -useContext u4
  have hu4 : Reach T s₀ u4 := (State.modObs_reach (sub_.sub (by decide)) hu3)
  clear_value u4
  exact (Reach.ite (fun _ => (State.finishCommission_reach (sub_.sub (by decide)) hu4)) (fun _ => hu4)))) (fun _ => hu3))))

theorem State.mapInvalid_reach {T : Nat} {s₀ s : State} {f : Nat} (sub_ : Sub 36511416320 T) (reach_ : Reach T s₀ s) :
    Reach T s₀ (State.mapInvalid s f) := by
  unfold State.mapInvalid
  exact State.record_reach (sub_.sub (by decide)) (State.modObs_reach (sub_.sub (by decide)) reach_)

theorem State.beginStroke_reach {T : Nat} {s₀ s : State} {f : Nat} {closing : Bool} (sub_ : Sub 4194304 T)
    (reach_ : Reach T s₀
    s) :
    Reach T s₀ (State.beginStroke s f closing) := by
  unfold State.beginStroke
  exact State.modObs_reach (sub_.sub (by decide)) reach_

theorem State.endStroke_reach {T : Nat} {s₀ s : State} {f : Nat} (sub_ : Sub 4194304 T) (reach_ : Reach T s₀ s) :
    Reach T s₀ (State.endStroke s f) := by
  unfold State.endStroke
  exact State.modObs_reach (sub_.sub (by decide)) reach_

theorem State.commission_reach {T : Nat} {s₀ s : State} {f : Nat} {v : BitVec 32} (sub_ : Sub 4194304 T)
    (reach_ : Reach T s₀ s) :
    Reach T s₀ (State.commission s f v).2 := by
  unfold State.commission
  extract_lets +onlyGivenNames -merge -useContext v1
  exact (Reach.ite2 (fun _ => (Reach.ite2 (fun _ => (Reach.mk2 reach_)) (fun _ => (Reach.mk2 (State.modObs_reach (sub_.sub (by decide)) reach_))))) (fun _ => (Reach.ite2 (fun _ => (Reach.ite2 (fun _ => (Reach.mk2 (State.modObs_reach (sub_.sub (by decide)) reach_))) (fun _ => (Reach.mk2 reach_)))) (fun _ => (Reach.mk2 reach_)))))

theorem State.mapRestore_reach {T : Nat} {s₀ s : State} {f : Nat} {v : BitVec 32} (sub_ : Sub 36511416320 T)
    (reach_ : Reach T
    s₀ s) :
    Reach T s₀ (State.mapRestore s f v).2 := by
  unfold State.mapRestore
  extract_lets +onlyGivenNames -merge -useContext v1
  exact (Reach.ite2 (fun _ => (Reach.mk2 reach_)) (fun _ => (Reach.ite2 (fun _ => (Reach.mk2 reach_)) (fun _ => (Reach.mk2 (State.record_reach (sub_.sub (by decide)) (State.modObs_reach (sub_.sub (by decide)) reach_)))))))

theorem State.tempIn_reach {T : Nat} {s₀ s : State} {f : Nat} {v : BitVec 32} (sub_ : Sub 4194308 T)
    (reach_ : Reach T s₀ s) :
    Reach T s₀ (State.tempIn s f v).2 := by
  unfold State.tempIn
  exact Reach.mk2 (State.modObs_reach (sub_.sub (by decide)) (State.setPar_reach (sub_.sub (by decide)) reach_))

theorem State.modCyc_reach {T : Nat} {s₀ s : State} {f : Nat} {g : CycAcc → CycAcc} (sub_ : Sub 2147483648 T)
    (reach_ : Reach T
    s₀ s) :
    Reach T s₀ (State.modCyc s f g) := by
  unfold State.modCyc
  exact Reach.set_gallery (sub_.sub (by decide)) reach_ (fun k => ⟨k.1, k.2, k.3, k.4⟩)

theorem State.sendCycle_reach {T : Nat} {s₀ s : State} {r : CycRec} (sub_ : Sub 2147483648 T) (reach_ : Reach T s₀ s) :
    Reach T s₀ (State.sendCycle s r) := by
  unfold State.sendCycle
  exact Reach.ite (fun _ => (State.takeCycle_reach (sub_.sub (by decide)) reach_)) (fun _ => (Reach.ite (fun _ => (Reach.set_gallery (sub_.sub (by decide)) reach_ (fun k => ⟨k.1, k.2, k.3, k.4⟩))) (fun _ => (Reach.set_gallery (sub_.sub (by decide)) reach_ (fun k => ⟨k.1, k.2, k.3, k.4⟩)))))

theorem State.endCycle_reach {T : Nat} {s₀ s : State} {f endState : Nat} (sub_ : Sub 36511416320 T) (reach_ : Reach T s₀ s) :
    Reach T s₀ (State.endCycle s f endState) := by
  unfold State.endCycle
  extract_lets +onlyGivenNames -merge -useContext u1
  have hu1 : Reach T s₀ u1 := (State.obstCycleEnd_reach (sub_.sub (by decide)) reach_)
  clear_value u1
  extract_lets +onlyGivenNames -merge -useContext u2
  have hu2 : Reach T s₀ u2 := (State.sendCycle_reach (sub_.sub (by decide)) hu1)
  clear_value u2
  exact (State.modCyc_reach (sub_.sub (by decide)) hu2)

theorem State.traceEnd_reach {T : Nat} {s₀ s : State} {f : Nat} (sub_ : Sub 2147483648 T) (reach_ : Reach T s₀ s) :
    Reach T s₀ (State.traceEnd s f) := by
  unfold State.traceEnd
  extract_lets +onlyGivenNames -merge -useContext v1
  extract_lets +onlyGivenNames -merge -useContext v2
  extract_lets +onlyGivenNames -merge -useContext v3
  extract_lets +onlyGivenNames -merge -useContext v4
  extract_lets +onlyGivenNames -merge -useContext v5
  extract_lets +onlyGivenNames -merge -useContext v6
  extract_lets +onlyGivenNames -merge -useContext v7
  extract_lets +onlyGivenNames -merge -useContext w_ v8
  extract_lets +onlyGivenNames -merge -useContext u9
  have hu9 : Reach T s₀ u9 := (State.modStaging_reach (sub_.sub (by decide)) reach_)
  clear_value u9
  exact (Reach.ite (fun _ => (State.modCyc_reach (sub_.sub (by decide)) hu9)) (fun _ => hu9))

theorem State.traceOver_reach {T : Nat} {s₀ s : State} {f : Nat} {kind : Option Nat} (sub_ : Sub 2147483648 T)
    (reach_ : Reach T s₀ s) :
    Reach T s₀ (State.traceOver s f kind) := by
  unfold State.traceOver
  extract_lets +onlyGivenNames -merge -useContext v1
  exact (Reach.ite (fun _ => (State.traceEnd_reach (sub_.sub (by decide)) reach_)) (fun _ => reach_))

end Sys2Proof.Machine
end

