-- ==== Sys2Proof/Laws/Frame/DoorOps.lean ====
section
/-! SUPPORT. What the operations of Machine/DoorOps.lean may change: one lemma for each, whose mask names the fields. -/

set_option Elab.async false

namespace Sys2Proof.Machine

theorem State.setDoor_reach {T : Nat} {s₀ s : State} {f : Nat} {g : Door → Door} (sub_ : Sub 2097152 T)
    (reach_ : Reach T s₀ s) :
    Reach T s₀ (State.setDoor s f g) := by
  unfold State.setDoor
  exact State.modDoor_reach (sub_.sub (by decide)) reach_

theorem State.holdHere_reach {T : Nat} {s₀ s : State} {a : Nat} (sub_ : Sub 1048576 T) (reach_ : Reach T s₀ s) :
    Reach T s₀ (State.holdHere s a) := by
  unfold State.holdHere
  exact State.seqCmd_reach (sub_.sub (by decide)) reach_

theorem State.stopMoving_reach {T : Nat} {s₀ s : State} {a : Nat} (sub_ : Sub 1048576 T) (reach_ : Reach T s₀ s) :
    Reach T s₀ (State.stopMoving s a) := by
  unfold State.stopMoving
  exact (Reach.ite (fun _ => reach_) (fun _ => (State.seqCmd_reach (sub_.sub (by decide)) reach_)))

theorem State.enterLock_reach {T : Nat} {s₀ s : State} {f : Nat} {st : LockState} (sub_ : Sub 2097152 T)
    (reach_ : Reach T s₀ s) :
    Reach T s₀ (State.enterLock s f st) := by
  unfold State.enterLock
  exact State.setDoor_reach (sub_.sub (by decide)) reach_

theorem State.lockEngage_reach {T : Nat} {s₀ s : State} {f : Nat} (sub_ : Sub 3145728 T) (reach_ : Reach T s₀ s) :
    Reach T s₀ (State.lockEngage s f) := by
  unfold State.lockEngage
  extract_lets +onlyGivenNames -merge -useContext u1
  have hu1 : Reach T s₀ u1 := (State.seqCmd_reach (sub_.sub (by decide)) reach_)
  clear_value u1
  exact (Reach.ite (fun _ => hu1) (fun _ => (State.enterLock_reach (sub_.sub (by decide)) hu1)))

theorem State.lockRelease_reach {T : Nat} {s₀ s : State} {f : Nat} (sub_ : Sub 3145728 T) (reach_ : Reach T s₀ s) :
    Reach T s₀ (State.lockRelease s f).2 := by
  unfold State.lockRelease
  extract_lets +onlyGivenNames -merge -useContext v1
  exact (Reach.ite2 (fun _ => (Reach.mk2 reach_)) (fun _ => (Reach.mk2 (State.enterLock_reach (sub_.sub (by decide)) (State.seqCmd_reach (sub_.sub (by decide)) reach_)))))

theorem State.lockReset_reach {T : Nat} {s₀ s : State} {f : Nat} (sub_ : Sub 2097152 T) (reach_ : Reach T s₀ s) :
    Reach T s₀ (State.lockReset s f).2 := by
  unfold State.lockReset
  exact Reach.ite2 (fun _ => (Reach.mk2 (State.enterLock_reach (sub_.sub (by decide)) reach_))) (fun _ => (Reach.mk2 reach_))

theorem State.lockFails_reach {T : Nat} {s₀ s : State} {f : Nat} {lost : Bool} (sub_ : Sub 3145728 T)
    (reach_ : Reach T s₀ s) :
    Reach T s₀ (State.lockFails s f lost) := by
  unfold State.lockFails
  exact (State.setDoor_reach (sub_.sub (by decide)) (State.enterLock_reach (sub_.sub (by decide)) (State.seqCmd_reach (sub_.sub (by decide)) reach_)))

theorem State.lockEval_reach {T : Nat} {s₀ s : State} {f : Nat} (sub_ : Sub 3145728 T) (reach_ : Reach T s₀ s) :
    Reach T s₀ (State.lockEval s f) := by
  unfold State.lockEval
  split
  · exact (Reach.ite (fun _ => (State.enterLock_reach (sub_.sub (by decide)) reach_)) (fun _ => reach_))
  · exact (Reach.ite (fun _ => (State.lockEngage_reach (sub_.sub (by decide)) reach_)) (fun _ => (Reach.ite (fun _ => (State.enterLock_reach (sub_.sub (by decide)) reach_)) (fun _ => reach_))))
  · exact (Reach.ite (fun _ => (State.lockEngage_reach (sub_.sub (by decide)) reach_)) (fun _ => reach_))
  · exact (Reach.ite (fun _ => reach_) (fun _ => (State.lockFails_reach (sub_.sub (by decide)) reach_)))
  · exact reach_

theorem State.engageStep_reach {T : Nat} {s₀ s : State} {f : Nat} {opening reversal : Bool} (sub_ : Sub 1048576 T)
    (reach_ : Reach T s₀ s) :
    Reach T s₀ (State.engageStep s f opening reversal) := by
  unfold State.engageStep
  split
  · exact reach_
  · split
    · exact (State.seqCmd_reach (sub_.sub (by decide)) reach_)

theorem State.enterStep_reach {T : Nat} {s₀ s : State} {f : Nat} {st : StepState} (sub_ : Sub 2097152 T)
    (reach_ : Reach T s₀ s) :
    Reach T s₀ (State.enterStep s f st) := by
  unfold State.enterStep
  exact State.setDoor_reach (sub_.sub (by decide)) reach_

theorem State.moveStep_reach {T : Nat} {s₀ s : State} {f : Nat} {extend : Bool} (sub_ : Sub 1048576 T) (reach_ : Reach T s₀
    s) :
    Reach T s₀ (State.moveStep s f extend) := by
  unfold State.moveStep
  exact State.seqCmd_reach (sub_.sub (by decide)) reach_

theorem State.stepExtend_reach {T : Nat} {s₀ s : State} {f : Nat} (sub_ : Sub 3145728 T) (reach_ : Reach T s₀ s) :
    Reach T s₀ (State.stepExtend s f).2 := by
  unfold State.stepExtend
  exact Reach.ite2 (fun _ => (Reach.mk2 reach_)) (fun _ => (by
    split
    · exact (Reach.mk2 (State.moveStep_reach (sub_.sub (by decide)) (State.enterStep_reach (sub_.sub (by decide)) reach_)))
    · exact (Reach.mk2 (State.moveStep_reach (sub_.sub (by decide)) (State.enterStep_reach (sub_.sub (by decide)) reach_)))
    · exact (Reach.mk2 (State.moveStep_reach (sub_.sub (by decide)) (State.enterStep_reach (sub_.sub (by decide)) reach_)))
    · exact (Reach.mk2 reach_)
    · exact (Reach.mk2 reach_)
    · exact (Reach.mk2 reach_)))

theorem State.modRef_reach {T : Nat} {s₀ s : State} {f : Nat} {g : RefRun → RefRun} (sub_ : Sub 2097152 T)
    (reach_ : Reach T s₀
    s) :
    Reach T s₀ (State.modRef s f g) := by
  unfold State.modRef
  exact State.setDoor_reach (sub_.sub (by decide)) reach_

theorem State.startPart_reach {T : Nat} {s₀ s : State} {f : Nat} {step : Bool} (sub_ : Sub 2097152 T)
    (reach_ : Reach T s₀ s) :
    Reach T s₀ (State.startPart s f step) := by
  unfold State.startPart
  extract_lets +onlyGivenNames -merge -useContext v1
  extract_lets +onlyGivenNames -merge -useContext u2
  have hu2 : Reach T s₀ u2 := (State.modRef_reach (sub_.sub (by decide)) reach_)
  clear_value u2
  extract_lets +onlyGivenNames -merge -useContext u3
  have hu3 : Reach T s₀ u3 := (State.modRef_reach (sub_.sub (by decide)) hu2)
  clear_value u3
  exact (Reach.ite (fun _ => (State.enterStep_reach (sub_.sub (by decide)) hu3)) (fun _ => hu3))

theorem State.startRun_reach {T : Nat} {s₀ s : State} {f : Nat} {single : Option Nat} {service : Bool} (sub_ : Sub 2097152 T)
    (reach_ : Reach T s₀ s) :
    Reach T s₀ (State.startRun s f single service) := by
  unfold State.startRun
  extract_lets +onlyGivenNames -merge -useContext w_ u1
  have hu1 : Reach T s₀ u1 := (State.modRef_reach (sub_.sub (by decide)) reach_)
  clear_value u1
  exact (State.startPart_reach (sub_.sub (by decide)) hu1)

theorem State.abortRun_reach {T : Nat} {s₀ s : State} {f : Nat} {code : Nat} (sub_ : Sub 36510367744 T)
    (reach_ : Reach T s₀ s) :
    Reach T s₀ (State.abortRun s f code) := by
  unfold State.abortRun
  extract_lets +onlyGivenNames -merge -useContext v1
  exact (Reach.ite (fun _ => reach_) (fun _ => (by
  extract_lets +onlyGivenNames -merge -useContext v2
  extract_lets +onlyGivenNames -merge -useContext u3
  have hu3 : Reach T s₀ u3 := (State.seqCmd_reach (sub_.sub (by decide)) (State.seqCmd_reach (sub_.sub (by decide)) reach_))
  clear_value u3
  extract_lets +onlyGivenNames -merge -useContext u4
  have hu4 : Reach T s₀ u4 := (State.modAxis_reach (sub_.sub (by decide)) hu3)
  clear_value u4
  extract_lets +onlyGivenNames -merge -useContext u5
  have hu5 : Reach T s₀ u5 := (State.modRef_reach (sub_.sub (by decide)) hu4)
  clear_value u5
  extract_lets +onlyGivenNames -merge -useContext u6
  have hu6 : Reach T s₀ u6 := (Reach.ite (fun _ => (State.enterStep_reach (sub_.sub (by decide)) hu5)) (fun _ => hu5))
  clear_value u6
  split
  · exact hu6
  · exact (State.record_reach (sub_.sub (by decide)) hu6))))

theorem State.enterDoor_reach {T : Nat} {s₀ s : State} {f : Nat} {st : DoorState} (sub_ : Sub 36514566144 T)
    (reach_ : Reach T s₀ s) :
    Reach T s₀ (State.enterDoor s f st) := by
  unfold State.enterDoor
  extract_lets +onlyGivenNames -merge -useContext v1
  extract_lets +onlyGivenNames -merge -useContext v2
  have hv2 : Reach T s₀ v2 := (State.modCyc_reach (sub_.sub (by decide)) reach_)
  clear_value v2
  extract_lets +onlyGivenNames -merge -useContext v3
  extract_lets +onlyGivenNames -merge -useContext v4
  extract_lets +onlyGivenNames -merge -useContext v5
  extract_lets +onlyGivenNames -merge -useContext v6
  have hv6 : Reach T s₀ v6 := (Reach.ite (fun _ => (State.lockEngage_reach (sub_.sub (by decide)) hv2)) (fun _ => hv2))
  clear_value v6
  extract_lets +onlyGivenNames -merge -useContext v7
  have hv7 : Reach T s₀ v7 := (Reach.ite (fun _ => (State.modFpower_reach (sub_.sub (by decide)) hv6)) (fun _ => hv6))
  clear_value v7
  extract_lets +onlyGivenNames -merge -useContext v8
  have hv8 : Reach T s₀ v8 := (State.setDoor_reach (sub_.sub (by decide)) hv7)
  clear_value v8
  extract_lets +onlyGivenNames -merge -useContext v9
  have hv9 : Reach T s₀ v9 := (State.traceOver_reach (sub_.sub (by decide)) (Reach.ite (fun _ => hv8) (fun _ => (State.endStroke_reach (sub_.sub (by decide)) hv8))))
  clear_value v9
  exact (Reach.ite (fun _ => (State.endCycle_reach (sub_.sub (by decide)) hv9)) (fun _ => hv9))

theorem State.stepHalt_reach {T : Nat} {s₀ s : State} {f : Nat} (sub_ : Sub 2097152 T) (reach_ : Reach T s₀ s) :
    Reach T s₀ (State.stepHalt s f) := by
  unfold State.stepHalt
  split
  · exact (State.enterStep_reach (sub_.sub (by decide)) reach_)
  · exact (State.enterStep_reach (sub_.sub (by decide)) reach_)
  · exact reach_

theorem State.doorFault_reach {T : Nat} {s₀ s : State} {f cause extra : Nat} (sub_ : Sub 36514566144 T)
    (reach_ : Reach T s₀ s) :
    Reach T s₀ (State.doorFault s f cause extra) := by
  unfold State.doorFault
  extract_lets +onlyGivenNames -merge -useContext v1
  have hv1 : Reach T s₀ v1 := (State.abortRun_reach (sub_.sub (by decide)) reach_)
  clear_value v1
  extract_lets +onlyGivenNames -merge -useContext v2
  have hv2 : Reach T s₀ v2 := (State.lockEngage_reach (sub_.sub (by decide)) (State.stepHalt_reach (sub_.sub (by decide)) (State.stopMoving_reach (sub_.sub (by decide)) (State.stopMoving_reach (sub_.sub (by decide)) hv1))))
  clear_value v2
  extract_lets +onlyGivenNames -merge -useContext v3
  have hv3 : Reach T s₀ v3 := (State.setDoor_reach (sub_.sub (by decide)) hv2)
  clear_value v3
  extract_lets +onlyGivenNames -merge -useContext v4
  have hv4 : Reach T s₀ v4 := (State.enterDoor_reach (sub_.sub (by decide)) hv3)
  clear_value v4
  exact (State.record_reach (sub_.sub (by decide)) hv4)

theorem State.isolate_reach {T : Nat} {s₀ s : State} {f : Nat} (sub_ : Sub 36514566144 T) (reach_ : Reach T s₀ s) :
    Reach T s₀ (State.isolate s f) := by
  unfold State.isolate
  extract_lets +onlyGivenNames -merge -useContext v1
  have hv1 : Reach T s₀ v1 := (State.abortRun_reach (sub_.sub (by decide)) reach_)
  clear_value v1
  extract_lets +onlyGivenNames -merge -useContext v2
  have hv2 : Reach T s₀ v2 := (State.lockEngage_reach (sub_.sub (by decide)) (State.stepHalt_reach (sub_.sub (by decide)) (State.seqCmd_reach (sub_.sub (by decide)) (State.seqCmd_reach (sub_.sub (by decide)) hv1))))
  clear_value v2
  exact (State.record_reach (sub_.sub (by decide)) (State.enterDoor_reach (sub_.sub (by decide)) hv2))

theorem State.egress_reach {T : Nat} {s₀ s : State} {f : Nat} (sub_ : Sub 36514566144 T) (reach_ : Reach T s₀ s) :
    Reach T s₀ (State.egress s f) := by
  unfold State.egress
  extract_lets +onlyGivenNames -merge -useContext v1
  have hv1 : Reach T s₀ v1 := (State.abortRun_reach (sub_.sub (by decide)) reach_)
  clear_value v1
  extract_lets +onlyGivenNames -merge -useContext v2
  have hv2 : Reach T s₀ v2 := (State.lockEngage_reach (sub_.sub (by decide)) (State.stepHalt_reach (sub_.sub (by decide)) (State.seqCmd_reach (sub_.sub (by decide)) (State.seqCmd_reach (sub_.sub (by decide)) hv1))))
  clear_value v2
  exact (State.record_reach (sub_.sub (by decide)) (State.enterDoor_reach (sub_.sub (by decide)) hv2))

theorem State.releaseAtRest_reach {T : Nat} {s₀ s : State} {f : Nat} (sub_ : Sub 1048576 T) (reach_ : Reach T s₀ s) :
    Reach T s₀ (State.releaseAtRest s f) := by
  unfold State.releaseAtRest
  extract_lets +onlyGivenNames -merge -useContext v1
  split
  · simp only [v1]
    exact (Reach.ite (fun _ => (State.seqCmd_reach (sub_.sub (by decide)) (Reach.ite (fun _ => (State.seqCmd_reach (sub_.sub (by decide)) reach_)) (fun _ => reach_)))) (fun _ => (Reach.ite (fun _ => (State.seqCmd_reach (sub_.sub (by decide)) reach_)) (fun _ => reach_))))
  · simp only [v1]
    exact (Reach.ite (fun _ => (State.seqCmd_reach (sub_.sub (by decide)) reach_)) (fun _ => reach_))
  · exact reach_

theorem State.strokeMove_reach {T : Nat} {s₀ s : State} {f : Nat} {pos : Int} {v limit : Rat} (sub_ : Sub 1048576 T)
    (reach_ : Reach T s₀ s) :
    Reach T s₀ (State.strokeMove s f pos v limit) := by
  unfold State.strokeMove
  extract_lets +onlyGivenNames -merge -useContext v1
  exact (State.seqCmd_reach (sub_.sub (by decide)) reach_)

theorem State.strokeMoves_reach {T : Nat} {s₀ s : State} {f : Nat} {opening : Bool} (sub_ : Sub 1048576 T) (reach_ : Reach
    T s₀ s) :
    Reach T s₀ (State.strokeMoves s f opening) := by
  unfold State.strokeMoves
  extract_lets +onlyGivenNames -merge -useContext v1
  extract_lets +onlyGivenNames -merge -useContext v2
  extract_lets +onlyGivenNames -merge -useContext v3
  extract_lets +onlyGivenNames -merge -useContext v4
  extract_lets +onlyGivenNames -merge -useContext v5
  extract_lets +onlyGivenNames -merge -useContext v6
  extract_lets +onlyGivenNames -merge -useContext v7
  exact (Reach.ite (fun _ => (State.strokeMove_reach (sub_.sub (by decide)) reach_)) (fun _ => (Reach.ite (fun _ => (by
  extract_lets +onlyGivenNames -merge -useContext u8
  have hu8 : Reach T s₀ u8 := (Reach.ite (fun _ => reach_) (fun _ => (State.strokeMove_reach (sub_.sub (by decide)) reach_)))
  clear_value u8
  exact (State.strokeMove_reach (sub_.sub (by decide)) hu8))) (fun _ => (by
  extract_lets +onlyGivenNames -merge -useContext u9
  have hu9 : Reach T s₀ u9 := (Reach.ite (fun _ => reach_) (fun _ => (State.strokeMove_reach (sub_.sub (by decide)) reach_)))
  clear_value u9
  exact (State.strokeMove_reach (sub_.sub (by decide)) hu9))))))

theorem State.gearedStep_reach {T : Nat} {s₀ s : State} {f : Nat} {opening reversal : Bool} (sub_ : Sub 3145728 T) (reach_ :
    Reach T s₀ s) :
    Reach T s₀ (State.gearedStep s f opening reversal) := by
  unfold State.gearedStep
  exact State.enterStep_reach (sub_.sub (by decide)) (State.engageStep_reach (sub_.sub (by decide)) reach_)

theorem State.stepRetract_reach {T : Nat} {s₀ s : State} {f : Nat} (sub_ : Sub 36514566144 T) (reach_ : Reach T s₀ s) :
    Reach T s₀ (State.stepRetract s f).2 := by
  unfold State.stepRetract
  exact Reach.ite2 (fun _ => (Reach.mk2 reach_)) (fun _ => (by
    split
    · exact (Reach.ite2 (fun _ => (by
        extract_lets +onlyGivenNames -merge -useContext u1
        have hu1 : Reach T s₀ u1 := (State.startRun_reach (sub_.sub (by decide)) reach_)
        clear_value u1
        exact (Reach.mk2 (Reach.ite (fun _ => (State.enterDoor_reach (sub_.sub (by decide)) hu1)) (fun _ => hu1))))) (fun _ => (Reach.mk2 (State.moveStep_reach (sub_.sub (by decide)) (State.enterStep_reach (sub_.sub (by decide)) reach_)))))
    · exact (Reach.ite2 (fun _ => (by
        extract_lets +onlyGivenNames -merge -useContext u2
        have hu2 : Reach T s₀ u2 := (State.startRun_reach (sub_.sub (by decide)) reach_)
        clear_value u2
        exact (Reach.mk2 (Reach.ite (fun _ => (State.enterDoor_reach (sub_.sub (by decide)) hu2)) (fun _ => hu2))))) (fun _ => (Reach.mk2 (State.moveStep_reach (sub_.sub (by decide)) (State.enterStep_reach (sub_.sub (by decide)) reach_)))))
    · exact (Reach.ite2 (fun _ => (by
        extract_lets +onlyGivenNames -merge -useContext u3
        have hu3 : Reach T s₀ u3 := (State.startRun_reach (sub_.sub (by decide)) reach_)
        clear_value u3
        exact (Reach.mk2 (Reach.ite (fun _ => (State.enterDoor_reach (sub_.sub (by decide)) hu3)) (fun _ => hu3))))) (fun _ => (Reach.mk2 (State.moveStep_reach (sub_.sub (by decide)) (State.enterStep_reach (sub_.sub (by decide)) reach_)))))
    · exact (Reach.mk2 reach_)
    · exact (Reach.mk2 reach_)
    · exact (Reach.mk2 reach_)))

theorem State.parallelStep_reach {T : Nat} {s₀ s : State} {f : Nat} {opening : Bool} (sub_ : Sub 36514566144 T)
    (reach_ : Reach T s₀ s) :
    Reach T s₀ (State.parallelStep s f opening) := by
  unfold State.parallelStep
  exact (Reach.ite (fun _ => (Reach.ite (fun _ => (State.stepExtend_reach (sub_.sub (by decide)) reach_)) (fun _ => (Reach.ite (fun _ => reach_) (fun _ => (State.stepRetract_reach (sub_.sub (by decide)) reach_)))))) (fun _ => reach_))

theorem State.beginMoves_reach {T : Nat} {s₀ s : State} {f : Nat} {opening reversal : Bool} (sub_ : Sub 36514566144 T)
    (reach_ : Reach T s₀ s) :
    Reach T s₀ (State.beginMoves s f opening reversal) := by
  unfold State.beginMoves
  extract_lets +onlyGivenNames -merge -useContext v1
  have hv1 : Reach T s₀ v1 := (State.setDoor_reach (sub_.sub (by decide)) reach_)
  clear_value v1
  exact (Reach.ite (fun _ => (State.startRun_reach (sub_.sub (by decide)) (State.enterDoor_reach (sub_.sub (by decide)) hv1))) (fun _ => (Reach.ite (fun _ => (State.modRef_reach (sub_.sub (by decide)) (State.startRun_reach (sub_.sub (by decide)) (State.enterDoor_reach (sub_.sub (by decide)) hv1)))) (fun _ => (by
    extract_lets +onlyGivenNames -merge -useContext v2
    have hv2 : Reach T s₀ v2 := (Reach.ite (fun _ => (State.gearedStep_reach (sub_.sub (by decide)) hv1)) (fun _ => hv1))
    clear_value v2
    exact (State.parallelStep_reach (sub_.sub (by decide)) (State.beginStroke_reach (sub_.sub (by decide)) (State.strokeMoves_reach (sub_.sub (by decide)) hv2))))))))

theorem State.turnStroke_reach {T : Nat} {s₀ s : State} {f : Nat} {opening : Bool} (sub_ : Sub 36514566144 T)
    (reach_ : Reach T s₀ s) :
    Reach T s₀ (State.turnStroke s f opening) := by
  unfold State.turnStroke
  exact (Reach.ite (fun _ => (State.beginMoves_reach (sub_.sub (by decide)) reach_)) (fun _ => (by
    extract_lets +onlyGivenNames -merge -useContext v1
    have hv1 : Reach T s₀ v1 := (State.stopMoving_reach (sub_.sub (by decide)) (State.endStroke_reach (sub_.sub (by decide)) reach_))
    clear_value v1
    extract_lets +onlyGivenNames -merge -useContext v2
    have hv2 : Reach T s₀ v2 := (Reach.ite (fun _ => (State.seqCmd_reach (sub_.sub (by decide)) hv1)) (fun _ => hv1))
    clear_value v2
    exact (State.parallelStep_reach (sub_.sub (by decide)) (State.setDoor_reach (sub_.sub (by decide)) hv2)))))

theorem State.ungear_reach {T : Nat} {s₀ s : State} {f : Nat} (sub_ : Sub 1048576 T) (reach_ : Reach T s₀ s) :
    Reach T s₀ (State.ungear s f) := by
  unfold State.ungear
  exact Reach.ite (fun _ => (State.seqCmd_reach (sub_.sub (by decide)) reach_)) (fun _ => reach_)

theorem State.stepStop_reach {T : Nat} {s₀ s : State} {f : Nat} (sub_ : Sub 3145728 T) (reach_ : Reach T s₀ s) :
    Reach T s₀ (State.stepStop s f).2 := by
  unfold State.stepStop
  split
  · exact (Reach.mk2 (State.enterStep_reach (sub_.sub (by decide)) (State.seqCmd_reach (sub_.sub (by decide)) reach_)))
  · exact (Reach.mk2 (State.enterStep_reach (sub_.sub (by decide)) (State.seqCmd_reach (sub_.sub (by decide)) reach_)))
  · exact (Reach.mk2 reach_)

theorem State.stepFault_reach {T : Nat} {s₀ s : State} {f : Nat} (sub_ : Sub 2097152 T) (reach_ : Reach T s₀ s) :
    Reach T s₀ (State.stepFault s f) := by
  unfold State.stepFault
  exact State.enterStep_reach (sub_.sub (by decide)) reach_

theorem State.stepFinish_reach {T : Nat} {s₀ s : State} {f : Nat} {extend : Bool} (sub_ : Sub 36514566144 T)
    (reach_ : Reach T s₀ s) :
    Reach T s₀ (State.stepFinish s f extend) := by
  unfold State.stepFinish
  exact (Reach.ite (fun _ => reach_) (fun _ => (Reach.ite (fun _ => (State.moveStep_reach (sub_.sub (by decide)) reach_)) (fun _ => (Reach.ite (fun _ => reach_) (fun _ => (State.startRun_reach (sub_.sub (by decide)) (State.enterDoor_reach (sub_.sub (by decide)) reach_))))))))

theorem State.stepEval_reach {T : Nat} {s₀ s : State} {f : Nat} (sub_ : Sub 36514566144 T) (reach_ : Reach T s₀ s) :
    Reach T s₀ (State.stepEval s f) := by
  unfold State.stepEval
  extract_lets +onlyGivenNames -merge -useContext v1
  extract_lets +onlyGivenNames -merge -useContext v2
  extract_lets +onlyGivenNames -merge -useContext v3
  extract_lets +onlyGivenNames -merge -useContext v4
  extract_lets +onlyGivenNames -merge -useContext v5
  exact (Reach.ite (fun _ => reach_) (fun _ => (Reach.ite (fun _ => (State.stepFault_reach (sub_.sub (by decide)) reach_)) (fun _ => (by
    split
    · exact (Reach.ite (fun _ => (State.stepRetract_reach (sub_.sub (by decide)) reach_)) (fun _ => (Reach.ite (fun _ => reach_) (fun _ => (Reach.ite (fun _ => (State.enterStep_reach (sub_.sub (by decide)) reach_)) (fun _ => (State.stepFinish_reach (sub_.sub (by decide)) reach_)))))))
    · exact (Reach.ite (fun _ => (State.stepRetract_reach (sub_.sub (by decide)) reach_)) (fun _ => reach_))
    · exact (Reach.ite (fun _ => (State.stepRetract_reach (sub_.sub (by decide)) reach_)) (fun _ => reach_))
    · exact (Reach.ite (fun _ => reach_) (fun _ => (Reach.ite (fun _ => (by
        extract_lets +onlyGivenNames -merge -useContext v6
        exact (Reach.ite (fun _ => (State.enterStep_reach (sub_.sub (by decide)) reach_)) (fun _ => (State.setDoor_reach (sub_.sub (by decide)) reach_))))) (fun _ => (State.stepFinish_reach (sub_.sub (by decide)) reach_)))))
    · exact (Reach.ite (fun _ => reach_) (fun _ => (State.stepFault_reach (sub_.sub (by decide)) reach_)))
    · exact reach_)))))

theorem State.stepReset_reach {T : Nat} {s₀ s : State} {f : Nat} (sub_ : Sub 3145728 T) (reach_ : Reach T s₀ s) :
    Reach T s₀ (State.stepReset s f).2 := by
  unfold State.stepReset
  exact (Reach.ite2 (fun _ => (Reach.mk2 reach_)) (fun _ => (Reach.ite2 (fun _ => (Reach.mk2 (State.startRun_reach (sub_.sub (by decide)) reach_))) (fun _ => (Reach.mk2 (State.enterStep_reach (sub_.sub (by decide)) (State.holdHere_reach (sub_.sub (by decide)) reach_)))))))

theorem State.stepService_reach {T : Nat} {s₀ s : State} {f : Nat} (sub_ : Sub 2097152 T) (reach_ : Reach T s₀ s) :
    Reach T s₀ (State.stepService s f) := by
  unfold State.stepService
  exact State.enterStep_reach (sub_.sub (by decide)) reach_

theorem State.runCmd_reach {T : Nat} {s₀ s : State} {f a : Nat} {c : AxCmd} (sub_ : Sub 1048576 T) (reach_ : Reach T s₀ s) :
    Reach T s₀ (State.runCmd s f a c) := by
  unfold State.runCmd
  exact (State.post_reach (sub_.sub (by decide)) reach_)

theorem State.runDeclare_reach {T : Nat} {s₀ s : State} {f a : Nat} {v : Int} (sub_ : Sub 45104771072 T)
    (reach_ : Reach T s₀ s) :
    Reach T s₀ (State.runDeclare s f a v) := by
  unfold State.runDeclare
  extract_lets +onlyGivenNames -merge -useContext v1
  have hv1 : Reach T s₀ v1 := (Reach.ite (fun _ => (State.toIdle_reach (sub_.sub (by decide)) reach_)) (fun _ => (Reach.ite (fun _ => reach_) (fun _ => (State.modAxis_reach (sub_.sub (by decide)) reach_)))))
  clear_value v1
  extract_lets +onlyGivenNames -merge -useContext v2
  have hv2 : Reach T s₀ v2 := (State.modRef_reach (sub_.sub (by decide)) hv1)
  clear_value v2
  split
  rename_i a3 t3 e3
  have ht3 : Reach T s₀ t3 := Reach.of_eq e3 (State.posSet_reach (sub_.sub (by decide)) hv2)
  exact (Reach.ite (fun _ => ht3) (fun _ => (by
    extract_lets +onlyGivenNames -merge -useContext v4
    have hv4 : Reach T s₀ v4 := (State.abortRun_reach (sub_.sub (by decide)) hv2)
    clear_value v4
    exact (Reach.ite (fun _ => (State.doorFault_reach (sub_.sub (by decide)) hv4)) (fun _ => hv4)))))

theorem State.shiftPos_reach {T : Nat} {s₀ s : State} {a : Nat} {v : Int} (sub_ : Sub 45098467328 T)
    (reach_ : Reach T s₀ s) :
    Reach T s₀ (State.shiftPos s a v) := by
  unfold State.shiftPos
  extract_lets +onlyGivenNames -merge -useContext v1
  extract_lets +onlyGivenNames -merge -useContext v2
  have hv2 : Reach T s₀ v2 := (by
    unfold v2
    split
    · exact reach_
    · exact (State.writeCount_reach (sub_.sub (by decide)) reach_))
  clear_value v2
  exact (State.modAxis_reach (sub_.sub (by decide)) hv2)

theorem State.runToLocking_reach {T : Nat} {s₀ s : State} {f : Nat} (sub_ : Sub 36514566144 T) (reach_ : Reach T s₀ s) :
    Reach T s₀ (State.runToLocking s f) := by
  unfold State.runToLocking
  extract_lets +onlyGivenNames -merge -useContext v1
  have hv1 : Reach T s₀ v1 := (State.enterDoor_reach (sub_.sub (by decide)) reach_)
  clear_value v1
  exact (Reach.ite (fun _ => hv1) (fun _ => (State.stepRetract_reach (sub_.sub (by decide)) hv1)))

theorem State.finishRun_reach {T : Nat} {s₀ s : State} {f : Nat} (sub_ : Sub 36514566144 T) (reach_ : Reach T s₀ s) :
    Reach T s₀ (State.finishRun s f) := by
  unfold State.finishRun
  extract_lets +onlyGivenNames -merge -useContext v1
  extract_lets +onlyGivenNames -merge -useContext v2
  have hv2 : Reach T s₀ v2 := (State.setDoor_reach (sub_.sub (by decide)) reach_)
  clear_value v2
  extract_lets +onlyGivenNames -merge -useContext v3
  have hv3 : Reach T s₀ v3 := (State.record_reach (sub_.sub (by decide)) hv2)
  clear_value v3
  exact (Reach.ite (fun _ => hv3) (fun _ => (by
    split
    · extract_lets +onlyGivenNames -merge -useContext v4
      have hv4 : Reach T s₀ v4 := (State.setDoor_reach (sub_.sub (by decide)) (State.enterDoor_reach (sub_.sub (by decide)) hv3))
      clear_value v4
      exact (State.modObs_reach (sub_.sub (by decide)) hv4)
    · exact (State.runToLocking_reach (sub_.sub (by decide)) hv3))))

theorem State.endPart_reach {T : Nat} {s₀ s : State} {f : Nat} (sub_ : Sub 36514566144 T) (reach_ : Reach T s₀ s) :
    Reach T s₀ (State.endPart s f) := by
  unfold State.endPart
  extract_lets +onlyGivenNames -merge -useContext v1
  exact (Reach.ite (fun _ => (by
    extract_lets +onlyGivenNames -merge -useContext v2
    have hv2 : Reach T s₀ v2 := (State.enterStep_reach (sub_.sub (by decide)) reach_)
    clear_value v2
    exact (Reach.ite (fun _ => (State.finishRun_reach (sub_.sub (by decide)) hv2)) (fun _ => (State.startPart_reach (sub_.sub (by decide)) hv2))))) (fun _ => (by
    extract_lets +onlyGivenNames -merge -useContext v3
    exact (State.finishRun_reach (sub_.sub (by decide)) (State.setDoor_reach (sub_.sub (by decide)) reach_)))))

theorem State.beginPart_reach {T : Nat} {s₀ s : State} {f : Nat} (sub_ : Sub 45104771072 T) (reach_ : Reach T s₀ s) :
    Reach T s₀ (State.beginPart s f) := by
  unfold State.beginPart
  extract_lets +onlyGivenNames -merge -useContext v1
  extract_lets +onlyGivenNames -merge -useContext v2
  extract_lets +onlyGivenNames -merge -useContext v3
  extract_lets +onlyGivenNames -merge -useContext v4
  exact (Reach.ite (fun _ => (Reach.ite (fun _ => (by
    simp only [v4]
    exact (Reach.ite (fun _ => (State.endPart_reach (sub_.sub (by decide)) (State.runDeclare_reach (sub_.sub (by decide)) (State.modRef_reach (sub_.sub (by decide)) reach_)))) (fun _ => (State.runDeclare_reach (sub_.sub (by decide)) (State.modRef_reach (sub_.sub (by decide)) reach_)))))) (fun _ => (by
    simp only [v3]
    exact (State.runCmd_reach (sub_.sub (by decide)) (State.modRef_reach (sub_.sub (by decide)) reach_)))))) (fun _ => (Reach.ite (fun _ => (by
    simp only [v4]
    exact (Reach.ite (fun _ => (State.endPart_reach (sub_.sub (by decide)) (State.runDeclare_reach (sub_.sub (by decide)) (State.modRef_reach (sub_.sub (by decide)) reach_)))) (fun _ => (State.runDeclare_reach (sub_.sub (by decide)) (State.modRef_reach (sub_.sub (by decide)) reach_)))))) (fun _ => (by
    simp only [v3]
    exact (State.runCmd_reach (sub_.sub (by decide)) (State.modRef_reach (sub_.sub (by decide)) reach_)))))))

theorem State.finalMove_reach {T : Nat} {s₀ s : State} {f : Nat} (sub_ : Sub 3145728 T) (reach_ : Reach T s₀ s) :
    Reach T s₀ (State.finalMove s f) := by
  unfold State.finalMove
  extract_lets +onlyGivenNames -merge -useContext v1
  extract_lets +onlyGivenNames -merge -useContext v2
  have hv2 : Reach T s₀ v2 := (State.modRef_reach (sub_.sub (by decide)) reach_)
  clear_value v2
  exact (Reach.ite (fun _ => (State.modRef_reach (sub_.sub (by decide)) hv2)) (fun _ => (State.runCmd_reach (sub_.sub (by decide)) (State.modRef_reach (sub_.sub (by decide)) hv2))))

theorem State.homeEvent_reach {T : Nat} {s₀ s : State} {f : Nat} (sub_ : Sub 45100564480 T) (reach_ : Reach T s₀ s) :
    Reach T s₀ (State.homeEvent s f) := by
  unfold State.homeEvent
  extract_lets +onlyGivenNames -merge -useContext v1
  extract_lets +onlyGivenNames -merge -useContext v2
  extract_lets +onlyGivenNames -merge -useContext v3
  exact (State.runCmd_reach (sub_.sub (by decide)) (State.modRef_reach (sub_.sub (by decide)) (State.shiftPos_reach (sub_.sub (by decide)) reach_)))

theorem State.afterHome_reach {T : Nat} {s₀ s : State} {f : Nat} (sub_ : Sub 45104771072 T) (reach_ : Reach T s₀ s) :
    Reach T s₀ (State.afterHome s f) := by
  unfold State.afterHome
  extract_lets +onlyGivenNames -merge -useContext v1
  extract_lets +onlyGivenNames -merge -useContext v2
  extract_lets +onlyGivenNames -merge -useContext v3
  have hv3 : Reach T s₀ v3 := (State.runDeclare_reach (sub_.sub (by decide)) reach_)
  clear_value v3
  exact (Reach.ite (fun _ => hv3) (fun _ => (Reach.ite (fun _ => (by
    extract_lets +onlyGivenNames -merge -useContext v4
    have hv4 : Reach T s₀ v4 := (by
      unfold v4
      split
      · exact (State.modPort_reach (sub_.sub (by decide)) hv3)
      · exact hv3)
    clear_value v4
    exact (State.runCmd_reach (sub_.sub (by decide)) (State.modRef_reach (sub_.sub (by decide)) hv4)))) (fun _ => (State.finalMove_reach (sub_.sub (by decide)) hv3)))))

theorem State.indexSample_reach {T : Nat} {s₀ s : State} {f : Nat} (sub_ : Sub 36514566144 T) (reach_ : Reach T s₀ s) :
    Reach T s₀ (State.indexSample s f) := by
  unfold State.indexSample
  extract_lets +onlyGivenNames -merge -useContext v1
  extract_lets +onlyGivenNames -merge -useContext v2
  extract_lets +onlyGivenNames -merge -useContext v3
  exact (Reach.ite (fun _ => (Reach.ite (fun _ => reach_) (fun _ => (State.runCmd_reach (sub_.sub (by decide)) (State.modRef_reach (sub_.sub (by decide)) reach_))))) (fun _ => (Reach.ite (fun _ => (Reach.ite (fun _ => (State.runCmd_reach (sub_.sub (by decide)) (State.modRef_reach (sub_.sub (by decide)) reach_))) (fun _ => reach_))) (fun _ => (by
  extract_lets +onlyGivenNames -merge -useContext v4
  split
  · exact (Reach.ite (fun _ => (State.runCmd_reach (sub_.sub (by decide)) (State.modRef_reach (sub_.sub (by decide)) reach_))) (fun _ => (by
      unfold v3
      extract_lets +onlyGivenNames -merge -useContext u5
      have hu5 : Reach T s₀ u5 := (State.abortRun_reach (sub_.sub (by decide)) reach_)
      clear_value u5
      exact (Reach.ite (fun _ => (State.doorFault_reach (sub_.sub (by decide)) hu5)) (fun _ => hu5)))))
  · exact (Reach.ite (fun _ => (by
      unfold v3
      extract_lets +onlyGivenNames -merge -useContext u6
      have hu6 : Reach T s₀ u6 := (State.abortRun_reach (sub_.sub (by decide)) reach_)
      clear_value u6
      exact (Reach.ite (fun _ => (State.doorFault_reach (sub_.sub (by decide)) hu6)) (fun _ => hu6)))) (fun _ => reach_)))))))

theorem State.trackRun_reach {T : Nat} {s₀ s : State} {f : Nat} (sub_ : Sub 2097152 T) (reach_ : Reach T s₀ s) :
    Reach T s₀ (State.trackRun s f) := by
  unfold State.trackRun
  extract_lets +onlyGivenNames -merge -useContext v1
  extract_lets +onlyGivenNames -merge -useContext v2
  extract_lets +onlyGivenNames -merge -useContext v3
  exact (State.modRef_reach (sub_.sub (by decide)) reach_)

theorem State.resumeSearch_reach {T : Nat} {s₀ s : State} {f : Nat} (sub_ : Sub 3145728 T) (reach_ : Reach T s₀ s) :
    Reach T s₀ (State.resumeSearch s f) := by
  unfold State.resumeSearch
  extract_lets +onlyGivenNames -merge -useContext v1
  exact (Reach.ite (fun _ => (State.modRef_reach (sub_.sub (by decide)) reach_)) (fun _ => (State.runCmd_reach (sub_.sub (by decide)) (State.modRef_reach (sub_.sub (by decide)) reach_))))

theorem State.pauseSearch_reach {T : Nat} {s₀ s : State} {f : Nat} (sub_ : Sub 3145728 T) (reach_ : Reach T s₀ s) :
    Reach T s₀ (State.pauseSearch s f) := by
  unfold State.pauseSearch
  extract_lets +onlyGivenNames -merge -useContext v1
  exact (State.runCmd_reach (sub_.sub (by decide)) (State.modRef_reach (sub_.sub (by decide)) reach_))

theorem State.refSample_reach {T : Nat} {s₀ s : State} {f : Nat} (sub_ : Sub 45104771072 T) (reach_ : Reach T s₀ s) :
    Reach T s₀ (State.refSample s f) := by
  unfold State.refSample
  extract_lets +onlyGivenNames -merge -useContext v1
  extract_lets +onlyGivenNames -merge -useContext v2
  have hv2 : Reach T s₀ v2 := (State.trackRun_reach (sub_.sub (by decide)) reach_)
  clear_value v2
  extract_lets +onlyGivenNames -merge -useContext v3
  extract_lets +onlyGivenNames -merge -useContext v4
  extract_lets +onlyGivenNames -merge -useContext v5
  exact (Reach.ite (fun _ => (by
    simp only [v5]
    exact (Reach.ite (fun _ => (State.doorFault_reach (sub_.sub (by decide)) (State.abortRun_reach (sub_.sub (by decide)) hv2))) (fun _ => (State.abortRun_reach (sub_.sub (by decide)) hv2))))) (fun _ => (Reach.ite (fun _ => (by
    simp only [v5]
    exact (Reach.ite (fun _ => (State.doorFault_reach (sub_.sub (by decide)) (State.abortRun_reach (sub_.sub (by decide)) hv2))) (fun _ => (State.abortRun_reach (sub_.sub (by decide)) hv2))))) (fun _ => (Reach.ite (fun _ => (by
    simp only [v5]
    exact (Reach.ite (fun _ => (State.doorFault_reach (sub_.sub (by decide)) (State.abortRun_reach (sub_.sub (by decide)) hv2))) (fun _ => (State.abortRun_reach (sub_.sub (by decide)) hv2))))) (fun _ => (Reach.ite (fun _ => (Reach.ite (fun _ => (by
    simp only [v5]
    exact (Reach.ite (fun _ => (State.doorFault_reach (sub_.sub (by decide)) (State.abortRun_reach (sub_.sub (by decide)) hv2))) (fun _ => (State.abortRun_reach (sub_.sub (by decide)) hv2))))) (fun _ => (State.runCmd_reach (sub_.sub (by decide)) (State.modRef_reach (sub_.sub (by decide)) hv2))))) (fun _ => (by
    split
    · exact (State.beginPart_reach (sub_.sub (by decide)) hv2)
    · exact (Reach.ite (fun _ => (State.homeEvent_reach (sub_.sub (by decide)) hv2)) (fun _ => (Reach.ite (fun _ => (State.pauseSearch_reach (sub_.sub (by decide)) hv2)) (fun _ => hv2))))
    · exact (Reach.ite (fun _ => (State.resumeSearch_reach (sub_.sub (by decide)) hv2)) (fun _ => hv2))
    · exact (Reach.ite (fun _ => (State.afterHome_reach (sub_.sub (by decide)) hv2)) (fun _ => hv2))
    · exact (Reach.ite (fun _ => (State.pauseSearch_reach (sub_.sub (by decide)) hv2)) (fun _ => (State.modRef_reach (sub_.sub (by decide)) hv2)))
    · exact hv2
    · exact (State.indexSample_reach (sub_.sub (by decide)) hv2)
    · exact (Reach.ite (fun _ => (by
        extract_lets +onlyGivenNames -merge -useContext v6
        have hv6 : Reach T s₀ v6 := (State.runDeclare_reach (sub_.sub (by decide)) hv2)
        clear_value v6
        exact (Reach.ite (fun _ => (State.finalMove_reach (sub_.sub (by decide)) (State.modRef_reach (sub_.sub (by decide)) hv6))) (fun _ => hv6)))) (fun _ => hv2))
    · exact (Reach.ite (fun _ => (Reach.ite (fun _ => (State.finalMove_reach (sub_.sub (by decide)) hv2)) (fun _ => hv2))) (fun _ => (Reach.ite (fun _ => (State.endPart_reach (sub_.sub (by decide)) hv2)) (fun _ => (Reach.ite (fun _ => (State.runCmd_reach (sub_.sub (by decide)) (State.modRef_reach (sub_.sub (by decide)) hv2))) (fun _ => hv2)))))))))))))))

theorem State.foundStop_reach {T : Nat} {s₀ s : State} {f : Nat} (sub_ : Sub 45104771072 T) (reach_ : Reach T s₀ s) :
    Reach T s₀ (State.foundStop s f) := by
  unfold State.foundStop
  extract_lets +onlyGivenNames -merge -useContext v1
  extract_lets +onlyGivenNames -merge -useContext u2
  have hu2 : Reach T s₀ u2 := (State.runDeclare_reach (sub_.sub (by decide)) reach_)
  clear_value u2
  exact (Reach.ite (fun _ => (State.modRef_reach (sub_.sub (by decide)) hu2)) (fun _ => hu2))

theorem State.stopReleased_reach {T : Nat} {s₀ s : State} {f : Nat} (sub_ : Sub 36514566144 T) (reach_ : Reach T s₀ s) :
    Reach T s₀ (State.stopReleased s f) := by
  unfold State.stopReleased
  extract_lets +onlyGivenNames -merge -useContext v1
  extract_lets +onlyGivenNames -merge -useContext v2
  have hv2 : Reach T s₀ v2 := (State.modAxis_reach (sub_.sub (by decide)) reach_)
  clear_value v2
  exact (Reach.ite (fun _ => (State.endPart_reach (sub_.sub (by decide)) hv2)) (fun _ => (State.finalMove_reach (sub_.sub (by decide)) hv2)))

theorem State.startReversal_reach {T : Nat} {s₀ s : State} {f : Nat} {t : Int} (sub_ : Sub 7340032 T)
    (reach_ : Reach T s₀ s) :
    Reach T s₀ (State.startReversal s f t) := by
  unfold State.startReversal
  extract_lets +onlyGivenNames -merge -useContext v1
  have hv1 : Reach T s₀ v1 := (State.setDoor_reach (sub_.sub (by decide)) reach_)
  clear_value v1
  extract_lets +onlyGivenNames -merge -useContext v2
  have hv2 : Reach T s₀ v2 := (Reach.ite (fun _ => (State.gearedStep_reach (sub_.sub (by decide)) hv1)) (fun _ => hv1))
  clear_value v2
  exact (State.beginStroke_reach (sub_.sub (by decide)) (State.seqCmd_reach (sub_.sub (by decide)) hv2))

theorem State.reactionOpen_reach {T : Nat} {s₀ s : State} {f : Nat} (sub_ : Sub 36514566144 T) (reach_ : Reach T s₀ s) :
    Reach T s₀ (State.reactionOpen s f) := by
  unfold State.reactionOpen
  extract_lets +onlyGivenNames -merge -useContext v1
  extract_lets +onlyGivenNames -merge -useContext v2
  extract_lets +onlyGivenNames -merge -useContext v3
  extract_lets +onlyGivenNames -merge -useContext u4
  have hu4 : Reach T s₀ u4 := (State.enterDoor_reach (sub_.sub (by decide)) (State.ungear_reach (sub_.sub (by decide)) reach_))
  clear_value u4
  extract_lets +onlyGivenNames -merge -useContext u5
  have hu5 : Reach T s₀ u5 := (State.setDoor_reach (sub_.sub (by decide)) hu4)
  clear_value u5
  extract_lets +onlyGivenNames -merge -useContext u6
  have hu6 : Reach T s₀ u6 := (Reach.ite (fun _ => (State.record_reach (sub_.sub (by decide)) (State.modCyc_reach (sub_.sub (by decide)) hu5))) (fun _ => hu5))
  clear_value u6
  exact (State.holdHere_reach (sub_.sub (by decide)) hu6)

theorem State.reversalEnd_reach {T : Nat} {s₀ s : State} {f : Nat} (sub_ : Sub 36514566144 T) (reach_ : Reach T s₀ s) :
    Reach T s₀ (State.reversalEnd s f) := by
  unfold State.reversalEnd
  exact Reach.ite (fun _ => (State.reactionOpen_reach (sub_.sub (by decide)) reach_)) (fun _ => (State.setDoor_reach (sub_.sub (by decide)) (State.ungear_reach (sub_.sub (by decide)) reach_)))

theorem State.reactSample_reach {T : Nat} {s₀ s : State} {f : Nat} (sub_ : Sub 36514566144 T) (reach_ : Reach T s₀ s) :
    Reach T s₀ (State.reactSample s f) := by
  unfold State.reactSample
  extract_lets +onlyGivenNames -merge -useContext v1
  split
  · exact (Reach.ite (fun _ => reach_) (fun _ => (Reach.ite (fun _ => (State.reactionOpen_reach (sub_.sub (by decide)) reach_)) (fun _ => (State.ungear_reach (sub_.sub (by decide)) reach_)))))
  · exact (Reach.ite (fun _ => (State.reversalEnd_reach (sub_.sub (by decide)) reach_)) (fun _ => reach_))
  · exact (Reach.ite (fun _ => (State.reversalEnd_reach (sub_.sub (by decide)) reach_)) (fun _ => reach_))
  · exact reach_

theorem State.markFaults_reach {T : Nat} {s₀ s : State} {f : Nat} (sub_ : Sub 2097152 T) (reach_ : Reach T s₀ s) :
    Reach T s₀ (State.markFaults s f) := by
  unfold State.markFaults
  exact State.setDoor_reach (sub_.sub (by decide)) reach_

theorem State.lockHere_reach {T : Nat} {s₀ s : State} {f : Nat} (sub_ : Sub 36514566144 T) (reach_ : Reach T s₀ s) :
    Reach T s₀ (State.lockHere s f) := by
  unfold State.lockHere
  exact (State.holdHere_reach (sub_.sub (by decide)) (State.runToLocking_reach (sub_.sub (by decide)) reach_))

theorem State.openHere_reach {T : Nat} {s₀ s : State} {f : Nat} (sub_ : Sub 36514566144 T) (reach_ : Reach T s₀ s) :
    Reach T s₀ (State.openHere s f) := by
  unfold State.openHere
  exact (State.holdHere_reach (sub_.sub (by decide)) (State.enterDoor_reach (sub_.sub (by decide)) reach_))

theorem State.resetFault_reach {T : Nat} {s₀ s : State} {f : Nat} (sub_ : Sub 36514566144 T) (reach_ : Reach T s₀ s) :
    Reach T s₀ (State.resetFault s f) := by
  unfold State.resetFault
  extract_lets +onlyGivenNames -merge -useContext v1
  have hv1 : Reach T s₀ v1 := (State.setDoor_reach (sub_.sub (by decide)) reach_)
  clear_value v1
  extract_lets +onlyGivenNames -merge -useContext v2
  have hv2 : Reach T s₀ v2 := (State.lockReset_reach (sub_.sub (by decide)) hv1)
  clear_value v2
  exact (Reach.ite (fun _ => (State.startRun_reach (sub_.sub (by decide)) (State.enterDoor_reach (sub_.sub (by decide)) hv2))) (fun _ => (by
    extract_lets +onlyGivenNames -merge -useContext v3
    have hv3 : Reach T s₀ v3 := (State.stepReset_reach (sub_.sub (by decide)) hv2)
    clear_value v3
    exact (Reach.ite (fun _ => (State.lockHere_reach (sub_.sub (by decide)) hv3)) (fun _ => (by
      extract_lets +onlyGivenNames -merge -useContext v4
      exact (State.setDoor_reach (sub_.sub (by decide)) (State.openHere_reach (sub_.sub (by decide)) hv3))))))))

theorem State.unlock_reach {T : Nat} {s₀ s : State} {f : Nat} (sub_ : Sub 36514566144 T) (reach_ : Reach T s₀ s) :
    Reach T s₀ (State.unlock s f) := by
  unfold State.unlock
  extract_lets +onlyGivenNames -merge -useContext v1
  have hv1 : Reach T s₀ v1 := (State.modObs_reach (sub_.sub (by decide)) reach_)
  clear_value v1
  extract_lets +onlyGivenNames -merge -useContext v2
  have hv2 : Reach T s₀ v2 := (State.lockRelease_reach (sub_.sub (by decide)) hv1)
  clear_value v2
  extract_lets +onlyGivenNames -merge -useContext v3
  have hv3 : Reach T s₀ v3 := (Reach.ite (fun _ => (State.holdHere_reach (sub_.sub (by decide)) hv2)) (fun _ => hv2))
  clear_value v3
  exact (State.enterDoor_reach (sub_.sub (by decide)) hv3)

theorem State.relock_reach {T : Nat} {s₀ s : State} {f : Nat} (sub_ : Sub 36514566144 T) (reach_ : Reach T s₀ s) :
    Reach T s₀ (State.relock s f) := by
  unfold State.relock
  extract_lets +onlyGivenNames -merge -useContext u1
  have hu1 : Reach T s₀ u1 := (State.enterDoor_reach (sub_.sub (by decide)) (State.lockEngage_reach (sub_.sub (by decide)) reach_))
  clear_value u1
  exact (Reach.ite (fun _ => hu1) (fun _ => (State.stepRetract_reach (sub_.sub (by decide)) hu1)))

theorem State.lockDoor_reach {T : Nat} {s₀ s : State} {f : Nat} (sub_ : Sub 36514566144 T) (reach_ : Reach T s₀ s) :
    Reach T s₀ (State.lockDoor s f) := by
  unfold State.lockDoor
  extract_lets +onlyGivenNames -merge -useContext u1
  have hu1 : Reach T s₀ u1 := (State.enterDoor_reach (sub_.sub (by decide)) (State.lockEngage_reach (sub_.sub (by decide)) (State.ungear_reach (sub_.sub (by decide)) reach_)))
  clear_value u1
  extract_lets +onlyGivenNames -merge -useContext u2
  have hu2 : Reach T s₀ u2 := (State.setDoor_reach (sub_.sub (by decide)) hu1)
  clear_value u2
  extract_lets +onlyGivenNames -merge -useContext u3
  have hu3 : Reach T s₀ u3 := (State.modObs_reach (sub_.sub (by decide)) hu2)
  clear_value u3
  exact (Reach.ite (fun _ => hu3) (fun _ => (State.stepRetract_reach (sub_.sub (by decide)) hu3)))

theorem State.pendClose_reach {T : Nat} {s₀ s : State} {f : Nat} (sub_ : Sub 2097152 T) (reach_ : Reach T s₀ s) :
    Reach T s₀ (State.pendClose s f) := by
  unfold State.pendClose
  exact State.setDoor_reach (sub_.sub (by decide)) reach_

theorem State.stopOpen_reach {T : Nat} {s₀ s : State} {f : Nat} {pending : Bool} (sub_ : Sub 36514566144 T) (reach_ : Reach T
    s₀ s) :
    Reach T s₀ (State.stopOpen s f pending) := by
  unfold State.stopOpen
  extract_lets +onlyGivenNames -merge -useContext u1
  have hu1 : Reach T s₀ u1 := (State.seqCmd_reach (sub_.sub (by decide)) reach_)
  clear_value u1
  extract_lets +onlyGivenNames -merge -useContext u2
  have hu2 : Reach T s₀ u2 := (Reach.ite (fun _ => (State.seqCmd_reach (sub_.sub (by decide)) hu1)) (fun _ => hu1))
  clear_value u2
  extract_lets +onlyGivenNames -merge -useContext u3
  have hu3 : Reach T s₀ u3 := (State.enterDoor_reach (sub_.sub (by decide)) (State.stepStop_reach (sub_.sub (by decide)) hu2))
  clear_value u3
  extract_lets +onlyGivenNames -merge -useContext u4
  have hu4 : Reach T s₀ u4 := (State.modObs_reach (sub_.sub (by decide)) hu3)
  clear_value u4
  exact (Reach.ite (fun _ => (State.setDoor_reach (sub_.sub (by decide)) hu4)) (fun _ => hu4))

theorem State.openDoor_reach {T : Nat} {s₀ s : State} {f : Nat} (sub_ : Sub 36514566144 T) (reach_ : Reach T s₀ s) :
    Reach T s₀ (State.openDoor s f) := by
  unfold State.openDoor
  extract_lets +onlyGivenNames -merge -useContext v1
  extract_lets +onlyGivenNames -merge -useContext v2
  have hv2 : Reach T s₀ v2 := (State.enterDoor_reach (sub_.sub (by decide)) reach_)
  clear_value v2
  exact (State.turnStroke_reach (sub_.sub (by decide)) (State.modObs_reach (sub_.sub (by decide)) hv2))

theorem State.closeDoor_reach {T : Nat} {s₀ s : State} {f : Nat} (sub_ : Sub 36514566144 T) (reach_ : Reach T s₀ s) :
    Reach T s₀ (State.closeDoor s f) := by
  unfold State.closeDoor
  extract_lets +onlyGivenNames -merge -useContext u1
  have hu1 : Reach T s₀ u1 := (State.modObs_reach (sub_.sub (by decide)) (State.enterDoor_reach (sub_.sub (by decide)) reach_))
  clear_value u1
  exact (State.turnStroke_reach (sub_.sub (by decide)) hu1)

/-- Every row of the transition table stays within the mask. -/
theorem State.doorRows_reach {T : Nat} {s₀ s : State} {f : Nat} {c : Option LatchEntry} (sub_ : Sub 36514566144 T) :
    ∀ r ∈ s.doorRows f c, ∀ u, Reach T s₀ u → Reach T s₀ (r.act u) := by
  intro r hr u hu
  simp only [State.doorRows, State.upperRows, State.stateRows, List.mem_append] at hr
  rcases hr with hr | hr
  · simp only [List.mem_cons, List.not_mem_nil, or_false] at hr
    rcases hr with rfl | rfl | rfl
    · exact State.isolate_reach (sub_.sub (by decide)) (Reach.ite (fun _ => State.setDoor_reach (sub_.sub (by decide)) hu) (fun _ => hu))
    · exact State.egress_reach (sub_.sub (by decide)) hu
    · exact State.doorFault_reach (sub_.sub (by decide)) hu
  · split at hr
    · cases hr
    · rcases List.mem_append.1 hr with hr | hr
      · split at hr <;> simp only [List.mem_cons, List.not_mem_nil, or_false] at hr
        all_goals (repeat' rcases hr with rfl | hr)
        all_goals try subst hr
        all_goals dsimp only
        all_goals repeat' first
          | with_reducible exact hu
          | with_reducible refine Reach.ite (fun _ => ?_) (fun _ => ?_)
          | with_reducible refine State.setDoor_reach (sub_.sub (by decide)) ?_
          | with_reducible refine State.isolate_reach (sub_.sub (by decide)) ?_
          | with_reducible refine State.egress_reach (sub_.sub (by decide)) ?_
          | with_reducible refine State.doorFault_reach (sub_.sub (by decide)) ?_
          | with_reducible refine State.record_reach (sub_.sub (by decide)) ?_
          | with_reducible refine State.enterDoor_reach (sub_.sub (by decide)) ?_
          | with_reducible refine State.startRun_reach (sub_.sub (by decide)) ?_
          | with_reducible refine State.holdHere_reach (sub_.sub (by decide)) ?_
          | with_reducible refine State.resetFault_reach (sub_.sub (by decide)) ?_
          | with_reducible refine State.unlock_reach (sub_.sub (by decide)) ?_
          | with_reducible refine State.relock_reach (sub_.sub (by decide)) ?_
          | with_reducible refine State.openDoor_reach (sub_.sub (by decide)) ?_
          | with_reducible refine State.ungear_reach (sub_.sub (by decide)) ?_
          | with_reducible refine State.modObs_reach (sub_.sub (by decide)) ?_
          | with_reducible refine State.lockReset_reach (sub_.sub (by decide)) ?_
          | with_reducible refine State.lockHere_reach (sub_.sub (by decide)) ?_
          | with_reducible refine State.openHere_reach (sub_.sub (by decide)) ?_
          | with_reducible refine State.stopOpen_reach (sub_.sub (by decide)) ?_
          | with_reducible refine State.pendClose_reach (sub_.sub (by decide)) ?_
          | with_reducible refine State.closeDoor_reach (sub_.sub (by decide)) ?_
          | with_reducible refine State.lockDoor_reach (sub_.sub (by decide)) ?_
          | with_reducible refine State.seqCmd_reach (sub_.sub (by decide)) ?_
      · cases List.mem_singleton.1 hr
        exact hu

theorem State.doorRow_reach {T : Nat} {s₀ s u : State} {f : Nat} {c : Option LatchEntry} {r : Row} (sub_ : Sub 36514566144 T)
    (hr : s.doorRow f c = some r) (hu : Reach T s₀ u) : Reach T s₀ (r.act u) :=
  State.doorRows_reach sub_ r (List.mem_of_find?_eq_some hr) u hu

theorem State.resolve_reach {T : Nat} {s₀ s : State} {f : Nat} {e win : LatchEntry} {status : Nat} (sub_ : Sub 38656802816 T)
    (reach_ : Reach T s₀ s) :
    Reach T s₀ (State.resolve s f e win status) := by
  unfold State.resolve
  split
  · exact (State.answerSeq_reach (sub_.sub (by decide)) reach_)
  · exact (Reach.ite (fun _ => reach_) (fun _ => (State.setDoor_reach (sub_.sub (by decide)) reach_)))

theorem State.countCmd_reach {T : Nat} {s₀ s : State} {f : Nat} {e : LatchEntry} (sub_ : Sub 4194304 T)
    (reach_ : Reach T s₀ s) :
    Reach T s₀ (State.countCmd s f e) := by
  unfold State.countCmd
  exact (State.modObs_reach (sub_.sub (by decide)) reach_)

theorem State.rankCmd_reach {T : Nat} {s₀ s : State} {f : Nat} {e : LatchEntry} (sub_ : Sub 2147483648 T)
    (reach_ : Reach T s₀ s) :
    Reach T s₀ (State.rankCmd s f e) := by
  unfold State.rankCmd
  exact (State.modCyc_reach (sub_.sub (by decide)) reach_)

theorem State.judge_reach {T : Nat} {s₀ s : State} {f : Nat} {e : LatchEntry} (sub_ : Sub 40809533440 T)
    (reach_ : Reach T s₀ s) :
    Reach T s₀ (State.judge s f e) := by
  unfold State.judge
  extract_lets +onlyGivenNames -merge -useContext v0 u1
  have hu1 : Reach T s₀ u1 := (State.countCmd_reach (sub_.sub (by decide)) (State.setDoor_reach (sub_.sub (by decide)) reach_))
  clear_value u1
  extract_lets +onlyGivenNames -merge -useContext v2
  extract_lets +onlyGivenNames -merge -useContext v3
  extract_lets +onlyGivenNames -merge -useContext u4
  have hu4 : Reach T s₀ u4 := (by
      unfold u4
      generalize ev : v2 = w
      cases w with
      | none => exact hu1
      | some r =>
        refine State.setDoor_reach (sub_.sub (by decide)) ?_
        have row : u1.doorRow f (some e) = some r := by
          unfold v2 at ev
          split at ev
          · cases ev
          · exact ev
        exact State.doorRow_reach (sub_.sub (by decide)) row hu1)
  clear_value u4
  extract_lets +onlyGivenNames -merge -useContext u5
  have hu5 : Reach T s₀ u5 := (Reach.ite (fun _ => hu4) (fun _ => (State.setDoor_reach (sub_.sub (by decide)) hu4)))
  clear_value u5
  extract_lets +onlyGivenNames -merge -useContext u6
  have hu6 : Reach T s₀ u6 := (Reach.ite (fun _ => (State.resolve_reach (sub_.sub (by decide)) (State.rankCmd_reach (sub_.sub (by decide)) hu4)))
    (fun _ => (State.resolve_reach (sub_.sub (by decide)) hu5)))
  clear_value u6
  exact Reach.foldl _ hu6 (fun _ _ hu => State.resolve_reach (sub_.sub (by decide)) hu)

theorem State.judgeTaken_reach {T : Nat} {s₀ s : State} {f : Nat} {k : DoorCmd} (sub_ : Sub 40809533440 T)
    (reach_ : Reach T s₀
    s) :
    Reach T s₀ (State.judgeTaken s f k) := by
  unfold State.judgeTaken
  split
  · exact (Reach.ite (fun _ => (State.judge_reach (sub_.sub (by decide)) reach_)) (fun _ => reach_))
  · exact reach_

theorem State.enterLatch_reach {T : Nat} {s₀ s : State} {f : Nat} {e : LatchEntry} (sub_ : Sub 2097152 T)
    (reach_ : Reach T s₀
    s) :
    Reach T s₀ (State.enterLatch s f e) := by
  unfold State.enterLatch
  split
  · exact (State.setDoor_reach (sub_.sub (by decide)) reach_)
  · exact (by
      split
      · exact (by
          extract_lets +onlyGivenNames -merge -useContext u1
          have hu1 : Reach T s₀ u1 := (State.setDoor_reach (sub_.sub (by decide)) reach_)
          clear_value u1
          split
          · exact hu1
          · exact (State.setDoor_reach (sub_.sub (by decide)) hu1)))

theorem State.applyDoor_reach {T : Nat} {s₀ s : State} {t f : Nat} {cmd : DoorCmd} {rank : Rank} (sub_ : Sub 2097152 T)
    (reach_ : Reach T s₀ s) :
    Reach T s₀ (State.applyDoor s t f cmd rank) := by
  unfold State.applyDoor
  exact (Reach.ite (fun _ => (State.setDoor_reach (sub_.sub (by decide)) reach_)) (fun _ => (Reach.ite (fun _ => (State.setDoor_reach (sub_.sub (by decide)) reach_)) (fun _ => (State.enterLatch_reach (sub_.sub (by decide)) reach_)))))

theorem State.takeLatch_reach {T : Nat} {s₀ s : State} {f : Nat} (sub_ : Sub 2097152 T) (reach_ : Reach T s₀ s) :
    Reach T s₀ (State.takeLatch s f) := by
  unfold State.takeLatch
  extract_lets +onlyGivenNames -merge -useContext v1
  extract_lets +onlyGivenNames -merge -useContext v2
  split
  · exact reach_
  · extract_lets +onlyGivenNames -merge -useContext v3
    exact (State.setDoor_reach (sub_.sub (by decide)) reach_)

theorem State.strokeReached_reach {T : Nat} {s₀ s : State} {f : Nat} (sub_ : Sub 3145728 T) (reach_ : Reach T s₀ s) :
    Reach T s₀ (State.strokeReached s f) := by
  unfold State.strokeReached
  extract_lets +onlyGivenNames -merge -useContext v1
  exact (Reach.ite (fun _ => reach_) (fun _ => (Reach.ite (fun _ => (State.setDoor_reach (sub_.sub (by decide)) reach_)) (fun _ => (Reach.ite (fun _ => (State.setDoor_reach (sub_.sub (by decide)) (State.ungear_reach (sub_.sub (by decide)) reach_))) (fun _ => (Reach.ite (fun _ => (State.setDoor_reach (sub_.sub (by decide)) reach_)) (fun _ => reach_))))))))

theorem State.doorEval_reach {T : Nat} {s₀ s : State} {f : Nat} (sub_ : Sub 45104771072 T) (reach_ : Reach T s₀ s) :
    Reach T s₀ (State.doorEval s f) := by
  unfold State.doorEval
  extract_lets +onlyGivenNames -merge -useContext u1
  have hu1 : Reach T s₀ u1 := (Reach.ite (fun _ => (State.setDoor_reach (sub_.sub (by decide)) reach_)) (fun _ => reach_))
  clear_value u1
  extract_lets +onlyGivenNames -merge -useContext u2
  have hu2 : Reach T s₀ u2 := State.strokeReached_reach (sub_.sub (by decide)) hu1
  clear_value u2
  extract_lets +onlyGivenNames -merge -useContext v3 v3'
  extract_lets +onlyGivenNames -merge -useContext u4
  have hu4 : Reach T s₀ u4 := (by
      unfold u4
      split
      · exact (Reach.ite (fun _ => (State.doorRow_reach (sub_.sub (by decide)) ‹_› hu2)) (fun _ => hu2))
      · exact hu2)
  clear_value u4
  extract_lets +onlyGivenNames -merge -useContext u5
  have hu5 : Reach T s₀ u5 := (Reach.ite (fun _ => hu4) (fun _ => (State.markFaults_reach (sub_.sub (by decide)) hu4)))
  clear_value u5
  exact (Reach.ite (fun _ => hu5) (fun _ => (by
  split
  · exact (State.reactSample_reach (sub_.sub (by decide)) hu5)
  · exact (Reach.ite (fun _ => (State.refSample_reach (sub_.sub (by decide)) hu5)) (fun _ => hu5))
  · exact (Reach.ite (fun _ => (State.stepExtend_reach (sub_.sub (by decide)) hu5)) (fun _ => hu5))
  · exact (by
      split
      · exact (Reach.ite (fun _ => (State.beginMoves_reach (sub_.sub (by decide)) hu5)) (fun _ => hu5))
      · exact hu5))))

theorem State.seqSample_reach {T : Nat} {s₀ s : State} {f : Nat} (sub_ : Sub 45104771072 T) (reach_ : Reach T s₀ s) :
    Reach T s₀ (State.seqSample s f) := by
  unfold State.seqSample
  exact (Reach.ite (fun _ => reach_) (fun _ => (by
    extract_lets +onlyGivenNames -merge -useContext v1
    have hv1 : Reach T s₀ v1 := (Reach.ite (fun _ => (State.lockEval_reach (sub_.sub (by decide)) reach_)) (fun _ => reach_))
    clear_value v1
    extract_lets +onlyGivenNames -merge -useContext v2
    have hv2 : Reach T s₀ v2 := (Reach.ite (fun _ => (State.stepEval_reach (sub_.sub (by decide)) hv1)) (fun _ => hv1))
    clear_value v2
    extract_lets +onlyGivenNames -merge -useContext v3
    have hv3 : Reach T s₀ v3 := (Reach.ite (fun _ => (Reach.ite (fun _ => hv2) (fun _ => (State.doorEval_reach (sub_.sub (by decide)) hv2)))) (fun _ => (Reach.ite (fun _ => (State.refSample_reach (sub_.sub (by decide)) hv2)) (fun _ => hv2))))
    clear_value v3
    exact (State.releaseAtRest_reach (sub_.sub (by decide)) hv3))))

theorem State.startService_reach {T : Nat} {s₀ s : State} {f : Nat} (sub_ : Sub 36514566144 T) (reach_ : Reach T s₀ s) :
    Reach T s₀ (State.startService s f) := by
  unfold State.startService
  extract_lets +onlyGivenNames -merge -useContext v1
  have hv1 : Reach T s₀ v1 := (State.abortRun_reach (sub_.sub (by decide)) reach_)
  clear_value v1
  extract_lets +onlyGivenNames -merge -useContext v2
  have hv2 : Reach T s₀ v2 := (State.setDoor_reach (sub_.sub (by decide)) hv1)
  clear_value v2
  extract_lets +onlyGivenNames -merge -useContext v3
  have hv3 : Reach T s₀ v3 := (State.modCyc_reach (sub_.sub (by decide)) hv2)
  clear_value v3
  extract_lets +onlyGivenNames -merge -useContext v4
  have hv4 : Reach T s₀ v4 := (State.modObs_reach (sub_.sub (by decide)) hv3)
  clear_value v4
  extract_lets +onlyGivenNames -merge -useContext v5
  have hv5 : Reach T s₀ v5 := (State.markFaults_reach (sub_.sub (by decide)) hv4)
  clear_value v5
  extract_lets +onlyGivenNames -merge -useContext v6
  extract_lets +onlyGivenNames -merge -useContext v7
  exact (Reach.ite (fun _ => (State.isolate_reach (sub_.sub (by decide)) hv5)) (fun _ => (Reach.ite (fun _ => (State.egress_reach (sub_.sub (by decide)) hv5)) (fun _ => (Reach.ite (fun _ => (State.doorFault_reach (sub_.sub (by decide)) hv5)) (fun _ => (Reach.ite (fun _ => (State.doorFault_reach (sub_.sub (by decide)) hv5)) (fun _ => (Reach.ite (fun _ => (State.startRun_reach (sub_.sub (by decide)) (State.enterDoor_reach (sub_.sub (by decide)) hv5))) (fun _ => (Reach.ite (fun _ => (State.doorFault_reach (sub_.sub (by decide)) hv5)) (fun _ => (State.doorFault_reach (sub_.sub (by decide)) hv5)))))))))))))

theorem State.enterService_reach {T : Nat} {s₀ s : State} {f : Nat} (sub_ : Sub 36514566144 T) (reach_ : Reach T s₀ s) :
    Reach T s₀ (State.enterService s f) := by
  unfold State.enterService
  extract_lets +onlyGivenNames -merge -useContext u1
  have hu1 : Reach T s₀ u1 := (Reach.ite (fun _ => (State.enterLock_reach (sub_.sub (by decide)) reach_)) (fun _ => reach_))
  clear_value u1
  extract_lets +onlyGivenNames -merge -useContext u2
  have hu2 : Reach T s₀ u2 := (Reach.ite (fun _ => (State.stepService_reach (sub_.sub (by decide)) hu1)) (fun _ => hu1))
  clear_value u2
  exact (Reach.ite (fun _ => (State.startService_reach (sub_.sub (by decide)) hu2)) (fun _ => hu2))

theorem State.leaveService_reach {T : Nat} {s₀ s : State} {f : Nat} {safeHold : Bool} (sub_ : Sub 40809529344 T)
    (reach_ : Reach T s₀ s) :
    Reach T s₀ (State.leaveService s f safeHold) := by
  unfold State.leaveService
  exact (Reach.ite (fun _ => reach_) (fun _ => (by
    extract_lets +onlyGivenNames -merge -useContext v1
    extract_lets +onlyGivenNames -merge -useContext v2
    have hv2 : Reach T s₀ v2 := (by
      unfold v2
      split
      · exact (Reach.foldl _ (State.resolve_reach (sub_.sub (by decide)) reach_) (fun u3 _ hu5 => (State.resolve_reach (sub_.sub (by decide)) hu5)))
      · exact reach_)
    clear_value v2
    extract_lets +onlyGivenNames -merge -useContext v6
    have hv6 : Reach T s₀ v6 := (Reach.foldl _ hv2 (fun u7 _ hu9 => (State.resolve_reach (sub_.sub (by decide)) hu9)))
    clear_value v6
    extract_lets +onlyGivenNames -merge -useContext v10
    have hv10 : Reach T s₀ v10 := (State.stopMoving_reach (sub_.sub (by decide)) (State.stopMoving_reach (sub_.sub (by decide)) hv6))
    clear_value v10
    extract_lets +onlyGivenNames -merge -useContext v11
    have hv11 : Reach T s₀ v11 := (State.seqCmd_reach (sub_.sub (by decide)) hv10)
    clear_value v11
    extract_lets +onlyGivenNames -merge -useContext v12
    have hv12 : Reach T s₀ v12 := (Reach.ite (fun _ => (State.record_reach (sub_.sub (by decide)) (State.setDoor_reach (sub_.sub (by decide)) hv11))) (fun _ => hv11))
    clear_value v12
    exact (State.endStroke_reach (sub_.sub (by decide)) (State.setDoor_reach (sub_.sub (by decide)) hv12)))))

end Sys2Proof.Machine
end

