-- ==== Sys2Proof/Laws/Frame/ProgramOps.lean ====
section
/-! SUPPORT. What the operations of Machine/ProgramOps.lean may change: one lemma for each, whose mask names the fields. -/

set_option Elab.async false

namespace Sys2Proof.Machine

theorem State.modCan_reach {T : Nat} {s₀ s : State} {p : Nat} {f : CanPort → CanPort} (sub_ : Sub 1073741824 T)
    (reach_ : Reach
    T s₀ s) :
    Reach T s₀ (State.modCan s p f) := by
  unfold State.modCan
  exact Reach.set_can (sub_.sub (by decide)) reach_

theorem State.canSend_reach {T : Nat} {s₀ s : State} {p : Nat} {id : BitVec 11} {data : Bytes} (sub_ : Sub 35433480192 T)
    (reach_ : Reach T s₀ s) :
    Reach T s₀ (State.canSend s p id data) := by
  unfold State.canSend
  exact Reach.ite (fun _ => reach_) (fun _ => (by
    split
    · exact reach_
    · exact (State.modCan_reach (sub_.sub (by decide)) reach_)
    · exact (State.send_reach (sub_.sub (by decide)) reach_)))

theorem State.canSendAll_reach {T : Nat} {s₀ s : State} {p : Nat} {l : List (BitVec 11 × Bytes)}
    (sub_ : Sub 104152956928 T) (reach_ : Reach T s₀ s) :
    Reach T s₀ (State.canSendAll s p l) := by
  unfold State.canSendAll
  exact (Reach.ite (fun _ => (Reach.foldl _ reach_ (fun u1 _ hu3 => (State.canSend_reach (sub_.sub (by decide)) hu3)))) (fun _ => (by
    extract_lets +onlyGivenNames -merge -useContext v4
    extract_lets +onlyGivenNames -merge -useContext v5
    have hv5 : Reach T s₀ v5 := (Reach.set_draws (sub_.sub (by decide)) reach_)
    clear_value v5
    exact (State.modCan_reach (sub_.sub (by decide)) (Reach.foldl _ hv5 (fun u6 _ hu8 => (State.canSend_reach (sub_.sub (by decide)) hu8)))))))

theorem State.canLate_reach {T : Nat} {s₀ s : State} (sub_ : Sub 1073741824 T) (reach_ : Reach T s₀ s) :
    Reach T s₀ (State.canLate s) := by
  unfold State.canLate
  exact (Reach.set_can (sub_.sub (by decide)) reach_)

theorem State.nmt_reach {T : Nat} {s₀ s : State} {p : Nat} {cmd node : BitVec 8} (sub_ : Sub 35433480192 T) (reach_ : Reach T
    s₀ s) :
    Reach T s₀ (State.nmt s p cmd node) := by
  unfold State.nmt
  exact State.canSend_reach (sub_.sub (by decide)) reach_

theorem State.nmtAll_reach {T : Nat} {s₀ s : State} {cmd : BitVec 8} (sub_ : Sub 35433480192 T) (reach_ : Reach T s₀ s) :
    Reach T s₀ (State.nmtAll s cmd) := by
  unfold State.nmtAll
  exact State.nmt_reach (sub_.sub (by decide)) (State.nmt_reach (sub_.sub (by decide)) reach_)

theorem State.nmtStart_reach {T : Nat} {s₀ s : State} (sub_ : Sub 35433480192 T) (reach_ : Reach T s₀ s) :
    Reach T s₀ (State.nmtStart s) := by
  unfold State.nmtStart
  exact Reach.forEach _ reach_ (fun u1 _ hu1 => (by
    split
    · exact hu1
    · exact (State.nmt_reach (sub_.sub (by decide)) hu1)))

theorem State.clearForces_reach {T : Nat} {s₀ s : State} {cause : Nat} (sub_ : Sub 37044092928 T) (reach_ : Reach T s₀ s) :
    Reach T s₀ (State.clearForces s cause) := by
  unfold State.clearForces
  exact State.record_reach (sub_.sub (by decide)) (Reach.set_prog (sub_.sub (by decide)) reach_ (fun k => ⟨k.1, k.2, k.3⟩))

theorem State.dropOutputs_reach {T : Nat} {s₀ s : State} {c : Container} (sub_ : Sub 34360008704 T) (reach_ : Reach T s₀ s) :
    Reach T s₀ (State.dropOutputs s c) := by
  unfold State.dropOutputs
  extract_lets +onlyGivenNames -merge -useContext u2
  have hu2 : Reach T s₀ u2 := (Reach.foldl _ reach_ (fun u1 _ hu1 => (State.driveTread_reach (sub_.sub (by decide)) hu1)))
  clear_value u2
  exact (Reach.foldl _ hu2 (fun u3 _ hu3 => (State.setAux_reach (sub_.sub (by decide)) hu3)))

theorem State.progCommand_reach {T : Nat} {s₀ s : State} {a : Nat} {c : AxCmd} (sub_ : Sub 36508278784 T)
    (reach_ : Reach T s₀
    s) :
    Reach T s₀ (State.progCommand s a c).2 := by
  unfold State.progCommand
  exact Reach.ite2 (fun _ => (Reach.mk2 reach_)) (fun _ => (State.axisCommand_reach (sub_.sub (by decide)) reach_))

theorem State.quietProgram_reach {T : Nat} {s₀ s : State} (sub_ : Sub 35434799104 T) (reach_ : Reach T s₀ s) :
    Reach T s₀ (State.quietProgram s) := by
  unfold State.quietProgram
  split
  · exact reach_
  · extract_lets +onlyGivenNames -merge -useContext v1
    have hv1 : Reach T s₀ v1 := (State.dropOutputs_reach (sub_.sub (by decide)) reach_)
    clear_value v1
    extract_lets +onlyGivenNames -merge -useContext v2
    have hv2 : Reach T s₀ v2 := (Reach.foldl _ hv1 (fun u3 _ hu5 => (State.seqCmd_reach (sub_.sub (by decide)) hu5)))
    clear_value v2
    exact (State.nmtAll_reach (sub_.sub (by decide)) hv2)

theorem State.stopProgram_reach {T : Nat} {s₀ s : State} {cause : Nat} (sub_ : Sub 38119153664 T) (reach_ : Reach T s₀ s) :
    Reach T s₀ (State.stopProgram s cause) := by
  unfold State.stopProgram
  exact Reach.ite (fun _ => reach_) (fun _ => (by
    extract_lets +onlyGivenNames -merge -useContext u1
    have hu1 : Reach T s₀ u1 := (State.quietProgram_reach (sub_.sub (by decide)) reach_)
    clear_value u1
    extract_lets +onlyGivenNames -merge -useContext w_ u2
    have hu2 : Reach T s₀ u2 := (Reach.set_prog (sub_.sub (by decide)) hu1 (fun k => ⟨k.1, k.2, k.3⟩))
    clear_value u2
    exact (State.clearForces_reach (sub_.sub (by decide)) hu2)))

theorem State.resumeProgram_reach {T : Nat} {s₀ s : State} (sub_ : Sub 35970351104 T) (reach_ : Reach T s₀ s) :
    Reach T s₀ (State.resumeProgram s) := by
  unfold State.resumeProgram
  exact Reach.ite (fun _ => (State.nmtStart_reach (sub_.sub (by decide)) (Reach.set_prog (sub_.sub (by decide)) reach_ (fun k => ⟨k.1, k.2, k.3⟩)))) (fun _ => reach_)

theorem State.progStopWrite_reach {T : Nat} {s₀ s : State} {v : BitVec 32} (sub_ : Sub 38119153664 T)
    (reach_ : Reach T s₀ s) :
    Reach T s₀ (State.progStopWrite s v).2 := by
  unfold State.progStopWrite
  exact Reach.ite2 (fun _ => (Reach.mk2 reach_)) (fun _ => (Reach.ite2 (fun _ => (Reach.mk2 reach_)) (fun _ => (Reach.mk2 (State.recordIf_reach (sub_.sub (by decide)) (State.stopProgram_reach (sub_.sub (by decide)) reach_))))))

theorem State.progRestartWrite_reach {T : Nat} {s₀ s : State} {v : BitVec 32} (sub_ : Sub 536870912 T)
    (reach_ : Reach T s₀ s) :
    Reach T s₀ (State.progRestartWrite s v).2 := by
  unfold State.progRestartWrite
  exact Reach.ite2 (fun _ => (Reach.mk2 reach_)) (fun _ => (Reach.ite2 (fun _ => (Reach.mk2 reach_)) (fun _ => (Reach.mk2 (Reach.set_prog (sub_.sub (by decide)) reach_ (fun k => ⟨k.1, k.2, k.3⟩))))))

theorem State.forceClearWrite_reach {T : Nat} {s₀ s : State} {v : BitVec 32} (sub_ : Sub 37044092928 T)
    (reach_ : Reach T s₀ s) :
    Reach T s₀ (State.forceClearWrite s v).2 := by
  unfold State.forceClearWrite
  exact Reach.ite2 (fun _ => (Reach.mk2 reach_)) (fun _ => (Reach.mk2 (State.clearForces_reach (sub_.sub (by decide)) reach_)))

end Sys2Proof.Machine
end

