-- ==== Sys2Proof/Laws/Frame/AxisInbox.lean ====
section
/-! SUPPORT. What the operations of Machine/AxisInbox.lean may change: one lemma for each, whose mask names the fields. -/

set_option Elab.async false

namespace Sys2Proof.Machine

theorem State.holdAxis_reach {T : Nat} {s₀ s : State} {a : Nat} {session : BitVec 16} {c : AxCmd} (sub_ : Sub 4294967296 T)
    (reach_ : Reach T s₀ s) :
    Reach T s₀ (State.holdAxis s a session c) := by
  unfold State.holdAxis
  extract_lets +onlyGivenNames -merge -useContext v1
  extract_lets +onlyGivenNames -merge -useContext v2
  exact (Reach.set_host (sub_.sub (by decide)) reach_)

theorem State.markHostMotion_reach {T : Nat} {s₀ s : State} {a : Nat} (sub_ : Sub 4194304 T) (reach_ : Reach T s₀ s) :
    Reach T s₀ (State.markHostMotion s a) := by
  unfold State.markHostMotion
  exact State.modObs_reach (sub_.sub (by decide)) reach_

theorem State.hostMotion_reach {T : Nat} {s₀ s : State} {a : Nat} {p : Pend} {c : AxCmd} (sub_ : Sub 40807440384 T)
    (reach_ : Reach T s₀ s) :
    Reach T s₀ (State.hostMotion s a p c) := by
  unfold State.hostMotion
  split
  · exact (State.answer_reach (sub_.sub (by decide)) reach_)
  · extract_lets +onlyGivenNames -merge -useContext v1
    split
    rename_i a2 t2 e2
    have ht2 : Reach T s₀ t2 := Reach.of_eq e2 (State.axisCommand_reach (sub_.sub (by decide)) reach_)
    exact (Reach.ite (fun _ => (State.answer_reach (sub_.sub (by decide)) reach_)) (fun _ => (by
      extract_lets +onlyGivenNames -merge -useContext v3
      have hv3 : Reach T s₀ v3 := (Reach.ite (fun _ => (State.markHostMotion_reach (sub_.sub (by decide)) ht2)) (fun _ => (State.holdAxis_reach (sub_.sub (by decide)) (State.markHostMotion_reach (sub_.sub (by decide)) ht2))))
      clear_value v3
      exact (State.answer_reach (sub_.sub (by decide)) hv3))))

theorem State.settle_reach {T : Nat} {s₀ s : State} {id : BitVec 16} {st : Nat} (sub_ : Sub 536870912 T)
    (reach_ : Reach T s₀ s) :
    Reach T s₀ (State.settle s id st) := by
  unfold State.settle
  exact State.modInst_reach (sub_.sub (by decide)) reach_

theorem State.blockMotion_reach {T : Nat} {s₀ s : State} {a : Nat} {id : BitVec 16} {ty : BitVec 8} {c : AxCmd}
    (sub_ : Sub 37045149696 T) (reach_ : Reach T s₀ s) :
    Reach T s₀ (State.blockMotion s a id ty c) := by
  unfold State.blockMotion
  split
  rename_i a1 t1 e1
  have ht1 : Reach T s₀ t1 := Reach.of_eq e1 (State.progCommand_reach (sub_.sub (by decide)) reach_)
  extract_lets +onlyGivenNames -merge -useContext v2
  extract_lets +onlyGivenNames -merge -useContext v3
  extract_lets +onlyGivenNames -merge -useContext v4
  extract_lets +onlyGivenNames -merge -useContext v5
  have hv5 : Reach T s₀ v5 := (Reach.set_prog (sub_.sub (by decide)) ht1 (fun k => { k with }))
  clear_value v5
  extract_lets +onlyGivenNames -merge -useContext v6
  have hv6 : Reach T s₀ v6 := (Reach.ite (fun _ => ht1) (fun _ => (State.modInst_reach (sub_.sub (by decide)) hv5)))
  clear_value v6
  exact (State.modInst_reach (sub_.sub (by decide)) hv6)

theorem State.runMotion_reach {T : Nat} {s₀ s : State} {a f : Nat} {c : AxCmd} (sub_ : Sub 36514574336 T)
    (reach_ : Reach T s₀ s) :
    Reach T s₀ (State.runMotion s a f c) := by
  unfold State.runMotion
  split
  rename_i a1 t1 e1
  have ht1 : Reach T s₀ t1 := Reach.of_eq e1 (State.axisCommand_reach (sub_.sub (by decide)) reach_)
  exact (Reach.ite (fun _ => ht1) (fun _ => (by
    extract_lets +onlyGivenNames -merge -useContext v2
    have hv2 : Reach T s₀ v2 := (State.abortRun_reach (sub_.sub (by decide)) reach_)
    clear_value v2
    exact (Reach.ite (fun _ => (State.doorFault_reach (sub_.sub (by decide)) hv2)) (fun _ => hv2)))))

theorem State.takeReq_reach {T : Nat} {s₀ s : State} {a : Nat} {r : AxReq} (sub_ : Sub 41346412544 T)
    (reach_ : Reach T s₀ s) :
    Reach T s₀ (State.takeReq s a r) := by
  unfold State.takeReq
  split
  · exact (State.hostMotion_reach (sub_.sub (by decide)) reach_)
  · exact (State.blockMotion_reach (sub_.sub (by decide)) reach_)
  · exact (State.runMotion_reach (sub_.sub (by decide)) reach_)
  · exact (State.axisCommand_reach (sub_.sub (by decide)) reach_)

theorem State.takeInbox_reach {T : Nat} {s₀ s : State} {a : Nat} (sub_ : Sub 41346412544 T) (reach_ : Reach T s₀ s) :
    Reach T s₀ (State.takeInbox s a) := by
  unfold State.takeInbox
  extract_lets +onlyGivenNames -merge -useContext v1
  exact (Reach.ite (fun _ => reach_) (fun _ => (Reach.foldl _ (State.modAxis_reach (sub_.sub (by decide)) reach_) (fun u2 _ hu4 => (State.takeReq_reach (sub_.sub (by decide)) hu4)))))

end Sys2Proof.Machine
end

