-- ==== Sys2Proof/Laws/Frame/Flags.lean ====
section
/-! SUPPORT. What the operations of Machine/Flags.lean may change: one lemma for each, whose mask names the fields. -/

set_option Elab.async false

namespace Sys2Proof.Machine

theorem State.modPair_reach {T : Nat} {s₀ s : State} {n : Nat} {g : Pair → Pair} (sub_ : Sub 33554432 T)
    (reach_ : Reach T s₀ s) :
    Reach T s₀ (State.modPair s n g) := by
  unfold State.modPair
  exact Reach.ite (fun _ => (by
    split
    · exact (State.modFsafe_reach (sub_.sub (by decide)) reach_)
    · exact (State.modFsafe_reach (sub_.sub (by decide)) reach_)
    · exact (State.modFsafe_reach (sub_.sub (by decide)) reach_)
    · exact (State.modFsafe_reach (sub_.sub (by decide)) reach_))) (fun _ => (Reach.ite (fun _ => (Reach.set_safety (sub_.sub (by decide)) reach_ rfl)) (fun _ => (Reach.ite (fun _ => (Reach.set_safety (sub_.sub (by decide)) reach_ rfl)) (fun _ => (Reach.set_safety (sub_.sub (by decide)) reach_ rfl))))))

end Sys2Proof.Machine
end

