-- ==== Sys2Proof/Laws/Frame/RingOps.lean ====
section
/-! SUPPORT. What the operations of Machine/RingOps.lean may change: one lemma for each, whose mask names the fields. -/

set_option Elab.async false

namespace Sys2Proof.Machine

theorem State.modRingPort_reach {T : Nat} {s₀ s : State} {p : Nat} {f : RingPort → RingPort} (sub_ : Sub 8589934592 T)
    (reach_
    : Reach T s₀ s) :
    Reach T s₀ (State.modRingPort s p f) := by
  unfold State.modRingPort
  exact Reach.set_ring (sub_.sub (by decide)) reach_

theorem State.ringTrigger_reach {T : Nat} {s₀ s : State} (sub_ : Sub 8589934592 T) (reach_ : Reach T s₀ s) :
    Reach T s₀ (State.ringTrigger s) := by
  unfold State.ringTrigger
  extract_lets +onlyGivenNames -merge -useContext v1
  exact (Reach.ite (fun _ => (Reach.set_ring (sub_.sub (by decide)) reach_)) (fun _ => (Reach.set_ring (sub_.sub (by decide)) reach_)))

theorem State.ringSample_reach {T : Nat} {s₀ s : State} (sub_ : Sub 8589934592 T) (reach_ : Reach T s₀ s) :
    Reach T s₀ (State.ringSample s) := by
  unfold State.ringSample
  exact (Reach.ite (fun _ => reach_) (fun _ => (by
    extract_lets +onlyGivenNames -merge -useContext v1
    exact (Reach.set_ring (sub_.sub (by decide)) reach_))))

theorem State.ringSums_reach {T : Nat} {s₀ s : State} (sub_ : Sub 8589934592 T) (reach_ : Reach T s₀ s) :
    Reach T s₀ (State.ringSums s) := by
  unfold State.ringSums
  exact (Reach.ite (fun _ => reach_) (fun _ => (by
    extract_lets +onlyGivenNames -merge -useContext v1
    extract_lets +onlyGivenNames -merge -useContext v2
    exact (Reach.set_ring (sub_.sub (by decide)) reach_))))

theorem State.takeCh_reach {T : Nat} {s₀ s : State} {e : Bytes} (sub_ : Sub 8589934592 T) (reach_ : Reach T s₀ s) :
    Reach T s₀ (State.takeCh s e) := by
  unfold State.takeCh
  exact (Reach.ite (fun _ => reach_) (fun _ => (by
    extract_lets +onlyGivenNames -merge -useContext v1
    extract_lets +onlyGivenNames -merge -useContext v2
    exact (Reach.set_ring (sub_.sub (by decide)) reach_))))

theorem State.takeChs_reach {T : Nat} {s₀ s : State} {x : Nat × Nat × Nat} {bs : Bytes} (sub_ : Sub 8589934592 T)
    (reach_ : Reach T s₀ s) :
    Reach T s₀ (State.takeChs s x bs) := by
  unfold State.takeChs
  extract_lets +onlyGivenNames -merge -useContext v1
  have hv1 : Reach T s₀ v1 := (Reach.foldl _ reach_ (fun u2 _ hu4 => (State.takeCh_reach (sub_.sub (by decide)) hu4)))
  clear_value v1
  exact (Reach.set_ring (sub_.sub (by decide)) hv1)

theorem State.ringSend_reach {T : Nat} {s₀ s : State} (sub_ : Sub 42949672960 T) (reach_ : Reach T s₀ s) :
    Reach T s₀ (State.ringSend s) := by
  unfold State.ringSend
  exact (Reach.ite (fun _ => reach_) (fun _ => (by
    extract_lets +onlyGivenNames -merge -useContext v1
    extract_lets +onlyGivenNames -merge -useContext v2
    extract_lets +onlyGivenNames -merge -useContext v3
    have hv3 : Reach T s₀ v3 := (Reach.set_ring (sub_.sub (by decide)) reach_)
    clear_value v3
    extract_lets +onlyGivenNames -merge -useContext v4
    extract_lets +onlyGivenNames -merge -useContext v5
    exact (State.send_reach (sub_.sub (by decide)) (Reach.foldl _ hv3 (fun u6 _ hu8 => (by
      split
      · exact (State.takeChs_reach (sub_.sub (by decide)) hu8))))))))

theorem State.announce_reach {T : Nat} {s₀ s : State} (sub_ : Sub 42949672960 T) (reach_ : Reach T s₀ s) :
    Reach T s₀ (State.announce s) := by
  unfold State.announce
  extract_lets +onlyGivenNames -merge -useContext v1
  exact (Reach.ite (fun _ => reach_) (fun _ => (by
    extract_lets +onlyGivenNames -merge -useContext v2
    extract_lets +onlyGivenNames -merge -useContext v3
    have hv3 : Reach T s₀ v3 := (Reach.set_ring (sub_.sub (by decide)) reach_)
    clear_value v3
    exact (Reach.ite (fun _ => hv3) (fun _ => (Reach.forEach _ hv3 (fun u4 _ hu6 => (Reach.ite (fun _ => (State.send_reach (sub_.sub (by decide)) hu6)) (fun _ => hu6)))))))))

theorem State.ringTick_reach {T : Nat} {s₀ s : State} (sub_ : Sub 8589934592 T) (reach_ : Reach T s₀ s) :
    Reach T s₀ (State.ringTick s) := by
  unfold State.ringTick
  extract_lets +onlyGivenNames -merge -useContext v1
  extract_lets +onlyGivenNames -merge -useContext v2
  extract_lets +onlyGivenNames -merge -useContext v3
  extract_lets +onlyGivenNames -merge -useContext v4
  exact (Reach.ite (fun _ => (Reach.set_ring (sub_.sub (by decide)) reach_)) (fun _ => (Reach.set_ring (sub_.sub (by decide)) reach_)))

theorem State.ringEnd_reach {T : Nat} {s₀ s : State} (sub_ : Sub 42949672960 T) (reach_ : Reach T s₀ s) :
    Reach T s₀ (State.ringEnd s) := by
  unfold State.ringEnd
  exact (State.announce_reach (sub_.sub (by decide)) (State.ringSend_reach (sub_.sub (by decide)) (State.ringSums_reach (sub_.sub (by decide)) reach_)))

end Sys2Proof.Machine
end

