-- ==== Sys2Proof/Laws/Frame/SafeLink.lean ====
section
/-! SUPPORT. What the operations of Machine/SafeLink.lean may change: one lemma for each, whose mask names the fields. -/

set_option Elab.async false

namespace Sys2Proof.Machine

theorem State.refreshConns_reach {T : Nat} {s₀ s : State} (sub_ : Sub 67108864 T) (reach_ : Reach T s₀ s) :
    Reach T s₀ (State.refreshConns s) := by
  unfold State.refreshConns
  exact State.mapConns_reach (sub_.sub (by decide)) reach_

theorem State.firstStandbyEntry_reach {T : Nat} {s₀ s : State} (sub_ : Sub 234881024 T) (reach_ : Reach T s₀ s) :
    Reach T s₀ (State.firstStandbyEntry s) := by
  unfold State.firstStandbyEntry
  exact Reach.ite (fun _ => reach_) (fun _ => (State.refreshConns_reach (sub_.sub (by decide)) (Reach.set_safety_firstStandby (sub_.sub (by decide)) reach_ rfl)))

theorem State.buildVsf_reach {T : Nat} {s₀ s : State} {c : Nat} (sub_ : Sub 68786585600 T) (reach_ : Reach T s₀ s) :
    Reach T s₀ (State.buildVsf s c).2 := by
  unfold State.buildVsf
  extract_lets +onlyGivenNames -merge -useContext v1
  extract_lets +onlyGivenNames -merge -useContext v2
  extract_lets +onlyGivenNames -merge -useContext v3
  exact (Reach.mk2 (State.draw_reach (sub_.sub (by decide)) (State.modConn_reach (sub_.sub (by decide)) reach_)))

theorem State.vsfDiscard_reach {T : Nat} {s₀ s : State} {c k check : Nat} {bs : Bytes} (sub_ : Sub 36574330880 T) (reach_ :
    Reach T s₀ s) :
    Reach T s₀ (State.vsfDiscard s c k check bs) := by
  unfold State.vsfDiscard
  extract_lets +onlyGivenNames -merge -useContext u1
  have hu1 : Reach T s₀ u1 := (State.modConn_reach (sub_.sub (by decide)) reach_)
  clear_value u1
  extract_lets +onlyGivenNames -merge -useContext u2
  have hu2 : Reach T s₀ u2 := (Reach.ite (fun _ => hu1) (fun _ => (State.recordLimited_reach (sub_.sub (by decide)) hu1)))
  clear_value u2
  exact (Reach.ite (fun _ => (State.recordLimited_reach (sub_.sub (by decide)) hu2)) (fun _ => hu2))

theorem State.vsfAccept_reach {T : Nat} {s₀ s : State} {c echo : Nat} {bs : Bytes} (sub_ : Sub 36574330880 T)
    (reach_ : Reach T
    s₀ s) :
    Reach T s₀ (State.vsfAccept s c echo bs) := by
  unfold State.vsfAccept
  extract_lets +onlyGivenNames -merge -useContext v1
  extract_lets +onlyGivenNames -merge -useContext u2
  have hu2 : Reach T s₀ u2 := (State.modConn_reach (sub_.sub (by decide)) reach_)
  clear_value u2
  exact (State.recordIf_reach (sub_.sub (by decide)) hu2)

theorem State.vsfRestart_reach {T : Nat} {s₀ s : State} {c cause : Nat} (sub_ : Sub 36574330880 T) (reach_ : Reach T s₀ s) :
    Reach T s₀ (State.vsfRestart s c cause) := by
  unfold State.vsfRestart
  exact State.record_reach (sub_.sub (by decide)) (State.modConn_reach (sub_.sub (by decide)) reach_)

theorem State.judgeVsf_reach {T : Nat} {s₀ s : State} {c : Nat} {bs : Bytes} (sub_ : Sub 36574330880 T)
    (reach_ : Reach T s₀ s) :
    Reach T s₀ (State.judgeVsf s c bs) := by
  unfold State.judgeVsf
  exact Reach.ite (fun _ => reach_) (fun _ => (by
    split
    · exact (State.vsfDiscard_reach (sub_.sub (by decide)) (State.modConn_reach (sub_.sub (by decide)) reach_))
    · exact (by
        extract_lets +onlyGivenNames -merge -useContext u1
        have hu1 : Reach T s₀ u1 := (State.modConn_reach (sub_.sub (by decide)) reach_)
        clear_value u1
        split
        · exact (State.vsfAccept_reach (sub_.sub (by decide)) hu1)
        · exact (by
            extract_lets +onlyGivenNames -merge -useContext v2
            extract_lets +onlyGivenNames -merge -useContext u3
            have hu3 : Reach T s₀ u3 := (State.vsfDiscard_reach (sub_.sub (by decide)) (State.modConn_reach (sub_.sub (by decide)) hu1))
            clear_value u3
            exact (Reach.ite (fun _ => (State.vsfRestart_reach (sub_.sub (by decide)) hu3)) (fun _ => hu3))))))

theorem State.refreshValid_reach {T : Nat} {s₀ s : State} (sub_ : Sub 67108864 T) (reach_ : Reach T s₀ s) :
    Reach T s₀ (State.refreshValid s) := by
  unfold State.refreshValid
  exact State.mapConns_reach (sub_.sub (by decide)) reach_

theorem State.linkTick_reach {T : Nat} {s₀ s : State} (sub_ : Sub 36607885312 T) (reach_ : Reach T s₀ s) :
    Reach T s₀ (State.linkTick s) := by
  unfold State.linkTick
  extract_lets +onlyGivenNames -merge -useContext v1
  extract_lets +onlyGivenNames -merge -useContext w_ u2
  have hu2 : Reach T s₀ u2 := (Reach.set_safety (sub_.sub (by decide)) reach_ rfl)
  clear_value u2
  exact (State.refreshValid_reach (sub_.sub (by decide)) (Reach.foldl _ hu2 (fun u3 _ hu3 => (State.judgeVsf_reach (sub_.sub (by decide)) hu3))))

theorem State.vsfArrive_reach {T : Nat} {s₀ s : State} {c : Nat} {bs : Bytes} (sub_ : Sub 33554432 T)
    (reach_ : Reach T s₀ s) :
    Reach T s₀ (State.vsfArrive s c bs) := by
  unfold State.vsfArrive
  exact Reach.ite (fun _ => (Reach.set_safety (sub_.sub (by decide)) reach_ rfl)) (fun _ => reach_)

theorem State.ringVsf_reach {T : Nat} {s₀ s : State} (sub_ : Sub 77376520192 T) (reach_ : Reach T s₀ s) :
    Reach T s₀ (State.ringVsf s) := by
  unfold State.ringVsf
  exact Reach.ite (fun _ => (Reach.foldl _ (Reach.set_ring (sub_.sub (by decide)) reach_) (fun u1 _ hu1 => (Reach.ite (fun _ => (by
    split
    rename_i u2 eu2
    have hu2 : Reach T s₀ u2 := Reach.of_eq eu2 (State.buildVsf_reach (sub_.sub (by decide)) hu1)
    exact (Reach.set_ring (sub_.sub (by decide)) hu2))) (fun _ => hu1))))) (fun _ => reach_)

end Sys2Proof.Machine
end

