-- ==== Sys2Proof/Laws/Frame/TrainNet.lean ====
section
/-! SUPPORT. What the operations of Machine/TrainNet.lean may change: one lemma for each, whose mask names the fields. -/

set_option Elab.async false

namespace Sys2Proof.Machine

theorem State.sendPd_reach {T : Nat} {s₀ s : State} {comId dest seq : BitVec 32} {data : Bytes} (sub_ : Sub 34359738368 T)
    (reach_ : Reach T s₀ s) :
    Reach T s₀ (State.sendPd s comId dest seq data) := by
  unfold State.sendPd
  exact (Reach.ite (fun _ => (State.sendUdp_reach (sub_.sub (by decide)) reach_)) (fun _ => reach_))

theorem execVsfSend_reach {T : Nat} {s₀ s : State} {c : Nat} (sub_ : Sub 103414759424 T) (reach_ : Reach T s₀ s) :
    Within T s₀ (execVsfSend c s) := by
  unfold execVsfSend
  exact Within.onUnit (Reach.ite (fun _ => reach_) (fun _ => (by
    split
    rename_i u1 eu1
    have hu1 : Reach T s₀ u1 := Reach.of_eq eu1 (State.buildVsf_reach (sub_.sub (by decide)) reach_)
    extract_lets +onlyGivenNames -merge -useContext u2
    have hu2 : Reach T s₀ u2 := (State.send_reach (sub_.sub (by decide)) hu1)
    clear_value u2
    extract_lets +onlyGivenNames -merge -useContext v3
    extract_lets +onlyGivenNames -merge -useContext u4
    have hu4 : Reach T s₀ u4 := (State.sendPd_reach (sub_.sub (by decide)) hu2)
    clear_value u4
    exact (Reach.set_train (sub_.sub (by decide)) hu4))))

theorem execVsfFrameReceive_reach {T : Nat} {s₀ : State} {r : VsfIn} {s : State} (sub_ : Sub 33554432 T)
    (reach_ : Reach T s₀ s) :
    Within T s₀ (execVsfFrameReceive r s) := by
  unfold execVsfFrameReceive
  exact (Within.onUnit (Reach.ite (fun _ => (State.vsfArrive_reach (sub_.sub (by decide)) reach_)) (fun _ => reach_)))

theorem execSafelinkSilenceTimeout_reach {T : Nat} {s₀ s : State} {c : Nat} (sub_ : Sub 36574330880 T)
    (reach_ : Reach T s₀ s) :
    Within T s₀ (execSafelinkSilenceTimeout c s) := by
  unfold execSafelinkSilenceTimeout
  exact Within.onUnit (by
    extract_lets +onlyGivenNames -merge -useContext v1
    exact (Reach.ite (fun _ => (State.refreshValid_reach (sub_.sub (by decide)) (State.vsfRestart_reach (sub_.sub (by decide)) reach_))) (fun _ => reach_)))

theorem execSafelinkExpired_reach {T : Nat} {s₀ s : State} {c : Nat} (sub_ : Sub 36574330880 T) (reach_ : Reach T s₀ s) :
    Within T s₀ (execSafelinkExpired c s) := by
  unfold execSafelinkExpired
  exact Within.onUnit (by
    extract_lets +onlyGivenNames -merge -useContext v1
    exact (Reach.ite (fun _ => (State.record_reach (sub_.sub (by decide)) (State.modConn_reach (sub_.sub (by decide)) reach_))) (fun _ => reach_)))

theorem State.stormTake_reach {T : Nat} {s₀ s : State} (sub_ : Sub 36775657472 T) (reach_ : Reach T s₀ s) :
    Reach T s₀ (State.stormTake s).2 := by
  unfold State.stormTake
  extract_lets +onlyGivenNames -merge -useContext v1
  extract_lets +onlyGivenNames -merge -useContext v2
  exact (Reach.ite2 (fun _ => (Reach.mk2 (Reach.set_train (sub_.sub (by decide)) reach_))) (fun _ => (by
  extract_lets +onlyGivenNames -merge -useContext w_ u3
  have hu3 : Reach T s₀ u3 := (Reach.set_train (sub_.sub (by decide)) reach_)
  clear_value u3
  exact (Reach.mk2 (State.recordLimited_reach (sub_.sub (by decide)) hu3)))))

theorem State.modSub_reach {T : Nat} {s₀ s : State} {n : Nat} {f : TrdpSub → TrdpSub} (sub_ : Sub 268435456 T)
    (reach_ : Reach
    T s₀ s) :
    Reach T s₀ (State.modSub s n f) := by
  unfold State.modSub
  exact Reach.set_train (sub_.sub (by decide)) reach_

theorem State.keepPd_reach {T : Nat} {s₀ s : State} {n : Nat} {r : PdIn} (sub_ : Sub 36775657472 T) (reach_ : Reach T s₀ s) :
    Reach T s₀ (State.keepPd s n r) := by
  unfold State.keepPd
  exact Reach.ite (fun _ => (Reach.set_train (sub_.sub (by decide)) reach_)) (fun _ => (by
    extract_lets +onlyGivenNames -merge -useContext v1
    extract_lets +onlyGivenNames -merge -useContext u2
    have hu2 : Reach T s₀ u2 := (State.modSub_reach (sub_.sub (by decide)) reach_)
    clear_value u2
    exact (State.recordIf_reach (sub_.sub (by decide)) hu2)))

theorem State.takePd_reach {T : Nat} {s₀ s : State} {r : PdIn} (sub_ : Sub 36809211904 T) (reach_ : Reach T s₀ s) :
    Reach T s₀ (State.takePd s r) := by
  unfold State.takePd
  exact (Reach.ite (fun _ => reach_) (fun _ => (Reach.ite (fun _ => (Reach.set_train (sub_.sub (by decide)) reach_)) (fun _ => (by
    extract_lets +onlyGivenNames -merge -useContext v1
    exact (Reach.ite (fun _ => (Reach.foldl _ reach_ (fun u2 _ hu4 => (State.vsfArrive_reach (sub_.sub (by decide)) hu4)))) (fun _ => (by
      split
      · exact (State.keepPd_reach (sub_.sub (by decide)) reach_)
      · exact reach_))))))))

theorem execTrdpPdReceive_reach {T : Nat} {s₀ : State} {r : PdIn} {s : State} (sub_ : Sub 36809211904 T)
    (reach_ : Reach T s₀ s) :
    Within T s₀ (execTrdpPdReceive r s) := by
  unfold execTrdpPdReceive
  exact (Within.ite (fun _ => (Within.next reach_)) (fun _ => (by
    split
    rename_i a1 t1 e1
    have ht1 : Reach T s₀ t1 := Reach.of_eq e1 (Reach.ite2 (fun _ => (State.stormTake_reach (sub_.sub (by decide)) reach_)) (fun _ => (Reach.mk2 reach_)))
    exact (Within.next (Reach.ite (fun _ => (State.takePd_reach (sub_.sub (by decide)) ht1)) (fun _ => ht1))))))

theorem execTrdpSubTimeout_reach {T : Nat} {s₀ : State} {n : Nat} {s : State} (sub_ : Sub 37312528384 T)
    (reach_ : Reach T s₀ s) :
    Within T s₀ (execTrdpSubTimeout n s) := by
  unfold execTrdpSubTimeout
  exact (Within.onUnit (by
    extract_lets +onlyGivenNames -merge -useContext v1
    exact (Reach.ite (fun _ => (by
      extract_lets +onlyGivenNames -merge -useContext v2
      extract_lets +onlyGivenNames -merge -useContext v3
      extract_lets +onlyGivenNames -merge -useContext v4
      have hv4 : Reach T s₀ v4 := (State.modSub_reach (sub_.sub (by decide)) reach_)
      clear_value v4
      extract_lets +onlyGivenNames -merge -useContext v5
      extract_lets +onlyGivenNames -merge -useContext v6
      extract_lets +onlyGivenNames -merge -useContext v7
      have hv7 : Reach T s₀ v7 := (Reach.set_prog (sub_.sub (by decide)) hv4 (fun k => { k with }))
      clear_value v7
      exact (State.record_reach (sub_.sub (by decide)) hv7))) (fun _ => reach_))))

theorem State.publish_reach {T : Nat} {s₀ s : State} (sub_ : Sub 34628173824 T) (reach_ : Reach T s₀ s) :
    Reach T s₀ (State.publish s) := by
  unfold State.publish
  exact Reach.forEach _ reach_ (fun u1 _ hu1 => (by
    extract_lets +onlyGivenNames -merge -useContext v2
    extract_lets +onlyGivenNames -merge -useContext v3
    exact (Reach.ite (fun _ => hu1) (fun _ => (by
    extract_lets +onlyGivenNames -merge -useContext v4
    extract_lets +onlyGivenNames -merge -useContext v5
    extract_lets +onlyGivenNames -merge -useContext u6
    have hu6 : Reach T s₀ u6 := (State.sendPd_reach (sub_.sub (by decide)) hu1)
    clear_value u6
    exact (Reach.set_train (sub_.sub (by decide)) hu6))))))

theorem State.freezeSubs_reach {T : Nat} {s₀ s : State} (sub_ : Sub 536870912 T) (reach_ : Reach T s₀ s) :
    Reach T s₀ (State.freezeSubs s) := by
  unfold State.freezeSubs
  exact Reach.forEach _ reach_ (fun u1 _ hu1 => (Reach.ite (fun _ => hu1) (fun _ => (Reach.set_prog (sub_.sub (by decide)) hu1 (fun k => ⟨k.1, Memory.writeBytes_wf _ _ k.2, k.3⟩)))))

theorem State.learnMac_reach {T : Nat} {s₀ s : State} {mac port : Nat} (sub_ : Sub 268435456 T) (reach_ : Reach T s₀ s) :
    Reach T s₀ (State.learnMac s mac port) := by
  unfold State.learnMac
  exact Reach.ite (fun _ => reach_) (fun _ => (by
    extract_lets +onlyGivenNames -merge -useContext v1
    exact (Reach.ite (fun _ => (Reach.set_train (sub_.sub (by decide)) reach_)) (fun _ => (Reach.set_train (sub_.sub (by decide)) reach_)))))

theorem State.takeFragment_reach {T : Nat} {s₀ s : State} {frame : Bytes} (sub_ : Sub 4294967296 T) (reach_ : Reach T s₀ s) :
    Reach T s₀ (State.takeFragment s frame) := by
  unfold State.takeFragment
  extract_lets +onlyGivenNames -merge -useContext v1
  extract_lets +onlyGivenNames -merge -useContext v2
  extract_lets +onlyGivenNames -merge -useContext v3
  extract_lets +onlyGivenNames -merge -useContext v4
  extract_lets +onlyGivenNames -merge -useContext v5
  extract_lets +onlyGivenNames -merge -useContext v6
  exact (Reach.ite (fun _ => reach_) (fun _ => (by
  extract_lets +onlyGivenNames -merge -useContext v7
  extract_lets +onlyGivenNames -merge -useContext v8
  extract_lets +onlyGivenNames -merge -useContext v9
  extract_lets +onlyGivenNames -merge -useContext v10
  extract_lets +onlyGivenNames -merge -useContext v11
  extract_lets +onlyGivenNames -merge -useContext v12
  exact (Reach.set_host (sub_.sub (by decide)) reach_))))

theorem State.answerFrame_reach {T : Nat} {s₀ s : State} {frame : Bytes} (sub_ : Sub 34359738368 T) (reach_ : Reach T s₀ s) :
    Reach T s₀ (State.answerFrame s frame) := by
  unfold State.answerFrame
  extract_lets +onlyGivenNames -merge -useContext v1
  split
  · exact (State.sendFrame_reach (sub_.sub (by decide)) reach_)
  · exact reach_

theorem execArpIcmpRequest_reach {T : Nat} {s₀ : State} {frame : Bytes} {s : State} (sub_ : Sub 36775657472 T)
    (reach_ : Reach T s₀ s) :
    Within T s₀ (execArpIcmpRequest frame s) := by
  unfold execArpIcmpRequest
  exact (Within.ite (fun _ => (Within.next reach_)) (fun _ => (by
    split
    rename_i a1 t1 e1
    have ht1 : Reach T s₀ t1 := Reach.of_eq e1 (Reach.ite2 (fun _ => (State.stormTake_reach (sub_.sub (by decide)) reach_)) (fun _ => (Reach.mk2 reach_)))
    exact (Within.next (Reach.ite (fun _ => (State.answerFrame_reach (sub_.sub (by decide)) ht1)) (fun _ => ht1))))))

theorem State.joinReport_reach {T : Nat} {s₀ s : State} {g : BitVec 32} (sub_ : Sub 34359738368 T) (reach_ : Reach T s₀ s) :
    Reach T s₀ (State.joinReport s g) := by
  unfold State.joinReport
  extract_lets +onlyGivenNames -merge -useContext v1
  exact (State.sendFrame_reach (sub_.sub (by decide)) reach_)

theorem State.reportGroups_reach {T : Nat} {s₀ s : State} {which : BitVec 32} (sub_ : Sub 34359738368 T)
    (reach_ : Reach T s₀ s) :
    Reach T s₀ (State.reportGroups s which) := by
  unfold State.reportGroups
  exact (Reach.ite (fun _ => reach_) (fun _ => (Reach.forEach _ reach_ (fun u1 _ hu3 => (by
    extract_lets +onlyGivenNames -merge -useContext v4
    exact (Reach.ite (fun _ => hu3) (fun _ => (State.joinReport_reach (sub_.sub (by decide)) hu3))))))))

theorem State.joinGroups_reach {T : Nat} {s₀ s : State} (sub_ : Sub 34359738368 T) (reach_ : Reach T s₀ s) :
    Reach T s₀ (State.joinGroups s) := by
  unfold State.joinGroups
  exact (State.reportGroups_reach (sub_.sub (by decide)) reach_)

theorem State.leTake_reach {T : Nat} {s₀ s : State} {frame : Bytes} (sub_ : Sub 41104179200 T) (reach_ : Reach T s₀ s) :
    Reach T s₀ (State.leTake s frame) := by
  unfold State.leTake
  extract_lets +onlyGivenNames -merge -useContext v1
  extract_lets +onlyGivenNames -merge -useContext v2
  extract_lets +onlyGivenNames -merge -useContext v3
  extract_lets +onlyGivenNames -merge -useContext v4
  extract_lets +onlyGivenNames -merge -useContext v5
  have hv5 : Reach T s₀ v5 := (State.takeFragment_reach (sub_.sub (by decide)) reach_)
  clear_value v5
  exact (Reach.ite (fun _ => hv5) (fun _ => (Reach.ite (fun _ => (Reach.ite (fun _ => (State.takePd_reach (sub_.sub (by decide)) hv5)) (fun _ => hv5))) (fun _ => (Reach.ite (fun _ => (State.reportGroups_reach (sub_.sub (by decide)) hv5)) (fun _ => (State.answerFrame_reach (sub_.sub (by decide)) hv5)))))))

theorem State.frameToLe_reach {T : Nat} {s₀ s : State} {group : Bool} {bs : Bytes} (sub_ : Sub 41104179200 T)
    (reach_ : Reach T s₀ s) :
    Reach T s₀ (State.frameToLe s group bs) := by
  unfold State.frameToLe
  exact (Reach.ite (fun _ => reach_) (fun _ => (by
    split
    rename_i a1 t1 e1
    have ht1 : Reach T s₀ t1 := Reach.of_eq e1 (Reach.ite2 (fun _ => (State.stormTake_reach (sub_.sub (by decide)) reach_)) (fun _ => (Reach.mk2 reach_)))
    exact (Reach.ite (fun _ => (State.leTake_reach (sub_.sub (by decide)) (State.send_reach (sub_.sub (by decide)) ht1))) (fun _ => ht1)))))

theorem execSwitchFrameForward_reach {T : Nat} {s₀ : State} {p : Nat} {frame : Bytes} {s : State}
    (sub_ : Sub 41104179200 T) (reach_ : Reach T s₀ s) :
    Within T s₀ (execSwitchFrameForward p frame s) := by
  unfold execSwitchFrameForward
  exact (Within.onUnit (Reach.ite (fun _ => reach_) (fun _ => (by
    extract_lets +onlyGivenNames -merge -useContext v1
    extract_lets +onlyGivenNames -merge -useContext v2
    extract_lets +onlyGivenNames -merge -useContext v3
    have hv3 : Reach T s₀ v3 := (State.learnMac_reach (sub_.sub (by decide)) reach_)
    clear_value v3
    extract_lets +onlyGivenNames -merge -useContext v4
    extract_lets +onlyGivenNames -merge -useContext v5
    have hv5 : Reach T s₀ v5 := (Reach.set_train (sub_.sub (by decide)) hv3)
    clear_value v5
    extract_lets +onlyGivenNames -merge -useContext v6
    extract_lets +onlyGivenNames -merge -useContext v7
    have hv7 : Reach T s₀ v7 := (State.send_reach (sub_.sub (by decide)) hv5)
    clear_value v7
    exact (Reach.ite (fun _ => (State.frameToLe_reach (sub_.sub (by decide)) hv7)) (fun _ => (Reach.ite (fun _ => (State.frameToLe_reach (sub_.sub (by decide)) hv5)) (fun _ => (by
      split
      · exact (Reach.ite (fun _ => hv5) (fun _ => hv7))
      · exact (State.frameToLe_reach (sub_.sub (by decide)) hv7))))))))))

end Sys2Proof.Machine
end

