-- ==== Sys2Proof/Laws/Frame/LoadOps.lean ====
section
/-! SUPPORT. What the operations of Machine/LoadOps.lean may change: one lemma for each, whose mask names the fields. -/

set_option Elab.async false

namespace Sys2Proof.Machine

theorem State.imageParams_wf {s : State} (img : List (Nat × BitVec 32)) (k : Params.wf s.params = true) :
    Params.wf (s.imageParams img) = true := Params.fold_wf (Params.filter_wf _ k)

theorem State.loadValues_reach {T : Nat} {s₀ s : State} {img : Option Image} (sub_ : Sub 17213423620 T)
    (reach_ : Reach T s₀ s) :
    Reach T s₀ (State.loadValues s img) := by
  unfold State.loadValues
  extract_lets +onlyGivenNames -merge -useContext u1
  have hu1 : Reach T s₀ u1 := (Reach.set_params (sub_.sub (by decide)) reach_ (fun k => State.imageParams_wf _ k))
  clear_value u1
  extract_lets +onlyGivenNames -merge -useContext v2
  exact (Reach.set_safety_sec (sub_.sub (by decide)) hu1 rfl)

theorem State.loadLimp_reach {T : Nat} {s₀ s : State} (sub_ : Sub 16 T) (reach_ : Reach T s₀ s) :
    Reach T s₀ (State.loadLimp s) := by
  unfold State.loadLimp
  extract_lets +onlyGivenNames -merge -useContext v1
  exact (State.mapLimp_reach (sub_.sub (by decide)) reach_)

theorem State.loadFeeds_reach {T : Nat} {s₀ s : State} (sub_ : Sub 266240 T) (reach_ : Reach T s₀ s) :
    Reach T s₀ (State.loadFeeds s) := by
  unfold State.loadFeeds
  extract_lets +onlyGivenNames -merge -useContext u1
  have hu1 : Reach T s₀ u1 := (State.mapFpower_reach (sub_.sub (by decide)) reach_)
  clear_value u1
  exact (State.mapPorts_reach (sub_.sub (by decide)) hu1)

theorem State.loadCan_reach {T : Nat} {s₀ s : State} (sub_ : Sub 1073741824 T) (reach_ : Reach T s₀ s) :
    Reach T s₀ (State.loadCan s) := by
  unfold State.loadCan
  extract_lets +onlyGivenNames -merge -useContext v1
  exact (Reach.set_can (sub_.sub (by decide)) reach_)

theorem State.loadTrain_reach {T : Nat} {s₀ s : State} (sub_ : Sub 34628173824 T) (reach_ : Reach T s₀ s) :
    Reach T s₀ (State.loadTrain s) := by
  unfold State.loadTrain
  exact State.joinGroups_reach (sub_.sub (by decide)) (Reach.set_train (sub_.sub (by decide)) reach_)

theorem State.loadProgram_reach {T : Nat} {s₀ s : State} {c : Option Container} {cause : Nat} (sub_ : Sub 536870912 T)
    (reach_
    : Reach T s₀ s) :
    Reach T s₀ (State.loadProgram s c cause) := by
  unfold State.loadProgram
  exact Reach.set_prog (sub_.sub (by decide)) reach_ (fun k => ⟨rfl, rfl, rfl⟩)

theorem State.activateTreads_reach {T : Nat} {s₀ s : State} {pids : List Nat} (sub_ : Sub 8192 T) (reach_ : Reach T s₀ s) :
    Reach T s₀ (State.activateTreads s pids) := by
  unfold State.activateTreads
  exact State.mapTreads_reach (sub_.sub (by decide)) reach_

theorem State.activateLines_reach {T : Nat} {s₀ s : State} {pids : List Nat} (sub_ : Sub 33619968 T)
    (reach_ : Reach T s₀ s) :
    Reach T s₀ (State.activateLines s pids) := by
  unfold State.activateLines
  extract_lets +onlyGivenNames -merge -useContext v1
  extract_lets +onlyGivenNames -merge -useContext v2
  extract_lets +onlyGivenNames -merge -useContext u3
  have hu3 : Reach T s₀ u3 := (State.restartLines_reach (sub_.sub (by decide)) (State.restartLines_reach (sub_.sub (by decide)) reach_))
  clear_value u3
  exact (Reach.forEach _ hu3 (fun u4 _ hu4 => (Reach.ite (fun _ => (State.modPair_reach (sub_.sub (by decide)) hu4)) (fun _ => hu4))))

theorem State.activatePorts_reach {T : Nat} {s₀ s : State} {pids : List Nat} (sub_ : Sub 34360524800 T)
    (reach_ : Reach T s₀ s) :
    Reach T s₀ (State.activatePorts s pids) := by
  unfold State.activatePorts
  extract_lets +onlyGivenNames -merge -useContext u1
  have hu1 : Reach T s₀ u1 := (State.mapPorts_reach (sub_.sub (by decide)) reach_)
  clear_value u1
  extract_lets +onlyGivenNames -merge -useContext u3
  have hu3 : Reach T s₀ u3 := (Reach.forEach _ hu1 (fun u2 _ hu2 => (State.restartEcho_reach (sub_.sub (by decide)) hu2)))
  clear_value u3
  exact (Reach.forEach _ hu3 (fun u4 _ hu4 => (Reach.ite (fun _ => (State.setAux_reach (sub_.sub (by decide)) hu4)) (fun _ => hu4))))

theorem State.activateAxes_reach {T : Nat} {s₀ s : State} {pids : List Nat} (sub_ : Sub 1056768 T) (reach_ : Reach T s₀ s) :
    Reach T s₀ (State.activateAxes s pids) := by
  unfold State.activateAxes
  extract_lets +onlyGivenNames -merge -useContext u2
  have hu2 : Reach T s₀ u2 := (Reach.forEach _ reach_ (fun u1 _ hu1 => (State.toIdle_reach (sub_.sub (by decide)) hu1)))
  clear_value u2
  exact (State.mapAxes_reach (sub_.sub (by decide)) hu2)

theorem State.activateMaps_reach {T : Nat} {s₀ s : State} {pids : List Nat} (sub_ : Sub 36511416320 T)
    (reach_ : Reach T s₀ s) :
    Reach T s₀ (State.activateMaps s pids) := by
  unfold State.activateMaps
  exact Reach.forEach _ reach_ (fun u1 _ hu1 => (Reach.ite (fun _ => (State.mapInvalid_reach (sub_.sub (by decide)) hu1)) (fun _ => hu1)))

theorem State.activateKeys_reach {T : Nat} {s₀ s : State} (sub_ : Sub 40802189312 T) (reach_ : Reach T s₀ s) :
    Reach T s₀ (State.activateKeys s) := by
  unfold State.activateKeys
  exact Reach.ite (fun _ => reach_) (fun _ => (State.record_reach (sub_.sub (by decide)) (Reach.set_host (sub_.sub (by decide)) reach_)))

theorem State.activateRing_reach {T : Nat} {s₀ s old : State} {pids : List Nat}
    (sub_ : Sub 8589934592 T) (reach_ : Reach T s₀ s) : Reach T s₀ (old.activateRing s pids) :=
  Reach.ite (fun _ => State.ringTrigger_reach (sub_.sub (by decide)) reach_) (fun _ => reach_)

theorem State.activateAll_reach {T : Nat} {s₀ s : State} {img : Image} (sub_ : Sub 68557811732 T) (reach_ : Reach T s₀ s) :
    Reach T s₀ (State.activateAll s img) := by
  unfold State.activateAll
  extract_lets +onlyGivenNames -merge -useContext v1
  have hv1 : Reach T s₀ v1 := reach_
  clear_value v1
  extract_lets +onlyGivenNames -merge -useContext v2
  extract_lets +onlyGivenNames -merge -useContext v3
  have hv3 : Reach T s₀ v3 := (Reach.set_sec (sub_.sub (by decide)) reach_)
  clear_value v3
  extract_lets +onlyGivenNames -merge -useContext v4
  have hv4 : Reach T s₀ v4 := (State.loadProgram_reach (sub_.sub (by decide)) (State.floodChanged_reach (sub_.sub (by decide)) (State.loadValues_reach (sub_.sub (by decide)) hv3)))
  clear_value v4
  extract_lets +onlyGivenNames -merge -useContext v5
  have hv5 : Reach T s₀ v5 := (Reach.ite (fun _ => hv4) (fun _ => (State.clearForces_reach (sub_.sub (by decide)) hv4)))
  clear_value v5
  extract_lets +onlyGivenNames -merge -useContext v6
  extract_lets +onlyGivenNames -merge -useContext v7
  extract_lets +onlyGivenNames -merge -useContext v8
  extract_lets +onlyGivenNames -merge -useContext v9
  have hv9 : Reach T s₀ v9 := (Reach.set_safety (sub_.sub (by decide)) hv5 rfl)
  clear_value v9
  extract_lets +onlyGivenNames -merge -useContext v10
  have hv10 : Reach T s₀ v10 := (State.activateLines_reach (sub_.sub (by decide)) (State.activateTreads_reach (sub_.sub (by decide)) (State.loadFeeds_reach (sub_.sub (by decide)) (State.loadLimp_reach (sub_.sub (by decide)) hv9))))
  clear_value v10
  extract_lets +onlyGivenNames -merge -useContext v11
  have hv11 : Reach T s₀ v11 := (State.activateMaps_reach (sub_.sub (by decide)) (State.activateAxes_reach (sub_.sub (by decide)) (State.activatePorts_reach (sub_.sub (by decide)) hv10)))
  clear_value v11
  extract_lets +onlyGivenNames -merge -useContext v12
  have hv12 : Reach T s₀ v12 := (State.loadCan_reach (sub_.sub (by decide)) (State.loadTrain_reach (sub_.sub (by decide)) (State.refreshConns_reach (sub_.sub (by decide)) hv11)))
  clear_value v12
  exact (State.activateRing_reach (sub_.sub (by decide)) (State.activateKeys_reach (sub_.sub (by decide)) hv12))

end Sys2Proof.Machine
end

