-- ==== Sys2Proof/Laws/Frame/SlotOps.lean ====
section
/-! SUPPORT. What the operations of Machine/SlotOps.lean may change: one lemma for each, whose mask names the fields. -/

set_option Elab.async false

namespace Sys2Proof.Machine

theorem State.writeSlots_reach {T : Nat} {s₀ s : State} (sub_ : Sub 57982058496 T) (reach_ : Reach T s₀ s) :
    Reach T s₀ (State.writeSlots s) := by
  unfold State.writeSlots
  split
  · exact reach_
  · rename_i x _
    refine Reach.ite (fun _ => Reach.set_sec (sub_.sub (by decide)) reach_ ?_) (fun _ => ?_)
    · have same : s.sec.Ratchet (s.sec.exchange x.rollback) := by
        unfold Security.exchange
        dsimp only
        split <;> exact .same rfl rfl rfl rfl
      exact same.trans (.same rfl rfl rfl rfl)
    · exact State.answerExclusive_reach (sub_.sub (by decide)) (State.record_reach (sub_.sub (by decide))
        (Reach.set_sec (sub_.sub (by decide)) reach_))

theorem State.activationWait_reach {T : Nat} {s₀ s : State} (sub_ : Sub 57983115264 T) (reach_ : Reach T s₀ s) :
    Reach T s₀ (State.activationWait s) := by
  unfold State.activationWait
  split
  · exact reach_
  · exact (Reach.ite (fun _ => reach_) (fun _ => (Reach.ite (fun _ => (State.writeSlots_reach (sub_.sub (by decide)) reach_)) (fun _ => (Reach.ite (fun _ => (State.writeSlots_reach (sub_.sub (by decide)) (Reach.foldl _ reach_ (fun u1 _ hu1 => (State.faultStop_reach (sub_.sub (by decide)) hu1))))) (fun _ => reach_))))))

end Sys2Proof.Machine
end

