-- ==== Sys2Proof/Laws/Frame/SafetyOps.lean ====
section
/-! SUPPORT. What the operations of Machine/SafetyOps.lean may change: one lemma for each, whose mask names the fields. -/

set_option Elab.async false

namespace Sys2Proof.Machine

theorem State.enableLow_reach {T : Nat} {s₀ s : State} {f : Nat} {h : HallId} (sub_ : Sub 12288 T) (reach_ : Reach T s₀ s) :
    Reach T s₀ (State.enableLow s f h) := by
  unfold State.enableLow
  extract_lets +onlyGivenNames -merge -useContext u1
  have hu1 : Reach T s₀ u1 := (State.modFpower_reach (sub_.sub (by decide)) reach_)
  clear_value u1
  exact (State.treadsOff_reach (sub_.sub (by decide)) hu1)

theorem State.enablesLow_reach {T : Nat} {s₀ s : State} {h : HallId} (sub_ : Sub 12288 T) (reach_ : Reach T s₀ s) :
    Reach T s₀ (State.enablesLow s h) := by
  unfold State.enablesLow
  exact Reach.forEach _ reach_ (fun u1 _ hu1 => (State.enableLow_reach (sub_.sub (by decide)) hu1))

theorem State.applyEnables_reach {T : Nat} {s₀ s : State} (sub_ : Sub 12288 T) (reach_ : Reach T s₀ s) :
    Reach T s₀ (State.applyEnables s) := by
  unfold State.applyEnables
  exact Reach.forEach _ reach_ (fun u1 _ hu1 => (by
    extract_lets +onlyGivenNames -merge -useContext v2
    extract_lets +onlyGivenNames -merge -useContext v3
    extract_lets +onlyGivenNames -merge -useContext v4
    extract_lets +onlyGivenNames -merge -useContext u5
    have hu5 : Reach T s₀ u5 := (Reach.ite (fun _ => (State.enableLow_reach (sub_.sub (by decide)) hu1)) (fun _ => (State.modFpower_reach (sub_.sub (by decide)) hu1)))
    clear_value u5
    exact (Reach.ite (fun _ => (State.enableLow_reach (sub_.sub (by decide)) hu5)) (fun _ => (State.modFpower_reach (sub_.sub (by decide)) hu5)))))

theorem State.modDcl_reach {T : Nat} {s₀ s : State} {o : Nat} {f : Dcl → Dcl} (sub_ : Sub 33554432 T)
    (reach_ : Reach T s₀ s) :
    Reach T s₀ (State.modDcl s o f) := by
  unfold State.modDcl
  exact Reach.ite (fun _ => (Reach.set_safety (sub_.sub (by decide)) reach_ rfl)) (fun _ => (Reach.set_safety (sub_.sub (by decide)) reach_ rfl))

theorem State.openDcl_reach {T : Nat} {s₀ s : State} {o : Nat} (sub_ : Sub 33554432 T) (reach_ : Reach T s₀ s) :
    Reach T s₀ (State.openDcl s o) := by
  unfold State.openDcl
  exact State.modDcl_reach (sub_.sub (by decide)) reach_

theorem State.openBoth_reach {T : Nat} {s₀ s : State} (sub_ : Sub 33554432 T) (reach_ : Reach T s₀ s) :
    Reach T s₀ (State.openBoth s) := by
  unfold State.openBoth
  exact State.openDcl_reach (sub_.sub (by decide)) (State.openDcl_reach (sub_.sub (by decide)) reach_)

theorem State.inhibitOn_reach {T : Nat} {s₀ s : State} (sub_ : Sub 33554432 T) (reach_ : Reach T s₀ s) :
    Reach T s₀ (State.inhibitOn s) := by
  unfold State.inhibitOn
  exact State.openBoth_reach (sub_.sub (by decide)) (Reach.set_safety (sub_.sub (by decide)) reach_ rfl)

theorem State.applyInhibit_reach {T : Nat} {s₀ s : State} (sub_ : Sub 33554432 T) (reach_ : Reach T s₀ s) :
    Reach T s₀ (State.applyInhibit s) := by
  unfold State.applyInhibit
  exact Reach.ite (fun _ => (State.inhibitOn_reach (sub_.sub (by decide)) reach_)) (fun _ => (Reach.set_safety (sub_.sub (by decide)) reach_ rfl))

theorem State.applyAuth_reach {T : Nat} {s₀ s : State} (sub_ : Sub 33566720 T) (reach_ : Reach T s₀ s) :
    Reach T s₀ (State.applyAuth s) := by
  unfold State.applyAuth
  exact State.applyInhibit_reach (sub_.sub (by decide)) (State.applyEnables_reach (sub_.sub (by decide)) reach_)

theorem State.answerMode_reach {T : Nat} {s₀ s : State} {status item : Nat} (sub_ : Sub 38654705664 T)
    (reach_ : Reach T s₀ s) :
    Reach T s₀ (State.answerMode s status item) := by
  unfold State.answerMode
  split
  · exact reach_
  · exact (by
      extract_lets +onlyGivenNames -merge -useContext w_ u1
      have hu1 : Reach T s₀ u1 := (Reach.set_host (sub_.sub (by decide)) reach_)
      clear_value u1
      exact (State.answer_reach (sub_.sub (by decide)) hu1))

theorem State.hallAMode_reach {T : Nat} {s₀ s : State} {old new : Mode} {cause detail : Nat} (sub_ : Sub 59633840128 T)
    (reach_ : Reach T s₀ s) :
    Reach T s₀ (State.hallAMode s old new cause detail) := by
  unfold State.hallAMode
  exact (Reach.ite (fun _ => reach_) (fun _ => (by
    extract_lets +onlyGivenNames -merge -useContext v1
    have hv1 : Reach T s₀ v1 := (State.record_reach (sub_.sub (by decide)) reach_)
    clear_value v1
    extract_lets +onlyGivenNames -merge -useContext v2
    extract_lets +onlyGivenNames -merge -useContext v3
    have hv3 : Reach T s₀ v3 := (Reach.set_host (sub_.sub (by decide)) hv1)
    clear_value v3
    extract_lets +onlyGivenNames -merge -useContext v4
    have hv4 : Reach T s₀ v4 := (Reach.ite (fun _ => (Reach.forEach _ hv3 (fun u5 _ hu7 => (State.leaveService_reach (sub_.sub (by decide)) hu7)))) (fun _ => hv3))
    clear_value v4
    extract_lets +onlyGivenNames -merge -useContext v8
    have hv8 : Reach T s₀ v8 := (Reach.ite (fun _ => (Reach.forEach _ (State.applyAuth_reach (sub_.sub (by decide)) hv4) (fun u9 _ hu11 => (State.enterService_reach (sub_.sub (by decide)) hu11)))) (fun _ => hv4))
    clear_value v8
    extract_lets +onlyGivenNames -merge -useContext v12
    have hv12 : Reach T s₀ v12 := (Reach.ite (fun _ => (Reach.ite (fun _ => (State.stopProgram_reach (sub_.sub (by decide)) hv8)) (fun _ => (State.nmtAll_reach (sub_.sub (by decide)) hv8)))) (fun _ => hv8))
    clear_value v12
    extract_lets +onlyGivenNames -merge -useContext v13
    extract_lets +onlyGivenNames -merge -useContext v14
    have hv14 : Reach T s₀ v14 := (Reach.set_sec (sub_.sub (by decide)) hv12)
    clear_value v14
    extract_lets +onlyGivenNames -merge -useContext v15
    have hv15 : Reach T s₀ v15 := (Reach.ite (fun _ => (State.resumeProgram_reach (sub_.sub (by decide)) hv14)) (fun _ => hv12))
    clear_value v15
    exact (Reach.ite (fun _ => (Reach.set_safety (sub_.sub (by decide)) hv15 (by simp))) (fun _ => hv15)))))

theorem State.passTrial_reach {T : Nat} {s₀ s : State} (sub_ : Sub 53687091200 T) (reach_ : Reach T s₀ s) :
    Reach T s₀ (State.passTrial s) := by
  unfold State.passTrial
  extract_lets +onlyGivenNames -merge -useContext v1
  extract_lets +onlyGivenNames -merge -useContext v2
  extract_lets +onlyGivenNames -merge -useContext v3
  extract_lets +onlyGivenNames -merge -useContext v4
  extract_lets +onlyGivenNames -merge -useContext v5
  extract_lets +onlyGivenNames -merge -useContext w_ u7
  have hu7 : Reach T s₀ u7 := (Reach.set_sec (sub_.sub (by decide)) reach_ (.pass (Nat.le_max_left ..) (Nat.le_max_left ..) rfl v5 rfl))
  clear_value u7
  extract_lets +onlyGivenNames -merge -useContext u8
  have hu8 : Reach T s₀ u8 := (State.record_reach (sub_.sub (by decide)) hu7)
  clear_value u8
  extract_lets +onlyGivenNames -merge -useContext u9
  have hu9 : Reach T s₀ u9 := (State.record_reach (sub_.sub (by decide)) hu8)
  clear_value u9
  clear_value v5
  split
  · exact (State.record_reach (sub_.sub (by decide)) hu9)
  · exact hu9

theorem State.judgeTrial_reach {T : Nat} {s₀ s : State} (sub_ : Sub 53687091200 T) (reach_ : Reach T s₀ s) :
    Reach T s₀ (State.judgeTrial s) := by
  unfold State.judgeTrial
  exact (Reach.ite (fun _ => (State.passTrial_reach (sub_.sub (by decide)) reach_)) (fun _ => reach_))

theorem State.takeMode_reach {T : Nat} {s₀ s : State} {h : HallId} {new : Mode} {cause : Nat} (sub_ : Sub 59860333536 T)
    (reach_ : Reach T s₀ s) :
    Reach T s₀ (State.takeMode s h new cause) := by
  unfold State.takeMode
  extract_lets +onlyGivenNames -merge -useContext v1
  extract_lets +onlyGivenNames -merge -useContext v2
  extract_lets +onlyGivenNames -merge -useContext v3
  extract_lets +onlyGivenNames -merge -useContext v4
  have hv4 : Reach T s₀ v4 := (State.modHall_reach (sub_.sub (by decide)) reach_)
  clear_value v4
  extract_lets +onlyGivenNames -merge -useContext v5
  extract_lets +onlyGivenNames -merge -useContext v6
  have hv6 : Reach T s₀ v6 := (Reach.ite (fun _ => (State.firstStandbyEntry_reach (sub_.sub (by decide)) hv4)) (fun _ => hv4))
  clear_value v6
  extract_lets +onlyGivenNames -merge -useContext v7
  have hv7 : Reach T s₀ v7 := (by
    unfold v7
    split
    · exact (State.hallAMode_reach (sub_.sub (by decide)) (Reach.ite (fun _ => (State.freshScales_reach (sub_.sub (by decide)) hv4)) (fun _ => hv4)))
    · exact (State.recordIf_reach (sub_.sub (by decide)) hv6))
  clear_value v7
  exact (State.applyAuth_reach (sub_.sub (by decide)) (State.judgeTrial_reach (sub_.sub (by decide)) hv7))

theorem State.suspectEnables_reach {T : Nat} {s₀ s : State} (sub_ : Sub 12288 T) (reach_ : Reach T s₀ s) :
    Reach T s₀ (State.suspectEnables s) := by
  unfold State.suspectEnables
  exact Reach.ite (fun _ => (State.enablesLow_reach (sub_.sub (by decide)) reach_)) (fun _ => reach_)

theorem State.holdEntryB_reach {T : Nat} {s₀ s : State} (sub_ : Sub 33554432 T) (reach_ : Reach T s₀ s) :
    Reach T s₀ (State.holdEntryB s) := by
  unfold State.holdEntryB
  extract_lets +onlyGivenNames -merge -useContext u1
  have hu1 : Reach T s₀ u1 := (State.openBoth_reach (sub_.sub (by decide)) reach_)
  clear_value u1
  extract_lets +onlyGivenNames -merge -useContext u2
  have hu2 : Reach T s₀ u2 := (State.mapFsafe_reach (sub_.sub (by decide)) hu1)
  clear_value u2
  exact (Reach.set_safety (sub_.sub (by decide)) hu2 rfl)

theorem State.enterHold_reach {T : Nat} {s₀ s : State} {h : HallId} {bit : Nat}
    (sub_ : Sub 59659005952 T) (reach_ : Reach T s₀ s) : Reach T s₀ (s.enterHold h bit) := by
  unfold State.enterHold
  refine Reach.ite (fun _ => reach_) (fun _ => State.applyAuth_reach (sub_.sub (by decide)) (State.suspectEnables_reach (sub_.sub (by decide)) ?_))
  have h1 := State.modHall_reach (h := h) (f := fun x => { x with
      shCause := x.shCause ||| BitVec.ofNat 16 (2 ^ bit), present := x.present ||| BitVec.ofNat 16 (2 ^ bit) }) (T := T) (sub_.sub (by decide)) reach_
  refine Reach.ite (fun _ => h1) (fun _ => State.recordIf_reach (sub_.sub (by decide)) ?_)
  cases h
  · refine State.inhibitOn_reach (sub_.sub (by decide)) (State.hallAMode_reach (sub_.sub (by decide)) (State.modHall_reach (sub_.sub (by decide)) ?_))
    split
    · exact h1
    · exact Reach.ite (fun _ => State.answerMode_reach (sub_.sub (by decide)) (State.record_reach (sub_.sub (by decide)) h1)) (fun _ => State.record_reach (sub_.sub (by decide)) h1)
  · refine State.holdEntryB_reach (sub_.sub (by decide)) (State.modHall_reach (sub_.sub (by decide)) ?_)
    split
    · exact h1
    · exact Reach.ite (fun _ => State.answerMode_reach (sub_.sub (by decide)) (State.record_reach (sub_.sub (by decide)) h1)) (fun _ => State.record_reach (sub_.sub (by decide)) h1)

theorem State.partnerHolds_reach {T : Nat} {s₀ s : State} {h : HallId} (sub_ : Sub 59659005952 T) (reach_ : Reach T s₀ s) :
    Reach T s₀ (State.partnerHolds s h) := by
  unfold State.partnerHolds
  extract_lets +onlyGivenNames -merge -useContext v1 u2
  have hu2 : Reach T s₀ u2 := State.enterHold_reach (sub_.sub (by decide)) reach_
  clear_value u2 v1
  split
  · exact hu2
  · exact State.modHall_reach (sub_.sub (by decide)) (State.recordIf_reach (sub_.sub (by decide)) hu2)

theorem State.judgeFrame_reach {T : Nat} {s₀ s : State} {h : HallId} {own : WordFrame} {got : Option WordFrame}
    (sub_ : Sub 59860333536 T) (reach_ : Reach T s₀ s) :
    Reach T s₀ (State.judgeFrame s h own got) := by
  unfold State.judgeFrame
  extract_lets +onlyGivenNames -merge -useContext v1
  extract_lets +onlyGivenNames -merge -useContext v2
  extract_lets +onlyGivenNames -merge -useContext v3
  extract_lets +onlyGivenNames -merge -useContext v4
  extract_lets +onlyGivenNames -merge -useContext v5
  extract_lets +onlyGivenNames -merge -useContext v6
  extract_lets +onlyGivenNames -merge -useContext u7
  have hu7 : Reach T s₀ u7 := (State.recordIf_reach (sub_.sub (by decide)) reach_)
  clear_value u7
  extract_lets +onlyGivenNames -merge -useContext u8
  have hu8 : Reach T s₀ u8 := (by
      unfold u8
      split
      · exact (Reach.ite (fun _ => hu7) (fun _ => (State.record_reach (sub_.sub (by decide)) (State.modHall_reach (sub_.sub (by decide)) hu7))))
      · exact hu7)
  clear_value u8
  extract_lets +onlyGivenNames -merge -useContext u9
  have hu9 : Reach T s₀ u9 := (State.modHall_reach (sub_.sub (by decide)) hu8)
  clear_value u9
  extract_lets +onlyGivenNames -merge -useContext w_ u10
  have hu10 : Reach T s₀ u10 := (Reach.ite (fun _ => (Reach.set_safety (sub_.sub (by decide)) hu9 rfl)) (fun _ => hu9))
  clear_value u10
  split
  · exact hu10
  · exact (by
      extract_lets +onlyGivenNames -merge -useContext v11
      extract_lets +onlyGivenNames -merge -useContext v12
      extract_lets +onlyGivenNames -merge -useContext v13
      extract_lets +onlyGivenNames -merge -useContext u14
      have hu14 : Reach T s₀ u14 := (State.modHall_reach (sub_.sub (by decide)) hu10)
      clear_value u14
      exact (Reach.ite (fun _ => (State.partnerHolds_reach (sub_.sub (by decide)) hu14)) (fun _ => (Reach.ite (fun _ => (by
      split
      · exact (Reach.ite (fun _ => (by
          extract_lets +onlyGivenNames -merge -useContext v15
          extract_lets +onlyGivenNames -merge -useContext u16
          have hu16 : Reach T s₀ u16 := (Reach.ite (fun _ => hu14) (fun _ => (State.takeMode_reach (sub_.sub (by decide)) hu14)))
          clear_value u16
          exact (Reach.ite (fun _ => (State.modHall_reach (sub_.sub (by decide)) hu16)) (fun _ => hu16)))) (fun _ => hu14))
      · exact hu14)) (fun _ => hu14)))))

theorem State.exchange_reach {T : Nat} {s₀ s : State} {toA toB : Delivery} (sub_ : Sub 59860333536 T)
    (reach_ : Reach T s₀ s) :
    Reach T s₀ (State.exchange s toA toB) := by
  unfold State.exchange
  extract_lets +onlyGivenNames -merge -useContext v1
  extract_lets +onlyGivenNames -merge -useContext v2
  extract_lets +onlyGivenNames -merge -useContext u3
  have hu3 : Reach T s₀ u3 := (by
      unfold u3
      clear_value v1
      split
      · exact reach_
      · exact (State.judgeFrame_reach (sub_.sub (by decide)) reach_))
  clear_value u3
  clear_value v2
  split
  · exact hu3
  · exact (State.judgeFrame_reach (sub_.sub (by decide)) hu3)

theorem State.clockTicks_reach {T : Nat} {s₀ s : State} {i : TickIn} (sub_ : Sub 25165826 T) (reach_ : Reach T s₀ s) :
    Reach T s₀ (State.clockTicks s i) := by
  unfold State.clockTicks
  extract_lets +onlyGivenNames -merge -useContext v1
  extract_lets +onlyGivenNames -merge -useContext v2
  extract_lets +onlyGivenNames -merge -useContext v3
  extract_lets +onlyGivenNames -merge -useContext v4
  extract_lets +onlyGivenNames -merge -useContext v5
  extract_lets +onlyGivenNames -merge -useContext v6
  extract_lets +onlyGivenNames -merge -useContext v7
  have hv7 : Reach T s₀ v7 := (Reach.set_clock (sub_.sub (by decide)) reach_)
  clear_value v7
  extract_lets +onlyGivenNames -merge -useContext v8
  have hv8 : Reach T s₀ v8 := (State.modHall_reach (sub_.sub (by decide)) hv7)
  clear_value v8
  exact (Reach.ite (fun _ => hv8) (fun _ => (State.modHall_reach (sub_.sub (by decide)) hv8)))

theorem State.tickSlips_reach {T : Nat} {s₀ s : State} {slips : List Rat} (sub_ : Sub 36507222018 T)
    (reach_ : Reach T s₀ s) :
    Reach T s₀ (State.tickSlips s slips) := by
  unfold State.tickSlips
  exact (Reach.forEach _ reach_ (fun u1 _ hu3 => (Reach.ite (fun _ => (by
    extract_lets +onlyGivenNames -merge -useContext v4
    extract_lets +onlyGivenNames -merge -useContext v5
    have hv5 : Reach T s₀ v5 := (Reach.set_clock (sub_.sub (by decide)) hu3)
    clear_value v5
    exact (State.record_reach (sub_.sub (by decide)) hv5))) (fun _ => hu3))))

theorem State.heartbeats_reach {T : Nat} {s₀ s : State} {i : TickIn} (sub_ : Sub 2064 T) (reach_ : Reach T s₀ s) :
    Reach T s₀ (State.heartbeats s i) := by
  unfold State.heartbeats
  extract_lets +onlyGivenNames -merge -useContext v1
  have hv1 : Reach T s₀ v1 := (State.mapDies_reach (sub_.sub (by decide)) reach_)
  clear_value v1
  exact (State.mapLimp_reach (sub_.sub (by decide)) hv1)

theorem State.tickReads_reach {T : Nat} {s₀ s : State} {i : TickIn} (sub_ : Sub 268435464 T) (reach_ : Reach T s₀ s) :
    Reach T s₀ (State.tickReads s i) := by
  unfold State.tickReads
  exact (Reach.set_supply_train (sub_.sub (by decide)) reach_)

theorem State.countTime_reach {T : Nat} {s₀ s : State} (sub_ : Sub 19327352832 T) (reach_ : Reach T s₀ s) :
    Reach T s₀ (State.countTime s) := by
  unfold State.countTime
  exact Reach.set_gallery_sec (sub_.sub (by decide)) reach_ (fun k => ⟨k.1, k.2, k.3, k.4⟩)

theorem Budget.tickOf_legal {cont : Rat} {b : Budget} (h : b.Legal) : (Budget.tickOf cont b).Legal := by
  obtain ⟨lo, hi⟩ := h
  unfold Budget.tickOf Budget.Legal
  dsimp only
  split
  · dsimp only
    split <;> omega
  · split
    · split
      · dsimp only
        split <;> omega
      · exact ⟨lo, hi⟩
    · exact ⟨lo, hi⟩

theorem State.budgetTicks_reach {T : Nat} {s₀ s : State} (sub_ : Sub 36507223008 T) (reach_ : Reach T s₀ s) :
    Reach T s₀ s.budgetTicks := by
  unfold State.budgetTicks
  exact Reach.forEach _ reach_ (fun u _ hu => Reach.ite (fun _ => hu) (fun _ =>
    State.recordIf_reach (sub_.sub (by decide)) (State.modBudget_reach (sub_.sub (by decide)) hu (fun _ => Budget.tickOf_legal))))

theorem State.egressTick_reach {T : Nat} {s₀ s : State} {f : Nat} (sub_ : Sub 36540776448 T) (reach_ : Reach T s₀ s) :
    Reach T s₀ (State.egressTick s f) := by
  unfold State.egressTick
  extract_lets +onlyGivenNames -merge -useContext v1
  extract_lets +onlyGivenNames -merge -useContext v2
  exact (Reach.ite (fun _ => (State.record_reach (sub_.sub (by decide)) (State.modFsafe_reach (sub_.sub (by decide)) reach_))) (fun _ => (Reach.ite (fun _ => (State.record_reach (sub_.sub (by decide)) (State.modFsafe_reach (sub_.sub (by decide)) reach_))) (fun _ => reach_))))

theorem State.tallyTick_reach {T : Nat} {s₀ s : State} (sub_ : Sub 36540776448 T) (reach_ : Reach T s₀ s) :
    Reach T s₀ (State.tallyTick s) := by
  unfold State.tallyTick
  extract_lets +onlyGivenNames -merge -useContext u2
  have hu2 : Reach T s₀ u2 := (Reach.forEach _ reach_ (fun u1 _ hu1 => (State.egressTick_reach (sub_.sub (by decide)) hu1)))
  clear_value u2
  extract_lets +onlyGivenNames -merge -useContext u3
  have hu3 : Reach T s₀ u3 := (State.mapFsafe_reach (sub_.sub (by decide)) hu2)
  clear_value u3
  extract_lets +onlyGivenNames -merge -useContext v4
  exact (Reach.set_safety (sub_.sub (by decide)) hu3 rfl)

theorem State.dclFault_reach {T : Nat} {s₀ s : State} {o : Nat} {e : EvCode} {detail : Nat} (sub_ : Sub 36540776448 T)
    (reach_
    : Reach T s₀ s) :
    Reach T s₀ (State.dclFault s o e detail) := by
  unfold State.dclFault
  exact State.record_reach (sub_.sub (by decide)) (State.openDcl_reach (sub_.sub (by decide)) (State.modDcl_reach (sub_.sub (by decide)) reach_))

theorem State.dclReadback_reach {T : Nat} {s₀ s : State} {o : Nat} {r : DclIn} (sub_ : Sub 36540776448 T)
    (reach_ : Reach T s₀
    s) :
    Reach T s₀ (State.dclReadback s o r) := by
  unfold State.dclReadback
  extract_lets +onlyGivenNames -merge -useContext v1
  exact (Reach.ite (fun _ => reach_) (fun _ => (Reach.ite (fun _ => (Reach.ite (fun _ => (State.dclFault_reach (sub_.sub (by decide)) reach_)) (fun _ => reach_))) (fun _ => (Reach.ite (fun _ => (State.dclFault_reach (sub_.sub (by decide)) reach_)) (fun _ => reach_))))))

theorem State.dclTick_reach {T : Nat} {s₀ s : State} {o : Nat} (sub_ : Sub 33554432 T) (reach_ : Reach T s₀ s) :
    Reach T s₀ (State.dclTick s o) := by
  unfold State.dclTick
  extract_lets +onlyGivenNames -merge -useContext v1
  extract_lets +onlyGivenNames -merge -useContext u2
  have hu2 : Reach T s₀ u2 := (Reach.ite (fun _ => (State.openDcl_reach (sub_.sub (by decide)) reach_)) (fun _ => reach_))
  clear_value u2
  extract_lets +onlyGivenNames -merge -useContext v3
  extract_lets +onlyGivenNames -merge -useContext v4
  exact (State.modDcl_reach (sub_.sub (by decide)) hu2)

theorem State.dclTicks_reach {T : Nat} {s₀ s : State} {i : TickIn} (sub_ : Sub 36540776448 T) (reach_ : Reach T s₀ s) :
    Reach T s₀ (State.dclTicks s i) := by
  unfold State.dclTicks
  extract_lets +onlyGivenNames -merge -useContext v1
  extract_lets +onlyGivenNames -merge -useContext v2
  extract_lets +onlyGivenNames -merge -useContext u3
  have hu3 : Reach T s₀ u3 := (State.recordIf_reach (sub_.sub (by decide)) reach_)
  clear_value u3
  extract_lets +onlyGivenNames -merge -useContext u4
  have hu4 : Reach T s₀ u4 := (State.dclReadback_reach (sub_.sub (by decide)) (State.dclReadback_reach (sub_.sub (by decide)) hu3))
  clear_value u4
  exact hu4

theorem State.permTick_reach {T : Nat} {s₀ s : State} (sub_ : Sub 33554432 T) (reach_ : Reach T s₀ s) :
    Reach T s₀ (State.permTick s) := by
  unfold State.permTick
  exact State.mapFsafe_reach (sub_.sub (by decide)) reach_

theorem State.safetyEntries_reach {T : Nat} {s₀ s : State} {f : Nat} (sub_ : Sub 2097152 T) (reach_ : Reach T s₀ s) :
    Reach T s₀ (State.safetyEntries s f) := by
  unfold State.safetyEntries
  exact Reach.ite (fun _ => reach_) (fun _ => (by
    extract_lets +onlyGivenNames -merge -useContext u1
    have hu1 : Reach T s₀ u1 := (Reach.ite (fun _ => (State.enterLatch_reach (sub_.sub (by decide)) reach_)) (fun _ => reach_))
    clear_value u1
    extract_lets +onlyGivenNames -merge -useContext v2
    exact (Reach.ite (fun _ => (State.enterLatch_reach (sub_.sub (by decide)) hu1)) (fun _ => hu1))))

theorem State.monFlight_reach {T : Nat} {s₀ s : State} {f : Nat} {was : Bool} (sub_ : Sub 59659005952 T)
    (reach_ : Reach T s₀ s) :
    Reach T s₀ (State.monFlight s f was) := by
  unfold State.monFlight
  split
  · exact reach_
  · exact (Reach.ite (fun _ => reach_) (fun _ => (by
      extract_lets +onlyGivenNames -merge -useContext v1
      extract_lets +onlyGivenNames -merge -useContext v2
      exact (Reach.ite (fun _ => (State.modFsafe_reach (sub_.sub (by decide)) reach_)) (fun _ => (by
      extract_lets +onlyGivenNames -merge -useContext v3
      extract_lets +onlyGivenNames -merge -useContext v4
      exact (Reach.ite (fun _ => (by
      extract_lets +onlyGivenNames -merge -useContext u5
      have hu5 : Reach T s₀ u5 := (State.record_reach (sub_.sub (by decide)) (State.modFsafe_reach (sub_.sub (by decide)) reach_))
      clear_value u5
      exact (State.enterHold_reach (sub_.sub (by decide)) hu5))) (fun _ => reach_))))))))

theorem State.brakeTick_reach {T : Nat} {s₀ s : State} {f : Nat} (sub_ : Sub 36540788736 T) (reach_ : Reach T s₀ s) :
    Reach T s₀ (State.brakeTick s f) := by
  unfold State.brakeTick
  exact Reach.ite (fun _ => reach_) (fun _ => (by
    extract_lets +onlyGivenNames -merge -useContext u1
    have hu1 : Reach T s₀ u1 := (Reach.ite (fun _ => (State.modFsafe_reach (sub_.sub (by decide)) reach_)) (fun _ => reach_))
    clear_value u1
    extract_lets +onlyGivenNames -merge -useContext v2
    exact (Reach.ite (fun _ => hu1) (fun _ => (State.record_reach (sub_.sub (by decide)) (State.enableLow_reach (sub_.sub (by decide)) hu1))))))

theorem State.clearDclFaults_reach {T : Nat} {s₀ s : State} (sub_ : Sub 33554432 T) (reach_ : Reach T s₀ s) :
    Reach T s₀ (State.clearDclFaults s) := by
  unfold State.clearDclFaults
  extract_lets +onlyGivenNames -merge -useContext v1
  exact (State.modDcl_reach (sub_.sub (by decide)) (State.modDcl_reach (sub_.sub (by decide)) reach_))

theorem State.resetTick_reach {T : Nat} {s₀ s : State} (sub_ : Sub 36565942272 T) (reach_ : Reach T s₀ s) :
    Reach T s₀ s.resetTick := by
  unfold State.resetTick
  have h1 : Reach T s₀ { s with safety := { s.safety with
      edge151 := false, edgeHost := false, resetCount := s.safety.resetCount + 1 } } := Reach.set_safety (sub_.sub (by decide)) reach_ rfl
  revert h1
  generalize { s with safety := { s.safety with
      edge151 := false, edgeHost := false, resetCount := s.safety.resetCount + 1 } } = u
  intro h1
  refine Reach.ite (fun _ => reach_) (fun _ => Reach.ite (fun _ => Reach.ite (fun _ => State.record_reach (sub_.sub (by decide)) h1) (fun _ =>
    State.record_reach (sub_.sub (by decide)) ?_)) (fun _ => State.recordIf_reach (sub_.sub (by decide)) (State.clearDclFaults_reach (sub_.sub (by decide)) h1)))
  exact Reach.set_safety (sub_.sub (by decide)) (State.clearDclFaults_reach (sub_.sub (by decide)) (State.modHall_reach (sub_.sub (by decide)) (State.modHall_reach (sub_.sub (by decide)) h1))) rfl

theorem State.propose_reach {T : Nat} {s₀ s : State} {h : HallId} {new : Mode} (sub_ : Sub 25165824 T)
    (reach_ : Reach T s₀ s) :
    Reach T s₀ (State.propose s h new) := by
  unfold State.propose
  extract_lets +onlyGivenNames -merge -useContext v1
  exact (State.modHall_reach (sub_.sub (by decide)) reach_)

theorem State.exitTick_reach {T : Nat} {s₀ s : State} (sub_ : Sub 58720256 T) (reach_ : Reach T s₀ s) :
    Reach T s₀ (State.exitTick s) := by
  unfold State.exitTick
  exact Reach.ite (fun _ => reach_) (fun _ => (by
    extract_lets +onlyGivenNames -merge -useContext w_ u1
    have hu1 : Reach T s₀ u1 := (Reach.set_safety (sub_.sub (by decide)) reach_ rfl)
    clear_value u1
    exact (Reach.ite (fun _ => (State.propose_reach (sub_.sub (by decide)) hu1)) (fun _ => hu1))))

theorem State.startTests_reach {T : Nat} {s₀ s : State} (sub_ : Sub 17179869184 T) (reach_ : Reach T s₀ s) :
    Reach T s₀ (State.startTests s) := by
  unfold State.startTests
  exact (Reach.ite (fun _ => reach_) (fun _ => (Reach.set_sec (sub_.sub (by decide)) reach_)))

theorem State.zeroCheck_reach {T : Nat} {s₀ s : State} (sub_ : Sub 36540784640 T) (reach_ : Reach T s₀ s) :
    Reach T s₀ (State.zeroCheck s) := by
  unfold State.zeroCheck
  split
  · exact reach_
  · exact (Reach.ite (fun _ => reach_) (fun _ => (by
      extract_lets +onlyGivenNames -merge -useContext v1
      extract_lets +onlyGivenNames -merge -useContext v2
      have hv2 : Reach T s₀ v2 := (Reach.set_safety (sub_.sub (by decide)) reach_ rfl)
      clear_value v2
      exact (Reach.forEach _ hv2 (fun u3 _ hu5 => (by
        extract_lets +onlyGivenNames -merge -useContext v6
        exact (State.recordIf_reach (sub_.sub (by decide)) (State.modTread_reach (sub_.sub (by decide)) hu5))))))))

theorem State.hallBTick_reach {T : Nat} {s₀ s : State} {i : TickIn} (sub_ : Sub 137035526144 T) (reach_ : Reach T s₀ s) :
    Reach T s₀ (State.hallBTick s i) := by
  unfold State.hallBTick
  extract_lets +onlyGivenNames -merge -useContext u1
  have hu1 : Reach T s₀ u1 := (Reach.ite (fun _ => (State.enterHold_reach (sub_.sub (by decide)) (State.record_reach (sub_.sub (by decide)) reach_))) (fun _ => reach_))
  clear_value u1
  extract_lets +onlyGivenNames -merge -useContext u2
  have hu2 : Reach T s₀ u2 := (State.linkTick_reach (sub_.sub (by decide)) hu1)
  clear_value u2
  extract_lets +onlyGivenNames -merge -useContext u3
  have hu3 : Reach T s₀ u3 := (State.resetTick_reach (sub_.sub (by decide)) (State.exitTick_reach (sub_.sub (by decide)) hu2))
  clear_value u3
  extract_lets +onlyGivenNames -merge -useContext w_ u4
  have hu4 : Reach T s₀ u4 := (Reach.set_safety (sub_.sub (by decide)) hu3 rfl)
  clear_value u4
  extract_lets +onlyGivenNames -merge -useContext u5
  have hu5 : Reach T s₀ u5 := (State.dclTicks_reach (sub_.sub (by decide)) hu4)
  clear_value u5
  extract_lets +onlyGivenNames -merge -useContext u6
  have hu6 : Reach T s₀ u6 := (State.tallyTick_reach (sub_.sub (by decide)) hu5)
  clear_value u6
  extract_lets +onlyGivenNames -merge -useContext u7
  have hu7 : Reach T s₀ u7 := (State.dclTick_reach (sub_.sub (by decide)) (State.dclTick_reach (sub_.sub (by decide)) hu6))
  clear_value u7
  extract_lets +onlyGivenNames -merge -useContext v8
  extract_lets +onlyGivenNames -merge -useContext u9
  have hu9 : Reach T s₀ u9 := (State.permTick_reach (sub_.sub (by decide)) hu7)
  clear_value u9
  extract_lets +onlyGivenNames -merge -useContext u11
  have hu11 : Reach T s₀ u11 := (Reach.forEach _ hu9 (fun u10 _ hu10 => (State.safetyEntries_reach (sub_.sub (by decide)) hu10)))
  clear_value u11
  extract_lets +onlyGivenNames -merge -useContext u13
  have hu13 : Reach T s₀ u13 := (Reach.forEach _ hu11 (fun u12 _ hu12 => (State.monFlight_reach (sub_.sub (by decide)) hu12)))
  clear_value u13
  extract_lets +onlyGivenNames -merge -useContext u15
  have hu15 : Reach T s₀ u15 := (Reach.ite (fun _ => (Reach.forEach _ hu13 (fun u14 _ hu14 => (State.brakeTick_reach (sub_.sub (by decide)) hu14)))) (fun _ => hu13))
  clear_value u15
  exact (State.ringVsf_reach (sub_.sub (by decide)) hu15)

theorem State.modeReplies_reach {T : Nat} {s₀ s : State} (sub_ : Sub 38654705664 T) (reach_ : Reach T s₀ s) :
    Reach T s₀ (State.modeReplies s) := by
  unfold State.modeReplies
  split
  · exact reach_
  · exact (Reach.ite (fun _ => reach_) (fun _ => (Reach.ite (fun _ => (State.answerMode_reach (sub_.sub (by decide)) reach_)) (fun _ => (State.answerMode_reach (sub_.sub (by decide)) reach_)))))

theorem State.safetyTick_reach {T : Nat} {s₀ s : State} {i : TickIn} (sub_ : Sub 137438182394 T) (reach_ : Reach T s₀ s) :
    Reach T s₀ (State.safetyTick s i) := by
  unfold State.safetyTick
  extract_lets +onlyGivenNames -merge -useContext v1
  have hv1 : Reach T s₀ v1 := (State.exchange_reach (sub_.sub (by decide)) reach_)
  clear_value v1
  extract_lets +onlyGivenNames -merge -useContext v2
  have hv2 : Reach T s₀ v2 := (State.ringTick_reach (sub_.sub (by decide)) (State.countTime_reach (sub_.sub (by decide)) (State.heartbeats_reach (sub_.sub (by decide)) (State.tickSlips_reach (sub_.sub (by decide)) (State.startTests_reach (sub_.sub (by decide)) (State.clockTicks_reach (sub_.sub (by decide)) hv1))))))
  clear_value v2
  extract_lets +onlyGivenNames -merge -useContext v3
  have hv3 : Reach T s₀ v3 := (Reach.ite (fun _ => (State.hallBTick_reach (sub_.sub (by decide)) hv2)) (fun _ => hv2))
  clear_value v3
  extract_lets +onlyGivenNames -merge -useContext v4
  have hv4 : Reach T s₀ v4 := (State.activationWait_reach (sub_.sub (by decide)) (State.modeReplies_reach (sub_.sub (by decide)) (State.applyAuth_reach (sub_.sub (by decide)) (State.zeroCheck_reach (sub_.sub (by decide)) (State.tickReads_reach (sub_.sub (by decide)) (State.budgetTicks_reach (sub_.sub (by decide)) hv3))))))
  clear_value v4
  exact (State.ringEnd_reach (sub_.sub (by decide)) (State.treadsBack_reach (sub_.sub (by decide)) hv4))

end Sys2Proof.Machine
end

