-- ==== Sys2Proof/Laws/Frame/HallOps.lean ====
section
/-! SUPPORT. What the operations of Machine/HallOps.lean may change: one lemma for each, whose mask names the fields. -/

set_option Elab.async false

namespace Sys2Proof.Machine

theorem State.loseHallA_reach {T : Nat} {s₀ s : State} (sub_ : Sub 34098642946 T) (reach_ : Reach T s₀ s) :
    Reach T s₀ (State.loseHallA s) := by
  unfold State.loseHallA
  extract_lets +onlyGivenNames -merge -useContext u1
  have hu1 : Reach T s₀ u1 := (State.mapAxes_reach (sub_.sub (by decide)) reach_)
  clear_value u1
  extract_lets +onlyGivenNames -merge -useContext u2
  have hu2 : Reach T s₀ u2 := (State.mapObst_reach (sub_.sub (by decide)) (State.mapDoors_reach (sub_.sub (by decide)) hu1))
  clear_value u2
  exact (Reach.set_clock_train_prog_can_gallery_host_ring_sec (sub_.sub (by decide)) hu2 (fun _ => ⟨rfl, rfl, rfl⟩) (fun k => ⟨k.1, Nat.zero_le _, k.3, k.4⟩))

theorem State.resetHallA_reach {T : Nat} {s₀ s : State} {cause : Nat} (sub_ : Sub 68517376002 T) (reach_ : Reach T s₀ s) :
    Reach T s₀ (State.resetHallA s cause) := by
  unfold State.resetHallA
  extract_lets +onlyGivenNames -merge -useContext v1
  extract_lets +onlyGivenNames -merge -useContext v2
  have hv2 : Reach T s₀ v2 := (State.treadsOff_reach (sub_.sub (by decide)) (State.enablesLow_reach (sub_.sub (by decide)) reach_))
  clear_value v2
  extract_lets +onlyGivenNames -merge -useContext v3
  have hv3 : Reach T s₀ v3 := (Reach.forEach _ hv2 (fun u4 _ hu6 => (State.setAux_reach (sub_.sub (by decide)) hu6)))
  clear_value v3
  extract_lets +onlyGivenNames -merge -useContext v7
  extract_lets +onlyGivenNames -merge -useContext v8
  have hv8 : Reach T s₀ v8 := (State.modHall_reach (sub_.sub (by decide)) hv3)
  clear_value v8
  extract_lets +onlyGivenNames -merge -useContext v9
  extract_lets +onlyGivenNames -merge -useContext v10
  have hv10 : Reach T s₀ v10 := (Reach.ite (fun _ => (Reach.set_sec (sub_.sub (by decide)) hv8)) (fun _ => hv8))
  clear_value v10
  exact (State.loseHallA_reach (sub_.sub (by decide)) (State.inhibitOn_reach (sub_.sub (by decide)) hv10))

theorem State.loseHallB_reach {T : Nat} {s₀ s : State} (sub_ : Sub 58082721794 T) (reach_ : Reach T s₀ s) :
    Reach T s₀ (State.loseHallB s) := by
  unfold State.loseHallB
  extract_lets +onlyGivenNames -merge -useContext u1
  have hu1 : Reach T s₀ u1 := (by
      unfold u1
      split
      · exact reach_
      · exact (State.answer_reach (sub_.sub (by decide)) reach_))
  clear_value u1
  extract_lets +onlyGivenNames -merge -useContext v2
  extract_lets +onlyGivenNames -merge -useContext w_ u3
  have hu3 : Reach T s₀ u3 := (Reach.ite (fun _ => (State.answerExclusive_reach (sub_.sub (by decide)) (Reach.set_sec (sub_.sub (by decide)) hu1))) (fun _ => hu1))
  clear_value u3
  extract_lets +onlyGivenNames -merge -useContext u4
  have hu4 : Reach T s₀ u4 := (State.mapConns_reach (sub_.sub (by decide)) hu3)
  clear_value u4
  exact (Reach.set_clock_safety_gallery_sec (sub_.sub (by decide)) hu4 (List.length_map ..) (fun k => ⟨k.1, k.2, rfl, k.4⟩))

theorem State.resetHallB_reach {T : Nat} {s₀ s : State} {cause : Nat} (sub_ : Sub 58107899906 T) (reach_ : Reach T s₀ s) :
    Reach T s₀ (State.resetHallB s cause) := by
  unfold State.resetHallB
  extract_lets +onlyGivenNames -merge -useContext u1
  have hu1 : Reach T s₀ u1 := (State.treadsOff_reach (sub_.sub (by decide)) (State.enablesLow_reach (sub_.sub (by decide)) reach_))
  clear_value u1
  extract_lets +onlyGivenNames -merge -useContext w_ u2
  have hu2 : Reach T s₀ u2 := (State.modHall_reach (sub_.sub (by decide)) hu1)
  clear_value u2
  exact (State.loseHallB_reach (sub_.sub (by decide)) (State.openBoth_reach (sub_.sub (by decide)) hu2))

theorem State.resetHall_reach {T : Nat} {s₀ s : State} {h : HallId} {cause : Nat} (sub_ : Sub 68584484866 T)
    (reach_ : Reach T
    s₀ s) :
    Reach T s₀ (State.resetHall s h cause) := by
  unfold State.resetHall
  exact Reach.ite (fun _ => (State.modHall_reach (sub_.sub (by decide)) reach_)) (fun _ => (by
    split
    · exact (State.resetHallA_reach (sub_.sub (by decide)) reach_)
    · exact (State.resetHallB_reach (sub_.sub (by decide)) reach_)))

theorem State.resetModule_reach {T : Nat} {s₀ s : State} {cause : Nat} (sub_ : Sub 68584484866 T) (reach_ : Reach T s₀ s) :
    Reach T s₀ (State.resetModule s cause) := by
  unfold State.resetModule
  extract_lets +onlyGivenNames -merge -useContext u1
  have hu1 : Reach T s₀ u1 := (State.resetHall_reach (sub_.sub (by decide)) (State.resetHall_reach (sub_.sub (by decide)) reach_))
  clear_value u1
  exact (Reach.set_sec (sub_.sub (by decide)) hu1)

theorem State.failTrial_reach {T : Nat} {s₀ s : State} {cause : Nat} (sub_ : Sub 68584484866 T) (reach_ : Reach T s₀ s) :
    Reach T s₀ (State.failTrial s cause) := by
  unfold State.failTrial
  extract_lets +onlyGivenNames -merge -useContext u1
  have hu1 : Reach T s₀ u1 := (State.resetModule_reach (sub_.sub (by decide)) reach_)
  clear_value u1
  exact (Reach.set_sec (sub_.sub (by decide)) hu1)

theorem State.hallFails_reach {T : Nat} {s₀ s : State} {h : HallId} {cause : Nat} (sub_ : Sub 68584484866 T)
    (reach_ : Reach T
    s₀ s) :
    Reach T s₀ (State.hallFails s h cause) := by
  unfold State.hallFails
  extract_lets +onlyGivenNames -merge -useContext u1
  have hu1 : Reach T s₀ u1 := (State.resetHall_reach (sub_.sub (by decide)) reach_)
  clear_value u1
  exact (Reach.ite (fun _ => (State.failTrial_reach (sub_.sub (by decide)) hu1)) (fun _ => hu1))

theorem State.recordDeferred_reach {T : Nat} {s₀ s : State} {h : HallId} (sub_ : Sub 36532387840 T) (reach_ : Reach T s₀ s) :
    Reach T s₀ (State.recordDeferred s h) := by
  unfold State.recordDeferred
  split
  · exact reach_
  · exact (by
      extract_lets +onlyGivenNames -merge -useContext u1
      have hu1 : Reach T s₀ u1 := (State.modHall_reach (sub_.sub (by decide)) reach_)
      clear_value u1
      extract_lets +onlyGivenNames -merge -useContext v2
      exact (State.record_reach (sub_.sub (by decide)) hu1))

theorem State.recordBothUp_reach {T : Nat} {s₀ s : State} (sub_ : Sub 36532387840 T) (reach_ : Reach T s₀ s) :
    Reach T s₀ (State.recordBothUp s) := by
  unfold State.recordBothUp
  exact Reach.ite (fun _ => (State.recordDeferred_reach (sub_.sub (by decide)) (State.recordDeferred_reach (sub_.sub (by decide)) reach_))) (fun _ => reach_)

theorem State.reload_reach {T : Nat} {s₀ s : State} {h : HallId} (sub_ : Sub 19327352836 T) (reach_ : Reach T s₀ s) :
    Reach T s₀ (State.reload s h) := by
  unfold State.reload
  extract_lets +onlyGivenNames -merge -useContext v1 v2 v3 v4 v5
  exact State.floodChanged_reach (sub_.sub (by decide))
    (Reach.set_params_sec (sub_.sub (by decide)) reach_ (fun k => Params.fold_wf (Params.filter_wf _ k))
      (by cases h <;> exact .same rfl rfl rfl rfl))

theorem State.hallStarts_reach {T : Nat} {s₀ s : State} {h : HallId} (sub_ : Sub 25165824 T) (reach_ : Reach T s₀ s) :
    Reach T s₀ (State.hallStarts s h) := by
  unfold State.hallStarts
  exact State.modHall_reach (sub_.sub (by decide)) reach_

theorem State.startProgram_reach {T : Nat} {s₀ s : State} (sub_ : Sub 17716740096 T) (reach_ : Reach T s₀ s) :
    Reach T s₀ (State.startProgram s) := by
  unfold State.startProgram
  extract_lets +onlyGivenNames -merge -useContext v1
  clear_value v1
  split
  · exact (Reach.ite (fun _ => (by
      extract_lets +onlyGivenNames -merge -useContext u2
      have hu2 : Reach T s₀ u2 := (State.loadProgram_reach (sub_.sub (by decide)) reach_)
      clear_value u2
      exact (Reach.set_prog (sub_.sub (by decide)) hu2 (fun k => ⟨k.1, k.2, k.3⟩)))) (fun _ => (State.loadProgram_reach (sub_.sub (by decide)) (Reach.set_sec (sub_.sub (by decide)) reach_))))
  · exact (State.loadProgram_reach (sub_.sub (by decide)) reach_)

theorem State.startHallA_reach {T : Nat} {s₀ s : State} (sub_ : Sub 55566405636 T) (reach_ : Reach T s₀ s) :
    Reach T s₀ (State.startHallA s) := by
  unfold State.startHallA
  exact (State.startProgram_reach (sub_.sub (by decide)) (State.loadTrain_reach (sub_.sub (by decide)) (State.loadCan_reach (sub_.sub (by decide)) (State.loadFeeds_reach (sub_.sub (by decide)) (State.reload_reach (sub_.sub (by decide)) reach_)))))

theorem State.uncertainSteppers_reach {T : Nat} {s₀ s : State} (sub_ : Sub 36508270592 T) (reach_ : Reach T s₀ s) :
    Reach T s₀ (State.uncertainSteppers s) := by
  unfold State.uncertainSteppers
  exact Reach.forEach _ reach_ (fun u1 _ hu1 => (Reach.ite (fun _ => (State.setUncertain_reach (sub_.sub (by decide)) hu1)) (fun _ => hu1)))

theorem execHallAReturn_reach {T : Nat} {s₀ s : State} (sub_ : Sub 59927441412 T) (reach_ : Reach T s₀ s) :
    Within T s₀ (execHallAReturn s) := by
  unfold execHallAReturn
  exact (Within.ite (fun _ => (Within.next reach_)) (fun _ => (by
    extract_lets +onlyGivenNames -merge -useContext v1
    have hv1 : Reach T s₀ v1 := (Reach.forEach _ (State.startHallA_reach (sub_.sub (by decide)) (State.hallStarts_reach (sub_.sub (by decide)) reach_)) (fun u2 _ hu4 => (State.driveEcho_reach (sub_.sub (by decide)) hu4)))
    clear_value v1
    extract_lets +onlyGivenNames -merge -useContext v5
    have hv5 : Reach T s₀ v5 := (State.uncertainSteppers_reach (sub_.sub (by decide)) (State.axesIdle_reach (sub_.sub (by decide)) hv1))
    clear_value v5
    extract_lets +onlyGivenNames -merge -useContext v6
    have hv6 : Reach T s₀ v6 := (State.clearForces_reach (sub_.sub (by decide)) hv5)
    clear_value v6
    extract_lets +onlyGivenNames -merge -useContext v7
    have hv7 : Reach T s₀ v7 := (State.hallAMode_reach (sub_.sub (by decide)) hv6)
    clear_value v7
    exact (Within.next (State.applyAuth_reach (sub_.sub (by decide)) (State.recordBothUp_reach (sub_.sub (by decide)) hv7))))))

theorem State.relayLosses_reach {T : Nat} {s₀ s : State} (sub_ : Sub 2147483648 T) (reach_ : Reach T s₀ s) :
    Reach T s₀ (State.relayLosses s) := by
  unfold State.relayLosses
  extract_lets +onlyGivenNames -merge -useContext v1
  exact (Reach.ite (fun _ => reach_) (fun _ => (by
  extract_lets +onlyGivenNames -merge -useContext v2
  extract_lets +onlyGivenNames -merge -useContext v3
  extract_lets +onlyGivenNames -merge -useContext v4
  exact (Reach.set_gallery (sub_.sub (by decide)) reach_ (fun k => ⟨k.1, k.2, k.3, k.4⟩)))))

theorem State.takeRelayed_reach {T : Nat} {s₀ s : State} (sub_ : Sub 2147483648 T) (reach_ : Reach T s₀ s) :
    Reach T s₀ (State.takeRelayed s) := by
  unfold State.takeRelayed
  extract_lets +onlyGivenNames -merge -useContext v1
  extract_lets +onlyGivenNames -merge -useContext v2
  extract_lets +onlyGivenNames -merge -useContext u3
  have hu3 : Reach T s₀ u3 := (Reach.set_gallery (sub_.sub (by decide)) reach_ (fun k => ⟨k.1, k.2, k.3, k.4⟩))
  clear_value u3
  extract_lets +onlyGivenNames -merge -useContext u4
  have hu4 : Reach T s₀ u4 := (State.relayLosses_reach (sub_.sub (by decide)) hu3)
  clear_value u4
  extract_lets +onlyGivenNames -merge -useContext u6
  have hu6 : Reach T s₀ u6 := (Reach.foldl _ hu4 (fun u5 _ hu5 => (State.takeCycle_reach (sub_.sub (by decide)) hu5)))
  clear_value u6
  extract_lets +onlyGivenNames -merge -useContext v7
  exact (Reach.set_gallery (sub_.sub (by decide)) hu6 (fun k => ⟨k.1, Nat.zero_le _, k.3, (List.length_mapIdx).trans k.4⟩))

theorem execHallBReturn_reach {T : Nat} {s₀ s : State} (sub_ : Sub 53812932612 T) (reach_ : Reach T s₀ s) :
    Within T s₀ (execHallBReturn s) := by
  unfold execHallBReturn
  exact Within.ite (fun _ => (Within.next reach_)) (fun _ => (by
    extract_lets +onlyGivenNames -merge -useContext u1
    have hu1 : Reach T s₀ u1 := (State.takeRelayed_reach (sub_.sub (by decide)) (State.hallStarts_reach (sub_.sub (by decide)) reach_))
    clear_value u1
    extract_lets +onlyGivenNames -merge -useContext u2
    have hu2 : Reach T s₀ u2 := (State.refreshConns_reach (sub_.sub (by decide)) (State.reload_reach (sub_.sub (by decide)) hu1))
    clear_value u2
    exact (Within.next (State.applyAuth_reach (sub_.sub (by decide)) (State.recordBothUp_reach (sub_.sub (by decide)) hu2)))))

theorem State.deferredReset_reach {T : Nat} {s₀ s : State} {h : HallId} {cause : Nat} (sub_ : Sub 68584484866 T) (reach_ :
    Reach T s₀ s) :
    Reach T s₀ (State.deferredReset s h cause) := by
  unfold State.deferredReset
  exact State.hallFails_reach (sub_.sub (by decide)) (State.modHall_reach (sub_.sub (by decide)) reach_)

theorem execHallSupplyFault_reach {T : Nat} {s₀ : State} {r : RailsIn} {s : State}
    (sub_ : Sub 68584484866 T) (reach_ : Reach T s₀ s) :
    Within T s₀ (execHallSupplyFault r s) := by
  unfold execHallSupplyFault
  exact (Within.ite (fun _ => (Within.next reach_)) (fun _ => (by
    extract_lets +onlyGivenNames -merge -useContext v1
    have hv1 : Reach T s₀ v1 := (State.deferredReset_reach (sub_.sub (by decide)) reach_)
    clear_value v1
    split
    · exact (Within.next (Reach.set_train_ring (sub_.sub (by decide)) hv1))
    · exact (Within.next hv1))))

theorem execHallClockFault_reach {T : Nat} {s₀ s : State} {h : HallId} (sub_ : Sub 59659005954 T) (reach_ : Reach T s₀ s) :
    Within T s₀ (execHallClockFault h s) := by
  unfold execHallClockFault
  split
  · exact (Within.ite (fun _ => (Within.next reach_)) (fun _ => (by
      extract_lets +onlyGivenNames -merge -useContext w_ u1
      have hu1 : Reach T s₀ u1 := (Reach.set_clock (sub_.sub (by decide)) reach_)
      clear_value u1
      exact (Within.next (State.inhibitOn_reach (sub_.sub (by decide)) (State.enablesLow_reach (sub_.sub (by decide)) (State.record_reach (sub_.sub (by decide)) hu1)))))))
  · exact (Within.ite (fun _ => (Within.next reach_)) (fun _ => (by
      extract_lets +onlyGivenNames -merge -useContext w_ u2
      have hu2 : Reach T s₀ u2 := (Reach.set_clock (sub_.sub (by decide)) reach_)
      clear_value u2
      exact (Within.next (State.enablesLow_reach (sub_.sub (by decide)) (State.enterHold_reach (sub_.sub (by decide)) (State.record_reach (sub_.sub (by decide)) hu2)))))))

theorem execOwnClockFault_reach {T : Nat} {s₀ s : State} (sub_ : Sub 68584484866 T) (reach_ : Reach T s₀ s) :
    Within T s₀ (execOwnClockFault s) := by
  unfold execOwnClockFault
  exact Within.ite (fun _ => (Within.next reach_)) (fun _ => (Within.next (State.deferredReset_reach (sub_.sub (by decide)) reach_)))

theorem execPllLockLoss_reach {T : Nat} {s₀ s : State} {h : HallId} (sub_ : Sub 68584484866 T) (reach_ : Reach T s₀ s) :
    Within T s₀ (execPllLockLoss h s) := by
  unfold execPllLockLoss
  exact Within.next (State.modHall_reach (sub_.sub (by decide)) (State.hallFails_reach (sub_.sub (by decide)) reach_))

theorem execEccUncorrectable_reach {T : Nat} {s₀ s : State} {h : HallId} (sub_ : Sub 68584484866 T) (reach_ : Reach T s₀ s) :
    Within T s₀ (execEccUncorrectable h s) := by
  unfold execEccUncorrectable
  exact Within.next (State.deferredReset_reach (sub_.sub (by decide)) reach_)

theorem execSramScrub_reach {T : Nat} {s₀ s : State} {h : HallId} {corrected : Nat} {setBad : Bool}
    (sub_ : Sub 59659005952 T)
    (reach_ : Reach T s₀ s) :
    Within T s₀ (execSramScrub h corrected setBad s) := by
  unfold execSramScrub
  exact Within.ite (fun _ => (Within.next reach_)) (fun _ => (by
    extract_lets +onlyGivenNames -merge -useContext u1
    have hu1 : Reach T s₀ u1 := (State.modHall_reach (sub_.sub (by decide)) reach_)
    clear_value u1
    exact (Within.next (Reach.ite (fun _ => (State.enterHold_reach (sub_.sub (by decide)) hu1)) (fun _ => hu1)))))

theorem execHallResetAssert_reach {T : Nat} {s₀ s : State} {h : HallId} (sub_ : Sub 68584484866 T) (reach_ : Reach T s₀ s) :
    Within T s₀ (execHallResetAssert h s) := by
  unfold execHallResetAssert
  exact Within.next (State.hallFails_reach (sub_.sub (by decide)) reach_)

theorem execEngineWatchdog_reach {T : Nat} {s₀ s : State} {h : HallId} (sub_ : Sub 68584484866 T) (reach_ : Reach T s₀ s) :
    Within T s₀ (execEngineWatchdog h s) := by
  unfold execEngineWatchdog
  exact Within.next (State.hallFails_reach (sub_.sub (by decide)) reach_)

theorem execHeartbeatLoss_reach {T : Nat} {s₀ s : State} {d : Nat} {h : HallId} (sub_ : Sub 10240 T)
    (reach_ : Reach T s₀ s) :
    Within T s₀ (execHeartbeatLoss d h s) := by
  unfold execHeartbeatLoss
  exact Within.onUnit (by
    extract_lets +onlyGivenNames -merge -useContext v1
    exact (Reach.ite (fun _ => reach_) (fun _ => (by
    extract_lets +onlyGivenNames -merge -useContext u2
    have hu2 : Reach T s₀ u2 := (State.modDie_reach (sub_.sub (by decide)) reach_)
    clear_value u2
    exact (State.treadsOff_reach (sub_.sub (by decide)) hu2)))))

theorem execFlightEnableLow_reach {T : Nat} {s₀ s : State} {f : Nat} {h : HallId} (sub_ : Sub 12288 T)
    (reach_ : Reach T s₀ s) :
    Within T s₀ (execFlightEnableLow f h s) := by
  unfold execFlightEnableLow
  exact Within.onUnit (State.enableLow_reach (sub_.sub (by decide)) reach_)

end Sys2Proof.Machine
end

