-- ==== Sys2Proof/Laws/Frame/Interlock.lean ====
section
/-! SUPPORT. What the operations of Machine/Interlock.lean may change: one lemma for each, whose mask names the fields. -/

set_option Elab.async false

namespace Sys2Proof.Machine

theorem execSafetyTick_reach {T : Nat} {s₀ : State} {i : TickIn} {s : State} (sub_ : Sub 137438182394 T)
    (reach_ : Reach T s₀ s) :
    Within T s₀ (execSafetyTick i s) := by
  unfold execSafetyTick
  exact (Within.next (Reach.ite (fun _ => (State.safetyTick_reach (sub_.sub (by decide)) reach_)) (fun _ => reach_)))

theorem execDiscrepancy_reach {T : Nat} {s₀ s : State} {n : Nat} (sub_ : Sub 36540776448 T) (reach_ : Reach T s₀ s) :
    Within T s₀ (execDiscrepancy n s) := by
  unfold execDiscrepancy
  exact Within.onUnit (by
    extract_lets +onlyGivenNames -merge -useContext v1
    exact (Reach.ite (fun _ => reach_) (fun _ => (by
    extract_lets +onlyGivenNames -merge -useContext v2
    exact (State.record_reach (sub_.sub (by decide)) (State.modPair_reach (sub_.sub (by decide)) reach_))))))

theorem execDiscrepancyCleared_reach {T : Nat} {s₀ s : State} {n : Nat} (sub_ : Sub 36540776448 T) (reach_ : Reach T s₀ s) :
    Within T s₀ (execDiscrepancyCleared n s) := by
  unfold execDiscrepancyCleared
  exact Within.onUnit (Reach.ite (fun _ => (State.record_reach (sub_.sub (by decide)) (State.modPair_reach (sub_.sub (by decide)) reach_))) (fun _ => reach_))

theorem execDclConduct_reach {T : Nat} {s₀ s : State} {o : Nat} (sub_ : Sub 33554432 T) (reach_ : Reach T s₀ s) :
    Within T s₀ (execDclConduct o s) := by
  unfold execDclConduct
  exact Within.onUnit (by
    extract_lets +onlyGivenNames -merge -useContext v1
    exact (Reach.ite (fun _ => (State.modDcl_reach (sub_.sub (by decide)) reach_)) (fun _ => reach_)))

theorem execDclOfflineTest_reach {T : Nat} {s₀ s : State} {o : Nat} {ma1 ma2 : Rat} (sub_ : Sub 36540776448 T)
    (reach_ : Reach
    T s₀ s) :
    Within T s₀ (execDclOfflineTest o ma1 ma2 s) := by
  unfold execDclOfflineTest
  exact Within.onUnit (by
    extract_lets +onlyGivenNames -merge -useContext v1
    split
    · exact reach_
    · exact (Reach.ite (fun _ => reach_) (fun _ => (Reach.ite (fun _ => (State.modDcl_reach (sub_.sub (by decide)) reach_)) (fun _ => (State.dclFault_reach (sub_.sub (by decide)) reach_))))))

theorem execDclTestPulse_reach {T : Nat} {s₀ s : State} {o sw : Nat} {ma : Rat} (sub_ : Sub 36540776448 T)
    (reach_ : Reach T s₀
    s) :
    Within T s₀ (execDclTestPulse o sw ma s) := by
  unfold execDclTestPulse
  exact Within.onUnit (Reach.ite (fun _ => (State.dclFault_reach (sub_.sub (by decide)) reach_)) (fun _ => reach_))

theorem execDclInhibit_reach {T : Nat} {s₀ s : State} (sub_ : Sub 33554432 T) (reach_ : Reach T s₀ s) :
    Within T s₀ (execDclInhibit s) := by
  unfold execDclInhibit
  exact Within.next (Reach.ite (fun _ => (State.inhibitOn_reach (sub_.sub (by decide)) reach_)) (fun _ => reach_))

theorem execPermissionGrant_reach {T : Nat} {s₀ s : State} {f : Nat} (sub_ : Sub 33554432 T) (reach_ : Reach T s₀ s) :
    Within T s₀ (execPermissionGrant f s) := by
  unfold execPermissionGrant
  exact Within.onUnit (by
    extract_lets +onlyGivenNames -merge -useContext v1
    exact (Reach.ite (fun _ => (State.modFsafe_reach (sub_.sub (by decide)) reach_)) (fun _ => reach_)))

theorem execResetEdge_reach {T : Nat} {s₀ s : State} (sub_ : Sub 33554432 T) (reach_ : Reach T s₀ s) :
    Within T s₀ (execResetEdge s) := by
  unfold execResetEdge
  split
  · exact (Within.next reach_)
  · exact (Within.ite (fun _ => (Within.next reach_)) (fun _ => (by
      extract_lets +onlyGivenNames -merge -useContext v1
      exact (Within.next (Reach.set_safety (sub_.sub (by decide)) reach_ rfl)))))

theorem execResetHeld_reach {T : Nat} {s₀ s : State} (sub_ : Sub 36540776448 T) (reach_ : Reach T s₀ s) :
    Within T s₀ (execResetHeld s) := by
  unfold execResetHeld
  extract_lets +onlyGivenNames -merge -useContext v1
  split
  · exact (Within.next reach_)
  · exact (Within.ite (fun _ => (Within.next reach_)) (fun _ => (by
      split
      · exact (Within.next (State.record_reach (sub_.sub (by decide)) (Reach.set_safety (sub_.sub (by decide)) reach_ rfl)))
      · exact (Within.next (Reach.ite (fun _ => (State.record_reach (sub_.sub (by decide)) (Reach.set_safety (sub_.sub (by decide)) reach_ rfl))) (fun _ => reach_))))))

theorem execResetStuckClear_reach {T : Nat} {s₀ s : State} (sub_ : Sub 33554432 T) (reach_ : Reach T s₀ s) :
    Within T s₀ (execResetStuckClear s) := by
  unfold execResetStuckClear
  exact Within.next (Reach.ite (fun _ => (Reach.set_safety (sub_.sub (by decide)) reach_ rfl)) (fun _ => reach_))

theorem State.safetyResetWrite_reach {T : Nat} {s₀ s : State} {v : BitVec 32} (sub_ : Sub 33554432 T)
    (reach_ : Reach T s₀ s) :
    Reach T s₀ (State.safetyResetWrite s v).2 := by
  unfold State.safetyResetWrite
  exact Reach.ite2 (fun _ => (Reach.mk2 reach_)) (fun _ => (Reach.ite2 (fun _ => (Reach.mk2 reach_)) (fun _ => (Reach.mk2 (Reach.set_safety (sub_.sub (by decide)) reach_ rfl)))))

theorem execWordMismatchLimit_reach {T : Nat} {s₀ s : State} {h : HallId} (sub_ : Sub 59659005952 T)
    (reach_ : Reach T s₀ s) :
    Within T s₀ (execWordMismatchLimit h s) := by
  unfold execWordMismatchLimit
  exact Within.next (Reach.ite (fun _ => (State.enterHold_reach (sub_.sub (by decide)) reach_)) (fun _ => reach_))

theorem State.proposerTurn_reach {T : Nat} {s₀ s : State} {h : HallId} (sub_ : Sub 59860333536 T) (reach_ : Reach T s₀ s) :
    Reach T s₀ (State.proposerTurn s h) := by
  unfold State.proposerTurn
  split
  · exact reach_
  · exact (Reach.ite (fun _ => reach_) (fun _ => (Reach.ite (fun _ => (State.takeMode_reach (sub_.sub (by decide)) reach_)) (fun _ => (by
      extract_lets +onlyGivenNames -merge -useContext u1
      have hu1 : Reach T s₀ u1 := (State.modHall_reach (sub_.sub (by decide)) reach_)
      clear_value u1
      extract_lets +onlyGivenNames -merge -useContext u2
      have hu2 : Reach T s₀ u2 := (State.record_reach (sub_.sub (by decide)) hu1)
      clear_value u2
      exact (Reach.ite (fun _ => (State.answerMode_reach (sub_.sub (by decide)) hu2)) (fun _ => hu2)))))))

theorem State.partnerTurn_reach {T : Nat} {s₀ s : State} {h : HallId} (sub_ : Sub 59860333536 T) (reach_ : Reach T s₀ s) :
    Reach T s₀ (State.partnerTurn s h) := by
  unfold State.partnerTurn
  extract_lets +onlyGivenNames -merge -useContext v1
  split
  · exact (Reach.ite (fun _ => (State.takeMode_reach (sub_.sub (by decide)) reach_)) (fun _ => reach_))
  · exact reach_

theorem execModeTransition_reach {T : Nat} {s₀ s : State} (sub_ : Sub 59860333536 T) (reach_ : Reach T s₀ s) :
    Within T s₀ (execModeTransition s) := by
  unfold execModeTransition
  extract_lets +onlyGivenNames -merge -useContext v1
  exact (Within.next (State.proposerTurn_reach (sub_.sub (by decide)) (State.partnerTurn_reach (sub_.sub (by decide)) reach_)))

theorem State.readSeal_reach {T : Nat} {s₀ s : State} {contacts : BitVec 48} (sub_ : Sub 58720256 T)
    (reach_ : Reach T s₀ s) :
    Reach T s₀ (State.readSeal s contacts) := by
  unfold State.readSeal
  extract_lets +onlyGivenNames -merge -useContext v1
  extract_lets +onlyGivenNames -merge -useContext v2
  extract_lets +onlyGivenNames -merge -useContext v3
  extract_lets +onlyGivenNames -merge -useContext v4
  extract_lets +onlyGivenNames -merge -useContext w_ u5
  have hu5 : Reach T s₀ u5 := (Reach.set_safety (sub_.sub (by decide)) reach_ rfl)
  clear_value u5
  exact (Reach.ite (fun _ => (by
  extract_lets +onlyGivenNames -merge -useContext v6
  exact (State.modHall_reach (sub_.sub (by decide)) hu5))) (fun _ => hu5))

theorem execSealRead_reach {T : Nat} {s₀ s : State} {contacts : BitVec 48} (sub_ : Sub 59659005952 T)
    (reach_ : Reach T s₀ s) :
    Within T s₀ (execSealRead contacts s) := by
  unfold execSealRead
  exact Within.ite (fun _ => (Within.next reach_)) (fun _ => (by
    extract_lets +onlyGivenNames -merge -useContext v1
    extract_lets +onlyGivenNames -merge -useContext u2
    have hu2 : Reach T s₀ u2 := (State.readSeal_reach (sub_.sub (by decide)) reach_)
    clear_value u2
    extract_lets +onlyGivenNames -merge -useContext v3
    extract_lets +onlyGivenNames -merge -useContext v4
    extract_lets +onlyGivenNames -merge -useContext v5
    exact (Within.ite (fun _ => (Within.next hu2)) (fun _ => (Within.ite (fun _ => (Within.next (State.recordIf_reach (sub_.sub (by decide)) hu2))) (fun _ => (Within.ite (fun _ => (Within.next (State.enterHold_reach (sub_.sub (by decide)) (State.record_reach (sub_.sub (by decide)) hu2)))) (fun _ => (Within.next hu2)))))))))

end Sys2Proof.Machine
end

