-- ==== Sys2Proof/Laws/Frame/Power.lean ====
section
/-! SUPPORT. What the operations of Machine/Power.lean may change: one lemma for each, whose mask names the fields. -/

set_option Elab.async false

namespace Sys2Proof.Machine

theorem State.samplePower_reach {T : Nat} {s₀ s : State} {i : SampleIn} (sub_ : Sub 25231336 T) (reach_ : Reach T s₀ s) :
    Reach T s₀ (State.samplePower s i) := by
  unfold State.samplePower
  extract_lets +onlyGivenNames -merge -useContext u0
  have hu0 : Reach T s₀ u0 := (State.modHall_reach (sub_.sub (by decide)) (State.modHall_reach (sub_.sub (by decide)) reach_))
  clear_value u0
  extract_lets +onlyGivenNames -merge -useContext u1
  have hu1 : Reach T s₀ u1 := (Reach.set_supply_baseplate (sub_.sub (by decide)) hu0)
  clear_value u1
  extract_lets +onlyGivenNames -merge -useContext u2
  have hu2 : Reach T s₀ u2 := (State.mapTreads_reach (sub_.sub (by decide)) hu1)
  clear_value u2
  extract_lets +onlyGivenNames -merge -useContext u3
  have hu3 : Reach T s₀ u3 := (State.mapStoreys_reach (sub_.sub (by decide)) hu2)
  clear_value u3
  extract_lets +onlyGivenNames -merge -useContext u4
  have hu4 : Reach T s₀ u4 := (State.mapDies_reach (sub_.sub (by decide)) hu3)
  clear_value u4
  extract_lets +onlyGivenNames -merge -useContext u5
  have hu5 : Reach T s₀ u5 := (Reach.set_dissip (sub_.sub (by decide)) hu4)
  clear_value u5
  extract_lets +onlyGivenNames -merge -useContext u6
  have hu6 : Reach T s₀ u6 := (State.mapFpower_reach (sub_.sub (by decide)) hu5)
  clear_value u6
  exact (Reach.forEach _ hu6 (fun u7 _ hu7 => (Reach.ite (fun _ => (State.modBudget_reach (sub_.sub (by decide)) hu7 (fun _ k => k))) (fun _ => hu7))))

theorem execBudgetStop_reach {T : Nat} {s₀ s : State} {lv : Nat} (sub_ : Sub 36508279776 T) (reach_ : Reach T s₀ s) :
    Within T s₀ (execBudgetStop lv s) := by
  unfold execBudgetStop
  exact Within.ite (fun _ => (Within.fault _)) (fun _ => (by
    extract_lets +onlyGivenNames -merge -useContext v1
    exact (Within.ite (fun _ => (by
    extract_lets +onlyGivenNames -merge -useContext u2
    have hu2 : Reach T s₀ u2 := (State.record_reach (sub_.sub (by decide)) (State.modBudget_reach (sub_.sub (by decide)) reach_ (fun _ k => k)))
    clear_value u2
    exact (Within.next (State.causeStops_reach (sub_.sub (by decide)) hu2)))) (fun _ => (Within.next reach_)))))

theorem execStoreyBreaker_reach {T : Nat} {s₀ s : State} {u : Nat} (sub_ : Sub 36508279808 T) (reach_ : Reach T s₀ s) :
    Within T s₀ (execStoreyBreaker u s) := by
  unfold execStoreyBreaker
  exact Within.onUnit (Reach.ite (fun _ => reach_) (fun _ => (by
    extract_lets +onlyGivenNames -merge -useContext u1
    have hu1 : Reach T s₀ u1 := (State.modStorey_reach (sub_.sub (by decide)) reach_)
    clear_value u1
    exact (State.causeStops_reach (sub_.sub (by decide)) (State.record_reach (sub_.sub (by decide)) (State.treadsOff_reach (sub_.sub (by decide)) hu1))))))

theorem execPrecharge_reach {T : Nat} {s₀ s : State} {frontEnd battery : Rat} (sub_ : Sub 8 T) (reach_ : Reach T s₀ s) :
    Within T s₀ (execPrecharge frontEnd battery s) := by
  unfold execPrecharge
  extract_lets +onlyGivenNames -merge -useContext v1
  extract_lets +onlyGivenNames -merge -useContext v2
  exact (Within.next (Reach.set_supply (sub_.sub (by decide)) reach_))

theorem execPrechargeTimeout_reach {T : Nat} {s₀ s : State} (sub_ : Sub 8 T) (reach_ : Reach T s₀ s) :
    Within T s₀ (execPrechargeTimeout s) := by
  unfold execPrechargeTimeout
  split
  · exact (Within.next reach_)
  · exact (Within.ite (fun _ => (Within.next (Reach.set_supply (sub_.sub (by decide)) reach_))) (fun _ => (Within.next reach_)))

theorem State.uncleanSupply_reach {T : Nat} {s₀ s : State} (sub_ : Sub 4194304 T) (reach_ : Reach T s₀ s) :
    Reach T s₀ (State.uncleanSupply s) := by
  unfold State.uncleanSupply
  exact (Reach.forEach _ reach_ (fun u1 _ hu3 => (State.modObs_reach (sub_.sub (by decide)) hu3)))

theorem execSupplyUv_reach {T : Nat} {s₀ s : State} (sub_ : Sub 36512473096 T) (reach_ : Reach T s₀ s) :
    Within T s₀ (execSupplyUv s) := by
  unfold execSupplyUv
  exact (Within.ite (fun _ => (Within.next reach_)) (fun _ => (by
    extract_lets +onlyGivenNames -merge -useContext v1
    extract_lets +onlyGivenNames -merge -useContext v2
    extract_lets +onlyGivenNames -merge -useContext v3
    have hv3 : Reach T s₀ v3 := (Reach.set_supply (sub_.sub (by decide)) reach_)
    clear_value v3
    exact (Within.next (State.causeStops_reach (sub_.sub (by decide)) (State.record_reach (sub_.sub (by decide)) (State.treadsOff_reach (sub_.sub (by decide)) (State.uncleanSupply_reach (sub_.sub (by decide)) hv3))))))))

theorem execSupplyUvRestart_reach {T : Nat} {s₀ s : State} (sub_ : Sub 36507230216 T) (reach_ : Reach T s₀ s) :
    Within T s₀ (execSupplyUvRestart s) := by
  unfold execSupplyUvRestart
  exact (Within.ite (fun _ => (by
    extract_lets +onlyGivenNames -merge -useContext v1
    extract_lets +onlyGivenNames -merge -useContext v2
    have hv2 : Reach T s₀ v2 := (Reach.set_supply (sub_.sub (by decide)) reach_)
    clear_value v2
    exact (Within.next (State.record_reach (sub_.sub (by decide)) (State.treadsBack_reach (sub_.sub (by decide)) hv2))))) (fun _ => (Within.next reach_)))

theorem State.uvClear_reach {T : Nat} {s₀ s : State} {v : BitVec 32} (sub_ : Sub 36507222024 T) (reach_ : Reach T s₀ s) :
    Reach T s₀ (State.uvClear s v).2 := by
  unfold State.uvClear
  exact Reach.ite2 (fun _ => (Reach.mk2 reach_)) (fun _ => (Reach.ite2 (fun _ => (Reach.mk2 reach_)) (fun _ => (by
    extract_lets +onlyGivenNames -merge -useContext w_ u1
    have hu1 : Reach T s₀ u1 := (Reach.set_supply (sub_.sub (by decide)) reach_)
    clear_value u1
    exact (Reach.mk2 (State.record_reach (sub_.sub (by decide)) hu1))))))

theorem execSupplyOv_reach {T : Nat} {s₀ s : State} (sub_ : Sub 36512473096 T) (reach_ : Reach T s₀ s) :
    Within T s₀ (execSupplyOv s) := by
  unfold execSupplyOv
  exact (Within.ite (fun _ => (Within.next reach_)) (fun _ => (by
    extract_lets +onlyGivenNames -merge -useContext v1
    extract_lets +onlyGivenNames -merge -useContext v2
    have hv2 : Reach T s₀ v2 := (Reach.set_supply (sub_.sub (by decide)) reach_)
    clear_value v2
    exact (Within.next (State.causeStops_reach (sub_.sub (by decide)) (State.record_reach (sub_.sub (by decide)) (State.treadsOff_reach (sub_.sub (by decide)) (State.uncleanSupply_reach (sub_.sub (by decide)) hv2))))))))

theorem execSupplyOvRelease_reach {T : Nat} {s₀ s : State} (sub_ : Sub 8200 T) (reach_ : Reach T s₀ s) :
    Within T s₀ (execSupplyOvRelease s) := by
  unfold execSupplyOvRelease
  exact (Within.ite (fun _ => (by
    extract_lets +onlyGivenNames -merge -useContext v1
    extract_lets +onlyGivenNames -merge -useContext v2
    have hv2 : Reach T s₀ v2 := (Reach.set_supply (sub_.sub (by decide)) reach_)
    clear_value v2
    exact (Within.next (State.treadsBack_reach (sub_.sub (by decide)) hv2)))) (fun _ => (Within.next reach_)))

theorem execSupplyInterrupt_reach {T : Nat} {s₀ s : State} (sub_ : Sub 36511416328 T) (reach_ : Reach T s₀ s) :
    Within T s₀ (execSupplyInterrupt s) := by
  unfold execSupplyInterrupt
  split
  · exact (Within.next reach_)
  · exact (Within.ite (fun _ => (Within.next reach_)) (fun _ => (by
      extract_lets +onlyGivenNames -merge -useContext v1
      extract_lets +onlyGivenNames -merge -useContext v2
      have hv2 : Reach T s₀ v2 := (Reach.set_supply (sub_.sub (by decide)) reach_)
      clear_value v2
      exact (Within.next (State.record_reach (sub_.sub (by decide)) (State.uncleanSupply_reach (sub_.sub (by decide)) hv2))))))

theorem execGroundLoss_reach {T : Nat} {s₀ s : State} (sub_ : Sub 8200 T) (reach_ : Reach T s₀ s) :
    Within T s₀ (execGroundLoss s) := by
  unfold execGroundLoss
  extract_lets +onlyGivenNames -merge -useContext w_ u1
  have hu1 : Reach T s₀ u1 := (Reach.set_supply (sub_.sub (by decide)) reach_)
  clear_value u1
  exact (Within.next (State.treadsOff_reach (sub_.sub (by decide)) hu1))

theorem execGroundReturn_reach {T : Nat} {s₀ s : State} (sub_ : Sub 36507230216 T) (reach_ : Reach T s₀ s) :
    Within T s₀ (execGroundReturn s) := by
  unfold execGroundReturn
  exact (Within.ite (fun _ => (Within.next reach_)) (fun _ => (by
    extract_lets +onlyGivenNames -merge -useContext v1
    extract_lets +onlyGivenNames -merge -useContext v2
    have hv2 : Reach T s₀ v2 := (Reach.set_supply (sub_.sub (by decide)) reach_)
    clear_value v2
    exact (Within.next (State.record_reach (sub_.sub (by decide)) (State.treadsBack_reach (sub_.sub (by decide)) hv2))))))

theorem execModulePresenceOpen_reach {T : Nat} {s₀ s : State} (sub_ : Sub 36508278792 T) (reach_ : Reach T s₀ s) :
    Within T s₀ (execModulePresenceOpen s) := by
  unfold execModulePresenceOpen
  exact Within.ite (fun _ => (Within.next (Reach.set_supply (sub_.sub (by decide)) reach_))) (fun _ => (by
    extract_lets +onlyGivenNames -merge -useContext w_ u1
    have hu1 : Reach T s₀ u1 := (Reach.set_supply (sub_.sub (by decide)) reach_)
    clear_value u1
    exact (Within.next (State.causeStops_reach (sub_.sub (by decide)) (State.record_reach (sub_.sub (by decide)) (State.treadsOff_reach (sub_.sub (by decide)) hu1))))))

theorem execModulePresenceClosed_reach {T : Nat} {s₀ s : State} (sub_ : Sub 8 T) (reach_ : Reach T s₀ s) :
    Within T s₀ (execModulePresenceClosed s) := by
  unfold execModulePresenceClosed
  exact Within.ite (fun _ => (Within.next (Reach.set_supply (sub_.sub (by decide)) reach_))) (fun _ => (Within.next reach_))

theorem State.portUnplugged_reach {T : Nat} {s₀ s : State} {p : Nat} (sub_ : Sub 34361049088 T) (reach_ : Reach T s₀ s) :
    Reach T s₀ (State.portUnplugged s p) := by
  unfold State.portUnplugged
  exact State.modPort_reach (sub_.sub (by decide)) (State.invalidateCount_reach (sub_.sub (by decide)) (State.setAux_reach (sub_.sub (by decide)) reach_))

theorem execFlightPresenceOpen_reach {T : Nat} {s₀ s : State} {f : Nat} (sub_ : Sub 36508545024 T) (reach_ : Reach T s₀ s) :
    Within T s₀ (execFlightPresenceOpen f s) := by
  unfold execFlightPresenceOpen
  exact Within.onUnit (Reach.ite (fun _ => (State.modFpower_reach (sub_.sub (by decide)) reach_)) (fun _ => (by
    extract_lets +onlyGivenNames -merge -useContext u1
    have hu1 : Reach T s₀ u1 := (State.modFpower_reach (sub_.sub (by decide)) reach_)
    clear_value u1
    extract_lets +onlyGivenNames -merge -useContext u2
    have hu2 : Reach T s₀ u2 := (State.treadsOff_reach (sub_.sub (by decide)) hu1)
    clear_value u2
    extract_lets +onlyGivenNames -merge -useContext u3
    have hu3 : Reach T s₀ u3 := (State.portUnplugged_reach (sub_.sub (by decide)) (State.portUnplugged_reach (sub_.sub (by decide)) hu2))
    clear_value u3
    exact (State.causeStopsFrom_reach (sub_.sub (by decide)) (State.recordIf_reach (sub_.sub (by decide)) hu3)))))

theorem execFlightPresenceClosed_reach {T : Nat} {s₀ s : State} {f : Nat} (sub_ : Sub 36542681088 T)
    (reach_ : Reach T s₀ s) :
    Within T s₀ (execFlightPresenceClosed f s) := by
  unfold execFlightPresenceClosed
  exact Within.onUnit (Reach.ite (fun _ => reach_) (fun _ => (by
    extract_lets +onlyGivenNames -merge -useContext u1
    have hu1 : Reach T s₀ u1 := (State.modFpower_reach (sub_.sub (by decide)) reach_)
    clear_value u1
    extract_lets +onlyGivenNames -merge -useContext v2
    extract_lets +onlyGivenNames -merge -useContext u3
    have hu3 : Reach T s₀ u3 := (State.restartEcho_reach (sub_.sub (by decide)) (State.modPort_reach (sub_.sub (by decide)) (State.modPort_reach (sub_.sub (by decide)) hu1)))
    clear_value u3
    extract_lets +onlyGivenNames -merge -useContext u4
    have hu4 : Reach T s₀ u4 := (State.restartLines_reach (sub_.sub (by decide)) hu3)
    clear_value u4
    extract_lets +onlyGivenNames -merge -useContext u6
    have hu6 : Reach T s₀ u6 := (Reach.forEach _ hu4 (fun u5 _ hu5 => (State.modAxis_reach (sub_.sub (by decide)) hu5)))
    clear_value u6
    extract_lets +onlyGivenNames -merge -useContext u8
    have hu8 : Reach T s₀ u8 := (Reach.forEach _ hu6 (fun u7 _ hu7 => (State.modPair_reach (sub_.sub (by decide)) hu7)))
    clear_value u8
    exact (State.recordIf_reach (sub_.sub (by decide)) hu8))))

theorem execTreadIlim_reach {T : Nat} {s₀ s : State} {t : Nat} (sub_ : Sub 36507230208 T) (reach_ : Reach T s₀ s) :
    Within T s₀ (execTreadIlim t s) := by
  unfold execTreadIlim
  exact Within.onUnit (Reach.ite (fun _ => (State.record_reach (sub_.sub (by decide)) (State.modTread_reach (sub_.sub (by decide)) reach_))) (fun _ => reach_))

theorem execTreadPeakClamp_reach {T : Nat} {s₀ s : State} {t : Nat} (sub_ : Sub 36507230208 T) (reach_ : Reach T s₀ s) :
    Within T s₀ (execTreadPeakClamp t s) := by
  unfold execTreadPeakClamp
  exact Within.onUnit (Reach.ite (fun _ => (State.record_reach (sub_.sub (by decide)) (State.modTread_reach (sub_.sub (by decide)) reach_))) (fun _ => reach_))

theorem State.tripTread_reach {T : Nat} {s₀ s : State} {t : Nat} (sub_ : Sub 36507230208 T) (reach_ : Reach T s₀ s) :
    Reach T s₀ (State.tripTread s t) := by
  unfold State.tripTread
  extract_lets +onlyGivenNames -merge -useContext v1
  extract_lets +onlyGivenNames -merge -useContext v2
  exact (Reach.ite (fun _ => (State.modTread_reach (sub_.sub (by decide)) reach_)) (fun _ => (by
  extract_lets +onlyGivenNames -merge -useContext v3
  extract_lets +onlyGivenNames -merge -useContext u4
  have hu4 : Reach T s₀ u4 := (State.modTread_reach (sub_.sub (by decide)) reach_)
  clear_value u4
  exact (State.recordIf_reach (sub_.sub (by decide)) hu4))))

theorem execTreadThermal_reach {T : Nat} {s₀ : State} {m : ThermalIn} {s : State} (sub_ : Sub 36508278784 T)
    (reach_ : Reach T s₀ s) :
    Within T s₀ (execTreadThermal m s) := by
  unfold execTreadThermal
  exact (Within.onUnit (Reach.ite (fun _ => reach_) (fun _ => (by
    extract_lets +onlyGivenNames -merge -useContext v1
    extract_lets +onlyGivenNames -merge -useContext v2
    have hv2 : Reach T s₀ v2 := (State.record_reach (sub_.sub (by decide)) (State.modTread_reach (sub_.sub (by decide)) reach_))
    clear_value v2
    exact (Reach.ite (fun _ => (State.causeStops_reach (sub_.sub (by decide)) (State.tripTread_reach (sub_.sub (by decide)) hv2))) (fun _ => hv2))))))

theorem execTreadWireTrip_reach {T : Nat} {s₀ s : State} {t : Nat} (sub_ : Sub 36508278784 T) (reach_ : Reach T s₀ s) :
    Within T s₀ (execTreadWireTrip t s) := by
  unfold execTreadWireTrip
  exact Within.onUnit (by
    extract_lets +onlyGivenNames -merge -useContext v1
    extract_lets +onlyGivenNames -merge -useContext v2
    exact (Reach.ite (fun _ => (by
    extract_lets +onlyGivenNames -merge -useContext u3
    have hu3 : Reach T s₀ u3 := (State.record_reach (sub_.sub (by decide)) (State.modTread_reach (sub_.sub (by decide)) reach_))
    clear_value u3
    exact (State.causeStops_reach (sub_.sub (by decide)) (State.tripTread_reach (sub_.sub (by decide)) hu3)))) (fun _ => reach_)))

theorem execTreadRearm_reach {T : Nat} {s₀ s : State} {t : Nat} (sub_ : Sub 8192 T) (reach_ : Reach T s₀ s) :
    Within T s₀ (execTreadRearm t s) := by
  unfold execTreadRearm
  exact Within.onUnit (by
    extract_lets +onlyGivenNames -merge -useContext v1
    exact (State.modTread_reach (sub_.sub (by decide)) reach_))

theorem execTreadRetry_reach {T : Nat} {s₀ s : State} {t : Nat} (sub_ : Sub 36507230208 T) (reach_ : Reach T s₀ s) :
    Within T s₀ (execTreadRetry t s) := by
  unfold execTreadRetry
  exact Within.onUnit (by
    split
    · exact reach_
    · exact (Reach.ite (fun _ => reach_) (fun _ => (by
        extract_lets +onlyGivenNames -merge -useContext u1
        have hu1 : Reach T s₀ u1 := (State.modTread_reach (sub_.sub (by decide)) reach_)
        clear_value u1
        extract_lets +onlyGivenNames -merge -useContext u2
        have hu2 : Reach T s₀ u2 := (State.modTread_reach (sub_.sub (by decide)) hu1)
        clear_value u2
        exact (State.record_reach (sub_.sub (by decide)) hu2)))))

theorem execRetryCountReset_reach {T : Nat} {s₀ s : State} {t : Nat} (sub_ : Sub 8192 T) (reach_ : Reach T s₀ s) :
    Within T s₀ (execRetryCountReset t s) := by
  unfold execRetryCountReset
  exact Within.onUnit (by
    split
    · exact reach_
    · exact (Reach.ite (fun _ => (State.modTread_reach (sub_.sub (by decide)) reach_)) (fun _ => reach_)))

theorem execTreadOpenLoad_reach {T : Nat} {s₀ s : State} {t : Nat} (sub_ : Sub 36507230208 T) (reach_ : Reach T s₀ s) :
    Within T s₀ (execTreadOpenLoad t s) := by
  unfold execTreadOpenLoad
  exact Within.onUnit (Reach.ite (fun _ => (State.record_reach (sub_.sub (by decide)) (State.modTread_reach (sub_.sub (by decide)) reach_))) (fun _ => reach_))

theorem State.treadClear_reach {T : Nat} {s₀ s : State} {t : Nat} {v : BitVec 32} (sub_ : Sub 36507230208 T)
    (reach_ : Reach T
    s₀ s) :
    Reach T s₀ (State.treadClear s t v).2 := by
  unfold State.treadClear
  extract_lets +onlyGivenNames -merge -useContext v1
  exact (Reach.ite2 (fun _ => (Reach.mk2 reach_)) (fun _ => (Reach.ite2 (fun _ => (Reach.mk2 reach_)) (fun _ => (Reach.mk2 (State.record_reach (sub_.sub (by decide)) (State.modTread_reach (sub_.sub (by decide)) reach_)))))))

theorem State.reclose_reach {T : Nat} {s₀ s : State} {u : Nat} {v : BitVec 32} (sub_ : Sub 36507231232 T)
    (reach_ : Reach T s₀
    s) :
    Reach T s₀ (State.reclose s u v).2 := by
  unfold State.reclose
  extract_lets +onlyGivenNames -merge -useContext v1
  exact (Reach.ite2 (fun _ => (Reach.mk2 reach_)) (fun _ => (Reach.ite2 (fun _ => (Reach.mk2 reach_)) (fun _ => (by
  extract_lets +onlyGivenNames -merge -useContext u2
  have hu2 : Reach T s₀ u2 := (State.modStorey_reach (sub_.sub (by decide)) reach_)
  clear_value u2
  extract_lets +onlyGivenNames -merge -useContext u3
  have hu3 : Reach T s₀ u3 := (State.mapTreads_reach (sub_.sub (by decide)) hu2)
  clear_value u3
  exact (Reach.mk2 (State.record_reach (sub_.sub (by decide)) hu3)))))))

theorem State.stopClear_reach {T : Nat} {s₀ s : State} {lvs : List Nat} {v : BitVec 32} (sub_ : Sub 992 T)
    (reach_ : Reach T s₀
    s) :
    Reach T s₀ (State.stopClear s lvs v).2 := by
  unfold State.stopClear
  exact Reach.ite2 (fun _ => (Reach.mk2 reach_)) (fun _ => (State.clearStops_reach (sub_.sub (by decide)) reach_))

theorem execLhPinChange_reach {T : Nat} {s₀ : State} {p : Nat} {s : State} (sub_ : Sub 8216 T) (reach_ : Reach T s₀ s) :
    Within T s₀ (execLhPinChange p s) := by
  unfold execLhPinChange
  exact (Within.onUnit (by
    extract_lets +onlyGivenNames -merge -useContext v1
    exact (Reach.ite (fun _ => reach_) (fun _ => (by
      extract_lets +onlyGivenNames -merge -useContext v2
      have hv2 : Reach T s₀ v2 := reach_
      clear_value v2
      extract_lets +onlyGivenNames -merge -useContext v3
      extract_lets +onlyGivenNames -merge -useContext v4
      have hv4 : Reach T s₀ v4 := (Reach.set_supply (sub_.sub (by decide)) reach_)
      clear_value v4
      extract_lets +onlyGivenNames -merge -useContext v5
      have hv5 : Reach T s₀ v5 := (State.mapTreads_reach (sub_.sub (by decide)) hv4)
      clear_value v5
      extract_lets +onlyGivenNames -merge -useContext v6
      have hv6 : Reach T s₀ v6 := (State.mapLimp_reach (sub_.sub (by decide)) hv5)
      clear_value v6
      exact (State.lhDrive_reach (sub_.sub (by decide)) hv6))))))

theorem execLimpHomeTakeover_reach {T : Nat} {s₀ : State} {d : Nat} {s : State} (sub_ : Sub 8208 T) (reach_ : Reach T s₀ s) :
    Within T s₀ (execLimpHomeTakeover d s) := by
  unfold execLimpHomeTakeover
  exact (Within.onUnit (by
    extract_lets +onlyGivenNames -merge -useContext v1
    exact (Reach.ite (fun _ => reach_) (fun _ => (by
      extract_lets +onlyGivenNames -merge -useContext v2
      extract_lets +onlyGivenNames -merge -useContext v3
      have hv3 : Reach T s₀ v3 := (State.modLimp_reach (sub_.sub (by decide)) reach_)
      clear_value v3
      exact (State.lhDrive_reach (sub_.sub (by decide)) (State.mapTreads_reach (sub_.sub (by decide)) hv3)))))))

theorem State.handBack_reach {T : Nat} {s₀ s : State} {t : Nat} (sub_ : Sub 36507230208 T) (reach_ : Reach T s₀ s) :
    Reach T s₀ (State.handBack s t) := by
  unfold State.handBack
  extract_lets +onlyGivenNames -merge -useContext v1
  exact (Reach.ite (fun _ => reach_) (fun _ => (by
  extract_lets +onlyGivenNames -merge -useContext u2
  have hu2 : Reach T s₀ u2 := (State.modTread_reach (sub_.sub (by decide)) reach_)
  clear_value u2
  exact (State.recordIf_reach (sub_.sub (by decide)) hu2))))

theorem execLimpHomeHandback_reach {T : Nat} {s₀ s : State} (sub_ : Sub 36507230224 T) (reach_ : Reach T s₀ s) :
    Within T s₀ (execLimpHomeHandback s) := by
  unfold execLimpHomeHandback
  exact (Within.ite (fun _ => (Within.next reach_)) (fun _ => (by
    extract_lets +onlyGivenNames -merge -useContext v1
    exact (Within.ite (fun _ => (Within.next reach_)) (fun _ => (by
      extract_lets +onlyGivenNames -merge -useContext v2
      extract_lets +onlyGivenNames -merge -useContext v3
      extract_lets +onlyGivenNames -merge -useContext v4
      have hv4 : Reach T s₀ v4 := (Reach.forEach _ reach_ (fun u5 _ hu7 => (Reach.ite (fun _ => (State.handBack_reach (sub_.sub (by decide)) hu7)) (fun _ => hu7))))
      clear_value v4
      extract_lets +onlyGivenNames -merge -useContext v8
      have hv8 : Reach T s₀ v8 := (State.mapLimp_reach (sub_.sub (by decide)) hv4)
      clear_value v8
      exact (Within.next (State.record_reach (sub_.sub (by decide)) (State.refreshTreads_reach (sub_.sub (by decide)) hv8)))))))))

theorem State.clearDie_reach {T : Nat} {s₀ s : State} {d : Nat} (sub_ : Sub 1386512 T) (reach_ : Reach T s₀ s) :
    Reach T s₀ (State.clearDie s d) := by
  unfold State.clearDie
  extract_lets +onlyGivenNames -merge -useContext v1
  extract_lets +onlyGivenNames -merge -useContext w_ u3
  have hu3 : Reach T s₀ u3 := (Reach.set_limp_dies_treads_senses_ports (sub_.sub (by decide)) reach_ List.length_set (List.length_modify ..) List.length_mapIdx List.length_mapIdx List.length_mapIdx)
  clear_value u3
  exact (Reach.forEach _ hu3 (fun u4 _ hu4 => (Reach.ite (fun _ => (State.invalidateCount_reach (sub_.sub (by decide)) hu4)) (fun _ => hu4))))

theorem State.raiseDie_reach {T : Nat} {s₀ s : State} {d : Nat} (sub_ : Sub 1386496 T) (reach_ : Reach T s₀ s) :
    Reach T s₀ (State.raiseDie s d) := by
  unfold State.raiseDie
  extract_lets +onlyGivenNames -merge -useContext v1
  extract_lets +onlyGivenNames -merge -useContext v2
  have hv2 : Reach T s₀ v2 := (State.modDie_reach (sub_.sub (by decide)) reach_)
  clear_value v2
  extract_lets +onlyGivenNames -merge -useContext v3
  have hv3 : Reach T s₀ v3 := (State.mapTreads_reach (sub_.sub (by decide)) hv2)
  clear_value v3
  extract_lets +onlyGivenNames -merge -useContext v4
  extract_lets +onlyGivenNames -merge -useContext v5
  have hv5 : Reach T s₀ v5 := (State.mapSenses_reach (sub_.sub (by decide)) hv3)
  clear_value v5
  extract_lets +onlyGivenNames -merge -useContext v6
  have hv6 : Reach T s₀ v6 := (State.restartLines_reach (sub_.sub (by decide)) hv5)
  clear_value v6
  extract_lets +onlyGivenNames -merge -useContext v7
  extract_lets +onlyGivenNames -merge -useContext v8
  have hv8 : Reach T s₀ v8 := (State.mapPorts_reach (sub_.sub (by decide)) hv6)
  clear_value v8
  exact (State.axesIdle_reach (sub_.sub (by decide)) hv8)

end Sys2Proof.Machine
end

