-- ==== Sys2Proof/Laws/Frame/Boot.lean ====
section
/-! SUPPORT. What the operations of Machine/Boot.lean may change: one lemma for each, whose mask names the fields. -/

set_option Elab.async false

namespace Sys2Proof.Machine

theorem State.dropDcls_reach {T : Nat} {s₀ s : State} (sub_ : Sub 33554432 T) (reach_ : Reach T s₀ s) :
    Reach T s₀ (State.dropDcls s) := by
  unfold State.dropDcls
  extract_lets +onlyGivenNames -merge -useContext v1
  have hv1 : Reach T s₀ v1 := (State.openBoth_reach (sub_.sub (by decide)) reach_)
  clear_value v1
  extract_lets +onlyGivenNames -merge -useContext v2
  exact (State.modDcl_reach (sub_.sub (by decide)) (State.modDcl_reach (sub_.sub (by decide)) hv1))

theorem execLPdLoss_reach {T : Nat} {s₀ : State} {d : Nat} {s : State} (sub_ : Sub 36542162960 T) (reach_ : Reach T s₀ s) :
    Within T s₀ (execLPdLoss d s) := by
  unfold execLPdLoss
  exact (Within.onUnit (by
    extract_lets +onlyGivenNames -merge -useContext v1
    have hv1 : Reach T s₀ v1 := (State.modDie_reach (sub_.sub (by decide)) reach_)
    clear_value v1
    exact (State.causeStopsFrom_reach (sub_.sub (by decide)) (State.dropDcls_reach (sub_.sub (by decide)) (State.clearDie_reach (sub_.sub (by decide)) hv1)))))

theorem execLPdRestored_reach {T : Nat} {s₀ : State} {d : Nat} {s : State} (sub_ : Sub 1386496 T) (reach_ : Reach T s₀ s) :
    Within T s₀ (execLPdRestored d s) := by
  unfold execLPdRestored
  exact (Within.onUnit (Reach.ite (fun _ => reach_) (fun _ => (State.modDie_reach (sub_.sub (by decide)) (State.raiseDie_reach (sub_.sub (by decide)) reach_)))))

theorem State.lastWrites_reach {T : Nat} {s₀ s : State} (sub_ : Sub 2147483656 T) (reach_ : Reach T s₀ s) :
    Reach T s₀ (State.lastWrites s) := by
  unfold State.lastWrites
  exact Reach.ite (fun _ => reach_) (fun _ => (Reach.set_supply_gallery (sub_.sub (by decide)) reach_ (fun k => ⟨k.1, k.2, k.3, k.4⟩)))

theorem State.unpowered_reach {T : Nat} {s₀ s : State} (sub_ : Sub 8616491024 T) (reach_ : Reach T s₀ s) :
    Reach T s₀ (State.unpowered s) := by
  unfold State.unpowered
  extract_lets +onlyGivenNames -merge -useContext v1
  have hv1 : Reach T s₀ v1 := (Reach.set_ring (sub_.sub (by decide)) reach_)
  clear_value v1
  extract_lets +onlyGivenNames -merge -useContext v2
  have hv2 : Reach T s₀ v2 := (State.modHall_reach (sub_.sub (by decide)) (State.modHall_reach (sub_.sub (by decide)) hv1))
  clear_value v2
  extract_lets +onlyGivenNames -merge -useContext v3
  have hv3 : Reach T s₀ v3 := (Reach.forEach _ hv2 (fun u4 _ hu6 => (State.clearDie_reach (sub_.sub (by decide)) (State.modDie_reach (sub_.sub (by decide)) hu6))))
  clear_value v3
  exact (State.modHall_reach (sub_.sub (by decide)) (State.mapFpower_reach (sub_.sub (by decide)) hv3))

theorem State.supplyGone_reach {T : Nat} {s₀ s : State} (sub_ : Sub 68584552474 T) (reach_ : Reach T s₀ s) :
    Reach T s₀ (State.supplyGone s) := by
  unfold State.supplyGone
  exact State.unpowered_reach (sub_.sub (by decide)) (State.resetModule_reach (sub_.sub (by decide)) (State.openBoth_reach (sub_.sub (by decide)) (State.lastWrites_reach (sub_.sub (by decide)) reach_)))

/-- What the supply, the first STANDBY and a trial boot become at the end of the supply. -/
theorem supplyLoss_within {T : Nat} {s₀ u : State} (sub_ : Sub 17314086920 T) (hu : Reach T s₀ u) :
    Within T s₀ (.next { u with
      supply := { u.supply with valid := false, switchClosed := false, prechargeAt := none, prechargeFailed := false }
      firstStandby := false
      sec := { u.sec with
          fallbackDue := if u.sec.fwPending = 2 then some 2 else u.sec.fallbackDue, trialEnd := none, fwPending := 0 } }) := by
  exact Within.next (Reach.set_supply_firstStandby_sec sub_ hu)

theorem execSupplyLoss_reach {T : Nat} {s₀ s : State} (sub_ : Sub 68718770202 T) (reach_ : Reach T s₀ s) :
    Within T s₀ (execSupplyLoss s) := by
  have h : Reach T s₀ s.supplyGone := State.supplyGone_reach (sub_.sub (by decide)) reach_
  have sub' : Sub 17314086920 T := sub_.sub (by decide)
  unfold execSupplyLoss
  exact supplyLoss_within sub' h

theorem State.unitsPowerUp_reach {T : Nat} {s₀ s : State} (sub_ : Sub 595936 T) (reach_ : Reach T s₀ s) :
    Reach T s₀ (State.unitsPowerUp s) := by
  unfold State.unitsPowerUp
  extract_lets +onlyGivenNames -merge -useContext u1
  have hu1 : Reach T s₀ u1 :=
    Reach.forEach _ reach_ (fun _ _ hu => State.modBudget_reach (sub_.sub (by decide)) hu (fun _ _ => ⟨by decide, by decide⟩))
  clear_value u1
  extract_lets +onlyGivenNames -merge -useContext u2
  have hu2 : Reach T s₀ u2 := State.mapSenses_reach (sub_.sub (by decide)) (State.mapStoreys_reach (sub_.sub (by decide)) hu1)
  clear_value u2
  exact State.mapFpower_reach (sub_.sub (by decide)) (Reach.forEach _ hu2 (fun _ _ hu => State.modEcho_reach (sub_.sub (by decide)) hu))

theorem State.powerUp_reach {T : Nat} {s₀ s : State} (sub_ : Sub 34358237162 T) (reach_ : Reach T s₀ s) :
    Reach T s₀ (State.powerUp s) := by
  unfold State.powerUp
  extract_lets +onlyGivenNames -merge -useContext u1
  have hu1 : Reach T s₀ u1 := State.unitsPowerUp_reach (sub_.sub (by decide)) reach_
  clear_value u1
  have sub' : Sub 34357641226 T := sub_.sub (by decide)
  exact {
    sound := fun x =>
      let k := hu1.sound x
      { k with
          doors := (List.length_map ..).trans k.doors, obst := (List.length_map ..).trans k.obst, conns := rfl, safety := rfl
          prog := ⟨rfl, rfl, rfl⟩, gallery := ⟨k.gallery.1, k.gallery.2, k.gallery.3, k.gallery.4⟩ }
    ratchet := hu1.ratchet.trans ⟨Nat.le_refl _, Nat.le_refl _, fun _ => Nat.le_refl _, fun _ h => h⟩
    grow := hu1.grow
    pending := hu1.pending
    clock := fun e => absurd (sub' 1 (by decide)) (by rw [e]; decide)
    params := hu1.params
    supply := fun e => absurd (sub' 3 (by decide)) (by rw [e]; decide)
    limp := hu1.limp
    flightBudgets := hu1.flightBudgets
    storeyBudgets := hu1.storeyBudgets
    dieBudgets := hu1.dieBudgets
    currentBudget := hu1.currentBudget
    thermalBudget := hu1.thermalBudget
    storeys := hu1.storeys
    dies := hu1.dies
    flightPower := hu1.flightPower
    treads := hu1.treads
    baseplate := hu1.baseplate
    dissip := hu1.dissip
    senses := hu1.senses
    cleaners := hu1.cleaners
    ports := hu1.ports
    echos := hu1.echos
    axes := hu1.axes
    doors := fun e => absurd (sub' 21 (by decide)) (by rw [e]; decide)
    obst := fun e => absurd (sub' 22 (by decide)) (by rw [e]; decide)
    hallA := fun e => absurd (sub' 23 (by decide)) (by rw [e]; decide)
    hallB := fun e => absurd (sub' 24 (by decide)) (by rw [e]; decide)
    safety := fun e => absurd (sub' 25 (by decide)) (by rw [e]; decide)
    conns := fun e => absurd (sub' 26 (by decide)) (by rw [e]; decide)
    firstStandby := fun e => absurd (sub' 27 (by decide)) (by rw [e]; decide)
    train := fun e => absurd (sub' 28 (by decide)) (by rw [e]; decide)
    prog := fun e => absurd (sub' 29 (by decide)) (by rw [e]; decide)
    can := fun e => absurd (sub' 30 (by decide)) (by rw [e]; decide)
    gallery := fun e => absurd (sub' 31 (by decide)) (by rw [e]; decide)
    host := fun e => absurd (sub' 32 (by decide)) (by rw [e]; decide)
    ring := fun e => absurd (sub' 33 (by decide)) (by rw [e]; decide)
    sec := fun e => absurd (sub' 34 (by decide)) (by rw [e]; decide)
    outs := hu1.outs
    draws := hu1.draws }

theorem State.pickBanks_reach {T : Nat} {s₀ s : State} {b : BootIn} (sub_ : Sub 17179869184 T) (reach_ : Reach T s₀ s) :
    Reach T s₀ (State.pickBanks s b) := by
  unfold State.pickBanks
  extract_lets +onlyGivenNames -merge -useContext v1
  extract_lets +onlyGivenNames -merge -useContext v2
  exact (Reach.set_sec (sub_.sub (by decide)) reach_)

theorem State.trialBanks_reach {T : Nat} {s₀ s : State} {b : BootIn} (sub_ : Sub 17179869184 T) (reach_ : Reach T s₀ s) :
    Reach T s₀ (State.trialBanks s b) := by
  unfold State.trialBanks
  extract_lets +onlyGivenNames -merge -useContext v1
  extract_lets +onlyGivenNames -merge -useContext v2
  exact (Reach.ite (fun _ => (Reach.set_sec (sub_.sub (by decide)) reach_)) (fun _ => (State.pickBanks_reach (sub_.sub (by decide)) (Reach.set_sec (sub_.sub (by decide)) reach_))))

theorem State.recordImageFaults_reach {T : Nat} {s₀ s : State} {x : Security} {b : BootIn} (sub_ : Sub 36507222016 T)
    (reach_ :
    Reach T s₀ s) :
    Reach T s₀ (State.recordImageFaults s x b) := by
  unfold State.recordImageFaults
  exact Reach.foldl _ reach_ (fun u1 _ hu1 => (by
    extract_lets +onlyGivenNames -merge -useContext v2
    exact (Reach.ite (fun _ => hu1) (fun _ => (State.record_reach (sub_.sub (by decide)) hu1)))))

theorem State.recordFallback_reach {T : Nat} {s₀ s : State} (sub_ : Sub 53687091200 T) (reach_ : Reach T s₀ s) :
    Reach T s₀ (State.recordFallback s) := by
  unfold State.recordFallback
  split
  · exact reach_
  · exact (by
      extract_lets +onlyGivenNames -merge -useContext w_ u1
      have hu1 : Reach T s₀ u1 := (Reach.set_sec (sub_.sub (by decide)) reach_)
      clear_value u1
      exact (State.record_reach (sub_.sub (by decide)) hu1))

theorem State.estimateHoldup_reach {T : Nat} {s₀ s : State} (sub_ : Sub 105226698760 T) (reach_ : Reach T s₀ s) :
    Reach T s₀ (State.estimateHoldup s) := by
  unfold State.estimateHoldup
  extract_lets +onlyGivenNames -merge -useContext v1
  extract_lets +onlyGivenNames -merge -useContext u2
  have hu2 : Reach T s₀ u2 := (State.draw_reach (sub_.sub (by decide)) reach_)
  clear_value u2
  extract_lets +onlyGivenNames -merge -useContext w_ u3
  have hu3 : Reach T s₀ u3 := (Reach.set_supply (sub_.sub (by decide)) hu2)
  clear_value u3
  exact (State.recordIf_reach (sub_.sub (by decide)) hu3)

theorem State.startGallery_reach {T : Nat} {s₀ s : State} {b : BootIn} (sub_ : Sub 2147483656 T) (reach_ : Reach T s₀ s) :
    Reach T s₀ (State.startGallery s b) := by
  unfold State.startGallery
  extract_lets +onlyGivenNames -merge -useContext v1
  have hv1 : Reach T s₀ v1 := (State.gather_reach (sub_.sub (by decide)) reach_)
  clear_value v1
  exact (Reach.set_supply_gallery (sub_.sub (by decide)) hv1 (fun k => ⟨k.1, k.2, k.3, k.4⟩))

theorem State.openStore_reach {T : Nat} {s₀ s : State} {b : BootIn} (sub_ : Sub 36507222016 T) (reach_ : Reach T s₀ s) :
    Reach T s₀ (State.openStore s b) := by
  unfold State.openStore
  exact (Reach.ite (fun _ => (by
    extract_lets +onlyGivenNames -merge -useContext v1
    have hv1 : Reach T s₀ v1 := (State.recoverStore_reach (sub_.sub (by decide)) reach_)
    clear_value v1
    exact (Reach.ite (fun _ => (State.flushWait_reach (sub_.sub (by decide)) hv1)) (fun _ => hv1)))) (fun _ => reach_))

theorem State.startMaps_reach {T : Nat} {s₀ s : State} {b : BootIn} (sub_ : Sub 36511416320 T) (reach_ : Reach T s₀ s) :
    Reach T s₀ (State.startMaps s b) := by
  unfold State.startMaps
  exact (Reach.forEach _ reach_ (fun u1 _ hu3 => (Reach.ite (fun _ => hu3) (fun _ => (State.mapInvalid_reach (sub_.sub (by decide)) hu3)))))

theorem State.distribute_reach {T : Nat} {s₀ s : State} {b : BootIn} (sub_ : Sub 17179871232 T) (reach_ : Reach T s₀ s) :
    Reach T s₀ (State.distribute s b) := by
  unfold State.distribute
  extract_lets +onlyGivenNames -merge -useContext v1
  extract_lets +onlyGivenNames -merge -useContext v2
  extract_lets +onlyGivenNames -merge -useContext v3
  have hv3 : Reach T s₀ v3 := (Reach.set_sec (sub_.sub (by decide)) reach_)
  clear_value v3
  exact (State.mapDies_reach (sub_.sub (by decide)) hv3)

theorem State.checkCal_reach {T : Nat} {s₀ s : State} {b : BootIn} (sub_ : Sub 53687093248 T) (reach_ : Reach T s₀ s) :
    Reach T s₀ (State.checkCal s b) := by
  unfold State.checkCal
  extract_lets +onlyGivenNames -merge -useContext v1
  extract_lets +onlyGivenNames -merge -useContext v2
  have hv2 : Reach T s₀ v2 := (Reach.set_sec (sub_.sub (by decide)) reach_)
  clear_value v2
  exact (Reach.ite (fun _ => (State.record_reach (sub_.sub (by decide)) (Reach.set_sec (sub_.sub (by decide)) hv2))) (fun _ => (by
    extract_lets +onlyGivenNames -merge -useContext v3
    have hv3 : Reach T s₀ v3 := (State.distribute_reach (sub_.sub (by decide)) hv2)
    clear_value v3
    extract_lets +onlyGivenNames -merge -useContext v4
    extract_lets +onlyGivenNames -merge -useContext v5
    have hv5 : Reach T s₀ v5 := (Reach.set_sec (sub_.sub (by decide)) hv3)
    clear_value v5
    extract_lets +onlyGivenNames -merge -useContext v6
    have hv6 : Reach T s₀ v6 := (State.recordIf_reach (sub_.sub (by decide)) hv5)
    clear_value v6
    exact (State.recordIf_reach (sub_.sub (by decide)) hv6))))

theorem State.findActive_reach {T : Nat} {s₀ s : State} {good : Bool} (sub_ : Sub 53687091200 T) (reach_ : Reach T s₀ s) :
    Reach T s₀ (State.findActive s good) := by
  unfold State.findActive
  split
  · exact (Reach.set_sec (sub_.sub (by decide)) reach_)
  · exact (Reach.ite (fun _ => (Reach.set_sec (sub_.sub (by decide)) reach_)) (fun _ => (by
      extract_lets +onlyGivenNames -merge -useContext w_ u1
      have hu1 : Reach T s₀ u1 := (Reach.set_sec (sub_.sub (by decide)) reach_)
      clear_value u1
      exact (State.record_reach (sub_.sub (by decide)) hu1))))

theorem State.loadActive_reach {T : Nat} {s₀ s : State} {img : Option Image} {up : Bool} (sub_ : Sub 53453600788 T)
    (reach_ : Reach T s₀ s) :
    Reach T s₀ (State.loadActive s img up) := by
  unfold State.loadActive
  extract_lets +onlyGivenNames -merge -useContext v1
  have hv1 : Reach T s₀ v1 := (State.loadValues_reach (sub_.sub (by decide)) reach_)
  clear_value v1
  extract_lets +onlyGivenNames -merge -useContext v2
  have hv2 : Reach T s₀ v2 := (Reach.ite (fun _ => (State.restartLines_reach (sub_.sub (by decide)) (Reach.forEach _ hv1 (fun u3 _ hu5 => (State.raiseDie_reach (sub_.sub (by decide)) hu5))))) (fun _ => hv1))
  clear_value v2
  exact (State.loadProgram_reach (sub_.sub (by decide)) (State.loadTrain_reach (sub_.sub (by decide)) (State.loadCan_reach (sub_.sub (by decide)) (State.loadFeeds_reach (sub_.sub (by decide)) (State.loadLimp_reach (sub_.sub (by decide)) hv2)))))

theorem State.startBoth_reach {T : Nat} {s₀ s : State} {b : BootIn} (sub_ : Sub 55605278740 T) (reach_ : Reach T s₀ s) :
    Reach T s₀ (State.startBoth s b) := by
  unfold State.startBoth
  extract_lets +onlyGivenNames -merge -useContext v1
  have hv1 : Reach T s₀ v1 := (State.checkCal_reach (sub_.sub (by decide)) reach_)
  clear_value v1
  exact (Reach.ite (fun _ => (State.loadActive_reach (sub_.sub (by decide)) hv1)) (fun _ => (by
    extract_lets +onlyGivenNames -merge -useContext v2
    have hv2 : Reach T s₀ v2 := (State.findActive_reach (sub_.sub (by decide)) hv1)
    clear_value v2
    extract_lets +onlyGivenNames -merge -useContext v3
    have hv3 : Reach T s₀ v3 := (State.startMaps_reach (sub_.sub (by decide)) (State.loadActive_reach (sub_.sub (by decide)) hv2))
    clear_value v3
    exact (Reach.set_sec (sub_.sub (by decide)) hv3))))

theorem State.release_reach {T : Nat} {s₀ s : State} {h : HallId} (sub_ : Sub 25165824 T) (reach_ : Reach T s₀ s) :
    Reach T s₀ (State.release s h) := by
  unfold State.release
  exact State.modHall_reach (sub_.sub (by decide)) reach_

theorem State.startModule_reach {T : Nat} {s₀ s : State} {x : Security} {b : BootIn} (sub_ : Sub 137438773246 T)
    (reach_ : Reach T s₀ s) :
    Reach T s₀ (State.startModule s x b) := by
  unfold State.startModule
  extract_lets +onlyGivenNames -merge -useContext v1
  have hv1 : Reach T s₀ v1 := (State.release_reach (sub_.sub (by decide)) reach_)
  clear_value v1
  extract_lets +onlyGivenNames -merge -useContext v2
  have hv2 : Reach T s₀ v2 := (State.startGallery_reach (sub_.sub (by decide)) hv1)
  clear_value v2
  extract_lets +onlyGivenNames -merge -useContext v3
  have hv3 : Reach T s₀ v3 := (Reach.ite (fun _ => (Reach.forEach _ (State.release_reach (sub_.sub (by decide)) (State.powerUp_reach (sub_.sub (by decide)) hv2)) (fun u4 _ hu6 => (State.clearDie_reach (sub_.sub (by decide)) hu6)))) (fun _ => hv2))
  clear_value v3
  extract_lets +onlyGivenNames -merge -useContext v7
  have hv7 : Reach T s₀ v7 := (State.loadValues_reach (sub_.sub (by decide)) (State.openStore_reach (sub_.sub (by decide)) hv3))
  clear_value v7
  extract_lets +onlyGivenNames -merge -useContext v8
  have hv8 : Reach T s₀ v8 := (State.recordFallback_reach (sub_.sub (by decide)) (State.recordImageFaults_reach (sub_.sub (by decide)) (State.estimateHoldup_reach (sub_.sub (by decide)) hv7)))
  clear_value v8
  extract_lets +onlyGivenNames -merge -useContext v9
  have hv9 : Reach T s₀ v9 := (Reach.ite (fun _ => (State.startBoth_reach (sub_.sub (by decide)) (State.release_reach (sub_.sub (by decide)) hv8))) (fun _ => (State.loadActive_reach (sub_.sub (by decide)) hv8)))
  clear_value v9
  extract_lets +onlyGivenNames -merge -useContext v10
  have hv10 : Reach T s₀ v10 := (State.recordBothUp_reach (sub_.sub (by decide)) (State.readSeal_reach (sub_.sub (by decide)) (State.refreshConns_reach (sub_.sub (by decide)) hv9)))
  clear_value v10
  exact (Reach.ite (fun _ => (State.failTrial_reach (sub_.sub (by decide)) hv10)) (fun _ => hv10))

theorem execBoot_reach {T : Nat} {s₀ : State} {b : BootIn} {s : State} (sub_ : Sub 137438773246 T) (reach_ : Reach T s₀ s) :
    Within T s₀ (execBoot b s) := by
  unfold execBoot
  exact (Within.ite (fun _ => (Within.next reach_)) (fun _ => (by
    extract_lets +onlyGivenNames -merge -useContext v1
    extract_lets +onlyGivenNames -merge -useContext v2
    extract_lets +onlyGivenNames -merge -useContext v3
    have hv3 : Reach T s₀ v3 := (Reach.set_supply_sec (sub_.sub (by decide)) reach_)
    clear_value v3
    extract_lets +onlyGivenNames -merge -useContext v4
    exact (Within.ite (fun _ => (Within.next (State.modHall_reach (sub_.sub (by decide)) hv3))) (fun _ => (Within.next (State.startModule_reach (sub_.sub (by decide)) (Reach.ite (fun _ => (State.trialBanks_reach (sub_.sub (by decide)) hv3)) (fun _ => (State.pickBanks_reach (sub_.sub (by decide)) hv3))))))))))

theorem State.bootIntoHold_reach {T : Nat} {s₀ s : State} {causes : BitVec 16} (sub_ : Sub 59659005952 T)
    (reach_ : Reach T s₀
    s) :
    Reach T s₀ (State.bootIntoHold s causes) := by
  unfold State.bootIntoHold
  extract_lets +onlyGivenNames -merge -useContext u1
  have hu1 : Reach T s₀ u1 := (State.modHall_reach (sub_.sub (by decide)) reach_)
  clear_value u1
  extract_lets +onlyGivenNames -merge -useContext u2
  have hu2 : Reach T s₀ u2 := (State.modHall_reach (sub_.sub (by decide)) hu1)
  clear_value u2
  extract_lets +onlyGivenNames -merge -useContext u3
  have hu3 : Reach T s₀ u3 := (State.hallAMode_reach (sub_.sub (by decide)) (State.holdEntryB_reach (sub_.sub (by decide)) hu2))
  clear_value u3
  extract_lets +onlyGivenNames -merge -useContext u4
  have hu4 : Reach T s₀ u4 := (State.record_reach (sub_.sub (by decide)) hu3)
  clear_value u4
  exact (State.applyAuth_reach (sub_.sub (by decide)) (State.suspectEnables_reach (sub_.sub (by decide)) (State.inhibitOn_reach (sub_.sub (by decide)) hu4)))

theorem State.endStartUp_reach {T : Nat} {s₀ s : State} {fails : List Nat} (sub_ : Sub 59860333536 T)
    (reach_ : Reach T s₀ s) :
    Reach T s₀ (State.endStartUp s fails) := by
  unfold State.endStartUp
  extract_lets +onlyGivenNames -merge -useContext v1
  extract_lets +onlyGivenNames -merge -useContext v2
  extract_lets +onlyGivenNames -merge -useContext u3
  have hu3 : Reach T s₀ u3 := (Reach.ite (fun _ => (State.bootIntoHold_reach (sub_.sub (by decide)) reach_)) (fun _ => (State.takeMode_reach (sub_.sub (by decide)) (State.takeMode_reach (sub_.sub (by decide)) reach_))))
  clear_value u3
  extract_lets +onlyGivenNames -merge -useContext w_ u4
  have hu4 : Reach T s₀ u4 := (Reach.set_sec (sub_.sub (by decide)) hu3)
  clear_value u4
  extract_lets +onlyGivenNames -merge -useContext u5
  have hu5 : Reach T s₀ u5 := (State.startProgram_reach (sub_.sub (by decide)) hu4)
  clear_value u5
  extract_lets +onlyGivenNames -merge -useContext u6
  have hu6 : Reach T s₀ u6 := (Reach.ite (fun _ => (State.passTrial_reach (sub_.sub (by decide)) hu5)) (fun _ => hu5))
  clear_value u6
  exact (State.record_reach (sub_.sub (by decide)) hu6)

theorem execBootComplete_reach {T : Nat} {s₀ : State} {fails : List Nat} {s : State} (sub_ : Sub 68718703586 T)
    (reach_ : Reach T s₀ s) :
    Within T s₀ (execBootComplete fails s) := by
  unfold execBootComplete
  exact (Within.ite (fun _ => (Within.next reach_)) (fun _ => (Within.ite (fun _ => (Within.next (State.failTrial_reach (sub_.sub (by decide)) reach_))) (fun _ => (by
    extract_lets +onlyGivenNames -merge -useContext v1
    extract_lets +onlyGivenNames -merge -useContext v2
    have hv2 : Reach T s₀ v2 := (State.recordIf_reach (sub_.sub (by decide)) reach_)
    clear_value v2
    exact (Within.next (State.endStartUp_reach (sub_.sub (by decide)) hv2)))))))

theorem execFwTrialTimeout_reach {T : Nat} {s₀ s : State} (sub_ : Sub 68584484866 T) (reach_ : Reach T s₀ s) :
    Within T s₀ (execFwTrialTimeout s) := by
  unfold execFwTrialTimeout
  split
  · exact (Within.next reach_)
  · exact (Within.next (Reach.ite (fun _ => (State.failTrial_reach (sub_.sub (by decide)) reach_)) (fun _ => reach_)))

theorem execRestartBegin_reach {T : Nat} {s₀ s : State} (sub_ : Sub 68584484866 T) (reach_ : Reach T s₀ s) :
    Within T s₀ (execRestartBegin s) := by
  unfold execRestartBegin
  split
  · exact (Within.next reach_)
  · exact (Within.ite (fun _ => (Within.next reach_)) (fun _ => (Within.ite (fun _ => (Within.next (State.resetHall_reach (sub_.sub (by decide)) reach_))) (fun _ => (by
      extract_lets +onlyGivenNames -merge -useContext v1
      extract_lets +onlyGivenNames -merge -useContext v2
      have hv2 : Reach T s₀ v2 := (State.resetModule_reach (sub_.sub (by decide)) reach_)
      clear_value v2
      exact (Within.next (Reach.set_sec (sub_.sub (by decide)) hv2)))))))

end Sys2Proof.Machine
end

