-- ==== Sys2Proof/Laws/Frame/Can.lean ====
section
/-! SUPPORT. What the operations of Machine/Can.lean may change: one lemma for each, whose mask names the fields. -/

set_option Elab.async false

namespace Sys2Proof.Machine

theorem State.rpdoTake_reach {T : Nat} {s₀ s : State} {p id : Nat} {data : Bytes} {n : Nat} (sub_ : Sub 37580963840 T)
    (reach_
    : Reach T s₀ s) :
    Reach T s₀ (State.rpdoTake s p id data n) := by
  unfold State.rpdoTake
  exact Reach.ite (fun _ => (Reach.set_can (sub_.sub (by decide)) reach_)) (fun _ => (State.recordLimited_reach (sub_.sub (by decide)) (State.modCan_reach (sub_.sub (by decide)) reach_)))

theorem execRpdoReceive_reach {T : Nat} {s₀ s : State} {p id : Nat} {data : Bytes} (sub_ : Sub 37580963840 T)
    (reach_ : Reach T
    s₀ s) :
    Within T s₀ (execRpdoReceive p id data s) := by
  unfold execRpdoReceive
  exact Within.onUnit (Reach.ite (fun _ => (Reach.foldl _ reach_ (fun u1 _ hu1 => (State.rpdoTake_reach (sub_.sub (by decide)) hu1)))) (fun _ => reach_))

theorem State.heartbeatTake_reach {T : Nat} {s₀ s : State} {p node : Nat} {nmt : Byte} {k : Nat} (sub_ : Sub 37580963840 T)
    (reach_ : Reach T s₀ s) :
    Reach T s₀ (State.heartbeatTake s p node nmt k) := by
  unfold State.heartbeatTake
  extract_lets +onlyGivenNames -merge -useContext v1
  extract_lets +onlyGivenNames -merge -useContext w_ u2
  have hu2 : Reach T s₀ u2 := (Reach.set_can (sub_.sub (by decide)) reach_)
  clear_value u2
  extract_lets +onlyGivenNames -merge -useContext u3
  have hu3 : Reach T s₀ u3 := (State.recordIf_reach (sub_.sub (by decide)) hu2)
  clear_value u3
  exact (Reach.ite (fun _ => (State.nmt_reach (sub_.sub (by decide)) hu3)) (fun _ => hu3))

theorem execCanHeartbeat_reach {T : Nat} {s₀ s : State} {p node : Nat} {nmt : Byte} (sub_ : Sub 37580963840 T)
    (reach_ : Reach
    T s₀ s) :
    Within T s₀ (execCanHeartbeat p node nmt s) := by
  unfold execCanHeartbeat
  exact Within.onUnit (Reach.ite (fun _ => (Reach.foldl _ reach_ (fun u1 _ hu1 => (State.heartbeatTake_reach (sub_.sub (by decide)) hu1)))) (fun _ => reach_))

theorem execCanNodeLost_reach {T : Nat} {s₀ s : State} {n : Nat} (sub_ : Sub 37580963840 T) (reach_ : Reach T s₀ s) :
    Within T s₀ (execCanNodeLost n s) := by
  unfold execCanNodeLost
  exact Within.onUnit (by
    split
    · exact reach_
    · exact (by
        extract_lets +onlyGivenNames -merge -useContext v1
        exact (Reach.ite (fun _ => (by
        extract_lets +onlyGivenNames -merge -useContext w_ u2
        have hu2 : Reach T s₀ u2 := (Reach.set_can (sub_.sub (by decide)) reach_)
        clear_value u2
        exact (State.record_reach (sub_.sub (by decide)) hu2))) (fun _ => reach_))))

theorem execCanEmcy_reach {T : Nat} {s₀ s : State} {p node : Nat} {data : Bytes} (sub_ : Sub 37580963840 T) (reach_ : Reach T
    s₀ s) :
    Within T s₀ (execCanEmcy p node data s) := by
  unfold execCanEmcy
  exact Within.onUnit (Reach.ite (fun _ => (State.record_reach (sub_.sub (by decide)) (State.modCan_reach (sub_.sub (by decide)) reach_))) (fun _ => reach_))

theorem execCanErrorPassive_reach {T : Nat} {s₀ s : State} {p txErr rxErr : Nat} (sub_ : Sub 37580963840 T) (reach_ : Reach T
    s₀ s) :
    Within T s₀ (execCanErrorPassive p txErr rxErr s) := by
  unfold execCanErrorPassive
  exact Within.onUnit (Reach.ite (fun _ => (by
    extract_lets +onlyGivenNames -merge -useContext v1
    extract_lets +onlyGivenNames -merge -useContext v2
    extract_lets +onlyGivenNames -merge -useContext u3
    have hu3 : Reach T s₀ u3 := (State.modCan_reach (sub_.sub (by decide)) reach_)
    clear_value u3
    exact (State.recordIf_reach (sub_.sub (by decide)) hu3))) (fun _ => reach_))

theorem execCanBusOff_reach {T : Nat} {s₀ s : State} {p : Nat} (sub_ : Sub 37580963840 T) (reach_ : Reach T s₀ s) :
    Within T s₀ (execCanBusOff p s) := by
  unfold execCanBusOff
  exact Within.onUnit (Reach.ite (fun _ => (State.record_reach (sub_.sub (by decide)) (State.modCan_reach (sub_.sub (by decide)) reach_))) (fun _ => reach_))

theorem execCanBusRecovered_reach {T : Nat} {s₀ s : State} {p : Nat} (sub_ : Sub 37580963840 T) (reach_ : Reach T s₀ s) :
    Within T s₀ (execCanBusRecovered p s) := by
  unfold execCanBusRecovered
  exact Within.onUnit (Reach.ite (fun _ => (State.record_reach (sub_.sub (by decide)) (State.modCan_reach (sub_.sub (by decide)) reach_))) (fun _ => reach_))

end Sys2Proof.Machine
end

