-- ==== Sys2Proof/Laws/Frame/CurrentLoop.lean ====
section
/-! SUPPORT. What the operations of Machine/CurrentLoop.lean may change: one lemma for each, whose mask names the fields. -/

set_option Elab.async false

namespace Sys2Proof.Machine

theorem State.setDuties_reach {T : Nat} {s₀ s : State} {ts : List Nat} {ds : List Rat} (sub_ : Sub 8192 T)
    (reach_ : Reach T s₀ s) :
    Reach T s₀ (State.setDuties s ts ds) := by
  unfold State.setDuties
  exact (Reach.foldl _ reach_ (fun u1 _ hu3 => (Reach.ite (fun _ => (State.modTread_reach (sub_.sub (by decide)) hu3)) (fun _ => hu3))))

theorem State.chopSample_reach {T : Nat} {s₀ s : State} {a : Nat} {ra rb : List Rat} (sub_ : Sub 1056768 T)
    (reach_ : Reach T s₀ s) :
    Reach T s₀ (State.chopSample s a ra rb) := by
  unfold State.chopSample
  extract_lets +onlyGivenNames -merge -useContext v1
  extract_lets +onlyGivenNames -merge -useContext v2
  exact (Reach.ite (fun _ => reach_) (fun _ => (by
    extract_lets +onlyGivenNames -merge -useContext v3
    extract_lets +onlyGivenNames -merge -useContext v4
    split
    · extract_lets +onlyGivenNames -merge -useContext v5
      extract_lets +onlyGivenNames -merge -useContext v6
      exact (State.setDuties_reach (sub_.sub (by decide)) (State.modAxis_reach (sub_.sub (by decide)) reach_)))))

theorem State.currentLoop_reach {T : Nat} {s₀ s : State} {i : SampleIn} {a : Nat} (sub_ : Sub 1056768 T)
    (reach_ : Reach T s₀ s) :
    Reach T s₀ (State.currentLoop s i a) := by
  unfold State.currentLoop
  extract_lets +onlyGivenNames -merge -useContext v1
  split
  · extract_lets +onlyGivenNames -merge -useContext v2
    exact (State.setDuties_reach (sub_.sub (by decide)) (State.modAxis_reach (sub_.sub (by decide)) reach_))
  · extract_lets +onlyGivenNames -merge -useContext v3
    exact (State.setDuties_reach (sub_.sub (by decide)) (State.modAxis_reach (sub_.sub (by decide)) reach_))
  · extract_lets +onlyGivenNames -merge -useContext v4
    exact (State.chopSample_reach (sub_.sub (by decide)) reach_)
  · exact reach_

end Sys2Proof.Machine
end

