-- ==== Sys2Proof/Laws/Frame/Doorway.lean ====
section
/-! SUPPORT. What the operations of Machine/Doorway.lean may change: one lemma for each, whose mask names the fields. -/

set_option Elab.async false

namespace Sys2Proof.Machine

theorem seqEvent_reach {T : Nat} {s₀ s : State} {f : Nat} {act : State → State} (sub_ : Sub 0 T) (reach_ : Reach T s₀ s)
    (act_
    : ∀ u, Reach T s₀ u → Reach T s₀ (act u)) :
    Within T s₀ (seqEvent f s act) := by
  unfold seqEvent
  exact Within.onUnit (Reach.ite (fun _ => reach_) (fun _ => (act_ _ reach_)))

theorem execDoorOpen_reach {T : Nat} {s₀ s : State} {f : Nat} (sub_ : Sub 40809533440 T) (reach_ : Reach T s₀ s) :
    Within T s₀ (execDoorOpen f s) := by
  unfold execDoorOpen
  exact seqEvent_reach (sub_.sub (by decide)) reach_ (fun u1 hu1 => (State.judgeTaken_reach (sub_.sub (by decide)) hu1))

theorem execDoorClose_reach {T : Nat} {s₀ s : State} {f : Nat} (sub_ : Sub 40809533440 T) (reach_ : Reach T s₀ s) :
    Within T s₀ (execDoorClose f s) := by
  unfold execDoorClose
  exact seqEvent_reach (sub_.sub (by decide)) reach_ (fun u1 hu1 => (State.judgeTaken_reach (sub_.sub (by decide)) hu1))

theorem execDoorStop_reach {T : Nat} {s₀ s : State} {f : Nat} (sub_ : Sub 40809533440 T) (reach_ : Reach T s₀ s) :
    Within T s₀ (execDoorStop f s) := by
  unfold execDoorStop
  exact seqEvent_reach (sub_.sub (by decide)) reach_ (fun u1 hu1 => (State.judgeTaken_reach (sub_.sub (by decide)) hu1))

theorem execIsolate_reach {T : Nat} {s₀ s : State} {f : Nat} (sub_ : Sub 40809533440 T) (reach_ : Reach T s₀ s) :
    Within T s₀ (execIsolate f s) := by
  unfold execIsolate
  exact seqEvent_reach (sub_.sub (by decide)) reach_ (fun u1 hu1 => (State.judgeTaken_reach (sub_.sub (by decide)) hu1))

theorem execDeisolate_reach {T : Nat} {s₀ s : State} {f : Nat} (sub_ : Sub 40809533440 T) (reach_ : Reach T s₀ s) :
    Within T s₀ (execDeisolate f s) := by
  unfold execDeisolate
  exact seqEvent_reach (sub_.sub (by decide)) reach_ (fun u1 hu1 => (State.judgeTaken_reach (sub_.sub (by decide)) hu1))

theorem execDoorReference_reach {T : Nat} {s₀ s : State} {f : Nat} (sub_ : Sub 40809533440 T) (reach_ : Reach T s₀ s) :
    Within T s₀ (execDoorReference f s) := by
  unfold execDoorReference
  exact seqEvent_reach (sub_.sub (by decide)) reach_ (fun u1 hu1 => (State.judgeTaken_reach (sub_.sub (by decide)) hu1))

theorem execResetFault_reach {T : Nat} {s₀ s : State} {f : Nat} (sub_ : Sub 40809533440 T) (reach_ : Reach T s₀ s) :
    Within T s₀ (execResetFault f s) := by
  unfold execResetFault
  exact seqEvent_reach (sub_.sub (by decide)) reach_ (fun u1 hu1 => (State.judgeTaken_reach (sub_.sub (by decide)) hu1))

theorem execEgress_reach {T : Nat} {s₀ s : State} {f : Nat} (sub_ : Sub 40809533440 T) (reach_ : Reach T s₀ s) :
    Within T s₀ (execEgress f s) := by
  unfold execEgress
  exact seqEvent_reach (sub_.sub (by decide)) reach_ (fun u1 hu1 => (State.judgeTaken_reach (sub_.sub (by decide)) hu1))

theorem State.timeoutRow_reach {T : Nat} {s₀ s : State} {f : Nat} {tags : List RowTag} (sub_ : Sub 36514566144 T)
    (reach_ : Reach
    T s₀ s) :
    Reach T s₀ (State.timeoutRow s f tags) := by
  unfold State.timeoutRow
  exact Reach.ite (fun _ => reach_) (fun _ => (by
    split
    · exact (Reach.ite (fun _ => (State.markFaults_reach (sub_.sub (by decide)) (State.doorRow_reach (sub_.sub (by decide)) ‹_› reach_))) (fun _ => reach_))
    · exact reach_))

theorem execWarnTimeout_reach {T : Nat} {s₀ s : State} {f : Nat} (sub_ : Sub 36514566144 T) (reach_ : Reach T s₀ s) :
    Within T s₀ (execWarnTimeout f s) := by
  unfold execWarnTimeout
  exact seqEvent_reach (sub_.sub (by decide)) reach_ (fun u1 hu1 => (State.timeoutRow_reach (sub_.sub (by decide)) hu1))

theorem State.lockTimeout_reach {T : Nat} {s₀ s : State} {f : Nat} {st : LockState} {tag : RowTag}
    (sub_ : Sub 36514566144 T) (reach_ : Reach T s₀ s) :
    Reach T s₀ (State.lockTimeout s f st tag) := by
  unfold State.lockTimeout
  exact (Reach.ite (fun _ => (State.timeoutRow_reach (sub_.sub (by decide)) (State.lockFails_reach (sub_.sub (by decide)) reach_))) (fun _ => (State.timeoutRow_reach (sub_.sub (by decide)) reach_)))

theorem execLockNoRelease_reach {T : Nat} {s₀ : State} {f : Nat} {s : State} (sub_ : Sub 36514566144 T)
    (reach_ : Reach T s₀ s) :
    Within T s₀ (execLockNoRelease f s) := by
  unfold execLockNoRelease
  exact (seqEvent_reach (sub_.sub (by decide)) reach_ (fun u1 hu2 => (State.lockTimeout_reach (sub_.sub (by decide)) hu2)))

theorem execLockNotEngaged_reach {T : Nat} {s₀ : State} {f : Nat} {s : State} (sub_ : Sub 36514566144 T)
    (reach_ : Reach T s₀ s) :
    Within T s₀ (execLockNotEngaged f s) := by
  unfold execLockNotEngaged
  exact (seqEvent_reach (sub_.sub (by decide)) reach_ (fun u1 hu2 => (State.lockTimeout_reach (sub_.sub (by decide)) hu2)))

theorem execClosedNotConfirmed_reach {T : Nat} {s₀ s : State} {f : Nat} (sub_ : Sub 36514566144 T) (reach_ : Reach T s₀ s) :
    Within T s₀ (execClosedNotConfirmed f s) := by
  unfold execClosedNotConfirmed
  exact seqEvent_reach (sub_.sub (by decide)) reach_ (fun u1 hu1 => (State.timeoutRow_reach (sub_.sub (by decide)) hu1))

theorem execStepConfirmTimeout_reach {T : Nat} {s₀ s : State} {f : Nat} (sub_ : Sub 2097152 T) (reach_ : Reach T s₀ s) :
    Within T s₀ (execStepConfirmTimeout f s) := by
  unfold execStepConfirmTimeout
  exact seqEvent_reach (sub_.sub (by decide)) reach_ (fun u1 hu1 => (Reach.ite (fun _ => (State.stepFault_reach (sub_.sub (by decide)) hu1)) (fun _ => hu1)))

theorem State.takeStep_reach {T : Nat} {s₀ s : State} {f cmd : Nat} (sub_ : Sub 36514566144 T) (reach_ : Reach T s₀ s) :
    Reach T s₀ (State.takeStep s f cmd) := by
  unfold State.takeStep
  exact Reach.ite (fun _ => reach_) (fun _ => (by
    extract_lets +onlyGivenNames -merge -useContext u1
    have hu1 : Reach T s₀ u1 := (State.setDoor_reach (sub_.sub (by decide)) reach_)
    clear_value u1
    split
    · exact (State.stepExtend_reach (sub_.sub (by decide)) hu1)
    · exact (State.stepRetract_reach (sub_.sub (by decide)) hu1)
    · exact (State.stepStop_reach (sub_.sub (by decide)) hu1)
    · exact (Reach.ite (fun _ => hu1) (fun _ => (State.startRun_reach (sub_.sub (by decide)) hu1)))
    · exact (State.stepReset_reach (sub_.sub (by decide)) hu1)
    · exact hu1))

theorem State.takeLock_reach {T : Nat} {s₀ s : State} {f cmd : Nat} (sub_ : Sub 3145728 T) (reach_ : Reach T s₀ s) :
    Reach T s₀ (State.takeLock s f cmd) := by
  unfold State.takeLock
  exact Reach.ite (fun _ => reach_) (fun _ => (by
    extract_lets +onlyGivenNames -merge -useContext u1
    have hu1 : Reach T s₀ u1 := (State.setDoor_reach (sub_.sub (by decide)) reach_)
    clear_value u1
    split
    · exact (State.lockRelease_reach (sub_.sub (by decide)) hu1)
    · exact (State.lockEngage_reach (sub_.sub (by decide)) hu1)
    · exact (State.lockReset_reach (sub_.sub (by decide)) hu1)
    · exact hu1))

theorem State.takeRef_reach {T : Nat} {s₀ s : State} {f : Nat} (sub_ : Sub 2097152 T) (reach_ : Reach T s₀ s) :
    Reach T s₀ (State.takeRef s f) := by
  unfold State.takeRef
  exact Reach.ite (fun _ => reach_) (fun _ => (by
    extract_lets +onlyGivenNames -merge -useContext u1
    have hu1 : Reach T s₀ u1 := (State.setDoor_reach (sub_.sub (by decide)) reach_)
    clear_value u1
    exact (Reach.ite (fun _ => hu1) (fun _ => (State.startRun_reach (sub_.sub (by decide)) hu1)))))

theorem execExtend_reach {T : Nat} {s₀ s : State} {f : Nat} (sub_ : Sub 36514566144 T) (reach_ : Reach T s₀ s) :
    Within T s₀ (execExtend f s) := by
  unfold execExtend
  exact seqEvent_reach (sub_.sub (by decide)) reach_ (fun u1 hu1 => (State.takeStep_reach (sub_.sub (by decide)) hu1))

theorem execRetract_reach {T : Nat} {s₀ s : State} {f : Nat} (sub_ : Sub 36514566144 T) (reach_ : Reach T s₀ s) :
    Within T s₀ (execRetract f s) := by
  unfold execRetract
  exact seqEvent_reach (sub_.sub (by decide)) reach_ (fun u1 hu1 => (State.takeStep_reach (sub_.sub (by decide)) hu1))

theorem execStepStop_reach {T : Nat} {s₀ s : State} {f : Nat} (sub_ : Sub 36514566144 T) (reach_ : Reach T s₀ s) :
    Within T s₀ (execStepStop f s) := by
  unfold execStepStop
  exact seqEvent_reach (sub_.sub (by decide)) reach_ (fun u1 hu1 => (State.takeStep_reach (sub_.sub (by decide)) hu1))

theorem execStepReference_reach {T : Nat} {s₀ s : State} {f : Nat} (sub_ : Sub 36514566144 T) (reach_ : Reach T s₀ s) :
    Within T s₀ (execStepReference f s) := by
  unfold execStepReference
  exact seqEvent_reach (sub_.sub (by decide)) reach_ (fun u1 hu1 => (State.takeStep_reach (sub_.sub (by decide)) hu1))

theorem execStepReset_reach {T : Nat} {s₀ s : State} {f : Nat} (sub_ : Sub 36514566144 T) (reach_ : Reach T s₀ s) :
    Within T s₀ (execStepReset f s) := by
  unfold execStepReset
  exact seqEvent_reach (sub_.sub (by decide)) reach_ (fun u1 hu1 => (State.takeStep_reach (sub_.sub (by decide)) hu1))

theorem execLockRelease_reach {T : Nat} {s₀ s : State} {f : Nat} (sub_ : Sub 3145728 T) (reach_ : Reach T s₀ s) :
    Within T s₀ (execLockRelease f s) := by
  unfold execLockRelease
  exact seqEvent_reach (sub_.sub (by decide)) reach_ (fun u1 hu1 => (State.takeLock_reach (sub_.sub (by decide)) hu1))

theorem execEngage_reach {T : Nat} {s₀ s : State} {f : Nat} (sub_ : Sub 3145728 T) (reach_ : Reach T s₀ s) :
    Within T s₀ (execEngage f s) := by
  unfold execEngage
  exact seqEvent_reach (sub_.sub (by decide)) reach_ (fun u1 hu1 => (State.takeLock_reach (sub_.sub (by decide)) hu1))

theorem execLockReset_reach {T : Nat} {s₀ s : State} {f : Nat} (sub_ : Sub 3145728 T) (reach_ : Reach T s₀ s) :
    Within T s₀ (execLockReset f s) := by
  unfold execLockReset
  exact seqEvent_reach (sub_.sub (by decide)) reach_ (fun u1 hu1 => (State.takeLock_reach (sub_.sub (by decide)) hu1))

theorem execReferenceStart_reach {T : Nat} {s₀ s : State} {f : Nat} (sub_ : Sub 2097152 T) (reach_ : Reach T s₀ s) :
    Within T s₀ (execReferenceStart f s) := by
  unfold execReferenceStart
  exact seqEvent_reach (sub_.sub (by decide)) reach_ (fun u1 hu1 => (State.takeRef_reach (sub_.sub (by decide)) hu1))

theorem execHardstopFound_reach {T : Nat} {s₀ s : State} {f : Nat} (sub_ : Sub 45104771072 T) (reach_ : Reach T s₀ s) :
    Within T s₀ (execHardstopFound f s) := by
  unfold execHardstopFound
  exact seqEvent_reach (sub_.sub (by decide)) reach_ (fun u1 hu1 => (Reach.ite (fun _ => (State.foundStop_reach (sub_.sub (by decide)) hu1)) (fun _ => hu1)))

theorem execHardstopReleaseEnd_reach {T : Nat} {s₀ s : State} {f : Nat} (sub_ : Sub 36514566144 T) (reach_ : Reach T s₀ s) :
    Within T s₀ (execHardstopReleaseEnd f s) := by
  unfold execHardstopReleaseEnd
  exact seqEvent_reach (sub_.sub (by decide)) reach_ (fun u1 hu1 => (by
    extract_lets +onlyGivenNames -merge -useContext v2
    exact (Reach.ite (fun _ => (State.stopReleased_reach (sub_.sub (by decide)) hu1)) (fun _ => hu1))))

theorem State.enterReaction_reach {T : Nat} {s₀ s : State} {f : Nat} (sub_ : Sub 36514566144 T) (reach_ : Reach T s₀ s) :
    Reach T s₀ (State.enterReaction s f) := by
  unfold State.enterReaction
  extract_lets +onlyGivenNames -merge -useContext v1
  extract_lets +onlyGivenNames -merge -useContext u2
  have hu2 : Reach T s₀ u2 := (Reach.ite (fun _ => (State.stepStop_reach (sub_.sub (by decide)) reach_)) (fun _ => reach_))
  clear_value u2
  exact (Reach.ite (fun _ => (State.setDoor_reach (sub_.sub (by decide)) hu2)) (fun _ => (by
  extract_lets +onlyGivenNames -merge -useContext v3
  extract_lets +onlyGivenNames -merge -useContext u4
  have hu4 : Reach T s₀ u4 := (State.enterDoor_reach (sub_.sub (by decide)) hu2)
  clear_value u4
  exact (State.setDoor_reach (sub_.sub (by decide)) hu4))))

theorem execObstacleDetected_reach {T : Nat} {s₀ : State} {f : Nat} {s : State} (sub_ : Sub 36514566144 T)
    (reach_ : Reach T s₀ s) :
    Within T s₀ (execObstacleDetected f s) := by
  unfold execObstacleDetected
  exact (seqEvent_reach (sub_.sub (by decide)) reach_ (fun u1 hu2 => (by
    split
    · exact hu2
    · extract_lets +onlyGivenNames -merge -useContext v3
      extract_lets +onlyGivenNames -merge -useContext v4
      extract_lets +onlyGivenNames -merge -useContext v5
      have hv5 : Reach T s₀ v5 := (Reach.ite (fun _ => (State.enterReaction_reach (sub_.sub (by decide)) hu2)) (fun _ => hu2))
      clear_value v5
      extract_lets +onlyGivenNames -merge -useContext v6
      have hv6 : Reach T s₀ v6 := (State.modObs_reach (sub_.sub (by decide)) hv5)
      clear_value v6
      extract_lets +onlyGivenNames -merge -useContext v7
      have hv7 : Reach T s₀ v7 := (State.modCyc_reach (sub_.sub (by decide)) hv6)
      clear_value v7
      exact (State.record_reach (sub_.sub (by decide)) hv7))))

theorem execReversalStart_reach {T : Nat} {s₀ s : State} {f : Nat} (sub_ : Sub 7340032 T) (reach_ : Reach T s₀ s) :
    Within T s₀ (execReversalStart f s) := by
  unfold execReversalStart
  exact seqEvent_reach (sub_.sub (by decide)) reach_ (fun u1 hu1 => (by
    extract_lets +onlyGivenNames -merge -useContext v2
    exact (Reach.ite (fun _ => (by
    split
    · exact (State.startReversal_reach (sub_.sub (by decide)) hu1)
    · exact hu1)) (fun _ => hu1))))

theorem execRecloseAttempt_reach {T : Nat} {s₀ s : State} {f : Nat} (sub_ : Sub 36514566144 T) (reach_ : Reach T s₀ s) :
    Within T s₀ (execRecloseAttempt f s) := by
  unfold execRecloseAttempt
  exact seqEvent_reach (sub_.sub (by decide)) reach_ (fun u1 hu1 => (by
    extract_lets +onlyGivenNames -merge -useContext v2
    split
    · exact (Reach.ite (fun _ => (State.closeDoor_reach (sub_.sub (by decide)) (State.setDoor_reach (sub_.sub (by decide)) hu1))) (fun _ => hu1))
    · exact hu1))

theorem execStartMarginEnd_reach {T : Nat} {s₀ s : State} {f : Nat} (sub_ : Sub 4194304 T) (reach_ : Reach T s₀ s) :
    Within T s₀ (execStartMarginEnd f s) := by
  unfold execStartMarginEnd
  exact seqEvent_reach (sub_.sub (by decide)) reach_ (fun u1 hu1 => (by
    split
    · exact hu1
    · exact (Reach.ite (fun _ => (State.modObs_reach (sub_.sub (by decide)) hu1)) (fun _ => hu1))))

theorem execLearnUpdate_reach {T : Nat} {s₀ s : State} {f : Nat} (sub_ : Sub 36511416320 T) (reach_ : Reach T s₀ s) :
    Within T s₀ (execLearnUpdate f s) := by
  unfold execLearnUpdate
  exact Within.onUnit (by
    split
    · exact reach_
    · exact (Reach.ite (fun _ => reach_) (fun _ => (by
        extract_lets +onlyGivenNames -merge -useContext v1
        extract_lets +onlyGivenNames -merge -useContext u2
        have hu2 : Reach T s₀ u2 := (State.modObs_reach (sub_.sub (by decide)) reach_)
        clear_value u2
        extract_lets +onlyGivenNames -merge -useContext u3
        have hu3 : Reach T s₀ u3 := (by
            unfold u3
            split
            · exact (State.recordIf_reach (sub_.sub (by decide)) hu2)
            · exact hu2)
        clear_value u3
        exact (State.recordIf_reach (sub_.sub (by decide)) hu3)))))

theorem execLearnConfirmTimeout_reach {T : Nat} {s₀ s : State} {f : Nat} (sub_ : Sub 4194304 T) (reach_ : Reach T s₀ s) :
    Within T s₀ (execLearnConfirmTimeout f s) := by
  unfold execLearnConfirmTimeout
  exact Within.onUnit (by
    split
    · exact reach_
    · exact (Reach.ite (fun _ => reach_) (fun _ => (State.modObs_reach (sub_.sub (by decide)) reach_))))

theorem execTempInTimeout_reach {T : Nat} {s₀ s : State} {f : Nat} (sub_ : Sub 4194304 T) (reach_ : Reach T s₀ s) :
    Within T s₀ (execTempInTimeout f s) := by
  unfold execTempInTimeout
  exact Within.onUnit (by
    split
    · exact reach_
    · exact (Reach.ite (fun _ => reach_) (fun _ => (State.modObs_reach (sub_.sub (by decide)) reach_))))

end Sys2Proof.Machine
end

