-- ==== Sys2Proof/Laws/Frame/Gallery.lean ====
section
/-! SUPPORT. What the operations of Machine/Gallery.lean may change: one lemma for each, whose mask names the fields. -/

set_option Elab.async false

namespace Sys2Proof.Machine

theorem geEvent_reach {T : Nat} {s₀ s : State} {act : State → State} (sub_ : Sub 0 T) (reach_ : Reach T s₀ s) (act_ : ∀ u,
    Reach T s₀ u → Reach T s₀ (act u)) :
    Within T s₀ (geEvent s act) := by
  unfold geEvent
  exact Within.next (Reach.ite (fun _ => (act_ _ reach_)) (fun _ => reach_))

theorem execEventIntake_reach {T : Nat} {s₀ s : State} (sub_ : Sub 2684354560 T) (reach_ : Reach T s₀ s) :
    Within T s₀ (execEventIntake s) := by
  unfold execEventIntake
  exact geEvent_reach (sub_.sub (by decide)) reach_ (fun u1 hu1 => (by
    split
    · exact hu1
    · exact (State.intake_reach (sub_.sub (by decide)) (Reach.set_gallery (sub_.sub (by decide)) hu1 (fun k => ⟨k.1, k.2, k.3, k.4⟩)))))

theorem execRecordWindowEnd_reach {T : Nat} {s₀ s : State} (sub_ : Sub 2147483648 T) (reach_ : Reach T s₀ s) :
    Within T s₀ (execRecordWindowEnd s) := by
  unfold execRecordWindowEnd
  exact geEvent_reach (sub_.sub (by decide)) reach_ (fun u1 hu1 => (State.closeWhile_reach (sub_.sub (by decide)) hu1))

theorem execQueueTake_reach {T : Nat} {s₀ s : State} (sub_ : Sub 2147483648 T) (reach_ : Reach T s₀ s) :
    Within T s₀ (execQueueTake s) := by
  unfold execQueueTake
  exact geEvent_reach (sub_.sub (by decide)) reach_ (fun u1 hu1 => (State.takeCycleEntry_reach (sub_.sub (by decide)) (State.takeEvent_reach (sub_.sub (by decide)) hu1)))

theorem execEventsLost_reach {T : Nat} {s₀ s : State} (sub_ : Sub 2147483648 T) (reach_ : Reach T s₀ s) :
    Within T s₀ (execEventsLost s) := by
  unfold execEventsLost
  exact (geEvent_reach (sub_.sub (by decide)) reach_ (fun u1 hu2 => (Reach.ite (fun _ => (by
    extract_lets +onlyGivenNames -merge -useContext v3
    extract_lets +onlyGivenNames -merge -useContext v4
    extract_lets +onlyGivenNames -merge -useContext v5
    have hv5 : Reach T s₀ v5 := (Reach.set_gallery (sub_.sub (by decide)) hu2 (fun k => ⟨k.1, k.2, k.3, k.4⟩))
    clear_value v5
    exact (Reach.ite (fun _ => (State.degradedIntake_reach (sub_.sub (by decide)) hv5)) (fun _ => (Reach.set_gallery (sub_.sub (by decide)) hv5 (fun k => ⟨k.1, k.2, k.3, k.4⟩)))))) (fun _ => hu2))))

theorem State.nandBusy_reach {T : Nat} {s₀ s : State} {ms : Rat} (sub_ : Sub 70866960384 T) (reach_ : Reach T s₀ s) :
    Reach T s₀ (State.nandBusy s ms) := by
  unfold State.nandBusy
  exact State.draw_reach (sub_.sub (by decide)) (Reach.set_gallery (sub_.sub (by decide)) reach_ (fun k => ⟨k.1, k.2, k.3, k.4⟩))

theorem execPageProgram_reach {T : Nat} {s₀ s : State} (sub_ : Sub 105226698752 T) (reach_ : Reach T s₀ s) :
    Within T s₀ (execPageProgram s) := by
  unfold execPageProgram
  exact geEvent_reach (sub_.sub (by decide)) reach_ (fun u1 hu1 => (by
    extract_lets +onlyGivenNames -merge -useContext v2
    exact (Reach.ite (fun _ => hu1) (fun _ => (Reach.ite (fun _ => (State.nandBusy_reach (sub_.sub (by decide)) (Reach.foldl _ (Reach.set_gallery (sub_.sub (by decide)) hu1 (fun k => ⟨k.1, k.2, k.3, k.4⟩)) (fun u3 _ hu3 => (State.archivePut_reach (sub_.sub (by decide)) hu3))))) (fun _ => (Reach.ite (fun _ => (State.nandBusy_reach (sub_.sub (by decide)) (Reach.foldl _ (Reach.set_gallery (sub_.sub (by decide)) hu1 (fun k => ⟨k.1, k.2, k.3, k.4⟩)) (fun u4 _ hu4 => (State.logPut_reach (sub_.sub (by decide)) hu4))))) (fun _ => hu1))))))))

theorem State.wearCheck_reach {T : Nat} {s₀ s : State} (sub_ : Sub 36507222016 T) (reach_ : Reach T s₀ s) :
    Reach T s₀ (State.wearCheck s) := by
  unfold State.wearCheck
  extract_lets +onlyGivenNames -merge -useContext v1
  extract_lets +onlyGivenNames -merge -useContext v2
  extract_lets +onlyGivenNames -merge -useContext v3
  extract_lets +onlyGivenNames -merge -useContext v4
  have hv4 : Reach T s₀ v4 := (Reach.set_gallery (sub_.sub (by decide)) reach_ (fun k => ⟨k.1, k.2, k.3, k.4⟩))
  clear_value v4
  exact (State.recordIf_reach (sub_.sub (by decide)) hv4)

theorem State.eraseBlock_reach {T : Nat} {s₀ s : State} {b : Nat} (sub_ : Sub 105226698752 T) (reach_ : Reach T s₀ s) :
    Reach T s₀ (State.eraseBlock s b) := by
  unfold State.eraseBlock
  extract_lets +onlyGivenNames -merge -useContext v1
  extract_lets +onlyGivenNames -merge -useContext v2
  exact (State.nandBusy_reach (sub_.sub (by decide)) (State.wearCheck_reach (sub_.sub (by decide)) (Reach.set_gallery (sub_.sub (by decide)) reach_ (fun k => ⟨k.1, k.2, k.3, k.4⟩))))

theorem execCompactionStep_reach {T : Nat} {s₀ s : State} (sub_ : Sub 105226698752 T) (reach_ : Reach T s₀ s) :
    Within T s₀ (execCompactionStep s) := by
  unfold execCompactionStep
  exact (geEvent_reach (sub_.sub (by decide)) reach_ (fun u1 hu2 => (Reach.ite (fun _ => (by
    split
    · exact (State.eraseBlock_reach (sub_.sub (by decide)) (Reach.set_gallery (sub_.sub (by decide)) hu2 (fun k => ⟨k.1, k.2, k.3, k.4⟩)))
    · split
      · exact hu2
      · extract_lets +onlyGivenNames -merge -useContext v3
        exact (State.eraseBlock_reach (sub_.sub (by decide)) (State.modArea_reach (sub_.sub (by decide)) hu2)))) (fun _ => hu2))))

theorem execTraceWrite_reach {T : Nat} {s₀ s : State} {f : Nat} (sub_ : Sub 105226698752 T) (reach_ : Reach T s₀ s) :
    Within T s₀ (execTraceWrite f s) := by
  unfold execTraceWrite
  exact Within.ite (fun _ => (Within.fault _)) (fun _ => (geEvent_reach (sub_.sub (by decide)) reach_ (fun u1 hu1 => (by
    extract_lets +onlyGivenNames -merge -useContext v2
    extract_lets +onlyGivenNames -merge -useContext v3
    extract_lets +onlyGivenNames -merge -useContext v4
    exact (Reach.ite (fun _ => hu1) (fun _ => (Reach.ite (fun _ => (State.modStaging_reach (sub_.sub (by decide)) hu1)) (fun _ => (Reach.ite (fun _ => (by
    split
    rename_i u5 eu5
    have hu5 : Reach T s₀ u5 := Reach.of_eq eu5 (State.takeSeq_reach (sub_.sub (by decide)) hu1)
    extract_lets +onlyGivenNames -merge -useContext u6
    have hu6 : Reach T s₀ u6 := (State.modStaging_reach (sub_.sub (by decide)) hu5)
    clear_value u6
    exact (State.nandBusy_reach (sub_.sub (by decide)) (State.tracePut_reach (sub_.sub (by decide)) hu6)))) (fun _ => hu1))))))))))

theorem execCounterPersist_reach {T : Nat} {s₀ s : State} (sub_ : Sub 2147483648 T) (reach_ : Reach T s₀ s) :
    Within T s₀ (execCounterPersist s) := by
  unfold execCounterPersist
  exact geEvent_reach (sub_.sub (by decide)) reach_ (fun u1 hu1 => (Reach.ite (fun _ => (Reach.set_gallery (sub_.sub (by decide)) hu1 (fun k => ⟨k.1, k.2, k.3, k.4⟩))) (fun _ => hu1)))

theorem State.passBlock_reach {T : Nat} {s₀ s : State} {b : Nat} (sub_ : Sub 2147483648 T) (reach_ : Reach T s₀ s) :
    Reach T s₀ (State.passBlock s b) := by
  unfold State.passBlock
  extract_lets +onlyGivenNames -merge -useContext v1
  extract_lets +onlyGivenNames -merge -useContext v2
  extract_lets +onlyGivenNames -merge -useContext v3
  exact (Reach.set_gallery (sub_.sub (by decide)) reach_ (fun k => ⟨k.1, k.2, k.3, k.4⟩))

theorem execNandScrub_reach {T : Nat} {s₀ : State} {r : ScrubIn} {s : State} (sub_ : Sub 36507222016 T)
    (reach_ : Reach T s₀ s) :
    Within T s₀ (execNandScrub r s) := by
  unfold execNandScrub
  exact (geEvent_reach (sub_.sub (by decide)) reach_ (fun u1 hu2 => (by
    extract_lets +onlyGivenNames -merge -useContext v3
    exact (Reach.ite (fun _ => hu2) (fun _ => (Reach.ite (fun _ => (Reach.ite (fun _ => hu2) (fun _ => (by
      extract_lets +onlyGivenNames -merge -useContext v4
      extract_lets +onlyGivenNames -merge -useContext v5
      extract_lets +onlyGivenNames -merge -useContext v6
      extract_lets +onlyGivenNames -merge -useContext v7
      have hv7 : Reach T s₀ v7 := (Reach.set_gallery (sub_.sub (by decide)) hu2 (fun k => ⟨k.1, k.2, k.3, k.4⟩))
      clear_value v7
      exact (State.passBlock_reach (sub_.sub (by decide)) (State.wearCheck_reach (sub_.sub (by decide)) (State.record_reach (sub_.sub (by decide)) hv7))))))) (fun _ => (Reach.ite (fun _ => (State.passBlock_reach (sub_.sub (by decide)) (Reach.set_gallery (sub_.sub (by decide)) hu2 (fun k => ⟨k.1, k.2, k.3, k.4⟩)))) (fun _ => (State.passBlock_reach (sub_.sub (by decide)) hu2))))))))))

theorem State.tell_reach {T : Nat} {s₀ s : State} {e : EvCode} {args : List (BitVec 32)} (sub_ : Sub 34359738368 T) (reach_ :
    Reach T s₀ s) :
    Reach T s₀ (State.tell s e args) := by
  unfold State.tell
  exact Reach.ite (fun _ => (State.send_reach (sub_.sub (by decide)) reach_)) (fun _ => reach_)

theorem State.alcoveOnly_reach {T : Nat} {s₀ s : State} {e : EvCode} {args : List (BitVec 32)} (sub_ : Sub 36507222016 T)
    (reach_ : Reach T s₀ s) :
    Reach T s₀ (State.alcoveOnly s e args) := by
  unfold State.alcoveOnly
  exact State.tell_reach (sub_.sub (by decide)) (State.alcoveEvent_reach (sub_.sub (by decide)) reach_)

theorem execGalleryFailed_reach {T : Nat} {s₀ : State} {cause arg : Nat} {s : State} (sub_ : Sub 36507222016 T)
    (reach_ : Reach T s₀ s) :
    Within T s₀ (execGalleryFailed cause arg s) := by
  unfold execGalleryFailed
  exact (geEvent_reach (sub_.sub (by decide)) reach_ (fun u1 hu2 => (by
    extract_lets +onlyGivenNames -merge -useContext v3
    exact (Reach.ite (fun _ => hu2) (fun _ => (by
      extract_lets +onlyGivenNames -merge -useContext v4
      have hv4 : Reach T s₀ v4 := (State.alcoveOnly_reach (sub_.sub (by decide)) hu2)
      clear_value v4
      extract_lets +onlyGivenNames -merge -useContext v5
      extract_lets +onlyGivenNames -merge -useContext v6
      have hv6 : Reach T s₀ v6 := (Reach.set_gallery (sub_.sub (by decide)) hv4 (fun k => ⟨k.1, k.2, k.3, k.4⟩))
      clear_value v6
      extract_lets +onlyGivenNames -merge -useContext v7
      extract_lets +onlyGivenNames -merge -useContext v8
      have hv8 : Reach T s₀ v8 := (State.alcoveOnly_reach (sub_.sub (by decide)) hv6)
      clear_value v8
      exact (Reach.ite (fun _ => (State.rebuildCounters_reach (sub_.sub (by decide)) hv8)) (fun _ => hv8))))))))

theorem execGalleryFailedRepeat_reach {T : Nat} {s₀ s : State} (sub_ : Sub 36507222016 T) (reach_ : Reach T s₀ s) :
    Within T s₀ (execGalleryFailedRepeat s) := by
  unfold execGalleryFailedRepeat
  exact Within.next (Reach.ite (fun _ => (by
    extract_lets +onlyGivenNames -merge -useContext v1
    exact (State.tell_reach (sub_.sub (by decide)) (Reach.set_gallery (sub_.sub (by decide)) reach_ (fun k => ⟨k.1, k.2, k.3, k.4⟩))))) (fun _ => reach_))

theorem execIndexRebuilt_reach {T : Nat} {s₀ s : State} (sub_ : Sub 36507222016 T) (reach_ : Reach T s₀ s) :
    Within T s₀ (execIndexRebuilt s) := by
  unfold execIndexRebuilt
  exact (geEvent_reach (sub_.sub (by decide)) reach_ (fun u1 hu2 => (by
    split
    · exact hu2
    · exact (State.record_reach (sub_.sub (by decide)) (State.flushWait_reach (sub_.sub (by decide)) (Reach.set_gallery (sub_.sub (by decide)) hu2 (fun k => ⟨k.1, k.2, k.3, k.4⟩)))))))

end Sys2Proof.Machine
end

