-- ==== Sys2Proof/Laws/Frame/GalleryRead.lean ====
section
/-! SUPPORT. What the operations of Machine/GalleryRead.lean may change: one lemma for each, whose mask names the fields. -/

set_option Elab.async false

namespace Sys2Proof.Machine

theorem State.serveGalRead_reach {T : Nat} {s₀ s : State} {p : Pend} {payload : Bytes} (sub_ : Sub 38654705664 T) (reach_ :
    Reach T s₀ s) :
    Reach T s₀ (State.serveGalRead s p payload) := by
  unfold State.serveGalRead
  exact Reach.ite (fun _ => (State.answer_reach (sub_.sub (by decide)) reach_)) (fun _ => (Reach.ite (fun _ => (State.answer_reach (sub_.sub (by decide)) reach_)) (fun _ => (by
    extract_lets +onlyGivenNames -merge -useContext v1
    extract_lets +onlyGivenNames -merge -useContext v2
    extract_lets +onlyGivenNames -merge -useContext v3
    extract_lets +onlyGivenNames -merge -useContext v4
    extract_lets +onlyGivenNames -merge -useContext v5
    extract_lets +onlyGivenNames -merge -useContext v6
    extract_lets +onlyGivenNames -merge -useContext v7
    exact (State.answer_reach (sub_.sub (by decide)) reach_)))))

theorem execGalRead_reach {T : Nat} {s₀ s : State} {k : Pkt} (sub_ : Sub 57985204224 T) (reach_ : Reach T s₀ s) :
    Within T s₀ (execGalRead k s) := by
  unfold execGalRead
  exact Within.vet (State.vet_ok (sub_.sub (by decide)) reach_) (fun u1 hu1 => (Within.next hu1)) (fun u1 _ _ _ hu1 => (Within.next (State.serveGalRead_reach (sub_.sub (by decide)) hu1)))

theorem State.serveTraceRead_reach {T : Nat} {s₀ s : State} {p : Pend} {payload : Bytes} (sub_ : Sub 38654705664 T) (reach_ :
    Reach T s₀ s) :
    Reach T s₀ (State.serveTraceRead s p payload) := by
  unfold State.serveTraceRead
  extract_lets +onlyGivenNames -merge -useContext v1
  exact (Reach.ite (fun _ => (State.answer_reach (sub_.sub (by decide)) reach_)) (fun _ => (Reach.ite (fun _ => (State.answer_reach (sub_.sub (by decide)) reach_)) (fun _ => (by
  split
  · exact (State.answer_reach (sub_.sub (by decide)) reach_)
  · exact (by
      extract_lets +onlyGivenNames -merge -useContext v2
      exact (State.answer_reach (sub_.sub (by decide)) reach_)))))))

theorem execGalTraceRead_reach {T : Nat} {s₀ s : State} {k : Pkt} (sub_ : Sub 57985204224 T) (reach_ : Reach T s₀ s) :
    Within T s₀ (execGalTraceRead k s) := by
  unfold execGalTraceRead
  exact Within.vet (State.vet_ok (sub_.sub (by decide)) reach_) (fun u1 hu1 => (Within.next hu1)) (fun u1 _ _ _ hu1 => (Within.next (State.serveTraceRead_reach (sub_.sub (by decide)) hu1)))

end Sys2Proof.Machine
end

