-- ==== Sys2Proof/Laws/Frame/ParamRead.lean ====
section
/-! SUPPORT. What the operations of Machine/ParamRead.lean may change: one lemma for each, whose mask names the fields. -/

set_option Elab.async false

namespace Sys2Proof.Machine

theorem State.afterRead_reach {T : Nat} {s₀ s : State} {r : ParRow} {i : Nat} (sub_ : Sub 2147745792 T)
    (reach_ : Reach T s₀ s) :
    Reach T s₀ (State.afterRead s r i) := by
  unfold State.afterRead
  exact Reach.ite (fun _ => (State.modPort_reach (sub_.sub (by decide)) reach_)) (fun _ => (Reach.ite (fun _ => (Reach.set_gallery (sub_.sub (by decide)) reach_ (fun k => ⟨k.1, k.2, k.3, k.4⟩))) (fun _ => reach_)))

theorem State.readEntry_reach {T : Nat} {s₀ s : State} {hall pid : Nat} (sub_ : Sub 2147745792 T) (reach_ : Reach T s₀ s) :
    Reach T s₀ (State.readEntry s hall pid).2 := by
  unfold State.readEntry
  split
  · exact (Reach.mk2 reach_)
  · exact (by
      extract_lets +onlyGivenNames -merge -useContext v1
      exact (Reach.ite2 (fun _ => (Reach.mk2 reach_)) (fun _ => (Reach.ite2 (fun _ => (Reach.mk2 reach_)) (fun _ => (Reach.mk2 (State.afterRead_reach (sub_.sub (by decide)) reach_)))))))

end Sys2Proof.Machine
end

