-- ==== Sys2Proof/Laws/Frame/Ring.lean ====
section
/-! SUPPORT. What the operations of Machine/Ring.lean may change: one lemma for each, whose mask names the fields. -/

set_option Elab.async false

namespace Sys2Proof.Machine

theorem ringEvent_reach {T : Nat} {s₀ s : State} {p : Nat} {act : State → State} (sub_ : Sub 0 T) (reach_ : Reach T s₀ s)
    (act_
    : ∀ u, Reach T s₀ u → Reach T s₀ (act u)) :
    Within T s₀ (ringEvent p s act) := by
  unfold ringEvent
  exact Within.ite (fun _ => (Within.next (Reach.ite (fun _ => act_ _ reach_) (fun _ => reach_)))) (fun _ => (Within.fault _))

theorem execRingSignalDetect_reach {T : Nat} {s₀ s : State} {p : Nat} (sub_ : Sub 8589934592 T) (reach_ : Reach T s₀ s) :
    Within T s₀ (execRingSignalDetect p s) := by
  unfold execRingSignalDetect
  exact ringEvent_reach (sub_.sub (by decide)) reach_ (fun u1 hu1 => (Reach.ite (fun _ => (State.modRingPort_reach (sub_.sub (by decide)) hu1)) (fun _ => hu1)))

theorem execRingTrainingRetry_reach {T : Nat} {s₀ s : State} {p : Nat} (sub_ : Sub 8589934592 T) (reach_ : Reach T s₀ s) :
    Within T s₀ (execRingTrainingRetry p s) := by
  unfold execRingTrainingRetry
  exact ringEvent_reach (sub_.sub (by decide)) reach_ (fun u1 hu1 => (by
    extract_lets +onlyGivenNames -merge -useContext v2
    exact (Reach.ite (fun _ => (State.modRingPort_reach (sub_.sub (by decide)) hu1)) (fun _ => hu1))))

theorem execRingLinkUp_reach {T : Nat} {s₀ : State} {p : Nat} {roundTrip : Rat} {eq : Nat} {s : State}
    (sub_ : Sub 45097156608 T) (reach_ : Reach T s₀ s) :
    Within T s₀ (execRingLinkUp p roundTrip eq s) := by
  unfold execRingLinkUp
  exact (ringEvent_reach (sub_.sub (by decide)) reach_ (fun u1 hu2 => (Reach.ite (fun _ => hu2) (fun _ => (by
    extract_lets +onlyGivenNames -merge -useContext v3
    extract_lets +onlyGivenNames -merge -useContext v4
    have hv4 : Reach T s₀ v4 := (State.modRingPort_reach (sub_.sub (by decide)) hu2)
    clear_value v4
    extract_lets +onlyGivenNames -merge -useContext v5
    have hv5 : Reach T s₀ v5 := (State.recordIf_reach (sub_.sub (by decide)) hv4)
    clear_value v5
    exact (Reach.ite (fun _ => hv5) (fun _ => (State.send_reach (sub_.sub (by decide)) hv5))))))))

theorem execRingPortDown_reach {T : Nat} {s₀ : State} {p violations : Nat} {s : State} (sub_ : Sub 45097156608 T)
    (reach_ : Reach T s₀ s) :
    Within T s₀ (execRingPortDown p violations s) := by
  unfold execRingPortDown
  exact (ringEvent_reach (sub_.sub (by decide)) reach_ (fun u1 hu2 => (by
    extract_lets +onlyGivenNames -merge -useContext v3
    extract_lets +onlyGivenNames -merge -useContext v4
    have hv4 : Reach T s₀ v4 := (State.modRingPort_reach (sub_.sub (by decide)) hu2)
    clear_value v4
    exact (Reach.ite (fun _ => hv4) (fun _ => (by
      extract_lets +onlyGivenNames -merge -useContext v5
      have hv5 : Reach T s₀ v5 := (State.modRingPort_reach (sub_.sub (by decide)) hv4)
      clear_value v5
      extract_lets +onlyGivenNames -merge -useContext v6
      have hv6 : Reach T s₀ v6 := (State.recordIf_reach (sub_.sub (by decide)) hv5)
      clear_value v6
      exact (Reach.ite (fun _ => (Reach.set_ring (sub_.sub (by decide)) hv6)) (fun _ => hv6))))))))

theorem execRingFormTrigger_reach {T : Nat} {s₀ s : State} (sub_ : Sub 8589934592 T) (reach_ : Reach T s₀ s) :
    Within T s₀ (execRingFormTrigger s) := by
  unfold execRingFormTrigger
  exact Within.ite (fun _ => (Within.fault _)) (fun _ => (Within.next (Reach.ite (fun _ => (State.ringTrigger_reach (sub_.sub (by decide)) reach_)) (fun _ => reach_))))

theorem State.ringFormed_reach {T : Nat} {s₀ s : State} {r : FormIn} (sub_ : Sub 114353504256 T) (reach_ : Reach T s₀ s) :
    Reach T s₀ (State.ringFormed s r) := by
  unfold State.ringFormed
  extract_lets +onlyGivenNames -merge -useContext v1
  extract_lets +onlyGivenNames -merge -useContext v2
  extract_lets +onlyGivenNames -merge -useContext v3
  extract_lets +onlyGivenNames -merge -useContext v4
  extract_lets +onlyGivenNames -merge -useContext v5
  extract_lets +onlyGivenNames -merge -useContext v6
  extract_lets +onlyGivenNames -merge -useContext v7
  extract_lets +onlyGivenNames -merge -useContext v8
  extract_lets +onlyGivenNames -merge -useContext v9
  extract_lets +onlyGivenNames -merge -useContext v10
  have hv10 : Reach T s₀ v10 := (State.ringSums_reach (sub_.sub (by decide)) (State.ringSample_reach (sub_.sub (by decide)) (State.draw_reach (sub_.sub (by decide)) (Reach.set_prog_ring (sub_.sub (by decide)) reach_ (fun k => { k with })))))
  clear_value v10
  extract_lets +onlyGivenNames -merge -useContext v11
  have hv11 : Reach T s₀ v11 := (State.record_reach (sub_.sub (by decide)) hv10)
  clear_value v11
  exact (Reach.foldl _ hv11 (fun u12 _ hu14 => (by
    split
    · exact hu14
    · exact (State.record_reach (sub_.sub (by decide)) hu14))))

theorem execFormWaitEnd_reach {T : Nat} {s₀ : State} {r : FormIn} {s : State} (sub_ : Sub 114353504256 T)
    (reach_ : Reach T s₀ s) :
    Within T s₀ (execFormWaitEnd r s) := by
  unfold execFormWaitEnd
  exact (Within.ite (fun _ => (Within.fault _)) (fun _ => (Within.next (Reach.ite (fun _ => reach_) (fun _ => (Reach.ite (fun _ => (Reach.set_ring (sub_.sub (by decide)) reach_)) (fun _ => (by
    extract_lets +onlyGivenNames -merge -useContext v1
    extract_lets +onlyGivenNames -merge -useContext v2
    exact (Reach.ite (fun _ => (State.ringFormed_reach (sub_.sub (by decide)) reach_)) (fun _ => (by
      extract_lets +onlyGivenNames -merge -useContext v3
      extract_lets +onlyGivenNames -merge -useContext v4
      have hv4 : Reach T s₀ v4 := (Reach.set_ring (sub_.sub (by decide)) reach_)
      clear_value v4
      exact (Reach.ite (fun _ => (State.record_reach (sub_.sub (by decide)) hv4)) (fun _ => (State.record_reach (sub_.sub (by decide)) hv4))))))))))))))

theorem State.ringReform_reach {T : Nat} {s₀ s : State} {v : BitVec 32} (sub_ : Sub 8589934592 T) (reach_ : Reach T s₀ s) :
    Reach T s₀ (State.ringReform s v).2 := by
  unfold State.ringReform
  exact Reach.ite2 (fun _ => (Reach.mk2 reach_)) (fun _ => (Reach.mk2 (State.ringTrigger_reach (sub_.sub (by decide)) reach_)))

theorem State.takeSf_reach {T : Nat} {s₀ s : State} {bs : Bytes} (sub_ : Sub 33554432 T) (reach_ : Reach T s₀ s) :
    Reach T s₀ (State.takeSf s bs) := by
  unfold State.takeSf
  exact Reach.ite (fun _ => reach_) (fun _ => (by
    split
    · exact reach_
    · exact (State.vsfArrive_reach (sub_.sub (by decide)) reach_)))

theorem State.takeSlot_reach {T : Nat} {s₀ s : State} {x : Nat × Nat × Nat} {bs : Bytes} (sub_ : Sub 8623489024 T)
    (reach_ : Reach T s₀ s) :
    Reach T s₀ (State.takeSlot s x bs) := by
  unfold State.takeSlot
  exact (Reach.ite (fun _ => reach_) (fun _ => (Reach.foldl _ (State.takeChs_reach (sub_.sub (by decide)) reach_) (fun u1 _ hu3 => (State.takeSf_reach (sub_.sub (by decide)) hu3)))))

theorem State.readSlots_reach {T : Nat} {s₀ s : State} {tick : BitVec 32} {bs : Bytes} (sub_ : Sub 8623489024 T)
    (reach_ : Reach T s₀ s) :
    Reach T s₀ (State.readSlots s tick bs) := by
  unfold State.readSlots
  exact (Reach.foldl _ reach_ (fun u1 _ hu3 => (by
    split
    · exact (State.takeSlot_reach (sub_.sub (by decide)) hu3))))

theorem State.ringSummary_reach {T : Nat} {s₀ s : State} {tick : BitVec 32} {bs : Bytes} (sub_ : Sub 8589934592 T)
    (reach_ : Reach T s₀ s) :
    Reach T s₀ (State.ringSummary s tick bs) := by
  unfold State.ringSummary
  extract_lets +onlyGivenNames -merge -useContext v1
  extract_lets +onlyGivenNames -merge -useContext v2
  extract_lets +onlyGivenNames -merge -useContext v3
  extract_lets +onlyGivenNames -merge -useContext v4
  extract_lets +onlyGivenNames -merge -useContext v5
  extract_lets +onlyGivenNames -merge -useContext v6
  extract_lets +onlyGivenNames -merge -useContext v7
  extract_lets +onlyGivenNames -merge -useContext v8
  extract_lets +onlyGivenNames -merge -useContext v9
  exact (Reach.set_ring (sub_.sub (by decide)) reach_)

theorem State.ringTime_reach {T : Nat} {s₀ s : State} {err : Rat} (sub_ : Sub 114353504256 T) (reach_ : Reach T s₀ s) :
    Reach T s₀ (State.ringTime s err) := by
  unfold State.ringTime
  extract_lets +onlyGivenNames -merge -useContext v1
  exact (Reach.ite (fun _ => reach_) (fun _ => (Reach.ite (fun _ => (by
    extract_lets +onlyGivenNames -merge -useContext v2
    exact (State.record_reach (sub_.sub (by decide)) (State.draw_reach (sub_.sub (by decide)) (Reach.set_prog_ring (sub_.sub (by decide)) reach_ (fun k => { k with })))))) (fun _ => (Reach.set_ring (sub_.sub (by decide)) reach_)))))

theorem State.hear_reach {T : Nat} {s₀ s : State} {tick : BitVec 32} {err : Rat} (sub_ : Sub 8589934592 T)
    (reach_ : Reach T s₀ s) :
    Reach T s₀ (State.hear s tick err) := by
  unfold State.hear
  exact (Reach.ite (fun _ => reach_) (fun _ => (Reach.set_ring (sub_.sub (by decide)) reach_)))

theorem State.firstPass_reach {T : Nat} {s₀ s : State} {tick : BitVec 32} {bs : Bytes} {err : Rat} {lap2 : Bool}
    (sub_ : Sub 114353504258 T) (reach_ : Reach T s₀ s) :
    Reach T s₀ (State.firstPass s tick bs err lap2) := by
  unfold State.firstPass
  extract_lets +onlyGivenNames -merge -useContext v1
  extract_lets +onlyGivenNames -merge -useContext v2
  extract_lets +onlyGivenNames -merge -useContext v3
  extract_lets +onlyGivenNames -merge -useContext v4
  have hv4 : Reach T s₀ v4 := (Reach.set_ring (sub_.sub (by decide)) reach_)
  clear_value v4
  exact (Reach.ite (fun _ => (Reach.set_ring (sub_.sub (by decide)) hv4)) (fun _ => (by
    extract_lets +onlyGivenNames -merge -useContext v5
    extract_lets +onlyGivenNames -merge -useContext v6
    extract_lets +onlyGivenNames -merge -useContext v7
    extract_lets +onlyGivenNames -merge -useContext v8
    have hv8 : Reach T s₀ v8 := (Reach.set_clock_prog_ring (sub_.sub (by decide)) hv4 (fun k => { k with }))
    clear_value v8
    exact (State.ringTime_reach (sub_.sub (by decide)) hv8))))

theorem State.readFrame_reach {T : Nat} {s₀ s : State} {tick : BitVec 32} {bs : Bytes} (sub_ : Sub 8623489024 T)
    (reach_ : Reach T s₀ s) :
    Reach T s₀ (State.readFrame s tick bs) := by
  unfold State.readFrame
  exact (Reach.ite (fun _ => (State.readSlots_reach (sub_.sub (by decide)) reach_)) (fun _ => (Reach.ite (fun _ => (by
    extract_lets +onlyGivenNames -merge -useContext v1
    have hv1 : Reach T s₀ v1 := (Reach.set_ring (sub_.sub (by decide)) reach_)
    clear_value v1
    extract_lets +onlyGivenNames -merge -useContext v2
    have hv2 : Reach T s₀ v2 := (State.readSlots_reach (sub_.sub (by decide)) hv1)
    clear_value v2
    exact (Reach.set_ring (sub_.sub (by decide)) hv2))) (fun _ => reach_))))

theorem State.ringPass_reach {T : Nat} {s₀ s : State} {r : RingIn} (sub_ : Sub 114387058690 T) (reach_ : Reach T s₀ s) :
    Reach T s₀ (State.ringPass s r) := by
  unfold State.ringPass
  extract_lets +onlyGivenNames -merge -useContext v1
  extract_lets +onlyGivenNames -merge -useContext v2
  extract_lets +onlyGivenNames -merge -useContext v3
  extract_lets +onlyGivenNames -merge -useContext v4
  have hv4 : Reach T s₀ v4 := (State.hear_reach (sub_.sub (by decide)) reach_)
  clear_value v4
  extract_lets +onlyGivenNames -merge -useContext v5
  have hv5 : Reach T s₀ v5 := (Reach.ite (fun _ => (State.firstPass_reach (sub_.sub (by decide)) hv4)) (fun _ => hv4))
  clear_value v5
  extract_lets +onlyGivenNames -merge -useContext v6
  extract_lets +onlyGivenNames -merge -useContext v7
  have hv7 : Reach T s₀ v7 := (State.readFrame_reach (sub_.sub (by decide)) hv5)
  clear_value v7
  extract_lets +onlyGivenNames -merge -useContext v8
  have hv8 : Reach T s₀ v8 := (Reach.ite (fun _ => (State.ringSummary_reach (sub_.sub (by decide)) hv7)) (fun _ => hv7))
  clear_value v8
  exact (Reach.ite (fun _ => (Reach.ite (fun _ => hv8) (fun _ => (State.send_reach (sub_.sub (by decide)) hv8)))) (fun _ => (State.send_reach (sub_.sub (by decide)) hv8)))

theorem execRingFrame_reach {T : Nat} {s₀ : State} {r : RingIn} {s : State} (sub_ : Sub 114387058690 T)
    (reach_ : Reach T s₀ s) :
    Within T s₀ (execRingFrame r s) := by
  unfold execRingFrame
  exact (ringEvent_reach (sub_.sub (by decide)) reach_ (fun u1 hu2 => (by
    extract_lets +onlyGivenNames -merge -useContext v3
    exact (Reach.ite (fun _ => hu2) (fun _ => (Reach.ite (fun _ => (State.ringPass_reach (sub_.sub (by decide)) hu2)) (fun _ => (State.send_reach (sub_.sub (by decide)) (Reach.ite (fun _ => (State.hear_reach (sub_.sub (by decide)) hu2)) (fun _ => hu2))))))))))

theorem execRingLost_reach {T : Nat} {s₀ s : State} {cause : Nat} (sub_ : Sub 45097156608 T) (reach_ : Reach T s₀ s) :
    Within T s₀ (execRingLost cause s) := by
  unfold execRingLost
  exact Within.ite (fun _ => (Within.fault _)) (fun _ => (by
    extract_lets +onlyGivenNames -merge -useContext v1
    extract_lets +onlyGivenNames -merge -useContext v2
    exact (Within.next (Reach.ite (fun _ => (State.ringTrigger_reach (sub_.sub (by decide)) (State.record_reach (sub_.sub (by decide)) reach_))) (fun _ => reach_)))))

end Sys2Proof.Machine
end

