-- ==== Sys2Proof/Laws/Frame/ParamWrite.lean ====
section
/-! SUPPORT. What the operations of Machine/ParamWrite.lean may change: one lemma for each, whose mask names the fields. -/

set_option Elab.async false

namespace Sys2Proof.Machine

theorem State.writeTrim_reach {T : Nat} {s₀ s : State} {pid : Nat} {v : BitVec 32} (sub_ : Sub 36507222020 T)
    (reach_ : Reach T
    s₀ s) :
    Reach T s₀ (State.writeTrim s pid v).2 := by
  unfold State.writeTrim
  exact Reach.ite2 (fun _ => (Reach.mk2 reach_)) (fun _ => (by
    extract_lets +onlyGivenNames -merge -useContext v1
    exact (Reach.mk2 (State.record_reach (sub_.sub (by decide)) (State.setPar_reach (sub_.sub (by decide)) reach_)))))

theorem State.clearTrims_reach {T : Nat} {s₀ s : State} {v : BitVec 32} (sub_ : Sub 36507222020 T) (reach_ : Reach T s₀ s) :
    Reach T s₀ (State.clearTrims s v).2 := by
  unfold State.clearTrims
  exact Reach.ite2 (fun _ => (Reach.mk2 reach_)) (fun _ => (Reach.ite2 (fun _ => (Reach.mk2 reach_)) (fun _ => (Reach.mk2 (State.record_reach (sub_.sub (by decide)) (Reach.set_params (sub_.sub (by decide)) reach_ (Params.filter_wf _)))))))

theorem State.writeAlcoveClear_reach {T : Nat} {s₀ s : State} {v : BitVec 32} (sub_ : Sub 36507222016 T)
    (reach_ : Reach T s₀ s) :
    Reach T s₀ (State.writeAlcoveClear s v).2 := by
  unfold State.writeAlcoveClear
  exact Reach.ite2 (fun _ => (Reach.mk2 reach_)) (fun _ => (Reach.ite2 (fun _ => (Reach.mk2 reach_)) (fun _ => (Reach.mk2 (State.alcoveClear_reach (sub_.sub (by decide)) reach_)))))

theorem State.writeDecel_reach {T : Nat} {s₀ s : State} {a : Nat} {v : BitVec 32} (sub_ : Sub 1048580 T)
    (reach_ : Reach T s₀ s) :
    Reach T s₀ (State.writeDecel s a v).2 := by
  unfold State.writeDecel
  exact Reach.mk2 (State.modAxis_reach (sub_.sub (by decide)) (State.setPar_reach (sub_.sub (by decide)) reach_))

theorem State.applyPar_reach {T : Nat} {s₀ s : State} {r : ParRow} {i j : Nat} {v : BitVec 32} (sub_ : Sub 46746839020 T)
    (reach_ : Reach T s₀ s) :
    Reach T s₀ (State.applyPar s r i j v).2 := by
  unfold State.applyPar
  exact (Reach.ite2 (fun _ => (State.uvClear_reach (sub_.sub (by decide)) reach_)) (fun _ => (Reach.ite2 (fun _ => (State.treadClear_reach (sub_.sub (by decide)) reach_)) (fun _ => (Reach.ite2 (fun _ => (State.reclose_reach (sub_.sub (by decide)) reach_)) (fun _ => (Reach.ite2 (fun _ => (State.stopClear_reach (sub_.sub (by decide)) reach_)) (fun _ => (Reach.ite2 (fun _ => (State.stopClear_reach (sub_.sub (by decide)) reach_)) (fun _ => (Reach.ite2 (fun _ => (State.stopClear_reach (sub_.sub (by decide)) reach_)) (fun _ => (Reach.ite2 (fun _ => (State.writeCount_reach (sub_.sub (by decide)) reach_)) (fun _ => (Reach.ite2 (fun _ => (State.writeCmpPos_reach (sub_.sub (by decide)) reach_)) (fun _ => (Reach.ite2 (fun _ => (State.writeCmpCfg_reach (sub_.sub (by decide)) reach_)) (fun _ => (Reach.ite2 (fun _ => (State.clearHits_reach (sub_.sub (by decide)) reach_)) (fun _ => (Reach.ite2 (fun _ => (State.supplyClear_reach (sub_.sub (by decide)) reach_)) (fun _ => (Reach.ite2 (fun _ => (State.writeDecel_reach (sub_.sub (by decide)) reach_)) (fun _ => (Reach.ite2 (fun _ => (State.posSet_reach (sub_.sub (by decide)) reach_)) (fun _ => (Reach.ite2 (fun _ => (State.tempIn_reach (sub_.sub (by decide)) reach_)) (fun _ => (Reach.ite2 (fun _ => (State.commission_reach (sub_.sub (by decide)) reach_)) (fun _ => (Reach.ite2 (fun _ => (State.mapRestore_reach (sub_.sub (by decide)) reach_)) (fun _ => (Reach.ite2 (fun _ => (State.progRestartWrite_reach (sub_.sub (by decide)) reach_)) (fun _ => (Reach.ite2 (fun _ => (State.progStopWrite_reach (sub_.sub (by decide)) reach_)) (fun _ => (Reach.ite2 (fun _ => (State.forceClearWrite_reach (sub_.sub (by decide)) reach_)) (fun _ => (Reach.ite2 (fun _ => (State.safetyResetWrite_reach (sub_.sub (by decide)) reach_)) (fun _ => (Reach.ite2 (fun _ => (Reach.mk2 (State.floodWrite_reach (sub_.sub (by decide)) reach_))) (fun _ => (Reach.ite2 (fun _ => (State.writeAlcoveClear_reach (sub_.sub (by decide)) reach_)) (fun _ => (Reach.ite2 (fun _ => (State.ringReform_reach (sub_.sub (by decide)) reach_)) (fun _ => (Reach.ite2 (fun _ => (State.clearTrims_reach (sub_.sub (by decide)) reach_)) (fun _ => (Reach.ite2 (fun _ => (State.writeTrim_reach (sub_.sub (by decide)) reach_)) (fun _ => (Reach.ite2 (fun _ => (Reach.mk2 reach_)) (fun _ => (Reach.mk2 (State.setPar_reach (sub_.sub (by decide)) reach_))))))))))))))))))))))))))))))))))))))))))))))))))))))

theorem State.withValues_reach {T : Nat} {s₀ s : State} {es : List (Nat × BitVec 32)} (sub_ : Sub 4 T)
    (reach_ : Reach T s₀ s) :
    Reach T s₀ (State.withValues s es) := by
  unfold State.withValues
  exact Reach.foldl _ reach_ (fun u1 _ hu1 => (State.setPar_reach (sub_.sub (by decide)) hu1))

theorem State.applyEntries_reach {T : Nat} {s₀ s : State} {es : List (Nat × BitVec 32)} (sub_ : Sub 46746839020 T) (reach_ :
    Reach T s₀ s) :
    Reach T s₀ (State.applyEntries s es) := by
  unfold State.applyEntries
  exact Reach.foldl _ reach_ (fun u1 _ hu1 => (by
    split
    · exact hu1
    · exact (State.applyPar_reach (sub_.sub (by decide)) hu1)))

theorem State.progParWrite_reach {T : Nat} {s₀ s : State} {pid : Nat} {v : BitVec 32} (sub_ : Sub 46746839020 T) (reach_ :
    Reach T s₀ s) :
    Reach T s₀ (State.progParWrite s pid v).2 := by
  unfold State.progParWrite
  split
  · exact (Reach.mk2 reach_)
  · exact (by
      extract_lets +onlyGivenNames -merge -useContext v1
      exact (Reach.ite2 (fun _ => (Reach.mk2 reach_)) (fun _ => (State.applyPar_reach (sub_.sub (by decide)) reach_))))

theorem State.serveWrite_reach {T : Nat} {s₀ s : State} {p : Pend} {role : Nat} {payload : Bytes} (sub_ : Sub 51041806316 T)
    (reach_ : Reach T s₀ s) :
    Reach T s₀ (State.serveWrite s p role payload) := by
  unfold State.serveWrite
  extract_lets +onlyGivenNames -merge -useContext v1
  exact (Reach.ite (fun _ => (State.answer_reach (sub_.sub (by decide)) reach_)) (fun _ => (Reach.ite (fun _ => (State.answer_reach (sub_.sub (by decide)) reach_)) (fun _ => (by
  extract_lets +onlyGivenNames -merge -useContext v2
  split
  · exact (State.answer_reach (sub_.sub (by decide)) reach_)
  · exact (State.answer_reach (sub_.sub (by decide)) (State.applyEntries_reach (sub_.sub (by decide)) reach_)))))))

theorem State.parWrite_reach {T : Nat} {s₀ s : State} {k : Pkt} (sub_ : Sub 68223772652 T) (reach_ : Reach T s₀ s) :
    Reach T s₀ (State.parWrite s k) := by
  unfold State.parWrite
  extract_lets +onlyGivenNames -merge -useContext v1
  exact (Reach.vet (State.vet_ok (sub_.sub (by decide)) reach_) (fun u2 hu2 => hu2) (fun u2 _ _ _ hu2 => (State.serveWrite_reach (sub_.sub (by decide)) hu2)))

theorem State.writeOne_reach {T : Nat} {s₀ s : State} {q : Hdr} {r : ParRow} {i j : Nat} {v : BitVec 32}
    (sub_ : Sub 68223772652 T) (reach_ : Reach T s₀ s) :
    Reach T s₀ (State.writeOne s q r i j v) := by
  unfold State.writeOne
  exact State.parWrite_reach (sub_.sub (by decide)) reach_

theorem State.readAll_reach {T : Nat} {s₀ s : State} {hall : Nat} {pids : List Nat} (sub_ : Sub 2147745792 T)
    (reach_ : Reach T s₀ s) : Reach T s₀ (s.readAll hall pids).2 := by
  induction pids generalizing s with
  | nil => exact reach_
  | cons p ps ih => exact ih (State.readEntry_reach (sub_.sub (by decide)) reach_)

theorem State.serveRead_reach {T : Nat} {s₀ s : State} {p : Pend} {hall : Nat} {payload : Bytes} (sub_ : Sub 40802451456 T)
    (reach_ : Reach T s₀ s) :
    Reach T s₀ (State.serveRead s p hall payload) := by
  unfold State.serveRead
  extract_lets +onlyGivenNames -merge -useContext v1
  exact (Reach.ite (fun _ => (State.answer_reach (sub_.sub (by decide)) reach_)) (fun _ => (by
  split
  rename_i u2 eu2
  have hu2 : Reach T s₀ u2 := Reach.of_eq eu2 (State.readAll_reach (sub_.sub (by decide)) reach_)
  exact (State.answer_reach (sub_.sub (by decide)) hu2))))

theorem State.parRead_reach {T : Nat} {s₀ s : State} {k : Pkt} (sub_ : Sub 57985466368 T) (reach_ : Reach T s₀ s) :
    Reach T s₀ (State.parRead s k) := by
  unfold State.parRead
  extract_lets +onlyGivenNames -merge -useContext v1
  exact (Reach.vet (State.vet_ok (sub_.sub (by decide)) reach_) (fun u2 hu2 => hu2) (fun u2 _ _ _ hu2 => (State.serveRead_reach (sub_.sub (by decide)) hu2)))

theorem State.readOne_reach {T : Nat} {s₀ s : State} {q : Hdr} {r : ParRow} {i j : Nat} (sub_ : Sub 57985466368 T) (reach_ :
    Reach T s₀ s) :
    Reach T s₀ (State.readOne s q r i j) := by
  unfold State.readOne
  exact State.parRead_reach (sub_.sub (by decide)) reach_

end Sys2Proof.Machine
end

