-- ==== Sys2Proof/Laws/Frame/ProgramCycle.lean ====
section
/-! SUPPORT. What the operations of Machine/ProgramCycle.lean may change: one lemma for each, whose mask names the fields. -/

set_option Elab.async false

namespace Sys2Proof.Machine

theorem State.writeBound_reach {T : Nat} {s₀ s : State} {v : Var} (sub_ : Sub 34360008704 T) (reach_ : Reach T s₀ s) :
    Reach T s₀ (State.writeBound s v) := by
  unfold State.writeBound
  extract_lets +onlyGivenNames -merge -useContext v1
  extract_lets +onlyGivenNames -merge -useContext v2
  exact (Reach.ite (fun _ => (by
  extract_lets +onlyGivenNames -merge -useContext v3
  exact (State.driveTread_reach (sub_.sub (by decide)) reach_))) (fun _ => (Reach.ite (fun _ => (State.setAux_reach (sub_.sub (by decide)) reach_)) (fun _ => reach_))))

theorem State.applyEvent_reach {T : Nat} {s₀ s : State} {id : BitVec 16} {code sev : Nat} {args : List (BitVec 32)}
    (sub_ : Sub 37044092928 T) (reach_ : Reach T s₀ s) :
    Reach T s₀ (State.applyEvent s id code sev args) := by
  unfold State.applyEvent
  extract_lets +onlyGivenNames -merge -useContext v1
  exact (State.settle_reach (sub_.sub (by decide)) (State.recordAs_reach (sub_.sub (by decide)) reach_))

theorem State.applyAction_reach {T : Nat} {s₀ s : State} {a_ : Action} (sub_ : Sub 46748936172 T) (reach_ : Reach T s₀ s) :
    Reach T s₀ (State.applyAction s a_) := by
  unfold State.applyAction
  split
  · exact (by
      split
      rename_i u1 eu1
      have hu1 : Reach T s₀ u1 := Reach.of_eq eu1 (State.progParWrite_reach (sub_.sub (by decide)) reach_)
      exact (State.settle_reach (sub_.sub (by decide)) hu1))
  · exact (State.post_reach (sub_.sub (by decide)) reach_)
  · exact (State.applyEvent_reach (sub_.sub (by decide)) reach_)
  · exact (State.applyDoor_reach (sub_.sub (by decide)) reach_)
  · exact (Reach.ite (fun _ => (State.setDoor_reach (sub_.sub (by decide)) reach_)) (fun _ => reach_))
  · exact (Reach.ite (fun _ => (State.setDoor_reach (sub_.sub (by decide)) reach_)) (fun _ => reach_))
  · exact (Reach.ite (fun _ => (State.setDoor_reach (sub_.sub (by decide)) reach_)) (fun _ => reach_))

theorem State.outputWrite_reach {T : Nat} {s₀ s : State} {c : Container} (sub_ : Sub 46748936172 T) (reach_ : Reach T s₀ s) :
    Reach T s₀ (State.outputWrite s c) := by
  unfold State.outputWrite
  exact Reach.ite (fun _ => reach_) (fun _ => (by
    extract_lets +onlyGivenNames -merge -useContext u2
    have hu2 : Reach T s₀ u2 := (Reach.foldl _ reach_ (fun u1 _ hu1 => (State.writeBound_reach (sub_.sub (by decide)) hu1)))
    clear_value u2
    extract_lets +onlyGivenNames -merge -useContext v3
    extract_lets +onlyGivenNames -merge -useContext w_ u4
    have hu4 : Reach T s₀ u4 := (Reach.set_prog (sub_.sub (by decide)) hu2 (fun k => ⟨k.1, k.2, k.3⟩))
    clear_value u4
    exact (Reach.foldl _ hu4 (fun u5 _ hu5 => (Reach.foldl _ hu5 (fun u6 _ hu6 => (State.applyAction_reach (sub_.sub (by decide)) hu6)))))))

theorem State.finishTaken_reach {T : Nat} {s₀ s : State} {f : Nat} (sub_ : Sub 40809533440 T) (reach_ : Reach T s₀ s) :
    Reach T s₀ (State.finishTaken s f) := by
  unfold State.finishTaken
  exact Reach.ite (fun _ => reach_) (fun _ => (by
    extract_lets +onlyGivenNames -merge -useContext u1
    have hu1 : Reach T s₀ u1 := (by
        unfold u1
        split
        · exact (State.judge_reach (sub_.sub (by decide)) reach_)
        · exact reach_)
    clear_value u1
    extract_lets +onlyGivenNames -merge -useContext u2
    have hu2 : Reach T s₀ u2 := (by
        unfold u2
        split
        · exact (State.takeStep_reach (sub_.sub (by decide)) hu1)
        · exact hu1)
    clear_value u2
    extract_lets +onlyGivenNames -merge -useContext u3
    have hu3 : Reach T s₀ u3 := (by
        unfold u3
        split
        · exact (State.takeLock_reach (sub_.sub (by decide)) hu2)
        · exact hu2)
    clear_value u3
    exact (State.takeRef_reach (sub_.sub (by decide)) hu3)))

theorem State.finishAll_reach {T : Nat} {s₀ s : State} (sub_ : Sub 40809533440 T) (reach_ : Reach T s₀ s) :
    Reach T s₀ (State.finishAll s) := by
  unfold State.finishAll
  exact Reach.forEach _ reach_ (fun u1 _ hu1 => (State.finishTaken_reach (sub_.sub (by decide)) hu1))

theorem State.takeLatches_reach {T : Nat} {s₀ s : State} (sub_ : Sub 2097152 T) (reach_ : Reach T s₀ s) :
    Reach T s₀ (State.takeLatches s) := by
  unfold State.takeLatches
  exact Reach.ite (fun _ => reach_) (fun _ => (Reach.forEach _ reach_ (fun u1 _ hu1 => (State.takeLatch_reach (sub_.sub (by decide)) hu1))))

theorem State.sendCan_reach {T : Nat} {s₀ s : State} (sub_ : Sub 104152956928 T) (reach_ : Reach T s₀ s) :
    Reach T s₀ (State.sendCan s) := by
  unfold State.sendCan
  exact (Reach.forEach _ reach_ (fun u1 _ hu3 => (State.canSendAll_reach (sub_.sub (by decide)) hu3)))

theorem State.sendCyclic_reach {T : Nat} {s₀ s : State} (sub_ : Sub 104421392384 T) (reach_ : Reach T s₀ s) :
    Reach T s₀ (State.sendCyclic s) := by
  unfold State.sendCyclic
  exact State.publish_reach (sub_.sub (by decide)) (State.sendCan_reach (sub_.sub (by decide)) reach_)

theorem State.freezeRpdos_reach {T : Nat} {s₀ s : State} (sub_ : Sub 1610612736 T) (reach_ : Reach T s₀ s) :
    Reach T s₀ (State.freezeRpdos s) := by
  unfold State.freezeRpdos
  exact Reach.forEach _ reach_ (fun u1 _ hu1 => (Reach.ite (fun _ => hu1) (fun _ => (by
    extract_lets +onlyGivenNames -merge -useContext v2
    extract_lets +onlyGivenNames -merge -useContext v3
    extract_lets +onlyGivenNames -merge -useContext v4
    extract_lets +onlyGivenNames -merge -useContext v5
    exact (Reach.set_prog_can (sub_.sub (by decide)) hu1 (fun k => ⟨k.1, Memory.writeBytes_wf _ _ k.2, k.3⟩))))))

theorem State.freezeInst_reach {T : Nat} {s₀ s : State} {b : Block} (sub_ : Sub 2684616704 T) (reach_ : Reach T s₀ s) :
    Reach T s₀ (State.freezeInst s b) := by
  unfold State.freezeInst
  extract_lets +onlyGivenNames -merge -useContext v1
  extract_lets +onlyGivenNames -merge -useContext u2
  have hu2 : Reach T s₀ u2 := (Reach.ite (fun _ => (State.modInst_reach (sub_.sub (by decide)) reach_)) (fun _ => (by
      split
      · exact (State.modInst_reach (sub_.sub (by decide)) reach_)
      · exact reach_)))
  clear_value u2
  extract_lets +onlyGivenNames -merge -useContext u4
  have hu4 : Reach T s₀ u4 := (Reach.ite (fun _ => (by
      split
      rename_i u3 eu3
      have hu3 : Reach T s₀ u3 := Reach.of_eq eu3 (State.readEntry_reach (sub_.sub (by decide)) hu2)
      exact (State.modInst_reach (sub_.sub (by decide)) hu3))) (fun _ => hu2))
  clear_value u4
  exact (State.modInst_reach (sub_.sub (by decide)) hu4)

theorem State.freeze_reach {T : Nat} {s₀ s : State} {c : Container} (sub_ : Sub 3759407104 T) (reach_ : Reach T s₀ s) :
    Reach T s₀ (State.freeze s c) := by
  unfold State.freeze
  extract_lets +onlyGivenNames -merge -useContext v1
  extract_lets +onlyGivenNames -merge -useContext v2
  have hv2 : Reach T s₀ v2 := (State.freezeRpdos_reach (sub_.sub (by decide)) (State.freezeSubs_reach (sub_.sub (by decide)) (Reach.set_prog (sub_.sub (by decide)) reach_ (fun k => ⟨k.1, rfl, k.3⟩))))
  clear_value v2
  extract_lets +onlyGivenNames -merge -useContext v3
  have hv3 : Reach T s₀ v3 := (Reach.foldl _ hv2 (fun u4 _ hu6 => (Reach.ite (fun _ => (State.writeVar_reach (sub_.sub (by decide)) hu6)) (fun _ => hu6))))
  clear_value v3
  extract_lets +onlyGivenNames -merge -useContext v7 v8
  have hv8 : Reach T s₀ v8 := (Reach.foldl _ hv3 (fun u9 _ hu11 => (State.freezeInst_reach (sub_.sub (by decide)) hu11)))
  clear_value v8 v7
  exact (Reach.set_axes (sub_.sub (by decide)) hv8 (List.length_mapIdx ..))

theorem State.applyForces_reach {T : Nat} {s₀ s : State} {c : Container} (sub_ : Sub 536870912 T) (reach_ : Reach T s₀ s) :
    Reach T s₀ (State.applyForces s c) := by
  unfold State.applyForces
  exact Reach.foldl _ reach_ (fun u1 _ hu1 => (by
    split
    · exact (State.writeVar_reach (sub_.sub (by decide)) hu1)
    · exact hu1))

theorem State.execute_reach {T : Nat} {s₀ s : State} {c : Container} (sub_ : Sub 105763569664 T) (reach_ : Reach T s₀ s) :
    Reach T s₀ (State.execute s c) := by
  unfold State.execute
  extract_lets +onlyGivenNames -merge -useContext w_ u1
  have hu1 : Reach T s₀ u1 := (Reach.set_prog (sub_.sub (by decide)) reach_ (fun k => ⟨k.1, k.2, k.3⟩))
  clear_value u1
  exact (State.runBlocks_reach (sub_.sub (by decide)) hu1)

theorem State.coldStart_reach {T : Nat} {s₀ s : State} {c : Container} {cause : Nat} (sub_ : Sub 38117834752 T)
    (reach_ : Reach
    T s₀ s) :
    Reach T s₀ (State.coldStart s c cause) := by
  unfold State.coldStart
  extract_lets +onlyGivenNames -merge -useContext v1
  extract_lets +onlyGivenNames -merge -useContext w_ u2
  have hu2 : Reach T s₀ u2 := (Reach.set_prog (sub_.sub (by decide)) reach_ (fun k => ⟨Memory.writeBytes_wf _ _ rfl, rfl, Memory.writeBytes_wf _ _ rfl⟩))
  clear_value u2
  extract_lets +onlyGivenNames -merge -useContext u3
  have hu3 : Reach T s₀ u3 := (State.clearForces_reach (sub_.sub (by decide)) hu2)
  clear_value u3
  exact (State.nmtStart_reach (sub_.sub (by decide)) (State.record_reach (sub_.sub (by decide)) hu3))

theorem State.carryVars_reach {T : Nat} {s₀ s : State} {old new : Container} (sub_ : Sub 536870912 T)
    (reach_ : Reach T s₀ s) :
    Reach T s₀ (State.carryVars s old new) := by
  unfold State.carryVars
  extract_lets +onlyGivenNames -merge -useContext v1
  extract_lets +onlyGivenNames -merge -useContext w_ u2
  have hu2 : Reach T s₀ u2 := (Reach.set_prog (sub_.sub (by decide)) reach_ (fun k => ⟨Memory.writeBytes_wf _ _ rfl, rfl, Memory.writeBytes_wf _ _ rfl⟩))
  clear_value u2
  exact (Reach.foldl _ hu2 (fun u3 _ hu3 => (by
  split
  · exact (State.writeVar_reach (sub_.sub (by decide)) hu3))))

theorem State.carryForces_reach {T : Nat} {s₀ s : State} {new : Container} (sub_ : Sub 37044092928 T)
    (reach_ : Reach T s₀ s) :
    Reach T s₀ (State.carryForces s new).2 := by
  unfold State.carryForces
  extract_lets +onlyGivenNames -merge -useContext v1
  extract_lets +onlyGivenNames -merge -useContext v2
  extract_lets +onlyGivenNames -merge -useContext w_ u3
  have hu3 : Reach T s₀ u3 := (Reach.set_prog (sub_.sub (by decide)) reach_ (fun k => ⟨k.1, k.2, k.3⟩))
  clear_value u3
  exact (Reach.mk2 (Reach.foldl _ hu3 (fun u4 _ hu4 => (State.record_reach (sub_.sub (by decide)) hu4))))

theorem State.dropDoor_reach {T : Nat} {s₀ s : State} {f : Nat} (sub_ : Sub 36514566144 T) (reach_ : Reach T s₀ s) :
    Reach T s₀ (State.dropDoor s f) := by
  unfold State.dropDoor
  extract_lets +onlyGivenNames -merge -useContext v1
  extract_lets +onlyGivenNames -merge -useContext v2
  have hv2 : Reach T s₀ v2 := (State.abortRun_reach (sub_.sub (by decide)) reach_)
  clear_value v2
  extract_lets +onlyGivenNames -merge -useContext v3
  have hv3 : Reach T s₀ v3 := (State.lockEngage_reach (sub_.sub (by decide)) (State.stepHalt_reach (sub_.sub (by decide)) (State.stopMoving_reach (sub_.sub (by decide)) (State.stopMoving_reach (sub_.sub (by decide)) hv2))))
  clear_value v3
  extract_lets +onlyGivenNames -merge -useContext v4
  have hv4 : Reach T s₀ v4 := (State.setDoor_reach (sub_.sub (by decide)) hv3)
  clear_value v4
  exact (Reach.ite (fun _ => hv4) (fun _ => (State.recordIf_reach (sub_.sub (by decide)) (State.enterDoor_reach (sub_.sub (by decide)) hv4))))

theorem State.switchDoor_reach {T : Nat} {s₀ s : State} {old new : Container} {f : Nat} (sub_ : Sub 36514566144 T)
    (reach_ : Reach T s₀ s) :
    Reach T s₀ (State.switchDoor s old new f) := by
  unfold State.switchDoor
  extract_lets +onlyGivenNames -merge -useContext v1
  extract_lets +onlyGivenNames -merge -useContext v2
  have hv2 : Reach T s₀ v2 := (Reach.ite (fun _ => (State.dropDoor_reach (sub_.sub (by decide)) reach_)) (fun _ => reach_))
  clear_value v2
  extract_lets +onlyGivenNames -merge -useContext v3
  have hv3 : Reach T s₀ v3 := (Reach.ite (fun _ => (State.enterLock_reach (sub_.sub (by decide)) hv2)) (fun _ => hv2))
  clear_value v3
  extract_lets +onlyGivenNames -merge -useContext v4
  have hv4 : Reach T s₀ v4 := (Reach.ite (fun _ => (State.stepService_reach (sub_.sub (by decide)) hv3)) (fun _ => hv3))
  clear_value v4
  exact (Reach.ite (fun _ => (by
    extract_lets +onlyGivenNames -merge -useContext v5
    have hv5 : Reach T s₀ v5 := (State.setDoor_reach (sub_.sub (by decide)) hv4)
    clear_value v5
    exact (Reach.ite (fun _ => (State.startService_reach (sub_.sub (by decide)) hv5)) (fun _ => hv5)))) (fun _ => hv4))

theorem State.dropOld_reach {T : Nat} {s₀ s : State} {old new : Container} (sub_ : Sub 34361057280 T)
    (reach_ : Reach T s₀ s) :
    Reach T s₀ (State.dropOld s old new) := by
  unfold State.dropOld
  extract_lets +onlyGivenNames -merge -useContext v1
  extract_lets +onlyGivenNames -merge -useContext v2
  have hv2 : Reach T s₀ v2 := (Reach.foldl _ reach_ (fun u3 _ hu5 => (State.driveTread_reach (sub_.sub (by decide)) hu5)))
  clear_value v2
  extract_lets +onlyGivenNames -merge -useContext v6
  have hv6 : Reach T s₀ v6 := (Reach.foldl _ hv2 (fun u7 _ hu9 => (State.setAux_reach (sub_.sub (by decide)) hu9)))
  clear_value v6
  exact (Reach.foldl _ hv6 (fun u10 _ hu12 => (State.seqCmd_reach (sub_.sub (by decide)) hu12)))

theorem State.switchTo_reach {T : Nat} {s₀ s : State} {old new : Container} (sub_ : Sub 58526543872 T)
    (reach_ : Reach T s₀ s) :
    Reach T s₀ (State.switchTo s old new) := by
  unfold State.switchTo
  extract_lets +onlyGivenNames -merge -useContext v1
  extract_lets +onlyGivenNames -merge -useContext u2
  have hu2 : Reach T s₀ u2 := (State.carryVars_reach (sub_.sub (by decide)) reach_)
  clear_value u2
  split
  rename_i u3 eu3
  have hu3 : Reach T s₀ u3 := Reach.of_eq eu3 (State.carryForces_reach (sub_.sub (by decide)) hu2)
  extract_lets +onlyGivenNames -merge -useContext u4
  have hu4 : Reach T s₀ u4 := (State.dropOld_reach (sub_.sub (by decide)) hu3)
  clear_value u4
  extract_lets +onlyGivenNames -merge -useContext w_ w_ u5
  have hu5 : Reach T s₀ u5 := (Reach.set_prog_sec (sub_.sub (by decide)) hu4 (fun k => ⟨k.1, k.2, k.3⟩))
  clear_value u5
  extract_lets +onlyGivenNames -merge -useContext u7
  have hu7 : Reach T s₀ u7 := (Reach.forEach _ hu5 (fun u6 _ hu6 => (State.switchDoor_reach (sub_.sub (by decide)) hu6)))
  clear_value u7
  extract_lets +onlyGivenNames -merge -useContext u8
  have hu8 : Reach T s₀ u8 := (State.record_reach (sub_.sub (by decide)) hu7)
  clear_value u8
  exact (State.answerExclusive_reach (sub_.sub (by decide)) hu8)

theorem State.refuseSwitch_reach {T : Nat} {s₀ s : State} {status item : Nat} (sub_ : Sub 41339060224 T)
    (reach_ : Reach T s₀ s) :
    Reach T s₀ (State.refuseSwitch s status item) := by
  unfold State.refuseSwitch
  extract_lets +onlyGivenNames -merge -useContext w_ u1
  have hu1 : Reach T s₀ u1 := (Reach.set_prog (sub_.sub (by decide)) reach_ (fun k => ⟨k.1, k.2, k.3⟩))
  clear_value u1
  exact (State.answerExclusive_reach (sub_.sub (by decide)) (State.record_reach (sub_.sub (by decide)) hu1))

theorem State.skippedStart_reach {T : Nat} {s₀ s : State} {began : Nat} (sub_ : Sub 107109163008 T) (reach_ : Reach T s₀ s) :
    Reach T s₀ (State.skippedStart s began) := by
  unfold State.skippedStart
  extract_lets +onlyGivenNames -merge -useContext v1
  extract_lets +onlyGivenNames -merge -useContext v2
  extract_lets +onlyGivenNames -merge -useContext v3
  extract_lets +onlyGivenNames -merge -useContext w_ u4
  have hu4 : Reach T s₀ u4 := (Reach.set_prog (sub_.sub (by decide)) reach_ (fun k => ⟨k.1, k.2, k.3⟩))
  extract_lets +onlyGivenNames -merge -useContext u5
  have hu5 : Reach T s₀ u5 := (State.recordIf_reach (sub_.sub (by decide)) hu4)
  extract_lets +onlyGivenNames -merge -useContext v6
  extract_lets +onlyGivenNames -merge -useContext v7
  extract_lets +onlyGivenNames -merge -useContext u8
  have hu8 : Reach T s₀ u8 := (State.takeLatches_reach (sub_.sub (by decide)) hu5)
  exact (Reach.ite (fun _ => (State.stopProgram_reach (sub_.sub (by decide)) (State.record_reach (sub_.sub (by decide)) hu8))) (fun _ => (Reach.ite (fun _ => (State.stopProgram_reach (sub_.sub (by decide)) (State.record_reach (sub_.sub (by decide)) hu8))) (fun _ => (State.sendCyclic_reach (sub_.sub (by decide)) hu8)))))

theorem State.judgeSwitch_reach {T : Nat} {s₀ s : State} (sub_ : Sub 41339060224 T) (reach_ : Reach T s₀ s) :
    Reach T s₀ (State.judgeSwitch s) := by
  unfold State.judgeSwitch
  exact (Reach.ite (fun _ => reach_) (fun _ => (Reach.ite (fun _ => (State.refuseSwitch_reach (sub_.sub (by decide)) reach_)) (fun _ => (by
    split
    · exact reach_
    · exact (State.refuseSwitch_reach (sub_.sub (by decide)) reach_))))))

theorem State.runCycle_reach {T : Nat} {s₀ s : State} {c : Container} (sub_ : Sub 107107057664 T) (reach_ : Reach T s₀ s) :
    Reach T s₀ (State.runCycle s c) := by
  unfold State.runCycle
  exact State.execute_reach (sub_.sub (by decide)) (State.applyForces_reach (sub_.sub (by decide)) (State.freeze_reach (sub_.sub (by decide)) (State.sendCyclic_reach (sub_.sub (by decide)) reach_)))

theorem State.normalStart_reach {T : Nat} {s₀ s : State} {c : Container} (sub_ : Sub 137211688940 T)
    (reach_ : Reach T s₀ s) :
    Reach T s₀ (State.normalStart s c) := by
  unfold State.normalStart
  extract_lets +onlyGivenNames -merge -useContext v1
  have hv1 : Reach T s₀ v1 := (State.judgeSwitch_reach (sub_.sub (by decide)) (State.takeLatches_reach (sub_.sub (by decide)) (State.outputWrite_reach (sub_.sub (by decide)) reach_)))
  clear_value v1
  split
  · exact (State.runCycle_reach (sub_.sub (by decide)) (State.switchTo_reach (sub_.sub (by decide)) hv1))
  · exact (State.runCycle_reach (sub_.sub (by decide)) hv1)

theorem State.cycleStart_reach {T : Nat} {s₀ s : State} {c : Container} (sub_ : Sub 137211688940 T) (reach_ : Reach T s₀ s) :
    Reach T s₀ (State.cycleStart s c) := by
  unfold State.cycleStart
  extract_lets +onlyGivenNames -merge -useContext v1
  have hv1 : Reach T s₀ v1 := (State.canLate_reach (sub_.sub (by decide)) (State.finishAll_reach (sub_.sub (by decide)) reach_))
  clear_value v1
  extract_lets +onlyGivenNames -merge -useContext v2
  extract_lets +onlyGivenNames -merge -useContext v3
  extract_lets +onlyGivenNames -merge -useContext v4
  extract_lets +onlyGivenNames -merge -useContext v5
  have hv5 : Reach T s₀ v5 := (Reach.set_prog_ring (sub_.sub (by decide)) hv1 (fun k => { k with }))
  clear_value v5
  split
  · exact (Reach.ite (fun _ => (State.judgeSwitch_reach (sub_.sub (by decide)) (State.takeLatches_reach (sub_.sub (by decide)) hv5))) (fun _ => (State.runCycle_reach (sub_.sub (by decide)) (State.coldStart_reach (sub_.sub (by decide)) (State.takeLatches_reach (sub_.sub (by decide)) hv5)))))
  · exact (Reach.ite (fun _ => (State.judgeSwitch_reach (sub_.sub (by decide)) (State.takeLatches_reach (sub_.sub (by decide)) hv5))) (fun _ => (by
      split
      · exact (State.skippedStart_reach (sub_.sub (by decide)) hv5)
      · exact (State.normalStart_reach (sub_.sub (by decide)) hv5))))

theorem execProgramCycleStart_reach {T : Nat} {s₀ s : State} (sub_ : Sub 137211688940 T) (reach_ : Reach T s₀ s) :
    Within T s₀ (execProgramCycleStart s) := by
  unfold execProgramCycleStart
  split
  · exact (Within.next reach_)
  · exact (Within.next (Reach.ite (fun _ => (State.cycleStart_reach (sub_.sub (by decide)) reach_)) (fun _ => reach_)))

theorem execProgramCycleComplete_reach {T : Nat} {s₀ s : State} {us : Nat} (sub_ : Sub 536870912 T) (reach_ : Reach T s₀ s) :
    Within T s₀ (execProgramCycleComplete us s) := by
  unfold execProgramCycleComplete
  split
  · exact (Within.next reach_)
  · exact (by
      extract_lets +onlyGivenNames -merge -useContext v1
      exact (Within.next (Reach.set_prog (sub_.sub (by decide)) reach_ (fun k => ⟨k.1, k.2, k.3⟩))))

theorem execSwitchAbandoned_reach {T : Nat} {s₀ s : State} (sub_ : Sub 41339060224 T) (reach_ : Reach T s₀ s) :
    Within T s₀ (execSwitchAbandoned s) := by
  unfold execSwitchAbandoned
  split
  · exact (Within.next reach_)
  · exact (Within.next (Reach.ite (fun _ => reach_) (fun _ => (State.refuseSwitch_reach (sub_.sub (by decide)) reach_))))

theorem State.endXfer_reach {T : Nat} {s₀ s : State} {k : XKind} (sub_ : Sub 4294967296 T) (reach_ : Reach T s₀ s) :
    Reach T s₀ (State.endXfer s k) := by
  unfold State.endXfer
  exact Reach.set_host (sub_.sub (by decide)) reach_

theorem execProgramVerified_reach {T : Nat} {s₀ s : State} (sub_ : Sub 39191576576 T)
    (reach_ : Reach T s₀ s) : Within T s₀ (execProgramVerified s) := by
  unfold execProgramVerified
  refine Within.ite (fun _ => Within.next reach_) (fun _ => ?_)
  split
  rename_i u eu
  have hu : Reach T s₀ u := by
    split at eu
    · cases eu
      exact Reach.set_prog (sub_.sub (by decide)) reach_ (fun k => ⟨k.1, k.2, k.3⟩)
    · cases eu
      exact Reach.set_prog (sub_.sub (by decide)) reach_ (fun k => ⟨k.1, k.2, k.3⟩)
  extract_lets +onlyGivenNames -merge -useContext v1 w_ u2
  have hx : Reach T s₀ u2 := Reach.set_host (sub_.sub (by decide)) hu
  clear_value u2
  split
  · exact Within.next (State.answer_reach (sub_.sub (by decide)) hx)
  · exact Within.next hx

theorem State.forceSet_reach {T : Nat} {s₀ s : State} {session : Nat} {id : BitVec 16} {w : BitVec 32}
    (sub_ : Sub 37044092928 T) (reach_ : Reach T s₀ s) :
    Reach T s₀ (State.forceSet s session id w).2 := by
  unfold State.forceSet
  split
  · exact (Reach.mk2 reach_)
  · exact (by
      split
      · exact (Reach.mk2 reach_)
      · exact (Reach.ite2 (fun _ => (Reach.mk2 reach_)) (fun _ => (Reach.ite2 (fun _ => (Reach.mk2 reach_)) (fun _ => (by
          extract_lets +onlyGivenNames -merge -useContext v1
          clear_value v1
          split
          · exact (Reach.mk2 reach_)
          · exact (by
              extract_lets +onlyGivenNames -merge -useContext v2
              extract_lets +onlyGivenNames -merge -useContext w_ u3
              have hu3 : Reach T s₀ u3 := (Reach.set_prog (sub_.sub (by decide)) reach_ (fun k => ⟨k.1, k.2, k.3⟩))
              clear_value u3
              exact (Reach.mk2 (State.record_reach (sub_.sub (by decide)) hu3)))))))))

theorem State.forceClear_reach {T : Nat} {s₀ s : State} {session : Nat} {id : BitVec 16} (sub_ : Sub 37044092928 T) (reach_ :
    Reach T s₀ s) :
    Reach T s₀ (State.forceClear s session id).2 := by
  unfold State.forceClear
  split
  · exact (Reach.mk2 reach_)
  · exact (by
      extract_lets +onlyGivenNames -merge -useContext w_ u1
      have hu1 : Reach T s₀ u1 := (Reach.set_prog (sub_.sub (by decide)) reach_ (fun k => ⟨k.1, k.2, k.3⟩))
      clear_value u1
      exact (Reach.mk2 (State.record_reach (sub_.sub (by decide)) hu1)))

end Sys2Proof.Machine
end

