-- ==== Sys2Proof/Laws/Frame/HostCommands.lean ====
section
/-! SUPPORT. What the operations of Machine/HostCommands.lean may change: one lemma for each, whose mask names the fields. -/

set_option Elab.async false

namespace Sys2Proof.Machine

theorem State.serveDoor_reach {T : Nat} {s₀ s : State} {p : Pend} {role : Nat} {payload : Bytes} (sub_ : Sub 38656802816 T)
    (reach_ : Reach T s₀ s) :
    Reach T s₀ (State.serveDoor s p role payload) := by
  unfold State.serveDoor
  extract_lets +onlyGivenNames -merge -useContext v1
  exact (Reach.ite (fun _ => (State.answer_reach (sub_.sub (by decide)) reach_)) (fun _ => (Reach.ite (fun _ => (State.answer_reach (sub_.sub (by decide)) reach_)) (fun _ => (Reach.ite (fun _ => (State.answer_reach (sub_.sub (by decide)) reach_)) (fun _ => (by
  split
  · exact (State.answer_reach (sub_.sub (by decide)) reach_)
  · exact (Reach.ite (fun _ => (State.answer_reach (sub_.sub (by decide)) reach_)) (fun _ => (State.enterLatch_reach (sub_.sub (by decide)) reach_))))))))))

theorem execDoorCmd_reach {T : Nat} {s₀ s : State} {k : Pkt} (sub_ : Sub 57985204224 T) (reach_ : Reach T s₀ s) :
    Within T s₀ (execDoorCmd k s) := by
  unfold execDoorCmd
  exact Within.vet (State.vet_ok (sub_.sub (by decide)) reach_) (fun u1 hu1 => (Within.next hu1)) (fun u1 _ _ _ hu1 => (Within.next (State.serveDoor_reach (sub_.sub (by decide)) hu1)))

theorem State.serveAxis_reach {T : Nat} {s₀ s : State} {p : Pend} {a : Nat} {c : AxCmd} (sub_ : Sub 38655754240 T)
    (reach_ : Reach T s₀ s) :
    Reach T s₀ (State.serveAxis s p a c) := by
  unfold State.serveAxis
  exact (Reach.ite (fun _ => (State.answer_reach (sub_.sub (by decide)) reach_)) (fun _ => (Reach.ite (fun _ => (State.answer_reach (sub_.sub (by decide)) reach_)) (fun _ => (State.post_reach (sub_.sub (by decide)) reach_)))))

theorem State.axisPacket_reach {T : Nat} {s₀ s : State} {k : Pkt} {c : Int → Rat → Bool → AxCmd} (sub_ : Sub 57985204224 T)
    (reach_ : Reach T s₀ s) :
    Reach T s₀ (State.axisPacket s k c) := by
  unfold State.axisPacket
  extract_lets +onlyGivenNames -merge -useContext v1
  exact (Reach.vet (State.vet_ok (sub_.sub (by decide)) reach_) (fun u2 hu2 => hu2) (fun u2 _ _ _ hu2 => (by
  extract_lets +onlyGivenNames -merge -useContext v3
  exact (Reach.ite (fun _ => (State.answer_reach (sub_.sub (by decide)) hu2)) (fun _ => (State.serveAxis_reach (sub_.sub (by decide)) hu2))))))

theorem execMoveAbs_reach {T : Nat} {s₀ s : State} {k : Pkt} (sub_ : Sub 57985204224 T) (reach_ : Reach T s₀ s) :
    Within T s₀ (execMoveAbs k s) := by
  unfold execMoveAbs
  exact Within.next (State.axisPacket_reach (sub_.sub (by decide)) reach_)

theorem execMoveRel_reach {T : Nat} {s₀ s : State} {k : Pkt} (sub_ : Sub 57985204224 T) (reach_ : Reach T s₀ s) :
    Within T s₀ (execMoveRel k s) := by
  unfold execMoveRel
  exact Within.next (State.axisPacket_reach (sub_.sub (by decide)) reach_)

theorem execMoveVel_reach {T : Nat} {s₀ s : State} {k : Pkt} (sub_ : Sub 57985204224 T) (reach_ : Reach T s₀ s) :
    Within T s₀ (execMoveVel k s) := by
  unfold execMoveVel
  exact Within.next (State.axisPacket_reach (sub_.sub (by decide)) reach_)

theorem execStop_reach {T : Nat} {s₀ s : State} {k : Pkt} (sub_ : Sub 57985204224 T) (reach_ : Reach T s₀ s) :
    Within T s₀ (execStop k s) := by
  unfold execStop
  exact Within.next (State.axisPacket_reach (sub_.sub (by decide)) reach_)

theorem execQuickStop_reach {T : Nat} {s₀ s : State} {k : Pkt} (sub_ : Sub 57985204224 T) (reach_ : Reach T s₀ s) :
    Within T s₀ (execQuickStop k s) := by
  unfold execQuickStop
  exact Within.next (State.axisPacket_reach (sub_.sub (by decide)) reach_)

theorem execRelease_reach {T : Nat} {s₀ s : State} {k : Pkt} (sub_ : Sub 57985204224 T) (reach_ : Reach T s₀ s) :
    Within T s₀ (execRelease k s) := by
  unfold execRelease
  exact Within.next (State.axisPacket_reach (sub_.sub (by decide)) reach_)

theorem execGearEngage_reach {T : Nat} {s₀ s : State} {k : Pkt} (sub_ : Sub 57985204224 T) (reach_ : Reach T s₀ s) :
    Within T s₀ (execGearEngage k s) := by
  unfold execGearEngage
  exact Within.next (State.axisPacket_reach (sub_.sub (by decide)) reach_)

theorem execGearDisengage_reach {T : Nat} {s₀ s : State} {k : Pkt} (sub_ : Sub 57985204224 T) (reach_ : Reach T s₀ s) :
    Within T s₀ (execGearDisengage k s) := by
  unfold execGearDisengage
  exact Within.next (State.axisPacket_reach (sub_.sub (by decide)) reach_)

theorem execEnergize_reach {T : Nat} {s₀ s : State} {k : Pkt} (sub_ : Sub 57985204224 T) (reach_ : Reach T s₀ s) :
    Within T s₀ (execEnergize k s) := by
  unfold execEnergize
  exact Within.next (State.axisPacket_reach (sub_.sub (by decide)) reach_)

theorem execDeenergize_reach {T : Nat} {s₀ s : State} {k : Pkt} (sub_ : Sub 57985204224 T) (reach_ : Reach T s₀ s) :
    Within T s₀ (execDeenergize k s) := by
  unfold execDeenergize
  exact Within.next (State.axisPacket_reach (sub_.sub (by decide)) reach_)

theorem execCommLearn_reach {T : Nat} {s₀ s : State} {k : Pkt} (sub_ : Sub 57985204224 T) (reach_ : Reach T s₀ s) :
    Within T s₀ (execCommLearn k s) := by
  unfold execCommLearn
  exact Within.next (State.axisPacket_reach (sub_.sub (by decide)) reach_)

theorem execForceSet_reach {T : Nat} {s₀ s : State} {k : Pkt} (sub_ : Sub 58522075136 T) (reach_ : Reach T s₀ s) :
    Within T s₀ (execForceSet k s) := by
  unfold execForceSet
  exact Within.vet (State.vet_ok (sub_.sub (by decide)) reach_) (fun u1 hu1 => (Within.next hu1)) (fun u1 _ _ _ hu1 => (by
    split
    rename_i u2 eu2
    have hu2 : Reach T s₀ u2 := Reach.of_eq eu2 (State.forceSet_reach (sub_.sub (by decide)) hu1)
    exact (Within.next (State.answer_reach (sub_.sub (by decide)) hu2))))

theorem execForceClear_reach {T : Nat} {s₀ s : State} {k : Pkt} (sub_ : Sub 58522075136 T) (reach_ : Reach T s₀ s) :
    Within T s₀ (execForceClear k s) := by
  unfold execForceClear
  exact Within.vet (State.vet_ok (sub_.sub (by decide)) reach_) (fun u1 hu1 => (Within.next hu1)) (fun u1 _ _ _ hu1 => (by
    split
    rename_i u2 eu2
    have hu2 : Reach T s₀ u2 := Reach.of_eq eu2 (State.forceClear_reach (sub_.sub (by decide)) hu1)
    exact (Within.next (State.answer_reach (sub_.sub (by decide)) hu2))))

theorem State.beginXfer_reach {T : Nat} {s₀ s : State} {p : Pend} {kind : XKind} {lo hi : Nat} {payload : Bytes}
    (sub_ : Sub 38654705664 T) (reach_ : Reach T s₀ s) :
    Reach T s₀ (State.beginXfer s p kind lo hi payload) := by
  unfold State.beginXfer
  extract_lets +onlyGivenNames -merge -useContext v1
  exact (Reach.ite (fun _ => (State.answer_reach (sub_.sub (by decide)) reach_)) (fun _ => (Reach.ite (fun _ => (State.answer_reach (sub_.sub (by decide)) reach_)) (fun _ => (by
  extract_lets +onlyGivenNames -merge -useContext v2
  extract_lets +onlyGivenNames -merge -useContext v3
  extract_lets +onlyGivenNames -merge -useContext w_ u4
  have hu4 : Reach T s₀ u4 := (Reach.set_host (sub_.sub (by decide)) reach_)
  clear_value u4
  exact (State.answer_reach (sub_.sub (by decide)) hu4))))))

theorem State.modXfer_reach {T : Nat} {s₀ s : State} {k : XKind} {f : Xfer → Xfer} (sub_ : Sub 4294967296 T)
    (reach_ : Reach T
    s₀ s) :
    Reach T s₀ (State.modXfer s k f) := by
  unfold State.modXfer
  exact Reach.set_host (sub_.sub (by decide)) reach_

theorem State.dataXfer_reach {T : Nat} {s₀ s : State} {p : Pend} {stage : Bool} {payload : Bytes} (sub_ : Sub 38654705664 T)
    (reach_ : Reach T s₀ s) :
    Reach T s₀ (State.dataXfer s p stage payload) := by
  unfold State.dataXfer
  split
  · exact (State.answer_reach (sub_.sub (by decide)) reach_)
  · exact (by
      extract_lets +onlyGivenNames -merge -useContext v1
      exact (Reach.ite (fun _ => (State.answer_reach (sub_.sub (by decide)) reach_)) (fun _ => (Reach.ite (fun _ => (State.answer_reach (sub_.sub (by decide)) reach_)) (fun _ => (by
      extract_lets +onlyGivenNames -merge -useContext u2
      have hu2 : Reach T s₀ u2 := (State.modXfer_reach (sub_.sub (by decide)) reach_)
      clear_value u2
      exact (State.answer_reach (sub_.sub (by decide)) hu2)))))))

theorem execTransferAbandon_reach {T : Nat} {s₀ s : State} {kind : Nat} (sub_ : Sub 4294967296 T) (reach_ : Reach T s₀ s) :
    Within T s₀ (execTransferAbandon kind s) := by
  unfold execTransferAbandon
  extract_lets +onlyGivenNames -merge -useContext v1
  exact (Within.next (Reach.set_host (sub_.sub (by decide)) reach_))

theorem execProgBegin_reach {T : Nat} {s₀ s : State} {k : Pkt} (sub_ : Sub 57985204224 T) (reach_ : Reach T s₀ s) :
    Within T s₀ (execProgBegin k s) := by
  unfold execProgBegin
  exact Within.vet (State.vet_ok (sub_.sub (by decide)) reach_) (fun u1 hu1 => (Within.next hu1)) (fun u1 _ _ _ hu1 => (Within.next (Reach.ite (fun _ => (State.answer_reach (sub_.sub (by decide)) hu1)) (fun _ => (State.beginXfer_reach (sub_.sub (by decide)) hu1)))))

theorem execProgData_reach {T : Nat} {s₀ s : State} {k : Pkt} (sub_ : Sub 57985204224 T) (reach_ : Reach T s₀ s) :
    Within T s₀ (execProgData k s) := by
  unfold execProgData
  exact Within.vet (State.vet_ok (sub_.sub (by decide)) reach_) (fun u1 hu1 => (Within.next hu1)) (fun u1 _ _ _ hu1 => (Within.next (State.dataXfer_reach (sub_.sub (by decide)) hu1)))

theorem State.endProg_reach {T : Nat} {s₀ s : State} {p : Pend} {x : Xfer} (sub_ : Sub 39191576576 T)
    (reach_ : Reach T s₀ s) :
    Reach T s₀ (State.endProg s p x) := by
  unfold State.endProg
  exact Reach.ite (fun _ => (State.answer_reach (sub_.sub (by decide)) reach_)) (fun _ => (Reach.ite (fun _ => (State.answer_reach (sub_.sub (by decide)) (State.endXfer_reach (sub_.sub (by decide)) reach_))) (fun _ => (by
    extract_lets +onlyGivenNames -merge -useContext u1
    have hu1 : Reach T s₀ u1 := (State.modXfer_reach (sub_.sub (by decide)) reach_)
    clear_value u1
    exact (Reach.set_prog (sub_.sub (by decide)) hu1 (fun k => ⟨k.1, k.2, k.3⟩))))))

theorem execProgEnd_reach {T : Nat} {s₀ s : State} {k : Pkt} (sub_ : Sub 58522075136 T) (reach_ : Reach T s₀ s) :
    Within T s₀ (execProgEnd k s) := by
  unfold execProgEnd
  exact Within.vet (State.vet_ok (sub_.sub (by decide)) reach_) (fun u1 hu1 => (Within.next hu1)) (fun u1 _ _ _ hu1 => (by
    split
    · exact (Within.next (State.answer_reach (sub_.sub (by decide)) hu1))
    · exact (Within.next (Reach.ite (fun _ => (State.answer_reach (sub_.sub (by decide)) hu1)) (fun _ => (State.endProg_reach (sub_.sub (by decide)) hu1))))))

theorem State.beginExclusive_reach {T : Nat} {s₀ s : State} {p : Pend} (sub_ : Sub 4294967296 T) (reach_ : Reach T s₀ s) :
    Reach T s₀ (State.beginExclusive s p) := by
  unfold State.beginExclusive
  exact Reach.set_host (sub_.sub (by decide)) reach_

theorem execProgSwitch_reach {T : Nat} {s₀ s : State} {k : Pkt} (sub_ : Sub 58522075136 T) (reach_ : Reach T s₀ s) :
    Within T s₀ (execProgSwitch k s) := by
  unfold execProgSwitch
  exact Within.vet (State.vet_ok (sub_.sub (by decide)) reach_) (fun u1 hu1 => (Within.next hu1)) (fun u1 _ _ _ hu1 => (Within.ite (fun _ => (Within.next (State.answer_reach (sub_.sub (by decide)) hu1))) (fun _ => (by
    extract_lets +onlyGivenNames -merge -useContext u2
    have hu2 : Reach T s₀ u2 := (State.beginExclusive_reach (sub_.sub (by decide)) hu1)
    clear_value u2
    exact (Within.ite (fun _ => (Within.next (Reach.set_prog (sub_.sub (by decide)) hu2 (fun k => ⟨k.1, k.2, k.3⟩)))) (fun _ => (Within.next (State.refuseSwitch_reach (sub_.sub (by decide)) hu2))))))))

theorem State.modeRequest_reach {T : Nat} {s₀ s : State} {k : Pkt} {new : Mode} (sub_ : Sub 58010370048 T)
    (reach_ : Reach T s₀
    s) :
    Reach T s₀ (State.modeRequest s k new) := by
  unfold State.modeRequest
  extract_lets +onlyGivenNames -merge -useContext v1
  extract_lets +onlyGivenNames -merge -useContext v2
  exact (Reach.vet (State.vet_ok (sub_.sub (by decide)) reach_) (fun u3 hu3 => hu3) (fun u3 _ _ _ hu3 => (Reach.ite (fun _ => (State.answer_reach (sub_.sub (by decide)) hu3)) (fun _ => (by
  split
  · exact (State.answer_reach (sub_.sub (by decide)) hu3)
  · exact (by
      extract_lets +onlyGivenNames -merge -useContext u4
      have hu4 : Reach T s₀ u4 := (State.beginExclusive_reach (sub_.sub (by decide)) hu3)
      clear_value u4
      exact (State.propose_reach (sub_.sub (by decide)) (Reach.set_host (sub_.sub (by decide)) hu4))))))))

theorem execModeRequestStandby_reach {T : Nat} {s₀ s : State} {k : Pkt} (sub_ : Sub 58010370048 T) (reach_ : Reach T s₀ s) :
    Within T s₀ (execModeRequestStandby k s) := by
  unfold execModeRequestStandby
  exact Within.next (State.modeRequest_reach (sub_.sub (by decide)) reach_)

theorem execModeRequestRun_reach {T : Nat} {s₀ s : State} {k : Pkt} (sub_ : Sub 58010370048 T) (reach_ : Reach T s₀ s) :
    Within T s₀ (execModeRequestRun k s) := by
  unfold execModeRequestRun
  exact Within.next (State.modeRequest_reach (sub_.sub (by decide)) reach_)

theorem execModeRequestMaintenance_reach {T : Nat} {s₀ s : State} {k : Pkt} (sub_ : Sub 58010370048 T)
    (reach_ : Reach T s₀ s) :
    Within T s₀ (execModeRequestMaintenance k s) := by
  unfold execModeRequestMaintenance
  exact Within.next (State.modeRequest_reach (sub_.sub (by decide)) reach_)

theorem execModeRequestUpdate_reach {T : Nat} {s₀ s : State} {k : Pkt} (sub_ : Sub 58010370048 T) (reach_ : Reach T s₀ s) :
    Within T s₀ (execModeRequestUpdate k s) := by
  unfold execModeRequestUpdate
  exact Within.next (State.modeRequest_reach (sub_.sub (by decide)) reach_)

theorem State.restart_reach {T : Nat} {s₀ s : State} {k : Pkt} {whole : Bool} (sub_ : Sub 57985204224 T)
    (reach_ : Reach T s₀ s) :
    Reach T s₀ (State.restart s k whole) := by
  unfold State.restart
  exact Reach.vet (State.vet_ok (sub_.sub (by decide)) reach_) (fun u1 hu1 => hu1) (fun u1 _ _ _ hu1 => (Reach.ite (fun _ => (State.answer_reach (sub_.sub (by decide)) hu1)) (fun _ => (by
    extract_lets +onlyGivenNames -merge -useContext u2
    have hu2 : Reach T s₀ u2 := (State.answer_reach (sub_.sub (by decide)) hu1)
    clear_value u2
    exact (Reach.set_host (sub_.sub (by decide)) hu2)))))

theorem execRestartHallA_reach {T : Nat} {s₀ s : State} {k : Pkt} (sub_ : Sub 57985204224 T) (reach_ : Reach T s₀ s) :
    Within T s₀ (execRestartHallA k s) := by
  unfold execRestartHallA
  exact Within.next (State.restart_reach (sub_.sub (by decide)) reach_)

theorem execRestartModule_reach {T : Nat} {s₀ s : State} {k : Pkt} (sub_ : Sub 57985204224 T) (reach_ : Reach T s₀ s) :
    Within T s₀ (execRestartModule k s) := by
  unfold execRestartModule
  exact Within.next (State.restart_reach (sub_.sub (by decide)) reach_)

theorem State.badSelector_reach {T : Nat} {s₀ s : State} {o : OpSpec} {k : Pkt} (sub_ : Sub 57985204224 T)
    (reach_ : Reach T s₀
    s) :
    Reach T s₀ (State.badSelector s o k) := by
  unfold State.badSelector
  exact Reach.vet (State.vet_ok (sub_.sub (by decide)) reach_) (fun u1 hu1 => hu1) (fun u1 _ _ _ hu1 => (State.answer_reach (sub_.sub (by decide)) hu1))

theorem State.rejectSelector_reach {T : Nat} {s₀ s : State} {op : Nat} {k : Pkt} (sub_ : Sub 57985204224 T) (reach_ : Reach T
    s₀ s) :
    Reach T s₀ (State.rejectSelector s op k) := by
  unfold State.rejectSelector
  extract_lets +onlyGivenNames -merge -useContext v1
  extract_lets +onlyGivenNames -merge -useContext v2
  exact (Reach.ite (fun _ => (State.badSelector_reach (sub_.sub (by decide)) reach_)) (fun _ => (Reach.ite (fun _ => (State.badSelector_reach (sub_.sub (by decide)) reach_)) (fun _ => (Reach.ite (fun _ => (State.badSelector_reach (sub_.sub (by decide)) reach_)) (fun _ => reach_))))))

theorem execHostPacketRejected_reach {T : Nat} {s₀ : State} {sv : Bool} {src : BitVec 48} {frame : Bytes} {s : State}
    (sub_ : Sub 57985204224 T) (reach_ : Reach T s₀ s) :
    Within T s₀ (execHostPacketRejected sv src frame s) := by
  unfold execHostPacketRejected
  exact (Within.ite (fun _ => (Within.next reach_)) (fun _ => (by
    split
    · exact (Within.next (Reach.set_host (sub_.sub (by decide)) reach_))
    · extract_lets +onlyGivenNames -merge -useContext v1
      extract_lets +onlyGivenNames -merge -useContext v2
      exact (Within.ite (fun _ => (Within.next (Reach.set_host (sub_.sub (by decide)) reach_))) (fun _ => (by
        split
        · exact (Within.next (State.replyRaw_reach (sub_.sub (by decide)) reach_))
        · exact (Within.next (State.rejectSelector_reach (sub_.sub (by decide)) reach_))))))))

end Sys2Proof.Machine
end

