-- ==== Sys2Proof/Laws/Frame/SensePort.lean ====
section
/-! SUPPORT. What the operations of Machine/SensePort.lean may change: one lemma for each, whose mask names the fields. -/

set_option Elab.async false

namespace Sys2Proof.Machine

theorem State.restartBanks_reach {T : Nat} {s₀ s : State} (sub_ : Sub 65536 T) (reach_ : Reach T s₀ s) :
    Reach T s₀ (State.restartBanks s) := by
  unfold State.restartBanks
  exact (State.mapSenses_reach (sub_.sub (by decide)) reach_)

theorem State.sampleInputs_reach {T : Nat} {s₀ s : State} {i : SampleIn} (sub_ : Sub 458752 T) (reach_ : Reach T s₀ s) :
    Reach T s₀ (State.sampleInputs s i) := by
  unfold State.sampleInputs
  extract_lets +onlyGivenNames -merge -useContext v1
  have hv1 : Reach T s₀ v1 := (State.restartBanks_reach (sub_.sub (by decide)) reach_)
  clear_value v1
  extract_lets +onlyGivenNames -merge -useContext v2
  have hv2 : Reach T s₀ v2 := (State.mapSenses_reach (sub_.sub (by decide)) hv1)
  clear_value v2
  extract_lets +onlyGivenNames -merge -useContext v3
  have hv3 : Reach T s₀ v3 := (Reach.set_cleaners (sub_.sub (by decide)) hv2 (List.length_map ..))
  clear_value v3
  exact (State.mapPorts_reach (sub_.sub (by decide)) hv3)

theorem State.first151_reach {T : Nat} {s₀ s : State} (sub_ : Sub 36540776448 T) (reach_ : Reach T s₀ s) :
    Reach T s₀ (State.first151 s) := by
  unfold State.first151
  extract_lets +onlyGivenNames -merge -useContext v1
  exact (Reach.ite (fun _ => reach_) (fun _ => (by
  extract_lets +onlyGivenNames -merge -useContext v2
  extract_lets +onlyGivenNames -merge -useContext w_ u3
  have hu3 : Reach T s₀ u3 := (Reach.set_safety (sub_.sub (by decide)) reach_ rfl)
  clear_value u3
  exact (State.recordIf_reach (sub_.sub (by decide)) hu3))))

theorem execDebouncedChange_reach {T : Nat} {s₀ s : State} {l : Nat} {r : RxSide} (sub_ : Sub 36540841984 T)
    (reach_ : Reach T
    s₀ s) :
    Within T s₀ (execDebouncedChange l r s) := by
  unfold execDebouncedChange
  exact Within.onUnit (Reach.ite (fun _ => reach_) (fun _ => (by
    split
    · exact (by
        split
        · exact reach_
        · exact (State.modSense_reach (sub_.sub (by decide)) reach_))
    · exact (by
        split
        · exact reach_
        · exact (State.first151_reach (sub_.sub (by decide)) (State.modSense_reach (sub_.sub (by decide)) reach_))))))

theorem execCleaningPulse_reach {T : Nat} {s₀ : State} {l : Nat} {s : State} (sub_ : Sub 131072 T) (reach_ : Reach T s₀ s) :
    Within T s₀ (execCleaningPulse l s) := by
  unfold execCleaningPulse
  exact (Within.onUnit (by
    extract_lets +onlyGivenNames -merge -useContext v1
    extract_lets +onlyGivenNames -merge -useContext v2
    extract_lets +onlyGivenNames -merge -useContext v3
    exact (Reach.ite (fun _ => reach_) (fun _ => (Reach.set_cleaners (sub_.sub (by decide)) reach_ List.length_set)))))

theorem execCleaningPulseEnd_reach {T : Nat} {s₀ : State} {l : Nat} {s : State} (sub_ : Sub 196608 T)
    (reach_ : Reach T s₀ s) :
    Within T s₀ (execCleaningPulseEnd l s) := by
  unfold execCleaningPulseEnd
  exact (Within.onUnit (by
    extract_lets +onlyGivenNames -merge -useContext v1
    extract_lets +onlyGivenNames -merge -useContext v2
    exact (Reach.ite (fun _ => (State.modSense_reach (sub_.sub (by decide)) (Reach.set_cleaners (sub_.sub (by decide)) reach_ List.length_set))) (fun _ => reach_))))

theorem execSenseTrackFence_reach {T : Nat} {s₀ : State} {l : Nat} {s : State} (sub_ : Sub 36507287552 T)
    (reach_ : Reach T s₀ s) :
    Within T s₀ (execSenseTrackFence l s) := by
  unfold execSenseTrackFence
  exact (Within.onUnit (by
    extract_lets +onlyGivenNames -merge -useContext v1
    exact (Reach.ite (fun _ => reach_) (fun _ => (State.recordIf_reach (sub_.sub (by decide)) (State.modSense_reach (sub_.sub (by decide)) reach_))))))

theorem execSenseRxMismatch_reach {T : Nat} {s₀ : State} {l : Nat} {s : State} (sub_ : Sub 36507287552 T)
    (reach_ : Reach T s₀ s) :
    Within T s₀ (execSenseRxMismatch l s) := by
  unfold execSenseRxMismatch
  exact (Within.onUnit (by
    extract_lets +onlyGivenNames -merge -useContext v1
    exact (Reach.ite (fun _ => reach_) (fun _ => (State.recordIf_reach (sub_.sub (by decide)) (State.modSense_reach (sub_.sub (by decide)) reach_))))))

theorem execSenseRxMismatchClear_reach {T : Nat} {s₀ s : State} {l : Nat} (sub_ : Sub 65536 T) (reach_ : Reach T s₀ s) :
    Within T s₀ (execSenseRxMismatchClear l s) := by
  unfold execSenseRxMismatchClear
  exact Within.onUnit (Reach.ite (fun _ => reach_) (fun _ => (State.modSense_reach (sub_.sub (by decide)) reach_)))

theorem execSenseLoopFault_reach {T : Nat} {s₀ : State} {l : Nat} {s : State} (sub_ : Sub 36507287552 T)
    (reach_ : Reach T s₀ s) :
    Within T s₀ (execSenseLoopFault l s) := by
  unfold execSenseLoopFault
  exact (Within.onUnit (by
    extract_lets +onlyGivenNames -merge -useContext v1
    extract_lets +onlyGivenNames -merge -useContext v2
    exact (Reach.ite (fun _ => (State.recordIf_reach (sub_.sub (by decide)) (State.modSense_reach (sub_.sub (by decide)) reach_))) (fun _ => reach_))))

theorem execSenseOverRange_reach {T : Nat} {s₀ : State} {l : Nat} {s : State} (sub_ : Sub 36507287552 T)
    (reach_ : Reach T s₀ s) :
    Within T s₀ (execSenseOverRange l s) := by
  unfold execSenseOverRange
  exact (Within.onUnit (by
    extract_lets +onlyGivenNames -merge -useContext v1
    exact (Reach.ite (fun _ => (State.recordIf_reach (sub_.sub (by decide)) (State.modSense_reach (sub_.sub (by decide)) reach_))) (fun _ => reach_))))

theorem execBurdenReconnect_reach {T : Nat} {s₀ s : State} {l : Nat} (sub_ : Sub 65536 T) (reach_ : Reach T s₀ s) :
    Within T s₀ (execBurdenReconnect l s) := by
  unfold execBurdenReconnect
  exact Within.onUnit (by
    split
    · exact reach_
    · exact (Reach.ite (fun _ => reach_) (fun _ => (State.modSense_reach (sub_.sub (by decide)) reach_))))

theorem execReedInputChange_reach {T : Nat} {s₀ s : State} {p : Nat} {b : Bool} (sub_ : Sub 262144 T)
    (reach_ : Reach T s₀ s) :
    Within T s₀ (execReedInputChange p b s) := by
  unfold execReedInputChange
  exact Within.onUnit (by
    extract_lets +onlyGivenNames -merge -useContext v1
    exact (Reach.ite (fun _ => reach_) (fun _ => (State.modPort_reach (sub_.sub (by decide)) reach_))))

theorem State.refineComm_reach {T : Nat} {s₀ s : State} {a : Nat} {countRef : Int} (sub_ : Sub 36508270592 T)
    (reach_ : Reach T s₀ s) :
    Reach T s₀ (State.refineComm s a countRef) := by
  unfold State.refineComm
  extract_lets +onlyGivenNames -merge -useContext v1
  extract_lets +onlyGivenNames -merge -useContext v2
  extract_lets +onlyGivenNames -merge -useContext v3
  extract_lets +onlyGivenNames -merge -useContext v4
  have hv4 : Reach T s₀ v4 := (State.modAxis_reach (sub_.sub (by decide)) reach_)
  clear_value v4
  exact (State.record_reach (sub_.sub (by decide)) hv4)

theorem State.hallEdge_reach {T : Nat} {s₀ s : State} {p : Nat} {e : EdgeIn} (sub_ : Sub 262144 T) (reach_ : Reach T s₀ s) :
    Reach T s₀ (State.hallEdge s p e).2 := by
  unfold State.hallEdge
  split
  · exact reach_
  · refine Reach.ite2 (fun _ => Reach.mk2 reach_) (fun _ => ?_)
    extract_lets +onlyGivenNames -merge -useContext v1 u2
    have hu2 : Reach T s₀ u2 := State.modPort_reach (sub_.sub (by decide)) reach_
    clear_value u2 v1
    split
    · exact hu2
    · exact Reach.ite2 (fun _ => hu2) (fun _ => Reach.ite2 (fun _ => hu2) (fun _ => Reach.ite2 (fun _ => hu2) (fun _ => hu2)))

theorem State.takeEdge_reach {T : Nat} {s₀ s : State} {p : Nat} {e : EdgeIn} (sub_ : Sub 105228533760 T)
    (reach_ : Reach T s₀ s) :
    Reach T s₀ (State.takeEdge s p e) := by
  unfold State.takeEdge
  extract_lets +onlyGivenNames -merge -useContext v1
  exact (Reach.ite (fun _ => (State.quadError_reach (sub_.sub (by decide)) reach_)) (fun _ => (by
    extract_lets +onlyGivenNames -merge -useContext v2
    have hv2 : Reach T s₀ v2 := (State.countEdge_reach (sub_.sub (by decide)) reach_)
    clear_value v2
    exact (Reach.ite (fun _ => hv2) (fun _ => (Reach.forEach _ hv2 (fun u3 _ hu5 => (Reach.ite (fun _ => (State.refineComm_reach (sub_.sub (by decide)) (State.draw_reach (sub_.sub (by decide)) hu5))) (fun _ => hu5)))))))))

theorem execPortEdge_reach {T : Nat} {s₀ : State} {p : Nat} {e : EdgeIn} {s : State} (sub_ : Sub 105228533760 T)
    (reach_ : Reach T s₀ s) :
    Within T s₀ (execPortEdge p e s) := by
  unfold execPortEdge
  exact (Within.onUnit (Reach.ite (fun _ => reach_) (fun _ => (Reach.ite (fun _ => (State.takeEdge_reach (sub_.sub (by decide)) reach_)) (fun _ => (Reach.ite (fun _ => (by
    split
    rename_i a1 t1 e1
    have ht1 : Reach T s₀ t1 := Reach.of_eq e1 (State.hallEdge_reach (sub_.sub (by decide)) reach_)
    split
    · exact ht1
    · exact (State.takeEdge_reach (sub_.sub (by decide)) ht1))) (fun _ => reach_)))))))

theorem execAuxPulseEnd_reach {T : Nat} {s₀ s : State} {p : Nat} (sub_ : Sub 34360000512 T) (reach_ : Reach T s₀ s) :
    Within T s₀ (execAuxPulseEnd p s) := by
  unfold execAuxPulseEnd
  exact Within.onUnit (by
    split
    · exact reach_
    · exact (Reach.ite (fun _ => (State.setAux_reach (sub_.sub (by decide)) reach_)) (fun _ => reach_)))

theorem execEchoEdgeOut_reach {T : Nat} {s₀ : State} {f stamp : Nat} {s : State} (sub_ : Sub 34360524800 T)
    (reach_ : Reach T s₀ s) :
    Within T s₀ (execEchoEdgeOut f stamp s) := by
  unfold execEchoEdgeOut
  exact (Within.onUnit (by
    extract_lets +onlyGivenNames -merge -useContext v1
    extract_lets +onlyGivenNames -merge -useContext v2
    split
    · exact reach_
    · exact (Reach.ite (fun _ => reach_) (fun _ => (by
        extract_lets +onlyGivenNames -merge -useContext v3
        exact (State.driveEcho_reach (sub_.sub (by decide)) (State.modEcho_reach (sub_.sub (by decide)) reach_)))))))

theorem execPortStandstill_reach {T : Nat} {s₀ s : State} {p : Nat} (sub_ : Sub 262144 T) (reach_ : Reach T s₀ s) :
    Within T s₀ (execPortStandstill p s) := by
  unfold execPortStandstill
  exact Within.onUnit (by
    extract_lets +onlyGivenNames -merge -useContext v1
    exact (Reach.ite (fun _ => (State.modPort_reach (sub_.sub (by decide)) reach_)) (fun _ => reach_)))

theorem execPortLineFault_reach {T : Nat} {s₀ s : State} {p : Nat} (sub_ : Sub 36508540928 T) (reach_ : Reach T s₀ s) :
    Within T s₀ (execPortLineFault p s) := by
  unfold execPortLineFault
  exact Within.onUnit (Reach.ite (fun _ => reach_) (fun _ => (by
    extract_lets +onlyGivenNames -merge -useContext u1
    have hu1 : Reach T s₀ u1 := (State.invalidateCount_reach (sub_.sub (by decide)) (State.modPort_reach (sub_.sub (by decide)) reach_))
    clear_value u1
    exact (State.causeStopsFrom_reach (sub_.sub (by decide)) (State.record_reach (sub_.sub (by decide)) hu1)))))

theorem execPortHallInvalid_reach {T : Nat} {s₀ s : State} {p : Nat} (sub_ : Sub 36508540928 T) (reach_ : Reach T s₀ s) :
    Within T s₀ (execPortHallInvalid p s) := by
  unfold execPortHallInvalid
  exact Within.onUnit (Reach.ite (fun _ => reach_) (fun _ => (by
    extract_lets +onlyGivenNames -merge -useContext u1
    have hu1 : Reach T s₀ u1 := (State.invalidateCount_reach (sub_.sub (by decide)) (State.modPort_reach (sub_.sub (by decide)) reach_))
    clear_value u1
    exact (State.causeStopsFrom_reach (sub_.sub (by decide)) (State.record_reach (sub_.sub (by decide)) hu1)))))

theorem State.ssiMove_reach {T : Nat} {s₀ s : State} {p : Nat} {d : Int} (sub_ : Sub 34360000512 T) (reach_ : Reach T s₀ s) :
    Reach T s₀ (State.ssiMove s p d) := by
  unfold State.ssiMove
  extract_lets +onlyGivenNames -merge -useContext v1
  extract_lets +onlyGivenNames -merge -useContext u2
  have hu2 : Reach T s₀ u2 := (State.modPort_reach (sub_.sub (by decide)) reach_)
  clear_value u2
  exact (Reach.ite (fun _ => hu2) (fun _ => (State.edgeCmp_reach (sub_.sub (by decide)) hu2)))

theorem execSsiFrame_reach {T : Nat} {s₀ s : State} {p : Nat} {raw : Nat} (sub_ : Sub 36508540928 T)
    (reach_ : Reach T s₀ s) :
    Within T s₀ (execSsiFrame p raw s) := by
  unfold execSsiFrame
  exact Within.onUnit (Reach.ite (fun _ => reach_) (fun _ => (by
    extract_lets +onlyGivenNames -merge -useContext v1
    extract_lets +onlyGivenNames -merge -useContext v2
    extract_lets +onlyGivenNames -merge -useContext v3
    extract_lets +onlyGivenNames -merge -useContext v4
    extract_lets +onlyGivenNames -merge -useContext v5
    split
    · exact (State.modPort_reach (sub_.sub (by decide)) reach_)
    · exact (by
        extract_lets +onlyGivenNames -merge -useContext v6
        exact (Reach.ite (fun _ => (by
        extract_lets +onlyGivenNames -merge -useContext u7
        have hu7 : Reach T s₀ u7 := (State.modPort_reach (sub_.sub (by decide)) reach_)
        clear_value u7
        extract_lets +onlyGivenNames -merge -useContext u8
        have hu8 : Reach T s₀ u8 := (State.recordLimited_reach (sub_.sub (by decide)) hu7)
        clear_value u8
        exact (Reach.ite (fun _ => (by
        extract_lets +onlyGivenNames -merge -useContext u9
        have hu9 : Reach T s₀ u9 := (State.invalidateCount_reach (sub_.sub (by decide)) (State.modPort_reach (sub_.sub (by decide)) hu8))
        clear_value u9
        exact (State.causeStopsFrom_reach (sub_.sub (by decide)) (State.record_reach (sub_.sub (by decide)) hu9)))) (fun _ => hu8)))) (fun _ => (State.ssiMove_reach (sub_.sub (by decide)) (State.modPort_reach (sub_.sub (by decide)) reach_))))))))

theorem State.resync_reach {T : Nat} {s₀ s : State} {p : Nat} {j : Int} (sub_ : Sub 45098467328 T) (reach_ : Reach T s₀ s) :
    Reach T s₀ (State.resync s p j) := by
  unfold State.resync
  extract_lets +onlyGivenNames -merge -useContext v1
  extract_lets +onlyGivenNames -merge -useContext u2
  have hu2 : Reach T s₀ u2 := (State.modPort_reach (sub_.sub (by decide)) reach_)
  clear_value u2
  extract_lets +onlyGivenNames -merge -useContext u3
  have hu3 : Reach T s₀ u3 := (State.jumpMasters_reach (sub_.sub (by decide)) (State.jumpCmp_reach (sub_.sub (by decide)) hu2))
  clear_value u3
  exact (Reach.forEach _ hu3 (fun u4 _ hu4 => (Reach.ite (fun _ => (State.setUncertain_reach (sub_.sub (by decide)) hu4)) (fun _ => hu4))))

theorem State.learnComm_reach {T : Nat} {s₀ s : State} {a : Nat} (sub_ : Sub 68720525316 T) (reach_ : Reach T s₀ s) :
    Reach T s₀ (State.learnComm s a) := by
  unfold State.learnComm
  extract_lets +onlyGivenNames -merge -useContext v1
  extract_lets +onlyGivenNames -merge -useContext u2
  have hu2 : Reach T s₀ u2 := (State.setPar_reach (sub_.sub (by decide)) (State.draw_reach (sub_.sub (by decide)) reach_))
  clear_value u2
  exact (State.modAxis_reach (sub_.sub (by decide)) hu2)

theorem execIndexEvent_reach {T : Nat} {s₀ s : State} {p : Nat} (sub_ : Sub 113817944068 T) (reach_ : Reach T s₀ s) :
    Within T s₀ (execIndexEvent p s) := by
  unfold execIndexEvent
  exact Within.onUnit (Reach.ite (fun _ => reach_) (fun _ => (by
    extract_lets +onlyGivenNames -merge -useContext v1
    extract_lets +onlyGivenNames -merge -useContext v2
    extract_lets +onlyGivenNames -merge -useContext u3
    have hu3 : Reach T s₀ u3 := (State.modPort_reach (sub_.sub (by decide)) reach_)
    clear_value u3
    extract_lets +onlyGivenNames -merge -useContext v4
    extract_lets +onlyGivenNames -merge -useContext u5
    have hu5 : Reach T s₀ u5 := (by
        unfold u5
        split
        · exact (State.record_reach (sub_.sub (by decide)) hu3)
        · exact (State.record_reach (sub_.sub (by decide)) (State.resync_reach (sub_.sub (by decide)) hu3))
        · exact hu3)
    clear_value u5
    extract_lets +onlyGivenNames -merge -useContext v6
    extract_lets +onlyGivenNames -merge -useContext u7
    have hu7 : Reach T s₀ u7 := (State.modPort_reach (sub_.sub (by decide)) hu5)
    clear_value u7
    exact (Reach.forEach _ hu7 (fun u8 _ hu8 => (Reach.ite (fun _ => (State.learnComm_reach (sub_.sub (by decide)) hu8)) (fun _ => (Reach.ite (fun _ => (State.refineComm_reach (sub_.sub (by decide)) hu8)) (fun _ => hu8)))))))))

theorem execPortRxMismatch_reach {T : Nat} {s₀ : State} {p : Nat} {s : State} (sub_ : Sub 36507484160 T)
    (reach_ : Reach T s₀ s) :
    Within T s₀ (execPortRxMismatch p s) := by
  unfold execPortRxMismatch
  exact (Within.onUnit (Reach.ite (fun _ => reach_) (fun _ => (State.recordIf_reach (sub_.sub (by decide)) (State.modPort_reach (sub_.sub (by decide)) reach_)))))

theorem execPortSupplyFault_reach {T : Nat} {s₀ s : State} {p : Nat} (sub_ : Sub 36508540928 T) (reach_ : Reach T s₀ s) :
    Within T s₀ (execPortSupplyFault p s) := by
  unfold execPortSupplyFault
  exact Within.onUnit (Reach.ite (fun _ => reach_) (fun _ => (by
    extract_lets +onlyGivenNames -merge -useContext u1
    have hu1 : Reach T s₀ u1 := (State.modPort_reach (sub_.sub (by decide)) reach_)
    clear_value u1
    extract_lets +onlyGivenNames -merge -useContext u2
    have hu2 : Reach T s₀ u2 := (State.recordIf_reach (sub_.sub (by decide)) (State.invalidateCount_reach (sub_.sub (by decide)) hu1))
    clear_value u2
    exact (State.causeStopsFrom_reach (sub_.sub (by decide)) hu2))))

end Sys2Proof.Machine
end

