-- ==== Sys2Proof/Laws/Frame/Motion.lean ====
section
/-! SUPPORT. What the operations of Machine/Motion.lean may change: one lemma for each, whose mask names the fields. -/

set_option Elab.async false

namespace Sys2Proof.Machine

theorem State.sample151_reach {T : Nat} {s₀ s : State} (sub_ : Sub 36540776448 T) (reach_ : Reach T s₀ s) :
    Reach T s₀ (State.sample151 s) := by
  unfold State.sample151
  extract_lets +onlyGivenNames -merge -useContext u1
  have hu1 : Reach T s₀ u1 := (State.first151_reach (sub_.sub (by decide)) reach_)
  clear_value u1
  extract_lets +onlyGivenNames -merge -useContext v2
  extract_lets +onlyGivenNames -merge -useContext v3
  extract_lets +onlyGivenNames -merge -useContext v4
  extract_lets +onlyGivenNames -merge -useContext v5
  exact (Reach.set_safety (sub_.sub (by decide)) hu1 rfl)

theorem State.sampleSafety_reach {T : Nat} {s₀ s : State} (sub_ : Sub 36540776448 T) (reach_ : Reach T s₀ s) :
    Reach T s₀ (State.sampleSafety s) := by
  unfold State.sampleSafety
  exact Reach.ite (fun _ => reach_) (fun _ => (by
    extract_lets +onlyGivenNames -merge -useContext u1
    have hu1 : Reach T s₀ u1 := (State.mapFsafe_reach (sub_.sub (by decide)) reach_)
    clear_value u1
    extract_lets +onlyGivenNames -merge -useContext w_ u2
    have hu2 : Reach T s₀ u2 := (Reach.set_safety (sub_.sub (by decide)) hu1 rfl)
    clear_value u2
    exact (State.sample151_reach (sub_.sub (by decide)) hu2)))

theorem State.judgeDecel_reach {T : Nat} {s₀ s : State} {a : Nat} (sub_ : Sub 36508270592 T) (reach_ : Reach T s₀ s) :
    Reach T s₀ (State.judgeDecel s a) := by
  unfold State.judgeDecel
  extract_lets +onlyGivenNames -merge -useContext v1
  exact (Reach.ite (fun _ => reach_) (fun _ => (by
  extract_lets +onlyGivenNames -merge -useContext u2
  have hu2 : Reach T s₀ u2 := (State.modAxis_reach (sub_.sub (by decide)) reach_)
  clear_value u2
  exact (Reach.ite (fun _ => hu2) (fun _ => (by
  extract_lets +onlyGivenNames -merge -useContext v3
  exact (Reach.ite (fun _ => (State.modAxis_reach (sub_.sub (by decide)) hu2)) (fun _ => (State.record_reach (sub_.sub (by decide)) (State.modAxis_reach (sub_.sub (by decide)) hu2))))))))))

theorem State.closeLoops_reach {T : Nat} {s₀ s : State} {a : Nat} (sub_ : Sub 36508278784 T) (reach_ : Reach T s₀ s) :
    Reach T s₀ (State.closeLoops s a) := by
  unfold State.closeLoops
  extract_lets +onlyGivenNames -merge -useContext v1
  have hv1 : Reach T s₀ v1 := (State.modAxis_reach (sub_.sub (by decide)) reach_)
  clear_value v1
  extract_lets +onlyGivenNames -merge -useContext v2
  extract_lets +onlyGivenNames -merge -useContext v3
  have hv3 : Reach T s₀ v3 := (State.modAxis_reach (sub_.sub (by decide)) hv1)
  clear_value v3
  extract_lets +onlyGivenNames -merge -useContext v4
  have hv4 : Reach T s₀ v4 := (State.modAxis_reach (sub_.sub (by decide)) hv3)
  clear_value v4
  extract_lets +onlyGivenNames -merge -useContext v5
  have hv5 : Reach T s₀ v5 := (State.modAxis_reach (sub_.sub (by decide)) hv4)
  clear_value v5
  exact (Reach.ite (fun _ => (State.lateStop_reach (sub_.sub (by decide)) hv5)) (fun _ => hv5))

theorem State.externalStill_reach {T : Nat} {s₀ s : State} {a : Nat} (sub_ : Sub 1048576 T) (reach_ : Reach T s₀ s) :
    Reach T s₀ (State.externalStill s a) := by
  unfold State.externalStill
  extract_lets +onlyGivenNames -merge -useContext v1
  extract_lets +onlyGivenNames -merge -useContext v2
  exact (Reach.ite (fun _ => (State.modAxis_reach (sub_.sub (by decide)) reach_)) (fun _ => reach_))

theorem State.profileSample_reach {T : Nat} {s₀ s : State} {a : Nat} (sub_ : Sub 1048576 T) (reach_ : Reach T s₀ s) :
    Reach T s₀ (State.profileSample s a).2 := by
  unfold State.profileSample
  extract_lets +onlyGivenNames -merge -useContext v1
  split
  · extract_lets +onlyGivenNames -merge -useContext v2
    exact (Reach.mk2 (State.modAxis_reach (sub_.sub (by decide)) reach_))

theorem State.axisSample_reach {T : Nat} {s₀ s : State} {a : Nat} (sub_ : Sub 36508278784 T) (reach_ : Reach T s₀ s) :
    Reach T s₀ (State.axisSample s a) := by
  unfold State.axisSample
  extract_lets +onlyGivenNames -merge -useContext v1
  have hv1 : Reach T s₀ v1 := (State.redrive_reach (sub_.sub (by decide)) reach_)
  clear_value v1
  split
  · exact hv1
  · exact (Reach.ite (fun _ => (State.toIdle_reach (sub_.sub (by decide)) hv1)) (fun _ => hv1))
  · extract_lets +onlyGivenNames -merge -useContext v2
    have hv2 : Reach T s₀ v2 := (State.judgeDecel_reach (sub_.sub (by decide)) hv1)
    clear_value v2
    split
    rename_i a3 t3 e3
    have ht3 : Reach T s₀ t3 := Reach.of_eq e3 (State.profileSample_reach (sub_.sub (by decide)) hv2)
    extract_lets +onlyGivenNames -merge -useContext v4
    have hv4 : Reach T s₀ v4 := (Reach.foldl _ ht3 (fun u5 _ hu7 => (State.record_reach (sub_.sub (by decide)) hu7)))
    clear_value v4
    extract_lets +onlyGivenNames -merge -useContext v8
    have hv8 : Reach T s₀ v8 := (Reach.ite (fun _ => (State.externalStill_reach (sub_.sub (by decide)) hv4)) (fun _ => hv4))
    clear_value v8
    exact (State.closeLoops_reach (sub_.sub (by decide)) hv8)

theorem State.axisSteps_reach {T : Nat} {s₀ s : State} {a : Nat} (sub_ : Sub 41346412544 T) (reach_ : Reach T s₀ s) :
    Reach T s₀ (State.axisSteps s a) := by
  unfold State.axisSteps
  exact (State.axisSample_reach (sub_.sub (by decide)) (State.modAxis_reach (sub_.sub (by decide)) (State.takeInbox_reach (sub_.sub (by decide)) reach_)))

theorem State.axisWhole_reach {T : Nat} {s₀ s : State} {a : Nat} (sub_ : Sub 41346412544 T) (reach_ : Reach T s₀ s) :
    Reach T s₀ (State.axisWhole s a) := by
  unfold State.axisWhole
  extract_lets +onlyGivenNames -merge -useContext v1
  have hv1 : Reach T s₀ v1 := (State.axisSteps_reach (sub_.sub (by decide)) reach_)
  clear_value v1
  exact (Reach.ite (fun _ => hv1) (fun _ => (by
    extract_lets +onlyGivenNames -merge -useContext v2
    have hv2 : Reach T s₀ v2 := (State.axisSteps_reach (sub_.sub (by decide)) (State.modAxis_reach (sub_.sub (by decide)) reach_))
    clear_value v2
    exact (Reach.ite (fun _ => hv2) (fun _ => hv1)))))

theorem State.obstStop_reach {T : Nat} {s₀ s : State} {f : Nat} (sub_ : Sub 36512473088 T) (reach_ : Reach T s₀ s) :
    Reach T s₀ (State.obstStop s f) := by
  unfold State.obstStop
  exact (Reach.ite (fun _ => reach_) (fun _ => (by
    extract_lets +onlyGivenNames -merge -useContext v1
    have hv1 : Reach T s₀ v1 := (State.modObs_reach (sub_.sub (by decide)) reach_)
    clear_value v1
    extract_lets +onlyGivenNames -merge -useContext v2
    have hv2 : Reach T s₀ v2 := (State.modAxis_reach (sub_.sub (by decide)) hv1)
    clear_value v2
    exact (State.axisCommand_reach (sub_.sub (by decide)) hv2))))

theorem State.obstStep_reach {T : Nat} {s₀ s : State} {f : Nat} (sub_ : Sub 36511416320 T) (reach_ : Reach T s₀ s) :
    Reach T s₀ (State.obstStep s f) := by
  unfold State.obstStep
  extract_lets +onlyGivenNames -merge -useContext v1
  extract_lets +onlyGivenNames -merge -useContext v2
  have hv2 : Reach T s₀ v2 := (State.modObs_reach (sub_.sub (by decide)) reach_)
  clear_value v2
  extract_lets +onlyGivenNames -merge -useContext v3
  extract_lets +onlyGivenNames -merge -useContext v4
  have hv4 : Reach T s₀ v4 := (State.recordIf_reach (sub_.sub (by decide)) hv2)
  clear_value v4
  extract_lets +onlyGivenNames -merge -useContext v5
  have hv5 : Reach T s₀ v5 := (State.recordIf_reach (sub_.sub (by decide)) hv4)
  clear_value v5
  exact (Reach.ite (fun _ => (State.modObs_reach (sub_.sub (by decide)) hv5)) (fun _ => hv5))

theorem State.cycSample_reach {T : Nat} {s₀ s : State} {f : Nat} (sub_ : Sub 2147483648 T) (reach_ : Reach T s₀ s) :
    Reach T s₀ (State.cycSample s f) := by
  unfold State.cycSample
  exact Reach.ite (fun _ => reach_) (fun _ => (by
    extract_lets +onlyGivenNames -merge -useContext v1
    extract_lets +onlyGivenNames -merge -useContext v2
    extract_lets +onlyGivenNames -merge -useContext v3
    exact (State.modCyc_reach (sub_.sub (by decide)) reach_)))

theorem State.traceBegin_reach {T : Nat} {s₀ s : State} {f kind : Nat} {late : Bool} (sub_ : Sub 2147483648 T)
    (reach_ : Reach
    T s₀ s) :
    Reach T s₀ (State.traceBegin s f kind late) := by
  unfold State.traceBegin
  extract_lets +onlyGivenNames -merge -useContext v1
  extract_lets +onlyGivenNames -merge -useContext v2
  extract_lets +onlyGivenNames -merge -useContext w_ v3
  exact (State.modStaging_reach (sub_.sub (by decide)) reach_)

theorem State.traceAdd_reach {T : Nat} {s₀ s : State} {f : Nat} (sub_ : Sub 2147483648 T) (reach_ : Reach T s₀ s) :
    Reach T s₀ (State.traceAdd s f) := by
  unfold State.traceAdd
  extract_lets +onlyGivenNames -merge -useContext v1
  exact (State.modStaging_reach (sub_.sub (by decide)) reach_)

theorem State.traceSample_reach {T : Nat} {s₀ s : State} {f : Nat} (sub_ : Sub 2147483648 T) (reach_ : Reach T s₀ s) :
    Reach T s₀ (State.traceSample s f) := by
  unfold State.traceSample
  extract_lets +onlyGivenNames -merge -useContext v1
  have hv1 : Reach T s₀ v1 := (State.traceOver_reach (sub_.sub (by decide)) reach_)
  clear_value v1
  extract_lets +onlyGivenNames -merge -useContext v2
  split
  · exact (State.modStaging_reach (sub_.sub (by decide)) hv1)
  · exact (Reach.ite (fun _ => (State.modStaging_reach (sub_.sub (by decide)) hv1)) (fun _ => (Reach.ite (fun _ => hv1) (fun _ => (State.traceAdd_reach (sub_.sub (by decide)) (Reach.ite (fun _ => hv1) (fun _ => (State.traceBegin_reach (sub_.sub (by decide)) hv1))))))))

theorem State.engines_reach {T : Nat} {s₀ s : State} {i : SampleIn} (sub_ : Sub 49936609280 T) (reach_ : Reach T s₀ s) :
    Reach T s₀ (State.engines s i) := by
  unfold State.engines
  extract_lets +onlyGivenNames -merge -useContext v1
  have hv1 : Reach T s₀ v1 := (Reach.forEach _ reach_ (fun u2 _ hu4 => (State.currentLoop_reach (sub_.sub (by decide)) hu4)))
  clear_value v1
  extract_lets +onlyGivenNames -merge -useContext v5
  have hv5 : Reach T s₀ v5 := (Reach.forEach _ hv1 (fun u6 _ hu8 => (State.obstStop_reach (sub_.sub (by decide)) hu8)))
  clear_value v5
  extract_lets +onlyGivenNames -merge -useContext v9
  have hv9 : Reach T s₀ v9 := (Reach.forEach _ hv5 (fun u10 _ hu12 => (State.axisWhole_reach (sub_.sub (by decide)) hu12)))
  clear_value v9
  extract_lets +onlyGivenNames -merge -useContext v13
  have hv13 : Reach T s₀ v13 := (Reach.forEach _ hv9 (fun u14 _ hu16 => (State.obstStep_reach (sub_.sub (by decide)) hu16)))
  clear_value v13
  extract_lets +onlyGivenNames -merge -useContext v17
  have hv17 : Reach T s₀ v17 := (Reach.forEach _ hv13 (fun u18 _ hu20 => (State.traceSample_reach (sub_.sub (by decide)) hu20)))
  clear_value v17
  extract_lets +onlyGivenNames -merge -useContext v21
  have hv21 : Reach T s₀ v21 := (Reach.forEach _ hv17 (fun u22 _ hu24 => (State.cycSample_reach (sub_.sub (by decide)) hu24)))
  clear_value v21
  exact (Reach.forEach _ hv21 (fun u25 _ hu27 => (State.seqSample_reach (sub_.sub (by decide)) hu27)))

theorem State.keepBefore_reach {T : Nat} {s₀ s : State} (sub_ : Sub 536870912 T) (reach_ : Reach T s₀ s) :
    Reach T s₀ (State.keepBefore s) := by
  unfold State.keepBefore
  exact (Reach.ite (fun _ => reach_) (fun _ => (Reach.set_prog (sub_.sub (by decide)) reach_ (fun k => { k with }))))

theorem State.motionSample_reach {T : Nat} {s₀ s : State} {i : SampleIn} (sub_ : Sub 49995579370 T) (reach_ : Reach T s₀ s) :
    Reach T s₀ (State.motionSample s i) := by
  unfold State.motionSample
  extract_lets +onlyGivenNames -merge -useContext v1
  have hv1 : Reach T s₀ v1 := (State.keepBefore_reach (sub_.sub (by decide)) reach_)
  clear_value v1
  extract_lets +onlyGivenNames -merge -useContext v2
  extract_lets +onlyGivenNames -merge -useContext v3
  have hv3 : Reach T s₀ v3 := (Reach.set_clock (sub_.sub (by decide)) hv1)
  clear_value v3
  extract_lets +onlyGivenNames -merge -useContext v4
  have hv4 : Reach T s₀ v4 := (State.sampleSafety_reach (sub_.sub (by decide)) (State.sampleInputs_reach (sub_.sub (by decide)) (State.samplePower_reach (sub_.sub (by decide)) hv3)))
  clear_value v4
  extract_lets +onlyGivenNames -merge -useContext v5
  have hv5 : Reach T s₀ v5 := (State.causeStops_reach (sub_.sub (by decide)) hv4)
  clear_value v5
  exact (State.ringSample_reach (sub_.sub (by decide)) (Reach.ite (fun _ => (State.engines_reach (sub_.sub (by decide)) hv5)) (fun _ => hv5)))

theorem execMotionSample_reach {T : Nat} {s₀ : State} {i : SampleIn} {s : State} (sub_ : Sub 49995579370 T)
    (reach_ : Reach T s₀ s) :
    Within T s₀ (execMotionSample i s) := by
  unfold execMotionSample
  exact (Within.next (Reach.ite (fun _ => (State.motionSample_reach (sub_.sub (by decide)) reach_)) (fun _ => reach_)))

theorem execAxisDeviation_reach {T : Nat} {s₀ : State} {a : Nat} {s : State} (sub_ : Sub 36508278784 T)
    (reach_ : Reach T s₀ s) :
    Within T s₀ (execAxisDeviation a s) := by
  unfold execAxisDeviation
  exact (Within.onUnit (Reach.ite (fun _ => (State.lateStop_reach (sub_.sub (by decide)) reach_)) (fun _ => reach_)))

theorem execAxisOverspeed_reach {T : Nat} {s₀ : State} {a : Nat} {s : State} (sub_ : Sub 36508278784 T)
    (reach_ : Reach T s₀ s) :
    Within T s₀ (execAxisOverspeed a s) := by
  unfold execAxisOverspeed
  exact (Within.onUnit (Reach.ite (fun _ => (State.lateStop_reach (sub_.sub (by decide)) reach_)) (fun _ => reach_)))

theorem execAxisHoldTimeout_reach {T : Nat} {s₀ s : State} {a : Nat} (sub_ : Sub 1056768 T) (reach_ : Reach T s₀ s) :
    Within T s₀ (execAxisHoldTimeout a s) := by
  unfold execAxisHoldTimeout
  exact Within.onUnit (by
    extract_lets +onlyGivenNames -merge -useContext v1
    extract_lets +onlyGivenNames -merge -useContext v2
    exact (Reach.ite (fun _ => (State.toIdle_reach (sub_.sub (by decide)) reach_)) (fun _ => reach_)))

theorem execAlignComplete_reach {T : Nat} {s₀ : State} {a : Nat} {responses : List Rat} {s : State}
    (sub_ : Sub 105227755520 T) (reach_ : Reach T s₀ s) :
    Within T s₀ (execAlignComplete a responses s) := by
  unfold execAlignComplete
  exact (Within.onUnit (by
    extract_lets +onlyGivenNames -merge -useContext v1
    exact (Reach.ite (fun _ => reach_) (fun _ => (Reach.ite (fun _ => (State.faultStop_reach (sub_.sub (by decide)) (State.record_reach (sub_.sub (by decide)) reach_))) (fun _ => (State.draw_reach (sub_.sub (by decide)) (State.driveTreads_reach (sub_.sub (by decide)) (State.modAxis_reach (sub_.sub (by decide)) reach_)))))))))

theorem execExternalStep_reach {T : Nat} {s₀ : State} {a at' : Nat} {s : State} (sub_ : Sub 36508278784 T)
    (reach_ : Reach T s₀ s) :
    Within T s₀ (execExternalStep a at' s) := by
  unfold execExternalStep
  exact (Within.onUnit (by
    extract_lets +onlyGivenNames -merge -useContext v1
    extract_lets +onlyGivenNames -merge -useContext v2
    exact (Reach.ite (fun _ => reach_) (fun _ => (by
      extract_lets +onlyGivenNames -merge -useContext v3
      have hv3 : Reach T s₀ v3 := (State.modAxis_reach (sub_.sub (by decide)) reach_)
      clear_value v3
      exact (Reach.ite (fun _ => hv3) (fun _ => (by
        extract_lets +onlyGivenNames -merge -useContext v4
        extract_lets +onlyGivenNames -merge -useContext v5
        extract_lets +onlyGivenNames -merge -useContext v6
        have hv6 : Reach T s₀ v6 := (Reach.ite (fun _ => hv3) (fun _ => (State.energise_reach (sub_.sub (by decide)) hv3)))
        clear_value v6
        extract_lets +onlyGivenNames -merge -useContext v7
        have hv7 : Reach T s₀ v7 := (State.modAxis_reach (sub_.sub (by decide)) hv6)
        clear_value v7
        exact (Reach.ite (fun _ => (State.lateStop_reach (sub_.sub (by decide)) hv7)) (fun _ => hv7))))))))))

theorem execStepperHoldCurrent_reach {T : Nat} {s₀ s : State} {a : Nat} (sub_ : Sub 1048576 T) (reach_ : Reach T s₀ s) :
    Within T s₀ (execStepperHoldCurrent a s) := by
  unfold execStepperHoldCurrent
  exact Within.onUnit (by
    extract_lets +onlyGivenNames -merge -useContext v1
    extract_lets +onlyGivenNames -merge -useContext v2
    exact (Reach.ite (fun _ => (State.modAxis_reach (sub_.sub (by decide)) reach_)) (fun _ => reach_)))

theorem execSolenoidPullEnd_reach {T : Nat} {s₀ s : State} {a : Nat} (sub_ : Sub 1056768 T) (reach_ : Reach T s₀ s) :
    Within T s₀ (execSolenoidPullEnd a s) := by
  unfold execSolenoidPullEnd
  exact Within.onUnit (by
    split
    · exact reach_
    · exact (Reach.ite (fun _ => (State.driveTreads_reach (sub_.sub (by decide)) (State.modAxis_reach (sub_.sub (by decide)) reach_))) (fun _ => reach_)))

theorem execGearMasterLost_reach {T : Nat} {s₀ : State} {a : Nat} {s : State} (sub_ : Sub 36508278784 T)
    (reach_ : Reach T s₀ s) :
    Within T s₀ (execGearMasterLost a s) := by
  unfold execGearMasterLost
  exact (Within.onUnit (Reach.ite (fun _ => (State.lateStop_reach (sub_.sub (by decide)) reach_)) (fun _ => reach_)))

end Sys2Proof.Machine
end

