-- ==== Sys2Proof/Laws/Frame/ParamCommands.lean ====
section
/-! SUPPORT. What the operations of Machine/ParamCommands.lean may change: one lemma for each, whose mask names the fields. -/

set_option Elab.async false

namespace Sys2Proof.Machine

theorem execSupplyClear_reach {T : Nat} {s₀ s : State} {q : Hdr} {p : Nat} {v : Word} (sub_ : Sub 68223772652 T) (reach_ :
    Reach T s₀ s) :
    Within T s₀ (execSupplyClear q p v s) := by
  unfold execSupplyClear
  exact Within.next (State.writeOne_reach (sub_.sub (by decide)) reach_)

theorem execPortCountWrite_reach {T : Nat} {s₀ s : State} {q : Hdr} {p : Nat} {v : Word} (sub_ : Sub 68223772652 T) (reach_ :
    Reach T s₀ s) :
    Within T s₀ (execPortCountWrite q p v s) := by
  unfold execPortCountWrite
  exact Within.next (State.writeOne_reach (sub_.sub (by decide)) reach_)

theorem execPortCountRead_reach {T : Nat} {s₀ s : State} {q : Hdr} {p : Nat} (sub_ : Sub 57985466368 T)
    (reach_ : Reach T s₀ s) :
    Within T s₀ (execPortCountRead q p s) := by
  unfold execPortCountRead
  exact Within.next (State.readOne_reach (sub_.sub (by decide)) reach_)

theorem execCmpArm_reach {T : Nat} {s₀ s : State} {q : Hdr} {p e : Nat} {v : Word} (sub_ : Sub 68223772652 T)
    (reach_ : Reach T
    s₀ s) :
    Within T s₀ (execCmpArm q p e v s) := by
  unfold execCmpArm
  exact Within.next (State.writeOne_reach (sub_.sub (by decide)) reach_)

theorem execCmpDisarm_reach {T : Nat} {s₀ s : State} {q : Hdr} {p e : Nat} {v : Word} (sub_ : Sub 68223772652 T) (reach_ :
    Reach T s₀ s) :
    Within T s₀ (execCmpDisarm q p e v s) := by
  unfold execCmpDisarm
  exact Within.next (State.writeOne_reach (sub_.sub (by decide)) reach_)

theorem execCmpHitClr_reach {T : Nat} {s₀ s : State} {q : Hdr} {p w : Nat} {v : Word} (sub_ : Sub 68223772652 T) (reach_ :
    Reach T s₀ s) :
    Within T s₀ (execCmpHitClr q p w v s) := by
  unfold execCmpHitClr
  exact Within.next (State.writeOne_reach (sub_.sub (by decide)) reach_)

theorem execUvClear_reach {T : Nat} {s₀ s : State} {q : Hdr} {v : Word} (sub_ : Sub 68223772652 T) (reach_ : Reach T s₀ s) :
    Within T s₀ (execUvClear q v s) := by
  unfold execUvClear
  exact Within.next (State.writeOne_reach (sub_.sub (by decide)) reach_)

theorem execTreadClear_reach {T : Nat} {s₀ s : State} {q : Hdr} {t : Nat} {v : Word} (sub_ : Sub 68223772652 T)
    (reach_ : Reach
    T s₀ s) :
    Within T s₀ (execTreadClear q t v s) := by
  unfold execTreadClear
  exact Within.next (State.writeOne_reach (sub_.sub (by decide)) reach_)

theorem execStoreyReclose_reach {T : Nat} {s₀ s : State} {q : Hdr} {u : Nat} {v : Word} (sub_ : Sub 68223772652 T) (reach_ :
    Reach T s₀ s) :
    Within T s₀ (execStoreyReclose q u v s) := by
  unfold execStoreyReclose
  exact Within.next (State.writeOne_reach (sub_.sub (by decide)) reach_)

theorem execStoreyStopClear_reach {T : Nat} {s₀ s : State} {q : Hdr} {u : Nat} {v : Word} (sub_ : Sub 68223772652 T)
    (reach_ :
    Reach T s₀ s) :
    Within T s₀ (execStoreyStopClear q u v s) := by
  unfold execStoreyStopClear
  exact Within.next (State.writeOne_reach (sub_.sub (by decide)) reach_)

theorem execFlightStopClear_reach {T : Nat} {s₀ s : State} {q : Hdr} {f : Nat} {v : Word} (sub_ : Sub 68223772652 T)
    (reach_ :
    Reach T s₀ s) :
    Within T s₀ (execFlightStopClear q f v s) := by
  unfold execFlightStopClear
  exact Within.next (State.writeOne_reach (sub_.sub (by decide)) reach_)

theorem execSysStopClear_reach {T : Nat} {s₀ s : State} {q : Hdr} {v : Word} (sub_ : Sub 68223772652 T)
    (reach_ : Reach T s₀ s) :
    Within T s₀ (execSysStopClear q v s) := by
  unfold execSysStopClear
  exact Within.next (State.writeOne_reach (sub_.sub (by decide)) reach_)

theorem execAxisDecelWrite_reach {T : Nat} {s₀ s : State} {q : Hdr} {a : Nat} {v : Word} (sub_ : Sub 68223772652 T) (reach_ :
    Reach T s₀ s) :
    Within T s₀ (execAxisDecelWrite q a v s) := by
  unfold execAxisDecelWrite
  exact Within.next (State.writeOne_reach (sub_.sub (by decide)) reach_)

theorem execAxisPosSet_reach {T : Nat} {s₀ s : State} {q : Hdr} {a : Nat} {v : Word} (sub_ : Sub 68223772652 T)
    (reach_ : Reach
    T s₀ s) :
    Within T s₀ (execAxisPosSet q a v s) := by
  unfold execAxisPosSet
  exact Within.next (State.writeOne_reach (sub_.sub (by decide)) reach_)

theorem execProgramStop_reach {T : Nat} {s₀ s : State} {q : Hdr} {v : Word} (sub_ : Sub 68223772652 T)
    (reach_ : Reach T s₀ s) :
    Within T s₀ (execProgramStop q v s) := by
  unfold execProgramStop
  exact Within.next (State.writeOne_reach (sub_.sub (by decide)) reach_)

theorem execProgramRestart_reach {T : Nat} {s₀ s : State} {q : Hdr} {v : Word} (sub_ : Sub 68223772652 T)
    (reach_ : Reach T s₀
    s) :
    Within T s₀ (execProgramRestart q v s) := by
  unfold execProgramRestart
  exact Within.next (State.writeOne_reach (sub_.sub (by decide)) reach_)

theorem execForceClearAll_reach {T : Nat} {s₀ s : State} {q : Hdr} {v : Word} (sub_ : Sub 68223772652 T)
    (reach_ : Reach T s₀ s) :
    Within T s₀ (execForceClearAll q v s) := by
  unfold execForceClearAll
  exact Within.next (State.writeOne_reach (sub_.sub (by decide)) reach_)

theorem execObstacleCommission_reach {T : Nat} {s₀ s : State} {q : Hdr} {f : Nat} {v : Word} (sub_ : Sub 68223772652 T)
    (reach_
    : Reach T s₀ s) :
    Within T s₀ (execObstacleCommission q f v s) := by
  unfold execObstacleCommission
  exact Within.next (State.writeOne_reach (sub_.sub (by decide)) reach_)

theorem execCommissionAbort_reach {T : Nat} {s₀ s : State} {q : Hdr} {f : Nat} {v : Word} (sub_ : Sub 68223772652 T)
    (reach_ :
    Reach T s₀ s) :
    Within T s₀ (execCommissionAbort q f v s) := by
  unfold execCommissionAbort
  exact Within.next (State.writeOne_reach (sub_.sub (by decide)) reach_)

theorem execMapRestore_reach {T : Nat} {s₀ s : State} {q : Hdr} {f : Nat} {v : Word} (sub_ : Sub 68223772652 T)
    (reach_ : Reach
    T s₀ s) :
    Within T s₀ (execMapRestore q f v s) := by
  unfold execMapRestore
  exact Within.next (State.writeOne_reach (sub_.sub (by decide)) reach_)

theorem execTempInWrite_reach {T : Nat} {s₀ s : State} {q : Hdr} {f : Nat} {v : Word} (sub_ : Sub 68223772652 T) (reach_ :
    Reach T s₀ s) :
    Within T s₀ (execTempInWrite q f v s) := by
  unfold execTempInWrite
  exact Within.next (State.writeOne_reach (sub_.sub (by decide)) reach_)

theorem execSafetyResetReq_reach {T : Nat} {s₀ s : State} {q : Hdr} {v : Word} (sub_ : Sub 68223772652 T)
    (reach_ : Reach T s₀
    s) :
    Within T s₀ (execSafetyResetReq q v s) := by
  unfold execSafetyResetReq
  exact Within.next (State.writeOne_reach (sub_.sub (by decide)) reach_)

theorem execAlcoveClear_reach {T : Nat} {s₀ s : State} {q : Hdr} {v : Word} (sub_ : Sub 68223772652 T)
    (reach_ : Reach T s₀ s) :
    Within T s₀ (execAlcoveClear q v s) := by
  unfold execAlcoveClear
  exact Within.next (State.writeOne_reach (sub_.sub (by decide)) reach_)

theorem execOptimeRead_reach {T : Nat} {s₀ s : State} {q : Hdr} (sub_ : Sub 57985466368 T) (reach_ : Reach T s₀ s) :
    Within T s₀ (execOptimeRead q s) := by
  unfold execOptimeRead
  exact Within.next (State.readOne_reach (sub_.sub (by decide)) reach_)

theorem execFloodModeWrite_reach {T : Nat} {s₀ s : State} {q : Hdr} {v : Word} (sub_ : Sub 68223772652 T)
    (reach_ : Reach T s₀
    s) :
    Within T s₀ (execFloodModeWrite q v s) := by
  unfold execFloodModeWrite
  exact Within.next (State.writeOne_reach (sub_.sub (by decide)) reach_)

theorem execCalTrimWrite_reach {T : Nat} {s₀ s : State} {q : Hdr} {pid : Nat} {v : Word} (sub_ : Sub 68223772652 T) (reach_ :
    Reach T s₀ s) :
    Within T s₀ (execCalTrimWrite q pid v s) := by
  unfold execCalTrimWrite
  exact Within.next (State.parWrite_reach (sub_.sub (by decide)) reach_)

theorem execCalClearAll_reach {T : Nat} {s₀ s : State} {q : Hdr} {v : Word} (sub_ : Sub 68223772652 T)
    (reach_ : Reach T s₀ s) :
    Within T s₀ (execCalClearAll q v s) := by
  unfold execCalClearAll
  exact Within.next (State.writeOne_reach (sub_.sub (by decide)) reach_)

theorem execRingReform_reach {T : Nat} {s₀ s : State} {q : Hdr} {v : Word} (sub_ : Sub 68223772652 T)
    (reach_ : Reach T s₀ s) :
    Within T s₀ (execRingReform q v s) := by
  unfold execRingReform
  exact Within.next (State.writeOne_reach (sub_.sub (by decide)) reach_)

end Sys2Proof.Machine
end

