-- ==== Sys2Proof/Laws/Frame/SessionRows.lean ====
section
/-! SUPPORT. What the operations of Machine/SessionRows.lean may change: one lemma for each, whose mask names the fields. -/

set_option Elab.async false

namespace Sys2Proof.Machine

theorem State.nonce_reach {T : Nat} {s₀ s : State} (sub_ : Sub 68719476736 T) (reach_ : Reach T s₀ s) :
    Reach T s₀ (State.nonce s).2 := by
  unfold State.nonce
  exact Reach.mk2 (State.draw_reach (sub_.sub (by decide)) reach_)

theorem State.openSession_reach {T : Nat} {s₀ s : State} {p : Pend} {num role slot : Nat} {nc : Bytes}
    (sub_ : Sub 109521666048 T) (reach_ : Reach T s₀ s) :
    Reach T s₀ (State.openSession s p num role slot nc) := by
  unfold State.openSession
  split
  rename_i u1 eu1
  have hu1 : Reach T s₀ u1 := Reach.of_eq eu1 (State.nonce_reach (sub_.sub (by decide)) reach_)
  extract_lets +onlyGivenNames -merge -useContext v2
  extract_lets +onlyGivenNames -merge -useContext w_ u3
  have hu3 : Reach T s₀ u3 := (Reach.set_host (sub_.sub (by decide)) hu1)
  clear_value u3
  extract_lets +onlyGivenNames -merge -useContext u4
  have hu4 : Reach T s₀ u4 := (State.recordIf_reach (sub_.sub (by decide)) hu3)
  clear_value u4
  exact (State.replyRaw_reach (sub_.sub (by decide)) hu4)

theorem State.serveHello_reach {T : Nat} {s₀ s : State} {p : Pend} {payload : Bytes} (sub_ : Sub 109521666048 T)
    (reach_ : Reach T s₀ s) :
    Reach T s₀ (State.serveHello s p payload) := by
  unfold State.serveHello
  extract_lets +onlyGivenNames -merge -useContext v1
  extract_lets +onlyGivenNames -merge -useContext v2
  exact (Reach.ite (fun _ => (State.answer_reach (sub_.sub (by decide)) reach_)) (fun _ => (Reach.ite (fun _ => (State.answer_reach (sub_.sub (by decide)) reach_)) (fun _ => (Reach.ite (fun _ => (State.countFail_reach (sub_.sub (by decide)) (State.answer_reach (sub_.sub (by decide)) reach_))) (fun _ => (by
    split
    · exact (State.answer_reach (sub_.sub (by decide)) reach_)
    · exact (State.openSession_reach (sub_.sub (by decide)) reach_))))))))

theorem execHello_reach {T : Nat} {s₀ s : State} {k : Pkt} (sub_ : Sub 126704680960 T) (reach_ : Reach T s₀ s) :
    Within T s₀ (execHello k s) := by
  unfold execHello
  exact Within.vet (State.vet_ok (sub_.sub (by decide)) reach_) (fun u1 hu1 => (Within.next hu1)) (fun u1 _ _ _ hu1 => (Within.next (State.serveHello_reach (sub_.sub (by decide)) hu1)))

theorem State.serveAuth_reach {T : Nat} {s₀ s : State} {p : Pend} {x : Session} {payload : Bytes}
    (sub_ : Sub 57985204224 T) (reach_ : Reach T s₀ s) :
    Reach T s₀ (State.serveAuth s p x payload) := by
  unfold State.serveAuth
  split
  · exact (State.authFailed_reach (sub_.sub (by decide)) (State.answer_reach (sub_.sub (by decide)) reach_))
  · exact (Reach.ite (fun _ => (State.authFailed_reach (sub_.sub (by decide)) (State.answer_reach (sub_.sub (by decide)) reach_))) (fun _ => (Reach.ite (fun _ => (State.failIn_reach (sub_.sub (by decide)) (State.answer_reach (sub_.sub (by decide)) reach_))) (fun _ => (by
      extract_lets +onlyGivenNames -merge -useContext v1
      extract_lets +onlyGivenNames -merge -useContext v2
      have hv2 : Reach T s₀ v2 := (State.modSession_reach (sub_.sub (by decide)) reach_)
      clear_value v2
      extract_lets +onlyGivenNames -merge -useContext v3
      have hv3 : Reach T s₀ v3 := (State.record_reach (sub_.sub (by decide)) hv2)
      clear_value v3
      exact (State.answer_reach (sub_.sub (by decide)) hv3))))))

theorem execAuth_reach {T : Nat} {s₀ s : State} {k : Pkt} (sub_ : Sub 57985204224 T)
    (reach_ : Reach T s₀ s) : Within T s₀ (execAuth k s) := by
  unfold execAuth
  have hv := State.vet_ok (T := T) (o := (
    { code := 0x0001, perm := .read, permOk := s.authPending k, pendingOk := true, lenOk := k.payload.length = 16 } : OpSpec))
    (k := k) (sub_.sub (by decide)) reach_
  split
  · rename_i heq
    rw [heq] at hv
    exact Within.next hv
  · rename_i heq
    rw [heq] at hv
    exact Within.next (State.serveAuth_reach (sub_.sub (by decide)) hv)
  · rename_i heq
    rw [heq] at hv
    exact Within.next hv

theorem execLockoutEnd_reach {T : Nat} {s₀ s : State} {sv : Bool} (sub_ : Sub 4294967296 T) (reach_ : Reach T s₀ s) :
    Within T s₀ (execLockoutEnd sv s) := by
  unfold execLockoutEnd
  split
  · exact (Within.next reach_)
  · exact (Within.next (Reach.ite (fun _ => reach_) (fun _ => (Reach.set_host (sub_.sub (by decide)) reach_))))

theorem execAuthTimeout_reach {T : Nat} {s₀ s : State} {n : BitVec 16} (sub_ : Sub 4294967296 T) (reach_ : Reach T s₀ s) :
    Within T s₀ (execAuthTimeout n s) := by
  unfold execAuthTimeout
  split
  · exact (Within.next reach_)
  · exact (Within.ite (fun _ => (Within.next (Reach.set_host (sub_.sub (by decide)) reach_))) (fun _ => (Within.next reach_)))

theorem execClose_reach {T : Nat} {s₀ s : State} {k : Pkt} (sub_ : Sub 57985204224 T) (reach_ : Reach T s₀ s) :
    Within T s₀ (execClose k s) := by
  unfold execClose
  exact Within.vet (State.vet_ok (sub_.sub (by decide)) reach_) (fun u1 hu1 => (Within.next hu1)) (fun u1 _ _ _ hu1 => (Within.next (State.closeSession_reach (sub_.sub (by decide)) (State.answer_reach (sub_.sub (by decide)) hu1))))

theorem execSessionTimeout_reach {T : Nat} {s₀ s : State} {n : BitVec 16} (sub_ : Sub 57985204224 T)
    (reach_ : Reach T s₀ s) :
    Within T s₀ (execSessionTimeout n s) := by
  unfold execSessionTimeout
  split
  · exact (Within.next reach_)
  · exact (Within.next (Reach.ite (fun _ => (State.closeSession_reach (sub_.sub (by decide)) reach_)) (fun _ => reach_)))

theorem execUsbDetach_reach {T : Nat} {s₀ s : State} (sub_ : Sub 57985204224 T) (reach_ : Reach T s₀ s) :
    Within T s₀ (execUsbDetach s) := by
  unfold execUsbDetach
  exact Within.next (Reach.foldl _ reach_ (fun u1 _ hu1 => (State.closeSession_reach (sub_.sub (by decide)) hu1)))

theorem execFragmentTimeout_reach {T : Nat} {s₀ s : State} {src : BitVec 48} {ident : BitVec 16} (sub_ : Sub 4294967296 T)
    (reach_ : Reach T s₀ s) :
    Within T s₀ (execFragmentTimeout src ident s) := by
  unfold execFragmentTimeout
  exact Within.next (Reach.set_host (sub_.sub (by decide)) reach_)

theorem execKeepalive_reach {T : Nat} {s₀ s : State} {k : Pkt} (sub_ : Sub 57985204224 T) (reach_ : Reach T s₀ s) :
    Within T s₀ (execKeepalive k s) := by
  unfold execKeepalive
  exact Within.vet (State.vet_ok (sub_.sub (by decide)) reach_) (fun u1 hu1 => (Within.next hu1)) (fun u1 _ _ _ hu1 => (Within.next (State.answer_reach (sub_.sub (by decide)) hu1)))

theorem execIdentify_reach {T : Nat} {s₀ s : State} {k : Pkt} (sub_ : Sub 57985204224 T) (reach_ : Reach T s₀ s) :
    Within T s₀ (execIdentify k s) := by
  unfold execIdentify
  exact Within.vet (State.vet_ok (sub_.sub (by decide)) reach_) (fun u1 hu1 => (Within.next hu1)) (fun u1 _ _ _ hu1 => (Within.next (State.answer_reach (sub_.sub (by decide)) hu1)))

theorem execParRead_reach {T : Nat} {s₀ s : State} {k : Pkt} (sub_ : Sub 57985466368 T) (reach_ : Reach T s₀ s) :
    Within T s₀ (execParRead k s) := by
  unfold execParRead
  exact Within.next (State.parRead_reach (sub_.sub (by decide)) reach_)

theorem execParWrite_reach {T : Nat} {s₀ s : State} {k : Pkt} (sub_ : Sub 68223772652 T) (reach_ : Reach T s₀ s) :
    Within T s₀ (execParWrite k s) := by
  unfold execParWrite
  exact Within.next (State.parWrite_reach (sub_.sub (by decide)) reach_)

theorem State.serveReadArray_reach {T : Nat} {s₀ s : State} {p : Pend} {hall : Nat} {payload : Bytes}
    (sub_ : Sub 40802451456 T) (reach_ : Reach T s₀ s) :
    Reach T s₀ (State.serveReadArray s p hall payload) := by
  unfold State.serveReadArray
  extract_lets +onlyGivenNames -merge -useContext v1
  extract_lets +onlyGivenNames -merge -useContext v2
  exact (Reach.ite (fun _ => (State.answer_reach (sub_.sub (by decide)) reach_)) (fun _ => (by
  split
  · exact (State.answer_reach (sub_.sub (by decide)) reach_)
  · exact (Reach.ite (fun _ => (State.answer_reach (sub_.sub (by decide)) reach_)) (fun _ => (by
      extract_lets +onlyGivenNames -merge -useContext v3
      split
      · exact (State.answer_reach (sub_.sub (by decide)) reach_)
      · exact (by
          split
          rename_i u4 eu4
          have hu4 : Reach T s₀ u4 := Reach.of_eq eu4 (State.readEntry_reach (sub_.sub (by decide)) reach_)
          extract_lets +onlyGivenNames -merge -useContext v5
          exact (State.answer_reach (sub_.sub (by decide)) hu4))))))))

theorem execParReadArray_reach {T : Nat} {s₀ s : State} {k : Pkt} (sub_ : Sub 57985466368 T) (reach_ : Reach T s₀ s) :
    Within T s₀ (execParReadArray k s) := by
  unfold execParReadArray
  exact Within.vet (State.vet_ok (sub_.sub (by decide)) reach_) (fun u1 hu1 => (Within.next hu1)) (fun u1 _ _ _ hu1 => (Within.next (State.serveReadArray_reach (sub_.sub (by decide)) hu1)))

theorem execParInfo_reach {T : Nat} {s₀ s : State} {k : Pkt} (sub_ : Sub 57985204224 T) (reach_ : Reach T s₀ s) :
    Within T s₀ (execParInfo k s) := by
  unfold execParInfo
  exact Within.vet (State.vet_ok (sub_.sub (by decide)) reach_) (fun u1 hu1 => (Within.next hu1)) (fun u1 _ _ _ hu1 => (by
    extract_lets +onlyGivenNames -merge -useContext v2
    split
    · exact (Within.next (State.answer_reach (sub_.sub (by decide)) hu1))
    · exact (Within.next (State.answer_reach (sub_.sub (by decide)) hu1))))

end Sys2Proof.Machine
end

