-- ==== Sys2Proof/Laws/Frame/Slots.lean ====
section
/-! SUPPORT. What the operations of Machine/Slots.lean may change: one lemma for each, whose mask names the fields. -/

set_option Elab.async false

namespace Sys2Proof.Machine

theorem Security.judgeKey_slot {x : Security} {sv : Bool} {bs : Bytes} (h : x.judgeKey sv bs = stOK) :
    (x.keys.getD (fieldAt bs 7 1) ⟨0, []⟩).st = if fieldAt bs 6 1 = 1 then 0 else 1 := by
  unfold Security.judgeKey at h
  by_cases k : (x.key (fieldAt bs 7 1)).st = if fieldAt bs 6 1 = 1 then 0 else 1
  · exact k
  · rw [if_pos k] at h
    exact absurd h (by decide)

theorem Security.Ratchet.enrol {x : Security} {slot : Nat} {key : Bytes} (h : (x.keys.getD slot ⟨0, []⟩).st = 0) :
    x.Ratchet { x with keys := x.keys.set slot ⟨1, key⟩ } := by
  refine ⟨Nat.le_refl _, Nat.le_refl _, fun n => ?_, fun _ h => h⟩
  show _ ≤ ((x.keys.set slot ⟨1, key⟩).getD n ⟨0, []⟩).st
  by_cases e : slot = n
  · subst e
    rw [h]
    exact Nat.zero_le _
  · exact Nat.le_of_eq (by rw [List.getD_eq_getElem?_getD, List.getD_eq_getElem?_getD, List.getElem?_set_ne e])

theorem Security.Ratchet.revoke {x : Security} {slot : Nat} (h : (x.keys.getD slot ⟨0, []⟩).st ≤ 2) :
    x.Ratchet { x with keys := x.keys.modify slot (fun k => { k with st := 2 }) } := by
  refine ⟨Nat.le_refl _, Nat.le_refl _, fun n => ?_, fun _ h => h⟩
  show _ ≤ ((x.keys.modify slot (fun k => { k with st := 2 })).getD n ⟨0, []⟩).st
  rw [List.getD_eq_getElem?_getD, List.getD_eq_getElem?_getD, List.getElem?_modify]
  by_cases e : slot = n
  · subst e
    rw [List.getD_eq_getElem?_getD] at h
    cases g : x.keys[slot]? with
    | none => simp
    | some y => rw [g] at h; simpa using h
  · simp [e]

theorem execStageBegin_reach {T : Nat} {s₀ s : State} {k : Pkt} (sub_ : Sub 57985204224 T) (reach_ : Reach T s₀ s) :
    Within T s₀ (execStageBegin k s) := by
  unfold execStageBegin
  extract_lets +onlyGivenNames -merge -useContext v1
  extract_lets +onlyGivenNames -merge -useContext v2
  exact (Within.vet (State.vet_ok (sub_.sub (by decide)) reach_) (fun u3 hu3 => (Within.next hu3)) (fun u3 _ _ _ hu3 => (by
  clear_value v1
  split
  · exact (Within.next (State.answer_reach (sub_.sub (by decide)) hu3))
  · exact (Within.next (Reach.ite (fun _ => (State.answer_reach (sub_.sub (by decide)) hu3)) (fun _ => (State.beginXfer_reach (sub_.sub (by decide)) hu3)))))))

theorem State.wipeBanks_reach {T : Nat} {s₀ s : State} {data : Bytes} (sub_ : Sub 17179869184 T) (reach_ : Reach T s₀ s) :
    Reach T s₀ (State.wipeBanks s data) := by
  unfold State.wipeBanks
  extract_lets +onlyGivenNames -merge -useContext w_ v1
  extract_lets +onlyGivenNames -merge -useContext v2
  exact (Reach.set_sec (sub_.sub (by decide)) reach_)

theorem execStageData_reach {T : Nat} {s₀ s : State} {k : Pkt} (sub_ : Sub 57985204224 T) (reach_ : Reach T s₀ s) :
    Within T s₀ (execStageData k s) := by
  unfold execStageData
  extract_lets +onlyGivenNames -merge -useContext v1
  exact (Within.vet (State.vet_ok (sub_.sub (by decide)) reach_) (fun u2 hu2 => (Within.next hu2)) (fun u2 _ _ _ hu2 => (Within.ite (fun _ => (Within.next (State.answer_reach (sub_.sub (by decide)) hu2))) (fun _ => (by
  extract_lets +onlyGivenNames -merge -useContext u3
  have hu3 : Reach T s₀ u3 := (State.dataXfer_reach (sub_.sub (by decide)) hu2)
  clear_value u3
  split
  · exact (Within.next hu3)
  · exact (Within.next (State.wipeBanks_reach (sub_.sub (by decide)) hu3)))))))

theorem State.stageDone_reach {T : Nat} {s₀ s : State} {p : Pend} {status step item : Nat} (sub_ : Sub 55834574848 T)
    (reach_ :
    Reach T s₀ s) :
    Reach T s₀ (State.stageDone s p status step item) := by
  unfold State.stageDone
  extract_lets +onlyGivenNames -merge -useContext w_ u1
  have hu1 : Reach T s₀ u1 := (Reach.set_sec (sub_.sub (by decide)) reach_)
  clear_value u1
  exact (State.answer_reach (sub_.sub (by decide)) hu1)

theorem State.stageConfig_reach {T : Nat} {s₀ s : State} {p : Pend} {bs : Bytes} (sub_ : Sub 57982058496 T) (reach_ : Reach T
    s₀ s) :
    Reach T s₀ (State.stageConfig s p bs) := by
  unfold State.stageConfig
  split
  · exact (by
      extract_lets +onlyGivenNames -merge -useContext w_ u1
      have hu1 : Reach T s₀ u1 := (Reach.set_sec (sub_.sub (by decide)) reach_)
      clear_value u1
      exact (State.stageDone_reach (sub_.sub (by decide)) (State.record_reach (sub_.sub (by decide)) hu1)))
  · exact (by
      extract_lets +onlyGivenNames -merge -useContext w_ u2
      have hu2 : Reach T s₀ u2 := (Reach.set_sec (sub_.sub (by decide)) reach_)
      clear_value u2
      exact (State.stageDone_reach (sub_.sub (by decide)) (State.record_reach (sub_.sub (by decide)) hu2)))

theorem State.stageKey_reach {T : Nat} {s₀ s : State} {p : Pend} {bs : Bytes} (sub_ : Sub 57982058496 T)
    (reach_ : Reach T s₀ s) :
    Reach T s₀ (s.stageKey p bs) := by
  unfold State.stageKey
  extract_lets +onlyGivenNames -merge -useContext st slot
  refine Reach.ite (fun _ => State.stageDone_reach (sub_.sub (by decide)) reach_) (fun ok => ?_)
  have j : s.sec.judgeKey p.sv bs = stOK := by
    have ok := Decidable.not_not.mp ok
    by_cases c : keyObjectSound bs s.sec.serial = true
    · exact ((if_pos c).symm.trans ok)
    · exact absurd ((if_neg c).symm.trans ok) (by decide)
  have w := Security.judgeKey_slot j
  refine Reach.ite (fun e => ?_) (fun e => ?_)
  · rw [if_pos e] at w
    extract_lets +onlyGivenNames -merge -useContext v3 w_ u4
    have hu4 : Reach T s₀ u4 := Reach.set_sec (sub_.sub (by decide)) reach_ (.enrol w)
    clear_value u4
    exact State.stageDone_reach (sub_.sub (by decide)) (State.record_reach (sub_.sub (by decide)) hu4)
  · rw [if_neg e] at w
    extract_lets +onlyGivenNames -merge -useContext w_ u5
    have hu5 : Reach T s₀ u5 := Reach.set_sec (sub_.sub (by decide)) reach_ (.revoke (by rw [w]; decide))
    clear_value u5
    exact State.stageDone_reach (sub_.sub (by decide)) (State.record_reach (sub_.sub (by decide)) hu5)

theorem State.keepFirmware_reach {T : Nat} {s₀ s : State} {fw : Firmware} {sig : Bytes} (sub_ : Sub 53687091200 T)
    (reach_ : Reach T s₀ s) :
    Reach T s₀ (State.keepFirmware s fw sig) := by
  unfold State.keepFirmware
  extract_lets +onlyGivenNames -merge -useContext v1
  extract_lets +onlyGivenNames -merge -useContext v2
  have hv2 : Reach T s₀ v2 := (Reach.set_sec (sub_.sub (by decide)) reach_)
  clear_value v2
  exact (State.record_reach (sub_.sub (by decide)) hv2)

theorem State.stageFirmware_reach {T : Nat} {s₀ s : State} {p : Pend} {bs : Bytes} (sub_ : Sub 57982058496 T)
    (reach_ : Reach T
    s₀ s) :
    Reach T s₀ (State.stageFirmware s p bs) := by
  unfold State.stageFirmware
  split
  · exact (State.stageDone_reach (sub_.sub (by decide)) reach_)
  · exact (Reach.ite (fun _ => (State.stageDone_reach (sub_.sub (by decide)) reach_)) (fun _ => (Reach.ite (fun _ => (State.stageDone_reach (sub_.sub (by decide)) reach_)) (fun _ => (State.stageDone_reach (sub_.sub (by decide)) (State.keepFirmware_reach (sub_.sub (by decide)) reach_))))))

theorem State.endStage_reach {T : Nat} {s₀ s : State} {p : Pend} {x : Xfer} (sub_ : Sub 57982058496 T)
    (reach_ : Reach T s₀ s) :
    Reach T s₀ (State.endStage s p x) := by
  unfold State.endStage
  extract_lets +onlyGivenNames -merge -useContext u1
  have hu1 : Reach T s₀ u1 := (State.endXfer_reach (sub_.sub (by decide)) reach_)
  clear_value u1
  exact (Reach.ite (fun _ => (State.stageDone_reach (sub_.sub (by decide)) hu1)) (fun _ => (by
  split
  · exact (State.stageConfig_reach (sub_.sub (by decide)) hu1)
  · exact (State.stageKey_reach (sub_.sub (by decide)) hu1)
  · exact (State.stageFirmware_reach (sub_.sub (by decide)) hu1)
  · exact (State.stageDone_reach (sub_.sub (by decide)) hu1))))

theorem execStageEnd_reach {T : Nat} {s₀ s : State} {k : Pkt} (sub_ : Sub 57985204224 T) (reach_ : Reach T s₀ s) :
    Within T s₀ (execStageEnd k s) := by
  unfold execStageEnd
  extract_lets +onlyGivenNames -merge -useContext v1
  exact (Within.vet (State.vet_ok (sub_.sub (by decide)) reach_) (fun u2 hu2 => (Within.next hu2)) (fun u2 _ _ _ hu2 => (Within.ite (fun _ => (Within.next (State.stageDone_reach (sub_.sub (by decide)) hu2))) (fun _ => (by
  split
  · exact (Within.next (State.stageDone_reach (sub_.sub (by decide)) hu2))
  · exact (Within.next (State.endStage_reach (sub_.sub (by decide)) hu2)))))))

theorem State.refuseActivation_reach {T : Nat} {s₀ s : State} {p : Pend} {status : Nat} (sub_ : Sub 55834574848 T) (reach_ :
    Reach T s₀ s) :
    Reach T s₀ (State.refuseActivation s p status) := by
  unfold State.refuseActivation
  exact State.answer_reach (sub_.sub (by decide)) (Reach.set_sec (sub_.sub (by decide)) reach_)

theorem State.beginActivation_reach {T : Nat} {s₀ s : State} {p : Pend} {rollback : Bool} (sub_ : Sub 57983107072 T)
    (reach_ : Reach T s₀ s) :
    Reach T s₀ (State.beginActivation s p rollback) := by
  unfold State.beginActivation
  extract_lets +onlyGivenNames -merge -useContext v1
  extract_lets +onlyGivenNames -merge -useContext v2
  have hv2 : Reach T s₀ v2 := (State.beginExclusive_reach (sub_.sub (by decide)) reach_)
  clear_value v2
  extract_lets +onlyGivenNames -merge -useContext v3
  extract_lets +onlyGivenNames -merge -useContext v4
  have hv4 : Reach T s₀ v4 := (Reach.set_sec (sub_.sub (by decide)) hv2)
  clear_value v4
  extract_lets +onlyGivenNames -merge -useContext v5
  have hv5 : Reach T s₀ v5 := (Reach.foldl _ hv4 (fun u6 _ hu8 => (State.seqCmd_reach (sub_.sub (by decide)) hu8)))
  clear_value v5
  exact (Reach.ite (fun _ => (State.writeSlots_reach (sub_.sub (by decide)) hv5)) (fun _ => hv5))

theorem State.serveActivation_reach {T : Nat} {s₀ s : State} {p : Pend} {rollback : Bool} {payload : Bytes}
    (sub_ : Sub 57983107072 T) (reach_ : Reach T s₀ s) :
    Reach T s₀ (State.serveActivation s p rollback payload) := by
  unfold State.serveActivation
  exact Reach.ite (fun _ => (State.refuseActivation_reach (sub_.sub (by decide)) reach_)) (fun _ => (Reach.ite (fun _ => (State.refuseActivation_reach (sub_.sub (by decide)) reach_)) (fun _ => (by
    split
    · exact (State.refuseActivation_reach (sub_.sub (by decide)) reach_)
    · exact (State.beginActivation_reach (sub_.sub (by decide)) reach_)))))

theorem execActivate_reach {T : Nat} {s₀ s : State} {k : Pkt} (sub_ : Sub 57985204224 T) (reach_ : Reach T s₀ s) :
    Within T s₀ (execActivate k s) := by
  unfold execActivate
  exact Within.vet (State.vet_ok (sub_.sub (by decide)) reach_) (fun u1 hu1 => (Within.next hu1)) (fun u1 _ _ _ hu1 => (Within.next (State.serveActivation_reach (sub_.sub (by decide)) hu1)))

theorem execRollback_reach {T : Nat} {s₀ s : State} {k : Pkt} (sub_ : Sub 57985204224 T) (reach_ : Reach T s₀ s) :
    Within T s₀ (execRollback k s) := by
  unfold execRollback
  exact Within.vet (State.vet_ok (sub_.sub (by decide)) reach_) (fun u1 hu1 => (Within.next hu1)) (fun u1 _ _ _ hu1 => (Within.next (State.serveActivation_reach (sub_.sub (by decide)) hu1)))

theorem State.finishActivation_reach {T : Nat} {s₀ s : State} {x : Activating} {img : Image} (sub_ : Sub 68557811732 T)
    (reach_
    : Reach T s₀ s) :
    Reach T s₀ (State.finishActivation s x img) := by
  unfold State.finishActivation
  extract_lets +onlyGivenNames -merge -useContext w_ u1
  have hu1 : Reach T s₀ u1 := (Reach.set_sec (sub_.sub (by decide)) reach_)
  clear_value u1
  extract_lets +onlyGivenNames -merge -useContext u2
  have hu2 : Reach T s₀ u2 := (State.activateAll_reach (sub_.sub (by decide)) hu1)
  clear_value u2
  extract_lets +onlyGivenNames -merge -useContext u3
  have hu3 : Reach T s₀ u3 := (State.record_reach (sub_.sub (by decide)) hu2)
  clear_value u3
  exact (State.answerExclusive_reach (sub_.sub (by decide)) hu3)

theorem execActivationTick_reach {T : Nat} {s₀ s : State} (sub_ : Sub 68557811732 T) (reach_ : Reach T s₀ s) :
    Within T s₀ (execActivationTick s) := by
  unfold execActivationTick
  split
  · exact (by
      split
      · exact (Within.next reach_)
      · exact (Within.next (Reach.ite (fun _ => reach_) (fun _ => (State.finishActivation_reach (sub_.sub (by decide)) reach_)))))
  · exact (Within.next reach_)

theorem execSlotInfo_reach {T : Nat} {s₀ s : State} {k : Pkt} (sub_ : Sub 57985204224 T) (reach_ : Reach T s₀ s) :
    Within T s₀ (execSlotInfo k s) := by
  unfold execSlotInfo
  exact Within.vet (State.vet_ok (sub_.sub (by decide)) reach_) (fun u1 hu1 => (Within.next hu1)) (fun u1 _ _ _ hu1 => (by
    extract_lets +onlyGivenNames -merge -useContext v2
    exact (Within.next (State.answer_reach (sub_.sub (by decide)) hu1))))

end Sys2Proof.Machine
end

