-- ==== Sys2Proof/Laws/Frame/Step.lean ====
section
/-! SUPPORT. What the operations of Machine/Step.lean may change: one lemma for each, whose mask names the fields. -/

set_option Elab.async false

namespace Sys2Proof.Machine

theorem State.withFetchWord_reach {T : Nat} {s₀ s : State} {nbits w : Nat} (sub_ : Sub 1 T) (reach_ : Reach T s₀ s) :
    Reach T s₀ (State.withFetchWord s nbits w) := by
  unfold State.withFetchWord
  split
  · exact reach_
  · exact (Reach.set_pending (sub_.sub (by decide)) reach_)

end Sys2Proof.Machine
end

