-- ==== Sys2Proof/Laws/Host.lean ====
section
/-! SUPPORT. A host packet that passes the checks of 12 R414 is served; a write of one parameter that passes those of R426 has its effect;
its request is answered. -/
namespace Sys2Proof.Machine

theorem State.session?_num {s : State} {n : BitVec 16} {x : Session} (h : s.session? n = some x) : x.num = n := by
  have := List.find?_some h
  simpa using this

/-- A packet that passes the checks is served, in the state that they leave. -/
theorem State.vet_passes {s : State} {o : OpSpec} {k : Pkt} {x : Session} (h : s.Passes o k x) :
    s.vet o k = .served (s.afterChecks o k) (pendOf o.code k.hdr) x.role (some x) := by
  have num := State.session?_num h.session
  have a : ¬ (k.hdr.addr ≠ 0xFF && (s.safety.sealRd.value.isNone || decide (k.hdr.addr.toNat ≠ s.sealAddr))) = true := by
    rcases h.addr with e | ⟨e, e'⟩
    · simp [e]
    · cases hv : s.safety.sealRd.value <;> simp_all
  have p : ¬ (decide (x.sv ≠ k.hdr.sv) || decide (x.src ≠ k.hdr.src) || (x.pending && !o.pendingOk)) = true := by
    have := h.ready
    cases hp : x.pending <;> simp_all [h.transport, h.source]
  have r : ¬ ((!roleHas x.role o.perm || !o.permOk) = true) := by simp [h.role, h.allowed]
  have hl : ¬ ((decide (k.hdr.hall ≠ 0) && !(o.hallOk && decide (k.hdr.hall.toNat ≤ 2))) = true) := by
    rcases h.hall with e | ⟨e, e'⟩ <;> simp_all
  have d : 1 ≤ (k.hdr.seq - x.high).toNat ∧ (k.hdr.seq - x.high).toNat ≤ 1024 := ⟨h.ahead, h.window⟩
  have late : ∀ t : State, t.host.pends = s.host.pends → t.admitLate o k (pendOf o.code k.hdr) x.role (some x) =
      .served (if o.deferred then { t with host := { t.host with pends := t.host.pends ++ [pendOf o.code k.hdr] } } else t)
        (pendOf o.code k.hdr) x.role (some x) := by
    intro t e
    unfold State.admitLate
    rw [if_neg r, if_neg (by simp [h.length]), if_neg hl, if_neg (by simp [h.state])]
    cases hd : o.deferred
    · rfl
    · have := h.room hd
      simp only [if_true]
      rw [if_neg (by rw [e]; exact Nat.not_le_of_lt this)]
  have q : ∀ (t : State) (c : Bool), t = s.modSession x.num (fun y => { y with fails := if c then 0 else y.fails }) →
      k.hdr.mac.isSome = c →
      t.admitSeq o k (pendOf o.code k.hdr) x = .served (s.afterChecks o k) (pendOf o.code k.hdr) x.role (some x) := by
    intro t c e hc
    unfold State.admitSeq
    simp only [h.fresh]
    rw [if_pos d, late _ (by rw [e]; rfl), e]
    congr 1
    unfold State.afterChecks State.modSession
    simp only [List.map_map, num, hc]
    have : (∀ y : Session, ((fun z : Session => if z.num = k.hdr.session then { z with
          high := k.hdr.seq, lastTick := s.stamp, cache := (⟨k.hdr.seq, requestCrc o.code k, none⟩ :: z.cache).take 8 } else z) ∘
          (fun z : Session => if z.num = k.hdr.session then { z with fails := if c then 0 else z.fails } else z)) y =
        if y.num = k.hdr.session then y.accept s.stamp k.hdr.seq (requestCrc o.code k) c else y) := by
      intro y
      by_cases hy : y.num = k.hdr.session <;> simp [Function.comp, hy, Session.accept]
    simp only [← funext this]
    cases o.deferred <;> rfl
  unfold State.vet
  simp only [h.link, Bool.not_true, Bool.false_eq_true, if_false]
  rw [if_neg a, if_neg h.numbered]
  simp only [h.session]
  rw [if_neg p]
  have m := h.mac
  unfold Session.macRight at m
  cases hk : x.key with
  | none =>
    rw [hk] at m
    simp only at m
    rw [m]
    refine q s false ?_ (by rw [m]; rfl)
    unfold State.modSession
    cases s
    simp
  | some key =>
    rw [hk] at m
    simp only at m
    rw [m]
    simp only [if_true]
    exact q _ true rfl (by rw [m]; rfl)
theorem State.find_map_num {l : List Session} {n : BitVec 16} {f : Session → Session} {x : Session} (hf : ∀ y, (f y).num = y.num)
    (h : l.find? (fun y => y.num = n) = some x) : (l.map f).find? (fun y => y.num = n) = some (f x) := by
  induction l with
  | nil => simp at h
  | cons a l ih =>
    rw [List.map_cons, List.find?_cons]
    rw [List.find?_cons] at h
    rw [hf]
    split at h <;> simp_all

/-- After the checks the session is still there, as it accepted the request. -/
theorem State.afterChecks_session {s : State} {o : OpSpec} {k : Pkt} {x : Session} (h : s.session? k.hdr.session = some x) :
    (s.afterChecks o k).session? k.hdr.session = some (x.accept s.stamp k.hdr.seq (requestCrc o.code k) k.hdr.mac.isSome) := by
  have num := State.session?_num h
  have e := State.find_map_num (n := k.hdr.session) (f := fun y : Session => if y.num = k.hdr.session then
    y.accept s.stamp k.hdr.seq (requestCrc o.code k) k.hdr.mac.isSome else y) (fun y => by by_cases e : y.num = k.hdr.session <;> simp [e, Session.accept]) h
  rw [if_pos num] at e
  unfold State.afterChecks
  cases o.deferred <;> exact e

/-- A reply that is sent is the last thing sent. -/
theorem State.sendReply_head (s : State) (r : Reply) : (s.sendReply r).outs.head? = some (.reply r) := rfl

/-- A request of a session that is open from where it came is answered. -/
theorem State.answer_replied {s : State} {p : Pend} {x : Session} (st it : Nat) (pl : Bytes) (hn : p.session ≠ 0) (he : p.ended = false)
    (h : s.session? p.session = some x) (hs : x.src = p.src) (hv : x.sv = p.sv) : (s.answer p st it pl).Replied p st it pl := by
  unfold State.answer
  have h' : ({ s with host := { s.host with pends := s.host.pends.filter (fun q => q ≠ p) } } : State).session? p.session = some x := h
  simp only [he, if_neg hn, h', Bool.false_eq_true, if_false]
  rw [if_neg (by simp [hs, hv])]
  exact ⟨_, State.sendReply_head _ _, rfl, rfl, rfl, rfl, rfl, rfl, rfl, rfl⟩

/-- A request that passes the checks is answered by whatever leaves the host link as it stands. -/
theorem State.Passes.replied {s t : State} {o : OpSpec} {k : Pkt} {x : Session} (h : s.Passes o k x) (ht : t.host = (s.afterChecks o k).host)
    (st it : Nat) (pl : Bytes) : (t.answer (pendOf o.code k.hdr) st it pl).Replied (pendOf o.code k.hdr) st it pl := by
  refine State.answer_replied (x := x.accept s.stamp k.hdr.seq (requestCrc o.code k) k.hdr.mac.isSome) st it pl h.numbered rfl ?_ h.source h.transport
  have := State.afterChecks_session (o := o) h.session
  unfold State.session? at this ⊢
  rw [ht]
  exact this

/-- What the checks of a request that passes them may change. -/
theorem State.afterChecks_reach {T : Nat} {s₀ s : State} {o : OpSpec} {k : Pkt} (sub_ : Sub 4294967296 T) (reach_ : Reach T s₀ s) :
    Reach T s₀ (s.afterChecks o k) := by
  unfold State.afterChecks
  exact Reach.ite (fun _ => Reach.set_host sub_ (State.modSession_reach sub_ reach_)) (fun _ => State.modSession_reach sub_ reach_)

/-! ### Bytes -/

theorem leBytes_length (n v : Nat) : (leBytes n v).length = n := by
  induction n generalizing v with
  | zero => rfl
  | succ n ih => simp [leBytes, ih]

theorem leNat_leBytes (n v : Nat) : leNat (leBytes n v) = v % 256 ^ n := by
  induction n generalizing v with
  | zero => simp [leBytes, leNat, Nat.mod_one]
  | succ n ih =>
    show (BitVec.ofNat 8 v).toNat + 256 * leNat (leBytes n (v / 256)) = _
    rw [ih, BitVec.toNat_ofNat, Nat.pow_succ' (m := 256), Nat.mod_mul (x := v) (a := 256) (b := 256 ^ n)]

/-- The packet of a one-entry write says what it writes. -/
theorem oneEntry_entries {q : Hdr} {pid : Nat} {v : BitVec 32} (h : pid < 4294967296) :
    writeEntries (oneEntry q pid v).payload = [(pid, v)] := by
  have a : fieldAt (oneEntry q pid v).payload 4 4 = pid :=
    (show _ = leNat (leBytes 4 pid) by simp [fieldAt, oneEntry, leBytes]).trans ((leNat_leBytes 4 pid).trans (Nat.mod_eq_of_lt h))
  have b : fieldAt (oneEntry q pid v).payload 8 4 = v.toNat :=
    (show _ = leNat (leBytes 4 v.toNat) by simp [fieldAt, oneEntry, leBytes]).trans
      ((leNat_leBytes 4 v.toNat).trans (Nat.mod_eq_of_lt v.isLt))
  have c : fieldAt (oneEntry q pid v).payload 0 2 = 1 := by simp [fieldAt, oneEntry, leBytes, leNat]
  unfold writeEntries
  rw [c]
  simp only [List.range_succ, List.range_zero, List.nil_append, List.map_cons, List.map_nil, Nat.mul_zero, Nat.add_zero, a, b]
  simp [word32]

/-- Which parameters exist depends on the variant alone. -/
theorem State.resolvePid_sec {s t : State} (h : t.sec = s.sec) (pid : Nat) : t.resolvePid pid = s.resolvePid pid := by
  have i : t.hasInst = s.hasInst := by
    cases s
    cases t
    cases h
    rfl
  have e : t.hasElem = s.hasElem := by
    cases s
    cases t
    cases h
    rfl
  unfold State.resolvePid
  rw [i, e]

theorem State.applyEntries_one {s : State} {pid : Nat} {r : ParRow} {i j : Nat} (v : BitVec 32) (h : s.resolvePid pid = .inr (r, i, j)) :
    s.applyEntries [(pid, v)] = (s.applyPar r i j v).2 := by
  unfold State.applyEntries
  rw [List.foldl_cons, List.foldl_nil]
  simp only
  rw [h]

theorem firstFailure_one {k st : Nat} (h : st = 0) : firstFailure k [st] = none := by
  rw [h]
  rfl

/-- The relations between parameters depend on the parameters and the program alone. -/
theorem State.breaksRelation_of {s t : State} (p : t.params = s.params) (g : t.prog = s.prog) (pid : Nat) :
    t.breaksRelation pid = s.breaksRelation pid := by
  have a1 : ∀ (r : ParRow) (i j : Nat), t.par r i j = s.par r i j := fun r i j => by unfold State.par; rw [p]
  have a2 : ∀ (r : ParRow) (i j : Nat), t.parN r i j = s.parN r i j := fun r i j => by unfold State.parN; rw [a1]
  have a3 : ∀ (r : ParRow) (i j : Nat), t.parR r i j = s.parR r i j := fun r i j => by unfold State.parR; rw [a1]
  have a4 : ∀ (r : ParRow) (i j : Nat), t.parZ r i j = s.parZ r i j := fun r i j => by unfold State.parZ; rw [a1]
  have a5 : ∀ a, t.axType a = s.axType a := fun a => by unfold State.axType; rw [a2]
  have a6 : ∀ a, t.fbPort a = s.fbPort a := fun a => by unfold State.fbPort; rw [a2]
  have a7 : ∀ a, t.hasDoor a = s.hasDoor a := fun a => by unfold State.hasDoor State.hasComposite; rw [g]
  have b1 : ∀ a, t.axisRelations a = s.axisRelations a := fun a => by unfold State.axisRelations; simp only [a2, a3, a4, a5, a6]
  have b2 : ∀ a, t.flightRelations a = s.flightRelations a := fun a => by
    unfold State.flightRelations State.stepFitted
    simp only [a1, a3, a5, a7]
  unfold State.breaksRelation
  simp only [b1, b2]

/-- An entry that passes steps 1 to 6 is judged as its value is. -/
theorem State.judgeEntry_value {u : State} {r : ParRow} {i j pid : Nat} {v : Word} {role : Nat}
    (may : roleMayWrite role r = true) (w : r.acc = .rw ∨ r.acc = .wo) (live : r.image = false) (fr : u.progOwns pid = false)
    (row : u.resolvePid pid = .inr (r, i, j)) {a : State} (jv : u.judgeValue a r i j v = 0) :
    u.judgeEntry a role (pid, v) = 0 := by
  unfold State.judgeEntry
  simp only [row]
  rw [if_neg (by simp [may]), if_neg (by rcases w with w | w <;> simp [w]), if_neg (by rcases w with w | w <;> simp [w]), if_neg (by simp [live]), if_neg (by simp [fr])]
  exact jv

/-- Steps 7 to 9. -/
theorem State.judgeValue_ok {u a : State} {r : ParRow} {i j : Nat} {v : Word} 
    (value : r.admits v = true) (rel : a.breaksRelation (r.pid i j) = false) (own : (u.applyPar r i j v).1 = 0)
    (hb : (r.ofHallB && u.hallB.inReset) = false) : u.judgeValue a r i j v = 0 := by
  unfold State.judgeValue
  rw [if_neg (by simp [value, rel]), own]
  simp [hb, stOK]

/-- An entry that passes steps 1 to 7 and 9, and its parameter's own condition, is judged OK. -/
theorem State.Writes.judged {s u : State} {q : Hdr} {r : ParRow} {i j : Nat} {v : Word} {x : Session} (h : s.Writes q r i j v x)
    (p : u.params = s.params) (e : u.sec = s.sec) (g : u.prog = s.prog) (b : u.hallB = s.hallB) (own : (u.applyPar r i j v).1 = 0) :
    u.judgeEntry (u.setPar (r.pid i j) v) x.role (r.pid i j, v) = 0 := by
  have row : u.resolvePid (r.pid i j) = .inr (r, i, j) := (State.resolvePid_sec e _).trans h.row
  have rel : (u.setPar (r.pid i j) v).breaksRelation (r.pid i j) = false := by
    have k : ∀ n, (s.setPar n v).breaksRelation n = false → (u.setPar n v).breaksRelation n = false := fun n hn => by
      have pp : (u.setPar n v).params = (s.setPar n v).params := by simp only [State.setPar, p]
      exact (State.breaksRelation_of pp g n).trans hn
    exact k _ h.relation
  have fr : u.progOwns (r.pid i j) = false := by
    have := h.free
    unfold State.progOwns at this ⊢
    rw [g]
    exact this
  have hb : (r.ofHallB && u.hallB.inReset) = false := by rw [b]; exact h.held
  exact State.judgeEntry_value h.may h.writable h.live fr row (State.judgeValue_ok h.value rel own hb)

/-- A write of one parameter that passes has the parameter's effect, and is answered OK. -/
theorem State.Writes.served {s : State} {q : Hdr} {r : ParRow} {i j : Nat} {v : Word} {x : Session} (h : s.Writes q r i j v x)
    (own : ((s.afterChecks writeSpec (oneEntry q (r.pid i j) v)).applyPar r i j v).1 = 0) :
    s.writeOne q r i j v =
      (((s.afterChecks writeSpec (oneEntry q (r.pid i j) v)).applyPar r i j v).2).answer (pendOf 0x0011 q) 0 0 (writeReply 0xFFFF) := by
  have c : fieldAt (oneEntry q (r.pid i j) v).payload 0 2 = 1 := by simp [fieldAt, oneEntry, leBytes, leNat]
  have l : (oneEntry q (r.pid i j) v).payload.length = 12 := by simp [oneEntry, leBytes_length]
  have e := oneEntry_entries (q := q) (v := v) h.word
  have r' := h.row
  have j' := State.Writes.judged (u := s.afterChecks writeSpec (oneEntry q (r.pid i j) v)) h rfl rfl rfl rfl own
  have vp := State.vet_passes h.passes
  unfold State.writeOne unitPid
  rw [if_pos (by simp [h.unit, h.element])]
  unfold State.parWrite
  simp only
  generalize hu : s.afterChecks writeSpec (oneEntry q (r.pid i j) v) = u at *
  have row : u.resolvePid (r.pid i j) = .inr (r, i, j) := by
    rw [← r']
    exact State.resolvePid_sec (by rw [← hu]; rfl) _
  have sp : ({ code := opParWrite, perm := .read, lenOk := decide ((oneEntry q (r.pid i j) v).payload.length =
      4 + 8 * fieldAt (oneEntry q (r.pid i j) v).payload 0 2), deferred := true } : OpSpec) = writeSpec := by
    rw [c, l]
    rfl
  rw [sp, vp]
  simp only
  unfold State.serveWrite
  simp only [c, e]
  have act : u.sec.activating.isSome = false := by
    have : u.sec = s.sec := by rw [← hu]; rfl
    rw [this, h.idle]; rfl
  have g : firstFailure 0 (List.map (u.judgeEntry (u.withValues [(r.pid i j, v)]) x.role) [(r.pid i j, v)]) = none :=
    firstFailure_one j'
  have ae := State.applyEntries_one v row
  rw [if_neg (by simp), act, if_neg (by simp), g, ae]
  rfl
end Sys2Proof.Machine
end

