-- ==== Sys2Proof/Laws/Treads.lean ====
section
/-! SUPPORT. A tread that cannot run stays OFF whatever its axis does: no fault stop turns it on (03 R82, R100). -/

namespace Sys2Proof.Machine

/-- The tread may not run at present, whatever is commanded, and it is OFF. -/
structure State.Held (s : State) (n : Nat) : Prop where
  blocked : (s.treadEnabled n && (s.tread n).free s.tick) = false
  off : (s.tread n).mode = .off

/-- No commanded mode runs on a tread that is held. -/
theorem State.Held.none {s : State} {n : Nat} (h : s.Held n) (m : TMode) : s.modeFor n m = .off := by
  unfold State.modeFor
  rcases Bool.and_eq_false_iff.mp h.blocked with e | e <;> simp [e]

/-- Where the supply, the presence loops, the enables, the breaker or the rail hold a tread back, it is held once it is OFF. -/
theorem State.Held.of_disabled {s : State} {n : Nat} (h : s.treadEnabled n = false) (k : (s.tread n).mode = .off) : s.Held n :=
  ⟨by simp [h], k⟩

/-- A tread's own latches hold it back. -/
theorem State.Held.of_latched {s : State} {n : Nat} (h : (s.tread n).free s.tick = false) (k : (s.tread n).mode = .off) : s.Held n :=
  ⟨by simp [h], k⟩

theorem State.Held.modAxis {s : State} {n a : Nat} {f : Axis → Axis} (h : s.Held n) : (s.modAxis a f).Held n := ⟨h.1, h.2⟩

theorem State.Held.record {s : State} {n k : Nat} {e : EvCode} {args : List (BitVec 32)} (h : s.Held n) : (s.record e k args).Held n := by
  constructor
  · rw [← h.blocked]
    unfold State.treadEnabled State.flightEnabled State.treadSupplyOk State.fpower State.die State.storey State.tread State.tick
    simp
  · rw [← h.off]
    unfold State.tread
    simp

theorem State.Held.driveTread {s : State} {n k : Nat} {m : TMode} {d : Rat} (h : s.Held n) : (s.driveTread k m d).Held n := by
  by_cases e : k = n
  · subst e
    have free : ((s.driveTread k m d).tread k).free s.tick = (s.tread k).free s.tick ∧ ((s.driveTread k m d).tread k).mode = .off := by
      by_cases l : k < s.treads.length
      · have t : (s.driveTread k m d).tread k = if s.limpHolds k then { s.tread k with cmd := m }
            else { s.tread k with cmd := m, duty := d, mode := s.modeFor k m } := State.tread_modTread l
        rw [t]
        split
        · exact ⟨rfl, h.off⟩
        · exact ⟨rfl, h.none m⟩
      · have t : (s.driveTread k m d).tread k = s.tread k := by
          unfold State.driveTread State.tread
          simp [l]
        rw [t]
        exact ⟨rfl, h.off⟩
    exact ⟨by rw [← h.blocked]; exact congrArg (s.treadEnabled k && ·) free.1, free.2⟩
  · have t : (s.driveTread k m d).tread n = s.tread n := State.tread_modTread_ne e
    exact ⟨by rw [← h.blocked]; exact congrArg (fun x : Tread => s.treadEnabled n && x.free s.tick) t, by rw [t]; exact h.off⟩

theorem State.Held.driveTreads {s : State} {n : Nat} {l : List Nat} {m : TMode} {d : Rat} (h : s.Held n) : (s.driveTreads l m d).Held n := by
  unfold State.driveTreads
  induction l generalizing s with
  | nil => exact h
  | cons k l ih => exact ih h.driveTread

/-- Whatever commands to treads, updates of axes and records keep, a fault stop keeps. -/
theorem State.faultStop_keeps {P : State → Prop} (onTread : ∀ u k m d, P u → P (u.driveTread k m d))
    (onAxis : ∀ u a f, P u → P (u.modAxis a f)) (onRecord : ∀ u e k args, P u → P (u.record e k args)) {s : State} {a : Nat}
    {cs : List Nat} (h : P s) : P (s.faultStop a cs) := by
  have drive : ∀ {u : State} {l : List Nat} {m : TMode} {d : Rat}, P u → P (u.driveTreads l m d) := by
    intro u l m d k
    unfold State.driveTreads
    induction l generalizing u with
    | nil => exact k
    | cons x l ih => exact ih (onTread _ _ _ _ k)
  have react : ∀ {u : State} {b : Bool}, P u → P (u.reactTreads a b) := by
    intro u b k
    exact drive k
  unfold State.faultStop
  split
  · exact h
  · extract_lets hold
    split
    · exact h
    · split
      · split
        · exact react (onAxis _ _ _ h)
        · exact h
      · rename_i blind u v w _ _
        have hv : P v := react (onAxis _ _ _ h)
        apply onRecord
        show P (if blind then v.setUncertain a else v)
        split
        · unfold State.setUncertain
          split
          · exact hv
          · exact onRecord _ _ _ _ (onAxis _ _ _ hv)
        · exact hv

/-- Whatever commands to treads, updates of axes and records keep, the fault stops of a sample keep. -/
theorem State.causeStops_keeps {P : State → Prop} (onTread : ∀ u k m d, P u → P (u.driveTread k m d))
    (onAxis : ∀ u a f, P u → P (u.modAxis a f)) (onRecord : ∀ u e k args, P u → P (u.record e k args)) {s : State} (h : P s) :
    P s.causeStops := by
  unfold State.causeStops State.forEach
  generalize List.range 36 = l
  induction l generalizing s with
  | nil => exact h
  | cons a l ih => exact ih (State.faultStop_keeps onTread onAxis onRecord h)

theorem State.Held.causeStops {s : State} {n : Nat} (h : s.Held n) : s.causeStops.Held n :=
  State.causeStops_keeps (P := fun u => u.Held n) (fun _ _ _ _ k => k.driveTread) (fun _ _ _ k => k.modAxis) (fun _ _ _ _ k => k.record) h

/-- A fault stop changes what a tread is commanded and does, never its latches and counts. -/
theorem State.tread_causeStops (s : State) (n : Nat) :
    ∃ m d o, s.causeStops.tread n = { s.tread n with cmd := m, duty := d, mode := o } := by
  refine State.causeStops_keeps (P := fun u => ∃ m d o, u.tread n = { s.tread n with cmd := m, duty := d, mode := o }) ?_ ?_ ?_
    ⟨_, _, _, rfl⟩
  · intro u k m d ⟨m', d', o', h⟩
    by_cases e : k = n
    · subst e
      by_cases l : k < u.treads.length
      · have t : (u.driveTread k m d).tread k = if u.limpHolds k then { u.tread k with cmd := m }
            else { u.tread k with cmd := m, duty := d, mode := u.modeFor k m } := State.tread_modTread l
        rw [t]
        split
        · exact ⟨m, d', o', by rw [h]⟩
        · exact ⟨m, d, _, by rw [h]⟩
      · have t : (u.driveTread k m d).tread k = u.tread k := by
          unfold State.driveTread State.tread
          simp [l]
        exact ⟨m', d', o', by rw [t, h]⟩
    · have t : (u.driveTread k m d).tread n = u.tread n := State.tread_modTread_ne e
      exact ⟨m', d', o', by rw [t, h]⟩
  · intro u a f h
    exact h
  · intro u e k args ⟨m, d, o, h⟩
    refine ⟨m, d, o, ?_⟩
    rw [← h]
    unfold State.tread
    simp

/-- What leaves the clock, the supply, the storeys, the dies, the flights' supplies and the treads keeps a tread held. -/
theorem State.Held.of_reach {T : Nat} {s t : State} {n : Nat} (h : s.Held n) (r : Reach T s t) (k : 15370 &&& T = 0) : t.Held n := by
  have b : ∀ i, (15370 : Nat).testBit i = true → T.testBit i = false := by
    intro i e
    have := congrArg (fun x : Nat => x.testBit i) k
    simpa [Nat.testBit_and, e] using this
  have clock := r.clock (b 1 (by decide))
  have supply := r.supply (b 3 (by decide))
  have storeys := r.storeys (b 10 (by decide))
  have dies := r.dies (b 11 (by decide))
  have power := r.flightPower (b 12 (by decide))
  have treads := r.treads (b 13 (by decide))
  have x : t.tread n = s.tread n := by
    unfold State.tread
    rw [treads]
  refine ⟨?_, by rw [x]; exact h.off⟩
  rw [← h.blocked, x]
  unfold State.treadEnabled State.flightEnabled State.treadSupplyOk State.fpower State.die State.storey State.tick
  simp only [clock, supply, storeys, dies, power]

/-- What the treads turned OFF at once leave: a tread that the condition names is OFF, every other as it was. -/
theorem State.tread_treadsOff {s : State} {p : Nat → Bool} {n : Nat} (h : n < s.treads.length) :
    (s.treadsOff p).tread n = if p n then (s.tread n).hardOff else s.tread n := by
  unfold State.treadsOff State.tread
  simp [h]

end Sys2Proof.Machine
end

