-- ==== Sys2Proof/WellFormed.lean ====
section
/-! DEFINITION. Well-formed commands: every unit number within its class (12 R425), every axis packet with the command code
of its row (12 R422), every packet payload within 4608 bytes (12 R410). -/

namespace Sys2Proof

/-- A host packet carries at most 4608 bytes of payload and a MAC of 16 bytes (12 R410). -/
def Pkt.wf (k : Pkt) : Bool :=
  k.payload.length ≤ 4608 && (match k.hdr.mac with | none => true | some m => m.length = 16)

/-- An AXIS_CMD packet carries the code of its row in CMD (12 R422). -/
def Pkt.isAxisCmd (k : Pkt) (code : Nat) : Bool := k.wf && k.payload.getD 1 0 = BitVec.ofNat 8 code

/-- A MODE_REQUEST or RESTART packet carries the code of its row in its first byte (12 R422). -/
def Pkt.isCode (k : Pkt) (code : Nat) : Bool := k.wf && k.payload.getD 0 0 = BitVec.ofNat 8 code

/-- The well-formed commands. -/
def Instr.wf : Instr → Bool
  | .safetyTick _ => true
  | .budgetStop lv => decide (lv < 20)
  | .hallSupplyFault _ => true
  | .hallClockFault _ => true
  | .ownClockFault => true
  | .pllLockLoss _ => true
  | .eccUncorrectable _ => true
  | .sramScrub _ _ _ => true
  | .hallBReturn => true
  | .hallResetAssert _ => true
  | .heartbeatLoss d _ => decide (d < 2)
  | .flightEnableLow f _ => decide (f < 12)
  | .limpHomeTakeover d => decide (d < 2)
  | .limpHomeHandback => true
  | .storeyBreaker u => decide (u < 4)
  | .flightPresenceOpen f => decide (f < 12)
  | .flightPresenceClosed f => decide (f < 12)
  | .modulePresenceOpen => true
  | .modulePresenceClosed => true
  | .precharge _ _ => true
  | .prechargeTimeout => true
  | .supplyUv => true
  | .supplyUvRestart => true
  | .uvClear _ _ => true
  | .supplyOv => true
  | .supplyOvRelease => true
  | .supplyInterrupt => true
  | .supplyLoss => true
  | .groundLoss => true
  | .lhPinChange p => decide (p < 8)
  | .treadIlim t => decide (t < 96)
  | .treadPeakClamp t => decide (t < 96)
  | .treadThermal m => decide (m.tread < 96)
  | .treadWireTrip t => decide (t < 96)
  | .treadRearm t => decide (t < 96)
  | .treadRetry t => decide (t < 96)
  | .retryCountReset t => decide (t < 96)
  | .treadClear _ t _ => decide (t < 96)
  | .treadOpenLoad t => decide (t < 96)
  | .storeyReclose _ u _ => decide (u < 4)
  | .storeyStopClear _ u _ => decide (u < 4)
  | .flightStopClear _ f _ => decide (f < 12)
  | .sysStopClear _ _ => true
  | .debouncedChange l _ => decide (l < 160)
  | .cleaningPulse l => decide (l < 160)
  | .cleaningPulseEnd l => decide (l < 160)
  | .senseTrackFence l => decide (l < 160)
  | .senseRxMismatch l => decide (l < 160)
  | .senseRxMismatchClear l => decide (l < 160)
  | .senseLoopFault l => decide (l < 160)
  | .senseOverRange l => decide (l < 160)
  | .burdenReconnect l => decide (l < 160)
  | .reedInputChange p _ => decide (p < 24)
  | .portEdge p _ => decide (p < 24)
  | .auxPulseEnd p => decide (p < 24)
  | .echoEdgeOut f _ => decide (f < 12)
  | .portStandstill p => decide (p < 24)
  | .portLineFault p => decide (p < 24)
  | .portHallInvalid p => decide (p < 24)
  | .ssiFrame p _ => decide (p < 24)
  | .indexEvent p => decide (p < 24)
  | .portRxMismatch p => decide (p < 24)
  | .portSupplyFault p => decide (p < 24)
  | .supplyClear _ p _ => decide (p < 24)
  | .portCountWrite _ p _ => decide (p < 24)
  | .portCountRead _ p => decide (p < 24)
  | .cmpArm _ p e _ => decide (p < 24) && decide (e < 64)
  | .cmpDisarm _ p e _ => decide (p < 24) && decide (e < 64)
  | .cmpHitClr _ p w _ => decide (p < 24) && decide (w < 2)
  | .motionSample _ => true
  | .moveAbs k => k.isAxisCmd 1
  | .moveRel k => k.isAxisCmd 2
  | .moveVel k => k.isAxisCmd 3
  | .stop k => k.isAxisCmd 4
  | .quickStop k => k.isAxisCmd 5
  | .release k => k.isAxisCmd 6
  | .gearEngage k => k.isAxisCmd 7
  | .gearDisengage k => k.isAxisCmd 8
  | .energize k => k.isAxisCmd 9
  | .deenergize k => k.isAxisCmd 10
  | .commLearn k => k.isAxisCmd 11
  | .axisDeviation a => decide (a < 36)
  | .axisOverspeed a => decide (a < 36)
  | .axisDecelWrite _ a _ => decide (a < 36)
  | .axisPosSet _ a _ => decide (a < 36)
  | .axisHoldTimeout a => decide (a < 36)
  | .alignComplete a _ => decide (a < 36)
  | .externalStep a _ => decide (a < 36)
  | .stepperHoldCurrent a => decide (a < 36)
  | .solenoidPullEnd a => decide (a < 36)
  | .gearMasterLost a => decide (a < 36)
  | .programCycleStart => true
  | .programCycleComplete _ => true
  | .programStop _ _ => true
  | .programRestart _ _ => true
  | .forceSet k => k.wf
  | .forceClear k => k.wf
  | .forceClearAll _ _ => true
  | .progBegin k => k.wf
  | .progData k => k.wf
  | .progEnd k => k.wf
  | .programVerified => true
  | .progSwitch k => k.wf
  | .switchAbandoned => true
  | .rpdoReceive p id _ => decide (p < 2) && decide (id < 2048)
  | .canHeartbeat p node _ => decide (p < 2) && decide (node < 128)
  | .canNodeLost n => decide (n < 32)
  | .canEmcy p node _ => decide (p < 2) && decide (node < 128)
  | .canErrorPassive p _ _ => decide (p < 2)
  | .canBusOff p => decide (p < 2)
  | .canBusRecovered p => decide (p < 2)
  | .doorOpen f => decide (f < 12)
  | .doorClose f => decide (f < 12)
  | .doorStop f => decide (f < 12)
  | .isolate f => decide (f < 12)
  | .deisolate f => decide (f < 12)
  | .doorReference f => decide (f < 12)
  | .resetFault f => decide (f < 12)
  | .egress f => decide (f < 12)
  | .warnTimeout f => decide (f < 12)
  | .lockNoRelease f => decide (f < 12)
  | .lockNotEngaged f => decide (f < 12)
  | .closedNotConfirmed f => decide (f < 12)
  | .stepConfirmTimeout f => decide (f < 12)
  | .extend f => decide (f < 12)
  | .retract f => decide (f < 12)
  | .stepStop f => decide (f < 12)
  | .stepReference f => decide (f < 12)
  | .stepReset f => decide (f < 12)
  | .lockRelease f => decide (f < 12)
  | .engage f => decide (f < 12)
  | .lockReset f => decide (f < 12)
  | .referenceStart f => decide (f < 12)
  | .hardstopFound f => decide (f < 12)
  | .hardstopReleaseEnd f => decide (f < 12)
  | .obstacleDetected f => decide (f < 12)
  | .reversalStart f => decide (f < 12)
  | .recloseAttempt f => decide (f < 12)
  | .startMarginEnd f => decide (f < 12)
  | .learnUpdate f => decide (f < 12)
  | .learnConfirmTimeout f => decide (f < 12)
  | .obstacleCommission _ f _ => decide (f < 12)
  | .commissionAbort _ f _ => decide (f < 12)
  | .mapRestore _ f _ => decide (f < 12)
  | .tempInWrite _ f _ => decide (f < 12)
  | .tempInTimeout f => decide (f < 12)
  | .discrepancy n => decide (n < 51)
  | .discrepancyCleared n => decide (n < 51)
  | .dclConduct o => decide (o < 2)
  | .dclOfflineTest o _ _ => decide (o < 2)
  | .dclTestPulse o sw _ => decide (o < 2) && decide (sw < 2)
  | .dclInhibit => true
  | .permissionGrant f => decide (f < 12)
  | .resetEdge => true
  | .resetHeld => true
  | .resetStuckClear => true
  | .safetyResetReq _ _ => true
  | .wordMismatchLimit _ => true
  | .modeTransition => true
  | .sealRead _ => true
  | .vsfSend c => decide (c < 8)
  | .vsfFrameReceive _ => true
  | .safelinkSilenceTimeout c => decide (c < 8)
  | .safelinkExpired c => decide (c < 8)
  | .trdpPdReceive _ => true
  | .trdpSubTimeout n => decide (n < 32)
  | .eventIntake => true
  | .recordWindowEnd => true
  | .queueTake => true
  | .eventsLost => true
  | .pageProgram => true
  | .compactionStep => true
  | .traceWrite f => decide (f < 12)
  | .counterPersist => true
  | .galleryFailed cause _ => decide (cause < 5)
  | .indexRebuilt => true
  | .nandScrub _ => true
  | .alcoveClear _ _ => true
  | .optimeRead _ => true
  | .floodModeWrite _ _ => true
  | .hello k => k.wf
  | .auth k => k.wf
  | .lockoutEnd _ => true
  | .authTimeout _ => true
  | .close k => k.wf
  | .sessionTimeout _ => true
  | .usbDetach => true
  | .fragmentTimeout _ _ => true
  | .keepalive k => k.wf
  | .identify k => k.wf
  | .parRead k => k.wf
  | .parWrite k => k.wf
  | .parReadArray k => k.wf
  | .parInfo k => k.wf
  | .galRead k => k.wf
  | .galTraceRead k => k.wf
  | .stageBegin k => k.wf
  | .stageData k => k.wf
  | .stageEnd k => k.wf
  | .transferAbandon kind => decide (kind < 4)
  | .activate k => k.wf
  | .rollback k => k.wf
  | .activationTick => true
  | .slotInfo k => k.wf
  | .attestChallenge k => k.wf
  | .attestSigned => true
  | .attestContinuation k => k.wf
  | .certRead k => k.wf
  | .hostKeySet k => k.wf
  | .hostKeyRevoke k => k.wf
  | .modeRequestStandby k => k.isCode 1
  | .modeRequestRun k => k.isCode 2
  | .modeRequestMaintenance k => k.isCode 3
  | .modeRequestUpdate k => k.isCode 5
  | .restartHallA k => k.isCode 0
  | .restartModule k => k.isCode 1
  | .restartBegin => true
  | .calCheck k => k.wf
  | .calTrimWrite _ pid _ => decide (pid < 4294967296)
  | .calClearAll _ _ => true
  | .ringLinkUp p _ eq => decide (p < 2) && decide (eq < 32)
  | .ringTrainingRetry p => decide (p < 2)
  | .ringPortDown p _ => decide (p < 2)
  | .ringFormTrigger => true
  | .ringReform _ _ => true
  | .formWaitEnd _ => true
  | .ringFrame r => decide (r.port < 2)
  | .ringLost cause => decide (cause < 2)
  | .boot _ => true
  | .bootComplete _ => true
  | .fwTrialTimeout => true
  | .doorCmd k => k.wf
  | .hallAReturn => true
  | .engineWatchdog _ => true
  | .galleryFailedRepeat => true
  | .hostPacketRejected _ _ _ => true
  | .ringSignalDetect p => decide (p < 2)
  | .switchFrameForward p _ => decide (p < 2)
  | .arpIcmpRequest _ => true
  | .groundReturn => true
  | .lPdLoss d => decide (d < 2)
  | .lPdRestored d => decide (d < 2)

end Sys2Proof
end

