-- ==== Sys2Proof/Tests/Slice0.lean ====
section
/-! SUPPORT. Tests: ill-formed commands that the well-formedness check refuses; for every obligation a state and operands that meet its
hypotheses, clause by clause, with the result that the rules it cites give. -/

set_option Elab.async false

open Sys2Proof Sys2Proof.Machine

namespace Sys2Proof.Tests

/-- The command answers a next state that has a property. -/
def run (c : Instr) (s : State) (p : State → Bool) : Bool :=
  match exec c s with
  | .next t => p t
  | .fault _ => false
  | .refused _ => false

/-- `State.Sound`, decided. -/
def sound (s : State) : Bool :=
  let legal (b : Budget) : Bool := decide (4 ≤ b.scale) && decide (b.scale ≤ 16)
  Params.wf s.params && Memory.wf s.prog.mem && Memory.wf s.prog.inp && Memory.wf s.prog.out &&
  decide (s.gallery.openTab.length ≤ 64) && decide (s.gallery.hallA.length ≤ 64) && decide (s.gallery.staging.length = 12) &&
  decide (s.gallery.flightCycles.length = 12) && decide (s.flightBudgets.length = 12) && s.flightBudgets.all legal &&
  decide (s.storeyBudgets.length = 4) && s.storeyBudgets.all legal && decide (s.dieBudgets.length = 2) && s.dieBudgets.all legal &&
  legal s.currentBudget && legal s.thermalBudget && decide (s.limp.length = 2) && decide (s.storeys.length = 4) &&
  decide (s.dies.length = 2) && decide (s.flightPower.length = 12) && decide (s.treads.length = 96) &&
  decide (s.senses.length = 160) && decide (s.cleaners.length = 28) && decide (s.ports.length = 24) && decide (s.echos.length = 12) &&
  decide (s.axes.length = 36) && decide (s.doors.length = 12) && decide (s.obst.length = 12) && decide (s.conns.length = 8) &&
  decide (s.safety.flights.length = 12)

theorem sound_sound {s : State} (h : sound s = true) : s.Sound := by
  simp only [sound, Bool.and_eq_true, decide_eq_true_eq, List.all_eq_true] at h
  obtain ⟨⟨⟨⟨⟨⟨⟨⟨⟨⟨⟨⟨⟨⟨⟨⟨⟨⟨⟨⟨⟨⟨⟨⟨⟨⟨⟨⟨⟨h1, h2⟩, h3⟩, h4⟩, h5⟩, h6⟩, h7⟩, h8⟩, h9⟩, h10⟩, h11⟩, h12⟩, h13⟩, h14⟩, h15⟩, h16⟩, h17⟩, h18⟩, h19⟩, h20⟩,
    h21⟩, h22⟩, h23⟩, h24⟩, h25⟩, h26⟩, h27⟩, h28⟩, h29⟩, h30⟩ := h
  exact ⟨h1, ⟨h2, h3, h4⟩, ⟨h5, h6, h7, h8⟩, ⟨h9, fun b hb => h10 b hb⟩, ⟨h11, fun b hb => h12 b hb⟩, ⟨h13, fun b hb => h14 b hb⟩, h15, h16,
    h17, h18, h19, h20, h21, h22, h23, h24, h25, h26, h27, h28, h29, h30⟩

/-- `State.Announces`, decided. -/
def told (s : State) (e : EvCode) (source : Nat) (args : List (BitVec 32)) (t : State) : Bool :=
  !s.hallAUp || (OutMsg.event e.code source args :: s.outs).isSuffixOf t.outs

/-- `State.AnnouncesEach`, decided. -/
def toldEach (s : State) (source : Nat) (es : List (EvCode × List (BitVec 32))) (t : State) : Bool :=
  !s.hallAUp || ((es.map (fun e => OutMsg.event e.1.code source e.2)).reverse ++ s.outs).isSuffixOf t.outs

/-- A module in RUN: both halls run, the supply is good, every presence loop is closed. -/
def up : State :=
  { State.reset with
      clock := { State.reset.clock with tick := 100000, sample := 800000 }
      hallA := { State.reset.hallA with inReset := false, mode := .run }
      hallB := { State.reset.hallB with inReset := false, mode := .run }
      supply := { State.reset.supply with vin8 := [110], valid := true, switchClosed := true, mpres := true }
      dies := State.reset.dies.map (fun d => { d with railUp := true, pllLocked := true })
      flightPower := List.replicate 12 ⟨true, false, false, 0, true, true, true, []⟩ }

/-- A parameter set. -/
def put (s : State) (r : ParRow) (i j : Nat) (v : BitVec 32) : State := s.setPar (r.pid i j) v

/-- Every tread that satisfies a condition is OFF. -/
def allOff (t : State) (p : Nat → Bool) : Bool := (List.range 96).all (fun n => !p n || (t.tread n).mode = .off)

/-- All 96 treads are OFF. -/
def everyOff (t : State) : Bool := t.treads.length = 96 && t.treads.all (fun x => x.mode = .off)

/-- A packet with a payload, whose MAC is as given. -/
def packet (mac : Option Bytes) (payload : Bytes) : Pkt :=
  ⟨{ sv := true, src := 0, seq := 1, session := 1, addr := 0xFF, hall := 0, mac := mac }, payload⟩

/-- Each unit number just past its class, and the last one in it (12 R425). -/
theorem test_unit_numbers_are_checked :
    ([.budgetStop 20, .heartbeatLoss 2 .a, .flightEnableLow 12 .a, .storeyBreaker 4, .lhPinChange 8, .treadIlim 96, .cleaningPulse 160,
      .indexEvent 24, .axisDeviation 36, .discrepancy 51, .dclConduct 2, .dclTestPulse 0 2 0, .vsfSend 8, .trdpSubTimeout 32, .canNodeLost 32,
      .canBusOff 2, .rpdoReceive 0 2048 [], .canEmcy 0 128 [], .galleryFailed 5 0, .transferAbandon 4, .ringLost 2, .ringLinkUp 0 0 32,
      .ringPortDown 2 0, .ringFrame ⟨2, [], 0⟩, .traceWrite 12, .lPdLoss 2] : List Instr).all (fun c => !c.wf) = true ∧
    ([.budgetStop 19, .treadIlim 95, .cleaningPulse 159, .indexEvent 23, .axisDeviation 35, .discrepancy 50, .rpdoReceive 1 2047 [],
      .dclTestPulse 1 1 0, .ringLinkUp 1 0 31, .ringFrame ⟨1, [], 0⟩, .traceWrite 11] : List Instr).all (fun c => c.wf) = true := by decide +kernel

/-- Host writes name a unit, an entry and a word within their rows (12 R425). -/
theorem test_write_operands_are_checked :
    let q := (packet none []).hdr
    ([.treadClear q 96 1, .storeyReclose q 4 1, .storeyStopClear q 4 1, .flightStopClear q 12 1, .supplyClear q 24 1, .portCountWrite q 24 0,
      .portCountRead q 24, .cmpArm q 23 64 0, .cmpDisarm q 24 0 0, .cmpHitClr q 0 2 0, .axisDecelWrite q 36 0, .axisPosSet q 36 0,
      .obstacleCommission q 12 1, .commissionAbort q 12 0, .mapRestore q 12 1, .tempInWrite q 12 0, .calTrimWrite q 4294967296 0] :
      List Instr).all (fun c => !c.wf) = true := by decide +kernel

/-- A payload of 4609 bytes and a MAC of 15 are refused (12 R410); so is a packet whose selecting byte is another row's (12 R422). -/
theorem test_packets_are_checked :
    (Instr.parRead (packet none (List.replicate 4609 0))).wf = false ∧ (Instr.parRead (packet none (List.replicate 4608 0))).wf = true ∧
    (Instr.parRead (packet (some (List.replicate 15 0)) [])).wf = false ∧ (Instr.parRead (packet (some (List.replicate 16 0)) [])).wf = true ∧
    (Instr.moveAbs (packet none [0, 2])).wf = false ∧ (Instr.moveAbs (packet none [0, 1])).wf = true ∧
    (Instr.modeRequestUpdate (packet none [4])).wf = false ∧ (Instr.modeRequestUpdate (packet none [5])).wf = true ∧
    (Instr.restartHallA (packet none [1])).wf = false ∧ (Instr.restartModule (packet none [1])).wf = true := by decide +kernel

/-- The table gives no row bits: no word spells a command. -/
theorem test_no_word_spells_a_command : decodeTableWord 8 0 = none := rfl

/-- The digest of the three bytes 'abc' (12 R411: the published example of the function). -/
theorem test_sha256_abc : sha256 (ascii ['a', 'b', 'c']) =
    [0xba, 0x78, 0x16, 0xbf, 0x8f, 0x01, 0xcf, 0xea, 0x41, 0x41, 0x40, 0xde, 0x5d, 0xae, 0x22, 0x23, 0xb0, 0x03, 0x61, 0xa3, 0x96, 0x17, 0x7a,
      0x9c, 0xb4, 0x10, 0xff, 0x61, 0xf2, 0x00, 0x15, 0xad] := by decide +kernel

/-- Witnesses of O14; the results are those of 02_connectors_supply.md R62 to R65. -/
theorem test_SupplyTripsTurnEveryTreadOff : ([
  (
    let s := { up with supply := { up.supply with vin8 := [5] } }
    sound s && s.supply.uv = false && s.vin < s.parR Par.supplyUvLevel 0 0 && run .supplyUv s fun t =>
      t.supply.uv && t.supply.uvCount = 1 && t.supply.uvLatched = (s.parN Par.supplyUvMode 0 0 = 0) && everyOff t &&
        told s Evt.supplyUv noSource [] t
  ),
  (
    let s := { up with supply := { up.supply with uv := true, uvRun := 800 } }
    run .supplyUvRestart s fun t => !t.supply.uv && t.supply.uvRun = 0 && told s Evt.supplyUvRestart noSource [] t
  ),
  (
    sound up && run .supplyOv up fun t => t.supply.ov && t.supply.ovCount = 1 && everyOff t && told up Evt.supplyOv noSource [] t
  ),
  (
    run .supplyOvRelease { up with supply := { up.supply with ov := true, ovRun := 800 } } fun t => !t.supply.ov && t.supply.ovRun = 0
  )
  ] : List Bool).all id = true := by decide +kernel

/-- Witnesses of O15; the results are those of 02_connectors_supply.md R58, R59, R66. -/
theorem test_PrechargeInterruptionsAndGround : ([
  (
    let s := { up with supply := { up.supply with switchClosed := false } }
    run (.precharge 100 105) s fun t => t.supply.switchClosed && t.supply.prechargeAt = some 800000
  ),
  (
    let s := { up with supply := { up.supply with switchClosed := false, prechargeAt := some 799600 } }
    run .prechargeTimeout s fun t => t.supply.prechargeFailed && !t.supply.switchClosed
  ),
  (
    let s := { up with supply := { up.supply with invalidSince := some 799000, validAt := 799080 } }
    !s.onHoldup && run .supplyInterrupt s fun t => t.supply.invalidSince = none && t.supply.interruptCount = 1 &&
      told s Evt.supplyInterrupt noSource [toReal32 10] t
  ),
  (
    run .groundLoss up fun t => t.supply.groundLost && everyOff t
  ),
  (
    let s := { up with supply := { up.supply with groundLost := true } }
    run .groundReturn s fun t => !t.supply.groundLost && told s Evt.groundLoss noSource [] t
  )
  ] : List Bool).all id = true := by decide +kernel

/-- Witnesses of O16; the results are those of 02_connectors_supply.md R67, R68, R69. -/
theorem test_PresenceLoopsGateTheTreads : ([
  (
    run .modulePresenceOpen up fun t => !t.supply.mpres && t.supply.mpresRun = 0 && everyOff t &&
      told up Evt.modulePresenceOpen noSource [] t
  ),
  (
    run .modulePresenceClosed { up with supply := { up.supply with mpres := false, mpresRun := 4000 } } fun t =>
      t.supply.mpres && t.supply.treadsFromTick = 100001
  ),
  (
    let s := up.modTread 8 (fun x => { x with mode := .highSide })
    sound s && run (.flightPresenceOpen 1) s fun t => !(t.fpower 1).presence && !(t.fpower 1).feedOn && allOff t (fun n => flightOfTread n = 1)
  ),
  (
    let s := up.modFpower 11 (fun x => { x with presence := false, presRun := 4000 })
    sound s && run (.flightPresenceClosed 11) s fun t => (t.fpower 11).presence && (t.fpower 11).feedOn = s.configLoaded
  )
  ] : List Bool).all id = true := by decide +kernel

/-- Witnesses of O17; the results are those of 03_treads.md R94 to R101. -/
theorem test_TreadTripsLatchAndTurnOff : ([
  (
    let s := (put up Par.treadWireCsa 0 0 (toReal32 (3/2))).modTread 0 (fun x => { x with mode := .lowSide, x := 100000 })
    sound s && s.iwOf 0 ≠ 0 && decide (s.iwOf 0 * s.iwOf 0 < (s.tread 0).x) && run (.treadWireTrip 0) s fun t =>
      (t.tread 0).wire && (t.tread 0).mode = .off && told s Evt.treadWireTrip 0 (s.treadArgs 0) t
  )
  ] : List Bool).all id = true := by decide +kernel

/-- Witness of O17 for TREAD_THERMAL, on each side of the shutdown temperature, which is the model's constant (log 6; 03 R95). -/
theorem test_TreadThermal : up.Sound ∧ 95 < up.nTreads ∧ (up.tread 95).therm = false ∧ shutTemp ≤ shutTemp ∧ shutTemp - 1 < shutTemp := by
  have lt : shutTemp - 1 < shutTemp := by grind
  refine ⟨sound_sound ?_, ?_, ?_, Rat.le_refl, lt⟩ <;> decide +kernel

/-- Witnesses of O18; the results are those of 03_treads.md R93 to R104. -/
theorem test_TreadsStayOnRearmAndRetry : ([
  (
    let s := up.modTread 5 (fun x => { x with limitRun := 8 })
    sound s && run (.treadIlim 5) s fun t => t.tread 5 = { s.tread 5 with ilimArmed := false } &&
      told s Evt.treadIlim 5 (toReal32 (s.effectiveLimit 5) :: s.treadArgs 5) t
  ),
  (
    let s := up.modTread 5 (fun x => { x with e := 378 / 10 })
    sound s && run (.treadPeakClamp 5) s fun t => t.tread 5 = { s.tread 5 with clamp := true } && told s Evt.treadPeakClamp 5 [] t
  ),
  (
    let s := up.modTread 5 (fun x => { x with openRun := 800 })
    sound s && run (.treadOpenLoad 5) s fun t => t.tread 5 = { s.tread 5 with openLoad := true } && told s Evt.treadOpenLoad 5 [] t
  ),
  (
    let s := up.modTread 5 (fun x => { x with retryAt := some 100000, used := 2 })
    sound s && run (.treadRetry 5) s fun t => (t.tread 5).retryAt = none && (t.tread 5).used = 3 && told s Evt.treadRetry 5 [3] t
  ),
  (
    let s := up.modTread 5 (fun x => { x with lastTrip := some 0, used := 2 })
    sound s && run (.retryCountReset 5) s fun t =>
      (t.tread 5).used = if 1000 * s.parN Par.treadRetryClear 5 0 ≤ 100000 then 0 else 2
  )
  ] : List Bool).all id = true := by decide +kernel

/-- A tread with a thermal latch, both of whose junctions have cooled below the release temperature, which is the model's constant (log 6). -/
def cooled (held : Bool) : State :=
  (up.modTread 5 (fun x => { x with
    therm := true, waitRearm := true, lhDriven := held, tjHi := rearmTemp - 1, tjLo := rearmTemp - 1 })).modLimp 0
      (fun l => { l with inCharge := held })

/-- Witness of O18 for TREAD_REARM (03 R101, R106). -/
theorem test_TreadRearm (held : Bool) : (cooled held).Sound ∧ 5 < (cooled held).nTreads ∧ ((cooled held).tread 5).therm = true ∧
    ((cooled held).tread 5).wire = false ∧ ((cooled held).tread 5).waitRearm = true ∧ ((cooled held).tread 5).latchedOff = false ∧
    ((cooled held).tread 5).tjHi < rearmTemp ∧ ((cooled held).tread 5).tjLo < rearmTemp ∧ (cooled held).limpHolds 5 = held := by
  have lt : rearmTemp - 1 < rearmTemp := by grind
  refine ⟨sound_sound ?_, ?_, ?_, ?_, ?_, ?_, lt, lt, ?_⟩ <;> cases held <;> decide +kernel

/-- Witnesses of O19; the results are those of 01_architecture.md R22, R23, 03_treads.md R107. -/
theorem test_BudgetStopsAndBreakers : ([
  (
    let s := up.modBudget 19 (fun b => { b with scale := 4, hold := 5000 })
    sound s && s.hasLevel 19 && run (.budgetStop 19) s fun t => (t.budget 19).stopped && told s (stopEvt 19) (budgetSource 19) [] t
  ),
  (
    run (.storeyBreaker 3) up fun t => (t.storey 3).breakerOpen && (t.storey 3).tripTick = 100000 && (t.storey 3).trips = 1 &&
      allOff t (fun n => storeyOfFlight (flightOfTread n) = 3) && told up Evt.storeyBreaker 3 [] t
  )
  ] : List Bool).all id = true := by decide +kernel

/-- Witnesses of O20; the results are those of 02_connectors_supply.md R70 to R73, 01_architecture.md R25, R32. -/
theorem test_LimpHomeAndRailLoss : ([
  (
    let s := { up with supply := { up.supply with lhLevel := up.supply.lhLevel.set 7 true, lhRun := up.supply.lhRun.set 7 16 } }
    run (.lhPinChange 7) s fun t => t.supply.lhPins.getD 7 false && t.supply.lhPins.length = 8
  ),
  (
    let s := up.modLimp 1 (fun l => { l with armed := true, absent := 20, map := some (List.replicate 24 0, List.replicate 8 0) })
    sound s && run (.limpHomeTakeover 1) s fun t => (t.limpOf 1).inCharge && (t.limpOf 1).startTick = 100000 &&
      allOff t (fun n => dieOfFlight (flightOfTread n) = 1)
  ),
  (
    let s := up.modLimp 0 (fun l => { l with armed := true, inCharge := true, startTick := 99000 })
    sound s && s.limpInCharge && run .limpHomeHandback s fun t => !t.limpInCharge && (t.limpOf 0).episodes = 1 &&
      (match t.outs.head? with | some (.event c _ _) => c = Evt.limpHomeEpisode.code | _ => false)
  ),
  (
    sound up && (1 < up.nDies : Bool)
  ),
  (
    let s := up.modDie 0 (fun d => { d with railUp := false })
    sound s && run (.lPdRestored 0) s fun t => (t.die 0).railUp && (t.tread 0).x = s.iwOf 0 * s.iwOf 0 / 2
  )
  ] : List Bool).all id = true := by decide +kernel

/-- A line in use as a contact, with a debounced primary state. -/
def line (s : State) (l : Nat) (on : Bool) : State :=
  (put s Par.senseUse l 0 1).modSense l (fun x => { x with
    p := { x.p with elec := some on, run := 100, deb := on, valid := true }, q := { x.q with elec := some on, run := 100, deb := on, valid := true } })

/-- Witnesses of O21; the results are those of 04_inputs_ports.md R115 to R125. -/
theorem test_SenseLinesDebounceCleanAndReport : ([
  (
    let s := (line up 159 false).modSense 159 (fun x => { x with p := { x.p with elec := some true, run := 200 } })
    sound s && s.lineUsed 159 && s.lineMode 159 = 0 && s.debounceN 159 < 200 && run (.debouncedChange 159 .primary) s fun t =>
      (t.sense 159).p.deb && (t.sense 159).changes = 1 && t.active 159 = (true != s.parB Par.senseInvert 159 0)
  ),
  (
    let s := (line up 0 false).modSense 0 (fun x => { x with q := { x.q with elec := some true, run := 200 } })
    sound s && run (.debouncedChange 0 .secondary) s fun t => (t.sense 0).q.deb && (t.sense 0).p = (s.sense 0).p
  ),
  (
    let s := up.modSense 3 (fun x => { x with p := { x.p with elec := some true, run := 200 }, misRun := 80 })
    !s.lineUsed 3 && run (.debouncedChange 3 .primary) s (fun t => (t.sense 3).p.deb && (t.sense 3).p.valid && !t.active 3) &&
      run (.senseRxMismatch 3) s fun t => (t.sense 3).mismatch && t.outs = s.outs
  ),
  (
    let s := (put (line up 13 true) Par.senseClean 13 0 1).modSense 13 (fun x => { x with p := { x.p with rose := true } })
    s.lineUsed 13 && s.lineMode 13 = 0 && s.parB Par.senseClean 13 0 && s.lineQualified 13 && !s.cleaning 13 && run (.cleaningPulse 13) s fun t =>
      t.cleaners[cleanerOf 13]? = some ⟨some (13, 8), 800000, []⟩
  ),
  (
    let s (c : Cleaner) : State := { (put (line up 13 true) Par.senseClean 13 0 1).modSense 13 (fun x => { x with p := { x.p with rose := true } })
      with cleaners := up.cleaners.set (cleanerOf 13) c }
    let after (c : Cleaner) (d : Cleaner) : Bool := (s c).lineQualified 13 && !(s c).cleaning 13 && run (.cleaningPulse 13) (s c) fun t =>
      t.cleaners[cleanerOf 13]? = some d
    cleanerOf 12 = cleanerOf 13 && cleanerOf 14 = cleanerOf 13 && after ⟨some (14, 7), 799999, []⟩ ⟨some (14, 7), 799999, [(800000, 13)]⟩ &&
      after ⟨some (12, 8), 800000, []⟩ ⟨some (12, 8), 800000, [(800000, 13)]⟩ &&
      after ⟨some (14, 8), 800000, []⟩ ⟨some (13, 8), 800000, [(800000, 14)]⟩
  ),
  (
    let s := { up with cleaners := up.cleaners.set (cleanerOf 13) ⟨some (13, 0), 799990, [(799995, 14)]⟩ }
    sound s && run (.cleaningPulseEnd 13) s fun t =>
      (t.sense 13).pulseEnd = some s.sample && t.cleaners[cleanerOf 13]? = some ⟨some (14, 8), 799995, []⟩
  ),
  (
    let s := (put (line up 3 true) Par.senseTrack 3 0 1).modSense 3 (fun x => { x with p := { x.p with fenceRun := 480000, von := 24, teff := 12 } })
    sound s && s.parB Par.senseTrack 3 0 && run (.senseTrackFence 3) s fun t =>
      t.sense 3 = { s.sense 3 with atFence := true } && told s Evt.senseTrackFence 3 [toReal32 24, 0, toReal32 12] t
  ),
  (
    let s := (line up 3 true).modSense 3 (fun x => { x with misRun := 80, p := { x.p with v := 24 } })
    sound s && run (.senseRxMismatch 3) s fun t =>
      t.sense 3 = { s.sense 3 with mismatch := true } && told s Evt.senseRxMismatch 3 [toReal32 24, 0] t
  ),
  (
    let s := (line up 3 true).modSense 3 (fun x => { x with mismatch := true, agreeRun := 8000 })
    sound s && run (.senseRxMismatchClear 3) s fun t => t.sense 3 = { s.sense 3 with mismatch := false }
  ),
  (
    let s := put (line up 3 true) Par.senseMode 3 0 2
    sound s && s.lineMode 3 = 2 && run (.senseLoopFault 3) s fun t =>
      t.sense 3 = { s.sense 3 with loopFault := true } && told s Evt.senseLoopFault 3 [] t
  ),
  (
    let s := (put (line up 3 true) Par.senseMode 3 0 1).modSense 3 (fun x => { x with p := { x.p with v := 11 } })
    sound s && s.lineMode 3 = 1 && run (.senseOverRange 3) s fun t =>
      t.sense 3 = { s.sense 3 with overRange := true } && told s Evt.senseOverRange 3 [] t
  ),
  (
    let s := up.modSense 3 (fun x => { x with burdenOff := some 792000 })
    sound s && run (.burdenReconnect 3) s fun t => t.sense 3 = { s.sense 3 with burdenOff := none }
  )
  ] : List Bool).all id = true := by decide +kernel

/-- Witnesses of O22; the results are those of 04_inputs_ports.md R128 to R136. -/
theorem test_PortEdgesAndIndexMoveTheCount : ([
  (
    let s := (put up Par.portFormat 23 0 1).modPort 23 (fun x => { x with edges := [(true, 100)] })
    sound s && s.portFormat 23 = 1 && s.portPowered 23 && run (.portEdge 23 { up := false, stamp := 116 }) s fun t =>
      (t.port 23).count = -1 && (t.port 23).moving && (t.port 23).lastEdgeTick = 100001 && (t.port 23).quadErrors = 0
  ),
  (
    let s := (put up Par.portFormat 0 0 1).modPort 0 (fun x => { x with edges := [(true, 100)] })
    sound s && s.portFormat 0 = 1 && s.portPowered 0 && run (.portEdge 0 { up := false, stamp := 115 }) s (fun t =>
      t.port 0 = { s.port 0 with quadErrors := 1 }) && run (.portEdge 0 { up := false, stamp := 116, valid := false }) s (fun t =>
      t.port 0 = { s.port 0 with quadErrors := 1 })
  ),
  (
    let s := (put up Par.portFormat 0 0 2).modPort 0 (fun x => { x with hallState := 5, edges := [(true, 100)] })
    let code (c n : Nat) (count : Word) (errors : Word) : Bool := run (.portEdge 0 { up := true, stamp := n, code := c }) s fun t =>
      (t.port 0).hallState = c && (t.port 0).count = count && (t.port 0).quadErrors = errors
    sound s && s.portFormat 0 = 2 && s.portPowered 0 && hallPlace 5 = some 5 && s.parR Par.portHallFilt 0 0 ≤ 10 &&
      code 1 116 1 0 && code 4 116 (-1) 0 && code 3 116 0 1
  ),
  (
    let s := put up Par.portFormat 0 0 2
    let still (s : State) (e : EdgeIn) : Bool := run (.portEdge 0 e) s fun t => t = s
    0 < s.parR Par.portHallFilt 0 0 && still s { up := true, stamp := 116, code := 7 } && still s { up := true, stamp := 116, code := 1, held := 0 } &&
      still { s with flightPower := [] } { up := true, stamp := 116, code := 1 }
  ),
  (
    let s := (put (put (put (put up Par.portFormat 0 0 1) Par.portIndexMode 0 0 2) Par.portIndexPeriod 0 0 1000) Par.portIndexTol 0 0 2).modPort 0
      (fun x => { x with count := 2005 })
    sound s && s.portFormat 0 = 1 && run (.indexEvent 0) s fun t =>
      (t.port 0).indexErr = 5 && (t.port 0).count = 2000 && (t.port 0).indexAt = some 2000
  )
  ] : List Bool).all id = true := by decide +kernel

/-- Witnesses of O23; the results are those of 04_inputs_ports.md R131 to R140. -/
theorem test_SsiFramesAndPortFaults : ([
  (
    let s := (put (put (put (put (put up Par.portFormat 0 0 3) Par.portSsiBits 0 0 16) Par.portSsiPosbits 0 0 13) Par.portSsiCode 0 0 1)
      Par.portSsiMaxstep 0 0 100).modPort 0 (fun x => { x with ssiLast := some 8190, count := 7 })
    sound s && s.portFormat 0 = 3 && s.portPowered 0 && run (.ssiFrame 0 5) s fun t =>
      (t.port 0).count = 9 && (t.port 0).ssiLast = some 0 && (t.port 0).ssiErrors = 0 && (t.port 0).ssiExtra = 5
  ),
  (
    let s := (put (put (put (put up Par.portFormat 0 0 3) Par.portSsiBits 0 0 16) Par.portSsiPosbits 0 0 13) Par.portSsiCode 0 0 0
      |> fun s => put s Par.portSsiMaxstep 0 0 100).modPort 0 (fun x => { x with ssiLast := some 0, ssiErrors := 2, countInvalid := false })
    sound s && s.portPowered 0 && run (.ssiFrame 0 808) s fun t =>
      (t.port 0).count = 0 && (t.port 0).ssiLast = some 0 && (t.port 0).ssiErrors = 3 && (t.port 0).ssiFault && (t.port 0).countInvalid
  ),
  (
    let s := put up Par.portFormat 2 0 1
    sound s && s.portUsed 2 && s.parN Par.portLevel 2 0 = 0 && run (.portLineFault 2) s fun t =>
      t.port 2 = { s.port 2 with lineFault := true, countInvalid := true } && told s Evt.portLineFault 2 [] t
  ),
  (
    let s := (put up Par.portFormat 2 0 2).modPort 2 (fun x => { x with hallBadRun := 8, countInvalid := false })
    sound s && run (.portHallInvalid 2) s fun t =>
      t.port 2 = { s.port 2 with hallBadRun := 9, countInvalid := true } && told s Evt.portHallInvalid 2 [] t
  ),
  (
    let s := (put up Par.portFormat 2 0 1).modPort 2 (fun x => { x with misRun := 8 })
    let off := up.modPort 23 (fun x => { x with misRun := 8 })
    sound s && run (.portRxMismatch 2) s (fun t => t.port 2 = { s.port 2 with mismatch := true } && told s Evt.portRxMismatch 2 [] t) &&
      !off.portUsed 23 && run (.portRxMismatch 23) off fun t => (t.port 23).mismatch && t.outs = off.outs
  ),
  (
    let s := (put up Par.portFormat 2 0 1).modPort 2 (fun x => { x with supplyRun := 80, encOn := true })
    sound s && run (.portSupplyFault 2) s fun t =>
      t.port 2 = { s.port 2 with encOn := false, supplyFault := true, supplyFaultTick := 100000, countInvalid := true } &&
        told s Evt.portSupplyFault 2 [] t
  ),
  (
    let s := up.modPort 2 (fun x => { x with moving := true, speed := 4 })
    sound s && s.parN Par.portStandstill 2 0 ≤ 100000 && run (.portStandstill 2) s fun t => t.port 2 = { s.port 2 with moving := false, speed := 0 }
  )
  ] : List Bool).all id = true := by decide +kernel

/-- Witnesses of O24; the results are those of 04_inputs_ports.md R137, R141, R145 to R147. -/
theorem test_ReedsPulsesAndEcho : ([
  (
    let s := (put up Par.portFormat 1 0 4).modPort 1 (fun x => { x with reedB := ⟨true, 4000, false, false⟩ })
    sound s && s.portFormat 1 = 4 && (s.parR Par.portReedDeb 1 0 * 8).floor.toNat < 4000 && run (.reedInputChange 1 true) s fun t =>
      (t.port 1).reedB.deb && (t.port 1).reedB.valid
  ),
  (
    let s := up.modPort 1 (fun x => { x with aux := true, auxEnd := some 800001 })
    sound s && run (.auxPulseEnd 1) s fun t => t.port 1 = { s.port 1 with aux := false, auxEnd := none }
  ),
  (
    let s := { up with echos := up.echos.set 0 ⟨0, [false, true], 0, some 900⟩ }
    sound s && run (.echoEdgeOut 0 1000) s fun t => (t.echo 0).queue = [true] && (t.echo 0).lastOut = some 1000 && (t.echo 0).phase = 3
  ),
  (
    let x : Image := { version := 1, params := [], prog := none, check := 0, sealAddr := 0, digest := [], raw := [] }
    let s : State := { put up Par.portAuxOwner 0 0 2 with
      echos := up.echos.set 0 ⟨0, [true], 1, some 900⟩
      sec := { up.sec with active := some x, configOn := true } }
    run (.echoEdgeOut 0 1000) s fun t => (t.port 0).aux && (t.port 1).aux
  )
  ] : List Bool).all id = true := by decide +kernel

/-- The leaf axis of flight 0 as a DC motor in HOLD, fed back by port 0. -/
def motor (x : Axis → Axis) : State :=
  ((put (put (put up Par.axisType 0 0 2) Par.axisFbPort 0 0 1) Par.portFormat 0 0 1).modAxis 0
    (fun y => x { y with st := .hold, referenced := true })).modPort 0 (fun p => { p with countInvalid := false })

/-- Witnesses of O25; the results are those of 05_motion.md R159, R160, R173 to R175, R178, R179, R188: of two causes due at once the lower one
is FAULT_CAUSE. -/
theorem test_AxisFaultsStopTheAxis : ([
  (
    let s := motor (fun x => { x with st := .moving, devRun := 60000, posCmd := 100 })
    let s := s.modAxis 0 (fun x => { x with st := .moving })
    sound s && s.axType 0 ≠ 0 && (s.axis 0).st.driven && s.parN Par.axisDevTime 0 0 ≤ 60000 && run (.axisDeviation 0) s fun t =>
      (t.axis 0).st = .faultStop && (t.axis 0).faultCause = 9 && (t.axis 0).queue = [] && (t.axis 0).gear = Gear.reset && (t.axis 0).vel = 0 &&
        told s Evt.axisDeviation 0 [100] t
  ),
  (
    let s (n : Nat) : State := motor (fun x => { x with speedRun := 8, devRun := n })
    let stops (n : Nat) (causes : List Nat) : Bool := ((s n).lateCauses 0).map (·.1) = causes && run (.axisOverspeed 0) (s n) fun t =>
      (t.axis 0).st = .faultStop && some (t.axis 0).faultCause = causes.head? && toldEach (s n) 0 (((s n).lateCauses 0).map (·.2)) t
    sound (s 0) && stops 0 [10] && stops 60000 [9, 10]
  ),
  (
    let s (n : Nat) : State := motor (fun x => { x with speedRun := n, gear := { x.gear with geared := true, src := 1, master := 1 } })
    let stops (n : Nat) (causes : List Nat) : Bool := ((s n).lateCauses 0).map (·.1) = causes && run (.gearMasterLost 0) (s n) fun t =>
      (t.axis 0).st = .faultStop && some (t.axis 0).faultCause = causes.head? && toldEach (s n) 0 (((s n).lateCauses 0).map (·.2)) t
    sound (s 0) && (s 0).masterLost 0 && stops 0 [12] && stops 8 [10, 12]
  ),
  (
    let s := (put (motor id) Par.axisIMax 0 0 (toReal32 10)).modAxis 0 (fun x => { x with st := .aligning })
    let fails (rs : List Rat) : Bool := run (.alignComplete 0 rs) s fun t =>
      (t.axis 0).st = .faultStop && (t.axis 0).faultCause = 13 && told s Evt.commFault 0 [] t
    sound s && (s.axis 0).alignLeft = 0 && s.parN Par.axisComm 0 0 ≠ 1 && s.parR Par.axisIMax 0 0 = 10 &&
      fails [99 / 100, 0, 1 / 2] && fails [2, 197 / 100]
  ),
  (
    let s := (put (motor id) Par.axisComm 0 0 1).modAxis 0 (fun x => { x with st := .aligning })
    let fails (c : Nat) : Bool := run (.alignComplete 0 []) (s.modPort 1 (fun x => { x with hallCode := c })) fun t =>
      (t.axis 0).st = .faultStop && (t.axis 0).faultCause = 13
    sound s && s.parN Par.axisComm 0 0 = 1 && s.fbPort 0 = some 0 && otherPort 0 = 1 && fails 0 && fails 7
  )
  ] : List Bool).all id = true := by decide +kernel

/-- Witnesses of O26; the results are those of 05_motion.md R159, R160, R165, R180 to R183. -/
theorem test_AxesAlignStepAndRest : ([
  (
    let s := put (motor id) Par.axisHoldTime 0 0 500
    sound s && s.isPhase 0 && run (.axisHoldTimeout 0) s fun t => (t.axis 0).st = .idle && (t.axis 0).queue = []
  ),
  (
    let s := (put (motor id) Par.axisIMax 0 0 (toReal32 10)).modAxis 0 (fun x => { x with st := .aligning })
    sound s && (s.axis 0).alignLeft = 0 && s.parN Par.axisComm 0 0 ≠ 1 && run (.alignComplete 0 [1, 97 / 100]) s fun t =>
      (t.axis 0).st = .moving && (t.axis 0).commOk && (t.axis 0).commCoarse
  ),
  (
    let s := (put (motor id) Par.axisComm 0 0 1).modAxis 0 (fun x => { x with st := .aligning }) |>.modPort 1 (fun x => { x with hallCode := 6 })
    sound s && s.parN Par.axisComm 0 0 = 1 && s.fbPort 0 = some 0 && run (.alignComplete 0 []) s fun t =>
      (t.axis 0).st = .moving && (t.axis 0).commOk && (t.axis 0).commCoarse
  ),
  (
    let s := put (put (put up Par.axisType 4 0 3) Par.axisStepSrc 4 0 1) Par.axisExtDirLine 4 0 150 |>.modAxis 4
      (fun x => { x with st := .hold, extRise := true })
    sound s && s.axType 4 = 3 && s.activeCauses 4 = [] && s.flightEnabled 1 && run (.externalStep 4 s.sample) s fun t =>
      !(t.axis 4).extRise && (t.axis 4).posCmd = if s.active (s.parN Par.axisExtDirLine 4 0) then 1 else -1
  ),
  (
    let s := put up Par.axisType 35 0 3
    sound s && s.parN Par.axisInterpMax 35 0 + s.parN Par.axisHoldDelay 35 0 ≤ 100000 && run (.stepperHoldCurrent 35) s fun t =>
      t.axis 35 = { s.axis 35 with holdCurrent := true }
  ),
  (
    let s := (put up Par.axisType 2 0 4).modAxis 2 (fun x => { x with st := .hold, pullSince := some 0 })
    sound s && s.parN Par.axisPullMs 2 0 ≤ 100000 && run (.solenoidPullEnd 2) s fun t => t.axis 2 = { s.axis 2 with pullSince := none } &&
      (t.tread 7).cmd = .highSide && (t.tread 7).duty = s.parR Par.axisHoldDuty 2 0
  )
  ] : List Bool).all id = true := by decide +kernel

/-- Witnesses of O27; the results are those of 01_architecture.md R22, R35, 02_connectors_supply.md R57, R62, 05_motion.md R161. -/
theorem test_MotionSamplesAdvanceTheClock : ([
  (
    let vin := up.factory Par.calFactoryVinGain Par.calFactoryVinOffset 1 0 104
    let dark := up.modDie 1 (fun d => { d with railUp := false })
    run (.motionSample { vin := 104, logicPower := 7, baseplate := 31 }) up (fun t => t.clock = { up.clock with sample := 800001 } &&
      t.supply.vin8 = [vin, 110] && t.baseplate = 31 && t.dissip = (t.die 0).dissip + (t.die 1).dissip + 7) &&
      run (.motionSample {}) dark (fun t => (t.die 1).dissip = 0)
  ),
  (
    let s := { up with clock := { up.clock with sample := 800008 } }
    run (.motionSample {}) s fun t => t = s
  )
  ] : List Bool).all id = true := by decide +kernel

/-- 03 R85, with the limits 40 ns and 300 ns of R110: a transition of 101 ns prepares 112.5 ns for the next one in its direction, which has
it as its own dead time; one that has not crossed at DT_MAX ends there and counts; in FIXED mode every dead time is DT_MIN. -/
theorem test_dead_times : ([
  (
    let i : SampleIn := { transitions := [[⟨true, 101⟩, ⟨true, 20⟩, ⟨true, 301⟩]], edges := [[5, 6]] }
    let x := up.sampleEdges 0 i .reset
    x.dt64.take 2 = [300, 225 / 2] && x.deadRise = some 300 && x.deadFall = none && x.hardSw = 1 && x.dvdt64 = [6, 5]
  ),
  (
    let x := (put up Par.treadDtMode 0 0 1).sampleEdges 0 { transitions := [[⟨true, 301⟩]] } .reset
    x.dt64 = [40] && x.hardSw = 0
  )
  ] : List Bool).all id = true := by decide +kernel

/-- A program whose blocks are the composite blocks of a type for flight 0. -/
def program (ty : Nat) : Container :=
  { bytes := [], progId := 1, version := 1, cycleMs := 10, memSize := 0, sigOfs := 0,
    blocks := [⟨BitVec.ofNat 8 ty, 0, [.const .int32 0], []⟩], vars := [], init := [] }

/-- Flight 0 under a block of a type, its leaf a DC motor at rest on port 0, closed and locked. -/
def flight (ty : Nat) (g : Door → Door) : State :=
  let s := motor id
  let s := { s with prog := { s.prog with running := some (program ty), run := true } }
  let s := line (line (line (line s 0 true) 1 true) 2 true) 3 true
  { s.modDoor 0 g with safety := { s.safety with flights := s.safety.flights.modify 0 (fun x => { x with permission := true }) } }

/-- Flight 0 under a STEP block, its step a DC motor that knows its position. -/
def stepped (g : Door → Door) : State :=
  (put (put (flight btStep g) Par.axisType 1 0 2) Par.flightStepExtPos 0 0 500).modAxis 1 (fun x => { x with st := .hold, referenced := true })

/-- A command taken for a door. -/
def taken (k : DoorCmd) (d : Door) : Door := { d with taken := some ⟨k, .program, 0, none, 0⟩ }

/-- `State.Takes` of flight 0 without the command, and `State.Waits`, decided. -/
def waits (s : State) : Bool :=
  decide (0 < s.nFlights) && s.mode = .run && s.hallAUp && s.hasDoor 0 && s.isoBits 0 = 0 && s.faultEdge 0 = none && !s.detecting 0

/-- `State.Takes` of flight 0, decided. -/
def takesCmd (s : State) (k : DoorCmd) : Bool :=
  s.mode = .run && s.hallAUp && (match (s.door 0).taken with | some e => e.cmd = k | none => false) && s.isoBits 0 = 0 &&
    s.faultEdge 0 = none && !s.detecting 0

/-- `State.Alone` of flight 0, decided. -/
def alone (s : State) (ty : Nat) : Bool := s.mode = .run && s.hallAUp && !s.hasDoor 0 && s.hasComposite ty 0

/-- Witnesses of O28; the results are those of 06_doorway.md R198, R201, R208, R210. -/
theorem test_DoorsIsolateEscapeAndReset : ([
  (
    let s := flight btDoor (fun d => taken .isolate { d with st := .closedLocked })
    sound s && run (.isolate 0) s fun t => (t.door 0).st = .isolated && (t.door 0).isoCommand && (t.door 0).taken = none
  ),
  (
    let s := flight btDoor (fun d => taken .egress { d with st := .closedLocked })
    sound s && takesCmd s .egress && run (.egress 0) s fun t => (t.door 0).st = .egress && (t.door 0).taken = none
  ),
  (
    let s := flight btDoor (fun d => taken .deisolate { d with st := .isolated, isoCommand := true })
    sound s && s.isoBits 0 &&& 0x37 = 0 && run (.deisolate 0) s fun t =>
      (t.door 0).st = .referencing && !(t.door 0).isoCommand && (t.door 0).ref.active
  ),
  (
    let s := flight btDoor (fun d => taken .resetFault { d with st := .fault, faultCause := 4, lockSt := .locked })
    sound s && takesCmd s .resetFault && s.activeFaults 0 &&& 0xC = 0 && run (.resetFault 0) s fun t => (t.door 0).faultCause = 0 &&
      (t.door 0).st = if s.flightUnsure 0 then .referencing else if s.closedBoth 0 then .locking else .open'
  )
  ] : List Bool).all id = true := by decide +kernel

/-- Witnesses of O29; the results are those of 06_doorway.md R201 to R211. -/
theorem test_DoorsOpenCloseStopAndReference : ([
  (
    let s := flight btDoor (fun d => taken .open' { d with st := .closedLocked, lockSt := .locked })
    sound s && takesCmd s .open' && s.permission 0 && run (.doorOpen 0) s fun t =>
      (t.door 0).st = .unlocking && (t.door 0).lockSt = .releasing && (t.door 0).since = 100000
  ),
  (
    let s := { flight btDoor (fun d => taken .open' { d with st := .closedLocked, lockSt := .locked }) with safety := up.safety }
    sound s && takesCmd s .open' && !s.permission 0 && s.closedBoth 0 && s.lockedBoth 0 && run (.doorOpen 0) s fun t => (t.door 0).st = .closedLocked
  ),
  (
    let s := flight btDoor (fun d => taken .close { d with st := .open' })
    sound s && takesCmd s .close && run (.doorClose 0) s fun t =>
      (t.door 0).st = .open' && (t.door 0).closePendingAt = some 100000 && (t.door 0).warn
  ),
  (
    let s := flight btDoor (fun d => taken .stop { d with st := .closing })
    sound s && takesCmd s .stop && run (.doorStop 0) s fun t => (t.door 0).st = .open' && (t.obs 0).stopped
  ),
  (
    let s := flight btDoor (fun d => taken .reference { d with st := .open' })
    sound s && takesCmd s .reference && run (.doorReference 0) s fun t => (t.door 0).st = .referencing && (t.door 0).ref.active
  )
  ] : List Bool).all id = true := by decide +kernel

/-- Witnesses of O30; the results are those of 06_doorway.md R203, R209, R212, R213. -/
theorem test_DoorTimeouts : ([
  (
    let s := flight btDoor (fun d => { d with st := .open', closePendingAt := some 0 })
    sound s && waits s && s.parN Par.flightWarnMs 0 0 ≤ 100000 && run (.warnTimeout 0) s fun t => (t.door 0).st = .closing && (t.door 0).since = 100000
  ),
  (
    let s := flight btDoor (fun d => { d with st := .unlocking, lockSt := .releasing })
    sound s && waits s && s.permission 0 && !s.lockedNone 0 && run (.lockNoRelease 0) s fun t => (t.door 0).st = .fault && (t.door 0).faultCause = 4
  ),
  (
    let s := flight btLock (fun d => { d with lockSt := .releasing })
    sound s && alone s btLock && s.lockTimedOut 0 && run (.lockNoRelease 0) s fun t => (t.door 0).lockSt = .fault
  ),
  (
    let s := line (flight btDoor (fun d => { d with st := .locking, lockSt := .engaging })) 2 false
    sound s && waits s && !s.lockedBoth 0 && run (.lockNotEngaged 0) s fun t => (t.door 0).st = .fault && (t.door 0).faultCause = 5
  ),
  (
    let s := line (flight btLock (fun d => { d with lockSt := .engaging })) 2 false
    sound s && alone s btLock && s.lockTimedOut 0 && run (.lockNotEngaged 0) s fun t => (t.door 0).lockSt = .fault
  ),
  (
    let s := line (flight btDoor (fun d => { d with st := .closing, closedHoldAt := some 0 })) 0 false
    sound s && waits s && s.leafAt 0 (s.closedPos 0) && run (.closedNotConfirmed 0) s fun t => (t.door 0).st = .fault && (t.door 0).faultCause = 6
  ),
  (
    let s := flight btStep (fun d => { d with stepSt := .retracting, stepHoldAt := some 0 })
    sound s && s.hasComposite btStep 0 && s.stepTimedOut 0 && run (.stepConfirmTimeout 0) s fun t => (t.door 0).stepSt = .fault
  )
  ] : List Bool).all id = true := by decide +kernel

/-- Witnesses of O31; the results are those of 06_doorway.md R212, R213, R223. -/
theorem test_StandaloneBlocksFollowTheirCommands : ([
  (
    let s := stepped (fun d => { d with stepReq := some 1, stepSt := .retracted })
    sound s && alone s btStep && s.permission 0 && !s.unsure 1 && s.stepFitted 0 && run (.extend 0) s fun t =>
      (t.door 0).stepSt = .extending && (t.door 0).stepReq = none
  ),
  (
    let s := { stepped (fun d => { d with stepReq := some 1, stepSt := .retracted }) with safety := up.safety }
    sound s && !s.permission 0 && run (.extend 0) s fun t => (t.door 0).stepSt = .retracted && (t.door 0).stepReq = none
  ),
  (
    let s := stepped (fun d => { d with stepReq := some 2, stepSt := .extended })
    sound s && alone s btStep && run (.retract 0) s fun t => (t.door 0).stepSt = .retracting && (t.door 0).stepReq = none
  ),
  (
    let s := stepped (fun d => { d with stepReq := some 3, stepSt := .extending })
    sound s && alone s btStep && run (.stepStop 0) s fun t => (t.door 0).stepSt = .stopped && (t.door 0).stepReq = none
  ),
  (
    let s := stepped (fun d => { d with stepReq := some 4, stepSt := .stopped })
    sound s && alone s btStep && s.isPhase 1 && run (.stepReference 0) s fun t => (t.door 0).stepSt = .referencing && (t.door 0).ref.st = .step
  ),
  (
    let s := stepped (fun d => { d with stepReq := some 5, stepSt := .fault })
    sound s && alone s btStep && s.activeCauses 1 = [] && !s.unsure 1 && run (.stepReset 0) s fun t =>
      (t.door 0).stepSt = .stopped && (t.door 0).stepReq = none
  ),
  (
    let s := flight btLock (fun d => { d with lockReq := some 1, lockSt := .locked })
    sound s && alone s btLock && s.permission 0 && run (.lockRelease 0) s fun t => (t.door 0).lockReq = none && (t.door 0).lockSt = .releasing
  ),
  (
    let s := flight btLock (fun d => { d with lockReq := some 2, lockSt := .released })
    sound s && alone s btLock && run (.engage 0) s fun t => (t.door 0).lockReq = none && (t.door 0).lockSt = .engaging
  ),
  (
    let s := flight btLock (fun d => { d with lockReq := some 3, lockSt := .fault })
    sound s && alone s btLock && run (.lockReset 0) s fun t => (t.door 0).lockReq = none && (t.door 0).lockSt = .engaging
  ),
  (
    let s := flight btReference (fun d => { d with refReq := true })
    sound s && alone s btReference && !(s.door 0).ref.active && run (.referenceStart 0) s fun t => !(t.door 0).refReq && (t.door 0).ref.active
  )
  ] : List Bool).all id = true := by decide +kernel

/-- Witnesses of O32; the results are those of 06_doorway.md R216 to R222. -/
theorem test_HardstopSearchesDeclareThePosition : ([
  (
    let s := (flight btDoor (fun d => { d with st := .referencing, ref := { d.ref with st := .leafSearch, phase := .hardstop, stallSince := some 0 } })).modAxis 0
      (fun x => { x with st := .moving }) |>.modPort 0 (fun x => { x with countInvalid := true })
    sound s && s.stallDue 0 && !(s.port 0).blocked && run (.hardstopFound 0) s fun t =>
      (t.axis 0).referenced && (t.axis 0).pos = s.parZ Par.flightRefHardstopPos 0 0 && (t.door 0).ref.phase = .release &&
        (t.door 0).ref.releaseAt = 100000
  ),
  (
    let s (r : Option Bool) : State := (flight btDoor (fun d => { d with
      st := .referencing, ref := { d.ref with st := .leafSearch, phase := .release, closedStart := true, resume := r } })).modAxis 1
        (fun x => { x with posUncertain := false })
    let ends (r : Option Bool) (st : DoorState) : Bool := sound (s r) && run (.hardstopReleaseEnd 0) (s r) fun t =>
      (t.door 0).ref.st = .done && (t.door 0).st = st
    ends none .locking && ends (some true) .opening && ends (some false) .closing
  )
  ] : List Bool).all id = true := by decide +kernel

/-- Witnesses of O33; the results are those of 07_obstacle.md R247 to R254. -/
theorem test_DetectionsReverseTheLeaf : ([
  (
    let s (w : Bool) : State := (flight btDoor (fun d => { d with st := .closing })).modObs 0
      (fun o => { o with watching := w, fire := 1, closing := true, found := some (1, [1, 2]) })
    let detects (w : Bool) (st : DoorState) : Bool := sound (s w) && (s w).detecting 0 = w && run (.obstacleDetected 0) (s w) fun t =>
      (t.door 0).st = st && (t.obs 0).detections = 1 && (t.obs 0).lastTrig = 1 && !(t.obs 0).watching && (t.obs 0).stopNext &&
        (t.obs 0).found = none && t.outs.head? = some (.event Evt.obstacleDetected.code 0 [1, 2])
    detects true .reversing && detects false .closing
  ),
  (
    let s := put (flight btDoor (fun d => { d with st := .reversing, reaction := some .braking })) Par.flightOpenPos 0 0 1000
    sound s && s.turnDone 0 && (s.reversalTarget 0).isSome && run (.reversalStart 0) s fun t =>
      (t.door 0).reaction = (s.reversalTarget 0).map Reaction.reversal && (t.door 0).st = .reversing
  ),
  (
    let s := put (flight btDoor (fun d => { d with st := .reversing, reaction := some (.pause 0) })) Par.flightOpenPos 0 0 1000
    sound s && s.parN Par.obstacleRevPauseMs 0 0 ≤ 100000 && run (.recloseAttempt 0) s fun t => (t.door 0).st = .closing && (t.door 0).attempt = 1
  )
  ] : List Bool).all id = true := by decide +kernel

/-- Witnesses of O34; the results are those of 07_obstacle.md R228, R230, R234 to R238. -/
theorem test_ObstacleModelsLearnAndExpire : ([
  (
    let s := up.modObs 11 (fun o => { o with strokeAt := some 0, inStart := true })
    sound s && 8 * s.parN Par.obstacleStartMs 11 0 ≤ s.sample && run (.startMarginEnd 11) s fun t => t.obs 11 = { s.obs 11 with inStart := false }
  ),
  (
    let s := up.modObs 0 (fun o => { o with update := some ({ FricMap.reset with cycles := 9 }, 99990, none) })
    sound s && run (.learnUpdate 0) s fun t => t.obs 0 = { s.obs 0 with map := { FricMap.reset with cycles := 9 }, update := none }
  ),
  (
    let s := up.modObs 0 (fun o => { o with update := some ({ FricMap.reset with cycles := 9 }, 99900, none) })
    sound s && run (.learnConfirmTimeout 0) s fun t => (t.obs 0).update = none && (t.obs 0).map = (s.obs 0).map
  ),
  (
    let s := up.modObs 0 (fun o => { o with tempInAt := some 40000 })
    sound s && run (.tempInTimeout 0) s fun t => t.obs 0 = { s.obs 0 with tempTimeout := true }
  )
  ] : List Bool).all id = true := by decide +kernel

/-- An active configuration of one parameter of no effect and no program. -/
def image : Image :=
  { version := 1, params := [], prog := none, check := 0, sealAddr := 0, digest := [], raw := [] }

/-- Witnesses of O35; the results are those of 08_safety.md R269 to R277. -/
theorem test_SafetyOutputsConductAndOpen : ([
  (
    let d (o : Nat) : State := ({ up with firstStandby := true, safety := { up.safety with inhibit := false } }).modDcl o
      (fun d => { d with due := true, verdict := true, testPassed := true })
    (d 0).dclAuthNow && (d 1).dclAuthNow && run (.dclConduct 0) (d 0) (fun t => t.conducting 0) && run (.dclConduct 1) (d 1) (fun t => t.conducting 1)
  ),
  (
    let s := ({ up with firstStandby := true }).modDcl 1 (fun d => { d with test := some 99998 })
    s.dclAuthNow && run (.dclOfflineTest 1 (49 / 100) 0) s (fun t => (t.dcl 1).testPassed && (t.dcl 1).test = none) &&
      run (.dclOfflineTest 1 0 (1 / 2)) s (fun t => (t.dcl 1).fault && !t.conducting 1 && told s Evt.dclTestFault noSource [1, 0] t)
  ),
  (
    let s := ({ up with clock := { up.clock with tick := 1750 }, safety := { up.safety with inhibit := false } }).modDcl 1
      (fun d => { d with on1 := true, on2 := true })
    s.conducting 1 && run (.dclTestPulse 1 1 (1 / 2)) s fun t => (t.dcl 1).fault && !t.conducting 1 && told s Evt.dclTestFault noSource [1, 2] t
  ),
  (
    let s := ({ up with hallA := { up.hallA with mode := .maintenance } }).modDcl 1 (fun d => { d with on1 := true, on2 := true })
    s.inhibitDue && run .dclInhibit s fun t => t.safety.inhibit && !(t.dcl 0).on1 && !(t.dcl 0).on2 && !(t.dcl 1).on1 && !(t.dcl 1).on2
  ),
  (
    let s := { up with safety := { up.safety with
      flights := up.safety.flights.modify 11 (fun x => { x with permDue := true, permEval := true }) } }
    sound s && run (.permissionGrant 11) s fun t => t.permission 11
  )
  ] : List Bool).all id = true := by decide +kernel

/-- Witnesses of O36; the results are those of 08_safety.md R263 to R268, R279 to R283. -/
theorem test_DiscrepanciesLatchAndResetsAreJudged : ([
  (
    let s (n : Nat) : State := up.modPair n (fun p => { p with disc := up.discSamples n })
    [0, 47, 48, 50].all (fun n => sound (s n) && (s n).hasPair n && ((s n).pair n).disc ≠ 0 && run (.discrepancy n) (s n) fun t =>
      (t.pair n).latch && told (s n) Evt.discrepancy (pairSource n) [word32 n, word32 (if (s n).trusted (pairLine n) then 0 else 1)] t)
  ),
  (
    let s (n : Nat) : State := up.modPair n (fun p => { p with latch := true, clear := 8 })
    [0, 47, 48, 50].all (fun n => sound (s n) && (s n).hasPair n && run (.discrepancyCleared n) (s n) fun t =>
      !(t.pair n).latch && told (s n) Evt.discrepancyCleared (pairSource n) [word32 n] t)
  ),
  (
    let s (r : Nat) : State := { up with safety := { up.safety with pressAt := some 1000, releasedAt := some r } }
    let edge (r : Nat) (b : Bool) : Bool := run .resetEdge (s r) fun t => t.safety.pressAt = none && t.safety.releasedAt = none && t.safety.edge151 = b
    edge 1799 false && edge 1800 true && edge 24999 true && run .resetEdge (s 25000) (fun t => t = s 25000)
  ),
  (
    let s := { up with safety := { up.safety with pressAt := some 776000 } }
    !s.safety.resetHeld && run .resetHeld s fun t => t.safety.resetHeld && told s Evt.resetHeld noSource [] t
  ),
  (
    let s := { up with safety := { up.safety with pressAt := some 776000, releasedAt := some 800000 } }
    !s.safety.resetHeld && run .resetHeld s fun t => !t.safety.resetHeld && t.safety.pressAt = none && told s Evt.resetHeld noSource [] t
  ),
  (
    run .resetStuckClear { up with safety := { up.safety with resetStuck := true, idle151 := 4000 } } fun t => !t.safety.resetStuck
  )
  ] : List Bool).all id = true := by decide +kernel

/-- Witnesses of O37; the results are those of 08_safety.md R284 to R292, R294. -/
theorem test_HallsTickAgreeAndFallBack : ([
  (
    run (.safetyTick {}) { State.reset with clock := { State.reset.clock with sample := 8 } } (fun t => t.tick = 1 && t.sample = 8) &&
      run (.safetyTick {}) State.reset (fun t => t = State.reset)
  ),
  (
    let s (h : HallId) (lost : Bool) : State := up.modHall h (fun x => { x with misRun := 3, misLost := lost })
    [HallId.a, .b].all (fun h => run (.wordMismatchLimit h) (s h false) (fun t => (t.hall h).mode = .safeHold && (t.hall h).shCause &&& 1 ≠ 0) &&
      run (.wordMismatchLimit h) (s h true) (fun t => (t.hall h).mode = .safeHold && (t.hall h).shCause &&& 2 ≠ 0))
  ),
  (
    let s (g : Bool) : State := { up with hallA := { up.hallA with prop := some (.standby, 100000), gotAck := g } }
    run .modeTransition (s true) (fun t => t.hallA.prop = none && t.hallA.mode = .standby) &&
      run .modeTransition (s false) (fun t => t.hallA.prop = none && t.hallA.mode = .run)
  ),
  (
    let s := { up with
        hallA := { up.hallA with prop := some (.standby, 100000), gotAck := true }
        hallB := { up.hallB with partnerProp := some (.standby, 100000, 99999), ack := some 100000 } }
    run .modeTransition s fun t => t.hallB.mode = .standby
  ),
  (
    let c : BitVec 48 := 0xEDCBA9123456
    run (.sealRead c) up (fun t => t.safety.sealRd.value = some 0x123456 && t.safety.sealRd.readDone) &&
      run (.sealRead 1) up (fun t => t.safety.sealRd.value = none)
  ),
  (
    let s := { up with sec := { up.sec with active := some image, configOn := true } }
    let c : BitVec 48 := 0xEDCBA9123456
    !s.sealMatches (sealOf c) && run (.sealRead c) s fun t => t.hallB.mode = .safeHold && t.hallB.shCause &&& 0x20 ≠ 0
  )
  ] : List Bool).all id = true := by decide +kernel

/-- A hall held in reset since a fault of its rails, which it may leave now. -/
def down (h : HallId) (s : State) : State :=
  ({ s with sec := { s.sec with booted := true } }).modHall h
    (fun x => { x with inReset := true, cause := 2, resetTick := 99997, railRun := 80, pllLocked := true })

/-- `State.MayLeaveReset`, decided. -/
def mayLeave (s : State) (x : Hall) : Bool :=
  x.inReset && s.sec.booted && decide (x.resetTick + 3 ≤ s.tick) && x.pllLocked && x.clockOk && decide (80 ≤ x.railRun)

/-- The hall is in reset, and the first, a middle and the last tread are OFF. -/
def failed (h : HallId) (t : State) : Bool := (t.hall h).inReset && [0, 47, 95].all (fun n => (t.tread n).mode = .off)

/-- Witnesses of O38 at the rails; the results are those of 01_architecture.md R22, R25. -/
theorem test_RailFailuresTurnEveryTreadOff : ([
  (
    sound up && [HallId.a, .b].all (fun h =>
      run (.hallSupplyFault ⟨h, 75 / 100, 33 / 10⟩) up (fun t => failed h t && (t.hall h).cause = 2 && (t.hall h).deferred = some 2) &&
      run (.hallSupplyFault ⟨h, 84 / 100, 35 / 10⟩) up (fun t => t = up))
  ),
  (
    run (.hallSupplyFault ⟨.a, 8 / 10, 36 / 10⟩) up (failed .a)
  )
  ] : List Bool).all id = true := by decide +kernel

/-- Witnesses of O38 at the PLL; the results are those of 01_architecture.md R25, R32. -/
theorem test_PllLossTurnsEveryTreadOff : ([HallId.a, .b].all (fun h =>
    run (.pllLockLoss h) up (fun t => failed h t && !(t.hall h).pllLocked && (t.hall h).cause = 3))) = true := by
  decide +kernel

/-- Witnesses of O38 at the SRAM; the results are those of 01_architecture.md R25. -/
theorem test_SramFailuresTurnEveryTreadOff : ([HallId.a, .b].all (fun h =>
    run (.eccUncorrectable h) up (fun t => failed h t && (t.hall h).cause = 5 && (t.hall h).deferred = some 5))) = true := by
  decide +kernel

/-- Witnesses of O38 at the halls' pins; the results are those of 01_architecture.md R25. -/
theorem test_HallFailuresTurnEveryTreadOff : ([HallId.a, .b].all (fun h =>
    run (.hallResetAssert h) up (failed h) && run (.engineWatchdog h) up (fun t => failed h t && (t.hall h).cause = 6))) = true := by
  decide +kernel

/-- Witness of O38 at Hall B's clock; the result is that of 01_architecture.md R37. -/
theorem test_OwnClockFaultTurnsEveryTreadOff :
    (let s := { up with clock := { up.clock with rcRun := 2 } }
    run .ownClockFault s fun t => failed .b t && t.hallB.cause = 4) = true := by decide +kernel

set_option maxRecDepth 100000 in
/-- Witness of O39 at Hall A's clock; the result is that of 01_architecture.md R36. -/
theorem test_HallAClockFaultDropsTheEnables :
    (let s := { up with clock := { up.clock with crossRunA := 2 } }
    run (.hallClockFault .a) s fun t => t.clock.crossA && t.safety.inhibit && !(t.fpower 11).enA && everyOff t) = true := by
  decide +kernel

set_option maxRecDepth 100000 in
/-- Witness of O39 at Hall B's clock; the result is that of 01_architecture.md R36. -/
theorem test_HallBClockFaultDropsTheEnables :
    (let s := { up with clock := { up.clock with crossRunB := 2 } }
    run (.hallClockFault .b) s fun t => t.clock.crossB && t.hallB.mode = .safeHold && !(t.fpower 11).enB && everyOff t) = true := by
  decide +kernel

set_option maxRecDepth 100000 in
/-- Witnesses of the rest of O39; the results are those of 01_architecture.md R28, 02_connectors_supply.md R60. -/
theorem test_ScrubsHeartbeatsAndSupplyLoss : ([
  (
    run (.sramScrub .a 3 false) up fun t => t.hallA.eccSingle = 3
  ),
  (
    run (.sramScrub .b 3 true) up fun t => t.hallB.mode = .safeHold && t.hallB.shCause &&& 0x40 ≠ 0
  ),
  (
    let s := up.modDie 1 (fun d => { d with missA := 3, missB := 3 })
    sound s && decide (1 < s.nDies) && run (.heartbeatLoss 1 .a) s (fun t => (t.die 1).lowA && allOff t (fun n => dieOfFlight (flightOfTread n) = 1)) &&
      run (.heartbeatLoss 1 .b) s (fun t => (t.die 1).lowB && allOff t (fun n => dieOfFlight (flightOfTread n) = 1))
  ),
  (
    run (.flightEnableLow 11 .a) up (fun t => !(t.fpower 11).enA && allOff t (fun n => flightOfTread n = 11)) &&
      run (.flightEnableLow 0 .b) up (fun t => !(t.fpower 0).enB && allOff t (fun n => flightOfTread n = 0))
  ),
  (
    run .supplyLoss up fun t => !t.hallAUp && !t.hallBUp && !t.sec.booted && !t.supply.switchClosed && !t.firstStandby
  )
  ] : List Bool).all id = true := by decide +kernel

/-- Witnesses of O40; the results are those of 01_architecture.md R29, R30, 14_boot_config_security.md R464 to R470, R480. -/
theorem test_HallsReturnAndRestart : ([
  (
    let s := down .a up
    mayLeave s s.hallA && run .hallAReturn s fun t => t.hallAUp && t.hallA.mode = .safeHold && t.hallA.shCause = 2
  ),
  (
    let s := down .b up
    mayLeave s s.hallB && run .hallBReturn s fun t => t.hallBUp && t.hallB.mode = .safeHold && t.hallB.shCause = 2
  ),
  (
    let stays (h : HallId) (g : Hall → Hall) : Bool :=
      let s := (down h up).modHall h g
      run (match h with | .a => .hallAReturn | .b => .hallBReturn) s fun t => t = s
    [HallId.a, .b].all (fun h => stays h (fun x => { x with resetTick := 99998 }) && stays h (fun x => { x with pllLocked := false }) &&
      stays h (fun x => { x with railRun := 79 })) && stays .b (fun x => { x with clockOk := false })
  ),
  (
    let s (w t : Bool) : State := { up with host := { up.host with restart := some ⟨w, 100000, t⟩ } }
    run .restartBegin (s false false) (fun t => !t.hallAUp && t.hallBUp) &&
      run .restartBegin (s true true) (fun t => !t.hallAUp && !t.hallBUp && !t.sec.booted && t.sec.fwPending = 2)
  ),
  (
    let s := State.reset
    s.hallA.inReset && s.hallB.inReset && !s.supply.prechargeFailed && (s.sec.startBank {} .a).isSome && (s.sec.startBank {} .b).isSome &&
      s.sec.fwPending ≠ 2 && sound s && s.sec.calFactory = s.sec.calOtp && hallAPortion s.sec.calFactory = s.sec.calOtpA
  ),
  (
    let s (t : Nat) : State := { up with sec := { up.sec with loadedAt := some t } }
    !(s 99900).sec.booted && (s 99900).hallAUp && (s 99900).hallBUp && (s 99900).testsRun && (s 99900).failedTests [] = [] &&
      (s 99900).failedTests [4] = [4] && (s 99900).sec.fwPending ≠ 2 && run (.bootComplete []) (s 99901) fun t => t = s 99901
  ),
  (
    let s := { up with sec := { up.sec with trialEnd := some 100000, fwPending := 2 } }
    run .fwTrialTimeout s fun t => !t.hallAUp && !t.hallBUp && t.sec.fwPending = 0 && t.sec.fallbackDue = some 3
  )
  ] : List Bool).all id = true := by decide +kernel

/-- CAN port 1 in use and error active. -/
def bus : State :=
  let s := put up Par.canEn 0 1 1
  { s with can := { s.can with ports := s.can.ports.modify 1 (fun x => { x with st := .active }) } }

/-- CAN port 1 in a state. -/
def busIn (st : CanState) (s : State) : State := s.modCan 1 (fun x => { x with st := st, txErr := 255, rxErr := 9 })

/-- Witnesses of O41; the results are those of 10_program.md R357, R359 to R361. -/
theorem test_RemoteIoPortsReceiveAndRecover : ([
  (
    let s := put (put bus Par.canRpdoCobid 0 63 0x281) Par.canRpdoCfg 0 63 0x0005
    s.rpdoEntries 1 0x281 = [63] && wfield (s.par Par.canRpdoCfg 0 63) 7 1 = 2 && run (.rpdoReceive 1 0x281 [1, 2]) s fun t =>
      t.can.rpdos[63]? = some ⟨[1, 2], true, false, 800000⟩
  ),
  (
    let s := put bus Par.canHbNode 0 31 0x107
    s.hbNode 31 = some (7, 1) && (List.range 31).all (fun j => s.hbNode j ≠ some (7, 1)) && run (.canHeartbeat 1 7 5) s fun t =>
      t.canNode 31 = ⟨1, 5, 100000⟩
  ),
  (
    let s := put (put bus Par.canHbNode 0 31 0x107) Par.canHbTime 0 31 1000
    s.hbNode 31 = some (7, 1) && (s.canNode 31).st ≠ 2 && run (.canNodeLost 31) s fun t =>
      (t.canNode 31).st = 2 && told s Evt.canNodeLost 1 [31] t
  ),
  (
    run (.canEmcy 1 7 [1, 2, 3, 4, 5, 6, 7, 8]) bus fun t => (t.canPort 1).emcy = 1 &&
      told bus Evt.canEmcy 1 [0x087, 0x04030201, 0x08070605] t
  ),
  (
    run (.canErrorPassive 1 128 0) bus (fun t => (t.canPort 1).st = .passive) &&
      run (.canErrorPassive 1 127 127) (busIn .passive bus) (fun t => (t.canPort 1).st = .active)
  ),
  (
    run (.canBusOff 1) bus fun t => (t.canPort 1).st = .busOff && (t.canPort 1).busOffs = 1 && !t.canListens 1 && told bus Evt.canBusOff 1 [] t
  ),
  (
    let s := busIn .busOff bus
    run (.canBusRecovered 1) s fun t => (t.canPort 1).st = .active && (t.canPort 1).txErr = 0 && (t.canPort 1).rxErr = 0 &&
      told s Evt.canBusRecovered 1 [] t
  )
  ] : List Bool).all id = true := by decide +kernel

/-- Safe connection 7 in use over TRDP, and its state. -/
def safeConn (g : Conn → Conn) : State :=
  let s := { put (put (put up Par.safelinkConnEn 0 7 1) Par.safelinkOwnId 0 0 5) Par.safelinkConnPeerId 0 7 6 with firstStandby := true }
  s.modConn 7 (fun x => g { x with st := .starting, seq := 9 })

/-- The module with an address. -/
def addressed : State := put up Par.hostlinkIp 0 0 0x0A000001

/-- Witnesses of O42; the results are those of 09_safe_frames_train.md R304 to R312. -/
theorem test_SafeConnectionsSendReceiveAndExpire : ([
  (
    let s := safeConn id
    sound s && s.vsfDue 7 && run (.vsfSend 7) s fun t =>
      t.conns = (s.buildVsf 7).2.conns && (OutMsg.vsf 7 (s.buildVsf 7).1 :: s.outs).isSuffixOf t.outs
  ),
  (
    let s := safeConn id
    s.carries 7 && run (.vsfFrameReceive ⟨7, [1, 2]⟩) s fun t => t.safety.vsfIn = s.safety.vsfIn ++ [(7, [1, 2])]
  ),
  (
    let s := { safeConn id with hallA := { up.hallA with inReset := true } }
    let b := { safeConn id with hallB := { up.hallB with mode := .boot } }
    !s.carries 7 && run (.vsfFrameReceive ⟨7, [1, 2]⟩) s (fun t => t = s) && run (.vsfFrameReceive ⟨7, [1, 2]⟩) b fun t => t = b
  ),
  (
    let s := safeConn (fun x => { x with st := .open', acceptTick := 99860 })
    sound s && (s.conn 7).acceptTick + 2 * s.tExp 7 ≤ s.tick && s.carries 7 && run (.safelinkSilenceTimeout 7) s fun t =>
      (t.conn 7).st = .starting && told s Evt.safelinkRestart 7 [1] t
  ),
  (
    let s := safeConn (fun x => { x with st := .open', wasValid := true, valid := true, echoTick := 99930, age := 61 })
    sound s && !s.vsfValid 7 && run (.safelinkExpired 7) s fun t =>
      t.conn 7 = { s.conn 7 with wasValid := false, valid := false } && told s Evt.safelinkExpired 7 [61] t
  )
  ] : List Bool).all id = true := by decide +kernel

/-- Witnesses of O43; the results are those of 09_safe_frames_train.md R316 to R325. -/
theorem test_TrainNetworkTelegramsAndFrames : ([
  (
    let s := put (put addressed Par.trdpSubComid 0 31 77) Par.trdpSubLen 0 31 2
    let r : PdIn := ⟨0, 0x0A000001, pdBytes 77 3 [8, 9]⟩
    !pdMulticast r && pdGood r && pdData r = [8, 9] && s.reaches r.destIp && (List.range 8).all (fun c => !s.connTakes c r) && s.subTakes 31 r && (List.range 31).all (fun k => !s.subTakes k r) &&
      run (.trdpPdReceive r) s fun t => t.sub 31 = ⟨[8, 9], true, 100000, true, false⟩
  ),
  (
    let s := put (put addressed Par.trdpSubComid 0 31 77) Par.trdpSubTimeout 0 31 100
    let s (z : BitVec 32) : State := put ({ s with prog := { s.prog with running := some (program 0x40) } }.modSub 31
      (fun x => { x with data := [8, 9], fresh := true, rxTick := 99900 })) Par.trdpSubToBehav 0 31 z
    (s 0).atCycleStart && run (.trdpSubTimeout 31) (s 0) (fun t => !(t.sub 31).fresh && (t.sub 31).timedOut && (t.sub 31).data = [0, 0] &&
      told (s 0) Evt.trdpSubTimeout 31 [] t) && run (.trdpSubTimeout 31) (s 1) (fun t => (t.sub 31).data = [8, 9])
  ),
  (
    let frame : Bytes := [0xFF, 0xFF, 0xFF, 0xFF, 0xFF, 0xFF, 2, 0, 0, 0, 0, 7, 0x81, 0x00, 0xE0, 0x00]
    up.switchPowered && groupAddress (beNat (frame.take 6)) && frameQueue frame = 3 && run (.switchFrameForward 1 frame) up fun t =>
      (OutMsg.eth 0 3 frame :: up.outs).isSuffixOf t.outs
  ),
  (
    let frame : Bytes := [0xFF, 0xFF, 0xFF, 0xFF, 0xFF, 0xFF, 2, 0, 0, 0, 0, 7, 8, 6, 0, 1, 8, 0, 6, 4, 0, 1, 2, 0, 0, 0, 0, 7, 10, 0, 0, 9, 0, 0, 0, 0,
      0, 0, 10, 0, 0, 1]
    beNat ((frame.drop 12).take 2) = 0x806 && (addressed.arpReply frame).isSome && groupAddress (beNat (frame.take 6)) && addressed.stormTake.1
  ),
  (
    let frame : Bytes := [2, 0, 0, 0, 0, 1, 2, 0, 0, 0, 0, 7, 8, 0, 0x45, 0, 0, 28, 0, 0, 0, 0, 64, 1, 0, 0, 10, 0, 0, 9, 10, 0, 0, 1,
      8, 0, 0xF7, 0xFF, 0, 0, 0, 0]
    beNat ((frame.drop 12).take 2) = 0x800 && (addressed.echoReply frame).isSome
  )
  ] : List Bool).all id = true := by decide +kernel

/-- A running program at its cycle start. -/
def cycling (g : Prog → Prog) : State := { up with prog := g { up.prog with running := some (program 0x40), run := true, written := true } }

/-- Witnesses of O44; the results are those of 10_program.md R327, R331, R332. -/
theorem test_ProgramCyclesStartSkipAndStop : ([
  (
    let s := cycling (fun x => { x with lastStart := some 99990 })
    s.startFalls && s.prog.startDue = none && s.prog.run && s.prog.executing = none && run .programCycleStart s fun t =>
      t.prog.executing = some 100000
  ),
  (
    let s (k : Nat) : State := { cycling (fun x => { x with executing := some 99990, skips := k }) with hallA := { up.hallA with mode := .standby } }
    (s 1).startFalls && (s 1).mode ≠ .run && (s 1).parN Par.programOverrunEsc 0 0 = 0 && run .programCycleStart (s 1) (fun t =>
      t.prog.skips = 2 && t.prog.skipped = 1 && t.prog.executing = some 99990) &&
      run .programCycleStart (s 2) (fun t => !t.prog.run && t.prog.stopCause = 1)
  )
  ] : List Bool).all id = true := by decide +kernel

/-- Witnesses of O45; the results are those of 10_program.md R328, R331, R367, R368, R371. -/
theorem test_ProgramsCompleteVerifyAndAbandon : ([
  (
    let s := cycling (fun x => { x with executing := some 99999 })
    run (.programCycleComplete 4294967295) s fun t => t.prog.executing = none && t.prog.execLast = 0xFFFFFFFF && t.prog.execMax = 0xFFFFFFFF
  ),
  (
    let s := cycling (fun x => { x with pendState := .verifying, pendBytes := [1, 2, 3] })
    run .programVerified s fun t => t.prog.pending = none && t.prog.pendState = .rejected && (match s.verifyContainer [1, 2, 3] with
      | .inr (st, item) => t.prog.lastSwitch = word32 (st + 65536 * (item % 65536))
      | .inl _ => false)
  ),
  (
    let s := cycling (fun x => { x with switchAt := some 99000 })
    run .switchAbandoned s fun t => t.prog.switchAt = none && t.prog.lastSwitch = word32 stBusy && t.prog.running = s.prog.running &&
      told s Evt.programSwitchRefused noSource [word32 stBusy, 0] t
  )
  ] : List Bool).all id = true := by decide +kernel

/-- The gallery as given. -/
def store (g : Gallery → Gallery) : State := { up with gallery := g up.gallery }

/-- An event, and a cycle record, of no content. -/
def event (sev : Nat) : Ev := { code := 0x1001, sev := sev, source := 3, args := [], optime := 0, flags := 0 }
def cycle : CycRec := ⟨0, 0, 0, 0, 1, 0, 0, 0, 0, 0, 0, 0, 0, 0, 0, 0, 0, 0, 0, 0, 0, 0, 0, 0, 0, 0, 0, 0⟩

/-- Witnesses of O46; the results are those of 11_gallery.md R391 to R395. -/
theorem test_EventsEnterTheGallery : ([
  (
    let s (n sev : Nat) : State := store (fun g => { g with arrivals := [event sev], queue := List.replicate n (event 2) })
    let fits (n sev : Nat) : Bool := !(s n sev).gallery.openTab.any (event sev).mergesInto && (s n sev).parN Par.galleryMinSev 0 0 ≤ sev && (s n sev).parN Par.galleryFloodMode 0 0 = 0 &&
      run .eventIntake (s n sev) (fun t => t.gallery.arrivals = [] && t.gallery.queue = (s n sev).gallery.queue ++
        [{ event sev with win := (s n sev).parN Par.galleryRepeatWin 0 0 }])
    fits 119 2 && fits 127 4
  ),
  (
    let r := (event 2).toRec 1 0 false
    let s := store (fun g => { g with openTab := [r], optime := 100000, spill := List.replicate 767 r })
    s.windowEnded r && s.gallery.spillRoom && run .recordWindowEnd s fun t => t.gallery.openTab = [] && t.gallery.spill = s.gallery.spill ++ [r]
  ),
  (
    let s := store (fun g => { g with queue := [event 2], openTab := List.replicate 63 ((event 1).toRec 1 0 false), cycQueue := [cycle] })
    !s.spillWaits && run .queueTake s fun t => t.gallery.queue = [] && t.gallery.openTab = s.gallery.openTab ++
      [(event 2).toRec s.gallery.logSt.nextSeq s.gallery.powerCycles s.gallery.timeEst]
  ),
  (
    let s (sev : Nat) (dx : BitVec 32) : State := put (store (fun g => { g with queue := [event sev] })) Par.galleryFloodMode 0 0 dx
    let spills (sev : Nat) (dx : BitVec 32) : Bool := run .queueTake (s sev dx) fun t => t.gallery.queue = [] && t.gallery.openTab = [] &&
      t.gallery.spill = [(event sev).toRec up.gallery.logSt.nextSeq up.gallery.powerCycles up.gallery.timeEst]
    spills 5 0 && spills 2 1
  ),
  (
    let r := { (event 2).toRec 1 0 false with win := 0 }
    let s := store (fun g => { g with queue := [event 2], openTab := [r], spill := List.replicate 768 r })
    s.spillWaits && run .queueTake s fun t => t.gallery.queue = s.gallery.queue && t.gallery.openTab = [r]
  ),
  (
    let s := store (fun g => { g with lost := [0, 0, 0, 7, 0, 0], queue := List.replicate 64 (event 2) })
    s.gallery.lossPending && run .eventsLost s fun t => !t.gallery.lossPending && t.gallery.queue.length = 65 &&
      (t.gallery.queue.getLast?.map (·.code)) = some Evt.eventsLost.code
  )
  ] : List Bool).all id = true := by decide +kernel

/-- Witnesses of O47; the results are those of 11_gallery.md R387 to R402. -/
theorem test_RecordsReachTheNandOrTheAlcove : ([
  (
    let s := store (fun g => { g with spill := List.replicate 257 ((event 2).toRec 1 0 false) })
    s.nandFree && run .pageProgram s fun t => t.gallery.spill = s.gallery.spill.drop 256 && t.gallery.log.length = 256
  ),
  (
    let s := store (fun g => { g with cycSpill := List.replicate 256 cycle })
    s.nandFree && run .pageProgram s fun t => t.gallery.cycSpill = [] && t.gallery.archive.length = 256
  ),
  (
    let s := store (fun g => { g with toRefresh := [9], wear := [(9, 3)] })
    s.nandFree && !s.onHoldup && run .compactionStep s fun t => t.gallery.toRefresh = [] && t.gallery.erases 9 = 4
  ),
  (
    let s := store (fun g => { g with logSt := { g.logSt with reclaim := 5000, cursor := 4095 } })
    s.nandFree && s.compactArea = some 1 && run .compactionStep s fun t => t.gallery.logSt.reclaim = 904 &&
      t.gallery.erases (s.turnBlock 1) = 1 && s.turnBlock 1 = s.areaBase 1 + 4095 && t.gallery.log = s.gallery.log
  ),
  (
    let s := store (fun g => { g with staging := g.staging.modify 11 (fun x => { x with done := true }) })
    sound s && s.nandFree && (s.gallery.staging.getD 11 .reset).done && run (.traceWrite 11) s fun t =>
      !(t.gallery.staging.getD 11 .reset).done && t.gallery.trSt.nextSeq = seqAfter s.gallery.trSt.nextSeq && t.gallery.traces.length = 1
  ),
  (
    let s := store (fun g => { g with optime := 10 })
    run .counterPersist s fun t => t.gallery.optimeMram = 10
  ),
  (
    let s := store (fun g => { g with reserve := 256 })
    run (.nandScrub ⟨5, 0, true⟩) s fun t => t.gallery.reserve = 255 && t.gallery.blocks = [(5, 0)] && told s Evt.blockRetired noSource [5] t
  ),
  (
    (exec (.nandScrub ⟨5, 0, false⟩) up matches .next _)
  ),
  (
    let s := store (fun g => { g with reserve := 0, rebuildFrom := some 99000, cycQueue := [cycle] })
    ([1, 2, 3, 4] : List Nat).all (fun c => run (.galleryFailed c 9) s fun t => t.gallery.degraded && t.gallery.paused &&
      t.gallery.alcove.map (·.entry.code) = [Evt.galleryFailed.code, Evt.cyclesPaused.code] &&
      toldEach s noSource [(Evt.galleryFailed, [word32 c, 9]), (Evt.cyclesPaused, [seqAfter s.gallery.archSt.nextSeq])] t)
  ),
  (
    let x : AlcRec := ⟨{ (event 4).toRec 1 0 false with code := Evt.galleryFailed.code, args := [1, 9] }, false, false⟩
    let s := store (fun g => { g with degraded := true, failedSentTick := 40000, alcove := [x] })
    run .galleryFailedRepeat s fun t => t.gallery.failedSentTick = 100000 && t.outs = .event Evt.galleryFailed.code noSource [1, 9] :: s.outs
  ),
  (
    let s := store (fun g => { g with degraded := true, arrivals := [event 4] })
    s.parN Par.galleryAlcoveMinSev 0 0 ≤ 4 && run .eventIntake s fun t => t.gallery.arrivals = [] && t.gallery.queue = [] &&
      t.gallery.alcove.map (·.entry.code) = [0x1001]
  ),
  (
    let s := { State.reset with gallery := { State.reset.gallery with degraded := true } }
    s.hallA.inReset && s.hallB.inReset && !s.supply.prechargeFailed && (s.sec.startBank {} .b).isSome && s.sec.fwPending ≠ 2
  ),
  (
    let s := store (fun g => { g with rebuildFrom := some 99000, waitEv := [(event 2).toRec 1 0 false] })
    run .indexRebuilt s fun t => t.gallery.rebuildFrom = none && t.gallery.waitEv = [] && t.gallery.log.length = 1 &&
      t.outs.head? = some (.event Evt.indexRebuilt.code noSource [1000])
  ),
  (
    let s := { up with hallB := { up.hallB with inReset := true } }
    !s.hallBUp && run .pageProgram s fun t => t = s
  )
  ] : List Bool).all id = true := by decide +kernel

/-- A member with seal address 3, its ring as given: a configuration, a link on each port. -/
def member (g : Ring → Ring) : State :=
  let s := put up Par.ringEn 0 0 1
  { s with
      ring := g { s.ring with ports := [⟨2, 0, true, 0, 0, 0⟩, ⟨2, 0, true, 0, 0, 0⟩] }
      safety := { s.safety with sealRd := { s.safety.sealRd with value := some 0x30000, lastValid := 0x30000 } }
      sec := { s.sec with active := some image, configOn := true }, prog := { s.prog with running := some (program 0x40) } }

/-- A ring port in a state. -/
def portIn (st : Nat) (s : State) : State := s.modRingPort 1 (fun x => { x with st := st, trainTick := 99950 })

/-- What discovery finds of a line of two members. -/
def found (a b : Nat) : FormIn := ⟨[⟨a, 10, 0, 0, 100, []⟩, ⟨b, 10, 0, 0, 100, []⟩], false, false, 0⟩

/-- The member in service, of a line of 7 and 3, with a head; a frame of that ring as it arrives, its slots empty. -/
def served (head : Nat) : State :=
  member (fun x => { x with st := 2, head := head, members := [7, 3], topology := 2, delayUs := 3000, layout := [(7, 0, 0), (3, 0, 0)] })
def passing (s : State) (p : Nat) (tick : Word) : RingIn := ⟨p, s.ringHeader tick ++ List.replicate 24 0, 0⟩

/-- Witnesses of O48; the results are those of 13_ring.md R441 to R447, R450 to R459. -/
theorem test_RingsTrainFormAndPassFrames : ([
  (
    let s := portIn 0 (member id)
    s.hasRing && run (.ringSignalDetect 1) s fun t => t.ringPort 1 = { s.ringPort 1 with st := 1, signal := true, trainTick := 100000 }
  ),
  (
    let s := portIn 1 (member id)
    run (.ringTrainingRetry 1) s fun t => t.ringPort 1 = { s.ringPort 1 with trainTick := 100000 }
  ),
  (
    let s (k : Nat) : State := portIn 1 (member (fun x => { x with st := k }))
    run (.ringLinkUp 1 400 3) (s 0) (fun t => (t.ringPort 1).st = 2 && (t.ringPort 1).delay = 200) &&
      run (.ringLinkUp 1 400 3) (s 2) (fun t => (t.ringPort 1).st = 3)
  ),
  (
    let s := member id
    run (.ringPortDown 1 0) s (fun t => (t.ringPort 1).st = 0 && told s Evt.ringPortDown noSource [1, 0] t) &&
      run (.ringPortDown 1 15) s (fun t => (t.ringPort 1).st = 2 && (t.ringPort 1).errors = 15 && t.outs = s.outs) &&
      run (.ringPortDown 1 0) (portIn 1 s) (fun t => (t.ringPort 1).st = 0 && t.outs = s.outs) &&
      run (.ringPortDown 1 16) s (fun t => (t.ringPort 1).st = 1 && (t.ringPort 1).errors = 16 && told s Evt.ringPortDown noSource [1, 16] t)
  ),
  (
    let s := member (fun x => { x with st := 2, missRun := 2, members := [3, 7] })
    run (.ringLost 0) s fun t => t.ring.st = (if s.ringCanForm then 1 else 0) && t.ring.members = [] && told s Evt.ringLost noSource [0] t
  ),
  (
    let s := member id
    s.ringCanForm && run .ringFormTrigger s (fun t => t.ring.st = 1 && t.ring.trigger = some 100000) &&
      run .ringFormTrigger (member (fun x => { x with st := 2 })) fun t => t.ring.st = 1
  ),
  (
    let s := member (fun x => { x with st := 1 })
    let r := found 7 3
    (formAddrs r).contains s.sealAddr && !s.formWaits r && formRefusal (s.closes r) s.tCyc = 0 && run (.formWaitEnd r) s fun t => t.ring.st = 2 &&
      t.ring.members = [7, 3] && t.ring.head = 3 && t.ring.frameLen = 42 && t.ring.formings = 1
  ),
  (
    let s := member (fun x => { x with st := 1 })
    let r := found 3 3
    (formAddrs r).contains s.sealAddr && !s.formWaits r && formRefusal (s.closes r) s.tCyc = 4 && run (.formWaitEnd r) s fun t => t.ring.st = 0 && t.ring.refuseCause = 4
  ),
  (
    let s := member (fun x => { x with st := 1, trigger := some 99990 })
    let r := { found 7 3 with booting := true }
    s.formWaits r && run (.formWaitEnd r) s fun t => t = s
  ),
  (
    let s := served 7
    let r := passing s 1 10000
    !s.ringBypass && s.headerGood r.bytes && run (.ringFrame r) s fun t => t.ring.lastFrame = some 10000 && t.ring.heard = some 10000 &&
      t.clock.base = (10000#32 - 99997#32).toNat &&
      (match t.outs.head? with | some (.ring 0 bs) => bs.take 16 = r.bytes.take 16 && bs ≠ r.bytes | _ => false)
  ),
  (
    let s := served 3
    let r := passing s 0 10000
    s.headerGood r.bytes && s.homePort = 0 && run (.ringFrame r) s fun t => t.outs.head? = some (.ring 1 (asLap2 r.bytes))
  ),
  (
    let s := put (served 7) Par.ringEn 0 0 0
    let r := passing s 0 10000
    s.ringBypass && s.headerGood r.bytes && run (.ringFrame r) s (fun t => t.ring = { s.ring with heard := some 10000, missRun := 0 } &&
      t.outs = .ring 1 r.bytes :: s.outs) && run (.ringFrame ⟨0, [1], 0⟩) s (fun t => t = s.send (.ring 1 [1])) &&
      run (.ringFrame ⟨1, [1], 0⟩) (portIn 1 s) fun t => t = portIn 1 s
  ),
  (
    let s := (served 7).modHall .a (fun x => { x with inReset := true, railRun := 0 })
    !s.railsUp .a && run (.ringFrame (passing s 1 10000)) s (fun t => t = s) && run (.ringPortDown 1 0) s fun t => t = s
  )
  ] : List Bool).all id = true := by decide +kernel

/-- An open session of a role over SV, without a key. -/
def session (role : Nat) : Session :=
  { num := 1, role := role, sv := true, src := 0, slot := 0, nc := [], nm := [], pending := false, key := none, high := 9, cache := [], fails := 0,
    openTick := 0, lastTick := 0 }

/-- A state in which that session is open; the header of its next packet. -/
def opened (role : Nat) (s : State) : State := { s with host := { s.host with sessions := [session role] } }
def hdr : Hdr := { sv := true, src := 0, seq := 10, session := 1, addr := 0xFF, hall := 0, mac := none }

/-- `State.Passes` of a packet in that session, decided. -/
def passes (s : State) (o : OpSpec) (k : Pkt) (x : Session) : Bool :=
  s.linkUp k.hdr.sv && (k.hdr.addr = 0xFF) && k.hdr.session ≠ 0 && s.session? k.hdr.session = some x && x.sv = k.hdr.sv &&
    x.src = k.hdr.src && (!x.pending || o.pendingOk) && x.key = none && k.hdr.mac = none &&
    x.cache.find? (fun c => c.seq = k.hdr.seq) = none && 1 ≤ (k.hdr.seq - x.high).toNat && (k.hdr.seq - x.high).toNat ≤ 1024 &&
    roleHas x.role o.perm && o.permOk && o.lenOk && k.hdr.hall = 0 && o.stateOk &&
    (!o.deferred || decide ((s.host.pends.filter (fun q => q.session = k.hdr.session)).length < 4))

theorem passes_passes {s : State} {o : OpSpec} {k : Pkt} {x : Session} (h : passes s o k x = true) : s.Passes o k x := by
  simp only [passes, Bool.and_eq_true, Bool.or_eq_true, Bool.not_eq_true', decide_eq_true_eq] at h
  obtain ⟨⟨⟨⟨⟨⟨⟨⟨⟨⟨⟨⟨⟨⟨⟨⟨⟨h1, h2⟩, h3⟩, h4⟩, h5⟩, h6⟩, h7⟩, h8⟩, h9⟩, h10⟩, h11⟩, h12⟩, h13⟩, h14⟩, h15⟩, h16⟩, h17⟩, h18⟩ := h
  refine ⟨h1, .inl h2, h3, h4, h5, h6, fun p => ?_, by simp [Session.macRight, h8, h9], h10, h11, h12, h13, h14, h15, .inl h16, h17, fun d => ?_⟩
  · exact h7.resolve_left (by simp [p])
  · exact h18.resolve_left (by simp [d])

/-- `State.Writes` of a value by an integrator, decided. -/
def writes (s : State) (r : ParRow) (i j : Nat) (v : Word) : Bool :=
  passes s writeSpec (oneEntry hdr (r.pid i j) v) (session 5) && s.sec.activating = none && decide (i < 256) && decide (j < r.len) &&
    decide (r.pid i j < 4294967296) && s.resolvePid (r.pid i j) = .inr (r, i, j) && roleMayWrite 5 r && (r.acc = .rw || r.acc = .wo) && !r.image &&
    !s.progOwns (r.pid i j) && r.admits v && !(s.setPar (r.pid i j) v).breaksRelation (r.pid i j) && !(r.ofHallB && s.hallB.inReset)

theorem writes_writes {s : State} {r : ParRow} {i j : Nat} {v : Word} (h : writes s r i j v = true) : s.Writes hdr r i j v (session 5) := by
  simp only [writes, Bool.and_eq_true, Bool.or_eq_true, Bool.not_eq_true', decide_eq_true_eq] at h
  obtain ⟨⟨⟨⟨⟨⟨⟨⟨⟨⟨⟨⟨h1, h2⟩, h3⟩, h4⟩, h5⟩, h6⟩, h7⟩, h8⟩, h9⟩, h10⟩, h11⟩, h12⟩, h13⟩ := h
  exact ⟨passes_passes h1, h2, h3, h4, h5, h6, h7, h8, h9, h10, h11, h12, by simpa using h13⟩

/-- The last thing sent is a reply to the header's request. -/
def replied (t : State) (op status item : Nat) (payload : Bytes) : Bool :=
  match t.outs.head? with
  | some (.reply r) => r.sv && r.src = 0 && r.seq = 10 && r.session = 1 && r.opcode = BitVec.ofNat 16 op && r.status = BitVec.ofNat 8 status &&
      r.item = word32 item && r.payload = payload
  | _ => false

/-- A write of a value that is answered OK. -/
def wrote (c : Instr) (s : State) (r : ParRow) (i j : Nat) (v : Word) (p : State → Bool) : Bool :=
  writes s r i j v && run c s (fun t => replied t 0x0011 0 0 (writeReply 0xFFFF) && p t)

/-- A module with an open session of an integrator. -/
def host : State := opened 5 up

/-- Witnesses of O49; the results are those of 02_connectors_supply.md R63, 03_treads.md R104, R108, R109, 04_inputs_ports.md R138,
06_doorway.md R224, 12_host_protocol.md R435. -/
theorem test_ClearingWritesClear : ([
  (
    let s := { host with supply := { host.supply with uv := true, uvLatched := true } }
    s.uvRestart ≤ s.vin && wrote (.uvClear hdr 1) s Par.supplyUvClear 0 0 1 fun t => !t.supply.uv && !t.supply.uvLatched &&
      t.supply.treadsFromTick = 100001 && (OutMsg.event Evt.supplyUvRestart.code noSource [] :: s.outs).isSuffixOf t.outs
  ),
  (
    let s := host.modTread 95 (fun x => { x with latchedOff := true, used := 3 })
    sound s && !(s.tread 95).therm && !(s.tread 95).wire && wrote (.treadClear hdr 95 1) s Par.treadClear 95 0 1 fun t =>
      !(t.tread 95).latchedOff && (t.tread 95).used = 0 && (t.tread 95).offUntil = 100001 && told s Evt.treadCleared 95 [] t
  ),
  (
    let s := host.modStorey 3 (fun x => { x with breakerOpen := true, tripTick := 99000 })
    sound s && wrote (.storeyReclose hdr 3 1) s Par.storeyReclose 3 0 1 fun t =>
      !(t.storey 3).breakerOpen && told s Evt.storeyBreakerReclosed 3 [] t
  ),
  (
    let s := host.modPort 23 (fun x => { x with supplyFault := true, supplyFaultTick := 99000 })
    sound s && wrote (.supplyClear hdr 23 1) s Par.portSupplyClear 23 0 1 fun t => !(t.port 23).supplyFault
  ),
  (
    let s (lv : Nat) : State := host.modBudget lv (fun b => { b with stopped := true })
    [15, 17].all (fun lv => (s lv).stopClearable lv && wrote (.storeyStopClear hdr 3 1) (s lv) Par.storeyStopClear 3 0 1 fun t =>
      !(t.budget lv).stopped)
  ),
  (
    let s := host.modBudget 11 (fun b => { b with stopped := true })
    s.stopClearable 11 && wrote (.flightStopClear hdr 11 1) s Par.flightStopClear 11 0 1 fun t => !(t.budget 11).stopped
  ),
  (
    let s (lv : Nat) : State := host.modBudget lv (fun b => { b with stopped := true })
    [18, 19].all (fun lv => (s lv).stopClearable lv && wrote (.sysStopClear hdr 1) (s lv) Par.sysStopClear 0 0 1 fun t => !(t.budget lv).stopped)
  )
  ] : List Bool).all id = true := by decide +kernel

/-- Witnesses of O50; the results are those of 04_inputs_ports.md R131, R134, R142 to R145, 05_motion.md R172, R177. -/
theorem test_PortAndAxisWritesTakeEffect : ([
  (
    let s := put host Par.portFormat 23 0 1
    s.portFormat 23 = 1 && wrote (.portCountWrite hdr 23 0xFFFFFFFF) s Par.portCount 23 0 0xFFFFFFFF fun t =>
      (t.port 23).count = 0xFFFFFFFF && (t.port 23).wraps = 0 && !(t.port 23).countInvalid
  ),
  (
    let s := host.modPort 23 (fun x => { x with count := 5, wraps := 7 })
    passes s readSpec (oneRead hdr (Par.portCount.pid 23 0)) (session 5) && run (.portCountRead hdr 23) s fun t =>
      (t.port 23).wrapsLatched = 7 && replied t 0x0010 0 0 [1, 0, 0, 0, 0, 1, 0, 0, 5, 0, 0, 0]
  ),
  (
    let s := (put host Par.portFormat 23 0 1).modPort 23 (fun x => { x with countInvalid := false })
    let w : Word := 0x80020000
    wfield w 30 18 = 0 && wfield w 15 14 ≠ 3 && wbit w 17 && !wbit w 16 && (s.port 23).dir = 0 &&
      wrote (.cmpArm hdr 23 63 0x20000) s Par.portCmpCfg 23 63 w fun t =>
        (t.port 23).armed = (s.port 23).armed ||| bit64 63 && t.par Par.portCmpCfg 23 63 = 0x20000
  ),
  (
    let s := (put host Par.portFormat 23 0 1).modPort 23 (fun x => { x with armed := 0xFFFFFFFFFFFFFFFF })
    let w : Word := 0x20000
    wrote (.cmpDisarm hdr 23 63 0x80020000) s Par.portCmpCfg 23 63 w fun t =>
      (t.port 23).armed = 0x7FFFFFFFFFFFFFFF && t.par Par.portCmpCfg 23 63 = w
  ),
  (
    let s := host.modPort 23 (fun x => { x with hit := 0xFFFFFFFFFFFFFFFF })
    wrote (.cmpHitClr hdr 23 1 3) s Par.portCmpHitClr 23 1 3 fun t => (t.port 23).hit = 0xFFFFFFFCFFFFFFFF
  ),
  (
    wrote (.axisDecelWrite hdr 35 (toReal32 1000)) host Par.axisDecel 35 0 (toReal32 1000) fun t => t.par Par.axisDecel 35 0 = toReal32 1000 && (t.axis 35).decelDue
  ),
  (
    let s := (put host Par.axisType 34 0 2).modAxis 34 (fun x => { x with st := .hold, pos := 5 })
    s.isPhase 34 && s.fbPort 34 = none && wrote (.axisPosSet hdr 34 0xFFFFFFFF) s Par.axisPosSet 34 0 0xFFFFFFFF fun t =>
      (t.axis 34).pos = -1 && (t.axis 34).referenced && !(t.axis 34).posUncertain &&
        (OutMsg.event Evt.axisPosSet.code 34 [5, 0xFFFFFFFF] :: s.outs).isSuffixOf t.outs
  )
  ] : List Bool).all id = true := by decide +kernel

/-- Witnesses of O51; the results are those of 07_obstacle.md R230, R236, R239, 14_boot_config_security.md R487, R495. -/
theorem test_ObstacleAndTrimWritesTakeEffect : ([
  (
    let v := toReal32 20
    wrote (.tempInWrite hdr 11 v) host Par.obstacleTempIn 11 0 v fun t => t.par Par.obstacleTempIn 11 0 = v &&
      (t.obs 11).tempInAt = some 100000 && !(t.obs 11).tempTimeout
  ),
  (
    let s := host.modDoor 11 (fun x => { x with st := .closedLocked })
    s.mode = .run && !(s.obs 11).commissioning && wrote (.obstacleCommission hdr 11 1) s Par.obstacleCommission 11 0 1 fun t =>
      (t.obs 11).commissioning && (t.obs 11).comm = [] && (t.obs 11).backup = (s.obs 11).map
  ),
  (
    let s := host.modObs 11 (fun x => { x with commissioning := true })
    wrote (.commissionAbort hdr 11 0) s Par.obstacleCommission 11 0 0 fun t => !(t.obs 11).commissioning && (t.obs 11).map = (s.obs 11).backup
  ),
  (
    let s := host.modObs 11 (fun x => { x with map := { x.map with valid := true, drift := true } })
    !(s.obs 11).commissioning && wrote (.mapRestore hdr 11 1) s Par.obstacleMapRestore 11 0 1 fun t =>
      (t.obs 11).map.close = (s.obs 11).map.snapClose && !(t.obs 11).map.drift && told s Evt.obstMapRestored 11 [] t
  ),
  (
    let s := { host with hallA := { host.hallA with mode := .standby } }
    let v := toReal32 0
    wrote (.calTrimWrite hdr (Par.calUserTreadOffsetTrim.pid 0 95) v) s Par.calUserTreadOffsetTrim 0 95 v fun t => t.par Par.calUserTreadOffsetTrim 0 95 = v
  ),
  (
    let s := put ({ host with hallA := { host.hallA with mode := .maintenance } }) Par.calUserTreadOffsetTrim 0 3 7
    wrote (.calClearAll hdr 1) s Par.calUserClearAll 0 0 1 fun t => t.params.all (fun e => pidClass e.1 ≠ 0x61)
  )
  ] : List Bool).all id = true := by decide +kernel

/-- Witnesses of O52; the results are those of 08_safety.md R279, 10_program.md R335, R336, R366, 11_gallery.md R393, R402, R407,
13_ring.md R444. -/
theorem test_ServiceWritesTakeEffect : ([
  (
    let s := opened 5 { cycling id with hallA := { up.hallA with mode := .standby } }
    s.prog.running.isSome && wrote (.programStop hdr 1) s Par.programStop 0 0 1 fun t => !t.prog.run && t.prog.stopCause = 3 && t.prog.forces = []
  ),
  (
    let s := opened 5 (cycling id)
    wrote (.programRestart hdr 1) s Par.programRestart 0 0 1 fun t => t.prog.startDue = some 2
  ),
  (
    wrote (.forceClearAll hdr 1) host Par.forceClearAll 0 0 1 fun t => t.prog.forces = [] &&
      (OutMsg.event Evt.forceAllCleared.code noSource [4] :: host.outs).isSuffixOf t.outs
  ),
  (
    let s := put host Par.safetyHostResetEn 0 0 1
    wrote (.safetyResetReq hdr 1) s Par.safetyResetReq 0 0 1 fun t => t.safety.edgeHost
  ),
  (
    let a : AlcRec := ⟨(event 2).toRec 1 0 false, true, false⟩
    let s := { host with gallery := { host.gallery with alcove := [a, { a with copied := false }] } }
    wrote (.alcoveClear hdr 1) s Par.galleryAlcoveClear 0 0 1 fun t => t.gallery.alcove = [{ a with copied := false }] && t.gallery.alcWritten = 0 &&
      t.gallery.alcDropped = 0 && (OutMsg.event Evt.alcoveCleared.code noSource [1] :: s.outs).isSuffixOf t.outs
  ),
  (
    let s := { host with gallery := { host.gallery with optime := 4294967301 } }
    passes s readSpec (oneRead hdr (Par.galleryOptimeLo.pid 0 0)) (session 5) && run (.optimeRead hdr) s fun t => t.gallery.optimeHi = 1 &&
      replied t 0x0010 0 0 [1, 0, 0, 0, 0, 2, 0, 0, 5, 0, 0, 0]
  ),
  (
    host.par Par.galleryFloodMode 0 0 ≠ 1 && wrote (.floodModeWrite hdr 1) host Par.galleryFloodMode 0 0 1 fun t =>
      t.par Par.galleryFloodMode 0 0 = 1 && t.gallery.rate = []
  ),
  (
    let r := (event 2).toRec 1 0 false
    let s := { host with gallery := { host.gallery with openTab := [{ r with win := 9 }, r], spill := [r] } }
    wrote (.floodModeWrite hdr 1) s Par.galleryFloodMode 0 0 1 fun t => t.gallery.openTab = [] &&
      t.gallery.spill = [r, { r with win := 0 }, { r with win := 0 }]
  ),
  (
    let s := opened 5 (member id)
    s.ringCanForm && wrote (.ringReform hdr 1) s Par.ringReform 0 0 1 fun t => t.ring.st = 1 && t.ring.trigger = some 100000
  )
  ] : List Bool).all id = true := by decide +kernel

/-- A packet of that session. -/
def pkt (payload : Bytes) : Pkt := ⟨hdr, payload⟩

/-- `State.Reaches` of an integrator, decided. -/
def reaches (s : State) (k : Pkt) (a : Nat) : Bool :=
  passes s axisSpec k (session 5) && k.payload.length = 12 && fieldAt k.payload 0 1 = a && fieldAt k.payload 2 1 ≤ 1 &&
    isFinite32 (word32 (fieldAt k.payload 8 4)) && (s.mode = .run || s.mode = .maintenance) && s.sec.activating = none && a < s.nAxes

theorem reaches_reaches {s : State} {k : Pkt} {a : Nat} (h : reaches s k a = true) : s.Reaches k (session 5) a := by
  simp only [reaches, Bool.and_eq_true, Bool.or_eq_true, decide_eq_true_eq] at h
  obtain ⟨⟨⟨⟨⟨⟨⟨h1, h2⟩, h3⟩, h4⟩, h5⟩, h6⟩, h7⟩, h8⟩ := h
  exact ⟨passes_passes h1, h2, h3, h4, h5, h6, h7, h8⟩

/-- The request that waits for the reply to an AXIS_CMD. -/
def req : Pend := pendOf 0x0021 hdr

/-- A command of that request has arrived for an axis. -/
def sent (s : State) (a : Nat) (c : AxCmd) : State :=
  ({ s with host := { s.host with pends := [req] } }).modAxis a (fun x => { x with inbox := [⟨c, .host req⟩] })

/-- `State.Judges` of that request, decided. -/
def judges (s : State) (a : Nat) (c : AxCmd) : Bool :=
  (s.axis a).inbox = [⟨c, .host req⟩] && !req.ended && s.session? req.session = some (session 5) && a < s.nAxes &&
    s.host.holders.all (fun h => h.axis ≠ a || h.session = 1) && !s.progOwnsAxis a && !s.refusesState a req.sv c

theorem judges_judges {s : State} {a : Nat} {c : AxCmd} (h : judges s a c = true) : s.Judges req a c := by
  simp only [judges, Bool.and_eq_true, Bool.or_eq_true, Bool.not_eq_true', decide_eq_true_eq, List.all_eq_true] at h
  obtain ⟨⟨⟨⟨⟨⟨h1, h2⟩, h3⟩, h4⟩, h5⟩, h6⟩, h7⟩ := h
  exact ⟨h1, h2, by decide, ⟨_, h3, rfl, rfl⟩, h4, fun y hy e => (h5 y hy).resolve_left (by simp [e]), h6, fun _ => rfl, h7⟩

/-- `State.Commanded`, decided. -/
def commanded (t : State) (a : Nat) : Bool :=
  replied t 0x0021 0 0 [BitVec.ofNat 8 (t.axis a).st.code, 0, BitVec.ofNat 8 (t.axis a).queue.length, 0] && t.holderOf a = some 1 &&
    (t.axis a).inbox = []

/-- The leaf axis of flight 0 for the host. -/
def drive (x : Axis → Axis) : State := opened 5 (motor x)

/-- A solenoid on the lock axis of flight 0. -/
def solenoid (st : AxState) : State :=
  (put host Par.axisType 2 0 4).modAxis 2 (fun x => { x with st := st }) |>.modFsafe 0 (fun x => { x with permission := true })

/-- Witnesses of O53; the results are those of 05_motion.md R161, R165 to R167, R171, 12_host_protocol.md R422, R432. -/
theorem test_HostMovesAreQueuedAndStopped : ([
  (
    let s := drive id
    let k := pkt ([0, 1, 1, 0, 100, 0, 0, 0] ++ leBytes 4 0x41200000)
    sound s && reaches s k 0 && axisTarget k = 100 && axisVel k = 10 && !axisAppends k && (axisCommands k).length = 11 &&
      (axisCommands k).all (fun c => run c.1 s fun t => t.axis 0 = { s.axis 0 with inbox := [⟨c.2, .host req⟩] } && t.host.pends.contains req)
  ),
  (
    let s := sent (drive id) 0 (.moveAbs 100 10 false)
    let t := s.takeInbox 0
    sound s && judges s 0 (.moveAbs 100 10 false) && s.moveInRange 0 (.pos 100 10) && commanded t 0 && (t.axis 0).queue = [.pos 100 10] &&
      (t.axis 0).st = .moving
  ),
  (
    let s := sent ((drive id).modAxis 0 (fun x => { x with st := .moving, queue := [.pos 100 10] })) 0 (.moveRel (-10) 10 true)
    let t := s.takeInbox 0
    judges s 0 (.moveRel (-10) 10 true) && lastTarget (s.axis 0) = some 100 && s.moveInRange 0 (.pos 90 10) && commanded t 0 &&
      (t.axis 0).queue = [.pos 100 10, .pos 90 10] && (t.axis 0).st = .moving
  ),
  (
    let s := sent (drive id) 0 (.moveVel (-10) false)
    let t := s.takeInbox 0
    judges s 0 (.moveVel (-10) false) && s.moveInRange 0 (.vel (-10)) && commanded t 0 && (t.axis 0).queue = [.vel (-10)] &&
      (t.axis 0).st = .moving
  ),
  (
    let s := sent ((drive id).modAxis 0 (fun x => { x with st := .moving, vel := 3, queue := [.vel 3] })) 0 .stop
    let t := s.takeInbox 0
    judges s 0 .stop && commanded t 0 && (t.axis 0).queue = [] && (t.axis 0).st = .stopping
  ),
  (
    let s := sent ((drive id).modAxis 0 (fun x => { x with st := .moving, vel := 3, queue := [.vel 3] })) 0 .quickStop
    let t := s.takeInbox 0
    judges s 0 .quickStop && commanded t 0 && (t.axis 0).queue = [] && (t.axis 0).st = .stopping &&
      (t.axis 0).decelUse = s.parR Par.axisQstopDecel 0 0
  ),
  (
    let s := sent (drive id) 0 .release
    let t := s.takeInbox 0
    judges s 0 .release && replied t 0x0021 0 0 [BitVec.ofNat 8 AxState.idle.code, 0, 0, 0] && (t.axis 0).st = .idle && t.holderOf 0 = none
  ),
  (
    let s := sent (drive id) 0 .release
    let s := { s with host := { s.host with holders := [⟨0, 7, .run⟩] } }
    let t := s.takeInbox 0
    s.holderOf 0 = some (7 : BitVec 16) && replied t 0x0021 stOwned 7 [] && t.axis 0 = { s.axis 0 with inbox := [] }
  )
  ] : List Bool).all id = true := by decide +kernel

/-- Witnesses of O54; the results are those of 05_motion.md R160, R183, R184, R187, 06_doorway.md R194, R195, 12_host_protocol.md
R422. -/
theorem test_HostGearingSolenoidsAndDoors : ([
  (
    let s := sent (put (put (drive id) Par.axisGearSrc 0 0 1) Par.axisGearMaster 0 0 5) 0 .gearEngage
    let t := s.takeInbox 0
    judges s 0 .gearEngage && commanded t 0 && (t.axis 0).gear.geared && (t.axis 0).gear.src = 1 && (t.axis 0).gear.s0 = (s.axis 0).posCmd
  ),
  (
    let s (v : Rat) : State := sent ((drive id).modAxis 0 (fun x => { x with st := .moving, vel := v, gear := { x.gear with geared := true } })) 0
      .gearDisengage
    let t (v : Rat) : State := (s v).takeInbox 0
    judges (s 0) 0 .gearDisengage && commanded (t 0) 0 && !((t 0).axis 0).gear.geared && ((t 0).axis 0).st = .hold && commanded (t 3) 0 &&
      ((t 3).axis 0).gear.entries = [] && ((t 3).axis 0).st = .stopping
  ),
  (
    let s := sent (solenoid .idle) 2 .energize
    let t := s.takeInbox 2
    judges s 2 .energize && commanded t 2 && (t.axis 2).st = .hold && (t.axis 2).pullSince = some 100000
  ),
  (
    let s := sent (solenoid .hold) 2 .deenergize
    let t := s.takeInbox 2
    judges s 2 .deenergize && commanded t 2 && (t.axis 2).st = .idle && (t.axis 2).pullSince = none
  ),
  (
    let s := sent (put { drive id with hallA := { up.hallA with mode := .maintenance } } Par.axisType 0 0 1) 0 .commLearn
    let t := s.takeInbox 0
    judges s 0 .commLearn && commanded t 0 && (t.axis 0).learning && (t.axis 0).st = .moving
  ),
  (
    let s := opened 2 (flight btDoor id)
    let k := pkt [0, 2, 0, 0]
    passes s { code := 0x0020, perm := .door, lenOk := true, deferred := true } k (session 2) && s.hasDoor 0 &&
      rankMay (roleRank 2) .close && (s.door 0).slots = [] && run (.doorCmd k) s fun t =>
        (t.door 0).slots = [⟨.close, roleRank 2, 1, some 10, 800001⟩] && t.host.pends.contains (pendOf 0x0020 hdr)
  )
  ] : List Bool).all id = true := by decide +kernel

/-- Witnesses of O55; the results are those of 10_program.md R363 to R371, 12_host_protocol.md R424. -/
theorem test_ForcesAndProgramLoads : ([
  (
    let v : Var := ⟨5, .bool, .out, 0, 0, 0, 0⟩
    let s := opened 5 (cycling (fun x => { x with running := some { program 0x40 with vars := [v] } }))
    let k := pkt [5, 0, 0, 0, 1, 0, 0, 0]
    passes s { code := 0x0034, perm := .service, lenOk := true } k (session 5) && s.forceOpen && s.freeSlot = some 0 &&
      run (.forceSet k) s fun t => replied t 0x0034 0 0 [0, 0, 0, 0] && t.prog.forces = [⟨0, 5, .bool, .out, 1, 1⟩] &&
        (match t.outs with | _ :: e => (OutMsg.event Evt.forceSet.code noSource [5, 1, 1] :: s.outs).isSuffixOf e | [] => false)
  ),
  (
    let s := opened 5 (cycling (fun x => { x with forces := [⟨0, 5, .bool, .out, 1, 1⟩] }))
    let k := pkt [5, 0, 0, 0]
    passes s { code := 0x0035, perm := .service, lenOk := true } k (session 5) && s.forceOpen && run (.forceClear k) s fun t =>
      replied t 0x0035 0 0 [] && t.prog.forces = []
  ),
  (
    let k := pkt ([0, 0, 0, 0] ++ leBytes 4 1048576 ++ List.replicate 32 7)
    passes host { code := 0x0030, perm := .service, lenOk := true } k (session 5) && host.progOpen && run (.progBegin k) host fun t =>
      replied t 0x0030 0 0 [1, 0, 0, 0x10] && t.host.xfers = [⟨.prog, 1, 1, 1048576, List.replicate 32 7, [], 100000, false⟩]
  ),
  (
    let y : Xfer := ⟨.prog, 1, 1, 3, [], [4, 5], 0, false⟩
    let s := { host with host := { host.host with xfers := [y] } }
    let k := pkt [1, 0, 0, 0, 2, 0, 0, 0, 6]
    passes s { code := 0x0031, perm := .service, lenOk := true } k (session 5) && s.xferOf false 1 1 = some y && run (.progData k) s fun t =>
      replied t 0x0031 0 0 [3, 0, 0, 0] && t.xferOf false 1 1 = some { y with data := [4, 5, 6], lastTick := 100000 }
  ),
  (
    let y : Xfer := ⟨.prog, 1, 1, 2, sha256 [4, 5], [4, 5], 0, false⟩
    let s := { host with host := { host.host with xfers := [y] } }
    let k := pkt [1, 0, 0, 0]
    passes s { code := 0x0032, perm := .service, lenOk := true, deferred := true } k (session 5) && y.whole && run (.progEnd k) s fun t =>
      t.prog.pendState = .verifying && t.prog.pendBytes = [4, 5] && t.prog.pending = none
  ),
  (
    let s := opened 5 (cycling (fun x => { x with pending := some (program 0x40), pendState := .ready }))
    let k := pkt [1, 0, 0, 0, 1, 0, 0, 0]
    passes s { code := 0x0033, perm := .service, lenOk := true, deferred := true } k (session 5) && !s.excluded && s.switchable 1 1 &&
      run (.progSwitch k) s fun t => t.prog.switchAt = some 100000 && t.prog.running = s.prog.running && t.host.exclusive = some (pendOf 0x0033 hdr)
  ),
  (
    let y : Xfer := ⟨.firmware, 1, 1, 2, [], [], 90000, false⟩
    let s := { host with host := { host.host with xfers := [y, { y with kind := .prog }] } }
    run (.transferAbandon 3) s fun t => t.host.xfers = [{ y with kind := .prog }]
  )
  ] : List Bool).all id = true := by decide +kernel

/-- Witnesses of O56; the results are those of 08_safety.md R286, 12_host_protocol.md R422, 14_boot_config_security.md R471. -/
theorem test_ModeRequestsAndRestarts : ([
  (
    let s (m : Mode) : State :=
      { opened 5 (member id) with hallA := { up.hallA with mode := m }, safety := { (member id).safety with sealRd := { (member id).safety.sealRd with ok := true }, zsSettle := 99999 } }
    let k := pkt [1, 0, 0, 0]
    let proposed (c : Instr) (old new : Mode) : Bool :=
      passes (s old) { code := 0x0070, perm := .read, lenOk := true, deferred := true } k (session 5) && !(s old).excluded &&
        (s old).modeRefusal new = none && run c (s old) fun t => t.hallA.prop = some (new, 100004) &&
          t.host.modeReq = some (pendOf 0x0070 hdr, new, 100004) && t.mode = old
    proposed (.modeRequestStandby k) .run .standby && proposed (.modeRequestRun k) .standby .run &&
      proposed (.modeRequestMaintenance k) .run .maintenance && proposed (.modeRequestUpdate k) .maintenance .update
  ),
  (
    let s := opened 5 { up with hallA := { up.hallA with mode := .standby }, sec := { up.sec with fwPending := 1 } }
    let k := pkt [1, 0, 0, 0]
    passes s { code := 0x0071, perm := .service, lenOk := true } k (session 5) && s.restartOpen && !s.excluded &&
      run (.restartHallA k) s (fun t => replied t 0x0071 0 0 [] && t.host.restart = some ⟨false, 100100, false⟩) &&
      run (.restartModule k) s (fun t => replied t 0x0071 0 0 [] && t.host.restart = some ⟨true, 100100, true⟩)
  )
  ] : List Bool).all id = true := by decide +kernel

/-- The spec of an opcode with a permission; its reply deferred. -/
def op (code : Nat) (perm : Perm) : OpSpec := { code := code, perm := perm, lenOk := true }
def opLate (code : Nat) (perm : Perm) : OpSpec := { code := code, perm := perm, lenOk := true, deferred := true }

/-- A module with sessions of an observer, keys in no slot but the third. -/
def guest : State := opened 0 { up with host := { up.host with keys := up.host.keys.set 2 (some ⟨List.replicate 32 1, 4⟩) } }

/-- A module whose gallery holds one trace. -/
def traced : State :=
  let r : Trace := { Trace.reset with seq := 7, samples := [⟨1, 0, 0, 0, 0, 0, 0, 0⟩] }
  { host with gallery := { host.gallery with traces := [r] } }

/-- Witnesses of O57; the results are those of 12_host_protocol.md R413, R416, R417, R419, R420, R434. -/
theorem test_SessionsOpenAndEnd : ([
  (
    let k : Pkt := ⟨{ hdr with session := 0 }, [0, 0, 0, 0] ++ List.replicate 16 3⟩
    up.linkUp true && up.freeSession true = some 1 && run (.hello k) up fun t => match t.session? 1 with
      | some x => x.role = 0 && !x.pending && x.nc = List.replicate 16 3 && x.high = 10
      | none => false
  ),
  (
    guest.keyFits 2 4 && !guest.lockedOut true && guest.freeSession true = some 2
  ),
  (
    let x : Session := { session 4 with pending := true, slot := 2 }
    let s := { guest with host := { guest.host with sessions := [x] } }
    let key := List.replicate 32 (1 : Byte)
    let k := pkt (x.proof key)
    passes s { code := 0x0001, perm := .read, pendingOk := true, lenOk := true } k x && k.payload.length = 16 &&
      s.host.keys.getD 2 none = some ⟨key, 4⟩
  ),
  (
    let s := { up with host := { up.host with lockouts := [some 100000, some 100000] } }
    run (.lockoutEnd false) s fun t => !t.lockedOut false && t.host.lockouts = [some 100000, none]
  ),
  (
    let s := { up with host := { up.host with sessions := [{ session 4 with pending := true, openTick := 90000 }] } }
    run (.authTimeout 1) s fun t => t.session? 1 = none && t.outs = s.outs
  ),
  (
    let s := { guest with host := { guest.host with holders := [⟨0, 1, .run⟩] } }
    passes s { code := 0x0002, perm := .read, pendingOk := true, lenOk := true } (pkt []) (session 0) && run (.close (pkt [])) s fun t =>
      t.session? 1 = none && t.host.holders = [] && t.outs.head? = some (.event Evt.hostSessionClosed.code noSource [1, 0]) &&
        t.outs.any (fun m => match m with | .reply r => r.seq = 10 && r.opcode = 2 && r.status = 0 && r.payload = [] | _ => false)
  ),
  (
    1000 * host.parN Par.hostlinkSessionTimeout 0 0 ≤ 100000 && run (.sessionTimeout 1) host fun t => t.session? 1 = none &&
      told host Evt.hostSessionClosed noSource [1, 1] t
  ),
  (
    run .usbDetach host fun t => t.host.sessions = []
  ),
  (
    let s := { up with host := { up.host with frags := [⟨5, 6, 99000, [], none⟩] } }
    run (.fragmentTimeout 5 6) s fun t => t.host.frags = []
  )
  ] : List Bool).all id = true := by decide +kernel

/-- Witnesses of O58; the results are those of 12_host_protocol.md R422, R426 to R429, 11_gallery.md R403. -/
theorem test_ReadsAndWritesAreAnswered : ([
  (
    passes guest (op 0x0003 .read) (pkt []) (session 0) && run (.keepalive (pkt [])) guest fun t =>
      replied t 0x0003 0 0 (leBytes 4 guest.mode.code ++ leBytes 4 guest.sysStatus.toNat)
  ),
  (
    passes guest { code := 0x0004, perm := .read, noSession := true, lenOk := true } (pkt []) (session 0) && run (.identify (pkt [])) guest fun t =>
      replied t 0x0004 0 0 guest.identity
  ),
  (
    let r := Par.senseUse
    let s := put guest r 159 0 1
    let k := oneRead hdr (r.pid 159 0)
    s.resolvePid (r.pid 159 0) = .inr (r, 159, 0) && passes s readSpec k (session 0) && run (.parRead k) s fun t =>
      replied t 0x0010 0 0 ([1, 0, 0, 0, 0, 2, 0, 0] ++ leBytes 4 ((s.afterChecks readSpec k).readPar r 159 0).toNat)
  ),
  (
    let r := Par.flightLeafClosedPos
    let v : Word := 5
    sound host && r.cls = 0x11 && r.acc = .rw && wrote (.parWrite (oneEntry hdr (r.pid 0 0) v)) host r 0 0 v fun t => t.par r 0 0 = v
  ),
  (
    let r := Par.portCmpPos
    let s := put guest r 23 63 9
    let k := pkt (leBytes 4 (r.pid 23 62) ++ [2, 0, 0, 0])
    s.resolvePid (r.pid 23 62) = .inr (r, 23, 62) && s.resolvePid (r.pid 23 63) = .inr (r, 23, 63) &&
      passes s { code := 0x0012, perm := .read, lenOk := true, hallOk := true, deferred := true } k (session 0) && run (.parReadArray k) s fun t =>
        replied t 0x0012 0 0 [1, 0, 2, 0, 0, 0, 0, 0, 9, 0, 0, 0]
  ),
  (
    let r := Par.senseUse
    let k := pkt (leBytes 4 (r.pid 159 0))
    passes guest (op 0x0013 .read) k (session 0) && run (.parInfo k) guest fun t => replied t 0x0013 0 0 (guest.infoBytes r (r.pid 159 0))
  ),
  (
    passes guest (op 0x0055 .read) (pkt []) (session 0) && run (.slotInfo (pkt [])) guest fun t => replied t 0x0055 0 0 (List.replicate 28 0)
  ),
  (
    let k := pkt ([1, 0, 1] ++ List.replicate 18 0 ++ [0xFF, 0, 0, 0xFF, 0xFF, 0, 0])
    passes guest (opLate 0x0040 .read) k (session 0) && !guest.galBusy && galReqOk k.payload
  ),
  (
    let rec' (n : Nat) : CycRec := { cycle with seq := word32 n }
    let s := { host with gallery := { host.gallery with archive := [rec' 5, rec' 6], cycSpill := [rec' 7], archSt := { host.gallery.archSt with nextSeq := 8 } } }
    let k := pkt ([0, 1, 2, 0, 7, 0, 0, 0] ++ List.replicate 13 0 ++ [0xFF, 0, 0, 0xFF, 0xFF, 0, 0])
    passes s (opLate 0x0040 .read) k (session 5) && galReqOk k.payload && run (.galRead k) s fun t =>
      match t.outs.head? with | some (.reply r) => r.status = 0 && r.payload.take 8 = [2, 0, 64, 0, 6, 0, 0, 0] && r.payload.length = 136 | _ => false
  ),
  (
    let k := pkt [7, 0, 0, 0, 0, 0, 0, 0, 0, 4, 0, 0]
    passes traced (opLate 0x0041 .read) k (session 5) && !traced.galBusy && run (.galTraceRead k) traced fun t =>
      match t.outs.head? with | some (.reply r) => r.status = 0 && r.payload.take 6 = [16, 0, 0, 0, 1, 0] | _ => false
  )
  ] : List Bool).all id = true := by decide +kernel

/-- Witnesses of O59; the results are those of 12_host_protocol.md R424, 14_boot_config_security.md R474, R475, R476. -/
theorem test_ImagesAreStagedAndActivated : ([
  (
    let k := pkt ([0, 0, 0, 0] ++ leBytes 4 1048576 ++ List.replicate 32 7)
    passes host (op 0x0050 .config) k (session 5) && stageKindOf 0 = some (.config, 1, 1048576) && host.stageOpen .config &&
      run (.stageBegin k) host fun t => replied t 0x0050 0 0 [1, 0, 0, 0x10] &&
        t.host.xfers = [⟨.config, 1, 1, 1048576, List.replicate 32 7, [], 100000, false⟩]
  ),
  (
    let y : Xfer := ⟨.key, 1, 1, 7912, [], [4, 5], 0, false⟩
    let s := { host with host := { host.host with xfers := [y] } }
    let k := pkt [1, 0, 0, 0, 2, 0, 0, 0, 6]
    passes s (op 0x0051 .config) k (session 5) && s.xferOf true 1 1 = some y && s.stageOpen y.kind && run (.stageData k) s fun t =>
      replied t 0x0051 0 0 [3, 0, 0, 0] && t.xferOf true 1 1 = some { y with data := [4, 5, 6], lastTick := 100000 }
  ),
  (
    let y : Xfer := ⟨.config, 1, 1, 2, sha256 [4, 5], [4, 5], 0, false⟩
    let s := { host with host := { host.host with xfers := [y] } }
    let k := pkt [1, 0, 0, 0]
    passes s (opLate 0x0052 .config) k (session 5) && y.whole && (match s.judgeImage y.data with
      | .inr (step, status, item) => run (.stageEnd k) s fun t => t.sec.staged = none && t.sec.lastStage = word32 (status + 256 * step) &&
          replied t 0x0052 status item []
      | .inl _ => false)
  ),
  (
    let s := { host with hallA := { host.hallA with mode := .standby }, sec := { host.sec with staged := some image, active := some { image with version := 9 } } }
    let k := pkt [1, 0, 0, 0]
    passes s (opLate 0x0053 .config) k (session 5) && !s.excluded && s.sealFits image && s.movingAxes = [] && run (.activate k) s fun t =>
      t.sec.active = some image && t.sec.previous = some { image with version := 9 } && t.sec.staged = none &&
        (t.sec.activating.bind (·.at')) = some 100004
  ),
  (
    let s := { host with hallA := { host.hallA with mode := .maintenance }, sec := { host.sec with previous := some image, active := some { image with version := 9 } } }
    let k := pkt [1, 0, 0, 0]
    passes s (opLate 0x0054 .config) k (session 5) && s.sealFits image && run (.rollback k) s fun t =>
      t.sec.active = some image && (t.sec.activating.bind (·.at')) = some 100004
  ),
  (
    let s := { host with hallA := { host.hallA with mode := .standby }, sec := { host.sec with staged := some image, stagedA := some { image with check := 1 } } }
    let k := pkt [1, 0, 0, 0]
    passes s (opLate 0x0053 .config) k (session 5) && !s.sec.shadowsAgree false && run (.activate k) s fun t =>
      t.sec = { s.sec with lastActivate := 0x30 } && replied t 0x0053 0x30 0 [] && told s Evt.configStageRefused noSource [0x30, 0] t
  ),
  (
    let s := { host with sec := { host.sec with active := some image, activating := some ⟨false, 9, 101000, some 100000⟩ } }
    run .activationTick s fun t => t.sec.activating = none && t.sec.activations = 1 && t.sec.active = some image && t.prog.override = none &&
      t.host.exclusive = none
  )
  ] : List Bool).all id = true := by decide +kernel

/-- Witnesses of O60; the results are those of 12_host_protocol.md R414, R421, R422, 14_boot_config_security.md R466, R488, R489,
R490. -/
theorem test_AttestationKeysAndRejectedPackets : ([
  (
    let k := pkt (List.replicate 32 1)
    passes guest (opLate 0x0060 .read) k (session 0) && !isContinuation k.payload && run (.attestChallenge k) guest fun t =>
      t.sec.attesting = some ⟨guest.reportBody k.payload, pendOf 0x0060 hdr⟩
  ),
  (
    let s := { guest with sec := { guest.sec with attesting := some ⟨[], pendOf 0x0060 hdr⟩ } }
    (s.session? 1).isSome && s.sec.attesting.isSome
  ),
  (
    let s := { guest with sec := { guest.sec with report := some (1, List.replicate 8 3) } }
    let k := pkt (List.replicate 28 0 ++ [6, 0, 0, 0])
    passes s (op 0x0060 .read) k (session 0) && isContinuation k.payload && run (.attestContinuation k) s fun t =>
      replied t 0x0060 0 0 [8, 0, 0, 0, 6, 0, 0, 0, 2, 0, 0, 0, 3, 3]
  ),
  (
    let s := { guest with sec := { guest.sec with certificate := [1, 2, 3] } }
    let k := pkt [1, 0, 0, 0, 0, 0x10, 0, 0]
    passes s (op 0x0061 .read) k (session 0) && run (.certRead k) s fun t => replied t 0x0061 0 0 [3, 0, 0, 0, 2, 0, 0, 0, 2, 3]
  ),
  (
    let s := opened 0 up
    let k := pkt ([0, 5, 0, 0] ++ List.replicate 32 1)
    passes s (op 0x0062 .read) k (session 0) && s.host.keys.all (· = none) && run (.hostKeySet k) s fun t =>
      t.host.keys = s.host.keys.set 0 (some ⟨List.replicate 32 1, 5⟩) && replied t 0x0062 0 0 []
  ),
  (
    let s := { guest with host := { guest.host with sessions := [session 5, { session 4 with num := 2, slot := 2 }] } }
    let k := pkt [2, 0, 0, 0]
    passes s (op 0x0063 .config) k (session 5) && run (.hostKeyRevoke k) s fun t => t.host.keys.all (· = none) && t.host.sessions.length = 1 &&
      t.outs.contains (.event Evt.hostKeyRevoked.code noSource [2])
  ),
  (
    passes guest (opLate 0x0072 .read) (pkt []) (session 0) && run (.calCheck (pkt [])) guest fun t =>
      replied t 0x0072 0 0 ([7, 0, 0, 0] ++ guest.sec.calDigest)
  ),
  (
    rawPacket true [9, 1] = none && rawDiscarded [1] && run (.hostPacketRejected true 0 [9, 1]) up (fun t => t.host.rxDiscards = 1) && run (.hostPacketRejected true 0 [1]) up fun t => t = { up with host := { up.host with rxDiscards := 1 } }
  ),
  (
    let raw : Bytes := [0x56, 0x4C, 1, 0, 1, 0, 0, 0, 3, 0, 0xFF, 0, 0, 0, 0, 0, 0, 0, 0, 0, 0, 0, 0, 0]
    !rawDiscarded raw && (rawPkt true 0 raw).hdr.addr = 0xFF && rawStatus raw = some stBadCrc && rawPacket true (cobs [] raw) = some raw && run (.hostPacketRejected true 0 (cobs [] raw)) up fun t =>
      match t.outs.head? with | some (.reply r) => r.status = BitVec.ofNat 8 stBadCrc && r.payload = [] | _ => false
  )
  ] : List Bool).all id = true := by decide +kernel

/-- A DS-4800 without a ring (00 R2). -/
def small : State := { up with sec := { up.sec with units := up.sec.units &&& ~~~6 } }

/-- Witnesses of O1; the results are those of 00_scope.md. -/
theorem test_StepRunsTheFrontCommand : ([
  (
    (match step { up with pending := [.groundLoss, .groundReturn] } with
      | .next t => t.supply.groundLost && t.pending = [.groundReturn]
      | _ => false) && State.reset.pending = []
  )
  ] : List Bool).all id = true := by decide +kernel

/-- Witnesses of O2; the results are those of 00_scope.md, 01_architecture.md. -/
theorem test_ResetIsSound : ([
  (
    sound State.reset && State.reset.pending = []
  )
  ] : List Bool).all id = true := by decide +kernel

/-- Witnesses of O3; the results are those of 00_scope.md R1, 01_architecture.md R21, R26, 11_gallery.md R392. -/
theorem test_StepKeepsSound : ([
  (
    let s := { up with pending := [.supplyUv], supply := { up.supply with vin8 := [5] } }
    sound s && (match step s with | .next t => sound t && t ≠ s | _ => false)
  )
  ] : List Bool).all id = true := by decide +kernel

/-- Witnesses of O4; the results are those of 14_boot_config_security.md R482, R483, R484. -/
theorem test_SecurityNeverLoosens : ([
  (
    let s := { up with pending := [.bootComplete []] }
    match step s with | .next _ => true | _ => false
  )
  ] : List Bool).all id = true := by decide +kernel

/-- Witnesses of O5; the results are those of 12_host_protocol.md, 01_architecture.md. -/
theorem test_NothingSentIsWithdrawn : ([
  (
    run .groundLoss up fun t => up.outs.isSuffixOf t.outs
  )
  ] : List Bool).all id = true := by decide +kernel

/-- Witnesses of O6; the results are those of 00_scope.md R1, R8. -/
theorem test_CommandsAnswer : ([
  (
    Instr.unitPresent up (.treadIlim 95) && run (.treadIlim 95) up (fun _ => true) && !Instr.unitPresent small (.treadIlim 48) &&
      (match exec (.treadIlim 48) small with | .fault e => e = .noSuchUnit | _ => false)
  )
  ] : List Bool).all id = true := by decide +kernel

/-- Witnesses of O7; the results are those of 02_connectors_supply.md, 03_treads.md, 04_inputs_ports.md. -/
theorem test_SupplyTreadAndInputFrames : ([
  (
    (supplyParts (.treadIlim 95)).isSome && run (.treadIlim 95) up (fun t => t.axes = up.axes) && (inputParts (.cleaningPulse 13)).isSome &&
      run (.cleaningPulse 13) up (fun t => t.axes = up.axes)
  )
  ] : List Bool).all id = true := by decide +kernel

/-- Witnesses of O8; the results are those of 05_motion.md, 06_doorway.md, 07_obstacle.md, 08_safety.md, 01_architecture.md,
14_boot_config_security.md. -/
theorem test_MotionDoorwayAndHallFrames : ([
  (
    (motionParts (.axisHoldTimeout 35)).isSome && run (.axisHoldTimeout 35) up (fun t => t.treads = up.treads) &&
      (hallParts (.resetStuckClear)).isSome && run .resetStuckClear up (fun t => t.axes = up.axes)
  )
  ] : List Bool).all id = true := by decide +kernel

/-- Witnesses of O9; the results are those of 09_safe_frames_train.md, 10_program.md, 11_gallery.md, 12_host_protocol.md, 13_ring.md,
14_boot_config_security.md. -/
theorem test_NetworkProgramGalleryAndHostFrames : ([
  (
    (networkParts .eventIntake).isSome && run .eventIntake up (fun t => t.treads = up.treads) && (hostParts .usbDetach).isSome &&
      run .usbDetach up (fun t => t.treads = up.treads)
  )
  ] : List Bool).all id = true := by decide +kernel

/-- Witnesses of O10; the results are those of 03_treads.md, 04_inputs_ports.md, 05_motion.md, 07_obstacle.md,
09_safe_frames_train.md. -/
theorem test_FramesCoverEveryCommandAndUnit : ([
  (
    Instr.oneTread (.treadIlim 95) = some 95 && run (.treadIlim 95) up (fun t => t.tread 94 = up.tread 94) && Instr.oneLine (.senseLoopFault 3) = some 3 &&
      Instr.onePort (.portStandstill 23) = some 23 && Instr.oneAxis (.axisHoldTimeout 35) = some 35 &&
      Instr.oneConn (.safelinkExpired 7) = some 7
  )
  ] : List Bool).all id = true := by decide +kernel

/-- Witnesses of O11; the results are those of R6. -/
theorem test_AbsentInstancesAnswerNotPresent : ([
  (
    let p := Par.treadClear.pid 48 0
    small.resolvePid p = .inl 0x16 && small.readEntry 0 p = ((0x16, 0, 0), small) && small.judgeEntry small 5 (p, 1) = 0x16 &&
      small.progParWrite p 1 = (0x16, small) && small.ds9600 = false && small.hasRing = false && rowOfPid p = some Par.treadClear
  ),
  (
    let no (r : ParRow) (i : Nat) : Bool := rowOfPid (r.pid i 0) = some r && small.resolvePid (r.pid i 0) = .inl 0x16
    no Par.treadClear 95 && no Par.flightStopClear 6 && no Par.storeyReclose 2 && no Par.senseUse 72 && no Par.senseUse 143 && no Par.portCount 12 &&
      no Par.axisDecel 18 && no Par.obstacleTempIn 6 && no Par.ringReform 0
  ),
  (
    [144, 159].all (fun i => rowOfPid (Par.senseUse.pid i 0) = some Par.senseUse &&
      small.resolvePid (Par.senseUse.pid i 0) = .inr (Par.senseUse, i, 0))
  )
  ] : List Bool).all id = true := by decide +kernel

/-- Witnesses of O12; the results are those of R10. -/
theorem test_RefusedImagesLeaveStagedEmpty : ([
  (
    let y : Xfer := ⟨.config, 1, 1, 2, sha256 [4, 5], [4, 5], 0, false⟩
    let s := { host with host := { host.host with xfers := [y] }, sec := { host.sec with staged := some image, active := some image } }
    let k := pkt [1, 0, 0, 0]
    passes s (opLate 0x0052 .config) k (session 5) && y.whole &&
      (match ((s.afterChecks (opLate 0x0052 .config) k).endXfer .config).judgeImage y.data with | .inr _ => true | .inl _ => false) &&
      run (.stageEnd k) s fun t => t.sec.staged = none && t.sec.active = some image && t.sec.previous = none
  )
  ] : List Bool).all id = true := by decide +kernel

/-- Witnesses of O13; the results are those of 12_host_protocol.md R426, R427. -/
theorem test_ParameterWritesAreAllOrNothing : ([
  (
    let e (r : ParRow) (i : Nat) (v : Word) : Bytes := leBytes 4 (r.pid i 0) ++ leBytes 4 v.toNat
    let k := pkt ([2, 0, 0, 0] ++ e Par.flightWarnMs 3 5 ++ e Par.flightWarnMs 3 10001)
    let u := host.afterChecks writeSpec k
    let es := writeEntries k.payload
    passes host writeSpec k (session 5) && es.map (u.judgeEntry (u.withValues es) 5) = [0, stRange] && run (.parWrite k) host fun t =>
      replied t 0x0011 stRange (Par.flightWarnMs.pid 3 0) (writeReply 1) && t.params = host.params
  ),
  (
    let e (r : ParRow) (i : Nat) (v : Word) : Bytes := leBytes 4 (r.pid i 0) ++ leBytes 4 v.toNat
    let k := pkt ([2, 0, 0, 0] ++ e Par.flightWarnMs 3 5 ++ e Par.flightWarnMs 4 10000)
    let u := host.afterChecks writeSpec k
    let es := writeEntries k.payload
    passes host writeSpec k (session 5) && es.map (u.judgeEntry (u.withValues es) 5) = [0, 0] && run (.parWrite k) host fun t =>
      t.par Par.flightWarnMs 3 0 = 5 && t.par Par.flightWarnMs 4 0 = 10000
  )
  ] : List Bool).all id = true := by decide +kernel

end Sys2Proof.Tests
end

section
/-! PROOFS of the family of 00_scope.md: what every command answers and keeps (O3, O6), absent units (O11), refused images (O12), and the
edges and indices of a position port (O22). -/

namespace Sys2Proof.Machine

/-! ### Every step keeps a sound state sound -/

/-- The mask of every field of the state but the queue of waiting commands. -/
def allButQueue : Nat := 137438953470

/-- No command touches the queue; each keeps a sound state sound, loosens no security state and takes back nothing sent. -/
theorem exec_reach (c : Instr) (s : State) : Within allButQueue s (exec c s) :=
  match c with
  | .safetyTick .. => execSafetyTick_reach (.of_or rfl) (.refl _ _)
  | .budgetStop .. => execBudgetStop_reach (.of_or rfl) (.refl _ _)
  | .hallSupplyFault .. => execHallSupplyFault_reach (.of_or rfl) (.refl _ _)
  | .hallClockFault .. => execHallClockFault_reach (.of_or rfl) (.refl _ _)
  | .ownClockFault => execOwnClockFault_reach (.of_or rfl) (.refl _ _)
  | .pllLockLoss .. => execPllLockLoss_reach (.of_or rfl) (.refl _ _)
  | .eccUncorrectable .. => execEccUncorrectable_reach (.of_or rfl) (.refl _ _)
  | .sramScrub .. => execSramScrub_reach (.of_or rfl) (.refl _ _)
  | .hallBReturn => execHallBReturn_reach (.of_or rfl) (.refl _ _)
  | .hallResetAssert .. => execHallResetAssert_reach (.of_or rfl) (.refl _ _)
  | .heartbeatLoss .. => execHeartbeatLoss_reach (.of_or rfl) (.refl _ _)
  | .flightEnableLow .. => execFlightEnableLow_reach (.of_or rfl) (.refl _ _)
  | .limpHomeTakeover .. => execLimpHomeTakeover_reach (.of_or rfl) (.refl _ _)
  | .limpHomeHandback => execLimpHomeHandback_reach (.of_or rfl) (.refl _ _)
  | .storeyBreaker .. => execStoreyBreaker_reach (.of_or rfl) (.refl _ _)
  | .flightPresenceOpen .. => execFlightPresenceOpen_reach (.of_or rfl) (.refl _ _)
  | .flightPresenceClosed .. => execFlightPresenceClosed_reach (.of_or rfl) (.refl _ _)
  | .modulePresenceOpen => execModulePresenceOpen_reach (.of_or rfl) (.refl _ _)
  | .modulePresenceClosed => execModulePresenceClosed_reach (.of_or rfl) (.refl _ _)
  | .precharge .. => execPrecharge_reach (.of_or rfl) (.refl _ _)
  | .prechargeTimeout => execPrechargeTimeout_reach (.of_or rfl) (.refl _ _)
  | .supplyUv => execSupplyUv_reach (.of_or rfl) (.refl _ _)
  | .supplyUvRestart => execSupplyUvRestart_reach (.of_or rfl) (.refl _ _)
  | .uvClear .. => execUvClear_reach (.of_or rfl) (.refl _ _)
  | .supplyOv => execSupplyOv_reach (.of_or rfl) (.refl _ _)
  | .supplyOvRelease => execSupplyOvRelease_reach (.of_or rfl) (.refl _ _)
  | .supplyInterrupt => execSupplyInterrupt_reach (.of_or rfl) (.refl _ _)
  | .supplyLoss => execSupplyLoss_reach (.of_or rfl) (.refl _ _)
  | .groundLoss => execGroundLoss_reach (.of_or rfl) (.refl _ _)
  | .lhPinChange .. => execLhPinChange_reach (.of_or rfl) (.refl _ _)
  | .treadIlim .. => execTreadIlim_reach (.of_or rfl) (.refl _ _)
  | .treadPeakClamp .. => execTreadPeakClamp_reach (.of_or rfl) (.refl _ _)
  | .treadThermal .. => execTreadThermal_reach (.of_or rfl) (.refl _ _)
  | .treadWireTrip .. => execTreadWireTrip_reach (.of_or rfl) (.refl _ _)
  | .treadRearm .. => execTreadRearm_reach (.of_or rfl) (.refl _ _)
  | .treadRetry .. => execTreadRetry_reach (.of_or rfl) (.refl _ _)
  | .retryCountReset .. => execRetryCountReset_reach (.of_or rfl) (.refl _ _)
  | .treadClear .. => execTreadClear_reach (.of_or rfl) (.refl _ _)
  | .treadOpenLoad .. => execTreadOpenLoad_reach (.of_or rfl) (.refl _ _)
  | .storeyReclose .. => execStoreyReclose_reach (.of_or rfl) (.refl _ _)
  | .storeyStopClear .. => execStoreyStopClear_reach (.of_or rfl) (.refl _ _)
  | .flightStopClear .. => execFlightStopClear_reach (.of_or rfl) (.refl _ _)
  | .sysStopClear .. => execSysStopClear_reach (.of_or rfl) (.refl _ _)
  | .debouncedChange .. => execDebouncedChange_reach (.of_or rfl) (.refl _ _)
  | .cleaningPulse .. => execCleaningPulse_reach (.of_or rfl) (.refl _ _)
  | .cleaningPulseEnd .. => execCleaningPulseEnd_reach (.of_or rfl) (.refl _ _)
  | .senseTrackFence .. => execSenseTrackFence_reach (.of_or rfl) (.refl _ _)
  | .senseRxMismatch .. => execSenseRxMismatch_reach (.of_or rfl) (.refl _ _)
  | .senseRxMismatchClear .. => execSenseRxMismatchClear_reach (.of_or rfl) (.refl _ _)
  | .senseLoopFault .. => execSenseLoopFault_reach (.of_or rfl) (.refl _ _)
  | .senseOverRange .. => execSenseOverRange_reach (.of_or rfl) (.refl _ _)
  | .burdenReconnect .. => execBurdenReconnect_reach (.of_or rfl) (.refl _ _)
  | .reedInputChange .. => execReedInputChange_reach (.of_or rfl) (.refl _ _)
  | .portEdge .. => execPortEdge_reach (.of_or rfl) (.refl _ _)
  | .auxPulseEnd .. => execAuxPulseEnd_reach (.of_or rfl) (.refl _ _)
  | .echoEdgeOut .. => execEchoEdgeOut_reach (.of_or rfl) (.refl _ _)
  | .portStandstill .. => execPortStandstill_reach (.of_or rfl) (.refl _ _)
  | .portLineFault .. => execPortLineFault_reach (.of_or rfl) (.refl _ _)
  | .portHallInvalid .. => execPortHallInvalid_reach (.of_or rfl) (.refl _ _)
  | .ssiFrame .. => execSsiFrame_reach (.of_or rfl) (.refl _ _)
  | .indexEvent .. => execIndexEvent_reach (.of_or rfl) (.refl _ _)
  | .portRxMismatch .. => execPortRxMismatch_reach (.of_or rfl) (.refl _ _)
  | .portSupplyFault .. => execPortSupplyFault_reach (.of_or rfl) (.refl _ _)
  | .supplyClear .. => execSupplyClear_reach (.of_or rfl) (.refl _ _)
  | .portCountWrite .. => execPortCountWrite_reach (.of_or rfl) (.refl _ _)
  | .portCountRead .. => execPortCountRead_reach (.of_or rfl) (.refl _ _)
  | .cmpArm .. => execCmpArm_reach (.of_or rfl) (.refl _ _)
  | .cmpDisarm .. => execCmpDisarm_reach (.of_or rfl) (.refl _ _)
  | .cmpHitClr .. => execCmpHitClr_reach (.of_or rfl) (.refl _ _)
  | .motionSample .. => execMotionSample_reach (.of_or rfl) (.refl _ _)
  | .moveAbs .. => execMoveAbs_reach (.of_or rfl) (.refl _ _)
  | .moveRel .. => execMoveRel_reach (.of_or rfl) (.refl _ _)
  | .moveVel .. => execMoveVel_reach (.of_or rfl) (.refl _ _)
  | .stop .. => execStop_reach (.of_or rfl) (.refl _ _)
  | .quickStop .. => execQuickStop_reach (.of_or rfl) (.refl _ _)
  | .release .. => execRelease_reach (.of_or rfl) (.refl _ _)
  | .gearEngage .. => execGearEngage_reach (.of_or rfl) (.refl _ _)
  | .gearDisengage .. => execGearDisengage_reach (.of_or rfl) (.refl _ _)
  | .energize .. => execEnergize_reach (.of_or rfl) (.refl _ _)
  | .deenergize .. => execDeenergize_reach (.of_or rfl) (.refl _ _)
  | .commLearn .. => execCommLearn_reach (.of_or rfl) (.refl _ _)
  | .axisDeviation .. => execAxisDeviation_reach (.of_or rfl) (.refl _ _)
  | .axisOverspeed .. => execAxisOverspeed_reach (.of_or rfl) (.refl _ _)
  | .axisDecelWrite .. => execAxisDecelWrite_reach (.of_or rfl) (.refl _ _)
  | .axisPosSet .. => execAxisPosSet_reach (.of_or rfl) (.refl _ _)
  | .axisHoldTimeout .. => execAxisHoldTimeout_reach (.of_or rfl) (.refl _ _)
  | .alignComplete .. => execAlignComplete_reach (.of_or rfl) (.refl _ _)
  | .externalStep .. => execExternalStep_reach (.of_or rfl) (.refl _ _)
  | .stepperHoldCurrent .. => execStepperHoldCurrent_reach (.of_or rfl) (.refl _ _)
  | .solenoidPullEnd .. => execSolenoidPullEnd_reach (.of_or rfl) (.refl _ _)
  | .gearMasterLost .. => execGearMasterLost_reach (.of_or rfl) (.refl _ _)
  | .programCycleStart => execProgramCycleStart_reach (.of_or rfl) (.refl _ _)
  | .programCycleComplete .. => execProgramCycleComplete_reach (.of_or rfl) (.refl _ _)
  | .programStop .. => execProgramStop_reach (.of_or rfl) (.refl _ _)
  | .programRestart .. => execProgramRestart_reach (.of_or rfl) (.refl _ _)
  | .forceSet .. => execForceSet_reach (.of_or rfl) (.refl _ _)
  | .forceClear .. => execForceClear_reach (.of_or rfl) (.refl _ _)
  | .forceClearAll .. => execForceClearAll_reach (.of_or rfl) (.refl _ _)
  | .progBegin .. => execProgBegin_reach (.of_or rfl) (.refl _ _)
  | .progData .. => execProgData_reach (.of_or rfl) (.refl _ _)
  | .progEnd .. => execProgEnd_reach (.of_or rfl) (.refl _ _)
  | .programVerified => execProgramVerified_reach (.of_or rfl) (.refl _ _)
  | .progSwitch .. => execProgSwitch_reach (.of_or rfl) (.refl _ _)
  | .switchAbandoned => execSwitchAbandoned_reach (.of_or rfl) (.refl _ _)
  | .rpdoReceive .. => execRpdoReceive_reach (.of_or rfl) (.refl _ _)
  | .canHeartbeat .. => execCanHeartbeat_reach (.of_or rfl) (.refl _ _)
  | .canNodeLost .. => execCanNodeLost_reach (.of_or rfl) (.refl _ _)
  | .canEmcy .. => execCanEmcy_reach (.of_or rfl) (.refl _ _)
  | .canErrorPassive .. => execCanErrorPassive_reach (.of_or rfl) (.refl _ _)
  | .canBusOff .. => execCanBusOff_reach (.of_or rfl) (.refl _ _)
  | .canBusRecovered .. => execCanBusRecovered_reach (.of_or rfl) (.refl _ _)
  | .doorOpen .. => execDoorOpen_reach (.of_or rfl) (.refl _ _)
  | .doorClose .. => execDoorClose_reach (.of_or rfl) (.refl _ _)
  | .doorStop .. => execDoorStop_reach (.of_or rfl) (.refl _ _)
  | .isolate .. => execIsolate_reach (.of_or rfl) (.refl _ _)
  | .deisolate .. => execDeisolate_reach (.of_or rfl) (.refl _ _)
  | .doorReference .. => execDoorReference_reach (.of_or rfl) (.refl _ _)
  | .resetFault .. => execResetFault_reach (.of_or rfl) (.refl _ _)
  | .egress .. => execEgress_reach (.of_or rfl) (.refl _ _)
  | .warnTimeout .. => execWarnTimeout_reach (.of_or rfl) (.refl _ _)
  | .lockNoRelease .. => execLockNoRelease_reach (.of_or rfl) (.refl _ _)
  | .lockNotEngaged .. => execLockNotEngaged_reach (.of_or rfl) (.refl _ _)
  | .closedNotConfirmed .. => execClosedNotConfirmed_reach (.of_or rfl) (.refl _ _)
  | .stepConfirmTimeout .. => execStepConfirmTimeout_reach (.of_or rfl) (.refl _ _)
  | .extend .. => execExtend_reach (.of_or rfl) (.refl _ _)
  | .retract .. => execRetract_reach (.of_or rfl) (.refl _ _)
  | .stepStop .. => execStepStop_reach (.of_or rfl) (.refl _ _)
  | .stepReference .. => execStepReference_reach (.of_or rfl) (.refl _ _)
  | .stepReset .. => execStepReset_reach (.of_or rfl) (.refl _ _)
  | .lockRelease .. => execLockRelease_reach (.of_or rfl) (.refl _ _)
  | .engage .. => execEngage_reach (.of_or rfl) (.refl _ _)
  | .lockReset .. => execLockReset_reach (.of_or rfl) (.refl _ _)
  | .referenceStart .. => execReferenceStart_reach (.of_or rfl) (.refl _ _)
  | .hardstopFound .. => execHardstopFound_reach (.of_or rfl) (.refl _ _)
  | .hardstopReleaseEnd .. => execHardstopReleaseEnd_reach (.of_or rfl) (.refl _ _)
  | .obstacleDetected .. => execObstacleDetected_reach (.of_or rfl) (.refl _ _)
  | .reversalStart .. => execReversalStart_reach (.of_or rfl) (.refl _ _)
  | .recloseAttempt .. => execRecloseAttempt_reach (.of_or rfl) (.refl _ _)
  | .startMarginEnd .. => execStartMarginEnd_reach (.of_or rfl) (.refl _ _)
  | .learnUpdate .. => execLearnUpdate_reach (.of_or rfl) (.refl _ _)
  | .learnConfirmTimeout .. => execLearnConfirmTimeout_reach (.of_or rfl) (.refl _ _)
  | .obstacleCommission .. => execObstacleCommission_reach (.of_or rfl) (.refl _ _)
  | .commissionAbort .. => execCommissionAbort_reach (.of_or rfl) (.refl _ _)
  | .mapRestore .. => execMapRestore_reach (.of_or rfl) (.refl _ _)
  | .tempInWrite .. => execTempInWrite_reach (.of_or rfl) (.refl _ _)
  | .tempInTimeout .. => execTempInTimeout_reach (.of_or rfl) (.refl _ _)
  | .discrepancy .. => execDiscrepancy_reach (.of_or rfl) (.refl _ _)
  | .discrepancyCleared .. => execDiscrepancyCleared_reach (.of_or rfl) (.refl _ _)
  | .dclConduct .. => execDclConduct_reach (.of_or rfl) (.refl _ _)
  | .dclOfflineTest .. => execDclOfflineTest_reach (.of_or rfl) (.refl _ _)
  | .dclTestPulse .. => execDclTestPulse_reach (.of_or rfl) (.refl _ _)
  | .dclInhibit => execDclInhibit_reach (.of_or rfl) (.refl _ _)
  | .permissionGrant .. => execPermissionGrant_reach (.of_or rfl) (.refl _ _)
  | .resetEdge => execResetEdge_reach (.of_or rfl) (.refl _ _)
  | .resetHeld => execResetHeld_reach (.of_or rfl) (.refl _ _)
  | .resetStuckClear => execResetStuckClear_reach (.of_or rfl) (.refl _ _)
  | .safetyResetReq .. => execSafetyResetReq_reach (.of_or rfl) (.refl _ _)
  | .wordMismatchLimit .. => execWordMismatchLimit_reach (.of_or rfl) (.refl _ _)
  | .modeTransition => execModeTransition_reach (.of_or rfl) (.refl _ _)
  | .sealRead .. => execSealRead_reach (.of_or rfl) (.refl _ _)
  | .vsfSend .. => execVsfSend_reach (.of_or rfl) (.refl _ _)
  | .vsfFrameReceive .. => execVsfFrameReceive_reach (.of_or rfl) (.refl _ _)
  | .safelinkSilenceTimeout .. => execSafelinkSilenceTimeout_reach (.of_or rfl) (.refl _ _)
  | .safelinkExpired .. => execSafelinkExpired_reach (.of_or rfl) (.refl _ _)
  | .trdpPdReceive .. => execTrdpPdReceive_reach (.of_or rfl) (.refl _ _)
  | .trdpSubTimeout .. => execTrdpSubTimeout_reach (.of_or rfl) (.refl _ _)
  | .eventIntake => execEventIntake_reach (.of_or rfl) (.refl _ _)
  | .recordWindowEnd => execRecordWindowEnd_reach (.of_or rfl) (.refl _ _)
  | .queueTake => execQueueTake_reach (.of_or rfl) (.refl _ _)
  | .eventsLost => execEventsLost_reach (.of_or rfl) (.refl _ _)
  | .pageProgram => execPageProgram_reach (.of_or rfl) (.refl _ _)
  | .compactionStep => execCompactionStep_reach (.of_or rfl) (.refl _ _)
  | .traceWrite .. => execTraceWrite_reach (.of_or rfl) (.refl _ _)
  | .counterPersist => execCounterPersist_reach (.of_or rfl) (.refl _ _)
  | .galleryFailed .. => execGalleryFailed_reach (.of_or rfl) (.refl _ _)
  | .indexRebuilt => execIndexRebuilt_reach (.of_or rfl) (.refl _ _)
  | .nandScrub .. => execNandScrub_reach (.of_or rfl) (.refl _ _)
  | .alcoveClear .. => execAlcoveClear_reach (.of_or rfl) (.refl _ _)
  | .optimeRead .. => execOptimeRead_reach (.of_or rfl) (.refl _ _)
  | .floodModeWrite .. => execFloodModeWrite_reach (.of_or rfl) (.refl _ _)
  | .hello .. => execHello_reach (.of_or rfl) (.refl _ _)
  | .auth .. => execAuth_reach (.of_or rfl) (.refl _ _)
  | .lockoutEnd .. => execLockoutEnd_reach (.of_or rfl) (.refl _ _)
  | .authTimeout .. => execAuthTimeout_reach (.of_or rfl) (.refl _ _)
  | .close .. => execClose_reach (.of_or rfl) (.refl _ _)
  | .sessionTimeout .. => execSessionTimeout_reach (.of_or rfl) (.refl _ _)
  | .usbDetach => execUsbDetach_reach (.of_or rfl) (.refl _ _)
  | .fragmentTimeout .. => execFragmentTimeout_reach (.of_or rfl) (.refl _ _)
  | .keepalive .. => execKeepalive_reach (.of_or rfl) (.refl _ _)
  | .identify .. => execIdentify_reach (.of_or rfl) (.refl _ _)
  | .parRead .. => execParRead_reach (.of_or rfl) (.refl _ _)
  | .parWrite .. => execParWrite_reach (.of_or rfl) (.refl _ _)
  | .parReadArray .. => execParReadArray_reach (.of_or rfl) (.refl _ _)
  | .parInfo .. => execParInfo_reach (.of_or rfl) (.refl _ _)
  | .galRead .. => execGalRead_reach (.of_or rfl) (.refl _ _)
  | .galTraceRead .. => execGalTraceRead_reach (.of_or rfl) (.refl _ _)
  | .stageBegin .. => execStageBegin_reach (.of_or rfl) (.refl _ _)
  | .stageData .. => execStageData_reach (.of_or rfl) (.refl _ _)
  | .stageEnd .. => execStageEnd_reach (.of_or rfl) (.refl _ _)
  | .transferAbandon .. => execTransferAbandon_reach (.of_or rfl) (.refl _ _)
  | .activate .. => execActivate_reach (.of_or rfl) (.refl _ _)
  | .rollback .. => execRollback_reach (.of_or rfl) (.refl _ _)
  | .activationTick => execActivationTick_reach (.of_or rfl) (.refl _ _)
  | .slotInfo .. => execSlotInfo_reach (.of_or rfl) (.refl _ _)
  | .attestChallenge .. => execAttestChallenge_reach (.of_or rfl) (.refl _ _)
  | .attestSigned => execAttestSigned_reach (.of_or rfl) (.refl _ _)
  | .attestContinuation .. => execAttestContinuation_reach (.of_or rfl) (.refl _ _)
  | .certRead .. => execCertRead_reach (.of_or rfl) (.refl _ _)
  | .hostKeySet .. => execHostKeySet_reach (.of_or rfl) (.refl _ _)
  | .hostKeyRevoke .. => execHostKeyRevoke_reach (.of_or rfl) (.refl _ _)
  | .modeRequestStandby .. => execModeRequestStandby_reach (.of_or rfl) (.refl _ _)
  | .modeRequestRun .. => execModeRequestRun_reach (.of_or rfl) (.refl _ _)
  | .modeRequestMaintenance .. => execModeRequestMaintenance_reach (.of_or rfl) (.refl _ _)
  | .modeRequestUpdate .. => execModeRequestUpdate_reach (.of_or rfl) (.refl _ _)
  | .restartHallA .. => execRestartHallA_reach (.of_or rfl) (.refl _ _)
  | .restartModule .. => execRestartModule_reach (.of_or rfl) (.refl _ _)
  | .restartBegin => execRestartBegin_reach (.of_or rfl) (.refl _ _)
  | .calCheck .. => execCalCheck_reach (.of_or rfl) (.refl _ _)
  | .calTrimWrite .. => execCalTrimWrite_reach (.of_or rfl) (.refl _ _)
  | .calClearAll .. => execCalClearAll_reach (.of_or rfl) (.refl _ _)
  | .ringLinkUp .. => execRingLinkUp_reach (.of_or rfl) (.refl _ _)
  | .ringTrainingRetry .. => execRingTrainingRetry_reach (.of_or rfl) (.refl _ _)
  | .ringPortDown .. => execRingPortDown_reach (.of_or rfl) (.refl _ _)
  | .ringFormTrigger => execRingFormTrigger_reach (.of_or rfl) (.refl _ _)
  | .ringReform .. => execRingReform_reach (.of_or rfl) (.refl _ _)
  | .formWaitEnd .. => execFormWaitEnd_reach (.of_or rfl) (.refl _ _)
  | .ringFrame .. => execRingFrame_reach (.of_or rfl) (.refl _ _)
  | .ringLost .. => execRingLost_reach (.of_or rfl) (.refl _ _)
  | .boot .. => execBoot_reach (.of_or rfl) (.refl _ _)
  | .bootComplete .. => execBootComplete_reach (.of_or rfl) (.refl _ _)
  | .fwTrialTimeout => execFwTrialTimeout_reach (.of_or rfl) (.refl _ _)
  | .doorCmd .. => execDoorCmd_reach (.of_or rfl) (.refl _ _)
  | .hallAReturn => execHallAReturn_reach (.of_or rfl) (.refl _ _)
  | .engineWatchdog .. => execEngineWatchdog_reach (.of_or rfl) (.refl _ _)
  | .galleryFailedRepeat => execGalleryFailedRepeat_reach (.of_or rfl) (.refl _ _)
  | .hostPacketRejected .. => execHostPacketRejected_reach (.of_or rfl) (.refl _ _)
  | .ringSignalDetect .. => execRingSignalDetect_reach (.of_or rfl) (.refl _ _)
  | .switchFrameForward .. => execSwitchFrameForward_reach (.of_or rfl) (.refl _ _)
  | .arpIcmpRequest .. => execArpIcmpRequest_reach (.of_or rfl) (.refl _ _)
  | .groundReturn => execGroundReturn_reach (.of_or rfl) (.refl _ _)
  | .lPdLoss .. => execLPdLoss_reach (.of_or rfl) (.refl _ _)
  | .lPdRestored .. => execLPdRestored_reach (.of_or rfl) (.refl _ _)

/-- Settles O3: the command at the front of the queue keeps what `exec_reach` says, and an idle step changes nothing. -/
theorem stepKeepsSound : Obligations.StepKeepsSound := by
  unfold Obligations.StepKeepsSound
  intro s t sound answer
  unfold step at answer
  split at answer
  · cases answer
    exact sound
  · next c rest _ => exact (exec_reach c { s with pending := rest } t answer).sound { sound with }

/-! ### A command answers where its unit is fitted (00 R8) -/

/-- The answer of a command that concerns a unit: a next state where the unit is fitted, and the stop of log 5 where it is not. -/
def Answers (fitted : Bool) (o : Host.Outcome State Fault Refusal) : Prop :=
  (fitted = true → ∃ t, o = .next t) ∧ (fitted = false → o = .fault .noSuchUnit)

namespace Answers

variable {fitted : Bool} {o o' : Host.Outcome State Fault Refusal}

theorem next {t : State} : Answers true (.next t) := ⟨fun _ => ⟨t, rfl⟩, nofun⟩

theorem fault : Answers false (.fault .noSuchUnit) := ⟨nofun, fun _ => rfl⟩

theorem ite {c : Prop} [Decidable c] (h : Answers fitted o) (h' : Answers fitted o') : Answers fitted (if c then o else o') := by
  split
  · exact h
  · exact h'

/-- A stop for the absent unit, and an answer for the fitted one. -/
theorem absent {c : Prop} [Decidable c] (hc : c ↔ fitted = false) (h : Answers true o) :
    Answers fitted (if c then .fault .noSuchUnit else o) := by
  cases fitted
  · rw [if_pos (hc.2 rfl)]
    exact fault
  · rw [if_neg (fun e => nomatch hc.1 e)]
    exact h

theorem onUnit {t : State} : Answers fitted (onUnit fitted t) := by
  cases fitted
  · exact fault
  · exact next

theorem ringEvent {p : Nat} {s : State} {act : State → State} : Answers (s.hasRing && decide (p < 2)) (ringEvent p s act) := by
  unfold Machine.ringEvent
  cases s.hasRing && decide (p < 2)
  · exact fault
  · exact next

/-- A host packet is settled by its checks, or served. -/
theorem vet {a : Admit} {f : State → Host.Outcome State Fault Refusal}
    {g : State → Pend → Nat → Option Session → Host.Outcome State Fault Refusal}
    (hf : ∀ t, Answers fitted (f t)) (hg : ∀ t p r x, Answers fitted (g t p r x)) :
    Answers fitted (match (generalizing := false) a with | .settled t => f t | .served t p r x => g t p r x) := by
  cases a with
  | settled t => exact hf t
  | served t p r x => exact hg t p r x

end Answers

/-! #### Commands whose answer is a choice -/

theorem execBudgetStop_answers (lv : Nat) (s : State) : Answers (s.hasLevel lv) (execBudgetStop lv s) :=
  .absent (by simp) (.ite .next .next)

theorem execTraceWrite_answers (f : Nat) (s : State) : Answers (decide (f < s.nFlights)) (execTraceWrite f s) :=
  .absent (by simp) .next

theorem execRingFormTrigger_answers (s : State) : Answers s.hasRing (execRingFormTrigger s) := .absent (by simp) .next

theorem execFormWaitEnd_answers (r : FormIn) (s : State) : Answers s.hasRing (execFormWaitEnd r s) := .absent (by simp) .next

theorem execRingLost_answers (cause : Nat) (s : State) : Answers s.hasRing (execRingLost cause s) := .absent (by simp) .next

theorem execHallSupplyFault_answers (r : RailsIn) (s : State) : Answers true (execHallSupplyFault r s) := by
  unfold execHallSupplyFault
  cases r.hall <;> exact .ite .next .next

theorem execHallClockFault_answers (h : HallId) (s : State) : Answers true (execHallClockFault h s) := by
  cases h <;> exact .ite .next .next

theorem execPrechargeTimeout_answers (s : State) : Answers true (execPrechargeTimeout s) := by
  unfold execPrechargeTimeout
  split
  · exact .next
  · exact .ite .next .next

theorem execSupplyInterrupt_answers (s : State) : Answers true (execSupplyInterrupt s) := by
  unfold execSupplyInterrupt
  split
  · exact .next
  · exact .ite .next .next

theorem execProgramCycleStart_answers (s : State) : Answers true (execProgramCycleStart s) := by
  unfold execProgramCycleStart
  split <;> exact .next

theorem execProgramCycleComplete_answers (us : Nat) (s : State) : Answers true (execProgramCycleComplete us s) := by
  unfold execProgramCycleComplete
  split <;> exact .next

theorem execProgramVerified_answers (s : State) : Answers true (execProgramVerified s) := by
  unfold execProgramVerified
  refine .ite .next ?_
  dsimp only
  split <;> exact .next

theorem execSwitchAbandoned_answers (s : State) : Answers true (execSwitchAbandoned s) := by
  unfold execSwitchAbandoned
  split <;> exact .next

theorem execResetEdge_answers (s : State) : Answers true (execResetEdge s) := by
  unfold execResetEdge
  split
  · exact .next
  · exact .ite .next .next

theorem execResetHeld_answers (s : State) : Answers true (execResetHeld s) := by
  unfold execResetHeld
  dsimp only
  split
  · exact .next
  · refine .ite .next ?_
    split <;> exact .next

theorem execSealRead_answers (contacts : BitVec 48) (s : State) : Answers true (execSealRead contacts s) :=
  .ite .next (.ite .next (.ite .next (.ite .next .next)))

theorem execLockoutEnd_answers (sv : Bool) (s : State) : Answers true (execLockoutEnd sv s) := by
  unfold execLockoutEnd
  split <;> exact .next

theorem execAuthTimeout_answers (n : BitVec 16) (s : State) : Answers true (execAuthTimeout n s) := by
  unfold execAuthTimeout
  split
  · exact .next
  · exact .ite .next .next

theorem execSessionTimeout_answers (n : BitVec 16) (s : State) : Answers true (execSessionTimeout n s) := by
  unfold execSessionTimeout
  split <;> exact .next

theorem execActivationTick_answers (s : State) : Answers true (execActivationTick s) := by
  unfold execActivationTick
  split
  · split <;> exact .next
  · exact .next

theorem execAttestSigned_answers (s : State) : Answers true (execAttestSigned s) := by
  unfold execAttestSigned
  split
  · exact .next
  · exact .ite .next .next

theorem execRestartBegin_answers (s : State) : Answers true (execRestartBegin s) := by
  unfold execRestartBegin
  split
  · exact .next
  · exact .ite .next (.ite .next .next)

theorem execFwTrialTimeout_answers (s : State) : Answers true (execFwTrialTimeout s) := by
  unfold execFwTrialTimeout
  split <;> exact .next

/-! #### Host packets that are judged once more when they are served -/

theorem execAuth_answers (k : Pkt) (s : State) : Answers true (execAuth k s) := by
  unfold execAuth
  split <;> exact .next

theorem execParInfo_answers (k : Pkt) (s : State) : Answers true (execParInfo k s) := by
  refine .vet (fun _ => .next) fun s p _ _ => ?_
  dsimp only
  split <;> exact .next

theorem execProgEnd_answers (k : Pkt) (s : State) : Answers true (execProgEnd k s) := by
  refine .vet (fun _ => .next) fun s p _ _ => ?_
  split <;> exact .next

theorem execProgSwitch_answers (k : Pkt) (s : State) : Answers true (execProgSwitch k s) :=
  .vet (fun _ => .next) fun _ _ _ _ => .ite .next (.ite .next .next)

theorem execStageBegin_answers (k : Pkt) (s : State) : Answers true (execStageBegin k s) := by
  refine .vet (fun _ => .next) fun s p _ _ => ?_
  split <;> exact .next

theorem execStageData_answers (k : Pkt) (s : State) : Answers true (execStageData k s) := by
  refine .vet (fun _ => .next) fun s p _ _ => .ite .next ?_
  dsimp only
  split <;> exact .next

theorem execStageEnd_answers (k : Pkt) (s : State) : Answers true (execStageEnd k s) := by
  refine .vet (fun _ => .next) fun s p _ _ => .ite .next ?_
  split <;> exact .next

theorem execCertRead_answers (k : Pkt) (s : State) : Answers true (execCertRead k s) :=
  .vet (fun _ => .next) fun _ _ _ _ => .ite .next (.ite .next .next)

theorem execHostKeySet_answers (k : Pkt) (s : State) : Answers true (execHostKeySet k s) :=
  .vet (fun _ => .next) fun _ _ _ _ => .ite .next (.ite .next .next)

theorem execCalCheck_answers (k : Pkt) (s : State) : Answers true (execCalCheck k s) :=
  .vet (fun _ => .next) fun _ _ _ _ => .ite .next .next

theorem execHostPacketRejected_answers (sv : Bool) (src : BitVec 48) (frame : Bytes) (s : State) :
    Answers true (execHostPacketRejected sv src frame s) := by
  unfold execHostPacketRejected
  refine .ite .next ?_
  split
  · exact .next
  · refine .ite .next ?_
    split <;> exact .next

/-! #### Every command -/

/-- A command answers a next state exactly where the unit that it names is fitted: at once, through `onUnit`, by a choice between next
states, after a packet's checks, or as its own lemma says. -/
theorem exec_answers (c : Instr) (s : State) : Answers (Instr.unitPresent s c) (exec c s) :=
  match c with
  | .safetyTick .. | .pllLockLoss .. | .eccUncorrectable .. | .hallResetAssert .. | .precharge .. | .uvClear .. | .supplyLoss
  | .groundLoss | .treadClear .. | .storeyReclose .. | .storeyStopClear .. | .flightStopClear .. | .sysStopClear .. | .supplyClear ..
  | .portCountWrite .. | .portCountRead .. | .cmpArm .. | .cmpDisarm .. | .cmpHitClr .. | .motionSample .. | .moveAbs .. | .moveRel ..
  | .moveVel .. | .stop .. | .quickStop .. | .release .. | .gearEngage .. | .gearDisengage .. | .energize .. | .deenergize ..
  | .commLearn .. | .axisDecelWrite .. | .axisPosSet .. | .programStop .. | .programRestart .. | .forceClearAll ..
  | .obstacleCommission .. | .commissionAbort .. | .mapRestore .. | .tempInWrite .. | .dclInhibit | .resetStuckClear | .safetyResetReq ..
  | .wordMismatchLimit .. | .modeTransition | .eventIntake | .recordWindowEnd | .queueTake | .eventsLost | .pageProgram | .compactionStep
  | .counterPersist | .galleryFailed .. | .indexRebuilt | .nandScrub .. | .alcoveClear .. | .optimeRead .. | .floodModeWrite ..
  | .usbDetach | .fragmentTimeout .. | .parRead .. | .parWrite .. | .transferAbandon .. | .attestChallenge .. | .attestContinuation ..
  | .modeRequestStandby .. | .modeRequestRun .. | .modeRequestMaintenance .. | .modeRequestUpdate .. | .restartHallA ..
  | .restartModule .. | .calTrimWrite .. | .calClearAll .. | .ringReform .. | .engineWatchdog .. | .galleryFailedRepeat => .next
  | .heartbeatLoss .. | .flightEnableLow .. | .limpHomeTakeover .. | .storeyBreaker .. | .flightPresenceOpen .. | .flightPresenceClosed ..
  | .lhPinChange .. | .treadIlim .. | .treadPeakClamp .. | .treadThermal .. | .treadWireTrip .. | .treadRearm .. | .treadRetry ..
  | .retryCountReset .. | .treadOpenLoad .. | .debouncedChange .. | .cleaningPulse .. | .cleaningPulseEnd .. | .senseTrackFence ..
  | .senseRxMismatch .. | .senseRxMismatchClear .. | .senseLoopFault .. | .senseOverRange .. | .burdenReconnect .. | .reedInputChange ..
  | .portEdge .. | .auxPulseEnd .. | .echoEdgeOut .. | .portStandstill .. | .portLineFault .. | .portHallInvalid .. | .ssiFrame ..
  | .indexEvent .. | .portRxMismatch .. | .portSupplyFault .. | .axisDeviation .. | .axisOverspeed .. | .axisHoldTimeout ..
  | .alignComplete .. | .externalStep .. | .stepperHoldCurrent .. | .solenoidPullEnd .. | .gearMasterLost .. | .rpdoReceive ..
  | .canHeartbeat .. | .canNodeLost .. | .canEmcy .. | .canErrorPassive .. | .canBusOff .. | .canBusRecovered .. | .doorOpen ..
  | .doorClose .. | .doorStop .. | .isolate .. | .deisolate .. | .doorReference .. | .resetFault .. | .egress .. | .warnTimeout ..
  | .lockNoRelease .. | .lockNotEngaged .. | .closedNotConfirmed .. | .stepConfirmTimeout .. | .extend .. | .retract .. | .stepStop ..
  | .stepReference .. | .stepReset .. | .lockRelease .. | .engage .. | .lockReset .. | .referenceStart .. | .hardstopFound ..
  | .hardstopReleaseEnd .. | .obstacleDetected .. | .reversalStart .. | .recloseAttempt .. | .startMarginEnd .. | .learnUpdate ..
  | .learnConfirmTimeout .. | .tempInTimeout .. | .discrepancy .. | .discrepancyCleared .. | .dclConduct .. | .dclOfflineTest ..
  | .dclTestPulse .. | .permissionGrant .. | .vsfSend .. | .vsfFrameReceive .. | .safelinkSilenceTimeout .. | .safelinkExpired ..
  | .trdpSubTimeout .. | .switchFrameForward .. | .lPdLoss .. | .lPdRestored .. => .onUnit
  | .ownClockFault | .sramScrub .. | .hallBReturn | .modulePresenceOpen | .modulePresenceClosed | .supplyUv | .supplyUvRestart | .supplyOv
  | .supplyOvRelease | .groundReturn | .hallAReturn | .trdpPdReceive .. | .arpIcmpRequest .. => .ite .next .next
  | .limpHomeHandback | .boot .. | .bootComplete .. => .ite .next (.ite .next .next)
  | .forceSet .. | .forceClear .. | .progBegin .. | .progData .. | .hello .. | .close .. | .keepalive .. | .identify .. | .parReadArray ..
  | .galRead .. | .galTraceRead .. | .activate .. | .rollback .. | .slotInfo .. | .hostKeyRevoke .. | .doorCmd .. =>
    .vet (fun _ => .next) fun _ _ _ _ => .next
  | .ringLinkUp .. => show Answers _ (execRingLinkUp _ _ _ s) from .ringEvent
  | .ringTrainingRetry .. => show Answers _ (execRingTrainingRetry _ s) from .ringEvent
  | .ringPortDown .. => show Answers _ (execRingPortDown _ _ s) from .ringEvent
  | .ringFrame .. => show Answers _ (execRingFrame _ s) from .ringEvent
  | .ringSignalDetect .. => show Answers _ (execRingSignalDetect _ s) from .ringEvent
  | .budgetStop .. => execBudgetStop_answers _ s
  | .traceWrite .. => execTraceWrite_answers _ s
  | .ringFormTrigger => execRingFormTrigger_answers s
  | .formWaitEnd .. => execFormWaitEnd_answers _ s
  | .ringLost .. => execRingLost_answers _ s
  | .hallSupplyFault .. => execHallSupplyFault_answers _ s
  | .hallClockFault .. => execHallClockFault_answers _ s
  | .prechargeTimeout => execPrechargeTimeout_answers s
  | .supplyInterrupt => execSupplyInterrupt_answers s
  | .programCycleStart => execProgramCycleStart_answers s
  | .programCycleComplete .. => execProgramCycleComplete_answers _ s
  | .programVerified => execProgramVerified_answers s
  | .switchAbandoned => execSwitchAbandoned_answers s
  | .resetEdge => execResetEdge_answers s
  | .resetHeld => execResetHeld_answers s
  | .sealRead .. => execSealRead_answers _ s
  | .lockoutEnd .. => execLockoutEnd_answers _ s
  | .authTimeout .. => execAuthTimeout_answers _ s
  | .sessionTimeout .. => execSessionTimeout_answers _ s
  | .activationTick => execActivationTick_answers s
  | .attestSigned => execAttestSigned_answers s
  | .restartBegin => execRestartBegin_answers s
  | .fwTrialTimeout => execFwTrialTimeout_answers s
  | .auth .. => execAuth_answers _ s
  | .parInfo .. => execParInfo_answers _ s
  | .progEnd .. => execProgEnd_answers _ s
  | .progSwitch .. => execProgSwitch_answers _ s
  | .stageBegin .. => execStageBegin_answers _ s
  | .stageData .. => execStageData_answers _ s
  | .stageEnd .. => execStageEnd_answers _ s
  | .certRead .. => execCertRead_answers _ s
  | .hostKeySet .. => execHostKeySet_answers _ s
  | .calCheck .. => execCalCheck_answers _ s
  | .hostPacketRejected .. => execHostPacketRejected_answers _ _ _ s

/-- Settles O6: each command asks for its unit before it does anything, and then answers a next state. -/
theorem commandsAnswer : Obligations.CommandsAnswer := by
  unfold Obligations.CommandsAnswer
  exact exec_answers

/-! ### Parameters of absent units (00 R6) -/

section

variable {s : State} {pid : Nat} {r : ParRow}

theorem State.resolvePid_absent (row : rowOfPid pid = some r) (inst : pidInst pid < max 1 (classInstances r.cls))
    (absent : s.hasInst r.cls (pidInst pid) = false) : s.resolvePid pid = .inl stNotPresent := by
  unfold State.resolvePid
  simp only [row, if_neg (Nat.not_le.2 inst), absent]
  rfl

theorem State.resolvePid_present (row : rowOfPid pid = some r) (inst : pidInst pid < max 1 (classInstances r.cls))
    (fitted : s.hasInst r.cls (pidInst pid) = true) (elem : s.hasElem r (pidIdx pid - r.idx) = true) :
    s.resolvePid pid = .inr (r, pidInst pid, pidIdx pid - r.idx) := by
  unfold State.resolvePid
  simp only [row, if_neg (Nat.not_le.2 inst), fitted, elem]
  rfl

theorem State.readEntry_unresolved {st : Nat} (h : s.resolvePid pid = .inl st) (hall : Nat) : s.readEntry hall pid = ((st, 0, 0), s) := by
  unfold State.readEntry
  rw [h]

theorem State.judgeEntry_unresolved {st : Nat} (h : s.resolvePid pid = .inl st) (after : State) (role : Nat) (v : Word) :
    s.judgeEntry after role (pid, v) = st := by
  unfold State.judgeEntry
  rw [h]

theorem State.progParWrite_unresolved {st : Nat} (h : s.resolvePid pid = .inl st) (v : Word) : s.progParWrite pid v = (st, s) := by
  unfold State.progParWrite
  rw [h]

/-- Every element of a sense line's row exists: none stands for another unit (00 R7). -/
theorem State.hasElem_sense (h : r.cls = 0x18) (j : Nat) : s.hasElem r j = true := by
  have other {q : ParRow} (hq : q.cls ≠ 0x18) : r ≠ q := fun e => hq (e ▸ h)
  unfold State.hasElem
  simp [h, other (q := Par.safetyFlightSide) (by decide), other (q := Par.safetyMonDir) (by decide),
    other (q := Par.galleryFlightCycles) (by decide), other (q := Par.supplyLhSet) (by decide), other (q := Par.identDieRev) (by decide)]

/-- The instances that 00 R6 lists for a DS-4800 are absent from it. -/
theorem State.hasInst_ds4800 {cls i : Nat} (small : s.ds9600 = false) (noRing : s.hasRing = false)
    (h : cls = 0x10 ∧ 48 ≤ i ∧ i ≤ 95 ∨ cls = 0x11 ∧ 6 ≤ i ∧ i ≤ 11 ∨ cls = 0x12 ∧ 2 ≤ i ∧ i ≤ 3 ∨ cls = 0x18 ∧ 72 ≤ i ∧ i ≤ 143 ∨
      cls = 0x20 ∧ 12 ≤ i ∧ i ≤ 23 ∨ cls = 0x21 ∧ 18 ≤ i ∧ i ≤ 35 ∨ cls = 0x28 ∧ 6 ≤ i ∧ i ≤ 11 ∨ cls = 0x50 ∧ i = 0) :
    i < max 1 (classInstances cls) ∧ s.hasInst cls i = false := by
  rcases h with ⟨rfl, lo, hi⟩ | ⟨rfl, lo, hi⟩ | ⟨rfl, lo, hi⟩ | ⟨rfl, lo, hi⟩ | ⟨rfl, lo, hi⟩ | ⟨rfl, lo, hi⟩ | ⟨rfl, lo, hi⟩ | ⟨rfl, rfl⟩
  case inr.inr.inr.inl =>
    have line : i < 144 := by omega
    simp [classInstances, State.hasInst, State.hasLine, State.nFlights, small, line]
    omega
  all_goals simp [classInstances, State.hasInst, State.nTreads, State.nFlights, State.nStoreys, State.nPorts, State.nAxes, small, noRing]
  all_goals omega

end

/-- Settles O11: a PID that resolves to no parameter is answered with its status before anything else is looked at, and the listed
instances are those that the variant's counts leave out. -/
theorem absentInstancesAnswerNotPresent : Obligations.AbsentInstancesAnswerNotPresent := by
  unfold Obligations.AbsentInstancesAnswerNotPresent
  refine ⟨fun s pid h => ⟨s.readEntry_unresolved h, s.judgeEntry_unresolved h, s.progParWrite_unresolved h⟩, ?_, ?_⟩
  · intro s pid r small noRing row listed
    obtain ⟨inst, absent⟩ := State.hasInst_ds4800 small noRing listed
    exact State.resolvePid_absent row inst absent
  · intro s pid r row sense lo hi
    refine State.resolvePid_present row ?_ ?_ (State.hasElem_sense sense _)
    · rw [sense]
      exact Nat.lt_of_le_of_lt hi (by decide)
    · rw [sense]
      show s.hasLine (pidInst pid) = true
      simp [State.hasLine, Nat.not_lt.2 lo, Nat.lt_succ_iff.2 hi]

/-! ### STAGE_END of a configuration image (00 R10, 14 R474) -/

section

variable {s : State} {k : Pkt} {x : Session} {y : Xfer}

/-- What STAGE_END asks of a packet whose transfer may be staged (12 R422). -/
def stageEndSpec : OpSpec := { code := 0x0052, perm := .config, lenOk := true, deferred := true }

/-- Answering a request changes neither the slots nor anything sent before. -/
theorem State.stageDone_slots {p : Pend} {status step item : Nat} :
    (s.stageDone p status step item).sec.staged = s.sec.staged ∧ (s.stageDone p status step item).sec.active = s.sec.active ∧
    (s.stageDone p status step item).sec.previous = s.sec.previous ∧ s.outs <:+ (s.stageDone p status step item).outs := by
  have sec : (s.stageDone p status step item).sec = _ := (State.answer_reach (.refl _) (.refl _ _)).sec rfl
  rw [sec]
  exact ⟨rfl, rfl, rfl, (State.stageDone_reach (.refl _) (.refl _ s)).grow⟩

/-- A whole object of the transfer that a packet names is handled, once the packet's checks are passed. -/
theorem execStageEnd_whole (passes : s.Passes stageEndSpec k x) (length : k.payload.length = 4) (up : s.hallB.inReset = false)
    (named : s.xferOf true (fieldAt k.payload 0 2) k.hdr.session = some y) (isOpen : s.stageOpen y.kind = true) :
    execStageEnd k s = .next ((s.afterChecks stageEndSpec k).endStage (pendOf 0x0052 k.hdr) y) := by
  have lenOk : decide (k.payload.length = 4) = true := decide_eq_true length
  have stateOk : s.stageState (s.stageKind k) = true := by
    simpa [State.stageState, State.stageKind, named] using isOpen
  have vetted : s.vet { code := 0x0052, perm := .config, lenOk := true, deferred := true } k =
      .served (s.afterChecks stageEndSpec k) (pendOf 0x0052 k.hdr) x.role (some x) := State.vet_passes passes
  have up' : (s.afterChecks stageEndSpec k).hallB.inReset = false := up
  have named' : (s.afterChecks stageEndSpec k).xferOf true (fieldAt k.payload 0 2) (pendOf 0x0052 k.hdr).session = some y := named
  unfold execStageEnd
  simp only [lenOk, stateOk, vetted, up', named', Bool.false_eq_true, if_false]

/-- A refused image empties STAGED, is recorded, and is answered with what the judgement found. -/
theorem State.endStage_refused {p : Pend} {step status item : Nat} (config : y.kind = .config) (whole : y.whole = true)
    (refused : (s.endXfer .config).judgeImage y.data = .inr (step, status, item)) :
    ∃ u : State, u.sec = { s.sec with staged := none, stagedA := none } ∧ u.outs = s.outs ∧ u.hallA = s.hallA ∧
      s.endStage p y = (u.record Evt.configStageRefused noSource [word32 status, word32 item]).stageDone p status step item := by
  refine ⟨{ s.endXfer .config with sec := { s.sec with staged := none, stagedA := none } }, rfl, rfl, rfl, ?_⟩
  unfold State.endStage State.stageConfig
  simp only [config, whole, refused]
  rfl

end

/-- Settles O12: the packet passes its checks, the judgement empties STAGED, and the record and the reply leave the slots alone. -/
theorem refusedImagesLeaveStagedEmpty : Obligations.RefusedImagesLeaveStagedEmpty := by
  unfold Obligations.RefusedImagesLeaveStagedEmpty
  intro s k x y step status item passes length up named config isOpen whole refused
  obtain ⟨u, sec, outs, hallA, done⟩ := State.endStage_refused (p := pendOf 0x0052 k.hdr) config whole refused
  refine ⟨_, execStageEnd_whole passes length up named (config ▸ isOpen), ?_⟩
  obtain ⟨staged, active, previous, sent⟩ := State.stageDone_slots (s := u.record Evt.configStageRefused noSource [word32 status, word32 item])
    (p := pendOf 0x0052 k.hdr) (status := status) (step := step) (item := item)
  rw [State.record_sec, sec] at staged active previous
  refine done ▸ ⟨staged, active, previous, fun announced => ?_⟩
  have upA : u.hallAUp = true := by
    unfold State.hallAUp at announced ⊢
    rw [hallA]
    exact announced
  rw [State.record_outs upA, outs] at sent
  exact sent

/-! ### Edges and indices of a position port (04 R130 to R141) -/

section

variable {s t u : State} {p : Nat}

/-- Folding over units keeps what every step keeps. -/
theorem State.forEach_keeps {α : Type} (g : State → α) {f : State → Nat → State} (keeps : ∀ u i, g (f u i) = g u) (s : State) (n : Nat) :
    g (s.forEach n f) = g s := by
  unfold State.forEach
  induction List.range n generalizing s with
  | nil => rfl
  | cons i l ih => exact (ih (f s i)).trans (keeps s i)

@[simp] theorem State.record_port {e : EvCode} {n : Nat} {args : List (BitVec 32)} : (s.record e n args).port p = s.port p := by
  simp [State.port]

@[simp] theorem State.recordIf_port {c : Bool} {e : EvCode} {n : Nat} {args : List (BitVec 32)} :
    (s.recordIf c e n args).port p = s.port p := by
  unfold State.recordIf
  split
  · exact State.record_port
  · rfl

theorem State.port_of_ports (h : t.ports = s.ports) : t.port p = s.port p := congrArg (·.getD p .reset) h

@[simp] theorem State.recordLimited_port {e : EvCode} {n : Nat} {args : List (BitVec 32)} {period : Nat} :
    (s.recordLimited e n args period).port p = s.port p :=
  State.port_of_ports ((State.recordLimited_reach (.refl _) (.refl _ s)).ports rfl)

/-! ### What the compare list and the echo leave alone (04 R142 to R147) -/

/-- A port without the flags and outputs of its compare list and its echo: what counting is about. -/
def Port.counts (x : Port) : Port :=
  { x with armed := 0, hit := 0, stale := 0, late := 0, aux := false, auxEnd := none, echoOverrun := false }

/-- Ports that count alike agree in each field that counting is about. -/
theorem Port.field_of_counts {α : Type} (g : Port → α) (about : ∀ x : Port, g x.counts = g x) {x y : Port} (h : x.counts = y.counts) :
    g x = g y := by
  rw [← about x, h, about y]

/-- A port counts in `t` as in `s`: it differs by the flags and outputs of its compare list and its echo at most. -/
def State.CountsAs (s : State) (p : Nat) (t : State) : Prop := (t.port p).counts = (s.port p).counts

namespace State.CountsAs

theorem refl (s : State) (p : Nat) : s.CountsAs p s := rfl

theorem ite {c : Prop} [Decidable c] (ht : s.CountsAs p t) (hu : s.CountsAs p u) : s.CountsAs p (if c then t else u) := by
  split
  · exact ht
  · exact hu

theorem modPort {q : Nat} {f : Port → Port} (h : s.CountsAs p t) (keeps : ∀ x, (f x).counts = x.counts) : s.CountsAs p (t.modPort q f) := by
  refine Eq.trans ?_ h
  by_cases e : q = p
  · subst e
    by_cases l : q < t.ports.length
    · rw [State.port_modPort l, keeps]
    · simp [State.port, l]
  · rw [State.port_modPort_ne e]

theorem of_ports (h : s.CountsAs p t) (same : u.ports = t.ports) : s.CountsAs p u :=
  (congrArg (fun l : List Port => (l.getD p .reset).counts) same).trans h

theorem recordIf {c : Bool} {e : EvCode} {n : Nat} {args : List (BitVec 32)} (h : s.CountsAs p t) :
    s.CountsAs p (t.recordIf c e n args) := (congrArg Port.counts State.recordIf_port).trans h

theorem recordLimited {e : EvCode} {n : Nat} {args : List (BitVec 32)} {period : Nat} (h : s.CountsAs p t) :
    s.CountsAs p (t.recordLimited e n args period) := (congrArg Port.counts State.recordLimited_port).trans h

theorem forEach {n : Nat} {f : State → Nat → State} (h : s.CountsAs p t) (keeps : ∀ u i, State.CountsAs u p (f u i)) :
    s.CountsAs p (t.forEach n f) := (State.forEach_keeps (fun u => (u.port p).counts) keeps t n).trans h

theorem setAux {q : Nat} {high : Bool} {until' : Option Nat} (h : s.CountsAs p t) : s.CountsAs p (t.setAux q high until') :=
  .ite (.modPort h fun _ => rfl) (.modPort h fun _ => rfl)

theorem fireCmp {q i stamp : Nat} (h : s.CountsAs p t) : s.CountsAs p (t.fireCmp q i stamp) := by
  unfold State.fireCmp
  extract_lets cfg v
  have disarmed : s.CountsAs p v := h.modPort fun _ => rfl
  exact .ite (.setAux disarmed) disarmed

theorem behindCmp {q i stamp : Nat} {d : Int} (h : s.CountsAs p t) : s.CountsAs p (t.behindCmp q i d stamp) :=
  .ite (.recordIf (.modPort h.fireCmp fun _ => rfl)) (.recordIf (.modPort h fun _ => rfl))

theorem edgeCmp {q stamp : Nat} {up : Bool} (h : s.CountsAs p t) : s.CountsAs p (t.edgeCmp q up stamp) :=
  h.forEach fun u _ => .ite (.fireCmp (refl u p)) (refl u p)

theorem jumpCmp {q : Nat} {old : BitVec 32} {j : Int} (h : s.CountsAs p t) : s.CountsAs p (t.jumpCmp q old j) :=
  h.forEach fun u _ => .ite (.behindCmp (refl u p)) (refl u p)

theorem echoEdge {q : Nat} {up : Bool} (h : s.CountsAs p t) : s.CountsAs p (t.echoEdge q up) := by
  have echoed {f : Echo → Echo} : s.CountsAs p (t.modEcho (flightOfPort q) f) := h
  unfold State.echoEdge
  extract_lets f n m acc emit acc'
  exact .ite h (.ite echoed (.ite echoed (.recordLimited (.modPort echoed fun _ => rfl))))

end State.CountsAs

/-! ### Counting (04 R130, R132) -/

/-- Counting adds, modulo 2^32; the wraps take what is left over. -/
theorem Port.countBy_count (x : Port) (z : Int) : (x.countBy z).count = x.count + BitVec.ofInt 32 z := by
  show BitVec.ofInt 32 (x.wraps.toInt * 4294967296 + x.count.toInt + z) = _
  have wrap : BitVec.ofInt 32 (x.wraps.toInt * 4294967296) = 0#32 := by
    rw [BitVec.ofInt_mul, show BitVec.ofInt 32 4294967296 = 0#32 from rfl, BitVec.mul_zero]
  rw [BitVec.ofInt_add, BitVec.ofInt_add, wrap, BitVec.ofInt_toInt, BitVec.zero_add]

/-- The edge comes 40 ns or more after the last counted one (log 27). -/
def Port.Spaced (x : Port) (e : EdgeIn) : Prop := ∀ d u l, x.edges = (d, u) :: l → u + 16 ≤ e.stamp

/-- What a counted edge makes of a port: one count in its direction (04 R132). -/
structure Port.Counted (x : Port) (e : EdgeIn) (tick : Nat) (y : Port) : Prop where
  count : y.count = if e.up then x.count + 1 else x.count - 1
  moving : y.moving = true
  lastEdgeTick : y.lastEdgeTick = tick + 1
  quadErrors : y.quadErrors = x.quadErrors
  hallState : y.hallState = x.hallState

/-- The port on which `State.countEdge` counts. -/
def Port.afterEdge (x : Port) (quad : Bool) (e : EdgeIn) (tick : Nat) : Port :=
  let (v, pend) := x.edgeSpeed quad e.up e.stamp
  let x := (x.countBy (if e.up then 1 else -1)).noteTick ((e.stamp + 9999) / 10000) x.count.toInt
  { x with
    speed := v, revPending := pend, edges := ((e.up, e.stamp) :: x.edges).take 5, lastEdgeTick := tick + 1,
    moving := true, countB := if e.secondary then x.countB + (if e.up then 1 else -1) else x.countB }

theorem State.countEdge_eq {e : EdgeIn} : s.countEdge p e =
    ((s.modPort p (fun x => x.afterEdge (s.portFormat p = 1) e s.tick)).edgeCmp p e.up e.stamp).echoEdge p e.up := rfl

theorem Port.afterEdge_counted (x : Port) (quad : Bool) (e : EdgeIn) (tick : Nat) : x.Counted e tick (x.afterEdge quad e tick) := by
  unfold Port.afterEdge
  rcases x.edgeSpeed quad e.up e.stamp with ⟨v, pend⟩
  refine ⟨?_, rfl, rfl, rfl, rfl⟩
  show (x.countBy (if e.up then 1 else -1)).count = _
  rw [Port.countBy_count]
  cases e.up
  · simp [BitVec.sub_eq_add_neg]
  · rfl

/-- What the compare list and the echo do does not undo a count. -/
theorem Port.Counted.of_counts {x y z : Port} {e : EdgeIn} {tick : Nat} (h : x.Counted e tick y) (same : z.counts = y.counts) :
    x.Counted e tick z :=
  ⟨(Port.field_of_counts Port.count (fun _ => rfl) same).trans h.count, (Port.field_of_counts Port.moving (fun _ => rfl) same).trans h.moving,
    (Port.field_of_counts Port.lastEdgeTick (fun _ => rfl) same).trans h.lastEdgeTick,
    (Port.field_of_counts Port.quadErrors (fun _ => rfl) same).trans h.quadErrors,
    (Port.field_of_counts Port.hallState (fun _ => rfl) same).trans h.hallState⟩

theorem State.countEdge_counted {e : EdgeIn} (h : p < s.ports.length) : (s.port p).Counted e s.tick ((s.countEdge p e).port p) := by
  have edge := Port.afterEdge_counted (s.port p) (s.portFormat p = 1) e s.tick
  rw [← State.port_modPort (f := fun x => x.afterEdge (s.portFormat p = 1) e s.tick) h] at edge
  rw [State.countEdge_eq]
  exact edge.of_counts (State.CountsAs.refl _ p).edgeCmp.echoEdge

theorem State.quadError_port (h : p < s.ports.length) :
    (s.quadError p).port p = { s.port p with quadErrors := (s.port p).quadErrors + 1 } := by
  unfold State.quadError
  dsimp only
  split
  · rw [State.recordLimited_port, State.port_modPort h]
  · rw [State.port_modPort h]

/-- Refining a commutation changes no port. -/
theorem State.refineComm_ports {a : Nat} {countRef : Int} : (s.refineComm a countRef).ports = s.ports :=
  (State.refineComm_reach (.refl _) (.refl _ s)).ports rfl

/-! ### An edge is judged (04 R132, R133) -/

theorem State.takeEdge_counted {e : EdgeIn} (h : p < s.ports.length) (valid : e.valid = true) (spaced : (s.port p).Spaced e) :
    (s.port p).Counted e s.tick ((s.takeEdge p e).port p) := by
  have ports : (s.takeEdge p e).ports = (s.countEdge p e).ports := by
    unfold State.takeEdge
    extract_lets close t
    have apart : close = false := by
      cases edges : (s.port p).edges with
      | nil => simp [close, edges]
      | cons x l => simpa [close, edges] using spaced _ _ _ edges
    rw [if_neg (by simp [valid, apart])]
    split
    · rfl
    · refine State.forEach_keeps (·.ports) (fun u a => ?_) t 36
      split
      · exact State.refineComm_ports
      · rfl
  rw [State.port_of_ports ports]
  exact State.countEdge_counted h

theorem State.takeEdge_error {e : EdgeIn} (h : p < s.ports.length)
    (bad : e.valid = false ∨ ∃ d u l, (s.port p).edges = (d, u) :: l ∧ e.stamp < u + 16) :
    (s.takeEdge p e).port p = { s.port p with quadErrors := (s.port p).quadErrors + 1 } := by
  have refused : s.takeEdge p e = s.quadError p := by
    unfold State.takeEdge
    rcases bad with invalid | ⟨d, u, l, edges, close⟩
    · simp [invalid]
    · simp [edges, close]
  rw [refused]
  exact State.quadError_port h

/-! ### The HALL sequence (04 R135) -/

theorem hallPlace_lt {code k : Nat} (h : hallPlace code = some k) : k < 6 := by
  obtain ⟨lt, -⟩ := List.idxOf?_eq_some_iff.1 h
  exact lt

/-- The state in which the HALL rule has kept a code as the last valid one. -/
def State.keepHall (s : State) (p : Nat) (code : Nat) : State := s.modPort p (fun x => { x with hallState := code })

/-- The edge that a HALL transition from place `j` to place `k` of the sequence stands for: up, down, or the error of a skipped code. -/
def hallVerdict (e : EdgeIn) (j k : Nat) : Option EdgeIn :=
  if k = j then none
  else if k = (j + 1) % 6 then some { e with up := true, valid := true }
  else if j = (k + 1) % 6 then some { e with up := false, valid := true }
  else some { e with valid := false }

theorem State.hallEdge_judged {e : EdgeIn} {j k : Nat} (was : hallPlace (s.port p).hallState = some j) (now : hallPlace e.code = some k)
    (stood : s.parR Par.portHallFilt p 0 ≤ e.held) : s.hallEdge p e = (hallVerdict e j k, s.keepHall p e.code) := by
  unfold State.hallEdge hallVerdict
  simp only [was, now, if_neg (Rat.not_lt.2 stood)]
  by_cases same : k = j
  · rw [if_pos same, if_pos same]
    rfl
  rw [if_neg same, if_neg same]
  by_cases next : k = (j + 1) % 6
  · rw [if_pos next, if_pos next]
    rfl
  rw [if_neg next, if_neg next]
  by_cases previous : j = (k + 1) % 6
  · rw [if_pos previous, if_pos previous]
    rfl
  · rw [if_neg previous, if_neg previous]
    rfl

theorem State.hallEdge_ignored {e : EdgeIn} (h : e.held < s.parR Par.portHallFilt p 0 ∨ hallPlace e.code = none) :
    s.hallEdge p e = (none, s) := by
  unfold State.hallEdge
  cases now : hallPlace e.code with
  | none => rfl
  | some k => simp [h.resolve_right (by simp [now])]

/-! ### PORT_EDGE -/

theorem execPortEdge_quad {e : EdgeIn} (fit : p < s.nPorts) (format : s.portFormat p = 1) (powered : s.portPowered p = true) :
    execPortEdge p e s = .next (s.takeEdge p e) := by
  unfold State.portPowered at powered
  unfold execPortEdge onUnit
  simp_all

/-- What a HALL port makes of a transition that its rule has judged. -/
theorem execPortEdge_hall {e : EdgeIn} {counted : Option EdgeIn} (fit : p < s.nPorts) (format : s.portFormat p = 2)
    (powered : s.portPowered p = true) (judged : s.hallEdge p e = (counted, t)) :
    execPortEdge p e s = .next (counted.elim t (t.takeEdge p)) := by
  unfold State.portPowered at powered
  unfold execPortEdge onUnit
  cases counted <;> simp_all

theorem execPortEdge_unpowered {e : EdgeIn} (fit : p < s.nPorts) (unpowered : s.portPowered p = false) :
    execPortEdge p e s = .next s := by
  unfold State.portPowered at unpowered
  unfold execPortEdge onUnit
  rcases Bool.and_eq_false_iff.1 unpowered with h | h <;> simp [fit, h]

theorem State.Sound.port_lt (h : s.Sound) (fit : p < s.nPorts) : p < s.ports.length := by
  rw [h.ports]
  unfold State.nPorts at fit
  split at fit <;> omega

theorem State.port_keepHall {code : Nat} (h : p < s.ports.length) : (s.keepHall p code).port p = { s.port p with hallState := code } :=
  State.port_modPort h

theorem State.keepHall_length {code : Nat} : (s.keepHall p code).ports.length = s.ports.length := List.length_modify ..

theorem State.keepHall_counted {e : EdgeIn} {code : Nat} (h : p < s.ports.length) (valid : e.valid = true) (spaced : (s.port p).Spaced e) :
    { s.port p with hallState := code : Port }.Counted e s.tick (((s.keepHall p code).takeEdge p e).port p) := by
  have edge := State.takeEdge_counted (s := s.keepHall p code) (p := p) (e := e) (by rw [State.keepHall_length]; exact h) valid
    (by rw [State.port_keepHall h]; exact spaced)
  rw [State.port_keepHall h] at edge
  exact edge

theorem State.keepHall_error {e : EdgeIn} {code : Nat} (h : p < s.ports.length) (bad : e.valid = false) :
    (((s.keepHall p code).takeEdge p e).port p).hallState = code ∧ (((s.keepHall p code).takeEdge p e).port p).count = (s.port p).count ∧
    (((s.keepHall p code).takeEdge p e).port p).quadErrors = (s.port p).quadErrors + 1 := by
  rw [State.takeEdge_error (by rw [State.keepHall_length]; exact h) (.inl bad), State.port_keepHall h]
  exact ⟨rfl, rfl, rfl⟩

/-! ### INDEX_EVENT (04 R139 to R141) -/

/-- What INDEX_MODE makes of an index error: a record of one out of tolerance under 1, a correction under 2. -/
def State.judgeIndex (s : State) (p : Nat) (e : Int) : State :=
  match s.parN Par.portIndexMode p 0, decide (s.parN Par.portIndexTol p 0 < e.natAbs) with
  | 1, true => s.record Evt.indexSlip p [wordZ e]
  | 2, true => (s.resync p (-e)).record Evt.indexResync p [wordZ e]
  | _, _ => s

/-- What an index does to the commutations of the axes that its port feeds. -/
def State.indexComm (s : State) (p : Nat) (countRef : Int) : State :=
  s.forEach 36 (fun s a =>
    if s.fbPort a = some p && (s.axis a).learning then s.learnComm a
    else if s.refinesAt p false a then s.refineComm a countRef else s)

/-- The error of an index: how far the position is from the nearest place of an index (04 R139). -/
def State.indexError (s : State) (p : Nat) : Int :=
  (s.port p).pos64 - nearestIndex (s.port p).pos64 (s.parZ Par.portIndexPos p 0) (s.parN Par.portIndexPeriod p 0)

/-- The state in which the index error is kept and INDEX_MODE has been followed. -/
def State.indexed (s : State) (p : Nat) : State :=
  (s.modPort p (fun x => { x with indexErr := wordZ (s.indexError p) })).judgeIndex p (s.indexError p)

/-- An index is captured at the count that stands when INDEX_MODE has been followed. -/
def State.captureIndex (s : State) (p : Nat) : State :=
  (s.modPort p (fun x => { x with indexAt := some (s.port p).count.toInt })).indexComm p (s.port p).count.toInt

theorem execIndexEvent_eq (fit : p < s.nPorts) (format : s.portFormat p = 1) :
    execIndexEvent p s = .next ((s.indexed p).captureIndex p) := by
  unfold execIndexEvent onUnit
  rw [if_pos (by simpa using fit), if_neg (by simp [format])]
  rfl

theorem State.indexComm_ports {countRef : Int} : (s.indexComm p countRef).ports = s.ports := by
  refine State.forEach_keeps (·.ports) (fun u a => ?_) s 36
  split
  · exact (State.learnComm_reach (.refl _) (.refl _ u)).ports rfl
  · split
    · exact State.refineComm_ports
    · rfl

/-- The port that a correction by `j` counts leaves (04 R141). -/
def Port.corrected (x : Port) (j : Int) : Port := { (x.countBy j).shiftTicks j with diffBase := x.diffBase + j }

theorem Port.corrected_count (x : Port) (j : Int) : (x.corrected j).count = x.count + BitVec.ofInt 32 j := Port.countBy_count x j

theorem Port.corrected_indexErr (x : Port) (j : Int) : (x.corrected j).indexErr = x.indexErr := rfl

/-- The corrected port is all that a correction leaves of counting: it treats entries passed as behind, and tells the axes. -/
theorem State.resync_counts (s : State) (p : Nat) (j : Int) : (s.modPort p (·.corrected j)).CountsAs p (s.resync p j) :=
  .forEach (.of_ports (.jumpCmp (.refl _ p)) ((State.jumpMasters_reach (.refl _) (.refl _ _)).ports rfl)) fun u _ =>
    .ite (.of_ports (.refl u p) ((State.setUncertain_reach (.refl _) (.refl _ u)).ports rfl)) (.refl u p)

theorem State.resync_port {j : Int} (h : p < s.ports.length) :
    ((s.resync p j).port p).count = (s.port p).count + BitVec.ofInt 32 j ∧ ((s.resync p j).port p).indexErr = (s.port p).indexErr := by
  have rest : ((s.resync p j).port p).counts = ((s.port p).corrected j).counts := by
    rw [← State.port_modPort (f := (·.corrected j)) h]
    exact s.resync_counts p j
  exact ⟨(Port.field_of_counts Port.count (fun _ => rfl) rest).trans (Port.corrected_count _ j),
    (Port.field_of_counts Port.indexErr (fun _ => rfl) rest).trans (Port.corrected_indexErr _ j)⟩

theorem State.judgeIndex_port {e : Int} (h : p < s.ports.length) :
    ((s.judgeIndex p e).port p).count = (if s.parN Par.portIndexMode p 0 = 2 ∧ s.parN Par.portIndexTol p 0 < e.natAbs
      then (s.port p).count - BitVec.ofInt 32 e else (s.port p).count) ∧
    ((s.judgeIndex p e).port p).indexErr = (s.port p).indexErr := by
  unfold State.judgeIndex
  split
  next mode out => simp [mode]
  next mode out =>
    obtain ⟨count, err⟩ := State.resync_port (s := s) (j := -e) h
    rw [if_pos ⟨mode, of_decide_eq_true out⟩, State.record_port, count, BitVec.ofInt_neg, BitVec.sub_eq_add_neg]
    exact ⟨rfl, err⟩
  next _ other =>
    rw [if_neg fun ⟨mode, out⟩ => other mode (decide_eq_true out)]
    exact ⟨rfl, rfl⟩

theorem State.judgeIndex_sound {e : Int} (h : s.Sound) : (s.judgeIndex p e).Sound := by
  unfold State.judgeIndex
  split
  · exact (State.record_reach (.refl _) (.refl _ s)).sound h
  · exact (State.record_reach (.refl _) (.refl _ _)).sound ((State.resync_reach (.refl _) (.refl _ s)).sound h)
  · exact h

theorem State.Sound.indexed (h : s.Sound) : (s.indexed p).Sound :=
  State.judgeIndex_sound ((State.modPort_reach (.refl _) (.refl _ s)).sound h)

theorem State.indexed_port (h : p < s.ports.length) :
    ((s.indexed p).port p).count = (if s.parN Par.portIndexMode p 0 = 2 ∧ s.parN Par.portIndexTol p 0 < (s.indexError p).natAbs
      then (s.port p).count - BitVec.ofInt 32 (s.indexError p) else (s.port p).count) ∧
    ((s.indexed p).port p).indexErr = wordZ (s.indexError p) := by
  have marked := State.port_modPort (f := fun x => { x with indexErr := wordZ (s.indexError p) }) h
  obtain ⟨count, err⟩ := State.judgeIndex_port (s := s.modPort p (fun x => { x with indexErr := wordZ (s.indexError p) }))
    (e := s.indexError p) (by simpa using h)
  rw [marked] at count err
  exact ⟨count, err⟩

theorem State.captureIndex_port (h : p < s.ports.length) :
    (s.captureIndex p).port p = { s.port p with indexAt := some (s.port p).count.toInt } :=
  (State.port_of_ports State.indexComm_ports).trans (State.port_modPort h)

end

/-- Settles O22: the edge of a QUAD port, the transition of a HALL port by its place in the sequence, the edges that change nothing, and
the index. -/
theorem portEdgesAndIndexMoveTheCount : Obligations.PortEdgesAndIndexMoveTheCount := by
  unfold Obligations.PortEdgesAndIndexMoveTheCount
  refine ⟨?quadCounts, ?quadErrors, ?hall, ?nothing, ?index⟩
  case quadCounts =>
    intro s p e sound fit format powered valid spaced
    have edge := State.takeEdge_counted (sound.port_lt fit) valid spaced
    exact ⟨_, execPortEdge_quad fit format powered, edge.count, edge.moving, edge.lastEdgeTick, edge.quadErrors⟩
  case quadErrors =>
    intro s p e sound fit format powered bad
    exact ⟨_, execPortEdge_quad fit format powered, State.takeEdge_error (sound.port_lt fit) bad⟩
  case hall =>
    intro s p e j k sound fit format powered was now stood spaced
    have lt := sound.port_lt fit
    have ltj := hallPlace_lt was
    have ltk := hallPlace_lt now
    refine ⟨_, execPortEdge_hall fit format powered (State.hallEdge_judged was now stood), ?_⟩
    unfold hallVerdict
    by_cases same : k = j
    · rw [if_pos same]
      exact ⟨congrArg Port.hallState (State.port_keepHall lt), by omega, by omega, fun moved => (moved same).elim⟩
    by_cases next : k = (j + 1) % 6
    · rw [if_neg same, if_pos next]
      have edge := State.keepHall_counted (e := { e with up := true, valid := true }) (code := e.code) lt rfl spaced
      exact ⟨edge.hallState, fun _ => ⟨edge.count, edge.quadErrors⟩, by omega, fun _ other => (other next).elim⟩
    rw [if_neg same, if_neg next]
    by_cases previous : j = (k + 1) % 6
    · rw [if_pos previous]
      have edge := State.keepHall_counted (e := { e with up := false, valid := true }) (code := e.code) lt rfl spaced
      exact ⟨edge.hallState, fun up => (next up).elim, fun _ => ⟨edge.count, edge.quadErrors⟩, fun _ _ other => (other previous).elim⟩
    · rw [if_neg previous]
      obtain ⟨code, count, errors⟩ := State.keepHall_error (e := { e with valid := false }) (code := e.code) lt rfl
      exact ⟨code, fun up => (next up).elim, fun down => (previous down).elim, fun _ _ _ => ⟨count, errors⟩⟩
  case nothing =>
    intro s p e fit idle
    cases powered : s.portPowered p with
    | false => exact execPortEdge_unpowered fit powered
    | true =>
      obtain ⟨format, ignored⟩ := idle.resolve_left (by simp [powered])
      exact execPortEdge_hall fit format powered (State.hallEdge_ignored ignored)
  case index =>
    intro s p sound fit format
    obtain ⟨count, err⟩ := State.indexed_port (sound.port_lt fit)
    refine ⟨_, execIndexEvent_eq fit format, ?_⟩
    rw [State.captureIndex_port (by rw [sound.indexed.ports, ← sound.ports]; exact sound.port_lt fit)]
    exact ⟨err, count, rfl⟩

end Sys2Proof.Machine
end

section
/-! PROOFS of the family of 02_connectors_supply.md: supply trips and their ends (O14), precharge, interruptions and ground (O15), the
presence loops (O16), the ring (O48), and the clearing writes (O49). -/

namespace Sys2Proof.Machine

/-! ### What is recorded, and what it comes after -/

theorem onUnit_fitted {ok : Bool} {t : State} (h : ok = true) : onUnit ok t = .next t := if_pos h

/-- An event that a state records is announced over a state that had sent the same, by all that comes later. -/
theorem State.announces_record {T : Nat} {s u t : State} {e : EvCode} {n : Nat} {args : List (BitVec 32)}
    (later : Reach T (u.record e n args) t) (hallA : u.hallA = s.hallA) (outs : u.outs = s.outs) : s.Announces e n args t := by
  intro up
  have running : u.hallAUp = true := by
    unfold State.hallAUp at up ⊢
    rw [hallA]
    exact up
  have sent := later.grow
  rw [State.record_outs running, outs] at sent
  exact sent

theorem State.tread_of_treads {s t : State} {n : Nat} (h : t.treads = s.treads) : t.tread n = s.tread n := congrArg (·.getD n .reset) h

theorem State.fpower_of_flightPower {s t : State} {f : Nat} (h : t.flightPower = s.flightPower) : t.fpower f = s.fpower f :=
  congrArg (·.getD f .reset) h

/-! ### Every tread OFF at once (02 R58, R65, R67) -/

section

variable {s : State} {n : Nat}

theorem State.treadEnabled_of_supply (h : s.treadSupplyOk = false) : s.treadEnabled n = false := by simp [State.treadEnabled, h]

theorem State.treadEnabled_of_mpres (h : s.supply.mpres = false) : s.treadEnabled n = false := by simp [State.treadEnabled, h]

theorem State.treadEnabled_of_presence (h : (s.fpower (flightOfTread n)).presence = false) : s.treadEnabled n = false := by
  simp [State.treadEnabled, h]

theorem State.Sound.tread_lt (h : s.Sound) (lt : n < 96) : n < s.treads.length := by rw [h.treads]; exact lt

theorem State.treadsOff_off {p : Nat → Bool} (lt : n < s.treads.length) (named : p n = true) : ((s.treadsOff p).tread n).mode = .off := by
  rw [State.tread_treadsOff lt, if_pos named]
  rfl

/-- A tread that may not run is held once it has been turned OFF. -/
theorem State.Held.of_treadsOff {p : Nat → Bool} (lt : n < s.treads.length) (named : p n = true) (disabled : s.treadEnabled n = false) :
    (s.treadsOff p).Held n := .of_disabled disabled (State.treadsOff_off lt named)

theorem State.Held.causeStopsFrom {old : State} (h : s.Held n) : (s.causeStopsFrom old).Held n :=
  List.foldlRecOn (motive := fun u : State => u.Held n) _ _ h fun _ k _ _ =>
    State.faultStop_keeps (P := fun u => u.Held n) (fun _ _ _ _ j => j.driveTread) (fun _ _ _ j => j.modAxis) (fun _ _ _ _ j => j.record) k

/-- All that follows on a trip: every tread is turned OFF, the trip recorded, and the axes take their fault stops. -/
def State.shutDown (s : State) (e : EvCode) : State := ((s.treadsOff (fun _ => true)).record e noSource []).causeStops

theorem State.shutDown_supply {e : EvCode} : (s.shutDown e).supply = s.supply :=
  (State.causeStops_reach (.refl _) (.refl _ _)).supply rfl |>.trans State.record_supply

theorem State.shutDown_off {e : EvCode} (sound : s.Sound) (disabled : ∀ n, s.treadEnabled n = false) (lt : n < 96) :
    ((s.shutDown e).tread n).mode = .off :=
  (State.Held.of_treadsOff (p := fun _ => true) (sound.tread_lt lt) rfl (disabled n)).record.causeStops.off

theorem State.shutDown_announces {u : State} {e : EvCode} (hallA : u.hallA = s.hallA) (outs : u.outs = s.outs) :
    s.Announces e noSource [] (u.shutDown e) :=
  State.announces_record (u := u.treadsOff _) (State.causeStops_reach (.refl _) (.refl _ _)) hallA outs

end

/-! ### Supply trips (02 R62 to R65) -/

section

variable {s : State}

theorem State.uncleanSupply_supply : s.uncleanSupply.supply = s.supply := (State.uncleanSupply_reach (.refl _) (.refl _ s)).supply rfl

theorem State.uncleanSupply_sent : s.uncleanSupply.hallA = s.hallA ∧ s.uncleanSupply.outs = s.outs :=
  have reach := State.uncleanSupply_reach (.refl _) (.refl _ s)
  ⟨reach.hallA rfl, reach.outs rfl⟩

theorem State.treadsBack_supply : s.treadsBack.supply = s.supply := (State.treadsBack_reach (.refl _) (.refl _ s)).supply rfl

theorem State.uncleanSupply_disabled {n : Nat} (h : s.treadSupplyOk = false) : s.uncleanSupply.treadEnabled n = false := by
  refine State.treadEnabled_of_supply ?_
  have clock := (State.uncleanSupply_reach (.refl _) (.refl _ s)).clock rfl
  unfold State.treadSupplyOk State.tick at h ⊢
  rw [State.uncleanSupply_supply, clock]
  exact h

/-- The supply with an undervoltage trip, latched or not. -/
def Supply.tripUv (x : Supply) (latch : Bool) : Supply := { x with uv := true, uvLatched := latch, uvRun := 0, uvCount := x.uvCount + 1 }

/-- The supply with an overvoltage trip. -/
def Supply.tripOv (x : Supply) : Supply := { x with ov := true, ovRun := 0, ovCount := x.ovCount + 1 }

theorem execSupplyUv_eq (fresh : s.supply.uv = false) (sampled : s.supply.vin8 ≠ []) (low : s.vin < s.parR Par.supplyUvLevel 0 0) :
    execSupplyUv s = .next (State.shutDown (State.uncleanSupply { s with
      supply := s.supply.tripUv (decide (s.parN Par.supplyUvMode 0 0 = 0) && !s.limpInCharge) }) Evt.supplyUv) :=
  if_neg (by simp [fresh, sampled, Rat.not_le.2 low])

theorem execSupplyOv_eq (fresh : s.supply.ov = false) :
    execSupplyOv s = .next (State.shutDown (State.uncleanSupply { s with supply := s.supply.tripOv }) Evt.supplyOv) :=
  if_neg (by simp [fresh])

/-- What a trip of the supply leaves: the supply as it was set, every tread OFF, and the trip announced. -/
theorem State.supplyTrip_leaves {x : Supply} {e : EvCode} (sound : s.Sound) (bad : State.treadSupplyOk { s with supply := x } = false) :
    let t := State.shutDown (State.uncleanSupply { s with supply := x }) e
    t.supply = x ∧ (∀ n, n < 96 → (t.tread n).mode = .off) ∧ s.Announces e noSource [] t := by
  have sound' := (State.uncleanSupply_reach (.refl _) (.refl _ { s with supply := x })).sound { sound with }
  obtain ⟨hallA, outs⟩ := State.uncleanSupply_sent (s := { s with supply := x })
  exact ⟨State.shutDown_supply.trans State.uncleanSupply_supply,
    fun n lt => State.shutDown_off sound' (fun n => State.uncleanSupply_disabled bad) lt, State.shutDown_announces hallA outs⟩

theorem execSupplyUvRestart_eq (tripped : s.supply.uv = true) (free : s.supply.uvLatched = false) (recovered : 800 ≤ s.supply.uvRun) :
    execSupplyUvRestart s = .next ((State.treadsBack { s with
      supply := { s.supply with uv := false, uvLatched := false, uvRun := 0 } }).record Evt.supplyUvRestart noSource []) :=
  if_pos (by simp [tripped, free, recovered])

theorem execSupplyOvRelease_eq (tripped : s.supply.ov = true) (recovered : 800 ≤ s.supply.ovRun) :
    execSupplyOvRelease s = .next (State.treadsBack { s with supply := { s.supply with ov := false, ovRun := 0 } }) :=
  if_pos (by simp [tripped, recovered])

/-- Treads that follow their commands again, and the event of it: the supply stands as it was set. -/
theorem State.back_leaves {x : Supply} {e : EvCode} :
    let t := (State.treadsBack { s with supply := x }).record e noSource []
    t.supply = x ∧ s.Announces e noSource [] t :=
  ⟨State.record_supply.trans State.treadsBack_supply,
    State.announces_record (u := State.treadsBack { s with supply := x }) (.refl 0 _) rfl rfl⟩

end

/-- Settles O14: a trip turns every tread OFF, and none can run before the supply is good again; the restart gives the treads back. -/
theorem supplyTripsTurnEveryTreadOff : Obligations.SupplyTripsTurnEveryTreadOff := by
  unfold Obligations.SupplyTripsTurnEveryTreadOff
  refine ⟨?uv, ?uvRestart, ?ov, ?ovRelease⟩
  case uv =>
    intro s sound fresh sampled low
    obtain ⟨supply, off, announced⟩ := State.supplyTrip_leaves (e := Evt.supplyUv) sound
      (x := s.supply.tripUv (decide (s.parN Par.supplyUvMode 0 0 = 0) && !s.limpInCharge)) rfl
    exact ⟨_, execSupplyUv_eq fresh sampled low, congrArg Supply.uv supply, congrArg Supply.uvCount supply,
      congrArg Supply.uvLatched supply, off, announced⟩
  case uvRestart =>
    intro s tripped free recovered
    obtain ⟨supply, announced⟩ := State.back_leaves (s := s) (e := Evt.supplyUvRestart)
      (x := { s.supply with uv := false, uvLatched := false, uvRun := 0 })
    exact ⟨_, execSupplyUvRestart_eq tripped free recovered, congrArg Supply.uv supply, congrArg Supply.uvRun supply, announced⟩
  case ov =>
    intro s sound fresh
    obtain ⟨supply, off, announced⟩ := State.supplyTrip_leaves (e := Evt.supplyOv) (x := s.supply.tripOv) sound
      (by simp [State.treadSupplyOk, Supply.tripOv])
    exact ⟨_, execSupplyOv_eq fresh, congrArg Supply.ov supply, congrArg Supply.ovCount supply, off, announced⟩
  case ovRelease =>
    intro s tripped recovered
    have supply := State.treadsBack_supply (s := { s with supply := { s.supply with ov := false, ovRun := 0 } })
    exact ⟨_, execSupplyOvRelease_eq tripped recovered, congrArg Supply.ov supply, congrArg Supply.ovRun supply⟩

/-! ### Precharge, interruptions and ground (02 R58, R59, R66) -/

section

variable {s : State}

theorem execPrecharge_eq {front bank : Rat} (whole : s.supply.prechargeFailed = false) (first : s.supply.prechargeAt = none)
    (close : absR (bank - front) ≤ 5) :
    execPrecharge front bank s = .next { s with supply := { s.supply with prechargeAt := some s.sample, switchClosed := true } } := by
  simp [execPrecharge, whole, first, close]

theorem execPrechargeTimeout_eq {since : Nat} (began : s.supply.prechargeAt = some since) (isOpen : s.supply.switchClosed = false)
    (late : since + 400 ≤ s.sample) :
    execPrechargeTimeout s = .next { s with supply := { s.supply with prechargeFailed := true } } := by
  simp [execPrechargeTimeout, began, isOpen, late]

/-- The supply after an interruption has ended. -/
def Supply.resumed (x : Supply) : Supply := { x with invalidSince := none, interruptCount := x.interruptCount + 1 }

theorem execSupplyInterrupt_eq {since : Nat} (invalid : s.supply.invalidSince = some since) (back : s.onHoldup = false) :
    execSupplyInterrupt s = .next ((State.uncleanSupply { s with supply := s.supply.resumed }).record Evt.supplyInterrupt noSource
      [toReal32 (((s.supply.validAt - since : Nat) : Rat) / 8)]) := by
  unfold execSupplyInterrupt
  rw [invalid]
  exact if_neg (by simp [back])

theorem execGroundReturn_eq (lost : s.supply.groundLost = true) :
    execGroundReturn s = .next ((State.treadsBack { s with supply := { s.supply with groundLost := false } }).record
      Evt.groundLoss noSource []) :=
  if_neg (by simp [lost])

end

/-- Settles O15: the switch closes within 5 V, or never; an interruption is counted and recorded when it has ended; a lost ground turns
every tread OFF, and its return gives them back. -/
theorem prechargeInterruptionsAndGround : Obligations.PrechargeInterruptionsAndGround := by
  unfold Obligations.PrechargeInterruptionsAndGround
  refine ⟨?precharge, ?timeout, ?interrupt, ?loss, ?groundReturn⟩
  case precharge =>
    intro s front bank whole first close
    exact ⟨_, execPrecharge_eq whole first close, rfl, rfl⟩
  case timeout =>
    intro s since began isOpen late
    exact ⟨_, execPrechargeTimeout_eq began isOpen late, rfl, isOpen⟩
  case interrupt =>
    intro s since invalid back
    obtain ⟨hallA, outs⟩ := State.uncleanSupply_sent (s := { s with supply := s.supply.resumed })
    have supply := (State.record_supply (e := Evt.supplyInterrupt) (n := noSource)
      (args := [toReal32 (((s.supply.validAt - since : Nat) : Rat) / 8)])).trans
      (State.uncleanSupply_supply (s := { s with supply := s.supply.resumed }))
    exact ⟨_, execSupplyInterrupt_eq invalid back, congrArg Supply.invalidSince supply, congrArg Supply.interruptCount supply,
      State.announces_record (.refl 0 _) hallA outs⟩
  case loss =>
    intro s sound
    exact ⟨_, rfl, rfl, fun n lt => State.treadsOff_off (sound.tread_lt lt) rfl⟩
  case groundReturn =>
    intro s lost
    obtain ⟨supply, announced⟩ := State.back_leaves (s := s) (e := Evt.groundLoss) (x := { s.supply with groundLost := false })
    exact ⟨_, execGroundReturn_eq lost, congrArg Supply.groundLost supply, announced⟩

/-! ### Presence loops (02 R67 to R69) -/

section

variable {s : State} {f : Nat}

theorem execModulePresenceOpen_eq (present : s.supply.mpres = true) :
    execModulePresenceOpen s =
      .next (State.shutDown { s with supply := { s.supply with mpres := false, mpresRun := 0 } } Evt.modulePresenceOpen) :=
  if_neg (by simp [present])

theorem execModulePresenceClosed_eq (absent : s.supply.mpres = false) (closed : 4000 ≤ s.supply.mpresRun) :
    execModulePresenceClosed s = .next { s with supply := { s.supply with mpres := true, treadsFromTick := s.tick + 1 } } :=
  if_pos (by simp [absent, closed])

theorem State.Sound.fpower_lt (h : s.Sound) (fit : f < s.nFlights) : f < s.flightPower.length := by
  rw [h.flightPower]
  unfold State.nFlights at fit
  split at fit <;> omega

/-- What an open loop makes of a flight's supply. -/
def FlightPower.unplug (x : FlightPower) (used : Bool) : FlightPower :=
  { x with presence := false, opened := used, unplugged := true, presRun := 0, feedOn := false }

/-- A flight that is unplugged: its supply is off, and so are its treads. -/
def State.unplugFlight (s : State) (f : Nat) : State :=
  (s.modFpower f (·.unplug (s.flightUsed f))).treadsOff (fun t => flightOfTread t = f)

theorem State.unplugFlight_fpower (lt : f < s.flightPower.length) :
    (s.unplugFlight f).fpower f = (s.fpower f).unplug (s.flightUsed f) := State.fpower_modFpower lt

theorem State.unplugFlight_held {n : Nat} (lt : f < s.flightPower.length) (ltn : n < s.treads.length) (inFlight : flightOfTread n = f) :
    (s.unplugFlight f).Held n := by
  refine .of_treadsOff ltn (decide_eq_true inFlight) (State.treadEnabled_of_presence ?_)
  rw [inFlight, State.fpower_modFpower lt]
  rfl

/-- The mask of what goes with a flight's supply: ports, axes, the gallery, and what is sent. -/
def unpluggedFields : Nat := 36508532736

/-- After that the ports of the flight lose their supply, the event is recorded, and the axes take their fault stops. -/
theorem execFlightPresenceOpen_unplugs (fit : f < s.nFlights) (present : (s.fpower f).presence = true) :
    ∃ u, execFlightPresenceOpen f s = .next (State.causeStopsFrom u s) ∧ Reach unpluggedFields (s.unplugFlight f) u := by
  unfold execFlightPresenceOpen
  rw [onUnit_fitted (decide_eq_true fit), if_neg (by simp [present])]
  exact ⟨_, rfl, State.recordIf_reach (.of_or rfl) (State.portUnplugged_reach (.of_or rfl)
    (State.portUnplugged_reach (.of_or rfl) (.refl _ _)))⟩

/-- What a closed loop makes of a flight's supply. -/
def FlightPower.plug (x : FlightPower) (feed : Bool) : FlightPower := { x with presence := true, opened := false, feedOn := feed }

/-- The mask of what starts afresh with a flight's supply: lines, ports, echo, axes, safety latches, the gallery, and what is sent. -/
def restartedFields : Nat := 36542676992

/-- After that the ports, lines and axes of the flight start afresh, and the event is recorded: its supply stands. -/
theorem execFlightPresenceClosed_plugs (fit : f < s.nFlights) (absent : (s.fpower f).presence = false)
    (closed : 4000 ≤ (s.fpower f).presRun) :
    ∃ t, execFlightPresenceClosed f s = .next t ∧ Reach restartedFields (s.modFpower f (·.plug s.configLoaded)) t := by
  unfold execFlightPresenceClosed
  rw [onUnit_fitted (decide_eq_true fit), if_neg (by simp [absent, closed])]
  refine ⟨_, rfl, State.recordIf_reach (.of_or rfl) (Reach.forEach _ (Reach.forEach _ (State.restartLines_reach (.of_or rfl)
    (State.restartEcho_reach (.of_or rfl) (State.modPort_reach (.of_or rfl) (State.modPort_reach (.of_or rfl) (.refl _ _))))) ?_) ?_)⟩
  · exact fun _ _ h => State.modAxis_reach (.of_or rfl) h
  · exact fun _ _ h => State.modPair_reach (.of_or rfl) h

end

/-- Settles O16: an open loop turns its treads OFF, and none can run before it has closed; a loop that has been closed for 4000 samples
lets them return. -/
theorem presenceLoopsGateTheTreads : Obligations.PresenceLoopsGateTheTreads := by
  unfold Obligations.PresenceLoopsGateTheTreads
  refine ⟨?moduleOpen, ?moduleClosed, ?flightOpen, ?flightClosed⟩
  case moduleOpen =>
    intro s sound present
    refine ⟨_, execModulePresenceOpen_eq present, ?_⟩
    rw [State.shutDown_supply]
    exact ⟨rfl, rfl, fun n lt => State.shutDown_off { sound with } (fun _ => State.treadEnabled_of_mpres rfl) lt,
      State.shutDown_announces rfl rfl⟩
  case moduleClosed =>
    intro s absent closed
    exact ⟨_, execModulePresenceClosed_eq absent closed, rfl, rfl⟩
  case flightOpen =>
    intro s f sound fit present
    obtain ⟨u, answer, reach⟩ := execFlightPresenceOpen_unplugs fit present
    refine ⟨_, answer, ?_⟩
    rw [State.fpower_of_flightPower ((State.causeStopsFrom_reach (.refl _) (.refl _ u)).flightPower rfl),
      State.fpower_of_flightPower (reach.flightPower rfl), State.unplugFlight_fpower (sound.fpower_lt fit)]
    refine ⟨rfl, rfl, fun n lt inFlight => State.Held.off ?_⟩
    exact ((State.unplugFlight_held (sound.fpower_lt fit) (sound.tread_lt lt) inFlight).of_reach reach rfl).causeStopsFrom
  case flightClosed =>
    intro s f sound fit absent closed
    obtain ⟨t, answer, reach⟩ := execFlightPresenceClosed_plugs fit absent closed
    refine ⟨t, answer, ?_⟩
    rw [State.fpower_of_flightPower (reach.flightPower rfl), State.fpower_modFpower (sound.fpower_lt fit)]
    exact ⟨rfl, rfl⟩

/-! ### A write of one parameter takes effect (12 R426, R427) -/

section

variable {s : State} {q : Hdr} {x : Session}

/-- The mask of what a reply changes: the host link, and what is sent. -/
def replyFields : Nat := 38654705664

/-- A write that passes leaves what its parameter's effect leaves, on the state in which the packet waits for its reply; the reply goes out
over the host link. -/
theorem State.Writes.takesEffect {r : ParRow} {i j : Nat} {v : Word} {f : HostLink → State} (h : s.Writes q r i j v x)
    (applied : ∀ k, State.applyPar { s with host := k } r i j v = (0, f k)) (keeps : ∀ k, (f k).host = k) :
    ∃ k, (s.writeOne q r i j v).Written q ∧ Reach replyFields (f k) (s.writeOne q r i j v) := by
  have effect := applied (s.afterChecks writeSpec (oneEntry q (r.pid i j) v)).host
  refine ⟨(s.afterChecks writeSpec (oneEntry q (r.pid i j) v)).host, ?_⟩
  rw [h.served (congrArg Prod.fst effect)]
  have state : (State.applyPar (s.afterChecks writeSpec (oneEntry q (r.pid i j) v)) r i j v).2 = _ := congrArg Prod.snd effect
  rw [state]
  exact ⟨h.passes.replied (keeps _) 0 0 (writeReply 0xFFFF), State.answer_reach (.refl _) (.refl _ _)⟩

/-! ### What each clearing write does when its condition holds -/

theorem State.applyPar_uvClear (latched : s.supply.uvLatched = true) (recovered : s.uvRestart ≤ s.vin) :
    s.applyPar Par.supplyUvClear 0 0 1 = (0, State.record { s with
      supply := { s.supply with uv := false, uvLatched := false, treadsFromTick := s.tick + 1 } } Evt.supplyUvRestart noSource []) := by
  show s.uvClear 1 = _
  unfold State.uvClear
  rw [if_neg (by decide), if_neg (by simp [latched, Rat.not_lt.2 recovered])]
  rfl

theorem State.applyPar_treadClear {n : Nat} (latched : (s.tread n).latchedOff = true) (cool : (s.tread n).therm = false)
    (wired : (s.tread n).wire = false) :
    s.applyPar Par.treadClear n 0 1 = (0, (s.modTread n (fun x => { x with
      latchedOff := false, used := 0, offUntil := s.tick + 1 })).record Evt.treadCleared n []) := by
  show s.treadClear n 1 = _
  unfold State.treadClear
  rw [if_neg (by decide), if_neg (by simp [latched, cool, wired])]
  rfl

theorem State.applyPar_storeyReclose {u : Nat} (tripped : (s.storey u).breakerOpen = true)
    (waited : (s.storey u).tripTick + 1000 ≤ s.stamp) :
    s.applyPar Par.storeyReclose u 0 1 = (0, ((s.modStorey u (fun x => { x with breakerOpen := false })).mapTreads (fun t x =>
      if storeyOfFlight (flightOfTread t) = u then { x with offUntil := s.tick + 1 } else x)).record Evt.storeyBreakerReclosed u []) := by
  show s.reclose u 1 = _
  unfold State.reclose
  rw [if_neg (by decide), if_neg (by simp [tripped, waited])]
  rfl

/-- The state in which the supply fault of a port is cleared. -/
def State.clearSupplyFault (s : State) (p : Nat) : State := s.modPort p (fun x => { x with supplyFault := false, supplyRun := 0 })

theorem State.applyPar_portSupplyClear {p : Nat} (fault : (s.port p).supplyFault = true)
    (waited : (s.port p).supplyFaultTick + 1000 ≤ s.stamp) :
    s.applyPar Par.portSupplyClear p 0 1 = (0, (s.clearSupplyFault p).modPort p (fun x => { x with
      encOn := (s.clearSupplyFault p).encSupplyOn p })) := by
  show s.supplyClear p 1 = _
  unfold State.supplyClear
  rw [if_neg (by decide), if_neg (by simp [fault, waited])]
  rfl

theorem State.nTreads_le {n : Nat} (fit : n < s.nTreads) : n < 96 := by
  unfold State.nTreads at fit
  split at fit <;> omega

theorem State.Sound.storey_lt {u : Nat} (h : s.Sound) (fit : u < s.nStoreys) : u < s.storeys.length := by
  rw [h.storeys]
  unfold State.nStoreys at fit
  split at fit <;> omega

theorem State.storey_of_storeys {t : State} {u : Nat} (h : t.storeys = s.storeys) : t.storey u = s.storey u := congrArg (·.getD u .reset) h

theorem State.budget_of_budgets {t : State} {lv : Nat} (flights : t.flightBudgets = s.flightBudgets)
    (storeys : t.storeyBudgets = s.storeyBudgets) (dies : t.dieBudgets = s.dieBudgets) (current : t.currentBudget = s.currentBudget)
    (thermal : t.thermalBudget = s.thermalBudget) : t.budget lv = s.budget lv := by
  unfold State.budget
  rw [flights, storeys, dies, current, thermal]

/-! ### Budget stops (01 R23, 03 R109) -/

/-- What clearing its stop makes of a budget level. -/
def Budget.clearStop (b : Budget) : Budget := { b with stopped := false, hold := 0 }

theorem Budget.stopped_modify {l : List Budget} {k i : Nat} :
    ((l.modify k Budget.clearStop).getD i .reset).stopped = (decide (k ≠ i) && (l.getD i .reset).stopped) := by
  rw [List.getD_eq_getElem?_getD, List.getD_eq_getElem?_getD, List.getElem?_modify]
  by_cases same : k = i
  · cases l[i]? <;> simp [same, Budget.clearStop, Budget.reset]
  · cases l[i]? <;> simp [same]

/-- Clearing the stop of one level sets no other, and leaves its own clear: by the ranges of levels in which the two lie. -/
theorem State.stopped_of_clearStop {k lv : Nat} (h : ((s.modBudget k Budget.clearStop).budget lv).stopped = true) :
    lv ≠ k ∧ (s.budget lv).stopped = true := by
  unfold State.modBudget at h
  unfold State.budget at h ⊢
  grind [Budget.stopped_modify, Budget.clearStop]

theorem State.stopped_of_clearStops {lv : Nat} {l : List Nat}
    (h : ((l.foldl (fun s k => s.modBudget k Budget.clearStop) s).budget lv).stopped = true) :
    lv ∉ l ∧ (s.budget lv).stopped = true := by
  induction l generalizing s with
  | nil => exact ⟨List.not_mem_nil, h⟩
  | cons k l ih =>
    obtain ⟨others, before⟩ := ih h
    obtain ⟨ne, stopped⟩ := State.stopped_of_clearStop before
    exact ⟨by simp [ne, others], stopped⟩

/-- A write that clears stops clears that of every level it names whose mean has fallen. -/
theorem State.stopClear_clears {lv : Nat} {lvs : List Nat} (named : lv ∈ lvs) (clearable : s.stopClearable lv = true) :
    (s.stopClear lvs 1).1 = 0 ∧ ((s.stopClear lvs 1).2.budget lv).stopped = false := by
  have chosen : lv ∈ lvs.filter (fun lv => s.stopClearable lv) := List.mem_filter.2 ⟨named, clearable⟩
  have cleared : s.stopClear lvs 1 =
      (0, (lvs.filter (fun lv => s.stopClearable lv)).foldl (fun s k => s.modBudget k Budget.clearStop) s) := by
    unfold State.stopClear State.clearStops
    rw [if_neg (by decide)]
    exact if_neg (by simpa using List.ne_nil_of_mem chosen)
  rw [cleared]
  exact ⟨rfl, Bool.eq_false_iff.2 fun h => (State.stopped_of_clearStops h).1 chosen⟩

/-- A write of a stop-clear parameter answers OK, and the level that it names stands no longer stopped. -/
theorem State.Writes.clearsStop {r : ParRow} {i lv : Nat} {lvs : List Nat} (h : s.Writes q r i 0 1 x)
    (clears : ∀ u : State, u.applyPar r i 0 1 = u.stopClear lvs 1) (named : lv ∈ lvs) (clearable : s.stopClearable lv = true) :
    (s.writeOne q r i 0 1).Written q ∧ ((s.writeOne q r i 0 1).budget lv).stopped = false := by
  have cleared (k : HostLink) := State.stopClear_clears (s := { s with host := k }) named clearable
  have reach (k : HostLink) := State.stopClear_reach (lvs := lvs) (v := 1) (.refl _) (.refl _ { s with host := k })
  obtain ⟨k, written, later⟩ := h.takesEffect (f := fun k => (State.stopClear { s with host := k } lvs 1).2)
    (fun k => (clears _).trans (Prod.ext (cleared k).1 rfl)) (fun k => (reach k).host rfl)
  refine ⟨written, ?_⟩
  rw [State.budget_of_budgets (later.flightBudgets rfl) (later.storeyBudgets rfl) (later.dieBudgets rfl) (later.currentBudget rfl)
    (later.thermalBudget rfl)]
  exact (cleared k).2

end

/-- Settles O49: each write takes effect on the state in which its packet waits, and its reply leaves that effect alone. -/
theorem clearingWritesClear : Obligations.ClearingWritesClear := by
  unfold Obligations.ClearingWritesClear
  refine ⟨?uv, ?tread, ?reclose, ?port, ?storeyStop, ?flightStop, ?sysStop⟩
  case uv =>
    intro s q x writes latched recovered
    obtain ⟨k, written, later⟩ := writes.takesEffect (fun k => State.applyPar_uvClear (s := { s with host := k }) latched recovered)
      (fun _ => State.record_host)
    have supply := (later.supply rfl).trans State.record_supply
    exact ⟨_, rfl, written, congrArg Supply.uv supply, congrArg Supply.uvLatched supply, congrArg Supply.treadsFromTick supply,
      State.announces_record later rfl rfl⟩
  case tread =>
    intro s q x n sound fit writes latched cool wired
    obtain ⟨k, written, later⟩ := writes.takesEffect
      (fun k => State.applyPar_treadClear (s := { s with host := k }) latched cool wired) (fun _ => State.record_host)
    have tread := (State.tread_of_treads ((later.treads rfl).trans State.record_treads)).trans
      (State.tread_modTread (s := { s with host := k }) (sound.tread_lt (State.nTreads_le fit)))
    exact ⟨_, rfl, written, congrArg Tread.latchedOff tread, congrArg Tread.used tread, congrArg Tread.offUntil tread,
      State.announces_record later rfl rfl⟩
  case reclose =>
    intro s q x u sound fit writes tripped waited
    obtain ⟨k, written, later⟩ := writes.takesEffect
      (fun k => State.applyPar_storeyReclose (s := { s with host := k }) tripped waited) (fun _ => State.record_host)
    have storey := (State.storey_of_storeys ((later.storeys rfl).trans State.record_storeys)).trans
      (State.storey_modStorey (s := { s with host := k }) (sound.storey_lt fit))
    exact ⟨_, rfl, written, congrArg Storey.breakerOpen storey, State.announces_record later rfl rfl⟩
  case port =>
    intro s q x p sound fit writes fault waited
    obtain ⟨k, written, later⟩ := writes.takesEffect
      (fun k => State.applyPar_portSupplyClear (s := { s with host := k }) fault waited) (fun _ => rfl)
    have lt := sound.port_lt fit
    have port := State.port_of_ports (p := p) (later.ports rfl)
    rw [State.port_modPort (by simpa [State.clearSupplyFault] using lt)] at port
    have cleared := State.port_modPort (s := { s with host := k }) (f := fun x => { x with supplyFault := false, supplyRun := 0 }) lt
    exact ⟨_, rfl, written, (congrArg Port.supplyFault port).trans (congrArg Port.supplyFault cleared)⟩
  case storeyStop =>
    intro s q x u lv sound fit writes level clearable
    obtain ⟨written, stopped⟩ := writes.clearsStop (lvs := [12 + u, 16 + dieOfStorey u]) (fun _ => rfl) (by simpa using level) clearable
    exact ⟨_, rfl, written, stopped⟩
  case flightStop =>
    intro s q x f sound fit writes clearable
    obtain ⟨written, stopped⟩ := writes.clearsStop (lvs := [f]) (fun _ => rfl) (List.mem_singleton_self f) clearable
    exact ⟨_, rfl, written, stopped⟩
  case sysStop =>
    intro s q x lv writes level clearable
    obtain ⟨written, stopped⟩ := writes.clearsStop (lvs := [18, 19]) (fun _ => rfl) (by simpa using level) clearable
    exact ⟨_, rfl, written, stopped⟩

/-! ### The ports of the ring (13 R441, R442, R445, R447) -/

section

variable {s t : State} {p : Nat}

theorem ringEvent_powered {act : State → State} (fit : s.hasRing = true) (port : p < 2) (power : s.railsUp .a = true) :
    ringEvent p s act = .next (act s) := by
  unfold ringEvent
  rw [if_pos (by simp [fit, port]), if_pos power]

theorem ringEvent_unpowered {act : State → State} (fit : s.hasRing = true) (port : p < 2) (lost : s.railsUp .a = false) :
    ringEvent p s act = .next s := by
  unfold ringEvent
  rw [if_pos (by simp [fit, port]), if_neg (by simp [lost])]

theorem State.ringPort_of_ring (h : t.ring = s.ring) : t.ringPort p = s.ringPort p := congrArg (fun r : Ring => r.ports.getD p .reset) h

theorem State.ringPort_modRingPort {f : RingPort → RingPort} (lt : p < s.ring.ports.length) :
    (s.modRingPort p f).ringPort p = f (s.ringPort p) := by
  simp [State.ringPort, State.modRingPort, lt]

@[simp] theorem State.recordIf_ring {c : Bool} {e : EvCode} {n : Nat} {args : List (BitVec 32)} :
    (s.recordIf c e n args).ring = s.ring := by
  unfold State.recordIf
  split
  · exact State.record_ring
  · rfl

theorem execRingSignalDetect_eq (fit : s.hasRing = true) (port : p < 2) (power : s.railsUp .a = true) (down : (s.ringPort p).st = 0) :
    execRingSignalDetect p s = .next (s.modRingPort p (fun x => { x with st := 1, signal := true, trainTick := s.stamp })) :=
  (ringEvent_powered fit port power).trans (congrArg _ (if_pos down))

theorem execRingTrainingRetry_eq (fit : s.hasRing = true) (port : p < 2) (power : s.railsUp .a = true) (training : (s.ringPort p).st = 1)
    (late : (s.ringPort p).trainTick + 50 ≤ s.tick) :
    execRingTrainingRetry p s = .next (s.modRingPort p (fun x => { x with trainTick := s.stamp })) :=
  (ringEvent_powered fit port power).trans (congrArg _ (if_pos (by simp [training, late])))

/-- A port whose training has succeeded: held PENDING while the ring is in service. -/
def RingPort.linked (x : RingPort) (pend : Prop) [Decidable pend] (roundTrip : Rat) (eq : Nat) : RingPort :=
  { x with st := if pend then 3 else 2, delay := roundTrip / 2, eq := eq % 32 }

theorem execRingLinkUp_ring {eq : Nat} {trip : Rat} (fit : s.hasRing = true) (port : p < 2) (power : s.railsUp .a = true)
    (training : (s.ringPort p).st = 1) :
    ∃ t, execRingLinkUp p trip eq s = .next t ∧ t.ring = (s.modRingPort p (·.linked (s.ring.st = 2) trip eq)).ring := by
  unfold execRingLinkUp
  rw [ringEvent_powered fit port power, if_neg (by simp [training])]
  refine ⟨_, rfl, ?_⟩
  extract_lets pend linked recorded
  have kept : recorded.ring = linked.ring := State.recordIf_ring
  split <;> exact kept.trans (by simp [linked, pend, RingPort.linked])

/-- A port that is taken down: without signal, or to train again. -/
def State.downRingPort (s : State) (p n : Nat) : State :=
  (s.modRingPort p (fun x => { x with errors := x.errors + word32 n })).modRingPort p (fun x => { x with
    st := if n = 0 then 0 else 1, signal := n ≠ 0, trainTick := s.stamp })

theorem State.ringPort_downRingPort {n : Nat} (lt : p < s.ring.ports.length) :
    (s.downRingPort p n).ringPort p = { s.ringPort p with
      errors := (s.ringPort p).errors + word32 n, st := if n = 0 then 0 else 1, signal := n ≠ 0, trainTick := s.stamp } := by
  unfold State.downRingPort
  rw [State.ringPort_modRingPort (by simpa [State.modRingPort] using lt), State.ringPort_modRingPort lt]

/-- A module that forms and is left with no port up is ALONE (13 R445). -/
def State.aloneWithoutPort (s : State) : State := if s.ring.st = 1 && !s.ringCanForm then { s with ring := s.ring.alone } else s

theorem State.aloneWithoutPort_reach : Reach 8589934592 s s.aloneWithoutPort :=
  Reach.ite (fun _ => Reach.set_ring (.refl _) (.refl _ s)) (fun _ => .refl _ s)

theorem State.ringPort_aloneWithoutPort : s.aloneWithoutPort.ringPort p = s.ringPort p := by
  unfold State.aloneWithoutPort
  split <;> rfl

theorem State.aloneWithoutPort_st (forms : s.ring.st = 1) (unable : s.aloneWithoutPort.ringCanForm = false) :
    s.aloneWithoutPort.ring.st = 0 := by
  unfold State.aloneWithoutPort at unable ⊢
  split at unable
  next left => rw [if_pos left]; rfl
  next stays => simp [forms, unable] at stays

theorem execRingPortDown_falls {n : Nat} (fit : s.hasRing = true) (port : p < 2) (power : s.railsUp .a = true)
    (lt : p < s.ring.ports.length) (falls : n = 0 ∨ 2 ≤ (s.ringPort p).st ∧ 16 ≤ n) :
    execRingPortDown p n s = .next ((s.downRingPort p n).recordIf (2 ≤ (s.ringPort p).st) Evt.ringPortDown noSource
      [word32 p, (s.ringPort p).errors + word32 n]).aloneWithoutPort := by
  have errors := congrArg RingPort.errors (State.ringPort_downRingPort (n := n) lt)
  rw [show (s.ringPort p).errors + word32 n = _ from errors.symm]
  refine (ringEvent_powered fit port power).trans (congrArg _ (if_neg ?_))
  rcases falls with rfl | ⟨up, many⟩
  · simp
  · simp [up, many]

theorem execRingPortDown_counts {n : Nat} (fit : s.hasRing = true) (port : p < 2) (power : s.railsUp .a = true) (some' : n ≠ 0)
    (stands : n < 16 ∨ (s.ringPort p).st < 2) :
    execRingPortDown p n s = .next (s.modRingPort p (fun x => { x with errors := x.errors + word32 n })) := by
  refine (ringEvent_powered fit port power).trans (congrArg _ (if_pos ?_))
  rcases stands with few | down
  · simp [some', few]
  · simp [some', down]

/-! ### Forming (13 R443 to R446) -/

theorem State.ringCanForm_record {e : EvCode} {n : Nat} {args : List (BitVec 32)} : (s.record e n args).ringCanForm = s.ringCanForm := by
  unfold State.ringCanForm State.hasRing State.ringBypass State.configLoaded State.mode State.parN State.par
  simp

theorem State.ringTrigger_able (h : s.ringCanForm = true) :
    s.ringTrigger = { s with ring := { s.ring.alone with st := 1, trigger := some s.stamp } } := if_pos h

theorem State.ringTrigger_unable (h : s.ringCanForm = false) : s.ringTrigger = { s with ring := s.ring.alone } :=
  if_neg (by simp [h])

theorem State.ringTrigger_leaves : s.ringTrigger.ring.st = (if s.ringCanForm then 1 else 0) ∧ s.ringTrigger.ring.members = [] := by
  cases able : s.ringCanForm with
  | true =>
    rw [State.ringTrigger_able able]
    exact ⟨rfl, rfl⟩
  | false =>
    rw [State.ringTrigger_unable able]
    exact ⟨rfl, rfl⟩

theorem execRingLost_missed (fit : s.hasRing = true) (member : s.ring.st = 2) (missed : 2 ≤ s.ring.missRun) :
    execRingLost 0 s = .next (s.record Evt.ringLost noSource [0]).ringTrigger := by
  unfold execRingLost
  rw [if_neg (by simp [fit])]
  exact congrArg _ (if_pos (by simp [member, missed]))

theorem execRingFormTrigger_eq (fit : s.hasRing = true) (apart : s.ring.st ≠ 1) (able : s.ringCanForm = true) :
    execRingFormTrigger s = .next s.ringTrigger := by
  unfold execRingFormTrigger
  rw [if_neg (by simp [fit]), if_pos (by simp [apart, able])]

/-- Folding over a list keeps what every step keeps. -/
theorem State.foldl_keeps {α β : Type} (g : State → α) {f : State → β → State} (keeps : ∀ u i, g (f u i) = g u) (l : List β)
    (s : State) : g (l.foldl f s) = g s :=
  List.foldlRecOn (motive := fun u => g u = g s) l f rfl fun u h i _ => (keeps u i).trans h

/-- What forming decides of the ring: its state, members, head, frame length, count of formings, and topology. -/
def Ring.formation (r : Ring) : Nat × List Nat × Nat × Nat × BitVec 32 × Nat :=
  (r.st, r.members, r.head, r.frameLen, r.formings, r.topology)

theorem State.ringSample_formation : s.ringSample.ring.formation = s.ring.formation := by
  unfold State.ringSample
  split <;> rfl

theorem State.ringSums_formation : s.ringSums.ring.formation = s.ring.formation := by
  unfold State.ringSums
  split <;> rfl

theorem State.ringFormed_formation (r : FormIn) : (s.ringFormed r).ring.formation =
    (2, formAddrs r, formHead r, formLen r, s.ring.formings + 1, if r.closed then 1 else 2) := by
  unfold State.ringFormed
  refine (State.foldl_keeps (fun u => u.ring.formation) (fun u e => ?_) _ _).trans ?_
  · split
    · rfl
    · rw [State.record_ring]
  · rw [State.record_ring, State.ringSums_formation, State.ringSample_formation]
    rfl

theorem formAddrs_min?_of_contains {r : FormIn} {a : Nat} (named : (formAddrs r).contains a = true) :
    (formAddrs r).min? = some (formHead r) := by
  cases least : (formAddrs r).min? with
  | none => simp [List.min?_eq_none_iff.1 least] at named
  | some m => simp [formHead, least]

/-- Forming goes on: this member has been found, and nothing waits. -/
structure State.Forms (s : State) (r : FormIn) : Prop where
  fit : s.hasRing = true
  forms : s.ring.st = 1
  found : (formAddrs r).contains s.sealAddr = true
  able : s.ringCanForm = true
  done : s.formWaits r = false

theorem execFormWaitEnd_formed {r : FormIn} (h : s.Forms r) (passes : formRefusal (s.closes r) s.tCyc = 0) :
    execFormWaitEnd r s = .next (s.ringFormed (s.closes r)) := by
  unfold execFormWaitEnd
  rw [if_neg (by simp [h.fit]), if_neg (by simpa [h.forms, h.done] using h.found), if_neg (by simp [h.able])]
  exact congrArg _ (if_pos passes)

theorem execFormWaitEnd_refused {r : FormIn} (h : s.Forms r) (fails : formRefusal (s.closes r) s.tCyc ≠ 0) :
    ∃ t, execFormWaitEnd r s = .next t ∧ t.ring = { s.ring.alone with refuseCause := formRefusal (s.closes r) s.tCyc } := by
  unfold execFormWaitEnd
  rw [if_neg (by simp [h.fit]), if_neg (by simpa [h.forms, h.done] using h.found), if_neg (by simp [h.able])]
  refine ⟨_, congrArg _ (if_neg fails), ?_⟩
  split <;> exact State.record_ring

theorem execFormWaitEnd_waits {r : FormIn} (fit : s.hasRing = true) (waits : s.formWaits r = true) :
    execFormWaitEnd r s = .next s := by
  unfold execFormWaitEnd
  rw [if_neg (by simp [fit]), if_pos (by simp [waits])]

/-! ### What reading the slots of a frame leaves alone (13 R448, R450) -/

/-- The ring without what it takes out of the slots of frames: channels, marks of what has been read, and summaries. -/
def Ring.framing (r : Ring) : Ring := { r with masters := [], seen := [], lateSeen := [], sums := [], train := 0 }

theorem Ring.framing_turnFrames (r : Ring) : r.turnFrames.framing = r.framing.turnFrames := rfl

/-- What the passing of a frame rests on: the ring but for the contents of slots, and the seal read. -/
def State.wire (s : State) : Ring × Seal := (s.ring.framing, s.safety.sealRd)

theorem State.takeCh_wire {e : Bytes} : (s.takeCh e).wire = s.wire := by
  unfold State.takeCh
  split <;> rfl

theorem State.takeChs_wire {x : Nat × Nat × Nat} {bs : Bytes} : (s.takeChs x bs).wire = s.wire :=
  State.foldl_keeps State.wire (fun _ _ => State.takeCh_wire) _ s

theorem State.vsfArrive_wire {c : Nat} {bs : Bytes} : (s.vsfArrive c bs).wire = s.wire := by
  unfold State.vsfArrive
  split <;> rfl

theorem State.takeSf_wire {bs : Bytes} : (s.takeSf bs).wire = s.wire := by
  unfold State.takeSf
  split
  · rfl
  · split
    · rfl
    · exact State.vsfArrive_wire

theorem State.takeSlot_wire {x : Nat × Nat × Nat} {bs : Bytes} : (s.takeSlot x bs).wire = s.wire := by
  unfold State.takeSlot
  split
  · rfl
  · exact (State.foldl_keeps State.wire (fun _ _ => State.takeSf_wire) _ _).trans State.takeChs_wire

theorem State.readSlots_wire {tick : BitVec 32} {bs : Bytes} : (s.readSlots tick bs).wire = s.wire :=
  State.foldl_keeps State.wire (fun _ _ => State.takeSlot_wire) _ s

theorem State.readFrame_wire {tick : BitVec 32} {bs : Bytes} : (s.readFrame tick bs).wire = s.wire := by
  unfold State.readFrame
  split
  · exact State.readSlots_wire
  · split
    · have read := State.readSlots_wire (s := { s with ring := s.ring.turnFrames }) (tick := tick) (bs := bs)
      -- two turns of the frames are none
      exact congrArg (fun w : Ring × Seal => (w.1.turnFrames, w.2)) read
    · rfl

theorem State.ringSummary_wire {tick : BitVec 32} {bs : Bytes} : (s.ringSummary tick bs).wire = s.wire := rfl

/-! ### A frame passes a member (13 R442, R448, R453, R458) -/

/-- What passing a frame on rests on stands in `t` as in `s`: the ports, the head, and this member's address. -/
structure State.SameLinks (s t : State) : Prop where
  ports : t.ring.ports = s.ring.ports
  head : t.ring.head = s.ring.head
  sealRd : t.safety.sealRd = s.safety.sealRd

namespace State.SameLinks

theorem of_wire (h : t.wire = s.wire) : s.SameLinks t :=
  ⟨congrArg (fun w : Ring × Seal => w.1.ports) h, congrArg (fun w : Ring × Seal => w.1.head) h, congrArg Prod.snd h⟩

theorem trans {u : State} (h : s.SameLinks t) (k : t.SameLinks u) : s.SameLinks u :=
  ⟨k.ports.trans h.ports, k.head.trans h.head, k.sealRd.trans h.sealRd⟩

theorem ringPort (h : s.SameLinks t) (q : Nat) : t.ringPort q = s.ringPort q := congrArg (·.getD q .reset) h.ports

theorem ringOut (h : s.SameLinks t) (q : Nat) : t.ringOut q = s.ringOut q := by
  unfold State.ringOut
  rw [h.ringPort]

theorem headPort (h : s.SameLinks t) : t.headPort = s.headPort := by
  unfold State.headPort
  rw [h.ringPort]

theorem homePort (h : s.SameLinks t) : t.homePort = s.homePort := by
  unfold State.homePort
  rw [h.ringPort]

theorem sealAddr (h : s.SameLinks t) : t.sealAddr = s.sealAddr := by
  unfold State.sealAddr
  rw [h.sealRd]

end State.SameLinks

theorem State.hear_late {tick : BitVec 32} {err : Rat} (late : 20000 < err) : s.hear tick err = s := if_pos late

theorem State.hear_timely {tick : BitVec 32} {err : Rat} (timely : err ≤ 20000) :
    s.hear tick err = { s with ring := { s.ring with heard := some tick, missRun := 0 } } := if_neg (Rat.not_lt.2 timely)

theorem State.hear_sameLinks {tick : BitVec 32} {err : Rat} : s.SameLinks (s.hear tick err) := by
  unfold State.hear
  split <;> exact ⟨rfl, rfl, rfl⟩

theorem State.ringTime_ring {err : Rat} :
    ∃ e n k, (s.ringTime err).ring = { s.ring with timeErr := e, errRun := n, slewTicks := k } := by
  unfold State.ringTime
  extract_lets run
  split
  · exact ⟨_, _, _, rfl⟩
  · split
    · exact ⟨_, _, _, State.record_ring⟩
    · exact ⟨_, _, _, rfl⟩

theorem State.firstPass_ring {tick : BitVec 32} {bs : Bytes} {err : Rat} {lap2 : Bool} :
    ∃ id c e n k, (s.firstPass tick bs err lap2).ring = { s.ring with
      lastFrame := some tick, seen := [], formId := id, cycleTick := c, timeErr := e, errRun := n, slewTicks := k } := by
  unfold State.firstPass
  cases lap2
  · obtain ⟨e, n, k, ring⟩ := State.ringTime_ring
    exact ⟨_, _, e, n, k, ring⟩
  · exact ⟨_, _, _, _, _, rfl⟩

theorem State.firstPass_sameLinks {tick : BitVec 32} {bs : Bytes} {err : Rat} {lap2 : Bool} :
    s.SameLinks (s.firstPass tick bs err lap2) := by
  obtain ⟨id, c, e, n, k, ring⟩ := State.firstPass_ring (s := s) (tick := tick) (bs := bs) (err := err) (lap2 := lap2)
  have reach := State.firstPass_reach (tick := tick) (bs := bs) (err := err) (lap2 := lap2) (.refl _) (.refl _ s)
  exact ⟨by rw [ring], by rw [ring], congrArg Safety.sealRd (reach.safety rfl)⟩

theorem State.firstPass_base {tick : BitVec 32} {bs : Bytes} {err : Rat} : (s.firstPass tick bs err false).clock.base =
    (tick - word32 (s.tick - (s.ring.delayUs / 1000).floor.toNat)).toNat :=
  congrArg Clock.base ((State.ringTime_reach (.refl _) (.refl _ _)).clock rfl)

/-- RING_TICK of a frame that arrives, and whether it is on lap 2. -/
def ringTickOf (r : RingIn) : BitVec 32 := word32 (fieldAt r.bytes 0 4)
def onLap2 (r : RingIn) : Bool := (fieldAt r.bytes 9 1).testBit 2

/-- The passage is the first of its frame at this member, which is not the head. -/
def State.passesFirst (s : State) (r : RingIn) : Bool := s.ring.head ≠ s.sealAddr && s.ring.lastFrame ≠ some (ringTickOf r)

/-- The member has heard the header, and on a first passage noted the frame. -/
def State.noted (s : State) (r : RingIn) : State :=
  if s.passesFirst r then (s.hear (ringTickOf r) r.err).firstPass (ringTickOf r) r.bytes r.err (onLap2 r) else s.hear (ringTickOf r) r.err

/-- The frame as this member passes it on: with its own slot, on a first passage in lap 1. -/
def State.carried (s : State) (r : RingIn) : Bytes :=
  if s.passesFirst r && !onLap2 r then (s.noted r).writeSlot (ringTickOf r) r.bytes else r.bytes

/-- The member has read the slots. -/
def State.slotsRead (s : State) (r : RingIn) : State :=
  let u := (s.noted r).readFrame (ringTickOf r) (s.carried r)
  if onLap2 r then u.ringSummary (ringTickOf r) (s.carried r) else u

theorem State.ringPass_eq {r : RingIn} : s.ringPass r =
    let u := s.slotsRead r
    if u.ring.head = u.sealAddr && r.port = u.homePort then
      if onLap2 r then u else u.send (.ring u.headPort (asLap2 (s.carried r)))
    else u.send (.ring (u.ringOut r.port) (s.carried r)) := rfl

theorem State.slotsRead_wire {r : RingIn} : (s.slotsRead r).wire = (s.noted r).wire := by
  unfold State.slotsRead
  extract_lets u
  split
  · exact State.ringSummary_wire.trans State.readFrame_wire
  · exact State.readFrame_wire

theorem State.slotsRead_clock {r : RingIn} : (s.slotsRead r).clock = (s.noted r).clock := by
  have read := (State.readFrame_reach (tick := ringTickOf r) (bs := s.carried r) (.refl _) (.refl _ (s.noted r))).clock rfl
  unfold State.slotsRead
  extract_lets u
  split
  · exact read
  · exact read

theorem State.noted_sameLinks {r : RingIn} : s.SameLinks (s.noted r) := by
  unfold State.noted
  split
  · exact State.hear_sameLinks.trans State.firstPass_sameLinks
  · exact State.hear_sameLinks

theorem State.slotsRead_sameLinks {r : RingIn} : s.SameLinks (s.slotsRead r) :=
  State.noted_sameLinks.trans (.of_wire State.slotsRead_wire)

theorem State.noted_heard {r : RingIn} (timely : r.err ≤ 20000) :
    (s.noted r).ring.heard = some (ringTickOf r) ∧ (s.noted r).ring.missRun = 0 := by
  unfold State.noted
  rw [State.hear_timely timely]
  split
  · obtain ⟨id, c, e, n, k, ring⟩ := State.firstPass_ring
      (s := { s with ring := { s.ring with heard := some (ringTickOf r), missRun := 0 } }) (tick := ringTickOf r)
      (bs := r.bytes) (err := r.err) (lap2 := onLap2 r)
    exact ⟨congrArg Ring.heard ring, congrArg Ring.missRun ring⟩
  · exact ⟨rfl, rfl⟩

theorem State.noted_lastFrame {r : RingIn} (member : s.ring.head ≠ s.sealAddr) : (s.noted r).ring.lastFrame = some (ringTickOf r) := by
  unfold State.noted
  split
  next =>
    obtain ⟨id, c, e, n, k, ring⟩ := State.firstPass_ring (s := s.hear (ringTickOf r) r.err) (tick := ringTickOf r) (bs := r.bytes)
      (err := r.err) (lap2 := onLap2 r)
    exact congrArg Ring.lastFrame ring
  next again =>
    have seen : s.ring.lastFrame = some (ringTickOf r) := by simpa [State.passesFirst, member] using again
    unfold State.hear
    split <;> exact seen

theorem State.noted_base {r : RingIn} (member : s.ring.head ≠ s.sealAddr) (fresh : s.ring.lastFrame ≠ some (ringTickOf r))
    (lap1 : onLap2 r = false) :
    (s.noted r).clock.base = (ringTickOf r - word32 (s.tick - (s.ring.delayUs / 1000).floor.toNat)).toNat := by
  unfold State.noted
  rw [if_pos (by simp [State.passesFirst, member, fresh]), lap1, State.firstPass_base]
  unfold State.hear
  split <;> rfl

/-- A frame goes on with its header as it came. -/
theorem State.carried_header {r : RingIn} (whole : 16 ≤ r.bytes.length) : (s.carried r).take 16 = r.bytes.take 16 := by
  unfold State.carried
  split
  · exact List.take_left' (List.length_take_of_le whole)
  · rfl

theorem State.carried_again {r : RingIn} (again : s.passesFirst r = false) : s.carried r = r.bytes := by
  unfold State.carried
  rw [again]
  rfl

theorem State.headerGood_length {bs : Bytes} (h : s.headerGood bs = true) : 16 ≤ bs.length := by
  unfold State.headerGood at h
  simp only [Bool.and_eq_true, decide_eq_true_eq] at h
  omega

/-- What the ring and the clock of a member are after a frame has passed it. -/
theorem State.ringPass_slotsRead {r : RingIn} :
    (s.ringPass r).ring = (s.slotsRead r).ring ∧ (s.ringPass r).clock = (s.slotsRead r).clock := by
  rw [State.ringPass_eq]
  extract_lets u
  split
  · split <;> exact ⟨rfl, rfl⟩
  · exact ⟨rfl, rfl⟩

theorem State.ringPass_on {r : RingIn} (member : s.ring.head ≠ s.sealAddr) :
    (s.ringPass r).outs.head? = some (.ring (s.ringOut r.port) (s.carried r)) := by
  have links := State.slotsRead_sameLinks (s := s) (r := r)
  rw [State.ringPass_eq]
  extract_lets u
  rw [if_neg (by rw [links.head, links.sealAddr]; simp [member]), links.ringOut]
  rfl

theorem State.ringPass_lap2 {r : RingIn} (head : s.ring.head = s.sealAddr) (home : r.port = s.homePort) (lap1 : onLap2 r = false) :
    (s.ringPass r).outs.head? = some (.ring s.headPort (asLap2 r.bytes)) := by
  have links := State.slotsRead_sameLinks (s := s) (r := r)
  have bytes : s.carried r = r.bytes := State.carried_again (by simp [State.passesFirst, head])
  rw [State.ringPass_eq]
  extract_lets u
  rw [if_pos (by rw [links.head, links.sealAddr, links.homePort]; simp [head, home]), if_neg (by simp [lap1]), links.headPort, bytes]
  rfl

/-! ### RING_FRAME -/

theorem execRingFrame_passes {r : RingIn} (fit : s.hasRing = true) (power : s.railsUp .a = true) (port : r.port < 2)
    (up : (s.ringPort r.port).st = 2) (member : s.ring.st = 2) (good : s.headerGood r.bytes = true) (takesPart : s.ringBypass = false) :
    execRingFrame r s = .next (s.ringPass r) := by
  refine (ringEvent_powered fit port power).trans (congrArg _ ?_)
  simp [up, member, good, takesPart]

/-- A frame in which a module takes no part goes on as it came, whether the header has been heard or not. -/
theorem execRingFrame_forwards {r : RingIn} (fit : s.hasRing = true) (power : s.railsUp .a = true) (port : r.port < 2)
    (up : (s.ringPort r.port).st = 2)
    (apart : s.ring.st ≠ 2 ∨ s.headerGood r.bytes = false ∨ (s.ringBypass = true ∧ 20000 < r.err)) :
    execRingFrame r s = .next (s.send (.ring (s.ringOut r.port) r.bytes)) := by
  refine (ringEvent_powered fit port power).trans (congrArg _ ?_)
  rcases apart with away | bad | ⟨bypass, late⟩
  · simp [up, away]
  · simp [up, bad]
  · simp [up, bypass, State.hear_late late]

theorem execRingFrame_hears {r : RingIn} (fit : s.hasRing = true) (power : s.railsUp .a = true) (port : r.port < 2)
    (up : (s.ringPort r.port).st = 2) (member : s.ring.st = 2) (good : s.headerGood r.bytes = true) (bypass : s.ringBypass = true) :
    execRingFrame r s = .next ((s.hear (ringTickOf r) r.err).send (.ring (s.ringOut r.port) r.bytes)) := by
  refine (ringEvent_powered fit port power).trans (congrArg _ ?_)
  simp [up, member, good, bypass, ringTickOf]

theorem execRingFrame_down {r : RingIn} (fit : s.hasRing = true) (port : r.port < 2) (down : (s.ringPort r.port).st ≠ 2) :
    execRingFrame r s = .next s := by
  cases power : s.railsUp .a with
  | true => exact (ringEvent_powered fit port power).trans (congrArg _ (if_pos down))
  | false => exact ringEvent_unpowered fit port power

end

/-- Settles O48: a port by its own rows; forming by what it decides of the ring; and a frame by what the reading of its slots leaves
alone, since it then goes on by the ports, and from the head, that stood when it came. -/
theorem ringsTrainFormAndPassFrames : Obligations.RingsTrainFormAndPassFrames := by
  unfold Obligations.RingsTrainFormAndPassFrames
  refine ⟨?detect, ?retry, ?linkUp, ?falls, ?trainingFalls, ?counts, ?lost, ?trigger, ?formed, ?refused, ?waits, ?passes, ?forwards,
    ?hears, ?down, ?unpowered⟩
  case detect =>
    intro s p fit power port lt down
    exact ⟨_, execRingSignalDetect_eq fit port power down, State.ringPort_modRingPort lt⟩
  case retry =>
    intro s p fit power port lt training late
    exact ⟨_, execRingTrainingRetry_eq fit port power training late, State.ringPort_modRingPort lt⟩
  case linkUp =>
    intro s p eq trip fit power port lt training
    obtain ⟨t, answer, ring⟩ := execRingLinkUp_ring (eq := eq) (trip := trip) fit port power training
    have linked := (State.ringPort_of_ring ring).trans (State.ringPort_modRingPort lt)
    exact ⟨t, answer, congrArg RingPort.st linked, congrArg RingPort.delay linked⟩
  case falls =>
    intro s p n fit power port lt up violations
    have falls : n = 0 ∨ 2 ≤ (s.ringPort p).st ∧ 16 ≤ n := violations.imp_right fun many => ⟨up, many⟩
    refine ⟨_, execRingPortDown_falls fit port power lt falls, ?_⟩
    rw [show (s.downRingPort p n).recordIf _ _ _ _ = _ from if_pos (decide_eq_true up), State.ringPort_aloneWithoutPort,
      State.ringPort_of_ring State.record_ring, State.ringPort_downRingPort lt]
    refine ⟨rfl, rfl, fun forms unable => State.aloneWithoutPort_st ?_ unable, ?_⟩
    · rw [State.record_ring]
      exact forms
    · exact State.announces_record State.aloneWithoutPort_reach rfl rfl
  case trainingFalls =>
    intro s p fit power port lt training
    refine ⟨_, execRingPortDown_falls fit port power lt (.inl rfl), ?_⟩
    rw [show (s.downRingPort p 0).recordIf _ _ _ _ = _ from if_neg (by simpa using training), State.ringPort_aloneWithoutPort,
      State.ringPort_downRingPort lt]
    exact ⟨rfl, State.aloneWithoutPort_reach.outs rfl⟩
  case counts =>
    intro s p n fit power port lt some' stands
    exact ⟨_, execRingPortDown_counts fit port power some' stands, State.ringPort_modRingPort lt, rfl⟩
  case lost =>
    intro s fit member missed
    obtain ⟨st, members⟩ := State.ringTrigger_leaves (s := s.record Evt.ringLost noSource [0])
    rw [State.ringCanForm_record] at st
    exact ⟨_, execRingLost_missed fit member missed, st, members,
      State.announces_record (State.ringTrigger_reach (.refl _) (.refl _ _)) rfl rfl⟩
  case trigger =>
    intro s fit apart able
    refine ⟨_, execRingFormTrigger_eq fit apart able, ?_⟩
    rw [State.ringTrigger_able able]
    exact ⟨rfl, rfl, rfl⟩
  case formed =>
    intro s r fit forms found able done passes
    have formation := State.ringFormed_formation (s := s) (s.closes r)
    simp only [Ring.formation, Prod.mk.injEq] at formation
    obtain ⟨st, members, head, frameLen, formings, topology⟩ := formation
    refine ⟨_, execFormWaitEnd_formed ⟨fit, forms, found, able, done⟩ passes, st, members, ?_, frameLen, formings, topology⟩
    rw [head]
    exact formAddrs_min?_of_contains found
  case refused =>
    intro s r fit forms found able done fails
    obtain ⟨t, answer, ring⟩ := execFormWaitEnd_refused ⟨fit, forms, found, able, done⟩ fails
    exact ⟨t, answer, congrArg Ring.st ring, congrArg Ring.refuseCause ring⟩
  case waits =>
    intro s r fit waits
    exact execFormWaitEnd_waits fit waits
  case passes =>
    intro s r tick fit power port up member good takesPart named
    subst named
    obtain ⟨ring, clock⟩ := State.ringPass_slotsRead (s := s) (r := r)
    have wire := State.slotsRead_wire (s := s) (r := r)
    refine ⟨_, execRingFrame_passes fit power port up member good takesPart, fun timely => ?_, fun notHead => ⟨?_, ?_, ?_⟩,
      fun head home lap1 => ?_⟩
    · rw [ring]
      obtain ⟨heard, missRun⟩ := State.noted_heard (s := s) timely
      exact ⟨(congrArg (fun w : Ring × Seal => w.1.heard) wire).trans heard,
        (congrArg (fun w : Ring × Seal => w.1.missRun) wire).trans missRun⟩
    · rw [ring]
      exact (congrArg (fun w : Ring × Seal => w.1.lastFrame) wire).trans (State.noted_lastFrame notHead)
    · intro fresh lap1
      rw [clock, State.slotsRead_clock]
      exact State.noted_base notHead fresh lap1
    · exact ⟨_, State.ringPass_on notHead, State.carried_header (State.headerGood_length good),
        fun again => State.carried_again (by simp [State.passesFirst, ringTickOf, again])⟩
    · exact State.ringPass_lap2 head home lap1
  case forwards =>
    intro s r fit power port up apart
    exact execRingFrame_forwards fit power port up apart
  case hears =>
    intro s r fit power port up member good bypass timely
    refine ⟨_, execRingFrame_hears fit power port up member good bypass, ?_⟩
    rw [State.hear_timely timely]
    exact ⟨rfl, rfl⟩
  case down =>
    intro s r fit port down
    exact execRingFrame_down fit port down
  case unpowered =>
    intro s c p fit lost port event
    rcases event with rfl | rfl | ⟨trip, eq, rfl⟩ | ⟨n, rfl⟩ | ⟨r, rfl, rfl⟩
    · exact ringEvent_unpowered fit port lost
    · exact ringEvent_unpowered fit port lost
    · show execRingLinkUp p trip eq s = _
      exact ringEvent_unpowered fit port lost
    · show execRingPortDown p n s = _
      exact ringEvent_unpowered fit port lost
    · show execRingFrame r s = _
      exact ringEvent_unpowered fit port lost

end Sys2Proof.Machine
end

section
/-! PROOFS of the family of 03_treads.md: notices that leave a tread on, its re-arm, its retries and their count (O18). -/

namespace Sys2Proof.Machine

section

variable {s : State} {n : Nat}

theorem State.Sound.tread_fitted (h : s.Sound) (fit : n < s.nTreads) : n < s.treads.length := h.tread_lt (State.nTreads_le fit)

/-! ### Notices that leave a tread on (03 R92, R93, R99) -/

/-- A tread that notes something about itself: nothing else of it changes, and the event goes out. -/
theorem State.noted_leaves {f : Tread → Tread} {e : EvCode} {args : List (BitVec 32)} (lt : n < s.treads.length) :
    let t := (s.modTread n f).record e n args
    t.tread n = f (s.tread n) ∧ s.Announces e n args t :=
  ⟨(State.tread_of_treads State.record_treads).trans (State.tread_modTread lt), State.announces_record (.refl 0 _) rfl rfl⟩

theorem execTreadIlim_eq (fit : n < s.nTreads) (long : 8 ≤ (s.tread n).limitRun) (armed : (s.tread n).ilimArmed = true) :
    execTreadIlim n s = .next ((s.modTread n ({ · with ilimArmed := false })).record Evt.treadIlim n
      (toReal32 (s.effectiveLimit n) :: s.treadArgs n)) :=
  (onUnit_fitted (decide_eq_true fit)).trans (congrArg _ (if_pos (by simp [long, armed])))

theorem execTreadPeakClamp_eq (fit : n < s.nTreads) (spent : peakAllowance ≤ (s.tread n).e) (free : (s.tread n).clamp = false) :
    execTreadPeakClamp n s = .next ((s.modTread n ({ · with clamp := true })).record Evt.treadPeakClamp n []) :=
  (onUnit_fitted (decide_eq_true fit)).trans (congrArg _ (if_pos (by simp [spent, free])))

theorem execTreadOpenLoad_eq (fit : n < s.nTreads) (long : 800 ≤ (s.tread n).openRun) (loaded : (s.tread n).openLoad = false) :
    execTreadOpenLoad n s = .next ((s.modTread n ({ · with openLoad := true })).record Evt.treadOpenLoad n []) :=
  (onUnit_fitted (decide_eq_true fit)).trans (congrArg _ (if_pos (by simp [long, loaded])))

/-! ### Re-arm (03 R95, R101) -/

/-- A tread whose thermal latch has cooled: the latch is clear, and a retry is due unless limp-home holds the die (02 R72). -/
def Tread.rearmed (x : Tread) (held : Bool) (due : Nat) : Tread :=
  { x with therm := false, waitRearm := false, retryAt := if held then x.retryAt else some due }

/-- With the wire latch clear, a cooled thermal latch was the last one, so its re-arm ends the wait of the trip. -/
theorem execTreadRearm_cooled (fit : n < s.nTreads) (lt : n < s.treads.length) (therm : (s.tread n).therm = true)
    (wire : (s.tread n).wire = false) (waits : (s.tread n).waitRearm = true) (unspent : (s.tread n).latchedOff = false)
    (hi : (s.tread n).tjHi < rearmTemp) (lo : (s.tread n).tjLo < rearmTemp) :
    ∃ t, execTreadRearm n s = .next t ∧
      t.tread n = (s.tread n).rearmed (s.limpHolds n) (s.tick + 1 + s.parN Par.treadRetryDelay n 0) := by
  refine ⟨_, onUnit_fitted (decide_eq_true fit), (State.tread_modTread lt).trans ?_⟩
  cases held : s.limpHolds n <;> simp [Tread.rearmed, therm, wire, waits, unspent, hi, lo]

/-! ### Retries and their count (03 R101, R103) -/

/-- A tread whose retry delay has ended: one more attempt is used. -/
def Tread.retried (x : Tread) : Tread := { x with retryAt := none, used := x.used + 1 }

/-- Following its commanded mode again changes the running mode of a tread alone. -/
theorem State.refreshTread_changesMode (x : Tread) : ∃ m, s.refreshTread n x = { x with mode := m } := by
  unfold State.refreshTread
  split
  · exact ⟨x.mode, rfl⟩
  · exact ⟨_, rfl⟩

/-- A tread that is retried: it is available again, and follows its commanded mode as far as it may. -/
def State.retryTread (s : State) (n : Nat) : State :=
  let u := s.modTread n Tread.retried
  u.modTread n (u.refreshTread n)

theorem State.tread_retryTread (lt : n < s.treads.length) : ∃ m, (s.retryTread n).tread n = { (s.tread n).retried with mode := m } := by
  unfold State.retryTread
  rw [State.tread_modTread (by simpa using lt), State.tread_modTread lt]
  exact State.refreshTread_changesMode _

theorem execTreadRetry_due {due : Nat} (fit : n < s.nTreads) (waits : (s.tread n).retryAt = some due) (late : due ≤ s.tick)
    (therm : (s.tread n).therm = false) (wire : (s.tread n).wire = false) :
    execTreadRetry n s =
      .next ((s.retryTread n).record Evt.treadRetry n [word32 ((s.retryTread n).tread n).used]) := by
  refine (onUnit_fitted (decide_eq_true fit)).trans (congrArg _ ?_)
  rw [waits]
  exact if_neg (by simp [late, therm, wire])

/-- The count of attempts returns to 0 at the end of the window after the last trip, and stands before it. -/
theorem execRetryCountReset_used {last : Nat} (fit : n < s.nTreads) (lt : n < s.treads.length) (tripped : (s.tread n).lastTrip = some last) :
    ∃ t, execRetryCountReset n s = .next t ∧
      (t.tread n).used = if last + 1000 * s.parN Par.treadRetryClear n 0 ≤ s.tick then 0 else (s.tread n).used := by
  refine ⟨_, onUnit_fitted (decide_eq_true fit), ?_⟩
  rw [tripped]
  dsimp only
  split
  · exact congrArg Tread.used (State.tread_modTread lt)
  · rfl

end

/-- Settles O18: a notice changes its own flag of the tread alone; a re-arm that leaves no latch ends the wait of the trip and, but under
limp-home, starts the retry delay; a retry uses one attempt; and the count of attempts falls when its window has passed. -/
theorem treadsStayOnRearmAndRetry : Obligations.TreadsStayOnRearmAndRetry := by
  unfold Obligations.TreadsStayOnRearmAndRetry
  refine ⟨?ilim, ?peakClamp, ?openLoad, ?rearm, ?retry, ?countReset⟩
  case ilim =>
    intro s n sound fit long armed
    exact ⟨_, execTreadIlim_eq fit long armed, State.noted_leaves (sound.tread_fitted fit)⟩
  case peakClamp =>
    intro s n sound fit spent free
    exact ⟨_, execTreadPeakClamp_eq fit spent free, State.noted_leaves (sound.tread_fitted fit)⟩
  case openLoad =>
    intro s n sound fit long loaded
    exact ⟨_, execTreadOpenLoad_eq fit long loaded, State.noted_leaves (sound.tread_fitted fit)⟩
  case rearm =>
    intro s n sound fit therm wire waits unspent hi lo
    obtain ⟨t, answer, tread⟩ := execTreadRearm_cooled fit (sound.tread_fitted fit) therm wire waits unspent hi lo
    exact ⟨t, answer, congrArg Tread.therm tread, congrArg Tread.waitRearm tread, congrArg Tread.retryAt tread⟩
  case retry =>
    intro s n due sound fit waits late therm wire
    obtain ⟨m, retried⟩ := State.tread_retryTread (sound.tread_fitted fit)
    have used : ((s.retryTread n).tread n).used = (s.tread n).used + 1 := congrArg Tread.used retried
    have recorded (args : List (BitVec 32)) : ((s.retryTread n).record Evt.treadRetry n args).tread n = _ :=
      (State.tread_of_treads State.record_treads).trans retried
    refine ⟨_, execTreadRetry_due fit waits late therm wire, congrArg Tread.retryAt (recorded _), congrArg Tread.used (recorded _), ?_⟩
    rw [used]
    exact State.announces_record (.refl 0 _) rfl rfl
  case countReset =>
    intro s n last sound fit tripped
    exact execRetryCountReset_used fit (sound.tread_fitted fit) tripped

end Sys2Proof.Machine
end

section
/-! PROOFS of the family of 04_inputs_ports.md: sense lines (O21), SSI frames and the faults of ports (O23), reed inputs, pulses and the
echo (O24), and the writes of counts, compare entries, deceleration and declared positions (O50). -/

namespace Sys2Proof.Machine

section

variable {s t : State} {l : Nat}

/-! ### Units read after a change -/

theorem State.Sound.sense_lt (h : s.Sound) (fit : s.hasLine l = true) : l < s.senses.length := by
  rw [h.senses]
  unfold State.hasLine at fit
  split at fit
  · omega
  · exact of_decide_eq_true fit

theorem State.sense_of_senses (h : t.senses = s.senses) : t.sense l = s.sense l := congrArg (·.getD l .reset) h

theorem State.recordIf_announces {u : State} {c : Bool} {e : EvCode} {n : Nat} {args : List (BitVec 32)} (on : c = true)
    (hallA : u.hallA = s.hallA) (outs : u.outs = s.outs) : s.Announces e n args (u.recordIf c e n args) := by
  rw [show u.recordIf c e n args = u.record e n args from if_pos on]
  exact State.announces_record (.refl 0 _) hallA outs

/-- A line that notes something about itself: nothing else of it changes, and the event goes out where the condition holds. -/
theorem State.lineNoted_leaves {f : Sense → Sense} {c : Bool} {e : EvCode} {args : List (BitVec 32)} (lt : l < s.senses.length) :
    let t := (s.modSense l f).recordIf c e l args
    t.sense l = f (s.sense l) ∧ (c = true → s.Announces e l args t) :=
  ⟨(State.sense_of_senses ((State.recordIf_reach (.refl _) (.refl _ _)).senses rfl)).trans (State.sense_modSense lt),
    fun on => State.recordIf_announces on rfl rfl⟩

/-! ### Debouncing (04 R122, R123) -/

/-- A receiver that has taken a debounced state. -/
def Receiver.took (r : Receiver) (el : Bool) : Receiver := { r with deb := el, valid := true, sinceChange := 0 }

theorem State.debounced_due {r : Receiver} {el : Bool} (elec : r.elec = some el) (stood : s.debounceN l + 1 ≤ r.run)
    (new : r.valid = false ∨ r.deb ≠ el) : s.debounced l r = some (r.took el) := by
  cases r
  cases elec
  exact if_pos (by simpa [stood] using new)

/-- A receiver that has taken its electrical state has no other to take. -/
theorem State.settled_took {r : Receiver} {el : Bool} (elec : r.elec = some el) : s.settled l (r.took el) = r.took el := by
  have same : s.debounced l (r.took el) = none := by simp [State.debounced, Receiver.took, elec]
  simp [State.settled, same]

theorem State.logical_took {r : Receiver} {el : Bool} (elec : r.elec = some el) :
    s.logical l (r.took el) = (s.lineUsed l && (el != s.parB Par.senseInvert l 0)) := by
  unfold State.logical
  rw [State.settled_took elec]
  simp [Receiver.took]

/-- A line whose primary receiver has taken a state: CHANGES counts a change of a valid one. -/
def Sense.changed (x : Sense) (p : Receiver) : Sense :=
  { x with p := p, changes := if x.p.valid then satInc x.changes else x.changes }

theorem execDebouncedChange_primary {p : Receiver} (fit : s.hasLine l = true) (mode : s.lineMode l = 0)
    (due : s.debounced l (s.sense l).p = some p) : execDebouncedChange l .primary s = .next (s.modSense l (·.changed p)) := by
  refine (onUnit_fitted fit).trans (congrArg _ ((if_neg (by simp [mode])).trans ?_))
  simp only [due]
  rfl

theorem execDebouncedChange_secondary {q : Receiver} (fit : s.hasLine l = true) (mode : s.lineMode l = 0)
    (due : s.debounced l (s.sense l).q = some q) :
    execDebouncedChange l .secondary s = .next (s.modSense l ({ · with q := q })).first151 := by
  refine (onUnit_fitted fit).trans (congrArg _ ((if_neg (by simp [mode])).trans ?_))
  simp only [due]

theorem State.first151_sense : s.first151.sense l = s.sense l :=
  State.sense_of_senses ((State.first151_reach (.refl _) (.refl _ s)).senses rfl)

/-! ### Cleaning pulses (04 R120) -/

/-- A trigger that no waiting one of its sample yields to waits at the end. -/
theorem queuePulse_last {w : Nat × Nat} {ws : List (Nat × Nat)} (last : ∀ v ∈ ws, v.1 = w.1 → v.2 < w.2) :
    queuePulse w ws = ws ++ [w] := by
  induction ws with
  | nil => rfl
  | cons v ws ih =>
    obtain ⟨first, rest⟩ := List.forall_mem_cons.1 last
    have stays : ¬ (decide (v.1 = w.1) && decide (w.2 < v.2)) = true := by
      simp only [Bool.and_eq_true, decide_eq_true_eq]
      rintro ⟨same, lower⟩
      exact Nat.lt_asymm lower (first same)
    exact (if_neg stays).trans (congrArg (v :: ·) (ih rest))

theorem mem_queuePulse {v w : Nat × Nat} {ws : List (Nat × Nat)} : v ∈ queuePulse w ws ↔ v = w ∨ v ∈ ws := by
  induction ws with
  | nil => exact List.mem_singleton.trans (by simp)
  | cons x ws ih =>
    rw [queuePulse]
    split
    · exact List.mem_cons
    · rw [List.mem_cons, ih, List.mem_cons]
      exact or_left_comm

namespace Cleaner

variable {c : Cleaner} {now k n : Nat}

theorem join_free (free : c.running = none) : c.join now l = ⟨some (l, 8), now, c.waiting⟩ := by
  unfold join
  rw [free]

theorem join_waits (busy : c.running = some (k, n)) (begun : n < 8 ∨ c.trig < now ∨ k < l)
    (last : ∀ w ∈ c.waiting, w.1 = now → w.2 < l) : c.join now l = { c with waiting := c.waiting ++ [(now, l)] } := by
  have stays : ¬ (decide (n = 8) && decide (c.trig = now) && decide (l < k)) = true := by
    simp only [Bool.and_eq_true, decide_eq_true_eq]
    omega
  unfold join
  rw [busy]
  exact (if_neg stays).trans (by rw [queuePulse_last last])

theorem join_yields (fresh : c.running = some (k, 8)) (same : c.trig = now) (lower : l < k) :
    c.join now l = ⟨some (l, 8), now, queuePulse (now, k) c.waiting⟩ := by
  unfold join
  rw [fresh]
  exact if_pos (by simp [same, lower])

end Cleaner

/-- A line may send a cleaning pulse: it is in use, cleaned, qualified, and has rested since its last one. -/
structure State.MayPulse (s : State) (l : Nat) : Prop where
  used : s.lineUsed l = true
  mode : s.lineMode l = 0
  cleans : s.parB Par.senseClean l 0 = true
  qualified : s.lineQualified l = true
  rose : (s.sense l).p.rose = true
  rested : ∀ e, (s.sense l).pulseEnd = some e → e + 800 ≤ s.sample
  apart : s.cleaning l = false

theorem State.hasLine_of_used (used : s.lineUsed l = true) : s.hasLine l = true := (Bool.and_eq_true_iff.1 used).1

theorem State.slot_found {k : Nat} {c : Cleaner} (slot : s.cleaners[k]? = some c) : s.cleaners.getD k ⟨none, 0, []⟩ = c := by
  rw [List.getD_eq_getElem?_getD, slot]
  rfl

theorem execCleaningPulse_joins {c : Cleaner} (may : s.MayPulse l) (slot : s.cleaners[cleanerOf l]? = some c) :
    ∃ t, execCleaningPulse l s = .next t ∧ t.cleaners[cleanerOf l]? = some (c.join s.sample l) := by
  obtain ⟨lt, -⟩ := List.getElem?_eq_some_iff.1 slot
  refine ⟨_, (onUnit_fitted (State.hasLine_of_used may.used)).trans (congrArg _ (if_neg ?_)), ?_⟩
  · rw [may.used, may.mode, may.cleans, may.qualified, may.rose, may.apart]
    cases ended : (s.sense l).pulseEnd with
    | none => simp
    | some e => simp [may.rested e ended]
  · rw [State.slot_found slot]
    exact List.getElem?_set_self lt

theorem execCleaningPulseEnd_eq {c : Cleaner} (fit : s.hasLine l = true) (slot : s.cleaners[cleanerOf l]? = some c)
    (done : c.running = some (l, 0)) :
    execCleaningPulseEnd l s = .next (State.modSense { s with cleaners := s.cleaners.set (cleanerOf l) c.next } l
      ({ · with pulseEnd := some s.sample })) := by
  obtain rfl := State.slot_found slot
  exact (onUnit_fitted fit).trans (congrArg _ (if_pos done))

/-! ### The flags of a line (04 R119, R124, R125) -/

theorem execSenseTrackFence_eq (fit : s.hasLine l = true) (track : s.parB Par.senseTrack l 0 = true)
    (inside : (s.sense l).atFence = false) (long : 480000 ≤ (s.sense l).p.fenceRun) :
    execSenseTrackFence l s = .next ((s.modSense l ({ · with atFence := true })).recordIf (s.lineUsed l) Evt.senseTrackFence l
      [toReal32 (s.sense l).p.von, toReal32 (s.sense l).p.voff, toReal32 (s.sense l).p.teff]) := by
  have teff : s.teffOf l (s.sense l).p = (s.sense l).p.teff := if_pos track
  rw [← teff]
  exact (onUnit_fitted fit).trans (congrArg _ (if_neg (by simp [track, inside, long])))

theorem execSenseRxMismatch_eq (fit : s.hasLine l = true) (agreed : (s.sense l).mismatch = false) (long : 80 ≤ (s.sense l).misRun) :
    execSenseRxMismatch l s = .next ((s.modSense l ({ · with mismatch := true })).recordIf (s.lineUsed l) Evt.senseRxMismatch l
      [toReal32 (s.sense l).p.v, toReal32 (s.sense l).q.v]) :=
  (onUnit_fitted fit).trans (congrArg _ (if_neg (by simp [agreed, long])))

theorem execSenseRxMismatchClear_eq (fit : s.hasLine l = true) (long : 8000 ≤ (s.sense l).agreeRun) :
    execSenseRxMismatchClear l s = .next (s.modSense l ({ · with mismatch := false })) :=
  (onUnit_fitted fit).trans (congrArg _ (if_neg (Nat.not_lt.2 long)))

theorem execSenseLoopFault_eq (fit : s.hasLine l = true) (mode : s.lineMode l = 2) (valid : (s.sense l).p.valid = true)
    (out : (s.sense l).p.v < 18 / 5 ∨ 21 < (s.sense l).p.v) (whole : (s.sense l).loopFault = false) :
    execSenseLoopFault l s =
      .next ((s.modSense l ({ · with loopFault := true })).recordIf (s.lineUsed l) Evt.senseLoopFault l []) :=
  (onUnit_fitted fit).trans (congrArg _ (if_pos (by simpa [mode, valid, whole] using out)))

theorem execSenseOverRange_eq (fit : s.hasLine l = true) (mode : s.lineMode l = 1) (valid : (s.sense l).p.valid = true)
    (high : 21 / 2 < (s.sense l).p.v) (whole : (s.sense l).overRange = false) :
    execSenseOverRange l s =
      .next ((s.modSense l ({ · with overRange := true })).recordIf (s.lineUsed l) Evt.senseOverRange l []) :=
  (onUnit_fitted fit).trans (congrArg _ (if_pos (by simp [mode, valid, whole, high])))

theorem execBurdenReconnect_eq {since : Nat} (fit : s.hasLine l = true) (off : (s.sense l).burdenOff = some since)
    (waited : since + 8000 ≤ s.sample) : execBurdenReconnect l s = .next (s.modSense l ({ · with burdenOff := none })) := by
  refine (onUnit_fitted fit).trans (congrArg _ ?_)
  rw [off]
  exact if_neg (Nat.not_lt.2 waited)

end

/-- Settles O21: a receiver takes the state that it has seen long enough; a cleaning pulse takes its slot, waits for it, or takes it from
a higher line of the same sample; and every notice changes its own flag of the line alone. -/
theorem senseLinesDebounceCleanAndReport : Obligations.SenseLinesDebounceCleanAndReport := by
  unfold Obligations.SenseLinesDebounceCleanAndReport
  refine ⟨?primary, ?secondary, ?pulse, ?pulseEnd, ?fence, ?mismatch, ?mismatchClear, ?loopFault, ?overRange, ?burden⟩
  case primary =>
    intro s l el sound fit mode elec stood new
    have line := State.sense_modSense (f := (·.changed ((s.sense l).p.took el))) (sound.sense_lt fit)
    refine ⟨_, execDebouncedChange_primary fit mode (State.debounced_due elec stood new), ?_⟩
    have active : (s.modSense l (·.changed ((s.sense l).p.took el))).active l = s.logical l ((s.sense l).p.took el) :=
      congrArg (fun x : Sense => s.logical l x.p) line
    rw [active, line]
    exact ⟨rfl, rfl, rfl, State.logical_took elec⟩
  case secondary =>
    intro s l el sound fit mode elec stood new
    refine ⟨_, execDebouncedChange_secondary fit mode (State.debounced_due elec stood new), ?_⟩
    rw [State.first151_sense, State.sense_modSense (sound.sense_lt fit)]
    exact ⟨rfl, rfl, rfl⟩
  case pulse =>
    intro s l c used mode cleans qualified rose rested apart slot
    obtain ⟨t, answer, joined⟩ := execCleaningPulse_joins ⟨used, mode, cleans, qualified, rose, rested, apart⟩ slot
    refine ⟨t, answer, fun free => ?_, fun k n busy begun last => ?_, fun k fresh same lower => ?_⟩
    · rw [joined, Cleaner.join_free free]
    · rw [joined, Cleaner.join_waits busy begun last]
    · rw [joined, Cleaner.join_yields fresh same lower]
      exact ⟨_, rfl, mem_queuePulse.2 (.inl rfl), fun w waits => mem_queuePulse.2 (.inr waits)⟩
  case pulseEnd =>
    intro s l c sound fit slot done
    obtain ⟨lt, -⟩ := List.getElem?_eq_some_iff.1 slot
    refine ⟨_, execCleaningPulseEnd_eq fit slot done, congrArg Sense.pulseEnd (State.sense_modSense (sound.sense_lt fit)), ?_⟩
    refine (List.getElem?_set_self lt).trans (congrArg some ?_)
    unfold Cleaner.next
    cases c.waiting <;> rfl
  case fence =>
    intro s l sound fit track inside long
    exact ⟨_, execSenseTrackFence_eq fit track inside long, State.lineNoted_leaves (sound.sense_lt fit)⟩
  case mismatch =>
    intro s l sound fit agreed long
    exact ⟨_, execSenseRxMismatch_eq fit agreed long, State.lineNoted_leaves (sound.sense_lt fit)⟩
  case mismatchClear =>
    intro s l sound fit long
    exact ⟨_, execSenseRxMismatchClear_eq fit long, State.sense_modSense (sound.sense_lt fit)⟩
  case loopFault =>
    intro s l sound fit mode valid out whole
    exact ⟨_, execSenseLoopFault_eq fit mode valid out whole, State.lineNoted_leaves (sound.sense_lt fit)⟩
  case overRange =>
    intro s l sound fit mode valid high whole
    exact ⟨_, execSenseOverRange_eq fit mode valid high whole, State.lineNoted_leaves (sound.sense_lt fit)⟩
  case burden =>
    intro s l since sound fit off waited
    exact ⟨_, execBurdenReconnect_eq fit off waited, State.sense_modSense (sound.sense_lt fit)⟩

/-! ### Faults of a port (04 R129, R133, R135, R138) -/

section

variable {s : State} {p : Nat}

theorem State.invalidateCount_port (lt : p < s.ports.length) :
    (s.invalidateCount p).port p = { s.port p with countInvalid := true } := by
  refine (State.port_of_ports (s := s.modPort p ({ · with countInvalid := true })) ?_).trans (State.port_modPort lt)
  refine State.forEach_keeps (·.ports) (fun u a => ?_) _ 36
  split <;> rfl

/-- A port fails: its flags set, COUNT_INVALID sets, the event is recorded, and the axes that it feeds take their fault stops. -/
def State.failPort (s : State) (p : Nat) (f : Port → Port) (e : EvCode) : State :=
  (((s.modPort p f).invalidateCount p).record e p []).causeStopsFrom s

theorem State.failPort_port {f : Port → Port} {e : EvCode} (lt : p < s.ports.length) :
    (s.failPort p f e).port p = { f (s.port p) with countInvalid := true } := by
  have kept := State.port_of_ports (p := p) ((State.causeStopsFrom_reach (old := s) (.refl _) (.refl _
    (((s.modPort p f).invalidateCount p).record e p []))).ports rfl)
  refine kept.trans ?_
  rw [State.record_port, State.invalidateCount_port (by simpa using lt), State.port_modPort lt]

theorem State.failPort_announces {f : Port → Port} {e : EvCode} : s.Announces e p [] (s.failPort p f e) := by
  have invalid := State.invalidateCount_reach (p := p) (.refl _) (.refl _ (s.modPort p f))
  exact State.announces_record (State.causeStopsFrom_reach (.refl _) (.refl _ _)) (invalid.hallA rfl) (invalid.outs rfl)

theorem State.failPort_leaves {f : Port → Port} {e : EvCode} (lt : p < s.ports.length) :
    (s.failPort p f e).port p = { f (s.port p) with countInvalid := true } ∧ s.Announces e p [] (s.failPort p f e) :=
  ⟨State.failPort_port lt, State.failPort_announces⟩

theorem State.fitted_of_used (used : s.portUsed p = true) : p < s.nPorts := of_decide_eq_true (Bool.and_eq_true_iff.1 used).1

theorem execPortLineFault_eq (used : s.portUsed p = true) (level : s.parN Par.portLevel p 0 = 0)
    (whole : (s.port p).lineFault = false) :
    execPortLineFault p s = .next (s.failPort p ({ · with lineFault := true }) Evt.portLineFault) :=
  (onUnit_fitted (decide_eq_true (State.fitted_of_used used))).trans (congrArg _ (if_neg (by simp [used, level, whole])))

theorem execPortHallInvalid_eq (fit : p < s.nPorts) (format : s.portFormat p = 2) (eighth : (s.port p).hallBadRun = 8) :
    execPortHallInvalid p s = .next (s.failPort p ({ · with hallBadRun := 9 }) Evt.portHallInvalid) :=
  (onUnit_fitted (decide_eq_true fit)).trans (congrArg _ (if_neg (by simp [format, eighth])))

theorem execPortSupplyFault_eq (used : s.portUsed p = true) (whole : (s.port p).supplyFault = false)
    (long : 80 ≤ (s.port p).supplyRun) :
    execPortSupplyFault p s = .next (s.failPort p
      ({ · with encOn := false, supplyFault := true, supplyFaultTick := s.stamp }) Evt.portSupplyFault) := by
  refine (onUnit_fitted (decide_eq_true (State.fitted_of_used used))).trans
    (congrArg _ ((if_neg (by simp [whole, long])).trans ?_))
  exact congrArg (fun u : State => u.causeStopsFrom s) (if_pos used)

theorem execPortRxMismatch_eq (fit : p < s.nPorts) (agreed : (s.port p).mismatch = false) (long : 8 ≤ (s.port p).misRun) :
    execPortRxMismatch p s =
      .next ((s.modPort p ({ · with mismatch := true })).recordIf (s.portUsed p) Evt.portRxMismatch p []) :=
  (onUnit_fitted (decide_eq_true fit)).trans (congrArg _ (if_neg (by simp [agreed, long])))

theorem execPortStandstill_eq (fit : p < s.nPorts) (moves : (s.port p).moving = true)
    (late : (s.port p).lastEdgeTick + s.parN Par.portStandstill p 0 ≤ s.tick) :
    execPortStandstill p s = .next (s.modPort p ({ · with moving := false, speed := 0 })) :=
  (onUnit_fitted (decide_eq_true fit)).trans (congrArg _ (if_pos (by simp [moves, late])))

end

/-! ### SSI frames (04 R130, R136) -/

section

variable {s : State} {p raw : Nat} {last : BitVec 32}

/-- The position that a frame carries: its position bits, out of Gray code where SSI_CODE says so. -/
def State.ssiPos (s : State) (p raw : Nat) : Nat :=
  let pb := s.parN Par.portSsiPosbits p 0
  let code := raw / 2 ^ (s.parN Par.portSsiBits p 0 - pb) % 2 ^ pb
  if s.parN Par.portSsiCode p 0 = 1 then unGray code % 2 ^ pb else code

/-- How far a frame's position is from the last one. -/
def State.ssiDelta (s : State) (p raw : Nat) (last : BitVec 32) : Int :=
  signedDiff (s.parN Par.portSsiPosbits p 0) (s.ssiPos p raw) last.toNat

/-- The port after a good frame, but for the count: the position is the last one, and no error stands. -/
def State.ssiTaken (s : State) (p raw : Nat) (x : Port) : Port :=
  { x with
    ssiLast := some (word32 (s.ssiPos p raw)), ssiErrors := 0, ssiFault := false,
    ssiExtra := word32 (raw % 2 ^ (s.parN Par.portSsiBits p 0 - s.parN Par.portSsiPosbits p 0)) }

/-- The port that a move by `d` counts leaves, before its compare list is looked at. -/
def State.ssiMoved (s : State) (p : Nat) (d : Int) (x : Port) : Port :=
  let y := (x.countBy d).noteTick (5 * s.sample) x.count.toInt
  { y with
    speed := (d : Rat) / ((s.parN Par.portSsiPeriod p 0 : Rat) * dt), countB := y.countB + wordZ d
    moving := y.moving || decide (d ≠ 0)
    lastEdgeTick := if d = 0 then y.lastEdgeTick else s.stamp
    edges := if d = 0 then y.edges else [(decide (0 < d), s.sample * 50000)] }

theorem State.ssiMove_counts {d : Int} : (s.modPort p (s.ssiMoved p d)).CountsAs p (s.ssiMove p d) :=
  .ite (.refl _ p) (.edgeCmp (.refl _ p))

/-- What SSI keeps in a port beside its count: the last position, errors, fault, and extra bits. -/
def Port.ssi (x : Port) : Option (BitVec 32) × Nat × Bool × BitVec 32 := (x.ssiLast, x.ssiErrors, x.ssiFault, x.ssiExtra)

theorem State.ssiMove_port {d : Int} (lt : p < s.ports.length) :
    ((s.ssiMove p d).port p).count = (s.port p).count + BitVec.ofInt 32 d ∧ ((s.ssiMove p d).port p).ssi = (s.port p).ssi := by
  have moved : ((s.ssiMove p d).port p).counts = (s.ssiMoved p d (s.port p)).counts :=
    State.ssiMove_counts.trans (congrArg Port.counts (State.port_modPort lt))
  have kept : (s.ssiMoved p d (s.port p)).ssi = (s.port p).ssi := rfl
  exact ⟨(Port.field_of_counts Port.count (fun _ => rfl) moved).trans (Port.countBy_count _ d),
    (Port.field_of_counts Port.ssi (fun _ => rfl) moved).trans kept⟩

/-- The state after a bad frame: one more error in a row, recorded at most once a second. -/
def State.ssiMissed (s : State) (p : Nat) : State :=
  (s.modPort p (fun x => { x with ssiErrors := x.ssiErrors + 1 })).recordLimited Evt.ssiFrameError p [] 1000

theorem State.ssiMissed_length : (s.ssiMissed p).ports.length = s.ports.length :=
  (congrArg List.length ((State.recordLimited_reach (.refl _) (.refl _ _)).ports rfl)).trans (List.length_modify ..)

theorem State.ssiMissed_port (lt : p < s.ports.length) :
    (s.ssiMissed p).port p = { s.port p with ssiErrors := (s.port p).ssiErrors + 1 } :=
  State.recordLimited_port.trans (State.port_modPort lt)

/-- The third error in a row fails the port. -/
def State.ssiJudged (s : State) (p : Nat) : State :=
  if ((s.ssiMissed p).port p).ssiErrors = 3 then (s.ssiMissed p).failPort p ({ · with ssiFault := true }) Evt.portSsiFault
  else s.ssiMissed p

theorem State.ssiJudged_port (lt : p < s.ports.length) :
    ((s.ssiJudged p).port p).count = (s.port p).count ∧ ((s.ssiJudged p).port p).ssiLast = (s.port p).ssiLast ∧
    ((s.ssiJudged p).port p).ssiErrors = (s.port p).ssiErrors + 1 ∧
    ((s.port p).ssiErrors + 1 = 3 → ((s.ssiJudged p).port p).ssiFault = true ∧ ((s.ssiJudged p).port p).countInvalid = true) := by
  have missed := State.ssiMissed_port lt
  unfold State.ssiJudged
  split
  next third =>
    rw [State.failPort_port (by rw [State.ssiMissed_length]; exact lt), missed]
    exact ⟨rfl, rfl, rfl, fun _ => ⟨rfl, rfl⟩⟩
  next fewer =>
    rw [missed] at fewer ⊢
    exact ⟨rfl, rfl, rfl, fun third => (fewer third).elim⟩

theorem execSsiFrame_moves (fit : p < s.nPorts) (format : s.portFormat p = 3) (powered : s.portPowered p = true)
    (before : (s.port p).ssiLast = some last) (near : (s.ssiDelta p raw last).natAbs ≤ s.parN Par.portSsiMaxstep p 0) :
    execSsiFrame p raw s = .next ((s.modPort p (s.ssiTaken p raw)).ssiMove p (s.ssiDelta p raw last)) := by
  obtain ⟨presence, rail⟩ := Bool.and_eq_true_iff.1 powered
  refine (onUnit_fitted (decide_eq_true fit)).trans (congrArg _ ((if_neg (by simp [format, presence, rail])).trans ?_))
  dsimp only
  rw [before]
  exact if_neg (Nat.not_lt.2 near)

theorem execSsiFrame_errs (fit : p < s.nPorts) (format : s.portFormat p = 3) (powered : s.portPowered p = true)
    (before : (s.port p).ssiLast = some last) (far : s.parN Par.portSsiMaxstep p 0 < (s.ssiDelta p raw last).natAbs) :
    execSsiFrame p raw s = .next (s.ssiJudged p) := by
  obtain ⟨presence, rail⟩ := Bool.and_eq_true_iff.1 powered
  refine (onUnit_fitted (decide_eq_true fit)).trans (congrArg _ ((if_neg (by simp [format, presence, rail])).trans ?_))
  dsimp only
  rw [before]
  exact if_pos far

end

/-- Settles O23: a good frame moves the count by its difference and a bad one is an error, of which the third in a row fails the port; a
port that fails loses its count; a mismatch is a flag, and an event where the port is in use. -/
theorem ssiFramesAndPortFaults : Obligations.SsiFramesAndPortFaults := by
  unfold Obligations.SsiFramesAndPortFaults
  refine ⟨?frame, ?lineFault, ?hallInvalid, ?mismatch, ?supplyFault, ?standstill⟩
  case frame =>
    intro s p raw last sound fit format powered before
    have lt := sound.port_lt fit
    refine ⟨fun near => ⟨_, execSsiFrame_moves fit format powered before near, ?_⟩, fun far => ?_⟩
    · have taken : (s.modPort p (s.ssiTaken p raw)).port p = _ := State.port_modPort lt
      obtain ⟨count, ssi⟩ := State.ssiMove_port (s := s.modPort p (s.ssiTaken p raw)) (d := s.ssiDelta p raw last) (by simpa using lt)
      rw [taken] at count ssi
      exact ⟨count, congrArg (·.1) ssi, congrArg (·.2.1) ssi, congrArg (·.2.2.1) ssi, congrArg (·.2.2.2) ssi⟩
    · obtain ⟨count, kept, errors, third⟩ := State.ssiJudged_port lt
      exact ⟨_, execSsiFrame_errs fit format powered before far, count, kept.trans before, errors, third⟩
  case lineFault =>
    intro s p sound used level whole
    exact ⟨_, execPortLineFault_eq used level whole, State.failPort_leaves (sound.port_lt (State.fitted_of_used used))⟩
  case hallInvalid =>
    intro s p sound fit format eighth
    exact ⟨_, execPortHallInvalid_eq fit format eighth, State.failPort_leaves (sound.port_lt fit)⟩
  case mismatch =>
    intro s p sound fit agreed long
    refine ⟨_, execPortRxMismatch_eq fit agreed long, ?_, fun used => State.recordIf_announces used rfl rfl, fun unused => ?_⟩
    · exact State.recordIf_port.trans (State.port_modPort (sound.port_lt fit))
    · rw [unused]
      rfl
  case supplyFault =>
    intro s p sound used whole long
    exact ⟨_, execPortSupplyFault_eq used whole long, State.failPort_leaves (sound.port_lt (State.fitted_of_used used))⟩
  case standstill =>
    intro s p sound fit moves late
    exact ⟨_, execPortStandstill_eq fit moves late, State.port_modPort (sound.port_lt fit)⟩

/-! ### Reed inputs (04 R137) -/

section

variable {s : State} {p f : Nat}

theorem Reed.take_due {r : Reed} {n : Nat} (long : n + 1 ≤ r.run) : r.take n = { r with deb := r.level, valid := true } := if_pos long

theorem execReedInputChange_eq {b : Bool} (fit : p < s.nPorts) (format : s.portFormat p = 4) :
    execReedInputChange p b s = .next (s.modPort p (fun x =>
      let n := (s.parR Par.portReedDeb p 0 * 8).floor.toNat
      if b then { x with reedB := x.reedB.take n } else { x with reedA := x.reedA.take n })) :=
  (onUnit_fitted (decide_eq_true fit)).trans (congrArg _ (if_neg (by simp [format])))

/-! ### AUX outputs (04 R145 to R147) -/

theorem State.setAux_ports {high : Bool} {until' : Option Nat} :
    (s.setAux p high until').ports = (s.modPort p ({ · with aux := high && s.auxAllowed p, auxEnd := until' })).ports := by
  unfold State.setAux
  dsimp only
  split <;> rfl

theorem State.setAux_port {high : Bool} {until' : Option Nat} (lt : p < s.ports.length) :
    (s.setAux p high until').port p = { s.port p with aux := high && s.auxAllowed p, auxEnd := until' } :=
  (State.port_of_ports State.setAux_ports).trans (State.port_modPort lt)

theorem State.setAux_port_ne {q : Nat} {high : Bool} {until' : Option Nat} (ne : p ≠ q) :
    (s.setAux p high until').port q = s.port q :=
  (State.port_of_ports State.setAux_ports).trans (State.port_modPort_ne ne)

/-- What lets an AUX output be driven does not hang on the outputs. -/
theorem State.setAux_allowed {q : Nat} {high : Bool} {until' : Option Nat} :
    (s.setAux p high until').auxAllowed q = s.auxAllowed q := by
  unfold State.setAux
  dsimp only
  split <;> rfl

theorem execAuxPulseEnd_eq {stop : Nat} (fit : p < s.nPorts) (pulse : (s.port p).auxEnd = some stop)
    (come : stop ≤ (s.sample + 1) * 50000) : execAuxPulseEnd p s = .next (s.setAux p false none) := by
  refine (onUnit_fitted (decide_eq_true fit)).trans (congrArg _ ?_)
  rw [pulse]
  exact if_pos come

/-! ### The echo (04 R147) -/

/-- The echo of a flight after an edge has left: the phase has stepped. -/
def Echo.stepped (x : Echo) (up : Bool) (q : List Bool) (stamp : Nat) : Echo :=
  { x with queue := q, phase := (x.phase + if up then 1 else 3) % 4, lastOut := some stamp }

/-- The state in which an edge of a flight's echo has left, before the outputs follow it. -/
def State.stepEcho (s : State) (f : Nat) (up : Bool) (q : List Bool) (stamp : Nat) : State :=
  s.modEcho f (fun x => { x with
    queue := q, phase := if up then ((s.echo f).phase + 1) % 4 else ((s.echo f).phase + 3) % 4, lastOut := some stamp })

theorem State.stepEcho_echo {stamp : Nat} {up : Bool} {q : List Bool} (lt : f < s.echos.length) :
    (s.stepEcho f up q stamp).echo f = (s.echo f).stepped up q stamp := by
  cases up <;> exact State.echo_modEcho lt

theorem execEchoEdgeOut_steps {stamp : Nat} {up : Bool} {q : List Bool} (fit : f < s.nFlights) (waits : (s.echo f).queue = up :: q)
    (spaced : ∀ last, (s.echo f).lastOut = some last → last + 100 ≤ stamp) :
    execEchoEdgeOut f stamp s = .next ((s.stepEcho f up q stamp).driveEcho f) := by
  refine (onUnit_fitted (decide_eq_true fit)).trans (congrArg _ ?_)
  dsimp only
  rw [waits]
  refine if_neg ?_
  cases out : (s.echo f).lastOut with
  | none => simp
  | some last => simp [spaced last out]

theorem State.driveEcho_echo : (s.driveEcho f).echo f = s.echo f :=
  congrArg (·.getD f .reset) ((State.driveEcho_reach (.refl _) (.refl _ s)).echos rfl)

theorem State.driveEcho_aux (lt : 2 * f + 1 < s.ports.length) (owner : s.parN Par.portAuxOwner (2 * f) 0 = 2) :
    ((s.driveEcho f).port (2 * f)).aux = (echoA (s.echo f).phase && s.auxAllowed (2 * f)) ∧
    ((s.driveEcho f).port (2 * f + 1)).aux = (echoB (s.echo f).phase && s.auxAllowed (2 * f + 1)) := by
  have driven : s.driveEcho f = (s.setAux (2 * f) (echoA (s.echo f).phase) none).setAux (2 * f + 1) (echoB (s.echo f).phase) none :=
    if_pos owner
  have lt' : 2 * f + 1 < (s.setAux (2 * f) (echoA (s.echo f).phase) none).ports.length := by simpa [State.setAux_ports] using lt
  rw [driven, State.setAux_port_ne (by omega), State.setAux_port (by omega), State.setAux_port lt', State.setAux_allowed]
  exact ⟨rfl, rfl⟩

theorem State.nFlights_le (fit : f < s.nFlights) : f < 12 := by
  unfold State.nFlights at fit
  split at fit <;> omega

end

/-- Settles O24: a reed input takes the level that it has had long enough; a pulse ends at its time; an edge of the echo steps the phase,
by which the outputs that the echo owns are driven. -/
theorem reedsPulsesAndEcho : Obligations.ReedsPulsesAndEcho := by
  unfold Obligations.ReedsPulsesAndEcho
  refine ⟨?reed, ?pulse, ?echo⟩
  case reed =>
    intro s p b sound fit format reed long
    refine ⟨_, execReedInputChange_eq fit format, ?_⟩
    rw [State.port_modPort (sound.port_lt fit)]
    cases b
    · exact ⟨congrArg Reed.deb (Reed.take_due long), congrArg Reed.valid (Reed.take_due long)⟩
    · exact ⟨congrArg Reed.deb (Reed.take_due long), congrArg Reed.valid (Reed.take_due long)⟩
  case pulse =>
    intro s p stop sound fit pulse come
    exact ⟨_, execAuxPulseEnd_eq fit pulse come, State.setAux_port (sound.port_lt fit)⟩
  case echo =>
    intro s f stamp up q sound fit waits spaced
    have flight := State.nFlights_le fit
    have stepped := State.stepEcho_echo (s := s) (up := up) (q := q) (stamp := stamp) (by rw [sound.echos]; exact flight)
    refine ⟨_, execEchoEdgeOut_steps fit waits spaced, ?_⟩
    rw [State.driveEcho_echo, stepped]
    refine ⟨rfl, rfl, rfl, fun owned => ?_⟩
    rw [← stepped]
    exact State.driveEcho_aux (s := s.stepEcho f up q stamp) (by show _ < s.ports.length; rw [sound.ports]; omega) owned

/-! ### A parameter read after it was written (12 R425) -/

theorem sparseGet_eq_find? {α : Type} (d : Nat → α) (l : List (Nat × α)) (k : Nat) :
    sparseGet d l k = ((l.find? (fun e => e.1 = k)).map (·.2)).getD (d k) := by
  induction l with
  | nil => rfl
  | cons e l ih =>
    rw [sparseGet, List.find?_cons, ih]
    by_cases same : e.1 = k <;> simp [same]

section

variable {s t : State} {r : ParRow} {i j : Nat} {v : Word}

theorem rowOfPid_of_resolves {pid : Nat} (h : s.resolvePid pid = .inr (r, i, j)) : rowOfPid pid = some r := by
  unfold State.resolvePid at h
  cases row : rowOfPid pid with
  | none => simp [row] at h
  | some r' =>
    simp only [row] at h
    split at h
    · cases h
    · split at h
      · cases h
      · cases h
        rfl

theorem State.par_eq_sparseGet (row : rowOfPid (r.pid i j) = some r) : s.par r i j = sparseGet resetOf s.params (r.pid i j) := by
  have reset : resetOf (r.pid i j) = r.reset := by simp [resetOf, row]
  rw [sparseGet_eq_find?, reset]
  unfold State.par
  cases s.params.find? (fun e => e.1 = r.pid i j) <;> rfl

/-- A parameter reads as the last value written to it. -/
theorem State.par_of_set {ps : Params} (h : t.params = Params.set ps (r.pid i j) v) (row : rowOfPid (r.pid i j) = some r) :
    t.par r i j = v := by
  rw [State.par_eq_sparseGet row, h]
  exact sparseGet_set_same _ _ _

end

/-! ### A read of one parameter by packet (12 R422) -/

section

variable {s u : State} {q : Hdr} {x : Session} {r : ParRow} {i j p : Nat}

/-- The packet of a one-entry read says what it reads. -/
theorem oneRead_pids {pid : Nat} (h : pid < 4294967296) : readPids (oneRead q pid).payload = [pid] := by
  have entry : fieldAt (oneRead q pid).payload 4 4 = pid :=
    (show _ = leNat (leBytes 4 pid) by simp [fieldAt, oneRead, leBytes]).trans ((leNat_leBytes 4 pid).trans (Nat.mod_eq_of_lt h))
  have count : fieldAt (oneRead q pid).payload 0 2 = 1 := by simp [fieldAt, oneRead, leBytes, leNat]
  unfold readPids
  rw [count]
  simpa using entry

/-- A well-formed request for one parameter is answered with its entry. -/
theorem State.serveRead_one {e : Nat × Nat × BitVec 32} {k : Pend} {hall pid : Nat} {payload : Bytes} (count : fieldAt payload 0 2 = 1)
    (pids : readPids payload = [pid]) (entry : s.readEntry hall pid = (e, u)) :
    s.serveRead k hall payload = u.answer k 0 0 (leBytes 2 1 ++ [0, 0] ++ readBytes e) := by
  have all : s.readAll hall [pid] = (readBytes e, u) := by
    unfold State.readAll
    rw [entry]
    exact Prod.ext (List.append_nil _) rfl
  unfold State.serveRead
  rw [count, pids, all]
  exact if_neg (by decide)

/-- A read of one parameter that passes the checks is answered with its entry. -/
theorem State.Passes.readsOne {e : Nat × Nat × BitVec 32} (h : s.Passes readSpec (oneRead q (r.pid i j)) x) (unit : i < 256)
    (element : j < r.len) (word : r.pid i j < 4294967296)
    (entry : (s.afterChecks readSpec (oneRead q (r.pid i j))).readEntry q.hall.toNat (r.pid i j) = (e, u)) :
    s.readOne q r i j = u.answer (pendOf 0x0010 q) 0 0 (leBytes 2 1 ++ [0, 0] ++ readBytes e) := by
  have count : fieldAt (oneRead q (r.pid i j)).payload 0 2 = 1 := by simp [fieldAt, oneRead, leBytes, leNat]
  have length : (oneRead q (r.pid i j)).payload.length = 8 := by simp [oneRead, leBytes_length]
  have spec : ({ code := opParRead, perm := .read, lenOk := decide ((oneRead q (r.pid i j)).payload.length =
      4 + 4 * fieldAt (oneRead q (r.pid i j)).payload 0 2), hallOk := true, deferred := true } : OpSpec) = readSpec := by
    rw [count, length]
    rfl
  have packet : s.readOne q r i j = s.parRead (oneRead q (r.pid i j)) := by
    unfold State.readOne
    rw [show unitPid r i j = r.pid i j from if_pos (by simp [unit, element])]
    rfl
  rw [packet]
  unfold State.parRead
  dsimp only
  rw [spec, State.vet_passes h]
  exact State.serveRead_one count (oneRead_pids word) entry

theorem ParRow.pid_parts (cls : r.cls < 256) (unit : i < 256) (index : r.idx + j < 65536) :
    pidClass (r.pid i j) = r.cls ∧ pidInst (r.pid i j) = i ∧ pidIdx (r.pid i j) = r.idx + j := by
  unfold pidClass pidInst pidIdx ParRow.pid
  omega

theorem State.nPorts_le (fit : p < s.nPorts) : p < 24 := by
  unfold State.nPorts at fit
  split at fit <;> omega

theorem State.resolvePid_portCount (fit : p < s.nPorts) : s.resolvePid (Par.portCount.pid p 0) = .inr (Par.portCount, p, 0) := by
  have lt := State.nPorts_le fit
  obtain ⟨cls, inst, idx⟩ := ParRow.pid_parts (r := Par.portCount) (i := p) (j := 0) (by decide) (by omega) (by decide)
  have row : rowOfPid (Par.portCount.pid p 0) = some Par.portCount := by
    unfold rowOfPid
    rw [cls, idx]
    rfl
  have present := State.resolvePid_present (s := s) row (by rw [inst]; exact lt)
    (by rw [inst]; exact decide_eq_true fit) (by rw [idx]; rfl)
  rw [inst, idx] at present
  exact present

/-- A read of the values in force gives a parameter's type and value, unless Hall B owns it and is in reset. -/
theorem State.readEntry_active {pid : Nat} (resolves : s.resolvePid pid = .inr (r, i, j))
    (held : (s.hallB.inReset && r.ofHallB) = false) :
    s.readEntry 0 pid = ((0, r.ty.code, s.readPar r i j), s.afterRead r i) := by
  unfold State.readEntry
  simp only [resolves]
  refine (if_neg (by simp)).trans ((if_neg (by simp [held])).trans ?_)
  cases r.ty <;> rfl

/-- The state in which a port's WRAPS is latched. -/
def State.latchWraps (s : State) (p : Nat) : State := s.modPort p (fun x => { x with wrapsLatched := x.wraps })

/-- A read of PORT.COUNT gives the count, and latches WRAPS (04 R131). -/
theorem State.readEntry_portCount (fit : p < s.nPorts) : s.readEntry 0 (Par.portCount.pid p 0) =
    ((0, 1, (s.port p).count), s.latchWraps p) :=
  State.readEntry_active (State.resolvePid_portCount fit) (Bool.and_false _)

theorem execPortCountRead_answers (fit : p < s.nPorts) (active : q.hall = 0)
    (passes : s.Passes readSpec (oneRead q (Par.portCount.pid p 0)) x) :
    execPortCountRead q p s = .next (((s.afterChecks readSpec (oneRead q (Par.portCount.pid p 0))).latchWraps p).answer
      (pendOf 0x0010 q) 0 0 (leBytes 2 1 ++ [0, 0] ++ [0, 1, 0, 0] ++ leBytes 4 (s.port p).count.toNat)) := by
  have lt := State.nPorts_le fit
  rw [List.append_assoc (leBytes 2 1 ++ [0, 0])]
  refine congrArg _ (passes.readsOne (e := (0, 1, (s.port p).count)) (by omega) (by decide) ?_ ?_)
  · show 0x20 * 0x1000000 + p * 0x10000 + 0x1 + 0 < 4294967296
    omega
  · rw [active]
    exact State.readEntry_portCount (s := s.afterChecks readSpec _) fit

end

/-! ### What each write does (04 R134, R142 to R145, 05 R172, R177) -/

section

variable {s : State} {p e a : Nat} {v w : Word}

theorem State.applyPar_portCount : s.applyPar Par.portCount p 0 v = s.writeCount p v := rfl

theorem State.applyPar_portCmpCfg : s.applyPar Par.portCmpCfg p e w = s.writeCmpCfg p e w := rfl

theorem State.applyPar_portCmpHitClr {h : Nat} : s.applyPar Par.portCmpHitClr p h v = s.clearHits p h v := rfl

theorem State.applyPar_axisDecel : s.applyPar Par.axisDecel a 0 v = s.writeDecel a v := rfl

/-- The port after a write of its count, which moves it. -/
def Port.rewritten (x : Port) (v : Word) (moved : Int) : Port :=
  { x.shiftTicks moved with
    count := v, wraps := 0, countInvalid := false, diffBase := (v - x.countB).toInt, misRun := 0 }

theorem State.keepAngle_ports {j : Int} : (s.keepAngle p j).ports = s.ports := (State.keepAngle_reach (.refl _) (.refl _ s)).ports rfl

theorem State.jumpMasters_ports {j : Int} : (s.jumpMasters p j).ports = s.ports :=
  (State.jumpMasters_reach (.refl _) (.refl _ s)).ports rfl

/-- A count is written where no flag of the port stands against it; what follows for commutations, the compare list and gearing leaves the
count alone. -/
theorem State.writeCount_taken (line : (s.port p).lineFault = false) (ssi : (s.port p).ssiFault = false)
    (supply : (s.port p).supplyFault = false) (on : s.portFormat p ≠ 0) (counts : s.portFormat p ≠ 4) :
    (s.writeCount p v).1 = 0 ∧ (s.modPort p (·.rewritten v (v.toInt - (s.port p).count.toInt))).CountsAs p (s.writeCount p v).2 := by
  unfold State.writeCount
  extract_lets x
  rw [if_neg (by simp [x, line, ssi, supply, on, counts])]
  exact ⟨rfl, .of_ports (.jumpCmp (.of_ports (.refl _ p) State.keepAngle_ports)) State.jumpMasters_ports⟩

/-- The state in which an entry of the compare list is armed. -/
def State.armEntry (s : State) (p e : Nat) (w : Word) : State :=
  (s.setPar (Par.portCmpCfg.pid p e) (w &&& 0x7FFFFFFF)).modPort p (fun x => { x with
    armed := x.armed ||| bit64 e, stale := x.stale &&& ~~~(bit64 e), late := x.late &&& ~~~(bit64 e) })

theorem State.setPar_port {pid : Nat} : (s.setPar pid v).port p = s.port p := State.port_of_ports State.setPar_ports

theorem State.armEntry_port (lt : p < s.ports.length) : (s.armEntry p e w).port p = { s.port p with
    armed := (s.port p).armed ||| bit64 e, stale := (s.port p).stale &&& ~~~(bit64 e), late := (s.port p).late &&& ~~~(bit64 e) } := by
  unfold State.armEntry
  rw [State.port_modPort (by rw [State.setPar_ports]; exact lt), State.setPar_port]

/-- The state in which an entry of the compare list is disarmed. -/
def State.disarmEntry (s : State) (p e : Nat) (w : Word) : State :=
  (s.setPar (Par.portCmpCfg.pid p e) w).modPort p (fun x => { x with armed := x.armed &&& ~~~(bit64 e) })

theorem State.disarmEntry_port (lt : p < s.ports.length) :
    (s.disarmEntry p e w).port p = { s.port p with armed := (s.port p).armed &&& ~~~(bit64 e) } := by
  unfold State.disarmEntry
  rw [State.port_modPort (by rw [State.setPar_ports]; exact lt), State.setPar_port]

/-- At standstill no entry is behind (04 R143). -/
theorem State.cmpBehind_standstill (rest : (s.port p).dir = 0) : s.cmpBehind p e = false := by
  unfold State.cmpBehind
  simp [rest]

/-- A value of a compare entry without a pulse is legal, where it does not arm or marks a hit (04 R142). -/
theorem cmpLegal_of_hit (reserved : wfield w 30 18 = 0) (direction : wfield w 15 14 ≠ 3) (acts : wbit w 31 = false ∨ wbit w 17 = true)
    (still : wbit w 16 = false) (width : wfield w 13 0 ≤ 10000) : cmpLegal w = true := by
  unfold cmpLegal
  rcases acts with stays | hit
  · simp [reserved, direction, still, width, stays]
  · simp [reserved, direction, still, width, hit]

theorem State.applyPar_cmpArm (lt : p < s.ports.length) (arms : wbit w 31 = true) (legal : cmpLegal w = true) (still : wbit w 16 = false)
    (valid : (s.port p).countInvalid = false) (on : s.portFormat p ≠ 0) (counts : s.portFormat p ≠ 4) (rest : (s.port p).dir = 0) :
    s.applyPar Par.portCmpCfg p e w = (0, s.armEntry p e w) := by
  have behind : (s.armEntry p e w).cmpBehind p e = false :=
    State.cmpBehind_standstill ((congrArg Port.dir (State.armEntry_port lt)).trans rest)
  rw [State.applyPar_portCmpCfg]
  unfold State.writeCmpCfg State.armCmp
  rw [if_pos arms, if_neg (by simp [legal]), if_neg (by simp [still]), if_neg (by simp [valid, on, counts])]
  exact if_neg (Bool.eq_false_iff.1 behind)

theorem State.applyPar_cmpDisarm (stays : wbit w 31 = false) (legal : cmpLegal w = true) (counts : s.portFormat p ≠ 4) :
    s.applyPar Par.portCmpCfg p e w = (0, s.disarmEntry p e w) := by
  rw [State.applyPar_portCmpCfg]
  unfold State.writeCmpCfg State.disarmCmp
  rw [if_neg (by simp [stays]), if_neg (by simp [legal]), if_neg counts]
  rfl

theorem State.applyPar_axisPosSet (rests : (s.axis a).st = .idle ∨ (s.axis a).st = .hold) (phase : s.isPhase a = true)
    (blind : s.fbPort a = none) : s.applyPar Par.axisPosSet a 0 v = (0, s.declarePos a v) := by
  show s.posSet a v = _
  unfold State.posSet
  rw [if_neg (by rcases rests with st | st <;> simp [st]), if_neg (by simp [phase]), blind]
  rfl

theorem State.Sound.axis_lt (h : s.Sound) (fit : a < s.nAxes) : a < s.axes.length := by
  rw [h.axes]
  unfold State.nAxes at fit
  split at fit <;> omega

theorem State.writeDecel_due (lt : a < s.axes.length) : ((s.writeDecel a v).2.axis a).decelDue = true :=
  congrArg Axis.decelDue (State.axis_modAxis (by rw [State.setPar_axes]; exact lt))

theorem State.axis_of_axes {t : State} (h : t.axes = s.axes) : t.axis a = s.axis a := congrArg (·.getD a .reset) h

theorem wbit_arm : wbit (v ||| 0x80000000) 31 = true := by
  simp [wbit, show Nat.testBit 2147483648 31 = true from rfl]

theorem wbit_disarm : wbit (v &&& 0x7FFFFFFF) 31 = false := by
  simp [wbit, show Nat.testBit 2147483647 31 = false from rfl]

end

/-- Settles O50: each write takes effect on the state in which its packet waits, and its reply leaves that effect alone; a read of the count
latches WRAPS. -/
theorem portAndAxisWritesTakeEffect : Obligations.PortAndAxisWritesTakeEffect := by
  unfold Obligations.PortAndAxisWritesTakeEffect
  refine ⟨?write, ?read, ?arm, ?disarm, ?hits, ?decel, ?position⟩
  case write =>
    intro s q x p v sound fit writes line ssi supply on counts
    have taken (k : HostLink) := State.writeCount_taken (s := { s with host := k }) (v := v) line ssi supply on counts
    have reach (k : HostLink) := State.writeCount_reach (p := p) (v := v) (.refl _) (.refl _ { s with host := k })
    obtain ⟨k, written, later⟩ := writes.takesEffect (f := fun k => (State.writeCount { s with host := k } p v).2)
      (fun k => State.applyPar_portCount.trans (Prod.ext (taken k).1 rfl)) (fun k => (reach k).host rfl)
    have port := (congrArg Port.counts (State.port_of_ports (later.ports rfl))).trans ((taken k).2.trans
      (congrArg Port.counts (State.port_modPort (sound.port_lt fit))))
    exact ⟨_, rfl, written, Port.field_of_counts Port.count (fun _ => rfl) port, Port.field_of_counts Port.wraps (fun _ => rfl) port,
      Port.field_of_counts Port.countInvalid (fun _ => rfl) port⟩
  case read =>
    intro s q x p sound fit active passes
    refine ⟨_, execPortCountRead_answers fit active passes, ?_, passes.replied (t := State.latchWraps _ p) rfl 0 0 _⟩
    rw [State.port_of_ports ((State.answer_reach (.refl _) (.refl _ _)).ports rfl)]
    exact congrArg Port.wrapsLatched (State.port_modPort (s := s.afterChecks readSpec _) (sound.port_lt fit))
  case arm =>
    rintro s q x p e v w sound fit rfl writes reserved direction hit still width valid counts on rest
    have lt := sound.port_lt fit
    obtain ⟨k, written, later⟩ := writes.takesEffect (fun k => State.applyPar_cmpArm (s := { s with host := k }) lt wbit_arm
      (cmpLegal_of_hit reserved direction (.inr hit) still width) still valid on counts rest) (fun _ => rfl)
    have port := (State.port_of_ports (p := p) (later.ports rfl)).trans (State.armEntry_port lt)
    exact ⟨_, rfl, written, congrArg Port.armed port,
      State.par_of_set (later.params rfl) (rowOfPid_of_resolves writes.row)⟩
  case disarm =>
    rintro s q x p e v w sound fit rfl writes reserved direction still width counts
    obtain ⟨k, written, later⟩ := writes.takesEffect (fun k => State.applyPar_cmpDisarm (s := { s with host := k }) wbit_disarm
      (cmpLegal_of_hit reserved direction (.inl wbit_disarm) still width) counts) (fun _ => rfl)
    have port := (State.port_of_ports (p := p) (later.ports rfl)).trans (State.disarmEntry_port (sound.port_lt fit))
    exact ⟨_, rfl, written, congrArg Port.armed port,
      State.par_of_set (later.params rfl) (rowOfPid_of_resolves writes.row)⟩
  case hits =>
    intro s q x p w v sound fit writes
    obtain ⟨k, written, later⟩ := writes.takesEffect (f := fun k => (State.clearHits { s with host := k } p w v).2)
      (fun _ => State.applyPar_portCmpHitClr) (fun _ => rfl)
    have port := (State.port_of_ports (p := p) (later.ports rfl)).trans (State.port_modPort (sound.port_lt fit))
    exact ⟨_, rfl, written, congrArg Port.hit port⟩
  case decel =>
    intro s q x a v sound fit writes
    obtain ⟨k, written, later⟩ := writes.takesEffect (f := fun k => (State.writeDecel { s with host := k } a v).2)
      (fun _ => State.applyPar_axisDecel) (fun _ => rfl)
    have axis := State.axis_of_axes (a := a) (later.axes rfl)
    exact ⟨_, rfl, written, State.par_of_set (later.params rfl) (rowOfPid_of_resolves writes.row),
      (congrArg Axis.decelDue axis).trans (State.writeDecel_due (sound.axis_lt fit))⟩
  case position =>
    intro s q x a v sound fit writes rests phase blind
    obtain ⟨k, written, later⟩ := writes.takesEffect
      (fun k => State.applyPar_axisPosSet (s := { s with host := k }) rests phase blind) (fun _ => State.record_host)
    have axis := (State.axis_of_axes (a := a) ((later.axes rfl).trans State.record_axes)).trans
      (State.axis_modAxis (s := { s with host := k }) (sound.axis_lt fit))
    exact ⟨_, rfl, written, congrArg Axis.pos axis, congrArg Axis.referenced axis, congrArg Axis.posUncertain axis,
      State.announces_record later rfl rfl⟩

end Sys2Proof.Machine
end

section
/-! PROOFS of the family of 05_motion.md: fault stops by the checks of a sample and by a failed alignment (O25), alignment, external steps
and rest (O26), and what the engine makes of the commands of AXIS_CMD and the latch of DOOR_CMD (O53, O54). -/

namespace Sys2Proof.Machine

/-! ### What the operations of an axis leave of it (05 R165, R173, R175) -/

section

variable {s : State} {a : Nat}

theorem State.Sound.solenoidTread_lt (sound : s.Sound) (fit : a < s.nAxes) : 8 * flightOfAxis a + 7 < s.treads.length := by
  have lt := sound.axis_lt fit
  rw [sound.axes] at lt
  rw [sound.treads]
  unfold flightOfAxis
  omega

theorem State.axType_of_params {t : State} (h : t.params = s.params) : t.axType a = s.axType a := by
  unfold State.axType State.parN State.par
  rw [h]

theorem State.axType_of_phase (phase : s.isPhase a = true) : s.axType a ≠ 0 ∧ s.axType a ≠ 4 := by
  unfold State.isPhase at phase
  constructor <;> (intro type; simp [type] at phase)

@[simp] theorem State.driveTreads_axes {l : List Nat} {m : TMode} {d : Rat} : (s.driveTreads l m d).axes = s.axes :=
  (State.driveTreads_reach (.refl _) (.refl _ s)).axes rfl

/-- Commands to treads leave every axis alone. -/
theorem State.axis_driveTreads {l : List Nat} {m : TMode} {d : Rat} : (s.driveTreads l m d).axis a = s.axis a :=
  State.axis_of_axes State.driveTreads_axes

theorem State.axis_reactTreads {hold : Bool} : (s.reactTreads a hold).axis a = s.axis a := State.axis_driveTreads

theorem State.axis_record {e : EvCode} {n : Nat} {args : List (BitVec 32)} : (s.record e n args).axis a = s.axis a :=
  State.axis_of_axes State.record_axes

theorem State.axis_accepted (lt : a < s.axes.length) : (s.accepted a).axis a = { s.axis a with overshoot := false } :=
  State.axis_modAxis lt

/-- POS_UNCERTAIN is the one thing that setting it can change of an axis. -/
theorem State.axis_setUncertain (lt : a < s.axes.length) : ∃ b, (s.setUncertain a).axis a = { s.axis a with posUncertain := b } := by
  unfold State.setUncertain
  split
  · exact ⟨_, rfl⟩
  · exact ⟨true, State.axis_record.trans (State.axis_modAxis lt)⟩

/-- A fault stop of an axis that drives its motor: FAULT_CAUSE is the first of the causes (05 R173, R174). -/
theorem State.axis_faultStop {cause : Nat} {cs : List Nat} (lt : a < s.axes.length) (typed : s.axType a ≠ 0)
    (driven : (s.axis a).st.driven = true) :
    ∃ hold b, (s.faultStop a (cause :: cs)).axis a = { (s.axis a).faulted cause (cause :: cs) hold with posUncertain := b } := by
  have fitted : (s.axis a).st ≠ .disabled := fun st => by simp [st, AxState.driven] at driven
  have going : (s.axis a).st ≠ .faultStop := fun st => by simp [st, AxState.driven] at driven
  have answer : s.faultStop a (cause :: cs) = _ := (if_neg (by simp [typed, fitted])).trans (if_neg (by simp [going]))
  rw [answer]
  extract_lets blind stopped reacted marked
  have stop : reacted.axis a = (s.axis a).faulted cause (cause :: cs) _ :=
    State.axis_reactTreads.trans (State.axis_modAxis lt)
  have lt' : a < reacted.axes.length := by simpa [reacted, stopped, State.reactTreads] using lt
  obtain ⟨b, mark⟩ : ∃ b, marked.axis a = { reacted.axis a with posUncertain := b } := by
    unfold marked
    split
    · exact State.axis_setUncertain lt'
    · exact ⟨_, rfl⟩
  exact ⟨_, b, State.axis_record.trans (mark.trans (by rw [stop]))⟩

theorem State.faultStop_length {cs : List Nat} : (s.faultStop a cs).axes.length = s.axes.length :=
  State.faultStop_keeps (P := fun u => u.axes.length = s.axes.length) (fun _ _ _ _ h => h) (fun _ _ _ h => (List.length_modify ..).trans h)
    (fun _ _ _ _ h => (congrArg List.length State.record_axes).trans h) rfl

/-- What an axis is to do, and where it is: its inbox, its queue, its gearing, its position and the edge of its step line. -/
def Axis.course (x : Axis) : Axis :=
  { Axis.reset with inbox := x.inbox, queue := x.queue, gear := x.gear, posCmd := x.posCmd, extRise := x.extRise }

/-- An axis that starts to move keeps its course; it is in ALIGNING where its commutation is not established (05 R165). -/
structure Axis.Starts (x y : Axis) : Prop where
  st : y.st = .moving ∨ y.st = .aligning
  course : y.course = x.course

theorem Axis.Starts.inbox {x y : Axis} (h : x.Starts y) : y.inbox = x.inbox := (congrArg Axis.inbox h.course :)

theorem Axis.Starts.queue {x y : Axis} (h : x.Starts y) : y.queue = x.queue := (congrArg Axis.queue h.course :)

theorem Axis.Starts.gear {x y : Axis} (h : x.Starts y) : y.gear = x.gear := (congrArg Axis.gear h.course :)

theorem Axis.Starts.posCmd {x y : Axis} (h : x.Starts y) : y.posCmd = x.posCmd := (congrArg Axis.posCmd h.course :)

theorem Axis.Starts.extRise {x y : Axis} (h : x.Starts y) : y.extRise = x.extRise := (congrArg Axis.extRise h.course :)

theorem State.energise_starts (lt : a < s.axes.length) : (s.axis a).Starts ((s.energise a).axis a) := by
  unfold State.energise
  extract_lets ready hall abs started
  rw [State.axis_driveTreads, State.axis_modAxis lt]
  refine ⟨?_, rfl⟩
  cases ready
  · exact .inr rfl
  · exact .inl rfl

theorem State.energise_moving (lt : a < s.axes.length) (ready : s.commReady a = true) : ((s.energise a).axis a).st = .moving := by
  unfold State.energise
  extract_lets ready' hall abs started
  rw [State.axis_driveTreads, State.axis_modAxis lt]
  exact if_pos ready

theorem State.energise_length : (s.energise a).axes.length = s.axes.length := by
  unfold State.energise
  simp

/-- An axis at rest that has gone to IDLE (05 R165). -/
structure Axis.Rests (x y : Axis) : Prop where
  st : y.st = .idle
  queue : y.queue = []
  pull : y.pullSince = none
  inbox : y.inbox = x.inbox

theorem State.toIdle_rests (lt : a < s.axes.length) (typed : s.axType a ≠ 0) : (s.axis a).Rests ((s.toIdle a).axis a) := by
  unfold State.toIdle
  rw [State.axis_driveTreads]
  unfold State.axisIdle
  rw [State.axis_modAxis lt]
  exact ⟨if_neg typed, rfl, rfl, rfl⟩

theorem State.toIdle_length : (s.toIdle a).axes.length = s.axes.length := by
  unfold State.toIdle State.axisIdle
  simp

end

/-! ### The checks of a sample (05 R174, R178, R179, R188) -/

section

variable {s : State} {a : Nat}

/-- Events of one axis, recorded in their order. -/
def State.recordEach (s : State) (a : Nat) (es : List (EvCode × List (BitVec 32))) : State :=
  es.foldl (fun t e => t.record e.1 a e.2) s

variable {es : List (EvCode × List (BitVec 32))}

/-- The mask of what a record changes: the gallery, and what is sent. -/
def recordFields : Nat := 36507222016

theorem State.recordEach_reach : Reach recordFields s (s.recordEach a es) :=
  List.foldlRecOn (motive := Reach recordFields s) _ _ (.refl _ s) fun _ h _ _ => State.record_reach (.refl _) h

/-- While Hall A runs, the events are the next things sent. -/
theorem State.recordEach_outs (up : s.hallAUp = true) :
    (s.recordEach a es).outs = (es.map (fun e => OutMsg.event e.1.code a e.2)).reverse ++ s.outs := by
  induction es generalizing s with
  | nil => rfl
  | cons e es ih =>
    have running : (s.record e.1 a e.2).hallAUp = true := by
      unfold State.hallAUp at up ⊢
      rw [State.record_hallA]
      exact up
    exact (ih running).trans (by rw [State.record_outs up]; simp)

theorem State.announcesEach_recordEach {T : Nat} {t : State} (later : Reach T (s.recordEach a es) t) : s.AnnouncesEach a es t := by
  intro up
  have sent := later.grow
  rw [State.recordEach_outs up] at sent
  exact sent

/-- The first of several events that are announced comes next after what had been sent. -/
theorem State.AnnouncesEach.first {e : EvCode} {args : List (BitVec 32)} {t : State} (h : s.AnnouncesEach a ((e, args) :: es) t) :
    s.Announces e a args t := by
  intro up
  have sent := h up
  rw [List.map_cons, List.reverse_cons, List.append_assoc] at sent
  exact (List.suffix_append _ _).trans sent

/-- The checks of a sample record every cause that is due, in the order of the codes, and the axis takes one fault stop with all of them. -/
theorem State.lateStop_eq : s.lateStop a =
    ((s.recordEach a ((s.lateCauses a).map (·.2))).faultStop a ((s.lateCauses a).map (·.1))).modAxis a
      ({ · with stopped := false }) := by
  unfold State.lateStop State.lateCauses State.recordIf
  cases s.devDue a <;> cases s.fastDue a <;> cases s.pastLimit a (s.axis a) <;> cases s.masterLost a <;> rfl

/-- The axis after the checks of a sample have stopped it: FAULT_CAUSE is the lowest of the causes due. -/
theorem State.axis_lateStop {cause : Nat} (lt : a < s.axes.length) (typed : s.axType a ≠ 0) (driven : (s.axis a).st.driven = true)
    (lowest : (s.lateCauses a).head?.map (·.1) = some cause) :
    ∃ cs hold b, (s.lateStop a).axis a = { (s.axis a).faulted cause cs hold with posUncertain := b, stopped := false } := by
  obtain ⟨later, causes⟩ : ∃ later, (s.lateCauses a).map (·.1) = cause :: later :=
    List.head?_eq_some_iff.1 (List.head?_map.trans lowest)
  have reach := State.recordEach_reach (s := s) (a := a) (es := (s.lateCauses a).map (·.2))
  rw [State.lateStop_eq, causes]
  generalize s.recordEach a ((s.lateCauses a).map (·.2)) = u at reach
  have same : u.axis a = s.axis a := State.axis_of_axes (reach.axes rfl)
  have lt' : a < u.axes.length := by rw [reach.axes rfl]; exact lt
  have typed' : u.axType a ≠ 0 := by rw [State.axType_of_params (reach.params rfl)]; exact typed
  obtain ⟨hold, b, stop⟩ := State.axis_faultStop (cs := later) lt' typed' (by rw [same]; exact driven)
  have length : (u.faultStop a (cause :: later)).axes.length = u.axes.length := State.faultStop_length
  exact ⟨cause :: later, hold, b, (State.axis_modAxis (length ▸ lt')).trans (by rw [stop, same])⟩

/-- The checks of a sample stop the axis and announce all that they have found. -/
theorem State.lateStop_stops {cause : Nat} (lt : a < s.axes.length) (typed : s.axType a ≠ 0) (driven : (s.axis a).st.driven = true)
    (lowest : (s.lateCauses a).head?.map (·.1) = some cause) :
    ((s.lateStop a).axis a).FaultStopped cause ∧ s.AnnouncesEach a ((s.lateCauses a).map (·.2)) (s.lateStop a) := by
  obtain ⟨cs, hold, b, stop⟩ := State.axis_lateStop lt typed driven lowest
  constructor
  · rw [stop]
    exact ⟨rfl, rfl, rfl, rfl, rfl⟩
  · rw [State.lateStop_eq]
    exact State.announcesEach_recordEach (State.modAxis_reach (.of_or rfl) (State.faultStop_reach (.refl _) (.refl _ _)))

theorem State.devDue_of (driven : (s.axis a).st.driven = true) (runs : (s.axis a).devRun ≠ 0)
    (long : s.parN Par.axisDevTime a 0 ≤ (s.axis a).devRun) : s.devDue a = true := by simp [State.devDue, driven, runs, long]

theorem State.fastDue_of (driven : (s.axis a).st.driven = true) (long : 8 ≤ (s.axis a).speedRun) : s.fastDue a = true := by
  simp [State.fastDue, driven, long]

theorem State.lateCauses_dev (due : s.devDue a = true) :
    ∃ cs, s.lateCauses a = (9, Evt.axisDeviation, [wordZ ((s.axis a).posCmd.floor - (s.axis a).pos)]) :: cs := by
  unfold State.lateCauses
  rw [if_pos due]
  exact ⟨_, rfl⟩

theorem execAxisDeviation_due (fit : a < s.nAxes) (due : s.devDue a = true) : execAxisDeviation a s = .next (s.lateStop a) :=
  (onUnit_fitted (decide_eq_true fit)).trans (congrArg _ (if_pos due))

theorem execAxisOverspeed_due (fit : a < s.nAxes) (due : s.fastDue a = true) : execAxisOverspeed a s = .next (s.lateStop a) :=
  (onUnit_fitted (decide_eq_true fit)).trans (congrArg _ (if_pos due))

theorem execGearMasterLost_due (fit : a < s.nAxes) (due : s.masterLost a = true) : execGearMasterLost a s = .next (s.lateStop a) :=
  (onUnit_fitted (decide_eq_true fit)).trans (congrArg _ (if_pos due))

end

/-! ### The end of an alignment (05 R159, R160) -/

section

variable {s : State} {a : Nat} {rs : List Rat} {hi lo iMax : Rat}

theorem maxR_eq (p q : Rat) : maxR p q = p ∨ maxR p q = q := by
  unfold maxR
  split
  · exact .inr rfl
  · exact .inl rfl

theorem minR_eq (p q : Rat) : minR p q = p ∨ minR p q = q := by
  unfold minR
  split
  · exact .inl rfl
  · exact .inr rfl

theorem le_maxR (p q : Rat) : p ≤ maxR p q ∧ q ≤ maxR p q := by
  unfold maxR
  split
  · next le => exact ⟨le, Rat.le_refl⟩
  · next nle => exact ⟨Rat.le_refl, Rat.le_of_lt (Rat.not_le.1 nle)⟩

theorem minR_le (p q : Rat) : minR p q ≤ p ∧ minR p q ≤ q := by
  unfold minR
  split
  · next le => exact ⟨Rat.le_refl, le⟩
  · next nle => exact ⟨Rat.le_of_lt (Rat.not_le.1 nle), Rat.le_refl⟩

/-- A fold that takes one of its two operands at every step ends on its start or on one of the list. -/
theorem foldl_choice {P : Rat → Prop} {f : Rat → Rat → Rat} {p : Rat} (choice : ∀ p q, f p q = p ∨ f p q = q) (start : P p)
    (all : ∀ r ∈ rs, P r) : P (rs.foldl f p) := by
  refine List.foldlRecOn (motive := P) _ _ start fun p h r mem => ?_
  rcases choice p r with same | taken
  · rw [same]
    exact h
  · rw [taken]
    exact all r mem

theorem foldl_maxR_bounds (p : Rat) (rs : List Rat) : p ≤ rs.foldl maxR p ∧ ∀ r ∈ rs, r ≤ rs.foldl maxR p := by
  induction rs generalizing p with
  | nil => exact ⟨Rat.le_refl, nofun⟩
  | cons q rs ih =>
    obtain ⟨start, all⟩ := ih (maxR p q)
    obtain ⟨left, right⟩ := le_maxR p q
    refine ⟨Rat.le_trans left start, fun r h => ?_⟩
    rcases List.mem_cons.1 h with rfl | h
    · exact Rat.le_trans right start
    · exact all r h

theorem foldl_minR_bounds (p : Rat) (rs : List Rat) : rs.foldl minR p ≤ p ∧ ∀ r ∈ rs, rs.foldl minR p ≤ r := by
  induction rs generalizing p with
  | nil => exact ⟨Rat.le_refl, nofun⟩
  | cons q rs ih =>
    obtain ⟨start, all⟩ := ih (minR p q)
    obtain ⟨left, right⟩ := minR_le p q
    refine ⟨Rat.le_trans start left, fun r h => ?_⟩
    rcases List.mem_cons.1 h with rfl | h
    · exact Rat.le_trans start right
    · exact all r h

/-- Responses that are all below a tenth of I_MAX show no angle. -/
theorem injectFails_low (current : 0 < iMax) (low : ∀ r ∈ rs, r < iMax / 10) : injectFails iMax rs = true := by
  have tenth : 0 < iMax / 10 := by grind
  have highest : rs.foldl maxR 0 < iMax / 10 := foldl_choice (P := (· < iMax / 10)) maxR_eq tenth low
  unfold injectFails
  simp [highest]

/-- Responses that are all within 3 % of the largest show no angle. -/
theorem injectFails_even (mem : hi ∈ rs) (positive : 0 < hi) (near : ∀ r ∈ rs, r ≤ hi ∧ hi * 97 / 100 < r) :
    injectFails iMax rs = true := by
  have above := (foldl_maxR_bounds 0 rs).2 hi mem
  have below : rs.foldl maxR 0 ≤ hi := foldl_choice (P := (· ≤ hi)) maxR_eq (Rat.le_of_lt positive) fun r h => (near r h).1
  have highest : rs.foldl maxR 0 = hi := Rat.le_antisymm below above
  have lowest : hi * 97 / 100 < rs.foldl minR hi := foldl_choice (P := (hi * 97 / 100 < ·)) minR_eq (near hi mem).2 fun r h => (near r h).2
  have even : hi - rs.foldl minR hi < hi * 3 / 100 := by grind
  unfold injectFails
  simp only [highest, even, decide_true, Bool.or_true]

/-- A response of a tenth of I_MAX and another that lies 3 % or more below it show an angle. -/
theorem injectFails_not (memHi : hi ∈ rs) (memLo : lo ∈ rs) (strong : iMax / 10 ≤ hi) (apart : lo ≤ hi * 97 / 100) :
    injectFails iMax rs = false := by
  have highest := (foldl_maxR_bounds 0 rs).2 hi memHi
  have lowest := (foldl_minR_bounds (rs.foldl maxR 0) rs).2 lo memLo
  have enough : ¬ rs.foldl maxR 0 < iMax / 10 := by grind
  have uneven : ¬ rs.foldl maxR 0 - rs.foldl minR (rs.foldl maxR 0) < rs.foldl maxR 0 * 3 / 100 := by grind
  unfold injectFails
  simp only [enough, uneven, decide_false, Bool.or_false]

theorem State.alignFails_inject (inject : s.parN Par.axisComm a 0 ≠ 1) : s.alignFails a rs = injectFails (s.parR Par.axisIMax a 0) rs :=
  if_neg inject

/-- A HALL alignment fails where the flight's other port shows no valid code, or the axis has no feedback port. -/
theorem State.alignFails_hall (hall : s.parN Par.axisComm a 0 = 1)
    (code : ∀ p, s.fbPort a = some p → (s.port (otherPort p)).hallCode = 0 ∨ (s.port (otherPort p)).hallCode = 7) :
    s.alignFails a rs = true := by
  unfold State.alignFails
  rw [if_pos hall]
  cases port : s.fbPort a with
  | none => rfl
  | some p => simpa using code p port

theorem State.alignFails_hall_not {p : Nat} (hall : s.parN Par.axisComm a 0 = 1) (port : s.fbPort a = some p)
    (low : (s.port (otherPort p)).hallCode ≠ 0) (high : (s.port (otherPort p)).hallCode ≠ 7) : s.alignFails a rs = false := by
  unfold State.alignFails
  rw [if_pos hall, port]
  simp [low, high]

theorem execAlignComplete_fails (fit : a < s.nAxes) (aligns : (s.axis a).st = .aligning) (ended : (s.axis a).alignLeft = 0)
    (fails : s.alignFails a rs = true) : execAlignComplete a rs s = .next ((s.record Evt.commFault a []).faultStop a [13]) :=
  (onUnit_fitted (decide_eq_true fit)).trans (congrArg _ ((if_neg (by simp [aligns, ended])).trans (if_pos fails)))

/-- An alignment that fails takes the fault stop of cause 13 and is announced. -/
theorem State.alignStop_stops (lt : a < s.axes.length) (typed : s.axType a ≠ 0) (aligns : (s.axis a).st = .aligning) :
    let t := (s.record Evt.commFault a []).faultStop a [13]
    (t.axis a).FaultStopped 13 ∧ s.Announces Evt.commFault a [] t := by
  constructor
  · obtain ⟨hold, b, stop⟩ := State.axis_faultStop (s := s.record Evt.commFault a []) (cs := []) (cause := 13)
      (by rw [State.record_axes]; exact lt) (by rw [State.axType_of_params State.record_params]; exact typed)
      (by rw [State.axis_record, aligns]; rfl)
    rw [stop]
    exact ⟨rfl, rfl, rfl, rfl, rfl⟩
  · exact State.announces_record (State.faultStop_reach (.refl _) (.refl _ _)) rfl rfl

/-- An axis whose angle has been found, coarsely, and whose command starts. -/
def Axis.aligned (x : Axis) (countRef : Int) : Axis := { x with st := .moving, commOk := true, commCoarse := true, countRef := countRef }

theorem execAlignComplete_finds (fit : a < s.nAxes) (lt : a < s.axes.length) (aligns : (s.axis a).st = .aligning)
    (ended : (s.axis a).alignLeft = 0) (found : s.alignFails a rs = false) :
    ∃ t countRef, execAlignComplete a rs s = .next t ∧ t.axis a = (s.axis a).aligned countRef :=
  ⟨_, _, (onUnit_fitted (decide_eq_true fit)).trans
    (congrArg _ ((if_neg (by simp [aligns, ended])).trans (if_neg (Bool.eq_false_iff.1 found)))),
    State.axis_driveTreads.trans (State.axis_modAxis lt)⟩

end

/-- Settles O25: the events of all causes due go out before the fault stop, which takes the first of them as its cause; a failed alignment
is a cause of its own. -/
theorem axisFaultsStopTheAxis : Obligations.AxisFaultsStopTheAxis := by
  unfold Obligations.AxisFaultsStopTheAxis
  refine ⟨?deviation, ?overspeed, ?masterLost, ?inject, ?hall⟩
  case deviation =>
    intro s a sound fit typed driven runs long
    have due := State.devDue_of driven runs long
    obtain ⟨cs, causes⟩ := State.lateCauses_dev due
    obtain ⟨stopped, announced⟩ := State.lateStop_stops (cause := 9) (sound.axis_lt fit) typed driven (by rw [causes]; rfl)
    refine ⟨_, execAxisDeviation_due fit due, stopped, ?_, announced⟩
    rw [causes] at announced
    exact announced.first
  case overspeed =>
    intro s a cause sound fit typed driven long lowest
    exact ⟨_, execAxisOverspeed_due fit (State.fastDue_of driven long), State.lateStop_stops (sound.axis_lt fit) typed driven lowest⟩
  case masterLost =>
    intro s a cause sound fit typed driven lost lowest
    exact ⟨_, execGearMasterLost_due fit lost, State.lateStop_stops (sound.axis_lt fit) typed driven lowest⟩
  case inject =>
    intro s a rs sound fit typed aligns ended inject unclear
    have fails : s.alignFails a rs = true := by
      rw [State.alignFails_inject inject]
      rcases unclear with ⟨current, low⟩ | ⟨hi, mem, positive, near⟩
      · exact injectFails_low current low
      · exact injectFails_even mem positive near
    exact ⟨_, execAlignComplete_fails fit aligns ended fails, State.alignStop_stops (sound.axis_lt fit) typed aligns⟩
  case hall =>
    intro s a rs sound fit typed aligns ended hall code
    exact ⟨_, execAlignComplete_fails fit aligns ended (State.alignFails_hall hall code),
      State.alignStop_stops (sound.axis_lt fit) typed aligns⟩

/-! ### External steps and rest (05 R165, R180 to R183) -/

section

variable {s : State} {a : Nat}

theorem State.tick_le_ms : s.tick ≤ s.ms := by
  unfold State.ms
  split <;> omega

theorem execAxisHoldTimeout_due (fit : a < s.nAxes) (holds : (s.axis a).st = .hold) (phase : s.isPhase a = true)
    (limited : s.parN Par.axisHoldTime a 0 ≠ 0) (long : (s.axis a).holdSince + s.parN Par.axisHoldTime a 0 ≤ s.tick) :
    execAxisHoldTimeout a s = .next (s.toIdle a) :=
  (onUnit_fitted (decide_eq_true fit)).trans
    (congrArg _ (if_pos (by simp [holds, phase, limited, Nat.le_trans long State.tick_le_ms])))

theorem execStepperHoldCurrent_due (fit : a < s.nAxes) (stepper : s.axType a = 3)
    (long : (s.axis a).stillSince + s.parN Par.axisInterpMax a 0 + s.parN Par.axisHoldDelay a 0 ≤ s.tick) :
    execStepperHoldCurrent a s = .next (s.modAxis a ({ · with holdCurrent := true })) :=
  (onUnit_fitted (decide_eq_true fit)).trans (congrArg _ (if_pos (by simp [stepper, Nat.le_trans long State.tick_le_ms])))

/-! #### A solenoid after its pull -/

/-- A tread that is commanded runs with the duty, unless limp-home has charge of its die (02 R72). -/
theorem State.tread_driveTread {n : Nat} {m : TMode} {d : Rat} (lt : n < s.treads.length) :
    ((s.driveTread n m d).tread n).cmd = m ∧
      ((s.driveTread n m d).tread n).duty = if s.limpHolds n then (s.tread n).duty else d := by
  unfold State.driveTread
  rw [State.tread_modTread lt]
  cases s.limpHolds n <;> exact ⟨rfl, rfl⟩

theorem State.claimed_solenoid (solenoid : s.axType a = 4) : s.claimed a = [8 * flightOfAxis a + 7] := by
  unfold State.claimed
  rw [solenoid]
  rfl

/-- The state in which a solenoid has been pulled. -/
def State.pulled (s : State) (a : Nat) : State := s.modAxis a ({ · with pullSince := none })

theorem State.holdDuty_pulled (lt : a < s.axes.length) : (s.pulled a).holdDuty a = s.parR Par.axisHoldDuty a 0 := by
  have rest : ((s.pulled a).axis a).pullSince = none := congrArg Axis.pullSince (State.axis_modAxis lt)
  unfold State.holdDuty
  rw [rest]
  rfl

theorem execSolenoidPullEnd_due {since : Nat} (fit : a < s.nAxes) (lt : a < s.axes.length) (solenoid : s.axType a = 4)
    (holds : (s.axis a).st = .hold) (pulls : (s.axis a).pullSince = some since) (long : since + s.parN Par.axisPullMs a 0 ≤ s.tick) :
    execSolenoidPullEnd a s =
      .next ((s.pulled a).driveTread (8 * flightOfAxis a + 7) .highSide (s.parR Par.axisHoldDuty a 0)) := by
  refine (onUnit_fitted (decide_eq_true fit)).trans (congrArg _ ?_)
  rw [pulls]
  refine (if_pos (by simp [solenoid, holds, Nat.le_trans long State.tick_le_ms])).trans ?_
  show (s.pulled a).driveTreads ((s.pulled a).claimed a) .highSide ((s.pulled a).holdDuty a) = _
  rw [State.holdDuty_pulled lt, State.claimed_solenoid (s := s.pulled a) solenoid]
  rfl

/-! #### An external step -/

/-- The causes that are active on an axis ask of it its state alone. -/
theorem State.activeCauses_modAxis {f : Axis → Axis} (keeps : ((s.modAxis a f).axis a).st = (s.axis a).st) :
    (s.modAxis a f).activeCauses a = s.activeCauses a := by
  unfold State.activeCauses
  extract_lets
  rw [keeps]
  rfl

/-- The state in which the edge of a step line has been taken. -/
def State.edgeTaken (s : State) (a : Nat) : State := s.modAxis a ({ · with extRise := false })

theorem State.axis_edgeTaken (lt : a < s.axes.length) : (s.edgeTaken a).axis a = { s.axis a with extRise := false } :=
  State.axis_modAxis lt

/-- The state in which the edge has been taken and the axis is driven for its step. -/
def State.readied (s : State) (a : Nat) : State := if (s.axis a).st == .moving then s.edgeTaken a else (s.edgeTaken a).energise a

/-- The axis after one external step at the stamp. -/
def State.stepped (s : State) (a stamp : Nat) (up : Bool) (x : Axis) : Axis :=
  let y := x.coarseStep up 1 x.stepStamp (x.stepUp == up) stamp (s.interpMax a) s.stamp
  { y with posCmd := y.posCmd + (if up then 1 else -1), microDone := y.microsteps stamp }

/-- The state after one external step, in the direction that its line shows. -/
def State.stepOut (s : State) (a : Nat) : State :=
  (s.readied a).modAxis a ((s.readied a).stepped a (s.sample * 50000) (s.active (s.parN Par.axisExtDirLine a 0)))

/-- A step that leads past a soft limit stops the axis (05 R179). -/
def State.limitJudged (s : State) (a : Nat) : State := if s.pastLimit a (s.axis a) then s.lateStop a else s

theorem execExternalStep_steps (fit : a < s.nAxes) (lt : a < s.axes.length) (stepper : s.axType a = 3)
    (external : s.parN Par.axisStepSrc a 0 = 1) (free : (s.axis a).st = .idle ∨ (s.axis a).st = .hold ∨ (s.axis a).st = .moving)
    (edge : (s.axis a).extRise = true) (quiet : s.activeCauses a = []) (enabled : s.flightEnabled (flightOfAxis a) = true) :
    execExternalStep a s.sample s = .next ((s.stepOut a).limitJudged a) := by
  have keeps : ((s.edgeTaken a).axis a).st = (s.axis a).st := by rw [State.axis_edgeTaken lt]
  have quiet' : (s.edgeTaken a).activeCauses a = [] := (State.activeCauses_modAxis keeps).trans quiet
  have rests : ((s.axis a).st == .idle || (s.axis a).st == .hold || (s.axis a).st == .moving) = true := by simpa [or_assoc] using free
  have stepper' : (s.edgeTaken a).axType a = 3 := stepper
  have external' : (s.edgeTaken a).parN Par.axisStepSrc a 0 = 1 := external
  have enabled' : (s.edgeTaken a).flightEnabled (flightOfAxis a) = true := enabled
  refine (onUnit_fitted (decide_eq_true fit)).trans (congrArg _ ((if_neg (by simp [edge])).trans ?_))
  show ite ((decide ((s.edgeTaken a).axType a ≠ 3) || decide ((s.edgeTaken a).parN Par.axisStepSrc a 0 ≠ 1) || !_ ||
    !((s.edgeTaken a).activeCauses a).isEmpty || !(s.edgeTaken a).flightEnabled (flightOfAxis a)) = true) _ _ = _
  rw [rests, stepper', external', quiet', enabled']
  rfl

theorem State.readied_reach : Reach 1056768 s (s.readied a) :=
  have taken : Reach 1056768 s (s.edgeTaken a) := State.modAxis_reach (.of_or rfl) (.refl _ s)
  .ite (fun _ => taken) (fun _ => State.energise_reach (.refl _) taken)

theorem State.readied_length : (s.readied a).axes.length = s.axes.length := by
  have taken : (s.edgeTaken a).axes.length = s.axes.length := List.length_modify ..
  unfold State.readied
  split
  · exact taken
  · exact State.energise_length.trans taken

/-- A stepper has no commutation to establish: it moves at once, its edge taken, from where it stands. -/
theorem State.axis_readied (lt : a < s.axes.length) (stepper : s.axType a = 3) :
    ((s.readied a).axis a).st = .moving ∧ ((s.readied a).axis a).extRise = false ∧ ((s.readied a).axis a).posCmd = (s.axis a).posCmd := by
  have taken := State.axis_edgeTaken lt
  have lt' : a < (s.edgeTaken a).axes.length := by simpa [State.edgeTaken] using lt
  unfold State.readied
  split
  · next moving =>
    rw [taken]
    exact ⟨by simpa using moving, rfl, rfl⟩
  · have ready : (s.edgeTaken a).commReady a = true := by
      have stepper' : (s.edgeTaken a).axType a = 3 := stepper
      simp [State.commReady, stepper']
    have starts := State.energise_starts lt'
    rw [taken] at starts
    exact ⟨State.energise_moving lt' ready, starts.extRise, starts.posCmd⟩

theorem State.axis_stepOut (lt : a < s.axes.length) (stepper : s.axType a = 3) :
    ((s.stepOut a).axis a).st = .moving ∧ ((s.stepOut a).axis a).extRise = false ∧
      ((s.stepOut a).axis a).posCmd = (s.axis a).posCmd + (if s.active (s.parN Par.axisExtDirLine a 0) then 1 else -1) := by
  obtain ⟨moving, taken, position⟩ := State.axis_readied lt stepper
  unfold State.stepOut
  rw [State.axis_modAxis (by rw [State.readied_length]; exact lt), ← position]
  exact ⟨moving, taken, rfl⟩

theorem State.lateCauses_limit (past : s.pastLimit a (s.axis a) = true) : ∃ cause, (s.lateCauses a).head?.map (·.1) = some cause := by
  cases found : s.lateCauses a with
  | nil => simp [State.lateCauses, past] at found
  | cons c cs => exact ⟨c.1, rfl⟩

/-- The stop at a soft limit leaves the position and the step line of a moving axis alone. -/
theorem State.axis_limitJudged (lt : a < s.axes.length) (typed : s.axType a ≠ 0) (moving : (s.axis a).st = .moving) :
    ((s.limitJudged a).axis a).extRise = (s.axis a).extRise ∧ ((s.limitJudged a).axis a).posCmd = (s.axis a).posCmd := by
  unfold State.limitJudged
  split
  · next past =>
    obtain ⟨cause, lowest⟩ := State.lateCauses_limit past
    obtain ⟨cs, hold, b, stop⟩ := State.axis_lateStop lt typed (by rw [moving]; rfl) lowest
    rw [stop]
    exact ⟨rfl, rfl⟩
  · exact ⟨rfl, rfl⟩

theorem State.axis_externalStep (lt : a < s.axes.length) (stepper : s.axType a = 3) :
    (((s.stepOut a).limitJudged a).axis a).extRise = false ∧ (((s.stepOut a).limitJudged a).axis a).posCmd =
      (s.axis a).posCmd + (if s.active (s.parN Par.axisExtDirLine a 0) then 1 else -1) := by
  obtain ⟨moving, taken, position⟩ := State.axis_stepOut lt stepper
  have lt' : a < (s.stepOut a).axes.length := by simpa [State.stepOut, State.readied_length] using lt
  have type : (s.stepOut a).axType a = s.axType a :=
    State.axType_of_params (t := s.stepOut a) ((State.readied_reach (s := s) (a := a)).params rfl)
  obtain ⟨line, count⟩ := State.axis_limitJudged lt' (by rw [type, stepper]; decide) moving
  exact ⟨line.trans taken, count.trans position⟩

end

/-- Settles O26: each event acts where its time or its edge has come; a stepper moves from its first external step on, and a stop at a soft
limit takes back no step. -/
theorem axesAlignStepAndRest : Obligations.AxesAlignStepAndRest := by
  unfold Obligations.AxesAlignStepAndRest
  refine ⟨?holdTimeout, ?inject, ?hall, ?externalStep, ?holdCurrent, ?pullEnd⟩
  case holdTimeout =>
    intro s a sound fit holds phase limited long
    have rests := State.toIdle_rests (sound.axis_lt fit) (State.axType_of_phase phase).1
    exact ⟨_, execAxisHoldTimeout_due fit holds phase limited long, rests.st, rests.queue⟩
  case inject =>
    intro s a rs hi lo sound fit aligns ended inject memHi memLo strong apart
    obtain ⟨t, countRef, answer, axis⟩ := execAlignComplete_finds fit (sound.axis_lt fit) aligns ended
      ((State.alignFails_inject inject).trans (injectFails_not memHi memLo strong apart))
    exact ⟨t, answer, congrArg Axis.st axis, congrArg Axis.commOk axis, congrArg Axis.commCoarse axis⟩
  case hall =>
    intro s a p rs sound fit aligns ended hall port low high
    obtain ⟨t, countRef, answer, axis⟩ := execAlignComplete_finds (rs := rs) fit (sound.axis_lt fit) aligns ended
      (State.alignFails_hall_not hall port low high)
    exact ⟨t, answer, congrArg Axis.st axis, congrArg Axis.commOk axis, congrArg Axis.commCoarse axis⟩
  case externalStep =>
    intro s a sound fit stepper external free edge quiet enabled
    have lt := sound.axis_lt fit
    exact ⟨_, execExternalStep_steps fit lt stepper external free edge quiet enabled, State.axis_externalStep lt stepper⟩
  case holdCurrent =>
    intro s a sound fit stepper long
    exact ⟨_, execStepperHoldCurrent_due fit stepper long, State.axis_modAxis (sound.axis_lt fit)⟩
  case pullEnd =>
    intro s a since sound fit solenoid holds pulls long
    have lt := sound.axis_lt fit
    obtain ⟨mode, duty⟩ := State.tread_driveTread (s := s.pulled a) (m := .highSide) (d := s.parR Par.axisHoldDuty a 0)
      (sound.solenoidTread_lt fit)
    exact ⟨_, execSolenoidPullEnd_due fit lt solenoid holds pulls long, State.axis_modAxis lt, mode, duty⟩

/-! ### A host's command on its way to the engine (05 R161, R167, 12 R422) -/

section

variable {s : State} {k : Pkt} {x : Session} {a : Nat}

/-- A packet that reaches its axis waits there as the command that it carries. -/
theorem State.Reaches.posts (h : s.Reaches k x a) (c : Int → Rat → Bool → AxCmd) :
    s.axisPacket k c = (s.afterChecks axisSpec k).post a (c (axisTarget k) (axisVel k) (axisAppends k)) (.host (pendOf 0x0021 k.hdr)) := by
  obtain ⟨passes, length, unit, buffered, finite, mode, idle, fitted⟩ := h
  have lenOk : decide (k.payload.length = 12) = true := decide_eq_true length
  have stateOk : (s.mode == .run || s.mode == .maintenance) = true := by simpa using mode
  have vetted : s.vet { code := opAxisCmd, perm := .service, lenOk := true, stateOk := true, deferred := true } k =
      .served (s.afterChecks axisSpec k) (pendOf 0x0021 k.hdr) x.role (some x) := State.vet_passes passes
  have free : (s.afterChecks axisSpec k).sec.activating = none := idle
  unfold State.axisPacket
  simp only [lenOk, stateOk, vetted]
  rw [if_neg (by simp [finite, Nat.not_lt.2 buffered]), unit]
  exact (if_neg (by simp [free])).trans (if_neg (Nat.not_le.2 fitted))

/-- Every command of AXIS_CMD is a packet with what the engine gets of it. -/
theorem exec_axisCommands {c : Instr} {m : AxCmd} (mem : (c, m) ∈ axisCommands k) :
    ∃ f : Int → Rat → Bool → AxCmd, exec c s = .next (s.axisPacket k f) ∧ m = f (axisTarget k) (axisVel k) (axisAppends k) := by
  simp only [axisCommands, List.mem_cons, Prod.mk.injEq, List.not_mem_nil, or_false] at mem
  rcases mem with ⟨rfl, rfl⟩ | ⟨rfl, rfl⟩ | ⟨rfl, rfl⟩ | ⟨rfl, rfl⟩ | ⟨rfl, rfl⟩ | ⟨rfl, rfl⟩ | ⟨rfl, rfl⟩ | ⟨rfl, rfl⟩ | ⟨rfl, rfl⟩ |
    ⟨rfl, rfl⟩ | ⟨rfl, rfl⟩
  · exact ⟨fun t v app => .moveAbs t v app, rfl, rfl⟩
  · exact ⟨fun t v app => .moveRel t v app, rfl, rfl⟩
  · exact ⟨fun _ v app => .moveVel v app, rfl, rfl⟩
  all_goals exact ⟨fun _ _ _ => _, rfl, rfl⟩

theorem State.afterChecks_pends {o : OpSpec} (deferred : o.deferred = true) : pendOf o.code k.hdr ∈ (s.afterChecks o k).host.pends := by
  unfold State.afterChecks
  rw [if_pos deferred]
  exact List.mem_append_right _ (List.mem_singleton_self _)

end

/-! ### The engine judges a host's command (05 R166, R167, 12 R431, R432) -/

section

variable {s : State} {p : Pend} {a : Nat} {c : AxCmd}

/-- The state in which the engine has taken what had arrived for an axis. -/
def State.inboxTaken (s : State) (a : Nat) : State := s.modAxis a ({ · with inbox := [] })

theorem State.axis_inboxTaken (lt : a < s.axes.length) : (s.inboxTaken a).axis a = { s.axis a with inbox := [] } := State.axis_modAxis lt

theorem State.inboxTaken_length : (s.inboxTaken a).axes.length = s.axes.length := List.length_modify ..

/-- What the engine judges by is not in the inbox. -/
theorem State.refusesState_inboxTaken {sv : Bool} (lt : a < s.axes.length) :
    (s.inboxTaken a).refusesState a sv c = s.refusesState a sv c := by
  have causes : (s.inboxTaken a).activeCauses a = s.activeCauses a :=
    State.activeCauses_modAxis (by rw [State.axis_modAxis lt])
  unfold State.refusesState State.mayEngage
  rw [State.axis_inboxTaken lt, causes]
  rfl

theorem State.moveInRange_inboxTaken {m : Move} (lt : a < s.axes.length) : (s.inboxTaken a).moveInRange a m = s.moveInRange a m := by
  unfold State.moveInRange
  rw [State.axis_inboxTaken lt]
  rfl

/-- An axis that has something in its inbox is one of the state's. -/
theorem State.axis_lt_of_inbox {r : AxReq} (arrived : (s.axis a).inbox = [r]) : a < s.axes.length := by
  refine Decidable.byContradiction fun out => ?_
  have absent : s.axis a = .reset := by
    unfold State.axis
    rw [List.getD_eq_getElem?_getD, List.getElem?_eq_none (Nat.not_lt.1 out)]
    rfl
  simp [absent, Axis.reset] at arrived

theorem State.holderOf_none (h : ∀ x ∈ s.host.holders, x.axis = a → x.session = p.session) :
    ∀ n, s.holderOf a = some n → n = p.session := by
  intro n held
  obtain ⟨x, found, rfl⟩ := Option.map_eq_some_iff.1 held
  exact h x (List.mem_of_find?_eq_some found) (by simpa using List.find?_some found)

theorem State.holderOf_of_holders {t : State} (h : t.host.holders = s.host.holders) : t.holderOf a = s.holderOf a := by
  unfold State.holderOf
  rw [h]

/-- Who holds an axis after a command of a session: the session, or nobody after a RELEASE that took the axis to IDLE. -/
theorem State.holderOf_holdAxis {n : BitVec 16} :
    (s.holdAxis a n c).holderOf a = if c == .release && (s.axis a).st == .idle then none else some n := by
  unfold State.holderOf State.holdAxis
  dsimp only
  split
  · simp [List.find?_eq_none]
  · simp

theorem State.replyRaw_host {key : Option Bytes} {status item : Nat} {payload : Bytes} :
    (s.replyRaw p key status item payload).host = s.host := (State.replyRaw_reach (.refl _) (.refl _ s)).host rfl

theorem State.sendReply_host {r : Reply} : (s.sendReply r).host = s.host := (State.sendReply_reach (.refl _) (.refl _ s)).host rfl

/-- A reply takes no axis from anybody. -/
theorem State.answer_holders {status item : Nat} {payload : Bytes} : (s.answer p status item payload).host.holders = s.host.holders := by
  unfold State.answer
  dsimp only
  split
  · rfl
  · split
    · rw [State.replyRaw_host]
    · split
      · rfl
      · split
        · rfl
        · rw [State.sendReply_host]
          rfl

theorem State.session?_of_host {t : State} (h : t.host.sessions = s.host.sessions) (n : BitVec 16) : t.session? n = s.session? n := by
  unfold State.session?
  rw [h]

/-- A permitted command that the engine carries out: the axis is kept for its session, and the reply shows the state that it leads to. -/
theorem State.Judges.takeInbox_eq {v : State} (h : s.Judges p a c)
    (carried : (s.inboxTaken a).axisCommand a false p.sv c = (stOK, v)) :
    s.takeInbox a = ((v.markHostMotion a).holdAxis a p.session c).answer p stOK 0
      [BitVec.ofNat 8 (v.axis a).st.code, 0, BitVec.ofNat 8 (v.axis a).queue.length, 0] := by
  have free : ((s.inboxTaken a).progOwnsAxis a || ((s.inboxTaken a).mode == .maintenance && !p.sv)) = false := by
    have owner : (s.inboxTaken a).progOwnsAxis a = false := h.program
    have mode : (s.inboxTaken a).mode = s.mode := rfl
    rw [owner, mode]
    by_cases service : s.mode = .maintenance
    · simp [h.port service]
    · simp [service]
  have judged : s.takeInbox a = (s.inboxTaken a).hostMotion a p c := State.takeInbox_one h.arrived
  rw [judged]
  rcases State.hostMotion_cases (s := s.inboxTaken a) a p c with
    ⟨n, held, other, _⟩ | ⟨st, v', answer, refused, _⟩ | ⟨v', w, answer, rfl, result⟩
  · exact absurd (State.holderOf_none h.held n held) other
  · rw [free, carried] at answer
    exact absurd (congrArg Prod.fst answer).symm refused
  · rw [free, carried] at answer
    obtain rfl : v = v' := congrArg Prod.snd answer
    rw [result, h.live]
    rfl

/-- What a permitted command leaves: the axis as the engine has set it, the reply, and who holds the axis. -/
theorem State.Judges.takes {v : State} (h : s.Judges p a c) (carried : (s.inboxTaken a).axisCommand a false p.sv c = (stOK, v)) :
    let t := s.takeInbox a
    t.axis a = v.axis a ∧ t.Replied p 0 0 [BitVec.ofNat 8 (v.axis a).st.code, 0, BitVec.ofNat 8 (v.axis a).queue.length, 0] ∧
      t.holderOf a = if c == .release && (v.axis a).st == .idle then none else some p.session := by
  have link : v.host = s.host := by
    have reach := State.axisCommand_reach (a := a) (owned := false) (sv := p.sv) (c := c) (.refl _) (.refl _ (s.inboxTaken a))
    rw [carried] at reach
    exact reach.host rfl
  obtain ⟨x, session, source, transport⟩ := h.session
  rw [h.takeInbox_eq carried]
  refine ⟨State.axis_of_axes ((State.answer_reach (.refl _) (.refl _ _)).axes rfl), ?_, ?_⟩
  · refine State.answer_replied (x := x) _ _ _ h.numbered h.live ?_ source transport
    exact (State.session?_of_host (s := s) (congrArg HostLink.sessions link) _).trans session
  · exact (State.holderOf_of_holders State.answer_holders).trans State.holderOf_holdAxis

/-- A permitted command that does not give the axis back has been accepted, once the engine has carried it out. -/
theorem State.Judges.commanded {v : State} (h : s.Judges p a c) (carried : (s.inboxTaken a).axisCommand a false p.sv c = (stOK, v))
    (keeps : c ≠ .release) (taken : (v.axis a).inbox = []) : (s.takeInbox a).Commanded p a ∧ (s.takeInbox a).axis a = v.axis a := by
  obtain ⟨axis, replied, held⟩ := h.takes carried
  refine ⟨⟨?_, held.trans (if_neg (by simp [keeps])), axis ▸ taken⟩, axis⟩
  rw [axis]
  exact replied

/-- The engine permits a command: the axis is one of the variant's, and its state does not refuse it (05 R166). -/
structure State.Permits (s : State) (a : Nat) (sv : Bool) (c : AxCmd) : Prop where
  fitted : a < s.nAxes
  free : s.refusesState a sv c = false

theorem State.Judges.permits (h : s.Judges p a c) : (s.inboxTaken a).Permits a p.sv c :=
  ⟨h.fitted, (State.refusesState_inboxTaken (State.axis_lt_of_inbox h.arrived)).trans h.free⟩

theorem State.Judges.lt (h : s.Judges p a c) : a < (s.inboxTaken a).axes.length := by
  rw [State.inboxTaken_length]
  exact State.axis_lt_of_inbox h.arrived

end

/-! ### What the engine makes of each permitted command (05 R165 to R171, R183 to R187) -/

section

variable {s : State} {a : Nat} {sv : Bool} {c : AxCmd}

/-- A permitted command of the owner passes the statuses that come before its effect. -/
theorem State.Permits.reaches {α : Type} {absent owned refused carried : α} (h : s.Permits a sv c) :
    (if s.nAxes ≤ a then absent else if false = true then owned else if s.refusesState a sv c = true then refused else carried) =
      carried :=
  (if_neg (Nat.not_le.2 h.fitted)).trans ((if_neg Bool.false_ne_true).trans (if_neg (by simp [h.free])))

theorem State.Permits.applies (h : s.Permits a sv c) : s.applies a c = true := by
  refine Decidable.byContradiction fun out => ?_
  have refused : s.refusesState a sv c = true := if_pos (by simp [out])
  exact absurd refused (by simp [h.free])

theorem State.Permits.stop (h : s.Permits a sv .stop) :
    s.axisCommand a false sv .stop = (stOK, (s.brakeAxis a .stop).accepted a) := h.reaches

theorem State.Permits.quickStop (h : s.Permits a sv .quickStop) :
    s.axisCommand a false sv .quickStop = (stOK, (s.brakeAxis a .quick).accepted a) := h.reaches

theorem State.Permits.release (h : s.Permits a sv .release) (holds : (s.axis a).st = .hold) :
    s.axisCommand a false sv .release = (stOK, (s.toIdle a).accepted a) :=
  h.reaches.trans (congrArg (fun u => (stOK, State.accepted u a)) (if_pos (by simp [holds])))

theorem State.Permits.gearDisengage (h : s.Permits a sv .gearDisengage) (geared : (s.axis a).gear.geared = true) :
    s.axisCommand a false sv .gearDisengage = (stOK, (s.brakeAxis a .stop).accepted a) :=
  h.reaches.trans (congrArg (fun u => (stOK, State.accepted u a)) (if_pos geared))

theorem State.Permits.energize (h : s.Permits a sv .energize) : s.axisCommand a false sv .energize = (stOK, s.energizeSol a) := h.reaches

theorem State.Permits.deenergize (h : s.Permits a sv .deenergize) (holds : (s.axis a).st = .hold) :
    s.axisCommand a false sv .deenergize = (stOK, s.toIdle a) :=
  h.reaches.trans (congrArg (stOK, ·) (if_pos holds))

theorem State.Permits.gearEngage (h : s.Permits a sv .gearEngage) : ∃ ratio blend es, s.axisCommand a false sv .gearEngage =
    (stOK, (s.engage a (s.parN Par.axisGearSrc a 0) (s.parN Par.axisGearMaster a 0) ratio blend es).energise a) :=
  ⟨_, _, _, h.reaches⟩

/-- A permitted move within its bounds that finds room in the queue is queued. -/
theorem State.Permits.move {m : Move} {app : Bool} (h : s.Permits a sv c) (moves : (s.axis a).moveOf c = some (m, app))
    (range : s.moveInRange a m = true) (room : app = true → (s.axis a).queue.length < 8) :
    s.axisCommand a false sv c = (stOK, s.queueMove a m app) := by
  have full : ¬ (app && decide (8 ≤ (s.axis a).queue.length)) = true := by simpa using room
  cases c with
  | moveAbs | moveRel | moveVel =>
    refine h.reaches.trans ?_
    dsimp only
    rw [moves]
    exact (if_neg (by simp [range])).trans (if_neg full)
  | _ => cases moves

/-- An axis with a move at the end of its queue, or in the queue's place. -/
def Axis.enqueued (x : Axis) (m : Move) (app : Bool) : Axis := { x with queue := (if app then x.queue else []) ++ [m] }

theorem State.axis_recordIf {b : Bool} {e : EvCode} {n : Nat} {args : List (BitVec 32)} : (s.recordIf b e n args).axis a = s.axis a :=
  State.axis_of_axes ((State.recordIf_reach (.refl _) (.refl _ s)).axes rfl)

/-- A move that is queued, and the axis moving or on its way to it (05 R165, R168 to R170). -/
theorem State.queueMove_starts {m : Move} {app : Bool} (lt : a < s.axes.length) :
    ((s.axis a).enqueued m app).Starts ((s.queueMove a m app).axis a) := by
  unfold State.queueMove
  extract_lets past was queued begun moving
  have queued_eq : queued.axis a = _ := State.axis_modAxis lt
  have queued_course : (queued.axis a).course = ((s.axis a).enqueued m app).course := by
    rw [queued_eq]
    cases app <;> rfl
  have queued_lt : a < queued.axes.length := by simpa [queued] using lt
  have begun_keeps : (begun.axis a).course = (queued.axis a).course ∧ (begun.axis a).st = (queued.axis a).st := by
    unfold begun
    split
    · exact ⟨rfl, rfl⟩
    · rw [State.axis_modAxis queued_lt]
      exact ⟨rfl, rfl⟩
  have begun_lt : a < begun.axes.length := by
    unfold begun
    split
    · exact queued_lt
    · simpa using queued_lt
  obtain ⟨course, st⟩ := begun_keeps
  have same : (queued.axis a).st = was.st := by rw [queued_eq]
  rw [State.axis_recordIf]
  unfold moving
  split
  · next moves => exact ⟨.inl (st.trans (same.trans moves)), course.trans queued_course⟩
  · have starts := State.energise_starts begun_lt
    exact ⟨starts.st, starts.course.trans (course.trans queued_course)⟩

/-- The deceleration of a STOP or a QUICK_STOP (05 R171). -/
def State.brakeDecel (s : State) (a : Nat) : StopKind → Rat
  | .stop => maxR (s.parR Par.axisDecel a 0) (s.axis a).decelUse
  | .quick => s.parR Par.axisQstopDecel a 0

/-- An axis that has begun to brake: its moves and what is scheduled of its gearing are dropped (05 R171, R187). -/
def State.braking (s : State) (a : Nat) (k : StopKind) : Axis :=
  { s.axis a with
    st := .stopping, queue := [], stopping := some k, decelUse := s.brakeDecel a k, decelHeld := false, learning := false,
    scurve := s.parB Par.axisProfile a 0, jerkUse := s.parR Par.axisJerk a 0,
    gear := { (s.axis a).gear with entries := [], blend := none } }

/-- A moving axis that is stopped brakes, or enters HOLD where it stands still already. -/
theorem State.brakeAxis_moving {k : StopKind} (motor : s.axType a ≠ 4) (moving : (s.axis a).st = .moving)
    (free : k = .stop → (s.axis a).stopping = none) : s.brakeAxis a k =
      s.modAxis a (fun _ => if (s.axis a).vel = 0 then (s.braking a k).toHold s.stamp else s.braking a k) := by
  have goes : ¬ (decide (k = .stop) && decide ((s.axis a).stopping = some .quick)) = true := by
    cases k
    · simp [free rfl]
    · simp
  unfold State.brakeAxis
  rw [if_neg motor]
  simp only [moving]
  rw [if_neg goes]
  cases k <;> rfl

/-- A moving axis after an accepted stop. -/
theorem State.axis_braked {k : StopKind} (lt : a < s.axes.length) (motor : s.axType a ≠ 4) (moving : (s.axis a).st = .moving)
    (free : k = .stop → (s.axis a).stopping = none) :
    ((s.axis a).vel = 0 → ((s.brakeAxis a k).accepted a).axis a = { (s.braking a k).toHold s.stamp with overshoot := false }) ∧
      ((s.axis a).vel ≠ 0 → ((s.brakeAxis a k).accepted a).axis a = { s.braking a k with overshoot := false }) := by
  rw [State.brakeAxis_moving motor moving free, State.axis_accepted (by simpa using lt), State.axis_modAxis lt]
  exact ⟨fun still => by rw [if_pos still], fun moves => by rw [if_neg moves]⟩

/-- An axis that engages gearing follows its master from where it stands (05 R185). -/
theorem State.axis_engaged {src master blend : Nat} {ratio : Rat} {es : List GearEntry} (lt : a < s.axes.length) :
    let y := ((s.engage a src master ratio blend es).energise a).axis a
    y.gear.geared = true ∧ y.gear.src = src ∧ y.gear.s0 = (s.axis a).posCmd ∧ y.inbox = (s.axis a).inbox := by
  have starts := State.energise_starts (s := s.engage a src master ratio blend es) (by simpa [State.engage] using lt)
  have engaged : (s.engage a src master ratio blend es).axis a = _ := State.axis_modAxis lt
  refine ⟨?_, ?_, ?_, ?_⟩
  · rw [starts.gear, engaged]
  · rw [starts.gear, engaged]
  · rw [starts.gear, engaged]
  · rw [starts.inbox, engaged]

theorem State.axis_energizeSol (lt : a < s.axes.length) (rests : (s.axis a).st ≠ .hold) :
    ((s.energizeSol a).axis a).st = .hold ∧ ((s.energizeSol a).axis a).pullSince = some s.stamp ∧
      ((s.energizeSol a).axis a).inbox = (s.axis a).inbox := by
  unfold State.energizeSol
  rw [if_neg rests, State.axis_driveTreads, State.axis_modAxis lt]
  exact ⟨rfl, rfl, rfl⟩

/-- A PMSM that learns its commutation: it moves, and what was queued is dropped (log 76). -/
def Axis.learns (x : Axis) : Axis :=
  { x with
    st := .moving, queue := [], gear := .reset, vel := 0, acc := 0, learning := true, faultCause := 0, causes := [], holdBrake := false,
    overshoot := false }

theorem State.Permits.commLearn (h : s.Permits a sv .commLearn) (lt : a < s.axes.length) :
    ∃ v, s.axisCommand a false sv .commLearn = (stOK, v) ∧ v.axis a = (s.axis a).learns :=
  ⟨_, h.reaches, (State.axis_modAxis (by simpa using lt)).trans (congrArg Axis.learns State.axis_driveTreads)⟩

end

/-! ### What a host's command leaves (12 R422, R432) -/

section

variable {s : State} {p : Pend} {a : Nat} {c : AxCmd}

/-- A host's move that is permitted, in its bounds, and finds room is queued. -/
theorem State.Judges.queues {m : Move} {app : Bool} (h : s.Judges p a c) (moves : (s.axis a).moveOf c = some (m, app))
    (range : s.moveInRange a m = true) (room : app = true → (s.axis a).queue.length < 8) :
    let t := s.takeInbox a
    t.Commanded p a ∧ (t.axis a).queue = (if app then (s.axis a).queue else []) ++ [m] ∧
      ((t.axis a).st = .moving ∨ (t.axis a).st = .aligning) := by
  have lt := State.axis_lt_of_inbox h.arrived
  have taken := State.axis_inboxTaken lt
  have carried := h.permits.move (m := m) (app := app) (by rw [taken]; exact moves) ((State.moveInRange_inboxTaken lt).trans range)
    (by rw [taken]; exact room)
  have starts := State.queueMove_starts (m := m) (app := app) h.lt
  rw [taken] at starts
  obtain ⟨commanded, axis⟩ := h.commanded carried (by rintro rfl; cases moves) starts.inbox
  exact ⟨commanded, by rw [axis]; exact starts.queue, by rw [axis]; exact starts.st⟩

/-- A host's command that stops a moving axis is accepted: the axis brakes, or enters HOLD where it stands still already. -/
theorem State.Judges.brakes {k : StopKind} (h : s.Judges p a c)
    (carried : (s.inboxTaken a).axisCommand a false p.sv c = (stOK, ((s.inboxTaken a).brakeAxis a k).accepted a)) (keeps : c ≠ .release)
    (motor : s.axType a ≠ 4) (moving : (s.axis a).st = .moving) (free : k = .stop → (s.axis a).stopping = none) :
    let t := s.takeInbox a
    let x := (s.inboxTaken a).braking a k
    t.Commanded p a ∧ ((s.axis a).vel = 0 → t.axis a = { x.toHold s.stamp with overshoot := false }) ∧
      ((s.axis a).vel ≠ 0 → t.axis a = { x with overshoot := false }) := by
  have taken := State.axis_inboxTaken (State.axis_lt_of_inbox h.arrived)
  have braked := State.axis_braked (s := s.inboxTaken a) (k := k) h.lt motor (by rw [taken]; exact moving) (by rw [taken]; exact free)
  rw [taken] at braked
  obtain ⟨still, moves⟩ := braked
  have inbox : ((s.inboxTaken a).braking a k).inbox = [] := congrArg Axis.inbox taken
  have empty : ((((s.inboxTaken a).brakeAxis a k).accepted a).axis a).inbox = [] := by
    by_cases vel : (s.axis a).vel = 0
    · rw [still vel]
      exact inbox
    · rw [moves vel]
      exact inbox
  obtain ⟨commanded, axis⟩ := h.commanded carried keeps empty
  exact ⟨commanded, fun vel => axis.trans (still vel), fun vel => axis.trans (moves vel)⟩

/-- A RELEASE of an axis in HOLD takes it to IDLE, and gives it back. -/
theorem State.Judges.releases (h : s.Judges p a .release) (holds : (s.axis a).st = .hold) :
    let t := s.takeInbox a
    t.Replied p 0 0 [BitVec.ofNat 8 AxState.idle.code, 0, 0, 0] ∧ (t.axis a).st = .idle ∧ t.holderOf a = none := by
  have taken := State.axis_inboxTaken (State.axis_lt_of_inbox h.arrived)
  have typed : (s.inboxTaken a).axType a ≠ 0 := by simpa [State.applies] using h.permits.applies
  have rests := State.toIdle_rests h.lt typed
  have accepted := State.axis_accepted (s := (s.inboxTaken a).toIdle a) (by rw [State.toIdle_length]; exact h.lt)
  have idle : ((((s.inboxTaken a).toIdle a).accepted a).axis a).st = .idle := by rw [accepted]; exact rests.st
  have empty : ((((s.inboxTaken a).toIdle a).accepted a).axis a).queue = [] := by rw [accepted]; exact rests.queue
  obtain ⟨axis, replied, held⟩ := h.takes (h.permits.release (by rw [taken]; exact holds))
  rw [idle, empty] at replied
  exact ⟨replied, by rw [axis]; exact idle, held.trans (if_pos (by simp [idle]))⟩

/-- The command of another session than the one that holds the axis is turned away with that session's number. -/
theorem State.hostMotion_owned {n : BitVec 16} (held : s.holderOf a = some n) (other : n ≠ p.session) :
    s.hostMotion a p c = s.answer p stOwned n.toNat [] := by
  have found : (s.holderOf a).filter (· ≠ p.session) = some n := by simp [held, other]
  unfold State.hostMotion
  rw [found]

end

/-- Settles O53: a packet that passes waits in its axis's inbox; on the next sample the engine carries out what the axis permits, keeps the
axis for the session until its RELEASE, and turns away the command of any other session. -/
theorem hostMovesAreQueuedAndStopped : Obligations.HostMovesAreQueuedAndStopped := by
  unfold Obligations.HostMovesAreQueuedAndStopped
  refine ⟨?waits, ?moveAbs, ?moveRel, ?moveVel, ?stop, ?quickStop, ?release, ?owned⟩
  case waits =>
    intro s k x a c m sound reaches mem
    obtain ⟨f, answer, rfl⟩ := exec_axisCommands (s := s) mem
    rw [answer, reaches.posts f]
    have lt := sound.axis_lt reaches.fitted
    exact ⟨_, rfl, State.axis_post lt, fun b other => State.axis_post_ne other.symm, State.afterChecks_pends (o := axisSpec) rfl⟩
  case moveAbs =>
    intro s p a target v app sound judges range room
    exact judges.queues rfl range room
  case moveRel =>
    rintro s p a d target v app sound judges rfl range room
    exact judges.queues rfl range room
  case moveVel =>
    intro s p a v app sound judges range room
    exact judges.queues rfl range room
  case stop =>
    intro s p a sound judges motor moving free
    obtain ⟨commanded, still, moves⟩ := judges.brakes judges.permits.stop nofun motor moving fun _ => free
    refine ⟨commanded, ?_⟩
    by_cases vel : (s.axis a).vel = 0
    · rw [still vel, if_pos vel]
      exact ⟨rfl, rfl⟩
    · rw [moves vel, if_neg vel]
      exact ⟨rfl, rfl⟩
  case quickStop =>
    intro s p a sound judges motor moving vel
    obtain ⟨commanded, _, moves⟩ := judges.brakes judges.permits.quickStop nofun motor moving nofun
    refine ⟨commanded, ?_⟩
    rw [moves vel]
    exact ⟨rfl, rfl, rfl⟩
  case release =>
    intro s p a sound judges holds
    exact judges.releases holds
  case owned =>
    rintro s p a c n sound arrived live numbered ⟨x, session, source, transport⟩ held other
    have refused : s.takeInbox a = (s.inboxTaken a).answer p stOwned n.toNat [] :=
      (State.takeInbox_one arrived).trans (State.hostMotion_owned (s := s.inboxTaken a) held other)
    rw [refused]
    exact ⟨State.answer_replied (s := s.inboxTaken a) _ _ _ numbered live session source transport,
      (State.axis_of_axes ((State.answer_reach (.refl _) (.refl _ _)).axes rfl)).trans
        (State.axis_inboxTaken (State.axis_lt_of_inbox arrived))⟩

/-! ### DOOR_CMD (06 R194 to R197) -/

section

variable {s : State} {k : Pkt} {x : Session} {f : Nat}

/-- What DOOR_CMD asks of a packet of 4 bytes in RUN (12 R422). -/
def doorSpec : OpSpec := { code := 0x0020, perm := .door, lenOk := true, deferred := true }

/-- A door command that passes the checks and that its rank may issue enters the latch. -/
theorem execDoorCmd_enters {c : DoorCmd} (run : s.mode = .run) (passes : s.Passes doorSpec k x) (length : k.payload.length = 4)
    (idle : s.sec.activating = none) (flight : fieldAt k.payload 0 1 = f) (fit : f < s.nFlights) (door : s.hasDoor f = true)
    (cmd : doorCmdOf (fieldAt k.payload 1 1 : Nat) = some c) (may : rankMay (roleRank x.role) c = true) :
    execDoorCmd k s = .next ((s.afterChecks doorSpec k).enterLatch f
      ⟨c, roleRank x.role, k.hdr.session.toNat, some k.hdr.seq, s.sample + 1⟩) := by
  have lenOk : decide (k.payload.length = 4) = true := decide_eq_true length
  have stateOk : (s.mode == .run) = true := by simp [run]
  have vetted : s.vet { code := 0x0020, perm := .door, lenOk := true, stateOk := true, deferred := true } k =
      .served (s.afterChecks doorSpec k) (pendOf 0x0020 k.hdr) x.role (some x) := State.vet_passes passes
  have free : (s.afterChecks doorSpec k).sec.activating = none := idle
  have fit' : f < (s.afterChecks doorSpec k).nFlights := fit
  have door' : (s.afterChecks doorSpec k).hasDoor f = true := door
  unfold execDoorCmd
  simp only [lenOk, stateOk, vetted]
  unfold State.serveDoor
  rw [flight]
  refine congrArg _ ((if_neg (by simp [free])).trans ((if_neg (Nat.not_le.2 fit')).trans ((if_neg (by simp [door'])).trans ?_)))
  rw [cmd]
  exact if_neg (by simp [may])

theorem State.Sound.door_lt (h : s.Sound) (fit : f < s.nFlights) : f < s.doors.length := by
  rw [h.doors]
  unfold State.nFlights at fit
  split at fit <;> omega

/-- An entry that contends with no other joins the slots of its latch. -/
theorem State.enterLatch_alone {e : LatchEntry} (lt : f < s.doors.length)
    (alone : ∀ y ∈ (s.door f).slots, y.rank = e.rank → s.latchCycle y.stamp ≠ s.latchCycle e.stamp) :
    ((s.enterLatch f e).door f).slots = (s.door f).slots ++ [e] := by
  have none' : (s.door f).slots.find? (fun y => s.contends y e) = none :=
    List.find?_eq_none.2 fun y mem => by simpa [State.contends] using alone y mem
  unfold State.enterLatch
  rw [none']
  exact congrArg Door.slots (State.door_modDoor lt)

theorem State.enterLatch_host {e : LatchEntry} : (s.enterLatch f e).host = s.host := (State.enterLatch_reach (.refl _) (.refl _ s)).host rfl

end

/-- Settles O54: each command on the axis as the engine has taken it from the inbox; a door command of a rank that has no other in this
program cycle joins the latch. -/
theorem hostGearingSolenoidsAndDoors : Obligations.HostGearingSolenoidsAndDoors := by
  unfold Obligations.HostGearingSolenoidsAndDoors
  refine ⟨?engage, ?disengage, ?energize, ?deenergize, ?learn, ?door⟩
  case engage =>
    intro s p a sound judges
    have taken := State.axis_inboxTaken (State.axis_lt_of_inbox judges.arrived)
    obtain ⟨ratio, blend, es, carried⟩ := judges.permits.gearEngage
    obtain ⟨geared, src, start, inbox⟩ := State.axis_engaged (src := s.parN Par.axisGearSrc a 0)
      (master := s.parN Par.axisGearMaster a 0) (blend := blend) (ratio := ratio) (es := es) judges.lt
    rw [taken] at start inbox
    obtain ⟨commanded, axis⟩ := judges.commanded carried nofun inbox
    refine ⟨commanded, ?_⟩
    rw [axis]
    exact ⟨geared, src, start⟩
  case disengage =>
    intro s p a sound judges geared moving free
    have taken := State.axis_inboxTaken (State.axis_lt_of_inbox judges.arrived)
    have motor : s.axType a ≠ 4 := (State.axType_of_phase (s := s.inboxTaken a) judges.permits.applies).2
    obtain ⟨commanded, still, moves⟩ := judges.brakes (judges.permits.gearDisengage (by rw [taken]; exact geared)) nofun motor moving
      fun _ => free
    refine ⟨commanded, fun vel => ?_, fun vel => ?_⟩
    · rw [still vel]
      exact ⟨rfl, rfl⟩
    · rw [moves vel]
      exact ⟨rfl, rfl⟩
  case energize =>
    intro s p a sound judges rests
    have taken := State.axis_inboxTaken (State.axis_lt_of_inbox judges.arrived)
    obtain ⟨st, pull, inbox⟩ := State.axis_energizeSol judges.lt (by rw [taken]; exact rests)
    rw [taken] at inbox
    obtain ⟨commanded, axis⟩ := judges.commanded judges.permits.energize nofun inbox
    refine ⟨commanded, ?_⟩
    rw [axis]
    exact ⟨st, pull⟩
  case deenergize =>
    intro s p a sound judges holds
    have taken := State.axis_inboxTaken (State.axis_lt_of_inbox judges.arrived)
    have solenoid : (s.inboxTaken a).axType a = 4 := by simpa [State.applies] using judges.permits.applies
    have rests := State.toIdle_rests judges.lt (by rw [solenoid]; decide)
    rw [taken] at rests
    obtain ⟨commanded, axis⟩ := judges.commanded (judges.permits.deenergize (by rw [taken]; exact holds)) nofun rests.inbox
    refine ⟨commanded, ?_⟩
    rw [axis]
    exact ⟨rests.st, rests.pull⟩
  case learn =>
    intro s p a sound judges
    have taken := State.axis_inboxTaken (State.axis_lt_of_inbox judges.arrived)
    obtain ⟨v, carried, learns⟩ := judges.permits.commLearn judges.lt
    rw [taken] at learns
    obtain ⟨commanded, axis⟩ := judges.commanded carried nofun (congrArg Axis.inbox learns)
    refine ⟨commanded, ?_⟩
    rw [axis, learns]
    exact ⟨rfl, rfl⟩
  case door =>
    intro s k x f c sound run passes length idle flight fit door cmd may alone
    refine ⟨_, execDoorCmd_enters run passes length idle flight fit door cmd may, ?_, ?_⟩
    · exact State.enterLatch_alone (s := s.afterChecks doorSpec k) (sound.door_lt fit) alone
    · rw [State.enterLatch_host]
      exact State.afterChecks_pends (o := doorSpec) rfl

end Sys2Proof.Machine
end

section
/-! PROOFS of the family of 06_doorway.md: the reset of a faulted door (O28, refuted), the commands that move a door (O29), the timeouts of a
door, its LOCK and its STEP (O30), standalone blocks (O31), hard-stop searches (O32) and detections (O33). -/

namespace Sys2Proof.Machine

/-! ### The door of a flight after an operation -/

section

variable {s t : State} {f : Nat} {d : Door}

theorem State.stamp_of_clock (h : t.clock = s.clock) : t.stamp = s.stamp := by
  unfold State.stamp State.sample State.tick
  rw [h]

theorem seqEvent_acts {act : State → State} (h : s.Sequenced f) : seqEvent f s act = .next (act s) :=
  (onUnit_fitted (decide_eq_true h.fitted)).trans (congrArg _ (if_neg (by simp [h.run, h.up])))

/-- A flight is one of the module's, and its door holds the data given. -/
structure State.DoorAt (s : State) (f : Nat) (d : Door) : Prop where
  lt : f < s.doors.length
  door : s.door f = d

theorem State.Sound.doorAt (h : s.Sound) (fit : f < s.nFlights) : s.DoorAt f (s.door f) := ⟨h.door_lt fit, rfl⟩

/-- What entering a state leaves of a door: the state and its first tick are new; the LOCK engages where the state turns its solenoid off; the
count of attempts is kept but in OPEN and LOCKING (06 R200, R206, R213). -/
structure Door.Enters (x y : Door) (state : DoorState) (stamp : Nat) : Prop where
  st : y.st = state
  since : y.since = stamp
  faultCause : y.faultCause = x.faultCause
  stepSt : y.stepSt = x.stepSt
  refSt : y.ref.st = x.ref.st
  lockSt : state ≠ DoorState.referencing → state ≠ DoorState.locking → y.lockSt = x.lockSt
  attempt : state ≠ DoorState.locking → state ≠ DoorState.open' → y.attempt = x.attempt

namespace State.DoorAt

theorem of_doors (h : s.DoorAt f d) (same : t.doors = s.doors) : t.DoorAt f d :=
  ⟨same ▸ h.lt, (congrArg (·.getD f .reset) same).trans h.door⟩

theorem record {e : EvCode} {n : Nat} {args : List (BitVec 32)} (h : s.DoorAt f d) : (s.record e n args).DoorAt f d :=
  h.of_doors State.record_doors

theorem setDoor {g : Door → Door} (h : s.DoorAt f d) : (s.setDoor f g).DoorAt f (g d) :=
  ⟨Nat.lt_of_lt_of_eq h.lt (List.length_modify ..).symm, (State.door_modDoor h.lt).trans (congrArg g h.door)⟩

theorem ite {c : Prop} [Decidable c] {u : State} (ht : c → t.DoorAt f d) (hu : ¬c → u.DoorAt f d) : (if c then t else u).DoorAt f d := by
  split
  · next yes => exact ht yes
  · next no => exact hu no

theorem enterStep {st : StepState} (h : s.DoorAt f d) : (s.enterStep f st).DoorAt f { d with stepSt := st, stepHoldAt := none } := h.setDoor

theorem enterLock {st : LockState} (h : s.DoorAt f d) : (s.enterLock f st).DoorAt f { d with lockSt := st, lockSince := s.stamp } := h.setDoor

theorem lockEngage (h : s.DoorAt f d) : (s.lockEngage f).DoorAt f
    { d with
      lockSt := if d.lockSt = .fault then .fault else .engaging, lockSince := if d.lockSt = .fault then d.lockSince else s.stamp } := by
  have posted : (s.seqCmd (lockOf f) .deenergize).DoorAt f d := h.of_doors rfl
  unfold State.lockEngage
  extract_lets u
  rw [posted.door]
  by_cases fault : d.lockSt = .fault
  · rw [if_pos (by simp [fault]), if_pos fault, if_pos fault, ← fault]
    exact posted
  · rw [if_neg (by simp [fault]), if_neg fault, if_neg fault]
    exact posted.enterLock

theorem enterDoor {st : DoorState} (h : s.DoorAt f d) : ∃ e, (s.enterDoor f st).DoorAt f e ∧ d.Enters e st s.stamp := by
  unfold State.enterDoor
  extract_lets old stayed ends code released locked freed entered traced
  have hlocked : ∃ n l, locked.DoorAt f { d with lockSt := l, lockSince := n } ∧
      (st ≠ .referencing → st ≠ .locking → l = d.lockSt) := by
    have hstayed : stayed.DoorAt f d := h.of_doors rfl
    unfold locked
    split
    · next off => exact ⟨_, _, hstayed.lockEngage, fun r l => by simp [r, l] at off⟩
    · exact ⟨_, _, hstayed, fun _ _ => rfl⟩
  obtain ⟨n, l, hlocked, keeps⟩ := hlocked
  have hfreed : freed.DoorAt f _ := .ite (fun _ => hlocked.of_doors rfl) (fun _ => hlocked)
  have clock : freed.clock = s.clock := by
    have engaged : locked.clock = s.clock := by
      unfold locked
      split
      · exact (State.lockEngage_reach (.refl _) (.refl _ stayed)).clock rfl
      · rfl
    unfold freed
    split <;> exact engaged
  have hentered : entered.DoorAt f _ := hfreed.setDoor
  have htraced : traced.DoorAt f _ := hentered.of_doors <| by
    unfold traced
    rw [(State.traceOver_reach (.refl _) (.refl _ _)).doors rfl]
    split <;> rfl
  refine ⟨_, .ite (fun _ => htraced.of_doors ((State.endCycle_reach (.refl _) (.refl _ _)).doors rfl)) (fun _ => htraced), ?_⟩
  exact ⟨rfl, State.stamp_of_clock clock, rfl, rfl, rfl, keeps, fun l o => by simp [l, o]⟩

end State.DoorAt

end

section

variable {s t : State} {f : Nat} {d : Door} {e : LatchEntry} {k : DoorCmd}

/-! ### A command is judged (06 R197, R199, R201) -/

/-- The state on which the sequencer judges a command: the command is no longer waiting, and the clean-cycle rule has counted it. -/
def State.judging (s : State) (f : Nat) (e : LatchEntry) : State :=
  (s.setDoor f (fun d => { d with taken := none, lost := [] })).countCmd f e

/-- A door without its answers and without the sample of its last row: what the answers of a judgement leave alone. -/
def Door.unanswered (d : Door) : Door := { d with rowAt := none, latchLost := 0, result := 0 }

theorem State.unanswered_setDoor {g : Door → Door} (keeps : ∀ x, (g x).unanswered = x.unanswered) :
    ((s.setDoor f g).door f).unanswered = (s.door f).unanswered := by
  by_cases lt : f < s.doors.length
  · rw [State.setDoor, State.door_modDoor lt, keeps]
  · simp [State.setDoor, State.door, lt]

/-- What answering a command leaves: the door but for its answers, and every obstacle model. -/
def State.AnswersOnly (s : State) (f : Nat) (t : State) : Prop :=
  (t.door f).unanswered = (s.door f).unanswered ∧ t.obst = s.obst

theorem State.AnswersOnly.trans {u : State} (h : s.AnswersOnly f t) (k : t.AnswersOnly f u) : s.AnswersOnly f u :=
  ⟨k.1.trans h.1, k.2.trans h.2⟩

theorem State.AnswersOnly.setDoor {g : Door → Door} (keeps : ∀ x, (g x).unanswered = x.unanswered) : s.AnswersOnly f (s.setDoor f g) :=
  ⟨State.unanswered_setDoor keeps, rfl⟩

theorem State.resolve_answersOnly {win : LatchEntry} {status : Nat} : s.AnswersOnly f (s.resolve f e win status) := by
  unfold State.resolve
  split
  · have reach := State.answerSeq_reach (T := 38654705664) (session := BitVec.ofNat 16 e.session) (seq := ‹_›) (status := status) (item := 0)
      (payload := doorReply e.rank win.rank win.session (s.door f).st) (.refl _) (.refl _ s)
    exact ⟨congrArg (fun l : List Door => (l.getD f .reset).unanswered) (reach.doors rfl), reach.obst rfl⟩
  · split
    · exact ⟨rfl, rfl⟩
    · exact .setDoor fun _ => rfl

/-- The losers of the cycle are answered once the command has been judged (06 R197). -/
theorem State.conflicts_answersOnly {l : List LatchEntry} {win : LatchEntry} :
    s.AnswersOnly f (l.foldl (fun s x => s.resolve f x win stConflict) s) :=
  List.foldlRecOn l _ ⟨rfl, rfl⟩ fun _ h _ _ => h.trans State.resolve_answersOnly

/-- A command that takes its row: what the judgement does is what the row does. -/
theorem State.judge_takes {c : Bool} {act : State → State} (turn : (s.judging f e).rowTaken f = false)
    (row : (s.judging f e).doorRow f (some e) = some ⟨.command, c, act⟩) : (act (s.judging f e)).AnswersOnly f (s.judge f e) := by
  unfold State.judge
  extract_lets lost u found ok v unmet answered
  have free : u.rowTaken f = false := turn
  have takes : found = some ⟨.command, c, act⟩ := (if_neg (by simp [free])).trans row
  have accepted : ok = true := by
    unfold ok
    rw [takes]
    rfl
  have done : (act (s.judging f e)).AnswersOnly f v := by
    unfold v
    rw [takes]
    exact .setDoor fun _ => rfl
  refine .trans ?_ State.conflicts_answersOnly
  unfold answered
  rw [if_pos accepted]
  exact done.trans (.trans ⟨rfl, rfl⟩ State.resolve_answersOnly)

/-- A command that no row takes is refused: the judgement does nothing more. -/
theorem State.judge_refuses (row : (s.judging f e).doorRow f (some e) = none) : (s.judging f e).AnswersOnly f (s.judge f e) := by
  unfold State.judge
  extract_lets lost u found ok v unmet answered
  have refused : found = none := (ite_eq_left_iff.2 fun _ => row)
  have accepted : ok = false := by
    unfold ok
    rw [refused]
  have same : v = s.judging f e := by
    unfold v
    rw [refused]
    rfl
  refine .trans ?_ State.conflicts_answersOnly
  unfold answered
  rw [if_neg (by simp [accepted])]
  refine .trans ?_ State.resolve_answersOnly
  unfold unmet
  rw [same]
  split
  · exact ⟨rfl, rfl⟩
  · exact .setDoor fun _ => rfl

theorem State.DoorAt.judging (h : s.DoorAt f d) : (s.judging f e).DoorAt f { d with taken := none, lost := [] } :=
  h.setDoor (g := fun d => { d with taken := none, lost := [] }) |>.of_doors rfl

/-- Nothing isolates the door, no new fault stops it, no detection turns it round, and its table has given no row on this sample (06 R201). -/
structure State.Quiet (s : State) (f : Nat) : Prop where
  free : s.isoBits f = 0
  sound : s.faultEdge f = none
  clear : s.detecting f = false
  turn : s.rowTaken f = false

theorem State.Waits.quiet (h : s.Waits f) : s.Quiet f := ⟨h.free, h.sound, h.clear, h.turn⟩

/-- What the rows of every state ask of a door, but for its faults. -/
def Door.turn (d : Door) : Bool × Bool × DoorState × Option Nat := (d.isoCommand, d.isoNoBlock, d.st, d.rowAt)

/-- A change of axes, doors and obstacle models that leaves a door its turn isolates nothing, detects nothing and takes no row. -/
theorem State.turn_kept {axes : List Axis} {doors : List Door} {obst : List Obst} {t : State}
    (change : t = { s with axes := axes, doors := doors, obst := obst }) (turn : (t.door f).turn = (s.door f).turn)
    (watching : (t.obs f).watching = (s.obs f).watching) (fire : (t.obs f).fire = (s.obs f).fire) :
    t.isoBits f = s.isoBits f ∧ t.detecting f = s.detecting f ∧ t.rowTaken f = s.rowTaken f := by
  obtain ⟨command, noBlock, st, rowAt⟩ : _ ∧ _ ∧ _ ∧ _ := by simpa [Door.turn] using turn
  refine ⟨?_, ?_, ?_⟩
  · unfold State.isoBits
    rw [command, noBlock, change]
    rfl
  · unfold State.detecting
    dsimp only
    rw [watching, fire, st]
  · unfold State.rowTaken
    rw [rowAt, change]
    rfl

theorem State.faultEdge_judging (lt : f < s.doors.length) : (s.judging f e).faultEdge f = s.faultEdge f := by
  unfold State.faultEdge
  rw [(State.DoorAt.judging ⟨lt, rfl⟩).door]
  rfl

/-- The count of a command leaves what an obstacle model watches and has found. -/
theorem State.watch_judging :
    ((s.judging f e).obs f).watching = (s.obs f).watching ∧ ((s.judging f e).obs f).fire = (s.obs f).fire := by
  by_cases lt : f < s.obst.length
  · unfold State.judging State.countCmd
    rw [State.obs_modObs (by exact lt)]
    split <;> exact ⟨rfl, rfl⟩
  · unfold State.judging State.countCmd
    simp [State.obs, State.setDoor, lt]

/-- A command taken is judged on a state whose door stands as it did, and to which nothing else happens. -/
theorem State.Takes.judged (h : s.Takes f k) (sound : s.Sound) : ∃ e, (∀ j, takes (some e) j = (k == j)) ∧
    s.judgeTaken f k = s.judge f e ∧ (s.judging f e).Quiet f ∧ (s.judging f e).DoorAt f { s.door f with taken := none, lost := [] } := by
  obtain ⟨e, taken, cmd⟩ := h.taken
  have lt := sound.door_lt h.sequenced.fitted
  have at' : (s.judging f e).DoorAt f _ := State.DoorAt.judging ⟨lt, rfl⟩
  obtain ⟨free, clear, turn⟩ := State.turn_kept (s := s) (t := s.judging f e) rfl (congrArg Door.turn at'.door :) State.watch_judging.1
    State.watch_judging.2
  refine ⟨e, fun j => ?_, ?_, ⟨free.trans h.free, ?_, clear.trans h.clear, turn.trans h.turn⟩, at'⟩
  · rw [← cmd]
    rfl
  · unfold State.judgeTaken
    rw [taken]
    exact if_pos (by simp [cmd])
  · exact (State.faultEdge_judging lt).trans h.sound

end

section

variable {s t : State} {f a : Nat} {d : Door} {c : Option LatchEntry}

/-! ### The row that a sample takes (06 R201) -/

/-- Where nothing else happens to a door, the rows of its state decide. -/
theorem State.Quiet.doorRow {r : Row} (h : s.Quiet f) (isolate : takes c .isolate = false) (egress : takes c .egress = false)
    (row : (s.stateRows f c).find? (·.cond) = some r) : s.doorRow f c = some r := by
  simp [State.doorRow, State.doorRows, State.upperRows, h.free, h.sound, h.clear, isolate, egress, row]

theorem State.timeoutRow_takes {tags : List RowTag} {r : Row} (door : s.hasDoor f = true) (service : (s.door f).st ≠ .inactive)
    (turn : s.rowTaken f = false) (row : s.doorRow f none = some r) (tag : r.tag ∈ tags) :
    s.timeoutRow f tags = (r.act s).markFaults f := by
  unfold State.timeoutRow
  rw [if_neg (by simp [door, service, turn]), row]
  exact if_pos (by simpa using tag)

theorem State.timeoutRow_noDoor {tags : List RowTag} (door : s.hasDoor f = false) : s.timeoutRow f tags = s :=
  if_pos (by simp [door])

section

variable {k : DoorCmd}

theorem State.stateRow_open (cmd : ∀ j, takes c j = (DoorCmd.open' == j)) (st : (s.door f).st = .closedLocked)
    (permission : s.permission f = true) (leaf : (s.axis (leafOf f)).posUncertain = false)
    (step : (s.axis (stepOf f)).posUncertain = false) : (s.stateRows f c).find? (·.cond) = some ⟨.command, true, (·.unlock f)⟩ := by
  simp [State.stateRows, State.takesOpen, st, cmd, permission, leaf, step]

theorem State.stateRow_close (cmd : ∀ j, takes c j = (DoorCmd.close == j)) (st : (s.door f).st = .open')
    (free : (s.door f).closePendingAt = none) : (s.stateRows f c).find? (·.cond) = some ⟨.command, true, (·.pendClose f)⟩ := by
  simp [State.stateRows, State.takesOpen, st, cmd, free]

theorem State.stateRow_stop (cmd : ∀ j, takes c j = (DoorCmd.stop == j)) (st : (s.door f).st = .closing) :
    (s.stateRows f c).find? (·.cond) = some ⟨.command, true, (·.stopOpen f false)⟩ := by
  simp [State.stateRows, st, cmd]

theorem State.stateRow_reference (cmd : ∀ j, takes c j = (DoorCmd.reference == j))
    (st : (s.door f).st = .closedLocked ∨ (s.door f).st = .open') :
    (s.stateRows f c).find? (·.cond) = some ⟨.command, true, fun s => (s.enterDoor f .referencing).startRun f none false⟩ := by
  rcases st with st | st <;> simp [State.stateRows, st, cmd]

/-- OPEN without the permission finds no row where the door is closed and locked (06 R199). -/
theorem State.Quiet.doorRow_barred (h : s.Quiet f) (cmd : ∀ j, takes c j = (DoorCmd.open' == j)) (st : (s.door f).st = .closedLocked)
    (permission : s.permission f = false) (closed : s.closedBoth f = true) (locked : s.lockedBoth f = true) : s.doorRow f c = none := by
  simp [State.doorRow, State.doorRows, State.upperRows, State.stateRows, State.takesOpen, h.free, h.sound, h.clear, cmd, st, permission,
    closed, locked]

end

/-! #### Timeouts -/

theorem State.stateRow_warn {since : Nat} (st : (s.door f).st = .open') (pending : (s.door f).closePendingAt = some since)
    (due : since + s.parN Par.flightWarnMs f 0 ≤ s.tick) :
    (s.stateRows f none).find? (·.cond) = some ⟨.warnTimeout, true, (·.closeDoor f)⟩ := by
  simp [State.stateRows, State.takesOpen, takes, st, pending, Nat.le_trans due State.tick_le_ms]

theorem State.stateRow_noRelease (st : (s.door f).st = .unlocking) (permission : s.permission f = true) (bolt : s.lockedNone f = false)
    (due : (s.door f).since + s.parN Par.flightUnlockMs f 0 ≤ s.tick) :
    (s.stateRows f none).find? (·.cond) = some ⟨.noRelease, true, (·.doorFault f 4 0)⟩ := by
  simp [State.stateRows, takes, st, permission, bolt, Nat.le_trans due State.tick_le_ms]

theorem State.stateRow_notEngaged (st : (s.door f).st = .locking) (bolt : s.lockedBoth f = false)
    (due : (s.door f).since + s.parN Par.flightLockMs f 0 ≤ s.tick) :
    (s.stateRows f none).find? (·.cond) = some ⟨.notEngaged, true, (·.doorFault f 5 0)⟩ := by
  simp [State.stateRows, State.takesOpen, takes, st, bolt, Nat.le_trans due State.tick_le_ms]

theorem State.stateRow_notConfirmed {since : Nat} (st : (s.door f).st = .closing) (leaf : s.leafAt f (s.closedPos f) = true)
    (held : (s.door f).closedHoldAt = some since) (due : since + s.flightN Par.flightCloseConfirmMs f 0 ≤ s.tick) :
    (s.stateRows f none).find? (·.cond) = some ⟨.notConfirmed, true, (·.doorFault f 6 0)⟩ := by
  have late := Nat.le_trans due State.tick_le_ms
  simp [State.stateRows, State.takesOpen, takes, st, leaf, held, late, Nat.not_lt.2 late]

/-! ### What the rows do -/

/-- A door of which a reference run has begun its first part, that of the step or that of the leaf (06 R214). -/
structure Door.Searches (x y : Door) (step : Bool) : Prop where
  st : y.st = x.st
  refReq : y.refReq = x.refReq
  refSt : y.ref.st = if step then .step else .leafSearch
  stepSt : step = true → y.stepSt = .referencing

theorem Door.Searches.active {x y : Door} {step : Bool} (h : x.Searches y step) : y.ref.active = true := by
  unfold RefRun.active
  rw [h.refSt]
  cases step <;> rfl

namespace State.DoorAt

theorem markFaults (h : s.DoorAt f d) : ∃ l p k, (s.markFaults f).DoorAt f { d with leafF := l, stepF := p, lockF := k } :=
  ⟨_, _, _, h.setDoor⟩

/-- RELEASE of a LOCK that is LOCKED or ENGAGING, with the permission (06 R213). -/
theorem lockRelease (h : s.DoorAt f d) (permission : s.permission f = true) (st : d.lockSt = .locked ∨ d.lockSt = .engaging) :
    (s.lockRelease f).2.DoorAt f { d with lockSt := .releasing, lockSince := s.stamp } := by
  have posted : (s.seqCmd (lockOf f) .energize).DoorAt f d := h.of_doors rfl
  unfold State.lockRelease
  extract_lets bolt
  rw [if_neg (by rcases st with st | st <;> simp [bolt, h.door, permission, st])]
  exact posted.enterLock

theorem startPart {step : Bool} (h : s.DoorAt f d) : ∃ e, (s.startPart f step).DoorAt f e ∧ d.Searches e step := by
  unfold State.startPart
  extract_lets axis begun marked
  have hbegun : begun.DoorAt f _ := h.setDoor
  have hmarked : marked.DoorAt f _ := hbegun.setDoor
  cases step
  · exact ⟨_, hmarked, rfl, rfl, rfl, nofun⟩
  · exact ⟨_, hmarked.enterStep, rfl, rfl, rfl, fun _ => rfl⟩

theorem startRun {single : Option Nat} {service : Bool} (h : s.DoorAt f d) : ∃ e, (s.startRun f single service).DoorAt f e ∧
    d.Searches e (s.stepFitted f && (single = none || single = some (stepOf f)) && s.isPhase (stepOf f)) := by
  unfold State.startRun
  extract_lets run fresh
  have hfresh : fresh.DoorAt f _ := h.setDoor
  obtain ⟨e, at', searches⟩ := hfresh.startPart
  exact ⟨e, at', searches.st, searches.refReq, searches.refSt, searches.stepSt⟩

/-- OPEN from CLOSED_LOCKED: the LOCK releases, and the door is in UNLOCKING (06 R201). -/
theorem unlock (h : s.DoorAt f d) (permission : s.permission f = true) (locked : d.lockSt = .locked) :
    ∃ e, (s.unlock f).DoorAt f e ∧ e.st = .unlocking ∧ e.lockSt = .releasing ∧ e.since = s.stamp := by
  unfold State.unlock
  extract_lets counted released held
  have hcounted : counted.DoorAt f d := h.of_doors rfl
  have hreleased : released.DoorAt f _ := hcounted.lockRelease permission (.inl locked)
  have hheld : held.DoorAt f _ := .ite (fun _ => hreleased.of_doors rfl) (fun _ => hreleased)
  have clock : held.clock = s.clock := by
    have same : released.clock = s.clock := (State.lockRelease_reach (.refl _) (.refl _ counted)).clock rfl
    unfold held
    split <;> exact same
  obtain ⟨e, at', enters⟩ := hheld.enterDoor (st := .unlocking)
  exact ⟨e, at', enters.st, enters.lockSt nofun nofun, enters.since.trans (State.stamp_of_clock clock)⟩

end State.DoorAt

end

section

variable {s t : State} {f a : Nat} {d : Door}

/-! ### What an axis knows of its position -/

/-- A command on its way to an axis says nothing of any axis's position. -/
theorem State.posUncertain_seqCmd {b : Nat} {c : AxCmd} : ((s.seqCmd b c).axis a).posUncertain = (s.axis a).posUncertain := by
  by_cases same : b = a
  · subst same
    by_cases lt : b < s.axes.length
    · exact (congrArg Axis.posUncertain (State.axis_post lt) :)
    · simp [State.seqCmd, State.axis, lt]
  · exact congrArg Axis.posUncertain (State.axis_post_ne same)

theorem State.posUncertain_lockEngage : ((s.lockEngage f).axis a).posUncertain = (s.axis a).posUncertain := by
  unfold State.lockEngage
  extract_lets u
  split <;> exact State.posUncertain_seqCmd

theorem State.posUncertain_enterDoor {st : DoorState} : ((s.enterDoor f st).axis a).posUncertain = (s.axis a).posUncertain := by
  unfold State.enterDoor
  extract_lets old stayed ends code released locked freed entered traced
  have hlocked : (locked.axis a).posUncertain = (s.axis a).posUncertain := by
    unfold locked
    split
    · exact State.posUncertain_lockEngage
    · rfl
  have hfreed : freed.axes = locked.axes := by
    unfold freed
    split <;> rfl
  have htraced : traced.axes = freed.axes := by
    unfold traced
    rw [(State.traceOver_reach (.refl _) (.refl _ _)).axes rfl]
    split <;> rfl
  have ended : (if ends = true then traced.endCycle f code else traced).axes = traced.axes := by
    split
    · exact (State.endCycle_reach (.refl _) (.refl _ _)).axes rfl
    · rfl
  exact (congrArg Axis.posUncertain (State.axis_of_axes (ended.trans (htraced.trans hfreed)))).trans hlocked

theorem State.stepLost_of_certain (certain : (s.axis (stepOf f)).posUncertain = false) : s.stepLost f = false := by
  simp [State.stepLost, certain]

/-- A step that is not lost retracts by its own move, or stays as it is (06 R212, R222). -/
theorem State.stepRetract_cases (kept : s.stepLost f = false) :
    (s.stepRetract f).2 = s ∨ (s.stepRetract f).2 = (s.enterStep f .retracting).moveStep f false := by
  unfold State.stepRetract
  by_cases fitted : s.stepFitted f = true
  · rw [if_neg (by simp [fitted])]
    split
    case h_4 | h_5 | h_6 => exact .inl rfl
    case h_1 st | h_2 st | h_3 st =>
      have certain : (s.axis (stepOf f)).posUncertain = false := by simpa [State.stepLost, fitted, st] using kept
      rw [if_neg (by simp [certain])]
      exact .inr rfl
  · exact .inl (congrArg Prod.snd (if_pos (by simp [fitted])))

/-! ### A stroke turns the leaf (06 R202) -/

/-- The door stands as given but for its step, and for the stroke that starts once the leaf rests. -/
def State.StrokeAt (s : State) (f : Nat) (d : Door) : Prop :=
  ∃ o p n, s.DoorAt f { d with afterRest := o, stepSt := p, stepHoldAt := n }

namespace State.StrokeAt

theorem of_doors (h : s.StrokeAt f d) (same : t.doors = s.doors) : t.StrokeAt f d :=
  let ⟨_, _, _, at'⟩ := h
  ⟨_, _, _, at'.of_doors same⟩

theorem enterStep {st : StepState} (h : s.StrokeAt f d) : (s.enterStep f st).StrokeAt f d :=
  let ⟨_, _, _, at'⟩ := h
  ⟨_, _, _, at'.enterStep⟩

theorem afterRest {o : Option Bool} (h : s.StrokeAt f d) : (s.setDoor f ({ · with afterRest := o })).StrokeAt f d :=
  let ⟨_, _, _, at'⟩ := h
  ⟨_, _, _, at'.setDoor⟩

theorem gearedStep {opening reversal : Bool} (h : s.StrokeAt f d) : (s.gearedStep f opening reversal).StrokeAt f d :=
  (h.of_doors ((State.engageStep_reach (.refl _) (.refl _ s)).doors rfl)).enterStep

theorem stepRetract (h : s.StrokeAt f d) (kept : s.stepLost f = false) : (s.stepRetract f).2.StrokeAt f d := by
  rcases State.stepRetract_cases kept with stays | retracts
  · rwa [stays]
  · rw [retracts]
    exact h.enterStep.of_doors rfl

/-- A PARALLEL step that the stroke finds lost is left alone. -/
theorem parallelStep (h : s.StrokeAt f d) : (s.parallelStep f false).StrokeAt f d := by
  unfold State.parallelStep
  split
  · rw [if_neg nofun]
    split
    · exact h
    · next lost => exact h.stepRetract (Bool.eq_false_iff.2 lost)
  · exact h

theorem beginMoves {reversal : Bool} (h : s.StrokeAt f d) (leaf : (s.axis (leafOf f)).posUncertain = false)
    (step : (s.axis (stepOf f)).posUncertain = false) : (s.beginMoves f false reversal).StrokeAt f d := by
  unfold State.beginMoves
  extract_lets begun geared
  have hbegun : begun.StrokeAt f d := h.afterRest
  have sure : (begun.axis (leafOf f)).posUncertain = false := leaf
  have kept : begun.stepLost f = false := State.stepLost_of_certain step
  rw [if_neg (by simp [sure]), if_neg (by simp [kept])]
  have hgeared : geared.StrokeAt f d := by
    unfold geared
    split
    · exact hbegun.gearedStep
    · exact hbegun
  have moves : (geared.strokeMoves f false).StrokeAt f d := hgeared.of_doors ((State.strokeMoves_reach (.refl _) (.refl _ _)).doors rfl)
  have begins : ((geared.strokeMoves f false).beginStroke f true).StrokeAt f d := moves.of_doors rfl
  exact begins.parallelStep

theorem turnStroke (h : s.StrokeAt f d) (leaf : (s.axis (leafOf f)).posUncertain = false)
    (step : (s.axis (stepOf f)).posUncertain = false) : (s.turnStroke f false).StrokeAt f d := by
  unfold State.turnStroke
  split
  · exact h.beginMoves leaf step
  · extract_lets stopped freed
    have hstopped : stopped.doors = s.doors := (State.stopMoving_reach (.refl _) (.refl _ (s.endStroke f))).doors rfl
    have hfreed : freed.doors = stopped.doors := by
      unfold freed
      split <;> rfl
    exact ((h.of_doors (hfreed.trans hstopped)).afterRest).parallelStep

end State.StrokeAt

namespace State.DoorAt

theorem stroke (h : s.DoorAt f d) : s.StrokeAt f d := ⟨_, _, _, h⟩

/-- The door enters CLOSING with its attempts as they were, and turns its leaf (06 R203). -/
theorem closeDoor (h : s.DoorAt f d) (leaf : (s.axis (leafOf f)).posUncertain = false)
    (step : (s.axis (stepOf f)).posUncertain = false) :
    ∃ e, (s.closeDoor f).DoorAt f e ∧ e.st = .closing ∧ e.since = s.stamp ∧ e.attempt = d.attempt := by
  obtain ⟨e, at', enters⟩ := h.enterDoor (st := .closing)
  unfold State.closeDoor
  extract_lets closing
  have hclosing : closing.StrokeAt f e := ⟨_, _, _, at'.of_doors rfl⟩
  obtain ⟨o, p, n, turned⟩ := hclosing.turnStroke (State.posUncertain_enterDoor.trans leaf) (State.posUncertain_enterDoor.trans step)
  exact ⟨_, turned, enters.st, enters.since, enters.attempt nofun nofun⟩

end State.DoorAt

/-! ### FAULT (06 R209) -/

theorem State.Sound.door_of_twelve (h : s.Sound) (lt : f < 12) : f < s.doors.length := h.doors ▸ lt

/-- The door enters FAULT with the cause given, whatever its axes and its blocks do. -/
theorem State.doorFault_faults {cause extra : Nat} (sound : s.Sound) (fit : f < 12) :
    ∃ e, (s.doorFault f cause extra).DoorAt f e ∧ e.st = .fault ∧ e.faultCause = cause := by
  unfold State.doorFault
  extract_lets aborted halted caused entered
  have reach : Reach 36514566144 s halted := State.lockEngage_reach (.of_or rfl) (State.stepHalt_reach (.of_or rfl)
    (State.stopMoving_reach (.of_or rfl) (State.stopMoving_reach (.of_or rfl) (State.abortRun_reach (.of_or rfl) (.refl _ s)))))
  have hhalted : halted.DoorAt f (halted.door f) := ⟨(reach.sound sound).door_of_twelve fit, rfl⟩
  have hcaused : caused.DoorAt f _ := hhalted.setDoor
  obtain ⟨e, at', enters⟩ := hcaused.enterDoor (st := .fault)
  exact ⟨e, at'.record, enters.st, enters.faultCause⟩

end

section

variable {s t : State} {f a : Nat} {d : Door} {k : DoorCmd}

/-! ### The commands that move a door (06 R199, R201) -/

theorem State.AnswersOnly.door (h : s.AnswersOnly f t) (at' : s.DoorAt f d) : (t.door f).unanswered = d.unanswered :=
  h.1.trans (congrArg Door.unanswered at'.door)

/-- The judgement of a command that stands above no other row does what the row of its state does. -/
theorem State.Takes.rows (h : s.Takes f k) (sound : s.Sound) (isolate : k ≠ .isolate) (egress : k ≠ .egress) :
    ∃ e, (∀ j, takes (some e) j = (k == j)) ∧ (s.judging f e).DoorAt f { s.door f with taken := none, lost := [] } ∧
      ∀ act, ((s.judging f e).stateRows f (some e)).find? (·.cond) = some ⟨.command, true, act⟩ →
        (act (s.judging f e)).AnswersOnly f (s.judgeTaken f k) := by
  obtain ⟨e, cmd, judged, quiet, at'⟩ := h.judged sound
  refine ⟨e, cmd, at', fun act row => ?_⟩
  rw [judged]
  exact State.judge_takes quiet.turn (quiet.doorRow (by simpa [cmd] using isolate) (by simpa [cmd] using egress) row)

theorem State.judging_sound {e : LatchEntry} (sound : s.Sound) : (s.judging f e).Sound :=
  (State.countCmd_reach (T := 6291456) (.of_or rfl) (State.setDoor_reach (.of_or rfl) (.refl _ s))).sound sound

/-- STOP: the door waits in OPEN, and the cycle is no clean one (06 R201, 07 R237). -/
theorem State.stopOpen_stops (sound : s.Sound) (fit : f < 12) :
    ∃ e, (s.stopOpen f false).DoorAt f e ∧ e.st = .open' ∧ ((s.stopOpen f false).obs f).stopped = true := by
  unfold State.stopOpen
  extract_lets braked freed entered marked
  have stops : Reach 3145728 s (freed.stepStop f).2 := State.stepStop_reach (.of_or rfl)
    (.ite (fun _ => State.seqCmd_reach (.of_or rfl) (State.seqCmd_reach (.of_or rfl) (.refl _ s)))
      (fun _ => State.seqCmd_reach (.of_or rfl) (.refl _ s)))
  have hstopped : (freed.stepStop f).2.DoorAt f _ := ⟨(stops.sound sound).door_of_twelve fit, rfl⟩
  obtain ⟨e, at', enters⟩ := hstopped.enterDoor (st := .open')
  have hentered : entered.Sound := (State.enterDoor_reach (.refl _) (.refl _ _)).sound (stops.sound sound)
  exact ⟨e, at'.of_doors rfl, enters.st, congrArg Obst.stopped (State.obs_modObs (hentered.obst ▸ fit))⟩

end

/-- Settles O29: the command is judged on a door that nothing else moves; the row of its state is taken, or none is, and the answers leave
what the row has done. -/
theorem doorsOpenCloseStopAndReference : Obligations.DoorsOpenCloseStopAndReference := by
  unfold Obligations.DoorsOpenCloseStopAndReference
  refine ⟨?opens, ?barred, ?closes, ?stops, ?references⟩
  case opens =>
    intro s f sound takes st permission leaf step locked
    obtain ⟨e, cmd, at', row⟩ := takes.rows sound nofun nofun
    obtain ⟨d, unlocked, state, bolt, since⟩ := at'.unlock permission locked
    have door := (row _ (State.stateRow_open cmd ((congrArg Door.st at'.door).trans st) permission leaf step)).door unlocked
    exact ⟨_, seqEvent_acts (act := (·.judgeTaken f .open')) takes.sequenced, (congrArg Door.st door).trans state,
      (congrArg Door.lockSt door).trans bolt, (congrArg Door.since door).trans since⟩
  case barred =>
    intro s f sound takes st permission closed locked
    obtain ⟨e, cmd, judged, quiet, at'⟩ := takes.judged sound
    have refused := State.judge_refuses
      (quiet.doorRow_barred cmd ((congrArg Door.st at'.door).trans st) permission closed locked)
    exact ⟨_, (seqEvent_acts (act := (·.judgeTaken f .open')) takes.sequenced).trans (congrArg _ judged),
      (congrArg Door.st (refused.door at')).trans st⟩
  case closes =>
    intro s f sound takes st free
    obtain ⟨e, cmd, at', row⟩ := takes.rows sound nofun nofun
    have door := (row _ (State.stateRow_close cmd ((congrArg Door.st at'.door).trans st)
      ((congrArg Door.closePendingAt at'.door).trans free))).door at'.setDoor
    exact ⟨_, seqEvent_acts (act := (·.judgeTaken f .close)) takes.sequenced, (congrArg Door.st door).trans st,
      congrArg Door.closePendingAt door, congrArg Door.warn door⟩
  case stops =>
    intro s f sound takes st
    obtain ⟨e, cmd, at', row⟩ := takes.rows sound nofun nofun
    obtain ⟨d, stopped, state, unclean⟩ := State.stopOpen_stops (State.judging_sound sound) (State.nFlights_le takes.sequenced.fitted)
    have answers := row _ (State.stateRow_stop cmd ((congrArg Door.st at'.door).trans st))
    exact ⟨_, seqEvent_acts (act := (·.judgeTaken f .stop)) takes.sequenced, (congrArg Door.st (answers.door stopped)).trans state,
      (congrArg (fun l : List Obst => (l.getD f .reset).stopped) answers.2).trans unclean⟩
  case references =>
    intro s f sound takes st
    obtain ⟨e, cmd, at', row⟩ := takes.rows sound nofun nofun
    obtain ⟨d, entered, enters⟩ := at'.enterDoor (st := .referencing)
    obtain ⟨d', begun, searches⟩ := entered.startRun (single := none) (service := false)
    have door := (row _ (State.stateRow_reference cmd (by rw [at'.door]; exact st))).door begun
    exact ⟨_, seqEvent_acts (act := (·.judgeTaken f .reference)) takes.sequenced, (congrArg Door.st door).trans (searches.st.trans enters.st),
      (congrArg (·.ref.active) door).trans searches.active⟩

section

variable {s t : State} {f a : Nat} {d : Door} {k : DoorCmd}

/-! ### Timeouts (06 R201, R203, R209, R212, R213) -/

theorem State.Quiet.timeout {r : Row} {tags : List RowTag} (h : s.Quiet f) (door : s.hasDoor f = true)
    (service : (s.door f).st ≠ .inactive) (row : (s.stateRows f none).find? (·.cond) = some r) (tag : r.tag ∈ tags) :
    s.timeoutRow f tags = (r.act s).markFaults f :=
  State.timeoutRow_takes door service h.turn (h.doorRow rfl rfl row) tag

/-- The LOCK is in FAULT, its solenoid off. -/
theorem State.DoorAt.lockFails {lost : Bool} (h : s.DoorAt f d) :
    (s.lockFails f lost).DoorAt f { d with lockSt := .fault, lockSince := s.stamp, lockLost := lost } := by
  have posted : (s.seqCmd (lockOf f) .deenergize).DoorAt f d := h.of_doors rfl
  exact posted.enterLock.setDoor

/-- What a LOCK that fails in UNLOCKING or LOCKING means for its door: the cause of that state, unless the last evaluation saw it (06 R209). -/
theorem State.faultEdge_lockFails {cause : Nat} (lt : f < s.doors.length) (sound : s.faultEdge f = none)
    (st : (s.door f).st = .unlocking ∧ cause = 4 ∨ (s.door f).st = .locking ∧ cause = 5) :
    (s.lockFails f false).faultEdge f = none ∨ (s.lockFails f false).faultEdge f = some cause := by
  have leaf : (s.lockFails f false).axis (leafOf f) = s.axis (leafOf f) :=
    State.axis_post_ne (s := s) (show lockOf f ≠ leafOf f by unfold lockOf leafOf; omega)
  unfold State.faultEdge at sound ⊢
  rw [leaf, (State.DoorAt.lockFails ⟨lt, rfl⟩).door]
  extract_lets d₀ x at sound
  extract_lets d'
  by_cases leafF : (x.st == .faultStop && !d₀.leafF && decide (x.faultCause ≠ 7)) = true
  · rw [if_pos leafF] at sound
    cases sound
  by_cases stepF : (d₀.stepSt == .fault && !d₀.stepF) = true
  · rw [if_neg leafF, if_pos stepF] at sound
    cases sound
  rw [if_neg leafF, if_neg stepF]
  rcases st with ⟨st, rfl⟩ | ⟨st, rfl⟩ <;> cases (s.door f).lockF <;> simp [d', st]

/-- A new fault of a door that unlocks or locks stands above the rows of its state (06 R201, R209). -/
theorem State.doorRow_fault {cause : Nat} (free : s.isoBits f = 0) (st : (s.door f).st = .unlocking ∨ (s.door f).st = .locking)
    (edge : s.faultEdge f = some cause) :
    s.doorRow f none = some ⟨.plain, true, fun s => s.doorFault f ((s.faultEdge f).getD 2) 0⟩ := by
  rcases st with st | st <;> simp [State.doorRow, State.doorRows, State.upperRows, takes, free, st, edge]

/-- The LOCK has failed on the sample: its fault, or else the row of the state, takes the door to FAULT with the cause of its state. -/
theorem State.Waits.doorRow_lockFails {tag : RowTag} {cause : Nat} (h : s.Waits f) (lt : f < s.doors.length)
    (st : (s.door f).st = .unlocking ∧ cause = 4 ∨ (s.door f).st = .locking ∧ cause = 5)
    (row : ((s.lockFails f false).stateRows f none).find? (·.cond) = some ⟨tag, true, (·.doorFault f cause 0)⟩) :
    (s.lockFails f false).rowTaken f = false ∧ ∃ r, (s.lockFails f false).doorRow f none = some r ∧ r.tag ∈ [.plain, tag] ∧
      r.act (s.lockFails f false) = (s.lockFails f false).doorFault f cause 0 := by
  have at' : (s.lockFails f false).DoorAt f _ := State.DoorAt.lockFails ⟨lt, rfl⟩
  obtain ⟨free, clear, turn⟩ := State.turn_kept (s := s) (t := s.lockFails f false) rfl (congrArg Door.turn at'.door :) rfl rfl
  refine ⟨turn.trans h.turn, ?_⟩
  rcases State.faultEdge_lockFails lt h.sound st with edge | edge
  · have quiet : (s.lockFails f false).Quiet f := ⟨free.trans h.free, edge, clear.trans h.clear, turn.trans h.turn⟩
    exact ⟨_, quiet.doorRow rfl rfl row, by simp, rfl⟩
  · have st' : ((s.lockFails f false).door f).st = .unlocking ∨ ((s.lockFails f false).door f).st = .locking := by
      rw [at'.door]
      exact st.imp And.left And.left
    exact ⟨_, State.doorRow_fault (free.trans h.free) st' edge, by simp, by simp [edge]⟩

/-- A sample that ends in FAULT leaves the door there, with its cause. -/
theorem State.doorFault_marked {cause : Nat} (sound : s.Sound) (fit : f < 12) :
    (((s.doorFault f cause 0).markFaults f).door f).st = .fault ∧ (((s.doorFault f cause 0).markFaults f).door f).faultCause = cause := by
  obtain ⟨e, at', state, why⟩ := State.doorFault_faults (cause := cause) (extra := 0) sound fit
  obtain ⟨l, p, k, marked⟩ := at'.markFaults
  rw [marked.door]
  exact ⟨state, why⟩

/-- The door waits in vain for its LOCK: it enters FAULT with the cause of its state, whether the LOCK has failed on the sample or not. -/
theorem State.Waits.lockTimeout {bolt : LockState} {tag : RowTag} {cause : Nat} (h : s.Waits f) (sound : s.Sound)
    (st : (s.door f).st = .unlocking ∧ cause = 4 ∨ (s.door f).st = .locking ∧ cause = 5)
    (row : ∀ u : State, u = s ∨ u = s.lockFails f false →
      (u.stateRows f none).find? (·.cond) = some ⟨tag, true, (·.doorFault f cause 0)⟩) :
    ((s.lockTimeout f bolt tag).door f).st = .fault ∧ ((s.lockTimeout f bolt tag).door f).faultCause = cause := by
  have fit := State.nFlights_le h.sequenced.fitted
  have lt := sound.door_of_twelve fit
  have service : (s.door f).st ≠ .inactive := by rcases st with ⟨st, -⟩ | ⟨st, -⟩ <;> simp [st]
  unfold State.lockTimeout
  split
  · obtain ⟨turn, r, found, tagged, act⟩ := h.doorRow_lockFails lt st (row _ (.inr rfl))
    have door : (s.lockFails f false).hasDoor f = true := h.door
    have service' : ((s.lockFails f false).door f).st ≠ .inactive := by
      rw [(State.DoorAt.lockFails ⟨lt, rfl⟩).door]
      exact service
    rw [State.timeoutRow_takes door service' turn found tagged, act]
    exact State.doorFault_marked ((State.lockFails_reach (.refl _) (.refl _ s)).sound sound) fit
  · rw [h.quiet.timeout h.door service (row s (.inl rfl)) (by simp)]
    exact State.doorFault_marked sound fit

/-- The LOCK of a flight without a door enters FAULT (06 R213). -/
theorem State.Alone.lockTimeout {bolt : LockState} {tag : RowTag} (h : s.Alone f btLock) (sound : s.Sound)
    (st : (s.door f).lockSt = bolt) (due : s.lockTimedOut f = true) : ((s.lockTimeout f bolt tag).door f).lockSt = .fault := by
  have alone : (s.lockFails f false).hasDoor f = false := h.noDoor
  unfold State.lockTimeout
  rw [if_pos (by simp [h.block, st, due]), State.timeoutRow_noDoor alone, (sound.doorAt h.sequenced.fitted).lockFails.door]

end

/-- Settles O30: the row of a timeout that has come is the first that matches, and it closes the door or takes it, its LOCK or its STEP to
FAULT. -/
theorem doorTimeouts : Obligations.DoorTimeouts := by
  unfold Obligations.DoorTimeouts
  refine ⟨?warn, ?release, ?lockRelease, ?engage, ?lockEngage, ?confirm, ?step⟩
  case warn =>
    intro s f since sound waits st pending due leaf step
    obtain ⟨e, closing, state, entered, -⟩ := (sound.doorAt waits.sequenced.fitted).closeDoor leaf step
    obtain ⟨l, p, k, marked⟩ := closing.markFaults
    refine ⟨_, seqEvent_acts (act := (·.timeoutRow f [.warnTimeout])) waits.sequenced, ?_⟩
    rw [waits.quiet.timeout waits.door (by simp [st]) (State.stateRow_warn st pending due) (by simp), marked.door]
    exact ⟨state, entered⟩
  case release =>
    intro s f sound waits st permission bolt due
    have at' := (sound.doorAt waits.sequenced.fitted).lockFails (lost := false)
    refine ⟨_, seqEvent_acts (act := (·.lockTimeout f .releasing .noRelease)) waits.sequenced,
      waits.lockTimeout sound (.inl ⟨st, rfl⟩) ?_⟩
    rintro u (rfl | rfl)
    · exact State.stateRow_noRelease st permission bolt due
    · exact State.stateRow_noRelease (by rw [at'.door]; exact st) permission bolt (by rw [at'.door]; exact due)
  case lockRelease =>
    intro s f sound alone st due
    exact ⟨_, seqEvent_acts (act := (·.lockTimeout f .releasing .noRelease)) alone.sequenced, alone.lockTimeout sound st due⟩
  case engage =>
    intro s f sound waits st bolt due
    have at' := (sound.doorAt waits.sequenced.fitted).lockFails (lost := false)
    refine ⟨_, seqEvent_acts (act := (·.lockTimeout f .engaging .notEngaged)) waits.sequenced,
      waits.lockTimeout sound (.inr ⟨st, rfl⟩) ?_⟩
    rintro u (rfl | rfl)
    · exact State.stateRow_notEngaged st bolt due
    · exact State.stateRow_notEngaged (by rw [at'.door]; exact st) bolt (by rw [at'.door]; exact due)
  case lockEngage =>
    intro s f sound alone st due
    exact ⟨_, seqEvent_acts (act := (·.lockTimeout f .engaging .notEngaged)) alone.sequenced, alone.lockTimeout sound st due⟩
  case confirm =>
    intro s f since sound waits st leaf held due
    refine ⟨_, seqEvent_acts (act := (·.timeoutRow f [.notConfirmed])) waits.sequenced, ?_⟩
    rw [waits.quiet.timeout waits.door (by simp [st]) (State.stateRow_notConfirmed st leaf held due) (by simp)]
    exact State.doorFault_marked sound (State.nFlights_le waits.sequenced.fitted)
  case step =>
    intro s f sound sequenced block due
    refine ⟨_, seqEvent_acts (act := fun s => if s.hasComposite btStep f && s.stepTimedOut f then s.stepFault f else s) sequenced, ?_⟩
    rw [if_pos (by simp [block, due])]
    exact congrArg Door.stepSt (sound.doorAt sequenced.fitted).enterStep.door

section

variable {s t : State} {f : Nat} {d : Door}

/-! ### Standalone blocks (06 R212, R213, R223) -/

/-- The state in which the command of a standalone STEP has been taken. -/
def State.stepTaken (s : State) (f : Nat) : State := s.setDoor f ({ · with stepReq := none })

/-- The state in which the command of a standalone LOCK has been taken. -/
def State.lockTaken (s : State) (f : Nat) : State := s.setDoor f ({ · with lockReq := none })

theorem State.DoorAt.stepTaken (h : s.DoorAt f d) : (s.stepTaken f).DoorAt f { d with stepReq := none } := h.setDoor

theorem State.DoorAt.lockTaken (h : s.DoorAt f d) : (s.lockTaken f).DoorAt f { d with lockReq := none } := h.setDoor

theorem State.Alone.takesStep {cmd : Nat} (h : s.Alone f btStep) (req : (s.door f).stepReq = some cmd) :
    ¬(decide ((s.door f).stepReq ≠ some cmd) || s.hasDoor f || !s.hasComposite btStep f) = true := by
  simp [req, h.noDoor, h.block]

theorem State.Alone.takesLock {cmd : Nat} (h : s.Alone f btLock) (req : (s.door f).lockReq = some cmd) :
    ¬(decide ((s.door f).lockReq ≠ some cmd) || s.hasDoor f || !s.hasComposite btLock f) = true := by
  simp [req, h.noDoor, h.block]

namespace State.DoorAt

theorem stepExtend (h : s.DoorAt f d) (permission : s.permission f = true) (sure : s.unsure (stepOf f) = false)
    (fitted : s.stepFitted f = true) (st : d.stepSt = .retracted ∨ d.stepSt = .stopped ∨ d.stepSt = .retracting) :
    (s.stepExtend f).2.DoorAt f { d with stepSt := .extending, stepHoldAt := none } := by
  unfold State.stepExtend
  rw [if_neg (by simp [permission, sure, fitted]), h.door]
  rcases st with st | st | st <;> rw [st] <;> exact h.enterStep.of_doors rfl

theorem stepRetract (h : s.DoorAt f d) (fitted : s.stepFitted f = true) (certain : (s.axis (stepOf f)).posUncertain = false)
    (st : d.stepSt = .extending ∨ d.stepSt = .extended ∨ d.stepSt = .stopped) :
    (s.stepRetract f).2.DoorAt f { d with stepSt := .retracting, stepHoldAt := none } := by
  unfold State.stepRetract
  rw [if_neg (by simp [fitted]), h.door]
  rcases st with st | st | st <;> rw [st] <;> simp only [certain] <;> exact h.enterStep.of_doors rfl

theorem stepStop (h : s.DoorAt f d) (st : d.stepSt = .extending ∨ d.stepSt = .retracting) :
    (s.stepStop f).2.DoorAt f { d with stepSt := .stopped, stepHoldAt := none } := by
  unfold State.stepStop
  rw [h.door]
  rcases st with st | st <;> rw [st] <;> exact State.DoorAt.enterStep (h.of_doors rfl)

theorem stepReset (h : s.DoorAt f d) (st : d.stepSt = .fault) (quiet : s.activeCauses (stepOf f) = [])
    (sure : s.unsure (stepOf f) = false) : (s.stepReset f).2.DoorAt f { d with stepSt := .stopped, stepHoldAt := none } := by
  unfold State.stepReset
  rw [if_neg (by simp [h.door, st, quiet]), if_neg (by simp [sure])]
  exact State.DoorAt.enterStep (h.of_doors rfl)

theorem lockReset (h : s.DoorAt f d) : (s.lockReset f).2.DoorAt f
    { d with
      lockSt := if d.lockSt = .fault then .engaging else d.lockSt, lockSince := if d.lockSt = .fault then s.stamp else d.lockSince } := by
  unfold State.lockReset
  rw [h.door]
  by_cases fault : d.lockSt = .fault
  · rw [if_pos (by simp [fault]), if_pos fault, if_pos fault]
    exact h.enterLock
  · rw [if_neg (by simp [fault]), if_neg fault, if_neg fault]
    exact h

end State.DoorAt

theorem State.stepExtend_barred (permission : s.permission f = false) : s.stepExtend f = (stState, s) := if_pos (by simp [permission])

theorem State.lockRelease_barred (permission : s.permission f = false) : s.lockRelease f = (stState, s) := if_pos (by simp [permission])

end

/-- Settles O31: a standalone block takes its command from its input, and does what its state has the command do. -/
theorem standaloneBlocksFollowTheirCommands : Obligations.StandaloneBlocksFollowTheirCommands := by
  unfold Obligations.StandaloneBlocksFollowTheirCommands
  refine ⟨?extend, ?barred, ?retract, ?stop, ?reference, ?reset, ?release, ?engage, ?lockReset, ?start⟩
  case extend =>
    intro s f sound alone req permission sure fitted st
    have at' := (sound.doorAt alone.sequenced.fitted).stepTaken.stepExtend permission sure fitted st
    exact ⟨_, (seqEvent_acts (act := (·.takeStep f 1)) alone.sequenced).trans (congrArg _ (if_neg (alone.takesStep req))),
      congrArg Door.stepSt at'.door, congrArg Door.stepReq at'.door⟩
  case barred =>
    intro s f sound alone req permission
    have at' := (sound.doorAt alone.sequenced.fitted).stepTaken
    have stays : s.takeStep f 1 = s.stepTaken f :=
      (if_neg (alone.takesStep req)).trans (congrArg Prod.snd (State.stepExtend_barred (s := s.stepTaken f) permission))
    exact ⟨_, (seqEvent_acts (act := (·.takeStep f 1)) alone.sequenced).trans (congrArg _ stays),
      (congrArg Door.stepSt at'.door :), congrArg Door.stepReq at'.door⟩
  case retract =>
    intro s f sound alone req fitted certain st
    have at' := (sound.doorAt alone.sequenced.fitted).stepTaken.stepRetract fitted certain st
    exact ⟨_, (seqEvent_acts (act := (·.takeStep f 2)) alone.sequenced).trans (congrArg _ (if_neg (alone.takesStep req))),
      congrArg Door.stepSt at'.door, congrArg Door.stepReq at'.door⟩
  case stop =>
    intro s f sound alone req st
    have at' := (sound.doorAt alone.sequenced.fitted).stepTaken.stepStop st
    exact ⟨_, (seqEvent_acts (act := (·.takeStep f 3)) alone.sequenced).trans (congrArg _ (if_neg (alone.takesStep req))),
      congrArg Door.stepSt at'.door, congrArg Door.stepReq at'.door⟩
  case reference =>
    intro s f sound alone req fitted phase idle
    have at' := (sound.doorAt alone.sequenced.fitted).stepTaken
    have fitted' : (s.stepTaken f).stepFitted f = true := fitted
    have phase' : (s.stepTaken f).isPhase (stepOf f) = true := phase
    have serves : s.takeStep f 4 = (s.stepTaken f).startRun f (some (stepOf f)) false :=
      (if_neg (alone.takesStep req)).trans (if_neg (c := ((s.stepTaken f).door f).ref.active || !(s.stepTaken f).stepFitted f)
        (by simp [at'.door, idle, fitted']))
    obtain ⟨e, begun, searches⟩ := at'.startRun (single := some (stepOf f)) (service := false)
    exact ⟨_, (seqEvent_acts (act := (·.takeStep f 4)) alone.sequenced).trans (congrArg _ serves),
      (congrArg Door.stepSt begun.door).trans (searches.stepSt (by simp [fitted', phase'])),
      (congrArg (·.ref.st) begun.door).trans (searches.refSt.trans (if_pos (by simp [fitted', phase'])))⟩
  case reset =>
    intro s f sound alone req st quiet sure
    have at' := (sound.doorAt alone.sequenced.fitted).stepTaken.stepReset st quiet sure
    exact ⟨_, (seqEvent_acts (act := (·.takeStep f 5)) alone.sequenced).trans (congrArg _ (if_neg (alone.takesStep req))),
      congrArg Door.stepSt at'.door, congrArg Door.stepReq at'.door⟩
  case release =>
    intro s f sound alone req st
    have at' := (sound.doorAt alone.sequenced.fitted).lockTaken
    cases permission : s.permission f
    · have stays : s.takeLock f 1 = s.lockTaken f :=
        (if_neg (alone.takesLock req)).trans (congrArg Prod.snd (State.lockRelease_barred (s := s.lockTaken f) permission))
      exact ⟨_, (seqEvent_acts (act := (·.takeLock f 1)) alone.sequenced).trans (congrArg _ stays),
        congrArg Door.lockReq at'.door, (congrArg Door.lockSt at'.door :)⟩
    · have released := at'.lockRelease permission st
      exact ⟨_, (seqEvent_acts (act := (·.takeLock f 1)) alone.sequenced).trans (congrArg _ (if_neg (alone.takesLock req))),
        congrArg Door.lockReq released.door, congrArg Door.lockSt released.door⟩
  case engage =>
    intro s f sound alone req
    have at' := (sound.doorAt alone.sequenced.fitted).lockTaken.lockEngage
    exact ⟨_, (seqEvent_acts (act := (·.takeLock f 2)) alone.sequenced).trans (congrArg _ (if_neg (alone.takesLock req))),
      congrArg Door.lockReq at'.door, congrArg Door.lockSt at'.door⟩
  case lockReset =>
    intro s f sound alone req
    have at' := (sound.doorAt alone.sequenced.fitted).lockTaken.lockReset
    exact ⟨_, (seqEvent_acts (act := (·.takeLock f 3)) alone.sequenced).trans (congrArg _ (if_neg (alone.takesLock req))),
      congrArg Door.lockReq at'.door, congrArg Door.lockSt at'.door⟩
  case start =>
    intro s f sound alone req idle
    let taken := s.setDoor f ({ · with refReq := false })
    have at' : taken.DoorAt f _ := (sound.doorAt alone.sequenced.fitted).setDoor
    have starts : s.takeRef f = taken.startRun f none false :=
      (if_neg (by simp [req, alone.noDoor, alone.block])).trans (if_neg (by simp [taken, at'.door, idle]))
    obtain ⟨e, begun, searches⟩ := at'.startRun (single := none) (service := false)
    exact ⟨_, (seqEvent_acts (act := (·.takeRef f)) alone.sequenced).trans (congrArg _ starts),
      (congrArg Door.refReq begun.door).trans searches.refReq, (congrArg (·.ref.active) begun.door).trans searches.active⟩

section

variable {s t : State} {f a p : Nat} {d : Door} {v : Word}

/-! ### Hard-stop searches (06 R214, R216, R222) -/

theorem wordZ_toInt (v : Word) : wordZ v.toInt = v := BitVec.ofInt_toInt

/-- A position is declared for an axis at rest whose feedback port counts (05 R177). -/
theorem State.posSet_counts (rests : (s.axis a).st = .hold) (phase : s.axType a = 1 ∨ s.axType a = 2) (port : s.fbPort a = some p)
    (whole : (s.port p).blocked = false) (format : s.portFormat p = 1 ∨ s.portFormat p = 2 ∨ s.portFormat p = 3) :
    s.posSet a v = (stOK, (s.writeCount p v).2.declarePos a v) := by
  obtain ⟨⟨line, ssi⟩, supply⟩ : ((s.port p).lineFault = false ∧ (s.port p).ssiFault = false) ∧ (s.port p).supplyFault = false := by
    simpa [Port.blocked] using whole
  have on : s.portFormat p ≠ 0 := by omega
  have counts : s.portFormat p ≠ 4 := by omega
  have written : (s.writeCount p v).1 = stOK := (State.writeCount_taken line ssi supply on counts).1
  have value : (if s.axType a = 3 then s.stepperCount a v else v) = v := if_neg (by omega)
  have motor : s.isPhase a = true := by
    unfold State.isPhase
    rcases phase with type | type <;> simp [type]
  unfold State.posSet
  rw [if_neg (by simp [rests]), if_neg (by simp [motor]), port]
  simp only [value]
  rw [if_pos written]

/-- The run declares the position of an axis that moves on a port that counts: the axis is referenced there, and the run goes on. -/
theorem State.runDeclare_declares (sound : s.Sound) (fit : a < 36) (moves : (s.axis a).st = .moving) (phase : s.axType a = 1 ∨ s.axType a = 2)
    (port : s.fbPort a = some p) (whole : (s.port p).blocked = false)
    (format : s.portFormat p = 1 ∨ s.portFormat p = 2 ∨ s.portFormat p = 3) (at' : s.DoorAt f d) :
    ∃ r, (s.runDeclare f a v.toInt).DoorAt f { d with ref := r } ∧ r.st = d.ref.st ∧
      ((s.runDeclare f a v.toInt).axis a).referenced = true ∧ ((s.runDeclare f a v.toInt).axis a).pos = v.toInt := by
  unfold State.runDeclare
  extract_lets held declared
  have hheld : held = s.modAxis a (·.toHold s.stamp) := (if_neg (by simp [moves])).trans (if_neg (by simp [moves]))
  clear_value held
  subst hheld
  have rests : (declared.axis a).st = .hold := congrArg Axis.st (State.axis_modAxis (sound.axes ▸ fit))
  have set := State.posSet_counts (s := declared) (v := v) rests phase port whole format
  have written : Reach 45100564480 s (declared.writeCount p v).2 := State.writeCount_reach (.of_or rfl)
    (State.modRef_reach (.of_or rfl) (State.modAxis_reach (.of_or rfl) (.refl _ s)))
  have held : declared.DoorAt f _ := (at'.of_doors (t := s.modAxis a (·.toHold s.stamp)) rfl).setDoor
  have counted : (declared.writeCount p v).2.DoorAt f _ := held.of_doors ((State.writeCount_reach (.refl _) (.refl _ declared)).doors rfl)
  have axis : ((declared.writeCount p v).2.declarePos a v).axis a = _ :=
    State.axis_record.trans (State.axis_modAxis ((written.sound sound).axes ▸ fit))
  have ends : ((declared.writeCount p v).2.declarePos a v).DoorAt f _ := counted.of_doors State.record_doors
  rw [wordZ_toInt, set]
  exact ⟨_, ends, rfl, congrArg Axis.referenced axis, congrArg Axis.pos axis⟩

/-- The stop is declared where the search has found it (06 R216). -/
theorem State.foundStop_declares (sound : s.Sound) (fit : f < 12) (searches : (s.door f).ref.st = .leafSearch)
    (moves : (s.axis (leafOf f)).st = .moving) (phase : s.axType (leafOf f) = 1 ∨ s.axType (leafOf f) = 2)
    (port : s.fbPort (leafOf f) = some p) (whole : (s.port p).blocked = false)
    (format : s.portFormat p = 1 ∨ s.portFormat p = 2 ∨ s.portFormat p = 3) :
    ((s.foundStop f).axis (leafOf f)).referenced = true ∧
      ((s.foundStop f).axis (leafOf f)).pos = s.parZ Par.flightRefHardstopPos f 0 ∧
      ((s.foundStop f).door f).ref.phase = .release ∧ ((s.foundStop f).door f).ref.releaseAt = s.stamp := by
  unfold State.foundStop
  extract_lets run declared
  have leaf : run.axisOf f = leafOf f := if_neg (by simp [run, searches])
  have value : s.hardstopPos f (run.st == .step) = (s.par Par.flightRefHardstopPos f 0).toInt := if_neg (by simp [run, searches])
  have at' : s.DoorAt f (s.door f) := ⟨sound.door_of_twelve fit, rfl⟩
  obtain ⟨r, hdeclared, st, referenced, pos⟩ := State.runDeclare_declares (v := s.par Par.flightRefHardstopPos f 0) sound
    (show leafOf f < 36 by unfold leafOf; omega) moves phase port whole format at'
  have same : declared = s.runDeclare f (leafOf f) (s.par Par.flightRefHardstopPos f 0).toInt := by
    unfold declared
    rw [leaf, value]
  have active : (declared.door f).ref.active = true := by
    rw [same, hdeclared.door]
    simp [RefRun.active, st, searches]
  have clock : declared.clock = s.clock := (State.runDeclare_reach (.refl _) (.refl _ s)).clock rfl
  rw [← same] at hdeclared referenced pos
  rw [if_pos active]
  have released : (declared.modRef f (fun r => { r with phase := .release, releaseAt := declared.stamp, coarse := true })).DoorAt f _ :=
    hdeclared.setDoor
  exact ⟨referenced, pos, congrArg (·.ref.phase) released.door,
    (congrArg (·.ref.releaseAt) released.door).trans (State.stamp_of_clock clock)⟩

/-- Where a door stands once its run is done (06 R214, R222). -/
def Door.afterRun (d : Door) : DoorState :=
  if d.st ≠ .referencing then d.st
  else match d.ref.resume with
    | some true => .opening
    | some false => .closing
    | none => .locking

namespace State.DoorAt

/-- LOCKING at the end of a run whose step knows its position: the run stays done (06 R214, R222). -/
theorem runToLocking (h : s.DoorAt f d) (certain : (s.axis (stepOf f)).posUncertain = false) :
    ∃ e, (s.runToLocking f).DoorAt f e ∧ e.st = .locking ∧ e.ref.st = d.ref.st := by
  obtain ⟨e, at', enters⟩ := h.enterDoor (st := .locking)
  have kept : (s.enterDoor f .locking).stepLost f = false := State.stepLost_of_certain (State.posUncertain_enterDoor.trans certain)
  unfold State.runToLocking
  extract_lets locking
  obtain ⟨o, p, n, ends⟩ : (if (!locking.stepFitted f || (locking.door f).stepSt == .retracted) = true then locking
      else (locking.stepRetract f).2).StrokeAt f e := by
    split
    · exact at'.stroke
    · exact at'.stroke.stepRetract kept
  exact ⟨_, ends, enters.st, enters.refSt⟩

theorem finishRun (h : s.DoorAt f d) (certain : (s.axis (stepOf f)).posUncertain = false) :
    ∃ e, (s.finishRun f).DoorAt f e ∧ e.ref.st = .done ∧ e.st = d.afterRun := by
  unfold State.finishRun
  extract_lets run done told
  have hdone : done.DoorAt f _ := h.setDoor
  have htold : told.DoorAt f _ := hdone.record
  have resume : run.resume = d.ref.resume := congrArg (·.ref.resume) h.door
  have certain' : (told.axis (stepOf f)).posUncertain = false := (congrArg Axis.posUncertain State.axis_record).trans certain
  rw [htold.door, resume]
  unfold Door.afterRun
  by_cases referencing : d.st = .referencing
  · rw [if_neg (by simp [referencing]), if_neg (by simp [referencing])]
    match d.ref.resume with
    | some true =>
      obtain ⟨e, at', enters⟩ := htold.enterDoor (st := .opening)
      exact ⟨_, at'.setDoor.of_doors rfl, enters.refSt, enters.st⟩
    | some false =>
      obtain ⟨e, at', enters⟩ := htold.enterDoor (st := .closing)
      exact ⟨_, at'.setDoor.of_doors rfl, enters.refSt, enters.st⟩
    | none =>
      obtain ⟨e, at', st, refSt⟩ := htold.runToLocking certain'
      exact ⟨_, at', refSt, st⟩
  · rw [if_pos (by simp [referencing]), if_pos referencing]
    exact ⟨_, htold, rfl, rfl⟩

/-- The leaf that was closed when its part began is done once the current is released (06 R216). -/
theorem stopReleased (h : s.DoorAt f d) (certain : (s.axis (stepOf f)).posUncertain = false) (leaf : d.ref.st = .leafSearch)
    (closed : d.ref.closedStart = true) :
    ∃ e, (s.stopReleased f).DoorAt f e ∧ e.ref.st = .done ∧ e.st = d.afterRun := by
  have apart : leafOf f ≠ stepOf f := by
    unfold leafOf stepOf
    omega
  unfold State.stopReleased
  extract_lets run freed
  have axis : run.axisOf f = leafOf f := if_neg (by simp [run, h.door, leaf])
  have hfreed : freed.DoorAt f d := h.of_doors rfl
  have certain' : (freed.axis (stepOf f)).posUncertain = false := by
    unfold freed
    rw [axis, State.axis_modAxis_ne apart]
    exact certain
  rw [if_pos (by simp [run, h.door, closed])]
  unfold State.endPart
  extract_lets run' stepped home
  rw [if_neg (by simp [run', hfreed.door, leaf])]
  have marked : (freed.setDoor f (fun d => { d with obstructed := d.obstructed && !home })).DoorAt f _ := hfreed.setDoor
  exact marked.finishRun certain'

end State.DoorAt

end

/-- Settles O32: the stop that stands is declared on the leaf's port; after the release a run that began closed is done, and the door goes
where the run was to take it. -/
theorem hardstopSearchesDeclareThePosition : Obligations.HardstopSearchesDeclareThePosition := by
  unfold Obligations.HardstopSearchesDeclareThePosition
  refine ⟨?found, ?ends⟩
  case found =>
    intro s f p sound sequenced due searches port phase whole format moves
    have acts := seqEvent_acts (act := fun s => if s.stallDue f then s.foundStop f else s) sequenced
    exact ⟨_, acts.trans (congrArg _ (if_pos due)),
      State.foundStop_declares sound (State.nFlights_le sequenced.fitted) searches moves phase port whole format⟩
  case ends =>
    intro s f sound sequenced searches releases closed due certain
    have ready : ((s.door f).ref.active && (s.door f).ref.phase == .release && decide ((s.door f).ref.releaseAt + 10 ≤ s.ms)) = true := by
      simp [RefRun.active, searches, releases, Nat.le_trans due State.tick_le_ms]
    obtain ⟨e, at', done, st⟩ := (sound.doorAt sequenced.fitted).stopReleased certain searches closed
    have acts : execHardstopReleaseEnd f s = _ := seqEvent_acts sequenced
    refine ⟨_, acts.trans (congrArg _ (if_pos ready)), ?_⟩
    rw [at'.door]
    exact ⟨done, st⟩

section

variable {s t : State} {f : Nat} {d : Door}

/-! ### Detections (06 R206, 07 R247 to R253) -/

theorem State.obs_of_obst (h : t.obst = s.obst) : t.obs f = s.obs f := congrArg (·.getD f .reset) h

/-- A stroke that another follows leaves the obstacle models as they are. -/
theorem State.obst_enterDoor {st : DoorState} (strokes : st.strokes = true) : (s.enterDoor f st).obst = s.obst := by
  unfold State.enterDoor
  extract_lets old stayed ends code released locked freed entered traced
  have goes : ends = false := by
    unfold ends
    cases st <;> simp [DoorState.strokes] at strokes ⊢
  have hlocked : locked.obst = s.obst := by
    unfold locked
    split
    · exact (State.lockEngage_reach (.refl _) (.refl _ stayed)).obst rfl
    · rfl
  have hfreed : freed.obst = locked.obst := by
    unfold freed
    split <;> rfl
  have htraced : traced.obst = freed.obst := by
    unfold traced
    rw [if_pos strokes]
    exact (State.traceOver_reach (.refl _) (.refl _ entered)).obst rfl
  rw [if_neg (by simp [goes])]
  exact htraced.trans (hfreed.trans hlocked)

theorem State.StrokeAt.stepStop (h : s.StrokeAt f d) : (s.stepStop f).2.StrokeAt f d := by
  have stops : ((s.seqCmd (stepOf f) .stop).enterStep f .stopped).StrokeAt f d := State.StrokeAt.enterStep (h.of_doors rfl)
  unfold State.stepStop
  split
  case h_1 | h_2 => exact stops
  case h_3 => exact h

/-- A detection on a stroke takes the door to REVERSING, or keeps it there, and leaves the obstacle models to be told. -/
theorem State.DoorAt.enterReaction (h : s.DoorAt f d) :
    ((s.enterReaction f).door f).st = .reversing ∧ (s.enterReaction f).obst = s.obst := by
  unfold State.enterReaction
  extract_lets old stopped opening entered
  have hstopped : stopped.StrokeAt f d ∧ stopped.obst = s.obst := by
    unfold stopped
    split
    · exact ⟨h.stroke.stepStop, (State.stepStop_reach (.refl _) (.refl _ s)).obst rfl⟩
    · exact ⟨h.stroke, rfl⟩
  obtain ⟨⟨o, p, n, at'⟩, obst⟩ := hstopped
  split
  · next reverses =>
    have st : d.st = .reversing := by simpa [old, h.door] using reverses
    exact ⟨(congrArg Door.st at'.setDoor.door).trans st, obst⟩
  · obtain ⟨e, hentered, enters⟩ := at'.enterDoor (st := .reversing)
    exact ⟨(congrArg Door.st hentered.setDoor.door).trans enters.st, (State.obst_enterDoor rfl).trans obst⟩

/-- The reversal move starts (07 R248). -/
theorem State.DoorAt.startReversal {goal : Int} (h : s.DoorAt f d) :
    (s.startReversal f goal).StrokeAt f { d with reaction := some (.reversal goal) } := by
  unfold State.startReversal
  extract_lets reacts geared
  have hreacts : reacts.DoorAt f { d with reaction := some (.reversal goal) } := h.setDoor
  have hgeared : geared.StrokeAt f { d with reaction := some (.reversal goal) } := by
    unfold geared
    split
    · exact hreacts.stroke.gearedStep
    · exact hreacts.stroke
  exact hgeared.of_doors rfl

/-- What a detection leaves: the obstacle model is told, and its event is the last output. -/
theorem State.tell_record {g : Obst → Obst} {h : CycAcc → CycAcc} {e : EvCode} {args : List (BitVec 32)} (lt : f < s.obst.length)
    (up : s.hallAUp = true) (told : t = ((s.modObs f g).modCyc f h).record e f args) :
    t.door f = s.door f ∧ t.obs f = g (s.obs f) ∧ t.outs.head? = some (.event e.code f args) := by
  subst told
  refine ⟨congrArg (·.getD f .reset) State.record_doors, (State.obs_of_obst State.record_obst).trans (State.obs_modObs lt), ?_⟩
  rw [State.record_outs (s := (s.modObs f g).modCyc f h) up]
  rfl

end

/-- Settles O33: the record of a detection does not wait for the sequencer; the reversal starts once the leaf has turned, and the door closes
again with one attempt more. -/
theorem detectionsReverseTheLeaf : Obligations.DetectionsReverseTheLeaf := by
  unfold Obligations.DetectionsReverseTheLeaf
  refine ⟨?detected, ?reversal, ?reclose⟩
  case detected =>
    intro s f fire args sound sequenced found
    have fit := State.nFlights_le sequenced.fitted
    obtain ⟨reversing, same⟩ := (sound.doorAt sequenced.fitted).enterReaction
    have acts : execObstacleDetected f s = _ := seqEvent_acts sequenced
    rw [found] at acts
    dsimp only at acts
    refine ⟨_, acts, ?_⟩
    have st : ((if s.detecting f then s.enterReaction f else s).door f).st = if s.detecting f then .reversing else (s.door f).st := by
      split
      · exact reversing
      · rfl
    have obst : (if s.detecting f then s.enterReaction f else s).obst = s.obst := by
      split
      · exact same
      · rfl
    have hallA : (if s.detecting f then s.enterReaction f else s).hallA = s.hallA := by
      split
      · exact (State.enterReaction_reach (.refl _) (.refl _ s)).hallA rfl
      · rfl
    generalize (if s.detecting f then s.enterReaction f else s) = u at *
    have lt : f < u.obst.length := by rw [obst, sound.obst]; exact fit
    have up : u.hallAUp = true := (congrArg (fun h : Hall => !h.inReset) hallA).trans sequenced.up
    obtain ⟨door, obs, out⟩ := State.tell_record lt up rfl
    refine ⟨(congrArg Door.st door).trans st, ?_, ?_, ?_, ?_, ?_, ?_, ?_, out⟩
    all_goals rw [obs]
    rw [State.obs_of_obst obst]
  case reversal =>
    intro s f goal sound sequenced st reaction free turned target
    obtain ⟨o, p, n, at'⟩ := (sound.doorAt sequenced.fitted).startReversal (goal := goal)
    have acts : execReversalStart f s = _ := seqEvent_acts sequenced
    have ready : ((s.door f).st == .reversing && (s.door f).reaction == some .braking && !(s.obs f).stopNext && s.turnDone f) = true := by
      simp [st, reaction, free, turned]
    dsimp only at acts
    rw [if_pos ready, target] at acts
    exact ⟨_, acts, congrArg Door.reaction at'.door, (congrArg Door.st at'.door).trans st⟩
  case reclose =>
    intro s f since sound sequenced st reaction due leaf step
    have counted : (s.setDoor f (fun d => { d with attempt := d.attempt + 1 })).DoorAt f _ := (sound.doorAt sequenced.fitted).setDoor
    obtain ⟨e, at', closing, -, attempt⟩ := counted.closeDoor leaf step
    have acts : execRecloseAttempt f s = _ := seqEvent_acts sequenced
    have ready : ((s.door f).st == .reversing && decide (since + s.parN Par.obstacleRevPauseMs f 0 ≤ s.ms)) = true := by
      simp [st, Nat.le_trans due State.tick_le_ms]
    dsimp only at acts
    rw [reaction] at acts
    dsimp only at acts
    rw [if_pos ready] at acts
    exact ⟨_, acts, (congrArg Door.st at'.door).trans closing, (congrArg Door.attempt at'.door).trans attempt⟩

/-! ### A step that is no phase axis (06 R210, R222) -/

/-- A program of one DOOR block, that of flight 0. -/
def doorProgram : Container :=
  { bytes := [], progId := 1, version := 1, cycleMs := 10, memSize := 0, sigOfs := 0,
    blocks := [⟨BitVec.ofNat 8 btDoor, 0, [.const .int32 0], []⟩], vars := [], init := [] }

/-- A sense line that reads active. -/
def Sense.on (x : Sense) : Sense := { x with p := { x.p with deb := true, valid := true } }

/-- Flight 0 in FAULT under its DOOR block, closed, with RESET_FAULT taken. Its STEP is STOPPED, and the axis of it is a SOLENOID whose
position is uncertain: no phase axis, so `State.flightUnsure` does not ask for its reference, but the step is searched for all the same before it
retracts. -/
def solenoidStep : State :=
  { State.reset with
    hallA := { State.reset.hallA with inReset := false, mode := .run }
    supply := { State.reset.supply with mpres := true }
    params := [(Par.senseUse.pid 0 0, 1), (Par.senseUse.pid 1 0, 1), (Par.axisType.pid 1 0, 4)]
    senses := (State.reset.senses.modify 0 Sense.on).modify 1 Sense.on
    axes := State.reset.axes.modify 1 ({ · with posUncertain := true })
    flightPower := State.reset.flightPower.modify 0 ({ · with presence := true })
    doors := State.reset.doors.modify 0
      ({ · with st := .fault, stepSt := .stopped, taken := some ⟨.resetFault, .program, 0, none, 0⟩ })
    prog := { State.reset.prog with running := some doorProgram } }

theorem Budget.reset_legal : Budget.reset.Legal := by
  unfold Budget.Legal
  decide

theorem Budget.legal_of_mem_replicate {n : Nat} : ∀ b ∈ List.replicate n Budget.reset, b.Legal :=
  fun _ mem => List.eq_of_mem_replicate mem ▸ Budget.reset_legal

theorem solenoidStep_sound : solenoidStep.Sound where
  params := by decide +kernel
  prog := ⟨rfl, rfl, rfl⟩
  gallery := by constructor <;> decide
  flightBudgets := ⟨rfl, Budget.legal_of_mem_replicate⟩
  storeyBudgets := ⟨rfl, Budget.legal_of_mem_replicate⟩
  dieBudgets := ⟨rfl, Budget.legal_of_mem_replicate⟩
  currentBudget := Budget.reset_legal
  thermalBudget := Budget.reset_legal
  limp := rfl
  storeys := rfl
  dies := rfl
  flightPower := rfl
  treads := rfl
  senses := rfl
  cleaners := rfl
  ports := rfl
  echos := rfl
  axes := rfl
  doors := rfl
  obst := rfl
  conns := rfl
  safety := rfl

theorem solenoidStep_takes : solenoidStep.Takes 0 .resetFault where
  sequenced := ⟨by decide +kernel, rfl, rfl⟩
  taken := ⟨_, rfl, rfl⟩
  free := by decide +kernel
  sound := by decide +kernel
  clear := by decide +kernel
  turn := by decide +kernel

/-- The state in which a command that is carried out leaves a door. -/
def doorStateAfter (f : Nat) : Host.Outcome State Fault Refusal → Option DoorState
  | .next t => some (t.door f).st
  | _ => none

/-- The table promises LOCKING; the step's own reference run takes the door to REFERENCING. -/
theorem solenoidStep_references :
    doorStateAfter 0 (exec (.resetFault 0) solenoidStep) = some .referencing ∧ solenoidStep.flightUnsure 0 = false ∧
      solenoidStep.closedBoth 0 = true := by
  decide +kernel

/-- Refutes O28: its clause on RESET_FAULT gives a closed door LOCKING whenever no phase axis of the flight is unreferenced or uncertain. The
entry to LOCKING also retracts a stopped step (06 R202), and one whose position is uncertain is searched for first, with the door in
REFERENCING (06 R222), also where it is a STEP axis of type SOLENOID, which is no phase axis. A configuration refuses that type for a STEP
(05 R153), but the statement speaks of every sound state: its clause lacks the premise that the position of the step is certain. -/
theorem not_doorsIsolateEscapeAndReset : ¬ Obligations.DoorsIsolateEscapeAndReset := by
  unfold Obligations.DoorsIsolateEscapeAndReset
  rintro ⟨-, -, -, reset⟩
  obtain ⟨t, acts, -, st⟩ := reset solenoidStep 0 solenoidStep_sound solenoidStep_takes rfl (by decide +kernel)
  obtain ⟨references, sure, closed⟩ := solenoidStep_references
  rw [sure, closed] at st
  rw [acts] at references
  exact absurd (st.symm.trans (Option.some.inj references)) (by simp)

end Sys2Proof.Machine
end

section
/-! PROOFS of the family of 07_obstacle.md: the start margin, learning and the door temperature (O34), and the writes of the door
temperature, commissioning, map restore and user trims (O51). -/

namespace Sys2Proof.Machine

/-! ### The obstacle model of a flight after a change -/

section

variable {s t : State} {f : Nat} {g : Obst → Obst}

theorem State.Sound.obs_lt (h : s.Sound) (fit : f < s.nFlights) : f < s.obst.length := by
  rw [h.obst]
  exact State.nFlights_le fit

/-- Where only the model of a flight has changed, it reads as the change leaves it. -/
theorem State.obs_of_modified (h : t.obst = s.obst.modify f g) (lt : f < s.obst.length) : t.obs f = g (s.obs f) :=
  (congrArg (·.getD f .reset) h).trans (State.obs_modObs lt)

@[simp] theorem State.recordIf_obst {c : Bool} {e : EvCode} {n : Nat} {args : List (BitVec 32)} :
    (s.recordIf c e n args).obst = s.obst :=
  (State.recordIf_reach (.refl _) (.refl _ s)).obst rfl

end

/-! ### What ends by itself (07 R230, R234, R238, R242) -/

section

variable {s : State} {f at' : Nat}

theorem execStartMarginEnd_over (sequenced : s.Sequenced f) (stroke : (s.obs f).strokeAt = some at')
    (ended : at' + 8 * s.parN Par.obstacleStartMs f 0 ≤ s.sample) :
    execStartMarginEnd f s = .next (s.modObs f (fun o => { o with inStart := false })) := by
  refine (seqEvent_acts sequenced).trans (congrArg _ ?_)
  simp only [stroke]
  exact if_pos ended

/-- A confirmed update becomes the working map; the records of drift and maturity leave the models alone. -/
theorem execLearnUpdate_confirmed {m : FricMap} {bad : Option (Nat × Rat)} (fit : f < s.nFlights)
    (update : (s.obs f).update = some (m, at', bad)) (upA : s.hallAUp = true) (upB : s.hallBUp = true) (early : s.tick < at' + 100) :
    ∃ t, execLearnUpdate f s = .next t ∧ t.obst = s.obst.modify f (fun o => { o with map := m, update := none }) := by
  unfold execLearnUpdate
  rw [onUnit_fitted (decide_eq_true fit)]
  simp only [update]
  rw [if_neg (by simp [upA, upB, early])]
  cases bad with
  | none => exact ⟨_, rfl, State.recordIf_obst⟩
  | some bin => exact ⟨_, rfl, State.recordIf_obst.trans State.recordIf_obst⟩

/-- The model of a flight whose update is discarded: its cycle counts as unclean. -/
def Obst.unconfirmed (o : Obst) : Obst := { o with update := none, lastUnclean := o.lastUnclean ||| 0x400 }

theorem execLearnConfirmTimeout_late {m : FricMap} {bad : Option (Nat × Rat)} (fit : f < s.nFlights)
    (update : (s.obs f).update = some (m, at', bad)) (late : at' + 100 ≤ s.tick) :
    execLearnConfirmTimeout f s = .next (s.modObs f Obst.unconfirmed) := by
  refine (onUnit_fitted (decide_eq_true fit)).trans (congrArg _ ?_)
  simp only [update]
  exact if_neg (Nat.not_lt.2 late)

theorem execTempInTimeout_late (fit : f < s.nFlights) (written : (s.obs f).tempInAt = some at') (late : at' + 60000 ≤ s.tick) :
    execTempInTimeout f s = .next (s.modObs f (fun o => { o with tempTimeout := true })) := by
  refine (onUnit_fitted (decide_eq_true fit)).trans (congrArg _ ?_)
  simp only [written]
  exact if_neg (Nat.not_lt.2 late)

end

/-- Settles O34: each event, once its time has come, makes one change to its flight's model, which no record after it touches. -/
theorem obstacleModelsLearnAndExpire : Obligations.ObstacleModelsLearnAndExpire := by
  unfold Obligations.ObstacleModelsLearnAndExpire
  refine ⟨?margin, ?update, ?unconfirmed, ?temperature⟩
  case margin =>
    intro s f at' sound sequenced stroke ended
    exact ⟨_, execStartMarginEnd_over sequenced stroke ended, State.obs_modObs (sound.obs_lt sequenced.fitted)⟩
  case update =>
    intro s f m at' bad sound fit update upA upB early
    obtain ⟨t, acts, obst⟩ := execLearnUpdate_confirmed fit update upA upB early
    exact ⟨t, acts, State.obs_of_modified obst (sound.obs_lt fit)⟩
  case unconfirmed =>
    intro s f m at' bad sound fit update late
    refine ⟨_, execLearnConfirmTimeout_late fit update late, ?_⟩
    rw [State.obs_modObs (sound.obs_lt fit)]
    exact ⟨rfl, rfl⟩
  case temperature =>
    intro s f at' sound fit written late
    exact ⟨_, execTempInTimeout_late fit written late, State.obs_modObs (sound.obs_lt fit)⟩

/-! ### What each write does when its condition holds (07 R230, R236, R239, 14 R487, R495) -/

section

variable {s : State} {f : Nat} {v : Word}

theorem State.applyPar_obstacleTempIn : s.applyPar Par.obstacleTempIn f 0 v = s.tempIn f v := rfl

/-- The model of a flight whose commissioning starts: no cycle yet, and the map from before any that runs kept for an abort. -/
def Obst.commissionStarted (o : Obst) : Obst :=
  { o with backup := if o.commissioning then o.backup else o.map, commissioning := true, commDone := 0, comm := [] }

/-- The model of a flight whose commissioning is aborted. -/
def Obst.commissionAborted (o : Obst) : Obst := { o with map := o.backup, commissioning := false, comm := [] }

/-- The model of a flight whose map is again its snapshot. -/
def Obst.restored (o : Obst) : Obst :=
  { o with
    update := none
    map := { o.map with close := o.map.snapClose, open' := o.map.snapOpen, drift := false, mature := false, cycles := 0 } }

theorem State.applyPar_commissionStart (run : s.mode = .run) (locked : (s.door f).st = .closedLocked) :
    s.applyPar Par.obstacleCommission f 0 1 = (0, s.modObs f Obst.commissionStarted) := by
  show s.commission f 1 = _
  unfold State.commission
  rw [if_pos rfl, if_neg (by simp [run, locked])]
  rfl

theorem State.applyPar_commissionAbort (runs : (s.obs f).commissioning = true) :
    s.applyPar Par.obstacleCommission f 0 0 = (0, s.modObs f Obst.commissionAborted) := by
  show s.commission f 0 = _
  unfold State.commission
  rw [if_neg (by decide), if_pos rfl, if_pos runs]
  rfl

theorem State.applyPar_obstacleMapRestore (valid : (s.obs f).map.valid = true) (idle : (s.obs f).commissioning = false) :
    s.applyPar Par.obstacleMapRestore f 0 1 = (0, (s.modObs f Obst.restored).record Evt.obstMapRestored f []) := by
  show s.mapRestore f 1 = _
  unfold State.mapRestore
  rw [if_neg (by decide), if_neg (by simp [valid, idle])]
  rfl

/-- Of the parameters of the class CAL_USER only CLEAR_ALL has an effect of its own; every other is a trim. -/
theorem State.applyPar_trim {r : ParRow} {i j : Nat} (cls : r.cls = 0x61) (trim : r ≠ Par.calUserClearAll) :
    s.applyPar r i j v = s.writeTrim (r.pid i j) v := by
  have other {p : ParRow} (apart : p.cls ≠ 0x61) : (r = p) = False := eq_false fun same => apart (same ▸ cls)
  unfold State.applyPar
  simp (disch := decide) only [other, if_false]
  rw [if_neg trim, if_pos cls]

/-- The value that a trim had, as its record reports it. -/
def State.trimBefore (s : State) (pid : Nat) : Word :=
  match rowOfPid pid with
  | none => 0
  | some r => s.par r 0 (pidIdx pid - r.idx)

theorem State.writeTrim_taken {pid : Nat} (mode : s.mode = .standby ∨ s.mode = .maintenance) :
    s.writeTrim pid v = (0, (s.setPar pid v).record Evt.calTrimChanged noSource [word32 pid, s.trimBefore pid, v]) := by
  unfold State.writeTrim
  exact if_neg (by rcases mode with m | m <;> simp [m])

/-- The state without user trims. -/
def State.untrimmed (s : State) : State := { s with params := s.params.filter (fun e => pidClass e.1 ≠ 0x61) }

theorem State.applyPar_calClearAll (mode : s.mode = .standby ∨ s.mode = .maintenance) :
    s.applyPar Par.calUserClearAll 0 0 1 = (0, s.untrimmed.record Evt.calTrimChanged noSource
      [word32 (Par.calUserClearAll.pid 0 0), 0, 1]) := by
  show s.clearTrims 1 = _
  unfold State.clearTrims
  rw [if_neg (by decide), if_neg (by rcases mode with m | m <;> simp [m])]
  rfl

/-- A packet with one entry is the write of that parameter, wherever the write passes. -/
theorem State.Writes.writeOne_eq {q : Hdr} {r : ParRow} {i j : Nat} {x : Session} (h : s.Writes q r i j v x) :
    s.writeOne q r i j v = s.parWrite (oneEntry q (r.pid i j) v) := by
  unfold State.writeOne unitPid
  rw [if_pos (by simp [h.unit, h.element])]

end

/-- Settles O51: each write takes effect on the state in which its packet waits, and its reply leaves that effect alone. -/
theorem obstacleAndTrimWritesTakeEffect : Obligations.ObstacleAndTrimWritesTakeEffect := by
  unfold Obligations.ObstacleAndTrimWritesTakeEffect
  refine ⟨?temperature, ?start, ?abort, ?restore, ?trim, ?clear⟩
  case temperature =>
    intro s q x f v sound fit writes
    obtain ⟨k, written, later⟩ := writes.takesEffect (f := fun k => (State.tempIn { s with host := k } f v).2)
      (fun _ => State.applyPar_obstacleTempIn) (fun _ => rfl)
    have obs := State.obs_of_modified (later.obst rfl) (sound.obs_lt fit)
    exact ⟨_, rfl, written, State.par_of_set (later.params rfl) (rowOfPid_of_resolves writes.row),
      congrArg Obst.tempInAt obs, congrArg Obst.tempTimeout obs⟩
  case start =>
    intro s q x f sound fit writes run locked idle
    obtain ⟨k, written, later⟩ := writes.takesEffect
      (fun k => State.applyPar_commissionStart (s := { s with host := k }) run locked) (fun _ => rfl)
    have obs := State.obs_of_modified (later.obst rfl) (sound.obs_lt fit)
    exact ⟨_, rfl, written, congrArg Obst.commissioning obs, congrArg Obst.comm obs,
      (congrArg Obst.backup obs).trans (if_neg (Bool.eq_false_iff.1 idle))⟩
  case abort =>
    intro s q x f sound fit writes runs
    obtain ⟨k, written, later⟩ := writes.takesEffect
      (fun k => State.applyPar_commissionAbort (s := { s with host := k }) runs) (fun _ => rfl)
    have obs := State.obs_of_modified (later.obst rfl) (sound.obs_lt fit)
    exact ⟨_, rfl, written, congrArg Obst.commissioning obs, congrArg Obst.map obs⟩
  case restore =>
    intro s q x f sound fit writes valid idle
    obtain ⟨k, written, later⟩ := writes.takesEffect
      (fun k => State.applyPar_obstacleMapRestore (s := { s with host := k }) valid idle) (fun _ => State.record_host)
    have map := congrArg Obst.map (State.obs_of_modified ((later.obst rfl).trans State.record_obst) (sound.obs_lt fit))
    exact ⟨_, rfl, written, congrArg FricMap.close map, congrArg FricMap.open' map, congrArg FricMap.drift map,
      State.announces_record later rfl rfl⟩
  case trim =>
    intro s q x r j v sound cls trim writes mode
    obtain ⟨k, written, later⟩ := writes.takesEffect
      (fun k => (State.applyPar_trim cls trim).trans (State.writeTrim_taken (s := { s with host := k }) mode))
      (fun _ => State.record_host)
    rw [writes.writeOne_eq] at written later
    exact ⟨_, rfl, written,
      State.par_of_set ((later.params rfl).trans State.record_params) (rowOfPid_of_resolves writes.row)⟩
  case clear =>
    intro s q x writes mode
    obtain ⟨k, written, later⟩ := writes.takesEffect
      (fun k => State.applyPar_calClearAll (s := { s with host := k }) mode) (fun _ => State.record_host)
    have params : (s.writeOne q Par.calUserClearAll 0 0 1).params = s.params.filter (fun e => pidClass e.1 ≠ 0x61) :=
      (later.params rfl).trans State.record_params
    refine ⟨_, rfl, written, ?_⟩
    simp only [params, List.mem_filter, decide_eq_true_eq]
    exact ⟨fun _ kept => kept.2, fun _ mem other => ⟨mem, other⟩⟩

end Sys2Proof.Machine
end

section
/-! PROOFS of the family of 08_safety.md: the DCL outputs and the permissions (O35), discrepancies and the reset input (O36), the service
writes (O52), and mode requests and restarts (O56). -/

namespace Sys2Proof.Machine

/-! ### The DCL outputs and the permissions (08 R270 to R276) -/

section

variable {s t : State} {o : Nat}

theorem State.dcl_modDcl {f : Dcl → Dcl} : (s.modDcl o f).dcl o = f (s.dcl o) := by
  unfold State.modDcl State.dcl
  by_cases first : o = 0 <;> simp [first]

theorem State.dcl_of_safety (h : t.safety = s.safety) : t.dcl o = s.dcl o := by
  unfold State.dcl
  rw [h]

theorem State.conducting_eq : s.conducting o = ((s.dcl o).on1 && (s.dcl o).on2 && !s.safety.inhibit) := rfl

/-- An output with a switch that is off does not conduct. -/
theorem State.conducting_of_off (off : (s.dcl o).on1 = false) : s.conducting o = false := by simp [State.conducting_eq, off]

theorem Dcl.opened_off (d : Dcl) (tick : Nat) : (d.opened tick).on1 = false ∧ (d.opened tick).on2 = false := by
  unfold Dcl.opened
  split
  · exact ⟨rfl, rfl⟩
  · next off => simpa using off

theorem Dcl.opened_fault (d : Dcl) (tick : Nat) : (d.opened tick).fault = d.fault := by
  unfold Dcl.opened
  split <;> rfl

/-- A fault of an output latches, opens the output and is recorded. -/
theorem State.dclFault_opens {e : EvCode} {detail : Nat} :
    ((s.dclFault o e detail).dcl o).fault = true ∧ (s.dclFault o e detail).conducting o = false ∧
      s.Announces e noSource [word32 o, word32 detail] (s.dclFault o e detail) := by
  have reach := State.modDcl_reach (o := o) (f := ({ · with fault := true })) (.refl _) (.refl _ s)
  have opens := State.openDcl_reach (o := o) (.refl _) reach
  have output : (s.dclFault o e detail).dcl o = Dcl.opened { s.dcl o with fault := true } _ :=
    (State.dcl_of_safety State.record_safety).trans (State.dcl_modDcl.trans (congrArg (Dcl.opened · _) State.dcl_modDcl))
  refine ⟨?_, State.conducting_of_off ?_, State.announces_record (.refl 0 _) (opens.hallA rfl) (opens.outs rfl)⟩
  · rw [output]
    exact Dcl.opened_fault _ _
  · rw [output]
    exact (Dcl.opened_off _ _).1

theorem State.dcl_openBoth (output : o < 2) : s.openBoth.dcl o = (s.dcl o).opened s.stamp := by
  match o, output with
  | 0, _ => rfl
  | 1, _ => rfl

/-- The inhibit opens both outputs (01 R41). -/
theorem State.inhibitOn_opens (output : o < 2) : (s.inhibitOn.dcl o).on1 = false ∧ (s.inhibitOn.dcl o).on2 = false := by
  unfold State.inhibitOn
  rw [State.dcl_openBoth output]
  exact Dcl.opened_off _ _

theorem State.inhibitOn_inhibit : s.inhibitOn.safety.inhibit = true := rfl

theorem execDclConduct_met (output : o < 2) (due : (s.dcl o).due = true) (verdict : (s.dcl o).verdict = true)
    (tested : (s.dcl o).testPassed = true) (sound : (s.dcl o).fault = false) (auth : s.dclAuthNow = true)
    (free : s.safety.inhibit = false) :
    execDclConduct o s = .next (s.modDcl o (fun d => { d with on1 := true, on2 := true })) :=
  (onUnit_fitted (decide_eq_true output)).trans (congrArg _ (if_pos (by simp [due, verdict, tested, sound, auth, free])))

/-- Switching an output changes no inhibit. -/
theorem State.inhibit_modDcl {f : Dcl → Dcl} : (s.modDcl o f).safety.inhibit = s.safety.inhibit := by
  unfold State.modDcl
  split <;> rfl

section

variable {since : Nat} {ma1 ma2 : Rat}

/-- The offline test of an open output, at its end: no current in either step passes, any other latches the fault (08 R271). -/
theorem execDclOfflineTest_ends (output : o < 2) (test : (s.dcl o).test = some since) (ended : since + 2 ≤ s.tick)
    (off1 : (s.dcl o).on1 = false) (off2 : (s.dcl o).on2 = false) (sound : (s.dcl o).fault = false) (auth : s.dclAuthNow = true) :
    execDclOfflineTest o ma1 ma2 s = .next (if ma1 < 1 / 2 ∧ ma2 < 1 / 2 then
      s.modDcl o (fun d => { d with testPassed := true, test := none }) else s.dclFault o Evt.dclTestFault 0) := by
  refine (onUnit_fitted (decide_eq_true output)).trans (congrArg _ ?_)
  simp only [test]
  rw [if_neg (by simp [off1, off2, sound, auth, ended])]
  simp only [Bool.and_eq_true, decide_eq_true_eq]

end

theorem execDclTestPulse_fails {sw : Nat} {ma : Rat} (output : o < 2) (switch : sw < 2) (up : s.hallBUp = true)
    (conducts : s.conducting o = true) (instant : s.clockTick.toNat % 1000 = pulseOffset o sw) (current : 1 / 2 ≤ ma) :
    execDclTestPulse o sw ma s = .next (s.dclFault o Evt.dclTestFault (1 + sw)) :=
  (onUnit_fitted (by simp [output, switch])).trans (congrArg _ (if_pos (by
    simp only [up, conducts, instant, current, decide_true, Bool.and_self])))

theorem execDclInhibit_due (due : s.inhibitDue = true) : execDclInhibit s = .next s.inhibitOn := congrArg _ (if_pos due)

theorem State.Sound.fsafe_lt {f : Nat} (h : s.Sound) (fit : f < s.nFlights) : f < s.safety.flights.length := by
  rw [h.safety]
  exact State.nFlights_le fit

/-- The grant of a permission, or a permission that stands already (08 R276). -/
theorem execPermissionGrant_grants {f : Nat} (sound : s.Sound) (fit : f < s.nFlights) (up : s.hallBUp = true)
    (due : (s.fsafe f).permDue = true) (evaluated : (s.fsafe f).permEval = true) :
    ∃ t, execPermissionGrant f s = .next t ∧ t.permission f = true := by
  refine ⟨_, onUnit_fitted (decide_eq_true fit), ?_⟩
  cases held : (s.fsafe f).permission with
  | true => simp [State.permission, held]
  | false =>
    dsimp only
    rw [if_pos (by simp [up, due, evaluated, held])]
    exact congrArg FlightSafe.permission (State.fsafe_modFsafe (sound.fsafe_lt fit))

end

/-- Settles O35: each event, where its condition stands, closes the switches, passes the test, or opens the output with its fault. -/
theorem safetyOutputsConductAndOpen : Obligations.SafetyOutputsConductAndOpen := by
  unfold Obligations.SafetyOutputsConductAndOpen
  refine ⟨?conduct, ?offline, ?pulse, ?inhibit, ?permission⟩
  case conduct =>
    intro s o output due verdict tested sound auth free
    refine ⟨_, execDclConduct_met output due verdict tested sound auth free, ?_⟩
    rw [State.conducting_eq, State.dcl_modDcl, State.inhibit_modDcl, free]
    rfl
  case offline =>
    intro s o since ma1 ma2 output test ended off1 off2 sound auth
    have ends := execDclOfflineTest_ends (ma1 := ma1) (ma2 := ma2) output test ended off1 off2 sound auth
    refine ⟨fun low1 low2 => ⟨_, ends, ?_⟩, fun high => ⟨_, ends, ?_⟩⟩
    · rw [if_pos ⟨low1, low2⟩, State.dcl_modDcl]
      exact ⟨rfl, rfl⟩
    · have high' : ¬ (ma1 < 1 / 2 ∧ ma2 < 1 / 2) := fun ⟨low1, low2⟩ =>
        high.elim (Rat.not_le.2 low1) (Rat.not_le.2 low2)
      rw [if_neg high']
      exact State.dclFault_opens
  case pulse =>
    intro s o sw ma output switch up conducts instant current
    exact ⟨_, execDclTestPulse_fails output switch up conducts instant current, State.dclFault_opens⟩
  case inhibit =>
    intro s due
    exact ⟨_, execDclInhibit_due due, State.inhibitOn_inhibit, fun o output => State.inhibitOn_opens output⟩
  case permission =>
    intro s f sound fit up due evaluated
    exact execPermissionGrant_grants sound fit up due evaluated

/-! ### Discrepancies (08 R264, R265) -/

section

variable {s t : State} {n : Nat}

theorem State.pair_of_safety (h : t.safety = s.safety) : t.pair n = s.pair n := by
  unfold State.pair State.fsafe
  rw [h]

/-- A pair after a change of it, by the place where it stands: one of the four of a flight, or one of the train's. -/
theorem State.pair_modPair {g : Pair → Pair} (sound : s.Sound) : (s.modPair n g).pair n = g (s.pair n) := by
  unfold State.modPair State.pair
  by_cases flight : n < 48
  · have reads (h : FlightSafe → FlightSafe) : (s.modFsafe (n / 4) h).fsafe (n / 4) = h (s.fsafe (n / 4)) :=
      State.fsafe_modFsafe (by rw [sound.safety]; omega)
    have kinds : n % 4 = 0 ∨ n % 4 = 1 ∨ n % 4 = 2 ∨ n % 4 = 3 := by omega
    simp only [if_pos flight]
    rcases kinds with kind | kind | kind | kind <;> simp only [kind] <;> rw [reads]
  · by_cases zero : n = 48
    · simp [zero]
    · by_cases left : n = 49 <;> simp [flight, zero, left]

/-- The state in which the latch of a pair is set or cleared, and that is recorded. -/
def State.latchPair (s : State) (n : Nat) (on : Bool) (e : EvCode) (args : List (BitVec 32)) : State :=
  (s.modPair n (fun p => { p with latch := on })).record e (pairSource n) args

theorem State.latchPair_latches {on : Bool} {e : EvCode} {args : List (BitVec 32)} (sound : s.Sound) :
    ((s.latchPair n on e args).pair n).latch = on ∧ s.Announces e (pairSource n) args (s.latchPair n on e args) := by
  have reach := State.modPair_reach (n := n) (g := fun p => { p with latch := on }) (.refl _) (.refl _ s)
  refine ⟨?_, State.announces_record (.refl 0 _) (reach.hallA rfl) (reach.outs rfl)⟩
  exact congrArg Pair.latch ((State.pair_of_safety State.record_safety).trans (State.pair_modPair sound))

theorem execDiscrepancy_latches (fit : s.hasPair n = true) (up : s.hallBUp = true) (clear : (s.pair n).latch = false)
    (counts : (s.pair n).disc ≠ 0) (long : s.discSamples n ≤ (s.pair n).disc) :
    execDiscrepancy n s = .next (s.latchPair n true Evt.discrepancy
      [word32 n, word32 (if s.trusted (pairLine n) then 0 else 1)]) :=
  (onUnit_fitted fit).trans (congrArg _ (if_neg (by simp [up, clear, counts, long])))

theorem execDiscrepancyCleared_clears (fit : s.hasPair n = true) (up : s.hallBUp = true) (latched : (s.pair n).latch = true)
    (long : 8 ≤ (s.pair n).clear) :
    execDiscrepancyCleared n s = .next (s.latchPair n false Evt.discrepancyCleared [word32 n]) :=
  (onUnit_fitted fit).trans (congrArg _ (if_pos (by simp [up, latched, long])))

end

/-! ### The reset input (08 R280, R281) -/

section

variable {s : State} {p r : Nat}

theorem State.press_of_released (pressed : s.safety.pressAt = some p) (released : s.safety.releasedAt = some r) :
    s.press = some (p, r) := by simp [State.press, pressed, released]

/-- The safety state after a press: none is under judgement. -/
def Safety.judged (x : Safety) : Safety := { x with pressAt := none, releasedAt := none }

theorem execResetEdge_short (pressed : s.safety.pressAt = some p) (released : s.safety.releasedAt = some r) (up : s.hallBUp = true)
    (short : r < p + 24000) : execResetEdge s = .next { s with safety := { s.safety.judged with
      edge151 := s.safety.edge151 || (decide (p + 800 ≤ r) && !s.safety.resetStuck) } } := by
  unfold execResetEdge
  simp only [State.press_of_released pressed released]
  rw [if_neg (by simp [up, short])]
  rfl

theorem execResetEdge_long (pressed : s.safety.pressAt = some p) (released : s.safety.releasedAt = some r) (long : p + 24000 ≤ r) :
    execResetEdge s = .next s := by
  unfold execResetEdge
  simp only [State.press_of_released pressed released]
  exact if_pos (by simp [long])

/-- The state in which the press that began at a sample is held. -/
def State.pressHeld (s : State) (p : Nat) : State :=
  { s with safety := { s.safety with pressAt := some p, releasedAt := none, resetHeld := true } }

/-- The state in which a press that has just been held has ended. -/
def State.pressEnded (s : State) : State := { s with safety := s.safety.judged }

theorem execResetHeld_pressed (pressed : s.safety.pressAt = some p) (still : s.safety.releasedAt = none) (up : s.hallBUp = true)
    (fresh : s.safety.resetHeld = false) (long : p + 24000 ≤ s.sample) :
    execResetHeld s = .next ((s.pressHeld p).record Evt.resetHeld noSource []) := by
  unfold execResetHeld
  simp only [pressed]
  rw [if_neg (by simp [up, fresh, long])]
  simp only [still]
  rfl

theorem execResetHeld_released (pressed : s.safety.pressAt = some p) (released : s.safety.releasedAt = some (p + 24000))
    (up : s.hallBUp = true) (fresh : s.safety.resetHeld = false) (long : p + 24000 ≤ s.sample) :
    execResetHeld s = .next (s.pressEnded.record Evt.resetHeld noSource []) := by
  unfold execResetHeld
  simp only [pressed]
  rw [if_neg (by simp [up, fresh, long])]
  simp only [released, if_true]
  rfl

theorem execResetStuckClear_idle (up : s.hallBUp = true) (stuck : s.safety.resetStuck = true) (idle : 4000 ≤ s.safety.idle151) :
    execResetStuckClear s = .next { s with safety := { s.safety with resetStuck := false } } :=
  congrArg _ (if_pos (by simp [up, stuck, idle]))

end

/-- Settles O36: a pair's latch follows its counts; a press is judged at its end, or held once it has lasted 3000 ms. -/
theorem discrepanciesLatchAndResetsAreJudged : Obligations.DiscrepanciesLatchAndResetsAreJudged := by
  unfold Obligations.DiscrepanciesLatchAndResetsAreJudged
  refine ⟨?discrepancy, ?cleared, ?edge, ?ignored, ?held, ?ended, ?stuck⟩
  case discrepancy =>
    intro s n sound fit up clear counts long
    exact ⟨_, execDiscrepancy_latches fit up clear counts long, State.latchPair_latches sound⟩
  case cleared =>
    intro s n sound fit up latched long
    exact ⟨_, execDiscrepancyCleared_clears fit up latched long, State.latchPair_latches sound⟩
  case edge =>
    intro s p r pressed released up short
    exact ⟨_, execResetEdge_short pressed released up short, rfl, rfl, rfl⟩
  case ignored =>
    intro s p r pressed released long
    exact execResetEdge_long pressed released long
  case held =>
    intro s p pressed still up fresh long
    exact ⟨_, execResetHeld_pressed pressed still up fresh long, congrArg Safety.resetHeld State.record_safety,
      State.announces_record (.refl 0 _) rfl rfl⟩
  case ended =>
    intro s p pressed released up fresh long
    exact ⟨_, execResetHeld_released pressed released up fresh long, (congrArg Safety.resetHeld State.record_safety).trans fresh,
      congrArg Safety.pressAt State.record_safety, State.announces_record (.refl 0 _) rfl rfl⟩
  case stuck =>
    intro s up stuck idle
    exact ⟨_, execResetStuckClear_idle up stuck idle, rfl⟩

/-! ### The service writes (08 R279, 10 R335, R336, R366, 11 R393, R402, 13 R444) -/

section

variable {s : State} {v : Word}

/-- A program that stops for a cause runs no more, and nothing is forced; what it drove goes quiet first (10 R335, R366). -/
theorem State.stopProgram_stops {cause : Nat} (runs : s.prog.running.isSome = true) :
    (s.stopProgram cause).prog.run = false ∧ (s.stopProgram cause).prog.stopCause = cause ∧ (s.stopProgram cause).prog.forces = [] := by
  have loaded : s.prog.running.isNone = false := by simpa using runs
  unfold State.stopProgram
  rw [if_neg (Bool.eq_false_iff.1 loaded)]
  unfold State.clearForces
  rw [State.record_prog]
  exact ⟨rfl, rfl, rfl⟩

theorem State.stopProgram_host {cause : Nat} : (s.stopProgram cause).host = s.host :=
  (State.stopProgram_reach (.refl _) (.refl _ s)).host rfl

theorem State.applyPar_programStop (mode : s.mode = .standby ∨ s.mode = .maintenance) (runs : s.prog.running.isSome = true) :
    s.applyPar Par.programStop 0 0 1 = (0, (s.stopProgram 3).record Evt.programStopped noSource []) := by
  show s.progStopWrite 1 = _
  unfold State.progStopWrite State.recordIf
  rw [if_neg (by decide), if_neg (by rcases mode with m | m <;> simp [m]), if_pos runs]
  rfl

/-- The state in which a cold start of the program is due (10 R335, R336). -/
def State.restartDue (s : State) : State := { s with prog := { s.prog with startDue := some 2 } }

theorem State.applyPar_programRestart (mode : s.mode = .standby ∨ s.mode = .maintenance ∨ s.mode = .run)
    (runs : s.prog.running.isSome = true) : s.applyPar Par.programRestart 0 0 1 = (0, s.restartDue) := by
  show s.progRestartWrite 1 = _
  have none : s.prog.running.isNone = false := by simpa using runs
  unfold State.progRestartWrite
  rw [if_neg (by decide), if_neg (by rcases mode with m | m | m <;> simp [m, none])]
  rfl

theorem State.applyPar_forceClearAll : s.applyPar Par.forceClearAll 0 0 1 = (0, s.clearForces 4) := rfl

/-- The state in which a host's reset edge waits for the next safety tick (08 R279). -/
def State.hostEdge (s : State) : State := { s with safety := { s.safety with edgeHost := true } }

theorem State.applyPar_safetyResetReq (enabled : s.parN Par.safetyHostResetEn 0 0 = 1) :
    s.applyPar Par.safetyResetReq 0 0 1 = (0, s.hostEdge) := by
  show s.safetyResetWrite 1 = _
  unfold State.safetyResetWrite
  rw [if_neg (by decide), if_neg (by simp [enabled])]
  rfl

theorem State.applyPar_galleryAlcoveClear (serves : s.gallery.degraded = false) :
    s.applyPar Par.galleryAlcoveClear 0 0 1 = (0, s.alcoveClear) := by
  show s.writeAlcoveClear 1 = _
  unfold State.writeAlcoveClear
  rw [if_neg (by decide), if_neg (by simp [serves])]
  rfl

/-- A gallery without what arrives at it: Hall B's arrivals, and Hall A's buffer and losses for them. -/
def Gallery.kept (g : Gallery) : Gallery :=
  { g with arrivals := [], hallA := [], hallALost := [], hallALossFirst := none, hallALossLast := 0 }

/-- A record adds to what arrives at the gallery, and leaves what it keeps. -/
theorem State.record_kept {e : EvCode} {n : Nat} {args : List (BitVec 32)} : (s.record e n args).gallery.kept = s.gallery.kept := by
  unfold State.record State.recordAs
  dsimp only
  split
  · rfl
  · split
    · split <;> rfl
    · rfl

theorem State.applyPar_ringReform (able : s.ringCanForm = true) :
    s.applyPar Par.ringReform 0 0 1 = (0, { s with ring := { s.ring.alone with st := 1, trigger := some s.stamp } }) :=
  Prod.ext rfl (State.ringTrigger_able able)

end

/-! ### A change of FLOOD_MODE (11 R393) -/

section

variable {s : State} {v : Word}

/-- An open record whose window has ended (log 51). -/
def EvRec.ended (r : EvRec) : EvRec := { r with win := 0 }

/-- The state in which FLOOD_MODE has changed: the rate table is clear and every open record's window has ended. -/
def State.floodEnded (s : State) (v : Word) : State :=
  { s.setPar (Par.galleryFloodMode.pid 0 0) v with
    gallery := { s.gallery with openTab := s.gallery.openTab.map EvRec.ended, rate := [] } }

theorem State.floodEnded_params : (s.floodEnded v).params = Params.set s.params (Par.galleryFloodMode.pid 0 0) v := by
  simp only [State.floodEnded, State.setPar_params]

theorem State.floodWrite_changes (row : rowOfPid (Par.galleryFloodMode.pid 0 0) = some Par.galleryFloodMode)
    (changes : s.par Par.galleryFloodMode 0 0 ≠ v) : s.floodWrite v = (s.floodEnded v).closeWhile (fun _ => true) := by
  have after : (s.setPar (Par.galleryFloodMode.pid 0 0) v).par Par.galleryFloodMode 0 0 = v := State.par_of_set State.setPar_params row
  unfold State.floodWrite State.floodChanged
  rw [after, if_neg changes.symm]
  rfl

theorem State.applyPar_galleryFloodMode (row : rowOfPid (Par.galleryFloodMode.pid 0 0) = some Par.galleryFloodMode)
    (changes : s.par Par.galleryFloodMode 0 0 ≠ v) :
    s.applyPar Par.galleryFloodMode 0 0 v = (0, (s.floodEnded v).closeWhile (fun _ => true)) := by
  show (0, s.floodWrite v) = _
  rw [State.floodWrite_changes row changes]

theorem State.closeWhile_params {p : EvRec → Bool} : (s.closeWhile p).params = s.params :=
  (State.closeWhile_reach (.refl _) (.refl _ s)).params rfl

theorem State.closeWhile_host {p : EvRec → Bool} : (s.closeWhile p).host = s.host :=
  (State.closeWhile_reach (.refl _) (.refl _ s)).host rfl

/-- Whatever closing a record keeps, closing records while the spill has room keeps. -/
theorem State.closeWhile_keeps {P : State → Prop} {p : EvRec → Bool} (closes : ∀ u r, P u → P (u.closeRecord r)) (h : P s) :
    P (s.closeWhile p) := by
  refine List.foldlRecOn (motive := P) _ _ h fun u kept r _ => ?_
  split
  · exact closes u r kept
  · exact kept

/-- A record closes where the spill has room for it. -/
def State.closeRoomy (s : State) (r : EvRec) : State := if s.gallery.spillRoom then s.closeRecord r else s

theorem State.closeWhile_all : s.closeWhile (fun _ => true) = s.gallery.openTab.foldl State.closeRoomy s := by
  unfold State.closeWhile State.closeRoomy
  simp only [Bool.true_and]

/-- While the spill has room for every open record, closing them one after another moves them all into it, in their order. -/
theorem State.foldl_closeRoomy_spills {l : List EvRec} (tab : s.gallery.openTab = l)
    (room : s.gallery.waitEv.length + s.gallery.spill.length + l.length ≤ 768) :
    (l.foldl State.closeRoomy s).gallery.openTab = [] ∧ (l.foldl State.closeRoomy s).gallery.spill = s.gallery.spill ++ l := by
  induction l generalizing s with
  | nil => exact ⟨tab, (List.append_nil _).symm⟩
  | cons r l ih =>
    rw [List.length_cons] at room
    have roomy : s.gallery.spillRoom = true := decide_eq_true (by omega)
    have closed : (s.closeRecord r).gallery.openTab = l := (congrArg (List.erase · r) tab).trans (List.erase_cons_head r l)
    have waiting : (s.closeRecord r).gallery.waitEv = s.gallery.waitEv := rfl
    have spilled : (s.closeRecord r).gallery.spill = s.gallery.spill ++ [r] := rfl
    obtain ⟨empty, spill⟩ := ih closed (by
      rw [waiting, spilled, List.length_append, List.length_singleton]
      omega)
    rw [List.foldl_cons, show s.closeRoomy r = s.closeRecord r from if_pos roomy]
    exact ⟨empty, by rw [spill, spilled, List.append_assoc, List.singleton_append]⟩

theorem State.closeWhile_spills (room : s.gallery.waitEv.length + s.gallery.spill.length + s.gallery.openTab.length ≤ 768) :
    (s.closeWhile (fun _ => true)).gallery.openTab = [] ∧
      (s.closeWhile (fun _ => true)).gallery.spill = s.gallery.spill ++ s.gallery.openTab := by
  rw [State.closeWhile_all]
  exact State.foldl_closeRoomy_spills rfl room

/-- A change of FLOOD_MODE clears the rate table and ends every open record's window. -/
theorem State.floodEnded_clears : ((s.floodEnded v).closeWhile (fun _ => true)).gallery.rate = [] ∧
    ∀ r ∈ ((s.floodEnded v).closeWhile (fun _ => true)).gallery.openTab, r.win = 0 := by
  refine State.closeWhile_keeps (P := fun u => u.gallery.rate = [] ∧ ∀ r ∈ u.gallery.openTab, r.win = 0) ?_ ⟨rfl, ?_⟩
  · rintro u r ⟨clear, ended⟩
    exact ⟨clear, fun x mem => ended x (List.mem_of_mem_erase mem)⟩
  · intro r mem
    obtain ⟨x, -, rfl⟩ := List.mem_map.1 mem
    rfl

end

/-! ### A read of OPTIME_LO (11 R407) -/

section

variable {s : State} {q : Hdr} {x : Session}

/-- The state in which OPTIME_HI is latched. -/
def State.latchOptime (s : State) : State :=
  { s with gallery := { s.gallery with optimeHi := s.gallery.optime / 4294967296 % 256 } }

theorem State.resolvePid_optimeLo : s.resolvePid (Par.galleryOptimeLo.pid 0 0) = .inr (Par.galleryOptimeLo, 0, 0) :=
  State.resolvePid_present (pid := Par.galleryOptimeLo.pid 0 0) rfl (by decide) rfl rfl

theorem State.readEntry_optimeLo (up : s.hallB.inReset = false) :
    s.readEntry 0 (Par.galleryOptimeLo.pid 0 0) = ((0, 2, word32 s.gallery.optime), s.latchOptime) :=
  State.readEntry_active State.resolvePid_optimeLo (by rw [up]; rfl)

theorem execOptimeRead_answers (active : q.hall = 0) (up : s.hallB.inReset = false)
    (passes : s.Passes readSpec (oneRead q (Par.galleryOptimeLo.pid 0 0)) x) :
    execOptimeRead q s = .next ((s.afterChecks readSpec (oneRead q (Par.galleryOptimeLo.pid 0 0))).latchOptime.answer
      (pendOf 0x0010 q) 0 0 (leBytes 2 1 ++ [0, 0] ++ [0, 2, 0, 0] ++ leBytes 4 (word32 s.gallery.optime).toNat)) := by
  rw [List.append_assoc (leBytes 2 1 ++ [0, 0])]
  refine congrArg _ (passes.readsOne (e := (0, 2, word32 s.gallery.optime)) (by decide) (by decide) (by decide) ?_)
  rw [active]
  exact State.readEntry_optimeLo (s := s.afterChecks readSpec _) up

end

/-- Settles O52: each write takes effect on the state in which its packet waits, and its reply leaves that effect alone; a read of the
operating time latches its upper part. -/
theorem serviceWritesTakeEffect : Obligations.ServiceWritesTakeEffect := by
  unfold Obligations.ServiceWritesTakeEffect
  refine ⟨?stop, ?restart, ?forces, ?reset, ?alcove, ?optime, ?flood, ?ring⟩
  case stop =>
    intro s q x writes mode runs
    obtain ⟨k, written, later⟩ := writes.takesEffect (fun k => State.applyPar_programStop (s := { s with host := k }) mode runs)
      (fun _ => State.record_host.trans State.stopProgram_host)
    refine ⟨_, rfl, written, ?_⟩
    rw [(later.prog rfl).trans State.record_prog]
    exact State.stopProgram_stops (s := { s with host := k }) runs
  case restart =>
    intro s q x writes mode runs
    obtain ⟨k, written, later⟩ := writes.takesEffect (fun k => State.applyPar_programRestart (s := { s with host := k }) mode runs)
      (fun _ => rfl)
    exact ⟨_, rfl, written, congrArg Prog.startDue (later.prog rfl)⟩
  case forces =>
    intro s q x writes
    obtain ⟨k, written, later⟩ := writes.takesEffect (fun k => State.applyPar_forceClearAll (s := { s with host := k }))
      (fun _ => State.record_host)
    exact ⟨_, rfl, written, congrArg Prog.forces ((later.prog rfl).trans State.record_prog), State.announces_record later rfl rfl⟩
  case reset =>
    intro s q x writes enabled
    obtain ⟨k, written, later⟩ := writes.takesEffect (fun k => State.applyPar_safetyResetReq (s := { s with host := k }) enabled)
      (fun _ => rfl)
    exact ⟨_, rfl, written, congrArg Safety.edgeHost (later.safety rfl)⟩
  case alcove =>
    intro s q x writes serves
    obtain ⟨k, written, later⟩ := writes.takesEffect (fun k => State.applyPar_galleryAlcoveClear (s := { s with host := k }) serves)
      (fun _ => State.record_host)
    have kept := (congrArg Gallery.kept (later.gallery rfl)).trans State.record_kept
    exact ⟨_, rfl, written, (congrArg Gallery.alcove kept :), (congrArg Gallery.alcWritten kept :), (congrArg Gallery.alcDropped kept :),
      State.announces_record later rfl rfl⟩
  case optime =>
    intro s q x active up passes
    refine ⟨_, execOptimeRead_answers active up passes, ?_, passes.replied (t := State.latchOptime _) rfl 0 0 _⟩
    exact congrArg Gallery.optimeHi ((State.answer_reach (.refl _) (.refl _ _)).gallery rfl)
  case flood =>
    intro s q x v writes changes
    have row := rowOfPid_of_resolves writes.row
    obtain ⟨k, written, later⟩ := writes.takesEffect
      (fun k => State.applyPar_galleryFloodMode (s := { s with host := k }) row changes) (fun _ => State.closeWhile_host)
    have params := (later.params rfl).trans (State.closeWhile_params.trans State.floodEnded_params)
    obtain ⟨clear, ended⟩ := State.floodEnded_clears (s := { s with host := k }) (v := v)
    refine ⟨_, rfl, written, State.par_of_set params row, ?_⟩
    rw [later.gallery rfl]
    refine ⟨clear, ended, fun room => State.closeWhile_spills ?_⟩
    show s.gallery.waitEv.length + s.gallery.spill.length + (s.gallery.openTab.map EvRec.ended).length ≤ 768
    rw [List.length_map]
    exact room
  case ring =>
    intro s q x writes able
    obtain ⟨k, written, later⟩ := writes.takesEffect (fun k => State.applyPar_ringReform (s := { s with host := k }) able) (fun _ => rfl)
    exact ⟨_, rfl, written, congrArg Ring.st (later.ring rfl), congrArg Ring.trigger (later.ring rfl)⟩

/-! ### Mode requests and restarts (08 R286, 12 R422, 14 R471) -/

section

variable {s : State} {k : Pkt} {x : Session} {new : Mode}

/-- What MODE_REQUEST asks of a packet of 4 bytes whose role may request its mode (12 R415, R422). -/
def modeSpec : OpSpec := { code := 0x0070, perm := .read, lenOk := true, deferred := true }

/-- The state in which a mode request is proposed to Hall B, to take effect four ticks later. -/
def State.requested (s : State) (p : Pend) (new : Mode) : State :=
  State.propose { s with host := { s.host with exclusive := some p, modeReq := some (p, new, s.tick + 4) } } .a new

theorem State.modeRequest_proposes (passes : s.Passes modeSpec k x) (length : k.payload.length = 4)
    (may : roleHas x.role .service = true ∨ ((x.role = 2 ∨ x.role = 3) ∧ (new = .standby ∨ new = .run)))
    (free : s.excluded = false) (up : s.hallB.inReset = false) (allowed : s.modeRefusal new = none) :
    s.modeRequest k new = (s.afterChecks modeSpec k).requested (pendOf 0x0070 k.hdr) new := by
  have permitted : (roleHas x.role .service || ((x.role = 2 || x.role = 3) && (new == .standby || new == .run))) = true := by
    simpa using may
  have free' : ((s.afterChecks modeSpec k).excluded || (s.afterChecks modeSpec k).hallB.inReset) = false :=
    Bool.or_eq_false_iff.2 ⟨free, up⟩
  have allowed' : (s.afterChecks modeSpec k).modeRefusal new = none := allowed
  have vetted : s.vet modeSpec k = .served (s.afterChecks modeSpec k) (pendOf 0x0070 k.hdr) x.role (some x) := State.vet_passes passes
  unfold State.modeRequest
  simp only [passes.session, permitted, length, decide_true]
  rw [show ({ code := 0x0070, perm := .read, lenOk := true, deferred := true } : OpSpec) = modeSpec from rfl, vetted]
  simp only [free', allowed']
  rfl

/-- What RESTART asks of a packet of 4 bytes in a state that takes it (12 R422). -/
def restartsSpec : OpSpec := { code := 0x0071, perm := .service, lenOk := true }

/-- The state in which a restart begins 100 ms later. -/
def State.restarting (s : State) (whole : Bool) : State :=
  { s with host := { s.host with restart := some ⟨whole, s.stamp + 100, whole && s.sec.fwPending ≠ 0⟩ } }

theorem State.restart_accepted {whole : Bool} (passes : s.Passes restartsSpec k x) (length : k.payload.length = 4)
    (takes : s.restartOpen = true) (free : s.excluded = false) :
    s.restart k whole = ((s.afterChecks restartsSpec k).answer (pendOf 0x0071 k.hdr) 0 0 []).restarting whole := by
  have spec : restartSpec s k = restartsSpec := by simp [restartSpec, restartsSpec, length, takes]
  have vetted : s.vet restartsSpec k = .served (s.afterChecks restartsSpec k) (pendOf 0x0071 k.hdr) x.role (some x) :=
    State.vet_passes passes
  unfold State.restart
  rw [spec, vetted]
  exact if_neg (Bool.eq_false_iff.1 free)

/-- An accepted restart is answered, and begins 100 ms after its reply. -/
theorem State.restart_begins {whole : Bool} (passes : s.Passes restartsSpec k x) (length : k.payload.length = 4)
    (takes : s.restartOpen = true) (free : s.excluded = false) :
    (s.restart k whole).Replied (pendOf 0x0071 k.hdr) 0 0 [] ∧
      (s.restart k whole).host.restart = some ⟨whole, s.stamp + 100, whole && s.sec.fwPending ≠ 0⟩ := by
  rw [State.restart_accepted passes length takes free]
  have reach := State.answer_reach (p := pendOf 0x0071 k.hdr) (status := 0) (item := 0) (payload := []) (.refl _)
    (.refl _ (s.afterChecks restartsSpec k))
  refine ⟨passes.replied rfl 0 0 [], ?_⟩
  unfold State.restarting State.stamp State.tick State.sample
  rw [reach.clock rfl, reach.sec rfl]
  rfl

end

/-- Settles O56: a request that is allowed is proposed at once; a restart that is accepted is answered before it is due. -/
theorem modeRequestsAndRestarts : Obligations.ModeRequestsAndRestarts := by
  unfold Obligations.ModeRequestsAndRestarts
  refine ⟨?request, ?restart⟩
  case request =>
    intro s k x c new request passes length may free up allowed
    have answers : exec c s = .next (s.modeRequest k new) := by
      rcases request with ⟨rfl, rfl⟩ | ⟨rfl, rfl⟩ | ⟨rfl, rfl⟩ | ⟨rfl, rfl⟩ <;> rfl
    rw [answers, State.modeRequest_proposes passes length may free up allowed]
    exact ⟨_, rfl, rfl, rfl, rfl⟩
  case restart =>
    intro s k x passes length takes free
    exact ⟨⟨_, rfl, State.restart_begins passes length takes free⟩, ⟨_, rfl, by
      simpa using State.restart_begins (whole := true) passes length takes free⟩⟩

end Sys2Proof.Machine
end

section
/-! PROOFS of the family of 09_safe_frames_train.md: the safe connections (O42), and the telegrams and frames of the train network (O43). -/

namespace Sys2Proof.Machine

/-! ### Safe connections (09 R306 to R310, R318, R326) -/

section

variable {s t : State} {c : Nat}

theorem State.Sound.conn_lt (h : s.Sound) (fit : c < 8) : c < s.conns.length := by rw [h.conns]; exact fit

theorem State.conn_of_conns (h : t.conns = s.conns) : t.conn c = s.conn c := congrArg (·.getD c .reset) h

/-- The state in which a frame that has been built has left, in a telegram with the connection's own count (09 R322). -/
def State.sendVsf (s : State) (c : Nat) (bs : Bytes) : State :=
  let n := s.train.connTxSeq.getD c 0
  let sent := (s.send (.vsf c bs)).sendPd (s.par Par.safelinkConnTxComid 0 c) (s.par Par.safelinkConnDestIp 0 c) n bs
  { sent with train := { sent.train with connTxSeq := sent.train.connTxSeq.set c (n + 1) } }

/-- Once the frame is sent, its telegram adds to what is sent, and moves the connection's count. -/
theorem State.sendVsf_reach {bs : Bytes} : Reach 34628173824 (s.send (.vsf c bs)) (s.sendVsf c bs) :=
  .set_train (.of_or rfl) (State.sendPd_reach (.of_or rfl) (.refl _ _))

theorem execVsfSend_due (fit : c < 8) (due : s.vsfDue c = true) :
    execVsfSend c s = .next ((s.buildVsf c).2.sendVsf c (s.buildVsf c).1) :=
  (onUnit_fitted (decide_eq_true fit)).trans (congrArg _ (if_neg (by simp [due])))

/-- A frame that reaches SLE in a Hall B past its start-up waits for the next safety tick. -/
theorem State.vsfArrive_waits {bs : Bytes} (up : s.hallBUp = true) (started : s.hallB.mode ≠ .boot) :
    (s.vsfArrive c bs).safety.vsfIn = s.safety.vsfIn ++ [(c, bs)] := by
  rw [State.vsfArrive, if_pos (by simp [up, started])]

theorem State.vsfArrive_ignored {bs : Bytes} (down : s.hallBUp = false ∨ s.hallB.mode = .boot) : s.vsfArrive c bs = s :=
  if_neg (by rcases down with h | h <;> simp [h])

theorem execVsfFrameReceive_carried {r : VsfIn} (fit : r.conn < 8) (carried : s.carries r.conn = true) :
    execVsfFrameReceive r s = .next (s.vsfArrive r.conn r.bytes) :=
  (onUnit_fitted (decide_eq_true fit)).trans (congrArg _ (if_pos carried))

theorem execVsfFrameReceive_lost {r : VsfIn} (fit : r.conn < 8) (lost : s.carries r.conn = false) :
    execVsfFrameReceive r s = .next s :=
  (onUnit_fitted (decide_eq_true fit)).trans (congrArg _ (if_neg (by simp [lost])))

theorem execSafelinkSilenceTimeout_restarts (fit : c < 8) (up : s.hallBUp = true) (carried : s.carries c = true)
    (opened : (s.conn c).st = .open') (silent : (s.conn c).acceptTick + 2 * s.tExp c ≤ s.tick) :
    execSafelinkSilenceTimeout c s = .next (s.vsfRestart c 1).refreshValid :=
  (onUnit_fitted (decide_eq_true fit)).trans (congrArg _ (if_pos (by simp [up, carried, opened, silent])))

/-- Judging validity afresh leaves a connection in its state. -/
theorem State.refreshValid_st (lt : c < s.conns.length) : (s.refreshValid.conn c).st = (s.conn c).st := by
  rw [State.refreshValid, State.conn_mapConns lt]

theorem State.vsfRestart_conn {cause : Nat} (lt : c < s.conns.length) : (s.vsfRestart c cause).conn c = (s.conn c).starting :=
  (State.conn_of_conns State.record_conns).trans (State.conn_modConn lt)

theorem State.Sound.vsfRestart {cause : Nat} (h : s.Sound) : (s.vsfRestart c cause).Sound :=
  (State.vsfRestart_reach (.refl _) (.refl _ s)).sound h

/-- The state in which the end of a connection's values has been noted. -/
def State.expireConn (s : State) (c : Nat) : State := s.modConn c (fun x => { x with wasValid := false, valid := false })

theorem execSafelinkExpired_expires (fit : c < 8) (up : s.hallBUp = true) (was : (s.conn c).wasValid = true)
    (invalid : s.vsfValid c = false) :
    execSafelinkExpired c s = .next ((s.expireConn c).record Evt.safelinkExpired c [word32 (s.conn c).age]) :=
  (onUnit_fitted (decide_eq_true fit)).trans (congrArg _ (if_pos (by simp [up, was, invalid])))

end

/-- Settles O42: what is sent, judged or recorded after a connection has changed leaves that change alone. -/
theorem safeConnectionsSendReceiveAndExpire : Obligations.SafeConnectionsSendReceiveAndExpire := by
  unfold Obligations.SafeConnectionsSendReceiveAndExpire
  refine ⟨?send, ?receive, ?ignore, ?silence, ?expire⟩
  case send =>
    intro s c _ fit due
    have sent := State.sendVsf_reach (s := (s.buildVsf c).2) (c := c) (bs := (s.buildVsf c).1)
    exact ⟨_, execVsfSend_due fit due, sent.conns rfl, sent.grow⟩
  case receive =>
    intro s r fit up started carried
    exact ⟨_, execVsfFrameReceive_carried fit carried, State.vsfArrive_waits up started⟩
  case ignore =>
    intro s r fit unjudged
    cases carried : s.carries r.conn with
    | false => exact execVsfFrameReceive_lost fit carried
    | true =>
      have down : s.hallBUp = false ∨ s.hallB.mode = .boot := by simpa [carried] using unjudged
      exact (execVsfFrameReceive_carried fit carried).trans (congrArg _ (State.vsfArrive_ignored down))
  case silence =>
    intro s c sound fit up carried opened silent
    refine ⟨_, execSafelinkSilenceTimeout_restarts fit up carried opened silent, ?_, ?_⟩
    · rw [State.refreshValid_st (sound.vsfRestart.conn_lt fit), State.vsfRestart_conn (sound.conn_lt fit)]
      rfl
    · exact State.announces_record (u := s.modConn c Conn.starting) (State.refreshValid_reach (.refl _) (.refl _ _)) rfl rfl
  case expire =>
    intro s c sound fit up was invalid
    exact ⟨_, execSafelinkExpired_expires fit up was invalid,
      (State.conn_of_conns State.record_conns).trans (State.conn_modConn (sound.conn_lt fit)),
      State.announces_record (u := s.expireConn c) (.refl 0 _) rfl rfl⟩

/-! ### The limit on group frames (09 R316) -/

section

variable {s : State}

/-- The state in which the limit has the second that it counts, and its count. -/
def State.stormCounted (s : State) (tick count : Nat) : State :=
  { s with train := { s.train with stormTick := tick, stormCount := count } }

/-- A frame that passes the limit changes the limit's count at most. -/
theorem State.stormTake_passes (pass : s.stormTake.1 = true) : ∃ tick count, s.stormTake = (true, s.stormCounted tick count) := by
  unfold State.stormTake
  extract_lets n tick
  by_cases room : n < 2000
  · exact ⟨tick, n + 1, if_pos room⟩
  · have dropped : s.stormTake.1 = false := congrArg Prod.fst (if_neg room)
    exact absurd pass (by simp [dropped])

/-- A frame to one station, and a group frame within the limit, reach LE with the limit's count changed at most. -/
theorem State.withinLimit {group : Bool} (pass : group = false ∨ s.stormTake.1 = true) :
    ∃ tick count, (if group then s.stormTake else (true, s)) = (true, s.stormCounted tick count) := by
  cases group with
  | false => exact ⟨s.train.stormTick, s.train.stormCount, rfl⟩
  | true => exact State.stormTake_passes (pass.resolve_left (by decide))

end

/-! ### Process data (09 R319, R321) -/

section

variable {s t : State} {r : PdIn} {n : Nat}

theorem State.sub_of_train (h : t.train = s.train) : t.sub n = s.sub n := congrArg (fun x => x.subs.getD n .reset) h

theorem State.sub_modSub {f : TrdpSub → TrdpSub} (lt : n < s.train.subs.length) : (s.modSub n f).sub n = f (s.sub n) := by
  simp [State.sub, State.modSub, lt]

/-- A telegram of the right length is what its subscription holds then, fresh. -/
theorem State.keepPd_sub (lt : n < s.train.subs.length) (length : (pdData r).length = s.parN Par.trdpSubLen 0 n) :
    (s.keepPd n r).sub n = { data := pdData r, fresh := true, rxTick := s.stamp, everRx := true, timedOut := false } := by
  unfold State.keepPd
  rw [if_neg fun differs => differs length]
  exact (State.sub_of_train ((State.recordIf_reach (.refl _) (.refl _ _)).train rfl)).trans (State.sub_modSub lt)

/-- A telegram that no safe connection takes goes to the first subscription that takes it. -/
theorem State.takePd_subscribed (good : pdGood r = true) (reached : s.reaches r.destIp = true)
    (free : ∀ c, c < 8 → s.connTakes c r = false) (fit : n < 32) (takes : s.subTakes n r = true)
    (earlier : ∀ k, k < n → s.subTakes k r = false) : s.takePd r = s.keepPd n r := by
  have unclaimed : (List.range 8).filter (fun c => s.connTakes c r) = [] :=
    List.filter_eq_nil_iff.2 fun c mem => by simp [free c (List.mem_range.1 mem)]
  have found : (List.range 32).find? (fun k => s.subTakes k r) = some n :=
    List.find?_range_eq_some.2 ⟨takes, List.mem_range.2 fit, fun k lt => by simp [earlier k lt]⟩
  unfold State.takePd
  rw [if_neg (by simp [reached]), if_neg (by simp [good])]
  simp [unclaimed, found]

theorem execTrdpPdReceive_withinLimit (up : s.hallAUp = true) (address : s.parN Par.hostlinkIp 0 0 ≠ 0)
    (pass : pdMulticast r = false ∨ s.stormTake.1 = true) :
    ∃ tick count, execTrdpPdReceive r s = .next ((s.stormCounted tick count).takePd r) := by
  obtain ⟨tick, count, within⟩ := State.withinLimit pass
  refine ⟨tick, count, (if_neg (by simp [up, address])).trans ?_⟩
  rw [within]
  rfl

/-- What a subscription is after its timeout, for its behaviour: 0 zeroes the dataset. -/
def TrdpSub.lapsed (x : TrdpSub) (behaviour : Nat) : TrdpSub :=
  { x with fresh := false, timedOut := true, data := if behaviour = 0 then List.replicate x.data.length 0 else x.data }

/-- The state in which a subscription has lapsed, also for the freeze of this tick (10 R329). -/
def State.lapseSub (s : State) (n : Nat) : State :=
  let lapsed := fun x : TrdpSub => x.lapsed (s.parN Par.trdpSubToBehav 0 n)
  { s.modSub n lapsed with
      prog := { s.prog with before := { s.prog.before with subs := s.prog.before.subs.modify n lapsed } } }

theorem State.lapseSub_sub (lt : n < s.train.subs.length) :
    (s.lapseSub n).sub n = (s.sub n).lapsed (s.parN Par.trdpSubToBehav 0 n) := State.sub_modSub lt

theorem execTrdpSubTimeout_lapses (fit : n < 32) (up : s.hallAUp = true) (fresh : (s.sub n).fresh = true)
    (freeze : s.atCycleStart = true) (late : (s.sub n).rxTick + s.parN Par.trdpSubTimeout 0 n ≤ s.tick) :
    execTrdpSubTimeout n s = .next ((s.lapseSub n).record Evt.trdpSubTimeout n []) :=
  (onUnit_fitted (decide_eq_true fit)).trans (congrArg _ (if_pos (by simp [up, fresh, freeze, late])))

end

/-! ### The switch, ARP and ICMP (09 R315, R317) -/

section

variable {s : State} {frame reply : Bytes} {p : Nat}

/-- The state in which the switch has learned where a frame comes from, and seen traffic on its port. -/
def State.noteFrame (s : State) (p : Nat) (frame : Bytes) : State :=
  let learned := s.learnMac (beNat ((frame.drop 6).take 6)) p
  { learned with train := { learned.train with traffic := learned.train.traffic.set p true } }

theorem State.noteFrame_outs : (s.noteFrame p frame).outs = s.outs := (State.learnMac_reach (.refl _) (.refl _ s)).outs rfl

/-- A group frame leaves by the other port, and goes toward LE. -/
theorem execSwitchFrameForward_group (fit : p < 2) (powered : s.switchPowered = true) (least : 14 ≤ frame.length)
    (most : frame.length ≤ 1522) (group : groupAddress (beNat (frame.take 6)) = true) :
    execSwitchFrameForward p frame s =
      .next (((s.noteFrame p frame).send (.eth (1 - p) (frameQueue frame) frame)).frameToLe true frame) :=
  (onUnit_fitted (decide_eq_true fit)).trans
    (congrArg _ ((if_neg (by simp [powered, least, most])).trans (if_pos group)))

theorem execArpIcmpRequest_withinLimit (up : s.hallAUp = true) (address : s.parN Par.hostlinkIp 0 0 ≠ 0)
    (pass : groupAddress (beNat (frame.take 6)) = false ∨ s.stormTake.1 = true) :
    ∃ tick count, execArpIcmpRequest frame s = .next ((s.stormCounted tick count).answerFrame frame) := by
  obtain ⟨tick, count, within⟩ := State.withinLimit pass
  refine ⟨tick, count, (if_neg (by simp [up, address])).trans ?_⟩
  rw [within]
  rfl

theorem State.answerFrame_arp (kind : beNat ((frame.drop 12).take 2) = 0x806) (answer : s.arpReply frame = some reply) :
    s.answerFrame frame = s.sendFrame reply := by
  simp [State.answerFrame, kind, answer]

theorem State.answerFrame_echo (kind : beNat ((frame.drop 12).take 2) = 0x800) (answer : s.echoReply frame = some reply) :
    s.answerFrame frame = s.sendFrame reply := by
  simp [State.answerFrame, kind, answer]

end

/-- Settles O43: the limit's count is all that a frame's way to LE changes, and nothing that LE asks of a frame or answers depends on it. -/
theorem trainNetworkTelegramsAndFrames : Obligations.TrainNetworkTelegramsAndFrames := by
  unfold Obligations.TrainNetworkTelegramsAndFrames
  refine ⟨?telegram, ?timeout, ?forward, ?arp, ?echo⟩
  case telegram =>
    intro s r n up address pass good reached free fit lt takes earlier length
    obtain ⟨tick, count, received⟩ := execTrdpPdReceive_withinLimit up address pass
    have taken : (s.stormCounted tick count).takePd r = (s.stormCounted tick count).keepPd n r :=
      State.takePd_subscribed good reached free fit takes earlier
    exact ⟨_, received.trans (congrArg _ taken), State.keepPd_sub (s := s.stormCounted tick count) lt length⟩
  case timeout =>
    intro s n fit lt up fresh freeze late
    have lapsed : ((s.lapseSub n).record Evt.trdpSubTimeout n []).sub n = (s.sub n).lapsed (s.parN Par.trdpSubToBehav 0 n) :=
      (State.sub_of_train State.record_train).trans (State.lapseSub_sub lt)
    refine ⟨_, execTrdpSubTimeout_lapses fit up fresh freeze late, ?_, ?_, ?_, ?_⟩
    · exact congrArg TrdpSub.fresh lapsed
    · exact congrArg TrdpSub.timedOut lapsed
    · exact congrArg TrdpSub.data lapsed
    · exact State.announces_record (u := s.lapseSub n) (.refl 0 _) rfl rfl
  case forward =>
    intro s p frame fit powered least most group
    refine ⟨_, execSwitchFrameForward_group fit powered least most group, ?_⟩
    rw [← State.noteFrame_outs (s := s) (p := p) (frame := frame)]
    exact (State.frameToLe_reach (.refl _) (.refl _ ((s.noteFrame p frame).send _))).grow
  case arp =>
    intro s frame reply up address pass kind answer
    obtain ⟨tick, count, received⟩ := execArpIcmpRequest_withinLimit up address pass
    exact ⟨_, received.trans (congrArg _ (State.answerFrame_arp (s := s.stormCounted tick count) kind answer)), rfl⟩
  case echo =>
    intro s frame reply up address pass kind answer
    obtain ⟨tick, count, received⟩ := execArpIcmpRequest_withinLimit up address pass
    exact ⟨_, received.trans (congrArg _ (State.answerFrame_echo (s := s.stormCounted tick count) kind answer)), rfl⟩

end Sys2Proof.Machine
end

section
/-! PROOFS of the family of 10_program.md: the CAN ports (O41), the cycle starts (O44), what ends by itself (O45), and the forces and
program loads of the host (O55). -/

namespace Sys2Proof.Machine

/-! ### CAN ports and the nodes that they watch (10 R357, R359 to R361) -/

section

variable {s t : State} {p k n : Nat}

theorem State.canPort_of_can (h : t.can = s.can) : t.canPort p = s.canPort p := congrArg (·.ports.getD p .reset) h

theorem State.canNode_of_nodes (h : t.can.nodes = s.can.nodes) : t.canNode k = s.canNode k := congrArg (·.getD k ⟨0, 0, 0⟩) h

@[simp] theorem State.recordIf_can {c : Bool} {e : EvCode} {source : Nat} {args : List (BitVec 32)} :
    (s.recordIf c e source args).can = s.can := (State.recordIf_reach (.refl _) (.refl _ s)).can rfl

theorem State.canPort_modCan {f : CanPort → CanPort} (lt : p < s.can.ports.length) : (s.modCan p f).canPort p = f (s.canPort p) := by
  simp [State.canPort, State.modCan, lt]

/-- The state in which a heartbeat entry has changed. -/
def State.modNode (s : State) (k : Nat) (f : CanNode → CanNode) : State :=
  { s with can := { s.can with nodes := s.can.nodes.modify k f } }

theorem State.canNode_modNode {f : CanNode → CanNode} (lt : k < s.can.nodes.length) : (s.modNode k f).canNode k = f (s.canNode k) := by
  simp [State.canNode, State.modNode, lt]

/-- A port whose change is recorded has that change, and the record goes out. -/
theorem State.modCan_recorded {f : CanPort → CanPort} {e : EvCode} {args : List (BitVec 32)} (lt : p < s.can.ports.length) :
    ((s.modCan p f).record e p args).canPort p = f (s.canPort p) ∧ s.Announces e p args ((s.modCan p f).record e p args) :=
  ⟨(State.canPort_of_can State.record_can).trans (State.canPort_modCan lt), State.announces_record (.refl 0 _) rfl rfl⟩

/-- An entry whose change is recorded has that change, and the record goes out. -/
theorem State.modNode_recorded {f : CanNode → CanNode} {e : EvCode} {args : List (BitVec 32)} (lt : k < s.can.nodes.length) :
    ((s.modNode k f).record e p args).canNode k = f (s.canNode k) ∧ s.Announces e p args ((s.modNode k f).record e p args) :=
  ⟨(State.canNode_of_nodes (congrArg Can.nodes State.record_can)).trans (State.canNode_modNode lt),
    State.announces_record (.refl 0 _) rfl rfl⟩

/-- What a port sends, or counts as not sent, leaves the heartbeat entries alone. -/
theorem State.canSend_nodes {id : BitVec 11} {data : Bytes} : (s.canSend p id data).can.nodes = s.can.nodes := by
  unfold State.canSend
  split
  · rfl
  · split <;> rfl

theorem State.rpdoTake_fits {id : Nat} {data : Bytes} (length : data.length = wfield (s.par Par.canRpdoCfg 0 n) 7 1) :
    s.rpdoTake p id data n =
      { s with can := { s.can with rpdos := s.can.rpdos.modify n ({ · with data := data, got := true, gotAt := s.sample }) } } :=
  if_pos length

theorem execRpdoReceive_takes {id : Nat} {data : Bytes} (fit : p < 2) (listens : s.canListens p = true) (entry : s.rpdoEntries p id = [n]) :
    execRpdoReceive p id data s = .next (s.rpdoTake p id data n) :=
  (onUnit_fitted (decide_eq_true fit)).trans (congrArg _ ((if_pos listens).trans (by rw [entry]; rfl)))

/-- After its heartbeat a node is alive, also where it was lost, and is recorded as back and started again. -/
theorem State.heartbeatTake_node {node : Nat} {nmt : Byte} (lt : k < s.can.nodes.length) :
    (s.heartbeatTake p node nmt k).canNode k = ⟨1, nmt, s.stamp⟩ := by
  have heard : (s.modNode k (fun x => { x with st := 1, nmt := nmt, lastTick := s.stamp })).canNode k = ⟨1, nmt, s.stamp⟩ :=
    State.canNode_modNode lt
  unfold State.heartbeatTake
  refine (State.canNode_of_nodes ?_).trans heard
  dsimp only
  split
  · exact State.canSend_nodes.trans (congrArg Can.nodes State.recordIf_can)
  · exact congrArg Can.nodes State.recordIf_can

/-- The one entry that watches a node takes its heartbeat. -/
theorem execCanHeartbeat_takes {node : Nat} {nmt : Byte} (fit : p < 2) (listens : s.canListens p = true) (lt : k < 32)
    (watches : s.hbNode k = some (node, p)) (alone : ∀ j, j < 32 → j ≠ k → s.hbNode j ≠ some (node, p)) :
    execCanHeartbeat p node nmt s = .next (s.heartbeatTake p node nmt k) := by
  have entry : (List.range 32).filter (fun j => s.hbNode j = some (node, p)) = [k] := by
    refine List.perm_singleton.1 ((List.perm_ext_iff_of_nodup (List.nodup_range.filter _) (List.pairwise_singleton _ k)).2 fun j => ?_)
    rw [List.mem_filter, List.mem_range, List.mem_singleton, decide_eq_true_iff]
    refine ⟨fun ⟨below, same⟩ => ?_, fun same => same ▸ ⟨lt, watches⟩⟩
    exact Decidable.byContradiction fun other => alone j below other same
  exact (onUnit_fitted (decide_eq_true fit)).trans (congrArg _ ((if_pos listens).trans (by rw [entry]; rfl)))

theorem execCanNodeLost_late {node : Nat} (fit : n < 32) (watches : s.hbNode n = some (node, p)) (up : s.hallAUp = true)
    (used : s.parN Par.canEn 0 p = 1) (known : (s.canNode n).st ≠ 2) (late : (s.canNode n).lastTick + s.parN Par.canHbTime 0 n ≤ s.tick) :
    execCanNodeLost n s = .next ((s.modNode n ({ · with st := 2 })).record Evt.canNodeLost p [word32 n]) := by
  refine (onUnit_fitted (decide_eq_true fit)).trans (congrArg _ ?_)
  rw [watches]
  exact if_pos (by simp [up, used, known, late])

theorem execCanEmcy_counts {node : Nat} {data : Bytes} (fit : p < 2) (listens : s.canListens p = true) :
    execCanEmcy p node data s = .next ((s.modCan p (fun x => { x with emcy := x.emcy + 1 })).record Evt.canEmcy p
      [word32 (0x080 + node), word32 (fieldAt data 0 4), word32 (fieldAt data 4 4)]) :=
  (onUnit_fitted (decide_eq_true fit)).trans (congrArg _ (if_pos listens))

/-- The state in which a port has the error counts that it now has: error passive from 128 on, else active. -/
def State.canErrors (s : State) (p txErr rxErr : Nat) : State :=
  s.modCan p (fun x => { x with
    st := if decide (128 ≤ txErr) || decide (128 ≤ rxErr) then .passive else .active, txErr := min txErr 255, rxErr := min rxErr 255 })

theorem State.canErrors_st {txErr rxErr : Nat} (lt : p < s.can.ports.length) :
    ((s.canErrors p txErr rxErr).canPort p).st = if 128 ≤ txErr ∨ 128 ≤ rxErr then .passive else .active := by
  rw [State.canErrors, State.canPort_modCan lt]
  simp

theorem execCanErrorPassive_judges {txErr rxErr : Nat} (fit : p < 2) (listens : s.canListens p = true) :
    execCanErrorPassive p txErr rxErr s = .next ((s.canErrors p txErr rxErr).recordIf
      ((decide (128 ≤ txErr) || decide (128 ≤ rxErr)) && !((s.canPort p).st == .passive)) Evt.canErrorPassive p []) :=
  (onUnit_fitted (decide_eq_true fit)).trans (congrArg _ (if_pos listens))

theorem execCanBusOff_leaves (fit : p < 2) (listens : s.canListens p = true) :
    execCanBusOff p s = .next ((s.modCan p (fun x => { x with st := .busOff, txErr := 255, busOffs := x.busOffs + 1 })).record
      Evt.canBusOff p []) :=
  (onUnit_fitted (decide_eq_true fit)).trans (congrArg _ (if_pos listens))

theorem State.canListens_of_busOff (off : (s.canPort p).st = .busOff) : s.canListens p = false := by
  simp [State.canListens, off]

theorem execCanBusRecovered_returns (fit : p < 2) (up : s.hallAUp = true) (off : (s.canPort p).st = .busOff) :
    execCanBusRecovered p s = .next ((s.modCan p (fun x => { x with st := .active, txErr := 0, rxErr := 0 })).record
      Evt.canBusRecovered p []) :=
  (onUnit_fitted (decide_eq_true fit)).trans (congrArg _ (if_pos (by simp [up, off])))

end

/-- Settles O41: each event changes the port or the entry that it concerns, and what is recorded or sent then leaves that change alone. -/
theorem remoteIoPortsReceiveAndRecover : Obligations.RemoteIoPortsReceiveAndRecover := by
  unfold Obligations.RemoteIoPortsReceiveAndRecover
  refine ⟨?receive, ?heartbeat, ?lost, ?emcy, ?passive, ?off, ?recovered⟩
  case receive =>
    intro s p id n data x fit listens entry found length
    refine ⟨_, execRpdoReceive_takes fit listens entry, ?_⟩
    rw [State.rpdoTake_fits length]
    simp [found]
  case heartbeat =>
    intro s p node k nmt fit listens lt stored watches alone
    have heard := State.heartbeatTake_node (p := p) (node := node) (nmt := nmt) stored
    exact ⟨_, execCanHeartbeat_takes fit listens lt watches alone, congrArg CanNode.st heard, congrArg CanNode.nmt heard,
      congrArg CanNode.lastTick heard⟩
  case lost =>
    intro s n node p fit stored watches up used known late
    obtain ⟨entry, told⟩ := State.modNode_recorded stored
    exact ⟨_, execCanNodeLost_late fit watches up used known late, congrArg CanNode.st entry, told⟩
  case emcy =>
    intro s p node data fit stored listens
    obtain ⟨port, told⟩ := State.modCan_recorded stored
    exact ⟨_, execCanEmcy_counts fit listens, congrArg CanPort.emcy port, told⟩
  case passive =>
    intro s p txErr rxErr fit stored listens
    refine ⟨_, execCanErrorPassive_judges fit listens, ?_⟩
    rw [State.canPort_of_can State.recordIf_can, State.canErrors_st stored]
  case off =>
    intro s p fit stored listens
    obtain ⟨port, told⟩ := State.modCan_recorded stored
    exact ⟨_, execCanBusOff_leaves fit listens, congrArg CanPort.st port, congrArg CanPort.busOffs port,
      State.canListens_of_busOff (congrArg CanPort.st port), told⟩
  case recovered =>
    intro s p fit stored up off
    obtain ⟨port, told⟩ := State.modCan_recorded stored
    exact ⟨_, execCanBusRecovered_returns fit up off, congrArg CanPort.st port, congrArg CanPort.txErr port,
      congrArg CanPort.rxErr port, told⟩

/-! ### What executing the blocks leaves alone (10 R328, R341)

Blocks write variables, keep their own state and note actions; none of them ends the cycle that executes. -/

section

variable {s t : State} {c : Container} {b : Block}

@[simp] theorem State.ite_executing {q : Prop} [Decidable q] :
    (if q then s else t).prog.executing = if q then s.prog.executing else t.prog.executing :=
  apply_ite (fun u : State => u.prog.executing) q s t

@[simp] theorem State.writeVar_executing {v : Var} {w : Word} : (s.writeVar v w).prog.executing = s.prog.executing := by
  unfold State.writeVar
  cases v.area <;> rfl

@[simp] theorem State.put_executing {k : Nat} {w : Word} : (s.put c b k w).prog.executing = s.prog.executing := by
  unfold State.put
  cases c.var? (b.outs.getD k 0) <;> simp

@[simp] theorem State.putB_executing {k : Nat} {q : Bool} : (s.putB c b k q).prog.executing = s.prog.executing := State.put_executing

@[simp] theorem State.putN_executing {k n : Nat} : (s.putN c b k n).prog.executing = s.prog.executing := State.put_executing

@[simp] theorem State.modInst_executing {id : BitVec 16} {f : BlockSt → BlockSt} :
    (s.modInst id f).prog.executing = s.prog.executing := rfl

@[simp] theorem State.act_executing {a : Action} : (s.act a).prog.executing = s.prog.executing := rfl

@[simp] theorem State.draw_executing : s.draw.prog.executing = s.prog.executing := rfl

@[simp] theorem State.recordLimited_prog {e : EvCode} {n : Nat} {args : List Word} {period : Nat} :
    (s.recordLimited e n args period).prog = s.prog := (State.recordLimited_reach (.refl _) (.refl _ s)).prog rfl

@[simp] theorem State.arithError_executing : (s.arithError b).prog.executing = s.prog.executing := by simp [State.arithError]

@[simp] theorem State.issue_executing {a kind : Nat} {cmd : Option AxCmd} {target : Int} {vel : Rat} :
    (s.issue b a cmd kind target vel).prog.executing = s.prog.executing := by
  cases cmd <;> rfl

/-! #### The composite blocks (06 R192, R223) -/

@[simp] theorem State.takeCmd_executing {cmd : Int} {a : Nat → Action} : (s.takeCmd b cmd a).prog.executing = s.prog.executing := by
  simp [State.takeCmd]

theorem State.runDoor_executing {f : Nat} {v : List Word} : (s.runDoor c b f v).prog.executing = s.prog.executing := by
  simp [State.runDoor]

theorem State.runStep_executing {f : Nat} {v : List Word} : (s.runStep c b f v).prog.executing = s.prog.executing := by
  simp [State.runStep]

theorem State.runLock_executing {f : Nat} {v : List Word} : (s.runLock c b f v).prog.executing = s.prog.executing := by
  simp [State.runLock]

theorem State.runReference_executing {f : Nat} {v : List Word} : (s.runReference c b f v).prog.executing = s.prog.executing := by
  simp [State.runReference]

/-! #### The blocks that act outside the program (10 R347 to R349) -/

@[simp] theorem State.putMotion_executing : (s.putMotion c b).prog.executing = s.prog.executing := by simp [State.putMotion]

@[simp] theorem State.putHeld_executing : (s.putHeld c b).prog.executing = s.prog.executing := by simp [State.putHeld]

theorem State.runMove_executing {a : Nat} {v : List Word} : (s.runMove c b a v).prog.executing = s.prog.executing := by
  simp [State.runMove]

theorem State.runStop_executing {a : Nat} {v : List Word} : (s.runStop c b a v).prog.executing = s.prog.executing := by
  simp [State.runStop]

theorem State.runGear_executing {a : Nat} {v : List Word} : (s.runGear c b a v).prog.executing = s.prog.executing := by
  simp [State.runGear]

theorem State.runSol_executing {a : Nat} {v : List Word} : (s.runSol c b a v).prog.executing = s.prog.executing := by
  simp [State.runSol]

theorem State.runParRd_executing : (s.runParRd c b).prog.executing = s.prog.executing := by simp [State.runParRd]

theorem State.runParWr_executing {v : List Word} : (s.runParWr c b v).prog.executing = s.prog.executing := by
  simp [State.runParWr]

theorem State.runEvent_executing {v : List Word} : (s.runEvent c b v).prog.executing = s.prog.executing := by
  simp [State.runEvent]

/-! #### Every block -/

theorem State.runStateful_executing {v : List Word} : (s.runStateful c b v).prog.executing = s.prog.executing := by
  unfold State.runStateful
  dsimp only
  split <;> simp

theorem State.runBlock_executing : (s.runBlock c b).prog.executing = s.prog.executing := by
  unfold State.runBlock
  dsimp only
  split
  · simp
  · split
    · exact State.runDoor_executing
    · exact State.runStep_executing
    · exact State.runLock_executing
    · exact State.runReference_executing
    · exact State.runMove_executing
    · exact State.runStop_executing
    · exact State.runGear_executing
    · exact State.runSol_executing
    · exact State.runParRd_executing
    · exact State.runParWr_executing
    · exact State.runEvent_executing
    · exact State.runStateful_executing

theorem State.runBlocks_executing : (s.runBlocks c).prog.executing = s.prog.executing := by
  unfold State.runBlocks
  induction c.blocks generalizing s with
  | nil => rfl
  | cons b l ih => exact ih.trans State.runBlock_executing

end

/-! ### Cycle starts (10 R327, R331, R332) -/

section

variable {s t : State} {c : Container} {began : Nat}

theorem State.tick_of_clock (h : t.clock = s.clock) : t.tick = s.tick := congrArg Clock.tick h

theorem State.parN_of_params {r : ParRow} {i j : Nat} (h : t.params = s.params) : t.parN r i j = s.parN r i j := by
  unfold State.parN State.par
  rw [h]

/-- A cycle that is run executes from the tick on which it starts. -/
theorem State.runCycle_executing : (s.runCycle c).prog.executing = some s.tick := by
  have frozen : Reach 107107057664 s ((s.sendCyclic.freeze c).applyForces c) :=
    State.applyForces_reach (.of_or rfl) (State.freeze_reach (.of_or rfl) (State.sendCyclic_reach (.of_or rfl) (.refl _ s)))
  exact State.runBlocks_executing.trans (congrArg some (State.tick_of_clock (frozen.clock rfl)))

/-- A start at which no cycle executes begins one, of the container that runs or of the one that it switches to. -/
theorem State.normalStart_executing : (s.normalStart c).prog.executing = some s.tick := by
  have judged : Reach 137211688940 s ((s.outputWrite c).takeLatches.judgeSwitch) :=
    State.judgeSwitch_reach (.of_or rfl) (State.takeLatches_reach (.of_or rfl) (State.outputWrite_reach (.of_or rfl) (.refl _ s)))
  unfold State.normalStart
  dsimp only
  split
  · exact State.runCycle_executing.trans
      (congrArg some (State.tick_of_clock ((State.switchTo_reach (.of_or rfl) judged).clock rfl)))
  · exact State.runCycle_executing.trans (congrArg some (State.tick_of_clock (judged.clock rfl)))

/-- The state in which a start has been counted: the latches taken before are judged, and the frames still unsent are late. -/
def State.countStart (s : State) : State :=
  let late := s.finishAll.canLate
  { late with
    prog := { late.prog with lastStart := some late.tick, spaced := false, starts := late.prog.starts + 1 }
    ring := { late.ring with masters := late.ring.masters.map (fun m => { m with missed := m.missed + 1 }) } }

theorem State.countStart_late : Reach 41883275264 s s.finishAll.canLate :=
  State.canLate_reach (.of_or rfl) (State.finishAll_reach (.of_or rfl) (.refl _ s))

/-- Counting a start leaves all else of the program alone. -/
theorem State.countStart_prog : s.countStart.prog =
    { s.prog with lastStart := some s.tick, spaced := false, starts := s.prog.starts + 1 } := by
  have prog : s.finishAll.canLate.prog = s.prog := State.countStart_late.prog rfl
  have tick : s.finishAll.canLate.tick = s.tick := State.tick_of_clock (State.countStart_late.clock rfl)
  unfold State.countStart
  dsimp only
  rw [prog, tick]

theorem State.countStart_tick : s.countStart.tick = s.tick := State.tick_of_clock (State.countStart_late.clock rfl)

theorem State.countStart_params : s.countStart.params = s.params := State.countStart_late.params rfl

/-- What a start that has been counted leads to. -/
def State.judgeStart (s : State) (c : Container) : State :=
  match s.prog.startDue with
  | some cause => if s.mode == .update then s.takeLatches.judgeSwitch else (s.takeLatches.coldStart c cause).runCycle c
  | none =>
    if !s.prog.run then s.takeLatches.judgeSwitch
    else match s.prog.executing with
      | some began => s.skippedStart began
      | none => s.normalStart c

theorem State.cycleStart_eq : s.cycleStart c = s.countStart.judgeStart c := rfl

theorem execProgramCycleStart_falls (loaded : s.prog.running = some c) (falls : s.startFalls = true) :
    execProgramCycleStart s = .next (s.countStart.judgeStart c) := by
  unfold execProgramCycleStart
  rw [loaded, ← State.cycleStart_eq]
  exact congrArg _ (if_pos falls)

theorem State.judgeStart_begins (cold : s.prog.startDue = none) (runs : s.prog.run = true) (idle : s.prog.executing = none) :
    s.judgeStart c = s.normalStart c := by
  simp [State.judgeStart, cold, runs, idle]

theorem State.judgeStart_skips (cold : s.prog.startDue = none) (runs : s.prog.run = true) (busy : s.prog.executing = some began) :
    s.judgeStart c = s.skippedStart began := by
  simp [State.judgeStart, cold, runs, busy]

/-- The program after a skipped start, of which the first in a row is an overrun (10 R331). -/
def Prog.skippedOnce (x : Prog) : Prog :=
  { x with
    skips := x.skips + 1, skipped := x.skipped + 1, overran := true
    overrunAt := if x.skips = 0 then (x.starts :: x.overrunAt).take 1000 else x.overrunAt
    overruns := if x.skips = 0 then x.overruns + 1 else x.overruns }

/-- The state in which a skipped start is counted, and recorded where it is an overrun. -/
def State.countSkip (s : State) (began : Nat) : State :=
  ({ s with prog := s.prog.skippedOnce } : State).recordIf (s.prog.skips = 0) Evt.programOverrun noSource
    [word32 ((s.tick - began) * 1000)]

theorem State.countSkip_reach : Reach 36507222016 ({ s with prog := s.prog.skippedOnce } : State) (s.countSkip began) :=
  State.recordIf_reach (.refl _) (.refl _ _)

/-- The latches are taken at a skipped start too. -/
theorem State.countSkip_latched_prog : (s.countSkip began).takeLatches.prog = s.prog.skippedOnce :=
  (State.takeLatches_reach (T := 36509319168) (.of_or rfl) (State.countSkip_reach.mono (.of_or rfl))).prog rfl

theorem State.countSkip_parN {r : ParRow} {i j : Nat} : (s.countSkip began).parN r i j = s.parN r i j :=
  State.parN_of_params (State.countSkip_reach.params rfl)

/-- One or two skips in a row, and no escalation configured: the program goes on, and what is sent leaves it alone (10 R331, R332). -/
theorem State.skippedStart_counts (few : s.prog.skips < 2) (never : s.parN Par.programOverrunEsc 0 0 = 0) :
    (s.skippedStart began).prog = s.prog.skippedOnce := by
  have esc : (s.countSkip began).parN Par.programOverrunEsc 0 0 = 0 := State.countSkip_parN.trans never
  have goesOn : s.skippedStart began = (s.countSkip began).takeLatches.sendCyclic := by
    refine (if_neg (c := 3 ≤ (s.countSkip began).takeLatches.prog.skips) ?_).trans (if_neg ?_)
    · rw [State.countSkip_latched_prog]
      show ¬ 3 ≤ s.prog.skips + 1
      omega
    · show ¬ (decide (s.prog.skips = 0) && decide ((s.countSkip began).parN Par.programOverrunEsc 0 0 ≠ 0) && _) = true
      simp [esc]
  rw [goesOn]
  exact ((State.sendCyclic_reach (.refl _) (.refl _ _)).prog rfl).trans State.countSkip_latched_prog

/-- The third skip in a row stops the program, as one that hangs (10 R331). -/
theorem State.skippedStart_stops (loaded : s.prog.running = some c) (many : 2 ≤ s.prog.skips) :
    (s.skippedStart began).prog.run = false ∧ (s.skippedStart began).prog.stopCause = 1 := by
  have hangs : s.skippedStart began = ((s.countSkip began).takeLatches.record Evt.programHung noSource
      [word32 ((s.tick - began) * 1000)]).stopProgram 1 := by
    refine if_pos (c := 3 ≤ (s.countSkip began).takeLatches.prog.skips) ?_
    rw [State.countSkip_latched_prog]
    show 3 ≤ s.prog.skips + 1
    omega
  have runs : ((s.countSkip began).takeLatches.record Evt.programHung noSource
      [word32 ((s.tick - began) * 1000)]).prog.running = some c := by
    rw [State.record_prog, State.countSkip_latched_prog]
    exact loaded
  obtain ⟨stopped, cause, -⟩ := State.stopProgram_stops (cause := 1) (Option.isSome_of_eq_some runs)
  rw [hangs]
  exact ⟨stopped, cause⟩

end

/-- Settles O44: a start is counted and then judged; a cycle that begins executes from this tick, whatever its blocks do, and a skipped start
counts, or as the third in a row stops the program. -/
theorem programCyclesStartSkipAndStop : Obligations.ProgramCyclesStartSkipAndStop := by
  unfold Obligations.ProgramCyclesStartSkipAndStop
  refine ⟨?begins, ?skips⟩
  case begins =>
    intro s c loaded falls cold runs idle
    have counted := State.countStart_prog (s := s)
    refine ⟨_, execProgramCycleStart_falls loaded falls, ?_⟩
    rw [State.judgeStart_begins ((congrArg Prog.startDue counted).trans cold) ((congrArg Prog.run counted).trans runs)
      ((congrArg Prog.executing counted).trans idle), State.normalStart_executing, State.countStart_tick]
  case skips =>
    intro s c began loaded falls cold runs busy _
    have counted := State.countStart_prog (s := s)
    have skipped : exec .programCycleStart s = .next (s.countStart.skippedStart began) :=
      (execProgramCycleStart_falls loaded falls).trans (congrArg _ (State.judgeStart_skips
        ((congrArg Prog.startDue counted).trans cold) ((congrArg Prog.run counted).trans runs)
        ((congrArg Prog.executing counted).trans busy)))
    refine ⟨fun few never => ⟨_, skipped, ?_⟩, fun many => ⟨_, skipped, ?_⟩⟩
    · rw [State.skippedStart_counts (Nat.lt_of_le_of_lt (Nat.le_of_eq (congrArg Prog.skips counted)) few)
        ((State.parN_of_params State.countStart_params).trans never), counted]
      exact ⟨rfl, rfl, busy⟩
    · exact State.skippedStart_stops ((congrArg Prog.running counted).trans loaded)
        (Nat.le_trans many (Nat.le_of_eq (congrArg Prog.skips counted).symm))

/-! ### Cycles that complete, containers that are verified, switches that are too late (10 R328, R331, R367, R368, R371) -/

section

variable {s : State}

theorem State.answer_prog {p : Pend} {status item : Nat} {payload : Bytes} : (s.answer p status item payload).prog = s.prog :=
  (State.answer_reach (.refl _) (.refl _ s)).prog rfl

/-- The program after a cycle whose execution took a time. -/
def Prog.completed (x : Prog) (t : Word) : Prog :=
  { x with
    executing := none, execLast := t, execMax := if x.execMax.toNat < t.toNat then t else x.execMax, overran := decide (x.skips ≠ 0)
    arithLast := x.arithInCycle }

theorem execProgramCycleComplete_ends {us began : Nat} (executes : s.prog.executing = some began) (fits : us < 4294967296) :
    execProgramCycleComplete us s = .next { s with prog := s.prog.completed (word32 us) } := by
  unfold execProgramCycleComplete
  rw [executes, show satN 32 us = us from if_pos fits]
  rfl

/-- The longest time is the greater of what it was and the time of this cycle. -/
theorem Prog.completed_execMax (x : Prog) (t : Word) : (x.completed t).execMax.toNat = max x.execMax.toNat t.toNat := by
  unfold Prog.completed
  dsimp only
  split <;> omega

/-- The program after the verification of its pending container: READY, or REJECTED with what was found (10 R355, R367, R371). -/
def Prog.verified (x : Prog) : Container ⊕ (Nat × Nat) → Prog
  | .inl c => { x with pending := some c, pendState := .ready, lastSwitch := 0 }
  | .inr (st, item) => { x with
      pending := none, pendState := .rejected, pendFinding := (st, item), lastSwitch := word32 (st + 65536 * (item % 65536)) }

/-- A verification ends in the program that it leads to; the end of its transfer and the reply leave that alone. -/
theorem execProgramVerified_verifies (verifies : s.prog.pendState = .verifying) :
    ∃ t, execProgramVerified s = .next t ∧ t.prog = s.prog.verified (s.verifyContainer s.prog.pendBytes) := by
  unfold execProgramVerified
  rw [if_neg (by simp [verifies])]
  rcases s.verifyContainer s.prog.pendBytes with c | ⟨st, item⟩
  all_goals
    dsimp only
    split
    · exact ⟨_, rfl, State.answer_prog⟩
    · exact ⟨_, rfl, rfl⟩

/-- The program after a switch that is refused: it runs on (10 R371). -/
def Prog.switchRefused (x : Prog) (status item : Nat) : Prog :=
  { x with switchAt := none, lastSwitch := word32 (status + 65536 * (item % 65536)) }

/-- A refused switch is recorded, and then answered. -/
theorem State.refuseSwitch_refuses {status item : Nat} : (s.refuseSwitch status item).prog = s.prog.switchRefused status item ∧
    s.Announces Evt.programSwitchRefused noSource [word32 status, word32 item] (s.refuseSwitch status item) := by
  have answered := State.answerExclusive_reach (status := status) (item := item) (payload := []) (.refl _)
    (.refl _ (({ s with prog := s.prog.switchRefused status item } : State).record Evt.programSwitchRefused noSource
      [word32 status, word32 item]))
  exact ⟨(answered.prog rfl).trans State.record_prog, State.announces_record answered rfl rfl⟩

theorem execSwitchAbandoned_late {at' : Nat} (waits : s.prog.switchAt = some at') (late : at' + 1000 ≤ s.tick) :
    execSwitchAbandoned s = .next (s.refuseSwitch stBusy 0) := by
  unfold execSwitchAbandoned
  rw [waits]
  exact congrArg _ (if_neg (Nat.not_lt.2 late))

end

/-- Settles O45: each event changes the program at once, and what is recorded or answered then leaves it alone. -/
theorem programsCompleteVerifyAndAbandon : Obligations.ProgramsCompleteVerifyAndAbandon := by
  unfold Obligations.ProgramsCompleteVerifyAndAbandon
  refine ⟨?complete, ?verified, ?abandoned⟩
  case complete =>
    intro s us began executes fits
    have time : (word32 us).toNat = us := Nat.mod_eq_of_lt fits
    exact ⟨_, execProgramCycleComplete_ends executes fits, rfl, rfl, (Prog.completed_execMax ..).trans (by rw [time])⟩
  case verified =>
    intro s verifies
    obtain ⟨t, answers, prog⟩ := execProgramVerified_verifies verifies
    refine ⟨t, answers, ?_⟩
    rw [prog]
    rcases s.verifyContainer s.prog.pendBytes with c | ⟨st, item⟩
    · exact ⟨rfl, rfl, rfl⟩
    · exact ⟨rfl, rfl, rfl⟩
  case abandoned =>
    intro s at' waits late
    obtain ⟨prog, told⟩ := State.refuseSwitch_refuses (s := s) (status := stBusy) (item := 0)
    exact ⟨_, execSwitchAbandoned_late waits late, congrArg Prog.switchAt prog, congrArg Prog.lastSwitch prog,
      (congrArg Prog.running prog :), told⟩

/-! ### Forces (10 R363 to R365, 12 R422) -/

section

variable {s t : State} {k : Pkt} {x : Session} {c : Container} {v : Var} {id : BitVec 16} {w : Word} {n session : Nat}

/-- What FORCE_SET asks of a packet of 8 bytes while forces are open (12 R422). -/
def forceSetSpec : OpSpec := { code := 0x0034, perm := .service, lenOk := true }

/-- What FORCE_CLEAR asks of a packet of 4 bytes while forces are open (12 R422). -/
def forceClearSpec : OpSpec := { code := 0x0035, perm := .service, lenOk := true }

/-- The state in which a variable has a force, and no other one. -/
def State.withForce (s : State) (f : Force) : State :=
  { s with prog := { s.prog with forces := s.prog.forces.filter (fun g => g.var ≠ f.var) ++ [f] } }

/-- The state in which a variable has no force. -/
def State.withoutForce (s : State) (id : BitVec 16) : State :=
  { s with prog := { s.prog with forces := s.prog.forces.filter (fun g => g.var ≠ id) } }

/-- A variable that may be forced, and has no force yet, gets one in the lowest free slot. -/
theorem State.forceSet_free (loaded : s.prog.running = some c) (found : c.var? id = some v) (image : v.area ≠ .mem)
    (range : v.ty = .bool → w.toNat ≤ 1) (unforced : s.prog.forces.find? (fun f => f.var = id) = none) (free : s.freeSlot = some n) :
    s.forceSet session id w = ((stOK, 0, n), (s.withForce ⟨n, id, v.ty, v.area, w, session⟩).record Evt.forceSet noSource
      [word32 id.toNat, w, word32 session]) := by
  have legal : ¬ (v.ty == .bool && decide (1 < w.toNat)) = true := by simpa using range
  unfold State.forceSet State.withForce
  simp only [loaded, found, unforced, free]
  rw [if_neg (by simpa using image), if_neg legal]

theorem State.forceClear_found {f : Force} (forced : s.prog.forces.find? (fun f => f.var = id) = some f) :
    s.forceClear session id = (stOK, (s.withoutForce id).record Evt.forceCleared noSource [word32 id.toNat, f.value, word32 session]) := by
  unfold State.forceClear
  simp only [forced]
  rfl

theorem State.withForce_host {f : Force} : (s.withForce f).host = s.host := rfl

theorem State.withoutForce_host : (s.withoutForce id).host = s.host := rfl

theorem execForceSet_served (passes : s.Passes forceSetSpec k x) (length : k.payload.length = 8) (opened : s.forceOpen = true)
    (set : (s.afterChecks forceSetSpec k).forceSet k.hdr.session.toNat (BitVec.ofNat 16 (fieldAt k.payload 0 2))
      (word32 (fieldAt k.payload 4 4)) = ((stOK, 0, n), t)) :
    execForceSet k s = .next (t.answer (pendOf 0x0034 k.hdr) 0 0 [BitVec.ofNat 8 n, 0, 0, 0]) := by
  have vetted : s.vet { code := 0x0034, perm := .service, lenOk := true, stateOk := true } k =
      .served (s.afterChecks forceSetSpec k) (pendOf 0x0034 k.hdr) x.role (some x) := State.vet_passes passes
  unfold execForceSet
  simp only [length, opened, decide_true, vetted]
  rw [show (pendOf 0x0034 k.hdr).session = k.hdr.session from rfl, set]
  rfl

theorem execForceClear_served (passes : s.Passes forceClearSpec k x) (length : k.payload.length = 4) (opened : s.forceOpen = true)
    (cleared : (s.afterChecks forceClearSpec k).forceClear k.hdr.session.toNat (BitVec.ofNat 16 (fieldAt k.payload 0 2)) = (stOK, t)) :
    execForceClear k s = .next (t.answer (pendOf 0x0035 k.hdr) 0 0 []) := by
  have vetted : s.vet { code := 0x0035, perm := .service, lenOk := true, stateOk := true } k =
      .served (s.afterChecks forceClearSpec k) (pendOf 0x0035 k.hdr) x.role (some x) := State.vet_passes passes
  unfold execForceClear
  simp only [length, opened, decide_true, vetted]
  rw [show (pendOf 0x0035 k.hdr).session = k.hdr.session from rfl, cleared]
  rfl

end

/-! ### Transfers (12 R422, R424) -/

section

variable {s t : State} {k : Pkt} {x : Session} {y : Xfer} {p : Pend}

/-- A reply ends no transfer, and begins none. -/
theorem State.answer_xfers {status item : Nat} {payload : Bytes} : (s.answer p status item payload).host.xfers = s.host.xfers := by
  unfold State.answer
  dsimp only
  split
  · rfl
  · split
    · rw [State.replyRaw_host]
    · split
      · rfl
      · split
        · rfl
        · rw [State.sendReply_host]
          rfl

/-- A request that passes the checks is answered by whatever leaves the sessions as they stand. -/
theorem State.Passes.answered {o : OpSpec} (h : s.Passes o k x) (sessions : t.host.sessions = (s.afterChecks o k).host.sessions)
    (status item : Nat) (payload : Bytes) :
    (t.answer (pendOf o.code k.hdr) status item payload).Replied (pendOf o.code k.hdr) status item payload :=
  State.answer_replied status item payload h.numbered rfl
    ((State.session?_of_host sessions _).trans (State.afterChecks_session h.session)) h.source h.transport

theorem State.stamp_afterChecks {o : OpSpec} : (s.afterChecks o k).stamp = s.stamp :=
  State.stamp_of_clock ((State.afterChecks_reach (.refl _) (.refl _ s)).clock rfl)

/-! #### PROG_BEGIN -/

/-- What PROG_BEGIN asks of a packet of 40 bytes while programs are taken (12 R422). -/
def progBeginSpec : OpSpec := { code := 0x0030, perm := .service, lenOk := true }

/-- The transfer that a BEGIN opens. -/
def State.newXfer (s : State) (session : BitVec 16) (kind : XKind) (payload : Bytes) : Xfer :=
  ⟨kind, s.host.nextXfer, session, fieldAt payload 4 4, (payload.drop 8).take 32, [], s.stamp, false⟩

/-- The state in which a transfer has begun, and the number of the next one is ready. -/
def State.openXfer (s : State) (y : Xfer) : State :=
  { s with host := { s.host with xfers := s.host.xfers ++ [y], nextXfer := if s.host.nextXfer = 65535 then 1 else s.host.nextXfer + 1 } }

theorem State.openXfer_sessions : (s.openXfer y).host.sessions = s.host.sessions := rfl

/-- A BEGIN of a length in its range opens a transfer where none of its kind is open. -/
theorem State.beginXfer_opens {kind : XKind} {lo hi : Nat} {payload : Bytes} (least : lo ≤ fieldAt payload 4 4)
    (most : fieldAt payload 4 4 ≤ hi) (free : ∀ y ∈ s.host.xfers, y.kind ≠ kind) :
    s.beginXfer p kind lo hi payload =
      (s.openXfer (s.newXfer p.session kind payload)).answer p stOK 0 (leBytes 2 s.host.nextXfer ++ leBytes 2 4096) := by
  unfold State.beginXfer
  dsimp only
  rw [if_neg (by simp [least, most]), if_neg (by simpa using free)]
  rfl

theorem execProgBegin_opens (passes : s.Passes progBeginSpec k x) (length : k.payload.length = 40) (opened : s.progOpen = true)
    (zero : fieldAt k.payload 0 1 = 0) (least : 1 ≤ fieldAt k.payload 4 4) (most : fieldAt k.payload 4 4 ≤ 1048576)
    (free : ∀ y ∈ s.host.xfers, y.kind ≠ .prog) :
    execProgBegin k s = .next (((s.afterChecks progBeginSpec k).openXfer
      ((s.afterChecks progBeginSpec k).newXfer k.hdr.session .prog k.payload)).answer (pendOf 0x0030 k.hdr) 0 0
        (leBytes 2 s.host.nextXfer ++ leBytes 2 4096)) := by
  have vetted : s.vet { code := 0x0030, perm := .service, lenOk := true, stateOk := true } k =
      .served (s.afterChecks progBeginSpec k) (pendOf 0x0030 k.hdr) x.role (some x) := State.vet_passes passes
  unfold execProgBegin
  simp only [length, opened, decide_true, vetted]
  rw [if_neg (by simp [zero])]
  exact congrArg _ (State.beginXfer_opens least most free)

/-! #### PROG_DATA -/

/-- What PROG_DATA asks of a packet of its length while programs are taken (12 R422). -/
def progDataSpec : OpSpec := { code := 0x0031, perm := .service, lenOk := true }

/-- The transfer after a piece of data. -/
def Xfer.grown (y : Xfer) (data : Bytes) (tick : Nat) : Xfer := { y with data := y.data ++ data, lastTick := tick }

/-- The piece that an open transfer expects is appended, if it fits, and the reply tells how much has arrived. -/
theorem State.dataXfer_grows {stage : Bool} {payload : Bytes} (found : s.xferOf stage (fieldAt payload 0 2) p.session = some y)
    (runs : y.ending = false) (next : fieldAt payload 4 4 = y.data.length)
    (fits : y.data.length + (payload.length - 8) ≤ y.length) :
    s.dataXfer p stage payload = (s.modXfer y.kind (·.grown (payload.drop 8) s.stamp)).answer p stOK 0
      (leBytes 4 (y.data.length + (payload.length - 8))) := by
  unfold State.dataXfer
  simp only [found, runs]
  rw [if_neg (by simp), if_neg (by simp [next, fits]), List.length_drop]
  rfl

/-- A transfer that is found is found still after a change of all of its kind that keeps what it is found by. -/
theorem State.xferOf_modXfer {stage : Bool} {id : Nat} {session : BitVec 16} {f : Xfer → Xfer}
    (keeps : ∀ z, (f z).kind = z.kind ∧ (f z).id = z.id ∧ (f z).session = z.session) (found : s.xferOf stage id session = some y) :
    (s.modXfer y.kind f).xferOf stage id session = some (f y) := by
  have same : ((fun z : Xfer => (z.kind != .prog) == stage && z.id = id && z.session = session) ∘
      fun z => if z.kind == y.kind then f z else z) = fun z => (z.kind != .prog) == stage && z.id = id && z.session = session := by
    funext z
    obtain ⟨kind, num, owner⟩ := keeps z
    dsimp only [Function.comp]
    split
    · rw [kind, num, owner]
    · rfl
  unfold State.xferOf at found ⊢
  show (s.host.xfers.map _).find? _ = _
  rw [List.find?_map, same, found]
  simp

theorem State.modXfer_sessions {kind : XKind} {f : Xfer → Xfer} : (s.modXfer kind f).host.sessions = s.host.sessions := rfl

theorem State.xferOf_of_xfers {stage : Bool} {id : Nat} {session : BitVec 16} (h : t.host.xfers = s.host.xfers) :
    t.xferOf stage id session = s.xferOf stage id session := by
  unfold State.xferOf
  rw [h]

theorem execProgData_grows (passes : s.Passes progDataSpec k x) (least : 9 ≤ k.payload.length) (most : k.payload.length ≤ 4104)
    (opened : s.progOpen = true) (found : s.xferOf false (fieldAt k.payload 0 2) k.hdr.session = some y) (runs : y.ending = false)
    (next : fieldAt k.payload 4 4 = y.data.length) (fits : y.data.length + (k.payload.length - 8) ≤ y.length) :
    execProgData k s = .next (((s.afterChecks progDataSpec k).modXfer y.kind (·.grown (k.payload.drop 8) s.stamp)).answer
      (pendOf 0x0031 k.hdr) 0 0 (leBytes 4 (y.data.length + (k.payload.length - 8)))) := by
  have lenOk : dataLenOk k.payload = true := by simp [dataLenOk, least, most]
  have vetted : s.vet { code := 0x0031, perm := .service, lenOk := true, stateOk := true } k =
      .served (s.afterChecks progDataSpec k) (pendOf 0x0031 k.hdr) x.role (some x) := State.vet_passes passes
  unfold execProgData
  simp only [lenOk, opened, vetted]
  rw [State.dataXfer_grows (s := s.afterChecks progDataSpec k) (p := pendOf 0x0031 k.hdr) found runs next fits, State.stamp_afterChecks]
  rfl

/-! #### PROG_END -/

/-- What PROG_END asks of a packet of 4 bytes while programs are taken (12 R422). -/
def progEndSpec : OpSpec := { code := 0x0032, perm := .service, lenOk := true, deferred := true }

/-- The program after a container has taken the pending slot: its verification runs (10 R367). -/
def Prog.verifies (x : Prog) (bytes : Bytes) : Prog := { x with pending := none, pendState := .verifying, pendBytes := bytes }

theorem execProgEnd_verifies (passes : s.Passes progEndSpec k x) (length : k.payload.length = 4) (opened : s.progOpen = true)
    (found : s.xferOf false (fieldAt k.payload 0 2) k.hdr.session = some y) (runs : y.ending = false)
    (up : s.hallB.inReset = false) (whole : y.whole = true) :
    ∃ t, execProgEnd k s = .next t ∧ t.prog = s.prog.verifies y.data := by
  have vetted : s.vet { code := opProgEnd, perm := .service, lenOk := true, stateOk := true, deferred := true } k =
      .served (s.afterChecks progEndSpec k) (pendOf 0x0032 k.hdr) x.role (some x) := State.vet_passes passes
  have found' : (s.afterChecks progEndSpec k).xferOf false (fieldAt k.payload 0 2) (pendOf 0x0032 k.hdr).session = some y := found
  have up' : (s.afterChecks progEndSpec k).hallB.inReset = false := up
  unfold execProgEnd
  simp only [length, opened, decide_true, vetted, found', runs]
  refine ⟨_, rfl, ?_⟩
  unfold State.endProg
  simp only [up', whole]
  rfl

/-! #### PROG_SWITCH -/

/-- What PROG_SWITCH asks of a packet of 8 bytes (12 R422). -/
def progSwitchSpec : OpSpec := { code := 0x0033, perm := .service, lenOk := true, deferred := true }

/-- The state in which a switch has been accepted: it waits for a cycle start, and excludes the other operations (10 R368). -/
def State.switchWaits (s : State) (p : Pend) (named : Nat × Nat) : State :=
  { s.beginExclusive p with prog := { s.prog with switchAt := some s.stamp, switchFor := named } }

theorem execProgSwitch_waits (passes : s.Passes progSwitchSpec k x) (length : k.payload.length = 8) (free : s.excluded = false)
    (meets : s.switchable (fieldAt k.payload 0 4) (fieldAt k.payload 4 4) = true) :
    execProgSwitch k s = .next ((s.afterChecks progSwitchSpec k).switchWaits (pendOf 0x0033 k.hdr)
      (fieldAt k.payload 0 4, fieldAt k.payload 4 4)) := by
  have vetted : s.vet { code := 0x0033, perm := .service, lenOk := true, deferred := true } k =
      .served (s.afterChecks progSwitchSpec k) (pendOf 0x0033 k.hdr) x.role (some x) := State.vet_passes passes
  have free' : (s.afterChecks progSwitchSpec k).excluded = false := free
  unfold execProgSwitch
  simp only [length, decide_true, vetted, free']
  exact (if_neg (by simp)).trans (if_pos meets)

/-! #### TRANSFER_ABANDON -/

/-- The number of a kind of transfer in TRANSFER_ABANDON (12 R424). -/
def XKind.number : XKind → Nat
  | .prog => 0
  | .config => 1
  | .key => 2
  | .firmware => 3

/-- A transfer of the kind, whose last piece came 10 s ago or more and whose END is not being served. -/
def State.stale (s : State) (kind : XKind) (y : Xfer) : Bool := y.kind == kind && !y.ending && decide (y.lastTick + 10000 ≤ s.tick)

theorem execTransferAbandon_drops {kind : XKind} : execTransferAbandon kind.number s =
    .next { s with host := { s.host with xfers := s.host.xfers.filter (fun y => !s.stale kind y) } } := by
  cases kind <;> rfl

end

/-- Settles O55: each packet that passes its checks has its effect on the state that they leave, and its reply leaves that effect alone. -/
theorem forcesAndProgramLoads : Obligations.ForcesAndProgramLoads := by
  unfold Obligations.ForcesAndProgramLoads
  refine ⟨?set, ?clear, ?begin, ?data, ?finish, ?switch, ?abandon⟩
  case set =>
    intro s k x c v id w n passes length opened loaded hid hw found image range unforced free
    subst hid hw
    have forced := State.forceSet_free (s := s.afterChecks forceSetSpec k) (session := k.hdr.session.toNat) loaded found image range
      unforced free
    refine ⟨_, execForceSet_served passes length opened forced,
      passes.replied (State.record_host.trans State.withForce_host) 0 0 _, ?_, ?_⟩
    · rw [State.answer_prog, State.record_prog]
      exact List.mem_append_right _ (List.mem_singleton_self _)
    · exact State.announces_record (State.answer_reach (.refl _) (.refl _ _)) rfl rfl
  case clear =>
    intro s k x f id passes length opened hid forced
    subst hid
    have cleared := State.forceClear_found (s := s.afterChecks forceClearSpec k) (session := k.hdr.session.toNat) forced
    refine ⟨_, execForceClear_served passes length opened cleared,
      passes.replied (State.record_host.trans State.withoutForce_host) 0 0 _, ?_, ?_⟩
    · rw [State.answer_prog, State.record_prog]
      exact fun g mem => of_decide_eq_true (List.mem_filter.1 mem).2
    · exact State.announces_record (State.answer_reach (.refl _) (.refl _ _)) rfl rfl
  case begin =>
    intro s k x passes length opened zero least most free
    refine ⟨_, execProgBegin_opens passes length opened zero least most free, passes.answered State.openXfer_sessions 0 0 _,
      State.answer_xfers.trans ?_⟩
    show s.host.xfers ++ [(s.afterChecks progBeginSpec k).newXfer k.hdr.session .prog k.payload] = _
    rw [State.newXfer, State.stamp_afterChecks]
    rfl
  case data =>
    intro s k x y passes least most opened found runs next fits
    refine ⟨_, execProgData_grows passes least most opened found runs next fits, passes.answered State.modXfer_sessions 0 0 _,
      (State.xferOf_of_xfers State.answer_xfers).trans ?_⟩
    exact State.xferOf_modXfer (s := s.afterChecks progDataSpec k) (fun _ => ⟨rfl, rfl, rfl⟩) found
  case finish =>
    intro s k x y passes length opened found runs up whole
    obtain ⟨t, answers, prog⟩ := execProgEnd_verifies passes length opened found runs up whole
    exact ⟨t, answers, congrArg Prog.pendState prog, congrArg Prog.pendBytes prog, congrArg Prog.pending prog⟩
  case switch =>
    intro s k x passes length free meets
    exact ⟨_, execProgSwitch_waits passes length free meets, congrArg some State.stamp_afterChecks, rfl, rfl⟩
  case abandon =>
    intro s y mem runs late
    refine ⟨_, execTransferAbandon_drops (kind := y.kind), ?_, ?_⟩
    · intro stays
      simpa [State.stale, runs, late] using (List.mem_filter.1 stays).2
    · intro z zmem other
      exact List.mem_filter.2 ⟨zmem, by simp [State.stale, other]⟩

end Sys2Proof.Machine
end

section
/-! PROOFS of the statements about every command (00_scope.md): a step (O1), reset (O2), the security state (O4), what was sent (O5), and the
frames of the commands (O7 to O10). -/

namespace Sys2Proof.Machine

/-! ### Steps and reset -/

/-- Settles O1: the two rows of `step`. -/
theorem stepRunsTheFrontCommand : Obligations.StepRunsTheFrontCommand := by
  unfold Obligations.StepRunsTheFrontCommand
  constructor
  · intro c rest s waiting
    simp only [step, waiting]
  · intro s empty
    simp only [step, empty]

theorem State.reset_sound : State.reset.Sound where
  params := rfl
  prog := ⟨rfl, rfl, rfl⟩
  gallery := ⟨by decide, by decide, rfl, rfl⟩
  flightBudgets := ⟨rfl, fun _ mem => List.eq_of_mem_replicate mem ▸ Budget.reset_legal⟩
  storeyBudgets := ⟨rfl, fun _ mem => List.eq_of_mem_replicate mem ▸ Budget.reset_legal⟩
  dieBudgets := ⟨rfl, fun _ mem => List.eq_of_mem_replicate mem ▸ Budget.reset_legal⟩
  currentBudget := Budget.reset_legal
  thermalBudget := Budget.reset_legal
  limp := rfl
  storeys := rfl
  dies := rfl
  flightPower := rfl
  treads := List.length_replicate
  senses := List.length_replicate
  cleaners := rfl
  ports := rfl
  echos := rfl
  axes := rfl
  doors := rfl
  obst := rfl
  conns := rfl
  safety := rfl

/-- Settles O2: every list of units is a fixed number of copies of its unit after reset. -/
theorem resetIsSound : Obligations.ResetIsSound := by
  unfold Obligations.ResetIsSound
  exact ⟨State.reset_sound, rfl⟩

/-! ### What no command undoes -/

/-- Settles O4: no command loosens the security state (`exec_reach`), and an idle step changes nothing. -/
theorem securityNeverLoosens : Obligations.SecurityNeverLoosens := by
  unfold Obligations.SecurityNeverLoosens
  intro s t answer
  unfold step at answer
  split at answer
  · cases answer
    exact .refl _
  · next c rest _ => exact (exec_reach c { s with pending := rest } t answer).ratchet

/-- Settles O5: no command takes back anything sent (`exec_reach`). -/
theorem nothingSentIsWithdrawn : Obligations.NothingSentIsWithdrawn := by
  unfold Obligations.NothingSentIsWithdrawn
  exact fun c s t answer => (exec_reach c s t answer).grow

/-! ### The parts of a frame as a mask -/

/-- The mask of a list of parts: the parts stand in the order of the fields of State, so that each has its field's bit. -/
def Part.mask : List Part → Nat
  | [] => 0
  | p :: ps => 1 <<< p.ctorIdx ||| Part.mask ps

theorem Part.ctorIdx_inj {p q : Part} (h : p.ctorIdx = q.ctorIdx) : p = q := by
  have place : ∀ p : Part, Part.all[p.ctorIdx]? = some p := by
    intro p
    cases p <;> rfl
  exact Option.some.inj ((place p).symm.trans (h ▸ place q))

theorem Part.testBit_mask {p : Part} {ps : List Part} : (Part.mask ps).testBit p.ctorIdx = decide (p ∈ ps) := by
  induction ps with
  | nil => simp [Part.mask]
  | cons q ps ih =>
    have bit : (1 <<< q.ctorIdx).testBit p.ctorIdx = decide (p = q) := by
      rw [Nat.one_shiftLeft, Nat.testBit_two_pow]
      exact decide_eq_decide.2 ⟨fun e => Part.ctorIdx_inj e.symm, fun e => e ▸ rfl⟩
    simp [Part.mask, bit, ih]

/-- A field whose bit is not in the mask is the same. -/
theorem Reach.same {T : Nat} {s t : State} (h : Reach T s t) (p : Part) (clear : T.testBit p.ctorIdx = false) : s.same t p := by
  cases p
  case pending => exact h.pending clear
  case clock => exact h.clock clear
  case params => exact h.params clear
  case supply => exact h.supply clear
  case limp => exact h.limp clear
  case flightBudgets => exact h.flightBudgets clear
  case storeyBudgets => exact h.storeyBudgets clear
  case dieBudgets => exact h.dieBudgets clear
  case currentBudget => exact h.currentBudget clear
  case thermalBudget => exact h.thermalBudget clear
  case storeys => exact h.storeys clear
  case dies => exact h.dies clear
  case flightPower => exact h.flightPower clear
  case treads => exact h.treads clear
  case baseplate => exact h.baseplate clear
  case dissip => exact h.dissip clear
  case senses => exact h.senses clear
  case cleaners => exact h.cleaners clear
  case ports => exact h.ports clear
  case echos => exact h.echos clear
  case axes => exact h.axes clear
  case doors => exact h.doors clear
  case obst => exact h.obst clear
  case hallA => exact h.hallA clear
  case hallB => exact h.hallB clear
  case safety => exact h.safety clear
  case conns => exact h.conns clear
  case firstStandby => exact h.firstStandby clear
  case train => exact h.train clear
  case prog => exact h.prog clear
  case can => exact h.can clear
  case gallery => exact h.gallery clear
  case host => exact h.host clear
  case ring => exact h.ring clear
  case sec => exact h.sec clear
  case outs => exact h.outs clear
  case draws => exact h.draws clear

theorem Reach.onlyChanges {ps : List Part} {s t : State} (h : Reach (Part.mask ps) s t) : s.OnlyChanges ps t :=
  fun p out => h.same p (Part.testBit_mask.trans (decide_eq_false out))

/-! ### The frames of the commands, by what each command's own law says of it -/

section

variable {c : Instr} {ps : List Part}

theorem supplyParts_within (h : supplyParts c = some ps) (s : State) : Within (Part.mask ps) s (exec c s) := by
  cases c <;> cases h
  case budgetStop => exact execBudgetStop_reach (.of_or rfl) (.refl _ _)
  case limpHomeTakeover => exact execLimpHomeTakeover_reach (.of_or rfl) (.refl _ _)
  case limpHomeHandback => exact execLimpHomeHandback_reach (.of_or rfl) (.refl _ _)
  case storeyBreaker => exact execStoreyBreaker_reach (.of_or rfl) (.refl _ _)
  case flightPresenceOpen => exact execFlightPresenceOpen_reach (.of_or rfl) (.refl _ _)
  case flightPresenceClosed => exact execFlightPresenceClosed_reach (.of_or rfl) (.refl _ _)
  case modulePresenceOpen => exact execModulePresenceOpen_reach (.of_or rfl) (.refl _ _)
  case modulePresenceClosed => exact execModulePresenceClosed_reach (.of_or rfl) (.refl _ _)
  case precharge => exact execPrecharge_reach (.of_or rfl) (.refl _ _)
  case prechargeTimeout => exact execPrechargeTimeout_reach (.of_or rfl) (.refl _ _)
  case supplyUv => exact execSupplyUv_reach (.of_or rfl) (.refl _ _)
  case supplyUvRestart => exact execSupplyUvRestart_reach (.of_or rfl) (.refl _ _)
  case supplyOv => exact execSupplyOv_reach (.of_or rfl) (.refl _ _)
  case supplyOvRelease => exact execSupplyOvRelease_reach (.of_or rfl) (.refl _ _)
  case supplyInterrupt => exact execSupplyInterrupt_reach (.of_or rfl) (.refl _ _)
  case groundLoss => exact execGroundLoss_reach (.of_or rfl) (.refl _ _)
  case lhPinChange => exact execLhPinChange_reach (.of_or rfl) (.refl _ _)
  case treadIlim => exact execTreadIlim_reach (.of_or rfl) (.refl _ _)
  case treadPeakClamp => exact execTreadPeakClamp_reach (.of_or rfl) (.refl _ _)
  case treadThermal => exact execTreadThermal_reach (.of_or rfl) (.refl _ _)
  case treadWireTrip => exact execTreadWireTrip_reach (.of_or rfl) (.refl _ _)
  case treadRearm => exact execTreadRearm_reach (.of_or rfl) (.refl _ _)
  case treadRetry => exact execTreadRetry_reach (.of_or rfl) (.refl _ _)
  case retryCountReset => exact execRetryCountReset_reach (.of_or rfl) (.refl _ _)
  case treadOpenLoad => exact execTreadOpenLoad_reach (.of_or rfl) (.refl _ _)
  case groundReturn => exact execGroundReturn_reach (.of_or rfl) (.refl _ _)
  case lPdLoss => exact execLPdLoss_reach (.of_or rfl) (.refl _ _)
  case lPdRestored => exact execLPdRestored_reach (.of_or rfl) (.refl _ _)

theorem inputParts_within (h : inputParts c = some ps) (s : State) : Within (Part.mask ps) s (exec c s) := by
  cases c <;> cases h
  case debouncedChange => exact execDebouncedChange_reach (.of_or rfl) (.refl _ _)
  case cleaningPulse => exact execCleaningPulse_reach (.of_or rfl) (.refl _ _)
  case cleaningPulseEnd => exact execCleaningPulseEnd_reach (.of_or rfl) (.refl _ _)
  case senseTrackFence => exact execSenseTrackFence_reach (.of_or rfl) (.refl _ _)
  case senseRxMismatch => exact execSenseRxMismatch_reach (.of_or rfl) (.refl _ _)
  case senseRxMismatchClear => exact execSenseRxMismatchClear_reach (.of_or rfl) (.refl _ _)
  case senseLoopFault => exact execSenseLoopFault_reach (.of_or rfl) (.refl _ _)
  case senseOverRange => exact execSenseOverRange_reach (.of_or rfl) (.refl _ _)
  case burdenReconnect => exact execBurdenReconnect_reach (.of_or rfl) (.refl _ _)
  case reedInputChange => exact execReedInputChange_reach (.of_or rfl) (.refl _ _)
  case portEdge => exact execPortEdge_reach (.of_or rfl) (.refl _ _)
  case auxPulseEnd => exact execAuxPulseEnd_reach (.of_or rfl) (.refl _ _)
  case echoEdgeOut => exact execEchoEdgeOut_reach (.of_or rfl) (.refl _ _)
  case portStandstill => exact execPortStandstill_reach (.of_or rfl) (.refl _ _)
  case portLineFault => exact execPortLineFault_reach (.of_or rfl) (.refl _ _)
  case portHallInvalid => exact execPortHallInvalid_reach (.of_or rfl) (.refl _ _)
  case ssiFrame => exact execSsiFrame_reach (.of_or rfl) (.refl _ _)
  case indexEvent => exact execIndexEvent_reach (.of_or rfl) (.refl _ _)
  case portRxMismatch => exact execPortRxMismatch_reach (.of_or rfl) (.refl _ _)
  case portSupplyFault => exact execPortSupplyFault_reach (.of_or rfl) (.refl _ _)

theorem motionParts_within (h : motionParts c = some ps) (s : State) : Within (Part.mask ps) s (exec c s) := by
  cases c <;> cases h
  case motionSample => exact execMotionSample_reach (.of_or rfl) (.refl _ _)
  case axisDeviation => exact execAxisDeviation_reach (.of_or rfl) (.refl _ _)
  case axisOverspeed => exact execAxisOverspeed_reach (.of_or rfl) (.refl _ _)
  case axisHoldTimeout => exact execAxisHoldTimeout_reach (.of_or rfl) (.refl _ _)
  case alignComplete => exact execAlignComplete_reach (.of_or rfl) (.refl _ _)
  case externalStep => exact execExternalStep_reach (.of_or rfl) (.refl _ _)
  case stepperHoldCurrent => exact execStepperHoldCurrent_reach (.of_or rfl) (.refl _ _)
  case solenoidPullEnd => exact execSolenoidPullEnd_reach (.of_or rfl) (.refl _ _)
  case gearMasterLost => exact execGearMasterLost_reach (.of_or rfl) (.refl _ _)
  case doorOpen => exact execDoorOpen_reach (.of_or rfl) (.refl _ _)
  case doorClose => exact execDoorClose_reach (.of_or rfl) (.refl _ _)
  case doorStop => exact execDoorStop_reach (.of_or rfl) (.refl _ _)
  case isolate => exact execIsolate_reach (.of_or rfl) (.refl _ _)
  case deisolate => exact execDeisolate_reach (.of_or rfl) (.refl _ _)
  case doorReference => exact execDoorReference_reach (.of_or rfl) (.refl _ _)
  case resetFault => exact execResetFault_reach (.of_or rfl) (.refl _ _)
  case egress => exact execEgress_reach (.of_or rfl) (.refl _ _)
  case warnTimeout => exact execWarnTimeout_reach (.of_or rfl) (.refl _ _)
  case lockNoRelease => exact execLockNoRelease_reach (.of_or rfl) (.refl _ _)
  case lockNotEngaged => exact execLockNotEngaged_reach (.of_or rfl) (.refl _ _)
  case closedNotConfirmed => exact execClosedNotConfirmed_reach (.of_or rfl) (.refl _ _)
  case stepConfirmTimeout => exact execStepConfirmTimeout_reach (.of_or rfl) (.refl _ _)
  case extend => exact execExtend_reach (.of_or rfl) (.refl _ _)
  case retract => exact execRetract_reach (.of_or rfl) (.refl _ _)
  case stepStop => exact execStepStop_reach (.of_or rfl) (.refl _ _)
  case stepReference => exact execStepReference_reach (.of_or rfl) (.refl _ _)
  case stepReset => exact execStepReset_reach (.of_or rfl) (.refl _ _)
  case lockRelease => exact execLockRelease_reach (.of_or rfl) (.refl _ _)
  case engage => exact execEngage_reach (.of_or rfl) (.refl _ _)
  case lockReset => exact execLockReset_reach (.of_or rfl) (.refl _ _)
  case referenceStart => exact execReferenceStart_reach (.of_or rfl) (.refl _ _)
  case hardstopFound => exact execHardstopFound_reach (.of_or rfl) (.refl _ _)
  case hardstopReleaseEnd => exact execHardstopReleaseEnd_reach (.of_or rfl) (.refl _ _)
  case obstacleDetected => exact execObstacleDetected_reach (.of_or rfl) (.refl _ _)
  case reversalStart => exact execReversalStart_reach (.of_or rfl) (.refl _ _)
  case recloseAttempt => exact execRecloseAttempt_reach (.of_or rfl) (.refl _ _)
  case startMarginEnd => exact execStartMarginEnd_reach (.of_or rfl) (.refl _ _)
  case learnUpdate => exact execLearnUpdate_reach (.of_or rfl) (.refl _ _)
  case learnConfirmTimeout => exact execLearnConfirmTimeout_reach (.of_or rfl) (.refl _ _)
  case tempInTimeout => exact execTempInTimeout_reach (.of_or rfl) (.refl _ _)

theorem hallParts_within (h : hallParts c = some ps) (s : State) : Within (Part.mask ps) s (exec c s) := by
  cases c <;> cases h
  case safetyTick => exact execSafetyTick_reach (.of_or rfl) (.refl _ _)
  case hallSupplyFault => exact execHallSupplyFault_reach (.of_or rfl) (.refl _ _)
  case hallClockFault => exact execHallClockFault_reach (.of_or rfl) (.refl _ _)
  case ownClockFault => exact execOwnClockFault_reach (.of_or rfl) (.refl _ _)
  case pllLockLoss => exact execPllLockLoss_reach (.of_or rfl) (.refl _ _)
  case eccUncorrectable => exact execEccUncorrectable_reach (.of_or rfl) (.refl _ _)
  case sramScrub => exact execSramScrub_reach (.of_or rfl) (.refl _ _)
  case hallBReturn => exact execHallBReturn_reach (.of_or rfl) (.refl _ _)
  case hallResetAssert => exact execHallResetAssert_reach (.of_or rfl) (.refl _ _)
  case heartbeatLoss => exact execHeartbeatLoss_reach (.of_or rfl) (.refl _ _)
  case flightEnableLow => exact execFlightEnableLow_reach (.of_or rfl) (.refl _ _)
  case supplyLoss => exact execSupplyLoss_reach (.of_or rfl) (.refl _ _)
  case discrepancy => exact execDiscrepancy_reach (.of_or rfl) (.refl _ _)
  case discrepancyCleared => exact execDiscrepancyCleared_reach (.of_or rfl) (.refl _ _)
  case dclConduct => exact execDclConduct_reach (.of_or rfl) (.refl _ _)
  case dclOfflineTest => exact execDclOfflineTest_reach (.of_or rfl) (.refl _ _)
  case dclTestPulse => exact execDclTestPulse_reach (.of_or rfl) (.refl _ _)
  case dclInhibit => exact execDclInhibit_reach (.of_or rfl) (.refl _ _)
  case permissionGrant => exact execPermissionGrant_reach (.of_or rfl) (.refl _ _)
  case resetEdge => exact execResetEdge_reach (.of_or rfl) (.refl _ _)
  case resetHeld => exact execResetHeld_reach (.of_or rfl) (.refl _ _)
  case resetStuckClear => exact execResetStuckClear_reach (.of_or rfl) (.refl _ _)
  case wordMismatchLimit => exact execWordMismatchLimit_reach (.of_or rfl) (.refl _ _)
  case modeTransition => exact execModeTransition_reach (.of_or rfl) (.refl _ _)
  case sealRead => exact execSealRead_reach (.of_or rfl) (.refl _ _)
  case restartBegin => exact execRestartBegin_reach (.of_or rfl) (.refl _ _)
  case boot => exact execBoot_reach (.of_or rfl) (.refl _ _)
  case bootComplete => exact execBootComplete_reach (.of_or rfl) (.refl _ _)
  case fwTrialTimeout => exact execFwTrialTimeout_reach (.of_or rfl) (.refl _ _)
  case hallAReturn => exact execHallAReturn_reach (.of_or rfl) (.refl _ _)
  case engineWatchdog => exact execEngineWatchdog_reach (.of_or rfl) (.refl _ _)

theorem networkParts_within (h : networkParts c = some ps) (s : State) : Within (Part.mask ps) s (exec c s) := by
  cases c <;> cases h
  case programCycleStart => exact execProgramCycleStart_reach (.of_or rfl) (.refl _ _)
  case programCycleComplete => exact execProgramCycleComplete_reach (.of_or rfl) (.refl _ _)
  case programVerified => exact execProgramVerified_reach (.of_or rfl) (.refl _ _)
  case switchAbandoned => exact execSwitchAbandoned_reach (.of_or rfl) (.refl _ _)
  case rpdoReceive => exact execRpdoReceive_reach (.of_or rfl) (.refl _ _)
  case canHeartbeat => exact execCanHeartbeat_reach (.of_or rfl) (.refl _ _)
  case canNodeLost => exact execCanNodeLost_reach (.of_or rfl) (.refl _ _)
  case canEmcy => exact execCanEmcy_reach (.of_or rfl) (.refl _ _)
  case canErrorPassive => exact execCanErrorPassive_reach (.of_or rfl) (.refl _ _)
  case canBusOff => exact execCanBusOff_reach (.of_or rfl) (.refl _ _)
  case canBusRecovered => exact execCanBusRecovered_reach (.of_or rfl) (.refl _ _)
  case vsfSend => exact execVsfSend_reach (.of_or rfl) (.refl _ _)
  case vsfFrameReceive => exact execVsfFrameReceive_reach (.of_or rfl) (.refl _ _)
  case safelinkSilenceTimeout => exact execSafelinkSilenceTimeout_reach (.of_or rfl) (.refl _ _)
  case safelinkExpired => exact execSafelinkExpired_reach (.of_or rfl) (.refl _ _)
  case trdpPdReceive => exact execTrdpPdReceive_reach (.of_or rfl) (.refl _ _)
  case trdpSubTimeout => exact execTrdpSubTimeout_reach (.of_or rfl) (.refl _ _)
  case eventIntake => exact execEventIntake_reach (.of_or rfl) (.refl _ _)
  case recordWindowEnd => exact execRecordWindowEnd_reach (.of_or rfl) (.refl _ _)
  case queueTake => exact execQueueTake_reach (.of_or rfl) (.refl _ _)
  case eventsLost => exact execEventsLost_reach (.of_or rfl) (.refl _ _)
  case pageProgram => exact execPageProgram_reach (.of_or rfl) (.refl _ _)
  case compactionStep => exact execCompactionStep_reach (.of_or rfl) (.refl _ _)
  case traceWrite => exact execTraceWrite_reach (.of_or rfl) (.refl _ _)
  case counterPersist => exact execCounterPersist_reach (.of_or rfl) (.refl _ _)
  case galleryFailed => exact execGalleryFailed_reach (.of_or rfl) (.refl _ _)
  case indexRebuilt => exact execIndexRebuilt_reach (.of_or rfl) (.refl _ _)
  case nandScrub => exact execNandScrub_reach (.of_or rfl) (.refl _ _)
  case ringLinkUp => exact execRingLinkUp_reach (.of_or rfl) (.refl _ _)
  case ringTrainingRetry => exact execRingTrainingRetry_reach (.of_or rfl) (.refl _ _)
  case ringPortDown => exact execRingPortDown_reach (.of_or rfl) (.refl _ _)
  case ringFormTrigger => exact execRingFormTrigger_reach (.of_or rfl) (.refl _ _)
  case formWaitEnd => exact execFormWaitEnd_reach (.of_or rfl) (.refl _ _)
  case ringFrame => exact execRingFrame_reach (.of_or rfl) (.refl _ _)
  case ringLost => exact execRingLost_reach (.of_or rfl) (.refl _ _)
  case galleryFailedRepeat => exact execGalleryFailedRepeat_reach (.of_or rfl) (.refl _ _)
  case ringSignalDetect => exact execRingSignalDetect_reach (.of_or rfl) (.refl _ _)
  case switchFrameForward => exact execSwitchFrameForward_reach (.of_or rfl) (.refl _ _)
  case arpIcmpRequest => exact execArpIcmpRequest_reach (.of_or rfl) (.refl _ _)

theorem hostParts_within (h : hostParts c = some ps) (s : State) : Within (Part.mask ps) s (exec c s) := by
  cases c <;> cases h
  case uvClear => exact execUvClear_reach (.of_or rfl) (.refl _ _)
  case treadClear => exact execTreadClear_reach (.of_or rfl) (.refl _ _)
  case storeyReclose => exact execStoreyReclose_reach (.of_or rfl) (.refl _ _)
  case storeyStopClear => exact execStoreyStopClear_reach (.of_or rfl) (.refl _ _)
  case flightStopClear => exact execFlightStopClear_reach (.of_or rfl) (.refl _ _)
  case sysStopClear => exact execSysStopClear_reach (.of_or rfl) (.refl _ _)
  case supplyClear => exact execSupplyClear_reach (.of_or rfl) (.refl _ _)
  case portCountWrite => exact execPortCountWrite_reach (.of_or rfl) (.refl _ _)
  case portCountRead => exact execPortCountRead_reach (.of_or rfl) (.refl _ _)
  case cmpArm => exact execCmpArm_reach (.of_or rfl) (.refl _ _)
  case cmpDisarm => exact execCmpDisarm_reach (.of_or rfl) (.refl _ _)
  case cmpHitClr => exact execCmpHitClr_reach (.of_or rfl) (.refl _ _)
  case moveAbs => exact execMoveAbs_reach (.of_or rfl) (.refl _ _)
  case moveRel => exact execMoveRel_reach (.of_or rfl) (.refl _ _)
  case moveVel => exact execMoveVel_reach (.of_or rfl) (.refl _ _)
  case stop => exact execStop_reach (.of_or rfl) (.refl _ _)
  case quickStop => exact execQuickStop_reach (.of_or rfl) (.refl _ _)
  case release => exact execRelease_reach (.of_or rfl) (.refl _ _)
  case gearEngage => exact execGearEngage_reach (.of_or rfl) (.refl _ _)
  case gearDisengage => exact execGearDisengage_reach (.of_or rfl) (.refl _ _)
  case energize => exact execEnergize_reach (.of_or rfl) (.refl _ _)
  case deenergize => exact execDeenergize_reach (.of_or rfl) (.refl _ _)
  case commLearn => exact execCommLearn_reach (.of_or rfl) (.refl _ _)
  case axisDecelWrite => exact execAxisDecelWrite_reach (.of_or rfl) (.refl _ _)
  case axisPosSet => exact execAxisPosSet_reach (.of_or rfl) (.refl _ _)
  case programStop => exact execProgramStop_reach (.of_or rfl) (.refl _ _)
  case programRestart => exact execProgramRestart_reach (.of_or rfl) (.refl _ _)
  case forceSet => exact execForceSet_reach (.of_or rfl) (.refl _ _)
  case forceClear => exact execForceClear_reach (.of_or rfl) (.refl _ _)
  case forceClearAll => exact execForceClearAll_reach (.of_or rfl) (.refl _ _)
  case progBegin => exact execProgBegin_reach (.of_or rfl) (.refl _ _)
  case progData => exact execProgData_reach (.of_or rfl) (.refl _ _)
  case progEnd => exact execProgEnd_reach (.of_or rfl) (.refl _ _)
  case progSwitch => exact execProgSwitch_reach (.of_or rfl) (.refl _ _)
  case obstacleCommission => exact execObstacleCommission_reach (.of_or rfl) (.refl _ _)
  case commissionAbort => exact execCommissionAbort_reach (.of_or rfl) (.refl _ _)
  case mapRestore => exact execMapRestore_reach (.of_or rfl) (.refl _ _)
  case tempInWrite => exact execTempInWrite_reach (.of_or rfl) (.refl _ _)
  case safetyResetReq => exact execSafetyResetReq_reach (.of_or rfl) (.refl _ _)
  case alcoveClear => exact execAlcoveClear_reach (.of_or rfl) (.refl _ _)
  case optimeRead => exact execOptimeRead_reach (.of_or rfl) (.refl _ _)
  case floodModeWrite => exact execFloodModeWrite_reach (.of_or rfl) (.refl _ _)
  case hello => exact execHello_reach (.of_or rfl) (.refl _ _)
  case auth => exact execAuth_reach (.of_or rfl) (.refl _ _)
  case lockoutEnd => exact execLockoutEnd_reach (.of_or rfl) (.refl _ _)
  case authTimeout => exact execAuthTimeout_reach (.of_or rfl) (.refl _ _)
  case close => exact execClose_reach (.of_or rfl) (.refl _ _)
  case sessionTimeout => exact execSessionTimeout_reach (.of_or rfl) (.refl _ _)
  case usbDetach => exact execUsbDetach_reach (.of_or rfl) (.refl _ _)
  case fragmentTimeout => exact execFragmentTimeout_reach (.of_or rfl) (.refl _ _)
  case keepalive => exact execKeepalive_reach (.of_or rfl) (.refl _ _)
  case identify => exact execIdentify_reach (.of_or rfl) (.refl _ _)
  case parRead => exact execParRead_reach (.of_or rfl) (.refl _ _)
  case parWrite => exact execParWrite_reach (.of_or rfl) (.refl _ _)
  case parReadArray => exact execParReadArray_reach (.of_or rfl) (.refl _ _)
  case parInfo => exact execParInfo_reach (.of_or rfl) (.refl _ _)
  case galRead => exact execGalRead_reach (.of_or rfl) (.refl _ _)
  case galTraceRead => exact execGalTraceRead_reach (.of_or rfl) (.refl _ _)
  case stageBegin => exact execStageBegin_reach (.of_or rfl) (.refl _ _)
  case stageData => exact execStageData_reach (.of_or rfl) (.refl _ _)
  case stageEnd => exact execStageEnd_reach (.of_or rfl) (.refl _ _)
  case transferAbandon => exact execTransferAbandon_reach (.of_or rfl) (.refl _ _)
  case activate => exact execActivate_reach (.of_or rfl) (.refl _ _)
  case rollback => exact execRollback_reach (.of_or rfl) (.refl _ _)
  case activationTick => exact execActivationTick_reach (.of_or rfl) (.refl _ _)
  case slotInfo => exact execSlotInfo_reach (.of_or rfl) (.refl _ _)
  case attestChallenge => exact execAttestChallenge_reach (.of_or rfl) (.refl _ _)
  case attestSigned => exact execAttestSigned_reach (.of_or rfl) (.refl _ _)
  case attestContinuation => exact execAttestContinuation_reach (.of_or rfl) (.refl _ _)
  case certRead => exact execCertRead_reach (.of_or rfl) (.refl _ _)
  case hostKeySet => exact execHostKeySet_reach (.of_or rfl) (.refl _ _)
  case hostKeyRevoke => exact execHostKeyRevoke_reach (.of_or rfl) (.refl _ _)
  case modeRequestStandby => exact execModeRequestStandby_reach (.of_or rfl) (.refl _ _)
  case modeRequestRun => exact execModeRequestRun_reach (.of_or rfl) (.refl _ _)
  case modeRequestMaintenance => exact execModeRequestMaintenance_reach (.of_or rfl) (.refl _ _)
  case modeRequestUpdate => exact execModeRequestUpdate_reach (.of_or rfl) (.refl _ _)
  case restartHallA => exact execRestartHallA_reach (.of_or rfl) (.refl _ _)
  case restartModule => exact execRestartModule_reach (.of_or rfl) (.refl _ _)
  case calCheck => exact execCalCheck_reach (.of_or rfl) (.refl _ _)
  case calTrimWrite => exact execCalTrimWrite_reach (.of_or rfl) (.refl _ _)
  case calClearAll => exact execCalClearAll_reach (.of_or rfl) (.refl _ _)
  case ringReform => exact execRingReform_reach (.of_or rfl) (.refl _ _)
  case doorCmd => exact execDoorCmd_reach (.of_or rfl) (.refl _ _)
  case hostPacketRejected => exact execHostPacketRejected_reach (.of_or rfl) (.refl _ _)

end

/-- Settles O7: a command that its law keeps within the mask of its list changes the parts of its list only. -/
theorem supplyTreadAndInputFrames : Obligations.SupplyTreadAndInputFrames := by
  unfold Obligations.SupplyTreadAndInputFrames
  rintro c ps (supply | input) s t answer
  · exact (supplyParts_within supply s t answer).onlyChanges
  · exact (inputParts_within input s t answer).onlyChanges

/-- Settles O8: a command that its law keeps within the mask of its list changes the parts of its list only. -/
theorem motionDoorwayAndHallFrames : Obligations.MotionDoorwayAndHallFrames := by
  unfold Obligations.MotionDoorwayAndHallFrames
  rintro c ps (motion | hall) s t answer
  · exact (motionParts_within motion s t answer).onlyChanges
  · exact (hallParts_within hall s t answer).onlyChanges

/-- Settles O9: a command that its law keeps within the mask of its list changes the parts of its list only. -/
theorem networkProgramGalleryAndHostFrames : Obligations.NetworkProgramGalleryAndHostFrames := by
  unfold Obligations.NetworkProgramGalleryAndHostFrames
  rintro c ps (network | host) s t answer
  · exact (networkParts_within network s t answer).onlyChanges
  · exact (hostParts_within host s t answer).onlyChanges

/-! ### The end of a silent connection touches the other connections -/

/-- Connection 0 is silent for 2 × T_exp, and on this tick connection 1's last echo is T_exp old, while its values are still marked valid. -/
def twoConnectionsExpire : State :=
  { State.reset with
    clock := { Clock.reset with tick := 100000 }
    hallA := { State.reset.hallA with inReset := false }
    hallB := { State.reset.hallB with inReset := false }
    conns := [{ Conn.reset with st := .open' }, { Conn.reset with st := .open', valid := true, wasValid := true }] ++ List.replicate 6 .reset }

/-- Refutes O10: SAFELINK_SILENCE_TIMEOUT judges the validity of every connection anew, so that of connection 0 ends the validity of
connection 1. -/
theorem not_framesCoverEveryCommandAndUnit : ¬ Obligations.FramesCoverEveryCommandAndUnit := by
  unfold Obligations.FramesCoverEveryCommandAndUnit
  intro ⟨_, units⟩
  have late : exec (.safelinkSilenceTimeout 0) twoConnectionsExpire = .next (twoConnectionsExpire.vsfRestart 0 1).refreshValid := rfl
  obtain ⟨_, _, _, _, _, conns⟩ := units _ _ _ late
  have kept := congrArg Conn.valid (conns 0 1 rfl (by decide))
  have ends : ((twoConnectionsExpire.vsfRestart 0 1).refreshValid.conn 1).valid = false := rfl
  exact absurd (ends.symm.trans kept) (by decide)

end Sys2Proof.Machine
end

section
/-! PROOFS of the family of 12_host_protocol.md: parameter writes (O13), and the sessions (O57). -/

namespace Sys2Proof.Machine

/-! ### A PAR_WRITE is judged as a whole (12 R427) -/

section

variable {s t : State} {k : Pkt} {x : Session} {l : List Nat} {es : List (Nat × Word)}

theorem firstFailure_passes (passes : ∀ st ∈ l, st = stOK) (k : Nat) : firstFailure k l = none := by
  induction l generalizing k with
  | nil => rfl
  | cons st l ih =>
    rw [firstFailure, if_pos (passes st (.head l))]
    exact ih (fun st mem => passes st (.tail _ mem)) _

theorem firstFailure_fails {n st : Nat} (place : l[n]? = some st) (fails : st ≠ stOK)
    (before : ∀ m st', m < n → l[m]? = some st' → st' = stOK) (k : Nat) : firstFailure k l = some (k + n, st) := by
  induction l generalizing n k with
  | nil => cases place
  | cons st' l ih =>
    cases n with
    | zero =>
      cases place
      exact if_neg fails
    | succ n =>
      rw [firstFailure, if_pos (before 0 st' (Nat.succ_pos n) rfl),
        ih place (fun m st' less => before (m + 1) st' (Nat.succ_lt_succ less)), Nat.add_assoc, Nat.add_comm 1 n]

/-- A PAR_WRITE that passes the packet's checks is judged entry by entry, on the state that the checks leave. -/
theorem execParWrite_judges (passes : s.Passes writeSpec k x) (length : k.payload.length = 4 + 8 * fieldAt k.payload 0 2)
    (least : 1 ≤ fieldAt k.payload 0 2) (most : fieldAt k.payload 0 2 ≤ 64) (idle : s.sec.activating = none)
    (left : t = s.afterChecks writeSpec k) (entries : es = writeEntries k.payload) :
    execParWrite k s = .next (match firstFailure 0 (es.map (t.judgeEntry (t.withValues es) x.role)) with
      | some (n, st) => t.answer (pendOf 0x0011 k.hdr) st (es.getD n (0, 0)).1 (writeReply n)
      | none => (t.applyEntries es).answer (pendOf 0x0011 k.hdr) 0 0 (writeReply 0xFFFF)) := by
  have vetted : s.vet { code := opParWrite, perm := .read, lenOk := true, deferred := true } k =
      .served t (pendOf 0x0011 k.hdr) x.role (some x) := left ▸ State.vet_passes passes
  have range : ¬ (decide (fieldAt k.payload 0 2 = 0) || decide (64 < fieldAt k.payload 0 2)) = true := by
    simp only [Bool.or_eq_true, decide_eq_true_eq]
    omega
  have idle' : t.sec.activating = none := left ▸ idle
  unfold execParWrite State.parWrite
  simp only [decide_eq_true length, vetted]
  unfold State.serveWrite
  simp only [if_neg range, idle', Option.isSome_none, Bool.false_eq_true, if_false, ← entries]
  rfl

end

/-- Settles O13: the first entry that fails decides the reply, which changes the host link alone; where none fails, all are applied. -/
theorem parameterWritesAreAllOrNothing : Obligations.ParameterWritesAreAllOrNothing := by
  unfold Obligations.ParameterWritesAreAllOrNothing
  intro s u k x es passes length least most idle left entries
  have judges := execParWrite_judges passes length least most idle left entries
  constructor
  · intro n e place fails before
    have first : firstFailure 0 (es.map (u.judgeEntry (u.withValues es) x.role)) = some (0 + n, u.judgeEntry (u.withValues es) x.role e) := by
      refine firstFailure_fails (by rw [List.getElem?_map, place]; rfl) fails ?_ 0
      intro m st less at'
      rw [List.getElem?_map, Option.map_eq_some_iff] at at'
      obtain ⟨f, entry, rfl⟩ := at'
      exact before m f less entry
    have named : es.getD n (0, 0) = e := by rw [List.getD_eq_getElem?_getD, place]; rfl
    rw [first, Nat.zero_add] at judges
    simp only [named] at judges
    refine ⟨_, judges, passes.replied (congrArg State.host left) _ _ _, ?_⟩
    refine (State.answer_reach (.of_or rfl) ?_ : Reach (Part.mask [.host, .outs]) s _).onlyChanges
    exact left ▸ State.afterChecks_reach (.of_or rfl) (.refl _ s)
  · intro all
    rw [firstFailure_passes (List.forall_mem_map.2 all) 0] at judges
    exact judges

end Sys2Proof.Machine
end

section
/-! PROOFS: what a reply and the end of a session leave of the host link; sessions open and end (O57). -/

namespace Sys2Proof.Machine

/-! ### A reply and the host link (12 R412, R418, R420) -/

section

variable {s t : State} {p : Pend} {x : Session} {n : BitVec 16} {cause status item : Nat} {payload : Bytes}

/-- A host link on which a request waits no more, and whose sessions have new caches. -/
def HostLink.answered (h : HostLink) (p : Pend) (cache : Session → List Cached) : HostLink :=
  { h with pends := h.pends.filter (fun q => q ≠ p), sessions := h.sessions.map (fun x => { x with cache := cache x }) }

theorem HostLink.answered_silently (h : HostLink) (p : Pend) :
    h.answered p Session.cache = { h with pends := h.pends.filter (fun q => q ≠ p) } := by
  unfold HostLink.answered
  rw [show h.sessions.map (fun x => { x with cache := x.cache }) = h.sessions from List.map_id h.sessions]

/-- A reply ends the wait of its request, and may be kept in a cache: nothing else of the host link changes. -/
theorem State.answer_host (s : State) (p : Pend) (status item : Nat) (payload : Bytes) :
    ∃ cache, (s.answer p status item payload).host = s.host.answered p cache := by
  unfold State.answer
  dsimp only
  split
  · exact ⟨_, (HostLink.answered_silently _ _).symm⟩
  · split
    · exact ⟨_, State.replyRaw_host.trans (HostLink.answered_silently _ _).symm⟩
    · split
      · exact ⟨_, (HostLink.answered_silently _ _).symm⟩
      · split
        · exact ⟨_, (HostLink.answered_silently _ _).symm⟩
        · next y _ _ =>
          generalize State.buildReply _ p y.key status item payload = r
          refine ⟨fun z => if z.num = p.session then cacheReply z.cache p.seq r else z.cache, State.sendReply_host.trans ?_⟩
          unfold HostLink.answered
          refine congrArg (fun l => HostLink.mk l _ _ _ _ _ _ _ _ _ _ _ _ _ _) (List.map_congr_left fun z _ => ?_)
          by_cases mine : z.num = p.session <;> simp only [mine, if_true, if_false]

/-- The session of a reply is still there, and differs by its cache at most. -/
theorem State.answer_session (named : s.session? n = some x) :
    ∃ cache, (s.answer p status item payload).session? n = some { x with cache := cache } := by
  obtain ⟨cache, host⟩ := s.answer_host p status item payload
  unfold State.session? at named ⊢
  rw [host]
  exact ⟨_, State.find_map_num (fun _ => rfl) named⟩

theorem State.answer_keys : (s.answer p status item payload).host.keys = s.host.keys := by
  obtain ⟨_, host⟩ := s.answer_host p status item payload
  rw [host, HostLink.answered]

theorem State.sendReply_outs (s : State) (r : Reply) : ∃ sent, (s.sendReply r).outs = .reply r :: sent ++ s.outs := by
  have grows : s.outs <:+ (if r.sv then s.send (.sv (cobs [] r.packet ++ [0]))
      else s.sendUdp (BitVec.ofNat 32 (r.src.toNat / 65536)) hostPort (r.src.toNat % 65536) 0 r.packet).outs := by
    split
    · exact List.suffix_cons _ _
    · exact (State.sendUdp_reach (.refl _) (.refl _ s)).grow
  obtain ⟨sent, outs⟩ := grows
  exact ⟨sent, congrArg (List.cons _) outs.symm⟩

/-- The reply to a request of an open session is sent after what was sent before. -/
theorem State.answer_sent (numbered : p.session ≠ 0) (live : p.ended = false) (named : s.session? p.session = some x) (source : x.src = p.src)
    (transport : x.sv = p.sv) :
    ∃ (r : Reply) (sent : List OutMsg), (s.answer p status item payload).outs = sent ++ s.outs ∧ .reply r ∈ sent ∧ r.sv = p.sv ∧
      r.src = p.src ∧ r.seq = p.seq ∧ r.session = p.session ∧ r.opcode = p.opcode ∧ r.status = BitVec.ofNat 8 status ∧
      r.item = word32 item ∧ r.payload = payload := by
  have named' : ({ s with host := { s.host with pends := s.host.pends.filter (fun q => q ≠ p) } } : State).session? p.session = some x := named
  unfold State.answer
  simp only [live, if_neg numbered, named', Bool.false_eq_true, if_false]
  rw [if_neg (by simp [source, transport])]
  obtain ⟨sent, outs⟩ := State.sendReply_outs _ _
  exact ⟨_, _, outs, .head _, rfl, rfl, rfl, rfl, rfl, rfl, rfl, rfl⟩

/-! ### The end of a session (12 R420) -/

theorem State.session?_eq_none : s.session? n = none ↔ ∀ y ∈ s.host.sessions, y.num ≠ n := by
  simp [State.session?]

theorem State.dropAxes_host : (s.dropAxes n).host = { s.host with holders := s.host.holders.filter (fun h => h.session ≠ n) } := by
  unfold State.dropAxes
  extract_lets stopped
  have link : stopped.host = s.host := by
    refine State.forEach_keeps State.host (fun u a => ?_) s 36
    extract_lets on u'
    split <;> rfl
  exact congrArg (fun h : HostLink => { h with holders := h.holders.filter (fun h => h.session ≠ n) }) link

/-- The end of a session takes it, and the axes that it holds, from the host link. -/
theorem State.closeSession_link (named : s.session? n = some x) :
    (s.closeSession n cause).host.sessions = s.host.sessions.filter (fun y => y.num ≠ n) ∧
    (s.closeSession n cause).host.holders = s.host.holders.filter (fun h => h.session ≠ n) := by
  have link := ((State.dropDoors_reach (num := n) (.refl _) (.refl _ (s.dropAxes n))).host rfl).trans State.dropAxes_host
  unfold State.closeSession
  simp only [named]
  rw [State.record_host]
  simp only [link, and_self]

theorem State.closeSession_sessions : (s.closeSession n cause).host.sessions = s.host.sessions.filter (fun y => y.num ≠ n) := by
  cases named : s.session? n with
  | some x => exact (State.closeSession_link named).1
  | none =>
    unfold State.closeSession
    rw [named]
    exact (List.filter_eq_self.2 fun y mem => decide_eq_true (State.session?_eq_none.1 named y mem)).symm

theorem State.closeSession_gone : (s.closeSession n cause).session? n = none := by
  rw [State.session?_eq_none, State.closeSession_sessions]
  exact fun y mem => of_decide_eq_true (List.mem_filter.1 mem).2

theorem State.closeSession_holders (named : s.session? n = some x) : ∀ h ∈ (s.closeSession n cause).host.holders, h.session ≠ n := by
  rw [(State.closeSession_link named).2]
  exact fun h mem => of_decide_eq_true (List.mem_filter.1 mem).2

/-- The end of a session is the last thing recorded. -/
theorem State.closeSession_outs (named : s.session? n = some x) (up : s.hallAUp = true) :
    (s.closeSession n cause).outs = .event Evt.hostSessionClosed.code noSource [word32 n.toNat, word32 cause] :: s.outs := by
  have dropped := State.dropDoors_reach (T := 4298113024) (num := n) (.of_or rfl) (State.dropAxes_reach (num := n) (.of_or rfl) (.refl _ s))
  unfold State.closeSession
  simp only [named]
  generalize (s.dropAxes n).dropDoors n = u at dropped
  rw [State.record_outs]
  · exact congrArg (List.cons _) (dropped.outs rfl)
  · show (!u.hallA.inReset) = true
    rw [dropped.hallA rfl]
    exact up

end
end Sys2Proof.Machine
end

section
/-! PROOFS: how packets are served, and how sessions open and end (O57). -/

namespace Sys2Proof.Machine

/-! ### Packets that are served -/

section

variable {s t u : State} {o : OpSpec} {k : Pkt} {x : Session}

/-- A packet that passes its checks is handled by what its command does with a served one. -/
theorem State.Passes.serves {β : Type} {f : State → β} {g : State → Pend → Nat → Option Session → β} (h : s.Passes o k x) :
    (match (generalizing := false) s.vet o k with | .settled t => f t | .served t p role y => g t p role y) =
      g (s.afterChecks o k) (pendOf o.code k.hdr) x.role (some x) := by
  rw [State.vet_passes h]

/-- A packet without a session is served where its opcode is open to it. -/
theorem State.vet_sessionless (link : s.linkUp k.hdr.sv = true) (addr : k.hdr.addr = 0xFF) (hall : k.hdr.hall = 0)
    (session : k.hdr.session = 0) (mac : k.hdr.mac = none) (reads : o.perm = .read) (allowed : o.permOk = true) (length : o.lenOk = true)
    (permitted : o.stateOk = true) (isOpen : o.noSession = true) (atOnce : o.deferred = false) :
    s.vet o k = .served s (pendOf o.code k.hdr) 0 none := by
  unfold State.vet State.admitLate
  simp [link, addr, hall, session, mac, reads, allowed, length, permitted, isOpen, atOnce, roleHas]

theorem State.Passes.link_up (h : s.Passes o k x) : s.hallAUp = true := (Bool.and_eq_true_iff.1 h.link).1

end

/-! ### HELLO and AUTH (12 R416, R417) -/

section

variable {s : State} {k : Pkt} {x : Session} {p : Pend} {num role slot : Nat} {nc : Bytes}

/-- The session that a HELLO opens. -/
def State.newSession (s : State) (p : Pend) (num role slot : Nat) (nc : Bytes) : Session :=
  { num := BitVec.ofNat 16 num, role := role, sv := p.sv, src := p.src, slot := slot, nc := nc, nm := s.nonce.1, pending := role ≠ 0
    key := none, high := p.seq, cache := [], fails := 0, openTick := s.stamp, lastTick := s.stamp }

theorem State.openSession_host : (s.openSession p num role slot nc).host =
    { s.host with sessions := s.host.sessions ++ [s.newSession p num role slot nc] } :=
  State.replyRaw_host.trans ((State.recordIf_reach (.refl _) (.refl _ _)).host rfl)

theorem State.openSession_session (free : s.session? (BitVec.ofNat 16 num) = none) :
    (s.openSession p num role slot nc).session? (BitVec.ofNat 16 num) = some (s.newSession p num role slot nc) := by
  unfold State.session? at free ⊢
  rw [State.openSession_host, List.find?_append, free]
  exact List.find?_cons_of_pos (p := fun y : Session => decide (y.num = BitVec.ofNat 16 num)) (decide_eq_true rfl)

theorem State.openSession_replied : (s.openSession p num role slot nc).Replied { p with session := BitVec.ofNat 16 num } 0 0
    (leBytes 2 num ++ [BitVec.ofNat 8 role, 0] ++ s.nonce.1) :=
  ⟨_, State.sendReply_head _ _, rfl, rfl, rfl, rfl, rfl, rfl, rfl, rfl⟩

theorem execHello_opens {n : Nat} (link : s.linkUp k.hdr.sv = true) (addr : k.hdr.addr = 0xFF) (hall : k.hdr.hall = 0)
    (session : k.hdr.session = 0) (mac : k.hdr.mac = none) (length : k.payload.length = 20) (named : role = fieldAt k.payload 0 1)
    (key : slot = fieldAt k.payload 1 1) (known : role ≤ 5) (up : s.hallB.inReset = false)
    (may : role ≠ 0 → slot ≤ 7 ∧ s.lockedOut k.hdr.sv = false ∧ s.keyFits slot role = true) (free : s.freeSession k.hdr.sv = some n) :
    execHello k s = .next (s.openSession (pendOf 0x0000 k.hdr) n role slot ((k.payload.drop 4).take 16)) := by
  have vetted : s.vet { code := 0x0000, perm := .read, noSession := true, lenOk := true } k = .served s (pendOf 0x0000 k.hdr) 0 none :=
    State.vet_sessionless link addr hall session mac rfl rfl rfl rfl rfl rfl
  have range : ¬ (decide ((pendOf 0x0000 k.hdr).session ≠ 0) || decide (5 < role) || (decide (role ≠ 0) && decide (7 < slot))) = true := by
    by_cases observer : role = 0
    · simp [pendOf, session, observer]
    · have := (may observer).1
      simp [pendOf, session]
      omega
  have fits : ¬ (decide (role ≠ 0) && (s.lockedOut (pendOf 0x0000 k.hdr).sv || !s.keyFits slot role)) = true := by
    by_cases observer : role = 0
    · simp [observer]
    · obtain ⟨_, unlocked, fits⟩ := may observer
      simp [pendOf, unlocked, fits]
  have free' : s.freeSession (pendOf 0x0000 k.hdr).sv = some n := free
  unfold execHello
  simp only [length, decide_true, vetted]
  unfold State.serveHello
  simp only [← named, ← key, if_neg range, up, Bool.false_eq_true, if_false, if_neg fits, free']

/-- The lowest free number of a transport names no session. -/
theorem State.freeSession_free {n : Nat} {sv : Bool} (free : s.freeSession sv = some n) : s.session? (BitVec.ofNat 16 n) = none :=
  Option.isNone_iff_eq_none.1 (List.find?_some (p := fun n => (s.session? (BitVec.ofNat 16 n)).isNone) free)

/-- What AUTH asks of a packet of 16 bytes in a pending session (12 R422). -/
def authSpec : OpSpec := { code := 0x0001, perm := .read, pendingOk := true, lenOk := true }

/-- A session after its proof. -/
def Session.opened (x : Session) (key : Bytes) : Session := { x with pending := false, key := some key, fails := 0 }

theorem execAuth_opens {key : HostKey} (passes : s.Passes authSpec k x) (length : k.payload.length = 16) (waits : x.pending = true)
    (unlocked : s.lockedOut k.hdr.sv = false) (enrolled : s.host.keys.getD x.slot none = some key) (proof : k.payload = x.proof key.key) :
    execAuth k s = .next ((((s.afterChecks authSpec k).modSession x.num (·.opened (x.deriveKey key.key))).record Evt.hostSessionOpened
      noSource [word32 x.num.toNat, word32 x.role, word32 (xIdx x.sv)]).answer (pendOf 0x0001 k.hdr) 0 0
        (mac16 (x.deriveKey key.key) (ascii ['L', 'V', 'O', 'K'] ++ x.nc))) := by
  have owes : s.authPending k = true := by
    unfold State.authPending
    rw [passes.session]
    exact waits
  have vetted : s.vet { code := 0x0001, perm := .read, permOk := true, pendingOk := true, lenOk := true } k =
      .served (s.afterChecks authSpec k) (pendOf 0x0001 k.hdr) x.role (some x) := State.vet_passes passes
  have enrolled' : (s.afterChecks authSpec k).host.keys.getD x.slot none = some key := enrolled
  have unlocked' : (s.afterChecks authSpec k).lockedOut (pendOf 0x0001 k.hdr).sv = false := unlocked
  unfold execAuth
  simp only [length, decide_true, owes, vetted]
  unfold State.serveAuth
  simp only [enrolled', unlocked']
  rw [if_neg (not_not.2 proof)]
  rfl

/-- After the proof the session is open, as its reply leaves it. -/
theorem State.opened_session {key : Bytes} (passes : s.Passes authSpec k x) {e : EvCode} {n : Nat} {args : List Word} :
    ((((s.afterChecks authSpec k).modSession x.num (·.opened key)).record e n args).session? k.hdr.session) =
      some ((x.accept s.stamp k.hdr.seq (requestCrc 0x0001 k) k.hdr.mac.isSome).opened key) := by
  have num := State.session?_num passes.session
  have named := State.afterChecks_session (o := authSpec) passes.session
  refine (State.session?_of_host (congrArg HostLink.sessions State.record_host) _).trans ?_
  unfold State.session? at named ⊢
  refine (State.find_map_num (f := fun y => if y.num = x.num then y.opened key else y) (fun y => ?_) named).trans ?_
  · split <;> rfl
  · exact congrArg some (if_pos rfl)

end

/-! ### The end of a session -/

section

variable {s : State} {k : Pkt} {x : Session} {n : BitVec 16}

theorem execLockoutEnd_ends {sv : Bool} {at' : Nat} (locked : s.host.lockouts.getD (xIdx sv) none = some at') (ended : at' ≤ s.tick) :
    execLockoutEnd sv s = .next { s with host := { s.host with lockouts := s.host.lockouts.set (xIdx sv) none } } := by
  unfold execLockoutEnd
  rw [locked]
  exact congrArg _ (if_neg (Nat.not_lt.2 ended))

theorem State.lockedOut_of_set {sv : Bool} (h : s.host.lockouts.getD (xIdx sv) none = none) : s.lockedOut sv = false := by
  unfold State.lockedOut
  rw [h]

theorem getD_set_default {α : Type} (l : List α) (i : Nat) (d : α) : (l.set i d).getD i d = d := by
  rw [List.getD_eq_getElem?_getD, List.getElem?_set_self']
  cases l[i]? <;> rfl

theorem execAuthTimeout_ends (named : s.session? n = some x) (waits : x.pending = true) (late : x.openTick + 10000 ≤ s.tick) :
    execAuthTimeout n s = .next { s with host := { s.host with
      sessions := s.host.sessions.filter (fun y => y.num ≠ n), pends := s.host.pends.filter (fun q => q.session ≠ n) } } := by
  unfold execAuthTimeout
  rw [named]
  exact if_pos (by simp [waits, late])

/-- What CLOSE asks of an empty packet (12 R422). -/
def closeSpec : OpSpec := { code := 0x0002, perm := .read, pendingOk := true, lenOk := true }

theorem execClose_served (passes : s.Passes closeSpec k x) (empty : k.payload = []) :
    execClose k s = .next (((s.afterChecks closeSpec k).answer (pendOf 0x0002 k.hdr) 0 0 []).closeSession k.hdr.session 0) := by
  unfold execClose
  rw [empty]
  exact passes.serves

theorem execSessionTimeout_ends (named : s.session? n = some x) (ready : x.pending = false)
    (late : x.lastTick + 1000 * s.parN Par.hostlinkSessionTimeout 0 0 ≤ s.tick) :
    execSessionTimeout n s = .next (s.closeSession n 1) := by
  unfold execSessionTimeout
  rw [named]
  exact congrArg _ (if_pos (by simp [ready, late]))

/-- Closing sessions one after the other leaves those that were there and are not among them. -/
theorem State.closeSessions_sessions (l : List Session) (cause : Nat) :
    ∀ y ∈ (l.foldl (fun s x => s.closeSession x.num cause) s).host.sessions, y ∈ s.host.sessions ∧ y ∉ l := by
  induction l generalizing s with
  | nil => exact fun y mem => ⟨mem, List.not_mem_nil⟩
  | cons x l ih =>
    intro y mem
    obtain ⟨left, other⟩ := ih y mem
    rw [State.closeSession_sessions, List.mem_filter] at left
    refine ⟨left.1, fun among => ?_⟩
    cases among with
    | head => exact absurd rfl (of_decide_eq_true left.2)
    | tail _ later => exact other later

end

/-- Settles O57: an opened session is found by its number, also after its reply; one that ends is gone, with what it holds. -/
theorem sessionsOpenAndEnd : Obligations.SessionsOpenAndEnd := by
  unfold Obligations.SessionsOpenAndEnd
  refine ⟨?hello, ?auth, ?lockout, ?authTimeout, ?close, ?timeout, ?detach, ?fragment⟩
  case hello =>
    intro s k role slot n link addr hall session mac length named key known up may free
    exact ⟨_, _, execHello_opens link addr hall session mac length named key known up may free,
      State.openSession_session (State.freeSession_free free), rfl, rfl, rfl, rfl, rfl, rfl, rfl, State.openSession_replied⟩
  case auth =>
    intro s k x key passes length waits unlocked enrolled proof
    have opened := State.opened_session (key := x.deriveKey key.key) passes (e := Evt.hostSessionOpened) (n := noSource)
      (args := [word32 x.num.toNat, word32 x.role, word32 (xIdx x.sv)])
    obtain ⟨cache, found⟩ := State.answer_session (p := pendOf 0x0001 k.hdr) (status := 0) (item := 0)
      (payload := mac16 (x.deriveKey key.key) (ascii ['L', 'V', 'O', 'K'] ++ x.nc)) opened
    exact ⟨_, _, execAuth_opens passes length waits unlocked enrolled proof, found, rfl, rfl, rfl,
      State.answer_replied _ _ _ passes.numbered rfl opened passes.source passes.transport,
      State.announces_record (State.answer_reach (.refl _) (.refl _ _)) rfl rfl⟩
  case lockout =>
    intro s sv at' locked ended
    exact ⟨_, execLockoutEnd_ends locked ended, State.lockedOut_of_set (getD_set_default _ _ _), rfl⟩
  case authTimeout =>
    intro s n x named waits late
    exact ⟨_, execAuthTimeout_ends named waits late,
      State.session?_eq_none.2 fun y mem => of_decide_eq_true (List.mem_filter.1 mem).2, rfl⟩
  case close =>
    intro s k x passes empty
    have named := State.afterChecks_session (o := closeSpec) passes.session
    obtain ⟨cache, found⟩ := State.answer_session (p := pendOf 0x0002 k.hdr) (status := 0) (item := 0) (payload := []) named
    obtain ⟨r, sent, outs, among, reply⟩ := State.answer_sent (p := pendOf 0x0002 k.hdr) (status := 0) (item := 0) (payload := [])
      passes.numbered rfl named passes.source passes.transport
    have up : ((s.afterChecks closeSpec k).answer (pendOf 0x0002 k.hdr) 0 0 []).hallAUp = true := by
      unfold State.hallAUp
      rw [(State.answer_reach (.refl _) (.refl _ (s.afterChecks closeSpec k))).hallA rfl]
      exact passes.link_up
    have closed := State.closeSession_outs (cause := 0) found up
    refine ⟨_, execClose_served passes empty, State.closeSession_gone, State.closeSession_holders found, congrArg List.head? closed,
      r, _, closed.trans (congrArg (List.cons _) outs), .tail _ among, reply⟩
  case timeout =>
    intro s n x named ready late
    exact ⟨_, execSessionTimeout_ends named ready late, State.closeSession_gone, State.closeSession_holders named, fun up =>
      (State.closeSession_outs named up).symm ▸ List.suffix_refl _⟩
  case detach =>
    intro s
    refine ⟨_, rfl, fun x mem => ?_⟩
    obtain ⟨was, kept⟩ := State.closeSessions_sessions _ 3 x mem
    exact Bool.eq_false_iff.2 fun sv => kept (List.mem_filter.2 ⟨was, sv⟩)
  case fragment =>
    intro s src ident d mem source number late
    refine ⟨_, rfl, fun stays => ?_⟩
    simpa [source, number, late] using (List.mem_filter.1 stays).2

end Sys2Proof.Machine
end

section
/-! PROOFS: reads of parameters, slots and the gallery, and writes of parameters, are answered (O58). -/

namespace Sys2Proof.Machine

/-! ### What the checks of a packet leave alone -/

section

variable {s : State} {o : OpSpec} {k : Pkt}

theorem State.afterChecks_sec : (s.afterChecks o k).sec = s.sec := (State.afterChecks_reach (.refl _) (.refl _ s)).sec rfl

theorem State.afterChecks_hallB : (s.afterChecks o k).hallB = s.hallB := (State.afterChecks_reach (.refl _) (.refl _ s)).hallB rfl

end

/-! ### KEEPALIVE, IDENTIFY, PAR_INFO and SLOT_INFO (12 R422) -/

section

variable {s : State} {k : Pkt} {x : Session} {r : ParRow} {i j : Nat}

/-- What each of these asks of a packet of its length (12 R422). -/
def keepaliveSpec : OpSpec := { code := 0x0003, perm := .read, lenOk := true }
def identifySpec : OpSpec := { code := 0x0004, perm := .read, noSession := true, lenOk := true }
def parInfoSpec : OpSpec := { code := 0x0013, perm := .read, lenOk := true }
def slotInfoSpec : OpSpec := { code := 0x0055, perm := .read, lenOk := true }

theorem execKeepalive_served (passes : s.Passes keepaliveSpec k x) (empty : k.payload = []) :
    execKeepalive k s = .next ((s.afterChecks keepaliveSpec k).answer (pendOf 0x0003 k.hdr) 0 0
      (leBytes 4 s.mode.code ++ leBytes 4 s.sysStatus.toNat)) := by
  unfold execKeepalive
  rw [empty]
  exact passes.serves

theorem execIdentify_served (passes : s.Passes identifySpec k x) (empty : k.payload = []) :
    execIdentify k s = .next ((s.afterChecks identifySpec k).answer (pendOf 0x0004 k.hdr) 0 0 s.identity) := by
  unfold execIdentify
  rw [empty]
  exact passes.serves

theorem execParInfo_served (passes : s.Passes parInfoSpec k x) (length : k.payload.length = 4)
    (resolves : s.resolvePid (fieldAt k.payload 0 4) = .inr (r, i, j)) :
    execParInfo k s = .next ((s.afterChecks parInfoSpec k).answer (pendOf 0x0013 k.hdr) 0 0
      (s.infoBytes r (fieldAt k.payload 0 4))) := by
  have resolves' : (s.afterChecks parInfoSpec k).resolvePid (fieldAt k.payload 0 4) = .inr (r, i, j) := resolves
  unfold execParInfo
  rw [length]
  refine (passes.serves (o := parInfoSpec)).trans ?_
  simp only [resolves']
  rfl

theorem execSlotInfo_served (passes : s.Passes slotInfoSpec k x) (empty : k.payload = []) :
    execSlotInfo k s = .next ((s.afterChecks slotInfoSpec k).answer (pendOf 0x0055 k.hdr) 0 0
      (slotEntry s.sec.staged ++ slotEntry s.sec.active ++ slotEntry s.sec.previous ++
        leBytes 4 (match s.prog.override with | some c => c.progId.toNat | none => 0))) := by
  unfold execSlotInfo
  rw [empty]
  exact passes.serves

end

/-! ### Parameters (12 R425 to R429) -/

section

variable {s u : State} {k : Pkt} {q : Hdr} {x : Session} {r : ParRow} {i j n pid : Nat} {v : Word}

/-- A PID that resolves names a unit of 8 bits and an element of its row. -/
theorem State.resolvePid_unit (resolves : s.resolvePid pid = .inr (r, i, j)) : i < 256 ∧ j < r.len := by
  have row := rowOfPid_of_resolves resolves
  have range := List.find?_some (p := fun r : ParRow => decide (r.idx ≤ pidIdx pid) && decide (pidIdx pid < r.idx + r.len)) row
  simp only [Bool.and_eq_true, decide_eq_true_eq] at range
  unfold State.resolvePid at resolves
  simp only [row] at resolves
  split at resolves
  · cases resolves
  · split at resolves
    · cases resolves
    · cases resolves
      exact ⟨Nat.mod_lt _ (by decide), by omega⟩

theorem State.afterRead_host : (s.afterRead r i).host = s.host := (State.afterRead_reach (.refl _) (.refl _ s)).host rfl

theorem execParRead_one (active : q.hall = 0) (word : r.pid i j < 4294967296) (resolves : s.resolvePid (r.pid i j) = .inr (r, i, j))
    (held : (r.ofHallB && s.hallB.inReset) = false) (passes : s.Passes readSpec (oneRead q (r.pid i j)) x) :
    execParRead (oneRead q (r.pid i j)) s =
      .next (((s.afterChecks readSpec (oneRead q (r.pid i j))).afterRead r i).answer (pendOf 0x0010 q) 0 0 (leBytes 2 1 ++ [0, 0] ++
        readBytes (0, r.ty.code, (s.afterChecks readSpec (oneRead q (r.pid i j))).readPar r i j))) := by
  obtain ⟨unit, element⟩ := State.resolvePid_unit resolves
  have one : s.parRead (oneRead q (r.pid i j)) = s.readOne q r i j := by
    unfold State.readOne
    rw [show unitPid r i j = r.pid i j from if_pos (by simp [unit, element])]
    rfl
  refine congrArg _ (one.trans (passes.readsOne unit element word ?_))
  rw [active]
  exact State.readEntry_active ((State.resolvePid_sec State.afterChecks_sec _).trans resolves)
    (by rw [State.afterChecks_hallB, Bool.and_comm]; exact held)

/-- A writable row of FLIGHT has no condition and no effect of its own: its value is stored. -/
theorem State.applyPar_flight (cls : r.cls = 0x11) (acc : r.acc = .rw) : s.applyPar r i j v = (0, s.setPar (r.pid i j) v) := by
  have other {q : ParRow} (h : q.cls ≠ 0x11 ∨ q.acc ≠ .rw) : r ≠ q := by
    rintro rfl
    exact h.elim (absurd cls) (absurd acc)
  unfold State.applyPar
  iterate 24 refine (if_neg (other (by decide))).trans ?_
  refine (if_neg (by simp [cls])).trans (if_neg ?_)
  simp [ParRow.ofGear, cls]

theorem execParWrite_flight (writes : s.Writes q r i j v x) (cls : r.cls = 0x11) (acc : r.acc = .rw) :
    ∃ t, execParWrite (oneEntry q (r.pid i j) v) s = .next t ∧ t.Written q ∧ t.par r i j = v := by
  have one : s.parWrite (oneEntry q (r.pid i j) v) = s.writeOne q r i j v := by
    unfold State.writeOne
    rw [show unitPid r i j = r.pid i j from if_pos (by simp [writes.unit, writes.element])]
  obtain ⟨h, written, reach⟩ := writes.takesEffect (f := fun h => State.setPar { s with host := h } (r.pid i j) v)
    (fun h => State.applyPar_flight cls acc) (fun h => rfl)
  exact ⟨_, congrArg Host.Outcome.next one, written, State.par_of_set (reach.params rfl) (rowOfPid_of_resolves writes.row)⟩

/-- What PAR_READ_ARRAY asks of a packet of 8 bytes (12 R422). -/
def readArraySpec : OpSpec := { code := 0x0012, perm := .read, lenOk := true, hallOk := true, deferred := true }

/-- The elements of one row that are asked for are read one after the other. -/
theorem State.serveReadArray_reads {p : Pend} {payload : Bytes} (up : s.hallB.inReset = false)
    (first : s.resolvePid (fieldAt payload 0 4) = .inr (r, i, j)) (count : n = fieldAt payload 4 2) (least : 1 ≤ n) (most : n ≤ 1024)
    (fits : j + n ≤ r.len) (resolves : ∀ m, m < n → s.resolvePid (fieldAt payload 0 4 + m) = .inr (r, i, j + m)) :
    s.serveReadArray p 0 payload = (s.afterRead r i).answer p 0 0 ([BitVec.ofNat 8 r.ty.code, 0] ++ leBytes 2 n ++
      (List.range n).flatMap (fun m => leBytes 4 (s.readPar r i (j + m)).toNat)) := by
  have entry {m : Nat} (lt : m < n) :
      s.readEntry 0 (fieldAt payload 0 4 + m) = ((0, r.ty.code, s.readPar r i (j + m)), s.afterRead r i) :=
    State.readEntry_active (resolves m lt) (by rw [up]; rfl)
  have good : ((List.range n).map (fieldAt payload 0 4 + ·)).find? (fun q => decide ((s.readEntry 0 q).1.1 ≠ stOK)) = none := by
    rw [List.find?_eq_none]
    intro q mem
    obtain ⟨m, lt, rfl⟩ := List.mem_map.1 mem
    simp [entry (List.mem_range.1 lt), stOK]
  have values : ((List.range n).map (fieldAt payload 0 4 + ·)).flatMap (fun q => leBytes 4 (s.readEntry 0 q).1.2.2.toNat) =
      (List.range n).flatMap (fun m => leBytes 4 (s.readPar r i (j + m)).toNat) := by
    rw [List.flatMap_map]
    exact List.flatMap_congr fun m lt => by rw [entry (List.mem_range.1 lt)]
  unfold State.serveReadArray
  simp only [← count, first]
  rw [if_neg (by simp; omega), if_neg (Nat.not_lt.2 fits), good]
  simp only [values, show s.readEntry 0 (fieldAt payload 0 4) = _ from entry (m := 0) least]
  rfl

theorem execParReadArray_reads (passes : s.Passes readArraySpec k x) (left : u = s.afterChecks readArraySpec k)
    (length : k.payload.length = 8) (active : k.hdr.hall = 0) (up : s.hallB.inReset = false)
    (first : s.resolvePid (fieldAt k.payload 0 4) = .inr (r, i, j)) (count : n = fieldAt k.payload 4 2) (least : 1 ≤ n) (most : n ≤ 1024)
    (fits : j + n ≤ r.len) (resolves : ∀ m, m < n → s.resolvePid (fieldAt k.payload 0 4 + m) = .inr (r, i, j + m)) :
    execParReadArray k s = .next ((u.afterRead r i).answer (pendOf 0x0012 k.hdr) 0 0 ([BitVec.ofNat 8 r.ty.code, 0] ++ leBytes 2 n ++
      (List.range n).flatMap (fun m => leBytes 4 (u.readPar r i (j + m)).toNat))) := by
  subst left
  unfold execParReadArray
  rw [length, active]
  exact (passes.serves (o := readArraySpec)).trans (congrArg _
    (State.serveReadArray_reads (s := s.afterChecks readArraySpec k) up ((State.resolvePid_sec State.afterChecks_sec _).trans first) count least most fits
      fun m lt => (State.resolvePid_sec State.afterChecks_sec _).trans (resolves m lt)))

end

/-! ### The gallery (11 R403, 12 R422) -/

section

variable {s : State} {k : Pkt} {x : Session}

/-- What GAL_READ and GAL_TRACE_READ ask of a packet of their length (12 R422). -/
def galReadSpec : OpSpec := { code := 0x0040, perm := .read, lenOk := true, deferred := true }
def galTraceReadSpec : OpSpec := { code := 0x0041, perm := .read, lenOk := true, deferred := true }

/-- A read of the gallery that is in order shows what passes its filters from where it begins, and says where it ends. -/
theorem execGalRead_served {r : GalReq} {all from' hits : List Shown} {start cursor stop : Nat} {more : Bool}
    (passes : s.Passes galReadSpec k x) (length : k.payload.length = 28) (ok : galReqOk k.payload = true) (free : s.galBusy = false)
    (asked : r = galReq k.payload) (held : all = s.shownArea r.area r.dx) (place : start = s.seqPlace r.area r.start)
    (rest : from' = (if r.older then all.reverse else all).dropWhile (r.before start)) (passing : hits = from'.filter r.passes)
    (exceeds : more = decide (r.max < hits.length))
    (reached : cursor = ((if more then (hits.take r.max).getLast? else from'.getLast?).map (·.seq)).getD r.start)
    (ends : stop = (if r.older && !more then max 1 (min ((all.head?.map (·.place)).getD start) (start - 1)) else s.seqPlace r.area cursor)) :
    execGalRead k s = .next ((s.afterChecks galReadSpec k).answer (pendOf 0x0040 k.hdr) 0 0 (leBytes 1 (hits.take r.max).length ++
      leBytes 1 (bitN (r.gap start stop (placeOf (s.seqWrapped r.area) (s.areaNext r.area) (s.areaNext r.area - 1)) (all.map (·.place))) 0 +
        bitN (!more) 1) ++ leBytes 2 (if r.dx then 32 else 64) ++ leBytes 4 cursor ++ (hits.take r.max).flatMap (·.bytes))) := by
  have free' : (s.afterChecks galReadSpec k).galBusy = false := free
  have reached' : cursor = if more then ((hits.take r.max).getLast?.map (·.seq)).getD r.start else (from'.getLast?.map (·.seq)).getD r.start := by
    rw [reached]
    split <;> rfl
  clear reached
  subst asked held place rest passing exceeds reached' ends
  unfold execGalRead
  rw [length]
  refine (passes.serves (o := galReadSpec)).trans (congrArg _ ?_)
  unfold State.serveGalRead
  rw [ok, free']
  rfl

theorem execGalTraceRead_served {tr : Trace} (passes : s.Passes galTraceReadSpec k x) (length : k.payload.length = 12)
    (least : 1 ≤ fieldAt k.payload 8 2) (most : fieldAt k.payload 8 2 ≤ 1024) (free : s.galBusy = false)
    (found : s.gallery.traces.find? (fun t => t.seq.toNat = fieldAt k.payload 0 4) = some tr) :
    execGalTraceRead k s = .next ((s.afterChecks galTraceReadSpec k).answer (pendOf 0x0041 k.hdr) 0 0
      (leBytes 2 ((tr.data.drop (fieldAt k.payload 4 4)).take (fieldAt k.payload 8 2)).length ++ [0, 0] ++
        (tr.data.drop (fieldAt k.payload 4 4)).take (fieldAt k.payload 8 2))) := by
  have free' : (s.afterChecks galTraceReadSpec k).galBusy = false := free
  have found' : (s.afterChecks galTraceReadSpec k).gallery.traces.find? (fun t => t.seq.toNat = fieldAt k.payload 0 4) = some tr := found
  unfold execGalTraceRead
  rw [length]
  refine (passes.serves (o := galTraceReadSpec)).trans (congrArg _ ?_)
  unfold State.serveTraceRead
  rw [if_neg (by simp; omega), free', found']
  rfl

end

/-- Settles O58: each packet that passes its checks is answered from the state that they leave, which differs from the one before by its
host link alone. -/
theorem readsAndWritesAreAnswered : Obligations.ReadsAndWritesAreAnswered := by
  unfold Obligations.ReadsAndWritesAreAnswered
  refine ⟨?keepalive, ?identify, ?read, ?write, ?array, ?info, ?slots, ?gallery, ?trace⟩
  case keepalive =>
    exact fun s k x passes empty => ⟨_, execKeepalive_served passes empty, passes.answered rfl 0 0 _⟩
  case identify =>
    exact fun s k x passes empty => ⟨_, execIdentify_served passes empty, passes.answered rfl 0 0 _⟩
  case read =>
    intro s q x r i j active word resolves held passes
    refine ⟨_, execParRead_one active word resolves held passes, ?_⟩
    have replied := passes.answered (t := (s.afterChecks readSpec (oneRead q (r.pid i j))).afterRead r i)
      (congrArg HostLink.sessions State.afterRead_host) 0 0 (leBytes 2 1 ++ [0, 0] ++
        readBytes (0, r.ty.code, (s.afterChecks readSpec (oneRead q (r.pid i j))).readPar r i j))
    unfold readBytes at replied ⊢
    cases ty : r.ty <;> simpa [ty, PType.code, readSpec, oneRead] using replied
  case write =>
    exact fun s q x r i j v _ writes cls acc => execParWrite_flight writes cls acc
  case array =>
    intro s u k x r i j n passes left length active up first count least most fits resolves
    refine ⟨_, execParReadArray_reads passes left length active up first count least most fits resolves, ?_⟩
    have replied := passes.answered (t := u.afterRead r i) (congrArg HostLink.sessions (State.afterRead_host.trans (left ▸ rfl))) 0 0
      ([BitVec.ofNat 8 r.ty.code, 0] ++ leBytes 2 n ++ (List.range n).flatMap (fun m => leBytes 4 (u.readPar r i (j + m)).toNat))
    cases ty : r.ty <;> simpa [ty, PType.code] using replied
  case info =>
    exact fun s k x r i j passes length resolves => ⟨_, execParInfo_served passes length resolves, passes.answered rfl 0 0 _⟩
  case slots =>
    exact fun s k x passes empty => ⟨_, execSlotInfo_served passes empty, passes.answered rfl 0 0 _⟩
  case gallery =>
    intro s k x r all from' hits start cursor stop more passes length ok free asked held place rest passing exceeds reached ends
    exact ⟨_, _, execGalRead_served passes length ok free asked held place rest passing exceeds reached ends, passes.answered rfl 0 0 _,
      fun fresh => by simp [GalReq.gap, fresh], rfl⟩
  case trace =>
    intro s k x tr bs passes length least most free found part
    subst part
    exact ⟨_, execGalTraceRead_served passes length least most free found, passes.answered rfl 0 0 _⟩

end Sys2Proof.Machine
end

section
/-! PROOFS: images are staged, activated and rolled back, and refused where the halls disagree (O59). -/

namespace Sys2Proof.Machine

/-! ### Transfers of staged objects (12 R422, R424) -/

section

variable {s : State} {k : Pkt} {x : Session} {y : Xfer} {p : Pend} {kind : XKind} {lo hi : Nat}

/-- What STAGE_BEGIN asks of a packet of 40 bytes, and STAGE_DATA of one of its length, where the kind may be staged (12 R422). -/
def stageBeginSpec : OpSpec := { code := 0x0050, perm := .config, lenOk := true }
def stageDataSpec : OpSpec := { code := 0x0051, perm := .config, lenOk := true }

theorem execStageBegin_opens (passes : s.Passes stageBeginSpec k x) (length : k.payload.length = 40)
    (names : stageKindOf (fieldAt k.payload 0 1) = some (kind, lo, hi)) (isOpen : s.stageOpen kind = true) (up : s.hallB.inReset = false)
    (least : lo ≤ fieldAt k.payload 4 4) (most : fieldAt k.payload 4 4 ≤ hi) (free : ∀ y ∈ s.host.xfers, y.kind ≠ kind) :
    execStageBegin k s = .next (((s.afterChecks stageBeginSpec k).openXfer
      ((s.afterChecks stageBeginSpec k).newXfer k.hdr.session kind k.payload)).answer (pendOf 0x0050 k.hdr) 0 0
        (leBytes 2 s.host.nextXfer ++ leBytes 2 4096)) := by
  have permitted : s.stageState (some kind) = true := isOpen
  unfold execStageBegin
  simp only [names, length, decide_true, Option.map_some, permitted]
  refine (passes.serves (o := stageBeginSpec)).trans (congrArg _ ((if_neg ?_).trans (State.beginXfer_opens least most free)))
  rw [State.afterChecks_hallB, up]
  decide

/-- What arrives of a firmware image is written into the idle banks: that concerns the security state alone. -/
theorem execStageData_grows (passes : s.Passes stageDataSpec k x) (least : 9 ≤ k.payload.length) (most : k.payload.length ≤ 4104)
    (up : s.hallB.inReset = false) (found : s.xferOf true (fieldAt k.payload 0 2) k.hdr.session = some y)
    (isOpen : s.stageOpen y.kind = true) (runs : y.ending = false) (next : fieldAt k.payload 4 4 = y.data.length)
    (fits : y.data.length + (k.payload.length - 8) ≤ y.length) :
    ∃ sec, execStageData k s = .next { ((s.afterChecks stageDataSpec k).modXfer y.kind (·.grown (k.payload.drop 8) s.stamp)).answer
      (pendOf 0x0051 k.hdr) 0 0 (leBytes 4 (y.data.length + (k.payload.length - 8))) with sec := sec } := by
  have lenOk : dataLenOk k.payload = true := by simp [dataLenOk, least, most]
  have permitted : s.stageState (s.stageKind k) = true := by simpa [State.stageState, State.stageKind, found] using isOpen
  have grows := State.dataXfer_grows (s := s.afterChecks stageDataSpec k) (p := pendOf 0x0051 k.hdr) found runs next fits
  have vetted : s.vet { code := 0x0051, perm := .config, lenOk := true } k =
      .served (s.afterChecks stageDataSpec k) (pendOf 0x0051 k.hdr) x.role (some x) := State.vet_passes passes
  have runsB : (s.afterChecks stageDataSpec k).hallB.inReset = false := (congrArg (·.inReset) State.afterChecks_hallB).trans up
  unfold execStageData
  simp only [lenOk, permitted, vetted, runsB, Bool.false_eq_true, if_false]
  rw [grows, State.stamp_afterChecks]
  split
  · exact ⟨_, rfl⟩
  · exact ⟨_, rfl⟩

end

/-! ### STAGE_END of a configuration image (14 R474) -/

section

variable {s : State} {k : Pkt} {x : Session} {y : Xfer} {p : Pend} {img : Image} {step status item : Nat}

theorem State.stageDone_replied {t : State} {o : OpSpec} {e : EvCode} {n : Nat} {args : List (BitVec 32)} (passes : s.Passes o k x)
    (sessions : t.host.sessions = (s.afterChecks o k).host.sessions) :
    ((t.record e n args).stageDone (pendOf o.code k.hdr) status step item).Replied (pendOf o.code k.hdr) status item [] := by
  have kept : (t.record e n args).host.sessions = (s.afterChecks o k).host.sessions := (congrArg HostLink.sessions State.record_host).trans sessions
  generalize t.record e n args = r at kept
  exact passes.answered (t := { r with sec := { r.sec with
    lastStage := word32 (status + 256 * step), lastStageItem := if status = stOK then r.sec.lastStageItem else word32 item } }) kept status item []

theorem State.stageDone_sec : (s.stageDone p status step item).sec = { s.sec with
    lastStage := word32 (status + 256 * step), lastStageItem := if status = stOK then s.sec.lastStageItem else word32 item } :=
  (State.answer_reach (.refl _) (.refl _ _)).sec rfl

/-- An image that passes replaces STAGED, is recorded, and is answered OK. -/
theorem State.endStage_staged (config : y.kind = .config) (whole : y.whole = true)
    (passed : (s.endXfer .config).judgeImage y.data = .inl img) :
    s.endStage p y = (State.record { s.endXfer .config with sec := { s.sec with staged := some img, stagedA := some img } } Evt.configStaged
      noSource [img.version, img.check.setWidth 32]).stageDone p stOK 0 0 := by
  unfold State.endStage State.stageConfig
  simp only [config, whole, passed]
  rfl

/-- An image that is refused leaves STAGED empty, is recorded, and is answered with what the judgement found. -/
theorem State.endStage_refuses (config : y.kind = .config) (whole : y.whole = true)
    (refused : (s.endXfer .config).judgeImage y.data = .inr (step, status, item)) :
    s.endStage p y = (State.record { s.endXfer .config with sec := { s.sec with staged := none, stagedA := none } } Evt.configStageRefused
      noSource [word32 status, word32 item]).stageDone p status step item := by
  unfold State.endStage State.stageConfig
  simp only [config, whole, refused]
  rfl

theorem execStageEnd_stages {u : State} (passes : s.Passes stageEndSpec k x) (left : u = s.afterChecks stageEndSpec k) (config : y.kind = .config)
    (whole : y.whole = true) (passed : (u.endXfer .config).judgeImage y.data = .inl img) :
    (u.endStage (pendOf 0x0052 k.hdr) y).sec.staged = some img ∧ (u.endStage (pendOf 0x0052 k.hdr) y).sec.lastStage = 0 ∧
    (u.endStage (pendOf 0x0052 k.hdr) y).Replied (pendOf 0x0052 k.hdr) 0 0 [] ∧
    s.Announces Evt.configStaged noSource [img.version, img.check.setWidth 32] (u.endStage (pendOf 0x0052 k.hdr) y) := by
  have checked : Reach 4294967296 s u := left ▸ State.afterChecks_reach (.refl _) (.refl _ s)
  have sessions : u.host.sessions = (s.afterChecks stageEndSpec k).host.sessions := congrArg (·.host.sessions) left
  rw [State.endStage_staged config whole passed, State.stageDone_sec, State.record_sec]
  exact ⟨rfl, rfl, State.stageDone_replied (o := stageEndSpec) passes sessions,
    State.announces_record (State.stageDone_reach (.refl _) (.refl _ _)) (checked.hallA rfl) (checked.outs rfl)⟩

theorem execStageEnd_empties {u : State} (passes : s.Passes stageEndSpec k x) (left : u = s.afterChecks stageEndSpec k) (config : y.kind = .config)
    (whole : y.whole = true) (refused : (u.endXfer .config).judgeImage y.data = .inr (step, status, item)) :
    (u.endStage (pendOf 0x0052 k.hdr) y).sec.staged = none ∧
    (u.endStage (pendOf 0x0052 k.hdr) y).sec.lastStage = word32 (status + 256 * step) ∧
    (u.endStage (pendOf 0x0052 k.hdr) y).Replied (pendOf 0x0052 k.hdr) status item [] := by
  have sessions : u.host.sessions = (s.afterChecks stageEndSpec k).host.sessions := congrArg (·.host.sessions) left
  rw [State.endStage_refuses config whole refused, State.stageDone_sec, State.record_sec]
  exact ⟨rfl, rfl, State.stageDone_replied (o := stageEndSpec) passes sessions⟩

end

/-! ### ACTIVATE and ROLLBACK (14 R475, R476) -/

section

variable {s u : State} {k : Pkt} {x : Session} {img : Image} {p : Pend} {rollback : Bool}

/-- What ACTIVATE and ROLLBACK ask of a packet of 4 bytes (12 R422). -/
def activateSpec : OpSpec := { code := 0x0053, perm := .config, lenOk := true, deferred := true }
def rollbackSpec : OpSpec := { code := 0x0054, perm := .config, lenOk := true, deferred := true }

/-- The slot that a request names holds an image of its version that fits the seal, nothing forbids its activation, and every axis
rests (14 R475). -/
structure State.MayActivate (s : State) (rollback : Bool) (img : Image) (version : Nat) : Prop where
  mode : s.mode = .standby ∨ s.mode = .maintenance
  up : s.hallB.inReset = false
  alone : s.excluded = false
  slot : (if rollback then s.sec.previous else s.sec.staged) = some img
  version : img.version.toNat = version
  sealed' : s.sealFits img = true
  rest : s.movingAxes = []

/-- The activation as it is accepted: its slot record is still to be written. -/
def State.newActivation (s : State) (rollback : Bool) : Activating :=
  ⟨rollback, (s.sec.active.map (·.version)).getD 0, s.stamp + 1000, none⟩

/-- The state in which an accepted request waits for its slot record. -/
def State.awaitingSlots (s : State) (p : Pend) (rollback : Bool) : State :=
  { s.beginExclusive p with sec := { s.sec with activating := some (s.newActivation rollback) } }

/-- With every axis at rest an accepted request comes to its slot record at once. -/
theorem State.MayActivate.serves {payload : Bytes} (may : s.MayActivate rollback img (fieldAt payload 0 4)) :
    s.serveActivation p rollback payload = (s.awaitingSlots p rollback).writeSlots := by
  have mode : (s.mode == .standby || s.mode == .maintenance) = true := by
    rcases may.mode with mode | mode <;> rw [mode] <;> rfl
  have names : s.activationOf rollback (fieldAt payload 0 4) = .inl img := by
    unfold State.activationOf
    simp [may.slot, may.version, may.sealed']
  have rest : (s.awaitingSlots p rollback).movingAxes = [] := may.rest
  have begun : s.beginActivation p rollback = (s.awaitingSlots p rollback).writeSlots := by
    unfold State.beginActivation
    extract_lets old u v w t
    have still : t = s.awaitingSlots p rollback := congrArg (List.foldl _ w) rest
    rw [still, rest]
    rfl
  unfold State.serveActivation
  simp only [mode, may.up, may.alone, names]
  exact begun

/-- The checks of a packet concern the host link alone, and neither of the operations that exclude the others. -/
theorem State.afterChecks_link (s : State) (o : OpSpec) (k : Pkt) :
    ∃ h : HostLink, s.afterChecks o k = { s with host := h } ∧ h.exclusive = s.host.exclusive ∧ h.restart = s.host.restart := by
  unfold State.afterChecks
  dsimp only
  split
  · exact ⟨_, rfl, rfl, rfl⟩
  · exact ⟨_, rfl, rfl, rfl⟩

theorem State.MayActivate.afterChecks {version : Nat} {o : OpSpec} (may : s.MayActivate rollback img version) :
    (s.afterChecks o k).MayActivate rollback img version := by
  obtain ⟨h, left, exclusive, restart⟩ := s.afterChecks_link o k
  have alone : ({ s with host := h } : State).excluded = false := by
    have alone := may.alone
    unfold State.excluded at alone ⊢
    rw [exclusive, restart]
    exact alone
  exact left ▸ ⟨may.mode, may.up, alone, may.slot, may.version, may.sealed', may.rest⟩

theorem State.writeSlots_agree {y : Activating} (waits : s.sec.activating = some y) (agree : s.sec.shadowsAgree y.rollback = true) :
    s.writeSlots = { s with sec := { s.sec.exchange y.rollback with activating := some { y with at' := some (s.tick + 4) } } } := by
  unfold State.writeSlots
  simp only [waits]
  exact if_pos agree

theorem State.writeSlots_disagree {y : Activating} (waits : s.sec.activating = some y) (disagree : s.sec.shadowsAgree y.rollback = false) :
    s.writeSlots = (State.record { s with sec := { s.sec with activating := none, lastActivate := word32 stInternal } }
      Evt.configStageRefused noSource [word32 stInternal, 0]).answerExclusive stInternal 0 [] := by
  unfold State.writeSlots
  simp only [waits]
  exact if_neg (Bool.eq_false_iff.1 disagree)

/-- The slots are exchanged with the slot record, and both halls change four ticks later (log 64). -/
theorem State.awaitingSlots_agree (agree : s.sec.shadowsAgree rollback = true) : ((s.awaitingSlots p rollback).writeSlots).sec =
    { s.sec.exchange rollback with activating := some { s.newActivation rollback with at' := some (s.tick + 4) } } := by
  rw [State.writeSlots_agree (s := s.awaitingSlots p rollback) rfl agree]
  cases rollback <;> rfl

theorem State.answerExclusive_waits {status item : Nat} {payload : Bytes} (waits : s.host.exclusive = some p) :
    s.answerExclusive status item payload =
      State.answer { s with host := { s.host with exclusive := none } } p status item payload := by
  unfold State.answerExclusive
  rw [waits]

/-- What an activation leaves as it was where the shadow copies of the halls disagree: it is answered INTERNAL, recorded, and every slot
stays. -/
structure State.Withdrawn (s : State) (p : Pend) (t : State) : Prop where
  active : t.sec.active = s.sec.active
  staged : t.sec.staged = s.sec.staged
  previous : t.sec.previous = s.sec.previous
  ended : t.sec.activating = none
  params : t.params = s.params
  replied : t.Replied p stInternal 0 []
  announced : s.Announces Evt.configStageRefused noSource [word32 stInternal, 0] t

theorem State.withdraws {v : State} {o : OpSpec} {word : BitVec 32} (passes : s.Passes o k x)
    (sec : v.sec = { s.sec with activating := none, lastActivate := word }) (params : v.params = s.params) (hallA : v.hallA = s.hallA)
    (outs : v.outs = s.outs) (waits : v.host.exclusive = some (pendOf o.code k.hdr))
    (sessions : v.host.sessions = (s.afterChecks o k).host.sessions) :
    s.Withdrawn (pendOf o.code k.hdr)
      ((v.record Evt.configStageRefused noSource [word32 stInternal, 0]).answerExclusive stInternal 0 []) := by
  have later := State.answerExclusive_reach (status := stInternal) (item := 0) (payload := []) (.refl _)
    (.refl _ (v.record Evt.configStageRefused noSource [word32 stInternal, 0]))
  have slots := (later.sec rfl).trans (State.record_sec.trans sec)
  have link : (v.record Evt.configStageRefused noSource [word32 stInternal, 0]).host = v.host := State.record_host
  refine ⟨by rw [slots], by rw [slots], by rw [slots], by rw [slots],
    (later.params rfl).trans (State.record_params.trans params), ?_, State.announces_record later hallA outs⟩
  generalize v.record Evt.configStageRefused noSource [word32 stInternal, 0] = r at link
  rw [State.answerExclusive_waits ((congrArg HostLink.exclusive link).trans waits)]
  exact passes.answered (t := { r with host := { r.host with exclusive := none } }) ((congrArg HostLink.sessions link).trans sessions) stInternal 0 []

theorem State.awaitingSlots_disagree {o : OpSpec} (passes : s.Passes o k x) (disagree : s.sec.shadowsAgree rollback = false) :
    s.Withdrawn (pendOf o.code k.hdr) ((s.afterChecks o k).awaitingSlots (pendOf o.code k.hdr) rollback).writeSlots := by
  obtain ⟨h, left, exclusive, restart⟩ := s.afterChecks_link o k
  have sessions : (s.afterChecks o k).host.sessions = h.sessions := congrArg (·.host.sessions) left
  rw [left, State.writeSlots_disagree (s := State.awaitingSlots { s with host := h } _ _) rfl disagree]
  exact State.withdraws passes rfl rfl rfl rfl rfl sessions.symm

theorem execActivate_served (passes : s.Passes activateSpec k x) (length : k.payload.length = 4) :
    execActivate k s = .next ((s.afterChecks activateSpec k).serveActivation (pendOf 0x0053 k.hdr) false k.payload) := by
  unfold execActivate
  rw [length]
  exact passes.serves (o := activateSpec)

theorem execRollback_served (passes : s.Passes rollbackSpec k x) (length : k.payload.length = 4) :
    execRollback k s = .next ((s.afterChecks rollbackSpec k).serveActivation (pendOf 0x0054 k.hdr) true k.payload) := by
  unfold execRollback
  rw [length]
  exact passes.serves (o := rollbackSpec)

end

/-! ### The change of both halls (14 R475) -/

section

variable {s : State} {x : Activating} {img : Image} {at' : Nat}

/-- Nothing is served any more that excludes other operations. -/
theorem State.answerExclusive_frees {status item : Nat} {payload : Bytes} : (s.answerExclusive status item payload).host.exclusive = none := by
  unfold State.answerExclusive
  split
  · assumption
  · next p _ =>
    obtain ⟨cache, host⟩ := State.answer_host { s with host := { s.host with exclusive := none } } p status item payload
    rw [host, HostLink.answered]

/-- Loading an image changes neither the ACTIVE slot nor the count of the activations, and drops the program's override. -/
theorem State.activateAll_slots : (s.activateAll img).sec.active = s.sec.active ∧ (s.activateAll img).sec.activations = s.sec.activations ∧
    (s.activateAll img).sec.activating = s.sec.activating ∧ (s.activateAll img).prog.override = none := by
  unfold State.activateAll
  extract_lets old sec₀ s₁ s₂ s₃ pids safety₀ seal₀ s₄ s₅ s₆ s₇
  have program : s₂.sec = (s₁.loadValues (some img)).sec := (State.floodChanged_reach (.refl _) (.refl _ _)).sec rfl
  have loaded : s₃.sec = (s₁.loadValues (some img)).sec ∧ s₃.prog.override = none := by
    unfold s₃
    split
    · exact ⟨program, rfl⟩
    · exact ⟨State.record_sec.trans program, congrArg Prog.override State.record_prog⟩
  have later : Reach 50841071636 s₃ (old.activateRing s₇.activateKeys pids) :=
    State.activateRing_reach (.of_or rfl) (State.activateKeys_reach (.of_or rfl) (State.loadCan_reach (.of_or rfl) (State.loadTrain_reach (.of_or rfl)
      (State.refreshConns_reach (.of_or rfl) (State.activateMaps_reach (.of_or rfl) (State.activateAxes_reach (.of_or rfl)
        (State.activatePorts_reach (.of_or rfl) (State.activateLines_reach (.of_or rfl) (State.activateTreads_reach (.of_or rfl)
          (State.loadFeeds_reach (.of_or rfl) (State.loadLimp_reach (.of_or rfl) (Reach.set_safety (.of_or rfl) (.refl _ _) rfl))))))))))))
  rw [later.sec rfl, later.prog rfl, loaded.1]
  exact ⟨rfl, rfl, rfl, loaded.2⟩

theorem execActivationTick_changes (waits : s.sec.activating = some x) (written : x.at' = some at') (due : at' ≤ s.tick)
    (active : s.sec.active = some img) : execActivationTick s = .next (s.finishActivation x img) := by
  unfold execActivationTick
  simp only [waits, active, written]
  rw [if_neg (Nat.not_lt.2 due)]

theorem State.finishActivation_slots : (s.finishActivation x img).sec.activating = none ∧
    (s.finishActivation x img).sec.activations = s.sec.activations + 1 ∧ (s.finishActivation x img).sec.active = s.sec.active ∧
    (s.finishActivation x img).prog.override = none ∧ (s.finishActivation x img).host.exclusive = none := by
  unfold State.finishActivation
  extract_lets sec₀ s₁ s₂ s₃
  obtain ⟨active, activations, activating, override⟩ := State.activateAll_slots (s := s₁) (img := img)
  have later : Reach 40802189312 s₂ (s₃.answerExclusive stOK 0 (leBytes 4 img.version.toNat)) :=
    State.answerExclusive_reach (.of_or rfl) (State.record_reach (.of_or rfl) (.refl _ _))
  rw [later.sec rfl, later.prog rfl]
  exact ⟨activating, activations, active, override, State.answerExclusive_frees⟩

end

/-- Settles O59: a transfer takes what it is sent, an image that passes becomes STAGED, and with every axis at rest a request comes to its
slot record at once. -/
theorem imagesAreStagedAndActivated : Obligations.ImagesAreStagedAndActivated := by
  unfold Obligations.ImagesAreStagedAndActivated
  refine ⟨?begins, ?data, ?ends, ?activate, ?rollback, ?refused, ?tick⟩
  case begins =>
    intro s k x kind lo hi passes length names isOpen up least most free
    refine ⟨_, execStageBegin_opens passes length names isOpen up least most free, passes.answered State.openXfer_sessions 0 0 _,
      State.answer_xfers.trans ?_⟩
    show s.host.xfers ++ [(s.afterChecks stageBeginSpec k).newXfer k.hdr.session kind k.payload] = _
    rw [State.newXfer, State.stamp_afterChecks]
    rfl
  case data =>
    intro s k x y passes least most up found isOpen runs next fits
    obtain ⟨sec, grows⟩ := execStageData_grows passes least most up found isOpen runs next fits
    refine ⟨_, grows, passes.answered State.modXfer_sessions 0 0 _, (State.xferOf_of_xfers State.answer_xfers).trans ?_⟩
    exact State.xferOf_modXfer (s := s.afterChecks stageDataSpec k) (fun _ => ⟨rfl, rfl, rfl⟩) found
  case ends =>
    intro s k x y passes length up named config isOpen whole
    have handled := execStageEnd_whole passes length up named (config ▸ isOpen)
    refine ⟨_, handled, ?_⟩
    split
    · next img passed => exact execStageEnd_stages passes rfl config whole passed
    · next step status item refused => exact execStageEnd_empties passes rfl config whole refused
  case activate =>
    intro s k x img passes length mode up alone staged version fits rest agree
    have may : s.MayActivate false img (fieldAt k.payload 0 4) := ⟨mode, up, alone, staged, version, fits, rest⟩
    have sec := State.awaitingSlots_agree (s := s.afterChecks activateSpec k) (p := pendOf 0x0053 k.hdr) (rollback := false)
      (State.afterChecks_sec.symm ▸ agree)
    refine ⟨_, (execActivate_served passes length).trans (congrArg _ may.afterChecks.serves), ?_⟩
    rw [sec, State.afterChecks_sec]
    exact ⟨staged, rfl, rfl, rfl⟩
  case rollback =>
    intro s k x img passes length mode up alone previous version fits rest agree
    have may : s.MayActivate true img (fieldAt k.payload 0 4) := ⟨mode, up, alone, previous, version, fits, rest⟩
    have sec := State.awaitingSlots_agree (s := s.afterChecks rollbackSpec k) (p := pendOf 0x0054 k.hdr) (rollback := true)
      (State.afterChecks_sec.symm ▸ agree)
    refine ⟨_, (execRollback_served passes length).trans (congrArg _ may.afterChecks.serves), ?_⟩
    rw [sec, State.afterChecks_sec]
    exact ⟨previous, rfl⟩
  case refused =>
    intro s k x img c rollback code request passes length mode up alone version fits rest disagree
    obtain ⟨active, staged, previous, ended, params, replied, announced⟩ := State.awaitingSlots_disagree passes disagree
    refine ⟨_, ?_, active, staged, previous, ended, params, replied, announced⟩
    obtain ⟨rfl, rfl, rfl, slot⟩ | ⟨rfl, rfl, rfl, slot⟩ := request
    · have may : s.MayActivate false img (fieldAt k.payload 0 4) := ⟨mode, up, alone, slot, version, fits, rest⟩
      exact (execActivate_served passes length).trans (congrArg _ may.afterChecks.serves)
    · have may : s.MayActivate true img (fieldAt k.payload 0 4) := ⟨mode, up, alone, slot, version, fits, rest⟩
      exact (execRollback_served passes length).trans (congrArg _ may.afterChecks.serves)
  case tick =>
    intro s x img at' waits written due active
    obtain ⟨activating, activations, active', override, exclusive⟩ := State.finishActivation_slots (s := s) (x := x) (img := img)
    exact ⟨_, execActivationTick_changes waits written due active, activating, activations, active'.trans active, override, exclusive⟩

end Sys2Proof.Machine
end

section
/-! PROOFS: attestation, the certificate, host keys, the calibration check and rejected packets (O60). -/

namespace Sys2Proof.Machine

/-! ### Attestation and the certificate (14 R488 to R490) -/

section

variable {s : State} {k : Pkt} {x : Session} {p : Pend} {nonce : Bytes}

/-- What a challenge asks of its packet, and what a continuation of its report (12 R422). -/
def challengeSpec : OpSpec := { code := 0x0060, perm := .read, lenOk := true, deferred := true }
def continuationSpec : OpSpec := { code := 0x0060, perm := .read, lenOk := true }

theorem State.attest_challenges (passes : s.Passes challengeSpec k x) (length : k.payload.length = 32) (fresh : isContinuation k.payload = false) :
    s.attest k = (s.afterChecks challengeSpec k).challenge (pendOf 0x0060 k.hdr) k.payload := by
  unfold State.attest
  rw [length, fresh]
  exact passes.serves (o := challengeSpec)

theorem State.attest_continues (passes : s.Passes continuationSpec k x) (length : k.payload.length = 32) (more : isContinuation k.payload = true) :
    s.attest k = (s.afterChecks continuationSpec k).continueReport (pendOf 0x0060 k.hdr) (fieldAt k.payload 28 4) := by
  unfold State.attest
  rw [length, more]
  exact passes.serves (o := continuationSpec)

/-- A report says nothing of the host link. -/
theorem State.reportBody_afterChecks {o : OpSpec} : (s.afterChecks o k).reportBody nonce = s.reportBody nonce := by
  obtain ⟨h, left, _, _⟩ := s.afterChecks_link o k
  rw [left]
  rfl

theorem State.challenge_attests (up : s.hallB.inReset = false) (free : s.sec.attesting = none) :
    (s.challenge p nonce).sec.attesting = some ⟨s.reportBody nonce, p⟩ := by
  unfold State.challenge
  rw [up, free]
  rfl

theorem State.continueReport_piece {r : Bytes} {ofs : Nat} (up : s.hallB.inReset = false) (kept : s.sec.report = some (p.session, r)) :
    s.continueReport p ofs = s.answer p stOK 0 (reportPiece r ofs) := by
  unfold State.continueReport
  rw [up, kept]
  exact if_pos rfl

/-- The state in which an attestation has been signed, and its report is kept for the session that asked. -/
def State.signed (s : State) (y : Attest) : State :=
  { s with sec := { s.sec with
      attesting := none, attests := s.sec.attests + 1, report := some (y.pend.session, signedReport y.body) } }

theorem execAttestSigned_signs {y : Attest} (waits : s.sec.attesting = some y) (up : s.hallB.inReset = false) (live : y.pend.ended = false)
    (named : s.session? y.pend.session = some x) :
    execAttestSigned s = .next ((s.signed y).answer y.pend 0 0 (reportPiece (signedReport y.body) 0)) := by
  unfold execAttestSigned
  simp only [waits, up, live, named]
  rfl

/-- What CERT_READ asks of a packet of 8 bytes (12 R422). -/
def certReadSpec : OpSpec := { code := 0x0061, perm := .read, lenOk := true }

theorem execCertRead_reads {bs : Bytes} (passes : s.Passes certReadSpec k x) (length : k.payload.length = 8) (least : 1 ≤ fieldAt k.payload 4 2)
    (most : fieldAt k.payload 4 2 ≤ 4096) (up : s.hallB.inReset = false)
    (part : bs = (s.sec.certificate.drop (fieldAt k.payload 0 4)).take (fieldAt k.payload 4 2)) :
    execCertRead k s = .next ((s.afterChecks certReadSpec k).answer (pendOf 0x0061 k.hdr) 0 0
      (leBytes 4 s.sec.certificate.length ++ leBytes 2 bs.length ++ [0, 0] ++ bs)) := by
  unfold execCertRead
  rw [length]
  refine (passes.serves (o := certReadSpec)).trans ?_
  dsimp only
  rw [if_neg (by simp; omega), State.afterChecks_hallB, State.afterChecks_sec, up, ← part]
  rfl

end

/-! ### Host keys (12 R421) -/

section

variable {s : State} {k : Pkt} {x : Session} {slot role cause : Nat} {n : BitVec 16}

/-- What HOST_KEY_SET asks of a packet of 36 bytes over SV, of one who may write, and HOST_KEY_REVOKE of one of 4 bytes (12 R422). -/
def hostKeySetSpec : OpSpec := { code := 0x0062, perm := .read, lenOk := true }
def hostKeyRevokeSpec : OpSpec := { code := 0x0063, perm := .config, lenOk := true }

/-- A request that passes the checks is answered after its record, too. -/
theorem State.Passes.answered_record {t : State} {o : OpSpec} {e : EvCode} {args : List Word} (passes : s.Passes o k x)
    (sessions : t.host.sessions = (s.afterChecks o k).host.sessions) (status item : Nat) (payload : Bytes) :
    ((t.record e slot args).answer (pendOf o.code k.hdr) status item payload).Replied (pendOf o.code k.hdr) status item payload :=
  passes.answered ((congrArg HostLink.sessions State.record_host).trans sessions) status item payload

/-- The state in which a slot holds a key. -/
def State.enrol (s : State) (slot : Nat) (key : HostKey) : State :=
  { s with host := { s.host with keys := s.host.keys.set slot (some key) } }

theorem State.enrol_sessions {key : HostKey} : (s.enrol slot key).host.sessions = s.host.sessions := rfl

theorem execHostKeySet_enrols (passes : s.Passes hostKeySetSpec k x) (length : k.payload.length = 36) (sv : k.hdr.sv = true)
    (may : x.role = 5 ∨ (x.role = 0 ∧ (∀ y ∈ s.host.keys, y = none) ∧ slot = 0 ∧ role = 5)) (slotIs : slot = fieldAt k.payload 0 1)
    (roleIs : role = fieldAt k.payload 1 1) (known : slot ≤ 7) (least : 1 ≤ role) (most : role ≤ 5) (empty : s.host.keys.getD slot none = none) :
    execHostKeySet k s = .next ((((s.afterChecks hostKeySetSpec k).enrol slot ⟨(k.payload.drop 4).take 32, role⟩).record Evt.hostKeySet
      noSource [word32 slot, word32 role]).answer (pendOf 0x0062 k.hdr) 0 0 []) := by
  have permitted : (x.role = 5 || (x.role = 0 && s.host.keys.all Option.isNone && slot = 0 && role = 5)) = true := by
    rcases may with integrator | ⟨observer, free, first, own⟩
    · simp [integrator]
    · have none' : s.host.keys.all Option.isNone = true := List.all_eq_true.2 fun y mem => by rw [free y mem]; rfl
      simp [observer, none', first, own]
  have empty' : (s.afterChecks hostKeySetSpec k).host.keys.getD slot none = none := empty
  have vetted : s.vet { code := 0x0062, perm := .read, permOk := true, lenOk := true, stateOk := true } k =
      .served (s.afterChecks hostKeySetSpec k) (pendOf 0x0062 k.hdr) x.role (some x) := State.vet_passes passes
  unfold execHostKeySet
  simp only [← slotIs, ← roleIs, passes.session, permitted, length, sv, decide_true, vetted, empty']
  rw [if_neg (by simp; omega)]
  rfl

theorem State.closeSession_keys : (s.closeSession n cause).host.keys = s.host.keys := by
  have link := ((State.dropDoors_reach (num := n) (.refl _) (.refl _ (s.dropAxes n))).host rfl).trans State.dropAxes_host
  unfold State.closeSession
  split
  · rfl
  · rw [State.record_host]
    simp only [link]

theorem State.revokeHostKey_keys : (s.revokeHostKey slot).host.keys = s.host.keys.set slot none := by
  unfold State.revokeHostKey
  exact (State.foldl_keeps (fun u => u.host.keys) (fun _ _ => State.closeSession_keys) _ _).trans (congrArg HostLink.keys State.record_host)

/-- Every session opened with the key of the slot ends. -/
theorem State.revokeHostKey_sessions : ∀ y ∈ (s.revokeHostKey slot).host.sessions, y.role = 0 ∨ y.slot ≠ slot := by
  unfold State.revokeHostKey
  intro y mem
  obtain ⟨was, kept⟩ := State.closeSessions_sessions _ 4 y mem
  rw [State.record_host] at was
  by_contra opened
  exact kept (List.mem_filter.2 ⟨was, by simpa [not_or] using opened⟩)

theorem State.revokeHostKey_announces : s.Announces Evt.hostKeyRevoked noSource [word32 slot] (s.revokeHostKey slot) := by
  unfold State.revokeHostKey
  exact State.announces_record (Reach.foldl _ (.refl _ _) fun u x reached => State.closeSession_reach (.refl _) reached) rfl rfl

theorem execHostKeyRevoke_revokes (passes : s.Passes hostKeyRevokeSpec k x) (length : k.payload.length = 4) (slotIs : slot = fieldAt k.payload 0 1)
    (known : slot ≤ 7) :
    execHostKeyRevoke k s = .next (((s.afterChecks hostKeyRevokeSpec k).answer (pendOf 0x0063 k.hdr) 0 0 []).revokeHostKey slot) := by
  unfold execHostKeyRevoke
  rw [length, ← slotIs]
  refine (passes.serves (o := hostKeyRevokeSpec)).trans (congrArg _ ?_)
  exact if_neg (Nat.not_lt.2 known)

end

/-! ### CAL_CHECK and rejected packets (14 R466, 12 R414) -/

section

variable {s : State} {k : Pkt} {x : Session} {sv : Bool} {src : BitVec 48} {frame raw : Bytes} {st : Nat}

/-- What CAL_CHECK asks of an empty packet (12 R422). -/
def calCheckSpec : OpSpec := { code := 0x0072, perm := .read, lenOk := true, deferred := true }

theorem execCalCheck_compares (passes : s.Passes calCheckSpec k x) (empty : k.payload = []) (up : s.hallB.inReset = false) :
    execCalCheck k s = .next ((s.afterChecks calCheckSpec k).answer (pendOf 0x0072 k.hdr) 0 0
      (leBytes 1 (bitN s.sectorOk 0 + bitN s.portionOk 1 + bitN s.trimsOk 2) ++ [0, 0, 0] ++ s.sectorDigest)) := by
  unfold execCalCheck
  rw [empty]
  refine (passes.serves (o := calCheckSpec)).trans ?_
  obtain ⟨h, left, _, _⟩ := s.afterChecks_link calCheckSpec k
  rw [left]
  exact if_neg (Bool.eq_false_iff.1 up)

theorem execHostPacketRejected_discards (up : s.linkUp sv = true) (unread : ∀ raw, rawPacket sv frame = some raw → rawDiscarded raw = true) :
    execHostPacketRejected sv src frame s = .next { s with host := { s.host with rxDiscards := s.host.rxDiscards + 1 } } := by
  have none' : (rawPacket sv frame).filter (fun raw => !rawDiscarded raw) = none := by
    cases read : rawPacket sv frame with
    | none => rfl
    | some raw => simp [Option.filter, unread raw read]
  unfold execHostPacketRejected
  simp only [up, none']
  rfl

theorem execHostPacketRejected_refuses (up : s.linkUp sv = true) (read : rawPacket sv frame = some raw) (whole : rawDiscarded raw = false)
    (addr : (rawPkt sv src raw).hdr.addr = 0xFF) (fails : rawStatus raw = some st) :
    execHostPacketRejected sv src frame s = .next (s.replyRaw (pendOf (fieldAt raw 8 2) (rawPkt sv src raw).hdr) none st 0 []) := by
  have some' : (rawPacket sv frame).filter (fun raw => !rawDiscarded raw) = some raw := by simp [read, Option.filter, whole]
  unfold execHostPacketRejected
  simp only [up, some', addr, fails]
  rfl

end

/-- Settles O60: each packet that passes its checks has its effect on the state that they leave, which differs from the one before by its
host link alone. -/
theorem attestationKeysAndRejectedPackets : Obligations.AttestationKeysAndRejectedPackets := by
  unfold Obligations.AttestationKeysAndRejectedPackets
  refine ⟨?challenge, ?signed, ?continuation, ?certificate, ?set, ?revoke, ?calibration, ?rejected⟩
  case challenge =>
    intro s k x passes length fresh up free
    refine ⟨_, congrArg Host.Outcome.next (State.attest_challenges passes length fresh), ?_⟩
    rw [State.challenge_attests ((congrArg (·.inReset) State.afterChecks_hallB).trans up) ((congrArg (·.attesting) State.afterChecks_sec).trans free),
      State.reportBody_afterChecks]
  case signed =>
    intro s y x waits up live numbered named source transport
    have sec := (State.answer_reach (p := y.pend) (status := 0) (item := 0) (payload := reportPiece (signedReport y.body) 0) (.refl _)
      (.refl _ (s.signed y))).sec rfl
    refine ⟨_, execAttestSigned_signs waits up live named, ?_, ?_, ?_,
      State.answer_replied (s := s.signed y) 0 0 _ numbered live named source transport⟩
    all_goals
      rw [sec]
      rfl
  case continuation =>
    intro s k x r passes length more up kept
    refine ⟨_, congrArg Host.Outcome.next (State.attest_continues passes length more), ?_⟩
    rw [State.continueReport_piece ((congrArg (·.inReset) State.afterChecks_hallB).trans up) ((congrArg (·.report) State.afterChecks_sec).trans kept)]
    exact passes.answered rfl 0 0 _
  case certificate =>
    exact fun s k x bs passes length least most up part =>
      ⟨_, execCertRead_reads passes length least most up part, passes.answered rfl 0 0 _⟩
  case set =>
    intro s k x slot role passes length sv may slotIs roleIs known least most empty
    refine ⟨_, execHostKeySet_enrols passes length sv may slotIs roleIs known least most empty, ?_, ?_,
      State.announces_record (State.answer_reach (.refl _) (.refl _ _)) rfl rfl⟩
    · rw [State.answer_keys, State.record_host]
      rfl
    · exact State.Passes.answered_record (o := hostKeySetSpec) passes State.enrol_sessions 0 0 []
  case revoke =>
    intro s k x slot passes length slotIs known
    refine ⟨_, execHostKeyRevoke_revokes passes length slotIs known, ?_, State.revokeHostKey_sessions, ?_⟩
    · rw [State.revokeHostKey_keys, State.answer_keys]
      rfl
    · have up : ((s.afterChecks hostKeyRevokeSpec k).answer (pendOf 0x0063 k.hdr) 0 0 []).hallAUp = true := by
        unfold State.hallAUp
        rw [(State.answer_reach (.refl _) (.refl _ (s.afterChecks hostKeyRevokeSpec k))).hallA rfl]
        exact passes.link_up
      exact (State.revokeHostKey_announces up).subset (.head _)
  case calibration =>
    exact fun s k x passes empty up => ⟨_, execCalCheck_compares passes empty up, passes.answered rfl 0 0 _⟩
  case rejected =>
    intro s sv src frame up
    refine ⟨execHostPacketRejected_discards up, fun raw st read whole addr fails => ?_⟩
    exact ⟨_, execHostPacketRejected_refuses up read whole addr fails, _, State.sendReply_head _ _, rfl, rfl, rfl, rfl, rfl, rfl, rfl, rfl⟩

end Sys2Proof.Machine
end

section
/-! PROOFS: events enter the gallery's queue and become records (O46). -/

namespace Sys2Proof.Machine

/-! ### GE's operations, and what arrives at it (11 R391 to R394) -/

section

variable {s : State} {e : Ev} {rest : List Ev} {act : State → State}

theorem geEvent_up (up : s.hallBUp = true) : geEvent s act = .next (act s) := congrArg Host.Outcome.next (if_pos up)

theorem geEvent_down (down : s.hallBUp = false) : geEvent s act = .next s := congrArg Host.Outcome.next (if_neg (Bool.eq_false_iff.1 down))

/-- The state in which the first arrival has been taken in. -/
def State.withArrivals (s : State) (rest : List Ev) : State := { s with gallery := { s.gallery with arrivals := rest } }

theorem execEventIntake_first (up : s.hallBUp = true) (first : s.gallery.arrivals = e :: rest) :
    execEventIntake s = .next ((s.withArrivals rest).intake e) := by
  unfold execEventIntake
  rw [geEvent_up up]
  dsimp only
  rw [first]
  rfl

/-- An entry joins the queue. -/
def State.queued (s : State) (e : Ev) : State :=
  { s with gallery := { s.gallery with queue := s.gallery.queue ++ [e], intakePeak := max s.gallery.intakePeak (s.gallery.queue.length + 1) } }

/-- In native mode an event that merges into no open record takes its window with it into the queue, where that has room. -/
theorem State.intake_queues (least : s.parN Par.galleryMinSev 0 0 ≤ e.sev) (serves : s.gallery.degraded = false)
    (native : s.parN Par.galleryFloodMode 0 0 = 0) (alone : e.sev = 5 ∨ s.gallery.openTab.any e.mergesInto = false)
    (room : (s.gallery.queue.filter (fun x => x.code ≠ Evt.eventsLost.code)).length < (if 4 ≤ e.sev then 128 else 120)) :
    s.intake e = s.queued { e with win := s.parN Par.galleryRepeatWin 0 0 } := by
  have unmerged : ¬ (decide (e.sev ≠ 5) && s.gallery.openTab.any e.mergesInto) = true := by
    rcases alone with safety | none'
    · simp [safety]
    · simp [none']
  unfold State.intake
  rw [if_neg (Nat.not_lt.2 least), serves, if_neg Bool.false_ne_true, native, if_neg (by decide)]
  unfold State.nativeIntake
  rw [if_neg unmerged]
  exact if_pos room

end

/-! ### From the queue to the store (11 R391, R392) -/

section

variable {s : State} {e : Ev} {rest : List Ev} {r : EvRec}

/-- Linking an event record leaves the event queue, the open records and the spill. -/
theorem State.linkEvent_events : (s.linkEvent r).gallery.queue = s.gallery.queue ∧ (s.linkEvent r).gallery.openTab = s.gallery.openTab ∧
    (s.linkEvent r).gallery.spill = s.gallery.spill := by
  unfold State.linkEvent
  split
  · exact ⟨rfl, rfl, rfl⟩
  · split
    · exact ⟨rfl, rfl, rfl⟩
    · exact ⟨rfl, rfl, rfl⟩

theorem State.takeCycleEntry_events : s.takeCycleEntry.gallery.queue = s.gallery.queue ∧
    s.takeCycleEntry.gallery.openTab = s.gallery.openTab ∧ s.takeCycleEntry.gallery.spill = s.gallery.spill := by
  unfold State.takeCycleEntry
  split
  · exact ⟨rfl, rfl, rfl⟩
  · split
    · exact ⟨rfl, rfl, rfl⟩
    · exact ⟨rfl, rfl, rfl⟩

/-- The record that an entry becomes now. -/
def State.recOf (s : State) (e : Ev) : EvRec := e.toRec s.gallery.logSt.nextSeq s.gallery.powerCycles s.gallery.timeEst

/-- The state in which an entry has left the queue, numbered and linked. -/
def State.dequeued (s : State) (e : Ev) (rest : List Ev) : State :=
  State.linkEvent { (s.takeSeq 1).2 with gallery := { (s.takeSeq 1).2.gallery with queue := rest } } (s.recOf e)

theorem State.dequeued_events : (s.dequeued e rest).gallery.queue = rest ∧ (s.dequeued e rest).gallery.openTab = s.gallery.openTab ∧
    (s.dequeued e rest).gallery.spill = s.gallery.spill := State.linkEvent_events

/-- Any entry but one of SAFETY or of DX-12 mode opens a record where there is one free. -/
theorem State.takeEvent_opens (first : s.gallery.queue = e :: rest) (other : e.sev ≠ 5) (native : e.flags.toNat.testBit 3 = false)
    (mode : s.parN Par.galleryFloodMode 0 0 = 0) (room : s.gallery.openTab.length < 64) (goes : s.spillWaits = false) :
    s.takeEvent = { s.dequeued e rest with gallery := { (s.dequeued e rest).gallery with
      openTab := (s.dequeued e rest).gallery.openTab ++ [s.recOf e] } } := by
  unfold State.takeEvent
  rw [first]
  dsimp only
  rw [goes, if_neg Bool.false_ne_true, if_neg (by simp [other, native, mode]), if_pos (by simp [room]), if_pos room]
  rfl

/-- An entry of SAFETY, one of DX-12 mode, and while that is in force every one, goes to the spill where that has room. -/
theorem State.takeEvent_spills (first : s.gallery.queue = e :: rest)
    (straight : e.sev = 5 ∨ e.flags.toNat.testBit 3 = true ∨ s.parN Par.galleryFloodMode 0 0 = 1) (room : s.gallery.spillRoom = true) :
    s.takeEvent = { s.dequeued e rest with gallery := { (s.dequeued e rest).gallery with
      spill := (s.dequeued e rest).gallery.spill ++ [s.recOf e] } } := by
  have goes : s.spillWaits = false := by
    unfold State.spillWaits
    rw [room]
    rfl
  have straight' : (decide (e.sev = 5) || e.flags.toNat.testBit 3 || decide (s.parN Par.galleryFloodMode 0 0 = 1)) = true := by
    rcases straight with safety | dx | mode
    · simp [safety]
    · simp [dx]
    · simp [mode]
  unfold State.takeEvent
  rw [first]
  dsimp only
  rw [goes, if_neg Bool.false_ne_true, if_pos straight', if_pos room]
  rfl

/-- While a record that must move finds the spill full, nothing is taken from the queue. -/
theorem State.takeEvent_waits (waits : s.spillWaits = true) : s.takeEvent = s := by
  unfold State.takeEvent
  split
  · rfl
  · exact if_pos waits

theorem execQueueTake_takes (up : s.hallBUp = true) : execQueueTake s = .next s.takeEvent.takeCycleEntry := geEvent_up up

theorem execQueueTake_down (down : s.hallBUp = false) : execQueueTake s = .next s := geEvent_down down

theorem execRecordWindowEnd_moves (up : s.hallBUp = true) (only : s.gallery.openTab = [r]) (ended : s.windowEnded r = true)
    (room : s.gallery.spillRoom = true) : execRecordWindowEnd s = .next (s.closeRecord r) := by
  unfold execRecordWindowEnd
  rw [geEvent_up up]
  unfold State.closeWhile
  rw [only]
  exact congrArg Host.Outcome.next (if_pos (by rw [ended, room]; rfl))

end

/-! ### EVENTS_LOST (11 R395) -/

section

variable {s : State}

/-- The state in which no loss is pending. -/
def State.lossesTold (s : State) : State :=
  { s with gallery := { s.gallery with lost := List.replicate 6 0, rateLost := 0, lossFirst := none, lossLast := 0 } }

theorem execEventsLost_queues (up : s.hallBUp = true) (serves : s.gallery.degraded = false) (pending : s.gallery.lossPending = true)
    (room : s.gallery.queue.length ≤ 64) : execEventsLost s = .next (s.lossesTold.queued s.lossEvent) := by
  unfold execEventsLost
  rw [geEvent_up up]
  exact congrArg Host.Outcome.next ((if_pos (Bool.and_eq_true_iff.2 ⟨pending, decide_eq_true room⟩)).trans (if_neg (Bool.eq_false_iff.1 serves)))

end

/-- Settles O46: an event is queued behind the others, and its record opens, or goes to the spill, while no record that must move waits
for room there. -/
theorem eventsEnterTheGallery : Obligations.EventsEnterTheGallery := by
  unfold Obligations.EventsEnterTheGallery
  refine ⟨?intake, ?window, ?opens, ?spills, ?waits, ?lost⟩
  case intake =>
    intro s e rest up first least serves native alone room
    refine ⟨_, execEventIntake_first up first, ?_⟩
    rw [State.intake_queues (s := s.withArrivals rest) least serves native alone room]
    exact ⟨rfl, rfl⟩
  case window =>
    intro s r up only ended room
    refine ⟨_, execRecordWindowEnd_moves up only ended room, ?_, rfl⟩
    exact (congrArg (List.erase · r) only).trans (List.erase_cons_head r [])
  case opens =>
    intro s e rest up first other native mode room goes
    obtain ⟨queue, openTab, _⟩ := State.takeCycleEntry_events (s := s.takeEvent)
    obtain ⟨queue', openTab', _⟩ := s.dequeued_events (e := e) (rest := rest)
    refine ⟨_, execQueueTake_takes up, queue.trans ?_, openTab.trans ?_⟩
    all_goals rw [State.takeEvent_opens first other native mode room goes]
    · exact queue'
    · exact congrArg (· ++ [s.recOf e]) openTab'
  case spills =>
    intro s e rest up first straight room
    obtain ⟨queue, openTab, spill⟩ := State.takeCycleEntry_events (s := s.takeEvent)
    obtain ⟨queue', openTab', spill'⟩ := s.dequeued_events (e := e) (rest := rest)
    refine ⟨_, execQueueTake_takes up, queue.trans ?_, openTab.trans ?_, spill.trans ?_⟩
    all_goals rw [State.takeEvent_spills first straight room]
    · exact queue'
    · exact openTab'
    · exact congrArg (· ++ [s.recOf e]) spill'
  case waits =>
    intro s waits
    cases up : s.hallBUp with
    | false => exact ⟨s, execQueueTake_down up, rfl, rfl, rfl⟩
    | true =>
      refine ⟨_, execQueueTake_takes up, ?_⟩
      rw [State.takeEvent_waits waits]
      exact State.takeCycleEntry_events
  case lost =>
    intro s up serves pending room
    refine ⟨_, execEventsLost_queues up serves pending room, rfl, List.length_append, ?_⟩
    show (s.gallery.queue ++ [s.lossEvent]).getLast?.map (·.code) = _
    rw [List.getLast?_concat]
    rfl

end Sys2Proof.Machine
end

section
/-! PROOFS: the gallery's store, page by page and record by record: what each of its operations leaves, for O47. -/

namespace Sys2Proof.Machine

/-! ### What a record leaves of the store (00 R519, 11 R383, R390) -/

section

variable {s : State} {e : EvCode} {n a : Nat} {args : List Word} {c : Bool}

/-- A gallery without what arrives at it, and without the times of its last records. -/
def Gallery.store (g : Gallery) : Gallery := { g.kept with lastRecs := [] }

theorem State.record_store : (s.record e n args).gallery.store = s.gallery.store :=
  congrArg (fun g : Gallery => { g with lastRecs := [] }) State.record_kept

theorem State.recordIf_store : (s.recordIf c e n args).gallery.store = s.gallery.store := by
  unfold State.recordIf
  split
  · exact State.record_store
  · rfl

theorem State.recordKeyed_store {key p : Nat} : (s.recordKeyed e key args p).gallery.store = s.gallery.store := by
  unfold State.recordKeyed
  extract_lets due t others
  split
  · exact State.record_store (s := s) (e := e) (n := noSource) (args := args)
  · rfl

/-- Overwritten records, and one that finds no room, change the state of their area alone, and not its next SEQ. -/
theorem State.overwrote_store {units : Nat} : ∃ f : AreaSt → AreaSt, (∀ x, (f x).nextSeq = x.nextSeq) ∧
    (s.overwrote a units).gallery.store = (s.modArea a f).gallery.store := by
  unfold State.overwrote
  split
  · refine ⟨id, fun _ => rfl, ?_⟩
    unfold State.modArea
    simp only [id]
    split
    · rfl
    · split <;> rfl
  · exact ⟨fun x => { x with wrapped := true, reclaim := x.reclaim + units }, fun _ => rfl, State.recordIf_store⟩

theorem State.dropped_store : ∃ f : AreaSt → AreaSt, (∀ x, (f x).nextSeq = x.nextSeq) ∧
    (s.dropped a).gallery.store = (s.modArea a f).gallery.store :=
  ⟨fun x => { x with dropped := x.dropped + 1 }, fun _ => rfl, State.recordKeyed_store⟩

end

/-! ### Records find a place (11 R390) -/

section

variable {s : State} {r : EvRec} {x : CycRec} {tr : Trace}

theorem placeIn_room {α : Type} {sev units : α → Nat} {excl : α → Bool} {cap n : Nat} {x : α} {l : List α}
    (room : (l.map units).sum + units x ≤ cap) : placeIn sev units excl cap x (n + 1) l = some (l ++ [x]) := if_pos room

theorem sum_map_one {α : Type} (l : List α) : (l.map fun _ => 1).sum = l.length := by simp

/-- A cycle record for which the archive has room overwrites nothing. -/
theorem State.archivePut_room (room : s.gallery.archive.length + 1 ≤ s.areaCap 0) :
    s.archivePut x = { s with gallery := { s.gallery with archive := s.gallery.archive ++ [x] } } := by
  unfold State.archivePut
  dsimp only
  rw [placeIn_room (by rw [sum_map_one]; exact room)]
  exact if_pos (by simp)

theorem State.logPut_room (room : s.gallery.log.length + 1 ≤ s.areaCap 1) :
    s.logPut r = { s with gallery := { s.gallery with log := s.gallery.log ++ [r] } } := by
  unfold State.logPut
  dsimp only
  rw [placeIn_room (by rw [sum_map_one]; exact room)]
  exact if_pos (by simp)

theorem State.tracePut_room (room : (s.gallery.traces.map Trace.units).sum + tr.units ≤ s.areaCap 2) :
    s.tracePut tr = { s with gallery := { s.gallery with traces := s.gallery.traces ++ [tr] } } := by
  unfold State.tracePut
  dsimp only
  rw [placeIn_room room]
  exact if_pos (by simp)

theorem State.foldl_archivePut_room (l : List CycRec) (room : s.gallery.archive.length + l.length ≤ s.areaCap 0) :
    l.foldl State.archivePut s = { s with gallery := { s.gallery with archive := s.gallery.archive ++ l } } := by
  induction l generalizing s with
  | nil => simp
  | cons y l ih =>
    rw [List.length_cons] at room
    rw [List.foldl_cons, State.archivePut_room (by omega), ih ?_]
    · simp
    · show (s.gallery.archive ++ [y]).length + l.length ≤ s.areaCap 0
      rw [List.length_append, List.length_singleton]
      omega

theorem State.foldl_logPut_room (l : List EvRec) (room : s.gallery.log.length + l.length ≤ s.areaCap 1) :
    l.foldl State.logPut s = { s with gallery := { s.gallery with log := s.gallery.log ++ l } } := by
  induction l generalizing s with
  | nil => simp
  | cons y l ih =>
    rw [List.length_cons] at room
    rw [List.foldl_cons, State.logPut_room (by omega), ih ?_]
    · simp
    · show (s.gallery.log ++ [y]).length + l.length ≤ s.areaCap 1
      rw [List.length_append, List.length_singleton]
      omega

/-- What waits to be written, the spills and what a start has still to write, and what it waits for: a rebuild scan, or the failed store. -/
def Gallery.waiting (g : Gallery) : List EvRec × List CycRec × List EvRec × List CycRec × Option Nat × Bool × Bool :=
  (g.spill, g.cycSpill, g.waitEv, g.waitCyc, g.rebuildFrom, g.degraded, g.paused)

theorem State.archivePut_keeps :
    (s.archivePut x).gallery.waiting = s.gallery.waiting ∧ (s.archivePut x).gallery.log = s.gallery.log := by
  unfold State.archivePut
  dsimp only
  split
  · next l _ =>
    obtain ⟨f, _, store⟩ := State.overwrote_store (s := { s with gallery := { s.gallery with archive := l } }) (a := 0)
      (units := s.gallery.archive.length + 1 - l.length)
    exact ⟨(congrArg Gallery.waiting store :), (congrArg Gallery.log store :)⟩
  · obtain ⟨f, _, store⟩ := State.dropped_store (s := s) (a := 0)
    exact ⟨(congrArg Gallery.waiting store :), (congrArg Gallery.log store :)⟩

theorem State.alcovePut_keeps :
    (s.alcovePut r).gallery.waiting = s.gallery.waiting ∧ (s.alcovePut r).gallery.archive = s.gallery.archive := by
  unfold State.alcovePut
  dsimp only
  split
  · exact ⟨rfl, rfl⟩
  · exact ⟨rfl, rfl⟩

theorem State.logPut_keeps :
    (s.logPut r).gallery.waiting = s.gallery.waiting ∧ (s.logPut r).gallery.archive = s.gallery.archive := by
  unfold State.logPut
  dsimp only
  split
  · next l _ =>
    obtain ⟨f, _, store⟩ := State.overwrote_store (s := { s with gallery := { s.gallery with log := l } }) (a := 1)
      (units := s.gallery.log.length + 1 - l.length)
    exact ⟨(congrArg Gallery.waiting store :), (congrArg Gallery.archive store :)⟩
  · obtain ⟨f, _, store⟩ := State.dropped_store (s := s) (a := 1)
    have kept : (s.dropped 1).gallery.waiting = s.gallery.waiting ∧ (s.dropped 1).gallery.archive = s.gallery.archive :=
      ⟨(congrArg Gallery.waiting store :), (congrArg Gallery.archive store :)⟩
    split
    · exact ⟨State.alcovePut_keeps.1.trans kept.1, State.alcovePut_keeps.2.trans kept.2⟩
    · exact kept

/-- A trace that is written changes neither the staging buffers nor the next SEQ of its area. -/
theorem State.tracePut_keeps :
    (s.tracePut tr).gallery.staging = s.gallery.staging ∧ (s.tracePut tr).gallery.trSt.nextSeq = s.gallery.trSt.nextSeq := by
  unfold State.tracePut
  dsimp only
  split
  · next l _ =>
    obtain ⟨f, keeps, store⟩ := State.overwrote_store (s := { s with gallery := { s.gallery with traces := l } }) (a := 2)
      (units := (s.gallery.traces.map Trace.units).sum + tr.units - (l.map Trace.units).sum)
    exact ⟨(congrArg Gallery.staging store :), (congrArg (fun g : Gallery => g.trSt.nextSeq) store :).trans (keeps _)⟩
  · obtain ⟨f, keeps, store⟩ := State.dropped_store (s := s) (a := 2)
    exact ⟨(congrArg Gallery.staging store :), (congrArg (fun g : Gallery => g.trSt.nextSeq) store :).trans (keeps _)⟩

end

end Sys2Proof.Machine
end

section
/-! PROOFS: the NAND's pages, its compaction, traces, counters and scrub (O47). -/

namespace Sys2Proof.Machine

/-! ### PAGE_PROGRAM (11 R396) -/

section

variable {s : State}

theorem Gallery.waiting_eq {g h : Gallery} (same : g.waiting = h.waiting) : g.spill = h.spill ∧ g.cycSpill = h.cycSpill ∧
    g.waitEv = h.waitEv ∧ g.waitCyc = h.waitCyc ∧ g.rebuildFrom = h.rebuildFrom ∧ g.degraded = h.degraded ∧ g.paused = h.paused := by
  unfold Gallery.waiting at same
  simpa only [Prod.mk.injEq] using same

theorem State.foldl_archivePut_keeps (l : List CycRec) : (l.foldl State.archivePut s).gallery.waiting = s.gallery.waiting ∧
    (l.foldl State.archivePut s).gallery.log = s.gallery.log :=
  ⟨State.foldl_keeps (fun u => u.gallery.waiting) (fun _ _ => State.archivePut_keeps.1) l s,
    State.foldl_keeps (fun u => u.gallery.log) (fun _ _ => State.archivePut_keeps.2) l s⟩

theorem State.foldl_logPut_keeps (l : List EvRec) : (l.foldl State.logPut s).gallery.waiting = s.gallery.waiting ∧
    (l.foldl State.logPut s).gallery.archive = s.gallery.archive :=
  ⟨State.foldl_keeps (fun u => u.gallery.waiting) (fun _ _ => State.logPut_keeps.1) l s,
    State.foldl_keeps (fun u => u.gallery.archive) (fun _ _ => State.logPut_keeps.2) l s⟩

/-- The state in which the first page of the cycle spill, or of the event spill, has left it. -/
def State.cycPaged (s : State) : State := { s with gallery := { s.gallery with cycSpill := s.gallery.cycSpill.drop 256 } }
def State.evPaged (s : State) : State := { s with gallery := { s.gallery with spill := s.gallery.spill.drop 256 } }

theorem execPageProgram_cycles (up : s.hallBUp = true) (free : s.nandFree = true) (page : 256 ≤ s.gallery.cycSpill.length) :
    execPageProgram s = .next (((s.gallery.cycSpill.take 256).foldl State.archivePut s.cycPaged).nandBusy (6 / 10)) := by
  unfold execPageProgram
  rw [geEvent_up up]
  dsimp only
  rw [free, if_neg (by decide), if_pos page]
  rfl

theorem execPageProgram_events (up : s.hallBUp = true) (free : s.nandFree = true) (short : s.gallery.cycSpill.length < 256)
    (page : 256 ≤ s.gallery.spill.length) :
    execPageProgram s = .next (((s.gallery.spill.take 256).foldl State.logPut s.evPaged).nandBusy (6 / 10)) := by
  unfold execPageProgram
  rw [geEvent_up up]
  dsimp only
  rw [free, if_neg (by decide), if_neg (Nat.not_le.2 short), if_pos page]
  rfl

end

/-! ### Erased blocks (11 R396, R398, R406) -/

section

variable {s : State} {a b : Nat} {rest : List Nat}

theorem State.wearCheck_store : ∃ warn, s.wearCheck.gallery.store = { s.gallery.store with wearWarn := warn } := by
  unfold State.wearCheck
  exact ⟨_, State.recordIf_store⟩

theorem State.nandBusy_gallery {ms : Rat} : ∃ busy, (s.nandBusy ms).gallery = { s.gallery with busyUntil := busy } := ⟨_, rfl⟩

/-- The state in which one more erase of a block is counted. -/
def State.worn (s : State) (b : Nat) : State :=
  { s with gallery := { s.gallery with wear := (b, s.gallery.erases b + 1) :: s.gallery.wear.filter (fun w => w.1 ≠ b) } }

/-- An erase counts for its block, and keeps the NAND busy. -/
theorem State.eraseBlock_store : ∃ warn busy,
    (s.eraseBlock b).gallery.store = { (s.worn b).gallery.store with wearWarn := warn, busyUntil := busy } := by
  obtain ⟨warn, store⟩ := State.wearCheck_store (s := s.worn b)
  obtain ⟨busy, held⟩ := State.nandBusy_gallery (s := (s.worn b).wearCheck) (ms := 45)
  exact ⟨warn, busy, (congrArg Gallery.store held).trans (congrArg (fun h : Gallery => { h with busyUntil := busy }) store)⟩

theorem State.eraseBlock_erases : (s.eraseBlock b).gallery.erases b = s.gallery.erases b + 1 := by
  obtain ⟨warn, busy, store⟩ := State.eraseBlock_store (s := s) (b := b)
  have wear : (s.eraseBlock b).gallery.wear = (b, s.gallery.erases b + 1) :: s.gallery.wear.filter (fun w => w.1 ≠ b) :=
    (congrArg Gallery.wear store :)
  show (((s.eraseBlock b).gallery.wear.find? (fun w => w.1 = b)).map (·.2)).getD 0 = _
  rw [wear]
  simp

/-- An erase moves no record. -/
theorem State.eraseBlock_keeps : (s.eraseBlock b).gallery.log = s.gallery.log ∧ (s.eraseBlock b).gallery.archive = s.gallery.archive ∧
    (s.eraseBlock b).gallery.traces = s.gallery.traces ∧ (s.eraseBlock b).gallery.toRefresh = s.gallery.toRefresh ∧
    (s.eraseBlock b).gallery.areaSt = s.gallery.areaSt := by
  obtain ⟨warn, busy, store⟩ := State.eraseBlock_store (s := s) (b := b)
  exact ⟨(congrArg Gallery.log store :), (congrArg Gallery.archive store :), (congrArg Gallery.traces store :),
    (congrArg Gallery.toRefresh store :), (congrArg Gallery.areaSt store :)⟩

theorem State.modArea_areaSt {f : AreaSt → AreaSt} : (s.modArea a f).gallery.areaSt a = f (s.gallery.areaSt a) := by
  unfold State.modArea Gallery.areaSt
  split
  · rfl
  · split <;> rfl

/-- A change of an area's state leaves its records, and the erase counts. -/
theorem State.modArea_keeps {f : AreaSt → AreaSt} : (s.modArea a f).gallery.log = s.gallery.log ∧
    (s.modArea a f).gallery.archive = s.gallery.archive ∧ (s.modArea a f).gallery.traces = s.gallery.traces ∧
    (s.modArea a f).gallery.erases = s.gallery.erases := by
  unfold State.modArea
  dsimp only
  split
  · exact ⟨rfl, rfl, rfl, rfl⟩
  · split <;> exact ⟨rfl, rfl, rfl, rfl⟩

/-- The state in which the first block to refresh is taken. -/
def State.refreshing (s : State) (rest : List Nat) : State := { s with gallery := { s.gallery with toRefresh := rest } }

theorem execCompactionStep_refreshes (up : s.hallBUp = true) (free : s.nandFree = true) (mains : s.onHoldup = false)
    (next : s.gallery.toRefresh = b :: rest) : execCompactionStep s = .next ((s.refreshing rest).eraseBlock b) := by
  unfold execCompactionStep
  rw [geEvent_up up]
  dsimp only
  rw [free, mains, next]
  rfl

/-- The state in which an area's next block is taken to be reclaimed. -/
def State.reclaiming (s : State) (a : Nat) : State :=
  s.modArea a (fun x => { x with reclaim := x.reclaim - 4096, cursor := (x.cursor + 1) % s.turnBlocks a })

theorem State.reclaiming_reclaim : ((s.reclaiming a).gallery.areaSt a).reclaim = (s.gallery.areaSt a).reclaim - 4096 := by
  unfold State.reclaiming
  rw [State.modArea_areaSt]

theorem State.reclaiming_keeps : (s.reclaiming a).gallery.log = s.gallery.log ∧ (s.reclaiming a).gallery.archive = s.gallery.archive ∧
    (s.reclaiming a).gallery.traces = s.gallery.traces ∧ (s.reclaiming a).gallery.erases = s.gallery.erases := State.modArea_keeps

theorem execCompactionStep_reclaims (up : s.hallBUp = true) (free : s.nandFree = true) (mains : s.onHoldup = false)
    (none' : s.gallery.toRefresh = []) (needs : s.compactArea = some a) :
    execCompactionStep s = .next ((s.reclaiming a).eraseBlock (s.turnBlock a)) := by
  unfold execCompactionStep
  rw [geEvent_up up]
  dsimp only
  rw [free, mains, none', needs]
  rfl

end

/-! ### TRACE_WRITE and COUNTER_PERSIST (11 R380, R387) -/

section

variable {s : State} {f : Nat} {x : Staging} {tr : Trace}

/-- The state in which a trace has its SEQ, and its staging buffer is free. -/
def State.unstaged (s : State) (f : Nat) : State := (s.takeSeq 2).2.modStaging f (fun x => { x with done := false })

theorem State.unstaged_done (inside : f < s.gallery.staging.length) : ((s.unstaged f).gallery.staging.getD f .reset).done = false := by
  show ((s.gallery.staging.modify f _).getD f .reset).done = false
  simp [inside]

theorem execTraceWrite_writes (known : f < s.nFlights) (up : s.hallBUp = true) (staged : x = s.gallery.staging.getD f .reset)
    (done : x.done = true) (runs : s.gallery.paused = false) (free : s.nandFree = true) (queue : s.gallery.queue = [])
    (cycles : s.gallery.cycQueue = []) (spill : s.gallery.spill.length < 256) (cycSpill : s.gallery.cycSpill.length < 256)
    (trace : tr = { x.tr with seq := s.gallery.trSt.nextSeq, pcyc := s.gallery.powerCycles, samples := x.tr.samples.reverse }) :
    execTraceWrite f s = .next (((s.unstaged f).tracePut tr).nandBusy ((x.tr.pages : Rat) * (6 / 10))) := by
  unfold execTraceWrite
  rw [if_neg (Nat.not_le.2 known), geEvent_up up]
  dsimp only
  rw [← staged, done, runs, free, queue, cycles, decide_eq_true spill, decide_eq_true cycSpill, trace]
  rfl

theorem execCounterPersist_stores (up : s.hallBUp = true) (late : s.gallery.optimeMram + 10 ≤ s.gallery.optime) (exact' : s.gallery.timeEst = false) :
    execCounterPersist s = .next { s with gallery := { s.gallery with optimeMram := s.gallery.optime } } := by
  unfold execCounterPersist
  rw [geEvent_up up]
  exact congrArg Host.Outcome.next (if_pos (by simp [late, exact']))

end

/-! ### NAND_SCRUB (11 R406) -/

section

variable {s : State} {r : ScrubIn} {b : Nat}

/-- The reading of a block counts in the pass alone. -/
theorem State.passBlock_store : ∃ read ended, s.passBlock b = { s with gallery := { s.gallery with passRead := read, passEnd := ended } } :=
  ⟨_, _, rfl⟩

/-- The state in which a reserve block is in the place of a failed one. -/
def State.retiring (s : State) (b : Nat) : State :=
  let n := s.reserveFitted - s.gallery.reserve
  let spare := s.areaBase 3 + n
  let others := s.gallery.wear.filter (fun w => w.1 ≠ b && w.1 ≠ spare)
  { s with gallery := { s.gallery with
      reserve := s.gallery.reserve - 1, wear := if s.gallery.erases spare = 0 then others else (b, s.gallery.erases spare) :: others
      blocks := (b, n) :: s.gallery.blocks.filter (fun w => w.1 ≠ b) } }

theorem execNandScrub_retires (up : s.hallBUp = true) (serves : s.gallery.degraded = false) (failed : r.failed = true)
    (left : s.gallery.reserve ≠ 0) :
    execNandScrub r s = .next ((((s.retiring r.block).record Evt.blockRetired noSource [word32 r.block]).wearCheck).passBlock r.block) := by
  unfold execNandScrub
  rw [geEvent_up up]
  exact congrArg Host.Outcome.next ((if_neg (Bool.eq_false_iff.1 serves)).trans ((if_pos failed).trans (if_neg left)))

theorem State.retired_store : ∃ warn read ended,
    ((((s.retiring b).record Evt.blockRetired noSource [word32 b]).wearCheck).passBlock b).gallery.store =
      { (s.retiring b).gallery.store with wearWarn := warn, passRead := read, passEnd := ended } := by
  obtain ⟨warn, store⟩ := State.wearCheck_store (s := (s.retiring b).record Evt.blockRetired noSource [word32 b])
  obtain ⟨read, ended, pass⟩ := State.passBlock_store (s := ((s.retiring b).record Evt.blockRetired noSource [word32 b]).wearCheck) (b := b)
  refine ⟨warn, read, ended, ?_⟩
  rw [pass, ← State.record_store (s := s.retiring b) (e := Evt.blockRetired) (n := noSource) (args := [word32 b])]
  exact congrArg (fun h : Gallery => { h with passRead := read, passEnd := ended }) store

/-- Blocks that a scrub finds weak are refreshed once. -/
theorem execNandScrub_refreshes (up : s.hallBUp = true) (serves : s.gallery.degraded = false) (sound : r.failed = false) :
    ∃ t, execNandScrub r s = .next t ∧ t.gallery.toRefresh =
      (if Config.eccStrength < 2 * r.bits ∧ r.block ∉ s.gallery.toRefresh then s.gallery.toRefresh ++ [r.block] else s.gallery.toRefresh) := by
  unfold execNandScrub
  rw [geEvent_up up]
  dsimp only
  rw [serves, if_neg Bool.false_ne_true, sound, if_neg Bool.false_ne_true]
  refine ⟨_, rfl, ?_⟩
  by_cases weak : Config.eccStrength < 2 * r.bits ∧ r.block ∉ s.gallery.toRefresh
  · rw [if_pos weak, if_pos (by simpa using weak)]
    rfl
  · rw [if_neg weak, if_neg (by simpa using weak)]
    rfl

end

end Sys2Proof.Machine
end

section
/-! PROOFS: the gallery fails, and writes to the alcove; its index is rebuilt (O47). -/

namespace Sys2Proof.Machine

/-! ### The alcove (11 R388, R400) -/

section

variable {s : State} {r : EvRec} {e : Ev} {c : EvCode} {args : List Word} {rest : List Ev}

/-- The alcove's record of an event: one more of its own numbering, not yet copied. -/
def State.alcoveRec (s : State) (r : EvRec) : AlcRec :=
  ⟨{ r with seq := s.gallery.alcNextSeq, rep := 1, alcSeq := s.gallery.alcSeq, flags := r.flags ||| 0x10 }, false,
    decide (s.gallery.alcWritten < 32)⟩

theorem State.alcovePut_room (room : s.gallery.alcove.length + 1 ≤ 256) :
    (s.alcovePut r).gallery.alcove = s.gallery.alcove ++ [s.alcoveRec r] := by
  unfold State.alcovePut
  dsimp only
  rw [placeIn_room (by rw [sum_map_one]; exact room)]
  rfl

/-- A record of the alcove leaves every part of the state but the gallery, and of the gallery what concerns no alcove. -/
theorem State.alcovePut_gallery : ∃ l n q w d, s.alcovePut r = { s with gallery := { s.gallery with
    alcove := l, alcSeq := n, alcNextSeq := q, alcWritten := w, alcDropped := d } } := by
  unfold State.alcovePut
  dsimp only
  split
  · exact ⟨_, _, _, _, _, rfl⟩
  · exact ⟨_, _, _, _, _, rfl⟩

/-- While DEGRADED is set an event of ALCOVE_MIN_SEV or above goes to the alcove. -/
theorem State.intake_alcove (least : s.parN Par.galleryMinSev 0 0 ≤ e.sev) (fails : s.gallery.degraded = true)
    (grave : s.parN Par.galleryAlcoveMinSev 0 0 ≤ e.sev) :
    s.intake e = s.alcovePut (e.toRec 0 s.gallery.powerCycles s.gallery.timeEst) := by
  unfold State.intake
  rw [if_neg (Nat.not_lt.2 least), fails]
  exact if_pos grave

end

/-! ### GALLERY_FAILED (11 R400) -/

section

variable {s : State} {cause arg : Nat} {c : EvCode} {args : List Word}

/-- The event that the alcove alone takes. -/
def State.alcoveEv (s : State) (c : EvCode) (args : List Word) : Ev :=
  { code := c.code, sev := c.sev, source := noSource, args := args, optime := s.optimeNow, flags := 0 }

/-- The parts of the gallery that concern its failure. -/
theorem State.alcoveOnly_keeps : (s.alcoveOnly c args).gallery.degraded = s.gallery.degraded ∧
    (s.alcoveOnly c args).gallery.paused = s.gallery.paused ∧ (s.alcoveOnly c args).gallery.cycQueue = s.gallery.cycQueue ∧
    (s.alcoveOnly c args).gallery.archSt = s.gallery.archSt ∧ (s.alcoveOnly c args).hallA = s.hallA := by
  obtain ⟨l, n, q, w, d, put⟩ := s.alcovePut_gallery (r := (s.alcoveEv c args).toRec 0 s.gallery.powerCycles s.gallery.timeEst)
  have told : s.alcoveOnly c args = (s.alcovePut ((s.alcoveEv c args).toRec 0 s.gallery.powerCycles s.gallery.timeEst)).tell c args := rfl
  rw [told, put]
  unfold State.tell
  split
  · exact ⟨rfl, rfl, rfl, rfl, rfl⟩
  · exact ⟨rfl, rfl, rfl, rfl, rfl⟩

theorem State.tell_gallery : (s.tell c args).gallery = s.gallery := by
  unfold State.tell
  split <;> rfl

theorem State.tell_outs (up : s.hallAUp = true) : (s.tell c args).outs = .event c.code noSource args :: s.outs :=
  congrArg State.outs (if_pos up)

/-- With room in the alcove its event is appended there, not yet copied. -/
theorem State.alcoveOnly_room (room : s.gallery.alcove.length + 1 ≤ 256) :
    (s.alcoveOnly c args).gallery.alcove.map (fun y => (y.entry.code, y.copied)) =
      s.gallery.alcove.map (fun y => (y.entry.code, y.copied)) ++ [(c.code, false)] := by
  have alcove : (s.alcoveOnly c args).gallery.alcove =
      s.gallery.alcove ++ [s.alcoveRec ((s.alcoveEv c args).toRec 0 s.gallery.powerCycles s.gallery.timeEst)] :=
    (congrArg Gallery.alcove State.tell_gallery).trans (State.alcovePut_room room)
  rw [alcove, List.map_append]
  rfl

theorem State.alcoveOnly_outs (up : s.hallAUp = true) :
    (s.alcoveOnly c args).outs = .event c.code noSource args :: s.outs := by
  obtain ⟨l, n, q, w, d, put⟩ := s.alcovePut_gallery (r := (s.alcoveEv c args).toRec 0 s.gallery.powerCycles s.gallery.timeEst)
  have told : s.alcoveOnly c args = (s.alcovePut ((s.alcoveEv c args).toRec 0 s.gallery.powerCycles s.gallery.timeEst)).tell c args := rfl
  rw [told, put]
  exact State.tell_outs up

/-- The state in which the gallery has failed, and told so. -/
def State.failed (s : State) (cause arg : Nat) : State :=
  let u := s.alcoveOnly Evt.galleryFailed [word32 cause, word32 arg]
  { u with gallery := { u.gallery with
      degraded := true, failedSentTick := u.stamp, paused := true, pauseNoted := false, rebuildFrom := none } }

/-- The SEQ that the next cycle to end would take. -/
def Gallery.nextCycle (g : Gallery) : Word := g.cycQueue.foldl (fun q _ => seqAfter q) g.archSt.nextSeq

/-- The state in which it has paused the cycle records as well. -/
def State.pausedCycles (s : State) (cause arg : Nat) : State :=
  (s.failed cause arg).alcoveOnly Evt.cyclesPaused [s.gallery.nextCycle]

theorem execGalleryFailed_fails (up : s.hallBUp = true) (serves : s.gallery.degraded = false)
    (possible : cause = 1 ∨ (cause = 2 ∧ s.gallery.reserve = 0) ∨ (cause = 3 ∧ s.gallery.rebuildFrom.isSome = true) ∨ cause = 4) :
    execGalleryFailed cause arg s = .next (if cause = 4 then (s.pausedCycles cause arg).rebuildCounters else s.pausedCycles cause arg) := by
  obtain ⟨_, _, queue, arch, _⟩ := State.alcoveOnly_keeps (s := s) (c := Evt.galleryFailed) (args := [word32 cause, word32 arg])
  have next : (s.failed cause arg).gallery.nextCycle = s.gallery.nextCycle := by
    show List.foldl _ (s.alcoveOnly _ _).gallery.archSt.nextSeq (s.alcoveOnly _ _).gallery.cycQueue = _
    rw [queue, arch]
    rfl
  have possible' : (decide (cause = 1) || (decide (cause = 2) && decide (s.gallery.reserve = 0)) ||
      (decide (cause = 3) && s.gallery.rebuildFrom.isSome) || decide (cause = 4)) = true := by
    rcases possible with timeout | ⟨reserve, none'⟩ | ⟨index, scan⟩ | mram
    · simp [timeout]
    · simp [reserve, none']
    · simp [index, scan]
    · simp [mram]
  unfold execGalleryFailed State.pausedCycles
  rw [geEvent_up up, ← next]
  exact congrArg Host.Outcome.next (if_neg (by rw [serves, possible']; decide))

theorem State.pausedCycles_state : (s.pausedCycles cause arg).gallery.degraded = true ∧ (s.pausedCycles cause arg).gallery.paused = true := by
  obtain ⟨degraded, paused, _⟩ := State.alcoveOnly_keeps (s := s.failed cause arg) (c := Evt.cyclesPaused) (args := [s.gallery.nextCycle])
  exact ⟨degraded, paused⟩

theorem State.pausedCycles_alcove (room : s.gallery.alcove.length + 2 ≤ 256) :
    (s.pausedCycles cause arg).gallery.alcove.map (fun y => (y.entry.code, y.copied)) =
      s.gallery.alcove.map (fun y => (y.entry.code, y.copied)) ++ [(Evt.galleryFailed.code, false), (Evt.cyclesPaused.code, false)] := by
  have first : (s.failed cause arg).gallery.alcove.map (fun y => (y.entry.code, y.copied)) =
      s.gallery.alcove.map (fun y => (y.entry.code, y.copied)) ++ [(Evt.galleryFailed.code, false)] := State.alcoveOnly_room (by omega)
  have length := congrArg List.length first
  simp only [List.length_map, List.length_append, List.length_singleton] at length
  exact (State.alcoveOnly_room (by omega)).trans (by rw [first, List.append_assoc, List.singleton_append])

theorem State.pausedCycles_outs (up : s.hallAUp = true) : (s.pausedCycles cause arg).outs =
    .event Evt.cyclesPaused.code noSource [s.gallery.nextCycle] ::
      .event Evt.galleryFailed.code noSource [word32 cause, word32 arg] :: s.outs := by
  obtain ⟨_, _, _, _, hallA⟩ := State.alcoveOnly_keeps (s := s) (c := Evt.galleryFailed) (args := [word32 cause, word32 arg])
  have up' : (s.failed cause arg).hallAUp = true := (congrArg (fun h : Hall => !h.inReset) hallA).trans up
  exact (State.alcoveOnly_outs up').trans (congrArg (List.cons _) (State.alcoveOnly_outs up))

theorem execGalleryFailedRepeat_tells {x : AlcRec} (fails : s.gallery.degraded = true) (up : s.hallAUp = true)
    (late : s.gallery.failedSentTick + 60000 ≤ s.ms)
    (first : s.gallery.alcove.reverse.find? (fun y => y.entry.code = Evt.galleryFailed.code) = some x) :
    execGalleryFailedRepeat s = .next (State.tell { s with gallery := { s.gallery with failedSentTick := s.stamp } } Evt.galleryFailed x.entry.args) := by
  unfold execGalleryFailedRepeat
  rw [if_pos (by simp [fails, up, late]), first]
  rfl

end

/-! ### INDEX_REBUILT (11 R399) -/

section

variable {s : State} {since : Nat}

/-- What a start had still to write is written, whatever the store's state. -/
theorem State.flushWait_empties : s.flushWait.gallery.waitEv = [] ∧ s.flushWait.gallery.waitCyc = [] ∧
    s.flushWait.gallery.rebuildFrom = s.gallery.rebuildFrom ∧ s.flushWait.gallery.degraded = s.gallery.degraded ∧
    s.flushWait.gallery.paused = s.gallery.paused := by
  obtain ⟨_, _, left⟩ := Gallery.waiting_eq ((State.foldl_archivePut_keeps s.gallery.waitCyc).1.trans
    (State.foldl_logPut_keeps (s := { s with gallery := { s.gallery with waitEv := [], waitCyc := [] } }) s.gallery.waitEv).1)
  exact left

/-- The state in which the rebuild scan is over. -/
def State.scanned (s : State) : State := { s with gallery := { s.gallery with rebuildFrom := none } }

theorem execIndexRebuilt_ends (up : s.hallBUp = true) (scan : s.gallery.rebuildFrom = some since) :
    execIndexRebuilt s = .next (s.scanned.flushWait.record Evt.indexRebuilt noSource [word32 (s.stamp - since)]) := by
  unfold execIndexRebuilt
  rw [geEvent_up up]
  dsimp only
  rw [scan]
  rfl

end

/-! ### While Hall B is down (11 R380) -/

section

variable {s : State} {r : ScrubIn} {cause arg f : Nat}

theorem execPageProgram_down (down : s.hallBUp = false) : execPageProgram s = .next s := geEvent_down down

theorem execCompactionStep_down (down : s.hallBUp = false) : execCompactionStep s = .next s := geEvent_down down

theorem execCounterPersist_down (down : s.hallBUp = false) : execCounterPersist s = .next s := geEvent_down down

theorem execIndexRebuilt_down (down : s.hallBUp = false) : execIndexRebuilt s = .next s := geEvent_down down

theorem execNandScrub_down (down : s.hallBUp = false) : execNandScrub r s = .next s := geEvent_down down

theorem execGalleryFailed_down (down : s.hallBUp = false) : execGalleryFailed cause arg s = .next s := geEvent_down down

theorem execTraceWrite_down (known : f < s.nFlights) (down : s.hallBUp = false) : execTraceWrite f s = .next s :=
  (if_neg (Nat.not_le.2 known)).trans (geEvent_down down)

end

end Sys2Proof.Machine
end

section
/-! PROOFS: a start whose store passes its checks recovers the gallery (O47). -/

namespace Sys2Proof.Machine

/-! ### What a start finds in the alcove (11 R397, R402) -/

section

variable {s : State} {b : BootIn} {x : AlcRec}

/-- The alcove, and the failure for which it is written. -/
def Gallery.failure (g : Gallery) : List AlcRec × Bool := (g.alcove, g.degraded)

/-- A mirrored cycle record, and a mirrored entry, are numbered and wait to be written. -/
def State.replayCycle (s : State) (r : CycRec) : State :=
  { (s.takeSeq 0).2 with gallery := { (s.takeSeq 0).2.gallery with
      waitCyc := (s.takeSeq 0).2.gallery.waitCyc ++ [CycRec.replayed { r with seq := (s.takeSeq 0).1 }] } }
def State.replayEvent (s : State) (e : Ev) : State :=
  let u := (s.takeSeq 1).2
  let r := (e.toRec (s.takeSeq 1).1 u.gallery.powerCycles u.gallery.timeEst).replayed
  (u.waitEvent r).linkWaiting r

theorem State.takeMirror_failure : s.takeMirror.gallery.failure = s.gallery.failure := by
  have replays : s.takeMirror = s.gallery.mirrorEv.foldl State.replayEvent (s.gallery.mirrorCyc.foldl State.replayCycle
      { s with gallery := { s.gallery with mirrorEv := [], mirrorCyc := [] } }) := rfl
  rw [replays]
  exact (State.foldl_keeps (fun u => u.gallery.failure) (f := State.replayEvent) (fun _ _ => rfl) _ _).trans
    (State.foldl_keeps (fun u => u.gallery.failure) (f := State.replayCycle) (fun _ _ => rfl) _ _)

theorem State.gather_failure {loss : Option EvRec} : (s.gather loss).gallery.failure = s.gallery.failure := by
  cases loss with
  | none => exact State.takeMirror_failure (s := s)
  | some r => exact State.takeMirror_failure (s := s)

theorem State.startGallery_failure : (s.startGallery b).gallery.failure = s.gallery.failure := State.gather_failure (s := s)

theorem State.powerUp_failure : s.powerUp.gallery.failure = s.gallery.failure := by
  have units : s.unitsPowerUp.gallery = s.gallery := (State.unitsPowerUp_reach (.refl _) (.refl _ s)).gallery rfl
  exact (congrArg Gallery.failure units :)

/-- An uncopied record of the alcove waits to go to the event log. -/
def State.waitCopy (s : State) (x : AlcRec) : State :=
  if x.copied then s else (s.takeSeq 1).2.waitEvent { x.entry with seq := (s.takeSeq 1).1, alcSeq := 0 }

theorem State.waitCopy_alcove : (s.waitCopy x).gallery.alcove = s.gallery.alcove := by
  unfold State.waitCopy
  split <;> rfl

theorem State.waitCopy_grows : s.gallery.waitEv <+: (s.waitCopy x).gallery.waitEv := by
  unfold State.waitCopy
  split
  · exact List.prefix_rfl
  · exact List.prefix_append _ _

/-- A record that waits to be written carries a record of the alcove. -/
def EvRec.Copies (r : EvRec) (x : AlcRec) : Prop := r.code = x.entry.code ∧ r.args = x.entry.args ∧ r.flags = x.entry.flags

theorem State.waitCopy_copies (fresh : x.copied = false) : ∃ r ∈ (s.waitCopy x).gallery.waitEv, r.Copies x := by
  unfold State.waitCopy
  rw [fresh]
  exact ⟨_, List.mem_append_right _ (List.mem_singleton_self _), rfl, rfl, rfl⟩

theorem State.foldl_waitCopy_grows (l : List AlcRec) : s.gallery.waitEv <+: (l.foldl State.waitCopy s).gallery.waitEv :=
  List.foldlRecOn (motive := fun u : State => s.gallery.waitEv <+: u.gallery.waitEv) l _ List.prefix_rfl
    fun _ grows _ _ => grows.trans State.waitCopy_grows

theorem State.foldl_waitCopy_copies {l : List AlcRec} {y : AlcRec} (mem : y ∈ l) (fresh : y.copied = false) :
    ∃ r ∈ (l.foldl State.waitCopy s).gallery.waitEv, r.Copies y := by
  induction l generalizing s with
  | nil => cases mem
  | cons x l ih =>
    cases mem with
    | head =>
      obtain ⟨r, waits, copies⟩ := State.waitCopy_copies (s := s) fresh
      exact ⟨r, (State.foldl_waitCopy_grows l).subset waits, copies⟩
    | tail _ later => exact ih later

/-- What a recovery leaves of the gallery (11 R402): it records again, and the alcove's records are copied or wait to be. -/
structure Gallery.Recovers (g : Gallery) (alcove : List AlcRec) : Prop where
  serves : g.degraded = false
  runs : g.paused = false
  copied : g.alcove = alcove.map AlcRec.asCopied
  waiting : ∀ y ∈ alcove, y.copied = false → ∃ r ∈ g.waitEv, r.Copies y

/-- The state in which the alcove is copied, and recording resumes. -/
def State.resumed (s : State) : State :=
  { s with gallery := { s.gallery with alcove := s.gallery.alcove.map AlcRec.asCopied, degraded := false, paused := false } }

theorem State.recoverStore_recovers (fails : s.gallery.degraded = true) : s.recoverStore.gallery.Recovers s.gallery.alcove := by
  have alcove : (s.gallery.alcove.foldl State.waitCopy s).gallery.alcove = s.gallery.alcove :=
    State.foldl_keeps (fun u => u.gallery.alcove) (fun _ _ => State.waitCopy_alcove) _ s
  have recovered : s.recoverStore = (s.gallery.alcove.foldl State.waitCopy s).resumed.record Evt.galleryRecovered noSource [] := if_pos fails
  have copies := fun y mem fresh => State.foldl_waitCopy_copies (s := s) (l := s.gallery.alcove) (y := y) mem fresh
  rw [recovered]
  generalize s.gallery.alcove.foldl State.waitCopy s = u at alcove copies
  have store := State.record_store (s := u.resumed) (e := Evt.galleryRecovered) (n := noSource) (args := [])
  have waiting : (u.resumed.record Evt.galleryRecovered noSource []).gallery.waitEv = u.gallery.waitEv := (congrArg Gallery.waitEv store :)
  exact ⟨(congrArg Gallery.degraded store :), (congrArg Gallery.paused store :),
    (congrArg Gallery.alcove store :).trans (congrArg _ alcove), waiting ▸ copies⟩

/-- A store that passes its checks is in use again; where its index is still to be rebuilt, the alcove's records wait. -/
theorem State.openStore_recovers (good : b.storeGood = true) (fails : s.gallery.degraded = true) :
    (s.openStore b).gallery.degraded = false ∧ (s.openStore b).gallery.paused = false ∧
    (b.indexGood = false → (s.openStore b).gallery.Recovers s.gallery.alcove) := by
  have recovers := State.recoverStore_recovers fails
  unfold State.openStore
  rw [if_pos good]
  cases index : b.indexGood with
  | true =>
    obtain ⟨_, _, _, degraded, paused⟩ := State.flushWait_empties (s := s.recoverStore)
    exact ⟨degraded.trans recovers.serves, paused.trans recovers.runs, fun unread => absurd unread (by decide)⟩
  | false => exact ⟨recovers.serves, recovers.runs, fun _ => recovers⟩

end

/-! ### What the later steps of a start leave (14 R464 to R467) -/

section

variable {s t u : State} {b : BootIn} {x : Security} {T : Nat} {e : EvCode} {n : Nat} {args : List Word} {c : Bool}

/-- What a gallery keeps, and the trial of new firmware, stand as they were. -/
structure State.Carries (s t : State) : Prop where
  kept : t.gallery.kept = s.gallery.kept
  trial : t.sec.fwPending = s.sec.fwPending

theorem State.Carries.refl (s : State) : s.Carries s := ⟨rfl, rfl⟩

theorem State.Carries.trans (first : s.Carries t) (second : t.Carries u) : s.Carries u :=
  ⟨second.kept.trans first.kept, second.trial.trans first.trial⟩

theorem Reach.carries (reach : Reach T s t) (gallery : T.testBit 31 = false) (sec : T.testBit 34 = false) : s.Carries t :=
  ⟨congrArg Gallery.kept (reach.gallery gallery), congrArg Security.fwPending (reach.sec sec)⟩

theorem State.Carries.record (carries : s.Carries t) : s.Carries (t.record e n args) :=
  carries.trans ⟨State.record_kept, congrArg Security.fwPending State.record_sec⟩

theorem State.Carries.recordIf (carries : s.Carries t) : s.Carries (t.recordIf c e n args) := by
  unfold State.recordIf
  split
  · exact carries.record
  · exact carries

theorem State.Carries.foldl {α : Type} {f : State → α → State} (l : List α) (each : ∀ u a, State.Carries u (f u a)) :
    s.Carries (l.foldl f s) :=
  List.foldlRecOn (motive := s.Carries) l f (.refl s) fun u carries a _ => carries.trans (each u a)

theorem State.loadValues_carries {img : Option Image} : s.Carries (s.loadValues img) := ⟨rfl, rfl⟩

theorem State.estimateHoldup_carries : s.Carries s.estimateHoldup := State.Carries.recordIf ⟨rfl, rfl⟩

theorem State.recordImageFaults_carries : s.Carries (s.recordImageFaults x b) := by
  refine State.Carries.foldl _ fun u h => ?_
  dsimp only
  split
  · exact .refl u
  · exact (State.Carries.refl _).record

theorem State.recordFallback_carries : s.Carries s.recordFallback := by
  unfold State.recordFallback
  split
  · exact .refl s
  · exact State.Carries.record ⟨rfl, rfl⟩

theorem State.loadActive_carries {img : Option Image} {up : Bool} : s.Carries (s.loadActive img up) := by
  have gallery := (State.loadActive_reach (img := img) (up := up) (.refl _) (.refl _ s)).gallery rfl
  refine ⟨congrArg Gallery.kept gallery, ?_⟩
  unfold State.loadActive
  extract_lets v w
  have raised : Reach 1386496 v w := Reach.ite
    (fun _ => State.restartLines_reach (.of_or rfl) (Reach.forEach _ (.refl _ _) fun _ _ reach => State.raiseDie_reach (.of_or rfl) reach))
    (fun _ => .refl _ _)
  have loaded : Reach 36239052816 w (((w.loadLimp.loadFeeds).loadCan.loadTrain).loadProgram none 0) :=
    State.loadProgram_reach (.of_or rfl) (State.loadTrain_reach (.of_or rfl) (State.loadCan_reach (.of_or rfl)
      (State.loadFeeds_reach (.of_or rfl) (State.loadLimp_reach (.of_or rfl) (.refl _ _)))))
  exact (congrArg Security.fwPending ((loaded.sec rfl).trans (raised.sec rfl)) :)

theorem State.checkCal_carries : s.Carries (s.checkCal b) := by
  unfold State.checkCal
  dsimp only
  split
  · exact State.Carries.record ⟨rfl, rfl⟩
  · exact State.Carries.recordIf (State.Carries.recordIf ⟨rfl, rfl⟩)

theorem State.findActive_carries {good : Bool} : s.Carries (s.findActive good) := by
  unfold State.findActive
  split
  · exact ⟨rfl, rfl⟩
  · split
    · exact ⟨rfl, rfl⟩
    · exact State.Carries.record ⟨rfl, rfl⟩

theorem State.startMaps_carries : s.Carries (s.startMaps b) := by
  refine State.Carries.foldl _ fun u f => ?_
  split
  · exact .refl u
  · exact State.Carries.record ((State.modObs_reach (.refl _) (.refl _ u)).carries rfl rfl)

theorem State.startBoth_carries : s.Carries (s.startBoth b) := by
  unfold State.startBoth
  dsimp only
  split
  · exact State.checkCal_carries.trans State.loadActive_carries
  · exact (((State.checkCal_carries.trans State.findActive_carries).trans State.loadActive_carries).trans State.startMaps_carries).trans ⟨rfl, rfl⟩

theorem State.recordDeferred_carries {h : HallId} : s.Carries (s.recordDeferred h) := by
  unfold State.recordDeferred
  split
  · exact .refl s
  · exact State.Carries.record ((State.modHall_reach (.refl _) (.refl _ s)).carries rfl rfl)

theorem State.recordBothUp_carries : s.Carries s.recordBothUp := by
  unfold State.recordBothUp
  split
  · exact State.recordDeferred_carries.trans State.recordDeferred_carries
  · exact .refl s

end

end Sys2Proof.Machine
end

section
/-! PROOFS: BOOT recovers the gallery; records reach the NAND or the alcove (O47). -/

namespace Sys2Proof.Machine

/-! ### BOOT (14 R464 to R467) -/

section

variable {s : State} {b : BootIn} {x : Security}

/-- Start-up as far as GE's store: Hall B runs, and what MRAM holds is gathered. -/
def State.gathered (s : State) (b : BootIn) : State :=
  let u := (s.release .b).startGallery b
  if b.powerUp then (u.powerUp.release .b).forEach 2 State.clearDie else u

/-- Start-up from there to the point at which a refused configuration ends a trial. -/
def State.started (s : State) (x : Security) (b : BootIn) : State :=
  let u := ((((s.openStore b).loadValues none).estimateHoldup).recordImageFaults x b).recordFallback
  let v := if (x.startBank b .a).isSome then (u.release .a).startBoth b else u.loadActive none b.powerUp
  (v.refreshConns.readSeal b.contacts).recordBothUp

theorem State.gathered_failure : (s.gathered b).gallery.failure = s.gallery.failure := by
  have begun : ((s.release .b).startGallery b).gallery.failure = s.gallery.failure := State.startGallery_failure (s := s.release .b)
  unfold State.gathered
  dsimp only
  split
  · have cleared : Reach 26552336 ((s.release .b).startGallery b).powerUp
        ((((s.release .b).startGallery b).powerUp.release .b).forEach 2 State.clearDie) :=
      Reach.forEach 2 (State.release_reach (.of_or rfl) (.refl _ _)) fun _ _ reach => State.clearDie_reach (.of_or rfl) reach
    exact ((congrArg Gallery.failure (cleared.gallery rfl)).trans State.powerUp_failure).trans begun
  · exact begun

/-- A start begins no trial of new firmware. -/
theorem State.gathered_trial (trial : (s.gathered b).sec.fwPending = 2) : s.sec.fwPending = 2 := by
  unfold State.gathered at trial
  dsimp only at trial
  split at trial
  · have cleared : Reach 26552336 ((s.release .b).startGallery b).powerUp
        ((((s.release .b).startGallery b).powerUp.release .b).forEach 2 State.clearDie) :=
      Reach.forEach 2 (State.release_reach (.of_or rfl) (.refl _ _)) fun _ _ reach => State.clearDie_reach (.of_or rfl) reach
    have none' : ((((s.release .b).startGallery b).powerUp.release .b).forEach 2 State.clearDie).sec.fwPending = 0 :=
      (congrArg Security.fwPending (cleared.sec rfl) :)
    exact absurd (none'.symm.trans trial) (by decide)
  · have begun : Reach 2172649480 s ((s.release .b).startGallery b) :=
      State.startGallery_reach (.of_or rfl) (State.release_reach (.of_or rfl) (.refl _ s))
    exact (congrArg Security.fwPending (begun.sec rfl)).symm.trans trial

theorem State.started_carries : (s.openStore b).Carries (s.started x b) := by
  unfold State.started
  extract_lets u v
  have opened : (s.openStore b).Carries u :=
    ((State.loadValues_carries.trans State.estimateHoldup_carries).trans State.recordImageFaults_carries).trans State.recordFallback_carries
  have loaded : u.Carries v := by
    unfold v
    split
    · exact State.Carries.trans ((State.release_reach (.refl _) (.refl _ u)).carries rfl rfl) State.startBoth_carries
    · exact State.loadActive_carries
  have sealed' : v.Carries (v.refreshConns.readSeal b.contacts) :=
    (State.readSeal_reach (T := 125829120) (.of_or rfl) (State.refreshConns_reach (.of_or rfl) (.refl _ v))).carries rfl rfl
  exact ((opened.trans loaded).trans sealed').trans State.recordBothUp_carries

/-- With no trial under way, or a configuration that it takes, a start is not broken off. -/
theorem State.startModule_starts (ends : s.sec.fwPending ≠ 2 ∨ b.configOk = true) : s.startModule x b = (s.gathered b).started x b := by
  have split' : s.startModule x b = (let t := (s.gathered b).started x b
      if t.sec.fwPending = 2 && t.configLoaded && !b.configOk then t.failTrial 4 else t) := rfl
  rw [split']
  refine if_neg fun breaks => ?_
  obtain ⟨⟨trial, _⟩, refuses⟩ : (((s.gathered b).started x b).sec.fwPending = 2 ∧ ((s.gathered b).started x b).configLoaded = true) ∧
      b.configOk = false := by simpa using breaks
  have opened := (State.openStore_reach (b := b) (.refl _) (.refl _ (s.gathered b))).sec rfl
  have pending : s.sec.fwPending = 2 := State.gathered_trial
    ((congrArg Security.fwPending opened).symm.trans (State.started_carries.trial.symm.trans trial))
  rcases ends with none' | takes
  · exact none' pending
  · rw [refuses] at takes
    exact absurd takes (by decide)

theorem State.trialBanks_trial (trial : (s.trialBanks b).sec.fwPending = 2) : s.sec.fwPending = 2 := by
  unfold State.trialBanks at trial
  dsimp only at trial
  split at trial
  · exact trial
  · exact absurd (show 0 = 2 from trial) (by decide)

/-- The state in which the module is supplied, and its banks are chosen. -/
def State.booting (s : State) (b : BootIn) : State :=
  { s with
      supply := { s.supply with valid := true, switchClosed := true }
      sec := { s.sec with booted := false, loadedAt := none, bootTick := s.stamp, fwPending := if b.powerUp then 0 else s.sec.fwPending } }
def State.banked (s : State) (b : BootIn) : State :=
  if (s.booting b).sec.fwPending = 2 then (s.booting b).trialBanks b else (s.booting b).pickBanks b

theorem execBoot_starts (a : s.hallA.inReset = true) (hallB : s.hallB.inReset = true) (charged : s.supply.prechargeFailed = false)
    (bank : (s.sec.startBank b .b).isSome = true) : execBoot b s = .next ((s.banked b).startModule (s.booting b).sec b) := by
  have bank' : ¬ ((s.booting b).sec.startBank b .b).isNone = true := by
    show ¬ (s.sec.startBank b .b).isNone = true
    rw [Option.isNone_iff_eq_none]
    exact Option.isSome_iff_ne_none.1 bank
  unfold execBoot
  rw [a, hallB, charged]
  exact (if_neg (by decide)).trans (if_neg bank')

theorem State.banked_gallery : (s.banked b).gallery = s.gallery := by
  unfold State.banked
  split
  · exact (State.trialBanks_reach (.refl _) (.refl _ (s.booting b))).gallery rfl
  · rfl

theorem State.banked_trial (trial : (s.banked b).sec.fwPending = 2) : s.sec.fwPending = 2 := by
  have pending : (s.booting b).sec.fwPending = 2 := by
    unfold State.banked at trial
    split at trial
    · exact State.trialBanks_trial trial
    · exact trial
  have kept : (if b.powerUp then 0 else s.sec.fwPending) = 2 := pending
  split at kept
  · exact absurd kept (by decide)
  · exact kept

/-- A start whose store passes its checks recovers the gallery, whatever its later steps find. -/
theorem State.startModule_recovers (ends : s.sec.fwPending ≠ 2 ∨ b.configOk = true) (good : b.storeGood = true)
    (fails : s.gallery.degraded = true) :
    (s.startModule x b).gallery.degraded = false ∧ (s.startModule x b).gallery.paused = false ∧
    (b.indexGood = false → (s.startModule x b).gallery.Recovers s.gallery.alcove) := by
  have failure := State.gathered_failure (s := s) (b := b)
  obtain ⟨degraded, paused, recovers⟩ := State.openStore_recovers (s := s.gathered b) good ((congrArg Prod.snd failure).trans fails)
  have kept := (State.started_carries (s := s.gathered b) (x := x) (b := b)).kept
  have alcove : (s.gathered b).gallery.alcove = s.gallery.alcove := congrArg Prod.fst failure
  rw [State.startModule_starts ends]
  generalize (s.gathered b).started x b = t at kept
  refine ⟨(congrArg Gallery.degraded kept :).trans degraded, (congrArg Gallery.paused kept :).trans paused, fun unread => ?_⟩
  obtain ⟨serves, runs, copied, waiting⟩ := recovers unread
  rw [alcove] at copied waiting
  have waits : t.gallery.waitEv = ((s.gathered b).openStore b).gallery.waitEv := (congrArg Gallery.waitEv kept :)
  exact ⟨(congrArg Gallery.degraded kept :).trans serves, (congrArg Gallery.paused kept :).trans runs,
    (congrArg Gallery.alcove kept :).trans copied, waits ▸ waiting⟩

end

/-- Settles O47: what GE writes leaves everything that waits behind it; a failed gallery writes to the alcove alone, and a start whose store
passes its checks puts the alcove's records in front of what comes after them. -/
theorem recordsReachTheNandOrTheAlcove : Obligations.RecordsReachTheNandOrTheAlcove := by
  unfold Obligations.RecordsReachTheNandOrTheAlcove
  refine ⟨?cycles, ?events, ?refresh, ?reclaim, ?trace, ?counters, ?retire, ?scrub, ?fails, ?alcove, ?boot, ?again, ?index, ?down⟩
  case cycles =>
    intro s up free page
    obtain ⟨waiting, log⟩ := State.foldl_archivePut_keeps (s := s.cycPaged) (s.gallery.cycSpill.take 256)
    obtain ⟨spill, cycSpill, _⟩ := Gallery.waiting_eq waiting
    refine ⟨_, execPageProgram_cycles up free page, cycSpill, spill, log, fun room => ?_⟩
    have length : (s.gallery.cycSpill.take 256).length = 256 := List.length_take_of_le page
    exact congrArg (·.gallery.archive) (State.foldl_archivePut_room (s := s.cycPaged) _ (length.symm ▸ room))
  case events =>
    intro s up free short page
    obtain ⟨waiting, archive⟩ := State.foldl_logPut_keeps (s := s.evPaged) (s.gallery.spill.take 256)
    obtain ⟨spill, cycSpill, _⟩ := Gallery.waiting_eq waiting
    refine ⟨_, execPageProgram_events up free short page, spill, cycSpill, archive, fun room => ?_⟩
    have length : (s.gallery.spill.take 256).length = 256 := List.length_take_of_le page
    exact congrArg (·.gallery.log) (State.foldl_logPut_room (s := s.evPaged) _ (length.symm ▸ room))
  case refresh =>
    intro s b rest up free mains next
    obtain ⟨log, archive, traces, left, _⟩ := State.eraseBlock_keeps (s := s.refreshing rest) (b := b)
    exact ⟨_, execCompactionStep_refreshes up free mains next, left, State.eraseBlock_erases, log, archive, traces⟩
  case reclaim =>
    intro s a b up free mains none' needs turn
    subst turn
    obtain ⟨log, archive, traces, _, area⟩ := State.eraseBlock_keeps (s := s.reclaiming a) (b := s.turnBlock a)
    obtain ⟨log', archive', traces', erases⟩ := s.reclaiming_keeps (a := a)
    refine ⟨_, execCompactionStep_reclaims up free mains none' needs, ?_, ?_, log.trans log', archive.trans archive', traces.trans traces'⟩
    · rw [area]
      exact State.reclaiming_reclaim
    · exact State.eraseBlock_erases.trans (congrArg (· + 1) (congrFun erases _))
  case trace =>
    intro s f x tr sound known up staged done runs free queue cycles spill cycSpill trace
    have inside : f < s.gallery.staging.length := by
      have small : s.nFlights ≤ 12 := by
        unfold State.nFlights
        split <;> decide
      have := sound.gallery.staging
      omega
    obtain ⟨staging, seq⟩ := State.tracePut_keeps (s := s.unstaged f) (tr := tr)
    refine ⟨_, execTraceWrite_writes known up staged done runs free queue cycles spill cycSpill trace, ?_, seq, fun room => ?_⟩
    · exact (congrArg (fun l : List Staging => (l.getD f .reset).done) staging).trans (State.unstaged_done inside)
    · exact congrArg (·.gallery.traces) (State.tracePut_room (s := s.unstaged f) room)
  case counters =>
    exact fun s up late exact' => ⟨_, execCounterPersist_stores up late exact', rfl⟩
  case retire =>
    intro s r up serves failed left
    obtain ⟨warn, read, ended, store⟩ := State.retired_store (s := s) (b := r.block)
    refine ⟨_, execNandScrub_retires up serves failed left, (congrArg Gallery.reserve store :), (congrArg (·.blocks.head?) store :), ?_⟩
    exact State.announces_record (State.passBlock_reach (.of_or rfl) (State.wearCheck_reach (.refl _) (.refl _ _))) rfl rfl
  case scrub =>
    exact fun s r up serves sound => execNandScrub_refreshes up serves sound
  case fails =>
    intro s cause arg up serves possible
    have state := State.pausedCycles_state (s := s) (cause := cause) (arg := arg)
    have alcove := State.pausedCycles_alcove (s := s) (cause := cause) (arg := arg)
    have outs := State.pausedCycles_outs (s := s) (cause := cause) (arg := arg)
    have failed := execGalleryFailed_fails (arg := arg) up serves possible
    generalize s.pausedCycles cause arg = u at state alcove outs failed
    by_cases mram : cause = 4
    · rw [if_pos mram] at failed
      exact ⟨_, failed, state.1, state.2, alcove, fun announced => outs announced ▸ List.suffix_rfl⟩
    · rw [if_neg mram] at failed
      exact ⟨_, failed, state.1, state.2, alcove, fun announced => outs announced ▸ List.suffix_rfl⟩
  case alcove =>
    intro s e rest up fails first least grave room
    refine ⟨_, execEventIntake_first up first, ?_⟩
    rw [State.intake_alcove (s := s.withArrivals rest) least fails grave]
    have alcove := State.alcovePut_room (s := s.withArrivals rest)
      (r := e.toRec 0 (s.withArrivals rest).gallery.powerCycles (s.withArrivals rest).gallery.timeEst) room
    obtain ⟨l, n, q, w, d, put⟩ := State.alcovePut_gallery (s := s.withArrivals rest)
      (r := e.toRec 0 (s.withArrivals rest).gallery.powerCycles (s.withArrivals rest).gallery.timeEst)
    refine ⟨by rw [put]; rfl, by rw [put]; rfl, ?_⟩
    rw [alcove, List.map_append]
    rfl
  case boot =>
    intro s b hallA hallB charged bank ends good fails
    have ends' : (s.banked b).sec.fwPending ≠ 2 ∨ b.configOk = true := ends.imp_left fun none' trial => none' (State.banked_trial trial)
    obtain ⟨degraded, paused, recovers⟩ := State.startModule_recovers (x := (s.booting b).sec) ends' good
      ((congrArg Gallery.degraded State.banked_gallery).trans fails)
    refine ⟨_, execBoot_starts hallA hallB charged bank, degraded, paused, fun unread => ?_⟩
    have recovered := recovers unread
    rw [State.banked_gallery] at recovered
    exact ⟨recovered.copied, recovered.waiting⟩
  case again =>
    intro s x fails up late first
    refine ⟨_, execGalleryFailedRepeat_tells fails up late first, congrArg (·.failedSentTick) State.tell_gallery, State.tell_outs up⟩
  case index =>
    intro s since up scan
    obtain ⟨waitEv, waitCyc, rebuilt, _⟩ := State.flushWait_empties (s := s.scanned)
    have store := State.record_store (s := s.scanned.flushWait) (e := Evt.indexRebuilt) (n := noSource) (args := [word32 (s.stamp - since)])
    refine ⟨_, execIndexRebuilt_ends up scan, (congrArg Gallery.rebuildFrom store :).trans rebuilt, (congrArg Gallery.waitEv store :).trans waitEv,
      (congrArg Gallery.waitCyc store :).trans waitCyc, fun upA => ?_⟩
    have upA' : s.scanned.flushWait.hallAUp = true := by
      unfold State.hallAUp
      rw [(State.flushWait_reach (.refl _) (.refl _ s.scanned)).hallA rfl]
      exact upA
    rw [State.record_outs upA']
    rfl
  case down =>
    intro s c down command
    obtain rfl | rfl | rfl | rfl | ⟨r, rfl⟩ | ⟨cause, arg, rfl⟩ | ⟨f, known, rfl⟩ := command
    · exact execPageProgram_down down
    · exact execCompactionStep_down down
    · exact execCounterPersist_down down
    · exact execIndexRebuilt_down down
    · exact execNandScrub_down down
    · exact execGalleryFailed_down down
    · exact execTraceWrite_down known down

end Sys2Proof.Machine
end

section
/-! PROOFS: trips of a tread (O17), budget stops and storey breakers (O19), limp-home and the rails of the storey dies (O20). -/

namespace Sys2Proof.Machine

/-! ### Trips of a tread (03 R95, R96, R100 to R103) -/

section

variable {s : State} {n : Nat}

/-- The running mode and the latches of a tread. -/
def Tread.latches (x : Tread) : TMode × Bool × Bool := (x.mode, x.therm, x.wire)

theorem Tread.latches_eq {x y : Tread} (h : x.latches = y.latches) : x.mode = y.mode ∧ x.therm = y.therm ∧ x.wire = y.wire := by
  simpa [Tread.latches] using h

theorem Tread.free_of_latch {x : Tread} {tick : Nat} (latched : (x.therm || x.wire) = true) : x.free tick = false := by
  unfold Tread.free
  rcases Bool.or_eq_true_iff.1 latched with set | set <;> simp [set]

/-- A trip counts, and settles whether there is a retry; the tread keeps its mode and its latches. -/
theorem State.tripTread_latches (lt : n < s.treads.length) : ((s.tripTread n).tread n).latches = (s.tread n).latches := by
  unfold State.tripTread
  dsimp only
  split
  · rw [State.tread_modTread lt]
    rfl
  · rw [State.tread_of_treads ((State.recordIf_reach (.refl _) (.refl _ _)).treads rfl), State.tread_modTread lt]
    rfl

/-- A tread that is OFF behind a latch stays so through the trip and the fault stops that follow on it. -/
theorem State.trip_latches (lt : n < s.treads.length) (off : (s.tread n).mode = .off)
    (latched : ((s.tread n).therm || (s.tread n).wire) = true) :
    ((s.tripTread n).causeStops.tread n).latches = (s.tread n).latches := by
  have kept := State.tripTread_latches lt
  have held : (s.tripTread n).Held n := .of_latched
    (Tread.free_of_latch ((congrArg (fun x => x.2.1 || x.2.2) kept).trans latched)) ((congrArg Prod.fst kept).trans off)
  obtain ⟨m, d, o, same⟩ := State.tread_causeStops (s.tripTread n) n
  have stays := held.causeStops.off
  rw [same] at stays ⊢
  exact Prod.ext (stays.trans off.symm) (congrArg Prod.snd kept :)

/-- A latch of a tread sets: the tread is OFF in hardware, and the event goes out. -/
def State.latchTread (s : State) (n : Nat) (f : Tread → Tread) (e : EvCode) : State := (s.modTread n f).record e n (s.treadArgs n)

theorem State.tread_latchTread {f : Tread → Tread} {e : EvCode} (lt : n < s.treads.length) :
    (s.latchTread n f e).tread n = f (s.tread n) := (State.noted_leaves (e := e) (args := s.treadArgs n) lt).1

/-- What a latch leaves, whether the tread was running, so that the latch is a trip, or not. -/
theorem State.latchTread_leaves {f : Tread → Tread} {e : EvCode} {trips : Bool} (lt : n < s.treads.length)
    (off : (f (s.tread n)).mode = .off) (latched : ((f (s.tread n)).therm || (f (s.tread n)).wire) = true) :
    let u := s.latchTread n f e
    let t := if trips then (u.tripTread n).causeStops else u
    (t.tread n).latches = (f (s.tread n)).latches ∧ s.Announces e n (s.treadArgs n) t := by
  have set := State.tread_latchTread (f := f) (e := e) lt
  cases trips with
  | false => exact ⟨congrArg Tread.latches set, State.announces_record (.refl 0 _) rfl rfl⟩
  | true =>
    refine ⟨(State.trip_latches (by simpa [State.latchTread] using lt) (set ▸ off) (set ▸ latched)).trans (congrArg Tread.latches set), ?_⟩
    exact State.announces_record (u := s.modTread n f)
      (State.causeStops_reach (.of_or rfl) (State.tripTread_reach (T := 36508278784) (.of_or rfl) (.refl _ _))) rfl rfl

/-- A tread whose thermal latch sets: a retry delay that runs waits for the re-arm. -/
def Tread.overheat (x : Tread) : Tread := { x.hardOff with therm := true, waitRearm := x.waitRearm || x.retryAt.isSome, retryAt := none }

/-- A tread whose wire latch sets. -/
def Tread.overload (x : Tread) : Tread := { x.hardOff with wire := true }

theorem execTreadThermal_trips {tj : Rat} (fit : n < s.nTreads) (cool : (s.tread n).therm = false) (hot : shutTemp ≤ tj) :
    execTreadThermal ⟨n, tj⟩ s = .next (let u := s.latchTread n Tread.overheat Evt.treadThermal
      if (s.tread n).mode != .off then (u.tripTread n).causeStops else u) :=
  (onUnit_fitted (decide_eq_true fit)).trans (congrArg _ (if_neg (by simp [cool, Rat.not_lt.2 hot])))

theorem execTreadThermal_below {tj : Rat} (fit : n < s.nTreads) (below : tj < shutTemp) : execTreadThermal ⟨n, tj⟩ s = .next s :=
  (onUnit_fitted (decide_eq_true fit)).trans (congrArg _ (if_pos (by simp [below])))

theorem execTreadWireTrip_trips (fit : n < s.nTreads) (whole : (s.tread n).wire = false) (modelled : s.iwOf n ≠ 0)
    (above : s.iwOf n * s.iwOf n < (s.tread n).x) (runs : (s.tread n).mode = .highSide ∨ (s.tread n).mode = .lowSide) :
    execTreadWireTrip n s = .next ((s.latchTread n Tread.overload Evt.treadWireTrip).tripTread n).causeStops :=
  (onUnit_fitted (decide_eq_true fit)).trans (congrArg _ (if_pos (by simp [whole, modelled, above, runs])))

end

/-- Settles O17: a latch turns its tread OFF, and while it is set neither the trip nor a fault stop turns the tread on again. -/
theorem treadTripsLatchAndTurnOff : Obligations.TreadTripsLatchAndTurnOff := by
  unfold Obligations.TreadTripsLatchAndTurnOff
  refine ⟨?thermal, ?wire⟩
  case thermal =>
    intro s n tj sound fit cool
    refine ⟨fun hot => ?_, execTreadThermal_below fit⟩
    obtain ⟨latches, announced⟩ := State.latchTread_leaves (f := Tread.overheat) (e := Evt.treadThermal) (trips := (s.tread n).mode != .off)
      (sound.tread_fitted fit) rfl rfl
    obtain ⟨off, hot', -⟩ := Tread.latches_eq latches
    exact ⟨_, execTreadThermal_trips fit cool hot, hot', off, announced⟩
  case wire =>
    intro s n sound fit whole modelled above runs
    obtain ⟨latches, announced⟩ := State.latchTread_leaves (f := Tread.overload) (e := Evt.treadWireTrip) (trips := true)
      (sound.tread_fitted fit) rfl (Bool.or_true _)
    obtain ⟨off, -, wired⟩ := Tread.latches_eq latches
    exact ⟨_, execTreadWireTrip_trips fit whole modelled above runs, wired, off, announced⟩

/-! ### Budget stops and storey breakers (01 R21 to R24, 03 R108) -/

section

variable {s : State} {u lv n : Nat}

theorem getD_modify {α : Type} {l : List α} {k : Nat} {f : α → α} {d : α} (lt : k < l.length) : (l.modify k f).getD k d = f (l.getD k d) := by
  simp [lt]

theorem State.budget_modBudget {f : Budget → Budget} (sound : s.Sound) : (s.modBudget lv f).budget lv = f (s.budget lv) := by
  have flights := sound.flightBudgets.1
  have storeys := sound.storeyBudgets.1
  have dies := sound.dieBudgets.1
  unfold State.modBudget State.budget
  by_cases flight : lv < 12
  · simp only [if_pos flight]
    exact getD_modify (by omega)
  by_cases storey : lv < 16
  · simp only [if_neg flight, if_pos storey]
    exact getD_modify (by omega)
  by_cases die : lv < 18
  · simp only [if_neg flight, if_neg storey, if_pos die]
    exact getD_modify (by omega)
  by_cases current : lv = 18
  · simp only [if_neg flight, if_neg storey, if_neg die, if_pos current]
  · simp only [if_neg flight, if_neg storey, if_neg die, if_neg current]

/-- A level that stops its axes. -/
def Budget.stop (b : Budget) : Budget := { b with stopped := true }

theorem execBudgetStop_stops (fitted : s.hasLevel lv = true) (lowest : (s.budget lv).scale = 4) (long : 5000 ≤ (s.budget lv).hold)
    (fresh : (s.budget lv).stopped = false) :
    execBudgetStop lv s = .next ((s.modBudget lv Budget.stop).record (stopEvt lv) (budgetSource lv) []).causeStops :=
  (if_neg (by simp [fitted])).trans (if_pos (by simp [lowest, long, fresh]))

theorem State.treadEnabled_of_breaker (open' : (s.storey (storeyOfFlight (flightOfTread n))).breakerOpen = true) :
    s.treadEnabled n = false := by
  simp [State.treadEnabled, open']

/-- A segment whose breaker opens. -/
def Storey.trip (x : Storey) (stamp : Nat) : Storey := { x with breakerOpen := true, tripTick := stamp, trips := x.trips + 1 }

/-- The breaker of a storey opens: its treads are OFF. -/
def State.tripStorey (s : State) (u : Nat) : State :=
  (s.modStorey u (·.trip s.stamp)).treadsOff (fun t => storeyOfFlight (flightOfTread t) = u)

theorem execStoreyBreaker_trips (fit : u < s.nStoreys) (closed : (s.storey u).breakerOpen = false) :
    execStoreyBreaker u s = .next ((s.tripStorey u).record Evt.storeyBreaker u []).causeStops :=
  (onUnit_fitted (decide_eq_true fit)).trans (congrArg _ (if_neg (by simp [closed])))

theorem State.storey_tripStorey (lt : u < s.storeys.length) : (s.tripStorey u).storey u = (s.storey u).trip s.stamp :=
  State.storey_modStorey lt

theorem State.tripStorey_held (lt : u < s.storeys.length) (ltn : n < s.treads.length) (inStorey : storeyOfFlight (flightOfTread n) = u) :
    (s.tripStorey u).Held n := by
  refine .of_treadsOff ltn (decide_eq_true inStorey) (State.treadEnabled_of_breaker ?_)
  rw [inStorey, State.storey_modStorey lt]
  rfl

end

/-- Settles O19: the stop of a level is the one thing that changes of its budget; a tread behind an open breaker is OFF, and no fault stop
turns it on. -/
theorem budgetStopsAndBreakers : Obligations.BudgetStopsAndBreakers := by
  unfold Obligations.BudgetStopsAndBreakers
  refine ⟨?stop, ?breaker⟩
  case stop =>
    intro s lv sound fitted lowest long fresh
    have marked : Reach 992 s (s.modBudget lv Budget.stop) := State.modBudget_reach (.refl _) (.refl _ s) fun _ legal => legal
    have later := State.causeStops_reach (.refl _) (.refl _ ((s.modBudget lv Budget.stop).record (stopEvt lv) (budgetSource lv) []))
    refine ⟨_, execBudgetStop_stops fitted lowest long fresh, ?_, State.announces_record later (marked.hallA rfl) (marked.outs rfl)⟩
    rw [State.budget_of_budgets (later.flightBudgets rfl) (later.storeyBudgets rfl) (later.dieBudgets rfl) (later.currentBudget rfl)
      (later.thermalBudget rfl), State.budget_of_budgets State.record_flightBudgets State.record_storeyBudgets State.record_dieBudgets
      State.record_currentBudget State.record_thermalBudget, State.budget_modBudget sound]
    rfl
  case breaker =>
    intro s u sound fit closed
    have later := State.causeStops_reach (.refl _) (.refl _ ((s.tripStorey u).record Evt.storeyBreaker u []))
    refine ⟨_, execStoreyBreaker_trips fit closed, ?_⟩
    rw [State.storey_of_storeys ((later.storeys rfl).trans State.record_storeys), State.storey_tripStorey (sound.storey_lt fit)]
    exact ⟨rfl, rfl, rfl, fun n lt inStorey =>
      (State.tripStorey_held (sound.storey_lt fit) (sound.tread_lt lt) inStorey).record.causeStops.off,
      State.announces_record later rfl rfl⟩

/-! ### Limp-home (02 R70 to R73) -/

section

variable {s : State} {n d p : Nat}

/-- What a step for every unit in turn leaves of one unit: what its own step makes of it, when the steps of the others leave it alone. -/
theorem State.forEach_own {α : Type} {N : Nat} (g : State → α) {f : State → Nat → State} {P : α → Prop} (lt : n < N)
    (others : ∀ u k, k ≠ n → g (f u k) = g u) (own : ∀ u, g u = g s → P (g (f u n))) : P (g (s.forEach N f)) := by
  unfold State.forEach
  induction N with
  | zero => omega
  | succ N ih =>
    rw [List.range_succ, List.foldl_append]
    show P (g (f ((List.range N).foldl f s) N))
    rcases Nat.lt_succ_iff_lt_or_eq.1 lt with before | rfl
    · rw [others _ _ (by omega)]
      exact ih before
    · exact own _ (List.foldlRecOn (motive := fun u => g u = g s) _ f rfl fun u same k mem =>
        (others u k (List.mem_range.1 mem).ne).trans same)

/-- The pins once one of them has changed. -/
def Supply.setPin (x : Supply) (p : Nat) : Supply := { x with lhPins := x.lhPins.set p (x.lhLevel.getD p false) }

theorem execLhPinChange_sets (fit : p < 8) (changed : s.supply.lhLevel.getD p false ≠ s.supply.lhPins.getD p false)
    (steady : 16 ≤ s.supply.lhRun.getD p 0) : ∃ t, execLhPinChange p s = .next t ∧ t.supply = s.supply.setPin p :=
  ⟨_, (onUnit_fitted (decide_eq_true fit)).trans (congrArg _ (if_neg (by simpa using ⟨changed, steady⟩))), rfl⟩

/-- The limp-home path of a die once it has taken charge, with the pins that are active. -/
def LimpHome.takeCharge (l : LimpHome) (stamp : Nat) (pins : BitVec 8) : LimpHome :=
  { l with inCharge := true, startTick := stamp, pinsUsed := pins }

/-- The pins that are active, as a byte. -/
def State.activePins (s : State) : BitVec 8 :=
  BitVec.ofNat 8 ((List.range 8).foldl (fun n p => n + bitN (s.supply.lhPins.getD p false) p) 0)

/-- A die of which limp-home has taken charge, with the retries of its treads over. -/
def State.takeOver (s : State) (d : Nat) : State :=
  let u := s.modLimp d (·.takeCharge s.stamp s.activePins)
  u.mapTreads (fun t x => if u.limpHolds t then x.takenOver else x)

theorem execLimpHomeTakeover_takes (fit : d < s.nDies) (armed : (s.limpOf d).armed = true) (idle : (s.limpOf d).inCharge = false)
    (absent : 20 ≤ (s.limpOf d).absent) : execLimpHomeTakeover d s = .next (s.takeOver d).lhDrive :=
  (onUnit_fitted (decide_eq_true fit)).trans (congrArg _ (if_neg (by simp [armed, idle, absent])))

theorem State.tread_lhDrive (lt : n < s.treads.length) :
    s.lhDrive.tread n = if s.limpHolds n then s.lhTread n (s.tread n) else s.tread n := by
  unfold State.lhDrive State.limpHolds
  simp [State.tread, lt]

/-- Limp-home turns a tread OFF, or drives it high side without PWM; the latter only with its latches clear, configured so, and with the
presence loop of the module closed. -/
theorem State.lhTread_drives (x : Tread) :
    (s.lhTread n x).mode = .off ∨ ((s.lhTread n x).mode = .highSide ∧ (s.lhTread n x).duty = 100 ∧ x.therm = false ∧ x.wire = false ∧
      s.treadCfg n = 2 ∧ s.supply.mpres = true) := by
  unfold State.lhTread
  extract_lets f on
  cases drives : on with
  | false => exact .inl rfl
  | true =>
    simp only [on, Bool.and_eq_true, Bool.not_eq_true', decide_eq_true_eq] at drives
    refine .inr ⟨rfl, rfl, ?_⟩
    tauto

theorem State.Sound.limp_lt (h : s.Sound) (fit : d < s.nDies) : d < s.limp.length := by
  rw [h.limp]
  unfold State.nDies at fit
  split at fit <;> omega

theorem State.Sound.die_lt (h : s.Sound) (fit : d < s.nDies) : d < s.dies.length := by
  rw [h.dies, ← h.limp]
  exact h.limp_lt fit

/-- A path that is in charge is that of a storey die. -/
theorem State.lt_of_inCharge (charge : (s.limpOf d).inCharge = true) : d < s.limp.length := by
  by_contra beyond
  unfold State.limpOf at charge
  rw [List.getD_eq_default _ _ (not_lt.1 beyond)] at charge
  exact absurd charge (by decide)

theorem State.limpInCharge_of (charge : (s.limpOf d).inCharge = true) : s.limpInCharge = true := by
  have lt := State.lt_of_inCharge charge
  refine List.any_eq_true.2 ⟨s.limp[d], List.getElem_mem lt, ?_⟩
  unfold State.limpOf at charge
  rwa [List.getD_eq_getElem _ _ lt] at charge

theorem State.takeOver_limp (lt : d < s.limp.length) : (s.takeOver d).limpOf d = (s.limpOf d).takeCharge s.stamp s.activePins :=
  State.limpOf_modLimp lt

/-- What limp-home makes of the treads of a die at the takeover. -/
theorem State.takeOver_drives (lt : d < s.limp.length) (ltn : n < s.treads.length) (inDie : dieOfFlight (flightOfTread n) = d) :
    let x := (s.takeOver d).lhDrive.tread n
    x.mode = .off ∨ (x.mode = .highSide ∧ x.duty = 100 ∧ (s.tread n).therm = false ∧ (s.tread n).wire = false ∧ s.treadCfg n = 2 ∧
      s.supply.mpres = true) := by
  have holds : (s.takeOver d).limpHolds n = true := by
    unfold State.limpHolds
    rw [inDie, State.takeOver_limp lt]
    rfl
  have taken : (s.takeOver d).tread n = (s.tread n).takenOver := by
    refine (State.tread_mapTreads ltn).trans (if_pos ?_)
    exact holds
  dsimp only
  rw [State.tread_lhDrive (by simpa [State.takeOver] using ltn), if_pos holds, taken]
  exact State.lhTread_drives _

/-- A die hands back: limp-home has charge of it, and both heartbeats are present. -/
def State.handsBack (s : State) (d : Nat) : Bool := (s.limpOf d).inCharge && (s.die d).missA = 0 && (s.die d).missB = 0

/-- The treads of the dies that hand back. -/
def State.handTreads (s : State) : State :=
  s.forEach 96 (fun u t => if s.handsBack (dieOfFlight (flightOfTread t)) then u.handBack t else u)

/-- The limp-home path of a die that has handed back. -/
def LimpHome.handBack (l : LimpHome) (ms : Nat) : LimpHome :=
  { l with inCharge := false, absent := 0, episodes := l.episodes + 1, lastMs := word32 ms }

/-- The dies hand back: their treads, then their paths; and the treads follow their commanded modes again. -/
def State.handDies (s : State) (ms : Nat) : State :=
  (s.handTreads.mapLimp (fun d l => if s.handsBack d then l.handBack ms else l)).refreshTreads

theorem execLimpHomeHandback_hands (upA : s.hallAUp = true) (upB : s.hallBUp = true) (started : s.hallB.mode ≠ .boot)
    (free : s.hallB.mode ≠ .safeHold) (charge : s.limpInCharge = true) (some' : (s.handsBack 0 || s.handsBack 1) = true) :
    ∃ pins ms, execLimpHomeHandback s = .next ((s.handDies ms).record Evt.limpHomeEpisode noSource [pins, word32 ms]) :=
  ⟨_, _, (if_neg (by simp [upA, upB, started, free, charge])).trans (if_neg (show ¬ (!(s.handsBack 0 || s.handsBack 1)) = true by simp [some']))⟩

/-- The hand-back of a tread changes that tread alone; one that limp-home drove is commanded OFF. -/
theorem State.handBack_treads {k : Nat} : ∃ f : Tread → Tread, (s.handBack k).treads = (s.modTread k f).treads ∧
    ((s.tread k).lhDriven = true → ∀ x, (f x).cmd = .off ∧ (f x).lhDriven = false) := by
  unfold State.handBack
  extract_lets x u
  split
  next idle => exact ⟨id, (List.modify_id k s.treads).symm, fun driven => by simp [x, driven] at idle⟩
  next => exact ⟨_, (State.recordIf_reach (.refl _) (.refl _ u)).treads rfl, fun _ _ => ⟨rfl, rfl⟩⟩

theorem State.handBack_length {k : Nat} : (s.handBack k).treads.length = s.treads.length := by
  obtain ⟨f, treads, -⟩ := State.handBack_treads (s := s) (k := k)
  rw [treads]
  exact List.length_modify ..

theorem State.handBack_other {k : Nat} (ne : k ≠ n) : (s.handBack k).tread n = s.tread n := by
  obtain ⟨f, treads, -⟩ := State.handBack_treads (s := s) (k := k)
  exact (State.tread_of_treads treads).trans (State.tread_modTread_ne ne)

theorem State.handBack_driven (lt : n < s.treads.length) (driven : (s.tread n).lhDriven = true) :
    ((s.handBack n).tread n).cmd = .off ∧ ((s.handBack n).tread n).lhDriven = false := by
  obtain ⟨f, treads, off⟩ := State.handBack_treads (s := s) (k := n)
  rw [State.tread_of_treads treads, State.tread_modTread lt]
  exact off driven _

theorem State.handTreads_driven (lt : n < s.treads.length) (small : n < 96) (hands : s.handsBack (dieOfFlight (flightOfTread n)) = true)
    (driven : (s.tread n).lhDriven = true) : (s.handTreads.tread n).cmd = .off ∧ (s.handTreads.tread n).lhDriven = false := by
  refine State.forEach_own (P := fun x : Nat × Tread => x.2.cmd = .off ∧ x.2.lhDriven = false) (fun u => (u.treads.length, u.tread n)) small
    (fun u k ne => ?_) (fun u same => ?_)
  · split
    · exact Prod.ext State.handBack_length (State.handBack_other ne)
    · rfl
  · obtain ⟨length, tread⟩ := Prod.mk.inj same
    rw [if_pos hands]
    exact State.handBack_driven (length ▸ lt) (by rw [tread]; exact driven)

theorem State.handTreads_keeps {α : Type} (g : State → α) (keeps : ∀ u k, g (State.handBack u k) = g u) : g s.handTreads = g s := by
  refine State.forEach_keeps g (fun u k => ?_) s 96
  split
  · exact keeps u k
  · rfl

theorem State.handTreads_limp : s.handTreads.limp = s.limp :=
  State.handTreads_keeps (·.limp) fun u _ => (State.handBack_reach (.refl _) (.refl _ u)).limp rfl

theorem State.handTreads_hallA : s.handTreads.hallA = s.hallA :=
  State.handTreads_keeps (·.hallA) fun u _ => (State.handBack_reach (.refl _) (.refl _ u)).hallA rfl

theorem State.handDies_limpOf {ms : Nat} (lt : d < s.limp.length) :
    (s.handDies ms).limpOf d = if s.handsBack d then (s.limpOf d).handBack ms else s.limpOf d := by
  have same : s.handTreads.limpOf d = s.limpOf d := congrArg (·.getD d .reset) State.handTreads_limp
  rw [← same]
  exact State.limpOf_mapLimp (s := s.handTreads) (by rw [State.handTreads_limp]; exact lt)

/-- The limp-home path of a die that does not hand back stands as it was. -/
theorem State.handDies_limpOf_other {ms : Nat} (stays : s.handsBack d = false) : (s.handDies ms).limpOf d = s.limpOf d := by
  by_cases lt : d < s.limp.length
  · rw [State.handDies_limpOf lt, stays]
    rfl
  · have length : (s.handDies ms).limp.length = s.limp.length := by
      exact List.length_mapIdx.trans (congrArg List.length State.handTreads_limp)
    unfold State.limpOf
    rw [List.getD_eq_default _ _ (by omega), List.getD_eq_default _ _ (by omega)]

theorem State.modeFor_off : s.modeFor n .off = .off := ite_self _

theorem State.tread_refreshTreads (lt : n < s.treads.length) : s.refreshTreads.tread n = s.refreshTread n (s.tread n) := by
  simp [State.refreshTreads, State.tread, lt]

/-- A tread that limp-home drove is OFF after the hand-back, under hall control again. -/
theorem State.handDies_driven {ms : Nat} (sound : s.Sound) (small : n < 96) (ltd : dieOfFlight (flightOfTread n) < s.limp.length)
    (hands : s.handsBack (dieOfFlight (flightOfTread n)) = true) (driven : (s.tread n).lhDriven = true) :
    ((s.handDies ms).tread n).mode = .off ∧ ((s.handDies ms).tread n).lhDriven = false := by
  obtain ⟨cmd, undriven⟩ := State.handTreads_driven (sound.tread_lt small) small hands driven
  have lt : n < s.handTreads.treads.length := by
    rw [State.handTreads_keeps (·.treads.length) fun _ _ => State.handBack_length]
    exact sound.tread_lt small
  have free : (s.handTreads.mapLimp (fun d l => if s.handsBack d then l.handBack ms else l)).limpHolds n = false := by
    have path := State.handDies_limpOf (ms := ms) ltd
    rw [if_pos hands] at path
    exact congrArg LimpHome.inCharge path
  have back := State.tread_refreshTreads (s := s.handTreads.mapLimp (fun d l => if s.handsBack d then l.handBack ms else l)) lt
  unfold State.refreshTread at back
  rw [free] at back
  unfold State.handDies
  rw [back]
  exact ⟨(congrArg _ cmd).trans State.modeFor_off, undriven⟩

end

/-! ### The rail of a storey die (02 R75, 03 R98, 04 R134) -/

section

variable {s : State} {n d : Nat}

/-- The treads, the limp-home map and the trims of a storey die are lost. -/
def State.wipeDie (s : State) (d : Nat) : State :=
  { s with
      treads := s.treads.mapIdx (fun t x => if decide (dieOfFlight (flightOfTread t) = d) = true then Tread.reset else x)
      limp := s.limp.set d .reset, dies := s.dies.modify d (fun x => { x with trims := [] }) }

/-- The mask of what else is lost or starts afresh with a storey die: lines, ports, axes. -/
def dieFields : Nat := 1376256

theorem State.clearDie_wipes : Reach dieFields (s.wipeDie d) (s.clearDie d) :=
  Reach.forEach 24 (Reach.set_ports (.of_or rfl) (Reach.set_senses (.of_or rfl) (.refl _ (s.wipeDie d)) List.length_mapIdx) List.length_mapIdx)
    fun _ _ reach => .ite (fun _ => State.invalidateCount_reach (.of_or rfl) reach) fun _ => reach

theorem State.tread_clearDie (lt : n < s.treads.length) :
    (s.clearDie d).tread n = if dieOfFlight (flightOfTread n) = d then Tread.reset else s.tread n := by
  rw [State.tread_of_treads (State.clearDie_wipes.treads rfl)]
  simp [State.wipeDie, State.tread, lt]

theorem State.die_of_dies {t : State} (h : t.dies = s.dies) : t.die d = s.die d := congrArg (·.getD d .reset) h

theorem State.limpOf_of_limp {t : State} (h : t.limp = s.limp) : t.limpOf d = s.limpOf d := congrArg (·.getD d .reset) h

theorem State.treadEnabled_of_rail (down : (s.die (dieOfFlight (flightOfTread n))).railUp = false) : s.treadEnabled n = false := by
  simp [State.treadEnabled, down]

/-- A die without its rail. -/
def Die.unpower (x : Die) : Die := { x with railUp := false, pllLocked := false }

/-- A storey die whose rail is lost, with what it holds. -/
def State.dropDie (s : State) (d : Nat) : State := (s.modDie d Die.unpower).clearDie d

theorem execLPdLoss_drops (fit : d < s.nDies) : execLPdLoss d s = .next ((s.dropDie d).dropDcls.causeStopsFrom s) :=
  onUnit_fitted (decide_eq_true fit)

theorem State.dropDie_die (lt : d < s.dies.length) : (s.dropDie d).die d = { (s.die d).unpower with trims := [] } := by
  have dies : (s.dropDie d).dies = ((s.modDie d Die.unpower).modDie d (fun x => { x with trims := [] })).dies :=
    State.clearDie_wipes.dies rfl
  rw [State.die_of_dies dies, State.die_modDie (by simpa using lt), State.die_modDie lt]

theorem State.dropDie_limpOf (lt : d < s.limp.length) : (s.dropDie d).limpOf d = .reset := by
  unfold State.dropDie
  rw [State.limpOf_of_limp (State.clearDie_wipes.limp rfl)]
  simp [State.wipeDie, State.limpOf, lt]

theorem State.dropDie_held (lt : n < s.treads.length) (ltd : d < s.dies.length) (inDie : dieOfFlight (flightOfTread n) = d) :
    (s.dropDie d).Held n := by
  refine .of_disabled (State.treadEnabled_of_rail ?_) ?_
  · rw [inDie, State.dropDie_die ltd]
    rfl
  · unfold State.dropDie
    rw [State.tread_clearDie (s := s.modDie d Die.unpower) lt, if_pos inDie]
    rfl

/-- A die with its rail, and the treads of that die with their wire models half warm. -/
def State.warmDie (s : State) (d : Nat) : State :=
  (s.modDie d (fun x => { x with railUp := true, pllLocked := true })).mapTreads (fun t x =>
    if decide (dieOfFlight (flightOfTread t) = d) = true then { x with x := s.iwOf t * s.iwOf t / 2 } else x)

theorem State.raiseDie_warms : Reach dieFields (s.warmDie d) (s.raiseDie d) :=
  State.axesIdle_reach (.of_or rfl) (State.mapPorts_reach (.of_or rfl) (State.restartLines_reach (.of_or rfl)
    (State.mapSenses_reach (.of_or rfl) (.refl _ _))))

theorem State.raiseDie_die (lt : d < s.dies.length) : (s.raiseDie d).die d = { s.die d with railUp := true, pllLocked := true } :=
  (State.die_of_dies (State.raiseDie_warms.dies rfl)).trans (State.die_modDie lt)

theorem State.raiseDie_warm (lt : n < s.treads.length) (inDie : dieOfFlight (flightOfTread n) = d) :
    ((s.raiseDie d).tread n).x = s.iwOf n * s.iwOf n / 2 := by
  have warm : (s.warmDie d).tread n = { s.tread n with x := s.iwOf n * s.iwOf n / 2 } :=
    (State.tread_mapTreads (s := s.modDie d _) lt).trans (if_pos (decide_eq_true inDie))
  exact congrArg Tread.x ((State.tread_of_treads (State.raiseDie_warms.treads rfl)).trans warm)

theorem execLPdRestored_raises (fit : d < s.nDies) (down : (s.die d).railUp = false) :
    execLPdRestored d s = .next ((s.raiseDie d).modDie d (fun x => { x with
      trims := if s.hallBUp then diePortion d s.sec.calFactory else [] })) :=
  (onUnit_fitted (decide_eq_true fit)).trans (congrArg _ (if_neg (by simp [down])))

end

/-- Settles O20: a die that limp-home takes charge of drives its treads by their pins alone; a die that hands back commands OFF the treads
that limp-home drove, before they follow their commanded modes again; and a die without its rail enables no tread. -/
theorem limpHomeAndRailLoss : Obligations.LimpHomeAndRailLoss := by
  unfold Obligations.LimpHomeAndRailLoss
  refine ⟨?pin, ?takeover, ?handback, ?loss, ?restored⟩
  case pin =>
    intro s p fit lt changed steady
    obtain ⟨t, answer, supply⟩ := execLhPinChange_sets fit changed steady
    refine ⟨t, answer, ?_⟩
    rw [supply]
    simp [Supply.setPin, lt]
  case takeover =>
    intro s d sound fit armed idle absent
    have path := State.takeOver_limp (sound.limp_lt fit)
    exact ⟨_, execLimpHomeTakeover_takes fit armed idle absent, congrArg LimpHome.inCharge path, congrArg LimpHome.startTick path,
      fun n lt inDie => State.takeOver_drives (sound.limp_lt fit) (sound.tread_lt lt) inDie⟩
  case handback =>
    intro s d sound upA upB started free charge beatA beatB
    have hands : s.handsBack d = true := by simp [State.handsBack, charge, beatA, beatB]
    have lt : d < s.limp.length := State.lt_of_inCharge charge
    have some' : (s.handsBack 0 || s.handsBack 1) = true := by
      have small := sound.limp ▸ lt
      obtain rfl | rfl : d = 0 ∨ d = 1 := by omega
      · simp [hands]
      · simp [hands]
    obtain ⟨pins, ms, answer⟩ := execLimpHomeHandback_hands upA upB started free (State.limpInCharge_of charge) some'
    have path := State.handDies_limpOf (ms := ms) lt
    rw [if_pos hands] at path
    have path' := (State.limpOf_of_limp (d := d) (State.record_limp (e := Evt.limpHomeEpisode) (n := noSource)
      (args := [pins, word32 ms]))).trans path
    have running : (s.handDies ms).hallAUp = true := by
      unfold State.hallAUp
      rw [show (s.handDies ms).hallA = s.hallA from State.handTreads_hallA]
      exact upA
    refine ⟨_, answer, congrArg LimpHome.inCharge path', congrArg LimpHome.episodes path', fun n small inDie driven => ?_, fun e silent => ?_,
      pins, word32 ms, by rw [State.record_outs running]; rfl⟩
    · rw [State.tread_of_treads State.record_treads]
      exact State.handDies_driven sound small (inDie ▸ lt) (inDie ▸ hands) driven
    · rw [State.limpOf_of_limp State.record_limp]
      exact State.handDies_limpOf_other (by unfold State.handsBack; rcases silent with h | h <;> simp [h])
  case loss =>
    intro s d sound fit
    have later : Reach 36541833216 (s.dropDie d) ((s.dropDie d).dropDcls.causeStopsFrom s) :=
      State.causeStopsFrom_reach (.of_or rfl) (State.dropDcls_reach (.of_or rfl) (.refl _ _))
    refine ⟨_, execLPdLoss_drops fit, ?_, ?_, fun n lt inDie => State.Held.off ?_⟩
    · rw [State.die_of_dies (later.dies rfl), State.dropDie_die (sound.die_lt fit)]
      rfl
    · rw [State.limpOf_of_limp (later.limp rfl), State.dropDie_limpOf (sound.limp_lt fit)]
    · exact ((State.dropDie_held (sound.tread_lt lt) (sound.die_lt fit) inDie).of_reach
        (State.dropDcls_reach (.refl _) (.refl _ _)) rfl).causeStopsFrom
  case restored =>
    intro s d sound fit down
    have lt : d < (s.raiseDie d).dies.length := by
      rw [State.raiseDie_warms.dies rfl]
      simpa [State.warmDie] using sound.die_lt fit
    refine ⟨_, execLPdRestored_raises fit down, ?_, fun n small inDie => State.raiseDie_warm (sound.tread_lt small) inDie⟩
    rw [State.die_modDie lt, State.raiseDie_die (sound.die_lt fit)]

end Sys2Proof.Machine
end

section
/-! PROOFS: the failures of the halls (O38). -/

namespace Sys2Proof.Machine

/-! ### A hall after a change -/

section

variable {s t : State} {h : HallId} {T : Nat} {n : Nat}

theorem Reach.hall (reach : Reach T s t) (hallA : T.testBit 23 = false) (hallB : T.testBit 24 = false) (h : HallId) : t.hall h = s.hall h := by
  cases h with
  | a => exact reach.hallA hallA
  | b => exact reach.hallB hallB

theorem State.hall_modHall {f : Hall → Hall} : (s.modHall h f).hall h = f (s.hall h) := by cases h <;> rfl

theorem State.hall_modHall_other {k : HallId} {f : Hall → Hall} (ne : k ≠ h) : (s.modHall k f).hall h = s.hall h := by
  cases k with
  | a =>
    cases h with
    | a => exact absurd rfl ne
    | b => rfl
  | b =>
    cases h with
    | a => rfl
    | b => exact absurd rfl ne

/-- Every tread is OFF. -/
def State.AllOff (s : State) : Prop := ∀ n, n < 96 → (s.tread n).mode = .off

theorem State.AllOff.of_treads (off : s.AllOff) (same : t.treads = s.treads) : t.AllOff := fun n lt => by
  rw [State.tread_of_treads same]
  exact off n lt

theorem State.treadsOff_all : (s.treadsOff (fun _ => true)).AllOff := by
  intro n _
  by_cases lt : n < s.treads.length
  · exact State.treadsOff_off lt rfl
  · unfold State.tread
    rw [List.getD_eq_default _ _ (by simpa [State.treadsOff] using lt)]
    rfl

end

/-! ### A hall enters reset (01 R25, R29, R30) -/

section

variable {s : State} {h : HallId} {cause : Nat}

/-- What a reset leaves of a hall: it is held, for its cause, and what it has still to record waits. -/
structure Hall.Fell (x y : Hall) (cause : Nat) : Prop where
  held : y.inReset = true
  cause : y.cause = cause
  deferred : y.deferred = x.deferred

/-- The steps of a reset before a hall's working state is lost: enables, treads, and AUX outputs of Hall A. -/
def State.quietHall (s : State) (h : HallId) : State :=
  let u := (s.enablesLow h).treadsOff (fun _ => true)
  match h with
  | .a => u.forEach 24 (fun s p => s.setAux p false none)
  | .b => u

theorem State.quietHall_off : (s.quietHall h).AllOff := by
  cases h with
  | a => exact .of_treads State.treadsOff_all ((Reach.forEach (T := 34360000512) 24 (.refl _ _) fun _ _ reach =>
      State.setAux_reach (.refl _) reach).treads rfl)
  | b => exact State.treadsOff_all

theorem State.quietHall_reach {T : Nat} (sub_ : Sub 34360012800 T) : Reach T s (s.quietHall h) := by
  have off : Reach T s ((s.enablesLow h).treadsOff (fun _ => true)) :=
    State.treadsOff_reach (sub_.sub (by decide)) (State.enablesLow_reach (sub_.sub (by decide)) (.refl _ s))
  cases h with
  | a => exact Reach.forEach 24 off fun _ _ reach => State.setAux_reach (sub_.sub (by decide)) reach
  | b => exact off

/-- A hall in reset, as it was held there. -/
def Hall.fall (x : Hall) (h : HallId) (cause stamp : Nat) : Hall :=
  { Hall.reset with
      cause := cause, resetTick := stamp, railRun := if cause = 2 then 0 else 80
      clockOk := match h with | .a => true | .b => decide (cause ≠ 4)
      pllLocked := x.pllLocked, eccSingle := x.eccSingle, deferred := x.deferred }

/-- A hall is held in reset, before its working state is lost. -/
def State.holdHall (s : State) (h : HallId) (cause : Nat) : State :=
  (s.quietHall h).modHall h (fun x => x.fall h cause (s.quietHall h).stamp)

/-- A hall that leaves UPDATE by its reset discards the firmware that has not been booted (14 R481). -/
def State.dropFirmware (s : State) (left : Mode) : State :=
  if left == .update then { s with sec := { s.sec with firmware := none, fwPending := 0 } } else s

theorem State.dropFirmware_reach {left : Mode} : Reach 17179869184 s (s.dropFirmware left) :=
  .ite (fun _ => .set_sec (.refl _) (.refl _ s)) fun _ => .refl _ s

theorem State.resetHallA_eq : s.resetHallA cause = ((s.holdHall .a cause).dropFirmware s.mode).inhibitOn.loseHallA := by
  unfold State.resetHallA
  extract_lets left quiet silent stamp held sec dropped
  have begun : held = s.holdHall .a cause := rfl
  clear_value held
  have ended : dropped = held.dropFirmware s.mode := rfl
  rw [ended, begun]

theorem State.resetHallB_eq : s.resetHallB cause = (s.holdHall .b cause).openBoth.loseHallB := by
  unfold State.resetHallB
  rfl

/-- The mask of a hall's working state. -/
def workingFields : Nat := 68559044610

theorem State.resetHall_holds (up : (s.hall h).inReset = false) :
    Reach workingFields (s.holdHall h cause) (s.resetHall h cause) := by
  unfold State.resetHall
  rw [if_neg (by simp [up])]
  cases h with
  | a =>
    rw [State.resetHallA_eq]
    exact State.loseHallA_reach (.of_or rfl) (State.inhibitOn_reach (.of_or rfl) (State.dropFirmware_reach.mono (.of_or rfl)))
  | b =>
    rw [State.resetHallB_eq]
    exact State.loseHallB_reach (.of_or rfl) (State.openBoth_reach (.of_or rfl) (.refl _ _))

theorem State.hall_holdHall : ((s.holdHall h cause).hall h) = (s.hall h).fall h cause (s.quietHall h).stamp := by
  have quiet : (s.quietHall h).hall h = s.hall h := (State.quietHall_reach (.refl _)).hall rfl rfl h
  unfold State.holdHall
  rw [State.hall_modHall, quiet]

/-- A reset holds the hall for its cause, whether it was running or in reset already. -/
theorem State.resetHall_fell : (s.hall h).Fell ((s.resetHall h cause).hall h) cause := by
  cases up : (s.hall h).inReset with
  | true =>
    unfold State.resetHall
    rw [if_pos up, State.hall_modHall]
    exact ⟨up, rfl, rfl⟩
  | false =>
    rw [(State.resetHall_holds up).hall rfl rfl, State.hall_holdHall]
    exact ⟨rfl, rfl, rfl⟩

theorem State.resetHall_other {k : HallId} (ne : k ≠ h) : (s.resetHall k cause).hall h = s.hall h := by
  cases up : (s.hall k).inReset with
  | true =>
    unfold State.resetHall
    rw [if_pos up, State.hall_modHall_other ne]
  | false =>
    rw [(State.resetHall_holds up).hall rfl rfl]
    unfold State.holdHall
    rw [State.hall_modHall_other ne]
    exact (State.quietHall_reach (.refl _)).hall rfl rfl h

theorem State.resetHall_off (up : (s.hall h).inReset = false) : (s.resetHall h cause).AllOff := by
  have held : (s.holdHall h cause).AllOff := State.quietHall_off.of_treads ((State.modHall_reach (.refl _) (.refl _ _)).treads rfl)
  exact held.of_treads ((State.resetHall_holds up).treads rfl)

theorem State.AllOff.resetHall (off : s.AllOff) : (s.resetHall h cause).AllOff := by
  cases up : (s.hall h).inReset with
  | true =>
    unfold State.resetHall
    rw [if_pos up]
    exact off.of_treads ((State.modHall_reach (.refl _) (.refl _ _)).treads rfl)
  | false => exact State.resetHall_off up

theorem State.loseHallA_trial : s.loseHallA.sec.fwPending = s.sec.fwPending := rfl

theorem State.loseHallB_trial : s.loseHallB.sec.fwPending = s.sec.fwPending := by
  unfold State.loseHallB
  extract_lets u waiting sec v w
  have answered : u.sec = s.sec := by
    unfold u
    split
    · rfl
    · exact (State.answer_reach (.refl _) (.refl _ s)).sec rfl
  have refused : v.sec.fwPending = u.sec.fwPending := by
    unfold v
    split
    · exact (congrArg Security.fwPending ((State.answerExclusive_reach (.refl _) (.refl _ _)).sec rfl) :)
    · rfl
  exact refused.trans (congrArg _ answered)

/-- A reset begins no trial of new firmware. -/
theorem State.resetHall_trial (trial : (s.resetHall h cause).sec.fwPending = 2) : s.sec.fwPending = 2 := by
  cases up : (s.hall h).inReset with
  | true =>
    unfold State.resetHall at trial
    rw [if_pos up] at trial
    rwa [(State.modHall_reach (.refl _) (.refl _ s)).sec rfl] at trial
  | false =>
    have held : (s.holdHall h cause).sec = s.sec :=
      ((State.modHall_reach (.refl _) (.refl _ _)).sec rfl).trans ((State.quietHall_reach (.refl _)).sec rfl)
    unfold State.resetHall at trial
    rw [if_neg (by simp [up])] at trial
    rw [← held]
    cases h with
    | a =>
      rw [State.resetHallA_eq, State.loseHallA_trial, (State.inhibitOn_reach (.refl _) (.refl _ _)).sec rfl] at trial
      unfold State.dropFirmware at trial
      split at trial
      · exact absurd (show 0 = 2 from trial) (by decide)
      · exact trial
    | b =>
      rw [State.resetHallB_eq, State.loseHallB_trial] at trial
      rwa [(State.openBoth_reach (.refl _) (.refl _ _)).sec rfl] at trial

/-! ### The module restarts (12 R422, 14 R480) -/

/-- Both halls are held in reset. -/
structure State.BothHeld (s : State) : Prop where
  hallA : s.hallA.inReset = true
  hallB : s.hallB.inReset = true

theorem State.resetModule_held : (s.resetModule cause).BothHeld := by
  refine ⟨(State.resetHall_fell (h := .a)).held, ?_⟩
  have other := State.resetHall_other (s := s.resetHall .b cause) (k := .a) (h := .b) (cause := cause) (by decide)
  exact (congrArg Hall.inReset other).trans (State.resetHall_fell (h := .b)).held

theorem State.resetModule_deferred : ((s.resetModule cause).hall h).deferred = (s.hall h).deferred := by
  cases h with
  | a =>
    have other := State.resetHall_other (s := s) (k := .b) (h := .a) (cause := cause) (by decide)
    exact (State.resetHall_fell (h := .a)).deferred.trans (congrArg Hall.deferred other)
  | b =>
    have other := State.resetHall_other (s := s.resetHall .b cause) (k := .a) (h := .b) (cause := cause) (by decide)
    exact (congrArg Hall.deferred other).trans (State.resetHall_fell (h := .b)).deferred

theorem State.AllOff.resetModule (off : s.AllOff) : (s.resetModule cause).AllOff := (off.resetHall.resetHall).of_treads rfl

theorem State.failTrial_hall : (s.failTrial cause).hall h = (s.resetModule 8).hall h := by cases h <;> rfl

theorem State.failTrial_held : (s.failTrial cause).BothHeld := ⟨State.resetModule_held.hallA, State.resetModule_held.hallB⟩

theorem State.BothHeld.hall (held : s.BothHeld) (h : HallId) : (s.hall h).inReset = true := by
  cases h with
  | a => exact held.hallA
  | b => exact held.hallB

/-! ### A hall fails (01 R25, R29, R32) -/

/-- What the failure of a hall leaves: the hall is held, every tread is OFF, and outside a trial boot the cause is that of the failure. -/
structure State.Failed (s t : State) (h : HallId) (cause : Nat) : Prop where
  held : (t.hall h).inReset = true
  off : t.AllOff
  cause : s.sec.fwPending ≠ 2 → (t.hall h).cause = cause
  deferred : (t.hall h).deferred = (s.hall h).deferred

theorem State.hallFails_failed (up : (s.hall h).inReset = false) : s.Failed (s.hallFails h cause) h cause := by
  have fell := State.resetHall_fell (s := s) (h := h) (cause := cause)
  have off := State.resetHall_off (cause := cause) up
  unfold State.hallFails
  dsimp only
  split
  next trial =>
    have deferred : (((s.resetHall h cause).failTrial 2).hall h).deferred = ((s.resetHall h cause).hall h).deferred := by
      rw [State.failTrial_hall, State.resetModule_deferred]
    exact ⟨State.failTrial_held.hall h, off.resetModule.of_treads rfl, fun none' => absurd (State.resetHall_trial trial) none',
      deferred.trans fell.deferred⟩
  next => exact ⟨fell.held, off, fun _ => fell.cause, fell.deferred⟩

/-- A failure that is recorded once both halls run again. -/
theorem State.deferredReset_failed (up : (s.hall h).inReset = false) :
    let t := s.deferredReset h cause
    (t.hall h).inReset = true ∧ t.AllOff ∧ (s.sec.fwPending ≠ 2 → (t.hall h).cause = cause) ∧ (t.hall h).deferred = some cause := by
  have failed : (s.modHall h (fun x => { x with deferred := some cause })).Failed (s.deferredReset h cause) h cause :=
    State.hallFails_failed (by rw [State.hall_modHall]; exact up)
  have sec := (State.modHall_reach (h := h) (f := fun x => { x with deferred := some cause }) (.refl _) (.refl _ s)).sec rfl
  refine ⟨failed.held, failed.off, fun none' => failed.cause (sec ▸ none'), failed.deferred.trans ?_⟩
  rw [State.hall_modHall]

theorem execHallSupplyFault_fails {core io : Rat} (out : railsIn core io = false) :
    ∃ t, execHallSupplyFault ⟨h, core, io⟩ s = .next t ∧ t.treads = (s.deferredReset h 2).treads ∧
      t.hall h = (s.deferredReset h 2).hall h := by
  unfold execHallSupplyFault
  rw [if_neg (by simp [out])]
  cases h with
  | a => exact ⟨_, rfl, rfl, rfl⟩
  | b => exact ⟨_, rfl, rfl, rfl⟩

theorem railsIn_of_outside {core io : Rat} (outside : core < 76 / 100 ∨ 84 / 100 < core ∨ io < 31 / 10 ∨ 35 / 10 < io) :
    railsIn core io = false := by
  rcases outside with h | h | h | h <;> simp [railsIn, Rat.not_le.2 h]

end

/-- Settles O38: every failure holds its hall in reset, which turns all treads OFF; a trial boot that it ends holds both halls. -/
theorem hallFailuresTurnEveryTreadOff : Obligations.HallFailuresTurnEveryTreadOff := by
  unfold Obligations.HallFailuresTurnEveryTreadOff
  intro s h sound up off
  refine ⟨fun core io => ⟨fun outside => ?supply, fun c c' i i' => ?inside⟩, ?pll, ?ecc, ?line, ?watchdog, ?clock⟩
  case supply =>
    obtain ⟨t, answer, treads, hall⟩ := execHallSupplyFault_fails (s := s) (h := h) (railsIn_of_outside outside)
    obtain ⟨held, off', cause, deferred⟩ := State.deferredReset_failed (cause := 2) up
    exact ⟨t, answer, ⟨hall ▸ held, off'.of_treads treads⟩, hall ▸ cause, hall ▸ deferred⟩
  case inside => exact if_pos (by simp [railsIn, c, c', i, i'])
  case pll =>
    have failed := State.hallFails_failed (cause := 3) up
    have hall := State.hall_modHall (s := s.hallFails h 3) (h := h) (f := fun x => { x with pllLocked := false })
    have treads := (State.modHall_reach (h := h) (f := fun x => { x with pllLocked := false }) (.refl _) (.refl _ (s.hallFails h 3))).treads rfl
    exact ⟨_, rfl, ⟨(congrArg Hall.inReset hall).trans failed.held, failed.off.of_treads treads⟩, congrArg Hall.pllLocked hall,
      fun none' => (congrArg Hall.cause hall).trans (failed.cause none')⟩
  case ecc =>
    obtain ⟨held, off', cause, deferred⟩ := State.deferredReset_failed (cause := 5) up
    exact ⟨_, rfl, ⟨held, off'⟩, cause, deferred⟩
  case line =>
    have failed := State.hallFails_failed (cause := (s.hall h).cause) up
    exact ⟨_, rfl, failed.held, failed.off⟩
  case watchdog =>
    have failed := State.hallFails_failed (cause := 6) up
    exact ⟨_, rfl, ⟨failed.held, failed.off⟩, failed.cause⟩
  case clock =>
    rintro rfl twice
    obtain ⟨held, off', cause, -⟩ := State.deferredReset_failed (cause := 4) up
    exact ⟨_, if_neg (by simpa [show s.hallB.inReset = false from up] using Nat.succ_le_iff.1 twice), ⟨held, off'⟩, cause⟩

end Sys2Proof.Machine
end

section
/-! PROOFS: the entry to SAFE_HOLD, the modes of the halls, the seal and the safety tick (O37). -/

namespace Sys2Proof.Machine

/-! ### A hall enters SAFE_HOLD (08 R289, R290) -/

section

variable {s t : State} {h : HallId} {bit : Nat} {x : Hall}

/-- A cause of SAFE_HOLD is set in a hall. -/
def Hall.addCause (x : Hall) (bit : Nat) : Hall :=
  { x with shCause := x.shCause ||| BitVec.ofNat 16 (2 ^ bit), present := x.present ||| BitVec.ofNat 16 (2 ^ bit) }

/-- A hall in SAFE_HOLD: what it had proposed and heard is void. -/
def Hall.hold (x : Hall) : Hall :=
  { x with mode := .safeHold, prop := none, ack := none, gotAck := false, partnerProp := none, matched := 0, failNote := none }

/-- What a hall had proposed has failed. -/
def State.withdraw (s : State) (h : HallId) (prop : Option (Mode × Nat)) : State :=
  match prop with
  | none => s
  | some (m, _) =>
    let s := s.record Evt.modeProposalFailed noSource [word32 m.code, 6]
    if h = HallId.a then s.answerMode stState 6 else s

/-- What SAFE_HOLD asks of each hall at its entry. -/
def State.holdOutputs (s : State) (h : HallId) (left : Mode) : State :=
  match h with
  | .a => (s.hallAMode left .safeHold 2 (s.hallA.shCause.toNat)).inhibitOn
  | .b => s.holdEntryB

/-- A hall falls back to SAFE_HOLD from the mode that `x` had, with what `x` had proposed. -/
def State.fallBack (s : State) (h : HallId) (x : Hall) : State :=
  let u := ((s.withdraw h x.prop).modHall h Hall.hold).holdOutputs h x.mode
  u.recordIf ((u.hall (otherHall h)).mode != .safeHold) Evt.safeHoldEntered noSource
    [word32 (u.hallA.shCause ||| u.hallB.shCause).toNat, u.charge .a, u.charge .b]

theorem State.enterHold_eq (up : (s.hall h).inReset = false) (started : (s.hall h).mode ≠ .boot) :
    s.enterHold h bit = (if (s.hall h).mode == .safeHold then s.modHall h (·.addCause bit)
      else (s.modHall h (·.addCause bit)).fallBack h (s.hall h)).suspectEnables.applyAuth :=
  if_neg (by simp [up, started])

/-- The mask of what the outputs of SAFE_HOLD change, beside the halls. -/
def holdFields : Nat := 59633840128

theorem State.withdraw_reach {prop : Option (Mode × Nat)} : Reach holdFields s (s.withdraw h prop) := by
  unfold State.withdraw
  split
  · exact .refl _ s
  · exact .ite (fun _ => State.answerMode_reach (.of_or rfl) (State.record_reach (.of_or rfl) (.refl _ s)))
      fun _ => State.record_reach (.of_or rfl) (.refl _ s)

theorem State.holdOutputs_reach {left : Mode} : Reach holdFields s (s.holdOutputs h left) := by
  unfold State.holdOutputs
  cases h with
  | a => exact State.inhibitOn_reach (.of_or rfl) (State.hallAMode_reach (.of_or rfl) (.refl _ s))
  | b => exact State.holdEntryB_reach (.of_or rfl) (.refl _ s)

theorem State.fallBack_hall : (s.fallBack h x).hall h = (s.hall h).hold := by
  unfold State.fallBack
  extract_lets u
  rw [(State.recordIf_reach (.refl _) (.refl _ u)).hall rfl rfl]
  unfold u
  rw [State.holdOutputs_reach.hall rfl rfl, State.hall_modHall, State.withdraw_reach.hall rfl rfl]

theorem State.authorize_reach : Reach 33566720 s s.suspectEnables.applyAuth :=
  State.applyAuth_reach (.of_or rfl) (State.suspectEnables_reach (.of_or rfl) (.refl _ s))

/-- A hall that runs and has a mode enters SAFE_HOLD with the cause, or adds it to the SAFE_HOLD that it is in. -/
theorem State.enterHold_holds (up : (s.hall h).inReset = false) (started : (s.hall h).mode ≠ .boot) :
    ((s.enterHold h bit).hall h).mode = .safeHold ∧
      ((s.enterHold h bit).hall h).shCause = (s.hall h).shCause ||| BitVec.ofNat 16 (2 ^ bit) := by
  rw [State.enterHold_eq up started, State.authorize_reach.hall rfl rfl]
  split
  next safe =>
    rw [State.hall_modHall]
    exact ⟨eq_of_beq safe, rfl⟩
  next =>
    rw [State.fallBack_hall, State.hall_modHall]
    exact ⟨rfl, rfl⟩

/-- A cause that is set is found. -/
theorem or_bit_and_bit {w : BitVec 16} {b : BitVec 16} (one : b ≠ 0) : (w ||| b) &&& b ≠ 0 := by
  intro none'
  refine one ?_
  have all : (w ||| b) &&& b = b := by
    ext i lt
    simp +contextual
  exact all.symm.trans none'

/-! ### The seal through an entry to SAFE_HOLD (08 R294) -/

theorem State.applyInhibit_sealRd : s.applyInhibit.safety.sealRd = s.safety.sealRd := by
  unfold State.applyInhibit
  split <;> rfl

theorem State.authorize_sealRd : s.suspectEnables.applyAuth.safety.sealRd = s.safety.sealRd :=
  State.applyInhibit_sealRd.trans (congrArg Safety.sealRd ((State.applyEnables_reach (T := 12288) (.refl _)
    (State.suspectEnables_reach (.refl _) (.refl _ s))).safety rfl))

theorem State.withdraw_safety {prop : Option (Mode × Nat)} : (s.withdraw h prop).safety = s.safety := by
  unfold State.withdraw
  split
  · rfl
  · exact (Reach.ite (T := 38654705664 ||| 36507222016) (fun _ => State.answerMode_reach (.of_or rfl) (State.record_reach (.of_or rfl) (.refl _ s)))
      fun _ => State.record_reach (.of_or rfl) (.refl _ s)).safety rfl

theorem State.holdOutputs_sealRd {left : Mode} : (s.holdOutputs .b left).safety.sealRd = s.safety.sealRd := rfl

theorem State.fallBack_sealRd : (s.fallBack .b x).safety.sealRd = s.safety.sealRd := by
  unfold State.fallBack
  extract_lets u
  rw [(State.recordIf_reach (.refl _) (.refl _ u)).safety rfl]
  unfold u
  rw [State.holdOutputs_sealRd]
  exact congrArg Safety.sealRd State.withdraw_safety

theorem State.enterHold_sealRd (up : s.hallB.inReset = false) (started : s.hallB.mode ≠ .boot) :
    (s.enterHold .b bit).safety.sealRd = s.safety.sealRd := by
  rw [State.enterHold_eq (h := .b) up started, State.authorize_sealRd]
  split
  · rfl
  · exact State.fallBack_sealRd

end

/-! ### The halls change mode together (08 R285, R286, R292) -/

section

variable {s : State} {h k : HallId} {m : Mode} {cause at' : Nat}

/-- A hall that takes a mode; one that leaves SAFE_HOLD has no cause left. -/
def Hall.take (x : Hall) (new : Mode) (leaving : Bool) : Hall :=
  { x with
      mode := new, prop := none, ack := none, gotAck := false, partnerProp := none, matched := if leaving then 0 else x.matched
      shCause := if leaving then 0 else x.shCause, present := if leaving then 0 else x.present }

/-- The mask of what follows on a hall's change of mode, beside the halls. -/
def modeFields : Nat := 59835167712

theorem State.takeMode_takes :
    Reach modeFields (s.modHall h (·.take m ((s.hall h).mode == .safeHold))) (s.takeMode h m cause) := by
  unfold State.takeMode
  extract_lets old leaving held taken who freed entered
  refine State.applyAuth_reach (.of_or rfl) (State.judgeTrial_reach (.of_or rfl) ?_)
  cases h with
  | a => exact State.hallAMode_reach (.of_or rfl) (.ite (fun _ => State.freshScales_reach (.of_or rfl) (.refl _ _)) fun _ => .refl _ _)
  | b => exact State.recordIf_reach (.of_or rfl) (.ite (fun _ => State.firstStandbyEntry_reach (.of_or rfl) (.refl _ _)) fun _ => .refl _ _)

theorem State.takeMode_hall : (s.takeMode h m cause).hall h = (s.hall h).take m ((s.hall h).mode == .safeHold) := by
  rw [State.takeMode_takes.hall rfl rfl, State.hall_modHall]

theorem State.takeMode_other (ne : k ≠ h) : (s.takeMode k m cause).hall h = s.hall h := by
  rw [State.takeMode_takes.hall rfl rfl, State.hall_modHall_other ne]

theorem State.partnerTurn_other (ne : k ≠ h) : (s.partnerTurn k).hall h = s.hall h := by
  unfold State.partnerTurn
  dsimp only
  split
  · split
    · exact State.takeMode_other ne
    · rfl
  · rfl

/-- A hall without a proposal of its own. -/
def Hall.unpropose (x : Hall) : Hall := { x with prop := none, gotAck := false }

/-- A hall withdraws the proposal that its partner has not acknowledged. -/
def State.endProposal (s : State) (h : HallId) (m : Mode) : State :=
  let u := (s.modHall h Hall.unpropose).record Evt.modeProposalFailed noSource [word32 m.code, 3]
  if h = HallId.a then u.answerMode stState 3 else u

theorem State.proposerTurn_none (idle : (s.hall h).prop = none) : s.proposerTurn h = s := by
  unfold State.proposerTurn
  rw [idle]

theorem State.proposerTurn_some (proposed : (s.hall h).prop = some (m, at')) :
    s.proposerTurn h = if s.tick < at' then s else if (s.hall h).gotAck then s.takeMode h m 1 else s.endProposal h m := by
  unfold State.proposerTurn
  rw [proposed]
  rfl

theorem State.endProposal_reach : Reach (38654705664 ||| 36507222016) (s.modHall k Hall.unpropose) (s.endProposal k m) :=
  .ite (fun _ => State.answerMode_reach (.of_or rfl) (State.record_reach (.of_or rfl) (.refl _ _)))
    fun _ => State.record_reach (.of_or rfl) (.refl _ _)

theorem State.proposerTurn_other (ne : k ≠ h) : (s.proposerTurn k).hall h = s.hall h := by
  cases proposed : (s.hall k).prop with
  | none => rw [State.proposerTurn_none proposed]
  | some p =>
    rw [State.proposerTurn_some proposed]
    split
    · rfl
    · split
      · exact State.takeMode_other ne
      · rw [State.endProposal_reach.hall rfl rfl, State.hall_modHall_other ne]

/-- At its tick a proposal is over: the proposer takes the mode if its partner has acknowledged, and stays as it was if not. -/
theorem State.proposerTurn_hall (proposed : (s.hall h).prop = some (m, at')) (due : at' ≤ s.tick) :
    ((s.proposerTurn h).hall h).prop = none ∧
      ((s.proposerTurn h).hall h).mode = if (s.hall h).gotAck then m else (s.hall h).mode := by
  rw [State.proposerTurn_some proposed, if_neg (not_lt.2 due)]
  split
  · rw [State.takeMode_hall]
    exact ⟨rfl, rfl⟩
  · rw [State.endProposal_reach.hall rfl rfl, State.hall_modHall]
    exact ⟨rfl, rfl⟩

/-- A partner that has acknowledged a proposal which the proposer's last frame still carried takes the mode at its tick. -/
theorem State.partnerTurn_takes {seen : Nat} (heard : (s.hall h).partnerProp = some (m, at', seen)) (acked : (s.hall h).ack = some at')
    (due : at' ≤ s.tick) (carried : at' ≤ seen + 1) (new : (s.hall h).mode ≠ m) : ((s.partnerTurn h).hall h).mode = m := by
  unfold State.partnerTurn
  dsimp only
  rw [heard, acked]
  dsimp only
  rw [if_pos (by simp [due, carried, new]), State.takeMode_hall]
  rfl

theorem execModeTransition_of_prop (proposes : s.hallA.prop.isSome = true) :
    execModeTransition s = .next ((s.partnerTurn .b).proposerTurn .a) := by
  unfold execModeTransition
  rw [if_pos proposes]
  rfl

theorem State.partnerTurn_tick : (s.partnerTurn h).tick = s.tick :=
  congrArg Clock.tick ((State.partnerTurn_reach (.refl _) (.refl _ s)).clock rfl)

end

/-! ### The seal (08 R294, 11 R380) -/

section

variable {s : State} {c : BitVec 48}

/-- A state with one more reading of the contacts. -/
def State.takeReading (s : State) (c : BitVec 48) : State :=
  let ok := s.sealMatches (sealOf c)
  { s with
      safety := { s.safety with
          sealRd := {
            value := sealOf c, lastValid := (sealOf c).getD s.safety.sealRd.lastValid, readDone := true
            stable := if ok then s.safety.sealRd.stable + 1 else 0, ok := ok } } }

/-- A hall whose seal matches: the cause of SAFE_HOLD is no longer present. -/
def Hall.sealed (x : Hall) : Hall := { x with present := x.present &&& ~~~(0x20 : BitVec 16) }

theorem State.readSeal_eq : s.readSeal c =
    if 2 ≤ (s.takeReading c).safety.sealRd.stable then (s.takeReading c).modHall .b Hall.sealed else s.takeReading c := rfl

theorem State.readSeal_safety : (s.readSeal c).safety = (s.takeReading c).safety := by
  rw [State.readSeal_eq]
  split <;> rfl

theorem State.readSeal_reads : (s.readSeal c).safety.sealRd.value = sealOf c ∧ (s.readSeal c).safety.sealRd.readDone = true ∧
    (s.readSeal c).safety.sealRd.ok = s.sealMatches (sealOf c) := by
  rw [State.readSeal_safety]
  exact ⟨rfl, rfl, rfl⟩

/-- A reading of the seal leaves the mode of Hall B. -/
theorem State.readSeal_hallB : (s.readSeal c).hallB.inReset = s.hallB.inReset ∧ (s.readSeal c).hallB.mode = s.hallB.mode := by
  rw [State.readSeal_eq]
  split <;> exact ⟨rfl, rfl⟩

/-- The reaction of the mode to a reading leaves the reading. -/
theorem execSealRead_reads (up : s.hallBUp = true) :
    ∃ t, execSealRead c s = .next t ∧ t.safety.sealRd = (s.readSeal c).safety.sealRd := by
  have up' : (s.readSeal c).hallB.inReset = false := by
    rw [State.readSeal_hallB.1]
    simpa [State.hallBUp] using up
  unfold execSealRead
  rw [if_neg (by simp [up])]
  extract_lets old u now changed word
  split
  · exact ⟨_, rfl, rfl⟩
  next started =>
    split
    · exact ⟨_, rfl, congrArg Safety.sealRd ((State.recordIf_reach (.refl _) (.refl _ u)).safety rfl)⟩
    · split
      · refine ⟨_, rfl, (State.enterHold_sealRd ?_ ?_).trans (congrArg Safety.sealRd State.record_safety)⟩
        · rw [State.record_hallB]
          exact up'
        · rw [State.record_hallB]
          simpa using started
      · exact ⟨_, rfl, rfl⟩

/-- In STANDBY and in RUN a seal that does not match is a cause of SAFE_HOLD. -/
theorem execSealRead_mismatch (up : s.hallBUp = true) (runs : s.hallB.mode = .standby ∨ s.hallB.mode = .run)
    (active : s.sec.active.isSome = true) (wrong : s.sealMatches (sealOf c) = false) :
    ∃ u : State, execSealRead c s = .next (u.enterHold .b 5) ∧ u.hallB.inReset = false ∧ u.hallB.mode ≠ .boot := by
  have ok := State.readSeal_reads (s := s) (c := c)
  obtain ⟨reset, mode⟩ := State.readSeal_hallB (s := s) (c := c)
  have sec : (s.readSeal c).sec = s.sec := (State.readSeal_reach (.refl _) (.refl _ s)).sec rfl
  unfold execSealRead
  rw [if_neg (by simp [up])]
  dsimp only
  rw [mode, sec, if_neg (by rcases runs with h | h <;> simp [h]),
    if_neg (by rcases runs with h | h <;> simp [h, Option.isSome_iff_ne_none.1 active]), if_pos (by simp [ok, wrong])]
  refine ⟨_, rfl, ?_, ?_⟩
  · rw [State.record_hallB, reset]
    simpa [State.hallBUp] using up
  · rw [State.record_hallB, mode]
    rcases runs with h | h <;> simp [h]

end

/-! ### The safety tick (01 R35, 08 R261) -/

section

variable {s : State} {i : TickIn}

/-- Where the clocks of the halls and the sample grid stand. -/
def State.grid (s : State) : Nat × Nat := (s.tick, s.sample)

theorem State.clockTicks_grid : (s.clockTicks i).grid = (s.tick + 1, s.sample) := by
  unfold State.clockTicks
  extract_lets both ra rb warn outs ticked judged
  split
  · rfl
  · rfl

theorem State.tickSlips_grid {slips : List Rat} : (s.tickSlips slips).grid = s.grid := by
  refine State.forEach_keeps State.grid (fun u d => ?_) s 3
  split
  · unfold State.grid State.tick State.sample
    rw [State.record_clock]
  · rfl

theorem Reach.grid {T : Nat} {t : State} (reach : Reach T s t) (clock : T.testBit 1 = false) : t.grid = s.grid :=
  congrArg (fun c : Clock => (c.tick, c.sample)) (reach.clock clock)

/-- A safety tick as far as the counts of time. -/
def State.tickBegins (s : State) (i : TickIn) : State :=
  ((((s.exchange i.toA i.toB).clockTicks i).startTests.tickSlips i.slips).heartbeats i).countTime.ringTick

/-- A safety tick as far as the budgets, with Hall B's functions. -/
def State.tickJudges (s : State) (i : TickIn) : State :=
  let u := s.tickBegins i
  (if u.hallBUp && u.hallB.mode != .boot then u.hallBTick i else u).budgetTicks

/-- What a safety tick does last. -/
def State.tickEnds (s : State) : State := (s.zeroCheck.applyAuth.modeReplies.activationWait).treadsBack.ringEnd

theorem State.safetyTick_eq : s.safetyTick i = ((s.tickJudges i).tickReads i).tickEnds := by
  unfold State.safetyTick State.tickJudges
  extract_lets heard begun judged ended u
  have same : begun = u := rfl
  unfold ended judged
  rw [same]
  rfl

theorem State.tickBegins_counts :
    Reach 27917289488 (((s.exchange i.toA i.toB).clockTicks i).startTests.tickSlips i.slips) (s.tickBegins i) :=
  State.ringTick_reach (.of_or rfl) (State.countTime_reach (.of_or rfl) (State.heartbeats_reach (.of_or rfl) (.refl _ _)))

theorem State.tickBegins_grid : (s.tickBegins i).grid = (s.tick + 1, s.sample) := by
  have tests := (State.startTests_reach (.refl _) (.refl _ ((s.exchange i.toA i.toB).clockTicks i))).grid rfl
  have before := (State.exchange_reach (toA := i.toA) (toB := i.toB) (.refl _) (.refl _ s)).clock rfl
  rw [State.tickBegins_counts.grid rfl, State.tickSlips_grid, tests, State.clockTicks_grid]
  unfold State.tick State.sample
  rw [before]

theorem State.tickBegins_baseplate : (s.tickBegins i).baseplate = s.baseplate := by
  rw [State.tickBegins_counts.baseplate rfl, (State.tickSlips_reach (.refl _) (.refl _ _)).baseplate rfl,
    (State.startTests_reach (.refl _) (.refl _ _)).baseplate rfl, (State.clockTicks_reach (.refl _) (.refl _ _)).baseplate rfl,
    (State.exchange_reach (.refl _) (.refl _ s)).baseplate rfl]

/-- The mask of what a safety tick may change before it reads the baseplate, beside the clocks. -/
def judgedFields : Nat := 137035527136

theorem State.tickJudges_judges : Reach judgedFields (s.tickBegins i) (s.tickJudges i) :=
  State.budgetTicks_reach (.of_or rfl) (.ite (fun _ => State.hallBTick_reach (.of_or rfl) (.refl _ _)) fun _ => .refl _ _)


/-- The mask of what a safety tick does last. -/
def endedFields : Nat := 66606608384

theorem State.tickEnds_ends : Reach endedFields s s.tickEnds :=
  State.ringEnd_reach (.of_or rfl) (State.treadsBack_reach (.of_or rfl) (State.activationWait_reach (.of_or rfl)
    (State.modeReplies_reach (.of_or rfl) (State.applyAuth_reach (.of_or rfl) (State.zeroCheck_reach (.of_or rfl) (.refl _ s))))))

theorem State.tickReads_grid : (s.tickReads i).grid = s.grid := rfl

theorem State.tickReads_tb : (s.tickReads i).supply.tbTick = s.baseplate := rfl

theorem State.safetyTick_grid : (s.safetyTick i).grid = (s.tick + 1, s.sample) := by
  rw [State.safetyTick_eq, State.tickEnds_ends.grid rfl, State.tickReads_grid, State.tickJudges_judges.grid rfl, State.tickBegins_grid]

/-- The baseplate stands as it was when the tick reads it (02 R56). -/
theorem State.safetyTick_tb : (s.safetyTick i).supply.tbTick = s.baseplate := by
  rw [State.safetyTick_eq, State.tickEnds_ends.supply rfl, State.tickReads_tb, State.tickJudges_judges.baseplate rfl,
    State.tickBegins_baseplate]

theorem execSafetyTick_due (due : 8 * s.tick + 8 ≤ s.sample) : execSafetyTick i s = .next (s.safetyTick i) :=
  congrArg _ (if_pos (decide_eq_true due))

theorem execSafetyTick_early (early : s.sample < 8 * s.tick + 8) : execSafetyTick i s = .next s :=
  congrArg _ (if_neg (by simpa [State.tickDue] using early))

theorem execWordMismatchLimit_third {h : HallId} (third : 3 ≤ (s.hall h).misRun) :
    execWordMismatchLimit h s = .next (s.enterHold h (if (s.hall h).misLost then 1 else 0)) :=
  congrArg _ (if_pos third)

end

/-- Settles O37: the tick advances the clock alone of the two grids; a third mismatch and a wrong seal are causes of SAFE_HOLD; and each hall
ends a proposal by what it had before the tick, which its partner's turn leaves. -/
theorem hallsTickAgreeAndFallBack : Obligations.HallsTickAgreeAndFallBack := by
  unfold Obligations.HallsTickAgreeAndFallBack
  refine ⟨?tick, ?early, ?mismatch, ?proposer, ?partner, ?reading, ?wrong⟩
  case tick =>
    intro s i due
    obtain ⟨tick, sample⟩ := Prod.mk.inj (State.safetyTick_grid (s := s) (i := i))
    exact ⟨_, execSafetyTick_due due, tick, sample, State.safetyTick_tb⟩
  case early =>
    exact fun s i early => execSafetyTick_early early
  case mismatch =>
    intro s h third up started
    obtain ⟨mode, causes⟩ := State.enterHold_holds (bit := if (s.hall h).misLost then 1 else 0) up started
    refine ⟨_, execWordMismatchLimit_third third, mode, ?_⟩
    rw [causes]
    cases (s.hall h).misLost
    · exact or_bit_and_bit (b := 1) (by decide)
    · exact or_bit_and_bit (b := 2) (by decide)
  case proposer =>
    intro s m at' proposed due
    have same : (s.partnerTurn .b).hallA = s.hallA := State.partnerTurn_other (h := .a) (by decide)
    have turn := State.proposerTurn_hall (s := s.partnerTurn .b) (h := .a) (m := m) (at' := at')
      ((congrArg Hall.prop same).trans proposed) (by rw [State.partnerTurn_tick]; exact due)
    rw [show (s.partnerTurn .b).hall .a = s.hallA from same] at turn
    exact ⟨_, execModeTransition_of_prop (by simp [proposed]), turn⟩
  case partner =>
    intro s m at' seen proposed heard acked due carried new
    have other : ((s.partnerTurn .b).proposerTurn .a).hallB = (s.partnerTurn .b).hallB := State.proposerTurn_other (h := .b) (by decide)
    exact ⟨_, execModeTransition_of_prop proposed,
      (congrArg Hall.mode other).trans (State.partnerTurn_takes (h := .b) heard acked due carried new)⟩
  case reading =>
    intro s c up
    obtain ⟨t, answer, same⟩ := execSealRead_reads (c := c) up
    obtain ⟨value, done, -⟩ := State.readSeal_reads (s := s) (c := c)
    exact ⟨t, answer, by rw [same, value], by rw [same, done]⟩
  case wrong =>
    intro s c up runs active mismatch
    obtain ⟨u, answer, up', started⟩ := execSealRead_mismatch up runs active mismatch
    obtain ⟨mode, causes⟩ := State.enterHold_holds (h := .b) (bit := 5) up' started
    refine ⟨_, answer, mode, ?_⟩
    rw [show (u.enterHold .b 5).hallB.shCause = _ from causes]
    exact or_bit_and_bit (b := 0x20) (by decide)

end Sys2Proof.Machine
end

section
/-! PROOFS: the faults of the clocks, lost heartbeats, the enables of a flight and the loss of the supply (O39). -/

namespace Sys2Proof.Machine

/-! ### The enables of a hall (01 R29) -/

section

variable {s : State} {f k n : Nat} {h : HallId}

/-- The enable line of a hall at a flight. -/
def FlightPower.enable (x : FlightPower) (h : HallId) : Bool :=
  match h with
  | .a => x.enA
  | .b => x.enB

/-- A flight whose enable line of one hall is low. -/
def FlightPower.disable (x : FlightPower) (h : HallId) : FlightPower :=
  match h with
  | .a => { x with enA := false }
  | .b => { x with enB := false }

theorem FlightPower.enable_disable {x : FlightPower} : (x.disable h).enable h = false := by cases h <;> rfl

theorem State.enableLow_flightPower : (s.enableLow f h).flightPower = (s.modFpower f (·.disable h)).flightPower := by cases h <;> rfl

theorem State.enableLow_line (lt : f < s.flightPower.length) : ((s.enableLow f h).fpower f).enable h = false := by
  rw [State.fpower_of_flightPower State.enableLow_flightPower, State.fpower_modFpower lt]
  exact FlightPower.enable_disable

theorem State.enableLow_line_other (ne : k ≠ f) : (s.enableLow k h).fpower f = s.fpower f := by
  rw [State.fpower_of_flightPower State.enableLow_flightPower, State.fpower_modFpower_ne ne]

theorem State.enableLow_lines : (s.enableLow f h).flightPower.length = s.flightPower.length := by
  rw [State.enableLow_flightPower]
  exact List.length_modify ..

theorem State.enableLow_treads : (s.enableLow f h).treads =
    (s.treadsOff (fun t => flightOfTread t = f && !(s.limpOf (dieOfFlight f)).inCharge)).treads := rfl

theorem State.enableLow_off (lt : n < s.treads.length) (free : (s.limpOf (dieOfFlight f)).inCharge = false) (inFlight : flightOfTread n = f) :
    ((s.enableLow f h).tread n).mode = .off := by
  rw [State.tread_of_treads State.enableLow_treads]
  exact State.treadsOff_off lt (by simp [free, inFlight])

theorem State.enableLow_other (elsewhere : flightOfTread n ≠ f) : (s.enableLow f h).tread n = s.tread n := by
  rw [State.tread_of_treads State.enableLow_treads]
  simp [State.treadsOff, State.tread, List.getD_eq_getElem?_getD, elsewhere]

theorem State.enableLow_length : (s.enableLow f h).treads.length = s.treads.length := List.length_mapIdx

/-- A flight's enables, and how many flights there are. -/
def State.lineOf (s : State) (f : Nat) : Nat × FlightPower := (s.flightPower.length, s.fpower f)

theorem State.lineOf_snd : (s.lineOf f).2 = s.fpower f := rfl

theorem State.enablesLow_line (small : f < 12) (lt : f < s.flightPower.length) : ((s.enablesLow h).fpower f).enable h = false := by
  rw [← State.lineOf_snd]
  unfold State.enablesLow
  exact State.forEach_own (P := fun x => x.2.enable h = false) (·.lineOf f) small
    (fun _ _ ne => Prod.ext State.enableLow_lines (State.enableLow_line_other ne))
    fun _ same => State.enableLow_line (lt_of_lt_of_eq lt (congrArg Prod.fst same).symm)

/-- A tread, how many there are, and the limp-home paths. -/
def State.treadOf (s : State) (n : Nat) : (List LimpHome × Nat) × Tread := ((s.limp, s.treads.length), s.tread n)

theorem State.treadOf_snd : (s.treadOf n).2 = s.tread n := rfl

/-- The enables of a hall go low: every tread is OFF, but for those of a die whose limp-home path is in charge. -/
theorem State.enablesLow_off (small : n < 96) (lt : n < s.treads.length) (free : (s.limpOf (dieOfFlight (flightOfTread n))).inCharge = false) :
    ((s.enablesLow h).tread n).mode = .off := by
  rw [← State.treadOf_snd]
  unfold State.enablesLow
  refine State.forEach_own (n := flightOfTread n) (P := fun x => x.2.mode = .off) (·.treadOf n) (by unfold flightOfTread; omega)
    (fun _ k ne => Prod.ext (Prod.ext rfl State.enableLow_length) (State.enableLow_other ne.symm)) fun u same => ?_
  have limp : u.limp = s.limp := congrArg (·.1.1) same
  have length : u.treads.length = s.treads.length := congrArg (·.1.2) same
  exact State.enableLow_off (length ▸ lt) (by rw [State.limpOf_of_limp limp]; exact free) rfl

theorem State.free_of_limpInCharge {d : Nat} (free : s.limpInCharge = false) : (s.limpOf d).inCharge = false := by
  cases charge : (s.limpOf d).inCharge with
  | false => rfl
  | true => exact absurd (State.limpInCharge_of charge) (by simp [free])

/-- The clock of a hall is found out of range: the enables of that hall are low. -/
structure State.Disabled (s t : State) (h : HallId) : Prop where
  lines : ∀ f, f < 12 → ((t.fpower f).enable h) = false
  off : s.limpInCharge = false → t.AllOff

theorem State.enablesLow_disabled (sound : s.Sound) : s.Disabled (s.enablesLow h) h :=
  ⟨fun _ lt => State.enablesLow_line lt (by rw [sound.flightPower]; exact lt),
    fun free _ lt => State.enablesLow_off lt (sound.tread_lt lt) (State.free_of_limpInCharge free)⟩

theorem State.Disabled.later {t u : State} {T : Nat} (disabled : s.Disabled t h) (reach : Reach T t u) (flightPower : T.testBit 12 = false)
    (treads : T.testBit 13 = false) : s.Disabled u h :=
  ⟨fun f lt => by rw [State.fpower_of_flightPower (reach.flightPower flightPower)]; exact disabled.lines f lt,
    fun free => (disabled.off free).of_treads (reach.treads treads)⟩

theorem State.Disabled.since {t u : State} {T : Nat} (disabled : t.Disabled u h) (reach : Reach T s t) (limp : T.testBit 4 = false) :
    s.Disabled u h :=
  ⟨disabled.lines, fun free => disabled.off (by unfold State.limpInCharge; rw [reach.limp limp]; exact free)⟩

end

/-! ### The cross-check of the clocks (01 R25, R36) -/

section

variable {s : State} {n : Nat} {h : HallId}

/-- A hall whose partner finds its clock out of range. -/
def Clock.suspect (c : Clock) (h : HallId) : Clock :=
  match h with
  | .a => { c with crossA := true }
  | .b => { c with crossB := true }

/-- The fault of a hall's clock is set and recorded. -/
def State.noteClock (s : State) (h : HallId) : State :=
  ({ s with clock := s.clock.suspect h }).record Evt.hallClockFault noSource [match h with | .a => 1 | .b => 0]

/-- The mask of what the record of a clock fault changes. -/
def notedFields : Nat := 36507222018

theorem State.noteClock_notes : Reach notedFields s (s.noteClock h) := State.record_reach (.of_or rfl) (Reach.set_clock (.of_or rfl) (.refl _ s))

theorem State.noteClock_clock : (s.noteClock h).clock = s.clock.suspect h := State.record_clock

theorem execHallClockFault_a (fresh : s.clock.crossA = false) (twice : 2 ≤ s.clock.crossRunA) :
    execHallClockFault .a s = .next ((s.noteClock .a).enablesLow .a).inhibitOn :=
  if_neg (by simpa [fresh] using Nat.succ_le_iff.1 twice)

theorem execHallClockFault_b (fresh : s.clock.crossB = false) (twice : 2 ≤ s.clock.crossRunB) :
    execHallClockFault .b s = .next (((s.noteClock .b).enterHold .b 2).enablesLow .b) :=
  if_neg (by simpa [fresh] using Nat.succ_le_iff.1 twice)

/-! ### Memory, heartbeats and flight enables (01 R29, R30, R32) -/

/-- A hall with errors of its memory corrected. -/
def Hall.correct (x : Hall) (n : Nat) : Hall := { x with eccSingle := x.eccSingle + word32 n }

theorem execSramScrub_corrects (up : (s.hall h).inReset = false) : execSramScrub h n false s = .next (s.modHall h (·.correct n)) :=
  if_neg (by simp [up])

theorem execSramScrub_bad (up : s.hallB.inReset = false) : execSramScrub .b n true s = .next ((s.modHall .b (·.correct n)).enterHold .b 6) :=
  if_neg (show ¬ s.hallB.inReset = true by simp [up])

/-- The heartbeats of a hall that a die has missed. -/
def Die.missed (x : Die) (h : HallId) : Nat :=
  match h with
  | .a => x.missA
  | .b => x.missB

/-- A die that forces the enables of a hall low. -/
def Die.force (x : Die) (h : HallId) : Die :=
  match h with
  | .a => { x with lowA := true }
  | .b => { x with lowB := true }

theorem execHeartbeatLoss_forces {d : Nat} (fit : d < s.nDies) (lost : 3 ≤ (s.die d).missed h) :
    execHeartbeatLoss d h s =
      .next ((s.modDie d (·.force h)).treadsOff (fun t => dieOfFlight (flightOfTread t) = d && !(s.limpOf d).inCharge)) := by
  refine (onUnit_fitted (decide_eq_true fit)).trans (congrArg _ ?_)
  cases h with
  | a => exact if_neg (not_lt.2 lost)
  | b => exact if_neg (not_lt.2 lost)

end

/-! ### The loss of the supply (02 R60) -/

section

variable {s : State} {n d f : Nat} {h : HallId}

/-- The treads of a die whose rail is lost are OFF, and those that were OFF stay so. -/
theorem State.clearDie_off (off : dieOfFlight (flightOfTread n) = d ∨ (s.tread n).mode = .off) : ((s.clearDie d).tread n).mode = .off := by
  by_cases lt : n < s.treads.length
  · rw [State.tread_clearDie lt]
    split
    · rfl
    · exact off.resolve_left ‹_›
  · unfold State.tread
    rw [State.clearDie_wipes.treads rfl, List.getD_eq_default _ _ (by simpa [State.wipeDie] using lt)]
    rfl

theorem State.forEach_two {f : State → Nat → State} : s.forEach 2 f = f (f s 0) 1 := rfl

theorem dieOfFlight_cases (lt : n < 96) : dieOfFlight (flightOfTread n) = 0 ∨ dieOfFlight (flightOfTread n) = 1 := by
  unfold dieOfFlight dieOfStorey storeyOfFlight flightOfTread
  omega

/-- The rails of the storey dies are lost. -/
def State.dropDies (s : State) : State := s.forEach 2 (fun s d => (s.modDie d Die.unpower).clearDie d)

theorem State.dropDies_eq : s.dropDies = (((s.modDie 0 Die.unpower).clearDie 0).modDie 1 Die.unpower).clearDie 1 := by
  unfold State.dropDies
  rw [State.forEach_two]

theorem State.tread_modDie {g : Die → Die} : (s.modDie d g).tread n = s.tread n := rfl

theorem State.dropDies_off : s.dropDies.AllOff := by
  intro n lt
  rw [State.dropDies_eq]
  rcases dieOfFlight_cases lt with inDie | inDie
  · refine State.clearDie_off (.inr ?_)
    rw [State.tread_modDie]
    exact State.clearDie_off (.inl inDie)
  · exact State.clearDie_off (.inl inDie)

theorem State.dropDies_drops : Reach 1386512 s s.dropDies :=
  Reach.forEach 2 (.refl _ s) fun _ _ reach => State.clearDie_reach (.of_or rfl) (State.modDie_reach (.of_or rfl) reach)

/-- A hall without its supply rails. -/
def Hall.unpower (x : Hall) : Hall := { x with railRun := 0 }

/-- The ring and the halls without their supply. -/
def State.unpowerHalls (s : State) : State :=
  (({ s with ring := s.ring.unpowered }).modHall .a Hall.unpower).modHall .b Hall.unpower

/-- SFEED, the encoder supplies and a boot ROM's halt end with the supply. -/
def State.endFeeds (s : State) : State := (s.mapFpower (fun _ _ => .reset)).modHall .b (fun x => { x with romHalt := false })

theorem State.endFeeds_feed : (s.endFeeds.fpower f).feedOn = false := by
  by_cases lt : f < s.flightPower.length
  · exact congrArg FlightPower.feedOn (State.fpower_mapFpower lt)
  · unfold State.fpower
    rw [List.getD_eq_default _ _ (by simpa [State.endFeeds, State.mapFpower, State.modHall] using lt)]
    rfl

theorem State.BothHeld.endFeeds (held : s.BothHeld) : s.endFeeds.BothHeld := ⟨held.hallA, held.hallB⟩

theorem State.BothHeld.unpowerHalls (held : s.BothHeld) : s.unpowerHalls.BothHeld := ⟨held.hallA, held.hallB⟩

theorem State.BothHeld.of_reach {t : State} {T : Nat} (held : s.BothHeld) (reach : Reach T s t) (hallA : T.testBit 23 = false)
    (hallB : T.testBit 24 = false) : t.BothHeld := ⟨reach.hallA hallA ▸ held.hallA, reach.hallB hallB ▸ held.hallB⟩

theorem State.endFeeds_treads : s.endFeeds.treads = s.treads := rfl

theorem State.unpowered_eq : s.unpowered = s.unpowerHalls.dropDies.endFeeds := by
  unfold State.unpowered
  extract_lets u v w
  have halls : v = s.unpowerHalls := rfl
  have dies : w = v.dropDies := rfl
  rw [dies, halls]
  rfl

theorem State.unpowered_off : s.unpowered.AllOff := by
  rw [State.unpowered_eq]
  exact State.dropDies_off.of_treads State.endFeeds_treads

theorem State.unpowered_feed : (s.unpowered.fpower f).feedOn = false := by
  rw [State.unpowered_eq]
  exact State.endFeeds_feed

theorem State.BothHeld.unpowered (held : s.BothHeld) : s.unpowered.BothHeld := by
  rw [State.unpowered_eq]
  exact (held.unpowerHalls.of_reach State.dropDies_drops rfl rfl).endFeeds

theorem State.unpowered_booted : s.unpowered.sec.booted = s.sec.booted :=
  congrArg Security.booted ((State.unpowered_reach (.refl _) (.refl _ s)).sec rfl)

/-- The supply at its end. -/
structure State.Spent (s : State) : Prop where
  held : s.BothHeld
  booted : s.sec.booted = false
  off : s.AllOff
  feed : ∀ f, (s.fpower f).feedOn = false

theorem State.supplyGone_spent : s.supplyGone.Spent := by
  unfold State.supplyGone
  exact ⟨State.resetModule_held.unpowered, State.unpowered_booted, State.unpowered_off, fun _ => State.unpowered_feed⟩

/-- What the supply, the first STANDBY and a trial boot lose at the end. -/
def State.endSupply (s : State) : State :=
  { s with
      supply := { s.supply with valid := false, switchClosed := false, prechargeAt := none, prechargeFailed := false }
      firstStandby := false
      sec := { s.sec with fallbackDue := if s.sec.fwPending = 2 then some 2 else s.sec.fallbackDue, trialEnd := none, fwPending := 0 } }

theorem State.Spent.endSupply (spent : s.Spent) : s.endSupply.Spent :=
  ⟨⟨spent.held.hallA, spent.held.hallB⟩, spent.booted, spent.off, spent.feed⟩

end

/-- Settles O39: the enables of a hall turn OFF the treads of every die that limp-home has not charge of; a cause of SAFE_HOLD is set before
Hall B's enables go low; and the end of the supply resets both halls before the rails of the storey dies go, with all their treads. -/
theorem clockFaultsHeartbeatsAndSupplyLoss : Obligations.ClockFaultsHeartbeatsAndSupplyLoss := by
  unfold Obligations.ClockFaultsHeartbeatsAndSupplyLoss
  refine ⟨?clockA, ?clockB, ?scrub, ?bad, ?heartbeat, ?enable, ?supply⟩
  case clockA =>
    intro s sound fresh twice
    have noted := State.noteClock_notes (s := s) (h := .a)
    have inhibited := State.inhibitOn_reach (.refl _) (.refl _ ((s.noteClock .a).enablesLow .a))
    obtain ⟨lines, off⟩ := ((State.enablesLow_disabled (h := .a) (noted.sound sound)).since noted rfl).later inhibited rfl rfl
    refine ⟨_, execHallClockFault_a fresh twice, ?_, State.inhibitOn_inhibit, lines, off⟩
    rw [inhibited.clock rfl, (State.enablesLow_reach (.refl _) (.refl _ (s.noteClock .a))).clock rfl, State.noteClock_clock]
    rfl
  case clockB =>
    intro s sound fresh twice up started
    have noted := State.noteClock_notes (s := s) (h := .b)
    have same : (s.noteClock .b).hallB = s.hallB := noted.hallB rfl
    have held := State.enterHold_reach (h := .b) (bit := 2) (.refl _) (.refl _ (s.noteClock .b))
    have lowered := State.enablesLow_reach (h := .b) (.refl _) (.refl _ ((s.noteClock .b).enterHold .b 2))
    obtain ⟨mode, -⟩ := State.enterHold_holds (s := s.noteClock .b) (h := .b) (bit := 2) (by rw [← up, ← same]; rfl)
      (by show (s.noteClock .b).hallB.mode ≠ .boot; rw [same]; exact started)
    obtain ⟨lines, off⟩ := ((State.enablesLow_disabled (h := .b) (held.sound (noted.sound sound))).since held rfl).since noted rfl
    refine ⟨_, execHallClockFault_b fresh twice, ?_, ?_, lines, off⟩
    · rw [lowered.clock rfl, held.clock rfl, State.noteClock_clock]
      rfl
    · rw [lowered.hallB rfl]
      exact mode
  case scrub =>
    intro s h n up
    refine ⟨_, execSramScrub_corrects up, ?_⟩
    rw [State.hall_modHall]
    rfl
  case bad =>
    intro s n up started
    obtain ⟨mode, causes⟩ := State.enterHold_holds (s := s.modHall .b (·.correct n)) (h := .b) (bit := 6) up started
    refine ⟨_, execSramScrub_bad up, mode, ?_⟩
    rw [show ((s.modHall .b (·.correct n)).enterHold .b 6).hallB.shCause = _ from causes]
    exact or_bit_and_bit (b := 0x40) (by decide)
  case heartbeat =>
    intro s d h sound fit lost
    have forced : (s.modDie d (·.force h)).die d = (s.die d).force h := State.die_modDie (sound.die_lt fit)
    refine ⟨_, execHeartbeatLoss_forces fit (by cases h <;> exact lost), ?_, fun free n lt inDie => State.treadsOff_off (sound.tread_lt lt)
      (by simp [free, inDie])⟩
    cases h with
    | a => exact congrArg Die.lowA forced
    | b => exact congrArg Die.lowB forced
  case enable =>
    intro s f h sound fit
    have line := State.enableLow_line (h := h) (sound.fpower_lt fit)
    refine ⟨_, onUnit_fitted (decide_eq_true fit), ?_, fun free n lt inFlight => State.enableLow_off (sound.tread_lt lt) free inFlight⟩
    cases h with
    | a => exact line
    | b => exact line
  case supply =>
    intro s sound
    obtain ⟨⟨heldA, heldB⟩, booted, off, feed⟩ := (State.supplyGone_spent (s := s)).endSupply
    exact ⟨s.supplyGone.endSupply, rfl, by simp [State.hallAUp, heldA], by simp [State.hallBUp, heldB], booted, rfl, rfl, off, fun f _ => feed f⟩

end Sys2Proof.Machine
end

section
/-! PROOFS: the motion sample (O27). -/

namespace Sys2Proof.Machine

section

variable {s : State} {i : SampleIn} {d : Nat}

/-! ### The supply and the dissipation on a sample (01 R22, 02 R57, R62) -/

/-- The rails and the PLLs of the halls on a sample. -/
def State.takeRails (s : State) (i : SampleIn) : State :=
  (s.modHall .a (Hall.sampled (railsIn i.coreA i.ioA) i.pllA)).modHall .b (Hall.sampled (railsIn i.coreB i.ioB) i.pllB)

/-- The supply and the baseplate on a sample. -/
def State.takeSupply (s : State) (i : SampleIn) : State := { s with supply := s.sampleSupply i s.supply, baseplate := i.baseplate }

/-- The treads and the storey segments on a sample. -/
def State.takeTreads (s : State) (i : SampleIn) : State :=
  (s.mapTreads (fun t x => if (s.die (dieOfFlight (flightOfTread t))).railUp then s.sampleEdges t i (s.sampleTread t i x) else x)).mapStoreys
    (fun u x => { x with i8 := (i.storeyI.getD u 0 :: x.i8).take 8 })

/-- A storey die on a sample. -/
def Die.sampled (x : Die) (temp dissip : Rat) : Die := { x with temp := temp, dissip := dissip }

/-- The storey dies on a sample. -/
def State.takeDies (s : State) (i : SampleIn) : State := s.mapDies (fun d x => x.sampled (i.dieTemp.getD d x.temp) (s.dieLoss i d))

/-- The module's dissipation on a sample. -/
def State.takeLoss (s : State) (i : SampleIn) : State := { s with dissip := (s.die 0).dissip + (s.die 1).dissip + i.logicPower }

/-- The currents of the flights and the budgets on a sample. -/
def State.takeRates (s : State) (i : SampleIn) : State :=
  (s.mapFpower (fun f x => { x with
      i8 := (i.flightI.getD f 0 :: x.i8).take 8, presRun := loopRun (i.presence.getD f 1000) x.presRun })).forEach 20 (fun s lv =>
    if s.hasLevel lv then s.modBudget lv (Budget.sampleOf (s.budgetCont lv) (budgetPeak lv) (s.budgetQuantity i lv)) else s)

theorem State.samplePower_eq :
    s.samplePower i = (((((s.takeRails i).takeSupply i).takeTreads i).takeDies i).takeLoss i).takeRates i := rfl

theorem State.takeRails_reach : Reach 25165824 s (s.takeRails i) :=
  State.modHall_reach (.of_or rfl) (State.modHall_reach (.of_or rfl) (.refl _ s))

theorem State.takeTreads_reach : Reach 9216 s (s.takeTreads i) :=
  State.mapStoreys_reach (.of_or rfl) (State.mapTreads_reach (.of_or rfl) (.refl _ s))

theorem State.takeRates_reach : Reach 5088 s (s.takeRates i) :=
  Reach.forEach 20 (State.mapFpower_reach (.of_or rfl) (.refl _ s)) fun _ _ reach =>
    .ite (fun _ => State.modBudget_reach (.of_or rfl) reach fun _ legal => legal) fun _ => reach

/-- What the sample of the power leaves of the supply, the dies and the dissipation. -/
structure State.Powered (s t : State) (i : SampleIn) : Prop where
  supply : t.supply = s.sampleSupply i s.supply
  baseplate : t.baseplate = i.baseplate
  dissip : t.dissip = (t.die 0).dissip + (t.die 1).dissip + i.logicPower
  unpowered : ∀ d, d < s.dies.length → (s.die d).railUp = false → (t.die d).dissip = 0

theorem State.Powered.later {t u : State} {T : Nat} (powered : s.Powered t i) (reach : Reach T t u) (supply : T.testBit 3 = false)
    (dies : T.testBit 11 = false) (baseplate : T.testBit 14 = false) (dissip : T.testBit 15 = false) : s.Powered u i := by
  have same (d : Nat) : u.die d = t.die d := State.die_of_dies (reach.dies dies)
  exact ⟨(reach.supply supply).trans powered.supply, (reach.baseplate baseplate).trans powered.baseplate,
    by rw [reach.dissip dissip, same, same]; exact powered.dissip, fun d lt down => by rw [same]; exact powered.unpowered d lt down⟩

theorem State.dieLoss_down (down : (s.die d).railUp = false) : s.dieLoss i d = 0 := if_neg (by simp [down])

theorem State.takeDies_dissip (lt : d < s.dies.length) (down : (s.die d).railUp = false) : ((s.takeDies i).die d).dissip = 0 := by
  unfold State.takeDies
  rw [State.die_mapDies lt]
  exact State.dieLoss_down down

/-- The supply is sampled after the rails of the halls, which it does not read. -/
theorem State.takeSupply_supply : ((s.takeRails i).takeSupply i).supply = s.sampleSupply i s.supply := rfl

theorem State.samplePower_powered : s.Powered (s.samplePower i) i := by
  rw [State.samplePower_eq]
  refine State.Powered.later ?_ State.takeRates_reach rfl rfl rfl rfl
  have taken : Reach 9216 ((s.takeRails i).takeSupply i) (((s.takeRails i).takeSupply i).takeTreads i) := State.takeTreads_reach
  have dies : (((s.takeRails i).takeSupply i).takeTreads i).dies = s.dies := (taken.dies rfl).trans ((State.takeRails_reach (i := i)).dies rfl)
  exact ⟨(taken.supply rfl).trans State.takeSupply_supply, taken.baseplate rfl, rfl,
    fun d lt down => State.takeDies_dissip (by rw [dies]; exact lt) (by rw [State.die_of_dies dies]; exact down)⟩

/-! ### A motion sample (01 R35, 05 R161) -/

/-- The state at the sample's time: what a freeze takes is kept, and one sample has passed. -/
def State.beginSample (s : State) : State := { s.keepBefore with clock := { s.keepBefore.clock with sample := s.keepBefore.clock.sample + 1 } }

/-- What a sample does once the power has been sampled. -/
def State.endSample (s : State) (i : SampleIn) : State :=
  let u := (s.sampleInputs i).sampleSafety.causeStops
  (if u.hallAUp then u.engines i else u).ringSample

theorem State.motionSample_eq : s.motionSample i = (s.beginSample.samplePower i).endSample i := rfl

/-- The mask of what a sample does after the power. -/
def sampledFields : Nat := 49970360320

theorem State.endSample_ends : Reach sampledFields s (s.endSample i) :=
  State.ringSample_reach (.of_or rfl) (.ite
    (fun _ => State.engines_reach (.of_or rfl) (State.causeStops_reach (.of_or rfl) (State.sampleSafety_reach (.of_or rfl)
      (State.sampleInputs_reach (.of_or rfl) (.refl _ s)))))
    fun _ => State.causeStops_reach (.of_or rfl) (State.sampleSafety_reach (.of_or rfl) (State.sampleInputs_reach (.of_or rfl) (.refl _ s))))

theorem State.beginSample_begins : Reach 536870914 s s.beginSample :=
  Reach.set_clock (.of_or rfl) (State.keepBefore_reach (.of_or rfl) (.refl _ s))

theorem State.beginSample_clock : s.beginSample.clock = { s.clock with sample := s.clock.sample + 1 } := by
  have kept : s.keepBefore.clock = s.clock := (State.keepBefore_reach (.refl _) (.refl _ s)).clock rfl
  unfold State.beginSample
  rw [kept]

theorem State.motionSample_clock : (s.motionSample i).clock = { s.clock with sample := s.clock.sample + 1 } := by
  rw [State.motionSample_eq, State.endSample_ends.clock rfl, (State.samplePower_reach (.refl _) (.refl _ _)).clock rfl,
    State.beginSample_clock]

theorem State.motionSample_powered : s.beginSample.Powered (s.motionSample i) i := by
  rw [State.motionSample_eq]
  exact State.samplePower_powered.later State.endSample_ends rfl rfl rfl rfl

/-- VIN of a sample, by the factory calibration. -/
def State.vinOf (s : State) (i : SampleIn) : Rat := s.factory Par.calFactoryVinGain Par.calFactoryVinOffset 1 0 i.vin

theorem State.sampleSupply_vin8 {x : Supply} : (s.sampleSupply i x).vin8 = (s.vinOf i :: x.vin8).take 8 := rfl

theorem State.sampleSupply_valid {x : Supply} :
    (s.sampleSupply i x).valid = if x.valid then decide (validFall ≤ s.vinOf i) else decide (validRise ≤ s.vinOf i) := rfl

theorem State.beginSample_vinOf : s.beginSample.vinOf i = s.vinOf i := by
  unfold State.vinOf State.factory
  rw [State.beginSample_begins.sec rfl]

theorem execMotionSample_due (due : s.sample < 8 * s.tick + 8) : execMotionSample i s = .next (s.motionSample i) := by
  unfold execMotionSample
  rw [if_pos (show s.sampleDue = true from decide_eq_true due)]

theorem execMotionSample_early (early : 8 * s.tick + 8 ≤ s.sample) : execMotionSample i s = .next s :=
  congrArg _ (if_neg (by simpa [State.sampleDue] using early))

end

/-- Settles O27: of all that a sample does, the sampling of the power alone touches the supply, the dies and the dissipation. -/
theorem motionSamplesAdvanceTheClock : Obligations.MotionSamplesAdvanceTheClock := by
  unfold Obligations.MotionSamplesAdvanceTheClock
  refine ⟨?due, fun s i early => execMotionSample_early early⟩
  rintro s i vin due rfl
  have powered := State.motionSample_powered (s := s) (i := i)
  have supply : s.beginSample.supply = s.supply := State.beginSample_begins.supply rfl
  have dies : s.beginSample.dies = s.dies := State.beginSample_begins.dies rfl
  refine ⟨_, execMotionSample_due due, State.motionSample_clock, ?_, ?_, powered.dissip, powered.baseplate, fun d lt down =>
    powered.unpowered d (by rw [dies]; exact lt) (by rw [State.die_of_dies dies]; exact down)⟩
  · rw [powered.supply, State.sampleSupply_vin8, State.beginSample_vinOf, supply]
    rfl
  · rw [powered.supply, State.sampleSupply_valid, State.beginSample_vinOf, supply]
    rfl

end Sys2Proof.Machine
end

section
/-! PROOFS: the return of a hall, the restart of the module, the end of start-up and of a trial (O40). -/

namespace Sys2Proof.Machine

/-! ### A hall returns (01 R25, R26, 08 R285) -/

section

variable {s t : State} {h k : HallId}

/-- Whether a hall is in reset, its mode, and its causes of SAFE_HOLD. -/
def Hall.standing (x : Hall) : Bool × Mode × BitVec 16 := (x.inReset, x.mode, x.shCause)

theorem Hall.standing_eq {x : Hall} {reset : Bool} {mode : Mode} {causes : BitVec 16} (stands : x.standing = (reset, mode, causes)) :
    x.inReset = reset ∧ x.mode = mode ∧ x.shCause = causes := by
  simpa [Hall.standing] using stands

theorem State.modHall_standing {f : Hall → Hall} (same : ∀ x, (f x).standing = x.standing) :
    ((s.modHall k f).hall h).standing = (s.hall h).standing := by
  by_cases own : k = h
  · rw [own, State.hall_modHall, same]
  · rw [State.hall_modHall_other own]

theorem State.recordDeferred_standing : ((s.recordDeferred k).hall h).standing = (s.hall h).standing := by
  unfold State.recordDeferred
  split
  · rfl
  · dsimp only
    rw [(State.record_reach (.refl _) (.refl _ _)).hall rfl rfl]
    exact State.modHall_standing fun _ => rfl

/-- What the halls have still to record changes neither of them. -/
theorem State.recordBothUp_standing : (s.recordBothUp.hall h).standing = (s.hall h).standing := by
  unfold State.recordBothUp
  split
  · exact State.recordDeferred_standing.trans State.recordDeferred_standing
  · rfl

theorem State.recordBothUp_authorize_standing : ((s.recordBothUp.applyAuth).hall h).standing = (s.hall h).standing := by
  rw [(State.applyAuth_reach (.refl _) (.refl _ _)).hall rfl rfl, State.recordBothUp_standing]

/-- The steps of a return between the hall's start and the record of what waited. -/
def State.readyHallA (s : State) : State :=
  let u := ((((s.hallStarts .a).startHallA.forEach 12 State.driveEcho).axesIdle (fun _ => true)).uncertainSteppers).clearForces 5
  u.hallAMode .boot .safeHold 2 u.hallA.shCause.toNat

def State.readyHallB (s : State) : State := ((s.hallStarts .b).takeRelayed.reload .b).refreshConns

/-- The masks of what the configuration and the relayed records set at a return, beside the halls. -/
def returnAFields : Nat := 59902275588
def returnBFields : Nat := 19394461700

theorem State.readyHallA_readies : Reach returnAFields (s.hallStarts .a) s.readyHallA :=
  State.hallAMode_reach (.of_or rfl) (State.clearForces_reach (.of_or rfl) (State.uncertainSteppers_reach (.of_or rfl)
    (State.axesIdle_reach (.of_or rfl) (Reach.forEach 12 (State.startHallA_reach (.of_or rfl) (.refl _ _))
      fun _ _ reach => State.driveEcho_reach (.of_or rfl) reach))))

theorem State.readyHallB_readies : Reach returnBFields (s.hallStarts .b) s.readyHallB :=
  State.refreshConns_reach (.of_or rfl) (State.reload_reach (.of_or rfl) (State.takeRelayed_reach (.of_or rfl) (.refl _ _)))

theorem State.hallStarts_standing : ((s.hallStarts h).hall h).standing = (false, .safeHold, 2) := by
  unfold State.hallStarts
  rw [State.hall_modHall]
  rfl

theorem execHallAReturn_returns (may : s.mayReturn .a = true) : execHallAReturn s = .next s.readyHallA.recordBothUp.applyAuth :=
  if_neg (by simp [may])

theorem execHallBReturn_returns (may : s.mayReturn .b = true) : execHallBReturn s = .next s.readyHallB.recordBothUp.applyAuth :=
  if_neg (by simp [may])

theorem State.returnedA_standing : (s.readyHallA.recordBothUp.applyAuth.hall .a).standing = (false, .safeHold, 2) := by
  rw [State.recordBothUp_authorize_standing, State.readyHallA_readies.hall rfl rfl, State.hallStarts_standing]

theorem State.returnedB_standing : (s.readyHallB.recordBothUp.applyAuth.hall .b).standing = (false, .safeHold, 2) := by
  rw [State.recordBothUp_authorize_standing, State.readyHallB_readies.hall rfl rfl, State.hallStarts_standing]

theorem State.MayLeaveReset.mayReturn (may : s.MayLeaveReset (s.hall h)) : s.mayReturn h = true := by
  obtain ⟨held, booted, spaced, locked, clocked, railed⟩ := may
  simp [State.mayReturn, held, booted, spaced, locked, clocked, railed]

/-- A hall whose conditions do not hold may not return. -/
theorem State.mayReturn_eq_false (lacks : s.tick < (s.hall h).resetTick + 3 ∨ (s.hall h).pllLocked = false ∨ (s.hall h).clockOk = false ∨
    (s.hall h).railRun < 80) : s.mayReturn h = false := by
  unfold State.mayReturn
  rcases lacks with early | unlocked | unclocked | unrailed
  · simp [Nat.not_le.2 early]
  · simp [unlocked]
  · simp [unclocked]
  · simp [Nat.not_le.2 unrailed]

theorem execHallAReturn_stays (may : s.mayReturn .a = false) : execHallAReturn s = .next s := if_pos (by simp [may])

theorem execHallBReturn_stays (may : s.mayReturn .b = false) : execHallBReturn s = .next s := if_pos (by simp [may])

/-! ### A restart begins (12 R422, 14 R480) -/

/-- What is to start once a whole restart has reset the module. -/
def State.restartWhole (s : State) (r : Restart) : State :=
  let u := s.resetModule (if r.trial then 8 else 7)
  { u with sec := { u.sec with
      fwPending := if r.trial then 2 else 0, firmware := if r.trial then s.sec.firmware else u.sec.firmware } }

theorem execRestartBegin_due {r : Restart} (asked : s.host.restart = some r) (due : r.at' ≤ s.tick) :
    execRestartBegin s = .next (if r.whole then s.restartWhole r else s.resetHall .a 7) := by
  unfold execRestartBegin
  rw [asked]
  dsimp only
  rw [if_neg (not_lt.2 due)]
  cases r.whole with
  | false => rfl
  | true => rfl

theorem State.restartWhole_held {r : Restart} : (s.restartWhole r).BothHeld := ⟨State.resetModule_held.hallA, State.resetModule_held.hallB⟩

theorem execFwTrialTimeout_due {at' : Nat} (ends : s.sec.trialEnd = some at') (due : at' ≤ s.tick) (trial : s.sec.fwPending = 2) :
    execFwTrialTimeout s = .next (s.failTrial 3) := by
  unfold execFwTrialTimeout
  rw [ends]
  exact congrArg _ (if_pos (by simp [trial, due]))

end

/-! ### Start-up ends (14 R467 to R469) -/

section

variable {s : State} {h : HallId} {m : Mode} {causes : BitVec 16} {fails : List Nat}

/-- A hall that start-up leaves in SAFE_HOLD. -/
def Hall.bootHold (x : Hall) (causes : BitVec 16) : Hall := { x with mode := .safeHold, shCause := causes, present := causes }

/-- Both halls in SAFE_HOLD, before their outputs follow. -/
def State.bothHold (s : State) (causes : BitVec 16) : State :=
  (s.modHall .b (·.bootHold causes)).modHall .a (·.bootHold 0x100)

theorem State.bootIntoHold_holds : Reach holdFields (s.bothHold causes) (s.bootIntoHold causes) := by
  unfold State.bootIntoHold
  extract_lets u v w x
  have held : v = s.bothHold causes := rfl
  rw [← held]
  exact State.applyAuth_reach (.of_or rfl) (State.suspectEnables_reach (.of_or rfl) (State.inhibitOn_reach (.of_or rfl)
    (State.record_reach (.of_or rfl) (State.hallAMode_reach (.of_or rfl) (State.holdEntryB_reach (.of_or rfl) (.refl _ _))))))

/-- Both halls have a mode. -/
structure State.BothIn (s : State) (m : Mode) : Prop where
  hallA : s.hallA.mode = m
  hallB : s.hallB.mode = m

theorem State.bothHold_in : (s.bothHold causes).BothIn .safeHold := ⟨rfl, rfl⟩

theorem State.BothIn.of_reach {t : State} {T : Nat} (both : s.BothIn m) (reach : Reach T s t) (hallA : T.testBit 23 = false)
    (hallB : T.testBit 24 = false) : t.BothIn m := ⟨reach.hallA hallA ▸ both.hallA, reach.hallB hallB ▸ both.hallB⟩

theorem State.takeBoth_in : ((s.takeMode .b m 0).takeMode .a m 0).BothIn m := by
  have own : (((s.takeMode .b m 0).takeMode .a m 0).hall .a).mode = m := by
    rw [State.takeMode_hall]
    rfl
  have other : (((s.takeMode .b m 0).takeMode .a m 0).hall .b).mode = m := by
    rw [State.takeMode_other (by decide), State.takeMode_hall]
    rfl
  exact ⟨own, other⟩

/-- The causes of the SAFE_HOLD in which start-up ends: the seal, and a self-test. -/
def State.bootCauses (s : State) (fails : List Nat) : BitVec 16 :=
  BitVec.ofNat 16 (bitN (s.configLoaded && !s.safety.sealRd.ok) 5 + bitN (!fails.isEmpty) 7)

/-- The halls take the mode in which start-up ends. -/
def State.bootEnters (s : State) (fails : List Nat) : State :=
  if s.bootMode fails == .safeHold then s.bootIntoHold (s.bootCauses fails)
  else (s.takeMode .b (s.bootMode fails) 0).takeMode .a (s.bootMode fails) 0

/-- Start-up has ended. -/
def State.bootEnds (s : State) : State := { s with sec := { s.sec with booted := true } }

/-- What follows on the end of start-up: the program, a trial that has passed, the record. -/
def State.bootFollows (s : State) (m : Mode) : State :=
  let u := s.startProgram
  let v := if u.trialOpen && m != .safeHold then u.passTrial else u
  v.record Evt.bootComplete noSource [toReal32 ((v.stamp - v.sec.bootTick : Nat) : Rat), v.sec.runBank]

theorem State.endStartUp_eq : s.endStartUp fails = ((s.bootEnters fails).bootEnds).bootFollows (s.bootMode fails) := rfl

theorem State.bootEnters_in : (s.bootEnters fails).BothIn (s.bootMode fails) := by
  unfold State.bootEnters
  split
  next safe =>
    rw [eq_of_beq safe]
    exact State.bothHold_in.of_reach State.bootIntoHold_holds rfl rfl
  next => exact State.takeBoth_in

theorem State.startProgram_booted : s.startProgram.sec.booted = s.sec.booted := by
  unfold State.startProgram
  extract_lets own
  split
  · split <;> rfl
  · rfl

theorem State.passTrial_booted : s.passTrial.sec.booted = s.sec.booted := by
  unfold State.passTrial
  extract_lets old was ha hb revoke u v w
  have recorded : w.sec = u.sec := State.record_sec.trans State.record_sec
  have kept : w.sec.booted = s.sec.booted := (congrArg Security.booted recorded :)
  clear_value w revoke
  cases revoke with
  | none => exact kept
  | some slot => exact (congrArg Security.booted State.record_sec).trans kept

/-- The mask of what follows on the end of start-up. -/
def followsFields : Nat := 54223962112

theorem State.bootFollows_follows : Reach followsFields s (s.bootFollows m) := by
  have started := State.startProgram_reach (T := followsFields) (.of_or rfl) (.refl _ s)
  exact State.record_reach (.of_or rfl) (.ite (fun _ => State.passTrial_reach (.of_or rfl) started) fun _ => started)

theorem State.bootFollows_booted : (s.bootFollows m).sec.booted = s.sec.booted := by
  unfold State.bootFollows
  extract_lets u v
  rw [State.record_sec]
  unfold v
  split
  · exact State.passTrial_booted.trans State.startProgram_booted
  · exact State.startProgram_booted

/-- Start-up ends in the mode that the self-tests, the configuration and the seal ask for. -/
theorem State.endStartUp_in : (s.endStartUp fails).BothIn (s.bootMode fails) := by
  rw [State.endStartUp_eq]
  exact (show ((s.bootEnters fails).bootEnds).BothIn (s.bootMode fails) from ⟨State.bootEnters_in.hallA, State.bootEnters_in.hallB⟩).of_reach
    State.bootFollows_follows rfl rfl

theorem State.endStartUp_booted : (s.endStartUp fails).sec.booted = true := by
  rw [State.endStartUp_eq, State.bootFollows_booted]
  rfl

theorem State.bootMode_passed :
    s.bootMode [] = if s.configLoaded = false then .maintenance else if s.safety.sealRd.ok then .standby else .safeHold := by
  unfold State.bootMode
  cases s.configLoaded
  · rfl
  · cases s.safety.sealRd.ok
    · rfl
    · rfl

theorem State.bootMode_failed (failed : fails ≠ []) : s.bootMode fails = .safeHold := if_pos (by simp [failed])

/-- A failed self-test is a cause of the SAFE_HOLD in which start-up ends. -/
theorem State.bootCauses_failed (failed : fails ≠ []) : s.bootCauses fails &&& 0x80 ≠ 0 := by
  unfold State.bootCauses
  rw [show (!fails.isEmpty) = true by simp [failed]]
  cases s.configLoaded && !s.safety.sealRd.ok
  · decide
  · decide

theorem State.endStartUp_causes (failed : fails ≠ []) : (s.endStartUp fails).hallB.shCause = s.bootCauses fails := by
  have holds : s.bootEnters fails = s.bootIntoHold (s.bootCauses fails) := if_pos (by rw [State.bootMode_failed failed]; rfl)
  rw [State.endStartUp_eq, State.bootFollows_follows.hallB rfl]
  show (s.bootEnters fails).hallB.shCause = _
  rw [holds, State.bootIntoHold_holds.hallB rfl]
  rfl

/-- Self-tests that fail are recorded before start-up ends. -/
def State.noteTests (s : State) (fails : List Nat) : State :=
  s.recordIf (!fails.isEmpty) Evt.selfTestFail noSource (fails.map word32)

theorem State.noteTests_failed (failed : fails ≠ []) : s.noteTests fails = s.record Evt.selfTestFail noSource (fails.map word32) :=
  if_pos (by simp [failed])

theorem execBootComplete_ends (fresh : s.sec.booted = false) (upA : s.hallAUp = true) (upB : s.hallBUp = true) (run : s.testsRun = true)
    (inTime : s.sec.fwPending ≠ 2 ∨ s.trialOpen = true) :
    execBootComplete fails s = .next ((s.noteTests (s.failedTests fails)).endStartUp (s.failedTests fails)) := by
  refine (if_neg (by simp [fresh, upA, upB, run])).trans (if_neg ?_)
  rcases inTime with none' | opens
  · simp [none']
  · simp [opens]

theorem execBootComplete_passes (fresh : s.sec.booted = false) (upA : s.hallAUp = true) (upB : s.hallBUp = true) (run : s.testsRun = true)
    (passed : s.failedTests fails = []) (inTime : s.sec.fwPending ≠ 2 ∨ s.trialOpen = true) :
    execBootComplete fails s = .next (s.endStartUp []) := by
  rw [execBootComplete_ends fresh upA upB run inTime, passed]
  rfl

theorem execBootComplete_early (run : s.testsRun = false) : execBootComplete fails s = .next s := if_pos (by simp [run])

end

end Sys2Proof.Machine
end

section
/-! PROOFS: BOOT starts both halls, and loads a sound ACTIVE configuration (O40). -/

namespace Sys2Proof.Machine

/-! ### What a start keeps until it looks for its configuration (14 R464 to R466) -/

section

variable {s t u : State} {b : BootIn} {x : Security} {T : Nat} {h : HallId}

/-- The parameters that no image carries (14 R487). -/
def State.userTrims (s : State) : Params := s.params.filter (fun e => pidClass e.1 = 0x61)

/-- The configuration in force, the calibration with its copies in OTP, the keys, and whether start-up has ended. -/
def Security.stock (x : Security) : Bool × Option Image × (List (Nat × Word) × List (Nat × Word) × List (Nat × Word)) × List KeySlot :=
  (x.booted, x.active, (x.calFactory, x.calOtp, x.calOtpA), x.keys)

/-- What a start goes by stands as it was. -/
structure State.Stocks (s t : State) : Prop where
  stock : t.sec.stock = s.sec.stock
  trims : t.userTrims = s.userTrims

theorem State.Stocks.refl (s : State) : s.Stocks s := ⟨rfl, rfl⟩

theorem State.Stocks.trans (first : s.Stocks t) (second : t.Stocks u) : s.Stocks u :=
  ⟨second.stock.trans first.stock, second.trims.trans first.trims⟩

theorem Reach.stocks (reach : Reach T s t) (params : T.testBit 2 = false) (sec : T.testBit 34 = false) : s.Stocks t :=
  ⟨congrArg Security.stock (reach.sec sec), congrArg (List.filter _) (reach.params params)⟩

theorem State.Stocks.record {e : EvCode} {n : Nat} {args : List Word} (stocks : s.Stocks t) : s.Stocks (t.record e n args) :=
  stocks.trans ((State.record_reach (.refl _) (.refl _ t)).stocks rfl rfl)

theorem State.Stocks.booted (stocks : s.Stocks t) : t.sec.booted = s.sec.booted := congrArg Prod.fst stocks.stock

theorem State.Stocks.active (stocks : s.Stocks t) : t.sec.active = s.sec.active := congrArg (·.2.1) stocks.stock

theorem State.Stocks.calFactory (stocks : s.Stocks t) : t.sec.calFactory = s.sec.calFactory := congrArg (·.2.2.1.1) stocks.stock

theorem State.Stocks.calOtp (stocks : s.Stocks t) : t.sec.calOtp = s.sec.calOtp := congrArg (·.2.2.1.2.1) stocks.stock

theorem State.Stocks.calOtpA (stocks : s.Stocks t) : t.sec.calOtpA = s.sec.calOtpA := congrArg (·.2.2.1.2.2) stocks.stock

theorem State.Stocks.keys (stocks : s.Stocks t) : t.sec.keys = s.sec.keys := congrArg (·.2.2.2) stocks.stock

theorem State.imageParams_eq {es : List (Nat × BitVec 32)} :
    s.imageParams es = es.foldl (fun ps e => Params.set ps e.1 e.2) s.userTrims := rfl

theorem State.Stocks.imageParams (stocks : s.Stocks t) {es : List (Nat × BitVec 32)} : t.imageParams es = s.imageParams es := by
  rw [State.imageParams_eq, State.imageParams_eq, stocks.trims]

theorem State.Stocks.imageSigned (stocks : s.Stocks t) {img : Image} : t.imageSigned img = s.imageSigned img := by
  unfold State.imageSigned State.signedBySlot
  rw [stocks.keys]

theorem State.booting_banked : (s.booting b).Stocks (s.banked b) := by
  unfold State.banked
  split
  · unfold State.trialBanks
    dsimp only
    split
    · exact ⟨rfl, rfl⟩
    · exact ⟨rfl, rfl⟩
  · exact ⟨rfl, rfl⟩

theorem State.powerUp_stocks : s.Stocks s.powerUp := by
  have units : s.Stocks s.unitsPowerUp := (State.unitsPowerUp_reach (.refl _) (.refl _ s)).stocks rfl rfl
  refine units.trans ?_
  unfold State.powerUp
  generalize s.unitsPowerUp = u
  exact ⟨rfl, rfl⟩

/-- The clocks, the halls and the units at a power-up, once Hall B runs again. -/
theorem State.clearBoth_clears : Reach 26552336 s ((s.release .b).forEach 2 State.clearDie) :=
  Reach.forEach 2 (State.release_reach (.of_or rfl) (.refl _ _)) fun _ _ reach => State.clearDie_reach (.of_or rfl) reach

theorem State.startGallery_starts : Reach 2172649480 s ((s.release .b).startGallery b) :=
  State.startGallery_reach (.of_or rfl) (State.release_reach (.of_or rfl) (.refl _ s))

theorem State.gathered_stocks : s.Stocks (s.gathered b) := by
  have begun : s.Stocks ((s.release .b).startGallery b) := State.startGallery_starts.stocks rfl rfl
  unfold State.gathered
  dsimp only
  split
  · exact (begun.trans State.powerUp_stocks).trans (State.clearBoth_clears.stocks rfl rfl)
  · exact begun

/-- The reset values over the user trims keep the user trims. -/
theorem State.loadReset_stocks : s.Stocks (s.loadValues none) := by
  refine ⟨rfl, ?_⟩
  show (s.params.filter (fun e => pidClass e.1 = 0x61)).filter _ = _
  rw [List.filter_filter]
  simp [State.userTrims]

theorem State.recordFallback_stocks : s.Stocks s.recordFallback := by
  unfold State.recordFallback
  split
  · exact .refl s
  · exact State.Stocks.record ⟨rfl, rfl⟩

/-- The state in which Hall A is to be released: the store is in use, the reset values are loaded, what the start found is recorded. -/
def State.prepared (s : State) (x : Security) (b : BootIn) : State :=
  ((((s.openStore b).loadValues none).estimateHoldup).recordImageFaults x b).recordFallback

theorem State.prepared_stocks : s.Stocks (s.prepared x b) := by
  have opened : s.Stocks (s.openStore b) := (State.openStore_reach (.refl _) (.refl _ s)).stocks rfl rfl
  have noted : ((s.openStore b).loadValues none).Stocks ((((s.openStore b).loadValues none).estimateHoldup).recordImageFaults x b) :=
    (State.recordImageFaults_reach (T := 36507222016 ||| 105226698760) (.of_or rfl) (State.estimateHoldup_reach (.of_or rfl) (.refl _ _))).stocks
      rfl rfl
  exact ((opened.trans State.loadReset_stocks).trans noted).trans State.recordFallback_stocks

/-- The mask of what a start does before Hall A's release. -/
def preparedFields : Nat := 122440122380

theorem State.prepared_prepares : Reach preparedFields s (s.prepared x b) :=
  State.recordFallback_reach (.of_or rfl) (State.recordImageFaults_reach (.of_or rfl) (State.estimateHoldup_reach (.of_or rfl)
    (State.loadValues_reach (.of_or rfl) (State.openStore_reach (.of_or rfl) (.refl _ s)))))

/-- Start-up as far as Hall A's release. -/
def State.awake (s : State) (x : Security) (b : BootIn) : State := (s.prepared x b).release .a

theorem State.started_eq (bank : (x.startBank b .a).isSome = true) :
    s.started x b = ((((s.awake x b).startBoth b).refreshConns).readSeal b.contacts).recordBothUp := by
  unfold State.started
  dsimp only
  rw [if_pos bank]
  rfl

theorem State.awake_stocks : s.Stocks (s.awake x b) :=
  State.prepared_stocks.trans ((State.release_reach (.refl _) (.refl _ _)).stocks rfl rfl)

/-! ### The halls of a start -/

/-- A hall that runs, and holds no mode yet. -/
def Hall.Boots (x : Hall) : Prop := x.inReset = false ∧ x.mode = .boot

theorem Hall.Boots.of_standing {x y : Hall} (boots : x.Boots) (same : y.standing = x.standing) : y.Boots := by
  obtain ⟨reset, mode, -⟩ := Hall.standing_eq same
  exact ⟨reset.trans boots.1, mode.trans boots.2⟩

theorem State.release_boots : ((s.release h).hall h).Boots := by
  unfold State.release
  rw [State.hall_modHall]
  exact ⟨rfl, rfl⟩

theorem State.release_a_hallB : (s.release .a).hall .b = s.hall .b := rfl

theorem State.gathered_boots : ((s.gathered b).hall .b).Boots := by
  unfold State.gathered
  dsimp only
  split
  · rw [(Reach.forEach (T := 1386512) 2 (.refl _ _) fun _ _ reach => State.clearDie_reach (.refl _) reach).hall rfl rfl]
    exact State.release_boots
  · rw [(State.startGallery_reach (.refl _) (.refl _ _)).hall rfl rfl]
    exact State.release_boots

theorem State.readSeal_standing {c : BitVec 48} : ((s.readSeal c).hall h).standing = (s.hall h).standing := by
  rw [State.readSeal_eq]
  split
  · exact State.modHall_standing fun _ => rfl
  · rfl

theorem State.awake_boots (boots : (s.hall .b).Boots) : ((s.awake x b).hall h).Boots := by
  cases h with
  | a => exact State.release_boots
  | b =>
    unfold State.awake
    rw [State.release_a_hallB, State.prepared_prepares.hall rfl rfl]
    exact boots

/-- What follows on the load of the configuration leaves both halls as they were released. -/
theorem State.started_boots (boots : (s.hall .b).Boots) (bank : (x.startBank b .a).isSome = true) : ((s.started x b).hall h).Boots := by
  have loaded : Reach 55672387604 (s.awake x b) (((s.awake x b).startBoth b).refreshConns) :=
    State.refreshConns_reach (.of_or rfl) (State.startBoth_reach (.of_or rfl) (.refl _ _))
  rw [State.started_eq bank]
  refine (State.awake_boots (x := x) (b := b) (h := h) boots).of_standing ?_
  rw [State.recordBothUp_standing, State.readSeal_standing, loaded.hall rfl rfl]

/-! ### The calibration and the configuration of a start (14 R466, R467) -/

/-- The sector of the factory calibration as a start reads it. -/
def State.readCal (s : State) (b : BootIn) : State := { s with sec := { s.sec with calFactory := b.calRead.getD s.sec.calFactory } }

/-- The calibration has failed, or what was distributed of it is judged. -/
def State.failCal (s : State) : State := { s with sec := { s.sec with calFault := true } }
def State.judgeCal (s : State) : State := { s with sec := { s.sec with calFault := !(s.portionOk && s.trimsOk) } }

/-- What of the distributed calibration has failed is recorded. -/
def State.noteCal (s : State) : State :=
  let u := s.recordIf (!s.portionOk) Evt.calDigestFault noSource [1]
  u.recordIf (!u.trimsOk) Evt.calDigestFault noSource [2]

theorem State.checkCal_eq : s.checkCal b = if !(s.readCal b).sectorOk then (s.readCal b).failCal.record Evt.calDigestFault noSource [0]
    else ((s.readCal b).distribute b).judgeCal.noteCal := rfl

theorem State.noteCal_sec : s.noteCal.sec = s.sec :=
  ((State.recordIf_reach (.refl _) (.refl _ _)).sec rfl).trans ((State.recordIf_reach (.refl _) (.refl _ s)).sec rfl)

theorem State.checkCal_booted : (s.checkCal b).sec.booted = s.sec.booted := by
  rw [State.checkCal_eq]
  split
  · rw [State.record_sec]
    rfl
  · rw [State.noteCal_sec]
    rfl

/-- The ACTIVE slot has no configuration, one that is in force, or one that is corrupt. -/
def State.noActive (s : State) : State := { s with sec := { s.sec with activeCorrupt := false } }
def State.goodActive (s : State) (img : Image) : State :=
  { s with sec := { s.sec with active := some img, activeA := some img, corrupt := none, activeCorrupt := false } }
def State.badActive (s : State) (img : Image) : State :=
  ({ s with sec := { s.sec with active := none, corrupt := some img, activeCorrupt := true } }).record Evt.configCorrupt noSource [1]

theorem State.findActive_some {good : Bool} {img : Image} (found : s.sec.active.orElse (fun _ => s.sec.corrupt) = some img) :
    s.findActive good = if good && s.imageSigned img then s.goodActive img else s.badActive img := by
  unfold State.findActive
  rw [found]
  rfl

theorem State.findActive_none {good : Bool} (found : s.sec.active.orElse (fun _ => s.sec.corrupt) = none) :
    s.findActive good = s.noActive := by
  unfold State.findActive
  rw [found]
  rfl

theorem State.badActive_sec {img : Image} :
    (s.badActive img).sec = { s.sec with active := none, corrupt := some img, activeCorrupt := true } := State.record_sec

theorem State.findActive_booted {good : Bool} : (s.findActive good).sec.booted = s.sec.booted := by
  cases found : s.sec.active.orElse (fun _ => s.sec.corrupt) with
  | none =>
    rw [State.findActive_none found]
    rfl
  | some img =>
    rw [State.findActive_some found]
    split
    · rfl
    · rw [State.badActive_sec]

/-- The mask of what a configuration sets beside the values and the checks of them. -/
def loadedFields : Nat := 36240177168

theorem State.loadActive_loads {img : Option Image} {up : Bool} : Reach loadedFields (s.loadValues img) (s.loadActive img up) := by
  unfold State.loadActive
  extract_lets v w
  have raised : Reach loadedFields v w := Reach.ite
    (fun _ => State.restartLines_reach (.of_or rfl) (Reach.forEach _ (.refl _ _) fun _ _ reach => State.raiseDie_reach (.of_or rfl) reach))
    (fun _ => .refl _ _)
  exact State.loadProgram_reach (.of_or rfl) (State.loadTrain_reach (.of_or rfl) (State.loadCan_reach (.of_or rfl)
      (State.loadFeeds_reach (.of_or rfl) (State.loadLimp_reach (.of_or rfl) raised))))

theorem State.loadActive_booted {img : Option Image} {up : Bool} : (s.loadActive img up).sec.booted = s.sec.booted :=
  (congrArg Security.booted ((State.loadActive_loads (s := s) (img := img) (up := up)).sec rfl) :)

/-- The load of the configuration is complete, and the self-tests run. -/
def State.markLoaded (s : State) : State :=
  { s with sec := { s.sec with loadedAt := some s.stamp, testClock := false, testWords := false } }

/-- The configuration that a start finds is loaded. -/
def State.loadFound (s : State) (b : BootIn) : State := ((s.loadActive s.sec.active b.powerUp).startMaps b).markLoaded

theorem State.startBoth_eq : s.startBoth b = if (s.checkCal b).sec.calFault then (s.checkCal b).loadActive none b.powerUp
    else ((s.checkCal b).findActive b.activeGood).loadFound b := rfl

theorem State.loadFound_booted : (s.loadFound b).sec.booted = s.sec.booted :=
  (congrArg Security.booted ((State.startMaps_reach (.refl _) (.refl _ (s.loadActive s.sec.active b.powerUp))).sec rfl)).trans
    State.loadActive_booted

theorem State.startBoth_booted : (s.startBoth b).sec.booted = s.sec.booted := by
  rw [State.startBoth_eq]
  split
  · rw [State.loadActive_booted, State.checkCal_booted]
  · rw [State.loadFound_booted, State.findActive_booted, State.checkCal_booted]

/-! ### A power-up with a sound calibration -/

/-- A power-up whose calibration reads back as it is in OTP. -/
structure State.Calibrated (s : State) (b : BootIn) : Prop where
  powerUp : b.powerUp = true
  sector : b.calRead = none
  portion : b.calReadA = none
  trims : b.trimsRead = []
  factory : s.sec.calFactory = s.sec.calOtp
  hallA : hallAPortion s.sec.calFactory = s.sec.calOtpA

theorem State.Calibrated.later (cal : s.Calibrated b) (stocks : s.Stocks t) : t.Calibrated b := by
  obtain ⟨powerUp, sector, portion, trims, factory, hallA⟩ := cal
  exact ⟨powerUp, sector, portion, trims, by rw [stocks.calFactory, stocks.calOtp, factory],
    by rw [stocks.calFactory, stocks.calOtpA, hallA]⟩

theorem State.readCal_none (sector : b.calRead = none) : s.readCal b = s := by
  unfold State.readCal
  rw [sector]
  rfl

theorem State.Calibrated.portionOk (cal : s.Calibrated b) : (s.distribute b).portionOk = true := by
  refine decide_eq_true ?_
  show b.calReadA.getD (hallAPortion s.sec.calFactory) = s.sec.calOtpA
  rw [cal.portion]
  exact cal.hallA

/-- At a power-up every storey die has its rail, and takes its portion. -/
theorem State.Calibrated.trimsOk (cal : s.Calibrated b) (sound : s.Sound) : (s.distribute b).trimsOk = true := by
  refine List.all_eq_true.2 fun d mem => decide_eq_true ?_
  have lt : d < s.dies.length := sound.die_lt (List.mem_range.1 mem)
  unfold State.distribute
  dsimp only
  rw [State.die_mapDies (by exact lt)]
  simp [cal.powerUp, cal.trims]

theorem State.Calibrated.checkCal_eq (cal : s.Calibrated b) : s.checkCal b = (s.distribute b).judgeCal.noteCal := by
  have sector : s.sectorOk = true := decide_eq_true cal.factory
  rw [State.checkCal_eq, State.readCal_none cal.sector, sector]
  rfl

theorem State.Calibrated.checkCal_stocks (cal : s.Calibrated b) : s.Stocks (s.checkCal b) := by
  refine ⟨?_, congrArg (List.filter _) ((State.checkCal_reach (.refl _) (.refl _ s)).params rfl)⟩
  rw [cal.checkCal_eq, State.noteCal_sec]
  rfl

theorem State.Calibrated.checkCal_passes (cal : s.Calibrated b) (sound : s.Sound) : (s.checkCal b).sec.calFault = false := by
  rw [cal.checkCal_eq, State.noteCal_sec]
  show (!((s.distribute b).portionOk && (s.distribute b).trimsOk)) = false
  rw [cal.portionOk, cal.trimsOk sound]
  rfl

/-- The values of a configuration, or of none. -/
def imageValues (img : Option Image) : List (Nat × BitVec 32) :=
  match img with
  | some x => x.params
  | none => []

/-- What a start has loaded: the calibration's fault, the configuration in force, the corrupt one, whether one is on, and the values. -/
def State.loadout (s : State) : (Bool × Option Image × Option Image × Bool) × Params :=
  ((s.sec.calFault, s.sec.active, s.sec.corrupt, s.sec.configOn), s.params)

theorem State.loadout_of {t : State} (sec : t.sec = s.sec) (params : t.params = s.params) : t.loadout = s.loadout := by
  unfold State.loadout
  rw [sec, params]

theorem Reach.loadout (reach : Reach T s t) (params : T.testBit 2 = false) (sec : T.testBit 34 = false) : t.loadout = s.loadout :=
  State.loadout_of (reach.sec sec) (reach.params params)

theorem State.loadFound_loadout :
    (s.loadFound b).loadout =
      ((s.sec.calFault, s.sec.active, s.sec.corrupt, s.sec.active.isSome), s.imageParams (imageValues s.sec.active)) := by
  have mapped := (State.startMaps_reach (b := b) (.refl _) (.refl _ (s.loadActive s.sec.active b.powerUp))).loadout rfl rfl
  have loaded := (State.loadActive_loads (s := s) (img := s.sec.active) (up := b.powerUp)).loadout rfl rfl
  exact mapped.trans loaded

/-- The ACTIVE configuration as a start finds it: in force where it is whole and signed, corrupt where it is not. -/
def State.found (s : State) (good : Bool) (img : Image) : (Bool × Option Image × Option Image × Bool) × Params :=
  if good && s.imageSigned img then ((false, some img, none, true), s.imageParams img.params)
  else ((false, none, some img, false), s.imageParams [])

theorem State.findActive_found {good : Bool} {img : Image} (active : s.sec.active = some img) (passed : s.sec.calFault = false) :
    ((s.findActive good).loadFound b).loadout = s.found good img := by
  rw [State.loadFound_loadout, State.findActive_some (img := img) (by rw [active]; rfl)]
  unfold State.found
  split
  · show ((s.sec.calFault, _), _) = _
    rw [passed]
    rfl
  · have params : (s.badActive img).params = s.params := State.record_params
    rw [State.badActive_sec]
    unfold State.imageParams
    rw [params]
    show ((s.sec.calFault, _), _) = _
    rw [passed]
    rfl

/-- What a start has found, field by field. -/
theorem State.loads_of_found {good : Bool} {img : Image} (loadout : t.loadout = s.found good img) :
    t.sec.calFault = false ∧ if good && s.imageSigned img then
        t.configLoaded = true ∧ t.sec.active = some img ∧ t.params = s.imageParams img.params
      else t.configLoaded = false ∧ t.sec.active = none ∧ t.sec.corrupt = some img ∧ t.params = s.imageParams [] := by
  unfold State.found State.loadout at loadout
  unfold State.configLoaded
  split at loadout
  next whole =>
    obtain ⟨⟨calFault, active, -, configOn⟩, params⟩ := by simpa only [Prod.mk.injEq] using loadout
    rw [if_pos whole]
    exact ⟨calFault, by rw [active, configOn]; rfl, active, params⟩
  next broken =>
    obtain ⟨⟨calFault, active, corrupt, -⟩, params⟩ := by simpa only [Prod.mk.injEq] using loadout
    rw [if_neg broken]
    exact ⟨calFault, by rw [active]; rfl, active, corrupt, params⟩

theorem State.Stocks.found (stocks : s.Stocks t) {good : Bool} {img : Image} : t.found good img = s.found good img := by
  unfold State.found
  rw [stocks.imageSigned, stocks.imageParams, stocks.imageParams]

theorem State.Calibrated.startBoth_found {img : Image} (cal : s.Calibrated b) (sound : s.Sound) (active : s.sec.active = some img) :
    (s.startBoth b).loadout = s.found b.activeGood img := by
  have passed := cal.checkCal_passes sound
  rw [State.startBoth_eq, if_neg (by simp [passed]),
    State.findActive_found (by rw [cal.checkCal_stocks.active]; exact active) passed, cal.checkCal_stocks.found]

/-- The mask of what a start does after the configuration. -/
def startedFields : Nat := 36633051136

theorem State.started_ends (bank : (x.startBank b .a).isSome = true) : Reach startedFields ((s.awake x b).startBoth b) (s.started x b) := by
  rw [State.started_eq bank]
  exact State.recordBothUp_reach (.of_or rfl) (State.readSeal_reach (.of_or rfl) (State.refreshConns_reach (.of_or rfl) (.refl _ _)))

theorem State.started_booted (bank : (x.startBank b .a).isSome = true) : (s.started x b).sec.booted = s.sec.booted := by
  rw [(State.started_ends bank).sec rfl, State.startBoth_booted, State.awake_stocks.booted]

theorem State.started_found {img : Image} (cal : s.Calibrated b) (sound : s.Sound) (active : s.sec.active = some img)
    (bank : (x.startBank b .a).isSome = true) : (s.started x b).loadout = s.found b.activeGood img := by
  have stocks : s.Stocks (s.awake x b) := State.awake_stocks
  have awake : (s.awake x b).Sound := (State.release_reach (h := .a) (.refl _) (.refl _ _)).sound (State.prepared_prepares.sound sound)
  rw [(State.started_ends bank).loadout rfl rfl, (cal.later stocks).startBoth_found awake (by rw [stocks.active]; exact active), stocks.found]

/-! ### BOOT (14 R464 to R467) -/

/-- The module as BOOT starts it. -/
def State.bootStart (s : State) (b : BootIn) : State := (s.banked b).gathered b

theorem State.bootStart_stocks : (s.booting b).Stocks (s.bootStart b) := State.booting_banked.trans State.gathered_stocks

theorem execBoot_started (heldA : s.hallA.inReset = true) (heldB : s.hallB.inReset = true) (charged : s.supply.prechargeFailed = false)
    (bank : (s.sec.startBank b .b).isSome = true) (ends : (s.banked b).sec.fwPending ≠ 2 ∨ b.configOk = true) :
    execBoot b s = .next ((s.bootStart b).started (s.booting b).sec b) := by
  rw [execBoot_starts heldA heldB charged bank, State.startModule_starts ends]
  rfl

theorem State.bootStart_booted : (s.bootStart b).sec.booted = false := State.bootStart_stocks.booted

theorem State.banked_powerUp (up : b.powerUp = true) : (s.banked b).sec.fwPending ≠ 2 := by
  have none' : (s.booting b).sec.fwPending = 0 := if_pos up
  have picked : s.banked b = (s.booting b).pickBanks b := if_neg (by rw [none']; decide)
  rw [picked]
  show (s.booting b).sec.fwPending ≠ 2
  rw [none']
  decide

theorem State.Sound.booting (sound : s.Sound) : (s.booting b).Sound :=
  (Reach.set_supply_sec (T := 17179869192) (.refl _) (.refl _ s)).sound sound

theorem State.Sound.banked (sound : s.Sound) : (s.banked b).Sound := by
  unfold State.banked
  split
  · exact (State.trialBanks_reach (.refl _) (.refl _ _)).sound sound.booting
  · exact (State.pickBanks_reach (.refl _) (.refl _ _)).sound sound.booting

theorem State.Sound.gathered (sound : s.Sound) : (s.gathered b).Sound := by
  have begun : ((s.release .b).startGallery b).Sound := State.startGallery_starts.sound sound
  unfold State.gathered
  dsimp only
  split
  · exact State.clearBoth_clears.sound ((State.powerUp_reach (.refl _) (.refl _ _)).sound begun)
  · exact begun

end

/-- Settles O40: a returning hall starts in SAFE_HOLD, and nothing that it loads or records changes its mode; a start leaves the ACTIVE
configuration, the calibration and the keys alone until it looks for them, and what it loads it keeps; start-up ends in the mode that the
self-tests, the configuration and the seal ask for, which the program, a trial and the record leave. -/
theorem hallsReturnAndRestart : Obligations.HallsReturnAndRestart := by
  unfold Obligations.HallsReturnAndRestart
  refine ⟨?returnA, ?returnB, ?staysA, ?staysB, ?restart, ?boot, ?loads, ?passes, ?fails, ?early, ?trial⟩
  case returnA =>
    intro s may
    obtain ⟨up, mode, causes⟩ := Hall.standing_eq (State.returnedA_standing (s := s))
    exact ⟨_, execHallAReturn_returns (State.MayLeaveReset.mayReturn (h := .a) may), congrArg not up, mode, causes⟩
  case returnB =>
    intro s may
    obtain ⟨up, mode, causes⟩ := Hall.standing_eq (State.returnedB_standing (s := s))
    exact ⟨_, execHallBReturn_returns (State.MayLeaveReset.mayReturn (h := .b) may), congrArg not up, mode, causes⟩
  case staysA =>
    intro s lacks
    refine execHallAReturn_stays (State.mayReturn_eq_false ?_)
    rcases lacks with early | unlocked | unrailed
    · exact .inl early
    · exact .inr (.inl unlocked)
    · exact .inr (.inr (.inr unrailed))
  case staysB => exact fun s lacks => execHallBReturn_stays (State.mayReturn_eq_false lacks)
  case restart =>
    intro s r asked due
    refine ⟨_, execRestartBegin_due asked due, ?_⟩
    cases whole : r.whole with
    | false => exact ⟨congrArg not (State.resetHall_fell (h := .a)).held, fun w => absurd w (by decide)⟩
    | true =>
      obtain ⟨heldA, heldB⟩ := State.restartWhole_held (s := s) (r := r)
      exact ⟨congrArg not heldA, fun _ => ⟨congrArg not heldB, rfl, rfl⟩⟩
  case boot =>
    intro s b heldA heldB charged bankA bankB ends
    have boots (h : HallId) : (((s.bootStart b).started (s.booting b).sec b).hall h).Boots := State.started_boots State.gathered_boots bankA
    refine ⟨_, execBoot_started heldA heldB charged bankB (ends.imp_left fun none' trial => none' (State.banked_trial trial)),
      congrArg not (boots .a).1, congrArg not (boots .b).1, ?_, (boots .a).2, (boots .b).2⟩
    rw [State.started_booted (x := (s.booting b).sec) bankA, State.bootStart_booted]
  case loads =>
    intro s b img sound heldA heldB charged bankA bankB up sector portion trims factory hallA active
    have cal : (s.booting b).Calibrated b := ⟨up, sector, portion, trims, factory, hallA⟩
    have stocks := State.bootStart_stocks (s := s) (b := b)
    have loadout := State.started_found (x := (s.booting b).sec) (cal.later stocks) sound.banked.gathered (stocks.active.trans active) bankA
    rw [stocks.found] at loadout
    exact ⟨_, execBoot_started heldA heldB charged bankB (.inl (State.banked_powerUp up)), State.loads_of_found loadout⟩
  case passes =>
    intro s fails fresh upA upB run passed inTime
    have both := State.endStartUp_in (s := s) (fails := [])
    refine ⟨s.endStartUp [], execBootComplete_passes fresh upA upB run passed inTime, State.endStartUp_booted,
      both.hallA.trans both.hallB.symm, both.hallA.trans State.bootMode_passed⟩
  case fails =>
    intro s fails fresh upA upB run failed inTime
    have both := State.endStartUp_in (s := s.noteTests (s.failedTests fails)) (fails := s.failedTests fails)
    rw [State.bootMode_failed failed] at both
    refine ⟨_, execBootComplete_ends fresh upA upB run inTime, both.hallA, both.hallB, ?_, ?_⟩
    · rw [State.endStartUp_causes failed]
      exact State.bootCauses_failed failed
    · rw [State.noteTests_failed failed]
      exact State.announces_record (u := s) (State.endStartUp_reach (.refl _) (.refl _ _)) rfl rfl
  case early => exact fun s fails run => execBootComplete_early run
  case trial =>
    intro s at' ends due trial
    obtain ⟨heldA, heldB⟩ := State.failTrial_held (s := s) (cause := 3)
    exact ⟨_, execFwTrialTimeout_due ends due trial, congrArg not heldA, congrArg not heldB, rfl, rfl⟩

end Sys2Proof.Machine
end
